-- ==== Sys2Proof/Word.lean ====
section
/-! DEFINITION. The machine word: control registers are 32 bits wide (R18, spec/01). -/

namespace Sys2Proof

/-- A 32-bit control-register word. -/
abbrev Word := BitVec 32

/-- A 64-bit queue, token or memory data word. -/
abbrev DWord := BitVec 64

end Sys2Proof
end

