-- ==== Sys2Proof/Syntax.lean ====
section
/-! DEFINITION. The commands: one constructor per row of spec/opcode_table.json, with what the row's happening brings
from outside the block (the master and the word of a register write, what a pin, a partner or the array shows). -/

namespace Sys2Proof

/-- Table DV-12: who issues a control-bus access. -/
inductive Master where
  | gatehouse | lodgeM | lodgeU | host | hokuoxRemote | fabric | debug
  deriving DecidableEq, Repr

/-- The identity code of Table DV-12 (R44). -/
def Master.code : Master → Nat
  | .gatehouse => 0 | .lodgeM => 1 | .lodgeU => 2 | .host => 3 | .hokuoxRemote => 4 | .fabric => 5 | .debug => 6

/-- How an AVSBus frame ended (Table PW-5): a good response with its data, a bad or missing one, or a write
acknowledged as not executed. -/
inductive AvsResult where
  | good (value : BitVec 16)
  | bad
  | notExecuted
  deriving DecidableEq, Repr


/-- What PORT_BIND binds: an array queue port or a register window. -/
inductive BindTarget where
  | port (p : Fin 64)
  | window (i : Fin 8)
  deriving DecidableEq, Repr

/-- A Bandstand unit that BS_UNIT_ENABLE names (R312): a converter, a cue, a route or a lane-boundary tagger. -/
inductive BsUnit where
  | converter (n : Fin 96)
  | cue (c : Fin 64)
  | route (d : Fin 176)
  | tagger (l : Fin 40)
  deriving DecidableEq, Repr

/-- How an I²C command ended (R609): the target took or gave what the command asked (the bytes read, the PEC byte read),
it did not acknowledge after `taken` data bytes, or arbitration was lost. -/
inductive I2cEnd where
  | served (data : List (BitVec 8)) (pec : BitVec 8)
  | nack (taken : BitVec 8)
  | arbLost
  deriving DecidableEq, Repr

/-- Whose read guard expires: a host window's, or a fabric window's (R474). -/
inductive GuardTarget where
  | window (k : Fin 16)
  | fabric (n : Fin 255)
  deriving DecidableEq, Repr

/-- Wake sources of Table PW-12 that have no row of their own: WAKE_N, the L1 exit, a Hokuox port. -/
inductive WakeSource where
  | wakeN
  | l1Exit
  | hokuox (n : Fin 8)
  deriving DecidableEq, Repr

/-- The host behaviours of Table PX-8 that no other command stands for (R495). -/
inductive HostViolation where
  | malformed | poisonedWrite | unsupported | vendorType0 | unknownMessage | unexpectedCompletion | badCompletion
  deriving DecidableEq, Repr

/-- What the ALIGN blocks of a port show (R500, R506). -/
inductive AlignResult where
  | deskewed | outOfPlace | wrongField
  deriving DecidableEq, Repr

/-- What a Hokuox port receives between control blocks it knows (R504, Table HX-14). -/
inductive LineItem where
  | packet (lseq : BitVec 12) (header : BitVec 64) (payload : List (BitVec 64)) (trailer : BitVec 64)
  | reservedBlock
  | strayData
  | earlySop
  deriving DecidableEq, Repr

/-- What PERIPHERAL_ENABLE writes: the configuration of a host peripheral, or LG_GPOE (R604). -/
inductive Periph where
  | host (i : Fin 6)
  | gpio
  deriving DecidableEq, Repr

/-- What the SFDP tables of the configuration flash show (R670, Table GH-13): all ones or zeros, no signature, or a
size in bytes with whether an 8D-8D-8D read shows its DQS edges. -/
inductive SfdpResult where
  | blank
  | noSignature
  | found (size : BitVec 32) (dqs : Bool)
  deriving DecidableEq, Repr

/-- How the host ends an SMBus read: after the last data byte, with the PEC byte or without it; past the data by some
bytes; or in the middle (R758, Table BV-7). -/
inductive SmbRead where
  | whole (pec : Bool)
  | past (extra : BitVec 8)
  | cut
  deriving DecidableEq, Repr

/-- An access to an SMBus command that is read and written: a write with its data and the PEC byte that came with it. -/
inductive SmbAccess (w : Nat) where
  | read (r : SmbRead)
  | write (data : BitVec w) (pec : Option (BitVec 8))
  deriving DecidableEq, Repr

/-- What the check bits of a Lodge memory word show when it is read (R599). (DESIGN CHOICE, log entry 17.) -/
inductive CheckSeen where
  | clean | corrected | uncorrectable
  deriving DecidableEq, Repr


/-- A memory request to BAR0 (R467): a write of a word and more, or a read of `more` + 1 words with its tag. -/
inductive Bar0Words where
  | write (word : Word) (more : List Word)
  | read (more : Fin 1024) (tag : BitVec 10)
  deriving DecidableEq, Repr

/-- One constructor per row of the table, in the table's order. -/
inductive Instr where
  /-- REGISTER_WRITE (R18): A control-bus write to a register that has no row of its own stores the value under the access code of its field, or is refused, ignored or logged. -/
  | registerWrite (m : Master) (off : BitVec 20) (w : Word)
  /-- PAIR_LO_READ (R19): A read of the _LO half of a 64-bit pair returns the low half and loads the reading identity's read latch with the high half. -/
  | pairLoRead (m : Master) (off : BitVec 20)
  /-- PAIR_LO_WRITE (R19): A write of the _LO half of a writable pair loads the writing identity's write hold and does not take effect. -/
  | pairLoWrite (m : Master) (off : BitVec 20) (w : Word)
  /-- PAIR_HI_WRITE (R19): A write of the _HI half makes both halves of a pair take effect together and empties the writer's hold. -/
  | pairHiWrite (m : Master) (off : BitVec 20) (w : Word)
  /-- FABRIC_WINDOW_ACCESS (R41): An access to fabric window n is sent to the remote device, or is answered at once under the read guard and logged with HX_NO_ROUTE when no route exists. -/
  | fabricWindowAccess (m : Master) (n : BitVec 8) (off : BitVec 20) (w : Option Word)
  /-- COLD_RESET_SOURCE (R814): VAUX or VCORE crosses its power-on threshold for longer than the 5 µs filter, and the device enters or stays in cold reset. -/
  | coldResetSource (vaux : Bool)
  /-- DEV_RESET_N (R48): A low level on DEV_RESET_N passes the 100 ns glitch filter and starts or extends a warm reset. -/
  | devResetN (low : Bool)
  /-- RESET_END (R667): A cold or warm reset ends, the power-on selection picks LOAD or RESCUE, and the power-up sequence starts. -/
  | resetEnd (pins : BitVec 3)
  /-- ENDPOINT_RESET (R494): PERST_N, a Hot Reset or a link down with PERST_SCOPE 0 resets the endpoint, disables every DMA channel and applies the pending identity. -/
  | endpointReset (perst : Bool)
  /-- RDHOLD_WRITE (R55): A write to PW_RDHOLD asserts the reset of the domains it sets and starts the ordered release of the domains it clears. -/
  | rdholdWrite (m : Master) (w : Word)
  /-- DOMAIN_RELEASE_SLOT (R55): The T2 interval after the previous domain ends, and the next domain whose HOLD bit is still clear leaves reset. -/
  | domainReleaseSlot
  /-- PACE_WINDOW_END (R69): A window of 4,096 CTL_CLK periods ends, and every pace meter computes its index. -/
  | paceWindowEnd (counts : List Nat)
  /-- GOVERNOR_PERIOD (R74): A governor period ends, and the governor raises, lowers or holds VCORE against target and upper. -/
  | governorPeriod
  /-- PACE_SHORT (R80): The pace has stayed short at VMAX for SHORT_T, so SHORT is set and PW_PACE_SHORT is logged. -/
  | paceShort
  /-- AVS_SETTLE_END (R75): SETTLE after a commit has passed, and the governor issues the voltage read. -/
  | avsSettleEnd
  /-- AVS_FRAME_DONE (R89): An AVSBus frame completes or fails; it is retried, or the governor enters FROZEN, or a mismatch or alert is handled. -/
  | avsFrameDone (r : AvsResult)
  /-- AVS_STATUS_POLL (R88): The 10 ms poll timer expires, and a status read, and current and temperature reads where enabled, are issued. -/
  | avsStatusPoll
  /-- GOV_EN (R84): A write that sets GOV_EN runs the checks of Table PW-2 and starts the governor, and a write that clears it stops the governor and copies VNOW into VSET. -/
  | govEn (m : Master) (w : Word)
  /-- VSET_WRITE (R87): A write to PW_VSET while GOV_EN is 0 commits the written voltage. -/
  | vsetWrite (m : Master) (w : Word)
  /-- AVS_FAULT_CLEAR (R91): A W1C of AVS_FAULT leaves FROZEN and retries with a voltage read. -/
  | avsFaultClear (m : Master) (w : Word)
  /-- FENCE (R117): A FENCE command makes a LIVE plot FENCING and closes its gates to new inbound handshakes. -/
  | fence (m : Master) (p : Fin 64) (w : Word)
  /-- PLOT_QUIET (R118): The fourth consecutive quiet sample makes a FENCING plot FENCED. -/
  | plotQuiet (p : Fin 64)
  /-- DRAIN_TIMEOUT (R119): DRAIN_T expires before the plot is quiet; the fence is refused, or it is forced with FORCE 1. -/
  | drainTimeout (p : Fin 64) (discarded : BitVec 16)
  /-- RELEASE (R121): A RELEASE command runs the checks and reopens the gates of a FENCED plot, which becomes LIVE. -/
  | release (m : Master) (p : Fin 64) (w : Word)
  /-- GATE_INBOUND_REQUEST (R120): An inbound request reaches a gate of a plot that is not LIVE and is held or sunk as SINK states. -/
  | gateInboundRequest (p : Fin 64) (started : Bool)
  /-- HEDGE_PROTOCOL_VIOLATION (R125): A hedge gate sees an illegal transition, holds the violating side, counts it and logs it. -/
  | hedgeProtocolViolation (p : Fin 64) (wire : BitVec 6) (avenue inbound : Bool) (side : BitVec 2)
  /-- DR_ILLEGAL_CODE (R126): A dual-rail pair shows the illegal code at a gate, which stalls the channel and logs the event. -/
  | drIllegalCode (p : Fin 64) (wire : BitVec 6) (avenue inbound : Bool) (side : BitVec 2)
  /-- STALL_DETECTED (R127): No handshake has completed at a gate for STALL_T while the plot is not quiet, and FB_STALL is logged. -/
  | stallDetected (p : Fin 64)
  /-- EVENT_LINE_TOKEN (R109): A token arrives on an event line and is added to the pending count, or is lost as an overrun. -/
  | eventLineToken (l : Fin 64)
  /-- EVENT_LINE_DELIVER (R109): Every LIVE tap has acknowledged the current token, and the next pending token is delivered. -/
  | eventLineDeliver (l : Fin 64)
  /-- FCM_ACCESS (R113): Array logic raises REQ at the fabric control master, which makes one FABRIC access and answers with status. -/
  | fcmAccess (addr : Word) (w : Option Word)
  /-- MEM_PORT_READ (R140): A read request at a memory port reads one physical word through the word-collision mutex, with ECC decode and write-back. -/
  | memPortRead (m : Fin 2048) (port : Fin 2) (addr : BitVec 19)
  /-- MEM_PORT_WRITE (R151): A write request at a memory port writes the enabled bytes, as a read-modify-write where ECC requires. -/
  | memPortWrite (m : Fin 2048) (port : Fin 2) (addr : BitVec 19) (be : BitVec 8) (data : BitVec 72)
  /-- MAC_OPERATION (R161): A token at a MAC port computes pre-add, product and accumulate, and then limits and rounds the result. -/
  | macOperation (n : Fin 3072) (op : BitVec 5) (a b d : BitVec 27)
  /-- MEM_INDIRECT_READ (R156): A write to FB_MEMACC with WRITE 0 reads one physical word into FB_MDATA and FB_MCHK, or is refused. -/
  | memIndirectRead (m : Master) (w : Word)
  /-- MEM_INDIRECT_WRITE (R156): A write to FB_MEMACC with WRITE 1 writes one physical word from FB_MDATA, raw or with computed check bits. -/
  | memIndirectWrite (m : Master) (w : Word)
  /-- MEM_SCRUB_ACCESS (R749): The Belvedere makes one atomic read, correct and write-back of a block memory word, at an idle handshake or as a forced access. -/
  | memScrubAccess (m : Fin 2048)
  /-- PUSH (R180): A producer PUSH writes one word at W, parks, or returns FULL or BUSY. -/
  | push (p : Fin 64) (lane : BitVec 3) (block : Bool) (data : BitVec 64)
  /-- OPEN (R190): OPEN writes a flagged header slot and opens a packet owned by the producer. -/
  | qmOpen (p : Fin 64) (lane : BitVec 3) (block : Bool)
  /-- CLOSE (R191): CLOSE writes the length word, corrects a bad count, and makes the packet readable. -/
  | close (p : Fin 64) (lane : BitVec 3) (data : BitVec 64)
  /-- ABORT (R192): ABORT writes a length word with ABORTED set and closes the packet. -/
  | qmAbort (p : Fin 64) (lane : BitVec 3)
  /-- POP (R197): A consumer POP returns the word at RD of the chosen lane, or parks, or returns EMPTY. -/
  | pop (p : Fin 64) (lane : BitVec 3) (any block : Bool)
  /-- PEEK (R199): PEEK returns the word at RD without popping. -/
  | peek (p : Fin 64) (lane : BitVec 3) (any block : Bool)
  /-- MARK (R201): MARK stores the lane's RD as a valid mark. -/
  | mark (p : Fin 64) (lane : BitVec 3) (any : Bool)
  /-- REWIND (R201): REWIND sets RD back to the mark. -/
  | rewind (p : Fin 64) (lane : BitVec 3) (any : Bool)
  /-- QM_RELEASE (R202): A queue RELEASE advances REL over read words and frees their slots. -/
  | qmRelease (p : Fin 64) (lane : BitVec 3) (any : Bool) (count : BitVec 21)
  /-- OCC (R185): OCC returns the readable count and the occupancy of the lane. -/
  | occ (p : Fin 64) (lane : BitVec 3) (any : Bool)
  /-- PARKED_OP_REGRANT (R204): A change to the lane lets a parked operation complete, and the arbiter grants it again. -/
  | parkedOpRegrant (q : Fin 256)
  /-- QUEUE_ENABLE (R209): Setting QM_QCFG.EN runs the queue checks and zeroes the pointers of its lanes, and clearing it is refused or discards the contents. -/
  | queueEnable (m : Master) (q : Fin 256) (w : Word)
  /-- PORT_BIND (R182): Setting the enable of a queue port or register window binds it as producer or consumer after the binding checks. -/
  | portBind (m : Master) (t : BindTarget) (w : Word)
  /-- WINDOW_PUSH (R214): A write of QM_RWPUSH_HI pushes one 64-bit word through a register window. -/
  | windowPush (m : Master) (i : Fin 8) (w : Word)
  /-- WINDOW_POP (R214): An ordinary read of QM_RWPOP_LO pops one word through a register window and latches its high half. -/
  | windowPop (m : Master) (i : Fin 8)
  /-- JRES (R211): A write of QM_CTL.JRES reserves the journal area, or is refused while a lane occupies it. -/
  | jres (m : Master) (w : Word)
  /-- STORE_SCRUB_ACCESS (R750): The Belvedere scrubs one queue-store word through the lane arbiter. -/
  | storeScrubAccess
  /-- REF_LOSS (R219): A LOS window passes without an edge, and the reference input becomes LOST. -/
  | refLoss (c : Fin 13)
  /-- REF_RESTORED (R219): Edges have been seen in every LOS window for 1 ms, and the input becomes PRESENT. -/
  | refRestored (c : Fin 13)
  /-- CTL_SEL (R221): A write of CK_CTL.CTL_SEL moves CTL_CLK to SYN1 at a low phase, or is refused. -/
  | ctlSel (m : Master) (w : Word)
  /-- SYN_GO (R227): GO samples the divider values, runs the synthesiser checks and starts a frequency change under the output-stage policy. -/
  | synGo (m : Master) (k : Fin 6) (w : Word)
  /-- SYN_EN (R228): Setting or clearing CK_SYNCTL.EN starts the synthesiser or stops its output after the checks. -/
  | synEn (m : Master) (k : Fin 6) (w : Word)
  /-- SYN_LOCKED (R229): Lock is declared after 1,024 f_pfd periods below threshold, and the output moves to the new frequency. -/
  | synLocked (k : Fin 6)
  /-- SYN_LOCK_TIMEOUT (R229): LOCK_T expires without lock, and the synthesiser enters FAULT. -/
  | synLockTimeout (k : Fin 6)
  /-- SYN_LOCK_LOST (R231): A LOCKED synthesiser loses lock and enters HOLDOVER. -/
  | synLockLost (k : Fin 6)
  /-- SLEW_STEP (R234): Each µs of a HOLD slew advances the output frequency, until it reaches f_new and the change ends. -/
  | slewStep (j : Fin 16)
  /-- FREQ_METER_GO (R241): GO in CK_FMCTL starts counting edges of the selected source over the gate. -/
  | freqMeterGo (m : Master) (w : Word)
  /-- FREQ_METER_DONE (R241): The gate ends, and the count and DONE appear. -/
  | freqMeterDone (count : BitVec 40)
  /-- XP_ENABLE (R266): Setting XP_CFG.EN runs the port checks and starts resynchronisation, and clearing it discards the contents. -/
  | xpEnable (m : Master) (x : Fin 256) (w : Word)
  /-- XP_ARRAY_OFFER (R248): The array side offers an entry, event or request at a port site, which is stored or withheld. -/
  | xpArrayOffer (x : Fin 256) (data : BitVec 64) (side : BitVec 8)
  /-- XP_ARRAY_ACK (R248): The array acknowledges an entry, event or answer offered to it by the port. -/
  | xpArrayAck (x : Fin 256) (data : BitVec 64) (stat : BitVec 4)
  /-- XP_ISLAND_PUT (R258): The island puts an entry or event on a rising edge, and it is stored or counted as an overrun. -/
  | xpIslandPut (x : Fin 256) (data : BitVec 64) (side : BitVec 8)
  /-- XP_ISLAND_TAKE (R248): The island takes an entry, or it counts a starve when it must take one and finds none. -/
  | xpIslandTake (x : Fin 256)
  /-- XP_ISLAND_ANSWER (R252): The island gives DONE to answer a ROUNDTRIP request. -/
  | xpIslandAnswer (x : Fin 256) (data : BitVec 64) (stat : BitVec 4)
  /-- PACED_PAIR_MOVE (R254): At a clock edge the pacing island moves one token from the DIR 0 port to the DIR 1 port. -/
  | pacedPairMove (a : Fin 128)
  /-- XP_TIMEOUT (R260): The stopped-clock count reaches TIMEOUT, and the port discards its contents and enters FAULT. -/
  | xpTimeout (x : Fin 256)
  /-- XP_PORT_RESET (R262): A write of XP_STAT.RST resets both sides of the port and starts resynchronisation. -/
  | xpPortReset (m : Master) (x : Fin 256)
  /-- XP_RESYNC (R264): The resynchronisation toggle returns to the clocked side, and the port reaches RUN. -/
  | xpResync (x : Fin 256)
  /-- TB_EN (R278): A write to BS_TBCTL starts or stops SYN0, or changes its reference, after the checks of Table BS-1. -/
  | tbEn (m : Master) (w : Word)
  /-- EPOCH_ARM (R286): A write of BS_EPCTL.ARM arms an epoch load, or is refused. -/
  | epochArm (m : Master) (w : Word)
  /-- EPOCH_LOAD (R285): An armed epoch load takes effect at its tick, and EPOCH, EPOCH_GEN and the log are updated. -/
  | epochLoad (since : BitVec 32)
  /-- ADJ_STEP (R287): GO with MODE 1 adds the offset to the count at the next tick. -/
  | adjStep (m : Master) (w : Word)
  /-- ADJ_SLEW (R287): GO with MODE 0 starts a slew that absorbs the offset over many ticks. -/
  | adjSlew (m : Master) (w : Word)
  /-- SLEW_DONE (R287): The slew offset has been absorbed, and BUSY clears. -/
  | slewDone
  /-- TNOW_READ (R277): A read of BS_TNOW0 latches the count at the next tick for the reading master. -/
  | tnowRead (m : Master)
  /-- TAG_EDGE (R294): A selected edge reaches a converter and makes a tag record, or is missed, gated or lost. -/
  | tagEdge (n : Fin 96) (rising : Bool) (ago : BitVec 24)
  /-- TTDAT0_READ (R297): A read of BS_TTDAT0 removes the oldest record and latches its other words. -/
  | ttdat0Read (m : Master) (n : Fin 96)
  /-- TT_CALIBRATION_START (R755): A converter's calibration interval comes due, and a code-density run starts. -/
  | ttCalibrationStart (n : Fin 96)
  /-- TT_CALIBRATION_END (R755): A calibration run completes, and STALE clears. -/
  | ttCalibrationEnd (n : Fin 96)
  /-- TT_STALE (R300): A converter's calibration becomes more than 10 s overdue, and STALE is set and logged. -/
  | ttStale (n : Fin 96)
  /-- CUE_COMMAND_PUSH (R302): A write of BS_CUCMD2 pushes a cue command, or drops it. -/
  | cueCommandPush (m : Master) (c : Fin 64) (w : Word)
  /-- CUE_FIRE (R304): The time of the head command arrives, and the cue places its edge or pulse. -/
  | cueFire (c : Fin 64)
  /-- CUE_LATE (R303): A command that becomes head too close to its time is fired at once or skipped. -/
  | cueLate (c : Fin 64)
  /-- PULSE_END (R302): PWIDTH ticks after a PULSE rise, the cue output falls. -/
  | pulseEnd (c : Fin 64)
  /-- BS_UNIT_ENABLE (R312): Setting EN of a converter, cue, route or tagger runs the unit checks and claims, and clearing it releases the unit. -/
  | bsUnitEnable (m : Master) (u : BsUnit) (w : Word)
  /-- SOFT_TRIGGER (R311): A write of 1 to BS_SOFT makes a one-tick soft-trigger pulse. -/
  | softTrigger (m : Master) (w : Word)
  /-- ROUTER_SOURCE_EDGE (R307): A router source changes, and its destinations follow after shaping. -/
  | routerSourceEdge (c : BitVec 8) (high : Bool)
  /-- STRETCH_END (R307): WIDTH ticks of a STRETCH shape expire, and the destination falls. -/
  | stretchEnd (d : Fin 176)
  /-- LBT_ARM (R316): A write of BS_LBTCTL.ARM arms the lane-boundary tagger. -/
  | lbtArm (m : Master) (l : Fin 40)
  /-- LBT_CAPTURE (R316): The next parallel word starts at the balls, and its time and word count are captured. -/
  | lbtCapture (l : Fin 40) (ago : BitVec 24) (word : BitVec 32)
  /-- LFXO_EDGE_DORMANT (R351): An LFXO edge in DORMANT advances the time count and steps every LFRUN timer by 9,765 or 9,766 ticks. -/
  | lfxoEdgeDormant
  /-- TIMER_CLAIM (R325): A write of CLAIM to BT_OWN claims a free timer or assigns its owner. -/
  | timerClaim (m : Master) (t : Fin 16) (assign : BitVec 3)
  /-- TIMER_RELEASE (R327): A write of RELEASE to BT_OWN frees a timer, or is refused while it is enabled. -/
  | timerRelease (m : Master) (t : Fin 16)
  /-- TIMER_ENABLE (R348): Setting BT_CTL.EN runs the timer checks, and clearing it stops the count and drives the output to 0. -/
  | timerEnable (m : Master) (t : Fin 16) (w : Word)
  /-- TIMER_RUN (R332): A write of RUN in BT_CTL sets or clears RUN at the next tick. -/
  | timerRun (m : Master) (t : Fin 16) (on : Bool)
  /-- BT_GO (R333): A write to BT_GO starts and stops the named timers at one tick. -/
  | btGo (m : Master) (start stop : BitVec 16)
  /-- COUNT_LOAD (R335): A write to BT_CNT loads the count at the next tick and clears the prescaler. -/
  | countLoad (m : Master) (t : Fin 16) (w : Word)
  /-- SNAPSHOT (R336): A write of BT_SNAPCMD latches the counts of the named timers at one tick. -/
  | snapshot (m : Master) (mask : BitVec 16)
  /-- TIMER_OVERFLOW (R330): A count input finds the count at TOP, so it wraps to 0, sets OVF and transfers preload values. -/
  | timerOverflow (t : Fin 16)
  /-- COMPARE_MATCH (R340): The count takes the value CMPk, so CMFk is set and OCk changes by MODE. -/
  | compareMatch (t : Fin 16) (k : Fin 4)
  /-- TRIGGER_EDGE (R338): A rising edge at the timer trigger input resets, starts or counts as the slave mode states. -/
  | triggerEdge (t : Fin 16)
  /-- CAPTURE (R345): An accepted capture edge stores the count and the fine time, and flags an overcapture where one occurs. -/
  | capture (t : Fin 16) (j : Fin 2)
  /-- CAP_LO_READ (R346): An ordinary read of BT_CAP_LO clears CAPF and latches the other capture words. -/
  | capLoRead (m : Master) (t : Fin 16) (j : Fin 2)
  /-- CONTEXT_ENABLE (R361): Setting OG_CCFG.EN runs the context checks and binds its queues, and clearing it aborts its job and releases them. -/
  | contextEnable (m : Master) (c : Fin 64) (w : Word)
  /-- JOB_FETCH (R365): An idle context pops a descriptor packet from its job queue and checks the job. -/
  | jobFetch (c : Fin 64)
  /-- SLICE_END (R381): A slice of W × QUANTUM ends, and the scheduler preempts the job or starts a fresh slice. -/
  | sliceEnd
  /-- PREEMPTION_POINT (R382): A running job reaches a preemption point while a preemption is due, and its state is saved. -/
  | preemptionPoint
  /-- CONTEXT_INPUT_READY (R376): Data arrives in DQ for a context in WAIT_IN, which becomes ready. -/
  | contextInputReady (c : Fin 64)
  /-- CONTEXT_OUTPUT_READY (R378): The result lane has room again for a context in WAIT_OUT. -/
  | contextOutputReady (c : Fin 64)
  /-- JOB_END (R377): A job finishes, closes its result packet, and is counted and reported. -/
  | jobEnd
  /-- JOB_ABORT (R386): A write of ABORT to OG_CCTL ends the context's job with OG_ABORTED. -/
  | jobAbort (m : Master) (c : Fin 64)
  /-- CONTEXT_RESUME (R385): A write of RESUME to OG_CCTL returns a HALTED context to IDLE. -/
  | contextResume (m : Master) (c : Fin 64)
  /-- WS_INDIRECT_READ (R364): An ordinary read of OG_WSDATA_LO reads one workspace word, or is refused while a busy context owns it. -/
  | wsIndirectRead (m : Master)
  /-- WS_INDIRECT_WRITE (R364): A write of OG_WSDATA_HI writes one workspace word, or is refused. -/
  | wsIndirectWrite (m : Master) (w : Word)
  /-- BANK_ENABLE (R397): Setting IO_BCFG.EN declares the bank voltage after the checks, and clearing it is refused while a pin of the bank is enabled. -/
  | bankEnable (m : Master) (b : Fin 12) (w : Word)
  /-- VIO_LOST (R398): A bank's VIO leaves ±10 % of VSEL, and IO_VIO_LOST is logged. -/
  | vioLost (b : Fin 12) (vdet : BitVec 3)
  /-- PIN_ENABLE (R399): Setting IO_PCFG.EN runs the pin checks, and clearing it is refused while a claim stands. -/
  | pinEnable (m : Master) (p : Fin 576) (w : Word)
  /-- RENEW (R410): A write of RENEW to IO_PCLM renews a lost array claim. -/
  | renew (m : Master) (p : Fin 585)
  /-- SER_GROUP_ENABLE (R415): Setting IO_SERCFG.EN runs the group checks and makes the transmit claims. -/
  | serGroupEnable (m : Master) (g : Fin 12) (w : Word)
  /-- BITSLIP (R417): A write of BITSLIP moves the receive word boundary one bit later. -/
  | bitslip (m : Master) (g : Fin 12)
  /-- QPLL_GO (R430): GO or an EN change of a quad PLL runs the checks and starts or changes the PLL. -/
  | qpllGo (m : Master) (q : Fin 10) (w : Word)
  /-- QPLL_LOCKED (R431): A quad PLL declares lock. -/
  | qpllLocked (q : Fin 10)
  /-- SL_QPLL_LOCK_TIMEOUT (R431): A quad PLL fails to lock within LOCK_T. -/
  | slQpllLockTimeout (q : Fin 10)
  /-- SL_QPLL_LOST (R431): A quad PLL loses lock and enters holdover. -/
  | slQpllLost (q : Fin 10)
  /-- LANE_ENABLE (R438): Setting SL_LCFG.EN runs the lane checks and brings both PCS sides out of reset, and clearing it stops the lane. -/
  | laneEnable (m : Master) (l : Fin 40) (w : Word)
  /-- CDR_LOCK_CHANGE (R439): Clock recovery locks or is lost; a loss counts SL_CDR_LOST. -/
  | cdrLockChange (l : Fin 40) (locked sigdet : Bool)
  /-- ALIGN_CHANGE (R439): The receive PCS gains or loses word alignment; a loss counts SL_ALIGN_LOST. -/
  | alignChange (l : Fin 40) (aligned : Bool)
  /-- LANE_RST (R442): A write of SL_LCTL.RST resets both PCS sides for 16 periods and resets the attached ports. -/
  | laneRst (m : Master) (l : Fin 40)
  /-- LANE_MARK (R451): A write of SL_LCTL.MARK arms the marking of the entry that holds receive word SL_LMARK. -/
  | laneMark (m : Master) (l : Fin 40)
  /-- LANE_TEST_WRITE (R452): A write to SL_LTEST sets loopback and PRBS, or is refused. -/
  | laneTestWrite (m : Master) (l : Fin 40) (w : Word)
  /-- INJ (R453): A write of INJ inverts one transmitted bit. -/
  | inj (m : Master) (l : Fin 40)
  /-- EYE_SCAN_GO (R455): GO in SL_LEYE starts an eye scan. -/
  | eyeScanGo (m : Master) (l : Fin 40) (w : Word)
  /-- EYE_SCAN_DONE (R455): The eye scan dwell ends or CDR is lost, and the result and DONE appear. -/
  | eyeScanDone (l : Fin 40) (count : BitVec 32)
  /-- CONFIG_REQUEST (R51): The host sends a configuration request, which is answered from configuration space. -/
  | configRequest (write : Bool) (d : BitVec 10) (be : BitVec 4) (w : Word) (tag : BitVec 10)
  /-- BAR0_REQUEST (R467): A memory request to BAR0 is served DWORD by DWORD as control-bus accesses with the HOST identity. -/
  | bar0Request (r : Bar0Words) (addr : BitVec 26) (first last : BitVec 4)
  /-- BAR2_WRITE (R470): A memory write to BAR2 enters the window's posted buffer and becomes ADDR_WR and WRITE exchanges. -/
  | bar2Write (k : Fin 16) (off : BitVec 32) (fbe lbe : BitVec 8) (word : BitVec 64) (more : List (BitVec 64))
  /-- BAR2_READ (R470): A memory read to BAR2 becomes ADDR_RD and READ exchanges, or is answered by the guard policy. -/
  | bar2Read (k : Fin 16) (off : BitVec 32) (fbe lbe : BitVec 8) (more : Fin 513) (tag : BitVec 10)
  /-- TAIL_DOORBELL (R478): A write to a channel's tail doorbell sets TAIL, or halts the channel on ring overrun. -/
  | tailDoorbell (c : Fin 64) (v : Word)
  /-- PUSH_DOORBELL (R486): An 8-byte write to a push doorbell pushes one word into the channel's lane. -/
  | pushDoorbell (c : Fin 32) (full : Bool) (v : BitVec 64)
  /-- READ_GUARD_EXPIRY (R474): A forwarded non-posted request reaches the guard time and is answered by the guard policy. -/
  | readGuardExpiry (t : GuardTarget)
  /-- WRITE_GUARD_EXPIRY (R472): A posted BAR2 write has not entered its buffer within the guard time and is dropped. -/
  | writeGuardExpiry (k : Fin 16)
  /-- CHANNEL_ENABLE (R487): Setting PX_CHCFG.EN runs the channel checks and binds the queue, and clearing it stops the channel. -/
  | channelEnable (m : Master) (c : Fin 64) (w : Word)
  /-- DMA_TURN (R485): The DMA engine gives a ready channel a turn of up to WEIGHT × 512 bytes. -/
  | dmaTurn
  /-- DMA_COMPLETION (R488): A completion for a channel's read arrives with data or an error. -/
  | dmaCompletion (c : Fin 64) (good : Bool) (data : List (BitVec 8))
  /-- DESCRIPTOR_COMPLETE (R484): A descriptor's data has all moved, so its STATUS is written, a message is sent and HEAD advances. -/
  | descriptorComplete (c : Fin 64)
  /-- PX_CPL_TIMEOUT (R488): A channel's read gets no completion within the timeout, and the channel halts. -/
  | pxCplTimeout (c : Fin 64)
  /-- FLUSH_TIMEOUT (R483): FLUSH_T passes with a partly filled PKT 0 buffer, which then completes. -/
  | flushTimeout (c : Fin 64)
  /-- DSTATE_CHANGE (R491): The host moves the function between D0 and D3hot, which pauses or resumes the channels. -/
  | dstateChange (d3 : Bool)
  /-- ASPM_L1_CHANGE (R492): The link enters or leaves L1 or L1.1. -/
  | aspmL1Change (enter : Bool)
  /-- LINK_UP (R51): The endpoint link completes training. -/
  | linkUp (speed : Fin 4) (width : BitVec 4)
  /-- LINK_DOWN (R47): The endpoint link goes down. -/
  | linkDown
  /-- HOST_VIOLATION_TLP (R495): The host sends a malformed, poisoned, unsupported or unexpected TLP, and the endpoint answers it. -/
  | hostViolationTlp (v : HostViolation)
  /-- HX_PORT_ENABLE (R501): Setting HX_PCFG.EN runs the port checks and starts training, and clearing it ends the link life. -/
  | hxPortEnable (m : Master) (n : Fin 8) (w : Word)
  /-- BLOCK_LOCK (R506): Every lane of the port holds block lock, and the port moves to ALIGNING. -/
  | blockLock (n : Fin 8)
  /-- BLOCK_LOCK_LOST (R506): A lane loses block lock, and the port returns to TRAINING. -/
  | blockLockLost (n : Fin 8)
  /-- ALIGN (R500): ALIGN blocks are received, and the lanes are deskewed. -/
  | hxAlign (n : Fin 8) (r : AlignResult)
  /-- INIT (R507): An INIT block is received and counted toward agreement, and the port enters UP. -/
  | hxInit (n : Fin 8) (w : BitVec 64)
  /-- WAKE_T_EXPIRY (R508): The port has not returned to UP within WAKE_T, so the life ends. -/
  | wakeTExpiry (n : Fin 8)
  /-- RETRAIN (R508): A write of RETRAIN ends the link life. -/
  | retrain (m : Master) (n : Fin 8)
  /-- ECHO (R548): A write of ECHO sends a LINK ECHO that the neighbour returns, and the round trip is recorded. -/
  | echo (m : Master) (n : Fin 8)
  /-- PACKET_RECEIVE (R510): A packet arrives, is checked on LSEQ and trailer, and is accepted, forwarded or discarded. -/
  | packetReceive (n : Fin 8) (x : LineItem)
  /-- PACKET_SEND (R513): Between packets, the port sends the eligible packet of highest priority that its credits cover. -/
  | packetSend (n : Fin 8) (timeSpent : Bool) (aged : BitVec 7)
  /-- ACK (R511): An ACK or NAK block frees the packets it names, and a NAK starts a replay. -/
  | ack (n : Fin 8) (seq : BitVec 12) (nak : Bool)
  /-- ACK_TIMER (R510): 1 µs after the first unacknowledged acceptance, an ACK is sent. -/
  | ackTimer (n : Fin 8)
  /-- REPLAY_TIMEOUT (R511): REPLAY_T passes without an advancing ACK, so the held packets are replayed. -/
  | replayTimeout (n : Fin 8)
  /-- CREDIT (R512): A CREDIT block returns buffer space to the sender. -/
  | credit (n : Fin 8) (k : BitVec 4) (words : BitVec 16)
  /-- SLEEP (R544): A SLEEP block is received, and the port enters SLEEPING. -/
  | sleep (n : Fin 8)
  /-- ADVERT_TIMER (R518): The 100 µs timer expires, and a DISC ADVERT is sent on each UP port. -/
  | advertTimer
  /-- ADVERT (R519): A DISC ADVERT is received, and the root, parent and distance are recomputed. -/
  | advert (n : Fin 9)
  /-- ELECT_T_EXPIRY (R519): The device's own key has stayed lowest for ELECT_T, so it declares itself root with address 1. -/
  | electTExpiry
  /-- JOIN_TIMER (R520): The 1 ms timer expires, and an unassigned device sends JOIN up the parent chain. -/
  | joinTimer
  /-- JOIN (R521): A JOIN is received; it is forwarded with PATH extended, or the root grants an address. -/
  | join (n : Fin 9)
  /-- ASSIGN (R522): An ASSIGN is received, and it is passed down the path or its address is taken. -/
  | assign (n : Fin 9)
  /-- ROUTE_TIMER (R524): The 1 ms timer expires, and ROUTE packets are sent on each UP port. -/
  | routeTimer
  /-- ROUTE (R525): A ROUTE packet is received, and the route distances and alternates are updated. -/
  | route (n : Fin 9)
  /-- OUTBOUND_TOKEN (R528): Array logic offers a token at an outbound channel port, and it is taken or given a status. -/
  | outboundToken (j : Fin 32) (e : Fin 4096) (block : Bool) (data : BitVec 64)
  /-- INBOUND_TOKEN_ACK (R529): The array acknowledges an inbound token, which frees it and makes its credit due. -/
  | inboundTokenAck (j : Fin 32)
  /-- TOKENS (R530): A TOKENS channel packet is received and checked against SEQ and credits. -/
  | tokens (n : Fin 9)
  /-- CHANNEL_CREDIT (R531): A channel CREDIT packet gives the send endpoint more credits. -/
  | channelCredit (n : Fin 9)
  /-- CHANNEL_OPEN (R531): A channel OPEN packet is received, and the endpoint becomes OPEN. -/
  | channelOpen (n : Fin 9)
  /-- OPEN_TIMER (R531): The 100 µs timer expires, and an OPENING receive endpoint sends OPEN again. -/
  | openTimer (e : Fin 4096)
  /-- CREDIT_RETURN_TIMER (R531): 1 µs after a credit becomes due, the receive endpoint returns credits. -/
  | creditReturnTimer (e : Fin 4096)
  /-- PROBE_TIMER (R534): A send endpoint has had no credit for 1 ms, so it sends PROBE. -/
  | probeTimer (e : Fin 4096)
  /-- PROBE (R534): A PROBE is received and answered with PROBE_REPLY. -/
  | probe (n : Fin 9)
  /-- PROBE_REPLY (R534): A PROBE_REPLY is compared with the sender's count. -/
  | probeReply (n : Fin 9)
  /-- BREAK (R533): A BREAK from the peer makes the endpoint BROKEN. -/
  | break (n : Fin 9)
  /-- ENDPOINT_ENABLE (R535): Setting HX_EPCFG.EN runs the endpoint checks and makes the endpoint OPENING. -/
  | endpointEnable (m : Master) (w : Word)
  /-- CHANNEL_PORT_ENABLE (R548): A write of HX_CPCFG.EN enables a channel port, or clears it unless an endpoint names the port. -/
  | channelPortEnable (m : Master) (j : Fin 32) (w : Word)
  /-- CSR_REQUEST (R537): A CSR READ or WRITE arrives and is made as one HOKUOX_REMOTE access and answered. -/
  | csrRequest (n : Fin 9)
  /-- READ_RESP (R539): A READ_RESP completes the originating read, or answers it by the guard policy on no route. -/
  | readResp (n : Fin 9)
  /-- WRITE_ACK (R538): A WRITE_ACK acknowledges a posted remote write. -/
  | writeAck (n : Fin 9)
  /-- CSR_WRITE_LOST (R538): A remote write is unacknowledged after the guard time and counted as lost. -/
  | csrWriteLost (n : Fin 255)
  /-- TIME_EXCHANGE_PERIOD (R540): PERIOD expires, and the parent starts a time exchange with SYNC. -/
  | timeExchangePeriod (n : Fin 8)
  /-- SYNC (R540): A SYNC time packet is received and t2 is captured. -/
  | sync (n : Fin 9)
  /-- FOLLOW (R540): A FOLLOW carries t1 to the child, which sends DREQ. -/
  | follow (n : Fin 9)
  /-- DREQ (R540): A DREQ is received by the parent, which answers DRESP with t4. -/
  | dreq (n : Fin 9)
  /-- DRESP (R541): A DRESP completes the exchange, and the child computes offset and delay and steps or slews. -/
  | dresp (n : Fin 9)
  /-- MI_ENABLE (R552): Setting MI_CFG.EN runs the pair checks and computes HASH. -/
  | miEnable (m : Master) (w : Word)
  /-- HEARTBEAT_TIMER (R553): HB_T expires, and the device sends a HEARTBEAT and renews or claims the witness lease. -/
  | heartbeatTimer
  /-- HEARTBEAT (R553): A peer HEARTBEAT is received, and the roles are settled or split brain is resolved. -/
  | heartbeat
  /-- PAIR_T_EXPIRY (R554): No peer heartbeat has arrived within PAIR_T, so the device becomes PRIMARY alone. -/
  | pairTExpiry
  /-- HEARTBEAT_MISS (R572): HB_T passes without a peer heartbeat, and after HB_MISS misses the peer is lost. -/
  | heartbeatMiss
  /-- EPOCH_CLOSE (R560): EPOCH_T expires on the primary, and EPOCH_END closes the epoch. -/
  | epochClose
  /-- JOURNAL (R564): A JOURNAL packet is received, and each complete epoch is applied or discarded. -/
  | journal
  /-- EPOCH_ACK (R562): An EPOCH_ACK frees the acknowledged journal words on the primary. -/
  | epochAck
  /-- HANDOVER (R578): A write of HANDOVER to MI_CMD makes a planned switch to the secondary. -/
  | handover (m : Master)
  /-- HANDOVER_PACKET (R578): A HANDOVER packet makes the secondary apply the final epoch and promote. -/
  | handoverPacket
  /-- RESYNC (R579): A write of RESYNC on a PRIMARY starts a copy pass. -/
  | resync (m : Master)
  /-- DISBAND (R579): A write of DISBAND clears EN and makes the role STANDALONE. -/
  | disband (m : Master)
  /-- WITNESS_CLAIM (R575): A write to MI_WCLAIM on the witness grants the lease or changes nothing. -/
  | witnessClaim (m : Master) (w : Word)
  /-- WITNESS_RENEW (R575): A write to MI_WREN from the holder renews the lease. -/
  | witnessRenew (m : Master) (w : Word)
  /-- LEASE_LOST (R576): Renewals have failed for LEASE_T, so LEASE clears, or the primary is demoted. -/
  | leaseLost
  /-- INSTRUCTION (R588): The Lodge hart retires one instruction, taking traps, interrupts and bus accesses. -/
  | instruction (cycles : BitVec 32) (fetch data : CheckSeen)
  /-- MACHINE_TIMER (R589): mtime reaches mtimecmp, and a machine timer interrupt becomes pending. -/
  | machineTimer
  /-- CORE_RUN (R597): A write of LG_CTL.RUN releases the core from reset, or resets it. -/
  | coreRun (m : Master) (w : Word)
  /-- LG_MEMDATA_ACCESS (R598): A read or write of LG_MEMDATA reaches one Lodge memory word, or is refused while the core runs. -/
  | lgMemdataAccess (m : Master) (w : Option Word)
  /-- ARRAY_WINDOW_GUARD (R595): An array window exchange is unacknowledged within GUARD and faults. -/
  | arrayWindowGuard (sb : Bool)
  /-- ICCLAIM_READ (R602): An ordinary read of LG_ICCLAIM by LODGE_M claims the highest-priority eligible source. -/
  | icclaimRead (m : Master)
  /-- ICCLAIM_WRITE (R602): A write of LG_ICCLAIM ends the service of a source. -/
  | icclaimWrite (m : Master) (w : Word)
  /-- PERIPHERAL_ENABLE (R604): Setting EN of a UART, SPI or I²C host, or a GPOE bit, runs the checks and pin claims. -/
  | peripheralEnable (m : Master) (p : Periph) (w : Word)
  /-- UART_TX_PUSH (R607): A write to LG_UDATA pushes a byte into the transmit FIFO, or drops it. -/
  | uartTxPush (m : Master) (k : Fin 2) (w : Word)
  /-- UART_RX_POP (R607): An ordinary read of LG_UDATA pops a received byte. -/
  | uartRxPop (m : Master) (k : Fin 2)
  /-- UART_FRAME_RECEIVED (R607): A whole UART frame is received into the FIFO, or lost on overrun. -/
  | uartFrameReceived (k : Fin 2) (b : BitVec 8) (perr ferr brk : Bool)
  /-- UART_FRAME_SENT (R607): A UART frame finishes on TXD, and the next byte starts. -/
  | uartFrameSent (k : Fin 2)
  /-- SPI_COMMAND (R608): A write to LG_SCMD starts an SPI transfer on a chip select, or sets CMDERR. -/
  | spiCommand (m : Master) (k : Fin 2) (w : Word)
  /-- SPI_BYTE_DONE (R608): An SPI byte completes, or SCK holds until the FIFOs allow the transfer to go on. -/
  | spiByteDone (k : Fin 2) (miso : BitVec 8)
  /-- SPI_DATA_ACCESS (R608): A write or read of LG_SDATA pushes or pops an SPI FIFO byte. -/
  | spiDataAccess (m : Master) (k : Fin 2) (w : Option Word)
  /-- I2C_COMMAND (R609): A write to LG_ICMD runs one I²C command: start, address, data and stop. -/
  | i2cCommand (m : Master) (k : Fin 2) (w : Word)
  /-- I2C_COMMAND_DONE (R609): An I²C command ends with DONE, NACK, ARBLOST or PECERR. -/
  | i2cCommandDone (k : Fin 2) (e : I2cEnd)
  /-- I2C_TIMEOUT (R609): SCL is held low for more than 25 ms, and the command ends with TIMEOUT. -/
  | i2cTimeout (k : Fin 2)
  /-- I2C_ALERT (R609): A falling edge of ALERT_N sets ALERT. -/
  | i2cAlert (k : Fin 2) (low : Bool)
  /-- I2C_DATA_ACCESS (R609): A write or read of LG_IDATA pushes or pops an I²C FIFO byte. -/
  | i2cDataAccess (m : Master) (k : Fin 2) (w : Option Word)
  /-- GPIO_EDGE (R610): A selected edge on a hard GPIO pin sets its LG_GPIF bit. -/
  | gpioEdge (g : Fin 32) (rising : Bool)
  /-- GPIO_SET_CLEAR (R610): A write to LG_GPSET or LG_GPCLR sets or clears GPOUT bits. -/
  | gpioSetClear (m : Master) (clear : Bool) (w : Word)
  /-- WATCHDOG_ENABLE (R611): Setting LG_WDCFG.EN starts the watchdog and locks its configuration. -/
  | watchdogEnable (m : Master) (w : Word)
  /-- WATCHDOG_KICK (R611): A write to LG_WDKICK restarts the count, or is counted as a bad kick. -/
  | watchdogKick (m : Master) (w : Word)
  /-- WATCHDOG_EXPIRY (R611): The watchdog count expires; the first expiry warns and the second resets by ACTION. -/
  | watchdogExpiry
  /-- H2L_RING (R612): A doorbell write sets H2L_FULL, or is dropped while it is full. -/
  | h2lRing (m : Master)
  /-- L2H_RING (R612): The Lodge rings the Lodge-to-host doorbell, which sets L2H_FULL. -/
  | l2hRing (m : Master)
  /-- MAILBOX_CLEAR (R612): A W1C write clears a mailbox FULL bit. -/
  | mailboxClear (m : Master) (w : Word)
  /-- TAP_INSTRUCTION (R622): A JTAG instruction is selected, and the scan instructions take effect or are replaced by BYPASS. -/
  | tapInstruction (c : BitVec 5)
  /-- TAP_RESET (R613): Five TCK periods with TMS high reset the TAP and select IDCODE. -/
  | tapReset
  /-- DMI_ACCESS (R614): A DMI access reaches the debug module, which answers only under a debug grant. -/
  | dmiAccess (a : BitVec 7) (w : Option Word)
  /-- SYSTEM_BUS_ACCESS (R614): The debug module makes a 32-bit system bus access with the DEBUG identity. -/
  | systemBusAccess
  /-- DMCUSTOM0_WRITE (R616): A write of DMCUSTOM0 sets DBG_CONSUME and the cross-trigger enables and claims U0_47. -/
  | dmcustom0Write (w : Word)
  /-- XT_IN_EDGE (R616): A rising edge on U0_46 with XT_IN_EN acts as haltreq. -/
  | xtInEdge
  /-- HALT (R617): The hart halts at an instruction boundary, and HALTED is set and logged. -/
  | halt
  /-- RESUME (R617): A resume request ends the halt, and LG_RESUME is logged. -/
  | resume
  /-- GHDBG (R656): At Update-DR, the GHDBG register makes one DEBUG access to the GH range. -/
  | ghdbg (write : Bool) (off : BitVec 10) (data : Word)
  /-- CMD_CLAIM (R627): A write of CLAIM to GH_CMDOWN takes the command interface, or is refused. -/
  | cmdClaim (m : Master)
  /-- CMD_RELEASE (R627): A write of RELEASE frees the command interface and clears the arguments and buffer. -/
  | cmdRelease (m : Master)
  /-- CMD_INTERFACE_TIMEOUT (R627): 100 ms pass without access by the holder, and the interface frees itself. -/
  | cmdInterfaceTimeout
  /-- KEY_WRITE (R861): KEY_WRITE unwraps or writes a key into a slot, or makes it pending. -/
  | keyWrite (m : Master)
  /-- KEY_ERASE (R636): KEY_ERASE empties a slot or blows its kill fuse, or makes the erase pending. -/
  | keyErase (m : Master)
  /-- KEY_WRAP (R638): KEY_WRAP wraps a plain key under a KEK and returns it in DBUF. -/
  | keyWrap (m : Master)
  /-- ZEROIZE (R663): Zeroise aborts operations, erases keys and memories, and enters RESCUE. -/
  | zeroize (m : Master)
  /-- LOAD_START (R685): LOAD_START with ACTION LOAD begins a full load from host memory or flash. -/
  | loadStart (m : Master)
  /-- REWRITE (R694): LOAD_START with ACTION REWRITE checks the plot and starts a plot rewrite. -/
  | rewrite (m : Master)
  /-- SERVE (R689): LOAD_START with ACTION SERVE sets or withdraws the container source served to neighbours. -/
  | serve (m : Master)
  /-- UPDATE_BEGIN (R708): UPDATE_BEGIN reads and checks a package prologue and starts an update session as coordinator. -/
  | updateBegin (m : Master) (pkg : List (BitVec 8))
  /-- UPDATE_COMMIT (R720): UPDATE_COMMIT broadcasts PREPARE and starts the two-phase commit. -/
  | updateCommit (m : Master)
  /-- UPDATE_ABORT (R722): UPDATE_ABORT aborts the session, or ends INDOUBT with FORCE. -/
  | updateAbort (m : Master)
  /-- TEST_START (R781): TEST_START commits 0.80 V, checks the test conditions and enters TEST. -/
  | testStart (m : Master) (freq : BitVec 20) (vcore : BitVec 12)
  /-- DEBUG_UNLOCK (R657): DEBUG_UNLOCK with PHASE 0 issues a challenge, or grants at once on an open unsealed part. -/
  | debugUnlock (m : Master)
  /-- DEBUG_UNLOCK_RESPONSE (R658): DEBUG_UNLOCK with PHASE 1 verifies the signed response and grants the level. -/
  | debugUnlockResponse (m : Master)
  /-- DEBUG_LOCK (R655): DEBUG_LOCK sets LEVEL to 0 and ends debug access. -/
  | debugLock (m : Master)
  /-- DEVICE_RESET (R47): DEVICE_RESET causes a warm reset. -/
  | deviceReset (m : Master)
  /-- PK_PROGRAM (R644): PK_PROGRAM fuses a public-key hash into an empty slot after authorisation. -/
  | pkProgram (m : Master)
  /-- PK_REVOKE (R645): PK_REVOKE fuses the revocation bit of a slot after authorisation. -/
  | pkRevoke (m : Master)
  /-- SEAL (R647): SEAL seals an unsealed part for good. -/
  | seal (m : Master)
  /-- CHALLENGE_LAPSE (R657): A debug challenge lapses after 60 s. -/
  | challengeLapse
  /-- UNLOCK_KEY_WRITE (R649): A write to GH_UNLOCK advances, opens, closes or aborts the protected-register unlock sequence. -/
  | unlockKeyWrite (m : Master) (w : Word)
  /-- UNLOCK_EXPIRY (R651): 1 ms after it opened, the protected-register unlock closes. -/
  | unlockExpiry
  /-- TAMPER_INPUT (R661): TAMP0_N or TAMP1_N is held low for 10 µs and is handled by its policy, or by the battery domain. -/
  | tamperInput (n : Fin 2) (low : Bool)
  /-- MESH_MISMATCH (R660): Three consecutive mismatches on a mesh loop are a tamper event. -/
  | meshMismatch
  /-- SENSOR_TAMPER (R757): An enabled sensor tamper condition holds and is raised to the Gatehouse. -/
  | sensorTamper (c : Fin 4)
  /-- RUN_EN (R690): A write of GH_CTL.RUN_EN runs the consistency check and starts staged release. -/
  | runEn (m : Master)
  /-- STAGED_RELEASE_STEP (R691): T1 or a T2 slot of staged release expires, and write enables open or the next domain leaves reset. -/
  | stagedReleaseStep
  /-- FLASH_DISCOVERY (R670): The flash is reset, its SFDP tables are read, and its boot record is chosen. -/
  | flashDiscovery (x : SfdpResult)
  /-- CONTAINER_HEADER (R682): The 256-byte container header arrives and is checked, then the endpoint identity is set. -/
  | containerHeader (hdr auth : List (BitVec 8))
  /-- FRAME (R678): A FRAME command writes tile frames after the frame check. -/
  | frame (ws : List Word)
  /-- PRELOAD (R678): A PRELOAD command writes words of a block memory. -/
  | preload (ws : List Word)
  /-- REGW (R679): A REGW command writes one register with the GATEHOUSE identity. -/
  | regw (ws : List Word)
  /-- REGFILL (R679): A REGFILL command writes its values to one register in turn. -/
  | regfill (ws : List Word)
  /-- CHECK (R681): A CHECK command verifies the CRC of its span and advances GH_CFGPOS. -/
  | containerCheck (ws : List Word)
  /-- NOP (R677): A NOP command skips N words. -/
  | containerNop (ws : List Word)
  /-- POLL (R680): A POLL command starts polling a register. -/
  | poll (ws : List Word)
  /-- POLL_READ (R680): Each 1 µs the polled register is read; a match ends the poll, and timeout fails it. -/
  | pollRead
  /-- END (R684): END triggers the end checks, and a FULL load enters HOLD or a rewrite runs its release check. -/
  | containerEnd (ws : List Word)
  /-- CONTAINER_SOURCE_FAIL (R686): The source fails to deliver container bytes, and the container fails. -/
  | containerSourceFail
  /-- CFG_REQ (R689): A CFG_REQ is received and answered from the SERVE source, or with CFG_NONE. -/
  | cfgReq (n : Fin 8) (data : List (BitVec 8))
  /-- CFG_DATA (R688): CFG_DATA delivers container bytes to a loading device. -/
  | cfgData
  /-- CFG_END (R687): CFG_END tells the loading device the container length. -/
  | cfgEnd
  /-- CFG_NONE (R688): CFG_NONE makes the loading device request again. -/
  | cfgNone
  /-- CFG_REQ_TIMER (R688): 100 ms pass without an answer, and CFG_REQ is sent again from GH_CFGPOS. -/
  | cfgReqTimer
  /-- ANNOUNCE (R714): An ANNOUNCE starts a downstream device's participation, and it asks with NEED. -/
  | announce (n : Fin 8)
  /-- PROLOGUE (R708): PROLOGUE packets deliver the prologue, which the device checks. -/
  | prologue (n : Fin 8)
  /-- BLOCK (R715): A BLOCK part is received; each full block is checked, stored and forwarded. -/
  | block (n : Fin 8)
  /-- NEED (R714): A NEED asks the upstream device for the prologue or for more blocks. -/
  | need (n : Fin 8)
  /-- AREA_STAGED (R718): A target has written and verified all its components and the area record, and becomes STAGED. -/
  | areaStaged (ok : Bool)
  /-- STATUS (R717): A STATUS broadcast is received and counted by the coordinator. -/
  | upStatus (n : Fin 9)
  /-- STATUS_TIMER (R717): The 1 s timer expires, and the device broadcasts STATUS. -/
  | statusTimer
  /-- PREPARE (R720): PREPARE makes a target verify its components, mark PREPARED and vote. -/
  | prepare (n : Fin 9)
  /-- VOTE (R722): A VOTE reaches the coordinator, and the last READY commits. -/
  | vote (n : Fin 9) (ok : Bool)
  /-- VOTE_T_EXPIRY (R722): VOTE_T expires without every READY, and the session aborts. -/
  | voteTExpiry
  /-- COMMIT (R721): COMMIT makes a target write its trial boot record. -/
  | upCommit (n : Fin 9) (ok : Bool)
  /-- ABORT_PACKET (R722): The ABORT update packet makes every device release and return to IDLE. -/
  | abortPacket (n : Fin 9)
  /-- ACT_TIME (R723): ACT_TIME arrives, and the target makes its activation warm reset. -/
  | actTime
  /-- ACTIVATE (R724): ACTIVATE for a rank makes its targets hand over and reset. -/
  | activate (n : Fin 9)
  /-- CONFIRM (R727): CONFIRM makes a target write its final boot record, advance rollback and save settings. -/
  | confirm (n : Fin 9)
  /-- CONFIRM_T_EXPIRY (R726): CONFIRM_T passes without every STARTED, and the coordinator reverts. -/
  | confirmTExpiry
  /-- REVERT (R728): REVERT makes a target return to its previous area. -/
  | revert (n : Fin 9)
  /-- TRIAL_EXPIRY (R729): REMAIN reaches 0 without CONFIRM or REVERT, and the device reverts itself. -/
  | trialExpiry
  /-- QUERY (R730): A QUERY from an in-doubt device is answered COMMITTED or ABORTED. -/
  | query (n : Fin 9)
  /-- QUERY_TIMER (R730): The 1 s timer expires, and an in-doubt device broadcasts QUERY. -/
  | queryTimer
  /-- ANSWER (R730): An ANSWER resolves an in-doubt device's commit or abort. -/
  | answer (n : Fin 9)
  /-- STAGE_HANDOVER (R711): A write of GH_STAGE hands a staging half to the Gatehouse. -/
  | stageHandover (m : Master) (w : Word)
  /-- SETDATA_ACCESS (R734): A write or read of GH_SETDATA reaches the settings image and may mark it DIRTY. -/
  | setdataAccess (m : Master) (w : Option Word)
  /-- SAVE (R734): A write of SAVE writes the settings image to the copy that is not current. -/
  | save (m : Master)
  /-- TEMP_SAMPLE (R737): The temperature sensors are sampled, and the thresholds are judged. -/
  | tempSample (ts : List (BitVec 12))
  /-- RAIL_SAMPLE (R739): The rails are measured, and their windows are judged. -/
  | railSample (mv : List (BitVec 12)) (settled : Bool)
  /-- CONFIG_SCRUB_READ (R743): The scrubber reads one frame word and corrects or reports an error. -/
  | configScrubRead (flips : BitVec 39)
  /-- REPAIR_COMPLETE (R745): The repair source has been read and the plot rewritten, so the plot returns to LIVE, or the repair fails. -/
  | repairComplete
  /-- SCAN (R742): A write of SCAN starts a scrub pass at once. -/
  | scan (m : Master)
  /-- HANDBACK (R747): A write of HANDBACK turns a Belvedere-held plot into a user-held one. -/
  | handback (m : Master) (p : Fin 64)
  /-- SCRUB_STARVED (R748): A scrub suspension lasts 100 ms and is logged. -/
  | scrubStarved
  /-- DL_CALIBRATION_START (R754): The interval or a VCORE commit starts a calibration of the delay lines. -/
  | dlCalibrationStart
  /-- DL_SWAP (R753): An idle gap lets a calibrated shadow line be swapped in. -/
  | dlSwap (last : Bool)
  /-- DL_FORCED_SWAP (R753): No idle gap has come within 1 ms, so the swap is forced with a request stall. -/
  | dlForcedSwap (p : Fin 64) (last : Bool)
  /-- IDENT (R758): The SMBus IDENT block read returns the part, mode and die ID. -/
  | ident (r : SmbRead)
  /-- SMB_STATUS (R758): The SMBus STATUS read returns mode, role, governor state and alerts. -/
  | smbStatus (r : SmbRead)
  /-- SMB_ADDR (R758): The SMBus ADDR read returns the Hokuox address. -/
  | smbAddr (r : SmbRead)
  /-- TEMP_MAX (R758): The SMBus TEMP_MAX read returns the hottest sample. -/
  | tempMax (r : SmbRead)
  /-- TEMP_SEL (R758): The SMBus TEMP_SEL write or read selects a sensor. -/
  | tempSel (x : SmbAccess 8)
  /-- TEMP (R758): The SMBus TEMP read returns the selected sensor. -/
  | smbTemp (r : SmbRead)
  /-- RAIL_SEL (R758): The SMBus RAIL_SEL write or read selects a rail. -/
  | railSel (x : SmbAccess 8)
  /-- RAIL (R758): The SMBus RAIL read returns the selected rail in mV. -/
  | smbRail (r : SmbRead)
  /-- VCORE_CMD (R758): The SMBus VCORE_CMD read returns VNOW. -/
  | vcoreCmd (r : SmbRead)
  /-- ICORE (R758): The SMBus ICORE read returns the regulator current. -/
  | icore (r : SmbRead)
  /-- PACE_MIN (R758): The SMBus PACE_MIN read returns MINIDX. -/
  | paceMin (r : SmbRead)
  /-- PACE_REQ (R758): The SMBus PACE_REQ read returns the required pace. -/
  | paceReq (r : SmbRead)
  /-- ERRSUM (R758): The SMBus ERRSUM block read returns the error totals. -/
  | errsum (r : SmbRead)
  /-- LOG_STAT (R806): The SMBus LOG_STAT read returns the unread count of C2 and clears OVR2. -/
  | logStat (r : SmbRead)
  /-- LOG_NEXT (R806): The SMBus LOG_NEXT read returns the record at C2 and advances C2. -/
  | logNext (r : SmbRead) (corrupt : Bool)
  /-- LOG_PEEK (R806): The SMBus LOG_PEEK read returns the record at C2 without advancing it. -/
  | logPeek (r : SmbRead) (corrupt : Bool)
  /-- ALERT_STAT (R758): The SMBus ALERT_STAT read returns BV_ALERT. -/
  | alertStat (r : SmbRead)
  /-- ALERT_CLR (R760): The SMBus ALERT_CLR write clears BV_ALERT bits. -/
  | alertClr (w : BitVec 16) (pec : Option (BitVec 8))
  /-- ALERT_MASK (R760): The SMBus ALERT_MASK write or read sets or returns BV_ALERTMASK. -/
  | alertMask (x : SmbAccess 16)
  /-- ALERT_RESPONSE_ADDRESS (R760): A read of the Alert Response Address is answered with the device address, and SMB_ALERT_N is released. -/
  | alertResponseAddress (won : Bool)
  /-- SMB_SCL_TIMEOUT (R761): SCL is held low for more than 25 ms, so the SMBus interface resets. -/
  | smbSclTimeout
  /-- ENTER (R765): A write of PW_DMCTL.ENTER runs the Dormant entry checks and starts waiting for work to end. -/
  | enter (m : Master)
  /-- DORMANT_ENTRY_START (R767): The waited-for work has ended, and the Dormant entry sequence starts. -/
  | dormantEntryStart
  /-- DORMANT_ENTRY_STOP (R767): Every plot is FENCED, so the blocks stop, the clocks stop and the mode becomes DORMANT. -/
  | dormantEntryStop
  /-- WAIT_T_EXPIRY (R766): WAIT_T expires before the waited-for work ends, and entry is abandoned. -/
  | waitTExpiry
  /-- WAKE_EVENT (R772): A wake source is recognised; the wake sequence starts, or entry is abandoned. -/
  | wakeEvent (w : WakeSource)
  /-- WAKE_COMPLETE (R774): Locks are declared and pins restored, so the mode returns to RUN and held plots are released. -/
  | wakeComplete (avs : Bool) (late : BitVec 16) (ms : BitVec 32) (ns : BitVec 18)
  /-- TEST_COMPLETE (R787): A self-test ends and records its result, and after the last one the memories are wiped and a warm reset follows. -/
  | testComplete (fails : BitVec 12) (obj : BitVec 16) (addr : BitVec 32)
  /-- TS_COND_LOST (R784): A test condition fails in three consecutive samples, and the run is aborted. -/
  | tsCondLost (c : Fin 3)
  /-- LOG_WRITE_TICK (R797): Every 64 CTL_CLK periods the log takes one record from the intake queue into the ring. -/
  | logWriteTick
  /-- EV_REC0_READ (R801): A read of EV_REC0 returns the record at the reader's cursor, latches it and advances the cursor. -/
  | evRec0Read (m : Master) (corrupt : Bool)
  /-- EV_CUR_WRITE (R803): A write to EV_CUR moves a cursor, clamped at EV_TAIL. -/
  | evCurWrite (m : Master) (c : Fin 4) (w : Word)
  /-- TIMER_TICK (R323): On a timer-pace tick, a timer takes a count input and advances its count, prescaler and capture filters. -/
  | timerTick (lfxo : Bool)
  /-- PRBS_CHECK (R453): The PRBS checker takes received line bits, gains or loses PRBS_LOCK and counts bit errors. -/
  | prbsCheck (l : Fin 40) (line : BitVec 64)
  /-- VBATT_OUT_OF_RANGE (R635): VBATT leaves its range while VAUX is off, and KS2 to KS5 become EMPTY. -/
  | vbattOutOfRange
  /-- PERST_N_RELEASE (R51): PERST_N is released, and the endpoint may begin link training. -/
  | perstNRelease
  /-- MSIX_TABLE_ACCESS (R468): A host access to the MSI-X table or PBA in BAR4 sets masks, or sends a pending message when a vector is unmasked. -/
  | msixTableAccess (write : Bool) (off : BitVec 20) (len : Fin 513) (w : BitVec 64) (tag : BitVec 10)
  /-- VIO_RESTORED (R398): A bank's VIO returns within 10 % of VSEL, and IO_BSTAT.OK becomes 1 again. -/
  | vioRestored (b : Fin 12) (vdet : BitVec 3)
  /-- UI_LINE_CHANGE (R111): The cell output that drives an array user interrupt line changes, and interrupt source 240 + k follows it. -/
  | uiLineChange (k : Fin 16) (p : Fin 64) (high : Bool)
  /-- ARRAY_WINDOW_ANSWER (R595): The array raises ACK on the Lodge array window, which completes the exchange or, after the guard, is discarded and counted as LATE. -/
  | arrayWindowAnswer (data : Word) (error : Bool)
  /-- GH_COMMAND_END (R628): A Gatehouse command that has been running ends, and STATE goes from BUSY to DONE, FAILED or PENDING. -/
  | ghCommandEnd
  /-- SMB_RESERVED_COMMAND (R761): An SMBus transaction with a reserved command code, or a wrong-direction access, has its command byte NACKed and is counted. -/
  | smbReservedCommand (code : BitVec 8) (write : Bool)
  deriving DecidableEq, Repr

end Sys2Proof
end

