-- ==== Sys2Proof/Machine/Bits.lean ====
section
/-! DEFINITION. Bit-field and number helpers used by every family. -/

namespace Sys2Proof.Machine

/-- Bits [lo + n - 1 : lo] of a number. -/
def bits (w lo n : Nat) : Nat := w / 2 ^ lo % 2 ^ n

/-- One bit as a Bool. -/
def bit (w i : Nat) : Bool := w / 2 ^ i % 2 = 1

/-- 1 for true, 0 for false. -/
def b2n (b : Bool) : Nat := if b then 1 else 0

/-- A number with bit i set. -/
def setBit (w i : Nat) : Nat := w ||| 2 ^ i

/-- A number with bit i cleared. -/
def clrBit (w i : Nat) : Nat := if bit w i then w - 2 ^ i else w

/-- Saturating addition at 2 ^ n - 1 (the counters of the register tables). -/
def satAdd (n a b : Nat) : Nat := min (a + b) (2 ^ n - 1)

/-- An n-bit two's-complement number as an integer. -/
def toSigned (n w : Nat) : Int := let v := w % 2 ^ n; if v < 2 ^ (n - 1) then (v : Int) else (v : Int) - (2 ^ n : Nat)

/-- An integer as an n-bit two's-complement pattern. -/
def ofSigned (n : Nat) (i : Int) : Nat := (i % ((2 ^ n : Nat) : Int)).toNat

/-- The n bytes of a number, least significant first. -/
def bytesLE (n v : Nat) : List Nat := (List.range n).map fun i => v / 256 ^ i % 256

/-- The number of a little-endian byte list. -/
def ofBytesLE : List Nat → Nat
  | [] => 0
  | b :: r => b % 256 + 256 * ofBytesLE r

/-- XOR of all bits of a number below 2 ^ n. -/
def parity (n v : Nat) : Bool := (List.range n).foldl (fun p i => p != bit v i) false

/-- One bit step of CRC-32C, least significant bit first. -/
def crcStep (c : Nat) : Nat := if c % 2 = 1 then (c / 2) ^^^ 0x82F63B78 else c / 2

/-- One byte into a running CRC-32C register. -/
def crcByte (c b : Nat) : Nat := (List.range 8).foldl (fun x _ => crcStep x) (c ^^^ b % 256)

/-- CRC-32C of bytes: initial value and final XOR all ones, least significant bit first. -/
def crc32c (l : List Nat) : Nat := l.foldl crcByte 0xFFFFFFFF ^^^ 0xFFFFFFFF

/-- CRC-32C of 64-bit words taken as little-endian bytes. -/
def crcWords (l : List Nat) : Nat := crc32c (l.flatMap (bytesLE 8))

/-- The first index of a list of numbers for which a test holds. -/
def firstWhere (l : List Nat) (p : Nat → Bool) : Option Nat := l.find? p

end Sys2Proof.Machine
end

