-- ==== Sys2Proof/Machine/Soft.lean ====
section
/-! DEFINITION. Exact arithmetic for the Orangery (R367, R373): numbers as dyadic rationals, their encodings, and
rounding to nearest, ties to even. -/

namespace Sys2Proof.Machine

/-- A number: a zero of a sign, m × 2 ^ e with m not 0, an infinity of a sign, or no number. -/
inductive Num where
  | zero (neg : Bool)
  | fin (m : Int) (e : Int)
  | inf (neg : Bool)
  | nan
  deriving DecidableEq, Repr

/-- m × 2 ^ e, also where m is 0. -/
def Num.mk (m e : Int) : Num := if m = 0 then .zero false else .fin m e

/-- The sign of a number. -/
def Num.isNeg : Num → Bool
  | .zero a => a
  | .fin m _ => decide (m < 0)
  | .inf a => a
  | .nan => false

/-- Sum; an infinity minus itself is no number. -/
def Num.add : Num → Num → Num
  | .nan, _ => .nan
  | _, .nan => .nan
  | .inf a, .inf b => if a = b then .inf a else .nan
  | .inf a, _ => .inf a
  | _, .inf b => .inf b
  | .zero a, .zero b => .zero (a && b)
  | .zero _, y => y
  | x, .zero _ => x
  | .fin m e, .fin n f =>
    if e ≤ f then Num.mk (m + n * (2 ^ (f - e).toNat : Nat)) e else Num.mk (m * (2 ^ (e - f).toNat : Nat) + n) f

/-- Product; zero times an infinity is no number. -/
def Num.mul (x y : Num) : Num :=
  let sign := x.isNeg != y.isNeg
  match x, y with
  | .nan, _ => .nan
  | _, .nan => .nan
  | .inf _, .zero _ => .nan
  | .zero _, .inf _ => .nan
  | .inf _, _ => .inf sign
  | _, .inf _ => .inf sign
  | .zero _, _ => .zero sign
  | _, .zero _ => .zero sign
  | .fin m e, .fin n f => .fin (m * n) (e + f)

/-- The opposite number. -/
def Num.neg : Num → Num
  | .zero a => .zero (!a)
  | .fin m e => .fin (-m) e
  | .inf a => .inf (!a)
  | .nan => .nan

/-- The magnitude. -/
def Num.abs : Num → Num
  | .zero _ => .zero false
  | .fin m e => .fin m.natAbs e
  | .inf _ => .inf false
  | .nan => .nan

/-- A binary format by the bits of its fraction; the exponent field has 8 bits (binary32: 23, bfloat16: 7). -/
def decodeFloat (frac w : Nat) : Num :=
  let m := w % 2 ^ frac
  let e := w / 2 ^ frac % 256
  let neg := bit w (frac + 8)
  let sg (v : Nat) : Int := if neg then -(v : Int) else (v : Int)
  if e = 255 then (if m = 0 then .inf neg else .nan)
  else if e = 0 then (if m = 0 then .zero neg else .fin (sg m) (-126 - (frac : Int)))
  else .fin (sg (m + 2 ^ frac)) ((e : Int) - 127 - frac)

/-- a / 2 ^ d to nearest, ties to even; `sticky` when the exact value is a little above a. -/
def roundShift (a d : Nat) (sticky : Bool) : Nat :=
  let q := a / 2 ^ d
  let r := 2 * (a % 2 ^ d)
  if r < 2 ^ d then q
  else if 2 ^ d < r || sticky then q + 1
  else q + q % 2

/-- The encoding of (−1)^neg × (a + a little if sticky) × 2 ^ e, and whether it is too large for the format (R373). -/
def encodeMag (frac : Nat) (neg : Bool) (a : Nat) (e : Int) (sticky : Bool) : Nat × Bool :=
  let a := 4 * a
  let e := e - 2
  let sign := 2 ^ (frac + 8) * b2n neg
  if a = 0 then (sign, false)
  else
    -- the exponent of the last place kept
    let top : Int := (Nat.log2 a : Int) + e
    let last : Int := max (top - frac) (-126 - (frac : Int))
    let m := if e ≤ last then roundShift a (last - e).toNat sticky else a * 2 ^ (e - last).toNat
    let up := 2 ^ (frac + 1) ≤ m
    let m := if up then m / 2 else m
    let last := if up then last + 1 else last
    let ex : Int := if m < 2 ^ frac then 0 else last + frac + 127
    if 255 ≤ ex then (sign + 255 * 2 ^ frac, true)
    else (sign + ex.toNat * 2 ^ frac + m % 2 ^ frac, false)

/-- A number in a binary format: the pattern, whether it overflowed to an infinity, whether it is no number. The
pattern of a NaN is left open: `nanBits` supplies it. -/
def encodeFloat (frac nanBits : Nat) : Num → Nat × Bool × Bool
  | .zero a => (2 ^ (frac + 8) * b2n a, false, false)
  | .fin m e =>
    let r := encodeMag frac (m < 0) m.natAbs e false
    (r.1, r.2, false)
  | .inf a => (2 ^ (frac + 8) * b2n a + 255 * 2 ^ frac, false, false)
  | .nan => (2 ^ (frac + 8) * (nanBits % 2) + 255 * 2 ^ frac + (nanBits / 2 % (2 ^ frac - 1) + 1), false, true)

/-- A number as a Q1.15 fraction, to nearest with ties to even, clamped to −1 or 1 − 2 ^ −15 (R373); what stands for no
number is left open. -/
def encodeQ15 (nanBits : Nat) : Num → Nat × Bool × Bool
  | .nan => (nanBits % 2 ^ 16, false, true)
  | .zero _ => (0, false, false)
  | .inf a => (if a then 0x8000 else 0x7FFF, true, false)
  | .fin m e =>
    let e := e + 15
    let q : Int :=
      if 0 ≤ e then m * (2 ^ e.toNat : Nat)
      else
        let r : Int := roundShift m.natAbs (-e).toNat false
        if m < 0 then -r else r
    if q < -32768 then (0x8000, true, false)
    else if 32767 < q then (0x7FFF, true, false)
    else (ofSigned 16 q, false, false)

/-- A Q1.15 pattern. -/
def decodeQ15 (w : Nat) : Num := Num.mk (toSigned 16 w) (-15)

/-- The correctly rounded square root of a sum of squares (MAG, R372, R374): pattern, overflow, no number. -/
def encodeRoot (frac nanBits : Nat) : Num → Nat × Bool × Bool
  | .zero _ => (0, false, false)
  | .fin m e =>
    -- an even exponent and enough bits that the root's last place is beyond the rounding
    let a := m.natAbs * 2 ^ (160 + (e % 2).toNat)
    let f := (e - 160 - e % 2) / 2
    let r := Nat.sqrt a
    let v := encodeMag frac false r f (r * r != a)
    (v.1, v.2, false)
  | .inf _ => (255 * 2 ^ frac, false, false)
  | .nan => encodeFloat frac nanBits .nan

end Sys2Proof.Machine
end

