-- ==== Sys2Proof/Machine/Ecc.lean ====
section
/-! DEFINITION. The Hamming code with overall parity that block memories, the queue store, the Orangery workspace and
the Lodge memories share (R147, R148). A stored word is its data plus 2 ^ 64 times its check bits. -/

namespace Sys2Proof.Machine

/-- Hamming positions of data bits 0 to 63: the integers from 3 upward that are no powers of two (R147). -/
def eccPositions : List Nat := (List.range 72).filter fun q => decide (3 ≤ q) && !([4, 8, 16, 32, 64].contains q)

/-- c[6:0]: the XOR of the positions of the data bits that are set (R147). -/
def eccLow (data : Nat) : Nat :=
  (List.range 64).foldl (fun c d => if bit data d then c ^^^ eccPositions.getD d 0 else c) 0

/-- The check bits of a data word (R147). -/
def eccOf (data : Nat) : Nat :=
  let c := eccLow data
  c + 128 * b2n (parity 64 data != parity 7 c)

/-- The syndrome S of a stored word (R148). -/
def syndrome (data chk : Nat) : Nat :=
  (eccLow data ^^^ chk % 128) + 128 * b2n (parity 64 data != parity 8 chk)

/-- What a check finds. -/
inductive EccKind where
  | clean | corrected | uncorrectable
  deriving DecidableEq, Repr

/-- A checked word: the data and check bits after correction, what was found and the syndrome. -/
structure EccWord where
  data : Nat
  chk : Nat
  kind : EccKind
  synd : Nat
  deriving DecidableEq, Repr

/-- Decode a stored word (R148, R149, R150). -/
def eccDecode (data chk : Nat) : EccWord :=
  let sy := syndrome data chk
  let p := sy % 128
  if sy = 0 then ⟨data, chk, .clean, sy⟩
  else if sy < 128 then ⟨data, chk, .uncorrectable, sy⟩
  else if p = 0 then ⟨data, chk ^^^ 128, .corrected, sy⟩
  else if [1, 2, 4, 8, 16, 32, 64].contains p then ⟨data, chk ^^^ p, .corrected, sy⟩
  else if p ≤ 71 then ⟨data ^^^ 2 ^ eccPositions.idxOf p, chk, .corrected, sy⟩
  else ⟨data, chk, .uncorrectable, sy⟩

end Sys2Proof.Machine
end

