-- ==== Sys2Proof/Config.lean ====
section
/-! DEFINITION. What an implementation fixes and the free values: constants without a body, of which no value can be
proved. Each one is named in a row of notes/assumptions. -/

namespace Sys2Proof

/-- A fresh unconstrained value for each draw (the draw counter of State is the argument): nonces, memory words that
a warm reset leaves undefined (Table DV-14), results that the spec leaves open.
(DESIGN CHOICE, log entries 9, 10; DEDUCED, log entries 30, 32, 33, 34, 39, 41, 42, 46, 52, 53.) -/
opaque Config.freeValue : Nat → Nat

/-- The outputs of an Orangery job whose arithmetic the spec bounds but does not fix (R374): a function of the
descriptor and of the input words, as R359 demands. (DESIGN CHOICE, log entry 11.) -/
opaque Config.orangery : (descriptor : List Nat) → (inputs : List Nat) → (index : Nat) → Nat

/-- AES-256 block encryption (key, block), as the published standard gives it (R630). (PRESUMED, log entry 12.) -/
opaque Config.aes256 : (key : Nat) → (block : Nat) → Nat

/-- RFC 3394 key unwrap of 40 bytes under a key: none on an integrity failure (R632). (PRESUMED, log entry 12.) -/
opaque Config.keyUnwrap : (kek : Nat) → (wrapped : List Nat) → Option Nat

/-- RFC 3394 key wrap of 32 bytes under a key (R638). (PRESUMED, log entry 12.) -/
opaque Config.keyWrap : (kek : Nat) → (key : Nat) → List Nat

/-- SHA-384 of a byte string (R642). (PRESUMED, log entry 12.) -/
opaque Config.sha384 : List Nat → Nat

/-- Whether a signature over a message verifies under a public key of the kind (0 ECDSA P-384, 1 LMS) (R643).
(PRESUMED, log entry 12.) -/
opaque Config.verifies : (kind : Nat) → (key : List Nat) → (signature : List Nat) → (message : List Nat) → Bool

/-- AES-256-GCM tag check under a key: additional data and ciphertext as byte strings (R675).
(PRESUMED, log entry 12.) -/
opaque Config.gcmTagOk : (key : Nat) → (iv : Nat) → (aad : List Nat) → (ciphertext : List Nat) → (tag : Nat) → Bool

/-- AES-256-GCM keystream, by 32-bit word i from the start of the text, under a key and an IV (R675, R706).
(PRESUMED, log entry 12.) -/
opaque Config.gcmStream : (key : Nat) → (iv : Nat) → (i : Nat) → Nat

/-- The tag of an area record under the key that the Gatehouse derives from KS0 (Table UP-7).
(PRESUMED, log entry 12.) -/
opaque Config.areaTag : (ks0 : Nat) → List Nat → Nat

/-- Whether the Lodge hart writes the address, or the instruction word, to mtval on a cause, or 0: the Privileged
specification leaves it to the implementation (R588). (DESIGN CHOICE, log entry 15.) -/
opaque Config.rvTval : (cause : Nat) → Bool

end Sys2Proof
end

