-- ==== Sys2Proof/Machine/Codes.lean ====
section
/-! DEFINITION. Reason codes and event IDs (R790, R791, R793): the number and the severity code (0 INFO, 1 NOTE,
2 WARN, 3 FAULT, 4 FATAL) of every code of the master list of Table EV-1, each from its chapter's code table. -/

namespace Sys2Proof.Machine

/-- A reason code: its 16-bit number and its severity (Table EV-3). -/
structure Rc where
  num : Nat
  sev : Nat
  deriving DecidableEq, Repr

/-- R790: the block that bits [15:8] of a code name. -/
def Rc.block (c : Rc) : Nat := c.num / 256


/-! Codes of spec/17_gatehouse_keys_and_trust.md. -/

def Rc.GH_WRONG_MODE : Rc := ⟨0x0101, 1⟩
def Rc.GH_BUSY : Rc := ⟨0x0102, 1⟩
def Rc.GH_CMD_HELD : Rc := ⟨0x0103, 1⟩
def Rc.GH_BAD_CMD : Rc := ⟨0x0104, 1⟩
def Rc.GH_NOT_PERMITTED : Rc := ⟨0x0105, 1⟩
def Rc.GH_KEY_PENDING : Rc := ⟨0x0106, 1⟩
def Rc.GH_KEY_EMPTY : Rc := ⟨0x0107, 1⟩
def Rc.GH_KEY_SLOT : Rc := ⟨0x0108, 1⟩
def Rc.GH_KEY_USAGE : Rc := ⟨0x0109, 1⟩
def Rc.GH_UNWRAP_FAIL : Rc := ⟨0x010A, 2⟩
def Rc.GH_SEALED : Rc := ⟨0x010B, 1⟩
def Rc.GH_AUTH_FAIL : Rc := ⟨0x010C, 2⟩
def Rc.GH_PK_REVOKED : Rc := ⟨0x010D, 2⟩
def Rc.GH_PK_SLOT : Rc := ⟨0x010E, 1⟩
def Rc.GH_ROLLBACK : Rc := ⟨0x010F, 2⟩
def Rc.GH_ABORT_ZEROIZE : Rc := ⟨0x0110, 2⟩
def Rc.GH_ZEROIZE : Rc := ⟨0x0111, 4⟩
def Rc.GH_TAMPER : Rc := ⟨0x0112, 3⟩
def Rc.GH_WRITE_DENIED : Rc := ⟨0x0113, 1⟩
def Rc.GH_UNLOCK_SEQ : Rc := ⟨0x0114, 1⟩
def Rc.GH_UNLOCK_OPEN : Rc := ⟨0x0115, 0⟩
def Rc.GH_KEY_APPLIED : Rc := ⟨0x0116, 0⟩
def Rc.GH_DEBUG_GRANTED : Rc := ⟨0x0117, 2⟩
def Rc.GH_DEBUG_LOCKED : Rc := ⟨0x0118, 0⟩
def Rc.GH_ACCESS_DENIED : Rc := ⟨0x0119, 1⟩
def Rc.GH_NO_CHALLENGE : Rc := ⟨0x011A, 1⟩
def Rc.GH_SEALED_NOW : Rc := ⟨0x011B, 1⟩
def Rc.GH_TAMPER_BATT : Rc := ⟨0x011C, 3⟩

/-! Codes of spec/18_configuration_and_release.md. -/

def Rc.GH_CFG_MAGIC : Rc := ⟨0x0120, 1⟩
def Rc.GH_CFG_HEADER : Rc := ⟨0x0121, 1⟩
def Rc.GH_CFG_PART : Rc := ⟨0x0122, 1⟩
def Rc.GH_CFG_KIND : Rc := ⟨0x0123, 1⟩
def Rc.GH_CFG_CMD : Rc := ⟨0x0124, 2⟩
def Rc.GH_CFG_ADDR : Rc := ⟨0x0125, 2⟩
def Rc.GH_CFG_SCOPE : Rc := ⟨0x0126, 2⟩
def Rc.GH_CFG_REGW : Rc := ⟨0x0127, 2⟩
def Rc.GH_CFG_POLL : Rc := ⟨0x0128, 2⟩
def Rc.GH_CFG_CRC : Rc := ⟨0x0129, 2⟩
def Rc.GH_CFG_TAG : Rc := ⟨0x012A, 2⟩
def Rc.GH_CFG_TRUNC : Rc := ⟨0x012B, 2⟩
def Rc.GH_CFG_SOURCE : Rc := ⟨0x012C, 2⟩
def Rc.GH_CFG_BUSMASTER : Rc := ⟨0x012D, 1⟩
def Rc.GH_CFG_LOADED : Rc := ⟨0x012E, 0⟩
def Rc.GH_CFG_FALLBACK : Rc := ⟨0x012F, 2⟩
def Rc.GH_FLASH_RECORD : Rc := ⟨0x0130, 2⟩
def Rc.GH_FLASH_PROTOCOL : Rc := ⟨0x0131, 2⟩
def Rc.GH_RELEASED : Rc := ⟨0x0132, 0⟩
def Rc.GH_REWRITE_DONE : Rc := ⟨0x0133, 0⟩
def Rc.GH_REWRITE_FAIL : Rc := ⟨0x0134, 2⟩
def Rc.GH_NOT_FENCED : Rc := ⟨0x0135, 1⟩

/-! Codes of spec/22_codes_and_event_log.md. -/

def Rc.GH_LOG_OVERRUN : Rc := ⟨0x0140, 2⟩
def Rc.GH_LOG_DROPPED : Rc := ⟨0x0141, 2⟩
def Rc.GH_LOG_CORRUPT : Rc := ⟨0x0142, 2⟩
def Rc.PW_WRONG_MODE : Rc := ⟨0x0201, 1⟩
def Rc.PW_MODE_BUSY : Rc := ⟨0x0202, 1⟩
def Rc.PW_MODE_ENTER : Rc := ⟨0x0203, 0⟩
def Rc.PW_RESET : Rc := ⟨0x0204, 1⟩

/-! Codes of spec/02_pace_and_voltage.md. -/

def Rc.PW_PACE_SHORT : Rc := ⟨0x0210, 2⟩
def Rc.PW_PACE_RESTORED : Rc := ⟨0x0211, 0⟩
def Rc.PW_AVS_FAULT : Rc := ⟨0x0212, 3⟩
def Rc.PW_AVS_MISMATCH : Rc := ⟨0x0213, 2⟩
def Rc.PW_AVS_ALERT : Rc := ⟨0x0214, 2⟩
def Rc.PW_VSTEP : Rc := ⟨0x0215, 0⟩
def Rc.PW_METER_FAULT : Rc := ⟨0x0216, 2⟩
def Rc.PW_GOV_LIMITS : Rc := ⟨0x0217, 1⟩
def Rc.PW_GOV_NOREQ : Rc := ⟨0x0218, 1⟩
def Rc.PW_GOV_NO_METER : Rc := ⟨0x0219, 1⟩
def Rc.PW_GOV_NO_AVS : Rc := ⟨0x021A, 1⟩

/-! Codes of spec/21_dormant_and_self_test.md. -/

def Rc.PW_DM_NO_WAKE : Rc := ⟨0x0220, 1⟩
def Rc.PW_DM_TIMEOUT : Rc := ⟨0x0221, 1⟩
def Rc.PW_DM_DRAIN : Rc := ⟨0x0222, 1⟩
def Rc.PW_DM_ABORTED : Rc := ⟨0x0223, 1⟩
def Rc.PW_DM_WAKE : Rc := ⟨0x0224, 0⟩

/-! Codes of spec/11_pins_and_banks.md. -/

def Rc.IO_WRONG_MODE : Rc := ⟨0x0301, 1⟩
def Rc.IO_PIN_ABSENT : Rc := ⟨0x0302, 1⟩
def Rc.IO_PIN_OFF : Rc := ⟨0x0303, 1⟩
def Rc.IO_PIN_HELD : Rc := ⟨0x0304, 1⟩
def Rc.IO_PIN_LOST : Rc := ⟨0x0305, 2⟩
def Rc.IO_NOT_OWNER : Rc := ⟨0x0306, 1⟩
def Rc.IO_PIN_ON : Rc := ⟨0x0307, 1⟩
def Rc.IO_PIN_IN_USE : Rc := ⟨0x0308, 1⟩
def Rc.IO_BANK_OFF : Rc := ⟨0x0309, 1⟩
def Rc.IO_BANK_VIO : Rc := ⟨0x030A, 1⟩
def Rc.IO_BANK_BUSY : Rc := ⟨0x030B, 1⟩
def Rc.IO_VIO_LOST : Rc := ⟨0x030C, 2⟩
def Rc.IO_STD_BANK : Rc := ⟨0x030D, 1⟩
def Rc.IO_STD_VIO : Rc := ⟨0x030E, 1⟩
def Rc.IO_OPT_STD : Rc := ⟨0x030F, 1⟩
def Rc.IO_DIFF_PAIR : Rc := ⟨0x0310, 1⟩
def Rc.IO_ARR_FUNC : Rc := ⟨0x0311, 1⟩
def Rc.IO_SER_PINS : Rc := ⟨0x0312, 1⟩
def Rc.IO_SER_RATE : Rc := ⟨0x0313, 1⟩

/-! Codes of spec/06_clock_synthesisers.md. -/

def Rc.CK_WRONG_MODE : Rc := ⟨0x0401, 1⟩
def Rc.CK_SYN_OWNED : Rc := ⟨0x0402, 1⟩
def Rc.CK_SYN_BUSY : Rc := ⟨0x0403, 1⟩
def Rc.CK_REF_SEL : Rc := ⟨0x0404, 1⟩
def Rc.CK_PFD_RANGE : Rc := ⟨0x0405, 1⟩
def Rc.CK_DIV_RANGE : Rc := ⟨0x0406, 1⟩
def Rc.CK_VCO_RANGE : Rc := ⟨0x0407, 1⟩
def Rc.CK_OUT_RANGE : Rc := ⟨0x0408, 1⟩
def Rc.CK_REF_ABSENT : Rc := ⟨0x0409, 1⟩
def Rc.CK_SYN_IN_USE : Rc := ⟨0x040A, 1⟩
def Rc.CK_LOCK_TIMEOUT : Rc := ⟨0x040B, 3⟩
def Rc.CK_LOCK_LOST : Rc := ⟨0x040C, 2⟩
def Rc.CK_REF_LOSS : Rc := ⟨0x040D, 2⟩
def Rc.CK_REF_RESTORED : Rc := ⟨0x040E, 0⟩
def Rc.CK_CTL_FALLBACK : Rc := ⟨0x040F, 2⟩
def Rc.CK_LOCKED : Rc := ⟨0x0410, 0⟩

/-! Codes of spec/07_crossing_ports.md. -/

def Rc.XP_WRONG_MODE : Rc := ⟨0x0501, 1⟩
def Rc.XP_NO_ATTACH : Rc := ⟨0x0502, 1⟩
def Rc.XP_TYPE_ATTACH : Rc := ⟨0x0503, 1⟩
def Rc.XP_CLK_MISMATCH : Rc := ⟨0x0504, 1⟩
def Rc.XP_ATTACH_HELD : Rc := ⟨0x0505, 1⟩
def Rc.XP_CLK_ABSENT : Rc := ⟨0x0506, 1⟩
def Rc.XP_PORT_ON : Rc := ⟨0x0507, 1⟩
def Rc.XP_TIMEOUT : Rc := ⟨0x0508, 3⟩
def Rc.XP_OVERRUN : Rc := ⟨0x0509, 2⟩
def Rc.XP_RESYNC : Rc := ⟨0x050A, 0⟩

/-! Codes of spec/08_bandstand_time_and_triggers.md. -/

def Rc.BS_WRONG_MODE : Rc := ⟨0x0601, 1⟩
def Rc.BS_REF_SEL : Rc := ⟨0x0602, 1⟩
def Rc.BS_REF_ABSENT : Rc := ⟨0x0603, 1⟩
def Rc.BS_TB_IN_USE : Rc := ⟨0x0604, 1⟩
def Rc.BS_TB_NOT_RUNNING : Rc := ⟨0x0605, 1⟩
def Rc.BS_SRC_RESERVED : Rc := ⟨0x0606, 1⟩
def Rc.BS_LINE_DRIVEN : Rc := ⟨0x0607, 1⟩
def Rc.BS_ADJ_OWNED : Rc := ⟨0x0608, 1⟩
def Rc.BS_ADJ_BUSY : Rc := ⟨0x0609, 1⟩
def Rc.BS_LBT_OWNED : Rc := ⟨0x060A, 1⟩
def Rc.BS_TB_LOCKED : Rc := ⟨0x060B, 0⟩
def Rc.BS_TB_HOLDOVER : Rc := ⟨0x060C, 2⟩
def Rc.BS_REF_SWITCH : Rc := ⟨0x060D, 2⟩
def Rc.BS_EPOCH_LOADED : Rc := ⟨0x060E, 0⟩
def Rc.BS_TIME_STEP : Rc := ⟨0x060F, 1⟩
def Rc.BS_TT_LOSS : Rc := ⟨0x0610, 2⟩
def Rc.BS_STALE_CAL : Rc := ⟨0x0611, 2⟩
def Rc.BS_CUE_LATE : Rc := ⟨0x0612, 2⟩
def Rc.BS_CUE_DROP : Rc := ⟨0x0613, 2⟩
def Rc.BS_UNIT_ON : Rc := ⟨0x0614, 1⟩

/-! Codes of spec/09_bandstand_timers.md. -/

def Rc.BT_WRONG_MODE : Rc := ⟨0x0701, 1⟩
def Rc.BT_TIMER_OWNED : Rc := ⟨0x0702, 1⟩
def Rc.BT_TIMER_ON : Rc := ⟨0x0703, 1⟩
def Rc.BT_NO_PACE : Rc := ⟨0x0704, 1⟩
def Rc.BT_RESERVED : Rc := ⟨0x0705, 1⟩
def Rc.BT_NO_NEIGHBOUR : Rc := ⟨0x0706, 1⟩
def Rc.BT_LFXO_ABSENT : Rc := ⟨0x0707, 1⟩
def Rc.BT_CAP_FILTER : Rc := ⟨0x0708, 1⟩
def Rc.BT_CAP_FINE : Rc := ⟨0x0709, 1⟩
def Rc.BT_OVERCAPTURE : Rc := ⟨0x070A, 2⟩
def Rc.BT_WAKE : Rc := ⟨0x070B, 0⟩
def Rc.BT_CLAIMED : Rc := ⟨0x070C, 0⟩
def Rc.BT_RELEASED : Rc := ⟨0x070D, 0⟩
def Rc.BT_LF_HOLD : Rc := ⟨0x070E, 2⟩

/-! Codes of spec/05_queue_manager.md. -/

def Rc.QM_SHARED_PRODUCER : Rc := ⟨0x0801, 1⟩
def Rc.QM_SHARED_CONSUMER : Rc := ⟨0x0802, 1⟩
def Rc.QM_LANE_ALIGN : Rc := ⟨0x0803, 1⟩
def Rc.QM_LANE_OVERLAP : Rc := ⟨0x0804, 1⟩
def Rc.QM_JOURNAL_AREA : Rc := ⟨0x0805, 1⟩
def Rc.QM_WHEEL : Rc := ⟨0x0806, 1⟩
def Rc.QM_QUEUE_OFF : Rc := ⟨0x0807, 1⟩
def Rc.QM_QUEUE_BOUND : Rc := ⟨0x0808, 1⟩
def Rc.QM_QUEUE_ON : Rc := ⟨0x0809, 1⟩
def Rc.QM_OVERFLOW : Rc := ⟨0x080A, 2⟩
def Rc.QM_TRUNCATED : Rc := ⟨0x080B, 2⟩
def Rc.QM_BADLEN : Rc := ⟨0x080C, 2⟩
def Rc.QM_STORE_CE : Rc := ⟨0x080D, 0⟩
def Rc.QM_STORE_UE : Rc := ⟨0x080E, 3⟩
def Rc.QM_PORT_CUT : Rc := ⟨0x080F, 0⟩
def Rc.QM_LANE_MASK : Rc := ⟨0x0810, 1⟩
def Rc.QM_WRONG_MODE : Rc := ⟨0x0811, 1⟩

/-! Codes of spec/10_orangery_engine.md. -/

def Rc.OG_WRONG_MODE : Rc := ⟨0x0901, 1⟩
def Rc.OG_WS_RANGE : Rc := ⟨0x0902, 1⟩
def Rc.OG_WS_OVERLAP : Rc := ⟨0x0903, 1⟩
def Rc.OG_CTX_ON : Rc := ⟨0x0904, 1⟩
def Rc.OG_WS_BUSY : Rc := ⟨0x0905, 1⟩
def Rc.OG_DESC_BAD : Rc := ⟨0x0906, 1⟩
def Rc.OG_DESC_RESERVED : Rc := ⟨0x0907, 1⟩
def Rc.OG_BAD_OP : Rc := ⟨0x0908, 1⟩
def Rc.OG_BAD_FORMAT : Rc := ⟨0x0909, 1⟩
def Rc.OG_BAD_SIZE : Rc := ⟨0x090A, 1⟩
def Rc.OG_NO_STREAM : Rc := ⟨0x090B, 1⟩
def Rc.OG_ADDR_RANGE : Rc := ⟨0x090C, 1⟩
def Rc.OG_ADDR_OVERLAP : Rc := ⟨0x090D, 1⟩
def Rc.OG_ABORTED : Rc := ⟨0x090E, 1⟩
def Rc.OG_INPUT_UE : Rc := ⟨0x090F, 2⟩
def Rc.OG_WS_CE : Rc := ⟨0x0910, 0⟩
def Rc.OG_WS_UE : Rc := ⟨0x0911, 3⟩
def Rc.OG_RESULT_TRUNC : Rc := ⟨0x0912, 2⟩
def Rc.OG_HALTED : Rc := ⟨0x0913, 1⟩
def Rc.OG_DESC_FRAMING : Rc := ⟨0x0914, 1⟩
def Rc.OG_OVERFLOW : Rc := ⟨0x0915, 2⟩

/-! Codes of spec/13_pcie_endpoint_and_dma.md. -/

def Rc.PX_WRONG_MODE : Rc := ⟨0x0A01, 1⟩
def Rc.PX_CH_ON : Rc := ⟨0x0A02, 1⟩
def Rc.PX_RING : Rc := ⟨0x0A03, 1⟩
def Rc.PX_DIR : Rc := ⟨0x0A04, 1⟩
def Rc.PX_DESC_BAD : Rc := ⟨0x0A05, 2⟩
def Rc.PX_RING_OVER : Rc := ⟨0x0A06, 2⟩
def Rc.PX_CPL_ERR : Rc := ⟨0x0A07, 2⟩
def Rc.PX_CPL_TIMEOUT : Rc := ⟨0x0A08, 2⟩
def Rc.PX_DOORBELL : Rc := ⟨0x0A09, 1⟩
def Rc.PX_GUARD : Rc := ⟨0x0A0A, 2⟩
def Rc.PX_LATE_ANSWER : Rc := ⟨0x0A0B, 1⟩
def Rc.PX_WRITE_DROP : Rc := ⟨0x0A0C, 2⟩
def Rc.PX_NO_DESIGN : Rc := ⟨0x0A0D, 1⟩
def Rc.PX_MALFORMED : Rc := ⟨0x0A0E, 3⟩
def Rc.PX_POISONED : Rc := ⟨0x0A0F, 2⟩
def Rc.PX_UNSUPPORTED : Rc := ⟨0x0A10, 1⟩
def Rc.PX_UNEXP_CPL : Rc := ⟨0x0A11, 2⟩
def Rc.PX_LINK_UP : Rc := ⟨0x0A12, 0⟩
def Rc.PX_LINK_DOWN : Rc := ⟨0x0A13, 2⟩
def Rc.PX_DSTATE : Rc := ⟨0x0A14, 0⟩
def Rc.PX_DMA_RESET : Rc := ⟨0x0A15, 2⟩
def Rc.PX_ID_PENDING : Rc := ⟨0x0A16, 1⟩
def Rc.PX_DORMANT_LINK : Rc := ⟨0x0A17, 1⟩

/-! Codes of spec/14_hokuox_fabric.md. -/

def Rc.HX_WRONG_MODE : Rc := ⟨0x0B01, 1⟩
def Rc.HX_NO_ROUTE : Rc := ⟨0x0B02, 2⟩
def Rc.HX_PORT_ON : Rc := ⟨0x0B03, 1⟩
def Rc.HX_PORT_WIDTH : Rc := ⟨0x0B04, 1⟩
def Rc.HX_QPLL_RATE : Rc := ⟨0x0B05, 1⟩
def Rc.HX_FEC_RATE : Rc := ⟨0x0B06, 1⟩
def Rc.HX_MIRROR_HELD : Rc := ⟨0x0B07, 1⟩
def Rc.HX_LINK_UP : Rc := ⟨0x0B08, 0⟩
def Rc.HX_LINK_DOWN : Rc := ⟨0x0B09, 2⟩
def Rc.HX_LINK_MISMATCH : Rc := ⟨0x0B0A, 2⟩
def Rc.HX_VIOLATION : Rc := ⟨0x0B0B, 2⟩
def Rc.HX_ELECTED : Rc := ⟨0x0B0C, 0⟩
def Rc.HX_ADDR_ASSIGNED : Rc := ⟨0x0B0D, 0⟩
def Rc.HX_ADDR_CONFLICT : Rc := ⟨0x0B0E, 1⟩
def Rc.HX_FABRIC_FULL : Rc := ⟨0x0B0F, 2⟩
def Rc.HX_TOO_DEEP : Rc := ⟨0x0B10, 2⟩
def Rc.HX_ROUTE_CHANGE : Rc := ⟨0x0B11, 1⟩
def Rc.HX_NO_ADDRESS : Rc := ⟨0x0B12, 1⟩
def Rc.HX_EP_RANGE : Rc := ⟨0x0B13, 1⟩
def Rc.HX_EP_PORT : Rc := ⟨0x0B14, 1⟩
def Rc.HX_EP_CREDITS : Rc := ⟨0x0B15, 1⟩
def Rc.HX_EP_ON : Rc := ⟨0x0B16, 1⟩
def Rc.HX_CH_BROKEN : Rc := ⟨0x0B17, 2⟩
def Rc.HX_CSR_LOST : Rc := ⟨0x0B18, 2⟩
def Rc.HX_TIME_LOST : Rc := ⟨0x0B19, 2⟩
def Rc.HX_DORMANT_BUSY : Rc := ⟨0x0B1A, 1⟩

/-! Codes of spec/15_mirrored_pair.md. -/

def Rc.MI_WRONG_MODE : Rc := ⟨0x0C01, 1⟩
def Rc.MI_NO_PORT : Rc := ⟨0x0C02, 1⟩
def Rc.MI_NO_JOURNAL : Rc := ⟨0x0C03, 1⟩
def Rc.MI_DECL_RANGE : Rc := ⟨0x0C04, 1⟩
def Rc.MI_DECL_OVERLAP : Rc := ⟨0x0C05, 1⟩
def Rc.MI_DECL_LIMIT : Rc := ⟨0x0C06, 1⟩
def Rc.MI_WITNESS : Rc := ⟨0x0C07, 1⟩
def Rc.MI_ON : Rc := ⟨0x0C08, 1⟩
def Rc.MI_DECL_MISMATCH : Rc := ⟨0x0C09, 2⟩
def Rc.MI_ROLE_CONFLICT : Rc := ⟨0x0C0A, 1⟩
def Rc.MI_ROLE : Rc := ⟨0x0C0B, 0⟩
def Rc.MI_SYNC : Rc := ⟨0x0C0C, 0⟩
def Rc.MI_PEER_LOST : Rc := ⟨0x0C0D, 2⟩
def Rc.MI_PROMOTED : Rc := ⟨0x0C0E, 2⟩
def Rc.MI_DEMOTED : Rc := ⟨0x0C0F, 2⟩
def Rc.MI_SPLIT_BRAIN : Rc := ⟨0x0C10, 3⟩
def Rc.MI_JOURNAL_FULL : Rc := ⟨0x0C11, 2⟩
def Rc.MI_EPOCH_BAD : Rc := ⟨0x0C12, 2⟩
def Rc.MI_SEC_WRITE : Rc := ⟨0x0C13, 1⟩
def Rc.MI_LEASE_LOST : Rc := ⟨0x0C14, 2⟩
def Rc.MI_WRONG_STATE : Rc := ⟨0x0C15, 1⟩
def Rc.MI_PAIRED : Rc := ⟨0x0C16, 1⟩

/-! Codes of spec/16_lodge_core_and_debug.md. -/

def Rc.LG_WRONG_MODE : Rc := ⟨0x0D01, 1⟩
def Rc.LG_RESERVED : Rc := ⟨0x0D02, 1⟩
def Rc.LG_PERIPH_ON : Rc := ⟨0x0D03, 1⟩
def Rc.LG_CORE_RUNNING : Rc := ⟨0x0D04, 1⟩
def Rc.LG_MEM_CE : Rc := ⟨0x0D05, 0⟩
def Rc.LG_MEM_UE : Rc := ⟨0x0D06, 3⟩
def Rc.LG_WD_WARN : Rc := ⟨0x0D07, 2⟩
def Rc.LG_WD_RESET : Rc := ⟨0x0D08, 3⟩
def Rc.LG_WD_BADKICK : Rc := ⟨0x0D09, 1⟩
def Rc.LG_MBOX_BUSY : Rc := ⟨0x0D0A, 1⟩
def Rc.LG_AWIN_GUARD : Rc := ⟨0x0D0B, 2⟩
def Rc.LG_HALT : Rc := ⟨0x0D0C, 0⟩
def Rc.LG_RESUME : Rc := ⟨0x0D0D, 0⟩
def Rc.LG_HALTED : Rc := ⟨0x0D0E, 1⟩
def Rc.LG_SCAN_MODE : Rc := ⟨0x0D0F, 1⟩
def Rc.LG_UART_OVR : Rc := ⟨0x0D10, 2⟩

/-! Codes of spec/20_upkeep_and_telemetry.md. -/

def Rc.BV_WRONG_MODE : Rc := ⟨0x0E01, 1⟩
def Rc.BV_CFG_CE : Rc := ⟨0x0E02, 0⟩
def Rc.BV_CFG_UE : Rc := ⟨0x0E03, 3⟩
def Rc.BV_SCRUB_STARVED : Rc := ⟨0x0E04, 2⟩
def Rc.BV_REPAIR_START : Rc := ⟨0x0E05, 1⟩
def Rc.BV_REPAIR_DONE : Rc := ⟨0x0E06, 0⟩
def Rc.BV_REPAIR_FAIL : Rc := ⟨0x0E07, 2⟩
def Rc.BV_PLOT_HELD : Rc := ⟨0x0E08, 2⟩
def Rc.BV_NOT_HELD : Rc := ⟨0x0E09, 1⟩
def Rc.BV_HANDBACK : Rc := ⟨0x0E0A, 0⟩
def Rc.BV_CAL_FORCED : Rc := ⟨0x0E0B, 1⟩
def Rc.BV_TEMP_HIGH : Rc := ⟨0x0E0C, 2⟩
def Rc.BV_TEMP_CRIT : Rc := ⟨0x0E0D, 3⟩
def Rc.BV_RAIL_RANGE : Rc := ⟨0x0E0E, 2⟩
def Rc.BV_SENSOR_TAMPER : Rc := ⟨0x0E0F, 3⟩
def Rc.BV_SMB_PEC : Rc := ⟨0x0E10, 1⟩
def Rc.BV_SMB_PROTOCOL : Rc := ⟨0x0E11, 1⟩

/-! Codes of spec/03_handshake_array.md. -/

def Rc.FB_WRONG_MODE : Rc := ⟨0x0F01, 1⟩
def Rc.FB_PLOT_BUSY : Rc := ⟨0x0F02, 1⟩
def Rc.FB_WRONG_STATE : Rc := ⟨0x0F03, 1⟩
def Rc.FB_PLOT_HELD : Rc := ⟨0x0F04, 1⟩
def Rc.FB_DRAIN_TIMEOUT : Rc := ⟨0x0F05, 2⟩
def Rc.FB_FORCED : Rc := ⟨0x0F06, 2⟩
def Rc.FB_FENCED : Rc := ⟨0x0F07, 0⟩
def Rc.FB_RELEASED : Rc := ⟨0x0F08, 0⟩
def Rc.FB_STALL : Rc := ⟨0x0F09, 1⟩
def Rc.FB_HEDGE_PROTO : Rc := ⟨0x0F0A, 2⟩
def Rc.FB_DR_ILLEGAL : Rc := ⟨0x0F0B, 2⟩
def Rc.FB_EL_OVERRUN : Rc := ⟨0x0F0C, 2⟩
def Rc.FB_ROUTE_CONFLICT : Rc := ⟨0x0F0D, 1⟩
def Rc.FB_HEDGE_UNDECLARED : Rc := ⟨0x0F0E, 1⟩
def Rc.FB_STYLE_PAIR : Rc := ⟨0x0F0F, 1⟩
def Rc.FB_FRAME_RESERVED : Rc := ⟨0x0F10, 1⟩

/-! Codes of spec/04_block_memory_and_mac.md. -/

def Rc.FB_MEM_CE : Rc := ⟨0x0F11, 0⟩
def Rc.FB_MEM_UE : Rc := ⟨0x0F12, 3⟩
def Rc.FB_MEM_WIDTH : Rc := ⟨0x0F13, 1⟩
def Rc.FB_MEM_LIVE : Rc := ⟨0x0F14, 1⟩
def Rc.FB_MEM_CASCADE : Rc := ⟨0x0F15, 1⟩
def Rc.FB_MAC_OVF : Rc := ⟨0x0F16, 2⟩
def Rc.FB_MAC_CASCADE : Rc := ⟨0x0F17, 1⟩
def Rc.FB_MEM_INJECT : Rc := ⟨0x0F18, 0⟩

/-! Codes of spec/12_serial_lanes.md. -/

def Rc.SL_WRONG_MODE : Rc := ⟨0x1001, 1⟩
def Rc.SL_LANE_ABSENT : Rc := ⟨0x1002, 1⟩
def Rc.SL_LANE_OWNED : Rc := ⟨0x1003, 1⟩
def Rc.SL_QPLL_OWNED : Rc := ⟨0x1004, 1⟩
def Rc.SL_QPLL_IN_USE : Rc := ⟨0x1005, 1⟩
def Rc.SL_QPLL_RANGE : Rc := ⟨0x1006, 1⟩
def Rc.SL_REF_ABSENT : Rc := ⟨0x1007, 1⟩
def Rc.SL_QPLL_OFF : Rc := ⟨0x1008, 1⟩
def Rc.SL_PCS_MODE : Rc := ⟨0x1009, 1⟩
def Rc.SL_RATE_RANGE : Rc := ⟨0x100A, 1⟩
def Rc.SL_PCS_RATE : Rc := ⟨0x100B, 1⟩
def Rc.SL_EQ_RANGE : Rc := ⟨0x100C, 1⟩
def Rc.SL_LANE_ON : Rc := ⟨0x100D, 1⟩
def Rc.SL_LANE_BUSY : Rc := ⟨0x100E, 1⟩
def Rc.SL_QPLL_LOCK_TIMEOUT : Rc := ⟨0x100F, 3⟩
def Rc.SL_QPLL_LOST : Rc := ⟨0x1010, 2⟩
def Rc.SL_CDR_LOST : Rc := ⟨0x1011, 2⟩
def Rc.SL_ALIGN_LOST : Rc := ⟨0x1012, 2⟩
def Rc.SL_CODE_ERR : Rc := ⟨0x1013, 1⟩
def Rc.SL_PRBS_ERR : Rc := ⟨0x1014, 1⟩

/-! Codes of spec/19_field_update.md. -/

def Rc.UP_MAGIC : Rc := ⟨0x1101, 1⟩
def Rc.UP_HEADER : Rc := ⟨0x1102, 1⟩
def Rc.UP_PART : Rc := ⟨0x1103, 1⟩
def Rc.UP_SIG_POLICY : Rc := ⟨0x1104, 2⟩
def Rc.UP_MANIFEST : Rc := ⟨0x1105, 2⟩
def Rc.UP_NO_FLASH : Rc := ⟨0x1106, 1⟩
def Rc.UP_AREA_SIZE : Rc := ⟨0x1107, 1⟩
def Rc.UP_COMPONENT : Rc := ⟨0x1108, 2⟩
def Rc.UP_BUSY : Rc := ⟨0x1109, 1⟩
def Rc.UP_NOT_TARGET : Rc := ⟨0x110A, 1⟩
def Rc.UP_NOT_COORD : Rc := ⟨0x110B, 1⟩
def Rc.UP_NOT_STAGED : Rc := ⟨0x110C, 1⟩
def Rc.UP_SOURCE : Rc := ⟨0x110D, 2⟩
def Rc.UP_BLOCK_BAD : Rc := ⟨0x110E, 2⟩
def Rc.UP_PATH_LOST : Rc := ⟨0x110F, 2⟩
def Rc.UP_FLASH_WRITE : Rc := ⟨0x1110, 3⟩
def Rc.UP_VOTE : Rc := ⟨0x1111, 2⟩
def Rc.UP_AREA_BAD : Rc := ⟨0x1112, 2⟩
def Rc.UP_SETTINGS : Rc := ⟨0x1113, 2⟩
def Rc.UP_STAGE_ORDER : Rc := ⟨0x1114, 1⟩
def Rc.UP_BEGUN : Rc := ⟨0x1115, 0⟩
def Rc.UP_STAGED : Rc := ⟨0x1116, 0⟩
def Rc.UP_COMMITTED : Rc := ⟨0x1117, 0⟩
def Rc.UP_ABORTED : Rc := ⟨0x1118, 1⟩
def Rc.UP_TRIAL : Rc := ⟨0x1119, 0⟩
def Rc.UP_CONFIRMED : Rc := ⟨0x111A, 0⟩
def Rc.UP_REVERTED : Rc := ⟨0x111B, 2⟩
def Rc.UP_INDOUBT : Rc := ⟨0x111C, 2⟩
def Rc.UP_FORCED_ABORT : Rc := ⟨0x111D, 2⟩

/-! Codes of spec/21_dormant_and_self_test.md. -/

def Rc.TS_NO_REF : Rc := ⟨0x1201, 1⟩
def Rc.TS_VCORE : Rc := ⟨0x1202, 1⟩
def Rc.TS_TEMP : Rc := ⟨0x1203, 1⟩
def Rc.TS_NONE : Rc := ⟨0x1204, 1⟩
def Rc.TS_STARTED : Rc := ⟨0x1205, 0⟩
def Rc.TS_PASS : Rc := ⟨0x1206, 0⟩
def Rc.TS_FAIL : Rc := ⟨0x1207, 3⟩
def Rc.TS_COND_LOST : Rc := ⟨0x1208, 3⟩
def Rc.TS_DONE : Rc := ⟨0x1209, 0⟩

end Sys2Proof.Machine
end

