-- ==== Sys2Proof/Machine/RegMap.lean ====
section
/-! DEFINITION. The register map: one `Field` per register field, written from the register tables of spec/01 to
spec/22 (offset, stride over the index, lowest bit, width, reset value, access code of R22, legal values where the
table names reserved ones, R21), and one `Reg` row per register. A register array is one name with a stride. -/

namespace Sys2Proof.Machine

/-- The access codes of Table DV-2 (R22). `w1cAny` is the W1C of counters: a write of 1 to any bit of the field
clears the whole field. -/
inductive Acc where
  | ro | rw | wo | w1c | w1cAny | rwl | rwo
  deriving DecidableEq, Repr

/-- A field of a register (or, with `off` at or above 0x100000, of an internal unit that no bus access reaches).
(DESIGN CHOICE, log entry 22.) -/
structure Field where
  off : Nat
  stride : Nat := 0
  lo : Nat := 0
  width : Nat
  reset : Nat := 0
  acc : Acc := .ro
  legal : List (Nat × Nat) := []
  deriving DecidableEq, Repr

/-- The place of element `i` of a field in the one store of numeric state. (DESIGN CHOICE, log entry 22.) -/
def Field.key (f : Field) (i : Nat) : Nat := 32 * (f.off + f.stride * i) + f.lo

/-- R21: whether a written value is no reserved encoding of the field. -/
def Field.accepts (f : Field) (v : Nat) : Bool := f.legal.isEmpty || f.legal.any fun r => r.1 ≤ v && v ≤ r.2

/-- A register (or register array): where it lies and which fields it has. -/
structure Reg where
  name : String
  off : Nat
  stride : Nat
  count : Nat
  fields : List Field
  deriving DecidableEq, Repr


/-! GH registers (spec/17, 18, 19). The reset values of fields that the spec calls fused or battery-held, or gives '—',
are DESIGN CHOICE, log entries 6 and 48. -/

def GH_IDENT.PART : Field := { off := 0x0, stride := 0x0, lo := 0, width := 16, reset := 0x1536, acc := .ro }
def GH_IDENT.STEPPING : Field := { off := 0x0, stride := 0x0, lo := 16, width := 8, reset := 0xA1, acc := .ro }
def GH_IDENT.SEALED : Field := { off := 0x0, stride := 0x0, lo := 24, width := 1, reset := 0x0, acc := .ro }
def GH_IDENT.PKG : Field := { off := 0x0, stride := 0x0, lo := 25, width := 1, reset := 0x0, acc := .ro }
def GH_IDENT.reg : Reg := ⟨"GH_IDENT", 0x0, 0x0, 1, [GH_IDENT.PART, GH_IDENT.STEPPING, GH_IDENT.SEALED, GH_IDENT.PKG]⟩
def GH_CTL.RUN_EN : Field := { off := 0x4, stride := 0x0, lo := 0, width := 1, reset := 0x0, acc := .rw }
def GH_CTL.reg : Reg := ⟨"GH_CTL", 0x4, 0x0, 1, [GH_CTL.RUN_EN]⟩
def GH_DIEID_LO.ID : Field := { off := 0x8, stride := 0x0, lo := 0, width := 32, reset := 0x0, acc := .ro }
def GH_DIEID_LO.reg : Reg := ⟨"GH_DIEID_LO", 0x8, 0x0, 1, [GH_DIEID_LO.ID]⟩
def GH_DIEID_HI.ID : Field := { off := 0xC, stride := 0x0, lo := 0, width := 32, reset := 0x0, acc := .ro }
def GH_DIEID_HI.reg : Reg := ⟨"GH_DIEID_HI", 0xC, 0x0, 1, [GH_DIEID_HI.ID]⟩
def GH_REFUSE.CODE : Field := { off := 0x10, stride := 0x0, lo := 0, width := 16, reset := 0x0, acc := .ro }
def GH_REFUSE.OBJ : Field := { off := 0x10, stride := 0x0, lo := 16, width := 16, reset := 0x0, acc := .ro }
def GH_REFUSE.reg : Reg := ⟨"GH_REFUSE", 0x10, 0x0, 1, [GH_REFUSE.CODE, GH_REFUSE.OBJ]⟩
def GH_IRQ.CMD : Field := { off := 0x14, stride := 0x0, lo := 0, width := 1, reset := 0x0, acc := .w1c }
def GH_IRQ.KEY : Field := { off := 0x14, stride := 0x0, lo := 1, width := 1, reset := 0x0, acc := .w1c }
def GH_IRQ.TAMPER : Field := { off := 0x14, stride := 0x0, lo := 2, width := 1, reset := 0x0, acc := .w1c }
def GH_IRQ.DENIED : Field := { off := 0x14, stride := 0x0, lo := 3, width := 1, reset := 0x0, acc := .w1c }
def GH_IRQ.DEBUG : Field := { off := 0x14, stride := 0x0, lo := 4, width := 1, reset := 0x0, acc := .w1c }
def GH_IRQ.UNLOCK : Field := { off := 0x14, stride := 0x0, lo := 5, width := 1, reset := 0x0, acc := .w1c }
def GH_IRQ.UPD : Field := { off := 0x14, stride := 0x0, lo := 6, width := 1, reset := 0x0, acc := .w1c }
def GH_IRQ.reg : Reg := ⟨"GH_IRQ", 0x14, 0x0, 1, [GH_IRQ.CMD, GH_IRQ.KEY, GH_IRQ.TAMPER, GH_IRQ.DENIED, GH_IRQ.DEBUG, GH_IRQ.UNLOCK, GH_IRQ.UPD]⟩
def GH_IE.IE : Field := { off := 0x18, stride := 0x0, lo := 0, width := 7, reset := 0x0, acc := .rw }
def GH_IE.reg : Reg := ⟨"GH_IE", 0x18, 0x0, 1, [GH_IE.IE]⟩
def GH_UNLOCK.KEY : Field := { off := 0x1C, stride := 0x0, lo := 0, width := 32, reset := 0x0, acc := .wo }
def GH_UNLOCK.reg : Reg := ⟨"GH_UNLOCK", 0x1C, 0x0, 1, [GH_UNLOCK.KEY]⟩
def GH_STATUS.STATE : Field := { off := 0x20, stride := 0x0, lo := 0, width := 3, reset := 0x0, acc := .ro }
def GH_STATUS.UNLOCK_OPEN : Field := { off := 0x20, stride := 0x0, lo := 3, width := 1, reset := 0x0, acc := .ro }
def GH_STATUS.UNLOCK_ID : Field := { off := 0x20, stride := 0x0, lo := 4, width := 3, reset := 0x7, acc := .ro }
def GH_STATUS.UNLOCK_ABORT : Field := { off := 0x20, stride := 0x0, lo := 7, width := 1, reset := 0x0, acc := .w1c }
def GH_STATUS.OP : Field := { off := 0x20, stride := 0x0, lo := 8, width := 8, reset := 0x0, acc := .ro }
def GH_STATUS.RESULT : Field := { off := 0x20, stride := 0x0, lo := 16, width := 16, reset := 0x0, acc := .ro }
def GH_STATUS.reg : Reg := ⟨"GH_STATUS", 0x20, 0x0, 1, [GH_STATUS.STATE, GH_STATUS.UNLOCK_OPEN, GH_STATUS.UNLOCK_ID, GH_STATUS.UNLOCK_ABORT, GH_STATUS.OP, GH_STATUS.RESULT]⟩
def GH_CMD.OP : Field := { off := 0x24, stride := 0x0, lo := 0, width := 8, reset := 0x0, acc := .wo }
def GH_CMD.reg : Reg := ⟨"GH_CMD", 0x24, 0x0, 1, [GH_CMD.OP]⟩
def GH_CMDOWN.OWNER : Field := { off := 0x28, stride := 0x0, lo := 0, width := 3, reset := 0x7, acc := .ro }
def GH_CMDOWN.CLAIM : Field := { off := 0x28, stride := 0x0, lo := 3, width := 1, reset := 0x0, acc := .wo }
def GH_CMDOWN.RELEASE : Field := { off := 0x28, stride := 0x0, lo := 4, width := 1, reset := 0x0, acc := .wo }
def GH_CMDOWN.reg : Reg := ⟨"GH_CMDOWN", 0x28, 0x0, 1, [GH_CMDOWN.OWNER, GH_CMDOWN.CLAIM, GH_CMDOWN.RELEASE]⟩
def GH_ARG.ARG : Field := { off := 0x30, stride := 0x4, lo := 0, width := 32, reset := 0x0, acc := .rwo }
def GH_ARG.reg : Reg := ⟨"GH_ARG", 0x30, 0x4, 4, [GH_ARG.ARG]⟩
def GH_DBUF.DATA : Field := { off := 0x400, stride := 0x4, lo := 0, width := 32, reset := 0x0, acc := .rwo }
def GH_DBUF.reg : Reg := ⟨"GH_DBUF", 0x400, 0x4, 768, [GH_DBUF.DATA]⟩
def GH_KSTAT.STATE : Field := { off := 0x40, stride := 0x4, lo := 0, width := 2, reset := 0x0, acc := .ro }
def GH_KSTAT.USAGE : Field := { off := 0x40, stride := 0x4, lo := 2, width := 2, reset := 0x0, acc := .ro }
def GH_KSTAT.KILLED : Field := { off := 0x40, stride := 0x4, lo := 4, width := 1, reset := 0x0, acc := .ro }
def GH_KSTAT.USE : Field := { off := 0x40, stride := 0x4, lo := 8, width := 8, reset := 0x0, acc := .ro }
def GH_KSTAT.KCV : Field := { off := 0x40, stride := 0x4, lo := 16, width := 16, reset := 0x0, acc := .ro }
def GH_KSTAT.reg : Reg := ⟨"GH_KSTAT", 0x40, 0x4, 8, [GH_KSTAT.STATE, GH_KSTAT.USAGE, GH_KSTAT.KILLED, GH_KSTAT.USE, GH_KSTAT.KCV]⟩
def GH_PKSTAT.STATE : Field := { off := 0x60, stride := 0x4, lo := 0, width := 2, reset := 0x0, acc := .ro }
def GH_PKSTAT.KIND : Field := { off := 0x60, stride := 0x4, lo := 2, width := 1, reset := 0x0, acc := .ro }
def GH_PKSTAT.DEBUG : Field := { off := 0x60, stride := 0x4, lo := 3, width := 1, reset := 0x0, acc := .ro }
def GH_PKSTAT.UPDATE : Field := { off := 0x60, stride := 0x4, lo := 4, width := 1, reset := 0x0, acc := .ro }
def GH_PKSTAT.HASH : Field := { off := 0x60, stride := 0x4, lo := 16, width := 16, reset := 0x0, acc := .ro }
def GH_PKSTAT.reg : Reg := ⟨"GH_PKSTAT", 0x60, 0x4, 4, [GH_PKSTAT.STATE, GH_PKSTAT.KIND, GH_PKSTAT.DEBUG, GH_PKSTAT.UPDATE, GH_PKSTAT.HASH]⟩
def GH_ARB.COUNT : Field := { off := 0x70, stride := 0x0, lo := 0, width := 7, reset := 0x0, acc := .ro }
def GH_ARB.reg : Reg := ⟨"GH_ARB", 0x70, 0x0, 1, [GH_ARB.COUNT]⟩
def GH_POLICY.DBG_OPEN : Field := { off := 0x74, stride := 0x0, lo := 0, width := 1, reset := 0x1, acc := .rwl }
def GH_POLICY.UNLOCK_HOST : Field := { off := 0x74, stride := 0x0, lo := 1, width := 1, reset := 0x1, acc := .rwl }
def GH_POLICY.REMOTE_CMD : Field := { off := 0x74, stride := 0x0, lo := 2, width := 1, reset := 0x1, acc := .rwl }
def GH_POLICY.reg : Reg := ⟨"GH_POLICY", 0x74, 0x0, 1, [GH_POLICY.DBG_OPEN, GH_POLICY.UNLOCK_HOST, GH_POLICY.REMOTE_CMD]⟩
def GH_TAMPCFG.TAMP0 : Field := { off := 0x78, stride := 0x0, lo := 0, width := 2, reset := 0x0, acc := .rwl, legal := [(0, 2)] }
def GH_TAMPCFG.TAMP1 : Field := { off := 0x78, stride := 0x0, lo := 2, width := 2, reset := 0x0, acc := .rwl, legal := [(0, 2)] }
def GH_TAMPCFG.MESH : Field := { off := 0x78, stride := 0x0, lo := 4, width := 2, reset := 0x0, acc := .rwl, legal := [(0, 2)] }
def GH_TAMPCFG.SENSOR : Field := { off := 0x78, stride := 0x0, lo := 6, width := 2, reset := 0x0, acc := .rwl, legal := [(0, 2)] }
def GH_TAMPCFG.MESH_EN : Field := { off := 0x78, stride := 0x0, lo := 8, width := 1, reset := 0x0, acc := .rwl }
def GH_TAMPCFG.reg : Reg := ⟨"GH_TAMPCFG", 0x78, 0x0, 1, [GH_TAMPCFG.TAMP0, GH_TAMPCFG.TAMP1, GH_TAMPCFG.MESH, GH_TAMPCFG.SENSOR, GH_TAMPCFG.MESH_EN]⟩
def GH_TAMPSTAT.TAMP0 : Field := { off := 0x7C, stride := 0x0, lo := 0, width := 1, reset := 0x1, acc := .ro }
def GH_TAMPSTAT.TAMP1 : Field := { off := 0x7C, stride := 0x0, lo := 1, width := 1, reset := 0x1, acc := .ro }
def GH_TAMPSTAT.TAMP0_EVT : Field := { off := 0x7C, stride := 0x0, lo := 2, width := 1, reset := 0x0, acc := .w1c }
def GH_TAMPSTAT.TAMP1_EVT : Field := { off := 0x7C, stride := 0x0, lo := 3, width := 1, reset := 0x0, acc := .w1c }
def GH_TAMPSTAT.MESH_EVT : Field := { off := 0x7C, stride := 0x0, lo := 4, width := 1, reset := 0x0, acc := .w1c }
def GH_TAMPSTAT.BATT_EVT : Field := { off := 0x7C, stride := 0x0, lo := 5, width := 1, reset := 0x0, acc := .w1c }
def GH_TAMPSTAT.BATT_LOW : Field := { off := 0x7C, stride := 0x0, lo := 6, width := 1, reset := 0x0, acc := .w1c }
def GH_TAMPSTAT.SENSOR_EVT : Field := { off := 0x7C, stride := 0x0, lo := 7, width := 1, reset := 0x0, acc := .w1c }
def GH_TAMPSTAT.reg : Reg := ⟨"GH_TAMPSTAT", 0x7C, 0x0, 1, [GH_TAMPSTAT.TAMP0, GH_TAMPSTAT.TAMP1, GH_TAMPSTAT.TAMP0_EVT, GH_TAMPSTAT.TAMP1_EVT, GH_TAMPSTAT.MESH_EVT, GH_TAMPSTAT.BATT_EVT, GH_TAMPSTAT.BATT_LOW, GH_TAMPSTAT.SENSOR_EVT]⟩
def GH_DBGSTAT.LEVEL : Field := { off := 0x80, stride := 0x0, lo := 0, width := 2, reset := 0x0, acc := .ro }
def GH_DBGSTAT.CHALLENGED : Field := { off := 0x80, stride := 0x0, lo := 2, width := 1, reset := 0x0, acc := .ro }
def GH_DBGSTAT.SLOT : Field := { off := 0x80, stride := 0x0, lo := 8, width := 2, reset := 0x0, acc := .ro }
def GH_DBGSTAT.reg : Reg := ⟨"GH_DBGSTAT", 0x80, 0x0, 1, [GH_DBGSTAT.LEVEL, GH_DBGSTAT.CHALLENGED, GH_DBGSTAT.SLOT]⟩
def GH_ACCESS.HOST : Field := { off := 0x84, stride := 0x0, lo := 0, width := 2, reset := 0x0, acc := .rwl }
def GH_ACCESS.HOKUOX_REMOTE : Field := { off := 0x84, stride := 0x0, lo := 2, width := 2, reset := 0x0, acc := .rwl }
def GH_ACCESS.FABRIC : Field := { off := 0x84, stride := 0x0, lo := 4, width := 2, reset := 0x0, acc := .rwl }
def GH_ACCESS.LODGE_U : Field := { off := 0x84, stride := 0x0, lo := 6, width := 2, reset := 0x0, acc := .rwl }
def GH_ACCESS.reg : Reg := ⟨"GH_ACCESS", 0x84, 0x0, 1, [GH_ACCESS.HOST, GH_ACCESS.HOKUOX_REMOTE, GH_ACCESS.FABRIC, GH_ACCESS.LODGE_U]⟩
def GH_DENYCNT.COUNT : Field := { off := 0x88, stride := 0x0, lo := 0, width := 16, reset := 0x0, acc := .w1cAny }
def GH_DENYCNT.reg : Reg := ⟨"GH_DENYCNT", 0x88, 0x0, 1, [GH_DENYCNT.COUNT]⟩
def GH_CFGSTAT.SRC : Field := { off := 0x90, stride := 0x0, lo := 0, width := 3, reset := 0x7, acc := .ro }
def GH_CFGSTAT.STAGE : Field := { off := 0x90, stride := 0x0, lo := 4, width := 3, reset := 0x0, acc := .ro }
def GH_CFGSTAT.AUTORUN : Field := { off := 0x90, stride := 0x0, lo := 7, width := 1, reset := 0x0, acc := .ro }
def GH_CFGSTAT.FALLBACK : Field := { off := 0x90, stride := 0x0, lo := 8, width := 1, reset := 0x0, acc := .ro }
def GH_CFGSTAT.ATTEMPTS : Field := { off := 0x90, stride := 0x0, lo := 9, width := 2, reset := 0x0, acc := .ro }
def GH_CFGSTAT.LAST : Field := { off := 0x90, stride := 0x0, lo := 16, width := 16, reset := 0x0, acc := .ro }
def GH_CFGSTAT.reg : Reg := ⟨"GH_CFGSTAT", 0x90, 0x0, 1, [GH_CFGSTAT.SRC, GH_CFGSTAT.STAGE, GH_CFGSTAT.AUTORUN, GH_CFGSTAT.FALLBACK, GH_CFGSTAT.ATTEMPTS, GH_CFGSTAT.LAST]⟩
def GH_CFGPOS.BYTES : Field := { off := 0x94, stride := 0x0, lo := 0, width := 32, reset := 0x0, acc := .ro }
def GH_CFGPOS.reg : Reg := ⟨"GH_CFGPOS", 0x94, 0x0, 1, [GH_CFGPOS.BYTES]⟩
def GH_RELT1.T : Field := { off := 0x98, stride := 0x0, lo := 0, width := 17, reset := 0x7D, acc := .rw, legal := [(8, 125000)] }
def GH_RELT1.reg : Reg := ⟨"GH_RELT1", 0x98, 0x0, 1, [GH_RELT1.T]⟩
def GH_RELT2.T : Field := { off := 0x9C, stride := 0x0, lo := 0, width := 17, reset := 0x7D, acc := .rw, legal := [(8, 125000)] }
def GH_RELT2.reg : Reg := ⟨"GH_RELT2", 0x9C, 0x0, 1, [GH_RELT2.T]⟩
def GH_RELDOM.USED : Field := { off := 0xA0, stride := 0x0, lo := 0, width := 16, reset := 0xFFFF, acc := .rw }
def GH_RELDOM.reg : Reg := ⟨"GH_RELDOM", 0xA0, 0x0, 1, [GH_RELDOM.USED]⟩
def GH_DESIGN_LO.ID : Field := { off := 0xA4, stride := 0x0, lo := 0, width := 32, reset := 0x0, acc := .ro }
def GH_DESIGN_LO.reg : Reg := ⟨"GH_DESIGN_LO", 0xA4, 0x0, 1, [GH_DESIGN_LO.ID]⟩
def GH_DESIGN_HI.ID : Field := { off := 0xA8, stride := 0x0, lo := 0, width := 32, reset := 0x0, acc := .ro }
def GH_DESIGN_HI.reg : Reg := ⟨"GH_DESIGN_HI", 0xA8, 0x0, 1, [GH_DESIGN_HI.ID]⟩
def GH_UPSTAT.STATE : Field := { off := 0xB0, stride := 0x0, lo := 0, width := 4, reset := 0x0, acc := .ro }
def GH_UPSTAT.COORD : Field := { off := 0xB0, stride := 0x0, lo := 4, width := 1, reset := 0x0, acc := .ro }
def GH_UPSTAT.AREA : Field := { off := 0xB0, stride := 0x0, lo := 5, width := 1, reset := 0x0, acc := .ro }
def GH_UPSTAT.LAST : Field := { off := 0xB0, stride := 0x0, lo := 16, width := 16, reset := 0x0, acc := .ro }
def GH_UPSTAT.reg : Reg := ⟨"GH_UPSTAT", 0xB0, 0x0, 1, [GH_UPSTAT.STATE, GH_UPSTAT.COORD, GH_UPSTAT.AREA, GH_UPSTAT.LAST]⟩
def GH_UPPKG_LO.ID : Field := { off := 0xB4, stride := 0x0, lo := 0, width := 32, reset := 0x0, acc := .ro }
def GH_UPPKG_LO.reg : Reg := ⟨"GH_UPPKG_LO", 0xB4, 0x0, 1, [GH_UPPKG_LO.ID]⟩
def GH_UPPKG_HI.ID : Field := { off := 0xB8, stride := 0x0, lo := 0, width := 32, reset := 0x0, acc := .ro }
def GH_UPPKG_HI.reg : Reg := ⟨"GH_UPPKG_HI", 0xB8, 0x0, 1, [GH_UPPKG_HI.ID]⟩
def GH_UPPROG.CHECKED : Field := { off := 0xBC, stride := 0x0, lo := 0, width := 16, reset := 0x0, acc := .ro }
def GH_UPPROG.STORED : Field := { off := 0xBC, stride := 0x0, lo := 16, width := 16, reset := 0x0, acc := .ro }
def GH_UPPROG.reg : Reg := ⟨"GH_UPPROG", 0xBC, 0x0, 1, [GH_UPPROG.CHECKED, GH_UPPROG.STORED]⟩
def GH_UPTGT.TOTAL : Field := { off := 0xC0, stride := 0x0, lo := 0, width := 8, reset := 0x0, acc := .ro }
def GH_UPTGT.STAGED : Field := { off := 0xC0, stride := 0x0, lo := 8, width := 8, reset := 0x0, acc := .ro }
def GH_UPTGT.STARTED : Field := { off := 0xC0, stride := 0x0, lo := 16, width := 8, reset := 0x0, acc := .ro }
def GH_UPTGT.FAILED : Field := { off := 0xC0, stride := 0x0, lo := 24, width := 8, reset := 0x0, acc := .ro }
def GH_UPTGT.reg : Reg := ⟨"GH_UPTGT", 0xC0, 0x0, 1, [GH_UPTGT.TOTAL, GH_UPTGT.STAGED, GH_UPTGT.STARTED, GH_UPTGT.FAILED]⟩
def GH_UPCFG.SIGPOL : Field := { off := 0xC4, stride := 0x0, lo := 0, width := 2, reset := 0x0, acc := .rwl }
def GH_UPCFG.ACT_DELAY : Field := { off := 0xC4, stride := 0x0, lo := 8, width := 8, reset := 0x14, acc := .rwl, legal := [(1, 255)] }
def GH_UPCFG.CONFIRM_T : Field := { off := 0xC4, stride := 0x0, lo := 16, width := 8, reset := 0x1E, acc := .rwl, legal := [(1, 255)] }
def GH_UPCFG.TRIAL_T : Field := { off := 0xC4, stride := 0x0, lo := 24, width := 8, reset := 0x78, acc := .rwl, legal := [(1, 255)] }
def GH_UPCFG.reg : Reg := ⟨"GH_UPCFG", 0xC4, 0x0, 1, [GH_UPCFG.SIGPOL, GH_UPCFG.ACT_DELAY, GH_UPCFG.CONFIRM_T, GH_UPCFG.TRIAL_T]⟩
def GH_UPTRIAL.REMAIN : Field := { off := 0xC8, stride := 0x0, lo := 0, width := 18, reset := 0x0, acc := .ro }
def GH_UPTRIAL.reg : Reg := ⟨"GH_UPTRIAL", 0xC8, 0x0, 1, [GH_UPTRIAL.REMAIN]⟩
def GH_STAGE.BYTES : Field := { off := 0xCC, stride := 0x0, lo := 0, width := 19, reset := 0x0, acc := .wo }
def GH_STAGE.HALF : Field := { off := 0xCC, stride := 0x0, lo := 19, width := 1, reset := 0x0, acc := .wo }
def GH_STAGE.LAST : Field := { off := 0xCC, stride := 0x0, lo := 20, width := 1, reset := 0x0, acc := .wo }
def GH_STAGE.reg : Reg := ⟨"GH_STAGE", 0xCC, 0x0, 1, [GH_STAGE.BYTES, GH_STAGE.HALF, GH_STAGE.LAST]⟩
def GH_STAGESTAT.FREE0 : Field := { off := 0xD0, stride := 0x0, lo := 0, width := 1, reset := 0x1, acc := .ro }
def GH_STAGESTAT.FREE1 : Field := { off := 0xD0, stride := 0x0, lo := 1, width := 1, reset := 0x1, acc := .ro }
def GH_STAGESTAT.reg : Reg := ⟨"GH_STAGESTAT", 0xD0, 0x0, 1, [GH_STAGESTAT.FREE0, GH_STAGESTAT.FREE1]⟩
def GH_SETADDR.ADDR : Field := { off := 0xD4, stride := 0x0, lo := 0, width := 16, reset := 0x0, acc := .rw }
def GH_SETADDR.INC : Field := { off := 0xD4, stride := 0x0, lo := 31, width := 1, reset := 0x0, acc := .rw }
def GH_SETADDR.reg : Reg := ⟨"GH_SETADDR", 0xD4, 0x0, 1, [GH_SETADDR.ADDR, GH_SETADDR.INC]⟩
def GH_SETDATA.DATA : Field := { off := 0xD8, stride := 0x0, lo := 0, width := 32, reset := 0x0, acc := .rwl }
def GH_SETDATA.reg : Reg := ⟨"GH_SETDATA", 0xD8, 0x0, 1, [GH_SETDATA.DATA]⟩
def GH_SETCTL.SAVE : Field := { off := 0xDC, stride := 0x0, lo := 0, width := 1, reset := 0x0, acc := .wo }
def GH_SETCTL.DIRTY : Field := { off := 0xDC, stride := 0x0, lo := 1, width := 1, reset := 0x0, acc := .ro }
def GH_SETCTL.SCHEMA : Field := { off := 0xDC, stride := 0x0, lo := 16, width := 16, reset := 0x0, acc := .ro }
def GH_SETCTL.reg : Reg := ⟨"GH_SETCTL", 0xDC, 0x0, 1, [GH_SETCTL.SAVE, GH_SETCTL.DIRTY, GH_SETCTL.SCHEMA]⟩

/-! PW registers (spec/01, 02, 21). MODE and the causes after reset: DESIGN CHOICE, log entry 7. -/

def PW_MODE.MODE : Field := { off := 0x1000, stride := 0x0, lo := 0, width := 3, reset := 0x1, acc := .ro }
def PW_MODE.ROLE : Field := { off := 0x1000, stride := 0x0, lo := 4, width := 2, reset := 0x0, acc := .ro }
def PW_MODE.PREV_MODE : Field := { off := 0x1000, stride := 0x0, lo := 8, width := 3, reset := 0x0, acc := .ro }
def PW_MODE.FENCED_ANY : Field := { off := 0x1000, stride := 0x0, lo := 16, width := 1, reset := 0x0, acc := .ro }
def PW_MODE.HALTED : Field := { off := 0x1000, stride := 0x0, lo := 17, width := 1, reset := 0x0, acc := .ro }
def PW_MODE.BUSY : Field := { off := 0x1000, stride := 0x0, lo := 18, width := 1, reset := 0x0, acc := .ro }
def PW_MODE.MCHG : Field := { off := 0x1000, stride := 0x0, lo := 19, width := 1, reset := 0x0, acc := .w1c }
def PW_MODE.reg : Reg := ⟨"PW_MODE", 0x1000, 0x0, 1, [PW_MODE.MODE, PW_MODE.ROLE, PW_MODE.PREV_MODE, PW_MODE.FENCED_ANY, PW_MODE.HALTED, PW_MODE.BUSY, PW_MODE.MCHG]⟩
def PW_RSTCAUSE.CAUSE : Field := { off := 0x1004, stride := 0x0, lo := 0, width := 8, reset := 0x1, acc := .w1c }
def PW_RSTCAUSE.RST_MASTER : Field := { off := 0x1004, stride := 0x0, lo := 16, width := 3, reset := 0x7, acc := .ro }
def PW_RSTCAUSE.reg : Reg := ⟨"PW_RSTCAUSE", 0x1004, 0x0, 1, [PW_RSTCAUSE.CAUSE, PW_RSTCAUSE.RST_MASTER]⟩
def PW_RSTCFG.PERST_SCOPE : Field := { off := 0x1008, stride := 0x0, lo := 0, width := 1, reset := 0x0, acc := .rw }
def PW_RSTCFG.reg : Reg := ⟨"PW_RSTCFG", 0x1008, 0x0, 1, [PW_RSTCFG.PERST_SCOPE]⟩
def PW_RDHOLD.HOLD : Field := { off := 0x100C, stride := 0x0, lo := 0, width := 16, reset := 0x0, acc := .rw }
def PW_RDHOLD.reg : Reg := ⟨"PW_RDHOLD", 0x100C, 0x0, 1, [PW_RDHOLD.HOLD]⟩
def PW_IRQMAP.VECTOR : Field := { off := 0x1400, stride := 0x4, lo := 0, width := 11, reset := 0x0, acc := .rw }
def PW_IRQMAP.MSIX_EN : Field := { off := 0x1400, stride := 0x4, lo := 16, width := 1, reset := 0x0, acc := .rw }
def PW_IRQMAP.LODGE_EN : Field := { off := 0x1400, stride := 0x4, lo := 17, width := 1, reset := 0x0, acc := .rw }
def PW_IRQMAP.EVL_EN : Field := { off := 0x1400, stride := 0x4, lo := 18, width := 1, reset := 0x0, acc := .rw }
def PW_IRQMAP.EVLINE : Field := { off := 0x1400, stride := 0x4, lo := 20, width := 4, reset := 0x0, acc := .rw }
def PW_IRQMAP.reg : Reg := ⟨"PW_IRQMAP", 0x1400, 0x4, 256, [PW_IRQMAP.VECTOR, PW_IRQMAP.MSIX_EN, PW_IRQMAP.LODGE_EN, PW_IRQMAP.EVL_EN, PW_IRQMAP.EVLINE]⟩
def PW_IRQLVL.LVL : Field := { off := 0x1800, stride := 0x4, lo := 0, width := 32, reset := 0x0, acc := .ro }
def PW_IRQLVL.reg : Reg := ⟨"PW_IRQLVL", 0x1800, 0x4, 8, [PW_IRQLVL.LVL]⟩
def PW_GOVCTL.GOV_EN : Field := { off := 0x1100, stride := 0x0, lo := 0, width := 1, reset := 0x0, acc := .rw }
def PW_GOVCTL.LOG_STEPS : Field := { off := 0x1100, stride := 0x0, lo := 1, width := 1, reset := 0x0, acc := .rw }
def PW_GOVCTL.IE_SHORT : Field := { off := 0x1100, stride := 0x0, lo := 8, width := 1, reset := 0x0, acc := .rw }
def PW_GOVCTL.IE_AVS : Field := { off := 0x1100, stride := 0x0, lo := 9, width := 1, reset := 0x0, acc := .rw }
def PW_GOVCTL.IE_METER : Field := { off := 0x1100, stride := 0x0, lo := 10, width := 1, reset := 0x0, acc := .rw }
def PW_GOVCTL.reg : Reg := ⟨"PW_GOVCTL", 0x1100, 0x0, 1, [PW_GOVCTL.GOV_EN, PW_GOVCTL.LOG_STEPS, PW_GOVCTL.IE_SHORT, PW_GOVCTL.IE_AVS, PW_GOVCTL.IE_METER]⟩
def PW_GOVREQ.PACE_REQ : Field := { off := 0x1104, stride := 0x0, lo := 0, width := 12, reset := 0x0, acc := .rw }
def PW_GOVREQ.MARGIN : Field := { off := 0x1104, stride := 0x0, lo := 12, width := 4, reset := 0x3, acc := .rw }
def PW_GOVREQ.HYST : Field := { off := 0x1104, stride := 0x0, lo := 16, width := 4, reset := 0x4, acc := .rw, legal := [(1, 15)] }
def PW_GOVREQ.FAST : Field := { off := 0x1104, stride := 0x0, lo := 20, width := 4, reset := 0xA, acc := .rw }
def PW_GOVREQ.reg : Reg := ⟨"PW_GOVREQ", 0x1104, 0x0, 1, [PW_GOVREQ.PACE_REQ, PW_GOVREQ.MARGIN, PW_GOVREQ.HYST, PW_GOVREQ.FAST]⟩
def PW_GOVTIME.PERIOD : Field := { off := 0x1108, stride := 0x0, lo := 0, width := 14, reset := 0x64, acc := .rw, legal := [(10, 10000)] }
def PW_GOVTIME.DOWN_N : Field := { off := 0x1108, stride := 0x0, lo := 14, width := 4, reset := 0x4, acc := .rw, legal := [(1, 15)] }
def PW_GOVTIME.SETTLE : Field := { off := 0x1108, stride := 0x0, lo := 18, width := 8, reset := 0x14, acc := .rw, legal := [(2, 255)] }
def PW_GOVTIME.SHORT_T : Field := { off := 0x1108, stride := 0x0, lo := 26, width := 6, reset := 0x1, acc := .rw, legal := [(1, 63)] }
def PW_GOVTIME.reg : Reg := ⟨"PW_GOVTIME", 0x1108, 0x0, 1, [PW_GOVTIME.PERIOD, PW_GOVTIME.DOWN_N, PW_GOVTIME.SETTLE, PW_GOVTIME.SHORT_T]⟩
def PW_GOVLIM.VMIN : Field := { off := 0x110C, stride := 0x0, lo := 0, width := 10, reset := 0x258, acc := .rw, legal := [(600, 950)] }
def PW_GOVLIM.VMAX : Field := { off := 0x110C, stride := 0x0, lo := 12, width := 10, reset := 0x3B6, acc := .rw, legal := [(600, 950)] }
def PW_GOVLIM.STEP : Field := { off := 0x110C, stride := 0x0, lo := 24, width := 5, reset := 0x5, acc := .rw, legal := [(1, 25)] }
def PW_GOVLIM.reg : Reg := ⟨"PW_GOVLIM", 0x110C, 0x0, 1, [PW_GOVLIM.VMIN, PW_GOVLIM.VMAX, PW_GOVLIM.STEP]⟩
def PW_VSET.VSET : Field := { off := 0x1110, stride := 0x0, lo := 0, width := 10, reset := 0x320, acc := .rw, legal := [(600, 950)] }
def PW_VSET.reg : Reg := ⟨"PW_VSET", 0x1110, 0x0, 1, [PW_VSET.VSET]⟩
def PW_GOVSTAT.VNOW : Field := { off := 0x1114, stride := 0x0, lo := 0, width := 10, reset := 0x320, acc := .ro }
def PW_GOVSTAT.STATE : Field := { off := 0x1114, stride := 0x0, lo := 12, width := 2, reset := 0x0, acc := .ro }
def PW_GOVSTAT.SHORT : Field := { off := 0x1114, stride := 0x0, lo := 16, width := 1, reset := 0x0, acc := .ro }
def PW_GOVSTAT.FLOOR : Field := { off := 0x1114, stride := 0x0, lo := 17, width := 1, reset := 0x0, acc := .ro }
def PW_GOVSTAT.MINIDX : Field := { off := 0x1114, stride := 0x0, lo := 20, width := 12, reset := 0x0, acc := .ro }
def PW_GOVSTAT.reg : Reg := ⟨"PW_GOVSTAT", 0x1114, 0x0, 1, [PW_GOVSTAT.VNOW, PW_GOVSTAT.STATE, PW_GOVSTAT.SHORT, PW_GOVSTAT.FLOOR, PW_GOVSTAT.MINIDX]⟩
def PW_GOVIRQ.SHORT_SEEN : Field := { off := 0x111C, stride := 0x0, lo := 0, width := 1, reset := 0x0, acc := .w1c }
def PW_GOVIRQ.AVS_FAULT : Field := { off := 0x111C, stride := 0x0, lo := 1, width := 1, reset := 0x0, acc := .w1c }
def PW_GOVIRQ.METER_FAULT : Field := { off := 0x111C, stride := 0x0, lo := 2, width := 1, reset := 0x0, acc := .w1c }
def PW_GOVIRQ.reg : Reg := ⟨"PW_GOVIRQ", 0x111C, 0x0, 1, [PW_GOVIRQ.SHORT_SEEN, PW_GOVIRQ.AVS_FAULT, PW_GOVIRQ.METER_FAULT]⟩
def PW_METERMASK_LO.MASK : Field := { off := 0x1120, stride := 0x0, lo := 0, width := 32, reset := 0xFFFFFFFF, acc := .rw }
def PW_METERMASK_LO.reg : Reg := ⟨"PW_METERMASK_LO", 0x1120, 0x0, 1, [PW_METERMASK_LO.MASK]⟩
def PW_METERMASK_HI.MASK : Field := { off := 0x1124, stride := 0x0, lo := 0, width := 32, reset := 0xFFFFFFFF, acc := .rw }
def PW_METERMASK_HI.reg : Reg := ⟨"PW_METERMASK_HI", 0x1124, 0x0, 1, [PW_METERMASK_HI.MASK]⟩
def PW_AVSCFG.DIV : Field := { off := 0x1130, stride := 0x0, lo := 0, width := 4, reset := 0xB, acc := .rw, legal := [(4, 15)] }
def PW_AVSCFG.RAIL : Field := { off := 0x1130, stride := 0x0, lo := 16, width := 4, reset := 0x0, acc := .rw }
def PW_AVSCFG.TELEM_EN : Field := { off := 0x1130, stride := 0x0, lo := 24, width := 1, reset := 0x1, acc := .rw }
def PW_AVSCFG.reg : Reg := ⟨"PW_AVSCFG", 0x1130, 0x0, 1, [PW_AVSCFG.DIV, PW_AVSCFG.RAIL, PW_AVSCFG.TELEM_EN]⟩
def PW_AVSSTAT.VREAD : Field := { off := 0x1134, stride := 0x0, lo := 0, width := 10, reset := 0x0, acc := .ro }
def PW_AVSSTAT.NOCUR : Field := { off := 0x1134, stride := 0x0, lo := 12, width := 1, reset := 0x0, acc := .ro }
def PW_AVSSTAT.NOTEMP : Field := { off := 0x1134, stride := 0x0, lo := 13, width := 1, reset := 0x0, acc := .ro }
def PW_AVSSTAT.ABSENT : Field := { off := 0x1134, stride := 0x0, lo := 14, width := 1, reset := 0x0, acc := .ro }
def PW_AVSSTAT.ALERT : Field := { off := 0x1134, stride := 0x0, lo := 15, width := 1, reset := 0x0, acc := .ro }
def PW_AVSSTAT.ERRS : Field := { off := 0x1134, stride := 0x0, lo := 16, width := 8, reset := 0x0, acc := .w1cAny }
def PW_AVSSTAT.reg : Reg := ⟨"PW_AVSSTAT", 0x1134, 0x0, 1, [PW_AVSSTAT.VREAD, PW_AVSSTAT.NOCUR, PW_AVSSTAT.NOTEMP, PW_AVSSTAT.ABSENT, PW_AVSSTAT.ALERT, PW_AVSSTAT.ERRS]⟩
def PW_AVSDATA.CURRENT : Field := { off := 0x1138, stride := 0x0, lo := 0, width := 16, reset := 0x0, acc := .ro }
def PW_AVSDATA.TEMP : Field := { off := 0x1138, stride := 0x0, lo := 16, width := 16, reset := 0x0, acc := .ro }
def PW_AVSDATA.reg : Reg := ⟨"PW_AVSDATA", 0x1138, 0x0, 1, [PW_AVSDATA.CURRENT, PW_AVSDATA.TEMP]⟩
def PW_REFUSE.CODE : Field := { off := 0x113C, stride := 0x0, lo := 0, width := 16, reset := 0x0, acc := .ro }
def PW_REFUSE.OBJ : Field := { off := 0x113C, stride := 0x0, lo := 16, width := 16, reset := 0x0, acc := .ro }
def PW_REFUSE.reg : Reg := ⟨"PW_REFUSE", 0x113C, 0x0, 1, [PW_REFUSE.CODE, PW_REFUSE.OBJ]⟩
def PW_METER.INDEX : Field := { off := 0x1200, stride := 0x4, lo := 0, width := 12, reset := 0x0, acc := .ro }
def PW_METER.VALID : Field := { off := 0x1200, stride := 0x4, lo := 12, width := 1, reset := 0x0, acc := .ro }
def PW_METER.FAULT : Field := { off := 0x1200, stride := 0x4, lo := 13, width := 1, reset := 0x0, acc := .ro }
def PW_METER.SEQ : Field := { off := 0x1200, stride := 0x4, lo := 16, width := 16, reset := 0x0, acc := .ro }
def PW_METER.reg : Reg := ⟨"PW_METER", 0x1200, 0x4, 64, [PW_METER.INDEX, PW_METER.VALID, PW_METER.FAULT, PW_METER.SEQ]⟩
def PW_DMCTL.ENTER : Field := { off := 0x1300, stride := 0x0, lo := 0, width := 1, reset := 0x0, acc := .wo }
def PW_DMCTL.reg : Reg := ⟨"PW_DMCTL", 0x1300, 0x0, 1, [PW_DMCTL.ENTER]⟩
def PW_DMCFG.WAIT_T : Field := { off := 0x1304, stride := 0x0, lo := 0, width := 16, reset := 0x1F4, acc := .rw, legal := [(1, 65535)] }
def PW_DMCFG.FORCE : Field := { off := 0x1304, stride := 0x0, lo := 16, width := 1, reset := 0x0, acc := .rw }
def PW_DMCFG.WAKEN_EN : Field := { off := 0x1304, stride := 0x0, lo := 17, width := 1, reset := 0x1, acc := .rw }
def PW_DMCFG.IE_WOKE : Field := { off := 0x1304, stride := 0x0, lo := 24, width := 1, reset := 0x0, acc := .rw }
def PW_DMCFG.IE_REF : Field := { off := 0x1304, stride := 0x0, lo := 25, width := 1, reset := 0x0, acc := .rw }
def PW_DMCFG.reg : Reg := ⟨"PW_DMCFG", 0x1304, 0x0, 1, [PW_DMCFG.WAIT_T, PW_DMCFG.FORCE, PW_DMCFG.WAKEN_EN, PW_DMCFG.IE_WOKE, PW_DMCFG.IE_REF]⟩
def PW_DMSTAT.PHASE : Field := { off := 0x1308, stride := 0x0, lo := 0, width := 2, reset := 0x0, acc := .ro }
def PW_DMSTAT.CAUSE : Field := { off := 0x1308, stride := 0x0, lo := 4, width := 4, reset := 0x0, acc := .ro }
def PW_DMSTAT.CIDX : Field := { off := 0x1308, stride := 0x0, lo := 8, width := 8, reset := 0x0, acc := .ro }
def PW_DMSTAT.ENTRIES : Field := { off := 0x1308, stride := 0x0, lo := 16, width := 16, reset := 0x0, acc := .ro }
def PW_DMSTAT.reg : Reg := ⟨"PW_DMSTAT", 0x1308, 0x0, 1, [PW_DMSTAT.PHASE, PW_DMSTAT.CAUSE, PW_DMSTAT.CIDX, PW_DMSTAT.ENTRIES]⟩
def PW_DMTIME.DUR : Field := { off := 0x130C, stride := 0x0, lo := 0, width := 32, reset := 0x0, acc := .ro }
def PW_DMTIME.reg : Reg := ⟨"PW_DMTIME", 0x130C, 0x0, 1, [PW_DMTIME.DUR]⟩
def PW_DMWAKET.NS : Field := { off := 0x1310, stride := 0x0, lo := 0, width := 18, reset := 0x0, acc := .ro }
def PW_DMWAKET.reg : Reg := ⟨"PW_DMWAKET", 0x1310, 0x0, 1, [PW_DMWAKET.NS]⟩
def PW_DMIRQ.WOKE : Field := { off := 0x1314, stride := 0x0, lo := 0, width := 1, reset := 0x0, acc := .w1c }
def PW_DMIRQ.REFUSED : Field := { off := 0x1314, stride := 0x0, lo := 1, width := 1, reset := 0x0, acc := .w1c }
def PW_DMIRQ.reg : Reg := ⟨"PW_DMIRQ", 0x1314, 0x0, 1, [PW_DMIRQ.WOKE, PW_DMIRQ.REFUSED]⟩
def PW_TSCFG.TESTS : Field := { off := 0x1900, stride := 0x0, lo := 0, width := 6, reset := 0x3F, acc := .rw }
def PW_TSCFG.REF : Field := { off := 0x1900, stride := 0x0, lo := 8, width := 1, reset := 0x0, acc := .rw }
def PW_TSCFG.STOP_ON_FAIL : Field := { off := 0x1900, stride := 0x0, lo := 9, width := 1, reset := 0x0, acc := .rw }
def PW_TSCFG.reg : Reg := ⟨"PW_TSCFG", 0x1900, 0x0, 1, [PW_TSCFG.TESTS, PW_TSCFG.REF, PW_TSCFG.STOP_ON_FAIL]⟩
def PW_TSSTAT.STATE : Field := { off := 0x1904, stride := 0x0, lo := 0, width := 3, reset := 0x0, acc := .ro }
def PW_TSSTAT.CURRENT : Field := { off := 0x1904, stride := 0x0, lo := 4, width := 3, reset := 0x0, acc := .ro }
def PW_TSSTAT.FROM_RESCUE : Field := { off := 0x1904, stride := 0x0, lo := 7, width := 1, reset := 0x0, acc := .ro }
def PW_TSSTAT.ALL_PASS : Field := { off := 0x1904, stride := 0x0, lo := 8, width := 1, reset := 0x0, acc := .ro }
def PW_TSSTAT.RUNS : Field := { off := 0x1904, stride := 0x0, lo := 16, width := 16, reset := 0x0, acc := .ro }
def PW_TSSTAT.reg : Reg := ⟨"PW_TSSTAT", 0x1904, 0x0, 1, [PW_TSSTAT.STATE, PW_TSSTAT.CURRENT, PW_TSSTAT.FROM_RESCUE, PW_TSSTAT.ALL_PASS, PW_TSSTAT.RUNS]⟩
def PW_TSRES.RESULT : Field := { off := 0x1910, stride := 0x4, lo := 0, width := 2, reset := 0x0, acc := .ro }
def PW_TSRES.COUNT : Field := { off := 0x1910, stride := 0x4, lo := 4, width := 12, reset := 0x0, acc := .ro }
def PW_TSRES.OBJ : Field := { off := 0x1910, stride := 0x4, lo := 16, width := 16, reset := 0x0, acc := .ro }
def PW_TSRES.reg : Reg := ⟨"PW_TSRES", 0x1910, 0x4, 6, [PW_TSRES.RESULT, PW_TSRES.COUNT, PW_TSRES.OBJ]⟩

/-! FB registers (spec/03, 04). -/

def FB_TIME.DRAIN_T : Field := { off := 0x40000, stride := 0x0, lo := 0, width := 16, reset := 0x64, acc := .rw, legal := [(1, 65535)] }
def FB_TIME.STALL_T : Field := { off := 0x40000, stride := 0x0, lo := 16, width := 16, reset := 0x3E8, acc := .rw, legal := [(1, 65535)] }
def FB_TIME.reg : Reg := ⟨"FB_TIME", 0x40000, 0x0, 1, [FB_TIME.DRAIN_T, FB_TIME.STALL_T]⟩
def FB_IRQ.DONE : Field := { off := 0x40004, stride := 0x0, lo := 0, width := 1, reset := 0x0, acc := .w1c }
def FB_IRQ.DRAIN_TO : Field := { off := 0x40004, stride := 0x0, lo := 1, width := 1, reset := 0x0, acc := .w1c }
def FB_IRQ.HEDGE_ERR : Field := { off := 0x40004, stride := 0x0, lo := 2, width := 1, reset := 0x0, acc := .w1c }
def FB_IRQ.STALL : Field := { off := 0x40004, stride := 0x0, lo := 3, width := 1, reset := 0x0, acc := .w1c }
def FB_IRQ.EL_OVR : Field := { off := 0x40004, stride := 0x0, lo := 4, width := 1, reset := 0x0, acc := .w1c }
def FB_IRQ.reg : Reg := ⟨"FB_IRQ", 0x40004, 0x0, 1, [FB_IRQ.DONE, FB_IRQ.DRAIN_TO, FB_IRQ.HEDGE_ERR, FB_IRQ.STALL, FB_IRQ.EL_OVR]⟩
def FB_IE.IE : Field := { off := 0x40008, stride := 0x0, lo := 0, width := 5, reset := 0x0, acc := .rw }
def FB_IE.reg : Reg := ⟨"FB_IE", 0x40008, 0x0, 1, [FB_IE.IE]⟩
def FB_REFUSE.CODE : Field := { off := 0x4000C, stride := 0x0, lo := 0, width := 16, reset := 0x0, acc := .ro }
def FB_REFUSE.OBJ : Field := { off := 0x4000C, stride := 0x0, lo := 16, width := 16, reset := 0x0, acc := .ro }
def FB_REFUSE.reg : Reg := ⟨"FB_REFUSE", 0x4000C, 0x0, 1, [FB_REFUSE.CODE, FB_REFUSE.OBJ]⟩
def FB_ELOVR_LO.OVR : Field := { off := 0x40010, stride := 0x0, lo := 0, width := 32, reset := 0x0, acc := .w1c }
def FB_ELOVR_LO.reg : Reg := ⟨"FB_ELOVR_LO", 0x40010, 0x0, 1, [FB_ELOVR_LO.OVR]⟩
def FB_ELOVR_HI.OVR : Field := { off := 0x40014, stride := 0x0, lo := 0, width := 32, reset := 0x0, acc := .w1c }
def FB_ELOVR_HI.reg : Reg := ⟨"FB_ELOVR_HI", 0x40014, 0x0, 1, [FB_ELOVR_HI.OVR]⟩
def FB_FCM.ERRS : Field := { off := 0x40018, stride := 0x0, lo := 0, width := 16, reset := 0x0, acc := .w1cAny }
def FB_FCM.BUSY : Field := { off := 0x40018, stride := 0x0, lo := 16, width := 1, reset := 0x0, acc := .ro }
def FB_FCM.reg : Reg := ⟨"FB_FCM", 0x40018, 0x0, 1, [FB_FCM.ERRS, FB_FCM.BUSY]⟩
def FB_PCTL.CMD : Field := { off := 0x41000, stride := 0x10, lo := 0, width := 2, reset := 0x0, acc := .wo, legal := [(0, 2)] }
def FB_PCTL.FORCE : Field := { off := 0x41000, stride := 0x10, lo := 4, width := 1, reset := 0x0, acc := .rw }
def FB_PCTL.SINK : Field := { off := 0x41000, stride := 0x10, lo := 5, width := 1, reset := 0x0, acc := .rw }
def FB_PCTL.STALL_EN : Field := { off := 0x41000, stride := 0x10, lo := 6, width := 1, reset := 0x1, acc := .rw }
def FB_PCTL.reg : Reg := ⟨"FB_PCTL", 0x41000, 0x10, 64, [FB_PCTL.CMD, FB_PCTL.FORCE, FB_PCTL.SINK, FB_PCTL.STALL_EN]⟩
def FB_PSTAT.STATE : Field := { off := 0x41004, stride := 0x10, lo := 0, width := 3, reset := 0x0, acc := .ro }
def FB_PSTAT.HOLDER : Field := { off := 0x41004, stride := 0x10, lo := 4, width := 3, reset := 0x0, acc := .ro }
def FB_PSTAT.REPAIR : Field := { off := 0x41004, stride := 0x10, lo := 7, width := 1, reset := 0x0, acc := .ro }
def FB_PSTAT.QUIET : Field := { off := 0x41004, stride := 0x10, lo := 8, width := 1, reset := 0x0, acc := .ro }
def FB_PSTAT.HOLDING : Field := { off := 0x41004, stride := 0x10, lo := 9, width := 1, reset := 0x0, acc := .ro }
def FB_PSTAT.ERR : Field := { off := 0x41004, stride := 0x10, lo := 10, width := 1, reset := 0x0, acc := .w1c }
def FB_PSTAT.reg : Reg := ⟨"FB_PSTAT", 0x41004, 0x10, 64, [FB_PSTAT.STATE, FB_PSTAT.HOLDER, FB_PSTAT.REPAIR, FB_PSTAT.QUIET, FB_PSTAT.HOLDING, FB_PSTAT.ERR]⟩
def FB_PCNT.DISCARD : Field := { off := 0x41008, stride := 0x10, lo := 0, width := 16, reset := 0x0, acc := .w1cAny }
def FB_PCNT.SINKED : Field := { off := 0x41008, stride := 0x10, lo := 16, width := 16, reset := 0x0, acc := .w1cAny }
def FB_PCNT.reg : Reg := ⟨"FB_PCNT", 0x41008, 0x10, 64, [FB_PCNT.DISCARD, FB_PCNT.SINKED]⟩
def FB_PERR.PROTO : Field := { off := 0x4100C, stride := 0x10, lo := 0, width := 16, reset := 0x0, acc := .w1cAny }
def FB_PERR.ILLEGAL : Field := { off := 0x4100C, stride := 0x10, lo := 16, width := 16, reset := 0x0, acc := .w1cAny }
def FB_PERR.reg : Reg := ⟨"FB_PERR", 0x4100C, 0x10, 64, [FB_PERR.PROTO, FB_PERR.ILLEGAL]⟩
def FB_MIRQ.CE : Field := { off := 0x40020, stride := 0x0, lo := 0, width := 1, reset := 0x0, acc := .w1c }
def FB_MIRQ.UE : Field := { off := 0x40020, stride := 0x0, lo := 1, width := 1, reset := 0x0, acc := .w1c }
def FB_MIRQ.MAC_OVF : Field := { off := 0x40020, stride := 0x0, lo := 2, width := 1, reset := 0x0, acc := .w1c }
def FB_MIRQ.reg : Reg := ⟨"FB_MIRQ", 0x40020, 0x0, 1, [FB_MIRQ.CE, FB_MIRQ.UE, FB_MIRQ.MAC_OVF]⟩
def FB_MIE.IE : Field := { off := 0x40024, stride := 0x0, lo := 0, width := 3, reset := 0x0, acc := .rw }
def FB_MIE.reg : Reg := ⟨"FB_MIE", 0x40024, 0x0, 1, [FB_MIE.IE]⟩
def FB_MEMACC.MEM : Field := { off := 0x40100, stride := 0x0, lo := 0, width := 11, reset := 0x0, acc := .wo }
def FB_MEMACC.WADDR : Field := { off := 0x40100, stride := 0x0, lo := 12, width := 12, reset := 0x0, acc := .wo }
def FB_MEMACC.WRITE : Field := { off := 0x40100, stride := 0x0, lo := 24, width := 1, reset := 0x0, acc := .wo }
def FB_MEMACC.RAW : Field := { off := 0x40100, stride := 0x0, lo := 25, width := 1, reset := 0x0, acc := .wo }
def FB_MEMACC.reg : Reg := ⟨"FB_MEMACC", 0x40100, 0x0, 1, [FB_MEMACC.MEM, FB_MEMACC.WADDR, FB_MEMACC.WRITE, FB_MEMACC.RAW]⟩
def FB_MDATA_LO.DATA : Field := { off := 0x40104, stride := 0x0, lo := 0, width := 32, reset := 0x0, acc := .rw }
def FB_MDATA_LO.reg : Reg := ⟨"FB_MDATA_LO", 0x40104, 0x0, 1, [FB_MDATA_LO.DATA]⟩
def FB_MDATA_HI.DATA : Field := { off := 0x40108, stride := 0x0, lo := 0, width := 32, reset := 0x0, acc := .rw }
def FB_MDATA_HI.reg : Reg := ⟨"FB_MDATA_HI", 0x40108, 0x0, 1, [FB_MDATA_HI.DATA]⟩
def FB_MCHK.CHK : Field := { off := 0x4010C, stride := 0x0, lo := 0, width := 8, reset := 0x0, acc := .rw }
def FB_MCHK.SYND : Field := { off := 0x4010C, stride := 0x0, lo := 8, width := 8, reset := 0x0, acc := .ro }
def FB_MCHK.reg : Reg := ⟨"FB_MCHK", 0x4010C, 0x0, 1, [FB_MCHK.CHK, FB_MCHK.SYND]⟩
def FB_MEMASTAT.BUSY : Field := { off := 0x40110, stride := 0x0, lo := 0, width := 1, reset := 0x0, acc := .ro }
def FB_MEMASTAT.CE : Field := { off := 0x40110, stride := 0x0, lo := 1, width := 1, reset := 0x0, acc := .ro }
def FB_MEMASTAT.UE : Field := { off := 0x40110, stride := 0x0, lo := 2, width := 1, reset := 0x0, acc := .ro }
def FB_MEMASTAT.REFUSED : Field := { off := 0x40110, stride := 0x0, lo := 3, width := 1, reset := 0x0, acc := .w1c }
def FB_MEMASTAT.reg : Reg := ⟨"FB_MEMASTAT", 0x40110, 0x0, 1, [FB_MEMASTAT.BUSY, FB_MEMASTAT.CE, FB_MEMASTAT.UE, FB_MEMASTAT.REFUSED]⟩
def FB_MINJ.MEM : Field := { off := 0x40114, stride := 0x0, lo := 0, width := 11, reset := 0x0, acc := .rwl }
def FB_MINJ.MODE : Field := { off := 0x40114, stride := 0x0, lo := 12, width := 2, reset := 0x0, acc := .rwl, legal := [(0, 2)] }
def FB_MINJ.BIT : Field := { off := 0x40114, stride := 0x0, lo := 16, width := 6, reset := 0x0, acc := .rwl }
def FB_MINJ.reg : Reg := ⟨"FB_MINJ", 0x40114, 0x0, 1, [FB_MINJ.MEM, FB_MINJ.MODE, FB_MINJ.BIT]⟩
def FB_MCFG.WIDTH_A : Field := { off := 0x50000, stride := 0x10, lo := 0, width := 3, reset := 0x3, acc := .rw, legal := [(0, 4)] }
def FB_MCFG.WIDTH_B : Field := { off := 0x50000, stride := 0x10, lo := 3, width := 3, reset := 0x3, acc := .rw, legal := [(0, 4)] }
def FB_MCFG.WMODE_A : Field := { off := 0x50000, stride := 0x10, lo := 6, width := 1, reset := 0x0, acc := .rw }
def FB_MCFG.WMODE_B : Field := { off := 0x50000, stride := 0x10, lo := 7, width := 1, reset := 0x0, acc := .rw }
def FB_MCFG.ECC_EN : Field := { off := 0x50000, stride := 0x10, lo := 8, width := 1, reset := 0x1, acc := .rw }
def FB_MCFG.ECC_WB : Field := { off := 0x50000, stride := 0x10, lo := 9, width := 1, reset := 0x1, acc := .rw }
def FB_MCFG.CASC : Field := { off := 0x50000, stride := 0x10, lo := 10, width := 2, reset := 0x0, acc := .rw, legal := [(0, 2)] }
def FB_MCFG.CASC_LEN : Field := { off := 0x50000, stride := 0x10, lo := 12, width := 3, reset := 0x0, acc := .rw, legal := [(0, 4)] }
def FB_MCFG.reg : Reg := ⟨"FB_MCFG", 0x50000, 0x10, 2048, [FB_MCFG.WIDTH_A, FB_MCFG.WIDTH_B, FB_MCFG.WMODE_A, FB_MCFG.WMODE_B, FB_MCFG.ECC_EN, FB_MCFG.ECC_WB, FB_MCFG.CASC, FB_MCFG.CASC_LEN]⟩
def FB_MECC.CE : Field := { off := 0x50004, stride := 0x10, lo := 0, width := 16, reset := 0x0, acc := .w1cAny }
def FB_MECC.UE : Field := { off := 0x50004, stride := 0x10, lo := 16, width := 16, reset := 0x0, acc := .w1cAny }
def FB_MECC.reg : Reg := ⟨"FB_MECC", 0x50004, 0x10, 2048, [FB_MECC.CE, FB_MECC.UE]⟩
def FB_MEADDR.WADDR : Field := { off := 0x50008, stride := 0x10, lo := 0, width := 12, reset := 0x0, acc := .ro }
def FB_MEADDR.SYND : Field := { off := 0x50008, stride := 0x10, lo := 12, width := 8, reset := 0x0, acc := .ro }
def FB_MEADDR.SRC : Field := { off := 0x50008, stride := 0x10, lo := 20, width := 2, reset := 0x0, acc := .ro }
def FB_MEADDR.UE : Field := { off := 0x50008, stride := 0x10, lo := 22, width := 1, reset := 0x0, acc := .ro }
def FB_MEADDR.VALID : Field := { off := 0x50008, stride := 0x10, lo := 23, width := 1, reset := 0x0, acc := .ro }
def FB_MEADDR.reg : Reg := ⟨"FB_MEADDR", 0x50008, 0x10, 2048, [FB_MEADDR.WADDR, FB_MEADDR.SYND, FB_MEADDR.SRC, FB_MEADDR.UE, FB_MEADDR.VALID]⟩
def FB_MACCFG.SIGNED_A : Field := { off := 0x58000, stride := 0x10, lo := 0, width := 1, reset := 0x0, acc := .rw }
def FB_MACCFG.SIGNED_B : Field := { off := 0x58000, stride := 0x10, lo := 1, width := 1, reset := 0x0, acc := .rw }
def FB_MACCFG.OVF_MODE : Field := { off := 0x58000, stride := 0x10, lo := 2, width := 1, reset := 0x0, acc := .rw }
def FB_MACCFG.SHIFT : Field := { off := 0x58000, stride := 0x10, lo := 3, width := 6, reset := 0x0, acc := .rw }
def FB_MACCFG.RND : Field := { off := 0x58000, stride := 0x10, lo := 9, width := 2, reset := 0x0, acc := .rw, legal := [(0, 2)] }
def FB_MACCFG.CASC_OUT : Field := { off := 0x58000, stride := 0x10, lo := 11, width := 1, reset := 0x0, acc := .rw }
def FB_MACCFG.CASC_IN_EN : Field := { off := 0x58000, stride := 0x10, lo := 12, width := 1, reset := 0x0, acc := .rw }
def FB_MACCFG.RDOM : Field := { off := 0x58000, stride := 0x10, lo := 16, width := 4, reset := 0x0, acc := .rw }
def FB_MACCFG.reg : Reg := ⟨"FB_MACCFG", 0x58000, 0x10, 3072, [FB_MACCFG.SIGNED_A, FB_MACCFG.SIGNED_B, FB_MACCFG.OVF_MODE, FB_MACCFG.SHIFT, FB_MACCFG.RND, FB_MACCFG.CASC_OUT, FB_MACCFG.CASC_IN_EN, FB_MACCFG.RDOM]⟩
def FB_MACSTAT.OVF : Field := { off := 0x58004, stride := 0x10, lo := 0, width := 1, reset := 0x0, acc := .w1c }
def FB_MACSTAT.PRE_SAT : Field := { off := 0x58004, stride := 0x10, lo := 1, width := 1, reset := 0x0, acc := .w1c }
def FB_MACSTAT.CASC_WAIT : Field := { off := 0x58004, stride := 0x10, lo := 2, width := 1, reset := 0x0, acc := .ro }
def FB_MACSTAT.PCOUT_FULL : Field := { off := 0x58004, stride := 0x10, lo := 3, width := 1, reset := 0x0, acc := .ro }
def FB_MACSTAT.reg : Reg := ⟨"FB_MACSTAT", 0x58004, 0x10, 3072, [FB_MACSTAT.OVF, FB_MACSTAT.PRE_SAT, FB_MACSTAT.CASC_WAIT, FB_MACSTAT.PCOUT_FULL]⟩
def FB_MACP_LO.P : Field := { off := 0x58008, stride := 0x10, lo := 0, width := 32, reset := 0x0, acc := .ro }
def FB_MACP_LO.reg : Reg := ⟨"FB_MACP_LO", 0x58008, 0x10, 3072, [FB_MACP_LO.P]⟩
def FB_MACP_HI.P : Field := { off := 0x5800C, stride := 0x10, lo := 0, width := 32, reset := 0x0, acc := .ro }
def FB_MACP_HI.reg : Reg := ⟨"FB_MACP_HI", 0x5800C, 0x10, 3072, [FB_MACP_HI.P]⟩

/-! QM registers (spec/05). -/

def QM_CTL.JRES : Field := { off := 0x10000, stride := 0x0, lo := 0, width := 1, reset := 0x0, acc := .rw }
def QM_CTL.reg : Reg := ⟨"QM_CTL", 0x10000, 0x0, 1, [QM_CTL.JRES]⟩
def QM_IRQ.OVF : Field := { off := 0x10004, stride := 0x0, lo := 0, width := 1, reset := 0x0, acc := .w1c }
def QM_IRQ.TRUNC : Field := { off := 0x10004, stride := 0x0, lo := 1, width := 1, reset := 0x0, acc := .w1c }
def QM_IRQ.BADLEN : Field := { off := 0x10004, stride := 0x0, lo := 2, width := 1, reset := 0x0, acc := .w1c }
def QM_IRQ.CE : Field := { off := 0x10004, stride := 0x0, lo := 3, width := 1, reset := 0x0, acc := .w1c }
def QM_IRQ.UE : Field := { off := 0x10004, stride := 0x0, lo := 4, width := 1, reset := 0x0, acc := .w1c }
def QM_IRQ.CUT : Field := { off := 0x10004, stride := 0x0, lo := 5, width := 1, reset := 0x0, acc := .w1c }
def QM_IRQ.reg : Reg := ⟨"QM_IRQ", 0x10004, 0x0, 1, [QM_IRQ.OVF, QM_IRQ.TRUNC, QM_IRQ.BADLEN, QM_IRQ.CE, QM_IRQ.UE, QM_IRQ.CUT]⟩
def QM_IE.IE : Field := { off := 0x10008, stride := 0x0, lo := 0, width := 6, reset := 0x0, acc := .rw }
def QM_IE.reg : Reg := ⟨"QM_IE", 0x10008, 0x0, 1, [QM_IE.IE]⟩
def QM_REFUSE.CODE : Field := { off := 0x1000C, stride := 0x0, lo := 0, width := 16, reset := 0x0, acc := .ro }
def QM_REFUSE.OBJ : Field := { off := 0x1000C, stride := 0x0, lo := 16, width := 16, reset := 0x0, acc := .ro }
def QM_REFUSE.reg : Reg := ⟨"QM_REFUSE", 0x1000C, 0x0, 1, [QM_REFUSE.CODE, QM_REFUSE.OBJ]⟩
def QM_LSEL.LANE : Field := { off := 0x10010, stride := 0x0, lo := 0, width := 11, reset := 0x0, acc := .rw }
def QM_LSEL.reg : Reg := ⟨"QM_LSEL", 0x10010, 0x0, 1, [QM_LSEL.LANE]⟩
def QM_LW.PTR : Field := { off := 0x10014, stride := 0x0, lo := 0, width := 21, reset := 0x0, acc := .ro }
def QM_LW.reg : Reg := ⟨"QM_LW", 0x10014, 0x0, 1, [QM_LW.PTR]⟩
def QM_LR.PTR : Field := { off := 0x10018, stride := 0x0, lo := 0, width := 21, reset := 0x0, acc := .ro }
def QM_LR.reg : Reg := ⟨"QM_LR", 0x10018, 0x0, 1, [QM_LR.PTR]⟩
def QM_LREL.PTR : Field := { off := 0x1001C, stride := 0x0, lo := 0, width := 21, reset := 0x0, acc := .ro }
def QM_LREL.reg : Reg := ⟨"QM_LREL", 0x1001C, 0x0, 1, [QM_LREL.PTR]⟩
def QM_LMARK.MARK : Field := { off := 0x10020, stride := 0x0, lo := 0, width := 21, reset := 0x0, acc := .ro }
def QM_LMARK.VALID : Field := { off := 0x10020, stride := 0x0, lo := 31, width := 1, reset := 0x0, acc := .ro }
def QM_LMARK.reg : Reg := ⟨"QM_LMARK", 0x10020, 0x0, 1, [QM_LMARK.MARK, QM_LMARK.VALID]⟩
def QM_LPKT.HDR : Field := { off := 0x10024, stride := 0x0, lo := 0, width := 21, reset := 0x0, acc := .ro }
def QM_LPKT.OPEN : Field := { off := 0x10024, stride := 0x0, lo := 21, width := 1, reset := 0x0, acc := .ro }
def QM_LPKT.OWNER : Field := { off := 0x10024, stride := 0x0, lo := 24, width := 8, reset := 0x0, acc := .ro }
def QM_LPKT.reg : Reg := ⟨"QM_LPKT", 0x10024, 0x0, 1, [QM_LPKT.HDR, QM_LPKT.OPEN, QM_LPKT.OWNER]⟩
def QM_LOVF.COUNT : Field := { off := 0x10028, stride := 0x0, lo := 0, width := 32, reset := 0x0, acc := .w1cAny }
def QM_LOVF.reg : Reg := ⟨"QM_LOVF", 0x10028, 0x0, 1, [QM_LOVF.COUNT]⟩
def QM_SECC.CE : Field := { off := 0x1002C, stride := 0x0, lo := 0, width := 16, reset := 0x0, acc := .w1cAny }
def QM_SECC.UE : Field := { off := 0x1002C, stride := 0x0, lo := 16, width := 16, reset := 0x0, acc := .w1cAny }
def QM_SECC.reg : Reg := ⟨"QM_SECC", 0x1002C, 0x0, 1, [QM_SECC.CE, QM_SECC.UE]⟩
def QM_RWSEL.QUEUE : Field := { off := 0x10100, stride := 0x20, lo := 0, width := 8, reset := 0x0, acc := .rw }
def QM_RWSEL.LANE : Field := { off := 0x10100, stride := 0x20, lo := 8, width := 3, reset := 0x0, acc := .rw }
def QM_RWSEL.ANY : Field := { off := 0x10100, stride := 0x20, lo := 11, width := 1, reset := 0x0, acc := .rw }
def QM_RWSEL.PUSH_EN : Field := { off := 0x10100, stride := 0x20, lo := 12, width := 1, reset := 0x0, acc := .rw }
def QM_RWSEL.POP_EN : Field := { off := 0x10100, stride := 0x20, lo := 13, width := 1, reset := 0x0, acc := .rw }
def QM_RWSEL.reg : Reg := ⟨"QM_RWSEL", 0x10100, 0x20, 8, [QM_RWSEL.QUEUE, QM_RWSEL.LANE, QM_RWSEL.ANY, QM_RWSEL.PUSH_EN, QM_RWSEL.POP_EN]⟩
def QM_RWPUSH_LO.DATA : Field := { off := 0x10104, stride := 0x20, lo := 0, width := 32, reset := 0x0, acc := .wo }
def QM_RWPUSH_LO.reg : Reg := ⟨"QM_RWPUSH_LO", 0x10104, 0x20, 8, [QM_RWPUSH_LO.DATA]⟩
def QM_RWPUSH_HI.DATA : Field := { off := 0x10108, stride := 0x20, lo := 0, width := 32, reset := 0x0, acc := .wo }
def QM_RWPUSH_HI.reg : Reg := ⟨"QM_RWPUSH_HI", 0x10108, 0x20, 8, [QM_RWPUSH_HI.DATA]⟩
def QM_RWPOP_LO.DATA : Field := { off := 0x1010C, stride := 0x20, lo := 0, width := 32, reset := 0x0, acc := .ro }
def QM_RWPOP_LO.reg : Reg := ⟨"QM_RWPOP_LO", 0x1010C, 0x20, 8, [QM_RWPOP_LO.DATA]⟩
def QM_RWPOP_HI.DATA : Field := { off := 0x10110, stride := 0x20, lo := 0, width := 32, reset := 0x0, acc := .ro }
def QM_RWPOP_HI.reg : Reg := ⟨"QM_RWPOP_HI", 0x10110, 0x20, 8, [QM_RWPOP_HI.DATA]⟩
def QM_RWCMD.OP : Field := { off := 0x10114, stride := 0x20, lo := 0, width := 4, reset := 0x0, acc := .wo }
def QM_RWCMD.TRUNC : Field := { off := 0x10114, stride := 0x20, lo := 4, width := 1, reset := 0x0, acc := .wo }
def QM_RWCMD.ARG : Field := { off := 0x10114, stride := 0x20, lo := 8, width := 24, reset := 0x0, acc := .wo }
def QM_RWCMD.reg : Reg := ⟨"QM_RWCMD", 0x10114, 0x20, 8, [QM_RWCMD.OP, QM_RWCMD.TRUNC, QM_RWCMD.ARG]⟩
def QM_RWSTAT.STATUS : Field := { off := 0x10118, stride := 0x20, lo := 0, width := 4, reset := 0x0, acc := .ro }
def QM_RWSTAT.LANE : Field := { off := 0x10118, stride := 0x20, lo := 4, width := 3, reset := 0x0, acc := .ro }
def QM_RWSTAT.RESULT : Field := { off := 0x10118, stride := 0x20, lo := 7, width := 25, reset := 0x0, acc := .ro }
def QM_RWSTAT.reg : Reg := ⟨"QM_RWSTAT", 0x10118, 0x20, 8, [QM_RWSTAT.STATUS, QM_RWSTAT.LANE, QM_RWSTAT.RESULT]⟩
def QM_PCFG.EN : Field := { off := 0x10400, stride := 0x4, lo := 0, width := 1, reset := 0x0, acc := .rw }
def QM_PCFG.ROLE : Field := { off := 0x10400, stride := 0x4, lo := 1, width := 1, reset := 0x0, acc := .rw }
def QM_PCFG.QUEUE : Field := { off := 0x10400, stride := 0x4, lo := 8, width := 8, reset := 0x0, acc := .rw }
def QM_PCFG.LANEMASK : Field := { off := 0x10400, stride := 0x4, lo := 16, width := 8, reset := 0x0, acc := .rw }
def QM_PCFG.reg : Reg := ⟨"QM_PCFG", 0x10400, 0x4, 64, [QM_PCFG.EN, QM_PCFG.ROLE, QM_PCFG.QUEUE, QM_PCFG.LANEMASK]⟩
def QM_WSEL.LANE : Field := { off := 0x10600, stride := 0x8, lo := 0, width := 11, reset := 0x0, acc := .rw }
def QM_WSEL.EN : Field := { off := 0x10600, stride := 0x8, lo := 11, width := 1, reset := 0x0, acc := .rw }
def QM_WSEL.DIR : Field := { off := 0x10600, stride := 0x8, lo := 12, width := 1, reset := 0x0, acc := .rw }
def QM_WSEL.reg : Reg := ⟨"QM_WSEL", 0x10600, 0x8, 16, [QM_WSEL.LANE, QM_WSEL.EN, QM_WSEL.DIR]⟩
def QM_WLVL.LEVEL : Field := { off := 0x10604, stride := 0x8, lo := 0, width := 21, reset := 0x0, acc := .rw }
def QM_WLVL.reg : Reg := ⟨"QM_WLVL", 0x10604, 0x8, 16, [QM_WLVL.LEVEL]⟩
def QM_QCFG.EN : Field := { off := 0x11000, stride := 0x4, lo := 0, width := 1, reset := 0x0, acc := .rw }
def QM_QCFG.NL : Field := { off := 0x11000, stride := 0x4, lo := 1, width := 3, reset := 0x0, acc := .rw }
def QM_QCFG.ARB : Field := { off := 0x11000, stride := 0x4, lo := 4, width := 1, reset := 0x0, acc := .rw }
def QM_QCFG.MANUAL : Field := { off := 0x11000, stride := 0x4, lo := 5, width := 1, reset := 0x0, acc := .rw }
def QM_QCFG.reg : Reg := ⟨"QM_QCFG", 0x11000, 0x4, 256, [QM_QCFG.EN, QM_QCFG.NL, QM_QCFG.ARB, QM_QCFG.MANUAL]⟩
def QM_WHEEL0.SLOTS : Field := { off := 0x11400, stride := 0x4, lo := 0, width := 30, reset := 0x0, acc := .rw }
def QM_WHEEL0.reg : Reg := ⟨"QM_WHEEL0", 0x11400, 0x4, 256, [QM_WHEEL0.SLOTS]⟩
def QM_WHEEL1.SLOTS : Field := { off := 0x11800, stride := 0x4, lo := 0, width := 18, reset := 0x0, acc := .rw }
def QM_WHEEL1.reg : Reg := ⟨"QM_WHEEL1", 0x11800, 0x4, 256, [QM_WHEEL1.SLOTS]⟩
def QM_LCFG.BASE : Field := { off := 0x14000, stride := 0x4, lo := 0, width := 14, reset := 0x0, acc := .rw }
def QM_LCFG.SIZE : Field := { off := 0x14000, stride := 0x4, lo := 14, width := 4, reset := 0x0, acc := .rw, legal := [(0, 14)] }
def QM_LCFG.MULTI : Field := { off := 0x14000, stride := 0x4, lo := 18, width := 1, reset := 0x0, acc := .rw }
def QM_LCFG.reg : Reg := ⟨"QM_LCFG", 0x14000, 0x4, 2048, [QM_LCFG.BASE, QM_LCFG.SIZE, QM_LCFG.MULTI]⟩
def QM_LOCC.OCC : Field := { off := 0x16000, stride := 0x4, lo := 0, width := 21, reset := 0x0, acc := .ro }
def QM_LOCC.FULL : Field := { off := 0x16000, stride := 0x4, lo := 21, width := 1, reset := 0x0, acc := .ro }
def QM_LOCC.PKT : Field := { off := 0x16000, stride := 0x4, lo := 22, width := 1, reset := 0x0, acc := .ro }
def QM_LOCC.reg : Reg := ⟨"QM_LOCC", 0x16000, 0x4, 2048, [QM_LOCC.OCC, QM_LOCC.FULL, QM_LOCC.PKT]⟩

/-! CK registers (spec/06). -/

def CK_CTL.CTL_SEL : Field := { off := 0x4000, stride := 0x0, lo := 0, width := 1, reset := 0x0, acc := .rw }
def CK_CTL.CTL_ACT : Field := { off := 0x4000, stride := 0x0, lo := 1, width := 1, reset := 0x0, acc := .ro }
def CK_CTL.reg : Reg := ⟨"CK_CTL", 0x4000, 0x0, 1, [CK_CTL.CTL_SEL, CK_CTL.CTL_ACT]⟩
def CK_IRQ.LOL : Field := { off := 0x4004, stride := 0x0, lo := 0, width := 1, reset := 0x0, acc := .w1c }
def CK_IRQ.LOCK_TO : Field := { off := 0x4004, stride := 0x0, lo := 1, width := 1, reset := 0x0, acc := .w1c }
def CK_IRQ.REF_LOS : Field := { off := 0x4004, stride := 0x0, lo := 2, width := 1, reset := 0x0, acc := .w1c }
def CK_IRQ.CTL_FB : Field := { off := 0x4004, stride := 0x0, lo := 3, width := 1, reset := 0x0, acc := .w1c }
def CK_IRQ.DONE : Field := { off := 0x4004, stride := 0x0, lo := 4, width := 1, reset := 0x0, acc := .w1c }
def CK_IRQ.reg : Reg := ⟨"CK_IRQ", 0x4004, 0x0, 1, [CK_IRQ.LOL, CK_IRQ.LOCK_TO, CK_IRQ.REF_LOS, CK_IRQ.CTL_FB, CK_IRQ.DONE]⟩
def CK_IE.IE : Field := { off := 0x4008, stride := 0x0, lo := 0, width := 5, reset := 0x0, acc := .rw }
def CK_IE.reg : Reg := ⟨"CK_IE", 0x4008, 0x0, 1, [CK_IE.IE]⟩
def CK_REFUSE.CODE : Field := { off := 0x400C, stride := 0x0, lo := 0, width := 16, reset := 0x0, acc := .ro }
def CK_REFUSE.OBJ : Field := { off := 0x400C, stride := 0x0, lo := 16, width := 16, reset := 0x0, acc := .ro }
def CK_REFUSE.reg : Reg := ⟨"CK_REFUSE", 0x400C, 0x0, 1, [CK_REFUSE.CODE, CK_REFUSE.OBJ]⟩
def CK_OSC.TRIM : Field := { off := 0x4010, stride := 0x0, lo := 0, width := 10, reset := 0x0, acc := .ro }
def CK_OSC.TRIM_OK : Field := { off := 0x4010, stride := 0x0, lo := 10, width := 1, reset := 0x1, acc := .ro }
def CK_OSC.reg : Reg := ⟨"CK_OSC", 0x4010, 0x0, 1, [CK_OSC.TRIM, CK_OSC.TRIM_OK]⟩
def CK_REFSTAT.PRESENT : Field := { off := 0x4014, stride := 0x0, lo := 0, width := 13, reset := 0x0, acc := .ro }
def CK_REFSTAT.reg : Reg := ⟨"CK_REFSTAT", 0x4014, 0x0, 1, [CK_REFSTAT.PRESENT]⟩
def CK_REFLOS.LOST : Field := { off := 0x4018, stride := 0x0, lo := 0, width := 13, reset := 0x0, acc := .w1c }
def CK_REFLOS.reg : Reg := ⟨"CK_REFLOS", 0x4018, 0x0, 1, [CK_REFLOS.LOST]⟩
def CK_FMCTL.SRC : Field := { off := 0x4020, stride := 0x0, lo := 0, width := 5, reset := 0x0, acc := .rw, legal := [(0, 5), (8, 12), (16, 19)] }
def CK_FMCTL.BASE : Field := { off := 0x4020, stride := 0x0, lo := 5, width := 1, reset := 0x0, acc := .rw }
def CK_FMCTL.GATE : Field := { off := 0x4020, stride := 0x0, lo := 6, width := 8, reset := 0x1, acc := .rw, legal := [(1, 255)] }
def CK_FMCTL.GO : Field := { off := 0x4020, stride := 0x0, lo := 14, width := 1, reset := 0x0, acc := .wo }
def CK_FMCTL.BUSY : Field := { off := 0x4020, stride := 0x0, lo := 15, width := 1, reset := 0x0, acc := .ro }
def CK_FMCTL.DONE : Field := { off := 0x4020, stride := 0x0, lo := 16, width := 1, reset := 0x0, acc := .ro }
def CK_FMCTL.reg : Reg := ⟨"CK_FMCTL", 0x4020, 0x0, 1, [CK_FMCTL.SRC, CK_FMCTL.BASE, CK_FMCTL.GATE, CK_FMCTL.GO, CK_FMCTL.BUSY, CK_FMCTL.DONE]⟩
def CK_FMRES.COUNT : Field := { off := 0x4024, stride := 0x0, lo := 0, width := 32, reset := 0x0, acc := .ro }
def CK_FMRES.reg : Reg := ⟨"CK_FMRES", 0x4024, 0x0, 1, [CK_FMRES.COUNT]⟩
def CK_SYNCFGA.REFSEL : Field := { off := 0x4100, stride := 0x20, lo := 0, width := 3, reset := 0x0, acc := .rw }
def CK_SYNCFGA.RDIV : Field := { off := 0x4100, stride := 0x20, lo := 4, width := 4, reset := 0x0, acc := .rw }
def CK_SYNCFGA.N : Field := { off := 0x4100, stride := 0x20, lo := 8, width := 10, reset := 0x20, acc := .rw }
def CK_SYNCFGA.D : Field := { off := 0x4100, stride := 0x20, lo := 18, width := 13, reset := 0x14, acc := .rw }
def CK_SYNCFGA.reg : Reg := ⟨"CK_SYNCFGA", 0x4100, 0x20, 6, [CK_SYNCFGA.REFSEL, CK_SYNCFGA.RDIV, CK_SYNCFGA.N, CK_SYNCFGA.D]⟩
def CK_SYNFRAC.F : Field := { off := 0x4104, stride := 0x20, lo := 0, width := 24, reset := 0x0, acc := .rw }
def CK_SYNFRAC.reg : Reg := ⟨"CK_SYNFRAC", 0x4104, 0x20, 6, [CK_SYNFRAC.F]⟩
def CK_SYNMOD.M : Field := { off := 0x4108, stride := 0x20, lo := 0, width := 24, reset := 0x2, acc := .rw }
def CK_SYNMOD.reg : Reg := ⟨"CK_SYNMOD", 0x4108, 0x20, 6, [CK_SYNMOD.M]⟩
def CK_SYNCTL.EN : Field := { off := 0x410C, stride := 0x20, lo := 0, width := 1, reset := 0x0, acc := .rw }
def CK_SYNCTL.GO : Field := { off := 0x410C, stride := 0x20, lo := 1, width := 1, reset := 0x0, acc := .wo }
def CK_SYNCTL.LOCK_T : Field := { off := 0x410C, stride := 0x20, lo := 2, width := 8, reset := 0x14, acc := .rw, legal := [(1, 255)] }
def CK_SYNCTL.reg : Reg := ⟨"CK_SYNCTL", 0x410C, 0x20, 6, [CK_SYNCTL.EN, CK_SYNCTL.GO, CK_SYNCTL.LOCK_T]⟩
def CK_SYNSTAT.STATE : Field := { off := 0x4110, stride := 0x20, lo := 0, width := 3, reset := 0x0, acc := .ro }
def CK_SYNSTAT.BUSY : Field := { off := 0x4110, stride := 0x20, lo := 3, width := 1, reset := 0x0, acc := .ro }
def CK_SYNSTAT.LOL : Field := { off := 0x4110, stride := 0x20, lo := 4, width := 1, reset := 0x0, acc := .w1c }
def CK_SYNSTAT.reg : Reg := ⟨"CK_SYNSTAT", 0x4110, 0x20, 6, [CK_SYNSTAT.STATE, CK_SYNSTAT.BUSY, CK_SYNSTAT.LOL]⟩
def CK_SYNFOUT.KHZ : Field := { off := 0x4114, stride := 0x20, lo := 0, width := 21, reset := 0x0, acc := .ro }
def CK_SYNFOUT.reg : Reg := ⟨"CK_SYNFOUT", 0x4114, 0x20, 6, [CK_SYNFOUT.KHZ]⟩
def CK_OPOL.POLICY : Field := { off := 0x4400, stride := 0x8, lo := 0, width := 2, reset := 0x0, acc := .rw, legal := [(0, 2)] }
def CK_OPOL.RATE : Field := { off := 0x4400, stride := 0x8, lo := 2, width := 14, reset := 0x64, acc := .rw, legal := [(1, 10000)] }
def CK_OPOL.reg : Reg := ⟨"CK_OPOL", 0x4400, 0x8, 16, [CK_OPOL.POLICY, CK_OPOL.RATE]⟩
def CK_OSTAT.PHASE : Field := { off := 0x4404, stride := 0x8, lo := 0, width := 2, reset := 0x0, acc := .ro }
def CK_OSTAT.reg : Reg := ⟨"CK_OSTAT", 0x4404, 0x8, 16, [CK_OSTAT.PHASE]⟩

/-! XP registers (spec/07). -/

def XP_IE.IE : Field := { off := 0x5000, stride := 0x0, lo := 0, width := 16, reset := 0x0, acc := .rw }
def XP_IE.reg : Reg := ⟨"XP_IE", 0x5000, 0x0, 1, [XP_IE.IE]⟩
def XP_REFUSE.CODE : Field := { off := 0x5004, stride := 0x0, lo := 0, width := 16, reset := 0x0, acc := .ro }
def XP_REFUSE.OBJ : Field := { off := 0x5004, stride := 0x0, lo := 16, width := 16, reset := 0x0, acc := .ro }
def XP_REFUSE.reg : Reg := ⟨"XP_REFUSE", 0x5004, 0x0, 1, [XP_REFUSE.CODE, XP_REFUSE.OBJ]⟩
def XP_FAULT.FAULT : Field := { off := 0x5010, stride := 0x4, lo := 0, width := 32, reset := 0x0, acc := .w1c }
def XP_FAULT.reg : Reg := ⟨"XP_FAULT", 0x5010, 0x4, 8, [XP_FAULT.FAULT]⟩
def XP_OVRMAP.OVR : Field := { off := 0x5030, stride := 0x4, lo := 0, width := 32, reset := 0x0, acc := .w1c }
def XP_OVRMAP.reg : Reg := ⟨"XP_OVRMAP", 0x5030, 0x4, 8, [XP_OVRMAP.OVR]⟩
def XP_CFG.EN : Field := { off := 0x6000, stride := 0x10, lo := 0, width := 1, reset := 0x0, acc := .rw }
def XP_CFG.TYPE : Field := { off := 0x6000, stride := 0x10, lo := 1, width := 2, reset := 0x0, acc := .rw, legal := [(0, 2)] }
def XP_CFG.DIR : Field := { off := 0x6000, stride := 0x10, lo := 3, width := 1, reset := 0x0, acc := .rw }
def XP_CFG.DEPTH : Field := { off := 0x6000, stride := 0x10, lo := 4, width := 2, reset := 0x0, acc := .rw, legal := [(0, 2)] }
def XP_CFG.CLK : Field := { off := 0x6000, stride := 0x10, lo := 6, width := 3, reset := 0x0, acc := .rw }
def XP_CFG.ATTACH : Field := { off := 0x6000, stride := 0x10, lo := 9, width := 3, reset := 0x0, acc := .rw }
def XP_CFG.AIDX : Field := { off := 0x6000, stride := 0x10, lo := 12, width := 7, reset := 0x0, acc := .rw }
def XP_CFG.RDOM : Field := { off := 0x6000, stride := 0x10, lo := 20, width := 4, reset := 0x0, acc := .rw }
def XP_CFG.reg : Reg := ⟨"XP_CFG", 0x6000, 0x10, 256, [XP_CFG.EN, XP_CFG.TYPE, XP_CFG.DIR, XP_CFG.DEPTH, XP_CFG.CLK, XP_CFG.ATTACH, XP_CFG.AIDX, XP_CFG.RDOM]⟩
def XP_TMO.TIMEOUT : Field := { off := 0x6004, stride := 0x10, lo := 0, width := 18, reset := 0x1F4, acc := .rw, legal := [(4, 250000)] }
def XP_TMO.reg : Reg := ⟨"XP_TMO", 0x6004, 0x10, 256, [XP_TMO.TIMEOUT]⟩
def XP_STAT.STATE : Field := { off := 0x6008, stride := 0x10, lo := 0, width := 2, reset := 0x0, acc := .ro }
def XP_STAT.SUSP : Field := { off := 0x6008, stride := 0x10, lo := 2, width := 1, reset := 0x0, acc := .ro }
def XP_STAT.LEVEL : Field := { off := 0x6008, stride := 0x10, lo := 4, width := 7, reset := 0x0, acc := .ro }
def XP_STAT.RST : Field := { off := 0x6008, stride := 0x10, lo := 31, width := 1, reset := 0x0, acc := .wo }
def XP_STAT.reg : Reg := ⟨"XP_STAT", 0x6008, 0x10, 256, [XP_STAT.STATE, XP_STAT.SUSP, XP_STAT.LEVEL, XP_STAT.RST]⟩
def XP_CNT.OVERRUN : Field := { off := 0x600C, stride := 0x10, lo := 0, width := 16, reset := 0x0, acc := .w1cAny }
def XP_CNT.STARVE : Field := { off := 0x600C, stride := 0x10, lo := 16, width := 16, reset := 0x0, acc := .w1cAny }
def XP_CNT.reg : Reg := ⟨"XP_CNT", 0x600C, 0x10, 256, [XP_CNT.OVERRUN, XP_CNT.STARVE]⟩

/-! BS registers (spec/08). -/

def BS_TBCTL.REF : Field := { off := 0x8000, stride := 0x0, lo := 0, width := 3, reset := 0x0, acc := .rw }
def BS_TBCTL.REF_ALT : Field := { off := 0x8000, stride := 0x0, lo := 4, width := 3, reset := 0x0, acc := .rw }
def BS_TBCTL.AUTO : Field := { off := 0x8000, stride := 0x0, lo := 7, width := 1, reset := 0x0, acc := .rw }
def BS_TBCTL.EN : Field := { off := 0x8000, stride := 0x0, lo := 8, width := 1, reset := 0x0, acc := .rw }
def BS_TBCTL.LFXO_EN : Field := { off := 0x8000, stride := 0x0, lo := 9, width := 1, reset := 0x1, acc := .rw }
def BS_TBCTL.reg : Reg := ⟨"BS_TBCTL", 0x8000, 0x0, 1, [BS_TBCTL.REF, BS_TBCTL.REF_ALT, BS_TBCTL.AUTO, BS_TBCTL.EN, BS_TBCTL.LFXO_EN]⟩
def BS_TBSTAT.STATE : Field := { off := 0x8004, stride := 0x0, lo := 0, width := 3, reset := 0x0, acc := .ro }
def BS_TBSTAT.REF_ACT : Field := { off := 0x8004, stride := 0x0, lo := 4, width := 3, reset := 0x0, acc := .ro }
def BS_TBSTAT.RUNNING : Field := { off := 0x8004, stride := 0x0, lo := 8, width := 1, reset := 0x0, acc := .ro }
def BS_TBSTAT.EPOCH : Field := { off := 0x8004, stride := 0x0, lo := 9, width := 1, reset := 0x0, acc := .ro }
def BS_TBSTAT.COARSE : Field := { off := 0x8004, stride := 0x0, lo := 10, width := 1, reset := 0x0, acc := .ro }
def BS_TBSTAT.LF : Field := { off := 0x8004, stride := 0x0, lo := 11, width := 1, reset := 0x0, acc := .ro }
def BS_TBSTAT.EPOCH_GEN : Field := { off := 0x8004, stride := 0x0, lo := 16, width := 8, reset := 0x0, acc := .ro }
def BS_TBSTAT.reg : Reg := ⟨"BS_TBSTAT", 0x8004, 0x0, 1, [BS_TBSTAT.STATE, BS_TBSTAT.REF_ACT, BS_TBSTAT.RUNNING, BS_TBSTAT.EPOCH, BS_TBSTAT.COARSE, BS_TBSTAT.LF, BS_TBSTAT.EPOCH_GEN]⟩
def BS_IRQ.TB : Field := { off := 0x8008, stride := 0x0, lo := 0, width := 1, reset := 0x0, acc := .w1c }
def BS_IRQ.EPOCH : Field := { off := 0x8008, stride := 0x0, lo := 1, width := 1, reset := 0x0, acc := .w1c }
def BS_IRQ.TT_DATA : Field := { off := 0x8008, stride := 0x0, lo := 2, width := 1, reset := 0x0, acc := .w1c }
def BS_IRQ.TT_LOSS : Field := { off := 0x8008, stride := 0x0, lo := 3, width := 1, reset := 0x0, acc := .w1c }
def BS_IRQ.CUE_LATE : Field := { off := 0x8008, stride := 0x0, lo := 4, width := 1, reset := 0x0, acc := .w1c }
def BS_IRQ.CUE_ERR : Field := { off := 0x8008, stride := 0x0, lo := 5, width := 1, reset := 0x0, acc := .w1c }
def BS_IRQ.STALE : Field := { off := 0x8008, stride := 0x0, lo := 6, width := 1, reset := 0x0, acc := .w1c }
def BS_IRQ.LBT : Field := { off := 0x8008, stride := 0x0, lo := 7, width := 1, reset := 0x0, acc := .w1c }
def BS_IRQ.reg : Reg := ⟨"BS_IRQ", 0x8008, 0x0, 1, [BS_IRQ.TB, BS_IRQ.EPOCH, BS_IRQ.TT_DATA, BS_IRQ.TT_LOSS, BS_IRQ.CUE_LATE, BS_IRQ.CUE_ERR, BS_IRQ.STALE, BS_IRQ.LBT]⟩
def BS_IE.IE : Field := { off := 0x800C, stride := 0x0, lo := 0, width := 8, reset := 0x0, acc := .rw }
def BS_IE.reg : Reg := ⟨"BS_IE", 0x800C, 0x0, 1, [BS_IE.IE]⟩
def BS_REFUSE.CODE : Field := { off := 0x8010, stride := 0x0, lo := 0, width := 16, reset := 0x0, acc := .ro }
def BS_REFUSE.OBJ : Field := { off := 0x8010, stride := 0x0, lo := 16, width := 16, reset := 0x0, acc := .ro }
def BS_REFUSE.reg : Reg := ⟨"BS_REFUSE", 0x8010, 0x0, 1, [BS_REFUSE.CODE, BS_REFUSE.OBJ]⟩
def BS_XOFREQ.XO_KHZ : Field := { off := 0x8014, stride := 0x0, lo := 0, width := 18, reset := 0x0, acc := .rw }
def BS_XOFREQ.reg : Reg := ⟨"BS_XOFREQ", 0x8014, 0x0, 1, [BS_XOFREQ.XO_KHZ]⟩
def BS_EPCTL.SRC : Field := { off := 0x8018, stride := 0x0, lo := 0, width := 2, reset := 0x0, acc := .rw, legal := [(0, 2)] }
def BS_EPCTL.ARM : Field := { off := 0x8018, stride := 0x0, lo := 2, width := 1, reset := 0x0, acc := .rw }
def BS_EPCTL.QUAL : Field := { off := 0x8018, stride := 0x0, lo := 3, width := 8, reset := 0x0, acc := .rw }
def BS_EPCTL.reg : Reg := ⟨"BS_EPCTL", 0x8018, 0x0, 1, [BS_EPCTL.SRC, BS_EPCTL.ARM, BS_EPCTL.QUAL]⟩
def BS_EPOCH.E : Field := { off := 0x801C, stride := 0x4, lo := 0, width := 32, reset := 0x0, acc := .rw }
def BS_EPOCH.reg : Reg := ⟨"BS_EPOCH", 0x801C, 0x4, 3, [BS_EPOCH.E]⟩
def BS_SYNCOFS.OFS : Field := { off := 0x8028, stride := 0x0, lo := 0, width := 32, reset := 0x0, acc := .rw }
def BS_SYNCOFS.reg : Reg := ⟨"BS_SYNCOFS", 0x8028, 0x0, 1, [BS_SYNCOFS.OFS]⟩
def BS_TNOW0.T : Field := { off := 0x802C, stride := 0x0, lo := 0, width := 32, reset := 0x0, acc := .ro }
def BS_TNOW0.reg : Reg := ⟨"BS_TNOW0", 0x802C, 0x0, 1, [BS_TNOW0.T]⟩
def BS_TNOW1.T : Field := { off := 0x8030, stride := 0x0, lo := 0, width := 32, reset := 0x0, acc := .ro }
def BS_TNOW1.reg : Reg := ⟨"BS_TNOW1", 0x8030, 0x0, 1, [BS_TNOW1.T]⟩
def BS_TNOW2.T : Field := { off := 0x8034, stride := 0x0, lo := 0, width := 16, reset := 0x0, acc := .ro }
def BS_TNOW2.FLAGS : Field := { off := 0x8034, stride := 0x0, lo := 16, width := 4, reset := 0x0, acc := .ro }
def BS_TNOW2.reg : Reg := ⟨"BS_TNOW2", 0x8034, 0x0, 1, [BS_TNOW2.T, BS_TNOW2.FLAGS]⟩
def BS_ADJCTL.GO : Field := { off := 0x8038, stride := 0x0, lo := 0, width := 1, reset := 0x0, acc := .wo }
def BS_ADJCTL.MODE : Field := { off := 0x8038, stride := 0x0, lo := 1, width := 1, reset := 0x0, acc := .rw }
def BS_ADJCTL.BUSY : Field := { off := 0x8038, stride := 0x0, lo := 2, width := 1, reset := 0x0, acc := .ro }
def BS_ADJCTL.OWNED : Field := { off := 0x8038, stride := 0x0, lo := 3, width := 1, reset := 0x0, acc := .ro }
def BS_ADJCTL.SLEW : Field := { off := 0x8038, stride := 0x0, lo := 16, width := 10, reset := 0x64, acc := .rw, legal := [(1, 1000)] }
def BS_ADJCTL.reg : Reg := ⟨"BS_ADJCTL", 0x8038, 0x0, 1, [BS_ADJCTL.GO, BS_ADJCTL.MODE, BS_ADJCTL.BUSY, BS_ADJCTL.OWNED, BS_ADJCTL.SLEW]⟩
def BS_ADJ_LO.OFFSET : Field := { off := 0x803C, stride := 0x0, lo := 0, width := 32, reset := 0x0, acc := .rw }
def BS_ADJ_LO.reg : Reg := ⟨"BS_ADJ_LO", 0x803C, 0x0, 1, [BS_ADJ_LO.OFFSET]⟩
def BS_ADJ_HI.OFFSET : Field := { off := 0x8040, stride := 0x0, lo := 0, width := 32, reset := 0x0, acc := .rw }
def BS_ADJ_HI.reg : Reg := ⟨"BS_ADJ_HI", 0x8040, 0x0, 1, [BS_ADJ_HI.OFFSET]⟩
def BS_SOFT.PULSE : Field := { off := 0x8044, stride := 0x0, lo := 0, width := 16, reset := 0x0, acc := .wo }
def BS_SOFT.reg : Reg := ⟨"BS_SOFT", 0x8044, 0x0, 1, [BS_SOFT.PULSE]⟩
def BS_SOFTLVL.LEVEL : Field := { off := 0x8048, stride := 0x0, lo := 0, width := 16, reset := 0x0, acc := .rw }
def BS_SOFTLVL.reg : Reg := ⟨"BS_SOFTLVL", 0x8048, 0x0, 1, [BS_SOFTLVL.LEVEL]⟩
def BS_TTCFG.EN : Field := { off := 0x8100, stride := 0x20, lo := 0, width := 1, reset := 0x0, acc := .rw }
def BS_TTCFG.EDGE : Field := { off := 0x8100, stride := 0x20, lo := 1, width := 2, reset := 0x0, acc := .rw, legal := [(0, 2)] }
def BS_TTCFG.RDFIFO : Field := { off := 0x8100, stride := 0x20, lo := 3, width := 1, reset := 0x0, acc := .rw }
def BS_TTCFG.INPUT : Field := { off := 0x8100, stride := 0x20, lo := 4, width := 8, reset := 0x0, acc := .rw }
def BS_TTCFG.STREAM : Field := { off := 0x8100, stride := 0x20, lo := 12, width := 6, reset := 0x0, acc := .rw, legal := [(0, 47)] }
def BS_TTCFG.RTR_EN : Field := { off := 0x8100, stride := 0x20, lo := 18, width := 1, reset := 0x0, acc := .rw }
def BS_TTCFG.GATE_EN : Field := { off := 0x8100, stride := 0x20, lo := 19, width := 1, reset := 0x0, acc := .rw }
def BS_TTCFG.reg : Reg := ⟨"BS_TTCFG", 0x8100, 0x20, 96, [BS_TTCFG.EN, BS_TTCFG.EDGE, BS_TTCFG.RDFIFO, BS_TTCFG.INPUT, BS_TTCFG.STREAM, BS_TTCFG.RTR_EN, BS_TTCFG.GATE_EN]⟩
def BS_TTSTAT.LEVEL : Field := { off := 0x8104, stride := 0x20, lo := 0, width := 5, reset := 0x0, acc := .ro }
def BS_TTSTAT.STALE : Field := { off := 0x8104, stride := 0x20, lo := 5, width := 1, reset := 0x0, acc := .ro }
def BS_TTSTAT.CAL : Field := { off := 0x8104, stride := 0x20, lo := 6, width := 1, reset := 0x0, acc := .ro }
def BS_TTSTAT.reg : Reg := ⟨"BS_TTSTAT", 0x8104, 0x20, 96, [BS_TTSTAT.LEVEL, BS_TTSTAT.STALE, BS_TTSTAT.CAL]⟩
def BS_TTDAT0.DAT : Field := { off := 0x8108, stride := 0x20, lo := 0, width := 32, reset := 0x0, acc := .ro }
def BS_TTDAT0.reg : Reg := ⟨"BS_TTDAT0", 0x8108, 0x20, 96, [BS_TTDAT0.DAT]⟩
def BS_TTDAT1.DAT : Field := { off := 0x810C, stride := 0x20, lo := 0, width := 32, reset := 0x0, acc := .ro }
def BS_TTDAT1.reg : Reg := ⟨"BS_TTDAT1", 0x810C, 0x20, 96, [BS_TTDAT1.DAT]⟩
def BS_TTDAT2.DAT : Field := { off := 0x8110, stride := 0x20, lo := 0, width := 32, reset := 0x0, acc := .ro }
def BS_TTDAT2.reg : Reg := ⟨"BS_TTDAT2", 0x8110, 0x20, 96, [BS_TTDAT2.DAT]⟩
def BS_TTDAT3.DAT : Field := { off := 0x8114, stride := 0x20, lo := 0, width := 32, reset := 0x0, acc := .ro }
def BS_TTDAT3.reg : Reg := ⟨"BS_TTDAT3", 0x8114, 0x20, 96, [BS_TTDAT3.DAT]⟩
def BS_TTCNT.LOST : Field := { off := 0x8118, stride := 0x20, lo := 0, width := 16, reset := 0x0, acc := .w1cAny }
def BS_TTCNT.MISSED : Field := { off := 0x8118, stride := 0x20, lo := 16, width := 16, reset := 0x0, acc := .w1cAny }
def BS_TTCNT.reg : Reg := ⟨"BS_TTCNT", 0x8118, 0x20, 96, [BS_TTCNT.LOST, BS_TTCNT.MISSED]⟩
def BS_TTOFS.OFS : Field := { off := 0x811C, stride := 0x20, lo := 0, width := 32, reset := 0x0, acc := .rw }
def BS_TTOFS.reg : Reg := ⟨"BS_TTOFS", 0x811C, 0x20, 96, [BS_TTOFS.OFS]⟩
def BS_RT.SRC : Field := { off := 0x8E00, stride := 0x4, lo := 0, width := 8, reset := 0x0, acc := .rw }
def BS_RT.EN : Field := { off := 0x8E00, stride := 0x4, lo := 8, width := 1, reset := 0x0, acc := .rw }
def BS_RT.INV : Field := { off := 0x8E00, stride := 0x4, lo := 9, width := 1, reset := 0x0, acc := .rw }
def BS_RT.SHAPE : Field := { off := 0x8E00, stride := 0x4, lo := 10, width := 2, reset := 0x0, acc := .rw, legal := [(0, 2)] }
def BS_RT.DRIVE : Field := { off := 0x8E00, stride := 0x4, lo := 12, width := 1, reset := 0x0, acc := .rw }
def BS_RT.WIDTH : Field := { off := 0x8E00, stride := 0x4, lo := 16, width := 8, reset := 0x1, acc := .rw, legal := [(1, 255)] }
def BS_RT.reg : Reg := ⟨"BS_RT", 0x8E00, 0x4, 176, [BS_RT.SRC, BS_RT.EN, BS_RT.INV, BS_RT.SHAPE, BS_RT.DRIVE, BS_RT.WIDTH]⟩
def BS_CUCFG.EN : Field := { off := 0x9100, stride := 0x20, lo := 0, width := 1, reset := 0x0, acc := .rw }
def BS_CUCFG.DEST : Field := { off := 0x9100, stride := 0x20, lo := 1, width := 8, reset := 0xC9, acc := .rw }
def BS_CUCFG.LATE : Field := { off := 0x9100, stride := 0x20, lo := 9, width := 1, reset := 0x0, acc := .rw }
def BS_CUCFG.IDLE : Field := { off := 0x9100, stride := 0x20, lo := 10, width := 1, reset := 0x0, acc := .rw }
def BS_CUCFG.PWIDTH : Field := { off := 0x9100, stride := 0x20, lo := 11, width := 16, reset := 0x1, acc := .rw, legal := [(1, 65535)] }
def BS_CUCFG.reg : Reg := ⟨"BS_CUCFG", 0x9100, 0x20, 64, [BS_CUCFG.EN, BS_CUCFG.DEST, BS_CUCFG.LATE, BS_CUCFG.IDLE, BS_CUCFG.PWIDTH]⟩
def BS_CUSTAT.PEND : Field := { off := 0x9104, stride := 0x20, lo := 0, width := 4, reset := 0x0, acc := .ro }
def BS_CUSTAT.LEVEL : Field := { off := 0x9104, stride := 0x20, lo := 4, width := 1, reset := 0x0, acc := .ro }
def BS_CUSTAT.reg : Reg := ⟨"BS_CUSTAT", 0x9104, 0x20, 64, [BS_CUSTAT.PEND, BS_CUSTAT.LEVEL]⟩
def BS_CUCMD0.TIME : Field := { off := 0x9108, stride := 0x20, lo := 0, width := 32, reset := 0x0, acc := .rw }
def BS_CUCMD0.reg : Reg := ⟨"BS_CUCMD0", 0x9108, 0x20, 64, [BS_CUCMD0.TIME]⟩
def BS_CUCMD1.TIME : Field := { off := 0x910C, stride := 0x20, lo := 0, width := 32, reset := 0x0, acc := .rw }
def BS_CUCMD1.reg : Reg := ⟨"BS_CUCMD1", 0x910C, 0x20, 64, [BS_CUCMD1.TIME]⟩
def BS_CUCMD2.TIME_HI : Field := { off := 0x9110, stride := 0x20, lo := 0, width := 16, reset := 0x0, acc := .wo }
def BS_CUCMD2.ACTION : Field := { off := 0x9110, stride := 0x20, lo := 16, width := 2, reset := 0x0, acc := .wo }
def BS_CUCMD2.reg : Reg := ⟨"BS_CUCMD2", 0x9110, 0x20, 64, [BS_CUCMD2.TIME_HI, BS_CUCMD2.ACTION]⟩
def BS_CUCNT.LATE : Field := { off := 0x9114, stride := 0x20, lo := 0, width := 16, reset := 0x0, acc := .w1cAny }
def BS_CUCNT.DROP : Field := { off := 0x9114, stride := 0x20, lo := 16, width := 16, reset := 0x0, acc := .w1cAny }
def BS_CUCNT.reg : Reg := ⟨"BS_CUCNT", 0x9114, 0x20, 64, [BS_CUCNT.LATE, BS_CUCNT.DROP]⟩
def BS_LBTCTL.EN : Field := { off := 0x9A00, stride := 0x20, lo := 0, width := 1, reset := 0x0, acc := .rw }
def BS_LBTCTL.ARM : Field := { off := 0x9A00, stride := 0x20, lo := 1, width := 1, reset := 0x0, acc := .rw }
def BS_LBTCTL.SIDE : Field := { off := 0x9A00, stride := 0x20, lo := 2, width := 1, reset := 0x0, acc := .rw }
def BS_LBTCTL.DONE : Field := { off := 0x9A00, stride := 0x20, lo := 3, width := 1, reset := 0x0, acc := .ro }
def BS_LBTCTL.OWNED : Field := { off := 0x9A00, stride := 0x20, lo := 4, width := 1, reset := 0x0, acc := .ro }
def BS_LBTCTL.reg : Reg := ⟨"BS_LBTCTL", 0x9A00, 0x20, 40, [BS_LBTCTL.EN, BS_LBTCTL.ARM, BS_LBTCTL.SIDE, BS_LBTCTL.DONE, BS_LBTCTL.OWNED]⟩
def BS_LBTT0.T : Field := { off := 0x9A04, stride := 0x20, lo := 0, width := 32, reset := 0x0, acc := .ro }
def BS_LBTT0.reg : Reg := ⟨"BS_LBTT0", 0x9A04, 0x20, 40, [BS_LBTT0.T]⟩
def BS_LBTT1.T : Field := { off := 0x9A08, stride := 0x20, lo := 0, width := 32, reset := 0x0, acc := .ro }
def BS_LBTT1.reg : Reg := ⟨"BS_LBTT1", 0x9A08, 0x20, 40, [BS_LBTT1.T]⟩
def BS_LBTT2.T : Field := { off := 0x9A0C, stride := 0x20, lo := 0, width := 16, reset := 0x0, acc := .ro }
def BS_LBTT2.reg : Reg := ⟨"BS_LBTT2", 0x9A0C, 0x20, 40, [BS_LBTT2.T]⟩
def BS_LBTWC.WORDS : Field := { off := 0x9A10, stride := 0x20, lo := 0, width := 32, reset := 0x0, acc := .ro }
def BS_LBTWC.reg : Reg := ⟨"BS_LBTWC", 0x9A10, 0x20, 40, [BS_LBTWC.WORDS]⟩

/-! BT registers (spec/09). -/

def BT_REFUSE.CODE : Field := { off := 0xA000, stride := 0x0, lo := 0, width := 16, reset := 0x0, acc := .ro }
def BT_REFUSE.OBJ : Field := { off := 0xA000, stride := 0x0, lo := 16, width := 16, reset := 0x0, acc := .ro }
def BT_REFUSE.reg : Reg := ⟨"BT_REFUSE", 0xA000, 0x0, 1, [BT_REFUSE.CODE, BT_REFUSE.OBJ]⟩
def BT_GO.START : Field := { off := 0xA004, stride := 0x0, lo := 0, width := 16, reset := 0x0, acc := .wo }
def BT_GO.STOP : Field := { off := 0xA004, stride := 0x0, lo := 16, width := 16, reset := 0x0, acc := .wo }
def BT_GO.reg : Reg := ⟨"BT_GO", 0xA004, 0x0, 1, [BT_GO.START, BT_GO.STOP]⟩
def BT_SNAPCMD.MASK : Field := { off := 0xA008, stride := 0x0, lo := 0, width := 16, reset := 0x0, acc := .wo }
def BT_SNAPCMD.reg : Reg := ⟨"BT_SNAPCMD", 0xA008, 0x0, 1, [BT_SNAPCMD.MASK]⟩
def BT_CTL.EN : Field := { off := 0xA100, stride := 0x80, lo := 0, width := 1, reset := 0x0, acc := .rwo }
def BT_CTL.RUN : Field := { off := 0xA100, stride := 0x80, lo := 1, width := 1, reset := 0x0, acc := .rwo }
def BT_CTL.CSRC : Field := { off := 0xA100, stride := 0x80, lo := 2, width := 3, reset := 0x0, acc := .rwo }
def BT_CTL.SMODE : Field := { off := 0xA100, stride := 0x80, lo := 5, width := 3, reset := 0x0, acc := .rwo }
def BT_CTL.TINV : Field := { off := 0xA100, stride := 0x80, lo := 8, width := 1, reset := 0x0, acc := .rwo }
def BT_CTL.ONESHOT : Field := { off := 0xA100, stride := 0x80, lo := 9, width := 1, reset := 0x0, acc := .rwo }
def BT_CTL.PRELOAD : Field := { off := 0xA100, stride := 0x80, lo := 10, width := 1, reset := 0x0, acc := .rwo }
def BT_CTL.MMODE : Field := { off := 0xA100, stride := 0x80, lo := 11, width := 3, reset := 0x0, acc := .rwo }
def BT_CTL.FRZ : Field := { off := 0xA100, stride := 0x80, lo := 14, width := 1, reset := 0x0, acc := .rwo }
def BT_CTL.LFRUN : Field := { off := 0xA100, stride := 0x80, lo := 15, width := 1, reset := 0x0, acc := .rwo }
def BT_CTL.WAKE : Field := { off := 0xA100, stride := 0x80, lo := 16, width := 4, reset := 0x0, acc := .rwo }
def BT_CTL.reg : Reg := ⟨"BT_CTL", 0xA100, 0x80, 16, [BT_CTL.EN, BT_CTL.RUN, BT_CTL.CSRC, BT_CTL.SMODE, BT_CTL.TINV, BT_CTL.ONESHOT, BT_CTL.PRELOAD, BT_CTL.MMODE, BT_CTL.FRZ, BT_CTL.LFRUN, BT_CTL.WAKE]⟩
def BT_OWN.OWNER : Field := { off := 0xA104, stride := 0x80, lo := 0, width := 3, reset := 0x7, acc := .ro }
def BT_OWN.CLAIM : Field := { off := 0xA104, stride := 0x80, lo := 3, width := 1, reset := 0x0, acc := .wo }
def BT_OWN.RELEASE : Field := { off := 0xA104, stride := 0x80, lo := 4, width := 1, reset := 0x0, acc := .wo }
def BT_OWN.ASSIGN : Field := { off := 0xA104, stride := 0x80, lo := 8, width := 3, reset := 0x0, acc := .wo }
def BT_OWN.reg : Reg := ⟨"BT_OWN", 0xA104, 0x80, 16, [BT_OWN.OWNER, BT_OWN.CLAIM, BT_OWN.RELEASE, BT_OWN.ASSIGN]⟩
def BT_STAT.CMF : Field := { off := 0xA108, stride := 0x80, lo := 0, width := 4, reset := 0x0, acc := .w1c }
def BT_STAT.CAPF : Field := { off := 0xA108, stride := 0x80, lo := 4, width := 2, reset := 0x0, acc := .w1c }
def BT_STAT.OVF : Field := { off := 0xA108, stride := 0x80, lo := 6, width := 1, reset := 0x0, acc := .w1c }
def BT_STAT.OVC : Field := { off := 0xA108, stride := 0x80, lo := 7, width := 2, reset := 0x0, acc := .w1c }
def BT_STAT.TRG : Field := { off := 0xA108, stride := 0x80, lo := 9, width := 1, reset := 0x0, acc := .w1c }
def BT_STAT.LFD : Field := { off := 0xA108, stride := 0x80, lo := 10, width := 1, reset := 0x0, acc := .w1c }
def BT_STAT.WOKE : Field := { off := 0xA108, stride := 0x80, lo := 11, width := 1, reset := 0x0, acc := .w1c }
def BT_STAT.OCLVL : Field := { off := 0xA108, stride := 0x80, lo := 16, width := 4, reset := 0x0, acc := .ro }
def BT_STAT.OUT : Field := { off := 0xA108, stride := 0x80, lo := 20, width := 1, reset := 0x0, acc := .ro }
def BT_STAT.reg : Reg := ⟨"BT_STAT", 0xA108, 0x80, 16, [BT_STAT.CMF, BT_STAT.CAPF, BT_STAT.OVF, BT_STAT.OVC, BT_STAT.TRG, BT_STAT.LFD, BT_STAT.WOKE, BT_STAT.OCLVL, BT_STAT.OUT]⟩
def BT_IE.IE : Field := { off := 0xA10C, stride := 0x80, lo := 0, width := 12, reset := 0x0, acc := .rwo }
def BT_IE.reg : Reg := ⟨"BT_IE", 0xA10C, 0x80, 16, [BT_IE.IE]⟩
def BT_CNT_LO.COUNT : Field := { off := 0xA110, stride := 0x80, lo := 0, width := 32, reset := 0x0, acc := .rwo }
def BT_CNT_LO.reg : Reg := ⟨"BT_CNT_LO", 0xA110, 0x80, 16, [BT_CNT_LO.COUNT]⟩
def BT_CNT_HI.COUNT : Field := { off := 0xA114, stride := 0x80, lo := 0, width := 16, reset := 0x0, acc := .rwo }
def BT_CNT_HI.reg : Reg := ⟨"BT_CNT_HI", 0xA114, 0x80, 16, [BT_CNT_HI.COUNT]⟩
def BT_TOP_LO.TOP : Field := { off := 0xA118, stride := 0x80, lo := 0, width := 32, reset := 0xFFFFFFFF, acc := .rwo }
def BT_TOP_LO.reg : Reg := ⟨"BT_TOP_LO", 0xA118, 0x80, 16, [BT_TOP_LO.TOP]⟩
def BT_TOP_HI.TOP : Field := { off := 0xA11C, stride := 0x80, lo := 0, width := 16, reset := 0xFFFF, acc := .rwo }
def BT_TOP_HI.reg : Reg := ⟨"BT_TOP_HI", 0xA11C, 0x80, 16, [BT_TOP_HI.TOP]⟩
def BT_PSC.PSC : Field := { off := 0xA120, stride := 0x80, lo := 0, width := 16, reset := 0x0, acc := .rwo }
def BT_PSC.reg : Reg := ⟨"BT_PSC", 0xA120, 0x80, 16, [BT_PSC.PSC]⟩
def BT_SNAP_LO.COUNT : Field := { off := 0xA124, stride := 0x80, lo := 0, width := 32, reset := 0x0, acc := .ro }
def BT_SNAP_LO.reg : Reg := ⟨"BT_SNAP_LO", 0xA124, 0x80, 16, [BT_SNAP_LO.COUNT]⟩
def BT_SNAP_HI.COUNT : Field := { off := 0xA128, stride := 0x80, lo := 0, width := 16, reset := 0x0, acc := .ro }
def BT_SNAP_HI.reg : Reg := ⟨"BT_SNAP_HI", 0xA128, 0x80, 16, [BT_SNAP_HI.COUNT]⟩
def BT_CCFG0.MODE : Field := { off := 0xA130, stride := 0x80, lo := 0, width := 3, reset := 0x0, acc := .rwo }
def BT_CCFG0.INIT : Field := { off := 0xA130, stride := 0x80, lo := 3, width := 1, reset := 0x0, acc := .rwo }
def BT_CCFG0.reg : Reg := ⟨"BT_CCFG0", 0xA130, 0x80, 16, [BT_CCFG0.MODE, BT_CCFG0.INIT]⟩
def BT_CCFG1.MODE : Field := { off := 0xA140, stride := 0x80, lo := 0, width := 3, reset := 0x0, acc := .rwo }
def BT_CCFG1.INIT : Field := { off := 0xA140, stride := 0x80, lo := 3, width := 1, reset := 0x0, acc := .rwo }
def BT_CCFG1.reg : Reg := ⟨"BT_CCFG1", 0xA140, 0x80, 16, [BT_CCFG1.MODE, BT_CCFG1.INIT]⟩
def BT_CCFG2.MODE : Field := { off := 0xA150, stride := 0x80, lo := 0, width := 3, reset := 0x0, acc := .rwo }
def BT_CCFG2.INIT : Field := { off := 0xA150, stride := 0x80, lo := 3, width := 1, reset := 0x0, acc := .rwo }
def BT_CCFG2.reg : Reg := ⟨"BT_CCFG2", 0xA150, 0x80, 16, [BT_CCFG2.MODE, BT_CCFG2.INIT]⟩
def BT_CCFG3.MODE : Field := { off := 0xA160, stride := 0x80, lo := 0, width := 3, reset := 0x0, acc := .rwo }
def BT_CCFG3.INIT : Field := { off := 0xA160, stride := 0x80, lo := 3, width := 1, reset := 0x0, acc := .rwo }
def BT_CCFG3.reg : Reg := ⟨"BT_CCFG3", 0xA160, 0x80, 16, [BT_CCFG3.MODE, BT_CCFG3.INIT]⟩
def BT_CMP_LO0.CMP : Field := { off := 0xA134, stride := 0x80, lo := 0, width := 32, reset := 0x0, acc := .rwo }
def BT_CMP_LO0.reg : Reg := ⟨"BT_CMP_LO0", 0xA134, 0x80, 16, [BT_CMP_LO0.CMP]⟩
def BT_CMP_LO1.CMP : Field := { off := 0xA144, stride := 0x80, lo := 0, width := 32, reset := 0x0, acc := .rwo }
def BT_CMP_LO1.reg : Reg := ⟨"BT_CMP_LO1", 0xA144, 0x80, 16, [BT_CMP_LO1.CMP]⟩
def BT_CMP_LO2.CMP : Field := { off := 0xA154, stride := 0x80, lo := 0, width := 32, reset := 0x0, acc := .rwo }
def BT_CMP_LO2.reg : Reg := ⟨"BT_CMP_LO2", 0xA154, 0x80, 16, [BT_CMP_LO2.CMP]⟩
def BT_CMP_LO3.CMP : Field := { off := 0xA164, stride := 0x80, lo := 0, width := 32, reset := 0x0, acc := .rwo }
def BT_CMP_LO3.reg : Reg := ⟨"BT_CMP_LO3", 0xA164, 0x80, 16, [BT_CMP_LO3.CMP]⟩
def BT_CMP_HI0.CMP : Field := { off := 0xA138, stride := 0x80, lo := 0, width := 16, reset := 0x0, acc := .rwo }
def BT_CMP_HI0.reg : Reg := ⟨"BT_CMP_HI0", 0xA138, 0x80, 16, [BT_CMP_HI0.CMP]⟩
def BT_CMP_HI1.CMP : Field := { off := 0xA148, stride := 0x80, lo := 0, width := 16, reset := 0x0, acc := .rwo }
def BT_CMP_HI1.reg : Reg := ⟨"BT_CMP_HI1", 0xA148, 0x80, 16, [BT_CMP_HI1.CMP]⟩
def BT_CMP_HI2.CMP : Field := { off := 0xA158, stride := 0x80, lo := 0, width := 16, reset := 0x0, acc := .rwo }
def BT_CMP_HI2.reg : Reg := ⟨"BT_CMP_HI2", 0xA158, 0x80, 16, [BT_CMP_HI2.CMP]⟩
def BT_CMP_HI3.CMP : Field := { off := 0xA168, stride := 0x80, lo := 0, width := 16, reset := 0x0, acc := .rwo }
def BT_CMP_HI3.reg : Reg := ⟨"BT_CMP_HI3", 0xA168, 0x80, 16, [BT_CMP_HI3.CMP]⟩
def BT_KCFG.CEN : Field := { off := 0xA900, stride := 0x20, lo := 0, width := 1, reset := 0x0, acc := .rwo }
def BT_KCFG.EDGE : Field := { off := 0xA900, stride := 0x20, lo := 1, width := 2, reset := 0x0, acc := .rwo }
def BT_KCFG.FILT : Field := { off := 0xA900, stride := 0x20, lo := 3, width := 4, reset := 0x0, acc := .rwo }
def BT_KCFG.PSC : Field := { off := 0xA900, stride := 0x20, lo := 7, width := 8, reset := 0x0, acc := .rwo }
def BT_KCFG.SRC : Field := { off := 0xA900, stride := 0x20, lo := 15, width := 8, reset := 0xFF, acc := .rwo }
def BT_KCFG.FINE : Field := { off := 0xA900, stride := 0x20, lo := 23, width := 1, reset := 0x0, acc := .rwo }
def BT_KCFG.CLR : Field := { off := 0xA900, stride := 0x20, lo := 24, width := 1, reset := 0x0, acc := .rwo }
def BT_KCFG.reg : Reg := ⟨"BT_KCFG", 0xA900, 0x20, 32, [BT_KCFG.CEN, BT_KCFG.EDGE, BT_KCFG.FILT, BT_KCFG.PSC, BT_KCFG.SRC, BT_KCFG.FINE, BT_KCFG.CLR]⟩
def BT_CAP_LO.COUNT : Field := { off := 0xA904, stride := 0x20, lo := 0, width := 32, reset := 0x0, acc := .ro }
def BT_CAP_LO.reg : Reg := ⟨"BT_CAP_LO", 0xA904, 0x20, 32, [BT_CAP_LO.COUNT]⟩
def BT_CAP_HI.COUNT : Field := { off := 0xA908, stride := 0x20, lo := 0, width := 16, reset := 0x0, acc := .ro }
def BT_CAP_HI.VALID : Field := { off := 0xA908, stride := 0x20, lo := 16, width := 1, reset := 0x0, acc := .ro }
def BT_CAP_HI.reg : Reg := ⟨"BT_CAP_HI", 0xA908, 0x20, 32, [BT_CAP_HI.COUNT, BT_CAP_HI.VALID]⟩
def BT_FINE0.TIME : Field := { off := 0xA90C, stride := 0x20, lo := 0, width := 32, reset := 0x0, acc := .ro }
def BT_FINE0.reg : Reg := ⟨"BT_FINE0", 0xA90C, 0x20, 32, [BT_FINE0.TIME]⟩
def BT_FINE1.TIME : Field := { off := 0xA910, stride := 0x20, lo := 0, width := 32, reset := 0x0, acc := .ro }
def BT_FINE1.reg : Reg := ⟨"BT_FINE1", 0xA910, 0x20, 32, [BT_FINE1.TIME]⟩
def BT_FINE2.TIME : Field := { off := 0xA914, stride := 0x20, lo := 0, width := 16, reset := 0x0, acc := .ro }
def BT_FINE2.STALE_CAL : Field := { off := 0xA914, stride := 0x20, lo := 16, width := 1, reset := 0x0, acc := .ro }
def BT_FINE2.HOLDOVER : Field := { off := 0xA914, stride := 0x20, lo := 17, width := 1, reset := 0x0, acc := .ro }
def BT_FINE2.NOEPOCH : Field := { off := 0xA914, stride := 0x20, lo := 18, width := 1, reset := 0x0, acc := .ro }
def BT_FINE2.COARSE : Field := { off := 0xA914, stride := 0x20, lo := 19, width := 1, reset := 0x0, acc := .ro }
def BT_FINE2.VALID : Field := { off := 0xA914, stride := 0x20, lo := 20, width := 1, reset := 0x0, acc := .ro }
def BT_FINE2.EPOCH_GEN : Field := { off := 0xA914, stride := 0x20, lo := 24, width := 8, reset := 0x0, acc := .ro }
def BT_FINE2.reg : Reg := ⟨"BT_FINE2", 0xA914, 0x20, 32, [BT_FINE2.TIME, BT_FINE2.STALE_CAL, BT_FINE2.HOLDOVER, BT_FINE2.NOEPOCH, BT_FINE2.COARSE, BT_FINE2.VALID, BT_FINE2.EPOCH_GEN]⟩
def BT_KCNT.OVER : Field := { off := 0xA918, stride := 0x20, lo := 0, width := 16, reset := 0x0, acc := .w1cAny }
def BT_KCNT.REJECT : Field := { off := 0xA918, stride := 0x20, lo := 16, width := 16, reset := 0x0, acc := .w1cAny }
def BT_KCNT.reg : Reg := ⟨"BT_KCNT", 0xA918, 0x20, 32, [BT_KCNT.OVER, BT_KCNT.REJECT]⟩

/-! OG registers (spec/10). -/

def OG_IRQ.JOB_ERR : Field := { off := 0x18004, stride := 0x0, lo := 0, width := 1, reset := 0x0, acc := .w1c }
def OG_IRQ.HALT : Field := { off := 0x18004, stride := 0x0, lo := 1, width := 1, reset := 0x0, acc := .w1c }
def OG_IRQ.CE : Field := { off := 0x18004, stride := 0x0, lo := 2, width := 1, reset := 0x0, acc := .w1c }
def OG_IRQ.UE : Field := { off := 0x18004, stride := 0x0, lo := 3, width := 1, reset := 0x0, acc := .w1c }
def OG_IRQ.OVF : Field := { off := 0x18004, stride := 0x0, lo := 4, width := 1, reset := 0x0, acc := .w1c }
def OG_IRQ.reg : Reg := ⟨"OG_IRQ", 0x18004, 0x0, 1, [OG_IRQ.JOB_ERR, OG_IRQ.HALT, OG_IRQ.CE, OG_IRQ.UE, OG_IRQ.OVF]⟩
def OG_IE.IE : Field := { off := 0x18008, stride := 0x0, lo := 0, width := 5, reset := 0x0, acc := .rw }
def OG_IE.reg : Reg := ⟨"OG_IE", 0x18008, 0x0, 1, [OG_IE.IE]⟩
def OG_REFUSE.CODE : Field := { off := 0x1800C, stride := 0x0, lo := 0, width := 16, reset := 0x0, acc := .ro }
def OG_REFUSE.OBJ : Field := { off := 0x1800C, stride := 0x0, lo := 16, width := 16, reset := 0x0, acc := .ro }
def OG_REFUSE.reg : Reg := ⟨"OG_REFUSE", 0x1800C, 0x0, 1, [OG_REFUSE.CODE, OG_REFUSE.OBJ]⟩
def OG_SCHED.QUANTUM : Field := { off := 0x18010, stride := 0x0, lo := 0, width := 8, reset := 0x8, acc := .rw, legal := [(1, 255)] }
def OG_SCHED.AGE_T : Field := { off := 0x18010, stride := 0x0, lo := 8, width := 12, reset := 0x3E8, acc := .rw }
def OG_SCHED.reg : Reg := ⟨"OG_SCHED", 0x18010, 0x0, 1, [OG_SCHED.QUANTUM, OG_SCHED.AGE_T]⟩
def OG_ECC.CE : Field := { off := 0x18014, stride := 0x0, lo := 0, width := 16, reset := 0x0, acc := .w1cAny }
def OG_ECC.UE : Field := { off := 0x18014, stride := 0x0, lo := 16, width := 16, reset := 0x0, acc := .w1cAny }
def OG_ECC.reg : Reg := ⟨"OG_ECC", 0x18014, 0x0, 1, [OG_ECC.CE, OG_ECC.UE]⟩
def OG_WSADDR.WADDR : Field := { off := 0x18020, stride := 0x0, lo := 0, width := 18, reset := 0x0, acc := .rw }
def OG_WSADDR.INC : Field := { off := 0x18020, stride := 0x0, lo := 31, width := 1, reset := 0x0, acc := .rw }
def OG_WSADDR.reg : Reg := ⟨"OG_WSADDR", 0x18020, 0x0, 1, [OG_WSADDR.WADDR, OG_WSADDR.INC]⟩
def OG_WSDATA_LO.DATA : Field := { off := 0x18024, stride := 0x0, lo := 0, width := 32, reset := 0x0, acc := .rw }
def OG_WSDATA_LO.reg : Reg := ⟨"OG_WSDATA_LO", 0x18024, 0x0, 1, [OG_WSDATA_LO.DATA]⟩
def OG_WSDATA_HI.DATA : Field := { off := 0x18028, stride := 0x0, lo := 0, width := 32, reset := 0x0, acc := .rw }
def OG_WSDATA_HI.reg : Reg := ⟨"OG_WSDATA_HI", 0x18028, 0x0, 1, [OG_WSDATA_HI.DATA]⟩
def OG_WSSTAT.REFUSED : Field := { off := 0x1802C, stride := 0x0, lo := 0, width := 1, reset := 0x0, acc := .w1c }
def OG_WSSTAT.CE : Field := { off := 0x1802C, stride := 0x0, lo := 1, width := 1, reset := 0x0, acc := .ro }
def OG_WSSTAT.UE : Field := { off := 0x1802C, stride := 0x0, lo := 2, width := 1, reset := 0x0, acc := .ro }
def OG_WSSTAT.reg : Reg := ⟨"OG_WSSTAT", 0x1802C, 0x0, 1, [OG_WSSTAT.REFUSED, OG_WSSTAT.CE, OG_WSSTAT.UE]⟩
def OG_STAT.CUR : Field := { off := 0x18030, stride := 0x0, lo := 0, width := 6, reset := 0x0, acc := .ro }
def OG_STAT.ACTIVE : Field := { off := 0x18030, stride := 0x0, lo := 6, width := 1, reset := 0x0, acc := .ro }
def OG_STAT.reg : Reg := ⟨"OG_STAT", 0x18030, 0x0, 1, [OG_STAT.CUR, OG_STAT.ACTIVE]⟩
def OG_CCFG.EN : Field := { off := 0x19000, stride := 0x40, lo := 0, width := 1, reset := 0x0, acc := .rw }
def OG_CCFG.CLASS : Field := { off := 0x19000, stride := 0x40, lo := 1, width := 2, reset := 0x1, acc := .rw, legal := [(0, 2)] }
def OG_CCFG.WEIGHT : Field := { off := 0x19000, stride := 0x40, lo := 3, width := 4, reset := 0x0, acc := .rw }
def OG_CCFG.STOP_ON_ERR : Field := { off := 0x19000, stride := 0x40, lo := 7, width := 1, reset := 0x0, acc := .rw }
def OG_CCFG.DQ_EN : Field := { off := 0x19000, stride := 0x40, lo := 8, width := 1, reset := 0x0, acc := .rw }
def OG_CCFG.reg : Reg := ⟨"OG_CCFG", 0x19000, 0x40, 64, [OG_CCFG.EN, OG_CCFG.CLASS, OG_CCFG.WEIGHT, OG_CCFG.STOP_ON_ERR, OG_CCFG.DQ_EN]⟩
def OG_CQ.JQ : Field := { off := 0x19004, stride := 0x40, lo := 0, width := 8, reset := 0x0, acc := .rw }
def OG_CQ.DQ : Field := { off := 0x19004, stride := 0x40, lo := 8, width := 8, reset := 0x0, acc := .rw }
def OG_CQ.RQ : Field := { off := 0x19004, stride := 0x40, lo := 16, width := 8, reset := 0x0, acc := .rw }
def OG_CQ.RL : Field := { off := 0x19004, stride := 0x40, lo := 24, width := 3, reset := 0x0, acc := .rw }
def OG_CQ.reg : Reg := ⟨"OG_CQ", 0x19004, 0x40, 64, [OG_CQ.JQ, OG_CQ.DQ, OG_CQ.RQ, OG_CQ.RL]⟩
def OG_CWS.BASE : Field := { off := 0x19008, stride := 0x40, lo := 0, width := 9, reset := 0x0, acc := .rw }
def OG_CWS.SIZE : Field := { off := 0x19008, stride := 0x40, lo := 16, width := 10, reset := 0x0, acc := .rw }
def OG_CWS.reg : Reg := ⟨"OG_CWS", 0x19008, 0x40, 64, [OG_CWS.BASE, OG_CWS.SIZE]⟩
def OG_CSTAT.STATE : Field := { off := 0x1900C, stride := 0x40, lo := 0, width := 3, reset := 0x0, acc := .ro }
def OG_CSTAT.LAST : Field := { off := 0x1900C, stride := 0x40, lo := 16, width := 16, reset := 0x0, acc := .ro }
def OG_CSTAT.reg : Reg := ⟨"OG_CSTAT", 0x1900C, 0x40, 64, [OG_CSTAT.STATE, OG_CSTAT.LAST]⟩
def OG_CJOBS.DONE : Field := { off := 0x19010, stride := 0x40, lo := 0, width := 16, reset := 0x0, acc := .w1cAny }
def OG_CJOBS.ERR : Field := { off := 0x19010, stride := 0x40, lo := 16, width := 16, reset := 0x0, acc := .w1cAny }
def OG_CJOBS.reg : Reg := ⟨"OG_CJOBS", 0x19010, 0x40, 64, [OG_CJOBS.DONE, OG_CJOBS.ERR]⟩
def OG_CCTL.RESUME : Field := { off := 0x19014, stride := 0x40, lo := 0, width := 1, reset := 0x0, acc := .wo }
def OG_CCTL.ABORT : Field := { off := 0x19014, stride := 0x40, lo := 1, width := 1, reset := 0x0, acc := .wo }
def OG_CCTL.reg : Reg := ⟨"OG_CCTL", 0x19014, 0x40, 64, [OG_CCTL.RESUME, OG_CCTL.ABORT]⟩
def OG_CCOOKIE_LO.COOKIE : Field := { off := 0x19018, stride := 0x40, lo := 0, width := 32, reset := 0x0, acc := .ro }
def OG_CCOOKIE_LO.reg : Reg := ⟨"OG_CCOOKIE_LO", 0x19018, 0x40, 64, [OG_CCOOKIE_LO.COOKIE]⟩
def OG_CCOOKIE_HI.COOKIE : Field := { off := 0x1901C, stride := 0x40, lo := 0, width := 32, reset := 0x0, acc := .ro }
def OG_CCOOKIE_HI.reg : Reg := ⟨"OG_CCOOKIE_HI", 0x1901C, 0x40, 64, [OG_CCOOKIE_HI.COOKIE]⟩
def OG_CPHASE.PHASE : Field := { off := 0x19020, stride := 0x40, lo := 0, width := 32, reset := 0x0, acc := .rw }
def OG_CPHASE.reg : Reg := ⟨"OG_CPHASE", 0x19020, 0x40, 64, [OG_CPHASE.PHASE]⟩

/-! IO registers (spec/11). -/

def IO_IRQ.PIN_LOST : Field := { off := 0x2000, stride := 0x0, lo := 0, width := 1, reset := 0x0, acc := .w1c }
def IO_IRQ.UNAUTH : Field := { off := 0x2000, stride := 0x0, lo := 1, width := 1, reset := 0x0, acc := .w1c }
def IO_IRQ.VIO : Field := { off := 0x2000, stride := 0x0, lo := 2, width := 1, reset := 0x0, acc := .w1c }
def IO_IRQ.reg : Reg := ⟨"IO_IRQ", 0x2000, 0x0, 1, [IO_IRQ.PIN_LOST, IO_IRQ.UNAUTH, IO_IRQ.VIO]⟩
def IO_IE.IE : Field := { off := 0x2004, stride := 0x0, lo := 0, width := 3, reset := 0x0, acc := .rw }
def IO_IE.reg : Reg := ⟨"IO_IE", 0x2004, 0x0, 1, [IO_IE.IE]⟩
def IO_REFUSE.CODE : Field := { off := 0x2008, stride := 0x0, lo := 0, width := 16, reset := 0x0, acc := .ro }
def IO_REFUSE.OBJ : Field := { off := 0x2008, stride := 0x0, lo := 16, width := 16, reset := 0x0, acc := .ro }
def IO_REFUSE.reg : Reg := ⟨"IO_REFUSE", 0x2008, 0x0, 1, [IO_REFUSE.CODE, IO_REFUSE.OBJ]⟩
def IO_UNAUTH.COUNT : Field := { off := 0x200C, stride := 0x0, lo := 0, width := 16, reset := 0x0, acc := .w1cAny }
def IO_UNAUTH.reg : Reg := ⟨"IO_UNAUTH", 0x200C, 0x0, 1, [IO_UNAUTH.COUNT]⟩
def IO_GPMAP.MAP : Field := { off := 0x2010, stride := 0x0, lo := 0, width := 32, reset := 0x0, acc := .rwl }
def IO_GPMAP.reg : Reg := ⟨"IO_GPMAP", 0x2010, 0x0, 1, [IO_GPMAP.MAP]⟩
def IO_INCT.TRIG : Field := { off := 0x2014, stride := 0x0, lo := 0, width := 8, reset := 0x0, acc := .ro }
def IO_INCT.CTIN : Field := { off := 0x2014, stride := 0x0, lo := 8, width := 4, reset := 0x0, acc := .ro }
def IO_INCT.CFIN : Field := { off := 0x2014, stride := 0x0, lo := 12, width := 5, reset := 0x0, acc := .ro }
def IO_INCT.reg : Reg := ⟨"IO_INCT", 0x2014, 0x0, 1, [IO_INCT.TRIG, IO_INCT.CTIN, IO_INCT.CFIN]⟩
def IO_CTARR.ARR : Field := { off := 0x2018, stride := 0x0, lo := 0, width := 9, reset := 0x0, acc := .rwl }
def IO_CTARR.reg : Reg := ⟨"IO_CTARR", 0x2018, 0x0, 1, [IO_CTARR.ARR]⟩
def IO_BCFG.EN : Field := { off := 0x2100, stride := 0x8, lo := 0, width := 1, reset := 0x0, acc := .rwl }
def IO_BCFG.VSEL : Field := { off := 0x2100, stride := 0x8, lo := 1, width := 3, reset := 0x0, acc := .rwl, legal := [(0, 5)] }
def IO_BCFG.reg : Reg := ⟨"IO_BCFG", 0x2100, 0x8, 12, [IO_BCFG.EN, IO_BCFG.VSEL]⟩
def IO_BSTAT.VDET : Field := { off := 0x2104, stride := 0x8, lo := 0, width := 3, reset := 0x7, acc := .ro }
def IO_BSTAT.OK : Field := { off := 0x2104, stride := 0x8, lo := 3, width := 1, reset := 0x0, acc := .ro }
def IO_BSTAT.reg : Reg := ⟨"IO_BSTAT", 0x2104, 0x8, 12, [IO_BSTAT.VDET, IO_BSTAT.OK]⟩
def IO_IN.LVL : Field := { off := 0x2200, stride := 0x4, lo := 0, width := 32, reset := 0x0, acc := .ro }
def IO_IN.reg : Reg := ⟨"IO_IN", 0x2200, 0x4, 18, [IO_IN.LVL]⟩
def IO_SERCFG.EN : Field := { off := 0x2300, stride := 0x4, lo := 0, width := 1, reset := 0x0, acc := .rwo }
def IO_SERCFG.DIR : Field := { off := 0x2300, stride := 0x4, lo := 1, width := 1, reset := 0x0, acc := .rwo }
def IO_SERCFG.FACTOR : Field := { off := 0x2300, stride := 0x4, lo := 2, width := 2, reset := 0x2, acc := .rwo, legal := [(0, 2)] }
def IO_SERCFG.CLK : Field := { off := 0x2300, stride := 0x4, lo := 4, width := 2, reset := 0x0, acc := .rwo }
def IO_SERCFG.BITSLIP : Field := { off := 0x2300, stride := 0x4, lo := 6, width := 1, reset := 0x0, acc := .wo }
def IO_SERCFG.reg : Reg := ⟨"IO_SERCFG", 0x2300, 0x4, 12, [IO_SERCFG.EN, IO_SERCFG.DIR, IO_SERCFG.FACTOR, IO_SERCFG.CLK, IO_SERCFG.BITSLIP]⟩
def IO_PCFG.EN : Field := { off := 0x2400, stride := 0x4, lo := 0, width := 1, reset := 0x0, acc := .rwo }
def IO_PCFG.STD : Field := { off := 0x2400, stride := 0x4, lo := 1, width := 5, reset := 0x0, acc := .rwo }
def IO_PCFG.PULL : Field := { off := 0x2400, stride := 0x4, lo := 6, width := 2, reset := 0x0, acc := .rwo }
def IO_PCFG.DRIVE : Field := { off := 0x2400, stride := 0x4, lo := 8, width := 3, reset := 0x0, acc := .rwo, legal := [(0, 4)] }
def IO_PCFG.SLEW : Field := { off := 0x2400, stride := 0x4, lo := 11, width := 1, reset := 0x0, acc := .rwo }
def IO_PCFG.ODRAIN : Field := { off := 0x2400, stride := 0x4, lo := 12, width := 1, reset := 0x0, acc := .rwo }
def IO_PCFG.DTERM : Field := { off := 0x2400, stride := 0x4, lo := 13, width := 1, reset := 0x0, acc := .rwo }
def IO_PCFG.ARR : Field := { off := 0x2400, stride := 0x4, lo := 14, width := 2, reset := 0x0, acc := .rwo }
def IO_PCFG.CLKSEL : Field := { off := 0x2400, stride := 0x4, lo := 16, width := 2, reset := 0x0, acc := .rwo }
def IO_PCFG.OWNER : Field := { off := 0x2400, stride := 0x4, lo := 28, width := 2, reset := 0x0, acc := .rwo }
def IO_PCFG.reg : Reg := ⟨"IO_PCFG", 0x2400, 0x4, 576, [IO_PCFG.EN, IO_PCFG.STD, IO_PCFG.PULL, IO_PCFG.DRIVE, IO_PCFG.SLEW, IO_PCFG.ODRAIN, IO_PCFG.DTERM, IO_PCFG.ARR, IO_PCFG.CLKSEL, IO_PCFG.OWNER]⟩
def IO_PCLM.HOLDER : Field := { off := 0x3000, stride := 0x4, lo := 0, width := 3, reset := 0x0, acc := .ro }
def IO_PCLM.CLAIMS : Field := { off := 0x3000, stride := 0x4, lo := 4, width := 6, reset := 0x0, acc := .ro }
def IO_PCLM.LOST : Field := { off := 0x3000, stride := 0x4, lo := 10, width := 6, reset := 0x0, acc := .w1c }
def IO_PCLM.RENEW : Field := { off := 0x3000, stride := 0x4, lo := 16, width := 1, reset := 0x0, acc := .wo }
def IO_PCLM.reg : Reg := ⟨"IO_PCLM", 0x3000, 0x4, 585, [IO_PCLM.HOLDER, IO_PCLM.CLAIMS, IO_PCLM.LOST, IO_PCLM.RENEW]⟩

/-! SL registers (spec/12). -/

def SL_IRQ.QPLL : Field := { off := 0x7000, stride := 0x0, lo := 0, width := 1, reset := 0x0, acc := .w1c }
def SL_IRQ.CDR : Field := { off := 0x7000, stride := 0x0, lo := 1, width := 1, reset := 0x0, acc := .w1c }
def SL_IRQ.ALIGN : Field := { off := 0x7000, stride := 0x0, lo := 2, width := 1, reset := 0x0, acc := .w1c }
def SL_IRQ.CODE : Field := { off := 0x7000, stride := 0x0, lo := 3, width := 1, reset := 0x0, acc := .w1c }
def SL_IRQ.PRBS : Field := { off := 0x7000, stride := 0x0, lo := 4, width := 1, reset := 0x0, acc := .w1c }
def SL_IRQ.EYE : Field := { off := 0x7000, stride := 0x0, lo := 5, width := 1, reset := 0x0, acc := .w1c }
def SL_IRQ.reg : Reg := ⟨"SL_IRQ", 0x7000, 0x0, 1, [SL_IRQ.QPLL, SL_IRQ.CDR, SL_IRQ.ALIGN, SL_IRQ.CODE, SL_IRQ.PRBS, SL_IRQ.EYE]⟩
def SL_IE.IE : Field := { off := 0x7004, stride := 0x0, lo := 0, width := 6, reset := 0x0, acc := .rw }
def SL_IE.reg : Reg := ⟨"SL_IE", 0x7004, 0x0, 1, [SL_IE.IE]⟩
def SL_REFUSE.CODE : Field := { off := 0x7008, stride := 0x0, lo := 0, width := 16, reset := 0x0, acc := .ro }
def SL_REFUSE.OBJ : Field := { off := 0x7008, stride := 0x0, lo := 16, width := 16, reset := 0x0, acc := .ro }
def SL_REFUSE.reg : Reg := ⟨"SL_REFUSE", 0x7008, 0x0, 1, [SL_REFUSE.CODE, SL_REFUSE.OBJ]⟩
def SL_PXCFG.WIDTH : Field := { off := 0x700C, stride := 0x0, lo := 0, width := 4, reset := 0x8, acc := .rwo, legal := [(1, 2), (4, 4), (8, 8)] }
def SL_PXCFG.ACTIVE : Field := { off := 0x700C, stride := 0x0, lo := 4, width := 4, reset := 0x8, acc := .ro }
def SL_PXCFG.reg : Reg := ⟨"SL_PXCFG", 0x700C, 0x0, 1, [SL_PXCFG.WIDTH, SL_PXCFG.ACTIVE]⟩
def SL_QCFG.RDIV : Field := { off := 0x7100, stride := 0x20, lo := 0, width := 2, reset := 0x0, acc := .rw }
def SL_QCFG.N : Field := { off := 0x7100, stride := 0x20, lo := 4, width := 8, reset := 0x64, acc := .rw }
def SL_QCFG.reg : Reg := ⟨"SL_QCFG", 0x7100, 0x20, 10, [SL_QCFG.RDIV, SL_QCFG.N]⟩
def SL_QFRAC.F : Field := { off := 0x7104, stride := 0x20, lo := 0, width := 24, reset := 0x0, acc := .rw }
def SL_QFRAC.reg : Reg := ⟨"SL_QFRAC", 0x7104, 0x20, 10, [SL_QFRAC.F]⟩
def SL_QCTL.EN : Field := { off := 0x7108, stride := 0x20, lo := 0, width := 1, reset := 0x0, acc := .rw }
def SL_QCTL.GO : Field := { off := 0x7108, stride := 0x20, lo := 1, width := 1, reset := 0x0, acc := .wo }
def SL_QCTL.LOCK_T : Field := { off := 0x7108, stride := 0x20, lo := 2, width := 8, reset := 0x14, acc := .rw, legal := [(1, 255)] }
def SL_QCTL.reg : Reg := ⟨"SL_QCTL", 0x7108, 0x20, 10, [SL_QCTL.EN, SL_QCTL.GO, SL_QCTL.LOCK_T]⟩
def SL_QSTAT.STATE : Field := { off := 0x710C, stride := 0x20, lo := 0, width := 3, reset := 0x0, acc := .ro }
def SL_QSTAT.BUSY : Field := { off := 0x710C, stride := 0x20, lo := 3, width := 1, reset := 0x0, acc := .ro }
def SL_QSTAT.LOL : Field := { off := 0x710C, stride := 0x20, lo := 4, width := 1, reset := 0x0, acc := .w1c }
def SL_QSTAT.PX : Field := { off := 0x710C, stride := 0x20, lo := 5, width := 1, reset := 0x0, acc := .ro }
def SL_QSTAT.reg : Reg := ⟨"SL_QSTAT", 0x710C, 0x20, 10, [SL_QSTAT.STATE, SL_QSTAT.BUSY, SL_QSTAT.LOL, SL_QSTAT.PX]⟩
def SL_LCFG.EN : Field := { off := 0x7400, stride := 0x40, lo := 0, width := 1, reset := 0x0, acc := .rw }
def SL_LCFG.PCS : Field := { off := 0x7400, stride := 0x40, lo := 1, width := 3, reset := 0x2, acc := .rw }
def SL_LCFG.DIV : Field := { off := 0x7400, stride := 0x40, lo := 4, width := 3, reset := 0x0, acc := .rw, legal := [(0, 4)] }
def SL_LCFG.DETLAT : Field := { off := 0x7400, stride := 0x40, lo := 7, width := 1, reset := 0x0, acc := .rw }
def SL_LCFG.SCR : Field := { off := 0x7400, stride := 0x40, lo := 8, width := 1, reset := 0x1, acc := .rw }
def SL_LCFG.TX_INV : Field := { off := 0x7400, stride := 0x40, lo := 9, width := 1, reset := 0x0, acc := .rw }
def SL_LCFG.RX_INV : Field := { off := 0x7400, stride := 0x40, lo := 10, width := 1, reset := 0x0, acc := .rw }
def SL_LCFG.TXOFF : Field := { off := 0x7400, stride := 0x40, lo := 11, width := 1, reset := 0x0, acc := .rw }
def SL_LCFG.RXOFF : Field := { off := 0x7400, stride := 0x40, lo := 12, width := 1, reset := 0x0, acc := .rw }
def SL_LCFG.COMMA : Field := { off := 0x7400, stride := 0x40, lo := 13, width := 2, reset := 0x0, acc := .rw, legal := [(0, 2)] }
def SL_LCFG.reg : Reg := ⟨"SL_LCFG", 0x7400, 0x40, 40, [SL_LCFG.EN, SL_LCFG.PCS, SL_LCFG.DIV, SL_LCFG.DETLAT, SL_LCFG.SCR, SL_LCFG.TX_INV, SL_LCFG.RX_INV, SL_LCFG.TXOFF, SL_LCFG.RXOFF, SL_LCFG.COMMA]⟩
def SL_LCTL.RST : Field := { off := 0x7404, stride := 0x40, lo := 0, width := 1, reset := 0x0, acc := .wo }
def SL_LCTL.MARK : Field := { off := 0x7404, stride := 0x40, lo := 1, width := 1, reset := 0x0, acc := .rw }
def SL_LCTL.reg : Reg := ⟨"SL_LCTL", 0x7404, 0x40, 40, [SL_LCTL.RST, SL_LCTL.MARK]⟩
def SL_LSTAT.OWNER : Field := { off := 0x7408, stride := 0x40, lo := 0, width := 2, reset := 0x0, acc := .ro }
def SL_LSTAT.TXRUN : Field := { off := 0x7408, stride := 0x40, lo := 2, width := 1, reset := 0x0, acc := .ro }
def SL_LSTAT.SIGDET : Field := { off := 0x7408, stride := 0x40, lo := 3, width := 1, reset := 0x0, acc := .ro }
def SL_LSTAT.CDR : Field := { off := 0x7408, stride := 0x40, lo := 4, width := 1, reset := 0x0, acc := .ro }
def SL_LSTAT.ALIGNED : Field := { off := 0x7408, stride := 0x40, lo := 5, width := 1, reset := 0x0, acc := .ro }
def SL_LSTAT.reg : Reg := ⟨"SL_LSTAT", 0x7408, 0x40, 40, [SL_LSTAT.OWNER, SL_LSTAT.TXRUN, SL_LSTAT.SIGDET, SL_LSTAT.CDR, SL_LSTAT.ALIGNED]⟩
def SL_LTXEQ.PRE : Field := { off := 0x740C, stride := 0x40, lo := 0, width := 4, reset := 0x0, acc := .rw }
def SL_LTXEQ.POST : Field := { off := 0x740C, stride := 0x40, lo := 4, width := 5, reset := 0x8, acc := .rw }
def SL_LTXEQ.SWING : Field := { off := 0x740C, stride := 0x40, lo := 9, width := 4, reset := 0xA, acc := .rw }
def SL_LTXEQ.reg : Reg := ⟨"SL_LTXEQ", 0x740C, 0x40, 40, [SL_LTXEQ.PRE, SL_LTXEQ.POST, SL_LTXEQ.SWING]⟩
def SL_LRXEQ.ADAPT : Field := { off := 0x7410, stride := 0x40, lo := 0, width := 1, reset := 0x1, acc := .rw }
def SL_LRXEQ.PEAK : Field := { off := 0x7410, stride := 0x40, lo := 1, width := 4, reset := 0x8, acc := .rw }
def SL_LRXEQ.GAIN : Field := { off := 0x7410, stride := 0x40, lo := 5, width := 4, reset := 0x8, acc := .rw }
def SL_LRXEQ.reg : Reg := ⟨"SL_LRXEQ", 0x7410, 0x40, 40, [SL_LRXEQ.ADAPT, SL_LRXEQ.PEAK, SL_LRXEQ.GAIN]⟩
def SL_LDFE0.TAPS : Field := { off := 0x7414, stride := 0x40, lo := 0, width := 32, reset := 0x0, acc := .rw }
def SL_LDFE0.reg : Reg := ⟨"SL_LDFE0", 0x7414, 0x40, 40, [SL_LDFE0.TAPS]⟩
def SL_LDFE1.TAPS : Field := { off := 0x7418, stride := 0x40, lo := 0, width := 32, reset := 0x0, acc := .rw }
def SL_LDFE1.reg : Reg := ⟨"SL_LDFE1", 0x7418, 0x40, 40, [SL_LDFE1.TAPS]⟩
def SL_LDFE2.TAPS : Field := { off := 0x741C, stride := 0x40, lo := 0, width := 32, reset := 0x0, acc := .rw }
def SL_LDFE2.reg : Reg := ⟨"SL_LDFE2", 0x741C, 0x40, 40, [SL_LDFE2.TAPS]⟩
def SL_LTEST.LOOP : Field := { off := 0x7420, stride := 0x40, lo := 0, width := 2, reset := 0x0, acc := .rw, legal := [(0, 2)] }
def SL_LTEST.PRBS_TX : Field := { off := 0x7420, stride := 0x40, lo := 2, width := 3, reset := 0x0, acc := .rw, legal := [(0, 4)] }
def SL_LTEST.PRBS_RX : Field := { off := 0x7420, stride := 0x40, lo := 5, width := 3, reset := 0x0, acc := .rw, legal := [(0, 4)] }
def SL_LTEST.PRBS_LOCK : Field := { off := 0x7420, stride := 0x40, lo := 8, width := 1, reset := 0x0, acc := .ro }
def SL_LTEST.INJ : Field := { off := 0x7420, stride := 0x40, lo := 9, width := 1, reset := 0x0, acc := .wo }
def SL_LTEST.reg : Reg := ⟨"SL_LTEST", 0x7420, 0x40, 40, [SL_LTEST.LOOP, SL_LTEST.PRBS_TX, SL_LTEST.PRBS_RX, SL_LTEST.PRBS_LOCK, SL_LTEST.INJ]⟩
def SL_LPRBSERR.COUNT : Field := { off := 0x7424, stride := 0x40, lo := 0, width := 32, reset := 0x0, acc := .w1cAny }
def SL_LPRBSERR.reg : Reg := ⟨"SL_LPRBSERR", 0x7424, 0x40, 40, [SL_LPRBSERR.COUNT]⟩
def SL_LEYE.HOFS : Field := { off := 0x7428, stride := 0x40, lo := 0, width := 6, reset := 0x0, acc := .rw }
def SL_LEYE.VOFS : Field := { off := 0x7428, stride := 0x40, lo := 6, width := 8, reset := 0x0, acc := .rw, legal := [(0, 127), (129, 255)] }
def SL_LEYE.DWELL : Field := { off := 0x7428, stride := 0x40, lo := 14, width := 4, reset := 0x4, acc := .rw }
def SL_LEYE.GO : Field := { off := 0x7428, stride := 0x40, lo := 18, width := 1, reset := 0x0, acc := .wo }
def SL_LEYE.BUSY : Field := { off := 0x7428, stride := 0x40, lo := 19, width := 1, reset := 0x0, acc := .ro }
def SL_LEYE.DONE : Field := { off := 0x7428, stride := 0x40, lo := 20, width := 1, reset := 0x0, acc := .ro }
def SL_LEYE.reg : Reg := ⟨"SL_LEYE", 0x7428, 0x40, 40, [SL_LEYE.HOFS, SL_LEYE.VOFS, SL_LEYE.DWELL, SL_LEYE.GO, SL_LEYE.BUSY, SL_LEYE.DONE]⟩
def SL_LEYERES.COUNT : Field := { off := 0x742C, stride := 0x40, lo := 0, width := 32, reset := 0x0, acc := .ro }
def SL_LEYERES.reg : Reg := ⟨"SL_LEYERES", 0x742C, 0x40, 40, [SL_LEYERES.COUNT]⟩
def SL_LERR.CDR : Field := { off := 0x7430, stride := 0x40, lo := 0, width := 8, reset := 0x0, acc := .w1cAny }
def SL_LERR.ALIGN : Field := { off := 0x7430, stride := 0x40, lo := 8, width := 8, reset := 0x0, acc := .w1cAny }
def SL_LERR.CODE : Field := { off := 0x7430, stride := 0x40, lo := 16, width := 16, reset := 0x0, acc := .w1cAny }
def SL_LERR.reg : Reg := ⟨"SL_LERR", 0x7430, 0x40, 40, [SL_LERR.CDR, SL_LERR.ALIGN, SL_LERR.CODE]⟩
def SL_LTXWC0.WC : Field := { off := 0x7434, stride := 0x40, lo := 0, width := 32, reset := 0x0, acc := .ro }
def SL_LTXWC0.reg : Reg := ⟨"SL_LTXWC0", 0x7434, 0x40, 40, [SL_LTXWC0.WC]⟩
def SL_LMARK.MARKWC : Field := { off := 0x7438, stride := 0x40, lo := 0, width := 32, reset := 0x0, acc := .rw }
def SL_LMARK.reg : Reg := ⟨"SL_LMARK", 0x7438, 0x40, 40, [SL_LMARK.MARKWC]⟩

/-! PX registers (spec/13). -/

def PX_IRQ.GUARD : Field := { off := 0x20000, stride := 0x0, lo := 0, width := 1, reset := 0x0, acc := .w1c }
def PX_IRQ.DMA_ERR : Field := { off := 0x20000, stride := 0x0, lo := 1, width := 1, reset := 0x0, acc := .w1c }
def PX_IRQ.LINK : Field := { off := 0x20000, stride := 0x0, lo := 2, width := 1, reset := 0x0, acc := .w1c }
def PX_IRQ.AER : Field := { off := 0x20000, stride := 0x0, lo := 3, width := 1, reset := 0x0, acc := .w1c }
def PX_IRQ.WDROP : Field := { off := 0x20000, stride := 0x0, lo := 4, width := 1, reset := 0x0, acc := .w1c }
def PX_IRQ.DSTATE : Field := { off := 0x20000, stride := 0x0, lo := 5, width := 1, reset := 0x0, acc := .w1c }
def PX_IRQ.reg : Reg := ⟨"PX_IRQ", 0x20000, 0x0, 1, [PX_IRQ.GUARD, PX_IRQ.DMA_ERR, PX_IRQ.LINK, PX_IRQ.AER, PX_IRQ.WDROP, PX_IRQ.DSTATE]⟩
def PX_IE.IE : Field := { off := 0x20004, stride := 0x0, lo := 0, width := 6, reset := 0x0, acc := .rw }
def PX_IE.reg : Reg := ⟨"PX_IE", 0x20004, 0x0, 1, [PX_IE.IE]⟩
def PX_REFUSE.CODE : Field := { off := 0x20008, stride := 0x0, lo := 0, width := 16, reset := 0x0, acc := .ro }
def PX_REFUSE.OBJ : Field := { off := 0x20008, stride := 0x0, lo := 16, width := 16, reset := 0x0, acc := .ro }
def PX_REFUSE.reg : Reg := ⟨"PX_REFUSE", 0x20008, 0x0, 1, [PX_REFUSE.CODE, PX_REFUSE.OBJ]⟩
def PX_LINK.SPEED : Field := { off := 0x2000C, stride := 0x0, lo := 0, width := 4, reset := 0x0, acc := .ro }
def PX_LINK.WIDTH : Field := { off := 0x2000C, stride := 0x0, lo := 4, width := 4, reset := 0x0, acc := .ro }
def PX_LINK.DSTATE : Field := { off := 0x2000C, stride := 0x0, lo := 8, width := 2, reset := 0x0, acc := .ro }
def PX_LINK.L1 : Field := { off := 0x2000C, stride := 0x0, lo := 10, width := 1, reset := 0x0, acc := .ro }
def PX_LINK.MSIX_EN : Field := { off := 0x2000C, stride := 0x0, lo := 11, width := 1, reset := 0x0, acc := .ro }
def PX_LINK.MSI_EN : Field := { off := 0x2000C, stride := 0x0, lo := 12, width := 1, reset := 0x0, acc := .ro }
def PX_LINK.ID_PEND : Field := { off := 0x2000C, stride := 0x0, lo := 13, width := 1, reset := 0x0, acc := .ro }
def PX_LINK.MSI_VECS : Field := { off := 0x2000C, stride := 0x0, lo := 14, width := 6, reset := 0x0, acc := .ro }
def PX_LINK.reg : Reg := ⟨"PX_LINK", 0x2000C, 0x0, 1, [PX_LINK.SPEED, PX_LINK.WIDTH, PX_LINK.DSTATE, PX_LINK.L1, PX_LINK.MSIX_EN, PX_LINK.MSI_EN, PX_LINK.ID_PEND, PX_LINK.MSI_VECS]⟩
def PX_GUARD.TIME : Field := { off := 0x20010, stride := 0x0, lo := 0, width := 10, reset := 0xA, acc := .rw, legal := [(1, 1000)] }
def PX_GUARD.POLICY : Field := { off := 0x20010, stride := 0x0, lo := 10, width := 2, reset := 0x0, acc := .rw, legal := [(0, 2)] }
def PX_GUARD.reg : Reg := ⟨"PX_GUARD", 0x20010, 0x0, 1, [PX_GUARD.TIME, PX_GUARD.POLICY]⟩
def PX_GCNT.GUARDED : Field := { off := 0x20014, stride := 0x0, lo := 0, width := 16, reset := 0x0, acc := .w1cAny }
def PX_GCNT.LATE : Field := { off := 0x20014, stride := 0x0, lo := 16, width := 16, reset := 0x0, acc := .w1cAny }
def PX_GCNT.reg : Reg := ⟨"PX_GCNT", 0x20014, 0x0, 1, [PX_GCNT.GUARDED, PX_GCNT.LATE]⟩
def PX_IDCFG.SSVID : Field := { off := 0x20018, stride := 0x0, lo := 0, width := 16, reset := 0x1F6D, acc := .rwo }
def PX_IDCFG.SSID : Field := { off := 0x20018, stride := 0x0, lo := 16, width := 16, reset := 0x1536, acc := .rwo }
def PX_IDCFG.reg : Reg := ⟨"PX_IDCFG", 0x20018, 0x0, 1, [PX_IDCFG.SSVID, PX_IDCFG.SSID]⟩
def PX_BAR2CFG.SIZE : Field := { off := 0x2001C, stride := 0x0, lo := 0, width := 4, reset := 0x0, acc := .rwo, legal := [(0, 10)] }
def PX_BAR2CFG.reg : Reg := ⟨"PX_BAR2CFG", 0x2001C, 0x0, 1, [PX_BAR2CFG.SIZE]⟩
def PX_WDROP.GUARD : Field := { off := 0x20020, stride := 0x0, lo := 0, width := 10, reset := 0x0, acc := .w1cAny }
def PX_WDROP.ERROR : Field := { off := 0x20020, stride := 0x0, lo := 10, width := 10, reset := 0x0, acc := .w1cAny }
def PX_WDROP.NODESIGN : Field := { off := 0x20020, stride := 0x0, lo := 20, width := 12, reset := 0x0, acc := .w1cAny }
def PX_WDROP.reg : Reg := ⟨"PX_WDROP", 0x20020, 0x0, 1, [PX_WDROP.GUARD, PX_WDROP.ERROR, PX_WDROP.NODESIGN]⟩
def PX_ERRCNT.MALF : Field := { off := 0x20024, stride := 0x0, lo := 0, width := 8, reset := 0x0, acc := .w1cAny }
def PX_ERRCNT.POISON : Field := { off := 0x20024, stride := 0x0, lo := 8, width := 8, reset := 0x0, acc := .w1cAny }
def PX_ERRCNT.UNSUP : Field := { off := 0x20024, stride := 0x0, lo := 16, width := 8, reset := 0x0, acc := .w1cAny }
def PX_ERRCNT.UNEXP : Field := { off := 0x20024, stride := 0x0, lo := 24, width := 8, reset := 0x0, acc := .w1cAny }
def PX_ERRCNT.reg : Reg := ⟨"PX_ERRCNT", 0x20024, 0x0, 1, [PX_ERRCNT.MALF, PX_ERRCNT.POISON, PX_ERRCNT.UNSUP, PX_ERRCNT.UNEXP]⟩
def PX_CHCFG.EN : Field := { off := 0x21000, stride := 0x40, lo := 0, width := 1, reset := 0x0, acc := .rw }
def PX_CHCFG.PUSH : Field := { off := 0x21000, stride := 0x40, lo := 1, width := 1, reset := 0x0, acc := .rw }
def PX_CHCFG.PKT : Field := { off := 0x21000, stride := 0x40, lo := 2, width := 1, reset := 0x0, acc := .rw }
def PX_CHCFG.ANY : Field := { off := 0x21000, stride := 0x40, lo := 3, width := 1, reset := 0x0, acc := .rw }
def PX_CHCFG.LANE : Field := { off := 0x21000, stride := 0x40, lo := 4, width := 3, reset := 0x0, acc := .rw }
def PX_CHCFG.QUEUE : Field := { off := 0x21000, stride := 0x40, lo := 8, width := 8, reset := 0x0, acc := .rw }
def PX_CHCFG.WEIGHT : Field := { off := 0x21000, stride := 0x40, lo := 16, width := 4, reset := 0x0, acc := .rw }
def PX_CHCFG.VECTOR : Field := { off := 0x21000, stride := 0x40, lo := 20, width := 11, reset := 0x0, acc := .rw }
def PX_CHCFG.reg : Reg := ⟨"PX_CHCFG", 0x21000, 0x40, 64, [PX_CHCFG.EN, PX_CHCFG.PUSH, PX_CHCFG.PKT, PX_CHCFG.ANY, PX_CHCFG.LANE, PX_CHCFG.QUEUE, PX_CHCFG.WEIGHT, PX_CHCFG.VECTOR]⟩
def PX_CHFLUSH.FLUSH_T : Field := { off := 0x21004, stride := 0x40, lo := 0, width := 16, reset := 0x0, acc := .rw }
def PX_CHFLUSH.reg : Reg := ⟨"PX_CHFLUSH", 0x21004, 0x40, 64, [PX_CHFLUSH.FLUSH_T]⟩
def PX_RBASE_LO.ADDR : Field := { off := 0x21008, stride := 0x40, lo := 0, width := 32, reset := 0x0, acc := .rw }
def PX_RBASE_LO.reg : Reg := ⟨"PX_RBASE_LO", 0x21008, 0x40, 64, [PX_RBASE_LO.ADDR]⟩
def PX_RBASE_HI.ADDR : Field := { off := 0x2100C, stride := 0x40, lo := 0, width := 32, reset := 0x0, acc := .rw }
def PX_RBASE_HI.reg : Reg := ⟨"PX_RBASE_HI", 0x2100C, 0x40, 64, [PX_RBASE_HI.ADDR]⟩
def PX_RSIZE.RSIZE : Field := { off := 0x21010, stride := 0x40, lo := 0, width := 5, reset := 0x4, acc := .rw }
def PX_RSIZE.reg : Reg := ⟨"PX_RSIZE", 0x21010, 0x40, 64, [PX_RSIZE.RSIZE]⟩
def PX_HEAD.HEAD : Field := { off := 0x21014, stride := 0x40, lo := 0, width := 32, reset := 0x0, acc := .ro }
def PX_HEAD.reg : Reg := ⟨"PX_HEAD", 0x21014, 0x40, 64, [PX_HEAD.HEAD]⟩
def PX_TAIL.TAIL : Field := { off := 0x21018, stride := 0x40, lo := 0, width := 32, reset := 0x0, acc := .ro }
def PX_TAIL.reg : Reg := ⟨"PX_TAIL", 0x21018, 0x40, 64, [PX_TAIL.TAIL]⟩
def PX_CHSTAT.STATE : Field := { off := 0x2101C, stride := 0x40, lo := 0, width := 3, reset := 0x0, acc := .ro }
def PX_CHSTAT.LAST : Field := { off := 0x2101C, stride := 0x40, lo := 16, width := 16, reset := 0x0, acc := .ro }
def PX_CHSTAT.reg : Reg := ⟨"PX_CHSTAT", 0x2101C, 0x40, 64, [PX_CHSTAT.STATE, PX_CHSTAT.LAST]⟩
def PX_CHBYTES_LO.BYTES : Field := { off := 0x21020, stride := 0x40, lo := 0, width := 32, reset := 0x0, acc := .ro }
def PX_CHBYTES_LO.reg : Reg := ⟨"PX_CHBYTES_LO", 0x21020, 0x40, 64, [PX_CHBYTES_LO.BYTES]⟩
def PX_CHBYTES_HI.BYTES : Field := { off := 0x21024, stride := 0x40, lo := 0, width := 32, reset := 0x0, acc := .ro }
def PX_CHBYTES_HI.reg : Reg := ⟨"PX_CHBYTES_HI", 0x21024, 0x40, 64, [PX_CHBYTES_HI.BYTES]⟩
def PX_CHERR.ERR : Field := { off := 0x21028, stride := 0x40, lo := 0, width := 16, reset := 0x0, acc := .w1cAny }
def PX_CHERR.reg : Reg := ⟨"PX_CHERR", 0x21028, 0x40, 64, [PX_CHERR.ERR]⟩

/-! HX registers (spec/14). -/

def HX_IRQ.LINK : Field := { off := 0x24000, stride := 0x0, lo := 0, width := 1, reset := 0x0, acc := .w1c }
def HX_IRQ.LFAULT : Field := { off := 0x24000, stride := 0x0, lo := 1, width := 1, reset := 0x0, acc := .w1c }
def HX_IRQ.ROUTE : Field := { off := 0x24000, stride := 0x0, lo := 2, width := 1, reset := 0x0, acc := .w1c }
def HX_IRQ.ADDR : Field := { off := 0x24000, stride := 0x0, lo := 3, width := 1, reset := 0x0, acc := .w1c }
def HX_IRQ.BROKEN : Field := { off := 0x24000, stride := 0x0, lo := 4, width := 1, reset := 0x0, acc := .w1c }
def HX_IRQ.VIOL : Field := { off := 0x24000, stride := 0x0, lo := 5, width := 1, reset := 0x0, acc := .w1c }
def HX_IRQ.TIME : Field := { off := 0x24000, stride := 0x0, lo := 6, width := 1, reset := 0x0, acc := .w1c }
def HX_IRQ.CSR : Field := { off := 0x24000, stride := 0x0, lo := 7, width := 1, reset := 0x0, acc := .w1c }
def HX_IRQ.reg : Reg := ⟨"HX_IRQ", 0x24000, 0x0, 1, [HX_IRQ.LINK, HX_IRQ.LFAULT, HX_IRQ.ROUTE, HX_IRQ.ADDR, HX_IRQ.BROKEN, HX_IRQ.VIOL, HX_IRQ.TIME, HX_IRQ.CSR]⟩
def HX_IE.IE : Field := { off := 0x24004, stride := 0x0, lo := 0, width := 8, reset := 0x0, acc := .rw }
def HX_IE.reg : Reg := ⟨"HX_IE", 0x24004, 0x0, 1, [HX_IE.IE]⟩
def HX_REFUSE.CODE : Field := { off := 0x24008, stride := 0x0, lo := 0, width := 16, reset := 0x0, acc := .ro }
def HX_REFUSE.OBJ : Field := { off := 0x24008, stride := 0x0, lo := 16, width := 16, reset := 0x0, acc := .ro }
def HX_REFUSE.reg : Reg := ⟨"HX_REFUSE", 0x24008, 0x0, 1, [HX_REFUSE.CODE, HX_REFUSE.OBJ]⟩
def HX_DSTAT.ADDR : Field := { off := 0x2400C, stride := 0x0, lo := 0, width := 8, reset := 0x0, acc := .ro }
def HX_DSTAT.ROOT : Field := { off := 0x2400C, stride := 0x0, lo := 8, width := 1, reset := 0x0, acc := .ro }
def HX_DSTAT.FINAL : Field := { off := 0x2400C, stride := 0x0, lo := 9, width := 1, reset := 0x0, acc := .ro }
def HX_DSTAT.DIST : Field := { off := 0x2400C, stride := 0x0, lo := 10, width := 5, reset := 0x0, acc := .ro }
def HX_DSTAT.PARENT : Field := { off := 0x2400C, stride := 0x0, lo := 15, width := 3, reset := 0x0, acc := .ro }
def HX_DSTAT.PVALID : Field := { off := 0x2400C, stride := 0x0, lo := 18, width := 1, reset := 0x0, acc := .ro }
def HX_DSTAT.reg : Reg := ⟨"HX_DSTAT", 0x2400C, 0x0, 1, [HX_DSTAT.ADDR, HX_DSTAT.ROOT, HX_DSTAT.FINAL, HX_DSTAT.DIST, HX_DSTAT.PARENT, HX_DSTAT.PVALID]⟩
def HX_DCFG.PRIO : Field := { off := 0x24010, stride := 0x0, lo := 0, width := 8, reset := 0x80, acc := .rw }
def HX_DCFG.REQ_ADDR : Field := { off := 0x24010, stride := 0x0, lo := 8, width := 8, reset := 0x0, acc := .rw }
def HX_DCFG.ELECT_T : Field := { off := 0x24010, stride := 0x0, lo := 16, width := 12, reset := 0x14, acc := .rw, legal := [(1, 4095)] }
def HX_DCFG.reg : Reg := ⟨"HX_DCFG", 0x24010, 0x0, 1, [HX_DCFG.PRIO, HX_DCFG.REQ_ADDR, HX_DCFG.ELECT_T]⟩
def HX_ROOTID_LO.ID : Field := { off := 0x24014, stride := 0x0, lo := 0, width := 32, reset := 0x0, acc := .ro }
def HX_ROOTID_LO.reg : Reg := ⟨"HX_ROOTID_LO", 0x24014, 0x0, 1, [HX_ROOTID_LO.ID]⟩
def HX_ROOTID_HI.ID : Field := { off := 0x24018, stride := 0x0, lo := 0, width := 32, reset := 0x0, acc := .ro }
def HX_ROOTID_HI.reg : Reg := ⟨"HX_ROOTID_HI", 0x24018, 0x0, 1, [HX_ROOTID_HI.ID]⟩
def HX_DEVCNT.COUNT : Field := { off := 0x2401C, stride := 0x0, lo := 0, width := 9, reset := 0x0, acc := .ro }
def HX_DEVCNT.reg : Reg := ⟨"HX_DEVCNT", 0x2401C, 0x0, 1, [HX_DEVCNT.COUNT]⟩
def HX_TCFG.TIME_EN : Field := { off := 0x24020, stride := 0x0, lo := 0, width := 1, reset := 0x1, acc := .rw }
def HX_TCFG.PERIOD : Field := { off := 0x24020, stride := 0x0, lo := 1, width := 14, reset := 0x3E8, acc := .rw, legal := [(10, 10000)] }
def HX_TCFG.reg : Reg := ⟨"HX_TCFG", 0x24020, 0x0, 1, [HX_TCFG.TIME_EN, HX_TCFG.PERIOD]⟩
def HX_TSTAT.OFFSET : Field := { off := 0x24024, stride := 0x0, lo := 0, width := 32, reset := 0x0, acc := .ro }
def HX_TSTAT.reg : Reg := ⟨"HX_TSTAT", 0x24024, 0x0, 1, [HX_TSTAT.OFFSET]⟩
def HX_TDELAY.DELAY : Field := { off := 0x24028, stride := 0x0, lo := 0, width := 32, reset := 0x0, acc := .ro }
def HX_TDELAY.reg : Reg := ⟨"HX_TDELAY", 0x24028, 0x0, 1, [HX_TDELAY.DELAY]⟩
def HX_CSRCNT.LOST : Field := { off := 0x2402C, stride := 0x0, lo := 0, width := 16, reset := 0x0, acc := .w1cAny }
def HX_CSRCNT.reg : Reg := ⟨"HX_CSRCNT", 0x2402C, 0x0, 1, [HX_CSRCNT.LOST]⟩
def HX_NOROUTE.COUNT : Field := { off := 0x24030, stride := 0x0, lo := 0, width := 16, reset := 0x0, acc := .w1cAny }
def HX_NOROUTE.reg : Reg := ⟨"HX_NOROUTE", 0x24030, 0x0, 1, [HX_NOROUTE.COUNT]⟩
def HX_PCFG.EN : Field := { off := 0x24100, stride := 0x40, lo := 0, width := 1, reset := 0x0, acc := .rw }
def HX_PCFG.QUAD : Field := { off := 0x24100, stride := 0x40, lo := 1, width := 4, reset := 0x0, acc := .rw }
def HX_PCFG.SLANE : Field := { off := 0x24100, stride := 0x40, lo := 5, width := 2, reset := 0x0, acc := .rw }
def HX_PCFG.WIDTH : Field := { off := 0x24100, stride := 0x40, lo := 7, width := 2, reset := 0x0, acc := .rw, legal := [(0, 2)] }
def HX_PCFG.RATE : Field := { off := 0x24100, stride := 0x40, lo := 9, width := 1, reset := 0x0, acc := .rw }
def HX_PCFG.FEC : Field := { off := 0x24100, stride := 0x40, lo := 10, width := 1, reset := 0x0, acc := .rw }
def HX_PCFG.MIRROR : Field := { off := 0x24100, stride := 0x40, lo := 11, width := 1, reset := 0x0, acc := .rw }
def HX_PCFG.reg : Reg := ⟨"HX_PCFG", 0x24100, 0x40, 8, [HX_PCFG.EN, HX_PCFG.QUAD, HX_PCFG.SLANE, HX_PCFG.WIDTH, HX_PCFG.RATE, HX_PCFG.FEC, HX_PCFG.MIRROR]⟩
def HX_PCTL.RETRAIN : Field := { off := 0x24104, stride := 0x40, lo := 0, width := 1, reset := 0x0, acc := .wo }
def HX_PCTL.ECHO : Field := { off := 0x24104, stride := 0x40, lo := 1, width := 1, reset := 0x0, acc := .wo }
def HX_PCTL.reg : Reg := ⟨"HX_PCTL", 0x24104, 0x40, 8, [HX_PCTL.RETRAIN, HX_PCTL.ECHO]⟩
def HX_PSTAT.STATE : Field := { off := 0x24108, stride := 0x40, lo := 0, width := 3, reset := 0x0, acc := .ro }
def HX_PSTAT.LIVE : Field := { off := 0x24108, stride := 0x40, lo := 3, width := 1, reset := 0x0, acc := .ro }
def HX_PSTAT.PARENT : Field := { off := 0x24108, stride := 0x40, lo := 4, width := 1, reset := 0x0, acc := .ro }
def HX_PSTAT.CHILD : Field := { off := 0x24108, stride := 0x40, lo := 5, width := 1, reset := 0x0, acc := .ro }
def HX_PSTAT.NADDR : Field := { off := 0x24108, stride := 0x40, lo := 6, width := 8, reset := 0x0, acc := .ro }
def HX_PSTAT.ECHO_NS : Field := { off := 0x24108, stride := 0x40, lo := 14, width := 18, reset := 0x0, acc := .ro }
def HX_PSTAT.reg : Reg := ⟨"HX_PSTAT", 0x24108, 0x40, 8, [HX_PSTAT.STATE, HX_PSTAT.LIVE, HX_PSTAT.PARENT, HX_PSTAT.CHILD, HX_PSTAT.NADDR, HX_PSTAT.ECHO_NS]⟩
def HX_PTIME.REPLAY_T : Field := { off := 0x2410C, stride := 0x40, lo := 0, width := 8, reset := 0x8, acc := .rw, legal := [(1, 255)] }
def HX_PTIME.MAX_REPLAY : Field := { off := 0x2410C, stride := 0x40, lo := 8, width := 4, reset := 0x8, acc := .rw, legal := [(1, 15)] }
def HX_PTIME.WAKE_T : Field := { off := 0x2410C, stride := 0x40, lo := 12, width := 12, reset := 0x14, acc := .rw, legal := [(1, 4095)] }
def HX_PTIME.reg : Reg := ⟨"HX_PTIME", 0x2410C, 0x40, 8, [HX_PTIME.REPLAY_T, HX_PTIME.MAX_REPLAY, HX_PTIME.WAKE_T]⟩
def HX_PASYM.ASYM : Field := { off := 0x24110, stride := 0x40, lo := 0, width := 32, reset := 0x0, acc := .rw }
def HX_PASYM.reg : Reg := ⟨"HX_PASYM", 0x24110, 0x40, 8, [HX_PASYM.ASYM]⟩
def HX_PNBR_LO.ID : Field := { off := 0x24114, stride := 0x40, lo := 0, width := 32, reset := 0x0, acc := .ro }
def HX_PNBR_LO.reg : Reg := ⟨"HX_PNBR_LO", 0x24114, 0x40, 8, [HX_PNBR_LO.ID]⟩
def HX_PNBR_HI.ID : Field := { off := 0x24118, stride := 0x40, lo := 0, width := 32, reset := 0x0, acc := .ro }
def HX_PNBR_HI.reg : Reg := ⟨"HX_PNBR_HI", 0x24118, 0x40, 8, [HX_PNBR_HI.ID]⟩
def HX_PERR.NAK : Field := { off := 0x2411C, stride := 0x40, lo := 0, width := 8, reset := 0x0, acc := .w1cAny }
def HX_PERR.REPLAY : Field := { off := 0x2411C, stride := 0x40, lo := 8, width := 8, reset := 0x0, acc := .w1cAny }
def HX_PERR.VIOL : Field := { off := 0x2411C, stride := 0x40, lo := 16, width := 8, reset := 0x0, acc := .w1cAny }
def HX_PERR.DOWN : Field := { off := 0x2411C, stride := 0x40, lo := 24, width := 8, reset := 0x0, acc := .w1cAny }
def HX_PERR.reg : Reg := ⟨"HX_PERR", 0x2411C, 0x40, 8, [HX_PERR.NAK, HX_PERR.REPLAY, HX_PERR.VIOL, HX_PERR.DOWN]⟩
def HX_PFEC.CORR : Field := { off := 0x24120, stride := 0x40, lo := 0, width := 16, reset := 0x0, acc := .w1cAny }
def HX_PFEC.UNCORR : Field := { off := 0x24120, stride := 0x40, lo := 16, width := 16, reset := 0x0, acc := .w1cAny }
def HX_PFEC.reg : Reg := ⟨"HX_PFEC", 0x24120, 0x40, 8, [HX_PFEC.CORR, HX_PFEC.UNCORR]⟩
def HX_RT.PRIMARY : Field := { off := 0x24400, stride := 0x4, lo := 0, width := 3, reset := 0x0, acc := .rw }
def HX_RT.PVALID : Field := { off := 0x24400, stride := 0x4, lo := 3, width := 1, reset := 0x0, acc := .rw }
def HX_RT.ALT : Field := { off := 0x24400, stride := 0x4, lo := 4, width := 3, reset := 0x0, acc := .rw }
def HX_RT.AVALID : Field := { off := 0x24400, stride := 0x4, lo := 7, width := 1, reset := 0x0, acc := .rw }
def HX_RT.DIST : Field := { off := 0x24400, stride := 0x4, lo := 8, width := 8, reset := 0xFF, acc := .ro }
def HX_RT.LOCK : Field := { off := 0x24400, stride := 0x4, lo := 16, width := 1, reset := 0x0, acc := .rw }
def HX_RT.reg : Reg := ⟨"HX_RT", 0x24400, 0x4, 256, [HX_RT.PRIMARY, HX_RT.PVALID, HX_RT.ALT, HX_RT.AVALID, HX_RT.DIST, HX_RT.LOCK]⟩
def HX_CPCFG.EN : Field := { off := 0x24800, stride := 0x4, lo := 0, width := 1, reset := 0x0, acc := .rw }
def HX_CPCFG.DIR : Field := { off := 0x24800, stride := 0x4, lo := 1, width := 1, reset := 0x0, acc := .rw }
def HX_CPCFG.reg : Reg := ⟨"HX_CPCFG", 0x24800, 0x4, 32, [HX_CPCFG.EN, HX_CPCFG.DIR]⟩
def HX_EPSEL.EP : Field := { off := 0x24900, stride := 0x0, lo := 0, width := 12, reset := 0x0, acc := .rw }
def HX_EPSEL.reg : Reg := ⟨"HX_EPSEL", 0x24900, 0x0, 1, [HX_EPSEL.EP]⟩

/-! MI registers (spec/15). -/

def MI_CFG.EN : Field := { off := 0x28000, stride := 0x0, lo := 0, width := 1, reset := 0x0, acc := .rw }
def MI_CFG.ROLE_REQ : Field := { off := 0x28000, stride := 0x0, lo := 1, width := 2, reset := 0x0, acc := .rw, legal := [(0, 2)] }
def MI_CFG.WIT_MODE : Field := { off := 0x28000, stride := 0x0, lo := 3, width := 2, reset := 0x0, acc := .rw, legal := [(0, 1)] }
def MI_CFG.AUTO_RESYNC : Field := { off := 0x28000, stride := 0x0, lo := 5, width := 1, reset := 0x1, acc := .rw }
def MI_CFG.HOLD_RD : Field := { off := 0x28000, stride := 0x0, lo := 16, width := 16, reset := 0x0, acc := .rw }
def MI_CFG.reg : Reg := ⟨"MI_CFG", 0x28000, 0x0, 1, [MI_CFG.EN, MI_CFG.ROLE_REQ, MI_CFG.WIT_MODE, MI_CFG.AUTO_RESYNC, MI_CFG.HOLD_RD]⟩
def MI_TIME.EPOCH_T : Field := { off := 0x28004, stride := 0x0, lo := 0, width := 17, reset := 0x7D, acc := .rw, legal := [(8, 125000)] }
def MI_TIME.HB_MISS : Field := { off := 0x28004, stride := 0x0, lo := 20, width := 4, reset := 0x4, acc := .rw, legal := [(2, 15)] }
def MI_TIME.reg : Reg := ⟨"MI_TIME", 0x28004, 0x0, 1, [MI_TIME.EPOCH_T, MI_TIME.HB_MISS]⟩
def MI_TIME2.HB_T : Field := { off := 0x28008, stride := 0x0, lo := 0, width := 10, reset := 0x14, acc := .rw, legal := [(1, 1023)] }
def MI_TIME2.PAIR_T : Field := { off := 0x28008, stride := 0x0, lo := 16, width := 10, reset := 0xA, acc := .rw, legal := [(1, 1023)] }
def MI_TIME2.reg : Reg := ⟨"MI_TIME2", 0x28008, 0x0, 1, [MI_TIME2.HB_T, MI_TIME2.PAIR_T]⟩
def MI_WIT.WADDR : Field := { off := 0x2800C, stride := 0x0, lo := 0, width := 8, reset := 0x0, acc := .rw }
def MI_WIT.PAIR_ID : Field := { off := 0x2800C, stride := 0x0, lo := 16, width := 16, reset := 0x0, acc := .rw }
def MI_WIT.reg : Reg := ⟨"MI_WIT", 0x2800C, 0x0, 1, [MI_WIT.WADDR, MI_WIT.PAIR_ID]⟩
def MI_CMD.HANDOVER : Field := { off := 0x28010, stride := 0x0, lo := 0, width := 1, reset := 0x0, acc := .wo }
def MI_CMD.RESYNC : Field := { off := 0x28010, stride := 0x0, lo := 1, width := 1, reset := 0x0, acc := .wo }
def MI_CMD.DISBAND : Field := { off := 0x28010, stride := 0x0, lo := 2, width := 1, reset := 0x0, acc := .wo }
def MI_CMD.reg : Reg := ⟨"MI_CMD", 0x28010, 0x0, 1, [MI_CMD.HANDOVER, MI_CMD.RESYNC, MI_CMD.DISBAND]⟩
def MI_STAT.ROLE : Field := { off := 0x28014, stride := 0x0, lo := 0, width := 2, reset := 0x0, acc := .ro }
def MI_STAT.SYNC : Field := { off := 0x28014, stride := 0x0, lo := 2, width := 3, reset := 0x0, acc := .ro }
def MI_STAT.PEER : Field := { off := 0x28014, stride := 0x0, lo := 5, width := 1, reset := 0x0, acc := .ro }
def MI_STAT.LEASE : Field := { off := 0x28014, stride := 0x0, lo := 6, width := 1, reset := 0x0, acc := .ro }
def MI_STAT.PEER_ADDR : Field := { off := 0x28014, stride := 0x0, lo := 8, width := 8, reset := 0x0, acc := .ro }
def MI_STAT.TERM : Field := { off := 0x28014, stride := 0x0, lo := 16, width := 16, reset := 0x0, acc := .ro }
def MI_STAT.reg : Reg := ⟨"MI_STAT", 0x28014, 0x0, 1, [MI_STAT.ROLE, MI_STAT.SYNC, MI_STAT.PEER, MI_STAT.LEASE, MI_STAT.PEER_ADDR, MI_STAT.TERM]⟩
def MI_EPOCH.EPOCH : Field := { off := 0x28018, stride := 0x0, lo := 0, width := 32, reset := 0x0, acc := .ro }
def MI_EPOCH.reg : Reg := ⟨"MI_EPOCH", 0x28018, 0x0, 1, [MI_EPOCH.EPOCH]⟩
def MI_EPACK.ACKED : Field := { off := 0x2801C, stride := 0x0, lo := 0, width := 32, reset := 0x0, acc := .ro }
def MI_EPACK.reg : Reg := ⟨"MI_EPACK", 0x2801C, 0x0, 1, [MI_EPACK.ACKED]⟩
def MI_JLEVEL.WORDS : Field := { off := 0x28020, stride := 0x0, lo := 0, width := 18, reset := 0x0, acc := .ro }
def MI_JLEVEL.reg : Reg := ⟨"MI_JLEVEL", 0x28020, 0x0, 1, [MI_JLEVEL.WORDS]⟩
def MI_IRQ.ROLE : Field := { off := 0x28024, stride := 0x0, lo := 0, width := 1, reset := 0x0, acc := .w1c }
def MI_IRQ.SYNC : Field := { off := 0x28024, stride := 0x0, lo := 1, width := 1, reset := 0x0, acc := .w1c }
def MI_IRQ.PEER : Field := { off := 0x28024, stride := 0x0, lo := 2, width := 1, reset := 0x0, acc := .w1c }
def MI_IRQ.SPLIT : Field := { off := 0x28024, stride := 0x0, lo := 3, width := 1, reset := 0x0, acc := .w1c }
def MI_IRQ.JFULL : Field := { off := 0x28024, stride := 0x0, lo := 4, width := 1, reset := 0x0, acc := .w1c }
def MI_IRQ.MISMATCH : Field := { off := 0x28024, stride := 0x0, lo := 5, width := 1, reset := 0x0, acc := .w1c }
def MI_IRQ.SECW : Field := { off := 0x28024, stride := 0x0, lo := 6, width := 1, reset := 0x0, acc := .w1c }
def MI_IRQ.reg : Reg := ⟨"MI_IRQ", 0x28024, 0x0, 1, [MI_IRQ.ROLE, MI_IRQ.SYNC, MI_IRQ.PEER, MI_IRQ.SPLIT, MI_IRQ.JFULL, MI_IRQ.MISMATCH, MI_IRQ.SECW]⟩
def MI_IE.IE : Field := { off := 0x28028, stride := 0x0, lo := 0, width := 7, reset := 0x0, acc := .rw }
def MI_IE.reg : Reg := ⟨"MI_IE", 0x28028, 0x0, 1, [MI_IE.IE]⟩
def MI_REFUSE.CODE : Field := { off := 0x2802C, stride := 0x0, lo := 0, width := 16, reset := 0x0, acc := .ro }
def MI_REFUSE.OBJ : Field := { off := 0x2802C, stride := 0x0, lo := 16, width := 16, reset := 0x0, acc := .ro }
def MI_REFUSE.reg : Reg := ⟨"MI_REFUSE", 0x2802C, 0x0, 1, [MI_REFUSE.CODE, MI_REFUSE.OBJ]⟩
def MI_HASH.HASH : Field := { off := 0x28030, stride := 0x0, lo := 0, width := 32, reset := 0x0, acc := .ro }
def MI_HASH.reg : Reg := ⟨"MI_HASH", 0x28030, 0x0, 1, [MI_HASH.HASH]⟩
def MI_PHASH.PHASH : Field := { off := 0x28034, stride := 0x0, lo := 0, width := 32, reset := 0x0, acc := .ro }
def MI_PHASH.reg : Reg := ⟨"MI_PHASH", 0x28034, 0x0, 1, [MI_PHASH.PHASH]⟩
def MI_PEERID_LO.ID : Field := { off := 0x28038, stride := 0x0, lo := 0, width := 32, reset := 0x0, acc := .ro }
def MI_PEERID_LO.reg : Reg := ⟨"MI_PEERID_LO", 0x28038, 0x0, 1, [MI_PEERID_LO.ID]⟩
def MI_PEERID_HI.ID : Field := { off := 0x2803C, stride := 0x0, lo := 0, width := 32, reset := 0x0, acc := .ro }
def MI_PEERID_HI.reg : Reg := ⟨"MI_PEERID_HI", 0x2803C, 0x0, 1, [MI_PEERID_HI.ID]⟩
def MI_WHOLD.HOLDER : Field := { off := 0x28040, stride := 0x0, lo := 0, width := 8, reset := 0x0, acc := .ro }
def MI_WHOLD.PAIR_ID : Field := { off := 0x28040, stride := 0x0, lo := 16, width := 16, reset := 0x0, acc := .ro }
def MI_WHOLD.reg : Reg := ⟨"MI_WHOLD", 0x28040, 0x0, 1, [MI_WHOLD.HOLDER, MI_WHOLD.PAIR_ID]⟩
def MI_WCLAIM.ADDR : Field := { off := 0x28044, stride := 0x0, lo := 0, width := 8, reset := 0x0, acc := .wo }
def MI_WCLAIM.PAIR_ID : Field := { off := 0x28044, stride := 0x0, lo := 16, width := 16, reset := 0x0, acc := .wo }
def MI_WCLAIM.reg : Reg := ⟨"MI_WCLAIM", 0x28044, 0x0, 1, [MI_WCLAIM.ADDR, MI_WCLAIM.PAIR_ID]⟩
def MI_WREN.ADDR : Field := { off := 0x28048, stride := 0x0, lo := 0, width := 8, reset := 0x0, acc := .wo }
def MI_WREN.PAIR_ID : Field := { off := 0x28048, stride := 0x0, lo := 16, width := 16, reset := 0x0, acc := .wo }
def MI_WREN.reg : Reg := ⟨"MI_WREN", 0x28048, 0x0, 1, [MI_WREN.ADDR, MI_WREN.PAIR_ID]⟩
def MI_WCFG.WIT_EN : Field := { off := 0x2804C, stride := 0x0, lo := 0, width := 1, reset := 0x0, acc := .rw }
def MI_WCFG.LEASE_T : Field := { off := 0x2804C, stride := 0x0, lo := 1, width := 10, reset := 0x50, acc := .rw, legal := [(1, 1023)] }
def MI_WCFG.reg : Reg := ⟨"MI_WCFG", 0x2804C, 0x0, 1, [MI_WCFG.WIT_EN, MI_WCFG.LEASE_T]⟩
def MI_PINCT.CT : Field := { off := 0x28050, stride := 0x0, lo := 0, width := 9, reset := 0x0, acc := .rw }
def MI_PINCT.reg : Reg := ⟨"MI_PINCT", 0x28050, 0x0, 1, [MI_PINCT.CT]⟩
def MI_PIN.PINS : Field := { off := 0x28080, stride := 0x4, lo := 0, width := 32, reset := 0x0, acc := .rw }
def MI_PIN.reg : Reg := ⟨"MI_PIN", 0x28080, 0x4, 18, [MI_PIN.PINS]⟩
def MI_DECLA.KIND : Field := { off := 0x28100, stride := 0x8, lo := 0, width := 2, reset := 0x0, acc := .rw }
def MI_DECLA.START : Field := { off := 0x28100, stride := 0x8, lo := 12, width := 20, reset := 0x0, acc := .rw }
def MI_DECLA.reg : Reg := ⟨"MI_DECLA", 0x28100, 0x8, 128, [MI_DECLA.KIND, MI_DECLA.START]⟩
def MI_DECLB.COUNT : Field := { off := 0x28104, stride := 0x8, lo := 0, width := 18, reset := 0x0, acc := .rw }
def MI_DECLB.reg : Reg := ⟨"MI_DECLB", 0x28104, 0x8, 128, [MI_DECLB.COUNT]⟩

/-! LG registers (spec/16). -/

def LG_CTL.RUN : Field := { off := 0x30000, stride := 0x0, lo := 0, width := 1, reset := 0x0, acc := .rw }
def LG_CTL.reg : Reg := ⟨"LG_CTL", 0x30000, 0x0, 1, [LG_CTL.RUN]⟩
def LG_STAT.STATE : Field := { off := 0x30004, stride := 0x0, lo := 0, width := 3, reset := 0x0, acc := .ro }
def LG_STAT.RESV : Field := { off := 0x30004, stride := 0x0, lo := 3, width := 1, reset := 0x0, acc := .ro }
def LG_STAT.MEMREF : Field := { off := 0x30004, stride := 0x0, lo := 4, width := 1, reset := 0x0, acc := .w1c }
def LG_STAT.reg : Reg := ⟨"LG_STAT", 0x30004, 0x0, 1, [LG_STAT.STATE, LG_STAT.RESV, LG_STAT.MEMREF]⟩
def LG_IRQ.WDT : Field := { off := 0x30008, stride := 0x0, lo := 0, width := 1, reset := 0x0, acc := .w1c }
def LG_IRQ.MBOX_H2L : Field := { off := 0x30008, stride := 0x0, lo := 1, width := 1, reset := 0x0, acc := .w1c }
def LG_IRQ.MBOX_L2H : Field := { off := 0x30008, stride := 0x0, lo := 2, width := 1, reset := 0x0, acc := .w1c }
def LG_IRQ.HALT : Field := { off := 0x30008, stride := 0x0, lo := 3, width := 1, reset := 0x0, acc := .w1c }
def LG_IRQ.PIN_LOST : Field := { off := 0x30008, stride := 0x0, lo := 4, width := 1, reset := 0x0, acc := .w1c }
def LG_IRQ.ECC : Field := { off := 0x30008, stride := 0x0, lo := 5, width := 1, reset := 0x0, acc := .w1c }
def LG_IRQ.AWIN : Field := { off := 0x30008, stride := 0x0, lo := 6, width := 1, reset := 0x0, acc := .w1c }
def LG_IRQ.reg : Reg := ⟨"LG_IRQ", 0x30008, 0x0, 1, [LG_IRQ.WDT, LG_IRQ.MBOX_H2L, LG_IRQ.MBOX_L2H, LG_IRQ.HALT, LG_IRQ.PIN_LOST, LG_IRQ.ECC, LG_IRQ.AWIN]⟩
def LG_IE.IE : Field := { off := 0x3000C, stride := 0x0, lo := 0, width := 7, reset := 0x0, acc := .rw }
def LG_IE.reg : Reg := ⟨"LG_IE", 0x3000C, 0x0, 1, [LG_IE.IE]⟩
def LG_REFUSE.CODE : Field := { off := 0x30010, stride := 0x0, lo := 0, width := 16, reset := 0x0, acc := .ro }
def LG_REFUSE.OBJ : Field := { off := 0x30010, stride := 0x0, lo := 16, width := 16, reset := 0x0, acc := .ro }
def LG_REFUSE.reg : Reg := ⟨"LG_REFUSE", 0x30010, 0x0, 1, [LG_REFUSE.CODE, LG_REFUSE.OBJ]⟩
def LG_ECC.CE : Field := { off := 0x30014, stride := 0x0, lo := 0, width := 16, reset := 0x0, acc := .w1cAny }
def LG_ECC.UE : Field := { off := 0x30014, stride := 0x0, lo := 16, width := 16, reset := 0x0, acc := .w1cAny }
def LG_ECC.reg : Reg := ⟨"LG_ECC", 0x30014, 0x0, 1, [LG_ECC.CE, LG_ECC.UE]⟩
def LG_MEMADDR.WADDR : Field := { off := 0x30018, stride := 0x0, lo := 0, width := 16, reset := 0x0, acc := .rw }
def LG_MEMADDR.SEL : Field := { off := 0x30018, stride := 0x0, lo := 16, width := 1, reset := 0x0, acc := .rw }
def LG_MEMADDR.INC : Field := { off := 0x30018, stride := 0x0, lo := 31, width := 1, reset := 0x0, acc := .rw }
def LG_MEMADDR.reg : Reg := ⟨"LG_MEMADDR", 0x30018, 0x0, 1, [LG_MEMADDR.WADDR, LG_MEMADDR.SEL, LG_MEMADDR.INC]⟩
def LG_MEMDATA.DATA : Field := { off := 0x3001C, stride := 0x0, lo := 0, width := 32, reset := 0x0, acc := .rw }
def LG_MEMDATA.reg : Reg := ⟨"LG_MEMDATA", 0x3001C, 0x0, 1, [LG_MEMDATA.DATA]⟩
def LG_AWIN.GUARD : Field := { off := 0x30020, stride := 0x0, lo := 0, width := 10, reset := 0xA, acc := .rw, legal := [(1, 1000)] }
def LG_AWIN.reg : Reg := ⟨"LG_AWIN", 0x30020, 0x0, 1, [LG_AWIN.GUARD]⟩
def LG_AWCNT.GUARDED : Field := { off := 0x30024, stride := 0x0, lo := 0, width := 16, reset := 0x0, acc := .w1cAny }
def LG_AWCNT.LATE : Field := { off := 0x30024, stride := 0x0, lo := 16, width := 16, reset := 0x0, acc := .w1cAny }
def LG_AWCNT.reg : Reg := ⟨"LG_AWCNT", 0x30024, 0x0, 1, [LG_AWCNT.GUARDED, LG_AWCNT.LATE]⟩
def LG_UCFG.EN : Field := { off := 0x31000, stride := 0x100, lo := 0, width := 1, reset := 0x0, acc := .rw }
def LG_UCFG.BITS7 : Field := { off := 0x31000, stride := 0x100, lo := 1, width := 1, reset := 0x0, acc := .rw }
def LG_UCFG.PARITY : Field := { off := 0x31000, stride := 0x100, lo := 2, width := 2, reset := 0x0, acc := .rw, legal := [(0, 2)] }
def LG_UCFG.STOP2 : Field := { off := 0x31000, stride := 0x100, lo := 4, width := 1, reset := 0x0, acc := .rw }
def LG_UCFG.LOOP : Field := { off := 0x31000, stride := 0x100, lo := 5, width := 1, reset := 0x0, acc := .rw }
def LG_UCFG.DIV : Field := { off := 0x31000, stride := 0x100, lo := 12, width := 20, reset := 0x87A, acc := .rw, legal := [(16, 1048575)] }
def LG_UCFG.reg : Reg := ⟨"LG_UCFG", 0x31000, 0x100, 2, [LG_UCFG.EN, LG_UCFG.BITS7, LG_UCFG.PARITY, LG_UCFG.STOP2, LG_UCFG.LOOP, LG_UCFG.DIV]⟩
def LG_UDATA.TX : Field := { off := 0x31004, stride := 0x100, lo := 0, width := 8, reset := 0x0, acc := .wo }
def LG_UDATA.reg : Reg := ⟨"LG_UDATA", 0x31004, 0x100, 2, [LG_UDATA.TX]⟩
def LG_USTAT.TXLVL : Field := { off := 0x31008, stride := 0x100, lo := 0, width := 7, reset := 0x0, acc := .ro }
def LG_USTAT.RXLVL : Field := { off := 0x31008, stride := 0x100, lo := 8, width := 7, reset := 0x0, acc := .ro }
def LG_USTAT.RXNE : Field := { off := 0x31008, stride := 0x100, lo := 16, width := 1, reset := 0x0, acc := .ro }
def LG_USTAT.TXLOW : Field := { off := 0x31008, stride := 0x100, lo := 17, width := 1, reset := 0x1, acc := .ro }
def LG_USTAT.OVR : Field := { off := 0x31008, stride := 0x100, lo := 18, width := 1, reset := 0x0, acc := .w1c }
def LG_USTAT.ERR : Field := { off := 0x31008, stride := 0x100, lo := 19, width := 1, reset := 0x0, acc := .w1c }
def LG_USTAT.LOST : Field := { off := 0x31008, stride := 0x100, lo := 20, width := 1, reset := 0x0, acc := .w1c }
def LG_USTAT.DROP : Field := { off := 0x31008, stride := 0x100, lo := 24, width := 8, reset := 0x0, acc := .w1cAny }
def LG_USTAT.reg : Reg := ⟨"LG_USTAT", 0x31008, 0x100, 2, [LG_USTAT.TXLVL, LG_USTAT.RXLVL, LG_USTAT.RXNE, LG_USTAT.TXLOW, LG_USTAT.OVR, LG_USTAT.ERR, LG_USTAT.LOST, LG_USTAT.DROP]⟩
def LG_UIE.IE : Field := { off := 0x3100C, stride := 0x100, lo := 0, width := 4, reset := 0x0, acc := .rw }
def LG_UIE.reg : Reg := ⟨"LG_UIE", 0x3100C, 0x100, 2, [LG_UIE.IE]⟩
def LG_SCFG.EN : Field := { off := 0x31200, stride := 0x100, lo := 0, width := 1, reset := 0x0, acc := .rw }
def LG_SCFG.CPOL : Field := { off := 0x31200, stride := 0x100, lo := 1, width := 1, reset := 0x0, acc := .rw }
def LG_SCFG.CPHA : Field := { off := 0x31200, stride := 0x100, lo := 2, width := 1, reset := 0x0, acc := .rw }
def LG_SCFG.LSB : Field := { off := 0x31200, stride := 0x100, lo := 3, width := 1, reset := 0x0, acc := .rw }
def LG_SCFG.CSEN : Field := { off := 0x31200, stride := 0x100, lo := 4, width := 4, reset := 0x0, acc := .rw }
def LG_SCFG.DIV : Field := { off := 0x31200, stride := 0x100, lo := 8, width := 16, reset := 0x4, acc := .rw, legal := [(1, 65535)] }
def LG_SCFG.reg : Reg := ⟨"LG_SCFG", 0x31200, 0x100, 2, [LG_SCFG.EN, LG_SCFG.CPOL, LG_SCFG.CPHA, LG_SCFG.LSB, LG_SCFG.CSEN, LG_SCFG.DIV]⟩
def LG_SCMD.CS : Field := { off := 0x31204, stride := 0x100, lo := 0, width := 2, reset := 0x0, acc := .wo }
def LG_SCMD.KEEP : Field := { off := 0x31204, stride := 0x100, lo := 2, width := 1, reset := 0x0, acc := .wo }
def LG_SCMD.COUNT : Field := { off := 0x31204, stride := 0x100, lo := 3, width := 11, reset := 0x0, acc := .wo }
def LG_SCMD.reg : Reg := ⟨"LG_SCMD", 0x31204, 0x100, 2, [LG_SCMD.CS, LG_SCMD.KEEP, LG_SCMD.COUNT]⟩
def LG_SDATA.TX : Field := { off := 0x31208, stride := 0x100, lo := 0, width := 8, reset := 0x0, acc := .wo }
def LG_SDATA.reg : Reg := ⟨"LG_SDATA", 0x31208, 0x100, 2, [LG_SDATA.TX]⟩
def LG_SSTAT.TXLVL : Field := { off := 0x3120C, stride := 0x100, lo := 0, width := 6, reset := 0x0, acc := .ro }
def LG_SSTAT.RXLVL : Field := { off := 0x3120C, stride := 0x100, lo := 8, width := 6, reset := 0x0, acc := .ro }
def LG_SSTAT.BUSY : Field := { off := 0x3120C, stride := 0x100, lo := 16, width := 1, reset := 0x0, acc := .ro }
def LG_SSTAT.DONE : Field := { off := 0x3120C, stride := 0x100, lo := 17, width := 1, reset := 0x0, acc := .w1c }
def LG_SSTAT.RXNE : Field := { off := 0x3120C, stride := 0x100, lo := 18, width := 1, reset := 0x0, acc := .ro }
def LG_SSTAT.CMDERR : Field := { off := 0x3120C, stride := 0x100, lo := 19, width := 1, reset := 0x0, acc := .w1c }
def LG_SSTAT.LOST : Field := { off := 0x3120C, stride := 0x100, lo := 20, width := 1, reset := 0x0, acc := .w1c }
def LG_SSTAT.reg : Reg := ⟨"LG_SSTAT", 0x3120C, 0x100, 2, [LG_SSTAT.TXLVL, LG_SSTAT.RXLVL, LG_SSTAT.BUSY, LG_SSTAT.DONE, LG_SSTAT.RXNE, LG_SSTAT.CMDERR, LG_SSTAT.LOST]⟩
def LG_SIE.IE : Field := { off := 0x31210, stride := 0x100, lo := 0, width := 3, reset := 0x0, acc := .rw }
def LG_SIE.reg : Reg := ⟨"LG_SIE", 0x31210, 0x100, 2, [LG_SIE.IE]⟩
def LG_ICFG.EN : Field := { off := 0x31400, stride := 0x100, lo := 0, width := 1, reset := 0x0, acc := .rw }
def LG_ICFG.SPEED : Field := { off := 0x31400, stride := 0x100, lo := 1, width := 2, reset := 0x0, acc := .rw, legal := [(0, 2)] }
def LG_ICFG.PEC_EN : Field := { off := 0x31400, stride := 0x100, lo := 3, width := 1, reset := 0x0, acc := .rw }
def LG_ICFG.TOUT_EN : Field := { off := 0x31400, stride := 0x100, lo := 4, width := 1, reset := 0x0, acc := .rw }
def LG_ICFG.reg : Reg := ⟨"LG_ICFG", 0x31400, 0x100, 2, [LG_ICFG.EN, LG_ICFG.SPEED, LG_ICFG.PEC_EN, LG_ICFG.TOUT_EN]⟩
def LG_ICMD.ADDR : Field := { off := 0x31404, stride := 0x100, lo := 0, width := 7, reset := 0x0, acc := .wo }
def LG_ICMD.RD : Field := { off := 0x31404, stride := 0x100, lo := 7, width := 1, reset := 0x0, acc := .wo }
def LG_ICMD.START : Field := { off := 0x31404, stride := 0x100, lo := 8, width := 1, reset := 0x0, acc := .wo }
def LG_ICMD.STOP : Field := { off := 0x31404, stride := 0x100, lo := 9, width := 1, reset := 0x0, acc := .wo }
def LG_ICMD.COUNT : Field := { off := 0x31404, stride := 0x100, lo := 10, width := 8, reset := 0x0, acc := .wo }
def LG_ICMD.reg : Reg := ⟨"LG_ICMD", 0x31404, 0x100, 2, [LG_ICMD.ADDR, LG_ICMD.RD, LG_ICMD.START, LG_ICMD.STOP, LG_ICMD.COUNT]⟩
def LG_IDATA.TX : Field := { off := 0x31408, stride := 0x100, lo := 0, width := 8, reset := 0x0, acc := .wo }
def LG_IDATA.reg : Reg := ⟨"LG_IDATA", 0x31408, 0x100, 2, [LG_IDATA.TX]⟩
def LG_ISTAT.TXLVL : Field := { off := 0x3140C, stride := 0x100, lo := 0, width := 6, reset := 0x0, acc := .ro }
def LG_ISTAT.RXLVL : Field := { off := 0x3140C, stride := 0x100, lo := 8, width := 6, reset := 0x0, acc := .ro }
def LG_ISTAT.BUSY : Field := { off := 0x3140C, stride := 0x100, lo := 16, width := 1, reset := 0x0, acc := .ro }
def LG_ISTAT.DONE : Field := { off := 0x3140C, stride := 0x100, lo := 17, width := 1, reset := 0x0, acc := .w1c }
def LG_ISTAT.NACK : Field := { off := 0x3140C, stride := 0x100, lo := 18, width := 1, reset := 0x0, acc := .w1c }
def LG_ISTAT.ARBLOST : Field := { off := 0x3140C, stride := 0x100, lo := 19, width := 1, reset := 0x0, acc := .w1c }
def LG_ISTAT.TIMEOUT : Field := { off := 0x3140C, stride := 0x100, lo := 20, width := 1, reset := 0x0, acc := .w1c }
def LG_ISTAT.PECERR : Field := { off := 0x3140C, stride := 0x100, lo := 21, width := 1, reset := 0x0, acc := .w1c }
def LG_ISTAT.ALERT : Field := { off := 0x3140C, stride := 0x100, lo := 22, width := 1, reset := 0x0, acc := .w1c }
def LG_ISTAT.ALERT_LVL : Field := { off := 0x3140C, stride := 0x100, lo := 23, width := 1, reset := 0x0, acc := .ro }
def LG_ISTAT.LOST : Field := { off := 0x3140C, stride := 0x100, lo := 24, width := 1, reset := 0x0, acc := .w1c }
def LG_ISTAT.reg : Reg := ⟨"LG_ISTAT", 0x3140C, 0x100, 2, [LG_ISTAT.TXLVL, LG_ISTAT.RXLVL, LG_ISTAT.BUSY, LG_ISTAT.DONE, LG_ISTAT.NACK, LG_ISTAT.ARBLOST, LG_ISTAT.TIMEOUT, LG_ISTAT.PECERR, LG_ISTAT.ALERT, LG_ISTAT.ALERT_LVL, LG_ISTAT.LOST]⟩
def LG_IIE.IE : Field := { off := 0x31410, stride := 0x100, lo := 0, width := 6, reset := 0x0, acc := .rw }
def LG_IIE.reg : Reg := ⟨"LG_IIE", 0x31410, 0x100, 2, [LG_IIE.IE]⟩
def LG_GPOUT.OUT : Field := { off := 0x31800, stride := 0x0, lo := 0, width := 32, reset := 0x0, acc := .rw }
def LG_GPOUT.reg : Reg := ⟨"LG_GPOUT", 0x31800, 0x0, 1, [LG_GPOUT.OUT]⟩
def LG_GPSET.SET : Field := { off := 0x31804, stride := 0x0, lo := 0, width := 32, reset := 0x0, acc := .wo }
def LG_GPSET.reg : Reg := ⟨"LG_GPSET", 0x31804, 0x0, 1, [LG_GPSET.SET]⟩
def LG_GPCLR.CLR : Field := { off := 0x31808, stride := 0x0, lo := 0, width := 32, reset := 0x0, acc := .wo }
def LG_GPCLR.reg : Reg := ⟨"LG_GPCLR", 0x31808, 0x0, 1, [LG_GPCLR.CLR]⟩
def LG_GPOE.OE : Field := { off := 0x3180C, stride := 0x0, lo := 0, width := 32, reset := 0x0, acc := .rw }
def LG_GPOE.reg : Reg := ⟨"LG_GPOE", 0x3180C, 0x0, 1, [LG_GPOE.OE]⟩
def LG_GPIN.IN : Field := { off := 0x31810, stride := 0x0, lo := 0, width := 32, reset := 0x0, acc := .ro }
def LG_GPIN.reg : Reg := ⟨"LG_GPIN", 0x31810, 0x0, 1, [LG_GPIN.IN]⟩
def LG_GPLOST.LOST : Field := { off := 0x31814, stride := 0x0, lo := 0, width := 32, reset := 0x0, acc := .w1c }
def LG_GPLOST.reg : Reg := ⟨"LG_GPLOST", 0x31814, 0x0, 1, [LG_GPLOST.LOST]⟩
def LG_GPRISE.RISE : Field := { off := 0x31818, stride := 0x0, lo := 0, width := 32, reset := 0x0, acc := .rw }
def LG_GPRISE.reg : Reg := ⟨"LG_GPRISE", 0x31818, 0x0, 1, [LG_GPRISE.RISE]⟩
def LG_GPFALL.FALL : Field := { off := 0x3181C, stride := 0x0, lo := 0, width := 32, reset := 0x0, acc := .rw }
def LG_GPFALL.reg : Reg := ⟨"LG_GPFALL", 0x3181C, 0x0, 1, [LG_GPFALL.FALL]⟩
def LG_GPIF.IF : Field := { off := 0x31820, stride := 0x0, lo := 0, width := 32, reset := 0x0, acc := .w1c }
def LG_GPIF.reg : Reg := ⟨"LG_GPIF", 0x31820, 0x0, 1, [LG_GPIF.IF]⟩
def LG_GPIE.IE : Field := { off := 0x31824, stride := 0x0, lo := 0, width := 32, reset := 0x0, acc := .rw }
def LG_GPIE.reg : Reg := ⟨"LG_GPIE", 0x31824, 0x0, 1, [LG_GPIE.IE]⟩
def LG_WDCFG.EN : Field := { off := 0x31900, stride := 0x0, lo := 0, width := 1, reset := 0x0, acc := .rw }
def LG_WDCFG.ACTION : Field := { off := 0x31900, stride := 0x0, lo := 1, width := 1, reset := 0x0, acc := .rw }
def LG_WDCFG.FRZ : Field := { off := 0x31900, stride := 0x0, lo := 2, width := 1, reset := 0x1, acc := .rw }
def LG_WDCFG.TIMEOUT : Field := { off := 0x31900, stride := 0x0, lo := 8, width := 24, reset := 0xF4240, acc := .rw, legal := [(1, 16777215)] }
def LG_WDCFG.reg : Reg := ⟨"LG_WDCFG", 0x31900, 0x0, 1, [LG_WDCFG.EN, LG_WDCFG.ACTION, LG_WDCFG.FRZ, LG_WDCFG.TIMEOUT]⟩
def LG_WDKICK.KEY : Field := { off := 0x31904, stride := 0x0, lo := 0, width := 32, reset := 0x0, acc := .wo }
def LG_WDKICK.reg : Reg := ⟨"LG_WDKICK", 0x31904, 0x0, 1, [LG_WDKICK.KEY]⟩
def LG_WDSTAT.REMAIN : Field := { off := 0x31908, stride := 0x0, lo := 0, width := 24, reset := 0x0, acc := .ro }
def LG_WDSTAT.WARNED : Field := { off := 0x31908, stride := 0x0, lo := 24, width := 1, reset := 0x0, acc := .ro }
def LG_WDSTAT.BADKICK : Field := { off := 0x31908, stride := 0x0, lo := 25, width := 7, reset := 0x0, acc := .w1cAny }
def LG_WDSTAT.reg : Reg := ⟨"LG_WDSTAT", 0x31908, 0x0, 1, [LG_WDSTAT.REMAIN, LG_WDSTAT.WARNED, LG_WDSTAT.BADKICK]⟩
def LG_MBH2L.DATA : Field := { off := 0x31A00, stride := 0x4, lo := 0, width := 32, reset := 0x0, acc := .rw }
def LG_MBH2L.reg : Reg := ⟨"LG_MBH2L", 0x31A00, 0x4, 8, [LG_MBH2L.DATA]⟩
def LG_MBL2H.DATA : Field := { off := 0x31A20, stride := 0x4, lo := 0, width := 32, reset := 0x0, acc := .rw }
def LG_MBL2H.reg : Reg := ⟨"LG_MBL2H", 0x31A20, 0x4, 8, [LG_MBL2H.DATA]⟩
def LG_MBDB.H2L_RING : Field := { off := 0x31A40, stride := 0x0, lo := 0, width := 1, reset := 0x0, acc := .wo }
def LG_MBDB.L2H_RING : Field := { off := 0x31A40, stride := 0x0, lo := 1, width := 1, reset := 0x0, acc := .wo }
def LG_MBDB.reg : Reg := ⟨"LG_MBDB", 0x31A40, 0x0, 1, [LG_MBDB.H2L_RING, LG_MBDB.L2H_RING]⟩
def LG_MBSTAT.H2L_FULL : Field := { off := 0x31A44, stride := 0x0, lo := 0, width := 1, reset := 0x0, acc := .w1c }
def LG_MBSTAT.L2H_FULL : Field := { off := 0x31A44, stride := 0x0, lo := 1, width := 1, reset := 0x0, acc := .w1c }
def LG_MBSTAT.DROPS : Field := { off := 0x31A44, stride := 0x0, lo := 8, width := 8, reset := 0x0, acc := .w1cAny }
def LG_MBSTAT.reg : Reg := ⟨"LG_MBSTAT", 0x31A44, 0x0, 1, [LG_MBSTAT.H2L_FULL, LG_MBSTAT.L2H_FULL, LG_MBSTAT.DROPS]⟩
def LG_ICPRIO.PRIO : Field := { off := 0x32000, stride := 0x4, lo := 0, width := 3, reset := 0x0, acc := .rw }
def LG_ICPRIO.reg : Reg := ⟨"LG_ICPRIO", 0x32000, 0x4, 256, [LG_ICPRIO.PRIO]⟩
def LG_ICEN.EN : Field := { off := 0x32400, stride := 0x4, lo := 0, width := 32, reset := 0x0, acc := .rw }
def LG_ICEN.reg : Reg := ⟨"LG_ICEN", 0x32400, 0x4, 8, [LG_ICEN.EN]⟩
def LG_ICPEND.PEND : Field := { off := 0x32480, stride := 0x4, lo := 0, width := 32, reset := 0x0, acc := .ro }
def LG_ICPEND.reg : Reg := ⟨"LG_ICPEND", 0x32480, 0x4, 8, [LG_ICPEND.PEND]⟩
def LG_ICTHR.THR : Field := { off := 0x32500, stride := 0x0, lo := 0, width := 3, reset := 0x0, acc := .rw }
def LG_ICTHR.reg : Reg := ⟨"LG_ICTHR", 0x32500, 0x0, 1, [LG_ICTHR.THR]⟩
def LG_ICCLAIM.SRC : Field := { off := 0x32504, stride := 0x0, lo := 0, width := 8, reset := 0x0, acc := .wo }
def LG_ICCLAIM.VALID : Field := { off := 0x32504, stride := 0x0, lo := 8, width := 1, reset := 0x0, acc := .ro }
def LG_ICCLAIM.reg : Reg := ⟨"LG_ICCLAIM", 0x32504, 0x0, 1, [LG_ICCLAIM.SRC, LG_ICCLAIM.VALID]⟩
def LG_MTIME_LO.MTIME : Field := { off := 0x32600, stride := 0x0, lo := 0, width := 32, reset := 0x0, acc := .rw }
def LG_MTIME_LO.reg : Reg := ⟨"LG_MTIME_LO", 0x32600, 0x0, 1, [LG_MTIME_LO.MTIME]⟩
def LG_MTIME_HI.MTIME : Field := { off := 0x32604, stride := 0x0, lo := 0, width := 32, reset := 0x0, acc := .rw }
def LG_MTIME_HI.reg : Reg := ⟨"LG_MTIME_HI", 0x32604, 0x0, 1, [LG_MTIME_HI.MTIME]⟩
def LG_MTIMECMP_LO.CMP : Field := { off := 0x32608, stride := 0x0, lo := 0, width := 32, reset := 0xFFFFFFFF, acc := .rw }
def LG_MTIMECMP_LO.reg : Reg := ⟨"LG_MTIMECMP_LO", 0x32608, 0x0, 1, [LG_MTIMECMP_LO.CMP]⟩
def LG_MTIMECMP_HI.CMP : Field := { off := 0x3260C, stride := 0x0, lo := 0, width := 32, reset := 0xFFFFFFFF, acc := .rw }
def LG_MTIMECMP_HI.reg : Reg := ⟨"LG_MTIMECMP_HI", 0x3260C, 0x0, 1, [LG_MTIMECMP_HI.CMP]⟩
def LG_MSIP.MSIP : Field := { off := 0x32610, stride := 0x0, lo := 0, width := 1, reset := 0x0, acc := .rw }
def LG_MSIP.reg : Reg := ⟨"LG_MSIP", 0x32610, 0x0, 1, [LG_MSIP.MSIP]⟩

/-! BV registers (spec/20). -/

def BV_IRQ.CFG : Field := { off := 0x34000, stride := 0x0, lo := 0, width := 1, reset := 0x0, acc := .w1c }
def BV_IRQ.REPAIR : Field := { off := 0x34000, stride := 0x0, lo := 1, width := 1, reset := 0x0, acc := .w1c }
def BV_IRQ.STARVED : Field := { off := 0x34000, stride := 0x0, lo := 2, width := 1, reset := 0x0, acc := .w1c }
def BV_IRQ.CAL : Field := { off := 0x34000, stride := 0x0, lo := 3, width := 1, reset := 0x0, acc := .w1c }
def BV_IRQ.TEMP : Field := { off := 0x34000, stride := 0x0, lo := 4, width := 1, reset := 0x0, acc := .w1c }
def BV_IRQ.RAIL : Field := { off := 0x34000, stride := 0x0, lo := 5, width := 1, reset := 0x0, acc := .w1c }
def BV_IRQ.TAMPER : Field := { off := 0x34000, stride := 0x0, lo := 6, width := 1, reset := 0x0, acc := .w1c }
def BV_IRQ.SMB : Field := { off := 0x34000, stride := 0x0, lo := 7, width := 1, reset := 0x0, acc := .w1c }
def BV_IRQ.reg : Reg := ⟨"BV_IRQ", 0x34000, 0x0, 1, [BV_IRQ.CFG, BV_IRQ.REPAIR, BV_IRQ.STARVED, BV_IRQ.CAL, BV_IRQ.TEMP, BV_IRQ.RAIL, BV_IRQ.TAMPER, BV_IRQ.SMB]⟩
def BV_IE.IE : Field := { off := 0x34004, stride := 0x0, lo := 0, width := 8, reset := 0x0, acc := .rw }
def BV_IE.reg : Reg := ⟨"BV_IE", 0x34004, 0x0, 1, [BV_IE.IE]⟩
def BV_REFUSE.CODE : Field := { off := 0x34008, stride := 0x0, lo := 0, width := 16, reset := 0x0, acc := .ro }
def BV_REFUSE.OBJ : Field := { off := 0x34008, stride := 0x0, lo := 16, width := 16, reset := 0x0, acc := .ro }
def BV_REFUSE.reg : Reg := ⟨"BV_REFUSE", 0x34008, 0x0, 1, [BV_REFUSE.CODE, BV_REFUSE.OBJ]⟩
def BV_CSCFG.CS_PERIOD : Field := { off := 0x34010, stride := 0x0, lo := 0, width := 16, reset := 0x3E8, acc := .rwl, legal := [(20, 65535)] }
def BV_CSCFG.UE_ACT : Field := { off := 0x34010, stride := 0x0, lo := 16, width := 2, reset := 0x0, acc := .rwl, legal := [(0, 2)] }
def BV_CSCFG.FORCE : Field := { off := 0x34010, stride := 0x0, lo := 18, width := 1, reset := 0x0, acc := .rwl }
def BV_CSCFG.EN : Field := { off := 0x34010, stride := 0x0, lo := 19, width := 1, reset := 0x1, acc := .rwl }
def BV_CSCFG.reg : Reg := ⟨"BV_CSCFG", 0x34010, 0x0, 1, [BV_CSCFG.CS_PERIOD, BV_CSCFG.UE_ACT, BV_CSCFG.FORCE, BV_CSCFG.EN]⟩
def BV_CSCTL.PLOT : Field := { off := 0x34014, stride := 0x0, lo := 0, width := 6, reset := 0x0, acc := .wo }
def BV_CSCTL.HANDBACK : Field := { off := 0x34014, stride := 0x0, lo := 6, width := 1, reset := 0x0, acc := .wo }
def BV_CSCTL.SCAN : Field := { off := 0x34014, stride := 0x0, lo := 7, width := 1, reset := 0x0, acc := .wo }
def BV_CSCTL.reg : Reg := ⟨"BV_CSCTL", 0x34014, 0x0, 1, [BV_CSCTL.PLOT, BV_CSCTL.HANDBACK, BV_CSCTL.SCAN]⟩
def BV_CSSTAT.PASSES : Field := { off := 0x34018, stride := 0x0, lo := 0, width := 16, reset := 0x0, acc := .ro }
def BV_CSSTAT.ACTIVE : Field := { off := 0x34018, stride := 0x0, lo := 16, width := 1, reset := 0x0, acc := .ro }
def BV_CSSTAT.SUSPENDED : Field := { off := 0x34018, stride := 0x0, lo := 17, width := 1, reset := 0x0, acc := .ro }
def BV_CSSTAT.REPAIR_PLOT : Field := { off := 0x34018, stride := 0x0, lo := 18, width := 6, reset := 0x0, acc := .ro }
def BV_CSSTAT.REPAIRING : Field := { off := 0x34018, stride := 0x0, lo := 24, width := 1, reset := 0x0, acc := .ro }
def BV_CSSTAT.reg : Reg := ⟨"BV_CSSTAT", 0x34018, 0x0, 1, [BV_CSSTAT.PASSES, BV_CSSTAT.ACTIVE, BV_CSSTAT.SUSPENDED, BV_CSSTAT.REPAIR_PLOT, BV_CSSTAT.REPAIRING]⟩
def BV_CSCNT.CE : Field := { off := 0x3401C, stride := 0x0, lo := 0, width := 16, reset := 0x0, acc := .w1cAny }
def BV_CSCNT.UE : Field := { off := 0x3401C, stride := 0x0, lo := 16, width := 16, reset := 0x0, acc := .w1cAny }
def BV_CSCNT.reg : Reg := ⟨"BV_CSCNT", 0x3401C, 0x0, 1, [BV_CSCNT.CE, BV_CSCNT.UE]⟩
def BV_MSCFG.MPERIOD : Field := { off := 0x34030, stride := 0x0, lo := 0, width := 16, reset := 0x3E8, acc := .rw, legal := [(10, 65535)] }
def BV_MSCFG.QPERIOD : Field := { off := 0x34030, stride := 0x0, lo := 16, width := 16, reset := 0x3E8, acc := .rw, legal := [(10, 65535)] }
def BV_MSCFG.reg : Reg := ⟨"BV_MSCFG", 0x34030, 0x0, 1, [BV_MSCFG.MPERIOD, BV_MSCFG.QPERIOD]⟩
def BV_MSSTAT.MPASSES : Field := { off := 0x34034, stride := 0x0, lo := 0, width := 16, reset := 0x0, acc := .ro }
def BV_MSSTAT.QPASSES : Field := { off := 0x34034, stride := 0x0, lo := 16, width := 16, reset := 0x0, acc := .ro }
def BV_MSSTAT.reg : Reg := ⟨"BV_MSSTAT", 0x34034, 0x0, 1, [BV_MSSTAT.MPASSES, BV_MSSTAT.QPASSES]⟩
def BV_DLCFG.INTERVAL : Field := { off := 0x34040, stride := 0x0, lo := 0, width := 14, reset := 0x3E8, acc := .rw, legal := [(100, 10000)] }
def BV_DLCFG.reg : Reg := ⟨"BV_DLCFG", 0x34040, 0x0, 1, [BV_DLCFG.INTERVAL]⟩
def BV_DLSTAT.FORCED : Field := { off := 0x34044, stride := 0x0, lo := 0, width := 16, reset := 0x0, acc := .w1cAny }
def BV_DLSTAT.BUSY : Field := { off := 0x34044, stride := 0x0, lo := 16, width := 1, reset := 0x0, acc := .ro }
def BV_DLSTAT.reg : Reg := ⟨"BV_DLSTAT", 0x34044, 0x0, 1, [BV_DLSTAT.FORCED, BV_DLSTAT.BUSY]⟩
def BV_TTCAL.INTERVAL : Field := { off := 0x34048, stride := 0x0, lo := 0, width := 8, reset := 0xA, acc := .rw, legal := [(1, 100)] }
def BV_TTCAL.reg : Reg := ⟨"BV_TTCAL", 0x34048, 0x0, 1, [BV_TTCAL.INTERVAL]⟩
def BV_TEMPTHR.WARN : Field := { off := 0x34050, stride := 0x0, lo := 0, width := 12, reset := 0x2F8, acc := .rw }
def BV_TEMPTHR.CRIT : Field := { off := 0x34050, stride := 0x0, lo := 16, width := 12, reset := 0x320, acc := .rw }
def BV_TEMPTHR.reg : Reg := ⟨"BV_TEMPTHR", 0x34050, 0x0, 1, [BV_TEMPTHR.WARN, BV_TEMPTHR.CRIT]⟩
def BV_TEMPMAX.VALUE : Field := { off := 0x34054, stride := 0x0, lo := 0, width := 12, reset := 0x0, acc := .ro }
def BV_TEMPMAX.SENSOR : Field := { off := 0x34054, stride := 0x0, lo := 16, width := 4, reset := 0x0, acc := .ro }
def BV_TEMPMAX.reg : Reg := ⟨"BV_TEMPMAX", 0x34054, 0x0, 1, [BV_TEMPMAX.VALUE, BV_TEMPMAX.SENSOR]⟩
def BV_TEMP.VALUE : Field := { off := 0x34060, stride := 0x4, lo := 0, width := 12, reset := 0x0, acc := .ro }
def BV_TEMP.VALID : Field := { off := 0x34060, stride := 0x4, lo := 12, width := 1, reset := 0x0, acc := .ro }
def BV_TEMP.reg : Reg := ⟨"BV_TEMP", 0x34060, 0x4, 16, [BV_TEMP.VALUE, BV_TEMP.VALID]⟩
def BV_RAIL.MV : Field := { off := 0x340A0, stride := 0x4, lo := 0, width := 12, reset := 0x0, acc := .ro }
def BV_RAIL.LOW : Field := { off := 0x340A0, stride := 0x4, lo := 12, width := 1, reset := 0x0, acc := .w1c }
def BV_RAIL.HIGH : Field := { off := 0x340A0, stride := 0x4, lo := 13, width := 1, reset := 0x0, acc := .w1c }
def BV_RAIL.reg : Reg := ⟨"BV_RAIL", 0x340A0, 0x4, 7, [BV_RAIL.MV, BV_RAIL.LOW, BV_RAIL.HIGH]⟩
def BV_TAMPEN.EN : Field := { off := 0x340C0, stride := 0x0, lo := 0, width := 4, reset := 0x0, acc := .rwl }
def BV_TAMPEN.reg : Reg := ⟨"BV_TAMPEN", 0x340C0, 0x0, 1, [BV_TAMPEN.EN]⟩
def BV_TAMPSTAT.EVT : Field := { off := 0x340C4, stride := 0x0, lo := 0, width := 4, reset := 0x0, acc := .w1c }
def BV_TAMPSTAT.reg : Reg := ⟨"BV_TAMPSTAT", 0x340C4, 0x0, 1, [BV_TAMPSTAT.EVT]⟩
def BV_SMBCFG.ADDR : Field := { off := 0x340D0, stride := 0x0, lo := 0, width := 7, reset := 0x4C, acc := .rwl }
def BV_SMBCFG.PEC_REQ : Field := { off := 0x340D0, stride := 0x0, lo := 7, width := 1, reset := 0x0, acc := .rwl }
def BV_SMBCFG.EN : Field := { off := 0x340D0, stride := 0x0, lo := 8, width := 1, reset := 0x1, acc := .rwl }
def BV_SMBCFG.reg : Reg := ⟨"BV_SMBCFG", 0x340D0, 0x0, 1, [BV_SMBCFG.ADDR, BV_SMBCFG.PEC_REQ, BV_SMBCFG.EN]⟩
def BV_SMBSTAT.PECERR : Field := { off := 0x340D4, stride := 0x0, lo := 0, width := 8, reset := 0x0, acc := .w1cAny }
def BV_SMBSTAT.PROTO : Field := { off := 0x340D4, stride := 0x0, lo := 8, width := 8, reset := 0x0, acc := .w1cAny }
def BV_SMBSTAT.reg : Reg := ⟨"BV_SMBSTAT", 0x340D4, 0x0, 1, [BV_SMBSTAT.PECERR, BV_SMBSTAT.PROTO]⟩
def BV_ALERT.TEMP_HIGH : Field := { off := 0x340D8, stride := 0x0, lo := 0, width := 1, reset := 0x0, acc := .w1c }
def BV_ALERT.TEMP_CRIT : Field := { off := 0x340D8, stride := 0x0, lo := 1, width := 1, reset := 0x0, acc := .w1c }
def BV_ALERT.RAIL : Field := { off := 0x340D8, stride := 0x0, lo := 2, width := 1, reset := 0x0, acc := .w1c }
def BV_ALERT.CFG_UE : Field := { off := 0x340D8, stride := 0x0, lo := 3, width := 1, reset := 0x0, acc := .w1c }
def BV_ALERT.MEM_UE : Field := { off := 0x340D8, stride := 0x0, lo := 4, width := 1, reset := 0x0, acc := .w1c }
def BV_ALERT.PACE_SHORT : Field := { off := 0x340D8, stride := 0x0, lo := 5, width := 1, reset := 0x0, acc := .w1c }
def BV_ALERT.MODE : Field := { off := 0x340D8, stride := 0x0, lo := 6, width := 1, reset := 0x0, acc := .w1c }
def BV_ALERT.FAULT_LOG : Field := { off := 0x340D8, stride := 0x0, lo := 7, width := 1, reset := 0x0, acc := .w1c }
def BV_ALERT.TAMPER : Field := { off := 0x340D8, stride := 0x0, lo := 8, width := 1, reset := 0x0, acc := .w1c }
def BV_ALERT.STARVED : Field := { off := 0x340D8, stride := 0x0, lo := 9, width := 1, reset := 0x0, acc := .w1c }
def BV_ALERT.reg : Reg := ⟨"BV_ALERT", 0x340D8, 0x0, 1, [BV_ALERT.TEMP_HIGH, BV_ALERT.TEMP_CRIT, BV_ALERT.RAIL, BV_ALERT.CFG_UE, BV_ALERT.MEM_UE, BV_ALERT.PACE_SHORT, BV_ALERT.MODE, BV_ALERT.FAULT_LOG, BV_ALERT.TAMPER, BV_ALERT.STARVED]⟩
def BV_ALERTMASK.MASK : Field := { off := 0x340DC, stride := 0x0, lo := 0, width := 10, reset := 0x33F, acc := .rw }
def BV_ALERTMASK.reg : Reg := ⟨"BV_ALERTMASK", 0x340DC, 0x0, 1, [BV_ALERTMASK.MASK]⟩
def BV_ERRSUM.COUNT : Field := { off := 0x340E0, stride := 0x4, lo := 0, width := 32, reset := 0x0, acc := .w1cAny }
def BV_ERRSUM.reg : Reg := ⟨"BV_ERRSUM", 0x340E0, 0x4, 4, [BV_ERRSUM.COUNT]⟩
def BV_REPSRC.OFFSET : Field := { off := 0x34100, stride := 0x4, lo := 0, width := 28, reset := 0x0, acc := .ro }
def BV_REPSRC.SRC : Field := { off := 0x34100, stride := 0x4, lo := 28, width := 2, reset := 0x0, acc := .ro }
def BV_REPSRC.reg : Reg := ⟨"BV_REPSRC", 0x34100, 0x4, 64, [BV_REPSRC.OFFSET, BV_REPSRC.SRC]⟩

/-! EV registers (spec/22). -/

def EV_HEAD.SEQ : Field := { off := 0x38000, stride := 0x0, lo := 0, width := 32, reset := 0x0, acc := .ro }
def EV_HEAD.reg : Reg := ⟨"EV_HEAD", 0x38000, 0x0, 1, [EV_HEAD.SEQ]⟩
def EV_TAIL.SEQ : Field := { off := 0x38004, stride := 0x0, lo := 0, width := 32, reset := 0x0, acc := .ro }
def EV_TAIL.reg : Reg := ⟨"EV_TAIL", 0x38004, 0x0, 1, [EV_TAIL.SEQ]⟩
def EV_IRQ.NEW : Field := { off := 0x38008, stride := 0x0, lo := 0, width := 4, reset := 0x0, acc := .w1c }
def EV_IRQ.OVR : Field := { off := 0x38008, stride := 0x0, lo := 4, width := 4, reset := 0x0, acc := .w1c }
def EV_IRQ.reg : Reg := ⟨"EV_IRQ", 0x38008, 0x0, 1, [EV_IRQ.NEW, EV_IRQ.OVR]⟩
def EV_IE.IE : Field := { off := 0x3800C, stride := 0x0, lo := 0, width := 8, reset := 0x0, acc := .rw }
def EV_IE.reg : Reg := ⟨"EV_IE", 0x3800C, 0x0, 1, [EV_IE.IE]⟩
def EV_THR.THR0 : Field := { off := 0x38010, stride := 0x0, lo := 0, width := 3, reset := 0x2, acc := .rw, legal := [(0, 4)] }
def EV_THR.THR1 : Field := { off := 0x38010, stride := 0x0, lo := 4, width := 3, reset := 0x2, acc := .rw, legal := [(0, 4)] }
def EV_THR.THR2 : Field := { off := 0x38010, stride := 0x0, lo := 8, width := 3, reset := 0x2, acc := .rw, legal := [(0, 4)] }
def EV_THR.THR3 : Field := { off := 0x38010, stride := 0x0, lo := 12, width := 3, reset := 0x2, acc := .rw, legal := [(0, 4)] }
def EV_THR.reg : Reg := ⟨"EV_THR", 0x38010, 0x0, 1, [EV_THR.THR0, EV_THR.THR1, EV_THR.THR2, EV_THR.THR3]⟩
def EV_CUR.SEQ : Field := { off := 0x38020, stride := 0x4, lo := 0, width := 32, reset := 0x0, acc := .rwo }
def EV_CUR.reg : Reg := ⟨"EV_CUR", 0x38020, 0x4, 4, [EV_CUR.SEQ]⟩
def EV_LOST.COUNT : Field := { off := 0x38030, stride := 0x4, lo := 0, width := 32, reset := 0x0, acc := .w1cAny }
def EV_LOST.reg : Reg := ⟨"EV_LOST", 0x38030, 0x4, 4, [EV_LOST.COUNT]⟩
def EV_DROP.COUNT : Field := { off := 0x38040, stride := 0x0, lo := 0, width := 32, reset := 0x0, acc := .w1cAny }
def EV_DROP.reg : Reg := ⟨"EV_DROP", 0x38040, 0x0, 1, [EV_DROP.COUNT]⟩
def EV_REC.WORD : Field := { off := 0x38050, stride := 0x4, lo := 0, width := 32, reset := 0x0, acc := .ro }
def EV_REC.reg : Reg := ⟨"EV_REC", 0x38050, 0x4, 8, [EV_REC.WORD]⟩

/-- The GH registers in address order of their tables. -/
def regsGH : List Reg :=
  [GH_IDENT.reg, GH_CTL.reg, GH_DIEID_LO.reg, GH_DIEID_HI.reg, GH_REFUSE.reg, GH_IRQ.reg, GH_IE.reg, GH_UNLOCK.reg, GH_STATUS.reg, GH_CMD.reg, GH_CMDOWN.reg, GH_ARG.reg] ++
  [GH_DBUF.reg, GH_KSTAT.reg, GH_PKSTAT.reg, GH_ARB.reg, GH_POLICY.reg, GH_TAMPCFG.reg, GH_TAMPSTAT.reg, GH_DBGSTAT.reg, GH_ACCESS.reg, GH_DENYCNT.reg, GH_CFGSTAT.reg, GH_CFGPOS.reg] ++
  [GH_RELT1.reg, GH_RELT2.reg, GH_RELDOM.reg, GH_DESIGN_LO.reg, GH_DESIGN_HI.reg, GH_UPSTAT.reg, GH_UPPKG_LO.reg, GH_UPPKG_HI.reg, GH_UPPROG.reg, GH_UPTGT.reg, GH_UPCFG.reg, GH_UPTRIAL.reg] ++
  [GH_STAGE.reg, GH_STAGESTAT.reg, GH_SETADDR.reg, GH_SETDATA.reg, GH_SETCTL.reg]

/-- The PW registers in address order of their tables. -/
def regsPW : List Reg :=
  [PW_MODE.reg, PW_RSTCAUSE.reg, PW_RSTCFG.reg, PW_RDHOLD.reg, PW_IRQMAP.reg, PW_IRQLVL.reg, PW_GOVCTL.reg, PW_GOVREQ.reg, PW_GOVTIME.reg, PW_GOVLIM.reg, PW_VSET.reg, PW_GOVSTAT.reg] ++
  [PW_GOVIRQ.reg, PW_METERMASK_LO.reg, PW_METERMASK_HI.reg, PW_AVSCFG.reg, PW_AVSSTAT.reg, PW_AVSDATA.reg, PW_REFUSE.reg, PW_METER.reg, PW_DMCTL.reg, PW_DMCFG.reg, PW_DMSTAT.reg, PW_DMTIME.reg] ++
  [PW_DMWAKET.reg, PW_DMIRQ.reg, PW_TSCFG.reg, PW_TSSTAT.reg, PW_TSRES.reg]

/-- The FB registers in address order of their tables. -/
def regsFB : List Reg :=
  [FB_TIME.reg, FB_IRQ.reg, FB_IE.reg, FB_REFUSE.reg, FB_ELOVR_LO.reg, FB_ELOVR_HI.reg, FB_FCM.reg, FB_PCTL.reg, FB_PSTAT.reg, FB_PCNT.reg, FB_PERR.reg, FB_MIRQ.reg] ++
  [FB_MIE.reg, FB_MEMACC.reg, FB_MDATA_LO.reg, FB_MDATA_HI.reg, FB_MCHK.reg, FB_MEMASTAT.reg, FB_MINJ.reg, FB_MCFG.reg, FB_MECC.reg, FB_MEADDR.reg, FB_MACCFG.reg, FB_MACSTAT.reg] ++
  [FB_MACP_LO.reg, FB_MACP_HI.reg]

/-- The QM registers in address order of their tables. -/
def regsQM : List Reg :=
  [QM_CTL.reg, QM_IRQ.reg, QM_IE.reg, QM_REFUSE.reg, QM_LSEL.reg, QM_LW.reg, QM_LR.reg, QM_LREL.reg, QM_LMARK.reg, QM_LPKT.reg, QM_LOVF.reg, QM_SECC.reg] ++
  [QM_RWSEL.reg, QM_RWPUSH_LO.reg, QM_RWPUSH_HI.reg, QM_RWPOP_LO.reg, QM_RWPOP_HI.reg, QM_RWCMD.reg, QM_RWSTAT.reg, QM_PCFG.reg, QM_WSEL.reg, QM_WLVL.reg, QM_QCFG.reg, QM_WHEEL0.reg] ++
  [QM_WHEEL1.reg, QM_LCFG.reg, QM_LOCC.reg]

/-- The CK registers in address order of their tables. -/
def regsCK : List Reg :=
  [CK_CTL.reg, CK_IRQ.reg, CK_IE.reg, CK_REFUSE.reg, CK_OSC.reg, CK_REFSTAT.reg, CK_REFLOS.reg, CK_FMCTL.reg, CK_FMRES.reg, CK_SYNCFGA.reg, CK_SYNFRAC.reg, CK_SYNMOD.reg] ++
  [CK_SYNCTL.reg, CK_SYNSTAT.reg, CK_SYNFOUT.reg, CK_OPOL.reg, CK_OSTAT.reg]

/-- The XP registers in address order of their tables. -/
def regsXP : List Reg :=
  [XP_IE.reg, XP_REFUSE.reg, XP_FAULT.reg, XP_OVRMAP.reg, XP_CFG.reg, XP_TMO.reg, XP_STAT.reg, XP_CNT.reg]

/-- The BS registers in address order of their tables. -/
def regsBS : List Reg :=
  [BS_TBCTL.reg, BS_TBSTAT.reg, BS_IRQ.reg, BS_IE.reg, BS_REFUSE.reg, BS_XOFREQ.reg, BS_EPCTL.reg, BS_EPOCH.reg, BS_SYNCOFS.reg, BS_TNOW0.reg, BS_TNOW1.reg, BS_TNOW2.reg] ++
  [BS_ADJCTL.reg, BS_ADJ_LO.reg, BS_ADJ_HI.reg, BS_SOFT.reg, BS_SOFTLVL.reg, BS_TTCFG.reg, BS_TTSTAT.reg, BS_TTDAT0.reg, BS_TTDAT1.reg, BS_TTDAT2.reg, BS_TTDAT3.reg, BS_TTCNT.reg] ++
  [BS_TTOFS.reg, BS_RT.reg, BS_CUCFG.reg, BS_CUSTAT.reg, BS_CUCMD0.reg, BS_CUCMD1.reg, BS_CUCMD2.reg, BS_CUCNT.reg, BS_LBTCTL.reg, BS_LBTT0.reg, BS_LBTT1.reg, BS_LBTT2.reg] ++
  [BS_LBTWC.reg]

/-- The BT registers in address order of their tables. -/
def regsBT : List Reg :=
  [BT_REFUSE.reg, BT_GO.reg, BT_SNAPCMD.reg, BT_CTL.reg, BT_OWN.reg, BT_STAT.reg, BT_IE.reg, BT_CNT_LO.reg, BT_CNT_HI.reg, BT_TOP_LO.reg, BT_TOP_HI.reg, BT_PSC.reg] ++
  [BT_SNAP_LO.reg, BT_SNAP_HI.reg, BT_CCFG0.reg, BT_CCFG1.reg, BT_CCFG2.reg, BT_CCFG3.reg, BT_CMP_LO0.reg, BT_CMP_LO1.reg, BT_CMP_LO2.reg, BT_CMP_LO3.reg, BT_CMP_HI0.reg, BT_CMP_HI1.reg] ++
  [BT_CMP_HI2.reg, BT_CMP_HI3.reg, BT_KCFG.reg, BT_CAP_LO.reg, BT_CAP_HI.reg, BT_FINE0.reg, BT_FINE1.reg, BT_FINE2.reg, BT_KCNT.reg]

/-- The OG registers in address order of their tables. -/
def regsOG : List Reg :=
  [OG_IRQ.reg, OG_IE.reg, OG_REFUSE.reg, OG_SCHED.reg, OG_ECC.reg, OG_WSADDR.reg, OG_WSDATA_LO.reg, OG_WSDATA_HI.reg, OG_WSSTAT.reg, OG_STAT.reg, OG_CCFG.reg, OG_CQ.reg] ++
  [OG_CWS.reg, OG_CSTAT.reg, OG_CJOBS.reg, OG_CCTL.reg, OG_CCOOKIE_LO.reg, OG_CCOOKIE_HI.reg, OG_CPHASE.reg]

/-- The IO registers in address order of their tables. -/
def regsIO : List Reg :=
  [IO_IRQ.reg, IO_IE.reg, IO_REFUSE.reg, IO_UNAUTH.reg, IO_GPMAP.reg, IO_INCT.reg, IO_CTARR.reg, IO_BCFG.reg, IO_BSTAT.reg, IO_IN.reg, IO_SERCFG.reg, IO_PCFG.reg] ++
  [IO_PCLM.reg]

/-- The SL registers in address order of their tables. -/
def regsSL : List Reg :=
  [SL_IRQ.reg, SL_IE.reg, SL_REFUSE.reg, SL_PXCFG.reg, SL_QCFG.reg, SL_QFRAC.reg, SL_QCTL.reg, SL_QSTAT.reg, SL_LCFG.reg, SL_LCTL.reg, SL_LSTAT.reg, SL_LTXEQ.reg] ++
  [SL_LRXEQ.reg, SL_LDFE0.reg, SL_LDFE1.reg, SL_LDFE2.reg, SL_LTEST.reg, SL_LPRBSERR.reg, SL_LEYE.reg, SL_LEYERES.reg, SL_LERR.reg, SL_LTXWC0.reg, SL_LMARK.reg]

/-- The PX registers in address order of their tables. -/
def regsPX : List Reg :=
  [PX_IRQ.reg, PX_IE.reg, PX_REFUSE.reg, PX_LINK.reg, PX_GUARD.reg, PX_GCNT.reg, PX_IDCFG.reg, PX_BAR2CFG.reg, PX_WDROP.reg, PX_ERRCNT.reg, PX_CHCFG.reg, PX_CHFLUSH.reg] ++
  [PX_RBASE_LO.reg, PX_RBASE_HI.reg, PX_RSIZE.reg, PX_HEAD.reg, PX_TAIL.reg, PX_CHSTAT.reg, PX_CHBYTES_LO.reg, PX_CHBYTES_HI.reg, PX_CHERR.reg]

/-- The HX registers in address order of their tables. -/
def regsHX : List Reg :=
  [HX_IRQ.reg, HX_IE.reg, HX_REFUSE.reg, HX_DSTAT.reg, HX_DCFG.reg, HX_ROOTID_LO.reg, HX_ROOTID_HI.reg, HX_DEVCNT.reg, HX_TCFG.reg, HX_TSTAT.reg, HX_TDELAY.reg, HX_CSRCNT.reg] ++
  [HX_NOROUTE.reg, HX_PCFG.reg, HX_PCTL.reg, HX_PSTAT.reg, HX_PTIME.reg, HX_PASYM.reg, HX_PNBR_LO.reg, HX_PNBR_HI.reg, HX_PERR.reg, HX_PFEC.reg, HX_RT.reg, HX_CPCFG.reg] ++
  [HX_EPSEL.reg]

/-- The MI registers in address order of their tables. -/
def regsMI : List Reg :=
  [MI_CFG.reg, MI_TIME.reg, MI_TIME2.reg, MI_WIT.reg, MI_CMD.reg, MI_STAT.reg, MI_EPOCH.reg, MI_EPACK.reg, MI_JLEVEL.reg, MI_IRQ.reg, MI_IE.reg, MI_REFUSE.reg] ++
  [MI_HASH.reg, MI_PHASH.reg, MI_PEERID_LO.reg, MI_PEERID_HI.reg, MI_WHOLD.reg, MI_WCLAIM.reg, MI_WREN.reg, MI_WCFG.reg, MI_PINCT.reg, MI_PIN.reg, MI_DECLA.reg, MI_DECLB.reg]

/-- The LG registers in address order of their tables. -/
def regsLG : List Reg :=
  [LG_CTL.reg, LG_STAT.reg, LG_IRQ.reg, LG_IE.reg, LG_REFUSE.reg, LG_ECC.reg, LG_MEMADDR.reg, LG_MEMDATA.reg, LG_AWIN.reg, LG_AWCNT.reg, LG_UCFG.reg, LG_UDATA.reg] ++
  [LG_USTAT.reg, LG_UIE.reg, LG_SCFG.reg, LG_SCMD.reg, LG_SDATA.reg, LG_SSTAT.reg, LG_SIE.reg, LG_ICFG.reg, LG_ICMD.reg, LG_IDATA.reg, LG_ISTAT.reg, LG_IIE.reg] ++
  [LG_GPOUT.reg, LG_GPSET.reg, LG_GPCLR.reg, LG_GPOE.reg, LG_GPIN.reg, LG_GPLOST.reg, LG_GPRISE.reg, LG_GPFALL.reg, LG_GPIF.reg, LG_GPIE.reg, LG_WDCFG.reg, LG_WDKICK.reg] ++
  [LG_WDSTAT.reg, LG_MBH2L.reg, LG_MBL2H.reg, LG_MBDB.reg, LG_MBSTAT.reg, LG_ICPRIO.reg, LG_ICEN.reg, LG_ICPEND.reg, LG_ICTHR.reg, LG_ICCLAIM.reg, LG_MTIME_LO.reg, LG_MTIME_HI.reg] ++
  [LG_MTIMECMP_LO.reg, LG_MTIMECMP_HI.reg, LG_MSIP.reg]

/-- The BV registers in address order of their tables. -/
def regsBV : List Reg :=
  [BV_IRQ.reg, BV_IE.reg, BV_REFUSE.reg, BV_CSCFG.reg, BV_CSCTL.reg, BV_CSSTAT.reg, BV_CSCNT.reg, BV_MSCFG.reg, BV_MSSTAT.reg, BV_DLCFG.reg, BV_DLSTAT.reg, BV_TTCAL.reg] ++
  [BV_TEMPTHR.reg, BV_TEMPMAX.reg, BV_TEMP.reg, BV_RAIL.reg, BV_TAMPEN.reg, BV_TAMPSTAT.reg, BV_SMBCFG.reg, BV_SMBSTAT.reg, BV_ALERT.reg, BV_ALERTMASK.reg, BV_ERRSUM.reg, BV_REPSRC.reg]

/-- The EV registers in address order of their tables. -/
def regsEV : List Reg :=
  [EV_HEAD.reg, EV_TAIL.reg, EV_IRQ.reg, EV_IE.reg, EV_THR.reg, EV_CUR.reg, EV_LOST.reg, EV_DROP.reg, EV_REC.reg]

/-! Internal state that no register shows: one `Field` each, above the 1 MiB control space. Its values at reset are
DESIGN CHOICE, log entry 5, but for those that another entry names. -/

/-- 0 running, 1 in a warm reset, 2 in a cold reset (R47, R53). -/
def RESETTING : Field := { off := 0x100000, stride := 1, width := 2, reset := 0 }
/-- PW_RSTCAUSE bit of the first cause of the reset in progress (R47, R54). -/
def RST_FIRST : Field := { off := 0x200000, stride := 1, width := 3, reset := 7 }
/-- DEV_RESET_N is low at the far side of its filter (R48). (DEDUCED, log entry 63.) -/
def DEVRST_LOW : Field := { off := 0x300000, stride := 1, width := 1, reset := 0 }
/-- MODE2 to MODE0 as last sampled (Table GH-11). -/
def MODE_PINS : Field := { off := 0x400000, stride := 1, width := 3, reset := 0 }
/-- warm resets so far; it names the free contents that each has left in the volatile memories (Table DV-14).
(DESIGN CHOICE, log entry 9.) -/
def MEM_EPOCH : Field := { off := 0x500000, stride := 1, width := 32, reset := 0 }
/-- the time count: BTF80 in [95:16] and 16 sub-fraction bits (R274). -/
def TCOUNT : Field := { off := 0x600000, stride := 1, width := 96, reset := 0 }
/-- SYN0 runs in holdover (R277 flag HOLDOVER). -/
def SYN0_HOLD : Field := { off := 0x700000, stride := 1, width := 1, reset := 0 }
/-- level of array user interrupt line k (R111). -/
def UI_LINE : Field := { off := 0x800000, stride := 1, width := 1, reset := 0 }
/-- shaped value of router destination d (R307). -/
def RT_VAL : Field := { off := 0x900000, stride := 1, width := 1, reset := 0 }
/-- write pointer of queue lane 8q + l (R177). -/
def LANE_W : Field := { off := 0xA00000, stride := 1, width := 21, reset := 0 }
/-- read pointer of lane 8q + l (R177). -/
def LANE_RD : Field := { off := 0xB00000, stride := 1, width := 21, reset := 0 }
/-- release pointer of lane 8q + l (R177). -/
def LANE_REL : Field := { off := 0xC00000, stride := 1, width := 21, reset := 0 }
/-- high half latched by a _LO read, with a valid bit above it, by 8 x pair + identity (R19). -/
def RD_LATCH : Field := { off := 0xD00000, stride := 1, width := 33, reset := 0 }
/-- low half held by a _LO write, with a valid bit above it, by 8 x pair + identity (R19). -/
def WR_HOLD : Field := { off := 0xE00000, stride := 1, width := 33, reset := 0 }
/-- T2 as sampled by the last write of PW_RDHOLD (R55). -/
def REL_T2 : Field := { off := 0xF00000, stride := 1, width := 17, reset := 0 }
/-- reset domains still to be released by PW_RDHOLD (R55). -/
def REL_LEFT : Field := { off := 0x1000000, stride := 1, width := 16, reset := 0 }
/-- reset domain d is asserted (R55). -/
def DOM_RESET : Field := { off := 0x1100000, stride := 1, width := 1, reset := 0 }
/-- DBG_CONSUME of the debug module (R24). -/
def DBG_CONSUME : Field := { off := 0x1200000, stride := 1, width := 1, reset := 0 }
/-- records dropped in the present episode (R797). -/
def DROP_EPISODE : Field := { off := 0x1300000, stride := 1, width := 32, reset := 0 }
/-- MSI-X function mask of the capability (R490). -/
def MSIX_FMASK : Field := { off := 0x1400000, stride := 1, width := 1, reset := 0 }
/-- G[p], the gain of pace meter p fused at factory test (R69). (DESIGN CHOICE, log entry 37.) -/
def METER_GAIN : Field := { off := 0x1500000, stride := 1, width := 17, reset := 65536 }
/-- consecutive out-of-range windows of meter p (R71). -/
def METER_OOR : Field := { off := 0x1600000, stride := 1, width := 2, reset := 0 }
/-- the `down` count of the governor (R74). -/
def GOV_DOWN : Field := { off := 0x1700000, stride := 1, width := 4, reset := 0 }
/-- windows since the last SETTLE: 0 none ended, 1 one ended, 2 one that began after it has ended (R74). -/
def GOV_FRESH : Field := { off := 0x1800000, stride := 1, width := 2, reset := 1 }
/-- GOV_EN was cleared during a commit, whose read is still to end (R86). -/
def GOV_STOPPING : Field := { off := 0x1900000, stride := 1, width := 1, reset := 0 }
/-- what the AVSBus engine does: 0 idle, 1 write, 2 SETTLE, 3 read, 4 status, 5 ROM-exit read, 6 retry read, 7 polled status, 8 current, 9 temperature, 10 SETTLE before a repeat, 11 read waiting for delay-line calibration. -/
def AVS_PHASE : Field := { off := 0x1A00000, stride := 1, width := 4, reset := 0 }
/-- target of the commit in progress, mV (R75). -/
def AVS_TARGET : Field := { off := 0x1B00000, stride := 1, width := 10, reset := 0 }
/-- failed tries of the frame in progress (Table PW-5). -/
def AVS_TRIES : Field := { off := 0x1C00000, stride := 1, width := 2, reset := 0 }
/-- the commit in progress has been repeated as not executed (Table PW-5). -/
def AVS_REPEATED : Field := { off := 0x1D00000, stride := 1, width := 1, reset := 0 }
/-- the commit in progress has been repeated for a mismatch (Table PW-5). -/
def AVS_MISMATCHED : Field := { off := 0x1E00000, stride := 1, width := 1, reset := 0 }
/-- a commit that waits for the bus: [10] present, [9:0] mV. -/
def AVS_NEXT : Field := { off := 0x1F00000, stride := 1, width := 11, reset := 0 }
/-- a fast raise waits for the commit in progress (Table PW-8). -/
def AVS_FASTQ : Field := { off := 0x2000000, stride := 1, width := 1, reset := 0 }
/-- successive failed current reads (R90). -/
def AVS_CURFAIL : Field := { off := 0x2100000, stride := 1, width := 2, reset := 0 }
/-- successive failed temperature reads (R90). -/
def AVS_TEMPFAIL : Field := { off := 0x2200000, stride := 1, width := 2, reset := 0 }
/-- words of the open epoch in the journal area (R560). -/
def JOPEN : Field := { off := 0x2300000, stride := 1, width := 18, reset := 0 }
/-- word of the last FB_MEM_UE logged for memory m, with a valid bit above it (R152). -/
def LAST_UE : Field := { off := 0x2400000, stride := 1, width := 13, reset := 0 }
/-- data of the previous read of memory port 2m + port (R140). -/
def PORT_RDATA : Field := { off := 0x2500000, stride := 1, width := 72, reset := 0 }
/-- next physical word that the scrub of memory m reads (R749, R751). -/
def MSCRUB_AT : Field := { off := 0x2600000, stride := 1, width := 12, reset := 0 }
/-- the value in the cascade output of MAC cell n (R165). -/
def MAC_PCOUT : Field := { off := 0x2700000, stride := 1, width := 64, reset := 0 }
/-- mark of lane 8q + l (R201). -/
def LANE_MARK : Field := { off := 0x2800000, stride := 1, width := 21, reset := 0 }
/-- the mark of lane 8q + l is valid (R201, R202). -/
def LANE_MVALID : Field := { off := 0x2900000, stride := 1, width := 1, reset := 0 }
/-- header pointer of the lane's open packet (R190). -/
def LANE_HDR : Field := { off := 0x2A00000, stride := 1, width := 21, reset := 0 }
/-- a packet is open on the lane (R190). -/
def LANE_OPEN : Field := { off := 0x2B00000, stride := 1, width := 1, reset := 0 }
/-- producer code of the open packet's owner (R181, R190). -/
def LANE_OWNER : Field := { off := 0x2C00000, stride := 1, width := 8, reset := 0 }
/-- data words pushed since OPEN (R191). -/
def LANE_N : Field := { off := 0x2D00000, stride := 1, width := 21, reset := 0 }
/-- overflow count of the lane (R189). -/
def LANE_OVF : Field := { off := 0x2E00000, stride := 1, width := 32, reset := 0 }
/-- wheel position of queue q (R197). -/
def WHEEL_POS : Field := { off := 0x2F00000, stride := 1, width := 4, reset := 0 }
/-- one more than the lane that ANY POPs of queue q stay on, 0 with no hold (R198). -/
def QHOLD : Field := { off := 0x3000000, stride := 1, width := 4, reset := 0 }
/-- data words of the held packet still to be popped (R198). -/
def QHOLD_LEFT : Field := { off := 0x3100000, stride := 1, width := 22, reset := 0 }
/-- consumer bound to queue q: 256 plus its code, 0 with none (R182). -/
def QCONS : Field := { off := 0x3200000, stride := 1, width := 9, reset := 0 }
/-- array queue port p: 0 idle, 1 an operation is held without ACK, 2 an operation is parked (R187, R212). -/
def QP_STATE : Field := { off := 0x3300000, stride := 1, width := 2, reset := 0 }
/-- the present fence of its plot has logged QM_PORT_CUT for port p (R188). -/
def QP_CUT : Field := { off := 0x3400000, stride := 1, width := 1, reset := 0 }
/-- next store word that the scrub reads (R750). -/
def SSCRUB_AT : Field := { off := 0x3500000, stride := 1, width := 20, reset := 0 }
/-- FORCE as sampled by the present FENCE of plot p (R119). -/
def FENCE_FORCE : Field := { off := 0x3600000, stride := 1, width := 1, reset := 0 }
/-- identity of the master that wrote the present FENCE of plot p (R792). -/
def FENCE_BY : Field := { off := 0x3700000, stride := 1, width := 3, reset := 7 }
/-- inbound requests held at the gates of plot p that met SINK 0 (R120). -/
def GATE_HELD : Field := { off := 0x3800000, stride := 1, width := 16, reset := 0 }
/-- inbound requests held at the gates of plot p that met SINK 1 and wait for FENCED (R120). -/
def GATE_SINK : Field := { off := 0x3900000, stride := 1, width := 16, reset := 0 }
/-- the stall monitor of plot p has an onset (R127). -/
def STALLED : Field := { off := 0x3A00000, stride := 1, width := 1, reset := 0 }
/-- pending tokens of event line l, the one in delivery among them (R109). -/
def EL_PEND : Field := { off := 0x3B00000, stride := 1, width := 8, reset := 0 }
/-- level that the tile driving user interrupt line k shows: [0] level, [6:1] plot, [7] driven (R111). -/
def UI_WANT : Field := { off := 0x3C00000, stride := 1, width := 8, reset := 0 }
/-- inputs that have gone from PRESENT to LOST (R219). -/
def REF_WAS_LOST : Field := { off := 0x3D00000, stride := 1, width := 13, reset := 0 }
/-- sampled REFSEL of synthesiser k (R227). -/
def SYN_REFSEL : Field := { off := 0x3E00000, stride := 1, width := 3, reset := 0 }
/-- sampled RDIV of synthesiser k. -/
def SYN_RDIV : Field := { off := 0x3F00000, stride := 1, width := 4, reset := 0 }
/-- sampled N of synthesiser k. -/
def SYN_N : Field := { off := 0x4000000, stride := 1, width := 10, reset := 32 }
/-- sampled D of synthesiser k. -/
def SYN_D : Field := { off := 0x4100000, stride := 1, width := 13, reset := 20 }
/-- sampled F of synthesiser k. -/
def SYN_F : Field := { off := 0x4200000, stride := 1, width := 24, reset := 0 }
/-- sampled M of synthesiser k. -/
def SYN_M : Field := { off := 0x4300000, stride := 1, width := 24, reset := 2 }
/-- sampled POLICY of output stage j (R234). -/
def STAGE_POL : Field := { off := 0x4400000, stride := 1, width := 2, reset := 0 }
/-- sampled RATE of output stage j. -/
def STAGE_RATE : Field := { off := 0x4500000, stride := 1, width := 14, reset := 100 }
/-- output frequency of stage j in units of 10^-9 Hz, 0 while stopped (R234). -/
def STAGE_FREQ : Field := { off := 0x4600000, stride := 1, width := 64, reset := 0 }
/-- frequency that stage j moves to, in the same units. -/
def STAGE_NEXT : Field := { off := 0x4700000, stride := 1, width := 64, reset := 0 }
/-- source of the frequency count in progress (R241). -/
def FM_SRC : Field := { off := 0x4800000, stride := 1, width := 5, reset := 0 }
/-- items of port x discarded since its last resynchronisation, saturating (R264). -/
def XP_DISC : Field := { off := 0x4900000, stride := 1, width := 8, reset := 0 }
/-- side of port x whose reset came last: 0 clockless, 1 clocked (R264). -/
def XP_SIDE : Field := { off := 0x4A00000, stride := 1, width := 1, reset := 1 }
/-- value of router source with code c (Table BS-6). -/
def SRC_VAL : Field := { off := 0x4B00000, stride := 1, width := 1, reset := 0 }
/-- unshaped value of router destination d at the last tick (R307). -/
def RT_RAW : Field := { off := 0x4C00000, stride := 1, width := 1, reset := 0 }
/-- ticks left of a pulse or stretch of destination d (R307). -/
def RT_LEFT : Field := { off := 0x4D00000, stride := 1, width := 8, reset := 0 }
/-- next SEQ of converter n (R296). -/
def TT_SEQ : Field := { off := 0x4E00000, stride := 1, width := 32, reset := 0 }
/-- records of converter n were lost since the last one kept (R298). -/
def TT_GAP : Field := { off := 0x4F00000, stride := 1, width := 1, reset := 0 }
/-- time of the last tagged edge of converter n, with a valid bit above it (R295). -/
def TT_LAST : Field := { off := 0x5000000, stride := 1, width := 81, reset := 0 }
/-- converter that tag stream s served last (R314). -/
def TT_TURN : Field := { off := 0x5100000, stride := 1, width := 7, reset := 0 }
/-- time of the last edge of the last command queued or executed by cue c, with a valid bit above it (R302). -/
def CUE_LAST : Field := { off := 0x5200000, stride := 1, width := 81, reset := 0 }
/-- the head command of cue c was late when it became head (R303). -/
def CUE_LATEP : Field := { off := 0x5300000, stride := 1, width := 1, reset := 0 }
/-- cue c is inside a PULSE (R302). -/
def CUE_PULSE : Field := { off := 0x5400000, stride := 1, width := 1, reset := 0 }
/-- what a slew has still to absorb, in sub-fraction units (R287). -/
def SLEW_LEFT : Field := { off := 0x5500000, stride := 1, width := 96, reset := 0 }
/-- the slew in progress takes the count back (R287). -/
def SLEW_NEG : Field := { off := 0x5600000, stride := 1, width := 1, reset := 0 }
/-- top value that timer t uses (R331). -/
def TOP_ACT : Field := { off := 0x5700000, stride := 1, width := 48, reset := 281474976710655 }
/-- value that compare channel k of timer t uses, by 4t + k (R331). -/
def CMP_ACT : Field := { off := 0x5800000, stride := 1, width := 48, reset := 0 }
/-- clock prescaler count of timer t (Table BT-1). -/
def BT_PSCNT : Field := { off := 0x5900000, stride := 1, width := 16, reset := 0 }
/-- trigger input of timer t at the last tick (R337). -/
def TRIG_LAST : Field := { off := 0x5A00000, stride := 1, width := 1, reset := 0 }
/-- settled level of capture channel c = 2t + j (R343). -/
def KLAST : Field := { off := 0x5B00000, stride := 1, width := 1, reset := 0 }
/-- ticks for which a changed level has been sampled on channel c, the first not counted, plus one (R343). -/
def KHELD : Field := { off := 0x5C00000, stride := 1, width := 5, reset := 0 }
/-- count at the tick at which the change was first sampled on channel c (R343). -/
def KCOUNT : Field := { off := 0x5D00000, stride := 1, width := 48, reset := 0 }
/-- accepted edges of channel c since the last capture (R344). -/
def KEDGES : Field := { off := 0x5E00000, stride := 1, width := 8, reset := 0 }
/-- the 3-bit accumulator of the LF step (R351). -/
def LF_ACC : Field := { off := 0x5F00000, stride := 1, width := 3, reset := 0 }
/-- timer t is stepped by the LFXO in this DORMANT (R351, R354). -/
def LF_LIVE : Field := { off := 0x6000000, stride := 1, width := 1, reset := 0 }
/-- one more than the first timer of which an LF step has matched a compare with its WAKE bit, 0 with none (R353). -/
def LF_MATCHED : Field := { off := 0x6100000, stride := 1, width := 5, reset := 0 }
/-- code that has ended the job of context c, 0 while it goes on (R375, R377). -/
def OG_CODE : Field := { off := 0x6200000, stride := 1, width := 16, reset := 0 }
/-- output words written so far by the job of context c (Table OG-7). -/
def OG_OUTN : Field := { off := 0x6300000, stride := 1, width := 24, reset := 0 }
/-- where the job of context c stands: 0 input and arithmetic, 1 output, 2 status word and cookie. -/
def OG_PHASE : Field := { off := 0x6400000, stride := 1, width := 2, reset := 0 }
/-- status bits [28:16] of the job of context c: OVF, NAN, CE, and BEXP from bit 8 (Table OG-7). -/
def OG_FLAGS : Field := { off := 0x6500000, stride := 1, width := 13, reset := 0 }
/-- the result packet of context c is open (R377). -/
def OG_OPENED : Field := { off := 0x6600000, stride := 1, width := 1, reset := 0 }
/-- words pushed into that packet (R377). -/
def OG_PUSHED : Field := { off := 0x6700000, stride := 1, width := 21, reset := 0 }
/-- TAG of the job of context c (Table OG-2). -/
def OG_TAG : Field := { off := 0x6800000, stride := 1, width := 8, reset := 0 }
/-- words of the present run of stray words of context c (R365). -/
def OG_STRAY : Field := { off := 0x6900000, stride := 1, width := 32, reset := 0 }
/-- a preemption is due (R381, R382). -/
def OG_DUE : Field := { off := 0x6A00000, stride := 1, width := 1, reset := 0 }
/-- the running job of context c is to be aborted at its next preemption point (R386). -/
def OG_ABORTING : Field := { off := 0x6B00000, stride := 1, width := 1, reset := 0 }
/-- context last served in class k (R380). -/
def OG_SERVED : Field := { off := 0x6C00000, stride := 1, width := 6, reset := 63 }
/-- the next entry of receive group g is the first after EN or BITSLIP (R417). -/
def SER_FIRST : Field := { off := 0x6D00000, stride := 1, width := 1, reset := 0 }
/-- byte in the transmit shift register of UART i, with a valid bit above it (R607). -/
def U_SHIFT : Field := { off := 0x6E00000, stride := 1, width := 9, reset := 0 }
/-- chip select of the SPI transfer in progress (R608). -/
def S_CS : Field := { off := 0x6F00000, stride := 1, width := 2, reset := 0 }
/-- KEEP of that transfer (R608). -/
def S_KEEP : Field := { off := 0x7000000, stride := 1, width := 1, reset := 0 }
/-- bytes still to move in it (R608). -/
def S_LEFT : Field := { off := 0x7100000, stride := 1, width := 12, reset := 0 }
/-- the I2C controller holds the bus after a command without STOP (R609). -/
def I_HOLD : Field := { off := 0x7200000, stride := 1, width := 1, reset := 0 }
/-- the I2C command in progress: ADDR, RD, START, STOP, COUNT (R609). -/
def I_CMD : Field := { off := 0x7300000, stride := 1, width := 18, reset := 0 }
/-- data bytes, a PEC byte among them, still to move in it (R609). -/
def I_LEFT : Field := { off := 0x7400000, stride := 1, width := 9, reset := 0 }
/-- SMBus PEC over the bytes since the START (R609). -/
def I_PEC : Field := { off := 0x7500000, stride := 1, width := 8, reset := 0 }
/-- frequency that the card gives QREF i + 1 (Table SL-1). (DESIGN CHOICE, log entry 37.) -/
def QREF_HZ : Field := { off := 0x7600000, stride := 1, width := 29, reset := 156250000 }
/-- sampled RDIV of QPLL q (R430). -/
def QP_RDIV : Field := { off := 0x7700000, stride := 1, width := 2, reset := 0 }
/-- sampled N of QPLL q. -/
def QP_N : Field := { off := 0x7800000, stride := 1, width := 8, reset := 100 }
/-- sampled F of QPLL q. -/
def QP_F : Field := { off := 0x7900000, stride := 1, width := 24, reset := 0 }
/-- words sent by lane l since its PCS left reset (R448). -/
def LANE_TXW : Field := { off := 0x7A00000, stride := 1, width := 32, reset := 0 }
/-- words received by lane l since its PCS left reset (R448). -/
def LANE_RXW : Field := { off := 0x7B00000, stride := 1, width := 32, reset := 0 }
/-- the next entry taken by the LANE_TX port of lane l is its first in RUN (R450). -/
def LTX_ARM : Field := { off := 0x7C00000, stride := 1, width := 1, reset := 0 }
/-- shift register of the PRBS checker of lane l (R453). -/
def PRBS_REG : Field := { off := 0x7D00000, stride := 1, width := 31, reset := 0 }
/-- consecutive bits without error at the checker of lane l (R453). -/
def PRBS_GOOD : Field := { off := 0x7E00000, stride := 1, width := 7, reset := 0 }
/-- bits since the oldest kept error of lane l (R453). -/
def PRBS_AT : Field := { off := 0x7F00000, stride := 1, width := 11, reset := 0 }
/-- requests received by BAR2 so far, the receipt order of R471. -/
def PX_SEQ : Field := { off := 0x8000000, stride := 1, width := 64, reset := 0 }
/-- PX_NO_DESIGN has been logged since PX_IRQ.WDROP was last cleared (R473). -/
def PX_NDLOG : Field := { off := 0x8100000, stride := 1, width := 1, reset := 0 }
/-- kinds of Table PX-8 logged since PX_IRQ.AER was last cleared: MALF, POISON, UNSUP, UNEXP (R495). -/
def PX_AERLOG : Field := { off := 0x8200000, stride := 1, width := 4, reset := 0 }
/-- subsystem identifiers in effect (R465, R466): 0x1536 in [31:16], 0x1F6D in [15:0]. -/
def PX_IDEFF : Field := { off := 0x8300000, stride := 1, width := 32, reset := 355868525 }
/-- BAR2 SIZE in effect (R466). -/
def PX_B2EFF : Field := { off := 0x8400000, stride := 1, width := 4, reset := 0 }
/-- the Gatehouse has released the endpoint at step 6 of Table GH-10 (R51). -/
def PX_FREED : Field := { off := 0x8500000, stride := 1, width := 1, reset := 0 }
/-- PERST_N is low. -/
def PX_PERST : Field := { off := 0x8600000, stride := 1, width := 1, reset := 0 }
/-- channels hold for DORMANT (R493). -/
def PX_PAUSE : Field := { off := 0x8700000, stride := 1, width := 1, reset := 0 }
/-- channel that the DMA engine served last (R485). -/
def PX_SERVED : Field := { off := 0x8800000, stride := 1, width := 6, reset := 63 }
/-- DMA channel c: 0 no descriptor in progress, 1 its read is outstanding, 2 its data moves, 3 its STATUS is due (R480 to R484). -/
def CH_PHASE : Field := { off := 0x8900000, stride := 1, width := 2, reset := 0 }
/-- ADDR of the descriptor in progress of channel c (Table PX-6). -/
def CH_ADDR : Field := { off := 0x8A00000, stride := 1, width := 64, reset := 0 }
/-- bytes 8 to 15 of that descriptor. -/
def CH_DESC : Field := { off := 0x8B00000, stride := 1, width := 64, reset := 0 }
/-- bytes moved in that descriptor. -/
def CH_MOVED : Field := { off := 0x8C00000, stride := 1, width := 24, reset := 0 }
/-- bytes of its buffer asked of the host so far. -/
def CH_ASKED : Field := { off := 0x8D00000, stride := 1, width := 24, reset := 0 }
/-- bytes asked of the host and not yet received by channel c. -/
def CH_OUT : Field := { off := 0x8E00000, stride := 1, width := 24, reset := 0 }
/-- channel c has a packet open or in progress (R481 to R483). -/
def CH_OPEN : Field := { off := 0x8F00000, stride := 1, width := 1, reset := 0 }
/-- bytes of that packet so far (H2D) or still to come (D2H). -/
def CH_PKT : Field := { off := 0x9000000, stride := 1, width := 24, reset := 0 }
/-- the rest of the H2D packet is read and dropped (R482). -/
def CH_TRUNC : Field := { off := 0x9100000, stride := 1, width := 1, reset := 0 }
/-- of the descriptor in progress: SOP, EOP, ABORTED, TRUNCATED, UE, then LANE (Table PX-6). -/
def CH_STAT : Field := { off := 0x9200000, stride := 1, width := 8, reset := 0 }
/-- TAG to be written back for channel c. -/
def CH_TAG : Field := { off := 0x9300000, stride := 1, width := 8, reset := 0 }
/-- ABORTED and TRUNCATED of the packet's length word (D2H). -/
def CH_FLAGS : Field := { off := 0x9400000, stride := 1, width := 2, reset := 0 }
/-- MSI vectors whose pending bit is set (R490). -/
def MSI_PEND : Field := { off := 0x9500000, stride := 1, width := 32, reset := 0 }
/-- LSEQ of the next new packet of port n (R509). -/
def HX_TXSEQ : Field := { off := 0x9600000, stride := 1, width := 12, reset := 0 }
/-- LSEQ that the receiver of port n expects (R510). -/
def HX_NEXT : Field := { off := 0x9700000, stride := 1, width := 12, reset := 0 }
/-- packets accepted on port n since the last ACK (R510). -/
def HX_UNACK : Field := { off := 0x9800000, stride := 1, width := 7, reset := 0 }
/-- an error episode of port n has sent its NAK (R510). -/
def HX_NAKED : Field := { off := 0x9900000, stride := 1, width := 1, reset := 0 }
/-- one more than the held packets already sent again in the replay of port n, 0 with no replay (R511). -/
def HX_RPOS : Field := { off := 0x9A00000, stride := 1, width := 12, reset := 0 }
/-- consecutive replays of port n without an advance (R511). -/
def HX_RCNT : Field := { off := 0x9B00000, stride := 1, width := 5, reset := 0 }
/-- consecutive agreeing INIT blocks received on port n, saturating at 8 (R507). -/
def HX_INITC : Field := { off := 0x9C00000, stride := 1, width := 4, reset := 0 }
/-- consecutive agreeing INIT blocks with SEEN 1 on port n (R507). -/
def HX_INITS : Field := { off := 0x9D00000, stride := 1, width := 4, reset := 0 }
/-- send credit of port n for class k, by 16n + k (R512). -/
def HX_CRED : Field := { off := 0x9E00000, stride := 1, width := 12, reset := 0 }
/-- words held in the receive buffer of class k of port n, by 16n + k (R512). -/
def HX_USED : Field := { off := 0x9F00000, stride := 1, width := 12, reset := 0 }
/-- time at which the last LINK ECHO left port n. -/
def HX_ECHO_T : Field := { off := 0xA000000, stride := 1, width := 80, reset := 0 }
/-- election key of the root last advertised on port n (R518). -/
def HX_AKEY : Field := { off := 0xA100000, stride := 1, width := 72, reset := 0 }
/-- distance last advertised on port n. -/
def HX_ADIST : Field := { off := 0xA200000, stride := 1, width := 5, reset := 0 }
/-- FINAL as last advertised on port n. -/
def HX_AFINAL : Field := { off := 0xA300000, stride := 1, width := 1, reset := 0 }
/-- an ADVERT has been received in the present life of port n. -/
def HX_AVALID : Field := { off := 0xA400000, stride := 1, width := 1, reset := 0 }
/-- the device holds its address from the present root (R520). -/
def HX_ASGN : Field := { off := 0xA500000, stride := 1, width := 1, reset := 0 }
/-- HX_TOO_DEEP has been logged for the present onset (R519). -/
def HX_DEEP : Field := { off := 0xA600000, stride := 1, width := 1, reset := 0 }
/-- distance to address d last advertised on port n, by 256n + d (R525). -/
def HX_RDIST : Field := { off := 0xA700000, stride := 1, width := 8, reset := 255 }
/-- HX_EPCFG.EN of endpoint e (R535). -/
def EPS_EN : Field := { off := 0xA800000, stride := 1, width := 1, reset := 0 }
/-- HX_EPCFG.DIR of endpoint e. -/
def EPS_DIR : Field := { off := 0xA900000, stride := 1, width := 1, reset := 0 }
/-- HX_EPCFG.PORT of endpoint e. -/
def EPS_PORT : Field := { off := 0xAA00000, stride := 1, width := 5, reset := 0 }
/-- HX_EPCFG.CREDITS of endpoint e. -/
def EPS_CREDITS : Field := { off := 0xAB00000, stride := 1, width := 6, reset := 15 }
/-- HX_EPPEER.ADDR of endpoint e. -/
def EPS_ADDR : Field := { off := 0xAC00000, stride := 1, width := 8, reset := 0 }
/-- HX_EPPEER.EP of endpoint e. -/
def EPS_PEER : Field := { off := 0xAD00000, stride := 1, width := 12, reset := 0 }
/-- HX_EPSTAT.STATE of endpoint e. -/
def EPS_STATE : Field := { off := 0xAE00000, stride := 1, width := 2, reset := 0 }
/-- HX_EPSTAT.CREDIT of endpoint e. -/
def EPS_CREDIT : Field := { off := 0xAF00000, stride := 1, width := 7, reset := 0 }
/-- HX_EPSTAT.CAUSE of endpoint e. -/
def EPS_CAUSE : Field := { off := 0xB000000, stride := 1, width := 7, reset := 0 }
/-- HX_EPSTAT.SEQ of endpoint e. -/
def EPS_SEQ : Field := { off := 0xB100000, stride := 1, width := 16, reset := 0 }
/-- HX_EPCNT of endpoint e. -/
def EPS_CNT : Field := { off := 0xB200000, stride := 1, width := 64, reset := 0 }
/-- credits of receive endpoint e due for return (R531). -/
def EPS_DUE : Field := { off := 0xB300000, stride := 1, width := 7, reset := 0 }
/-- send endpoint e has refused a token for want of credit since it last had one (R534). -/
def EPS_DRY : Field := { off := 0xB400000, stride := 1, width := 1, reset := 0 }
/-- PROBEs of endpoint e unanswered (R534). -/
def EPS_PROBES : Field := { off := 0xB500000, stride := 1, width := 4, reset := 0 }
/-- tag of the next CSR request (R536). -/
def HX_CTAG : Field := { off := 0xB600000, stride := 1, width := 16, reset := 0 }
/-- time at which the last TIME packet to arrive on port n was captured, with a valid bit above it (R540). -/
def HX_TAT : Field := { off := 0xB700000, stride := 1, width := 81, reset := 0 }
/-- number of the next exchange that port n starts (R540). -/
def HX_TNUM : Field := { off := 0xB800000, stride := 1, width := 16, reset := 0 }
/-- number of the exchange in progress on the parent port. -/
def HX_XNUM : Field := { off := 0xB900000, stride := 1, width := 16, reset := 0 }
/-- steps of that exchange done by the child: 0 none, 1 SYNC, 2 FOLLOW, 3 DREQ sent (Table HX-10). -/
def HX_TSTEP : Field := { off := 0xBA00000, stride := 1, width := 2, reset := 0 }
/-- t1 of the exchange in progress. -/
def HX_T1 : Field := { off := 0xBB00000, stride := 1, width := 80, reset := 0 }
/-- t2 of the exchange in progress. -/
def HX_T2 : Field := { off := 0xBC00000, stride := 1, width := 80, reset := 0 }
/-- t3 of the exchange in progress. -/
def HX_T3 : Field := { off := 0xBD00000, stride := 1, width := 80, reset := 0 }
/-- exchanges dropped in a row (R541). -/
def HX_TDROP : Field := { off := 0xBE00000, stride := 1, width := 4, reset := 0 }
/-- the parent has reported EPOCH 1 (R541). -/
def HX_PEPOCH : Field := { off := 0xBF00000, stride := 1, width := 1, reset := 0 }
/-- a HANDOVER is in progress on this PRIMARY (R578). -/
def MI_HANDING : Field := { off := 0xC000000, stride := 1, width := 1, reset := 0 }
/-- domains that stay in reset after a SECONDARY was disbanded (R579). -/
def MI_STUCK : Field := { off := 0xC100000, stride := 1, width := 16, reset := 0 }
/-- words at the old end of the journal area that have been sent (R563). -/
def MI_SENT : Field := { off := 0xC200000, stride := 1, width := 18, reset := 0 }
/-- a heartbeat has been received since EN was set (R554). -/
def MI_SEEN : Field := { off := 0xC300000, stride := 1, width := 1, reset := 0 }
/-- why the device asks for the witness lease: 0 not at all, 1 to form a pair, 2 to take over, 3 to be PRIMARY alone (R576). -/
def MI_WANT : Field := { off := 0xC400000, stride := 1, width := 2, reset := 0 }
/-- consecutive missed heartbeats (R572). -/
def MI_MISS : Field := { off := 0xC500000, stride := 1, width := 4, reset := 0 }
/-- MI_DECL_MISMATCH has been logged for the present onset (R553). -/
def MI_MISM : Field := { off := 0xC600000, stride := 1, width := 1, reset := 0 }
/-- number of the epoch that is open (primary) or to be applied next (secondary) (R560, R564). -/
def MI_NEXTEP : Field := { off := 0xC700000, stride := 1, width := 32, reset := 0 }
/-- copy pass: 0 none, 1 records still to come, 2 all in the journal (R567). -/
def MI_COPYING : Field := { off := 0xC800000, stride := 1, width := 2, reset := 0 }
/-- declared items copied so far in the pass. -/
def MI_CPOS : Field := { off := 0xC900000, stride := 1, width := 32, reset := 0 }
/-- slots copied so far of the lane in hand. -/
def MI_CSUB : Field := { off := 0xCA00000, stride := 1, width := 21, reset := 0 }
/-- epoch in which the copy ended. -/
def MI_CEND : Field := { off := 0xCB00000, stride := 1, width := 32, reset := 0 }
/-- the secondary has reported COPYING in the present pass. -/
def MI_CHEARD : Field := { off := 0xCC00000, stride := 1, width := 1, reset := 0 }
/-- MIR packets sent (R565). -/
def MI_SEQ : Field := { off := 0xCD00000, stride := 1, width := 16, reset := 0 }
/-- MI_WHOLD.PAIR_ID has been set by a claim since WIT_EN was set (R575). -/
def MI_WBOUND : Field := { off := 0xCE00000, stride := 1, width := 1, reset := 0 }
/-- interrupt source n is in service (R602). -/
def IC_SERV : Field := { off := 0xCF00000, stride := 1, width := 1, reset := 0 }
/-- one more than the control-bus transactions of identity i in which its second GH_UNLOCK key still counts, 0 with no sequence open (R649). -/
def UNL_LEFT : Field := { off := 0xD000000, stride := 1, width := 6, reset := 0 }
/-- a debug halt has aborted the sequence of identity i (R650). -/
def UNL_ABORT : Field := { off := 0xD100000, stride := 1, width := 1, reset := 0 }
/-- integer register x of the Lodge hart (R588). (PRESUMED, log entry 14.) -/
def RV_X : Field := { off := 0xD200000, stride := 1, width := 32, reset := 0 }
/-- its program counter. (PRESUMED, log entry 14.) -/
def RV_PC : Field := { off := 0xD300000, stride := 1, width := 32, reset := 0 }
/-- its privilege: 3 machine, 0 user. (PRESUMED, log entry 14.) -/
def RV_PRIV : Field := { off := 0xD400000, stride := 1, width := 2, reset := 3 }
/-- its control and status registers by number, those that have no cell of their own. (PRESUMED, log entry 14.) -/
def RV_CSR : Field := { off := 0xD500000, stride := 1, width := 32, reset := 0 }
/-- mstatus: MIE, MPIE, MPP, MPRV, TW. (PRESUMED, log entry 14.) -/
def RV_MSTATUS : Field := { off := 0xD600000, stride := 1, width := 32, reset := 0 }
/-- mcycle (R589). -/
def RV_MCYCLE : Field := { off := 0xD700000, stride := 1, width := 64, reset := 0 }
/-- minstret (R589). -/
def RV_MINSTRET : Field := { off := 0xD800000, stride := 1, width := 64, reset := 0 }
/-- dcsr; stoptime and stopcount reset to 1 (R614). (PRESUMED, log entry 14.) -/
def RV_DCSR : Field := { off := 0xD900000, stride := 1, width := 32, reset := 1073743363 }
/-- tdata1 of trigger i, of type mcontrol (R614). (PRESUMED, log entry 14.) -/
def RV_TD1 : Field := { off := 0xDA00000, stride := 1, width := 32, reset := 536870912 }
/-- tdata2 of trigger i. (PRESUMED, log entry 14.) -/
def RV_TD2 : Field := { off := 0xDB00000, stride := 1, width := 32, reset := 0 }
/-- address reserved by LR while LG_STAT.RESV is 1. -/
def RV_RESA : Field := { off := 0xDC00000, stride := 1, width := 32, reset := 0 }
/-- open access of the hart: 0 none, 1 array window, 2 an array window exchange that has faulted and is still open, 3 an access that waits behind such an exchange, 4 a read of another device. -/
def RV_WAIT : Field := { off := 0xDD00000, stride := 1, width := 3, reset := 0 }
/-- the instruction word that waits. -/
def RV_WINS : Field := { off := 0xDE00000, stride := 1, width := 32, reset := 0 }
/-- tag of the CSR read that the hart waits for. -/
def RV_WSEQ : Field := { off := 0xDF00000, stride := 1, width := 16, reset := 0 }
/-- halt asked for and not yet taken, by dcsr.cause: 3 haltreq, 5 resethaltreq. -/
def RV_HALTREQ : Field := { off := 0xE000000, stride := 1, width := 3, reset := 0 }
/-- a resume request is not yet taken. -/
def RV_RESUMEREQ : Field := { off := 0xE100000, stride := 1, width := 1, reset := 0 }
/-- CTL_CLK periods since mtime last counted (R589). -/
def MT_FRAC : Field := { off := 0xE200000, stride := 1, width := 5, reset := 0 }
/-- dmcontrol.dmactive (R614). -/
def DM_ACTIVE : Field := { off := 0xE300000, stride := 1, width := 1, reset := 0 }
/-- dmcontrol.ndmreset. -/
def DM_NDMRESET : Field := { off := 0xE400000, stride := 1, width := 1, reset := 0 }
/-- resethaltreq is set. -/
def DM_RSTHALT : Field := { off := 0xE500000, stride := 1, width := 1, reset := 0 }
/-- the hart has been reset since havereset was last acknowledged. (PRESUMED, log entry 14.) -/
def DM_HAVERESET : Field := { off := 0xE600000, stride := 1, width := 1, reset := 1 }
/-- the last resume request has been carried out. -/
def DM_RESUMEACK : Field := { off := 0xE700000, stride := 1, width := 1, reset := 0 }
/-- abstractcs.cmderr. -/
def DM_CMDERR : Field := { off := 0xE800000, stride := 1, width := 3, reset := 0 }
/-- the last abstract command. -/
def DM_CMD : Field := { off := 0xE900000, stride := 1, width := 32, reset := 0 }
/-- abstractauto: autoexecdata in [0], autoexecprogbuf in [17:16]. -/
def DM_AUTO : Field := { off := 0xEA00000, stride := 1, width := 18, reset := 0 }
/-- data0. -/
def DM_DATA0 : Field := { off := 0xEB00000, stride := 1, width := 32, reset := 0 }
/-- progbuf word i. -/
def DM_PROG : Field := { off := 0xEC00000, stride := 1, width := 32, reset := 0 }
/-- one more than the half-word of the program buffer in progress. -/
def DM_POST : Field := { off := 0xED00000, stride := 1, width := 3, reset := 0 }
/-- sbcs, with what reads as fixed left out of it. (PRESUMED, log entry 14.) -/
def DM_SBCS : Field := { off := 0xEE00000, stride := 1, width := 32, reset := 537133060 }
/-- sbaddress0. -/
def DM_SBADDR : Field := { off := 0xEF00000, stride := 1, width := 32, reset := 0 }
/-- sbdata0. -/
def DM_SBDATA : Field := { off := 0xF000000, stride := 1, width := 32, reset := 0 }
/-- XT_OUT_EN of DMCUSTOM0 (R616). -/
def XT_OUT : Field := { off := 0xF100000, stride := 1, width := 1, reset := 0 }
/-- XT_IN_EN of DMCUSTOM0 (R616). -/
def XT_IN : Field := { off := 0xF200000, stride := 1, width := 1, reset := 0 }
/-- instruction of the TAP; IDCODE after reset (R613). (PRESUMED, log entry 14.) -/
def TAP_IR : Field := { off := 0xF300000, stride := 1, width := 5, reset := 1 }
/-- data that the next Capture-DR of GHDBG shifts out (R656). -/
def GHDBG_DATA : Field := { off := 0xF400000, stride := 1, width := 32, reset := 0 }
/-- VAUX is below its threshold, so that only the battery domain runs (R635, R662). (DEDUCED, log entry 60.) -/
def VAUX_LOW : Field := { off := 0xF500000, stride := 1, width := 1, reset := 0 }
/-- VBATT has left its range while VAUX was off, to be shown at the next power-up (R635). (DEDUCED, log entry 60.) -/
def VBATT_LOST : Field := { off := 0xF600000, stride := 1, width := 1, reset := 0 }
/-- the battery domain has latched a tamper event since the firmware last ran (R662). -/
def BATT_NEW : Field := { off := 0xF700000, stride := 1, width := 1, reset := 0 }
/-- source of a ZEROIZE event that the firmware still has to carry out, 0 with none (R662). -/
def BATT_ZERO : Field := { off := 0xF800000, stride := 1, width := 3, reset := 0 }
/-- the reset in progress leaves a TEST that does not lead to LOAD (R785). (DEDUCED, log entry 58.) -/
def TEST_FAILED : Field := { off := 0xF900000, stride := 1, width := 1, reset := 0 }
/-- AES-256 key in slot s (R630). (DESIGN CHOICE, log entry 6.) -/
def KEY_VAL : Field := { off := 0xFA00000, stride := 1, width := 256, reset := 0 }
/-- key of the pending write of slot s (R639). -/
def KEY_NEW : Field := { off := 0xFB00000, stride := 1, width := 256, reset := 0 }
/-- USAGE of the pending write of slot s. -/
def KEY_NUSE : Field := { off := 0xFC00000, stride := 1, width := 2, reset := 0 }
/-- KS1 has been written (R633). (DESIGN CHOICE, log entry 6.) -/
def KS1_WRITTEN : Field := { off := 0xFD00000, stride := 1, width := 1, reset := 0 }
/-- SHA-384 of the public key of PK slot n (R642). (DESIGN CHOICE, log entry 6.) -/
def PK_HASH : Field := { off := 0xFE00000, stride := 1, width := 384, reset := 0 }
/-- OP of the Gatehouse command that runs, 0 with none (R628). (DEDUCED, log entry 51.) -/
def CMD_OP : Field := { off := 0xFF00000, stride := 1, width := 8, reset := 0 }
/-- identity that issued it. -/
def CMD_BY : Field := { off := 0x10000000, stride := 1, width := 3, reset := 7 }
/-- GH_ARG0 to GH_ARG3 as sampled by it. (DEDUCED, log entry 51.) -/
def CMD_ARG : Field := { off := 0x10100000, stride := 1, width := 32, reset := 0 }
/-- reason that its verification will give at its end, 0 with none. (DEDUCED, log entry 51.) -/
def CMD_RES : Field := { off := 0x10200000, stride := 1, width := 16, reset := 0 }
/-- key or hash that it will store at its end. -/
def CMD_KEY : Field := { off := 0x10300000, stride := 1, width := 384, reset := 0 }
/-- slot whose pending change STATE PENDING shows, plus 8 (R640). -/
def CMD_PSLOT : Field := { off := 0x10400000, stride := 1, width := 4, reset := 0 }
/-- the debug level was granted under GH_DBGSTAT.SLOT (R645, R657). -/
def DBG_BYPK : Field := { off := 0x10500000, stride := 1, width := 1, reset := 0 }
/-- nonce of the live challenge (R657). -/
def NONCE : Field := { off := 0x10600000, stride := 1, width := 256, reset := 0 }
/-- LEVEL of the live challenge. -/
def CH_LEVEL : Field := { off := 0x10700000, stride := 1, width := 2, reset := 0 }
/-- failed PHASE 1 since the last reset or success (R659). -/
def DBG_FAILS : Field := { off := 0x10800000, stride := 1, width := 8, reset := 0 }
/-- what uses the configuration port: 0 nothing, 1 a load, 2 a plot rewrite, 3 a repair. -/
def CT_ON : Field := { off := 0x10900000, stride := 1, width := 2, reset := 0 }
/-- source code of the container (R668). -/
def CT_SRC : Field := { off := 0x10A00000, stride := 1, width := 3, reset := 7 }
/-- plot of the rewrite or repair. -/
def CT_PLOT : Field := { off := 0x10B00000, stride := 1, width := 6, reset := 0 }
/-- DECRYPT slot in use by it, 0 with none. -/
def CT_SLOT : Field := { off := 0x10C00000, stride := 1, width := 3, reset := 0 }
/-- the key of that slot at its start. -/
def CT_KEY : Field := { off := 0x10D00000, stride := 1, width := 256, reset := 0 }
/-- payload bytes read. -/
def CT_POS : Field := { off := 0x10E00000, stride := 1, width := 32, reset := 0 }
/-- payload byte at which the present span starts (R681). -/
def CT_SPAN : Field := { off := 0x10F00000, stride := 1, width := 32, reset := 0 }
/-- CRC-32C register over the present span (R681). -/
def CT_CRC : Field := { off := 0x11000000, stride := 1, width := 32, reset := 4294967295 }
/-- the last command was a CHECK (R681). -/
def CT_AFTER : Field := { off := 0x11100000, stride := 1, width := 1, reset := 0 }
/-- its LOAD_START is still BUSY (R685). -/
def CT_BUSY : Field := { off := 0x11200000, stride := 1, width := 1, reset := 0 }
/-- a LOAD_START began it (R685). -/
def CT_ISCMD : Field := { off := 0x11300000, stride := 1, width := 1, reset := 0 }
/-- GH_ARG0 of that LOAD_START. -/
def CT_ARG0 : Field := { off := 0x11400000, stride := 1, width := 32, reset := 0 }
/-- host address or flash offset of the container. -/
def CT_BASE : Field := { off := 0x11500000, stride := 1, width := 64, reset := 0 }
/-- bytes that the source holds from there. -/
def CT_LEN : Field := { off := 0x11600000, stride := 1, width := 32, reset := 0 }
/-- the header stage has passed. -/
def CT_HDR_OK : Field := { off := 0x11700000, stride := 1, width := 1, reset := 0 }
/-- the neighbour has told the container's length with CFG_END (R687). -/
def CT_DOING : Field := { off := 0x11800000, stride := 1, width := 1, reset := 0 }
/-- SEQ that the next CFG_DATA of the answer carries (R687). -/
def CT_RX : Field := { off := 0x11900000, stride := 1, width := 16, reset := 0 }
/-- register offset / 4 that a POLL reads (R680). -/
def CT_POLL : Field := { off := 0x11A00000, stride := 1, width := 18, reset := 0 }
/-- reads left before the POLL times out, 0 with no POLL. -/
def CT_PLEFT : Field := { off := 0x11B00000, stride := 1, width := 20, reset := 0 }
/-- MASK of the POLL. -/
def CT_PMASK : Field := { off := 0x11C00000, stride := 1, width := 32, reset := 0 }
/-- VALUE of the POLL. -/
def CT_PVAL : Field := { off := 0x11D00000, stride := 1, width := 32, reset := 0 }
/-- the flash in this power-up: 0 not yet discovered, 1 found, 2 absent (R670, R673). -/
def FLASH_OK : Field := { off := 0x11E00000, stride := 1, width := 2, reset := 0 }
/-- bytes of the flash (R670). -/
def FLASH_SIZE : Field := { off := 0x11F00000, stride := 1, width := 29, reset := 0 }
/-- one more than the boot record copy in use, 0 with none (R671). -/
def BR_COPY : Field := { off := 0x12000000, stride := 1, width := 2, reset := 0 }
/-- a SERVE source is held (R689). -/
def SV_ON : Field := { off := 0x12100000, stride := 1, width := 1, reset := 0 }
/-- its SRC. -/
def SV_SRC : Field := { off := 0x12200000, stride := 1, width := 1, reset := 0 }
/-- its address. -/
def SV_ADDR : Field := { off := 0x12300000, stride := 1, width := 64, reset := 0 }
/-- its length. -/
def SV_LEN : Field := { off := 0x12400000, stride := 1, width := 32, reset := 0 }
/-- staged release: 0 none, 1 T1 runs, 2 domains are being released (R691). -/
def REL_STEP : Field := { off := 0x12500000, stride := 1, width := 2, reset := 0 }
/-- domains released by it (R691). -/
def REL_DONE : Field := { off := 0x12600000, stride := 1, width := 16, reset := 0 }
/-- domains it has still to reach, as sampled from GH_RELDOM. -/
def REL_WANT : Field := { off := 0x12700000, stride := 1, width := 16, reset := 0 }
/-- happenings of the endpoint in DORMANT that the wake carries out: 1 an endpoint reset, 2 an L1 exit (R493).
(DEDUCED, log entry 44.) -/
def PX_OWED : Field := { off := 0x12800000, stride := 1, width := 2, reset := 0 }
/-- Dormant entry: 0 none, 1 waiting under R766, 2 draining (Table PW-10). -/
def DM_STEP : Field := { off := 0x12900000, stride := 1, width := 2, reset := 0 }
/-- identity whose write of ENTER was accepted. -/
def DM_BY : Field := { off := 0x12A00000, stride := 1, width := 3, reset := 7 }
/-- the volatile memories were left undefined by a warm reset (Table DV-14). (DESIGN CHOICE, log entry 9.) -/
def MEM_UNDEF : Field := { off := 0x12B00000, stride := 1, width := 1, reset := 0 }
/-- MEM_EPOCH at which block memory m, or a Lodge memory (2048, 2049), was last filled with zero words (R154, Table UP-4).
(DESIGN CHOICE, log entry 9.) -/
def BLK_EPOCH : Field := { off := 0x12C00000, stride := 1, width := 32, reset := 0 }
/-- port on which the session of the device arrived, 8 with none (R714). -/
def UP_UP : Field := { off := 0x12D00000, stride := 1, width := 4, reset := 8 }
/-- the prologue of an announced session is awaited (R714). -/
def UP_ASKED : Field := { off := 0x12E00000, stride := 1, width := 1, reset := 0 }
/-- PACKAGE_ID of the session whose prologue is awaited. -/
def UP_NEWID : Field := { off := 0x12F00000, stride := 1, width := 64, reset := 0 }
/-- length of the prologue (R713). -/
def UP_PLEN : Field := { off := 0x13000000, stride := 1, width := 32, reset := 0 }
/-- SEQ of the next PROLOGUE packet. -/
def UP_PSEQ : Field := { off := 0x13100000, stride := 1, width := 16, reset := 0 }
/-- die ID of the coordinator. -/
def UP_CID : Field := { off := 0x13200000, stride := 1, width := 64, reset := 0 }
/-- coordinator: 0 none, 1 the prologue is awaited, 2 blocks are passed on, 3 votes are awaited, 4 committed, 5 on trial, 6 decided (Table UP-9). -/
def UP_STEP : Field := { off := 0x13300000, stride := 1, width := 3, reset := 0 }
/-- SRC of UPDATE_BEGIN (Table UP-1). -/
def UP_SRC : Field := { off := 0x13400000, stride := 1, width := 1, reset := 0 }
/-- the whole package has been fed to the coordinator. -/
def UP_FED : Field := { off := 0x13500000, stride := 1, width := 1, reset := 0 }
/-- next block of the package that the device takes (R715). -/
def UP_NEXT : Field := { off := 0x13600000, stride := 1, width := 16, reset := 0 }
/-- parts of it received. -/
def UP_PART : Field := { off := 0x13700000, stride := 1, width := 7, reset := 0 }
/-- failures of it (R715). -/
def UP_BAD : Field := { off := 0x13800000, stride := 1, width := 2, reset := 0 }
/-- ports of the downstream neighbours (R714). -/
def UP_DOWN : Field := { off := 0x13900000, stride := 1, width := 8, reset := 0 }
/-- next block to be sent on port n. -/
def UP_DNEXT : Field := { off := 0x13A00000, stride := 1, width := 16, reset := 0 }
/-- first block that the NEED of port n does not allow. -/
def UP_DLIM : Field := { off := 0x13B00000, stride := 1, width := 16, reset := 0 }
/-- reports of target i as the coordinator has counted them: STAGED, STARTED, stopped, READY, COMMITTED, FALLBACK (R717). -/
def UP_REP : Field := { off := 0x13C00000, stride := 1, width := 8, reset := 0 }
/-- ACT_TIME (Table UP-6). -/
def UP_ACT : Field := { off := 0x13D00000, stride := 1, width := 64, reset := 0 }
/-- its TIME_VALID. -/
def UP_ACTV : Field := { off := 0x13E00000, stride := 1, width := 1, reset := 0 }
/-- the device resets at ACT_TIME (R723). (DEDUCED, log entry 83.) -/
def UP_WAITS : Field := { off := 0x13F00000, stride := 1, width := 1, reset := 0 }
/-- this power-up is a trial start (R725). -/
def UP_TRIAL : Field := { off := 0x14000000, stride := 1, width := 1, reset := 0 }
/-- one more than the flash area that this power-up started from, 0 with none. -/
def UP_BOOT : Field := { off := 0x14100000, stride := 1, width := 2, reset := 0 }
/-- rank last activated (R724). -/
def UP_RANK : Field := { off := 0x14200000, stride := 1, width := 4, reset := 0 }
/-- DECRYPT slot of the package, 0 with none (R709). -/
def UP_SLOT : Field := { off := 0x14300000, stride := 1, width := 3, reset := 0 }
/-- staging half that the next hand-over names (R711). -/
def UP_HALF : Field := { off := 0x14400000, stride := 1, width := 1, reset := 0 }
/-- bytes of the settings image without its CRC (Table UP-11). -/
def SET_LEN : Field := { off := 0x14500000, stride := 1, width := 17, reset := 16 }
/-- one more than the settings copy that is current, 0 with none (R731). -/
def SET_COPY : Field := { off := 0x14600000, stride := 1, width := 2, reset := 0 }
/-- the settings image has been migrated at this trial start (R733). -/
def SET_MIGRATED : Field := { off := 0x14700000, stride := 1, width := 1, reset := 0 }
/-- identity that issued the LOAD_START of the container (R792). (DEDUCED, log entry 91.) -/
def CT_BY : Field := { off := 0x14800000, stride := 1, width := 3, reset := 7 }
/-- the device has handed over its role and resets when it is SECONDARY or 10 ms have passed (R724).
(DEDUCED, log entry 83.) -/
def UP_GO : Field := { off := 0x14900000, stride := 1, width := 1, reset := 0 }
/-- ports of the downstream neighbours that have asked for something (R714). -/
def UP_DASK : Field := { off := 0x14A00000, stride := 1, width := 8, reset := 0 }
/-- first block that the neighbour on port n has not said to hold. -/
def UP_DACK : Field := { off := 0x14B00000, stride := 1, width := 16, reset := 0 }
/-- hand-over of staging half i that waits: BYTES, and LAST in bit 19 (R711). -/
def UP_STG : Field := { off := 0x14C00000, stride := 1, width := 20, reset := 0 }
/-- the final piece of the package has been handed over (R711). -/
def UP_LAST : Field := { off := 0x14D00000, stride := 1, width := 1, reset := 0 }
/-- a SAVE waits for the flash to be found (R734). -/
def UP_SAVE : Field := { off := 0x14E00000, stride := 1, width := 1, reset := 0 }
/-- position of the configuration scrubber: the word that it reads next, by plot, column, row and word (R742). -/
def CS_AT : Field := { off := 0x14F00000, stride := 1, width := 24, reset := 0 }
/-- an uncorrectable error of plot p has been handled in this pass (R744). -/
def CS_DONE : Field := { off := 0x15000000, stride := 1, width := 1, reset := 0 }
/-- a correctable configuration error has been logged since BV_IRQ.CFG was last cleared (R743). -/
def CE_SEEN : Field := { off := 0x15100000, stride := 1, width := 1, reset := 0 }
/-- repair: 0 none, 1 the plot drains, 2 the source is read (Table BV-3). -/
def REP_STEP : Field := { off := 0x15200000, stride := 1, width := 2, reset := 0 }
/-- DECRYPT slot of the repair source, 0 with none (R745). -/
def REP_SLOT : Field := { off := 0x15300000, stride := 1, width := 3, reset := 0 }
/-- an onset of the temperature threshold lasts: 0 WARN, 1 CRIT (R738). -/
def TMP_ON : Field := { off := 0x15400000, stride := 1, width := 1, reset := 0 }
/-- consecutive samples of rail i below its window (i), above it (i + 8) (R739). -/
def RAIL_CNT : Field := { off := 0x15500000, stride := 1, width := 2, reset := 0 }
/-- TEMP_SEL. -/
def SMB_SEL : Field := { off := 0x15600000, stride := 1, width := 4, reset := 0 }
/-- RAIL_SEL. -/
def SMB_RSEL : Field := { off := 0x15700000, stride := 1, width := 3, reset := 0 }
/-- an onset of violation kind i lasts (R761). -/
def SMB_SEEN : Field := { off := 0x15800000, stride := 1, width := 1, reset := 0 }
/-- SMB_ALERT_N is released after an answer to the Alert Response Address (R760). -/
def SMB_REL : Field := { off := 0x15900000, stride := 1, width := 1, reset := 0 }
/-- bits of BV_ALERT that were set at the release and have not been cleared since. -/
def SMB_OLD : Field := { off := 0x15A00000, stride := 1, width := 10, reset := 0 }
/-- TESTS as sampled by TEST_START (R780). -/
def TS_SEL : Field := { off := 0x15B00000, stride := 1, width := 6, reset := 0 }
/-- place of the test that runs in the order of Table TS-1. -/
def TS_NEXT : Field := { off := 0x15C00000, stride := 1, width := 3, reset := 0 }
/-- dmcontrol.haltreq as last written. -/
def DM_HALTREQ : Field := { off := 0x15D00000, stride := 1, width := 1, reset := 0 }
/-- dmcontrol.hartreset. -/
def DM_HARTRST : Field := { off := 0x15E00000, stride := 1, width := 1, reset := 0 }
/-- system bus access: 0 none, 1 a read and 2 a write to be made, 3 a read of another device, 4 an array window read and 5 an array window write in progress. -/
def DM_SBOP : Field := { off := 0x15F00000, stride := 1, width := 3, reset := 0 }
/-- array window: 1 the open exchange is the debug module's, 2 its access waits behind another exchange. -/
def AW_SB : Field := { off := 0x16000000, stride := 1, width := 2, reset := 0 }
/-- number of the open access of the fabric control master, by which the answer of another device is told apart. -/
def FCM_SEQ : Field := { off := 0x16100000, stride := 1, width := 9, reset := 0 }

end Sys2Proof.Machine
end

