-- ==== Sys2Proof/Machine/Store.lean ====
section
/-! DEFINITION. Sparse storage: a list of (key, value) pairs in one canonical form, keys strictly rising and no
listed value equal to what an unlisted key reads as. Registers, memories and FIFOs of the machine are kept in it. -/

namespace Sys2Proof.Machine

/-- A sparse map from keys to values. -/
abbrev Store (V : Type) := List (Nat × V)

/-- The value at a key: the listed one, or the default. -/
def Store.get {V : Type} (m : Store V) (k : Nat) (d : V) : V :=
  match m with
  | [] => d
  | (k', v) :: r => if k' = k then v else Store.get r k d

/-- The map without a key. -/
def Store.erase {V : Type} (m : Store V) (k : Nat) : Store V := m.filter fun c => c.1 ≠ k

/-- Put a pair before the first larger key. -/
def Store.insert {V : Type} (m : Store V) (k : Nat) (v : V) : Store V :=
  match m with
  | [] => [(k, v)]
  | (k', v') :: r => if k < k' then (k, v) :: (k', v') :: r else (k', v') :: Store.insert r k v

/-- Write a key; the value an unlisted key reads as removes the entry. -/
def Store.set {V : Type} [DecidableEq V] (m : Store V) (k : Nat) (v d : V) : Store V :=
  if v = d then Store.erase m k else Store.insert (Store.erase m k) k v

/-- Keys strictly rising. -/
def Store.sorted {V : Type} (m : Store V) : Bool := decide (m.Pairwise fun a b => a.1 < b.1)

/-- The canonical form: keys strictly rising and nothing listed that an unlisted key reads as. -/
def Store.wf {V : Type} [DecidableEq V] (m : Store V) (d : V) : Bool := Store.sorted m && m.all fun c => c.2 ≠ d

end Sys2Proof.Machine
end

