-- ==== Sys2Proof/Machine/State.lean ====
section
/-! DEFINITION. The state of the block as plain data, its reset value, and the reasons a step can stop. -/

namespace Sys2Proof.Machine

/-- Why a command stops with a fault. -/
inductive Fault where
  /-- Raised by PACE_WINDOW_END, TEMP_SAMPLE and RAIL_SAMPLE whose operand list does not hold one entry for each of the
  64 meters, 16 sensors or 7 rails: such a command is not well formed and no device meets it (R69, R737, R739). Safe:
  the hardware has no such happening (DESIGN CHOICE, log entry 19). -/
  | noSuchCommand (mnemonic : String)
  deriving DecidableEq, Repr

/-- Why a command is refused by the model. -/
inductive Refusal where
  /-- Raised by an arm of exec whose command has no meaning yet; safe: nothing is claimed of it. -/
  | notModelled (mnemonic : String)
  deriving DecidableEq, Repr

/-- One event-log record (Table EV-4) before or after it has its SEQ: SEQ is its place (R796). -/
structure LogRec where
  time : Nat
  notime : Bool
  coarse : Bool
  noepoch : Bool
  code : Nat
  sev : Nat
  obj : Nat
  detail : Nat
  deriving DecidableEq, Repr

/-- What leaves the device: the model's trace of its outputs. (DESIGN CHOICE, log entry 21.) -/
inductive OutKind where
  /-- an MSI-X or MSI message: the vector (R59) -/
  | message
  /-- a token on an array event line: the line (R62) -/
  | eventLine
  /-- data returned by a control-bus read: the identity, the value (R18) -/
  | busData
  /-- an access sent to another device: destination, write flag, offset, data (R41, R537) -/
  | csrSent
  /-- a guarded or failed host completion: the policy (R474) -/
  | guarded
  /-- an AVSBus frame: kind, value (R89) -/
  | avsFrame
  /-- a token or answer driven to the array: unit kind, unit, status, data -/
  | toArray
  /-- a token, bit or edge driven to a synchronous island: unit, data -/
  | toIsland
  /-- an edge or level at a pin, cue or router destination: destination, level, time -/
  | edge
  /-- a memory write or completion to the host: address or tag, data -/
  | toHost
  /-- a packet or control block sent on a Hokuox port: port, kind, fields -/
  | packet
  /-- bytes or conditions on a Lodge peripheral's pins: peripheral, values -/
  | serial
  /-- an answer of the SMBus target: command code, bytes -/
  | smbus
  /-- bytes shifted out of the TAP, or an answer of the debug module -/
  | jtag
  /-- a result returned in the data buffer or in the settings path -/
  | gatehouse
  deriving DecidableEq, Repr

/-- One output. (DESIGN CHOICE, log entry 21.) -/
structure Emit where
  kind : OutKind
  args : List Nat
  deriving DecidableEq, Repr

/-- The memories of the device, each an address space of words of its own width. -/
inductive Region where
  /-- block memories: word 4096 m + a, 64 data bits and 8 check bits (R142) -/
  | block
  /-- the queue store: 64 data bits, 8 check bits and the header flag (R174) -/
  | queue
  /-- the Orangery workspace: 64 data bits and 8 check bits (R363) -/
  | workspace
  /-- Lodge instruction memory: 32-bit words (R598) -/
  | lodgeI
  /-- Lodge data memory -/
  | lodgeD
  /-- the configuration flash: bytes -/
  | flash
  /-- configuration memory: 32-bit words of tile frames with their check bits (R741) -/
  | config
  /-- the MSI-X table, by 32-bit word (R468) -/
  | msix
  /-- host-written words of configuration space (R465) -/
  | cfgSpace
  /-- the rescue staging buffer (Table DV-11): bytes -/
  | rescue
  /-- the settings image of the update unit: bytes (R731) -/
  | settings
  deriving DecidableEq, Repr

/-- Where a region's words start in the one memory store. -/
def Region.base : Region → Nat
  | .block => 0 | .queue => 2 ^ 32 | .workspace => 2 * 2 ^ 32 | .lodgeI => 3 * 2 ^ 32 | .lodgeD => 4 * 2 ^ 32
  | .flash => 5 * 2 ^ 32 | .config => 6 * 2 ^ 32 | .msix => 7 * 2 ^ 32 | .cfgSpace => 8 * 2 ^ 32
  | .rescue => 9 * 2 ^ 32 | .settings => 10 * 2 ^ 32

/-- The whole state. Every numeric register field and internal counter is a cell of `cells` at the key that
Machine/RegMap.lean gives it (an unlisted cell holds its reset value); FIFOs and lists are in `lists`; the memories are
in `mem`. (DESIGN CHOICE, log entry 103.) -/
structure State where
  /-- commands waiting, first in first out (DESIGN CHOICE, log entries 1 to 3) -/
  pending : List Instr
  /-- every register field and every numeric internal state, by Field.key -/
  cells : Store Nat
  /-- FIFOs, buffers and other lists of numbers, by Fifo.key -/
  lists : Store (List Nat)
  /-- the memories, by Region.base and word -/
  mem : Store Nat
  /-- the event-log ring, newest first, at most 4,096 records (R796) -/
  ring : List LogRec
  /-- records raised and not yet written: the intake queue of 64 (R797) -/
  intake : List LogRec
  /-- records held by the always-on domain in DORMANT, at most 16 (R798) -/
  held : List LogRec
  /-- MSI-X vectors whose pending bit is set (R468) -/
  pba : List Nat
  /-- what has left the device, newest first (the model's own: DESIGN CHOICE, log entry 21) -/
  out : List Emit
  /-- draws of free values so far (the model's own: DESIGN CHOICE, log entry 10) -/
  draws : Nat
  deriving DecidableEq, Repr

/-- The machine right after a cold reset that ended in LOAD with MODE2 to MODE0 at 000 (R29, R53): every register at
its reset value, every memory empty, nothing logged, nothing waiting. (DESIGN CHOICE, log entries 5, 7, 8.) -/
def State.reset : State :=
  { pending := [], cells := [], lists := [], mem := [], ring := [], intake := [], held := [], pba := [], out := [],
    draws := 0 }

/-- The outcome of a command. -/
abbrev Out := Host.Outcome State Fault Refusal

end Sys2Proof.Machine
end

