-- ==== Sys2Proof/Machine/Ops.lean ====
section
/-! DEFINITION. The operations every family shares: reading and writing a field, a FIFO, a memory word; raising a log
record; refusing; changing the mode; interrupt levels and their delivery; the checks of a control-bus write. -/

namespace Sys2Proof.Machine

/-! Fields. -/

/-- The value of element i of a field. (DESIGN CHOICE, log entry 22.) -/
def State.get (s : State) (f : Field) (i : Nat := 0) : Nat := s.cells.get (f.key i) f.reset

/-- The field as a flag. -/
def State.flag (s : State) (f : Field) (i : Nat := 0) : Bool := s.get f i = 1

/-- Write element i of a field, cut to its width. (DESIGN CHOICE, log entry 22.) -/
def State.put (s : State) (f : Field) (v : Nat) (i : Nat := 0) : State :=
  { s with cells := s.cells.set (f.key i) (v % 2 ^ f.width) f.reset }

/-- Add to a counter that saturates at its width. -/
def State.count (s : State) (f : Field) (n : Nat) (i : Nat := 0) : State :=
  s.put f (min (s.get f i + n) (2 ^ f.width - 1)) i

/-- Set bit n of a field. -/
def State.orBit (s : State) (f : Field) (n : Nat) (i : Nat := 0) : State := s.put f (setBit (s.get f i) n) i

/-- Clear bit n of a field. -/
def State.andBit (s : State) (f : Field) (n : Nat) (i : Nat := 0) : State := s.put f (clrBit (s.get f i) n) i

/-! FIFOs and lists. -/

/-- A family of lists of numbers, one per index below 2 ^ 20. -/
structure Fifo where
  id : Nat
  deriving DecidableEq, Repr

/-- Where list i of a family is kept. -/
def Fifo.key (q : Fifo) (i : Nat) : Nat := q.id * 2 ^ 20 + i

/-- The list, oldest first. -/
def State.list (s : State) (q : Fifo) (i : Nat := 0) : List Nat := s.lists.get (q.key i) []

/-- Replace the list. -/
def State.setList (s : State) (q : Fifo) (l : List Nat) (i : Nat := 0) : State :=
  { s with lists := s.lists.set (q.key i) l [] }

/-- Append at the young end. -/
def State.enq (s : State) (q : Fifo) (v : Nat) (i : Nat := 0) : State := s.setList q (s.list q i ++ [v]) i

/-! Memories. -/

/-- Marks a word that a warm reset has left undefined (Table DV-14); no stored word has this value.
(DESIGN CHOICE, log entry 9.) -/
def undefinedWord : Nat := 2 ^ 200

/-- Whether memory n has been filled since the warm reset that left it undefined: a block memory, or 2048 and 2049 for
the Lodge memories (R154, Table UP-4). (DESIGN CHOICE, log entry 9.) -/
def State.filled (s : State) (n : Nat) : Bool := s.get MEM_UNDEF = 0 || s.get BLK_EPOCH n = s.get MEM_EPOCH

/-- What an unlisted word of a region is stored as: erased flash reads 0xFF; a volatile memory is blank until a warm
reset has made it undefined, and again once it has been filled. (DESIGN CHOICE, log entries 8, 9.) -/
def State.blank (s : State) (r : Region) (a : Nat) : Nat :=
  let zeroIf (b : Bool) : Nat := if b then 0 else undefinedWord
  match r with
  | .flash => 0xFF
  | .block => zeroIf (s.filled (a / 4096))
  | .lodgeI => zeroIf (s.filled 2048)
  | .lodgeD => zeroIf (s.filled 2049)
  | .queue | .workspace => zeroIf (s.get MEM_UNDEF = 0)
  | _ => 0

/-- A word of a memory; an undefined one is a free value of its place and of the reset that left it so.
(DESIGN CHOICE, log entries 8, 9.) -/
def State.load (s : State) (r : Region) (a : Nat) : Nat :=
  let v := s.mem.get (r.base + a) (s.blank r a)
  if v = undefinedWord then Config.freeValue (2 ^ 64 * s.get MEM_EPOCH + (r.base + a)) else v

/-- Write a word of a memory. -/
def State.store (s : State) (r : Region) (a v : Nat) : State :=
  { s with mem := s.mem.set (r.base + a) (v % 2 ^ 80) (s.blank r a) }

/-- Fill words lo to hi of a region with zero words, as memories of `filled` (R154). -/
def State.fillZero (s : State) (r : Region) (lo hi n : Nat) : State :=
  let s := { s with mem := s.mem.filter fun c => c.1 < r.base + lo || r.base + hi ≤ c.1 }
  if s.get MEM_UNDEF = 0 then s else s.put BLK_EPOCH (s.get MEM_EPOCH) n

/-- Forget everything listed of a region. -/
def State.wipe (s : State) (r : Region) : State :=
  { s with mem := s.mem.filter fun c => c.1 < r.base || r.base + 2 ^ 32 ≤ c.1 }

/-! Outputs and free values. -/

/-- Record an output. (DESIGN CHOICE, log entry 21.) -/
def State.emit (s : State) (k : OutKind) (args : List Nat) : State := { s with out := ⟨k, args⟩ :: s.out }

/-- The next free value, below 2 ^ n. (DESIGN CHOICE, log entry 10.) -/
def State.fresh (s : State) (n : Nat) : Nat := Config.freeValue s.draws % 2 ^ n

/-- The state after a free value has been drawn. (DESIGN CHOICE, log entry 10.) -/
def State.drawn (s : State) : State := { s with draws := s.draws + 1 }

/-! Mode and time. -/

/-- Device mode codes (Table DV-8). -/
def mRESCUE : Nat := 0
def mLOAD : Nat := 1
def mHOLD : Nat := 2
def mRUN : Nat := 3
def mDORMANT : Nat := 4
def mTEST : Nat := 5

/-- PW_MODE.MODE. -/
def State.mode (s : State) : Nat := s.get PW_MODE.MODE

/-- The time count as BTF80 (R274). -/
def State.now (s : State) : Nat := s.get TCOUNT / 2 ^ 16

/-! The event log: raising records. -/

/-- The record of a happening at the present count (R794, R795). -/
def State.record (s : State) (c : Rc) (obj detail : Nat) : LogRec :=
  let running := s.flag BS_TBSTAT.RUNNING
  { time := if running then s.now else 0, notime := !running, coarse := s.flag BS_TBSTAT.COARSE,
    noepoch := !s.flag BS_TBSTAT.EPOCH, code := c.num, sev := c.sev, obj := obj % 2 ^ 16, detail := detail % 2 ^ 64 }

/-- One record lost for want of room (R797, R798). -/
def State.dropRecord (s : State) : State := (s.count EV_DROP.COUNT 1).count DROP_EPISODE 1

/-- Raise a record: into the intake queue of 64, or into the 16 held in DORMANT, or nowhere in a reset (R797, R798).
(DEDUCED, log entry 35.) -/
def State.raise (s : State) (c : Rc) (obj : Nat) (detail : Nat := 0) : State :=
  if s.get RESETTING ≠ 0 then s
  else if s.mode = mDORMANT && s.get PW_DMSTAT.PHASE ≠ 0 then
    if s.held.length < 16 then { s with held := s.held ++ [s.record c obj detail] } else s.dropRecord
  else if s.intake.length < 64 then { s with intake := s.intake ++ [s.record c obj detail] } else s.dropRecord

/-- The REFUSE register of a block, by block code (Table EV-1); updates and self-test have none but GH_REFUSE. -/
def refuseCode (block : Nat) : Field :=
  match block with
  | 0x02 => PW_REFUSE.CODE | 0x03 => IO_REFUSE.CODE | 0x04 => CK_REFUSE.CODE | 0x05 => XP_REFUSE.CODE
  | 0x06 => BS_REFUSE.CODE | 0x07 => BT_REFUSE.CODE | 0x08 => QM_REFUSE.CODE | 0x09 => OG_REFUSE.CODE
  | 0x0A => PX_REFUSE.CODE | 0x0B => HX_REFUSE.CODE | 0x0C => MI_REFUSE.CODE | 0x0D => LG_REFUSE.CODE
  | 0x0E => BV_REFUSE.CODE | 0x0F => FB_REFUSE.CODE | 0x10 => SL_REFUSE.CODE | 0x12 => PW_REFUSE.CODE
  | _ => GH_REFUSE.CODE

/-- The object half of the same register. -/
def refuseObj (block : Nat) : Field := { refuseCode block with lo := 16 }

/-- Refuse: code and object into the block's REFUSE and into GH_REFUSE, and one record (R792). -/
def State.refuseBy (s : State) (block : Nat) (c : Rc) (obj detail : Nat) : State :=
  ((((s.put (refuseCode block) c.num).put (refuseObj block) obj).put GH_REFUSE.CODE c.num).put GH_REFUSE.OBJ obj).raise
    c obj detail

/-- The detail of a refused register write: offset and identity (R792). -/
def writeDetail (m : Master) (off : Nat) : Nat := off % 2 ^ 20 + 2 ^ 20 * m.code

/-- Refuse a register write of a master, in the block of the code. -/
def State.refuse (s : State) (c : Rc) (obj : Nat) (m : Master) (off : Nat) : State :=
  s.refuseBy c.block c obj (writeDetail m off)

/-! Interrupts. -/

/-- Bit n of a word of one-bit causes that reset to 0, by register offset. -/
def State.causeBit (s : State) (off n : Nat) : Nat := s.cells.get (32 * off + n) 0

/-- Cause bit n of the register at `off`, enabled by bit n of an enable field. -/
def State.causeOn (s : State) (off : Nat) (ie : Field) (n : Nat) : Bool :=
  s.causeBit off n = 1 && bit (s.get ie) n

/-- The number of pointer values of a lane less one: pointers are modulo 2 ^ (a + 1) with S = 2 ^ a (R174, R177). -/
def State.laneSize (s : State) (x : Nat) : Nat := 64 * 2 ^ s.get QM_LCFG.SIZE x

/-- W − REL of a lane (R178). -/
def State.laneOcc (s : State) (x : Nat) : Nat :=
  (s.get LANE_W x + 2 * s.laneSize x - s.get LANE_REL x) % (2 * s.laneSize x)

/-- R215: the condition of occupancy watch k. -/
def State.watchOn (s : State) (k : Nat) : Bool :=
  let occ := s.laneOcc (s.get QM_WSEL.LANE k)
  s.flag QM_WSEL.EN k &&
    (if s.get QM_WSEL.DIR k = 0 then decide (s.get QM_WLVL.LEVEL k ≤ occ) else decide (occ ≤ s.get QM_WLVL.LEVEL k))

/-- BT_STAT[11:0] of timer t. -/
def State.timerCauses (s : State) (t : Nat) : Nat :=
  s.get BT_STAT.CMF t + 16 * s.get BT_STAT.CAPF t + 64 * s.get BT_STAT.OVF t + 128 * s.get BT_STAT.OVC t +
    512 * s.get BT_STAT.TRG t + 1024 * s.get BT_STAT.LFD t + 2048 * s.get BT_STAT.WOKE t

/-- The enabled causes of Lodge peripheral i: UART0, UART1, SPI0, SPI1, I2C0, I2C1 (R603). -/
def State.periphOn (s : State) (i : Nat) : Bool :=
  if i < 2 then
    let c := s.get LG_USTAT.RXNE i + 2 * s.get LG_USTAT.TXLOW i + 4 * s.get LG_USTAT.OVR i + 8 * s.get LG_USTAT.ERR i
    c &&& s.get LG_UIE.IE i ≠ 0
  else if i < 4 then
    let c := s.get LG_SSTAT.DONE (i - 2) + 2 * s.get LG_SSTAT.RXNE (i - 2) + 4 * s.get LG_SSTAT.CMDERR (i - 2)
    c &&& s.get LG_SIE.IE (i - 2) ≠ 0
  else
    let j := i - 4
    let c := s.get LG_ISTAT.DONE j + 2 * s.get LG_ISTAT.NACK j + 4 * s.get LG_ISTAT.ARBLOST j +
      8 * s.get LG_ISTAT.TIMEOUT j + 16 * s.get LG_ISTAT.PECERR j + 32 * s.get LG_ISTAT.ALERT j
    c &&& s.get LG_IIE.IE j ≠ 0

/-- The level of interrupt source n: its cause is pending and enabled (R57 and the rule of each block; Table DV-15). -/
def State.level (s : State) (n : Nat) : Bool :=
  if n < 16 then n < 7 && s.causeOn 0x14 GH_IE.IE n
  else if n < 24 then
    match n - 16 with
    | 0 => s.flag PW_MODE.MCHG
    | 1 => s.flag PW_GOVIRQ.SHORT_SEEN && s.flag PW_GOVCTL.IE_SHORT
    | 2 => s.flag PW_GOVIRQ.AVS_FAULT && s.flag PW_GOVCTL.IE_AVS
    | 3 => s.flag PW_GOVIRQ.METER_FAULT && s.flag PW_GOVCTL.IE_METER
    | 4 => s.flag PW_DMIRQ.WOKE && s.flag PW_DMCFG.IE_WOKE
    | 5 => s.flag PW_DMIRQ.REFUSED && s.flag PW_DMCFG.IE_REF
    | _ => false
  else if n < 32 then n < 27 && s.causeOn 0x2000 IO_IE.IE (n - 24)
  else if n < 40 then n < 37 && s.causeOn 0x4004 CK_IE.IE (n - 32)
  else if n < 48 then s.get XP_FAULT.FAULT (n - 40) ≠ 0 && bit (s.get XP_IE.IE) (n - 40)
  else if n < 56 then s.get XP_OVRMAP.OVR (n - 48) ≠ 0 && bit (s.get XP_IE.IE) (n - 40)
  else if n < 64 then n < 62 && s.causeOn 0x7000 SL_IE.IE (n - 56)
  else if n < 72 then s.causeOn 0x8008 BS_IE.IE (n - 64)
  else if n < 80 then false
  else if n < 96 then s.flag RT_VAL (64 + (n - 80))
  else if n < 112 then s.timerCauses (n - 96) &&& s.get BT_IE.IE (n - 96) ≠ 0
  else if n < 128 then n < 118 && s.causeOn 0x10004 QM_IE.IE (n - 112)
  else if n < 144 then s.watchOn (n - 128)
  else if n < 160 then n < 149 && s.causeOn 0x18004 OG_IE.IE (n - 144)
  else if n < 176 then n < 166 && s.causeOn 0x20000 PX_IE.IE (n - 160)
  else if n < 192 then n < 184 && s.causeOn 0x24000 HX_IE.IE (n - 176)
  else if n < 200 then n < 199 && s.causeOn 0x28024 MI_IE.IE (n - 192)
  else if n < 206 then s.periphOn (n - 200)
  else if n = 206 then s.get LG_GPIF.IF &&& s.get LG_GPIE.IE ≠ 0
  else if n < 216 then n < 214 && s.causeOn 0x30008 LG_IE.IE (n - 207)
  else if n < 224 then s.causeOn 0x34000 BV_IE.IE (n - 216)
  else if n < 229 then s.causeOn 0x40004 FB_IE.IE (n - 224)
  else if n < 232 then s.causeOn 0x40020 FB_MIE.IE (n - 229)
  else if n < 240 then
    bit (s.get EV_IRQ.NEW + 16 * s.get EV_IRQ.OVR) (n - 232) && bit (s.get EV_IE.IE) (n - 232)
  else s.flag UI_LINE (n - 240)

/-- PW_IRQLVL[k]: bit i is the level of source 32k + i. -/
def State.levelWord (s : State) (k : Nat) : Nat :=
  ((List.range 32).map fun i => if s.level (32 * k + i) then 2 ^ i else 0).sum

/-- Send one message on a vector: MSI-X (held in the pending bits while masked), MSI on the vector ANDed with the
allocation less one, or, with neither enabled, only the pending bit (R59, R490). -/
def State.message (s : State) (vec : Nat) : State :=
  if s.flag PX_LINK.MSIX_EN then
    if s.flag MSIX_FMASK || !bit (s.load .msix (4 * vec + 3)) 0 then
      { s with pba := if s.pba.contains vec then s.pba else vec :: s.pba }
    else s.emit .message [vec]
  else if s.flag PX_LINK.MSI_EN then
    let v := vec % 32 &&& (s.get PX_LINK.MSI_VECS - 1)
    if bit (s.load .cfgSpace 0x18) v then s.orBit MSI_PEND v else s.emit .message [v]
  else { s with pba := if s.pba.contains vec then s.pba else vec :: s.pba }

/-- Deliver one edge of source n along its routing (R58, R59, R62); nothing in DORMANT (R64).
(DEDUCED, log entry 36.) -/
def State.edge (s : State) (n : Nat) : State :=
  if s.mode = mDORMANT then s
  else
    let s1 := if s.flag PW_IRQMAP.MSIX_EN n then s.message (s.get PW_IRQMAP.VECTOR n) else s
    if s.flag PW_IRQMAP.EVL_EN n then s1.emit .eventLine [48 + s.get PW_IRQMAP.EVLINE n] else s1

/-- Whether a source is routed to a message or an event line. -/
def State.routed (s : State) (n : Nat) : Bool := s.flag PW_IRQMAP.MSIX_EN n || s.flag PW_IRQMAP.EVL_EN n

/-- Deliver every source that `t` asserts and `s` does not. -/
def deliver (s t : State) : State :=
  (List.range 256).foldl (fun u n => if t.routed n && t.level n && !s.level n then u.edge n else u) t

/-- The outcome of a command whose effect is `t`, begun in `s`: `t` with its interrupt edges delivered. -/
def run (s t : State) : Out := .next (deliver s t)

/-- A command that reaches a device in reset has no effect until the reset ends (R47); otherwise its effect.
(DEDUCED, log entry 64.) -/
def live (s : State) (k : State → State) : Out := if s.get RESETTING = 0 then run s (k s) else .next s

/-! Modes. -/

/-- Change MODE (R27, R33): PREV_MODE, MCHG, the record, BV_ALERT.MODE; the protected-register unlock closes (R651),
and so does what SERVE offered (R689). -/
def State.setMode (s : State) (new requester : Nat) : State :=
  let old := s.mode
  let t := (((s.put PW_MODE.PREV_MODE old).put PW_MODE.MCHG 1).put BV_ALERT.MODE 1).put GH_STATUS.UNLOCK_OPEN 0
  let t := (t.put GH_STATUS.UNLOCK_ID 7).put SV_ON 0
  if new = mDORMANT then (t.raise Rc.PW_MODE_ENTER new (old + 256 * requester)).put PW_MODE.MODE new
  else (t.put PW_MODE.MODE new).raise Rc.PW_MODE_ENTER new (old + 256 * requester)

/-! The control bus. -/

/-- The block code of an offset (Table DV-11, Table EV-1); 0 where the address is reserved. The EV range carries 0x13
here, so that it can be told from GH. -/
def blockOf (off : Nat) : Nat :=
  if off < 0x1000 then 0x01 else if off < 0x2000 then 0x02 else if off < 0x4000 then 0x03
  else if off < 0x5000 then 0x04 else if off < 0x7000 then 0x05 else if off < 0x8000 then 0x10
  else if off < 0xA000 then 0x06 else if off < 0xB000 then 0x07 else if off < 0x10000 then 0
  else if off < 0x18000 then 0x08 else if off < 0x1C000 then 0x09 else if off < 0x20000 then 0
  else if off < 0x24000 then 0x0A else if off < 0x28000 then 0x0B else if off < 0x29000 then 0x0C
  else if off < 0x30000 then 0 else if off < 0x34000 then 0x0D else if off < 0x38000 then 0x0E
  else if off < 0x39000 then 0x13 else if off < 0x40000 then 0 else if off < 0x80000 then 0x0F else 0

/-- R34, Table DV-10: whether the block of an offset answers this master in the present mode.
(DEDUCED, log entry 31.) -/
def State.answers (s : State) (m : Master) (off : Nat) : Bool :=
  let b := blockOf off
  if b = 0 then false
  else if s.mode = mHOLD || s.mode = mRUN then true
  else if s.mode = mTEST then [0x01, 0x02, 0x13].contains b
  else if s.mode = mDORMANT then false
  else [0x01, 0x02, 0x04, 0x10, 0x0A, 0x0B, 0x0E, 0x13].contains b || (s.mode = mLOAD && m = .gatehouse)

/-- R653: whether GH_ACCESS denies this master reads (bit 0) or writes (bit 1). -/
def State.denied (s : State) (m : Master) (n : Nat) : Bool :=
  match m with
  | .host => bit (s.get GH_ACCESS.HOST) n
  | .hokuoxRemote => bit (s.get GH_ACCESS.HOKUOX_REMOTE) n
  | .fabric => bit (s.get GH_ACCESS.FABRIC) n
  | .lodgeU => bit (s.get GH_ACCESS.LODGE_U) n
  | _ => false

/-- R653: what a denied access leaves. -/
def State.deny (s : State) (m : Master) (off : Nat) : State :=
  let first := !s.flag GH_IRQ.DENIED
  let t := (s.count GH_DENYCNT.COUNT 1).put GH_IRQ.DENIED 1
  if first then t.raise Rc.GH_ACCESS_DENIED m.code off else t

/-- R652: what a refused RWL (kind 0) or RWO (kind 1) write leaves. -/
def State.writeDenied (s : State) (m : Master) (off kind : Nat) : State :=
  let b := blockOf off
  (s.raise Rc.GH_WRITE_DENIED (if b = 0x13 then 1 else b) (writeDetail m off + 2 ^ 23 * kind)).put GH_IRQ.DENIED 1

/-- R651: whether RWL fields take this master's writes. -/
def State.unlocked (s : State) (m : Master) : Bool :=
  m = .gatehouse || (s.flag GH_STATUS.UNLOCK_OPEN && s.get GH_STATUS.UNLOCK_ID = m.code)

/-- R652: whether a write of this master counts as one of the owner, by identity code. -/
def State.asOwner (s : State) (m : Master) (owner : Nat) : Bool :=
  m = .gatehouse || m.code = owner ||
    (m = .debug && (s.get GH_DBGSTAT.LEVEL = 2 || (s.get GH_DBGSTAT.LEVEL = 1 && owner ≠ 0)))

/-- The sources of the block of an offset, first and count (Table DV-15). -/
def sourcesOf (off : Nat) : Nat × Nat :=
  match blockOf off with
  | 0x01 => (0, 16) | 0x02 => (16, 8) | 0x03 => (24, 8) | 0x04 => (32, 8) | 0x05 => (40, 16) | 0x10 => (56, 8)
  | 0x06 => (64, 32) | 0x07 => (96, 16) | 0x08 => (112, 32) | 0x09 => (144, 16) | 0x0A => (160, 16)
  | 0x0B => (176, 16) | 0x0C => (192, 8) | 0x0D => (200, 16) | 0x0E => (216, 8) | 0x0F => (224, 8)
  | 0x13 => (232, 8) | _ => (0, 0)

/-- The register at an offset, with its index (R36). -/
def findReg (l : List Reg) (off : Nat) : Option (Reg × Nat) :=
  match l with
  | [] => none
  | r :: rest =>
    if r.off = off then some (r, 0)
    else if r.off < off && r.stride ≠ 0 && (off - r.off) % r.stride = 0 && (off - r.off) / r.stride < r.count then
      some (r, (off - r.off) / r.stride)
    else findReg rest off

/-- The registers of the block of an offset. -/
def regsOf (off : Nat) : List Reg :=
  match blockOf off with
  | 0x01 => regsGH | 0x02 => regsPW | 0x03 => regsIO | 0x04 => regsCK | 0x05 => regsXP | 0x10 => regsSL
  | 0x06 => regsBS | 0x07 => regsBT | 0x08 => regsQM | 0x09 => regsOG | 0x0A => regsPX | 0x0B => regsHX
  | 0x0C => regsMI | 0x0D => regsLG | 0x0E => regsBV | 0x0F => regsFB | 0x13 => regsEV | _ => []

/-- Whether a word carries a 1 in any W1C field of a register. -/
def Reg.w1cHit (r : Reg) (w : Nat) : Bool :=
  r.fields.any fun f => (f.acc = .w1c || f.acc = .w1cAny) && bits w f.lo f.width ≠ 0

/-- R59: after a write that carries a 1 in a W1C field, one further message for each source of the block that was
asserted before it (`before`) and still is. -/
def State.resend (s : State) (before : State) (off w : Nat) : State :=
  match findReg (regsOf off) off with
  | none => s
  | some (r, _) =>
    if r.w1cHit w then
      let rng := sourcesOf off
      (List.range rng.2).foldl (fun u k =>
        let n := rng.1 + k
        if s.flag PW_IRQMAP.MSIX_EN n && before.level n && s.level n then u.message (s.get PW_IRQMAP.VECTOR n) else u) s
    else s

/-! The mirror journal: what every family owes it (R556 to R568). -/

/-- The words of the journal area, oldest first (R562). -/
def JOURNAL_WORDS : Fifo := ⟨1⟩

/-- The declaration that covers item n of a kind: 1 a register offset, 2 a memory, 3 a lane (R556). -/
def State.declOf (s : State) (kind n : Nat) : Option Nat :=
  (List.range 128).find? fun r =>
    s.get MI_DECLA.KIND r = kind && s.get MI_DECLA.START r ≤ n &&
      n < s.get MI_DECLA.START r + (if kind = 1 then 4 else 1) * s.get MI_DECLB.COUNT r

/-- R566: a change of SYNC. -/
def State.setSync (s : State) (v : Nat) : State :=
  if s.get MI_STAT.SYNC = v then s else ((s.put MI_STAT.SYNC v).raise Rc.MI_SYNC v).put MI_IRQ.SYNC 1

/-- Forget the journal area. -/
def State.dropJournal (s : State) : State := ((s.setList JOURNAL_WORDS []).put MI_JLEVEL.WORDS 0).put JOPEN 0

/-- Whether changes are journaled: an enabled PRIMARY whose SYNC is COPYING or IN_SYNC (R557, R566).
(DEDUCED, log entry 45.) -/
def State.journaling (s : State) : Bool :=
  s.flag MI_CFG.EN && s.get MI_STAT.ROLE = 1 && (s.get MI_STAT.SYNC = 1 || s.get MI_STAT.SYNC = 2)

/-- Put words into the journal area, or let the journal break for want of room (R568). -/
def State.journalWords (s : State) (ws : List Nat) : State :=
  if 131072 < s.get MI_JLEVEL.WORDS + ws.length then
    ((s.dropJournal.setSync 3).raise Rc.MI_JOURNAL_FULL 0).put MI_IRQ.JFULL 1
  else
    ((s.setList JOURNAL_WORDS (s.list JOURNAL_WORDS ++ ws)).put MI_JLEVEL.WORDS
      (s.get MI_JLEVEL.WORDS + ws.length)).put JOPEN (s.get JOPEN + ws.length)

/-- The REGW record of a register write (Table MI-3, R557). -/
def State.journalReg (s : State) (off w : Nat) : State :=
  if s.journaling && (s.declOf 1 off).isSome then s.journalWords [1 + 16 * off + 2 ^ 32 * (w % 2 ^ 32)] else s

/-- The MEMW record of a stored memory word (Table MI-3, R558). -/
def State.journalMem (s : State) (mem word data check : Nat) : State :=
  if s.journaling && (s.declOf 2 mem).isSome then
    s.journalWords [2 + 16 * mem + 2 ^ 15 * word + 2 ^ 27 * check, data]
  else s

/-- The SLOT record of a store write (Table MI-3, R559). -/
def State.journalSlot (s : State) (lane ptr word : Nat) (header : Bool) : State :=
  if s.journaling && (s.declOf 3 lane).isSome then
    s.journalWords [3 + 16 * lane + 2 ^ 15 * ptr + 2 ^ 36 * b2n header, word]
  else s

/-- Whether this device is an enabled SECONDARY. -/
def State.secondary (s : State) : Bool := s.flag MI_CFG.EN && s.get MI_STAT.ROLE = 2

/-- R557: a write inside a REG range of a SECONDARY is ignored, and logged once for each onset. -/
def State.secWrite (s : State) (m : Master) (off r : Nat) : State :=
  if s.flag MI_IRQ.SECW then s else (s.put MI_IRQ.SECW 1).raise Rc.MI_SEC_WRITE r (writeDetail m off)

/-- R649: one more control-bus transaction of a master, for the sequence of its unlock keys. -/
def State.transact (s : State) (m : Master) : State :=
  let n := s.get UNL_LEFT m.code
  if n = 0 then s else s.put UNL_LEFT (n - 1) m.code

/-- A write of a master at an offset, with the checks that come before any register's own rule: the block answers
(R34), the identity is not denied (R653), a mirrored register is not written on a SECONDARY and is journaled on a
PRIMARY (R557); then the effect, then the further messages of R59. -/
def State.onWrite (s : State) (m : Master) (off w : Nat) (k : State → State) : State :=
  let s := s.transact m
  if s.answers m off then
    if s.denied m 1 then s.deny m off
    else
      match if m ≠ .gatehouse && s.secondary then s.declOf 1 off else none with
      | some r => s.secWrite m off r
      | none => (k (s.journalReg off w)).resend s off w
  else s

/-- The low half that a master's write hold of a pair keeps, by the offset of the _LO register (R19).
(DEDUCED, log entry 25.) -/
def State.heldLow (s : State) (m : Master) (lo : Nat) : Option Nat :=
  let v := s.get WR_HOLD (8 * (lo / 4) + m.code)
  if 2 ^ 32 ≤ v then some (v % 2 ^ 32) else none

/-- A _HI write empties the writer's hold (R19). -/
def State.dropHold (s : State) (m : Master) (lo : Nat) : State := s.put WR_HOLD 0 (8 * (lo / 4) + m.code)

/-- A _LO write loads the writer's hold (R19). -/
def State.holdLow (s : State) (m : Master) (lo w : Nat) : State :=
  s.put WR_HOLD (2 ^ 32 + w % 2 ^ 32) (8 * (lo / 4) + m.code)

/-- A _LO read loads the reader's latch with the high half (R19). (DEDUCED, log entry 25.) -/
def State.latchHigh (s : State) (m : Master) (lo high : Nat) : State :=
  s.put RD_LATCH (2 ^ 32 + high % 2 ^ 32) (8 * (lo / 4) + m.code)

/-- What a _HI read returns: the latch, or the current high half before the first _LO read (R19). -/
def State.latched (s : State) (m : Master) (lo current : Nat) : Nat :=
  let v := s.get RD_LATCH (8 * (lo / 4) + m.code)
  if 2 ^ 32 ≤ v then v % 2 ^ 32 else current

/-- A read of a master at an offset, with the checks that come before any register's own rule: the value and the
state after (R34, R653). -/
def State.onRead (s : State) (m : Master) (off : Nat) (k : State → Nat × State) : Nat × State :=
  let s := s.transact m
  if s.answers m off then
    if s.denied m 0 && blockOf off ≠ 1 then (0, s.deny m off) else k s
  else (0, s)

/-- R23: whether a read of this master is a peek read. -/
def State.peeks (s : State) (m : Master) : Bool := m = .debug && s.get DBG_CONSUME = 0

/-- R21, R22: the plain effect of a written word on one field. -/
def State.writeField (s : State) (f : Field) (i w : Nat) (unlocked own : Bool) : State :=
  let v := bits w f.lo f.width
  match f.acc with
  | .rw => if f.accepts v then s.put f v i else s
  | .w1c => s.put f (s.get f i - (s.get f i &&& v)) i
  | .w1cAny => if v ≠ 0 then s.put f 0 i else s
  | .rwl => if unlocked && f.accepts v then s.put f v i else s
  | .rwo => if own && f.accepts v then s.put f v i else s
  | _ => s

/-- The plain effect of a written word on a register: every field under its access code (R22), and the record of a
refused RWL or RWO write (R652). -/
def State.writeReg (s : State) (m : Master) (r : Reg) (i w : Nat) (own : Bool := true) : State :=
  let un := s.unlocked m
  let t := r.fields.foldl (fun u f => u.writeField f i w un own) s
  let off := r.off + r.stride * i
  let t := if !un && r.fields.any (fun f => f.acc = .rwl) then t.writeDenied m off 0 else t
  if !own && r.fields.any (fun f => f.acc = .rwo) then t.writeDenied m off 1 else t

/-- The word a register reads as, from its fields; WO fields read 0 (R20, R22). -/
def State.readReg (s : State) (r : Reg) (i : Nat) : Nat :=
  (r.fields.map fun f => if f.acc = .wo then 0 else s.get f i * 2 ^ f.lo).sum

end Sys2Proof.Machine
end

