-- ==== Sys2Proof/Machine/Memory.lean ====
section
/-! DEFINITION. spec/04: block memories and MAC cells. -/

namespace Sys2Proof.Machine

/-- Plot state codes (Table FB-4). -/
def pLIVE : Nat := 0
def pFENCING : Nat := 1
def pFENCED : Nat := 2
def pWRITING : Nat := 3
def pSTAGING : Nat := 4

/-- Whether the cells of a plot run, so that its hard blocks are asked anything: RUN, and LIVE or FENCING (Table
FB-4). -/
def State.plotRuns (s : State) (p : Nat) : Bool := s.mode = mRUN && s.get FB_PSTAT.STATE p ≤ pFENCING

/-- R156, R167: whether a hard block of the plot may be inspected or configured. -/
def State.plotOpen (s : State) (p : Nat) : Bool := s.mode ≠ mRUN || s.get FB_PSTAT.STATE p ≠ pLIVE

/-! Words of a memory. -/

/-- Stored data bits of physical word a of memory m. -/
def State.memData (s : State) (m a : Nat) : Nat := s.load .block (4096 * m + a) % 2 ^ 64

/-- Stored check bits of the word. -/
def State.memChk (s : State) (m a : Nat) : Nat := s.load .block (4096 * m + a) / 2 ^ 64 % 256

/-- Store a word with its check bits, as a core operation that a mirrored pair sees (R558). -/
def State.memPut (s : State) (m a data chk : Nat) : State :=
  (s.store .block (4096 * m + a) (data % 2 ^ 64 + 2 ^ 64 * (chk % 256))).journalMem m a (data % 2 ^ 64) (chk % 256)

/-- A write's store: the armed injection of R157 flips data bits after the check bits have been computed. -/
def State.memWrite (s : State) (m a data chk : Nat) : State :=
  let md := s.get FB_MINJ.MODE
  if md ≠ 0 && s.get FB_MINJ.MEM = m then
    let b := s.get FB_MINJ.BIT
    let d := (data ^^^ 2 ^ b) ^^^ (if md = 2 then 2 ^ ((b + 1) % 64) else 0)
    ((s.memPut m a d chk).put FB_MINJ.MODE 0).raise Rc.FB_MEM_INJECT m
  else s.memPut m a data chk

/-- R152: counts, capture, cause and record of an error; R740 and BV_ALERT beside them. -/
def State.memErr (s : State) (m a synd src : Nat) (ue : Bool) : State :=
  let s := s.count (if ue then FB_MECC.UE else FB_MECC.CE) 1 m
  let s := s.count BV_ERRSUM.COUNT 1 (if ue then 3 else 2)
  let s := ((((s.put FB_MEADDR.WADDR a m).put FB_MEADDR.SYND synd m).put FB_MEADDR.SRC src m).put FB_MEADDR.UE
    (b2n ue) m).put FB_MEADDR.VALID 1 m
  let detail := a + 2 ^ 12 * synd + 2 ^ 20 * src
  if ue then
    let s := (s.put FB_MIRQ.UE 1).put BV_ALERT.MEM_UE 1
    if s.get LAST_UE m = 4096 + a then s else (s.put LAST_UE (4096 + a) m).raise Rc.FB_MEM_UE m detail
  else if s.flag FB_MIRQ.CE then s
  else (s.put FB_MIRQ.CE 1).raise Rc.FB_MEM_CE m detail

/-- One checked read of a word by a source (R148 to R150): what is found, and the state after, with the corrected word
written back where `wb` says so. -/
def State.memRead (s : State) (m a src : Nat) (wb : Bool) : EccWord × State :=
  let d := s.memData m a
  let c := s.memChk m a
  if s.flag FB_MCFG.ECC_EN m then
    let r := eccDecode d c
    match r.kind with
    | .clean => (r, s)
    | .corrected =>
      let t := s.memErr m a r.synd src false
      (r, if wb then t.memPut m a r.data r.chk else t)
    | .uncorrectable => (r, s.memErr m a r.synd src true)
  else (⟨d, c, .clean, syndrome d c⟩, s)

/-! Ports. -/

/-- Table FB-16: the width of a code. -/
def memWidth (code : Nat) : Nat :=
  match code with | 0 => 8 | 1 => 16 | 2 => 32 | 3 => 64 | _ => 72

/-- Width of a port: 0 A, 1 B. -/
def State.portWidth (s : State) (m port : Nat) : Nat :=
  memWidth (if port = 0 then s.get FB_MCFG.WIDTH_A m else s.get FB_MCFG.WIDTH_B m)

/-- R142, R158, R159: the memory, the physical word and the first bit that a port address names. -/
def State.portTarget (s : State) (m port addr : Nat) : Nat × Nat × Nat :=
  let w := s.portWidth m port
  let depth := if w = 72 then 4096 else 32768 * 8 / w
  let members := if s.get FB_MCFG.CASC m = 1 then 2 ^ s.get FB_MCFG.CASC_LEN m else 1
  let a := addr % depth
  (m + addr / depth % members, if w = 72 then a else a * w / 64, if w = 72 then 0 else a * w % 64)

/-- The bits of a port word inside stored data (width 72 presents the check bits above the data, R142). -/
def portBits (w lo data chk : Nat) : Nat := if w = 72 then data + 2 ^ 64 * chk else bits data lo w

/-- R158: the port of a cascade member ignores drive. -/
def State.portUsed (s : State) (m : Nat) : Bool := s.plotRuns (m / 32) && s.get FB_MCFG.CASC m ≠ 2

/-- What a port shows with its ACK: RDATA, CE, UE (R139). -/
def State.portAck (s : State) (m port rdata : Nat) (k : EccKind) : State :=
  s.emit .toArray [1, 2 * m + port, rdata, b2n (k = .corrected), b2n (k = .uncorrectable)]

/-- The effect of a port read (R140, R141, R148 to R150). -/
def State.portRead (s : State) (m port addr : Nat) : State :=
  let w := s.portWidth m port
  let t := s.portTarget m port addr
  let r := s.memRead t.1 t.2.1 port (s.flag FB_MCFG.ECC_WB t.1)
  let v := portBits w t.2.2 r.1.data r.1.chk
  (r.2.put PORT_RDATA v (2 * m + port)).portAck m port v r.1.kind

/-- MEM_PORT_READ (R140). -/
def execMemPortRead (m : Fin 2048) (port : Fin 2) (addr : BitVec 19) (s : State) : Out :=
  live s fun s => if s.portUsed m then s.portRead m port addr.toNat else s

/-- The mask of the used byte enables of a width-w port word (R143). -/
def beMask (w be : Nat) : Nat := ((List.range (w / 8)).map fun i => if bit be i then 255 * 256 ^ i else 0).sum

/-- Merge the masked bits of a port word into a stored word. -/
def mergeBits (old new mask lo : Nat) : Nat :=
  ((List.range 64).map fun i => if lo ≤ i && bit mask (i - lo) then (if bit new (i - lo) then 2 ^ i else 0)
    else if bit old i then 2 ^ i else 0).sum

/-- The effect of a port write (R140 to R143, R147, R151, R157): an armed injection may alter it. -/
def State.portWrite (s : State) (m port addr be data : Nat) : State :=
  let w := s.portWidth m port
  let t := s.portTarget m port addr
  let mm := t.1
  let a := t.2.1
  let lo := t.2.2
  let d := s.memData mm a
  let c := s.memChk mm a
  let mask := beMask w be
  let wmode := if port = 0 then s.flag FB_MCFG.WMODE_A m else s.flag FB_MCFG.WMODE_B m
  let shown (old : Nat) : Nat := if wmode then old else s.get PORT_RDATA (2 * m + port)
  if w = 72 then
    (s.memWrite mm a (data % 2 ^ 64) (data / 2 ^ 64)).portAck m port (shown (d + 2 ^ 64 * c)) .clean
  else if mask = 0 then s.portAck m port (shown (bits d lo w)) .clean
  else if s.flag FB_MCFG.ECC_EN mm && !(w = 64 && be = 255) then
    let r := s.memRead mm a port false
    let old := shown (bits r.1.data lo w)
    if r.1.kind = .uncorrectable then r.2.portAck m port old .uncorrectable
    else
      let v := mergeBits r.1.data data mask lo
      (r.2.memWrite mm a v (eccOf v)).portAck m port old r.1.kind
  else
    let v := mergeBits d data mask lo
    (s.memWrite mm a v (eccOf v)).portAck m port (shown (bits d lo w)) .clean

/-- The write that port 2m + port holds without ACK until write enables open (R692). -/
def MEM_HELD : Fifo := ⟨42⟩

/-- MEM_PORT_WRITE (R151, R692). -/
def execMemPortWrite (m : Fin 2048) (port : Fin 2) (addr : BitVec 19) (be : BitVec 8) (data : BitVec 72) (s : State) :
    Out :=
  live s fun s =>
    if !s.portUsed m then s
    else if s.get REL_STEP = 1 then s.setList MEM_HELD [addr.toNat, be.toNat, data.toNat] (2 * m + port)
    else s.portWrite m port addr.toNat be.toNat data.toNat

/-! Indirect and scrub accesses. -/

/-- The effect of a word written to FB_MEMACC (R156). -/
def wrMemAcc (_m : Master) (w : Nat) (s : State) : State :=
  let m := bits w 0 11
  let a := bits w 12 12
  let raw := bit w 25
  if s.flag FB_MEMASTAT.BUSY then s.put FB_MEMASTAT.REFUSED 1
  else if !s.plotOpen (m / 32) then (s.put FB_MEMASTAT.REFUSED 1).raise Rc.FB_MEM_LIVE m
  else if bit w 24 then
    let d := s.get FB_MDATA_LO.DATA + 2 ^ 32 * s.get FB_MDATA_HI.DATA
    let s := (s.put FB_MEMASTAT.CE 0).put FB_MEMASTAT.UE 0
    if raw then s.memPut m a d (s.get FB_MCHK.CHK) else s.memWrite m a d (eccOf d)
  else if raw then
    let d := s.memData m a
    let c := s.memChk m a
    (((((s.put FB_MDATA_LO.DATA (d % 2 ^ 32)).put FB_MDATA_HI.DATA (d / 2 ^ 32)).put FB_MCHK.CHK c).put FB_MCHK.SYND
      (syndrome d c)).put FB_MEMASTAT.CE 0).put FB_MEMASTAT.UE 0
  else
    let r := s.memRead m a 3 (s.flag FB_MCFG.ECC_WB m)
    ((((r.2.put FB_MDATA_LO.DATA (r.1.data % 2 ^ 32)).put FB_MDATA_HI.DATA (r.1.data / 2 ^ 32)).put FB_MCHK.SYND
      r.1.synd).put FB_MEMASTAT.CE (b2n (r.1.kind = .corrected))).put FB_MEMASTAT.UE
      (b2n (r.1.kind = .uncorrectable))

/-- MEM_INDIRECT_READ (R156): a write to FB_MEMACC with WRITE 0. -/
def execMemIndirectRead (m : Master) (w : Word) (s : State) : Out :=
  let v := clrBit w.toNat 24
  live s fun s => s.onWrite m 0x40100 v (wrMemAcc m v)

/-- MEM_INDIRECT_WRITE (R156): a write to FB_MEMACC with WRITE 1. -/
def execMemIndirectWrite (m : Master) (w : Word) (s : State) : Out :=
  let v := setBit w.toNat 24
  live s fun s => s.onWrite m 0x40100 v (wrMemAcc m v)

/-- MEM_SCRUB_ACCESS (R153, R749): one atomic read, correct and write of the next physical word of memory m; scrub
write-backs are not journaled (R558) and consume no injection (R157). -/
def execMemScrubAccess (m : Fin 2048) (s : State) : Out :=
  live s fun s =>
    if s.mode = mHOLD || s.mode = mRUN then
      let a := s.get MSCRUB_AT m
      let r := s.memRead m a 2 false
      let t := if r.1.kind = .corrected then r.2.store .block (4096 * m + a) (r.1.data + 2 ^ 64 * r.1.chk) else r.2
      t.put MSCRUB_AT ((a + 1) % 4096) m
    else s

/-! MAC cells. -/

/-- sat27 of R162: the limited value, and whether it was limited. -/
def sat27 (signed : Bool) (v : Int) : Int × Bool :=
  let lo : Int := if signed then -(2 ^ 26) else 0
  let hi : Int := if signed then 2 ^ 26 - 1 else 2 ^ 27 - 1
  if v < lo then (lo, true) else if hi < v then (hi, true) else (v, false)

/-- limit64 of R163: the kept value, and whether the operation overflowed. -/
def limit64 (saturate : Bool) (v : Int) : Int × Bool :=
  if -(2 ^ 63) ≤ v && v < 2 ^ 63 then (v, false)
  else if saturate then (if v < 0 then -(2 ^ 63) else 2 ^ 63 - 1, true)
  else (toSigned 64 (ofSigned 64 v), true)

/-- round of R164. -/
def macRound (p : Int) (shift rnd : Nat) : Int :=
  if shift = 0 then p
  else
    let d : Int := 2 ^ shift
    let half : Int := 2 ^ (shift - 1)
    let q := p / d
    let r := p % d
    if rnd = 0 then q
    else if rnd = 1 then (p + half) / d
    else if half < r || (r = half && q % 2 = 1) then q + 1
    else q

/-- The accumulator P of MAC cell n. -/
def State.macP (s : State) (n : Nat) : Int := toSigned 64 (s.get FB_MACP_LO.P n + 2 ^ 32 * s.get FB_MACP_HI.P n)

/-- An operand of 27 bits in the signedness of R162. -/
def operand27 (signed : Bool) (v : Nat) : Int := if signed then toSigned 27 v else (v : Int)

/-- Whether an operation of cell n takes PCIN: OP.CASC, permitted by CASC_IN_EN, and j above 0 (R165, Table FB-19). -/
def State.macCasc (s : State) (n op : Nat) : Bool := bit op 4 && s.flag FB_MACCFG.CASC_IN_EN n && n % 48 ≠ 0

/-- Whether an operation of cell n can go on: its PCIN token is there, and its own PCOUT is free (R165). -/
def State.macReady (s : State) (n op : Nat) : Bool :=
  !(s.flag FB_MACCFG.CASC_OUT n && s.flag FB_MACSTAT.PCOUT_FULL n) &&
    !(s.macCasc n op && !s.flag FB_MACSTAT.PCOUT_FULL (n - 1))

/-- One operation of a MAC cell (R161 to R165). -/
def State.macStep (s : State) (n op a b d : Nat) : State :=
  let sa := s.flag FB_MACCFG.SIGNED_A n
  let av := operand27 sa a
  let dv := operand27 sa d
  let pre := if bit op 2 then sat27 sa (if bit op 3 then dv - av else dv + av) else (av, false)
  let prod := pre.1 * operand27 (s.flag FB_MACCFG.SIGNED_B n) b
  let casc := s.macCasc n op
  let base := if casc then toSigned 64 (s.get MAC_PCOUT (n - 1)) else if bit op 0 then 0 else s.macP n
  let r := limit64 (s.flag FB_MACCFG.OVF_MODE n) (if bit op 1 then base - prod else base + prod)
  let p := ofSigned 64 r.1
  let s := if casc then s.put FB_MACSTAT.PCOUT_FULL 0 (n - 1) else s
  let s := if pre.2 then s.put FB_MACSTAT.PRE_SAT 1 n else s
  let s := if r.2 && !s.flag FB_MACSTAT.OVF n then
      ((s.put FB_MACSTAT.OVF 1 n).raise Rc.FB_MAC_OVF n).put FB_MIRQ.MAC_OVF 1
    else s
  let s := (s.put FB_MACP_LO.P (p % 2 ^ 32) n).put FB_MACP_HI.P (p / 2 ^ 32) n
  let s := if s.flag FB_MACCFG.CASC_OUT n then (s.put MAC_PCOUT p n).put FB_MACSTAT.PCOUT_FULL 1 n else s
  (s.put FB_MACSTAT.CASC_WAIT 0 n).emit .toArray
    [2, n, ofSigned 64 (macRound r.1 (s.get FB_MACCFG.SHIFT n) (s.get FB_MACCFG.RND n)), b2n r.2]

/-- The operation a MAC cell waits with: OP, A, B, D (R165). -/
def MAC_WAIT : Fifo := ⟨2⟩

/-- Run the waiting operation of cell n if it can go on, then those of the neighbours in its cascade. -/
def macPump : Nat → Nat → State → State
  | 0, _, s => s
  | f + 1, n, s =>
    match s.list MAC_WAIT n with
    | [op, a, b, d] =>
      if s.macReady n op then
        let t := (s.setList MAC_WAIT [] n).macStep n op a b d
        let t := if n % 48 = 47 then t else macPump f (n + 1) t
        if n % 48 = 0 then t else macPump f (n - 1) t
      else s.put FB_MACSTAT.CASC_WAIT (b2n (s.macCasc n op && !s.flag FB_MACSTAT.PCOUT_FULL (n - 1))) n
    | _ => s

/-- MAC_OPERATION (R160, R161, R692): one token; a cell whose operation still waits has no second request open. -/
def execMacOperation (n : Fin 3072) (op : BitVec 5) (a b d : BitVec 27) (s : State) : Out :=
  live s fun s =>
    if s.plotRuns (n / 48) && (s.list MAC_WAIT n).isEmpty then
      let t := s.setList MAC_WAIT [op.toNat, a.toNat, b.toNat, d.toNat] n
      if s.get REL_STEP = 1 then t else macPump 48 n t
    else s

/-- Where the lists of a family that are not empty stand. -/
def State.listed (s : State) (q : Fifo) : List Nat :=
  s.lists.filterMap fun c => if q.key 0 ≤ c.1 && c.1 < q.key (2 ^ 20) then some (c.1 - q.key 0) else none

/-- R691, step 2: write enables open, and what was held goes on. -/
def State.writesOpen (s : State) : State :=
  let s := (s.listed MEM_HELD).foldl (fun u i =>
    match u.list MEM_HELD i with
    | [addr, be, data] => (u.setList MEM_HELD [] i).portWrite (i / 2) (i % 2) addr be data
    | _ => u) s
  (s.listed MAC_WAIT).foldl (fun u n => macPump 48 n u) s

/-- R166: P and the PCOUT token of a cell are cleared. -/
def State.macClear (s : State) (n : Nat) : State :=
  (((s.put FB_MACP_LO.P 0 n).put FB_MACP_HI.P 0 n).put MAC_PCOUT 0 n).put FB_MACSTAT.PCOUT_FULL 0 n

/-- R169, R119: FORCE discards the operations of a plot's MAC cells that have not started. -/
def State.macDiscard (s : State) (p : Nat) : State :=
  (List.range 48).foldl (fun u j => (u.setList MAC_WAIT [] (48 * p + j)).put FB_MACSTAT.CASC_WAIT 0 (48 * p + j)) s

/-! Configuration. -/

/-- A write to FB_MCFG or FB_MACCFG (R167): `plot` is the plot of block n. -/
def wrHardBlock (m : Master) (r : Reg) (plot n w : Nat) (s : State) : State :=
  if s.plotOpen plot then s.writeReg m r n w else s.raise Rc.FB_MEM_LIVE n

/-- Table FB-19 for memory m. -/
def State.memCheck (s : State) (m : Nat) : Option Rc :=
  let wa := s.get FB_MCFG.WIDTH_A m
  let wb := s.get FB_MCFG.WIDTH_B m
  let like (x y : Nat) : Bool :=
    s.get FB_MCFG.WIDTH_A x = s.get FB_MCFG.WIDTH_A y && s.get FB_MCFG.WIDTH_B x = s.get FB_MCFG.WIDTH_B y &&
      s.get FB_MCFG.ECC_EN x = s.get FB_MCFG.ECC_EN y && s.get FB_MCFG.ECC_WB x = s.get FB_MCFG.ECC_WB y
  let site := m % 16
  let len := s.get FB_MCFG.CASC_LEN m
  if (wa = 4) ≠ (wb = 4) then some Rc.FB_MEM_WIDTH
  else if wa = 4 && s.flag FB_MCFG.ECC_EN m then some Rc.FB_MEM_WIDTH
  else
    match s.get FB_MCFG.CASC m with
    | 0 => none
    | 1 =>
      if len = 0 || 4 < len || site % 2 ^ len ≠ 0 || wa = 4 then some Rc.FB_MEM_CASCADE
      else if (List.range (2 ^ len - 1)).all fun i => s.get FB_MCFG.CASC (m + i + 1) = 2 && like m (m + i + 1) then none
      else some Rc.FB_MEM_CASCADE
    | 2 =>
      if wa ≠ 4 && [1, 2, 3, 4].any fun l =>
          let h := m - site % 2 ^ l
          h ≠ m && s.get FB_MCFG.CASC h = 1 && s.get FB_MCFG.CASC_LEN h = l then none
      else some Rc.FB_MEM_CASCADE
    | _ => some Rc.FB_MEM_CASCADE

/-- Table FB-19 for MAC cell n. -/
def State.macCheck (s : State) (n : Nat) : Option Rc :=
  if s.flag FB_MACCFG.CASC_IN_EN n && (n % 48 = 0 || !s.flag FB_MACCFG.CASC_OUT (n - 1)) then some Rc.FB_MAC_CASCADE
  else none

/-- R168: the first failure among the hard blocks of a plot, with the block number. -/
def State.plotBlocksCheck (s : State) (p : Nat) : Option (Rc × Nat) :=
  match (List.range 32).findSome? fun k => (s.memCheck (32 * p + k)).map fun c => (c, 32 * p + k) with
  | some r => some r
  | none => (List.range 48).findSome? fun j => (s.macCheck (48 * p + j)).map fun c => (c, 48 * p + j)

/-- R168: the first failure among all hard blocks: every memory, then every MAC cell. -/
def State.allBlocksCheck (s : State) : Option (Rc × Nat) :=
  match (List.range 2048).findSome? fun m => (s.memCheck m).map fun c => (c, m) with
  | some r => some r
  | none => (List.range 3072).findSome? fun n => (s.macCheck n).map fun c => (c, n)

end Sys2Proof.Machine
end

