-- ==== Sys2Proof/Machine/Queue.lean ====
section
/-! DEFINITION. spec/05: the queue manager. -/

namespace Sys2Proof.Machine

/-! Operations and their results. -/

/-- OP codes of Table QM-4. -/
def opPUSH : Nat := 0
def opOPEN : Nat := 1
def opCLOSE : Nat := 2
def opABORT : Nat := 3
def opPOP : Nat := 4
def opPEEK : Nat := 5
def opMARK : Nat := 6
def opREWIND : Nat := 7
def opRELEASE : Nat := 8
def opOCC : Nat := 9

/-- Status codes of Table QM-5. -/
def stOK : Nat := 0
def stEMPTY : Nat := 1
def stFULL : Nat := 2
def stHEADER : Nat := 3
def stTRUNCATED : Nat := 4
def stNO_PACKET : Nat := 5
def stBADLEN : Nat := 6
def stBUSY : Nat := 7
def stMARK_INVALID : Nat := 8
def stNOT_READY : Nat := 9
def stBAD_OP : Nat := 10
def stCUT : Nat := 11
def stUE : Nat := 12

/-- One operation on a queue: who asks (Table QM-1 code), the OP, the lane or ANY, blocking or not, WDATA. -/
structure QOp where
  who : Nat
  queue : Nat
  op : Nat
  lane : Nat
  any : Bool
  block : Bool
  data : Nat
  deriving DecidableEq, Repr

/-- What an operation answers: STATUS, RDATA, LANE_OUT. -/
structure QRes where
  status : Nat
  rdata : Nat
  lane : Nat
  deriving DecidableEq, Repr

/-- An operation as plain numbers, for the list of parked ones. -/
def QOp.code (o : QOp) : Nat :=
  o.who + 2 ^ 8 * (o.queue + 2 ^ 8 * (o.op + 2 ^ 4 * (o.lane + 2 ^ 3 * (b2n o.any + 2 * (b2n o.block + 2 * o.data)))))

/-- The operation that numbers keep. -/
def QOp.ofCode (n : Nat) : QOp :=
  { who := bits n 0 8, queue := bits n 8 8, op := bits n 16 4, lane := bits n 20 3, any := bit n 23, block := bit n 24,
    data := bits n 25 64 }

/-- Operations parked on queue q, earliest first grant first (R204). -/
def PARKED : Fifo := ⟨3⟩
/-- Operations held at array queue ports without ACK, in order of arrival (R212). -/
def QP_HELD : Fifo := ⟨4⟩
/-- Producers bound to lane 8q + l, by code (R182, R183). -/
def PRODS : Fifo := ⟨5⟩
/-- Declared lanes whose pointers, mark or open-packet state changed in the open epoch (R559). -/
def DIRTY_LANES : Fifo := ⟨6⟩

/-! Lanes. -/

/-- Number of lanes of a queue (R175). -/
def State.lanes (s : State) (q : Nat) : Nat := s.get QM_QCFG.NL q + 1

/-- A pointer of lane x advanced by n, modulo 2S (R177). -/
def State.lanePlus (s : State) (x v n : Nat) : Nat := (v + n) % (2 * s.laneSize x)

/-- The difference of two pointers of lane x, modulo 2S. -/
def State.laneDiff (s : State) (x a b : Nat) : Nat := (a + 2 * s.laneSize x - b) % (2 * s.laneSize x)

/-- R178: occupancy equals S. -/
def State.laneFull (s : State) (x : Nat) : Bool := s.laneOcc x = s.laneSize x

/-- R179: the readable limit. -/
def State.laneLimit (s : State) (x : Nat) : Nat := if s.flag LANE_OPEN x then s.get LANE_HDR x else s.get LANE_W x

/-- R179: RD ≠ L. -/
def State.readable (s : State) (x : Nat) : Bool := s.get LANE_RD x ≠ s.laneLimit x

/-- Store word of slot v mod S of lane x (R174, R177). -/
def State.slotAddr (s : State) (x v : Nat) : Nat := 64 * s.get QM_LCFG.BASE x + v % s.laneSize x

/-- Note a declared lane for the pointer record of the epoch's close (R559). -/
def State.touchLane (s : State) (x : Nat) : State :=
  if s.journaling && (s.declOf 3 x).isSome && !(s.list DIRTY_LANES).contains x then s.enq DIRTY_LANES x else s

/-- Write a store word with its check bits and header flag. -/
def State.putSlot (s : State) (x v word : Nat) (header : Bool) : State :=
  let d := word % 2 ^ 64
  (s.store .queue (s.slotAddr x v) (d + 2 ^ 64 * eccOf d + 2 ^ 72 * b2n header)).journalSlot x v d header

/-- The header flag of a stored word (R173). -/
def slotHeader (w : Nat) : Bool := bit w 72

/-- A pop or peek of the word at RD of lane x (R206, R207): what is found, the header flag, the state after. -/
def State.readSlot (s : State) (x v : Nat) : EccWord × Bool × State :=
  let a := s.slotAddr x v
  let w := s.load .queue a
  let r := eccDecode (w % 2 ^ 64) (w / 2 ^ 64 % 256)
  match r.kind with
  | .clean => (r, slotHeader w, s)
  | .corrected =>
    let t := s.store .queue a (r.data + 2 ^ 64 * r.chk + 2 ^ 72 * b2n (slotHeader w))
    let t := (t.count QM_SECC.CE 1).count BV_ERRSUM.COUNT 1 2
    (r, slotHeader w, if s.flag QM_IRQ.CE then t else (t.put QM_IRQ.CE 1).raise Rc.QM_STORE_CE x)
  | .uncorrectable =>
    let t := ((s.count QM_SECC.UE 1).count BV_ERRSUM.COUNT 1 3).put BV_ALERT.MEM_UE 1
    (r, slotHeader w, (t.put QM_IRQ.UE 1).raise Rc.QM_STORE_UE x a)

/-! Producers (R180, R187, R189 to R195). -/

/-- A length word (Table QM-6). -/
def lengthWord (aborted truncated : Bool) (tag count : Nat) : Nat :=
  2 ^ 63 + 2 ^ 62 * b2n aborted + 2 ^ 61 * b2n truncated + 2 ^ 24 * (tag % 256) + count % 2 ^ 24

/-- R193: the length word into the header slot, and the packet closed. -/
def State.closePacket (s : State) (x word : Nat) : State :=
  (((s.putSlot x (s.get LANE_HDR x) word true).put LANE_OPEN 0 x).put LANE_N 0 x).touchLane x

/-- R189: a refused non-blocking push. -/
def State.overflow (s : State) (x who : Nat) : State :=
  let s := s.count LANE_OVF 1 x
  if s.flag QM_IRQ.OVF then s else (s.put QM_IRQ.OVF 1).raise Rc.QM_OVERFLOW x who

/-- PUSH or OPEN on lane x; none where it parks. -/
def State.qPush (s : State) (o : QOp) (x : Nat) : Option (QRes × State) :=
  let isOpen := s.flag LANE_OPEN x
  let mine := isOpen && s.get LANE_OWNER x = o.who
  let res (st : Nat) : QRes := ⟨st, 0, o.lane⟩
  if o.op = opOPEN && mine then some (res stBAD_OP, s)
  else if isOpen && !mine then (if o.block then none else some (res stBUSY, s))
  else if s.laneFull x then
    if o.op = opPUSH && mine && s.get LANE_HDR x = s.get LANE_REL x then
      let t := s.closePacket x (lengthWord false true 0 (8 * s.get LANE_N x))
      some (res stTRUNCATED, (t.put QM_IRQ.TRUNC 1).raise Rc.QM_TRUNCATED x)
    else if o.block then none
    else some (res stFULL, s.overflow x o.who)
  else
    let w := s.get LANE_W x
    let t := s.putSlot x w (if o.op = opOPEN then 0 else o.data) (o.op = opOPEN)
    let t := if o.op = opOPEN then
        (((t.put LANE_HDR w x).put LANE_OPEN 1 x).put LANE_OWNER o.who x).put LANE_N 0 x
      else if mine then t.put LANE_N (s.get LANE_N x + 1) x else t
    some (res stOK, (t.put LANE_W (s.lanePlus x w 1) x).touchLane x)

/-- CLOSE or ABORT on lane x (R191, R192). -/
def State.qClose (s : State) (o : QOp) (x : Nat) : QRes × State :=
  if !(s.flag LANE_OPEN x && s.get LANE_OWNER x = o.who) then (⟨stNO_PACKET, 0, o.lane⟩, s)
  else
    let n := s.get LANE_N x
    if o.op = opABORT then
      let lw := lengthWord true false 0 (8 * n)
      (⟨stOK, lw, o.lane⟩, s.closePacket x lw)
    else
      let c := bits o.data 0 24
      let good := if n = 0 then c = 0 else 8 * (n - 1) + 1 ≤ c && c ≤ 8 * n
      let lw := lengthWord false (bit o.data 32) (bits o.data 24 8) (if good then c else 8 * n)
      let t := s.closePacket x lw
      if good then (⟨stOK, lw, o.lane⟩, t)
      else (⟨stBADLEN, 0, o.lane⟩, (t.put QM_IRQ.BADLEN 1).raise Rc.QM_BADLEN x)

/-! Consumers (R196 to R202). -/

/-- The lane of slot i of queue q's wheel. -/
def State.wheelLane (s : State) (q i : Nat) : Nat :=
  if i < 10 then bits (s.get QM_WHEEL0.SLOTS q) (3 * i) 3 else bits (s.get QM_WHEEL1.SLOTS q) (3 * (i - 10)) 3

/-- R197: the lane that arbitration chooses among the readable lanes of queue q, and the wheel position after a POP. -/
def State.arbitrate (s : State) (q : Nat) : Option (Nat × Nat) :=
  let n := s.lanes q
  if s.get QM_QCFG.ARB q = 0 then
    ((List.range n).reverse.find? fun l => s.readable (8 * q + l)).map fun l => (l, s.get WHEEL_POS q)
  else
    (List.range 16).findSome? fun i =>
      let k := (s.get WHEEL_POS q + i) % 16
      let l := s.wheelLane q k
      if l < n && s.readable (8 * q + l) then some (l, (k + 1) % 16) else none

/-- The lane an ANY POP or PEEK takes: that of the hold (R198), or the arbitrated one. -/
def State.anyLane (s : State) (q : Nat) : Option (Nat × Nat) :=
  if s.get QHOLD q ≠ 0 then
    let l := s.get QHOLD q - 1
    if s.readable (8 * q + l) then some (l, s.get WHEEL_POS q) else none
  else s.arbitrate q

/-- R198: the hold after a POP of a word. -/
def State.holdAfter (s : State) (o : QOp) (q l : Nat) (header : Bool) (word : Nat) : State :=
  if !o.any then (s.put QHOLD 0 q).put QHOLD_LEFT 0 q
  else if s.get QHOLD q ≠ 0 then
    let left := s.get QHOLD_LEFT q - 1
    if left = 0 then (s.put QHOLD 0 q).put QHOLD_LEFT 0 q else s.put QHOLD_LEFT left q
  else if header && bits word 0 24 ≠ 0 then
    (s.put QHOLD (l + 1) q).put QHOLD_LEFT ((bits word 0 24 + 7) / 8) q
  else s

/-- POP or PEEK; none where it parks. -/
def State.qRead (s : State) (o : QOp) (q : Nat) : Option (QRes × State) :=
  let pick := if o.any then s.anyLane q else if s.readable (8 * q + o.lane) then some (o.lane, s.get WHEEL_POS q) else none
  match pick with
  | none => if o.block then none else some (⟨stEMPTY, 0, o.lane⟩, s)
  | some (l, pos) =>
    let x := 8 * q + l
    if s.secondary && (s.declOf 3 x).isSome then some (⟨stNOT_READY, 0, l⟩, s)
    else
    let rd := s.get LANE_RD x
    let r := s.readSlot x rd
    let st := if r.1.kind = .uncorrectable then stUE else if r.2.1 then stHEADER else stOK
    let t := r.2.2
    if o.op = opPEEK then some (⟨st, r.1.data, l⟩, t)
    else
      let t := t.put LANE_RD (s.lanePlus x rd 1) x
      let t := if s.flag QM_QCFG.MANUAL q then t else t.put LANE_REL (s.lanePlus x (s.get LANE_REL x) 1) x
      let t := if o.any then t.put WHEEL_POS pos q else t
      some (⟨st, r.1.data, l⟩, (t.holdAfter o q l r.2.1 r.1.data).touchLane x)

/-- MARK, REWIND and RELEASE on lane x (R200 to R202). -/
def State.qManual (s : State) (o : QOp) (q l : Nat) : QRes × State :=
  let x := 8 * q + l
  let rd := s.get LANE_RD x
  if o.op = opMARK then (⟨stOK, 0, l⟩, ((s.put LANE_MARK rd x).put LANE_MVALID 1 x).touchLane x)
  else if o.op = opREWIND then
    if s.flag LANE_MVALID x then
      (⟨stOK, s.laneDiff x rd (s.get LANE_MARK x), l⟩,
        (((s.put LANE_RD (s.get LANE_MARK x) x).put QHOLD 0 q).put QHOLD_LEFT 0 q).touchLane x)
    else (⟨stMARK_INVALID, 0, l⟩, s)
  else
    let avail := s.laneDiff x rd (s.get LANE_REL x)
    let n := bits o.data 0 21
    let k := if n = 0 then avail else min n avail
    let t := if s.flag LANE_MVALID x && s.laneDiff x (s.get LANE_MARK x) (s.get LANE_REL x) < k then
        s.put LANE_MVALID 0 x else s
    (⟨stOK, k, l⟩, (t.put LANE_REL (s.lanePlus x (s.get LANE_REL x) k) x).touchLane x)

/-- OCC (Table QM-4). -/
def State.qOcc (s : State) (x l : Nat) : QRes :=
  ⟨stOK, s.laneDiff x (s.laneLimit x) (s.get LANE_RD x) + 2 ^ 32 * s.laneOcc x, l⟩

/-- One operation as the lane arbiter grants it; none where it parks (R187). A declared lane of a SECONDARY is NOT_READY
(R570). -/
def State.qExec (s : State) (o : QOp) : Option (QRes × State) :=
  let q := o.queue
  let x := 8 * q + o.lane
  let shut (l : Nat) : Bool := s.secondary && (s.declOf 3 (8 * q + l)).isSome
  if 9 < o.op then some (⟨stBAD_OP, 0, o.lane⟩, s)
  else if !s.flag QM_QCFG.EN q then some (⟨stNOT_READY, 0, o.lane⟩, s)
  else if o.op = opMARK || o.op = opREWIND || o.op = opRELEASE then
    if !s.flag QM_QCFG.MANUAL q || (o.any && s.get QHOLD q = 0) then some (⟨stBAD_OP, 0, o.lane⟩, s)
    else
      let l := if o.any then s.get QHOLD q - 1 else o.lane
      if s.lanes q ≤ l || shut l then some (⟨stNOT_READY, 0, l⟩, s) else some (s.qManual o q l)
  else if o.op = opPOP || o.op = opPEEK then
    if !o.any && s.lanes q ≤ o.lane then some (⟨stNOT_READY, 0, o.lane⟩, s) else s.qRead o q
  else if o.op = opOCC then
    let l := if o.any then (match s.anyLane q with | some p => p.1 | none => o.lane) else o.lane
    if s.lanes q ≤ l || shut l then some (⟨stNOT_READY, 0, l⟩, s) else some (s.qOcc (8 * q + l) l, s)
  else if s.lanes q ≤ o.lane || shut o.lane then some (⟨stNOT_READY, 0, o.lane⟩, s)
  else if o.op = opPUSH || o.op = opOPEN then s.qPush o x
  else some (s.qClose o x)

/-! Array queue ports. -/

/-- The plot that holds the tiles of array queue port p (R184). -/
def portPlot (p : Nat) : Nat := if p < 32 then p / 4 else 56 + (p - 32) / 4

/-- The result that port p shows with its ACK; RDATA is 0 but for OK, HEADER, UE (R186) and the length word of BADLEN
that Table QM-4 gives with OK only. -/
def State.portDone (s : State) (p : Nat) (r : QRes) : State :=
  (s.put QP_STATE 0 p).emit .toArray [0, p, r.status,
    if r.status = stOK || r.status = stHEADER || r.status = stUE then r.rdata else 0, r.lane]

/-- R188: an operation parked at a port of a plot that is being fenced is cut, once logged for each fence. -/
def State.portCut (s : State) (p lane : Nat) : State :=
  let s := (s.portDone p ⟨stCUT, 0, lane⟩).put QM_IRQ.CUT 1
  if s.flag QP_CUT p then s else (s.put QP_CUT 1 p).raise Rc.QM_PORT_CUT p

/-- The first parked operation of queue q that can complete, with its code, result and state after. -/
def State.firstReady (s : State) (q : Nat) : Option (Nat × QRes × State) :=
  (s.list PARKED q).findSome? fun c => (s.qExec (QOp.ofCode c)).map fun r => (c, r.1, r.2)

/-- R204: parked operations of a queue complete, earliest first grant first, as far as they can. -/
def regrant : Nat → Nat → State → State
  | 0, _, s => s
  | f + 1, q, s =>
    match s.firstReady q with
    | none => s
    | some (c, r, t) => regrant f q ((t.setList PARKED ((s.list PARKED q).erase c) q).portDone (QOp.ofCode c).who r)

/-- Regrant with as much fuel as operations are parked. -/
def State.regrantAll (s : State) (q : Nat) : State := regrant (s.list PARKED q).length q s

/-- One operation of a party that never parks (DMA, Orangery, window): its result, and the state after it and after
what it lets complete. -/
def State.qNow (s : State) (o : QOp) : QRes × State :=
  match s.qExec { o with block := false } with
  | some (r, t) => (r, t.regrantAll o.queue)
  | none => (⟨stNOT_READY, 0, o.lane⟩, s)

/-- Grant an operation of array queue port p (R185, R187, R203). -/
def State.portGrant (s : State) (o : QOp) : State :=
  let p := o.who
  let producer := !s.flag QM_PCFG.ROLE p
  let allowed := if producer then o.op ≤ 3 || o.op = 9 else 4 ≤ o.op && o.op ≤ 9
  if !s.flag QM_PCFG.EN p then s.portDone p ⟨stNOT_READY, 0, o.lane⟩
  else if !allowed then s.portDone p ⟨stBAD_OP, 0, o.lane⟩
  else if producer && !bit (s.get QM_PCFG.LANEMASK p) o.lane then s.portDone p ⟨stNOT_READY, 0, o.lane⟩
  else
    match s.qExec o with
    | some (r, t) => (t.portDone p r).regrantAll o.queue
    | none =>
      if s.get FB_PSTAT.STATE (portPlot p) = pFENCING then s.portCut p o.lane
      else (s.put QP_STATE 2 p).enq PARKED o.code o.queue

/-- An operation offered at array queue port p: held at a closed gate or in HOLD (R117, R212), else granted. A port
with an operation open takes no second one; with no design configured nothing is offered. -/
def State.portOffer (s : State) (p op lane : Nat) (any block : Bool) (data : Nat) : State :=
  let producer := !s.flag QM_PCFG.ROLE p
  let o : QOp := { who := p, queue := s.get QM_PCFG.QUEUE p, op := op, lane := lane, any := any && !producer,
                   block := block, data := data }
  if s.get QP_STATE p ≠ 0 || !(s.mode = mHOLD || s.mode = mRUN) then s
  else if s.mode = mHOLD || pFENCING < s.get FB_PSTAT.STATE (portPlot p) then (s.put QP_STATE 1 p).enq QP_HELD o.code
  else s.portGrant o

/-- R212: operations held at ports whose plot is LIVE reach the arbiter, in order of arrival. -/
def State.portsResume (s : State) : State :=
  let go (c : Nat) : Bool := s.get FB_PSTAT.STATE (portPlot (QOp.ofCode c).who) = pLIVE
  let t := s.setList QP_HELD ((s.list QP_HELD).filter fun c => !go c)
  ((s.list QP_HELD).filter go).foldl (fun u c =>
    let o := QOp.ofCode c
    u.portGrant { o with queue := u.get QM_PCFG.QUEUE o.who }) t

/-- End every operation at an array queue port without ACK (R212, R695). -/
def State.portsDrop (s : State) (p : Nat) : State :=
  let gone (c : Nat) : Bool := (QOp.ofCode c).who = p
  let s := s.setList QP_HELD ((s.list QP_HELD).filter fun c => !gone c)
  let q := s.get QM_PCFG.QUEUE p
  (s.setList PARKED ((s.list PARKED q).filter fun c => !gone c) q).put QP_STATE 0 p

/-- R188: cut what is parked at port p. -/
def State.cutParked (s : State) (p : Nat) : State :=
  let q := s.get QM_PCFG.QUEUE p
  match (s.list PARKED q).find? fun c => (QOp.ofCode c).who = p with
  | none => s
  | some c => (s.setList PARKED ((s.list PARKED q).erase c) q).portCut p (QOp.ofCode c).lane

/-- The ports of a plot (R184). -/
def plotPorts (p : Nat) : List Nat := (List.range 64).filter fun i => portPlot i = p

/-- PUSH (R180, R187, R189, R194, R195) at array queue port p. -/
def execPush (p : Fin 64) (lane : BitVec 3) (block : Bool) (data : BitVec 64) (s : State) : Out :=
  live s fun s => s.portOffer p opPUSH lane.toNat false block data.toNat

/-- OPEN (R190). -/
def execQmOpen (p : Fin 64) (lane : BitVec 3) (block : Bool) (s : State) : Out :=
  live s fun s => s.portOffer p opOPEN lane.toNat false block 0

/-- CLOSE (R191, R193). -/
def execClose (p : Fin 64) (lane : BitVec 3) (data : BitVec 64) (s : State) : Out :=
  live s fun s => s.portOffer p opCLOSE lane.toNat false false data.toNat

/-- ABORT (R192). -/
def execQmAbort (p : Fin 64) (lane : BitVec 3) (s : State) : Out :=
  live s fun s => s.portOffer p opABORT lane.toNat false false 0

/-- POP (R180, R196 to R198). -/
def execPop (p : Fin 64) (lane : BitVec 3) (any block : Bool) (s : State) : Out :=
  live s fun s => s.portOffer p opPOP lane.toNat any block 0

/-- PEEK (R199). -/
def execPeek (p : Fin 64) (lane : BitVec 3) (any block : Bool) (s : State) : Out :=
  live s fun s => s.portOffer p opPEEK lane.toNat any block 0

/-- MARK (R200, R201). -/
def execMark (p : Fin 64) (lane : BitVec 3) (any : Bool) (s : State) : Out :=
  live s fun s => s.portOffer p opMARK lane.toNat any false 0

/-- REWIND (R200, R201). -/
def execRewind (p : Fin 64) (lane : BitVec 3) (any : Bool) (s : State) : Out :=
  live s fun s => s.portOffer p opREWIND lane.toNat any false 0

/-- RELEASE of words (R202). -/
def execQmRelease (p : Fin 64) (lane : BitVec 3) (any : Bool) (count : BitVec 21) (s : State) : Out :=
  live s fun s => s.portOffer p opRELEASE lane.toNat any false count.toNat

/-- OCC (R185). -/
def execOcc (p : Fin 64) (lane : BitVec 3) (any : Bool) (s : State) : Out :=
  live s fun s => s.portOffer p opOCC lane.toNat any false 0

/-- PARKED_OP_REGRANT (R204): the arbiter grants again what is parked on queue q. -/
def execParkedOpRegrant (q : Fin 256) (s : State) : Out := live s fun s => s.regrantAll q

/-! Binding (R182, R183). -/

/-- Table QM-2 for a producer of the lanes in a mask. -/
def State.producerCheck (s : State) (who q mask : Nat) : Option (Rc × Nat) :=
  let ls := (List.range 8).filter fun l => bit mask l
  if s.mode ≠ mHOLD && s.mode ≠ mRUN then some (Rc.QM_WRONG_MODE, s.mode)
  else if !s.flag QM_QCFG.EN q then some (Rc.QM_QUEUE_OFF, q)
  else
    match ls.find? fun l => s.lanes q ≤ l with
    | some l => some (Rc.QM_LANE_MASK, 8 * q + l)
    | none =>
      (ls.find? fun l => !s.flag QM_LCFG.MULTI (8 * q + l) && (s.list PRODS (8 * q + l)).any fun w => w ≠ who).map
        fun l => (Rc.QM_SHARED_PRODUCER, 8 * q + l)

/-- Table QM-2 for a consumer of queue q. -/
def State.consumerCheck (s : State) (who q : Nat) : Option (Rc × Nat) :=
  if s.mode ≠ mHOLD && s.mode ≠ mRUN then some (Rc.QM_WRONG_MODE, s.mode)
  else if !s.flag QM_QCFG.EN q then some (Rc.QM_QUEUE_OFF, q)
  else if s.get QCONS q ≠ 0 && s.get QCONS q ≠ 256 + who then some (Rc.QM_SHARED_CONSUMER, q)
  else none

/-- Bind a producer to the lanes of a mask. -/
def State.bindProducer (s : State) (who q mask : Nat) : State :=
  (List.range 8).foldl (fun u l =>
    if bit mask l && !(u.list PRODS (8 * q + l)).contains who then u.enq PRODS who (8 * q + l) else u) s

/-- Bind a consumer. -/
def State.bindConsumer (s : State) (who q : Nat) : State := s.put QCONS (256 + who) q

/-- Unbind a producer from queue q. -/
def State.unbindProducer (s : State) (who q : Nat) : State :=
  (List.range 8).foldl (fun u l => u.setList PRODS ((u.list PRODS (8 * q + l)).erase who) (8 * q + l)) s

/-- Unbind a consumer from queue q. -/
def State.unbindConsumer (s : State) (who q : Nat) : State := if s.get QCONS q = 256 + who then s.put QCONS 0 q else s

/-- R210: any producer or consumer is bound to queue q. -/
def State.queueBound (s : State) (q : Nat) : Bool :=
  s.get QCONS q ≠ 0 || (List.range 8).any fun l => !(s.list PRODS (8 * q + l)).isEmpty

/-- The effect of a word written to QM_PCFG[p] (R182): ROLE, QUEUE and LANEMASK are taken when the enable is set. -/
def wrPcfg (m : Master) (p w : Nat) (s : State) : State :=
  let was := s.flag QM_PCFG.EN p
  let off := 0x10400 + 4 * p
  if was && bit w 0 then s
  else if was then
    let q := s.get QM_PCFG.QUEUE p
    let s := if s.get QP_STATE p = 2 then
        (s.setList PARKED ((s.list PARKED q).filter fun c => (QOp.ofCode c).who ≠ p) q).portDone p ⟨stNOT_READY, 0, 0⟩
      else s
    let s := if s.flag QM_PCFG.ROLE p then s.unbindConsumer p q else s.unbindProducer p q
    (s.writeReg m QM_PCFG.reg p w).regrantAll q
  else
    let s := s.writeReg m QM_PCFG.reg p w
    if !bit w 0 then s
    else
      let q := s.get QM_PCFG.QUEUE p
      let mask := s.get QM_PCFG.LANEMASK p
      match if s.flag QM_PCFG.ROLE p then s.consumerCheck p q else s.producerCheck p q mask with
      | some (c, obj) => (s.put QM_PCFG.EN 0 p).refuse c obj m off
      | none => if s.flag QM_PCFG.ROLE p then s.bindConsumer p q else s.bindProducer p q mask

/-- The code of register window i (Table QM-1). -/
def windowCode (i : Nat) : Nat := 192 + i

/-- The effect of a word written to QM_RWSEL[i] (R213): each enable that is set is checked on its own. QUEUE and LANE
stay as bound while an enable stays set. -/
def wrRwsel (m : Master) (i w : Nat) (s : State) : State :=
  let off := 0x10100 + 0x20 * i
  let who := windowCode i
  let wasP := s.flag QM_RWSEL.PUSH_EN i
  let wasC := s.flag QM_RWSEL.POP_EN i
  let q0 := s.get QM_RWSEL.QUEUE i
  let kept := (wasP && bit w 12) || (wasC && bit w 13)
  let s := if wasP && !bit w 12 then (s.unbindProducer who q0).put QM_RWSEL.PUSH_EN 0 i else s
  let s := if wasC && !bit w 13 then (s.unbindConsumer who q0).put QM_RWSEL.POP_EN 0 i else s
  let s := s.put QM_RWSEL.ANY (bits w 11 1) i
  let s := if kept then s else (s.put QM_RWSEL.QUEUE (bits w 0 8) i).put QM_RWSEL.LANE (bits w 8 3) i
  let q := s.get QM_RWSEL.QUEUE i
  let mask := 2 ^ s.get QM_RWSEL.LANE i
  let s := if bit w 12 && !wasP then
      match s.producerCheck who q mask with
      | some (c, obj) => s.refuse c obj m off
      | none => (s.bindProducer who q mask).put QM_RWSEL.PUSH_EN 1 i
    else s
  if bit w 13 && !wasC then
    match s.consumerCheck who q with
    | some (c, obj) => s.refuse c obj m off
    | none => (s.bindConsumer who q).put QM_RWSEL.POP_EN 1 i
  else s

/-- PORT_BIND (R182): a write to QM_PCFG[p] or QM_RWSEL[i]. -/
def execPortBind (m : Master) (t : BindTarget) (w : Word) (s : State) : Out :=
  live s fun s =>
    match t with
    | .port p => s.onWrite m (0x10400 + 4 * p) w.toNat (wrPcfg m p w.toNat)
    | .window i => s.onWrite m (0x10100 + 0x20 * i) w.toNat (wrRwsel m i w.toNat)

/-! Configuring queues (R209 to R211). -/

/-- First and last-plus-one store word of a lane (R174). -/
def State.laneSpan (s : State) (x : Nat) : Nat × Nat :=
  (64 * s.get QM_LCFG.BASE x, 64 * s.get QM_LCFG.BASE x + s.laneSize x)

/-- The lanes of the enabled queues. -/
def State.enabledLanes (s : State) : List Nat :=
  (List.range 256).flatMap fun q => if s.flag QM_QCFG.EN q then (List.range (s.lanes q)).map fun l => 8 * q + l else []

/-- Table QM-7 for queue q; its EN is not yet set in `s`. -/
def State.queueCheck (s : State) (q : Nat) : Option (Rc × Nat) :=
  let mine := (List.range (s.lanes q)).map fun l => 8 * q + l
  let all := mine ++ s.enabledLanes
  let meets (x y : Nat) : Bool := x ≠ y && (s.laneSpan x).1 < (s.laneSpan y).2 && (s.laneSpan y).1 < (s.laneSpan x).2
  if s.mode ≠ mHOLD && s.mode ≠ mRUN then some (Rc.QM_WRONG_MODE, s.mode)
  else
    match mine.findSome? fun x =>
        if s.get QM_LCFG.BASE x % 2 ^ s.get QM_LCFG.SIZE x ≠ 0 then some (Rc.QM_LANE_ALIGN, x)
        else if all.any (meets x) then some (Rc.QM_LANE_OVERLAP, x)
        else if s.flag QM_CTL.JRES && 0xE0000 < (s.laneSpan x).2 then some (Rc.QM_JOURNAL_AREA, x)
        else none with
    | some r => some r
    | none =>
      if s.flag QM_QCFG.ARB q && (List.range 16).any fun i => s.lanes q ≤ s.wheelLane q i then some (Rc.QM_WHEEL, q)
      else none

/-- R177, R210: pointers, marks, packets and holds of a queue's lanes at 0. -/
def State.queueClear (s : State) (q : Nat) : State :=
  let s := (List.range 8).foldl (fun u l =>
    let x := 8 * q + l
    ((((((((u.put LANE_W 0 x).put LANE_RD 0 x).put LANE_REL 0 x).put LANE_MARK 0 x).put LANE_MVALID 0 x).put LANE_OPEN 0
      x).put LANE_HDR 0 x).put LANE_OWNER 0 x).put LANE_N 0 x) s
  ((s.put WHEEL_POS 0 q).put QHOLD 0 q).put QHOLD_LEFT 0 q

/-- The effect of a word written to QM_QCFG[q] (R209, R210). -/
def wrQcfg (m : Master) (q w : Nat) (s : State) : State :=
  let off := 0x11000 + 4 * q
  if s.flag QM_QCFG.EN q then
    let held := s.get QM_QCFG.NL q + 8 * s.get QM_QCFG.ARB q + 16 * s.get QM_QCFG.MANUAL q
    let s := if bits w 1 5 ≠ held then s.raise Rc.QM_QUEUE_ON q else s
    if bit w 0 then s
    else if s.queueBound q then s.refuse Rc.QM_QUEUE_BOUND q m off
    else (s.queueClear q).put QM_QCFG.EN 0 q
  else
    let s := (s.writeReg m QM_QCFG.reg q w).put QM_QCFG.EN 0 q
    if !bit w 0 then s
    else
      match s.queueCheck q with
      | some (c, obj) => s.refuse c obj m off
      | none => (s.queueClear q).put QM_QCFG.EN 1 q

/-- The effect of a word written to a lane configuration or a wheel word (register r, element i) of queue q (R210). -/
def wrQueueCfg (m : Master) (r : Reg) (q i w : Nat) (s : State) : State :=
  if s.flag QM_QCFG.EN q then s.raise Rc.QM_QUEUE_ON q else s.writeReg m r i w

/-- QUEUE_ENABLE (R209, R210): a write to QM_QCFG[q]. -/
def execQueueEnable (m : Master) (q : Fin 256) (w : Word) (s : State) : Out :=
  live s fun s => s.onWrite m (0x11000 + 4 * q) w.toNat (wrQcfg m q w.toNat)

/-- The effect of a word written to QM_CTL (R176, R211). -/
def wrQmCtl (m : Master) (w : Nat) (s : State) : State :=
  if bit w 0 && !s.flag QM_CTL.JRES then
    match s.enabledLanes.find? fun x => 0xE0000 < (s.laneSpan x).2 with
    | some x => s.refuse Rc.QM_JOURNAL_AREA x m 0x10000
    | none => s.put QM_CTL.JRES 1
  else s.put QM_CTL.JRES (bits w 0 1)

/-- JRES (R211): a write to QM_CTL. -/
def execJres (m : Master) (w : Word) (s : State) : Out :=
  live s fun s => s.onWrite m 0x10000 w.toNat (wrQmCtl m w.toNat)

/-! Register windows (R213, R214). -/

/-- One window operation: its result, with the window's status register after it. -/
def State.windowOp (s : State) (i op data : Nat) : QRes × State :=
  let lane := s.get QM_RWSEL.LANE i
  let prod := op ≤ 3
  let known := op ≤ 4 || (6 ≤ op && op ≤ 8)
  let r : QRes × State :=
    if !known then (⟨stBAD_OP, 0, lane⟩, s)
    else if !(if prod then s.flag QM_RWSEL.PUSH_EN i else s.flag QM_RWSEL.POP_EN i) then (⟨stNOT_READY, 0, lane⟩, s)
    else s.qNow { who := windowCode i, queue := s.get QM_RWSEL.QUEUE i, op := op, lane := lane,
                  any := s.flag QM_RWSEL.ANY i && !prod, block := false, data := data }
  let result := if (op = opCLOSE || op = opREWIND || op = opRELEASE) && r.1.status = stOK then bits r.1.rdata 0 25 else 0
  (r.1, ((r.2.put QM_RWSTAT.STATUS r.1.status i).put QM_RWSTAT.LANE r.1.lane i).put QM_RWSTAT.RESULT result i)

/-- The effect of a word written to QM_RWPUSH_HI[i]: the push of R214. -/
def wrRwPushHi (m : Master) (i w : Nat) (s : State) : State :=
  let lo := 0x10104 + 0x20 * i
  let low := (s.heldLow m lo).getD 0
  ((s.dropHold m lo).windowOp i opPUSH (low + 2 ^ 32 * (w % 2 ^ 32))).2

/-- The effect of a word written to QM_RWCMD[i] (R214). -/
def wrRwCmd (_m : Master) (i w : Nat) (s : State) : State :=
  let op := bits w 0 4
  let arg := bits w 8 24
  let ok := op = 1 || op = 2 || op = 3 || op = 6 || op = 7 || op = 8
  let data := if op = opCLOSE then bits arg 0 16 + 2 ^ 24 * bits arg 16 8 + 2 ^ 32 * bits w 4 1 else arg
  (s.windowOp i (if ok then op else 15) data).2

/-- A read of QM_RWPOP_LO[i]: the pop, or the head for a peek read; the high half is latched (R23, R214). -/
def rdRwPopLo (m : Master) (i : Nat) (s : State) : Nat × State :=
  let lo := 0x1010C + 0x20 * i
  let shown (r : QRes) : Nat := if r.status = stOK || r.status = stHEADER || r.status = stUE then r.rdata else 0
  if s.peeks m then
    let r := if s.flag QM_RWSEL.POP_EN i then
        (s.qNow { who := windowCode i, queue := s.get QM_RWSEL.QUEUE i, op := opPEEK, lane := s.get QM_RWSEL.LANE i,
                  any := s.flag QM_RWSEL.ANY i, block := false, data := 0 }).1
      else ⟨stNOT_READY, 0, 0⟩
    (shown r % 2 ^ 32, s.latchHigh m lo (shown r / 2 ^ 32))
  else
    let r := s.windowOp i opPOP 0
    (shown r.1 % 2 ^ 32, r.2.latchHigh m lo (shown r.1 / 2 ^ 32))

/-- WINDOW_PUSH (R214). -/
def execWindowPush (m : Master) (i : Fin 8) (w : Word) (s : State) : Out :=
  live s fun s => s.onWrite m (0x10108 + 0x20 * i) w.toNat (wrRwPushHi m i w.toNat)

/-- WINDOW_POP (R214): the word read goes to the reader. -/
def execWindowPop (m : Master) (i : Fin 8) (s : State) : Out :=
  live s fun s =>
    let r := s.onRead m (0x1010C + 0x20 * i) (rdRwPopLo m i)
    r.2.emit .busData [m.code, r.1]

/-! Scrubbing and inspection. -/

/-- STORE_SCRUB_ACCESS (R208, R750): the next store word. -/
def execStoreScrubAccess (s : State) : Out :=
  live s fun s =>
    if s.mode = mHOLD || s.mode = mRUN then
      let a := s.get SSCRUB_AT
      let w := s.load .queue a
      let r := eccDecode (w % 2 ^ 64) (w / 2 ^ 64 % 256)
      let s := s.put SSCRUB_AT ((a + 1) % 2 ^ 20)
      match r.kind with
      | .clean => s
      | .corrected =>
        ((s.store .queue a (r.data + 2 ^ 64 * r.chk + 2 ^ 72 * b2n (slotHeader w))).count QM_SECC.CE 1).count
          BV_ERRSUM.COUNT 1 2
      | .uncorrectable =>
        let lane := (s.enabledLanes.find? fun x => (s.laneSpan x).1 ≤ a && a < (s.laneSpan x).2).getD 2048
        (((s.count QM_SECC.UE 1).count BV_ERRSUM.COUNT 1 3).put BV_ALERT.MEM_UE 1).raise Rc.QM_STORE_UE lane a
    else s

/-- What a read of an inspection register of the selected lane returns (R205, R216), by offset. -/
def State.laneWord (s : State) (off : Nat) : Nat :=
  let x := s.get QM_LSEL.LANE
  match off with
  | 0x10014 => s.get LANE_W x
  | 0x10018 => s.get LANE_RD x
  | 0x1001C => s.get LANE_REL x
  | 0x10020 => s.get LANE_MARK x + 2 ^ 31 * s.get LANE_MVALID x
  | 0x10024 =>
    if s.flag LANE_OPEN x then s.get LANE_HDR x + 2 ^ 21 + 2 ^ 24 * s.get LANE_OWNER x else 0
  | _ => s.get LANE_OVF x

/-- QM_LOCC of lane x. -/
def State.laneOccWord (s : State) (x : Nat) : Nat :=
  let on := s.flag QM_QCFG.EN (x / 8) && x % 8 < s.lanes (x / 8)
  if on then s.laneOcc x + 2 ^ 21 * b2n (s.laneFull x) + 2 ^ 22 * s.get LANE_OPEN x else 0

/-- The effect of a word written to QM_LOVF: the selected lane's count (Table access W1C). -/
def wrLovf (w : Nat) (s : State) : State := if w % 2 ^ 32 = 0 then s else s.put LANE_OVF 0 (s.get QM_LSEL.LANE)

end Sys2Proof.Machine
end

