-- ==== Sys2Proof/Machine/Plots.lean ====
section
/-! DEFINITION. spec/03: plots, their fences and hedges, event lines and user interrupts. -/

namespace Sys2Proof.Machine

/-- Fence holders (FB_PSTAT.HOLDER). -/
def hNONE : Nat := 0
def hUSER : Nat := 1
def hGATEHOUSE : Nat := 2
def hBELVEDERE : Nat := 3
def hDORMANT : Nat := 4

/-- Put a plot into a state under a holder; PW_MODE.FENCED_ANY follows (R116). -/
def State.setPlot (s : State) (p st holder : Nat) : State :=
  let s := (s.put FB_PSTAT.STATE st p).put FB_PSTAT.HOLDER holder p
  s.put PW_MODE.FENCED_ANY (b2n ((List.range 64).any fun q => s.get FB_PSTAT.STATE q ≠ pLIVE))

/-- FB_PSTAT.HOLDING follows the held requests. -/
def State.showHolding (s : State) (p : Nat) : State :=
  s.put FB_PSTAT.HOLDING (b2n (s.get GATE_HELD p + s.get GATE_SINK p ≠ 0)) p

/-- R111: the user interrupt lines driven from a plot follow their tiles again. -/
def State.uiFollow (s : State) (p : Nat) : State :=
  (List.range 16).foldl (fun u k =>
    let w := u.get UI_WANT k
    if bit w 7 && bits w 1 6 = p then u.put UI_LINE (bits w 0 1) k else u) s

/-- R117, R188: a LIVE plot becomes FENCING; FORCE is sampled; what is parked at its queue ports is cut. -/
def State.fence (s : State) (p holder : Nat) (force : Bool) (by_ : Nat) : State :=
  let s := ((s.setPlot p pFENCING holder).put FENCE_FORCE (b2n force) p).put FENCE_BY by_ p
  let s := (plotPorts p).foldl (fun u i => u.put QP_CUT 0 i) s
  (plotPorts p).foldl (fun u i => u.cutParked i) s

/-- R121: a plot becomes LIVE, and every gate passes its held request first. -/
def State.unfence (s : State) (p : Nat) : State :=
  let s := ((s.setPlot p pLIVE hNONE).put GATE_HELD 0 p).put GATE_SINK 0 p
  ((s.showHolding p).uiFollow p).portsResume

/-- R118, R120: a FENCING plot becomes FENCED; requests that met SINK 1 are acknowledged and dropped. -/
def State.fenced (s : State) (p : Nat) : State :=
  let h := s.get FB_PSTAT.HOLDER p
  let s := (((s.setPlot p pFENCED h).raise Rc.FB_FENCED p h).put FB_IRQ.DONE 1).count FB_PCNT.SINKED (s.get GATE_SINK p) p
  (s.put GATE_SINK 0 p).showHolding p

/-- R119 with FORCE 1: open handshakes are discarded and counted; then the plot is FENCED. -/
def State.forced (s : State) (p discarded : Nat) : State :=
  let s := (s.count FB_PCNT.DISCARD discarded p).macDiscard p
  let s := (plotPorts p).foldl (fun u i => if u.get QP_STATE i = 1 then u.portsDrop i else u) s
  (s.raise Rc.FB_FORCED p discarded).fenced p

/-- Table FB-5, R124 and R168: the first check that refuses a plot command (1 FENCE, 2 RELEASE). -/
def State.plotCheck (s : State) (p cmd : Nat) : Option (Rc × Nat) :=
  let st := s.get FB_PSTAT.STATE p
  if s.mode ≠ mHOLD && s.mode ≠ mRUN then some (Rc.FB_WRONG_MODE, s.mode)
  else if st = pFENCING || st = pWRITING || st = pSTAGING then some (Rc.FB_PLOT_BUSY, p)
  else if cmd = 2 && s.flag FB_PSTAT.REPAIR p then some (Rc.FB_PLOT_BUSY, p)
  else if cmd = 1 && st = pFENCED then some (Rc.FB_WRONG_STATE, p)
  else if cmd = 2 && st = pLIVE then some (Rc.FB_WRONG_STATE, p)
  else if cmd = 2 && s.get FB_PSTAT.HOLDER p ≠ hUSER then some (Rc.FB_PLOT_HELD, p)
  else if cmd = 2 then s.plotBlocksCheck p
  else none

/-- The effect of a word written to FB_PCTL[p] (R117, R121, R123). -/
def wrPctl (m : Master) (p w : Nat) (s : State) : State :=
  let s := s.writeReg m FB_PCTL.reg p w
  let cmd := bits w 0 2
  if cmd = 1 || cmd = 2 then
    match s.plotCheck p cmd with
    | some (c, obj) => s.refuse c obj m (0x41000 + 0x10 * p)
    | none =>
      if cmd = 1 then s.fence p hUSER (s.flag FB_PCTL.FORCE p) m.code
      else ((s.unfence p).raise Rc.FB_RELEASED p).put FB_IRQ.DONE 1
  else s

/-- FENCE (R117, R123): a write to FB_PCTL[p] with CMD 1. -/
def execFence (m : Master) (p : Fin 64) (w : Word) (s : State) : Out :=
  let v := w.toNat - bits w.toNat 0 2 + 1
  live s fun s => s.onWrite m (0x41000 + 0x10 * p) v (wrPctl m p v)

/-- RELEASE (R121, R123, R168): a write to FB_PCTL[p] with CMD 2. -/
def execRelease (m : Master) (p : Fin 64) (w : Word) (s : State) : Out :=
  let v := w.toNat - bits w.toNat 0 2 + 2
  live s fun s => s.onWrite m (0x41000 + 0x10 * p) v (wrPctl m p v)

/-- GATE_INBOUND_REQUEST (R117, R120, R127): a request at a gate of plot p; `started` when the gate's mutex granted it
before the closure. -/
def execGateInboundRequest (p : Fin 64) (started : Bool) (s : State) : Out :=
  live s fun s =>
    let st := s.get FB_PSTAT.STATE p
    if s.mode ≠ mRUN then s
    else if st = pLIVE || (st = pFENCING && started) then (s.put STALLED 0 p).emit .toArray [3, p]
    else if !s.flag FB_PCTL.SINK p then (s.put GATE_HELD (s.get GATE_HELD p + 1) p).showHolding p
    else if st = pFENCING then (s.put GATE_SINK (s.get GATE_SINK p + 1) p).showHolding p
    else s.count FB_PCNT.SINKED 1 p

/-- What a violation at a gate leaves (R125, R126). -/
def State.gateError (s : State) (c : Rc) (f : Field) (p wire : Nat) (avenue inbound : Bool) (side : Nat) : State :=
  let s := (s.count f 1 p).put FB_PSTAT.ERR 1 p
  (s.raise c p (wire + 64 * b2n avenue + 128 * b2n inbound + 256 * side)).put FB_IRQ.HEDGE_ERR 1

/-- HEDGE_PROTOCOL_VIOLATION (R125). -/
def execHedgeProtocolViolation (p : Fin 64) (wire : BitVec 6) (avenue inbound : Bool) (side : BitVec 2) (s : State) :
    Out :=
  live s fun s =>
    if s.mode = mRUN then s.gateError Rc.FB_HEDGE_PROTO FB_PERR.PROTO p wire.toNat avenue inbound side.toNat else s

/-- DR_ILLEGAL_CODE (R126). -/
def execDrIllegalCode (p : Fin 64) (wire : BitVec 6) (avenue inbound : Bool) (side : BitVec 2) (s : State) : Out :=
  live s fun s =>
    if s.mode = mRUN then s.gateError Rc.FB_DR_ILLEGAL FB_PERR.ILLEGAL p wire.toNat avenue inbound side.toNat else s

/-- STALL_DETECTED (R127): not quiet and no handshake completed for STALL_T; once for each onset. -/
def execStallDetected (p : Fin 64) (s : State) : Out :=
  live s fun s =>
    if s.mode = mRUN && s.get FB_PSTAT.STATE p = pLIVE && s.flag FB_PCTL.STALL_EN p && !s.flag STALLED p then
      (((s.put FB_PSTAT.QUIET 0 p).put STALLED 1 p).raise Rc.FB_STALL p).put FB_IRQ.STALL 1
    else s

/-- A token for event line l (R109, R110). -/
def State.eventToken (s : State) (l : Nat) : State :=
  if s.get EL_PEND l = 255 then
    let f := if l < 32 then FB_ELOVR_LO.OVR else FB_ELOVR_HI.OVR
    let first := !bit (s.get f) (l % 32)
    let s := (s.orBit f (l % 32)).put FB_IRQ.EL_OVR 1
    if first then s.raise Rc.FB_EL_OVERRUN l else s
  else s.put EL_PEND (s.get EL_PEND l + 1) l

/-- EVENT_LINE_TOKEN (R108 to R110). (DEDUCED, log entry 36.) -/
def execEventLineToken (l : Fin 64) (s : State) : Out :=
  live s fun s => if s.mode = mRUN || s.mode = mHOLD then s.eventToken l else s

/-- EVENT_LINE_DELIVER (R109): every tap in a LIVE plot has acknowledged the token in delivery. -/
def execEventLineDeliver (l : Fin 64) (s : State) : Out :=
  live s fun s =>
    if s.get EL_PEND l = 0 || !(s.mode = mRUN || s.mode = mHOLD) then s
    else (s.put EL_PEND (s.get EL_PEND l - 1) l).emit .toArray [4, l]

/-- UI_LINE_CHANGE (R111): the cell output of the one driving tile, which lies in plot p, has changed; the line holds
its level while that plot is not LIVE. -/
def execUiLineChange (k : Fin 16) (p : Fin 64) (high : Bool) (s : State) : Out :=
  live s fun s =>
    if s.mode = mRUN then
      let s := s.put UI_WANT (b2n high + 2 * p + 128) k
      if s.get FB_PSTAT.STATE p = pLIVE then s.put UI_LINE (b2n high) k else s
    else s

end Sys2Proof.Machine
end

