-- ==== Sys2Proof/Machine/Clocks.lean ====
section
/-! DEFINITION. spec/06: reference inputs, synthesisers, output stages, the frequency meter. SYN0 belongs to the
Bandstand, whose file adds what it does. -/

namespace Sys2Proof.Machine

/-- CK_SYNSTAT.STATE codes. -/
def ckOFF : Nat := 0
def ckACQUIRE : Nat := 1
def ckLOCKED : Nat := 2
def ckHOLDOVER : Nat := 3
def ckFAULT : Nat := 4

/-- CK_OSTAT.PHASE codes. -/
def phSTEADY : Nat := 0
def phHOLDING : Nat := 1
def phGATED : Nat := 2
def phSLEWING : Nat := 3

/-- Frequency in Hz of the reference with a code (Tables CK-1, CK-2, R225; XO_A as the card states it in BS_XOFREQ,
R278; the FABRIC reference as R542 divides it). -/
def State.refHz (s : State) (c : Nat) : Nat :=
  match c with
  | 0 => 100000000 | 1 => 10000000 | 2 => 1000 * s.get BS_XOFREQ.XO_KHZ | 3 => 100000000 | 4 => 80000000 | _ => 0

/-- Whether SYN0 is LOCKED or in HOLDOVER: the timer pace and TB80 run (R275). -/
def State.paceOn (s : State) : Bool := s.get CK_SYNSTAT.STATE 0 = ckLOCKED || s.get CK_SYNSTAT.STATE 0 = ckHOLDOVER

/-- R219, R225: whether the reference with a code is PRESENT. -/
def State.refPresent (s : State) (c : Nat) : Bool := if c = 4 then s.paceOn else bit (s.get CK_REFSTAT.PRESENT) c

/-- Whether a code names an input with a loss-of-signal detector (Table CK-1). -/
def refInput (c : Nat) : Bool := c ≤ 3 || (8 ≤ c && c ≤ 12)

/-- REF_LOSS (R219): one LOS window without an edge. -/
def execRefLoss (c : Fin 13) (s : State) : Out :=
  live s fun s =>
    if refInput c && bit (s.get CK_REFSTAT.PRESENT) c then
      ((((s.andBit CK_REFSTAT.PRESENT c).orBit CK_REFLOS.LOST c).orBit REF_WAS_LOST c).put CK_IRQ.REF_LOS 1).raise
        Rc.CK_REF_LOSS c
    else s

/-- REF_RESTORED (R219): edges in every LOS window for 1 ms; a return to PRESENT is logged. -/
def execRefRestored (c : Fin 13) (s : State) : Out :=
  live s fun s =>
    if refInput c && !bit (s.get CK_REFSTAT.PRESENT) c then
      let t := s.orBit CK_REFSTAT.PRESENT c
      if bit (s.get REF_WAS_LOST) c then (t.andBit REF_WAS_LOST c).raise Rc.CK_REF_RESTORED c else t
    else s

/-! The control clock. -/

/-- R222: SYN1 leaves LOCKED; a CTL_CLK that runs from it falls back. -/
def State.ctlFallback (s : State) : State :=
  if s.flag CK_CTL.CTL_ACT then
    (((s.put CK_CTL.CTL_SEL 0).put CK_CTL.CTL_ACT 0).put CK_IRQ.CTL_FB 1).raise Rc.CK_CTL_FALLBACK 0
  else s

/-- The effect of a word written to CK_CTL (R221): CTL_ACT follows within the command. -/
def wrCkCtl (m : Master) (w : Nat) (s : State) : State :=
  if bit w 0 && !s.flag CK_CTL.CTL_SEL then
    if s.get CK_SYNSTAT.STATE 1 = ckLOCKED then (s.put CK_CTL.CTL_SEL 1).put CK_CTL.CTL_ACT 1
    else s.refuse Rc.CK_REF_ABSENT 1 m 0x4000
  else if bit w 0 then s
  else (s.put CK_CTL.CTL_SEL 0).put CK_CTL.CTL_ACT 0

/-- CTL_SEL (R221): a write to CK_CTL. -/
def execCtlSel (m : Master) (w : Word) (s : State) : Out :=
  live s fun s => s.onWrite m 0x4000 w.toNat (wrCkCtl m w.toNat)

/-! Synthesisers. -/

/-- The values a synthesiser is judged and run on (R223). -/
structure SynVals where
  ref : Nat
  r : Nat
  n : Nat
  f : Nat
  m : Nat
  d : Nat
  deriving DecidableEq, Repr

/-- The values in the registers, as GO samples them (R227). -/
def State.synRegs (s : State) (k : Nat) : SynVals :=
  { ref := s.get CK_SYNCFGA.REFSEL k, r := s.get CK_SYNCFGA.RDIV k + 1, n := s.get CK_SYNCFGA.N k,
    f := s.get CK_SYNFRAC.F k, m := s.get CK_SYNMOD.M k, d := s.get CK_SYNCFGA.D k }

/-- The values sampled by the last GO. -/
def State.synVals (s : State) (k : Nat) : SynVals :=
  { ref := s.get SYN_REFSEL k, r := s.get SYN_RDIV k + 1, n := s.get SYN_N k, f := s.get SYN_F k, m := s.get SYN_M k,
    d := s.get SYN_D k }

/-- f_vco as a fraction: numerator and denominator in Hz (R223; F = 0 ignores M). -/
def SynVals.vco (v : SynVals) (hz : Nat) : Nat × Nat :=
  if v.f = 0 then (hz * v.n, v.r) else (hz * (v.n * v.m + v.f), v.r * v.m)

/-- f_out in units of 10^-9 Hz. -/
def SynVals.out (v : SynVals) (hz : Nat) : Nat := (v.vco hz).1 * 10 ^ 9 / ((v.vco hz).2 * v.d)

/-- Table CK-3, from the REFSEL row on, for SYN1 to SYN5. -/
def State.synRange (s : State) (k : Nat) (v : SynVals) : Option Rc :=
  let hz := s.refHz v.ref
  let p := v.vco hz
  if 4 < v.ref then some Rc.CK_REF_SEL
  else if hz < 10000000 * v.r || 100000000 * v.r < hz then some Rc.CK_PFD_RANGE
  else if v.n < 32 || 640 < v.n || (v.f ≠ 0 && (v.m < 2 || v.m ≤ v.f)) || v.d < 2 || 6400 < v.d then
    some Rc.CK_DIV_RANGE
  else if p.1 < 3200000000 * p.2 || 6400000000 * p.2 < p.1 then some Rc.CK_VCO_RANGE
  else if (if k = 1 then p.1 < 249975000 * p.2 * v.d || 250025000 * p.2 * v.d < p.1
      else p.1 < 1000000 * p.2 * v.d || 1600000000 * p.2 * v.d < p.1) then some Rc.CK_OUT_RANGE
  else if !s.refPresent v.ref then some Rc.CK_REF_ABSENT
  else none

/-- Table CK-3: an enabled consumer of metronome clock k (R238), or CTL_CLK for SYN1. -/
def State.synUsed (s : State) (k : Nat) : Bool :=
  if k = 1 then s.flag CK_CTL.CTL_ACT
  else
    ((List.range 256).any fun x => s.get XP_STAT.STATE x ≠ 0 && s.get XP_CFG.CLK x = k) ||
      (List.range 12).any fun g => s.flag IO_SERCFG.EN g && s.get IO_SERCFG.CLK g + 2 = k

/-- A frequency change of stage j begins (Tables CK-4 to CK-6, step 1). -/
def State.stageStart (s : State) (j pol next : Nat) : State :=
  let s := (s.put STAGE_POL pol j).put STAGE_NEXT next j
  if pol = 1 then (s.put STAGE_FREQ 0 j).put CK_OSTAT.PHASE phGATED j else s.put CK_OSTAT.PHASE phHOLDING j

/-- A synthesiser starts or changes on its sampled values (R228, R234); a stopped output starts as under GATE. -/
def State.synStart (s : State) (k : Nat) (pol : Nat) : State :=
  let v := s.synVals k
  let pol := if s.get STAGE_FREQ k = 0 then 1 else pol
  let s := if k = 1 then s.ctlFallback else s
  ((s.stageStart k pol (v.out (s.refHz v.ref))).put CK_SYNSTAT.STATE ckACQUIRE k).put CK_SYNSTAT.BUSY 1 k

/-- A synthesiser stops, its output low (R228, R230, R240). -/
def State.synOff (s : State) (k : Nat) : State :=
  (((s.put CK_SYNSTAT.STATE ckOFF k).put CK_SYNSTAT.BUSY 0 k).put STAGE_FREQ 0 k).put CK_OSTAT.PHASE phSTEADY k

/-- GO samples the registers (R227) and shows f_out in kHz, rounded to nearest. -/
def State.synSample (s : State) (k : Nat) : State :=
  let v := s.synRegs k
  let s := (((((s.put SYN_REFSEL v.ref k).put SYN_RDIV (v.r - 1) k).put SYN_N v.n k).put SYN_F v.f k).put SYN_M v.m
    k).put SYN_D v.d k
  let s := (s.put STAGE_POL (s.get CK_OPOL.POLICY k) k).put STAGE_RATE (s.get CK_OPOL.RATE k) k
  s.put CK_SYNFOUT.KHZ ((v.out (s.refHz v.ref) + 500000000000) / 1000000000000) k

/-- Table CK-3: the first check that fails for a write to CK_SYNCTL[k]. -/
def State.synCheck (s : State) (k : Nat) (enNow enNew go : Bool) : Option (Rc × Nat) :=
  if s.mode ≠ mLOAD && s.mode ≠ mHOLD && s.mode ≠ mRUN then some (Rc.CK_WRONG_MODE, s.mode)
  else if k = 0 then some (Rc.CK_SYN_OWNED, 0)
  else if s.flag CK_SYNSTAT.BUSY k then some (Rc.CK_SYN_BUSY, k)
  else if enNow && !enNew then
    if s.synUsed k then some (Rc.CK_SYN_IN_USE, k)
    else if go then (s.synRange k (s.synRegs k)).map fun c => (c, k)
    else none
  else (s.synRange k (if go then s.synRegs k else s.synVals k)).map fun c => (c, k)

/-- The effect of a word written to CK_SYNCTL[k] (R227, R228). -/
def wrSynCtl (m : Master) (k w : Nat) (s : State) : State :=
  let enNow := s.flag CK_SYNCTL.EN k
  let enNew := bit w 0
  let go := bit w 1
  let s := if CK_SYNCTL.LOCK_T.accepts (bits w 2 8) then s.put CK_SYNCTL.LOCK_T (bits w 2 8) k else s
  if enNow = enNew && !go then s
  else
    match s.synCheck k enNow enNew go with
    | some (c, obj) => s.refuse c obj m (0x410C + 0x20 * k)
    | none =>
      let s := (if go then s.synSample k else s).put CK_SYNCTL.EN (b2n enNew) k
      if enNow && !enNew then s.synOff k
      else if enNew then s.synStart k (s.get STAGE_POL k)
      else s

/-- SYN_GO (R227): a write to CK_SYNCTL[k] with GO 1. -/
def execSynGo (m : Master) (k : Fin 6) (w : Word) (s : State) : Out :=
  let v := setBit w.toNat 1
  live s fun s => s.onWrite m (0x410C + 0x20 * k) v (wrSynCtl m k v)

/-- SYN_EN (R228): a write to CK_SYNCTL[k] with GO 0. -/
def execSynEn (m : Master) (k : Fin 6) (w : Word) (s : State) : Out :=
  let v := clrBit w.toNat 1
  live s fun s => s.onWrite m (0x410C + 0x20 * k) v (wrSynCtl m k v)

/-- A write to CK_SYNCFGA, CK_SYNFRAC or CK_SYNMOD of synthesiser k (R226, R227). -/
def wrSynCfg (m : Master) (r : Reg) (k w : Nat) (s : State) : State := if k = 0 then s else s.writeReg m r k w

/-! Lock, slew and holdover. -/

/-- A stage of a synthesiser has reached its frequency: a change is DONE; a re-acquisition is LOCKED again (R232,
R234). -/
def State.synSteady (s : State) (k : Nat) : State :=
  let s := ((s.put STAGE_FREQ (s.get STAGE_NEXT k) k).put CK_OSTAT.PHASE phSTEADY k).put CK_SYNSTAT.STATE ckLOCKED k
  let s := if s.flag CK_SYNSTAT.BUSY k then (s.put CK_SYNSTAT.BUSY 0 k).put CK_IRQ.DONE 1 else s
  s.raise Rc.CK_LOCKED k

/-- Lock declared for a synthesiser (R229, R232, R234): under GATE and STEP the change ends; under HOLD the slew begins,
unless the frequency is the new one already. -/
def State.synLock (s : State) (k : Nat) : State :=
  let st := s.get CK_SYNSTAT.STATE k
  if st = ckACQUIRE then
    if s.get STAGE_POL k ≠ 0 || s.get STAGE_FREQ k = s.get STAGE_NEXT k then s.synSteady k
    else (s.put CK_SYNSTAT.STATE ckLOCKED k).put CK_OSTAT.PHASE phSLEWING k
  else if st = ckHOLDOVER then
    if s.get STAGE_FREQ k = s.get STAGE_NEXT k then s.synSteady k else s.put CK_OSTAT.PHASE phSLEWING k
  else s

/-- LOCK_T has expired (R229, R236). -/
def State.synTimeout (s : State) (k : Nat) : State :=
  if s.get CK_SYNSTAT.STATE k = ckACQUIRE && s.flag CK_SYNSTAT.BUSY k then
    (((s.put CK_SYNSTAT.STATE ckFAULT k).put CK_SYNSTAT.BUSY 0 k).put CK_IRQ.LOCK_TO 1).raise Rc.CK_LOCK_TIMEOUT k
  else s

/-- A LOCKED synthesiser loses lock (R231); SYN1 takes CTL_CLK back to the oscillator (R222). -/
def State.synLost (s : State) (k : Nat) : State :=
  if s.get CK_SYNSTAT.STATE k = ckLOCKED then
    let s := ((s.put CK_SYNSTAT.STATE ckHOLDOVER k).put CK_OSTAT.PHASE phHOLDING k).put CK_SYNSTAT.LOL 1 k
    let s := (s.put CK_IRQ.LOL 1).raise Rc.CK_LOCK_LOST k
    if k = 1 then s.ctlFallback else s
  else s

/-- One advance of a slew: RATE ppm of the new frequency (R234); the last one is partial. -/
def State.slewTo (s : State) (j : Nat) : Nat :=
  let f := s.get STAGE_FREQ j
  let g := s.get STAGE_NEXT j
  let d := s.get STAGE_RATE j * g / 1000000
  if f < g then min g (f + d) else max g (f - d)

/-! The frequency meter. -/

/-- The effect of a word written to CK_FMCTL (R241). -/
def wrFmCtl (m : Master) (w : Nat) (s : State) : State :=
  let s := s.writeReg m CK_FMCTL.reg 0 w
  if bit w 14 && !s.flag CK_FMCTL.BUSY then
    ((s.put CK_FMCTL.BUSY 1).put CK_FMCTL.DONE 0).put FM_SRC (s.get CK_FMCTL.SRC)
  else s

/-- FREQ_METER_GO (R241): a write to CK_FMCTL with GO 1. -/
def execFreqMeterGo (m : Master) (w : Word) (s : State) : Out :=
  let v := setBit w.toNat 14
  live s fun s => s.onWrite m 0x4020 v (wrFmCtl m v)

/-- FREQ_METER_DONE (R241): the gate ends with so many edges counted. -/
def execFreqMeterDone (count : BitVec 40) (s : State) : Out :=
  live s fun s =>
    if s.flag CK_FMCTL.BUSY then
      ((s.put CK_FMRES.COUNT (min count.toNat (2 ^ 32 - 1))).put CK_FMCTL.BUSY 0).put CK_FMCTL.DONE 1
    else s

/-! Modes. -/

/-- SYN1 to SYN5 OFF and CTL_CLK on the internal oscillator: zeroise, RESCUE, TEST (R230). -/
def State.ckStop (s : State) : State :=
  let s := (s.put CK_CTL.CTL_SEL 0).put CK_CTL.CTL_ACT 0
  [1, 2, 3, 4, 5].foldl (fun u k => u.synOff k) s

/-- DORMANT entry: CTL_CLK back under R222, then SYN1 to SYN5 stop (R240). -/
def State.ckSleep (s : State) : State := [1, 2, 3, 4, 5].foldl (fun u k => u.synOff k) s.ctlFallback

/-- Wake: each enabled synthesiser has locked again on its sampled values, within the wake time (R240), but for those of
the mask, whose lock timed out (R776). (DEDUCED, log entry 59.) -/
def State.ckWake (s : State) (late : Nat) : State :=
  [1, 2, 3, 4, 5].foldl (fun u k =>
    if u.flag CK_SYNCTL.EN k then
      let v := u.synStart k 1
      if bit late k then v.synTimeout k else (v.put CK_SYNSTAT.BUSY 0 k).synSteady k
    else u) s

end Sys2Proof.Machine
end

