-- ==== Sys2Proof/Machine/Xport.lean ====
section
/-! DEFINITION. spec/07: crossing ports between the array and its synchronous islands. Each side's view of the other is
exact and at once: the latencies of Table XP-3 have no commands of their own. -/

namespace Sys2Proof.Machine

/-- XP_STAT.STATE codes. -/
def xpOFF : Nat := 0
def xpSYNC : Nat := 1
def xpRUN : Nat := 2
def xpFAULT : Nat := 3

/-- Entries, events or exchanges a port holds, oldest first: data plus 2 ^ 64 times the side bits. -/
def XP_Q : Fifo := ⟨7⟩
/-- The request that the array holds open at the site of a port, at most one (R262). -/
def XP_WAIT : Fifo := ⟨8⟩

/-- The plot that holds the site of port x (R245). -/
def xpPlot (x : Nat) : Nat := 8 * (x % 128 / 16) + (if 128 ≤ x then 7 else 0)

/-- Whether a port has a fixed use (Table XP-1). -/
def xpFixed (x : Nat) : Bool := x ≤ 16 || (32 ≤ x && x ≤ 95)

/-- TYPE: 0 WORD, 1 TOGGLE, 2 ROUNDTRIP; fixed ports read their fixed values (R268). -/
def State.xpType (s : State) (x : Nat) : Nat := if x ≤ 16 then 2 else if xpFixed x then 1 else s.get XP_CFG.TYPE x

/-- DIR: 0 the array sends or asks, 1 the island does. -/
def State.xpDir (s : State) (x : Nat) : Nat :=
  if x < 16 then 1 else if x = 16 then 0 else if 64 ≤ x && x < 80 then 0 else if xpFixed x then 1 else s.get XP_CFG.DIR x

/-- CLK. -/
def State.xpClk (s : State) (x : Nat) : Nat :=
  if x < 16 then 7 else if x = 16 then 0 else if 80 ≤ x && x < 96 then 0 else if xpFixed x then 1 else s.get XP_CFG.CLK x

/-- ATTACH (Table XP-5). -/
def State.xpAttach (s : State) (x : Nat) : Nat := if xpFixed x then 6 else s.get XP_CFG.ATTACH x

/-- What XP_CFG[x] reads (R268). -/
def State.xpCfgWord (s : State) (x : Nat) : Nat :=
  if xpFixed x then
    b2n (s.get XP_STAT.STATE x ≠ xpOFF) + 2 * s.xpType x + 8 * s.xpDir x + 64 * s.xpClk x + 512 * 6 +
      2 ^ 20 * s.get XP_CFG.RDOM x
  else s.readReg XP_CFG.reg x

/-- Entries a port holds at most (R247, R251, R252). -/
def State.xpCap (s : State) (x : Nat) : Nat := if s.xpType x = 0 then 16 * 2 ^ s.get XP_CFG.DEPTH x else 1

/-- Whether a port can take one more. -/
def State.xpRoom (s : State) (x : Nat) : Bool := (s.list XP_Q x).length < s.xpCap x

/-- XP_STAT.LEVEL (R249). -/
def State.showLevel (s : State) (x : Nat) : State :=
  s.put XP_STAT.LEVEL (if s.xpType x = 0 then (s.list XP_Q x).length else 0) x

/-- Whether reset domain d is asserted: PW_RDHOLD and the staged release drive it (R55, R692). -/
def State.domainHeld (s : State) (d : Nat) : Bool := s.flag DOM_RESET d

/-- R263: the clockless side resets while the port's domain is asserted; XP16 and XP32 to XP95 belong to none. -/
def State.xpHeld (s : State) (x : Nat) : Bool := (x < 16 || !xpFixed x) && s.domainHeld (s.get XP_CFG.RDOM x)

/-- Whether the array can act at the site of port x. -/
def State.siteLive (s : State) (x : Nat) : Bool := s.plotRuns (xpPlot x) && !s.xpHeld x

/-- R237, R260: the stopped-clock count is suspended: in DORMANT, or while the clock's stage is stopped without having
failed to lock. -/
def State.xpSuspended (s : State) (x : Nat) : Bool :=
  let j := match s.xpClk x with
    | 0 | 7 => 16
    | 1 => 0
    | 6 => 6 + s.get XP_CFG.AIDX x / 4
    | c => c
  s.mode = mDORMANT ||
    (j < 16 && s.get STAGE_FREQ j = 0 &&
      (if j < 6 then s.get CK_SYNSTAT.STATE j ≠ ckFAULT else s.get SL_QSTAT.STATE (j - 6) ≠ ckFAULT))

/-- XP_STAT.SUSP. -/
def State.xpSusp (s : State) (x : Nat) : Bool :=
  (s.get XP_STAT.STATE x = xpSYNC || s.get XP_STAT.STATE x = xpRUN) && s.xpSuspended x

/-- Forget what a port holds. -/
def State.xpEmpty (s : State) (x : Nat) : State := (s.setList XP_Q [] x).showLevel x

/-- R264: contents discarded and counted; SYNC. -/
def State.xpSync (s : State) (x side : Nat) : State :=
  let n := (s.list XP_Q x).length
  (((s.xpEmpty x).put XP_DISC (min 255 (s.get XP_DISC x + n)) x).put XP_SIDE side x).put XP_STAT.STATE xpSYNC x

/-- OFF: contents discarded; a request at the site stays open (R267). -/
def State.xpOff (s : State) (x : Nat) : State := ((s.xpEmpty x).put XP_DISC 0 x).put XP_STAT.STATE xpOFF x

/-- Store what the array holds open at the site, once the port can take it (R248, R251, R262). -/
def State.xpPump (s : State) (x : Nat) : State :=
  match s.list XP_WAIT x with
  | [v] =>
    if s.get XP_STAT.STATE x = xpRUN && s.xpDir x = 0 && s.xpRoom x && s.siteLive x then
      let t := ((s.setList XP_WAIT [] x).enq XP_Q v x).showLevel x
      if s.xpType x = 2 then t.emit .toIsland [x, v % 2 ^ 64, v / 2 ^ 64] else t.emit .toArray [5, x, 0]
    else s
  | _ => s

/-- R258: a put while READY is 0. -/
def State.xpOverrun (s : State) (x : Nat) : State :=
  let s := s.count XP_CNT.OVERRUN 1 x
  if bit (s.get XP_OVRMAP.OVR (x / 32)) (x % 32) then s
  else (s.orBit XP_OVRMAP.OVR (x % 32) (x / 32)).raise Rc.XP_OVERRUN x

/-- XP_ARRAY_OFFER (R248, R250, R252): the array raises a request at a site, one at a time; at XP64 to XP79 it is an edge
of the cell that drives an event line, which waits for nothing (Table XP-9). -/
def execXpArrayOffer (x : Fin 256) (data : BitVec 64) (side : BitVec 8) (s : State) : Out :=
  live s fun s =>
    if 64 ≤ x.val && x.val < 80 then
      if s.get XP_STAT.STATE x = xpRUN && s.mode = mRUN then
        if s.xpRoom x then s.enq XP_Q 0 x else s.xpOverrun x
      else s
    else if s.siteLive x && !xpFixed x && (s.list XP_WAIT x).isEmpty then
      (s.setList XP_WAIT [data.toNat + 2 ^ 64 * side.toNat] x).xpPump x
    else s

/-- The island puts one entry or event (R248, R251, R258): an attachment that honours READY loses nothing. -/
def State.xpPut (s : State) (x v : Nat) : State :=
  let st := s.get XP_STAT.STATE x
  if s.xpDir x ≠ 1 || st = xpOFF || st = xpFAULT then s
  else if st = xpRUN && s.xpRoom x then (s.enq XP_Q v x).showLevel x
  else if [2, 4].contains (s.xpAttach x) then s.xpOverrun x
  else s

/-- Take the oldest entry out of a port, if it has one. -/
def State.xpPop (s : State) (x : Nat) : Option (Nat × State) :=
  match s.list XP_Q x with
  | [] => none
  | v :: r => some (v, (s.setList XP_Q r x).showLevel x)

/-- The island takes one entry or event from a DIR 0 port (R248, R259). -/
def State.xpTake (s : State) (x : Nat) : Option (Nat × State) :=
  if s.xpDir x = 0 && s.get XP_STAT.STATE x = xpRUN && s.xpType x ≠ 2 then
    (s.xpPop x).map fun r => (r.1, r.2.xpPump x)
  else none

/-- R259: an attachment that takes an entry every period finds none. -/
def State.xpStarve (s : State) (x : Nat) : State :=
  if s.get XP_STAT.STATE x = xpRUN && [1, 3].contains (s.xpAttach x) then s.count XP_CNT.STARVE 1 x else s

/-- The island answers the open request of a DIR 0 ROUNDTRIP port (R252). -/
def State.xpAnswer (s : State) (x data stat : Nat) : State :=
  if s.xpType x = 2 && s.xpDir x = 0 && s.get XP_STAT.STATE x = xpRUN then
    match s.xpPop x with
    | some (_, t) => (t.emit .toArray [5, x, data, stat]).xpPump x
    | none => s
  else s

/-! Paced pairs (R254, R255). -/

/-- The enabled PACED port of a pair in a direction. -/
def State.pacedPort (s : State) (a dir : Nat) : Option Nat :=
  (List.range 256).find? fun x =>
    !xpFixed x && s.get XP_STAT.STATE x = xpRUN && s.get XP_CFG.ATTACH x = 7 && s.get XP_CFG.AIDX x = a &&
      s.get XP_CFG.DIR x = dir

/-- PACED_PAIR_MOVE (R254): one clock edge of the pacing island of pair a. -/
def execPacedPairMove (a : Fin 128) (s : State) : Out :=
  live s fun s =>
    match s.pacedPort a 0, s.pacedPort a 1 with
    | some x, some y =>
      if s.xpType x = s.xpType y && s.xpClk x = s.xpClk y && s.xpRoom y then
        match s.xpTake x with
        | some (v, t) => (t.enq XP_Q v y).showLevel y
        | none => s
      else s
    | _, _ => s

/-! Timeout, reset, resynchronisation. -/

/-- XP_TIMEOUT (R260, R261, R265): the stopped-clock count has reached TIMEOUT. -/
def execXpTimeout (x : Fin 256) (s : State) : Out :=
  live s fun s =>
    let st := s.get XP_STAT.STATE x
    if (st = xpSYNC || st = xpRUN) && s.xpClk x ≠ 0 && !s.xpSuspended x then
      let n := min 255 (s.list XP_Q x).length
      let t := (((s.xpEmpty x).put XP_DISC 0 x).put XP_STAT.STATE xpFAULT x).orBit XP_FAULT.FAULT (x % 32) (x / 32)
      t.raise Rc.XP_TIMEOUT x (s.get XP_TMO.TIMEOUT x + 2 ^ 24 * n)
    else s

/-- The effect of a word written to XP_STAT[x] (R262). -/
def wrXpStat (_m : Master) (x w : Nat) (s : State) : State :=
  if bit w 31 && s.get XP_STAT.STATE x ≠ xpOFF then s.xpSync x 1 else s

/-- XP_PORT_RESET (R262): a write of RST to XP_STAT[x]. -/
def execXpPortReset (m : Master) (x : Fin 256) (s : State) : Out :=
  live s fun s => s.onWrite m (0x6008 + 0x10 * x) (2 ^ 31) (wrXpStat m x (2 ^ 31))

/-- XP_RESYNC (R264): the resynchronisation ends, both sides being out of reset. -/
def execXpResync (x : Fin 256) (s : State) : Out :=
  live s fun s =>
    if s.get XP_STAT.STATE x = xpSYNC && !s.xpHeld x then
      let t := s.raise Rc.XP_RESYNC x (s.get XP_SIDE x + 256 * s.get XP_DISC x)
      let t := if s.xpAttach x = 1 then t.put LTX_ARM 1 (s.get XP_CFG.AIDX x) else t
      (((t.put XP_STAT.STATE xpRUN x).put XP_DISC 0 x).put XP_SIDE 1 x).xpPump x
    else s

/-- R263: the clockless sides of a domain's ports reset; FAULT stays (R262). -/
def State.xpDomainReset (s : State) (d : Nat) : State :=
  (List.range 256).foldl (fun u x =>
    let st := u.get XP_STAT.STATE x
    if (x < 16 || !xpFixed x) && u.get XP_CFG.RDOM x = d && (st = xpSYNC || st = xpRUN) then
      (u.xpSync x 0).setList XP_WAIT [] x
    else u) s

/-- R268: the device's own ports come out of OFF in HOLD. -/
def State.xpFixedOn (s : State) : State :=
  (List.range 96).foldl (fun u x => if xpFixed x && u.get XP_STAT.STATE x = xpOFF then u.xpSync x 1 else u) s

/-- R268, R269: every port OFF; user ports lose EN. -/
def State.xpAllOff (s : State) : State :=
  (List.range 256).foldl (fun u x =>
    if u.get XP_STAT.STATE x = xpOFF && (u.list XP_WAIT x).isEmpty then u
    else ((u.xpOff x).put XP_CFG.EN 0 x).setList XP_WAIT [] x) s

/-- R270: FORCE completes half-done handshakes of a plot's sites: what the port was handing to the array is gone; what
the array held open returns to idle. -/
def State.xpForce (s : State) (p : Nat) : State :=
  (List.range 256).foldl (fun u x =>
    if xpPlot x = p && !xpFixed x then
      let u := u.setList XP_WAIT [] x
      if u.xpDir x = 1 && u.get XP_STAT.STATE x = xpRUN then
        match u.xpPop x with | some (_, t) => t | none => u
      else u
    else u) s

/-! Enabling. -/

/-- Table XP-5 and Table BS-8: whether TYPE and DIR suit the attachment. -/
def xpTypeOk (att typ dir aidx : Nat) : Bool :=
  match att with
  | 1 | 3 => typ = 0 && dir = 0
  | 2 | 4 => typ = 0 && dir = 1
  | 5 =>
    if aidx < 48 then typ = 0 && dir = 1 else if aidx < 112 then typ = 0 && dir = 0
    else if aidx < 120 then typ = 2 && dir = 0 else false
  | 7 => typ ≤ 1
  | _ => false

/-- Table XP-5: whether CLK suits the attachment. -/
def xpClkOk (att clk : Nat) : Bool :=
  match att with | 1 | 2 => clk = 6 | 3 | 4 => 2 ≤ clk && clk ≤ 5 | 5 => clk = 1 | 7 => clk ≤ 5 | _ => false

/-- R441: whether the lane clock of a LANE_TX (1) or LANE_RX (2) port runs. -/
def State.laneClock (s : State) (att l : Nat) : Bool :=
  let st := s.get SL_QSTAT.STATE (l / 4)
  s.flag SL_LCFG.EN l && (st = ckLOCKED || st = ckHOLDOVER) && (att = 1 || !s.flag SL_LCFG.RXOFF l) &&
    s.get SL_LTEST.LOOP l + s.get SL_LTEST.PRBS_TX l + s.get SL_LTEST.PRBS_RX l = 0

/-- Table XP-7, row 6: whether the selected clock runs. -/
def State.xpClockRuns (s : State) (att clk aidx : Nat) : Bool :=
  if clk = 0 then true
  else if clk = 1 then s.paceOn
  else if clk ≤ 5 then
    s.get CK_SYNSTAT.STATE clk = ckLOCKED || s.get CK_SYNSTAT.STATE clk = ckHOLDOVER || s.flag CK_SYNSTAT.BUSY clk
  else s.laneClock att aidx

/-- Table XP-7: the first check that fails for port x, configured in `s` but not yet enabled. -/
def State.xpCheck (s : State) (m : Master) (x : Nat) : Option (Rc × Nat) :=
  let att := s.get XP_CFG.ATTACH x
  let typ := s.get XP_CFG.TYPE x
  let dir := s.get XP_CFG.DIR x
  let clk := s.get XP_CFG.CLK x
  let aidx := s.get XP_CFG.AIDX x
  let others := (List.range 256).filter fun y =>
    y ≠ x && !xpFixed y && s.flag XP_CFG.EN y && s.get XP_CFG.ATTACH y = att && s.get XP_CFG.AIDX y = aidx
  let ser := att = 3 || att = 4
  if !(s.mode = mHOLD || s.mode = mRUN || (s.mode = mLOAD && m = .gatehouse)) then some (Rc.XP_WRONG_MODE, s.mode)
  else if att = 0 then some (Rc.XP_NO_ATTACH, x)
  else if !xpTypeOk att typ dir aidx || (ser && aidx < 12 && s.get IO_SERCFG.DIR aidx ≠ dir) then
    some (Rc.XP_TYPE_ATTACH, x)
  else if !xpClkOk att clk || (ser && aidx < 12 && s.get IO_SERCFG.CLK aidx + 2 ≠ clk) then some (Rc.XP_CLK_MISMATCH, x)
  else if (if att = 7 then
      2 ≤ others.length || others.any fun y =>
        s.get XP_CFG.DIR y = dir || s.get XP_CFG.TYPE y ≠ typ || s.get XP_CFG.CLK y ≠ clk
    else !others.isEmpty) then some (Rc.XP_ATTACH_HELD, x)
  else if !s.xpClockRuns att clk aidx then some (Rc.XP_CLK_ABSENT, x)
  else none

/-- The effect of a word written to XP_CFG[x] (R266 to R268). -/
def wrXpCfg (m : Master) (x w : Nat) (s : State) : State :=
  if xpFixed x then
    if x < 16 then s.put XP_CFG.RDOM (bits w 20 4) x else s
  else if s.flag XP_CFG.EN x then
    let t := s.writeReg m XP_CFG.reg x w
    if t.readReg XP_CFG.reg x / 2 ≠ s.readReg XP_CFG.reg x / 2 then s.raise Rc.XP_PORT_ON x
    else if bit w 0 then s
    else (s.put XP_CFG.EN 0 x).xpOff x
  else
    let s := (s.writeReg m XP_CFG.reg x w).put XP_CFG.EN 0 x
    if !bit w 0 then s
    else
      match s.xpCheck m x with
      | some (c, obj) => s.refuse c obj m (0x6000 + 0x10 * x)
      | none => ((s.put XP_CFG.EN 1 x).put XP_DISC 0 x).xpSync x 1

/-- XP_ENABLE (R266, R267): a write to XP_CFG[x]. -/
def execXpEnable (m : Master) (x : Fin 256) (w : Word) (s : State) : Out :=
  live s fun s => s.onWrite m (0x6000 + 0x10 * x) w.toNat (wrXpCfg m x w.toNat)

end Sys2Proof.Machine
end

