-- ==== Sys2Proof/Machine/Bandstand.lean ====
section
/-! DEFINITION. spec/08: the time line, tags, cues and the trigger router. Enabling a unit, which claims pins, is in
Machine/BandUnits.lean. -/

namespace Sys2Proof.Machine

/-- Fraction units of one SYN0 tick (R274). -/
def tickUnits : Nat := 25600

/-- Signed value of an n-bit field added to a BTF80 time. -/
def addSigned (t n v : Nat) : Nat := ofSigned 80 ((t : Int) + toSigned n v)

/-- Put the visible count; the sub-fraction bits become 0. -/
def State.setNow (s : State) (t : Nat) : State := s.put TCOUNT (t % 2 ^ 80 * 2 ^ 16)

/-- The time-base flags of R277: RUNNING, EPOCH, COARSE, HOLDOVER. -/
def State.timeFlags (s : State) : Nat :=
  s.get BS_TBSTAT.RUNNING + 2 * s.get BS_TBSTAT.EPOCH + 4 * s.get BS_TBSTAT.COARSE + 8 * s.get SYN0_HOLD

/-! The trigger router (R307 to R311). -/

/-- Sources whose one-tick pulse ends at the next tick. -/
def PULSES : Fifo := ⟨9⟩

/-- The pin that a destination code of a cue names (R301, R392): fast-bank pins, then the CT outputs. -/
def linePin (code : Nat) : Nat := 384 + code

/-- A destination takes a shaped value (R309, R310): an event line gets one token for each rise; a CT line follows in
RUN (R293). -/
def State.setDest (s : State) (d : Nat) (v : Bool) : State :=
  if s.flag RT_VAL d = v then s
  else
    let s := s.put RT_VAL (b2n v) d
    if d < 9 then
      if s.mode = mRUN && s.get IO_PCLM.HOLDER (576 + d) = 3 then
        s.emit .edge [d, b2n v, b2n (d < 8 && s.flag BS_RT.DRIVE d && v)]
      else s
    else if 16 ≤ d && d < 48 && v then s.eventToken (d - 16)
    else s

/-- The unshaped value of destination d: its source, inverted where INV is 1. -/
def State.routeRaw (s : State) (d : Nat) : Bool :=
  let c := s.get BS_RT.SRC d
  (c ≠ 255 && s.flag SRC_VAL c) != s.flag BS_RT.INV d

/-- One enabled destination follows its source (R307). -/
def State.routeStep (s : State) (d : Nat) : State :=
  let v := s.routeRaw d
  let rise := v && !s.flag RT_RAW d
  let s := s.put RT_RAW (b2n v) d
  match s.get BS_RT.SHAPE d with
  | 0 => s.setDest d v
  | 1 => if rise then (s.put RT_LEFT 1 d).setDest d true else s
  | _ => if rise then (s.put RT_LEFT (s.get BS_RT.WIDTH d) d).setDest d true else s

/-- A source takes a level; its destinations follow. -/
def State.setSource (s : State) (c : Nat) (v : Bool) : State :=
  if s.flag SRC_VAL c = v then s
  else
    (List.range 176).foldl (fun u d => if u.flag BS_RT.EN d && u.get BS_RT.SRC d = c then u.routeStep d else u)
      (s.put SRC_VAL (b2n v) c)

/-- A one-tick pulse of a source: it falls at the next tick. -/
def State.pulseSource (s : State) (c : Nat) : State :=
  let s := s.setSource c true
  if (s.list PULSES).contains c then s else s.enq PULSES c

/-- The part of a tick that ends pulses and stretches. -/
def State.routerTick (s : State) : State :=
  let s := (List.range 176).foldl (fun u d =>
    if u.get RT_LEFT d = 0 then u
    else
      let u := u.put RT_LEFT (u.get RT_LEFT d - 1) d
      if u.get RT_LEFT d = 0 then u.setDest d false else u) s
  let s := (s.list PULSES).foldl (fun u c => u.setSource c false) s
  s.setList PULSES []

/-- Whether a router source is one that a ball, a line or the array changes from outside: CT lines, tokens. -/
def outsideSource (c : Nat) : Bool := c ≤ 11 || (96 ≤ c && c < 112)

/-- ROUTER_SOURCE_EDGE (R307): a source that is not a unit of the Bandstand changes; tokens are one-tick pulses. -/
def execRouterSourceEdge (c : BitVec 8) (high : Bool) (s : State) : Out :=
  live s fun s =>
    if s.mode = mDORMANT || !outsideSource c.toNat then s
    else if 96 ≤ c.toNat then s.pulseSource c.toNat
    else s.setSource c.toNat high

/-- STRETCH_END (R307): WIDTH ticks have gone by. -/
def execStretchEnd (d : Fin 176) (s : State) : Out :=
  live s fun s =>
    if s.get RT_LEFT d = 0 || s.mode = mDORMANT then s else (s.put RT_LEFT 0 d).setDest d false

/-- The effect of a word written to BS_SOFT (R311). -/
def wrSoft (w : Nat) (s : State) : State :=
  (List.range 16).foldl (fun u k => if bit w k then u.pulseSource (112 + k) else u) s

/-- The effect of a word written to BS_SOFTLVL: the level is ORed with the pulse (R311). -/
def wrSoftLevel (w : Nat) (s : State) : State :=
  let s := s.put BS_SOFTLVL.LEVEL (bits w 0 16)
  (List.range 16).foldl (fun u k => u.setSource (112 + k) (bit w k || (u.list PULSES).contains (112 + k))) s

/-- SOFT_TRIGGER (R311): a write to BS_SOFT. -/
def execSoftTrigger (m : Master) (w : Word) (s : State) : Out :=
  live s fun s => s.onWrite m 0x8044 w.toNat (wrSoft w.toNat)

/-! Locking the time base. -/

/-- BS_TBSTAT.STATE and the HOLDOVER flag follow SYN0; a change sets BS_IRQ.TB (R282). -/
def State.tbFollow (s : State) : State :=
  let st := s.get CK_SYNSTAT.STATE 0
  let hold := st = ckHOLDOVER || (st = ckFAULT && s.get STAGE_FREQ 0 ≠ 0)
  let t := (s.put SYN0_HOLD (b2n hold)).put BS_TBSTAT.STATE st
  if s.get BS_TBSTAT.STATE = st then t else t.put BS_IRQ.TB 1

/-- Rate of the parent port's line: 1 or 0, for the FABRIC reference (R542). -/
def State.parentRate (s : State) : Nat := s.get HX_PCFG.RATE (s.get HX_DSTAT.PARENT)

/-- R226, R278, R542: the values SYN0 takes on a reference; it always uses D 2 and f_vco 5.12 GHz. -/
def State.syn0Vals (s : State) (ref : Nat) : SynVals :=
  match ref with
  | 0 => { ref := 0, r := 1, n := 51, f := 1, m := 5, d := 2 }
  | 1 => { ref := 1, r := 1, n := 512, f := 0, m := 2, d := 2 }
  | 2 =>
    let x := s.get BS_XOFREQ.XO_KHZ
    let r := (x + 99999) / 100000
    let num := 5120000 * r
    let g := Nat.gcd (num % x) x
    if num % x = 0 then { ref := 2, r := r, n := num / x, f := 0, m := 2, d := 2 }
    else { ref := 2, r := r, n := num / x, f := num % x / g, m := x / g, d := 2 }
  | _ =>
    if s.parentRate = 1 then { ref := 5, r := 1, n := 52, f := 268, m := 625, d := 2 }
    else { ref := 5, r := 1, n := 131, f := 9, m := 125, d := 2 }

/-- Start or change SYN0 on a reference under HOLD (R278, R281). 2.56 GHz does not fit CK_SYNFOUT.KHZ: what it then
reads is a free value. (DEDUCED, log entry 39.) -/
def State.syn0Start (s : State) (ref : Nat) : State :=
  let v := s.syn0Vals ref
  let s := (((((s.put SYN_REFSEL v.ref 0).put SYN_RDIV (v.r - 1) 0).put SYN_N v.n 0).put SYN_F v.f 0).put SYN_M v.m
    0).put SYN_D v.d 0
  let s := (((((s.put CK_SYNCFGA.REFSEL v.ref 0).put CK_SYNCFGA.RDIV (v.r - 1) 0).put CK_SYNCFGA.N v.n 0).put
    CK_SYNFRAC.F v.f 0).put CK_SYNMOD.M v.m 0).put CK_SYNCFGA.D v.d 0
  let s := (s.put CK_SYNFOUT.KHZ (s.fresh 21) 0).drawn
  let s := (s.put STAGE_RATE (s.get CK_OPOL.RATE 0) 0).put BS_TBSTAT.REF_ACT ref
  let s := s.stageStart 0 (if s.get STAGE_FREQ 0 = 0 then 1 else 0) 2560000000000000000
  ((s.put CK_SYNSTAT.STATE ckACQUIRE 0).put CK_SYNSTAT.BUSY 1 0).tbFollow

/-- SYN0 stops: the count returns to 0, RUNNING and EPOCH clear (R280, R283). -/
def State.tbStop (s : State) : State :=
  ((((s.synOff 0).setNow 0).put BS_TBSTAT.RUNNING 0).put BS_TBSTAT.EPOCH 0).tbFollow

/-- Table BS-1, row 2: the reference code that cannot be taken. -/
def State.badRef (s : State) (ref : Nat) : Bool :=
  let x := s.get BS_XOFREQ.XO_KHZ
  !([0, 1, 2, 5].contains ref) || (ref = 2 && (x < 25000 || 156250 < x))

/-- Table BS-1, row 4: something that needs SYN0 is enabled. -/
def State.tbUsed (s : State) : Bool :=
  ((List.range 96).any fun n => s.flag BS_TTCFG.EN n) || ((List.range 64).any fun c => s.flag BS_CUCFG.EN c) ||
    ((List.range 176).any fun d => s.flag BS_RT.EN d) || ((List.range 40).any fun l => s.flag BS_LBTCTL.EN l) ||
    ((List.range 16).any fun t => s.flag BT_CTL.EN t) ||
    ((List.range 256).any fun x => !xpFixed x && s.get XP_STAT.STATE x ≠ xpOFF && s.get XP_CFG.CLK x = 1) ||
    [1, 2, 3, 4, 5].any fun k => s.flag CK_SYNCTL.EN k && s.get SYN_REFSEL k = 4

/-- Mode row shared by Tables BS-1, BS-5 and BT-4. -/
def State.unitMode (s : State) (m : Master) : Bool :=
  s.mode = mHOLD || s.mode = mRUN || (s.mode = mLOAD && m = .gatehouse)

/-- The effect of a word written to BS_TBCTL (R278, R279, R281). -/
def wrTbCtl (m : Master) (w : Nat) (s : State) : State :=
  let ref := bits w 0 3
  let alt := bits w 4 3
  let was := s.flag BS_TBCTL.EN
  let now := bit w 8
  let change := now && (!was || ref ≠ s.get BS_TBCTL.REF)
  if !s.unitMode m then s.refuse Rc.BS_WRONG_MODE s.mode m 0x8000
  else if s.badRef ref then s.refuse Rc.BS_REF_SEL ref m 0x8000
  else if s.badRef alt then s.refuse Rc.BS_REF_SEL alt m 0x8000
  else if change && !s.refPresent ref then s.refuse Rc.BS_REF_ABSENT ref m 0x8000
  else if was && !now && s.tbUsed then s.refuse Rc.BS_TB_IN_USE 0 m 0x8000
  else
    let s := s.writeReg m BS_TBCTL.reg 0 w
    if change then s.syn0Start ref
    else if was && !now then s.tbStop
    else s

/-- TB_EN (R278, R279): a write to BS_TBCTL. -/
def execTbEn (m : Master) (w : Word) (s : State) : Out :=
  live s fun s => s.onWrite m 0x8000 w.toNat (wrTbCtl m w.toNat)

/-- What a lock of SYN0 adds (R280). -/
def State.syn0Lock (s : State) : State :=
  let t := s.synLock 0
  let t := if s.get CK_SYNSTAT.STATE 0 = ckACQUIRE && !t.flag BS_TBSTAT.RUNNING then
      ((((t.setNow 0).put BS_TBSTAT.RUNNING 1).put BS_TBSTAT.EPOCH 0).put BS_TBSTAT.EPOCH_GEN
        (t.get BS_TBSTAT.EPOCH_GEN + 1)).raise Rc.BS_TB_LOCKED (t.get BS_TBSTAT.REF_ACT)
    else t
  t.tbFollow

/-- What a loss of lock of SYN0 adds (R282): the switch to REF_ALT where AUTO is set. -/
def State.syn0Lost (s : State) : State :=
  if s.get CK_SYNSTAT.STATE 0 ≠ ckLOCKED then s
  else
    let t := (s.synLost 0).tbFollow.raise Rc.BS_TB_HOLDOVER (s.get BS_TBSTAT.REF_ACT)
    let alt := s.get BS_TBCTL.REF_ALT
    if s.flag BS_TBCTL.AUTO && s.refPresent alt && alt ≠ s.get BS_TBSTAT.REF_ACT then
      (t.syn0Start alt).raise Rc.BS_REF_SWITCH alt
    else t

/-- SYN_LOCKED (R229, R232, R234, R280). -/
def execSynLocked (k : Fin 6) (s : State) : Out :=
  live s fun s => if s.mode = mDORMANT then s else if k = 0 then s.syn0Lock else s.synLock k

/-- SYN_LOCK_TIMEOUT (R229, R236). -/
def execSynLockTimeout (k : Fin 6) (s : State) : Out :=
  live s fun s =>
    if s.mode = mDORMANT then s else if k = 0 then (s.synTimeout 0).tbFollow else s.synTimeout k

/-- SYN_LOCK_LOST (R222, R231, R282). -/
def execSynLockLost (k : Fin 6) (s : State) : Out :=
  live s fun s => if s.mode = mDORMANT then s else if k = 0 then s.syn0Lost else s.synLost k

/-! Tags (R294 to R300). -/

/-- Records in a converter's buffer, oldest first: entry 0 plus 2 ^ 64 times entry 1 (Table BS-4). -/
def TT_BUF : Fifo := ⟨10⟩
/-- The last record a converter produced, buffered or not (R347). -/
def TT_REC : Fifo := ⟨11⟩

/-- A record of Table BS-4. -/
def State.tagRecord (s : State) (n time : Nat) (rising : Bool) : Nat :=
  let flags := b2n rising + 2 * s.get BS_TTSTAT.STALE n + 4 * s.get SYN0_HOLD + 8 * b2n (!s.flag BS_TBSTAT.EPOCH) +
    16 * s.get BS_TBSTAT.COARSE + 32 * s.get TT_GAP n + 128
  let e1 := time / 2 ^ 64 % 2 ^ 16 + 2 ^ 16 * flags + 2 ^ 24 * s.get BS_TBSTAT.EPOCH_GEN + 2 ^ 32 * s.get TT_SEQ n
  time % 2 ^ 64 + 2 ^ 64 * e1

/-- BS_TTSTAT.LEVEL follows the buffer. -/
def State.showTags (s : State) (n : Nat) : State := s.put BS_TTSTAT.LEVEL (s.list TT_BUF n).length n

/-- A tagged edge becomes a record, or is lost (R296 to R299). -/
def State.tagKeep (s : State) (n time : Nat) (rising : Bool) : State :=
  let r := s.tagRecord n time rising
  let s := s.setList TT_REC [r] n
  let full := 16 ≤ (s.list TT_BUF n).length
  let s := if full then
      let s := (s.count BS_TTCNT.LOST 1 n).put TT_GAP 1 n
      if s.flag BS_IRQ.TT_LOSS then s else (s.put BS_IRQ.TT_LOSS 1).raise Rc.BS_TT_LOSS (0x100 + n)
    else
      let s := if (s.list TT_BUF n).isEmpty && s.flag BS_TTCFG.RDFIFO n then s.put BS_IRQ.TT_DATA 1 else s
      (((s.enq TT_BUF r n).put TT_SEQ (s.get TT_SEQ n + 1) n).put TT_GAP 0 n).showTags n
  if s.flag BS_TTCFG.RTR_EN n then s.pulseSource (128 + n) else s

/-- TAG_EDGE (R294, R295): an edge crossed the input of converter n `ago` interpolator bins of 25 fraction units before
the present count. -/
def execTagEdge (n : Fin 96) (rising : Bool) (ago : BitVec 24) (s : State) : Out :=
  live s fun s =>
    let e := s.get BS_TTCFG.EDGE n
    let sel := e = 2 || (e = 0 && rising) || (e = 1 && !rising)
    let t0 := (s.now + 2 ^ 80 - 25 * ago.toNat) % 2 ^ 80
    let last := s.get TT_LAST n
    if !s.flag BS_TTCFG.EN n || !s.flag BS_TBSTAT.RUNNING || !sel || s.mode = mDORMANT then s
    else if s.flag BS_TTCFG.GATE_EN n && !s.flag RT_VAL (80 + n) then s
    else
      let s := s.put BS_TTSTAT.CAL 0 n
      if 2 ^ 80 ≤ last && (t0 + 2 ^ 80 - last % 2 ^ 80) % 2 ^ 80 < 16 * tickUnits then s.count BS_TTCNT.MISSED 1 n
      else (s.put TT_LAST (2 ^ 80 + t0) n).tagKeep n (addSigned t0 32 (s.get BS_TTOFS.OFS n)) rising

/-- A read of BS_TTDAT0[n] (R297): the oldest record is removed, but not by a peek read; the other words are latched. -/
def rdTtDat0 (m : Master) (n : Nat) (s : State) : Nat × State :=
  let off := 0x8108 + 0x20 * n
  let r := (s.list TT_BUF n).headD 0
  if s.peeks m then (r % 2 ^ 32, s)
  else
    let t := (s.setList TT_BUF (s.list TT_BUF n).tail n).showTags n
    (r % 2 ^ 32, ((t.latchHigh m (off + 4) (r / 2 ^ 32)).latchHigh m (off + 8) (r / 2 ^ 64)).latchHigh m (off + 12)
      (r / 2 ^ 96))

/-- TTDAT0_READ (R297). -/
def execTtdat0Read (m : Master) (n : Fin 96) (s : State) : Out :=
  live s fun s =>
    let r := s.onRead m (0x8108 + 0x20 * n) (rdTtDat0 m n)
    r.2.emit .busData [m.code, r.1]

/-- TT_CALIBRATION_START (R300, R755): at most four converters at once, in HOLD and RUN. -/
def execTtCalibrationStart (n : Fin 96) (s : State) : Out :=
  live s fun s =>
    if (s.mode = mHOLD || s.mode = mRUN) && s.flag BS_TTCFG.EN n &&
        ((List.range 96).filter fun i => s.flag BS_TTSTAT.CAL i).length < 4 then s.put BS_TTSTAT.CAL 1 n
    else s

/-- TT_CALIBRATION_END (R300, R755). -/
def execTtCalibrationEnd (n : Fin 96) (s : State) : Out :=
  live s fun s =>
    if s.flag BS_TTSTAT.CAL n then (s.put BS_TTSTAT.CAL 0 n).put BS_TTSTAT.STALE 0 n else s

/-- TT_STALE (R300): more than 10 s overdue, once for each onset. -/
def execTtStale (n : Fin 96) (s : State) : Out :=
  live s fun s =>
    if s.flag BS_TTCFG.EN n && !s.flag BS_TTSTAT.STALE n then
      ((s.put BS_TTSTAT.STALE 1 n).put BS_IRQ.STALE 1).raise Rc.BS_STALE_CAL (0x100 + n)
    else s

/-! Cues (R301 to R306, R315). -/

/-- Queued commands of a cue, oldest first: TIME plus 2 ^ 80 times ACTION. -/
def CUE_Q : Fifo := ⟨12⟩

/-- Whether a is later than b, on the 80-bit circle. -/
def laterThan (a b : Nat) : Bool := let d := (a + 2 ^ 80 - b) % 2 ^ 80; d ≠ 0 && d < 2 ^ 79

/-- R303: less than 16 ticks ahead of the count. -/
def State.cueTooClose (s : State) (time : Nat) : Bool :=
  let d := (time + 2 ^ 80 - s.now) % 2 ^ 80
  2 ^ 79 ≤ d || d < 16 * tickUnits

/-- Judge the head command of a cue (R303, R305), and show PEND. -/
def State.cueJudge (s : State) (c : Nat) : State :=
  let q := s.list CUE_Q c
  (s.put BS_CUSTAT.PEND q.length c).put CUE_LATEP
    (match q with | [] => 0 | v :: _ => b2n (s.cueTooClose (v % 2 ^ 80))) c

/-- The output of a cue takes a level: router source 16 + c, and an edge at the destination in RUN (R293, R301). -/
def State.cueLevel (s : State) (c : Nat) (v : Bool) : State :=
  let s := s.put BS_CUSTAT.LEVEL (b2n v) c
  let s := if s.mode = mRUN && s.get BS_CUCFG.DEST c ≠ 201 && s.get IO_PCLM.HOLDER (linePin (s.get BS_CUCFG.DEST c)) = 3 then
      s.emit .edge [512 + s.get BS_CUCFG.DEST c, b2n v, s.now] else s
  s.setSource (16 + c) v

/-- Push a command (R302): dropped when the queue is full or the time is not later than the last edge before it. -/
def State.cuePush (s : State) (c time action : Nat) : State :=
  let last := s.get CUE_LAST c
  let drop (why : Nat) : State :=
    ((s.count BS_CUCNT.DROP 1 c).put BS_IRQ.CUE_ERR 1).raise Rc.BS_CUE_DROP (0x200 + c) why
  if !s.flag BS_CUCFG.EN c then s
  else if 8 ≤ (s.list CUE_Q c).length then drop 0
  else if 2 ^ 80 ≤ last && !laterThan time (last % 2 ^ 80) then drop 1
  else
    let fin := if action = 3 then (time + tickUnits * s.get BS_CUCFG.PWIDTH c) % 2 ^ 80 else time
    let first := (s.list CUE_Q c).isEmpty
    let t := (s.enq CUE_Q (time + 2 ^ 80 * action) c).put CUE_LAST (2 ^ 80 + fin) c
    if first then t.cueJudge c else t.put BS_CUSTAT.PEND (t.list CUE_Q c).length c

/-- The effect of a word written to BS_CUCMD2[c] (R302). -/
def wrCueCmd2 (c w : Nat) (s : State) : State :=
  s.cuePush c (s.get BS_CUCMD0.TIME c + 2 ^ 32 * s.get BS_CUCMD1.TIME c + 2 ^ 64 * bits w 0 16) (bits w 16 2)

/-- CUE_COMMAND_PUSH (R302): a write to BS_CUCMD2[c]. -/
def execCueCommandPush (m : Master) (c : Fin 64) (w : Word) (s : State) : Out :=
  live s fun s => s.onWrite m (0x9110 + 0x20 * c) w.toNat (wrCueCmd2 c w.toNat)

/-- Take the head command off a cue and judge the next. -/
def State.cueNext (s : State) (c : Nat) : State := (s.setList CUE_Q (s.list CUE_Q c).tail c).cueJudge c

/-- Execute the head command of a cue (R302). -/
def State.cueExecute (s : State) (c : Nat) : State :=
  match s.list CUE_Q c with
  | [] => s
  | v :: _ =>
    let s := match v / 2 ^ 80 with
      | 0 => s.cueLevel c true
      | 1 => s.cueLevel c false
      | 2 => s.cueLevel c (!s.flag BS_CUSTAT.LEVEL c)
      | _ => (s.put CUE_PULSE 1 c).cueLevel c true
    s.cueNext c

/-- CUE_FIRE (R304): the time of a head command that was not late arrives. -/
def execCueFire (c : Fin 64) (s : State) : Out :=
  live s fun s =>
    if s.flag BS_CUCFG.EN c && !s.flag CUE_LATEP c && s.mode ≠ mDORMANT then s.cueExecute c else s

/-- CUE_LATE (R303): a command that became head too close to its time is executed at once, or skipped. -/
def execCueLate (c : Fin 64) (s : State) : Out :=
  live s fun s =>
    if s.flag BS_CUCFG.EN c && s.flag CUE_LATEP c && s.mode ≠ mDORMANT then
      let s := s.count BS_CUCNT.LATE 1 c
      let s := if s.flag BS_IRQ.CUE_LATE then s else (s.put BS_IRQ.CUE_LATE 1).raise Rc.BS_CUE_LATE (0x200 + c)
      if s.flag BS_CUCFG.LATE c then s.cueNext c else s.cueExecute c
    else s

/-- PULSE_END (R302): PWIDTH ticks after a PULSE rose. -/
def execPulseEnd (c : Fin 64) (s : State) : Out :=
  live s fun s => if s.flag CUE_PULSE c then (s.put CUE_PULSE 0 c).cueLevel c false else s

/-- R305: every queue is judged against a new count. -/
def State.cuesRejudge (s : State) : State :=
  (List.range 64).foldl (fun u c => if (u.list CUE_Q c).isEmpty then u else u.cueJudge c) s

/-! Setting and adjusting the time (R284 to R289). -/

/-- A new epoch of the count: EPOCH_GEN adds 1, COARSE clears, BS_IRQ.EPOCH is set, cues are judged again. -/
def State.timeChanged (s : State) : State :=
  (((s.put BS_TBSTAT.EPOCH_GEN (s.get BS_TBSTAT.EPOCH_GEN + 1)).put BS_TBSTAT.COARSE 0).put BS_IRQ.EPOCH 1).cuesRejudge

/-- EPOCH of BS_EPOCH0 to BS_EPOCH2. -/
def State.epoch (s : State) : Nat :=
  s.get BS_EPOCH.E 0 + 2 ^ 32 * s.get BS_EPOCH.E 1 + 2 ^ 64 * (s.get BS_EPOCH.E 2 % 2 ^ 16)

/-- Whether a code names a router source (Table BS-6). -/
def routerSource (c : Nat) : Bool := c ≤ 11 || (16 ≤ c && c < 224) || c = 255

/-- The effect of a word written to BS_EPCTL (R284, R286). -/
def wrEpCtl (m : Master) (w : Nat) (s : State) : State :=
  if s.flag BS_EPCTL.ARM then
    let s := if bits w 0 2 ≠ s.get BS_EPCTL.SRC || bits w 3 8 ≠ s.get BS_EPCTL.QUAL then s.raise Rc.BS_UNIT_ON 0 else s
    s.put BS_EPCTL.ARM (bits w 2 1)
  else
    let s := (s.writeReg m BS_EPCTL.reg 0 w).put BS_EPCTL.ARM 0
    if !bit w 2 then s
    else if !s.flag BS_TBSTAT.RUNNING then s.refuse Rc.BS_TB_NOT_RUNNING 0 m 0x8018
    else if s.flag BS_ADJCTL.OWNED then s.refuse Rc.BS_ADJ_OWNED 0 m 0x8018
    else if s.get BS_EPCTL.SRC = 2 && !routerSource (s.get BS_EPCTL.QUAL) then s.refuse Rc.BS_SRC_RESERVED 0 m 0x8018
    else s.put BS_EPCTL.ARM 1

/-- EPOCH_ARM (R286): a write to BS_EPCTL. -/
def execEpochArm (m : Master) (w : Word) (s : State) : Out :=
  live s fun s => s.onWrite m 0x8018 w.toNat (wrEpCtl m w.toNat)

/-- A write to BS_EPOCH0 to BS_EPOCH2 or BS_SYNCOFS, ignored while ARM is 1 (R286). -/
def wrEpoch (m : Master) (r : Reg) (i w : Nat) (s : State) : State :=
  if s.flag BS_EPCTL.ARM then s.raise Rc.BS_UNIT_ON 0 else s.writeReg m r i (if i = 2 then w % 2 ^ 16 else w)

/-- EPOCH_LOAD (R284, R285): the armed load takes effect, `since` fraction units after the CT_SYNC100 edge (0 for
IMMEDIATE). -/
def execEpochLoad (since : BitVec 32) (s : State) : Out :=
  live s fun s =>
    if s.flag BS_EPCTL.ARM && s.flag BS_TBSTAT.RUNNING && s.mode ≠ mDORMANT then
      let t := if s.get BS_EPCTL.SRC = 0 then s.epoch
        else addSigned (s.epoch + since.toNat) 32 (s.get BS_SYNCOFS.OFS)
      let s := (((s.setNow t).put BS_EPCTL.ARM 0).put BS_TBSTAT.EPOCH 1).timeChanged
      s.raise Rc.BS_EPOCH_LOADED (s.get BS_TBSTAT.EPOCH_GEN) (s.epoch % 2 ^ 64)
    else s

/-- A step of the count by a signed 64-bit offset (R287). -/
def State.timeStep (s : State) (offset : Nat) : State :=
  let s := (s.put TCOUNT (ofSigned 96 ((s.get TCOUNT : Int) + toSigned 64 offset * 65536))).timeChanged
  s.raise Rc.BS_TIME_STEP (s.get BS_TBSTAT.EPOCH_GEN) offset

/-- A slew by a signed 64-bit offset begins (R287). -/
def State.slewStart (s : State) (offset : Nat) : State :=
  let o := toSigned 64 offset
  ((s.put SLEW_LEFT (o.natAbs * 65536)).put SLEW_NEG (b2n (o < 0))).put BS_ADJCTL.BUSY 1

/-- The effect of a word written to BS_ADJCTL (R287, R288). -/
def wrAdjCtl (m : Master) (w : Nat) (s : State) : State :=
  let s := s.writeReg m BS_ADJCTL.reg 0 w
  let offset := s.get BS_ADJ_LO.OFFSET + 2 ^ 32 * s.get BS_ADJ_HI.OFFSET
  if !bit w 0 then s
  else if !s.flag BS_TBSTAT.RUNNING then s.refuse Rc.BS_TB_NOT_RUNNING 0 m 0x8038
  else if s.flag BS_ADJCTL.OWNED then s.refuse Rc.BS_ADJ_OWNED 0 m 0x8038
  else if s.flag BS_ADJCTL.BUSY then s.refuse Rc.BS_ADJ_BUSY 0 m 0x8038
  else if bit w 1 then s.timeStep offset
  else s.slewStart offset

/-- ADJ_STEP (R287): a write of GO with MODE 1. -/
def execAdjStep (m : Master) (w : Word) (s : State) : Out :=
  let v := setBit (setBit w.toNat 0) 1
  live s fun s => s.onWrite m 0x8038 v (wrAdjCtl m v)

/-- ADJ_SLEW (R287): a write of GO with MODE 0. -/
def execAdjSlew (m : Master) (w : Word) (s : State) : Out :=
  let v := clrBit (setBit w.toNat 0) 1
  live s fun s => s.onWrite m 0x8038 v (wrAdjCtl m v)

/-- Take so many sub-fraction units of a slew into the count, ending it when none are left. -/
def State.slewBy (s : State) (u : Nat) : State :=
  let d := min u (s.get SLEW_LEFT)
  let c := s.get TCOUNT
  let s := s.put TCOUNT (if s.flag SLEW_NEG then c + 2 ^ 96 - d else c + d)
  let s := s.put SLEW_LEFT (s.get SLEW_LEFT - d)
  if s.get SLEW_LEFT = 0 then s.put BS_ADJCTL.BUSY 0 else s

/-- SLEW_DONE (R287): the offset has been absorbed. -/
def execSlewDone (s : State) : Out :=
  live s fun s => if s.flag BS_ADJCTL.BUSY then s.slewBy (s.get SLEW_LEFT) else s

/-- The count over one timer tick: eight SYN0 ticks, with what a slew adds or takes (R274, R287). -/
def State.countTick (s : State) : State :=
  if !s.flag BS_TBSTAT.RUNNING then s
  else
    let s := s.put TCOUNT (s.get TCOUNT + 8 * tickUnits * 65536)
    if s.flag BS_ADJCTL.BUSY then s.slewBy (8 * tickUnits * 65536 * s.get BS_ADJCTL.SLEW / 1000000) else s

/-- A read of BS_TNOW0: the other words are latched for the reader (R277). -/
def rdTnow0 (m : Master) (s : State) : Nat × State :=
  (s.now % 2 ^ 32, (s.latchHigh m 0x8030 (s.now / 2 ^ 32)).latchHigh m 0x8034
    (s.now / 2 ^ 64 + 2 ^ 16 * s.timeFlags))

/-- TNOW_READ (R277). -/
def execTnowRead (m : Master) (s : State) : Out :=
  live s fun s =>
    let r := s.onRead m 0x802C (rdTnow0 m)
    r.2.emit .busData [m.code, r.1]

/-! Endpoints of crossing ports (R313 to R315). -/

/-- The converter that tag stream `st` serves next: in turn, those with a record (R314). -/
def State.streamTurn (s : State) (st : Nat) : Option Nat :=
  ((List.range 96).map fun i => (s.get TT_TURN st + 1 + i) % 96).find? fun n =>
    s.flag BS_TTCFG.EN n && !s.flag BS_TTCFG.RDFIFO n && s.get BS_TTCFG.STREAM n = st && !(s.list TT_BUF n).isEmpty

/-- A tag stream puts both entries of one record into its port, once there is room for them (R297, R313). -/
def State.streamPut (s : State) (x st : Nat) : State :=
  match s.streamTurn st with
  | none => s
  | some n =>
    if s.get XP_STAT.STATE x = xpRUN && (s.list XP_Q x).length + 2 ≤ s.xpCap x then
      let r := (s.list TT_BUF n).headD 0
      let s := ((s.setList TT_BUF (s.list TT_BUF n).tail n).showTags n).put TT_TURN n st
      (s.xpPut x (r % 2 ^ 64 + 2 ^ 64 * (n + 128))).xpPut x (r / 2 ^ 64 + 2 ^ 64 * n)
    else s

/-- R315: the full time of a cue-stream entry. -/
def State.streamTime (s : State) (d : Nat) : Nat :=
  let t := s.now / 2 ^ 64 * 2 ^ 64 + d % 2 ^ 64
  if t + 2 ^ 63 < s.now then t + 2 ^ 64 else t

/-- A cue stream takes an entry unless its cue's queue is full (R313). -/
def State.streamTake (s : State) (x c : Nat) : State :=
  if 8 ≤ (s.list CUE_Q c).length then s
  else
    match s.xpTake x with
    | some (v, t) => t.cuePush c (t.streamTime v) (bits (v / 2 ^ 64) 0 2)
    | none => s

end Sys2Proof.Machine
end

