-- ==== Sys2Proof/Machine/Timers.lean ====
section
/-! DEFINITION. spec/09: the Bandstand timers. A register write stands for the tick at which it takes effect (R323); the
next TIMER_TICK is the tick after it. -/

namespace Sys2Proof.Machine

/-- The same register of compare channel k. -/
def atCompare (f : Field) (k : Nat) : Field := { f with off := f.off + 0x10 * k }

/-- The 48-bit count of timer t. -/
def State.btCount (s : State) (t : Nat) : Nat := s.get BT_CNT_LO.COUNT t + 2 ^ 32 * s.get BT_CNT_HI.COUNT t

/-- Put the count. -/
def State.setBtCount (s : State) (t v : Nat) : State :=
  (s.put BT_CNT_LO.COUNT (v % 2 ^ 32) t).put BT_CNT_HI.COUNT (v / 2 ^ 32) t

/-- TOP as last written. -/
def State.btTop (s : State) (t : Nat) : Nat := s.get BT_TOP_LO.TOP t + 2 ^ 32 * s.get BT_TOP_HI.TOP t

/-- CMPk as last written. -/
def State.btCmp (s : State) (t k : Nat) : Nat :=
  s.get (atCompare BT_CMP_LO0.CMP k) t + 2 ^ 32 * s.get (atCompare BT_CMP_HI0.CMP k) t

/-- MODE of compare k. -/
def State.btCmpMode (s : State) (t k : Nat) : Nat := s.get (atCompare BT_CCFG0.MODE k) t

/-- Preload values take effect (R331). -/
def State.preloadTransfer (s : State) (t : Nat) : State :=
  (List.range 4).foldl (fun u k => u.put CMP_ACT (u.btCmp t k) (4 * t + k)) (s.put TOP_ACT (s.btTop t) t)

/-! Owners (R325 to R327). -/

/-- R326: whether this master's owner writes are stored. -/
def State.btOwns (s : State) (m : Master) (t : Nat) : Bool :=
  let o := s.get BT_OWN.OWNER t
  m = .gatehouse || (o ≠ 7 && (s.asOwner m o || (m = .lodgeM && o = Master.lodgeU.code)))

/-- A write of the owner has its effect; any other is ignored and logged (R22, R652). -/
def State.btOwned (s : State) (m : Master) (t off : Nat) (k : State → State) : State :=
  if s.btOwns m t then k s else s.writeDenied m off 1

/-- The effect of a word written to BT_OWN[t] (R325, R327). -/
def wrBtOwn (m : Master) (t w : Nat) (s : State) : State :=
  let off := 0xA104 + 0x80 * t
  let claim (s : State) : State :=
    let o := s.get BT_OWN.OWNER t
    if m = .gatehouse then
      let s := s.put BT_OWN.OWNER (bits w 8 3) t
      s.raise Rc.BT_CLAIMED t (bits w 8 3)
    else if o = 7 then (s.put BT_OWN.OWNER m.code t).raise Rc.BT_CLAIMED t m.code
    else if o = m.code then s
    else s.refuse Rc.BT_TIMER_OWNED t m off
  let release (s : State) : State :=
    s.btOwned m t off fun s =>
      if s.flag BT_CTL.EN t then s.refuse Rc.BT_TIMER_ON t m off
      else (s.put BT_OWN.OWNER 7 t).raise Rc.BT_RELEASED t
  let s := if bit w 3 then claim s else s
  if bit w 4 then release s else s

/-- TIMER_CLAIM (R325): a write of CLAIM 1 with an ASSIGN code. -/
def execTimerClaim (m : Master) (t : Fin 16) (assign : BitVec 3) (s : State) : Out :=
  let w := 8 + 256 * assign.toNat
  live s fun s => s.onWrite m (0xA104 + 0x80 * t) w (wrBtOwn m t w)

/-- TIMER_RELEASE (R327): a write of RELEASE 1. -/
def execTimerRelease (m : Master) (t : Fin 16) (s : State) : Out :=
  live s fun s => s.onWrite m (0xA104 + 0x80 * t) 16 (wrBtOwn m t 16)

/-! Counting (R329 to R342). -/

/-- A match of compare k (R340, R341, R353). -/
def State.btMatch (s : State) (t k : Nat) : State :=
  let s := s.orBit BT_STAT.CMF k t
  let s := match s.btCmpMode t k with
    | 1 => s.orBit BT_STAT.OCLVL k t
    | 2 => s.andBit BT_STAT.OCLVL k t
    | 3 => if bit (s.get BT_STAT.OCLVL t) k then s.andBit BT_STAT.OCLVL k t else s.orBit BT_STAT.OCLVL k t
    | _ => s
  if s.mode = mDORMANT && bit (s.get BT_CTL.WAKE t) k then
    ((s.put BT_STAT.WOKE 1 t).put LF_MATCHED (if s.get LF_MATCHED = 0 then t + 1 else s.get LF_MATCHED)).raise Rc.BT_WAKE t k
  else s

/-- The count takes a value; each compare that it comes to matches (R340). -/
def State.btCountTo (s : State) (t v : Nat) : State :=
  if s.btCount t = v then s
  else
    (List.range 4).foldl (fun u k => if u.get CMP_ACT (4 * t + k) = v then u.btMatch t k else u) (s.setBtCount t v)

/-- A count input (R330): the state after it, and whether it overflows. -/
def State.btInput (s : State) (t : Nat) : State × Bool :=
  if s.btCount t = s.get TOP_ACT t then
    let s := (s.put BT_STAT.OVF 1 t).preloadTransfer t
    let s := if s.flag BT_CTL.ONESHOT t then s.put BT_CTL.RUN 0 t else s
    (s.btCountTo t 0, true)
  else (s.btCountTo t (s.btCount t + 1), false)

/-- A reset by an edge: count and prescaler clear, preload values transfer (Table BT-2). -/
def State.btZero (s : State) (t : Nat) : State := ((s.put BT_PSCNT 0 t).preloadTransfer t).btCountTo t 0

/-- R350: the timer is frozen. -/
def State.btFrozen (s : State) (t : Nat) : Bool := s.flag BT_CTL.FRZ t && s.flag PW_MODE.HALTED

/-- The trigger input of timer t (R337). -/
def State.btTrigger (s : State) (t : Nat) : Bool := s.flag RT_VAL (48 + t) != s.flag BT_CTL.TINV t

/-- A rising edge at the trigger input of an enabled timer that is not frozen (R338): whether it is a count input, and
whether it is a reset. A timer that it starts counts from the next tick. -/
def State.btEdge (s : State) (t : Nat) : State :=
  match s.get BT_CTL.SMODE t with
  | 2 => (s.put BT_STAT.TRG 1 t).btZero t
  | 3 => (s.put BT_STAT.TRG 1 t).put BT_CTL.RUN 1 t
  | _ => s

/-- Table BT-1: whether a tick brings a count input, before the slave mode; the prescaler advances. -/
def State.btSource (s : State) (t : Nat) (before lfxo : Bool) : State × Bool :=
  match s.get BT_CTL.CSRC t with
  | 0 => (s, true)
  | 1 =>
    if s.get BT_PSC.PSC t ≤ s.get BT_PSCNT t then (s.put BT_PSCNT 0 t, true)
    else (s.put BT_PSCNT (s.get BT_PSCNT t + 1) t, false)
  | 2 => (s, before)
  | 3 => (s, lfxo)
  | _ => (s, false)

/-- The levels that follow the count or INIT without a match (R341); a frozen timer holds its levels. -/
def State.btLevels (s : State) (t : Nat) : State :=
  (List.range 4).foldl (fun u k =>
    let v := match u.btCmpMode t k with
      | 0 | 6 => some (u.flag (atCompare BT_CCFG0.INIT k) t)
      | 4 => some (decide (u.btCount t < u.get CMP_ACT (4 * t + k)))
      | 5 => some (!decide (u.btCount t < u.get CMP_ACT (4 * t + k)))
      | _ => none
    match v with
    | some true => u.orBit BT_STAT.OCLVL k t
    | some false => u.andBit BT_STAT.OCLVL k t
    | none => u) s

/-- One tick of one timer (R329, Table BT-2): the state, whether it overflowed and whether it was reset. `rise` is an
edge at its trigger input, `before` the overflow of timer t − 1 at this tick. -/
def State.btTick (s : State) (t : Nat) (rise before lfxo : Bool) : State × Bool × Bool :=
  if !s.flag BT_CTL.EN t || s.btFrozen t then (s, false, false)
  else
    let mode := s.get BT_CTL.SMODE t
    let ran := s.flag BT_CTL.RUN t
    let r := if ran then s.btSource t before lfxo else (s, false)
    let input := if mode = 4 then ran && rise else if mode = 1 then r.2 && s.btTrigger t else r.2
    if rise && mode = 2 then ((r.1.btEdge t).btLevels t, false, true)
    else
      let u := if rise then r.1.btEdge t else r.1
      let v := if input then u.btInput t else (u, false)
      (v.1.btLevels t, v.2, false)

/-- The timer output (Table BT-3), and router source 80 + t. -/
def State.btDrive (s : State) (t : Nat) (ovf rst : Bool) : State :=
  let o := s.flag BT_CTL.EN t && match s.get BT_CTL.MMODE t with
    | 4 => ovf
    | 5 => s.flag BT_CTL.RUN t
    | 6 => rst
    | k => k < 4 && bit (s.get BT_STAT.OCLVL t) k
  (s.put BT_STAT.OUT (b2n o) t).setSource (80 + t) o

/-! Captures (R343 to R347). -/

/-- The fine time of the record of converter SRC − 128 (R347). -/
def State.btFine (s : State) (c : Nat) : State :=
  match s.list TT_REC (s.get BT_KCFG.SRC c - 128) with
  | [] => s
  | r :: _ =>
    let s := ((s.put BT_FINE0.TIME (bits r 0 32) c).put BT_FINE1.TIME (bits r 32 32) c).put BT_FINE2.TIME (bits r 64 16) c
    let s := ((s.put BT_FINE2.STALE_CAL (bits r 81 1) c).put BT_FINE2.HOLDOVER (bits r 82 1) c).put BT_FINE2.NOEPOCH
      (bits r 83 1) c
    ((s.put BT_FINE2.COARSE (bits r 84 1) c).put BT_FINE2.VALID 1 c).put BT_FINE2.EPOCH_GEN (bits r 88 8) c

/-- A capture of `count` on channel c = 2t + j (R345). -/
def State.btCapture (s : State) (c count : Nat) : State :=
  let t := c / 2
  let j := c % 2
  let again := bit (s.get BT_STAT.CAPF t) j
  let s := ((s.put BT_CAP_LO.COUNT (count % 2 ^ 32) c).put BT_CAP_HI.COUNT (count / 2 ^ 32) c).put BT_CAP_HI.VALID 1 c
  let s := s.orBit BT_STAT.CAPF j t
  let s := if again then
      let first := !bit (s.get BT_STAT.OVC t) j
      let s := (s.orBit BT_STAT.OVC j t).count BT_KCNT.OVER 1 c
      if first then s.raise Rc.BT_OVERCAPTURE (0x100 + c) else s
    else s
  let s := if s.flag BT_KCFG.FINE c then s.btFine c else s
  if s.flag BT_KCFG.CLR c then s.btZero t else s

/-- An accepted edge on channel c: every Nth captures (R344). -/
def State.btAccept (s : State) (c count : Nat) : State :=
  if s.get BT_KCFG.PSC c ≤ s.get KEDGES c then (s.put KEDGES 0 c).btCapture c count
  else s.put KEDGES (s.get KEDGES c + 1) c

/-- Whether EDGE of channel c selects a change to this level. -/
def State.btEdgeWanted (s : State) (c : Nat) (high : Bool) : Bool :=
  let e := s.get BT_KCFG.EDGE c
  e = 2 || (e = 0 && high) || (e = 1 && !high)

/-- Channel c of an enabled timer samples a level at a tick (R343). -/
def State.btSample (s : State) (c : Nat) (high : Bool) : State :=
  let filt := s.get BT_KCFG.FILT c
  let held := s.get KHELD c
  if !s.flag BT_KCFG.CEN c || !s.flag BT_CTL.EN (c / 2) then s.put KLAST (b2n high) c
  else if high = s.flag KLAST c then
    if held = 0 then s
    else
      let s := s.put KHELD 0 c
      if s.btEdgeWanted c (!high) then s.count BT_KCNT.REJECT 1 c else s
  else
    let s := if held = 0 then s.put KCOUNT (s.btCount (c / 2)) c else s
    if held < filt then s.put KHELD (held + 1) c
    else
      let s := (s.put KHELD 0 c).put KLAST (b2n high) c
      if s.btEdgeWanted c high then s.btAccept c (s.get KCOUNT c) else s

/-! The tick. -/

/-- One tick of all timers, with their trigger edges; the overflow of each timer reaches the next one at the same tick
(R334). -/
def State.btAll (s : State) (rise : Nat → Bool) (lfxo visible : Bool) : State :=
  ((List.range 16).foldl (fun (u : State × Bool) t =>
    let r := u.1.btTick t (rise t) u.2 lfxo
    (if visible then r.1.btDrive t r.2.1 r.2.2 else r.1, r.2.1)) (s, false)).1

/-- TIMER_TICK (R323, R329 to R350): the timer pace ticks; `lfxo` where an LFXO rising edge is recognised at this tick.
Inputs are sampled before the outputs of this tick change. -/
def execTimerTick (lfxo : Bool) (s : State) : Out :=
  live s fun s =>
    if s.get STAGE_FREQ 0 = 0 || s.mode = mDORMANT then s
    else
      let trig := s.btTrigger
      let level := fun c => s.flag SRC_VAL (s.get BT_KCFG.SRC c) && s.get BT_KCFG.SRC c ≠ 255
      let u := s.countTick.routerTick.btAll (fun t => trig t && !s.flag TRIG_LAST t) lfxo true
      let u := (List.range 32).foldl (fun v c => v.btSample c (level c)) u
      (List.range 16).foldl (fun v t => v.put TRIG_LAST (b2n (trig t)) t) u

/-- Whether timer t counts at a tick (R329, R350). -/
def State.btCounting (s : State) (t : Nat) : Bool :=
  s.flag BT_CTL.EN t && s.flag BT_CTL.RUN t && !s.btFrozen t && s.get RESETTING = 0 && s.mode ≠ mDORMANT

/-- TIMER_OVERFLOW (R330): a count input at TOP. -/
def execTimerOverflow (t : Fin 16) (s : State) : Out :=
  live s fun s =>
    if s.btCounting t && s.btCount t = s.get TOP_ACT t then
      let u := (s.btInput t).1.btLevels t
      u.btDrive t true false
    else s

/-- COMPARE_MATCH (R340, R341): a count input that takes the count to CMPk. -/
def execCompareMatch (t : Fin 16) (k : Fin 4) (s : State) : Out :=
  live s fun s =>
    let next := if s.btCount t = s.get TOP_ACT t then 0 else s.btCount t + 1
    if s.btCounting t && next = s.get CMP_ACT (4 * t + k) then
      let r := s.btInput t
      (r.1.btLevels t).btDrive t r.2 false
    else s

/-- TRIGGER_EDGE (R337, R338): the trigger input of timer t, low at the last tick, is high at this one. -/
def execTriggerEdge (t : Fin 16) (s : State) : Out :=
  live s fun s =>
    if s.btTrigger t && !s.flag TRIG_LAST t && s.mode ≠ mDORMANT then
      let r := s.btTick t true false false
      (r.1.btDrive t r.2.1 r.2.2).put TRIG_LAST 1 t
    else s

/-- CAPTURE (R344, R345): an accepted edge on capture channel j of timer t. -/
def execCapture (t : Fin 16) (j : Fin 2) (s : State) : Out :=
  live s fun s =>
    let c := 2 * t.val + j.val
    if s.flag BT_CTL.EN t && s.flag BT_KCFG.CEN c && s.mode ≠ mDORMANT then s.btAccept c (s.btCount t) else s

/-! Enabling and other writes (R332 to R336, R346 to R349). -/

/-- Table BT-4: the first check that refuses an enable. -/
def State.btCheck (s : State) (m : Master) (t : Nat) : Option (Rc × Nat) :=
  let chans := [2 * t, 2 * t + 1].filter fun c => s.flag BT_KCFG.CEN c
  let src := fun c => s.get BT_KCFG.SRC c
  if !s.unitMode m then some (Rc.BT_WRONG_MODE, s.mode)
  else if s.get CK_SYNSTAT.STATE 0 ≠ ckLOCKED && !s.flag SYN0_HOLD then some (Rc.BT_NO_PACE, t)
  else if 4 ≤ s.get BT_CTL.CSRC t || 5 ≤ s.get BT_CTL.SMODE t || s.get BT_CTL.MMODE t = 7 || s.btTop t = 0 then
    some (Rc.BT_RESERVED, t)
  else match (List.range 4).find? fun k => s.btCmpMode t k = 7 with
  | some k => some (Rc.BT_RESERVED, 0x200 + 4 * t + k)
  | none => match chans.find? fun c => s.get BT_KCFG.EDGE c = 3 || !routerSource (src c) with
  | some c => some (Rc.BT_RESERVED, 0x100 + c)
  | none =>
  if s.get BT_CTL.CSRC t = 2 && t = 0 then some (Rc.BT_NO_NEIGHBOUR, t)
  else if s.get BT_CTL.CSRC t = 3 && !bit (s.get CK_REFSTAT.PRESENT) 12 then some (Rc.BT_LFXO_ABSENT, t)
  else match chans.find? fun c =>
      s.get BT_KCFG.FILT c ≠ 0 && ((96 ≤ src c && src c ≤ 111) || (128 ≤ src c && src c ≤ 223)) with
  | some c => some (Rc.BT_CAP_FILTER, 0x100 + c)
  | none => match chans.find? fun c => s.flag BT_KCFG.FINE c && !(128 ≤ src c && src c ≤ 223) with
  | some c => some (Rc.BT_CAP_FINE, 0x100 + c)
  | none => none

/-- An accepted enable (R331, R341, R344, R348). -/
def State.btStart (s : State) (t run : Nat) : State :=
  let s := (((s.put BT_CTL.EN 1 t).put BT_CTL.RUN run t).put BT_PSCNT 0 t).preloadTransfer t
  let s := (List.range 4).foldl (fun u k =>
    if u.flag (atCompare BT_CCFG0.INIT k) t then u.orBit BT_STAT.OCLVL k t else u.andBit BT_STAT.OCLVL k t) s
  let s := [2 * t, 2 * t + 1].foldl (fun u c => (u.put KEDGES 0 c).put KHELD 0 c) s
  s.btDrive t false false

/-- EN clears (R349). -/
def State.btStop (s : State) (t : Nat) : State :=
  (((s.put BT_CTL.EN 0 t).put BT_CTL.RUN 0 t).put BT_PSCNT 0 t).btDrive t false false

/-- The fields of BT_CTL that cannot change while EN is 1 (R348). -/
def btLocked : List Field := [BT_CTL.CSRC, BT_CTL.SMODE, BT_CTL.TINV, BT_CTL.MMODE, BT_CTL.LFRUN, BT_CTL.WAKE]

/-- The effect of a word written to BT_CTL[t] (R332, R348, R349). -/
def wrBtCtl (m : Master) (t w : Nat) (s : State) : State :=
  let off := 0xA100 + 0x80 * t
  s.btOwned m t off fun s =>
    let free := [BT_CTL.ONESHOT, BT_CTL.PRELOAD, BT_CTL.FRZ]
    let store := fun (s : State) (l : List Field) => l.foldl (fun u f => u.put f (bits w f.lo f.width) t) s
    if s.flag BT_CTL.EN t then
      let s := if btLocked.any fun f => bits w f.lo f.width ≠ s.get f t then s.raise Rc.BT_TIMER_ON t else s
      let s := store s free
      if bit w 0 then
        let s := s.put BT_CTL.RUN (bits w 1 1) t
        if s.get BT_CTL.MMODE t = 5 then s.btDrive t false false else s
      else s.btStop t
    else
      let s := store s (free ++ btLocked)
      if bit w 0 then
        match s.btCheck m t with
        | some (c, obj) => s.refuse c obj m off
        | none => s.btStart t (bits w 1 1)
      else s.put BT_CTL.RUN 0 t

/-- TIMER_ENABLE (R348, R349): a write to BT_CTL[t]. -/
def execTimerEnable (m : Master) (t : Fin 16) (w : Word) (s : State) : Out :=
  live s fun s => s.onWrite m (0xA100 + 0x80 * t) w.toNat (wrBtCtl m t w.toNat)

/-- TIMER_RUN (R332): a write to BT_CTL[t] that leaves every other field as it is. -/
def execTimerRun (m : Master) (t : Fin 16) (on : Bool) (s : State) : Out :=
  let w := s.readReg BT_CTL.reg t
  let w := if on then setBit w 1 else clrBit w 1
  live s fun s => s.onWrite m (0xA100 + 0x80 * t) w (wrBtCtl m t w)

/-- A write to BT_PSC, BT_CCFG or BT_KCFG, which cannot change while EN is 1 (R348). -/
def wrBtLocked (m : Master) (r : Reg) (t i w : Nat) (s : State) : State :=
  s.btOwned m t (r.off + r.stride * i) fun s =>
    if s.flag BT_CTL.EN t then
      if r.fields.any fun f => bits w f.lo f.width ≠ s.get f i then s.raise Rc.BT_TIMER_ON t else s
    else r.fields.foldl (fun u f => u.put f (bits w f.lo f.width) i) s

/-- The effect of a word written to BT_STAT[t] (R326). -/
def wrBtStat (m : Master) (t w : Nat) (s : State) : State :=
  s.btOwned m t (0xA108 + 0x80 * t) fun s => s.writeReg m BT_STAT.reg t w

/-- The effect of a word written to BT_IE[t]. -/
def wrBtIe (m : Master) (t w : Nat) (s : State) : State :=
  s.btOwned m t (0xA10C + 0x80 * t) fun s => s.put BT_IE.IE (bits w 0 12) t

/-- The 48-bit value that a _HI write brings, with the low half of the writer's hold or as it stands (R19). -/
def State.pairValue (s : State) (m : Master) (lo low w : Nat) : Nat := (s.heldLow m lo).getD low + 2 ^ 32 * (w % 2 ^ 16)

/-- The effect of a word written to BT_CNT_HI[t] (R335). -/
def wrBtCntHi (m : Master) (t w : Nat) (s : State) : State :=
  let lo := 0xA110 + 0x80 * t
  s.btOwned m t (lo + 4) fun s =>
    let v := s.pairValue m lo (s.get BT_CNT_LO.COUNT t) w
    ((s.dropHold m lo).setBtCount t v).put BT_PSCNT 0 t

/-- COUNT_LOAD (R335): the write of BT_CNT_HI[t] that completes the pair. -/
def execCountLoad (m : Master) (t : Fin 16) (w : Word) (s : State) : Out :=
  live s fun s => s.onWrite m (0xA114 + 0x80 * t) w.toNat (wrBtCntHi m t w.toNat)

/-- The effect of a word written to BT_TOP_HI[t] (R331). -/
def wrBtTopHi (m : Master) (t w : Nat) (s : State) : State :=
  let lo := 0xA118 + 0x80 * t
  s.btOwned m t (lo + 4) fun s =>
    let v := s.pairValue m lo (s.get BT_TOP_LO.TOP t) w
    let s := ((s.dropHold m lo).put BT_TOP_LO.TOP (v % 2 ^ 32) t).put BT_TOP_HI.TOP (v / 2 ^ 32) t
    if s.flag BT_CTL.PRELOAD t then s else s.put TOP_ACT v t

/-- The effect of a word written to BT_CMP_HI[t][k] (R331). -/
def wrBtCmpHi (m : Master) (t k w : Nat) (s : State) : State :=
  let lo := 0xA134 + 0x80 * t + 0x10 * k
  s.btOwned m t (lo + 4) fun s =>
    let v := s.pairValue m lo (s.get (atCompare BT_CMP_LO0.CMP k) t) w
    let s := ((s.dropHold m lo).put (atCompare BT_CMP_LO0.CMP k) (v % 2 ^ 32) t).put (atCompare BT_CMP_HI0.CMP k)
      (v / 2 ^ 32) t
    if s.flag BT_CTL.PRELOAD t then s else s.put CMP_ACT v (4 * t + k)

/-- The effect of a word written to BT_GO (R333): STOP wins over START; bits of timers that the writer does not own are
ignored and logged once. -/
def wrBtGo (m : Master) (w : Nat) (s : State) : State :=
  let named := (List.range 16).filter fun t => bit w t || bit w (16 + t)
  let s1 := if named.all fun t => s.btOwns m t then s else s.writeDenied m 0xA004 1
  (named.filter fun t => s.btOwns m t).foldl (fun u t =>
    let u := u.put BT_CTL.RUN (b2n (!bit w (16 + t))) t
    if u.get BT_CTL.MMODE t = 5 then u.btDrive t false false else u) s1

/-- BT_GO (R333): a write to BT_GO. -/
def execBtGo (m : Master) (start stop : BitVec 16) (s : State) : Out :=
  let w := start.toNat + 2 ^ 16 * stop.toNat
  live s fun s => s.onWrite m 0xA004 w (wrBtGo m w)

/-- The effect of a word written to BT_SNAPCMD (R336). -/
def wrBtSnap (w : Nat) (s : State) : State :=
  (List.range 16).foldl (fun u t =>
    if bit w t then
      (u.put BT_SNAP_LO.COUNT (u.get BT_CNT_LO.COUNT t) t).put BT_SNAP_HI.COUNT (u.get BT_CNT_HI.COUNT t) t
    else u) s

/-- SNAPSHOT (R336): a write to BT_SNAPCMD. -/
def execSnapshot (m : Master) (mask : BitVec 16) (s : State) : Out :=
  live s fun s => s.onWrite m 0xA008 mask.toNat (wrBtSnap mask.toNat)

/-- A read of BT_CAP_LO of channel c (R346): CAPF clears and the other words are latched, but not by a peek read. -/
def rdCapLo (m : Master) (c : Nat) (s : State) : Nat × State :=
  let v := s.get BT_CAP_LO.COUNT c
  if s.peeks m then (v, s)
  else
    let off := 0xA904 + 0x20 * c
    let t := s.andBit BT_STAT.CAPF (c % 2) (c / 2)
    let t := (t.latchHigh m off (s.readReg BT_CAP_HI.reg c)).latchHigh m (off + 8) (s.get BT_FINE0.TIME c)
    (v, (t.latchHigh m (off + 12) (s.get BT_FINE1.TIME c)).latchHigh m (off + 16) (s.readReg BT_FINE2.reg c))

/-- CAP_LO_READ (R346). -/
def execCapLoRead (m : Master) (t : Fin 16) (j : Fin 2) (s : State) : Out :=
  live s fun s =>
    let c := 2 * t.val + j.val
    let r := s.onRead m (0xA904 + 0x20 * c) (rdCapLo m c)
    r.2.emit .busData [m.code, r.1]

/-! The LF step of DORMANT (R351 to R353). -/

/-- One of the ticks that an LF step stands for: stepped timers only, trigger inputs held, no output visible. -/
def State.lfTick (s : State) (lfxo : Bool) : State :=
  ((List.range 16).foldl (fun (u : State × Bool) t =>
    if u.1.flag LF_LIVE t then
      let r := u.1.btTick t false u.2 lfxo
      (r.1, r.2.1)
    else (u.1, false)) (s, false)).1

/-- An LF step: 9,765 or 9,766 ticks by the accumulator; an LFXO timer takes one count input (R351, R352). -/
def State.lfStep (s : State) : State :=
  let a := s.get LF_ACC + 5
  let n := if 8 ≤ a then 9766 else 9765
  let s := s.put LF_ACC (a % 8)
  let s := (List.range (n - 1)).foldl (fun u _ => u.lfTick false) (s.lfTick true)
  (List.range 16).foldl (fun u t => if u.flag LF_LIVE t then u.put BT_STAT.LFD 1 t else u) s

end Sys2Proof.Machine
end

