-- ==== Sys2Proof/Machine/Orangery.lean ====
section
/-! DEFINITION. spec/10: the Orangery. What a job computes is done when the engine runs it to its end or to its next
wait; what the spec gives only up to an error (R374) is a free function of the descriptor and the inputs (R359). -/

namespace Sys2Proof.Machine

/-- Descriptor words of the job of context c (R366). -/
def OG_DESC : Fifo := ⟨13⟩
/-- Input words popped so far by the job of context c (R376). -/
def OG_INW : Fifo := ⟨14⟩
/-- Words that the job of context c has still to push (R377). -/
def OG_PUSHQ : Fifo := ⟨15⟩
/-- Contexts in READY, longest waiting first (R380). -/
def OG_WAITERS : Fifo := ⟨16⟩

/-- OG_CSTAT.STATE codes. -/
def ogOFF : Nat := 0
def ogIDLE : Nat := 1
def ogREADY : Nat := 2
def ogRUN : Nat := 3
def ogWAIT_IN : Nat := 4
def ogWAIT_OUT : Nat := 5
def ogHALTED : Nat := 6

/-- STATE of context c. -/
def State.ogState (s : State) (c : Nat) : Nat := s.get OG_CSTAT.STATE c

/-- A context holds a job. -/
def State.ogBusy (s : State) (c : Nat) : Bool := 2 ≤ s.ogState c && s.ogState c ≤ 5

/-- The queue party of context c (Table QM-1). -/
def ogWho (c : Nat) : Nat := 128 + c

/-! Formats (Table OG-3). -/

/-- Element width. -/
def fmtWidth (f : Nat) : Nat := match f with | 0 => 64 | 1 | 2 | 3 => 32 | _ => 16
/-- Whether a format is complex. -/
def fmtComplex (f : Nat) : Bool := f < 3
/-- Elements in a word. -/
def fmtPer (f : Nat) : Nat := 64 / fmtWidth f
/-- words(n) (R367). -/
def fmtWords (f n : Nat) : Nat := (n + fmtPer f - 1) / fmtPer f
/-- Whether the parts of a format are 32 bits wide. -/
def fmtWide (f : Nat) : Bool := f = 0 || f = 3

/-- A complex number. -/
abbrev Cx := Num × Num

/-- One part of an element. -/
def decodePart (f w : Nat) : Num :=
  if f = 0 || f = 3 then decodeFloat 23 w else if f = 1 || f = 4 then decodeFloat 7 w else decodeQ15 w

/-- An element as a complex number; the imaginary part of a real one is 0. -/
def decodeElem (f w : Nat) : Cx :=
  if fmtComplex f then
    let h := fmtWidth f / 2
    (decodePart f (bits w 0 h), decodePart f (bits w h h))
  else (decodePart f w, .zero false)

/-- Element patterns of an area, n of them (R367). -/
def areaElems (f n : Nat) (ws : List Nat) : List Nat :=
  (List.range n).map fun i => bits (ws.getD (i / fmtPer f) 0) (fmtWidth f * (i % fmtPer f)) (fmtWidth f)

/-- Elements packed into words; the spec leaves open what fills the rest of the last word: `pad`. -/
def packElems (f pad : Nat) (es : List Nat) : List Nat :=
  (List.range (fmtWords f es.length)).map fun j =>
    ((List.range (fmtPer f)).map fun i =>
      let k := j * fmtPer f + i
      (if k < es.length then es.getD k 0 else bits pad (fmtWidth f * i) (fmtWidth f)) * 2 ^ (fmtWidth f * i)).sum

/-- One part encoded: pattern, overflow, no number (R373). -/
def encodePart (f nanBits : Nat) (x : Num) : Nat × Bool × Bool :=
  if f = 0 || f = 3 then encodeFloat 23 nanBits x
  else if f = 1 || f = 4 then encodeFloat 7 nanBits x
  else encodeQ15 nanBits x

/-- An element encoded. -/
def encodeElem (f nanBits : Nat) (x : Cx) : Nat × Bool × Bool :=
  let a := encodePart f nanBits x.1
  if fmtComplex f then
    let b := encodePart f (nanBits / 2 ^ 32) x.2
    (a.1 + 2 ^ (fmtWidth f / 2) * b.1, a.2.1 || b.2.1, a.2.2 || b.2.2)
  else a

/-- Whether an element has a part that is no number. -/
def elemNan (f w : Nat) : Bool := (decodeElem f w).1 = .nan || (decodeElem f w).2 = .nan

/-! Descriptors (Table OG-2, Table OG-4). -/

/-- A job descriptor by its words W0 to W7. -/
abbrev Desc := List Nat

def Desc.w (d : Desc) (i : Nat) : Nat := d.getD i 0
def Desc.op (d : Desc) : Nat := bits (d.w 0) 0 8
def Desc.fin (d : Desc) : Nat := bits (d.w 0) 8 4
def Desc.fout (d : Desc) : Nat := bits (d.w 0) 12 4
def Desc.srcStream (d : Desc) : Bool := bit (d.w 0) 16
def Desc.dstStream (d : Desc) : Bool := bit (d.w 0) 17
def Desc.cont (d : Desc) : Bool := bit (d.w 0) 19
def Desc.cplxCoef (d : Desc) : Bool := bit (d.w 0) 20
def Desc.tag (d : Desc) : Nat := bits (d.w 0) 24 8
def Desc.n (d : Desc) : Nat := bits (d.w 1) 0 32
def Desc.m (d : Desc) : Nat := bits (d.w 1) 32 32
def Desc.src (d : Desc) : Nat := bits (d.w 2) 0 18
def Desc.dst (d : Desc) : Nat := bits (d.w 3) 0 18
def Desc.coef (d : Desc) : Nat := bits (d.w 4) 0 18
def Desc.aux (d : Desc) : Nat := bits (d.w 5) 0 18
def Desc.dec (d : Desc) : Nat := bits (d.w 5) 32 7
def Desc.interp (d : Desc) : Nat := bits (d.w 5) 40 7
def Desc.freq (d : Desc) : Nat := bits (d.w 6) 0 32
def Desc.phase (d : Desc) : Nat := bits (d.w 6) 32 32

/-- OP codes. -/
def fnFFT : Nat := 1
def fnIFFT : Nat := 2
def fnFIR : Nat := 3
def fnMIX : Nat := 4
def fnNCO : Nat := 5
def fnWIN : Nat := 6
def fnMAG : Nat := 7
def fnLOGPOW : Nat := 8
def fnMATVEC : Nat := 9
def fnLOAD : Nat := 10
def fnSTORE : Nat := 11

/-- FFT or IFFT. -/
def Desc.isFft (d : Desc) : Bool := d.op = fnFFT || d.op = fnIFFT

/-- History elements of a FIR (R370). -/
def Desc.history (d : Desc) : Nat := (d.m - 1 + d.interp - 1) / d.interp

/-- Output elements. -/
def Desc.outs (d : Desc) : Nat :=
  if d.op = fnFIR then d.n * d.interp / d.dec else if d.op = fnMATVEC then d.m else d.n

/-- Input words (R376). -/
def Desc.inWords (d : Desc) : Nat :=
  if d.op = fnLOAD || d.op = fnSTORE then d.n else if d.op = fnNCO then 0 else fmtWords d.fin d.n

/-- Output words. -/
def Desc.outWords (d : Desc) : Nat :=
  if d.op = fnLOAD || d.op = fnSTORE then d.n else fmtWords d.fout d.outs

/-- Coefficient elements. -/
def Desc.coefs (d : Desc) : Nat :=
  if d.op = fnFIR then d.m else if d.op = fnWIN then d.n else if d.op = fnMATVEC then d.m * d.n else 0

/-- The format of the coefficients. -/
def Desc.coefFmt (d : Desc) : Nat := if d.cplxCoef && d.op ≠ fnWIN then 0 else 3

/-- The used areas, offset and words: SRC, DST, COEF, AUX (R375). -/
def Desc.areas (d : Desc) : List (Nat × Nat) :=
  let src := if !d.srcStream && d.op ≠ fnNCO && d.op ≠ fnLOAD then [(d.src, d.inWords)] else []
  let dst := if !d.dstStream && d.op ≠ fnSTORE then [(d.dst, d.outWords)] else []
  let coef := if d.coefs ≠ 0 then [(d.coef, fmtWords d.coefFmt d.coefs)] else []
  let aux := if d.isFft && d.dstStream then [(d.aux, d.outWords)]
    else if d.op = fnFIR && d.cont then [(d.aux, fmtWords d.fin d.history)] else []
  src ++ dst ++ coef ++ aux

/-- Reserved bits of Table OG-2 are not 0. -/
def Desc.reservedSet (d : Desc) : Bool :=
  bits (d.w 0) 21 3 ≠ 0 || bits (d.w 0) 32 32 ≠ 0 || bits (d.w 2) 18 46 ≠ 0 || bits (d.w 3) 18 46 ≠ 0 ||
    bits (d.w 4) 18 46 ≠ 0 || bits (d.w 5) 18 14 ≠ 0 || bits (d.w 5) 39 1 ≠ 0 || bits (d.w 5) 47 17 ≠ 0

/-- Formats that Table OG-4 allows. -/
def Desc.formatOk (d : Desc) : Bool :=
  let i := d.fin
  let o := d.fout
  if d.op = fnLOAD || d.op = fnSTORE then true
  else if d.op = fnNCO then o < 3
  else if 6 ≤ i || 6 ≤ o then false
  else if d.isFft then i < 3 && o = i
  else if d.op = fnFIR then fmtWide i = fmtWide o && fmtComplex o = (fmtComplex i || d.cplxCoef)
  else if d.op = fnMIX then fmtComplex o
  else if d.op = fnWIN then fmtComplex o = fmtComplex i
  else if d.op = fnMAG then fmtComplex i && (o = 3 || o = 4)
  else if d.op = fnLOGPOW then o = 3
  else (i = 0 || i = 3) && o = (if i = 0 || d.cplxCoef then 0 else 3)

/-- N, M, DEC and INTERP that Table OG-4 allows. -/
def Desc.sizeOk (d : Desc) : Bool :=
  let n := d.n
  let m := d.m
  if d.isFft then 16 ≤ n && n ≤ 65536 && 2 ^ Nat.log2 n = n && m = 0
  else if d.op = fnFIR then
    1 ≤ d.dec && d.dec ≤ 64 && 1 ≤ d.interp && d.interp ≤ 64 && (d.dec = 1 || d.interp = 1) && 1 ≤ n && n ≤ 65536 &&
      n % d.dec = 0 && 1 ≤ m && m ≤ 4096
  else if d.op = fnMATVEC then 1 ≤ n && n ≤ 256 && 1 ≤ m && m ≤ 256
  else 1 ≤ n && n ≤ 65536 && m = 0

/-- STREAM bits that Table OG-6 refuses. -/
def Desc.streamBad (d : Desc) (dqEn : Bool) : Bool :=
  (d.srcStream && !dqEn) || (d.op = fnLOAD && (!d.srcStream || d.dstStream)) ||
    (d.op = fnSTORE && (d.srcStream || !d.dstStream)) || (d.op = fnNCO && d.srcStream)

/-- Whether two areas meet. -/
def meetAreas (a b : Nat × Nat) : Bool := a.1 < b.1 + b.2 && b.1 < a.1 + a.2

/-- Whether some pair of a list of areas meets. -/
def anyMeet : List (Nat × Nat) → Bool
  | [] => false
  | a :: r => r.any (meetAreas a) || anyMeet r

/-- Used areas overlap where Table OG-6 does not allow it: SRC equal to DST counts once. -/
def Desc.overlap (d : Desc) : Bool :=
  let same := !d.srcStream && !d.dstStream && d.src = d.dst && d.fin = d.fout &&
    (d.isFft || d.op = fnMIX || d.op = fnWIN)
  anyMeet (if same then d.areas.drop 1 else d.areas)

/-- Table OG-6 after the framing row. -/
def Desc.check (d : Desc) (dqEn : Bool) (size : Nat) : Option Rc :=
  if d.reservedSet then some Rc.OG_DESC_RESERVED
  else if d.op = 0 || 11 < d.op then some Rc.OG_BAD_OP
  else if !d.formatOk then some Rc.OG_BAD_FORMAT
  else if !d.sizeOk then some Rc.OG_BAD_SIZE
  else if d.streamBad dqEn then some Rc.OG_NO_STREAM
  else if d.areas.any fun a => size < a.1 + a.2 then some Rc.OG_ADDR_RANGE
  else if d.overlap then some Rc.OG_ADDR_OVERLAP
  else none

/-! What a job computes (R369 to R374). -/

/-- The result of a job: output words, the new history words of a FIR, OVF, NAN, BEXP. -/
structure OgResult where
  out : List Nat
  hist : List Nat
  ovf : Bool
  nan : Bool
  bexp : Nat
  deriving DecidableEq, Repr

/-- A free value of a job: a function of its descriptor and inputs. -/
def ogFree (d : Desc) (ins : List Nat) (i : Nat) : Nat := Config.orangery d ins i

/-- A sum of products as an accumulator of at least 64 bits may hold it: within 2 ^ −60 of the sum of the products'
magnitudes (R373, Table OG-5); `r` chooses. -/
def looseSum (ps : List Num) (r : Nat) : Num :=
  let exact := ps.foldl Num.add (.zero true)
  match ps.foldl (fun (a : Num) p => a.add p.abs) (.zero false) with
  | .fin m e => exact.add (Num.mk (m * ((r % (2 ^ 64 + 1) : Nat) - 2 ^ 63)) (e - 123))
  | _ => exact

/-- One output of a sum of complex products. -/
def ogDot (d : Desc) (ins : List Nat) (i : Nat) (terms : List (Cx × Cx)) (coefCx : Bool) : Nat × Bool × Bool :=
  let re := terms.flatMap fun t =>
    if coefCx then [t.1.1.mul t.2.1, (t.1.2.mul t.2.2).neg] else [t.1.1.mul t.2.1]
  let im := terms.flatMap fun t =>
    if coefCx then [t.1.1.mul t.2.2, t.1.2.mul t.2.1] else [t.1.1.mul t.2.2]
  encodeElem d.fout (ogFree d ins (4 * i)) (looseSum re (ogFree d ins (4 * i + 1)), looseSum im (ogFree d ins (4 * i + 2)))

/-- Output elements into words with their flags. -/
def ogPack (d : Desc) (ins hist : List Nat) (es : List (Nat × Bool × Bool)) (nan : Bool) : OgResult :=
  { out := packElems d.fout (ogFree d ins (2 ^ 40)) (es.map fun e => e.1), hist := hist,
    ovf := es.any fun e => e.2.1, nan := nan || es.any fun e => e.2.2, bexp := 0 }

/-- What the functions given only within an error answer: free output words; NAN for a NaN that goes in or comes out. -/
def ogOpen (d : Desc) (ins : List Nat) (nanIn : Bool) : OgResult :=
  let es := (List.range d.outs).map fun i => ogFree d ins (4 * i) % 2 ^ fmtWidth d.fout
  { out := packElems d.fout (ogFree d ins (2 ^ 40)) es, hist := [], ovf := bit (ogFree d ins (2 ^ 40 + 1)) 0,
    nan := nanIn || es.any (elemNan d.fout),
    bexp := if d.isFft && d.fin = 2 then ogFree d ins (2 ^ 40 + 2) % (Nat.log2 d.n + 1) else 0 }

/-- The arithmetic of a job on its input, coefficient and history words. -/
def ogCompute (d : Desc) (phase : Nat) (src coef hist : List Nat) : OgResult :=
  let ins := src ++ coef ++ hist ++ [phase]
  let xs := areaElems d.fin d.n src
  let hs := (areaElems d.coefFmt d.coefs coef).map (decodeElem d.coefFmt)
  let nanIn := d.op ≠ fnNCO && xs.any (elemNan d.fin)
  if d.op = fnLOAD || d.op = fnSTORE then { out := src, hist := [], ovf := false, nan := false, bexp := 0 }
  else if d.op = fnFIR then
    let h := d.history
    let old := if d.cont then areaElems d.fin h hist else List.replicate h 0
    let all := old ++ xs
    let u (j : Int) : Cx :=
      if j % d.interp = 0 then decodeElem d.fin (all.getD (j / d.interp + h).toNat 0) else (.zero false, .zero false)
    let es := (List.range d.outs).map fun i =>
      ogDot d ins i ((List.range d.m).map fun k => (hs.getD k (.zero false, .zero false), u ((i * d.dec : Nat) - (k : Int))))
        d.cplxCoef
    ogPack d ins (packElems d.fin (ogFree d ins (2 ^ 40 + 3)) (all.drop d.n)) es nanIn
  else if d.op = fnMATVEC then
    let x := xs.map (decodeElem d.fin)
    let es := (List.range d.m).map fun r => ogDot d ins r (((hs.drop (r * d.n)).take d.n).zip x) d.cplxCoef
    ogPack d ins [] es nanIn
  else if d.op = fnWIN then
    let es := ((xs.map (decodeElem d.fin)).zip hs).zipIdx.map fun p =>
      encodeElem d.fout (ogFree d ins (4 * p.2)) (p.1.1.1.mul p.1.2.1, p.1.1.2.mul p.1.2.1)
    ogPack d ins [] es nanIn
  else if d.op = fnMAG then
    let es := (xs.map (decodeElem d.fin)).zipIdx.map fun p =>
      encodeRoot (if d.fout = 3 then 23 else 7) (ogFree d ins (4 * p.2)) ((p.1.1.mul p.1.1).add (p.1.2.mul p.1.2))
    ogPack d ins [] es nanIn
  else ogOpen d ins nanIn

/-! The workspace (R360, R364, R387). -/

/-- First word of the region of context c. -/
def State.ogBase (s : State) (c : Nat) : Nat := 512 * s.get OG_CWS.BASE c

/-- Write a workspace word with its check bits. -/
def State.wsWrite (s : State) (a v : Nat) : State :=
  s.store .workspace a (v % 2 ^ 64 + 2 ^ 64 * eccOf (v % 2 ^ 64))

/-- The checked word at a workspace address. -/
def State.wsLook (s : State) (a : Nat) : EccWord :=
  let w := s.load .workspace a
  eccDecode (w % 2 ^ 64) (w / 2 ^ 64 % 256)

/-- What a read of a workspace word leaves (R387); obj is the context, or 0xFFFF. -/
def State.wsRead (s : State) (a obj : Nat) : EccWord × State :=
  let r := s.wsLook a
  match r.kind with
  | .clean => (r, s)
  | .corrected =>
    let t := (s.store .workspace a (r.data + 2 ^ 64 * r.chk)).count OG_ECC.CE 1
    (r, if s.flag OG_IRQ.CE then t else (t.put OG_IRQ.CE 1).raise Rc.OG_WS_CE obj a)
  | .uncorrectable => (r, ((s.count OG_ECC.UE 1).put OG_IRQ.UE 1).raise Rc.OG_WS_UE obj a)

/-- Read n words from address a for context c: the words, whether one was corrected, whether one could not be. -/
def wsReadRun : Nat → Nat → Nat → State → List Nat × Bool × Bool × State
  | 0, _, _, s => ([], false, false, s)
  | n + 1, a, c, s =>
    let r := s.wsRead a c
    if r.1.kind = .uncorrectable then ([], false, true, r.2)
    else
      let q := wsReadRun n (a + 1) c r.2
      (r.1.data :: q.1, q.2.1 || r.1.kind = .corrected, q.2.2.1, q.2.2.2)

/-- Write words from address a. -/
def State.wsWriteRun (s : State) (a : Nat) (ws : List Nat) : State :=
  ws.zipIdx.foldl (fun u p => u.wsWrite (a + p.2) p.1) s

/-- The context whose busy region holds a word (R364). -/
def State.wsOwner (s : State) (a : Nat) : Option Nat :=
  (List.range 64).find? fun c => s.ogBusy c && s.ogBase c ≤ a && a < s.ogBase c + 512 * s.get OG_CWS.SIZE c

/-- WADDR after an access with INC 1. -/
def State.wsStep (s : State) : State :=
  if s.flag OG_WSADDR.INC then s.put OG_WSADDR.WADDR (s.get OG_WSADDR.WADDR + 1) else s

/-- A read of OG_WSDATA_LO (R364). -/
def rdWsDataLo (m : Master) (s : State) : Nat × State :=
  let a := s.get OG_WSADDR.WADDR
  if s.peeks m then ((s.wsLook a).data % 2 ^ 32, s)
  else
    match s.wsOwner a with
    | some c => (0, (s.put OG_WSSTAT.REFUSED 1).raise Rc.OG_WS_BUSY c)
    | none =>
      let r := s.wsRead a 0xFFFF
      let t := (r.2.put OG_WSSTAT.CE (b2n (r.1.kind = .corrected))).put OG_WSSTAT.UE (b2n (r.1.kind = .uncorrectable))
      (r.1.data % 2 ^ 32, (t.latchHigh m 0x18024 (r.1.data / 2 ^ 32)).wsStep)

/-- The effect of a word written to OG_WSDATA_HI (R364): the low half from the writer's hold, or unchanged (R19). -/
def wrWsDataHi (m : Master) (w : Nat) (s : State) : State :=
  let a := s.get OG_WSADDR.WADDR
  let low := (s.heldLow m 0x18024).getD ((s.wsLook a).data % 2 ^ 32)
  let s := s.dropHold m 0x18024
  match s.wsOwner a with
  | some c => (s.put OG_WSSTAT.REFUSED 1).raise Rc.OG_WS_BUSY c
  | none => (s.wsWrite a (low + 2 ^ 32 * (w % 2 ^ 32))).wsStep

/-- WS_INDIRECT_READ (R364). -/
def execWsIndirectRead (m : Master) (s : State) : Out :=
  live s fun s =>
    let r := s.onRead m 0x18024 (rdWsDataLo m)
    r.2.emit .busData [m.code, r.1]

/-- WS_INDIRECT_WRITE (R364). -/
def execWsIndirectWrite (m : Master) (w : Word) (s : State) : Out :=
  live s fun s => s.onWrite m 0x18028 w.toNat (wrWsDataHi m w.toNat)

/-! The scheduler (R379 to R383). -/

/-- CLASS of context c: 0 URGENT, 1 NORMAL, 2 BULK. -/
def State.ogClass (s : State) (c : Nat) : Nat := s.get OG_CCFG.CLASS c

/-- The next ready context of a class, in ascending number after the one last served. -/
def State.ogInClass (s : State) (k : Nat) : Option Nat :=
  ((List.range 64).map fun i => (s.get OG_SERVED k + 1 + i) % 64).find? fun c => s.ogState c = ogREADY && s.ogClass c = k

/-- The ready NORMAL or BULK context that has waited longest, where aging is on. Whether it has waited beyond AGE_T is
left to a free value: the model keeps no clock for it. (DEDUCED, log entry 42.) -/
def State.ogAged (s : State) : Option Nat :=
  if s.get OG_SCHED.AGE_T = 0 || s.fresh 1 = 0 then none
  else (s.list OG_WAITERS).find? fun c => s.ogClass c ≠ 0

/-- R380: the context chosen at a decision point. -/
def State.ogChoice (s : State) : Option Nat :=
  (s.ogInClass 0).orElse fun _ => s.ogAged.orElse fun _ => (s.ogInClass 1).orElse fun _ => s.ogInClass 2

/-- A decision point: an idle engine takes the choice, in RUN (R363, R380). -/
def State.ogSchedule (s : State) : State :=
  if s.flag OG_STAT.ACTIVE || s.mode ≠ mRUN || s.get DM_STEP = 2 then s
  else
    match s.ogChoice with
    | none => s.drawn
    | some c =>
      let s := ((s.drawn.put OG_CSTAT.STATE ogRUN c).put OG_STAT.CUR c).put OG_STAT.ACTIVE 1
      ((s.put OG_SERVED c (s.ogClass c)).put OG_DUE 0).setList OG_WAITERS ((s.list OG_WAITERS).erase c)

/-- A context becomes ready: it is scheduled on an idle engine; URGENT preempts another class at once (R380, R381). -/
def State.ogReady (s : State) (c : Nat) : State :=
  let s := (s.put OG_CSTAT.STATE ogREADY c).enq OG_WAITERS c
  if s.flag OG_STAT.ACTIVE then
    if s.ogClass c = 0 && s.ogClass (s.get OG_STAT.CUR) ≠ 0 then s.put OG_DUE 1 else s
  else s.ogSchedule

/-- The context leaves the engine or the ready list for a state. -/
def State.ogLeave (s : State) (c st : Nat) : State :=
  let held := s.ogState c = ogRUN
  let s := (s.put OG_CSTAT.STATE st c).setList OG_WAITERS ((s.list OG_WAITERS).erase c)
  if held then (s.put OG_STAT.ACTIVE 0).put OG_DUE 0 else s

/-! Ending a job (R377, R384, R385). -/

/-- The status word (Table OG-7). -/
def State.ogStatus (s : State) (c : Nat) : Nat :=
  s.get OG_CODE c + 2 ^ 16 * s.get OG_FLAGS c + 2 ^ 32 * s.get OG_OUTN c + 2 ^ 56 * c

/-- The cookie of the job. -/
def State.ogCookie (s : State) (c : Nat) : Nat := s.get OG_CCOOKIE_LO.COOKIE c + 2 ^ 32 * s.get OG_CCOOKIE_HI.COOKIE c

/-- An error ending: ERR, LAST, JOB_ERR and the record of the first since JOB_ERR was cleared (R384). -/
def State.ogError (s : State) (c : Nat) (code : Rc) (detail : Nat) : State :=
  let first := !s.flag OG_IRQ.JOB_ERR
  let s := ((s.count OG_CJOBS.ERR 1 c).put OG_CSTAT.LAST code.num c).put OG_IRQ.JOB_ERR 1
  if first then s.raise code c detail else s

/-- The ending codes, as reason codes. -/
def ogRc (n : Nat) : Rc :=
  if n = 0x090F then Rc.OG_INPUT_UE else if n = 0x0911 then Rc.OG_WS_UE else if n = 0x0912 then Rc.OG_RESULT_TRUNC
  else ⟨n, 1⟩

/-- The context has no job. -/
def State.ogForget (s : State) (c : Nat) : State :=
  let s := ((s.setList OG_DESC [] c).setList OG_INW [] c).setList OG_PUSHQ [] c
  let s := (((s.put OG_CODE 0 c).put OG_OUTN 0 c).put OG_PHASE 0 c).put OG_FLAGS 0 c
  (((s.put OG_OPENED 0 c).put OG_PUSHED 0 c).put OG_TAG 0 c).put OG_ABORTING 0 c

/-- Release the bindings of context c and enter OFF (R362). -/
def State.ogRelease (s : State) (c : Nat) : State :=
  let s := (s.unbindConsumer (ogWho c) (s.get OG_CQ.JQ c)).unbindConsumer (ogWho c) (s.get OG_CQ.DQ c)
  (s.unbindProducer (ogWho c) (s.get OG_CQ.RQ c)).put OG_CSTAT.STATE ogOFF c

/-- The job is over: it is counted and reported, and the engine chooses again. -/
def State.ogDone (s : State) (c : Nat) : State :=
  let code := s.get OG_CODE c
  let good := code = 0x0900
  let ovf := bit (s.get OG_FLAGS c) 0
  let cookie := s.ogCookie c
  let first := !s.flag OG_IRQ.OVF
  let s := if good then s.count OG_CJOBS.DONE 1 c else s.ogError c (ogRc code) cookie
  let s := if ovf then (if first then (s.put OG_IRQ.OVF 1).raise Rc.OG_OVERFLOW c cookie else s) else s
  let halt := !good && s.flag OG_CCFG.STOP_ON_ERR c
  let s := (s.ogForget c).ogLeave c ogIDLE
  let s := if !s.flag OG_CCFG.EN c then s.ogRelease c
    else if halt then ((s.put OG_CSTAT.STATE ogHALTED c).put OG_IRQ.HALT 1).raise Rc.OG_HALTED c
    else s
  s.ogSchedule

/-- One operation of the context on its result lane; none where it must wait (R187, R195, R570). -/
def State.ogPush (s : State) (c op data : Nat) : Option (Nat × State) :=
  let o : QOp := { who := ogWho c, queue := s.get OG_CQ.RQ c, op := op, lane := s.get OG_CQ.RL c, any := false,
                   block := true, data := data }
  match s.qExec o with
  | none => none
  | some (r, t) => if r.status = stNOT_READY then none else some (r.status, t.regrantAll o.queue)

/-- Push what the job has to push, status word and cookie last, and close the packet (R377, R378). -/
def ogDeliver : Nat → Nat → State → State
  | 0, c, s => (s.ogLeave c ogWAIT_OUT).ogSchedule
  | f + 1, c, s =>
    if !s.flag OG_OPENED c then
      match s.ogPush c opOPEN 0 with
      | none => (s.ogLeave c ogWAIT_OUT).ogSchedule
      | some (_, t) => ogDeliver f c (t.put OG_OPENED 1 c)
    else
      match s.list OG_PUSHQ c with
      | [] =>
        if s.get OG_PHASE c ≠ 2 then
          let s := if s.get OG_CODE c = 0 then s.put OG_CODE 0x0900 c else s
          ogDeliver f c ((s.setList OG_PUSHQ [s.ogStatus c, s.ogCookie c] c).put OG_PHASE 2 c)
        else
          match s.ogPush c opCLOSE (8 * s.get OG_PUSHED c + 2 ^ 24 * s.get OG_TAG c) with
          | none => (s.ogLeave c ogWAIT_OUT).ogSchedule
          | some (_, t) => t.ogDone c
      | w :: rest =>
        match s.ogPush c opPUSH w with
        | none => (s.ogLeave c ogWAIT_OUT).ogSchedule
        | some (st, t) =>
          if st = stTRUNCATED then (t.put OG_CODE Rc.OG_RESULT_TRUNC.num c).ogDone c
          else
            let t := (t.setList OG_PUSHQ rest c).put OG_PUSHED (s.get OG_PUSHED c + 1) c
            ogDeliver f c (if s.get OG_PHASE c = 1 then t.put OG_OUTN (s.get OG_OUTN c + 1) c else t)

/-- Deliver with as much fuel as there are words and the packet's frame. -/
def State.ogOut (s : State) (c : Nat) : State := ogDeliver ((s.list OG_PUSHQ c).length + 8) c s

/-- The job ends with a code: its remaining output is dropped, status word and cookie follow (R375, R386). -/
def State.ogEnd (s : State) (c : Nat) (code : Rc) : State :=
  if s.get OG_PHASE c = 2 then s.ogOut c
  else (((s.put OG_CODE code.num c).setList OG_PUSHQ [] c).put OG_PHASE 1 c).ogOut c

/-! Running a job. -/

/-- Pop stream words until the job has its input; then none of the codes, or what stops it. -/
def ogGather : Nat → Nat → Nat → State → Option Rc × Bool × State
  | 0, _, _, s => (none, false, s)
  | f + 1, c, need, s =>
    if need ≤ (s.list OG_INW c).length then (none, true, s)
    else
      let r := s.qNow { who := ogWho c, queue := s.get OG_CQ.DQ c, op := opPOP, lane := 0, any := true, block := false,
                        data := 0 }
      if r.1.status = stHEADER then ogGather f c need r.2
      else if r.1.status = stOK then ogGather f c need (r.2.enq OG_INW r.1.rdata c)
      else if r.1.status = stUE then (some Rc.OG_INPUT_UE, false, r.2)
      else (none, false, s)

/-- Slots of all lanes of a queue: a bound on the words that can be popped. -/
def State.queueSlots (s : State) (q : Nat) : Nat := ((List.range 8).map fun l => s.laneSize (8 * q + l)).sum

/-- The arithmetic and the workspace writes of a job whose input is `src` when streamed. (DEDUCED, log entry 43.) -/
def State.ogWork (s : State) (c : Nat) : State :=
  let d : Desc := s.list OG_DESC c
  let b := s.ogBase c
  let r1 := if d.srcStream || d.op = fnNCO then (s.list OG_INW c, false, false, s) else wsReadRun d.inWords (b + d.src) c s
  let r2 := if r1.2.2.1 || d.coefs = 0 then ([], false, r1.2.2.1, r1.2.2.2)
    else wsReadRun (fmtWords d.coefFmt d.coefs) (b + d.coef) c r1.2.2.2
  let r3 := if r2.2.2.1 || !(d.op = fnFIR && d.cont) then ([], false, r2.2.2.1, r2.2.2.2)
    else wsReadRun (fmtWords d.fin d.history) (b + d.aux) c r2.2.2.2
  let s := r3.2.2.2
  let ce := b2n (r1.2.1 || r2.2.1 || r3.2.1)
  if r3.2.2.1 then (s.put OG_FLAGS (4 * ce) c).ogEnd c Rc.OG_WS_UE
  else
    let p := if d.cont then s.get OG_CPHASE.PHASE c else d.phase
    let r := ogCompute d p r1.1 r2.1 r3.1
    let s := s.put OG_FLAGS (b2n r.ovf + 2 * b2n r.nan + 4 * ce + 256 * r.bexp) c
    let s := if d.op = fnMIX || d.op = fnNCO then s.put OG_CPHASE.PHASE ((p + d.n * d.freq) % 2 ^ 32) c else s
    let s := if d.op = fnFIR && d.cont then s.wsWriteRun (b + d.aux) r.hist else s
    if d.dstStream then
      let s := if d.isFft then s.wsWriteRun (b + d.aux) r.out else s
      ((s.setList OG_PUSHQ r.out c).put OG_PHASE 1 c).ogOut c
    else
      (((s.wsWriteRun (b + d.dst) r.out).put OG_OUTN r.out.length c).put OG_PHASE 1 c).ogOut c

/-- Run the job of the context that holds the engine to its end or to its next wait. (DEDUCED, log entry 43.) -/
def State.ogRun (s : State) (c : Nat) : State :=
  if s.get OG_PHASE c ≠ 0 then s.ogOut c
  else
    let d : Desc := s.list OG_DESC c
    if d.srcStream then
      match ogGather (s.queueSlots (s.get OG_CQ.DQ c) + 1) c d.inWords s with
      | (some code, _, t) => t.ogEnd c code
      | (none, true, t) => t.ogWork c
      | (none, false, t) => (t.ogLeave c ogWAIT_IN).ogSchedule
    else s.ogWork c

/-- JOB_END (R376, R377, R384): the running job goes on to its end, or to a wait for input or for room. -/
def execJobEnd (s : State) : Out :=
  live s fun s => if s.flag OG_STAT.ACTIVE && s.mode = mRUN then s.ogRun (s.get OG_STAT.CUR) else s

/-! Fetching (R365, R375). -/

/-- Pop one word of the job queue. -/
def State.ogPop (s : State) (c : Nat) : QRes × State :=
  s.qNow { who := ogWho c, queue := s.get OG_CQ.JQ c, op := opPOP, lane := 0, any := true, block := false, data := 0 }

/-- Pop n words: their data, whether one had status UE, and whether the first one had. -/
def ogPopRun : Nat → Nat → State → List (Nat × Bool) × State
  | 0, _, s => ([], s)
  | n + 1, c, s =>
    let r := s.ogPop c
    let q := ogPopRun n c r.2
    ((r.1.rdata, r.1.status = stUE) :: q.1, q.2)

/-- Discard stray words up to the next length word: that word if there is one (R365). -/
def ogStray : Nat → Nat → State → Option Nat × State
  | 0, _, s => (none, s)
  | f + 1, c, s =>
    let r := s.ogPop c
    if r.1.status = stHEADER then
      let n := s.get OG_STRAY c
      (some r.1.rdata, if n = 0 then r.2 else (r.2.put OG_STRAY 0 c).ogError c Rc.OG_DESC_FRAMING n)
    else if r.1.status = stOK || r.1.status = stUE then ogStray f c (r.2.put OG_STRAY (s.get OG_STRAY c + 1) c)
    else (none, s)

/-- The job packet behind a length word is popped and checked. -/
def State.ogTake (s : State) (c lw : Nat) : State :=
  let count := bits lw 0 24
  let r := ogPopRun ((count + 7) / 8) c s
  let s := r.2
  let odd := bit lw 62 || bit lw 61 || count ≠ 64
  let readable (i : Nat) : Bool := !odd && !(r.1.getD i (0, true)).2
  let word (i : Nat) : Nat := if readable i then (r.1.getD i (0, true)).1 else 0
  let s := s.ogForget c
  let s := s.setList OG_DESC ((List.range 8).map word) c
  let tagOk := readable 0
  let s := s.put OG_TAG (if tagOk then bits (word 0) 24 8 else 0) c
  let cookie := if tagOk then word 7 else 0
  let s := (s.put OG_CCOOKIE_LO.COOKIE (cookie % 2 ^ 32) c).put OG_CCOOKIE_HI.COOKIE (cookie / 2 ^ 32) c
  if odd || r.1.any fun p => p.2 then s.ogEnd c Rc.OG_DESC_BAD
  else
    match Desc.check ((List.range 8).map word) (s.flag OG_CCFG.DQ_EN c) (512 * s.get OG_CWS.SIZE c) with
    | some code => s.ogEnd c code
    | none => s.ogReady c

/-- JOB_FETCH (R358, R365, R375): an idle context of an engine in RUN looks for its next job. -/
def execJobFetch (c : Fin 64) (s : State) : Out :=
  live s fun s =>
    if s.mode = mRUN && s.flag OG_CCFG.EN c && s.ogState c = ogIDLE then
      match ogStray (s.queueSlots (s.get OG_CQ.JQ c) + 1) c s with
      | (some lw, t) => t.ogTake c lw
      | (none, t) => t
    else s

/-! Slices and waits (R376, R378, R381, R382, R385, R386). -/

/-- R381: at the end of a slice, a context that would be chosen ahead of the running one, or one of its class, is
ready. -/
def State.ogRival (s : State) : Bool :=
  let k := s.ogClass (s.get OG_STAT.CUR)
  (s.ogInClass 0).isSome || (k ≠ 0 && s.ogAged.isSome) || (s.ogInClass k).isSome || (k = 2 && (s.ogInClass 1).isSome)

/-- SLICE_END (R381). -/
def execSliceEnd (s : State) : Out :=
  live s fun s =>
    if s.flag OG_STAT.ACTIVE && s.mode = mRUN then (if s.ogRival then s.drawn.put OG_DUE 1 else s.drawn) else s

/-- The running job is saved and its context is READY (R382). -/
def State.ogPreempt (s : State) : State :=
  if s.flag OG_STAT.ACTIVE then
    let c := s.get OG_STAT.CUR
    (s.ogLeave c ogREADY).enq OG_WAITERS c
  else s

/-- PREEMPTION_POINT (R382, R386): a due preemption or abort takes effect. -/
def execPreemptionPoint (s : State) : Out :=
  live s fun s =>
    if s.flag OG_STAT.ACTIVE && s.mode = mRUN then
      let c := s.get OG_STAT.CUR
      if s.flag OG_ABORTING c then (s.put OG_ABORTING 0 c).ogEnd c Rc.OG_ABORTED
      else if s.flag OG_DUE then s.ogPreempt.ogSchedule
      else s
    else s

/-- CONTEXT_INPUT_READY (R376): DQ holds a word for a context in WAIT_IN. -/
def execContextInputReady (c : Fin 64) (s : State) : Out :=
  live s fun s => if s.ogState c = ogWAIT_IN && (s.anyLane (s.get OG_CQ.DQ c)).isSome then s.ogReady c else s

/-- Whether the result lane takes the next operation of context c. -/
def State.ogRoom (s : State) (c : Nat) : Bool :=
  let op := if !s.flag OG_OPENED c then opOPEN else if (s.list OG_PUSHQ c).isEmpty then opCLOSE else opPUSH
  (s.ogPush c op 0).isSome

/-- CONTEXT_OUTPUT_READY (R378): the result lane has room for a context in WAIT_OUT. -/
def execContextOutputReady (c : Fin 64) (s : State) : Out :=
  live s fun s => if s.ogState c = ogWAIT_OUT && s.ogRoom c then s.ogReady c else s

/-- End the context's job with OG_ABORTED: at the next preemption point where it runs, else at once (R386). -/
def State.ogAbort (s : State) (c : Nat) : State :=
  if s.ogState c = ogRUN then s.put OG_ABORTING 1 c
  else if s.ogBusy c then s.ogEnd c Rc.OG_ABORTED
  else s

/-- The effect of a word written to OG_CCTL[c] (R385, R386). -/
def wrOgCctl (c w : Nat) (s : State) : State :=
  let s := if bit w 0 && s.ogState c = ogHALTED then s.put OG_CSTAT.STATE ogIDLE c else s
  if bit w 1 then s.ogAbort c else s

/-- JOB_ABORT (R386): a write of ABORT. -/
def execJobAbort (m : Master) (c : Fin 64) (s : State) : Out :=
  live s fun s => s.onWrite m (0x19014 + 0x40 * c) 2 (wrOgCctl c 2)

/-- CONTEXT_RESUME (R385): a write of RESUME. -/
def execContextResume (m : Master) (c : Fin 64) (s : State) : Out :=
  live s fun s => s.onWrite m (0x19014 + 0x40 * c) 1 (wrOgCctl c 1)

/-! Enabling (R361, R362). -/

/-- Table OG-1 before the bindings. -/
def State.ogCheck (s : State) (m : Master) (c : Nat) : Option (Rc × Nat) :=
  let size := s.get OG_CWS.SIZE c
  let base := s.get OG_CWS.BASE c
  if !s.unitMode m then some (Rc.OG_WRONG_MODE, s.mode)
  else if size = 0 || 512 < base + size then some (Rc.OG_WS_RANGE, c)
  else if (List.range 64).any fun k => k ≠ c && s.flag OG_CCFG.EN k &&
      meetAreas (base, size) (s.get OG_CWS.BASE k, s.get OG_CWS.SIZE k) then some (Rc.OG_WS_OVERLAP, c)
  else none

/-- The queue bindings of a context in turn: the first refusal, or the state with all bound. -/
def State.ogBind (s : State) (c : Nat) : (Rc × Nat) ⊕ State :=
  let who := ogWho c
  match s.consumerCheck who (s.get OG_CQ.JQ c) with
  | some r => .inl r
  | none =>
    let s1 := s.bindConsumer who (s.get OG_CQ.JQ c)
    match if s.flag OG_CCFG.DQ_EN c then s1.consumerCheck who (s.get OG_CQ.DQ c) else none with
    | some r => .inl r
    | none =>
      let s2 := if s.flag OG_CCFG.DQ_EN c then s1.bindConsumer who (s.get OG_CQ.DQ c) else s1
      let mask := 2 ^ s.get OG_CQ.RL c
      match s2.producerCheck who (s.get OG_CQ.RQ c) mask with
      | some r => .inl r
      | none => .inr (s2.bindProducer who (s.get OG_CQ.RQ c) mask)

/-- A queue-binding refusal of another block: also in that block's REFUSE (R182). -/
def State.refuseBinding (s : State) (block : Nat) (r : Rc × Nat) (m : Master) (off : Nat) : State :=
  ((s.refuse r.1 r.2 m off).put (refuseCode block) r.1.num).put (refuseObj block) r.2

/-- The effect of a word written to OG_CCFG[c] (R361, R362). While a job of a disabled context is still ending, EN
stays 0. -/
def wrOgCcfg (m : Master) (c w : Nat) (s : State) : State :=
  let off := 0x19000 + 0x40 * c
  if s.flag OG_CCFG.EN c then
    let s := if bits w 1 8 ≠ s.readReg OG_CCFG.reg c / 2 then s.raise Rc.OG_CTX_ON c else s
    if bit w 0 then s
    else
      let s := s.put OG_CCFG.EN 0 c
      if s.ogBusy c then s.ogAbort c else s.ogRelease c
  else
    let s := (s.writeReg m OG_CCFG.reg c w).put OG_CCFG.EN 0 c
    if !bit w 0 || s.ogState c ≠ ogOFF then s
    else
      match s.ogCheck m c with
      | some r => s.refuse r.1 r.2 m off
      | none =>
        match s.ogBind c with
        | .inl r => s.refuseBinding 0x09 r m off
        | .inr t => ((t.put OG_CCFG.EN 1 c).put OG_CSTAT.STATE ogIDLE c).put OG_STRAY 0 c

/-- CONTEXT_ENABLE (R361, R362): a write to OG_CCFG[c]. -/
def execContextEnable (m : Master) (c : Fin 64) (w : Word) (s : State) : Out :=
  live s fun s => s.onWrite m (0x19000 + 0x40 * c) w.toNat (wrOgCcfg m c w.toNat)

/-- A write to OG_CQ[c] or OG_CWS[c] (R362). -/
def wrOgCfg (m : Master) (r : Reg) (c w : Nat) (s : State) : State :=
  if s.flag OG_CCFG.EN c || s.ogState c ≠ ogOFF then
    if r.fields.any fun f => bits w f.lo f.width ≠ s.get f c then s.raise Rc.OG_CTX_ON c else s
  else s.writeReg m r c w

/-- A write to OG_CPHASE[c] (register table). -/
def wrOgPhase (c w : Nat) (s : State) : State := if s.ogBusy c then s else s.put OG_CPHASE.PHASE (w % 2 ^ 32) c

end Sys2Proof.Machine
end

