-- ==== Sys2Proof/Machine/Pins.lean ====
section
/-! DEFINITION. spec/11: banks, pins, owners and claims. -/

namespace Sys2Proof.Machine

/-! Banks, pins and standards. -/

/-- Whether the package is F1521. -/
def State.small (s : State) : Bool := s.flag GH_IDENT.PKG

/-- R393: a pin absent from the package. (DEDUCED, log entry 102.) -/
def State.pinAbsent (s : State) (p : Nat) : Bool := s.small && ((288 ≤ p && p ≤ 383) || (480 ≤ p && p ≤ 575))

/-- R393: a bank absent from the package. (DEDUCED, log entry 102.) -/
def State.bankAbsent (s : State) (b : Nat) : Bool := s.small && (b = 6 || b = 7 || b = 10 || b = 11)

/-- Whether a standard is offered on a bank (Table IO-2). -/
def stdOnBank (std b : Nat) : Bool :=
  let u := b < 8
  match std with
  | 0 | 2 | 3 | 4 | 13 => true
  | 1 | 8 | 11 | 12 | 14 | 15 | 16 | 17 | 18 => !u
  | 5 | 6 | 7 | 9 | 10 => u
  | _ => false

/-- Whether VSEL is a VIO of a standard (Table IO-2). -/
def stdAtVio (std vsel : Nat) : Bool :=
  match std with
  | 0 => true
  | 1 => vsel = 0
  | 2 | 8 | 11 | 14 => vsel = 1
  | 3 | 9 | 12 | 15 => vsel = 2
  | 4 | 10 | 13 | 16 | 18 => vsel = 3
  | 17 => vsel = 1 || vsel = 3
  | 5 => vsel = 4
  | _ => vsel = 5

/-- Differential standards. -/
def stdDiff (std : Nat) : Bool := 14 ≤ std && std ≤ 18

/-- Referenced standards. -/
def stdRef (std : Nat) : Bool := 8 ≤ std && std ≤ 13

/-- The highest DRIVE code of a single-ended standard (Table IO-3). -/
def driveMax (std b : Nat) : Nat :=
  match std with | 1 => 1 | 2 => 2 | 3 | 4 => if b < 8 then 4 else 3 | _ => 4

/-- Table IO-3: the options of pin p suit its standard; OFF takes any. -/
def State.optionsOk (s : State) (p : Nat) : Bool :=
  let std := s.get IO_PCFG.STD p
  let pull := s.get IO_PCFG.PULL p
  let drive := s.get IO_PCFG.DRIVE p
  if std = 0 then true
  else if stdDiff std then pull = 0 && drive = 0 && !s.flag IO_PCFG.ODRAIN p
  else if stdRef std then (pull = 0 || pull = 3) && drive = 0 && !s.flag IO_PCFG.ODRAIN p && !s.flag IO_PCFG.DTERM p
  else drive ≤ driveMax std (p / 48) && !s.flag IO_PCFG.DTERM p

/-- R396: p is the odd side of an enabled differential pair. -/
def State.oddSide (s : State) (p : Nat) : Bool :=
  384 ≤ p && p < 576 && p % 2 = 1 && s.flag IO_PCFG.EN (p - 1) && stdDiff (s.get IO_PCFG.STD (p - 1))

/-- R411: the plot of a pin's attachment. -/
def pinPlot (p : Nat) : Nat :=
  if 576 ≤ p then 56
  else
    let b := p / 48
    let west := b < 4 || b = 8 || b = 9
    let pos := if b < 4 then b else if b < 8 then b - 4 else if b < 10 then b - 4 else b - 6
    8 * (8 * (8 + 20 * pos + p % 48 / 16) / 128) + (if west then 0 else 7)

/-! Lodge peripherals that lose a pin (R605); their commands are in Machine/Periph.lean. -/

/-- Transmit bytes of peripheral i: UART0, UART1, SPI0, SPI1, I2C0, I2C1. -/
def LG_TX : Fifo := ⟨17⟩
/-- Received entries of peripheral i. -/
def LG_RX : Fifo := ⟨18⟩

/-- The levels of peripheral i's FIFOs in its status. -/
def State.periphLevels (s : State) (i : Nat) : State :=
  let t := (s.list LG_TX i).length
  let r := (s.list LG_RX i).length
  if i < 2 then
    (((s.put LG_USTAT.TXLVL t i).put LG_USTAT.RXLVL r i).put LG_USTAT.RXNE (b2n (r ≠ 0)) i).put LG_USTAT.TXLOW
      (b2n (t < 32)) i
  else if i < 4 then
    ((s.put LG_SSTAT.TXLVL t (i - 2)).put LG_SSTAT.RXLVL r (i - 2)).put LG_SSTAT.RXNE (b2n (r ≠ 0)) (i - 2)
  else (s.put LG_ISTAT.TXLVL t (i - 4)).put LG_ISTAT.RXLVL r (i - 4)

/-- The transfer in progress of peripheral i ends; EN is 0. -/
def State.periphStop (s : State) (i : Nat) : State :=
  if i < 2 then (s.put LG_UCFG.EN 0 i).put U_SHIFT 0 i
  else if i < 4 then
    (((s.put LG_SCFG.EN 0 (i - 2)).put LG_SSTAT.BUSY 0 (i - 2)).put S_LEFT 0 (i - 2)).put S_KEEP 0 (i - 2)
  else (((s.put LG_ICFG.EN 0 (i - 4)).put LG_ISTAT.BUSY 0 (i - 4)).put I_LEFT 0 (i - 4)).put I_HOLD 0 (i - 4)

/-- The output pins of peripheral i (Table IO-7); of a SPI host, with the chip selects it enables (R403). -/
def State.periphPins (s : State) (i : Nat) : List Nat :=
  match i with
  | 0 => [0]
  | 1 => [2]
  | 2 => [4, 5] ++ ((List.range 4).filter fun k => bit (s.get LG_SCFG.CSEN 0) k).map fun k => 7 + k
  | 3 => [11, 12] ++ ((List.range 4).filter fun k => bit (s.get LG_SCFG.CSEN 1) k).map fun k => 14 + k
  | 4 => [18, 19]
  | _ => [21, 22]

/-- Pin of hard GPIO g (Table IO-7). -/
def State.gpioPin (s : State) (g : Nat) : Nat := if bit (s.get IO_GPMAP.MAP) g then g else 48 + g

/-! Claims (R403 to R408). -/

/-- Claim levels (Table IO-6). -/
def lvGATEHOUSE : Nat := 1
def lvDEBUG : Nat := 2
def lvBANDSTAND : Nat := 3
def lvLODGE : Nat := 4
def lvGPIO : Nat := 5
def lvARRAY : Nat := 6

/-- HOLDER follows the claims: the highest claimant (R404). -/
def State.showHolder (s : State) (p : Nat) : State :=
  s.put IO_PCLM.HOLDER (((List.range 6).find? fun k => bit (s.get IO_PCLM.CLAIMS p) k).elim 0 (· + 1)) p

/-- End the claim of a level on pin p (R408). -/
def State.dropClaim (s : State) (lv p : Nat) : State := (s.andBit IO_PCLM.CLAIMS (lv - 1) p).showHolder p

/-- R405: the first condition that refuses a claim on pin p; the odd side of an enabled pair, which the even pin
covers, is IO_DIFF_PAIR (R396). -/
def State.claimCheck (s : State) (lv p : Nat) : Option (Rc × Nat) :=
  let h := s.get IO_PCLM.HOLDER p
  if s.pinAbsent p then some (Rc.IO_PIN_ABSENT, p)
  else if s.oddSide p then some (Rc.IO_DIFF_PAIR, p)
  else if p < 576 && !s.flag IO_PCFG.EN p then some (Rc.IO_PIN_OFF, p)
  else if h ≠ 0 && h < lv then some (Rc.IO_PIN_HELD, p)
  else none

/-- What a Lodge peripheral or hard GPIO leaves when pin p is taken from it (R605). -/
def State.periphLost (s : State) (p lv : Nat) : State :=
  if lv = lvLODGE then
    match (List.range 6).find? fun i => (s.periphPins i).contains p with
    | none => s
    | some i =>
      let s := (s.periphPins i).foldl (fun u q => u.dropClaim lvLODGE q) s
      let s := (s.periphStop i).put LG_IRQ.PIN_LOST 1
      if i < 2 then s.put LG_USTAT.LOST 1 i else if i < 4 then s.put LG_SSTAT.LOST 1 (i - 2)
      else s.put LG_ISTAT.LOST 1 (i - 4)
  else if lv = lvGPIO then
    match (List.range 32).find? fun g => s.gpioPin g = p && bit (s.get LG_GPOE.OE) g with
    | none => s
    | some g => ((s.andBit LG_GPOE.OE g).orBit LG_GPLOST.LOST g).put LG_IRQ.PIN_LOST 1
  else s

/-- A claim that its check has accepted: a lower holder loses the pin at once (R406), the level's LOST bit clears
(R407). -/
def State.takeClaim (s : State) (lv p : Nat) : State :=
  let h := s.get IO_PCLM.HOLDER p
  let s := if lv < h then
      let t := (((s.dropClaim h p).orBit IO_PCLM.LOST (h - 1) p).put IO_IRQ.PIN_LOST 1).raise Rc.IO_PIN_LOST p (h + 8 * lv)
      t.periphLost p h
    else s
  ((s.orBit IO_PCLM.CLAIMS (lv - 1) p).andBit IO_PCLM.LOST (lv - 1) p).showHolder p

/-- Check the pins of an enable in ascending order, then take them (R405). -/
def State.claimAll (s : State) (lv : Nat) (pins : List Nat) : (Rc × Nat) ⊕ State :=
  match pins.findSome? fun p => s.claimCheck lv p with
  | some r => .inl r
  | none => .inr (pins.foldl (fun u p => u.takeClaim lv p) s)

/-- End the claims of a level on some pins. -/
def State.dropAll (s : State) (lv : Nat) (pins : List Nat) : State := pins.foldl (fun u p => u.dropClaim lv p) s

/-- R409: the pins that the array claims, among those of a plot or all. -/
def State.arrayPins (s : State) (plot : Option Nat) : List Nat :=
  (List.range 585).filter fun p =>
    (if p < 576 then s.flag IO_PCFG.EN p && s.get IO_PCFG.ARR p ≠ 0 && !s.pinAbsent p
     else bit (s.get IO_CTARR.ARR) (p - 576)) &&
      match plot with | none => true | some q => pinPlot p = q

/-- R409: the claims of the array at a consistency or release check. -/
def State.arrayClaims (s : State) (plot : Option Nat) : (Rc × Nat) ⊕ State := s.claimAll lvARRAY (s.arrayPins plot)

/-! Owners (R401, R402). -/

/-- Table IO-5 and R652: whether a master's writes are stored for an owner code. -/
def State.pinOwns (s : State) (m : Master) (o : Nat) : Bool :=
  match m with
  | .gatehouse => true
  | .lodgeM => o = 1
  | .host => o = 2
  | .hokuoxRemote => o = 2
  | .fabric => o = 3
  | .debug => s.get GH_DBGSTAT.LEVEL = 2 || (s.get GH_DBGSTAT.LEVEL = 1 && o ≠ 0)
  | .lodgeU => false

/-- R402: an owner-guarded write for pin p. -/
def State.pinOwned (s : State) (m : Master) (p : Nat) (k : State → State) : State :=
  let o := s.get IO_PCFG.OWNER p
  if s.pinOwns m o then k s
  else
    let first := !s.flag IO_IRQ.UNAUTH
    let s := (s.count IO_UNAUTH.COUNT 1).put IO_IRQ.UNAUTH 1
    if first then s.raise Rc.IO_NOT_OWNER p (m.code + 8 * o) else s

/-! Banks (R397, R398). -/

/-- R397: the check that refuses the enable of bank b. -/
def State.bankCheck (s : State) (m : Master) (b vsel : Nat) : Option (Rc × Nat) :=
  let range := if b < 8 then 1 ≤ vsel && vsel ≤ 5 else vsel ≤ 3
  if !s.unitMode m then some (Rc.IO_WRONG_MODE, s.mode)
  else if s.bankAbsent b then some (Rc.IO_PIN_ABSENT, 0x400 + b)
  else if !range || s.get IO_BSTAT.VDET b ≠ vsel || (s.get IO_BCFG.VSEL b = vsel && !s.flag IO_BSTAT.OK b) then
    some (Rc.IO_BANK_VIO, 0x400 + b)
  else none

/-- VSEL is declared; the monitor judges VIO by it. -/
def State.declareVsel (s : State) (b v : Nat) : State :=
  if s.get IO_BCFG.VSEL b = v then s
  else (s.put IO_BCFG.VSEL v b).put IO_BSTAT.OK (b2n (s.get IO_BSTAT.VDET b = v)) b

/-- The effect of a word written to IO_BCFG[b] (R397). -/
def wrBcfg (m : Master) (b w : Nat) (s : State) : State :=
  let off := 0x2100 + 8 * b
  let vsel := bits w 1 3
  if !s.unlocked m then s.writeDenied m off 0
  else if bit w 0 && !s.flag IO_BCFG.EN b then
    match s.bankCheck m b vsel with
    | some (c, obj) => (if s.bankAbsent b || 5 < vsel then s else s.declareVsel b vsel).refuse c obj m off
    | none => (s.declareVsel b vsel).put IO_BCFG.EN 1 b
  else if s.bankAbsent b then s
  else
    let s := if vsel ≤ 5 then s.declareVsel b vsel else s
    if !bit w 0 && s.flag IO_BCFG.EN b then
      if (List.range 48).any fun i => s.flag IO_PCFG.EN (48 * b + i) then s.refuse Rc.IO_BANK_BUSY (0x400 + b) m off
      else s.put IO_BCFG.EN 0 b
    else s

/-- BANK_ENABLE (R397): a write to IO_BCFG[b]. -/
def execBankEnable (m : Master) (b : Fin 12) (w : Word) (s : State) : Out :=
  live s fun s => s.onWrite m (0x2100 + 8 * b) w.toNat (wrBcfg m b w.toNat)

/-- VIO_LOST (R398): the monitor of bank b measures `vdet`, and VIO is not within 10 % of VSEL. -/
def execVioLost (b : Fin 12) (vdet : BitVec 3) (s : State) : Out :=
  live s fun s =>
    let was := s.flag IO_BSTAT.OK b
    let s := (s.put IO_BSTAT.OK 0 b).put IO_BSTAT.VDET vdet.toNat b
    if was && s.flag IO_BCFG.EN b then (s.raise Rc.IO_VIO_LOST (0x400 + b)).put IO_IRQ.VIO 1 else s

/-- VIO_RESTORED (R398): the monitor of bank b measures `vdet`; OK is 1 where that is VSEL. -/
def execVioRestored (b : Fin 12) (vdet : BitVec 3) (s : State) : Out :=
  live s fun s => (s.put IO_BSTAT.VDET vdet.toNat b).put IO_BSTAT.OK (b2n (vdet.toNat = s.get IO_BCFG.VSEL b)) b

/-! Pins (R399 to R402). -/

/-- Table IO-4: the first check that refuses the enable of pin p, configured in `s`. -/
def State.pinCheck (s : State) (m : Master) (p : Nat) : Option (Rc × Nat) :=
  let b := p / 48
  let std := s.get IO_PCFG.STD p
  let arr := s.get IO_PCFG.ARR p
  let partner := if p % 2 = 0 then p + 1 else p - 1
  if !s.unitMode m then some (Rc.IO_WRONG_MODE, s.mode)
  else if s.pinAbsent p then some (Rc.IO_PIN_ABSENT, p)
  else if !s.flag IO_BCFG.EN b then some (Rc.IO_BANK_OFF, p)
  else if !stdOnBank std b then some (Rc.IO_STD_BANK, p)
  else if !stdAtVio std (s.get IO_BCFG.VSEL b) then some (Rc.IO_STD_VIO, p)
  else if !s.optionsOk p then some (Rc.IO_OPT_STD, p)
  else if stdDiff std && (p % 2 = 1 || s.flag IO_PCFG.EN partner) then some (Rc.IO_DIFF_PAIR, p)
  else if (b < 8 && 2 ≤ arr) || (arr = 3 && !stdDiff std) then some (Rc.IO_ARR_FUNC, p)
  else none

/-- Store the fields of IO_PCFG[p] other than EN, those that reserve no written value (R21); OWNER from GATEHOUSE only. -/
def State.storePcfg (s : State) (m : Master) (p w : Nat) : State :=
  let fs := IO_PCFG.reg.fields.filter fun f => f ≠ IO_PCFG.EN && (f ≠ IO_PCFG.OWNER || m = .gatehouse)
  fs.foldl (fun u f => if f.accepts (bits w f.lo f.width) then u.put f (bits w f.lo f.width) p else u) s

/-- The effect of a word written to IO_PCFG[p] (R399 to R402). -/
def wrPinCfg (m : Master) (p w : Nat) (s : State) : State :=
  let off := 0x2400 + 4 * p
  s.pinOwned m p fun s =>
    if s.pinAbsent p then
      if bit w 0 then s.refuse (if s.unitMode m then Rc.IO_PIN_ABSENT else Rc.IO_WRONG_MODE)
        (if s.unitMode m then p else s.mode) m off
      else s
    else if s.flag IO_PCFG.EN p then
      let s := if bits w 1 17 ≠ s.readReg IO_PCFG.reg p / 2 % 2 ^ 17 then s.raise Rc.IO_PIN_ON p else s
      let s := if m = .gatehouse then s.put IO_PCFG.OWNER (bits w 28 2) p else s
      if bit w 0 then s
      else if s.get IO_PCLM.CLAIMS p ≠ 0 then s.refuse Rc.IO_PIN_IN_USE p m off
      else s.put IO_PCFG.EN 0 p
    else
      let s := s.storePcfg m p w
      if bit w 0 then
        match s.pinCheck m p with
        | some (c, obj) => s.refuse c obj m off
        | none => s.put IO_PCFG.EN 1 p
      else s

/-- PIN_ENABLE (R399, R400): a write to IO_PCFG[p]. -/
def execPinEnable (m : Master) (p : Fin 576) (w : Word) (s : State) : Out :=
  live s fun s => s.onWrite m (0x2400 + 4 * p) w.toNat (wrPinCfg m p w.toNat)

/-- The effect of a word written to IO_PCLM[p] (R407, R410). A CT pin has no configuration owner: its RENEW is stored
from GATEHOUSE. -/
def wrPclm (m : Master) (p w : Nat) (s : State) : State :=
  let s := s.writeField IO_PCLM.LOST p w false false
  if !bit w 16 then s
  else
    let renew (s : State) : State :=
      let arr := if p < 576 then s.get IO_PCFG.ARR p ≠ 0 else bit (s.get IO_CTARR.ARR) (p - 576)
      if bit (s.get IO_PCLM.CLAIMS p) 5 || !arr || s.mode ≠ mRUN then s
      else
        match s.claimAll lvARRAY [p] with
        | .inl (c, obj) => s.refuseBy 0x03 c obj (writeDetail m (0x3000 + 4 * p))
        | .inr t => t
    if p < 576 then s.pinOwned m p renew else if m = .gatehouse then renew s else s

/-- RENEW (R410): a write to IO_PCLM[p] with RENEW 1. -/
def execRenew (m : Master) (p : Fin 585) (s : State) : Out :=
  live s fun s => s.onWrite m (0x3000 + 4 * p) 0x10000 (wrPclm m p 0x10000)

/-- The effect of a word written to IO_GPMAP. -/
def wrGpmap (m : Master) (w : Nat) (s : State) : State :=
  if !s.unlocked m then s.writeDenied m 0x2010 0
  else if s.get LG_GPOE.OE ≠ 0 then s.raise Rc.IO_PIN_ON 0
  else s.put IO_GPMAP.MAP (w % 2 ^ 32)

/-! Serialiser groups (R414 to R417). -/

/-- The eight P pins of group g. -/
def groupPins (g : Nat) : List Nat := (List.range 8).map fun k => 48 * (8 + g / 3) + 16 * (g % 3) + 2 * k

/-- R393: an absent group. -/
def State.groupAbsent (s : State) (g : Nat) : Bool := s.small && 6 ≤ g

/-- R415: the first check that refuses the enable of group g. -/
def State.groupCheck (s : State) (m : Master) (g : Nat) : Option (Rc × Nat) :=
  let khz := 2 ^ (s.get IO_SERCFG.FACTOR g + 1) * s.get CK_SYNFOUT.KHZ (s.get IO_SERCFG.CLK g + 2)
  if !s.unitMode m then some (Rc.IO_WRONG_MODE, s.mode)
  else if s.groupAbsent g then some (Rc.IO_PIN_ABSENT, 0x500 + g)
  else if !((groupPins g).all fun p => s.flag IO_PCFG.EN p && s.get IO_PCFG.ARR p = 3 && stdDiff (s.get IO_PCFG.STD p))
    then some (Rc.IO_SER_PINS, 0x500 + g)
  else if khz < 100000 || 2000000 < khz then some (Rc.IO_SER_RATE, 0x500 + g)
  else none

/-- The effect of a word written to IO_SERCFG[g] (R415, R417). -/
def wrSercfg (m : Master) (g w : Nat) (s : State) : State :=
  let off := 0x2300 + 4 * g
  s.pinOwned m ((groupPins g).headD 0) fun s =>
    let s := if bit w 6 then s.put SER_FIRST 1 g else s
    if s.flag IO_SERCFG.EN g then
      let s := if bits w 1 5 ≠ s.readReg IO_SERCFG.reg g / 2 % 32 then s.raise Rc.IO_PIN_ON (0x500 + g) else s
      if bit w 0 then s
      else
        let s := if s.get IO_SERCFG.DIR g = 0 then s.dropAll lvARRAY (groupPins g) else s
        s.put IO_SERCFG.EN 0 g
    else
      let s := (s.writeReg m IO_SERCFG.reg g w).put IO_SERCFG.EN 0 g
      if !bit w 0 then s
      else
        match s.groupCheck m g with
        | some (c, obj) => s.refuse c obj m off
        | none =>
          match if s.get IO_SERCFG.DIR g = 0 then s.claimAll lvARRAY (groupPins g) else .inr s with
          | .inl (c, obj) => s.refuse c obj m off
          | .inr t => (t.put IO_SERCFG.EN 1 g).put SER_FIRST 1 g

/-- SER_GROUP_ENABLE (R415): a write to IO_SERCFG[g]. -/
def execSerGroupEnable (m : Master) (g : Fin 12) (w : Word) (s : State) : Out :=
  live s fun s => s.onWrite m (0x2300 + 4 * g) w.toNat (wrSercfg m g w.toNat)

/-- BITSLIP (R417): a write to IO_SERCFG[g] that leaves its other fields as they are. -/
def execBitslip (m : Master) (g : Fin 12) (s : State) : Out :=
  let w := setBit (s.readReg IO_SERCFG.reg g) 6
  live s fun s => s.onWrite m (0x2300 + 4 * g) w (wrSercfg m g w)

/-! Reading pins (R420). -/

/-- Whether the input buffer of pin p is on. -/
def State.inputOn (s : State) (p : Nat) : Bool :=
  s.flag IO_PCFG.EN p && s.get IO_PCFG.STD p ≠ 0 && !s.pinAbsent p && (s.mode = mHOLD || s.mode = mRUN)

/-- A read of IO_IN[k]: the level at a pin with its buffer on comes from outside the block and is left open.
(DEDUCED, log entry 34.) -/
def rdIoIn (k : Nat) (s : State) : Nat × State :=
  let free := s.fresh 32
  (((List.range 32).map fun i => if s.inputOn (32 * k + i) && bit free i then 2 ^ i else 0).sum, s.drawn)

/-- A read of IO_INCT: CT lines as the router last saw them, MODE pins as last sampled; PULL_SEL and WAKE_N are open.
(DEDUCED, log entry 34.) -/
def rdIoInct (s : State) : Nat × State :=
  let ct := ((List.range 12).map fun c => if s.flag SRC_VAL c then 2 ^ c else 0).sum
  (ct + 2 ^ 12 * s.get MODE_PINS + 2 ^ 15 * s.fresh 2, s.drawn)

end Sys2Proof.Machine
end

