-- ==== Sys2Proof/Machine/BandUnits.lean ====
section
/-! DEFINITION. spec/08: enabling converters, cues, routes and lane-boundary taggers (R292, R306, R312). -/

namespace Sys2Proof.Machine

/-- The line that cue c drives: its DEST where that is a pin or CT line. -/
def State.cueLine (s : State) (c : Nat) : Option Nat :=
  if s.get BS_CUCFG.DEST c ≤ 200 then some (s.get BS_CUCFG.DEST c) else none

/-- The line that route d drives (Table BS-7), as a cue destination code. -/
def routeLine (d : Nat) : Option Nat := if d ≤ 8 then some (192 + d) else none

/-- Whether another enabled cue or route drives a line. -/
def State.lineDriven (s : State) (line : Nat) (cue route : Option Nat) : Bool :=
  ((List.range 64).any fun c => cue ≠ some c && s.flag BS_CUCFG.EN c && s.cueLine c = some line) ||
    (List.range 9).any fun d => route ≠ some d && s.flag BS_RT.EN d && 192 + d = line

/-- A fast-bank code absent from the package. -/
def State.codeAbsent (s : State) (code : Nat) : Bool := s.small && 96 ≤ code && code ≤ 191

/-- Table BS-5 after its first two rows and before the claims: `reserved`, the line driven, a tagger's lane owned. -/
def State.unitCheck (s : State) (m : Master) (obj : Nat) (reserved driven owned : Bool) : Option (Rc × Nat) :=
  if !s.unitMode m then some (Rc.BS_WRONG_MODE, s.mode)
  else if !s.flag BS_TBSTAT.RUNNING then some (Rc.BS_TB_NOT_RUNNING, obj)
  else if reserved then some (Rc.BS_SRC_RESERVED, obj)
  else if driven then some (Rc.BS_LINE_DRIVEN, obj)
  else if owned then some (Rc.BS_LBT_OWNED, obj)
  else none

/-- One enable of a unit: checks, then its claim; a refusal goes to BS_REFUSE and GH_REFUSE (R312, R405). -/
def State.unitEnable (s : State) (m : Master) (off : Nat) (bad : Option (Rc × Nat)) (line : Option Nat)
    (start : State → State) : State :=
  match bad with
  | some (c, obj) => s.refuse c obj m off
  | none =>
    match s.claimAll lvBANDSTAND (match line with | some l => [linePin l] | none => []) with
    | .inl (c, obj) => s.refuseBy 0x06 c obj (writeDetail m off)
    | .inr t => start t

/-- While EN is 1, a write that changes another field is ignored and logged (R312). -/
def State.unitHeld (s : State) (r : Reg) (en : Field) (i w : Nat) (skip : List Field) : Bool :=
  r.fields.any fun f => f ≠ en && f.acc = .rw && !skip.contains f && bits w f.lo f.width ≠ s.get f i

/-- The effect of a word written to BS_TTCFG[n]. -/
def wrTtCfg (m : Master) (n w : Nat) (s : State) : State :=
  let off := 0x8100 + 0x20 * n
  if s.flag BS_TTCFG.EN n then
    if s.unitHeld BS_TTCFG.reg BS_TTCFG.EN n w [] then s.raise Rc.BS_UNIT_ON (0x100 + n)
    else s.put BS_TTCFG.EN (bits w 0 1) n
  else
    let s := (s.writeReg m BS_TTCFG.reg n w).put BS_TTCFG.EN 0 n
    if !bit w 0 then s
    else
      let i := s.get BS_TTCFG.INPUT n
      s.unitEnable m off (s.unitCheck m (0x100 + n) (235 < i || s.codeAbsent i) false false) none fun s =>
        ((((s.put BS_TTCFG.EN 1 n).put TT_SEQ 0 n).put TT_GAP 0 n).put TT_LAST 0 n).setList TT_BUF [] n |>.showTags n

/-- The effect of a word written to BS_CUCFG[c] (R301, R306). -/
def wrCuCfg (m : Master) (c w : Nat) (s : State) : State :=
  let off := 0x9100 + 0x20 * c
  if s.flag BS_CUCFG.EN c then
    if s.unitHeld BS_CUCFG.reg BS_CUCFG.EN c w [] then s.raise Rc.BS_UNIT_ON (0x200 + c)
    else if bit w 0 then s
    else
      let s := ((s.setList CUE_Q [] c).put CUE_PULSE 0 c).cueJudge c
      let s := (s.cueLevel c false).put BS_CUCFG.EN 0 c
      match s.cueLine c with | some l => s.dropClaim lvBANDSTAND (linePin l) | none => s
  else
    let s := (s.writeReg m BS_CUCFG.reg c w).put BS_CUCFG.EN 0 c
    if !bit w 0 then s
    else
      let d := s.get BS_CUCFG.DEST c
      let driven := match s.cueLine c with | some l => s.lineDriven l (some c) none | none => false
      s.unitEnable m off (s.unitCheck m (0x200 + c) (201 < d || s.codeAbsent d) driven false) (s.cueLine c) fun s =>
        ((s.put BS_CUCFG.EN 1 c).put CUE_LAST 0 c).cueLevel c (s.flag BS_CUCFG.IDLE c)

/-- The effect of a word written to BS_RT[d] (R307, R312). -/
def wrRt (m : Master) (d w : Nat) (s : State) : State :=
  let off := 0x8E00 + 4 * d
  if s.flag BS_RT.EN d then
    if s.unitHeld BS_RT.reg BS_RT.EN d w [] then s.raise Rc.BS_UNIT_ON d
    else if bit w 8 then s
    else
      let s := ((s.put BS_RT.EN 0 d).put RT_LEFT 0 d).put RT_RAW 0 d |>.setDest d false
      match routeLine d with | some l => s.dropClaim lvBANDSTAND (linePin l) | none => s
  else
    let s := (s.writeReg m BS_RT.reg d w).put BS_RT.EN 0 d
    if !bit w 8 then s
    else
      let driven := match routeLine d with | some l => s.lineDriven l none (some d) | none => false
      s.unitEnable m off (s.unitCheck m d (!routerSource (s.get BS_RT.SRC d)) driven false) (routeLine d) fun s =>
        (s.put BS_RT.EN 1 d).routeStep d

/-- The effect of a word written to BS_LBTCTL[l] (R312, R316, R317). -/
def wrLbtCtl (m : Master) (l w : Nat) (s : State) : State :=
  let off := 0x9A00 + 0x20 * l
  let arm (s : State) : State :=
    if bit w 1 && s.flag BS_LBTCTL.EN l then (s.put BS_LBTCTL.ARM 1 l).put BS_LBTCTL.DONE 0 l
    else s.put BS_LBTCTL.ARM 0 l
  if s.flag BS_LBTCTL.EN l then
    if s.unitHeld BS_LBTCTL.reg BS_LBTCTL.EN l w [BS_LBTCTL.ARM] then s.raise Rc.BS_UNIT_ON (0x300 + l)
    else arm (s.put BS_LBTCTL.EN (bits w 0 1) l)
  else
    let s := s.put BS_LBTCTL.SIDE (bits w 2 1) l
    if !bit w 0 then s
    else
      s.unitEnable m off (s.unitCheck m (0x300 + l) (s.small && 24 ≤ l) false (s.flag BS_LBTCTL.OWNED l)) none fun s =>
        arm (s.put BS_LBTCTL.EN 1 l)

/-- BS_UNIT_ENABLE (R306, R312): a write to the register that holds the unit's EN. -/
def execBsUnitEnable (m : Master) (u : BsUnit) (w : Word) (s : State) : Out :=
  live s fun s =>
    match u with
    | .converter n => s.onWrite m (0x8100 + 0x20 * n) w.toNat (wrTtCfg m n w.toNat)
    | .cue c => s.onWrite m (0x9100 + 0x20 * c) w.toNat (wrCuCfg m c w.toNat)
    | .route d => s.onWrite m (0x8E00 + 4 * d) w.toNat (wrRt m d w.toNat)
    | .tagger l => s.onWrite m (0x9A00 + 0x20 * l) w.toNat (wrLbtCtl m l w.toNat)

/-- LBT_ARM (R316): a write of ARM that leaves the other fields as they are. -/
def execLbtArm (m : Master) (l : Fin 40) (s : State) : Out :=
  let w := setBit (s.readReg BS_LBTCTL.reg l) 1
  live s fun s => s.onWrite m (0x9A00 + 0x20 * l) w (wrLbtCtl m l w)

end Sys2Proof.Machine
end

