-- ==== Sys2Proof/Machine/Serial.lean ====
section
/-! DEFINITION. spec/12: quad PLLs and serial lanes. -/

namespace Sys2Proof.Machine

/-- SL_LSTAT.OWNER codes. -/
def owNONE : Nat := 0
def owPCIE : Nat := 1
def owHOKUOX : Nat := 2
def owARRAY : Nat := 3

/-- R433: the owner of lane l; the endpoint has lanes 0 to ACTIVE − 1. -/
def State.laneOwner (s : State) (l : Nat) : Nat := if l < s.get SL_PXCFG.ACTIVE then owPCIE else s.get SL_LSTAT.OWNER l

/-- R432: the endpoint owns a lane of quad q. -/
def State.quadPx (s : State) (q : Nat) : Bool := decide (4 * q < s.get SL_PXCFG.ACTIVE)

/-- R427: an absent lane or quad. (DEDUCED, log entry 102.) -/
def State.laneAbsent (s : State) (l : Nat) : Bool := s.small && 24 ≤ l
def State.quadAbsent (s : State) (q : Nat) : Bool := s.small && 6 ≤ q

/-- A quad PLL that gives its frequency: LOCKED or in HOLDOVER. -/
def State.quadRuns (s : State) (q : Nat) : Bool :=
  s.get SL_QSTAT.STATE q = ckLOCKED || s.get SL_QSTAT.STATE q = ckHOLDOVER

/-- R441: the transmit PCS clock of lane l runs. -/
def State.txRuns (s : State) (l : Nat) : Bool :=
  s.quadRuns (l / 4) && (s.flag SL_LCFG.EN l || (s.laneOwner l ≠ owNONE && s.laneOwner l ≠ owARRAY))

/-- R441: the receive PCS clock of lane l runs. -/
def State.rxRuns (s : State) (l : Nat) : Bool := s.txRuns l && !s.flag SL_LCFG.RXOFF l

/-- What SL_LSTAT[l] reads as: the owner and TXRUN are shown as they stand. -/
def State.laneStatWord (s : State) (l : Nat) : Nat :=
  s.laneOwner l + 4 * b2n (s.txRuns l) + 8 * s.get SL_LSTAT.SIGDET l + 16 * s.get SL_LSTAT.CDR l +
    32 * s.get SL_LSTAT.ALIGNED l

/-- What SL_QSTAT[q] reads as. -/
def State.quadStatWord (s : State) (q : Nat) : Nat := s.readReg SL_QSTAT.reg q % 32 + 32 * b2n (s.quadPx q)

/-! Quad PLLs (R429 to R432). -/

/-- Input code of the reference of quad q (Tables SL-1, CK-2). -/
def quadRef (q : Nat) : Nat := if q < 2 then 3 else 7 + q / 2

/-- Its frequency in Hz. -/
def State.quadHz (s : State) (q : Nat) : Nat := if q < 2 then s.refHz 3 else s.get QREF_HZ (q / 2 - 1)

/-- f_vco by sampled values, as a fraction. -/
def State.quadVco (s : State) (q rdiv n f : Nat) : Nat × Nat :=
  (s.quadHz q * (n * 2 ^ 24 + f), (rdiv + 1) * 2 ^ 24)

/-- Table SL-2 for the values given. -/
def State.quadCheck (s : State) (m : Master) (q rdiv n f : Nat) : Option (Rc × Nat) :=
  let v := s.quadVco q rdiv n f
  let hz := s.quadHz q
  if !s.unitMode m then some (Rc.SL_WRONG_MODE, s.mode)
  else if s.quadAbsent q then some (Rc.SL_LANE_ABSENT, 0x100 + q)
  else if s.quadPx q then some (Rc.SL_QPLL_OWNED, 0x100 + q)
  else if s.flag SL_QSTAT.BUSY q || [0, 1, 2, 3].any (fun i => s.flag SL_LCFG.EN (4 * q + i) ||
      s.laneOwner (4 * q + i) = owHOKUOX) then some (Rc.SL_QPLL_IN_USE, 0x100 + q)
  else if hz < 100000000 * (rdiv + 1) || 325000000 * (rdiv + 1) < hz || n < 20 || 160 < n || v.1 < 7050000000 * v.2 ||
      14100000000 * v.2 < v.1 then some (Rc.SL_QPLL_RANGE, 0x100 + q)
  else if !s.refPresent (quadRef q) then some (Rc.SL_REF_ABSENT, 0x100 + q)
  else none

/-- The QPLL starts or changes on its sampled values (R227, R430). -/
def State.quadStart (s : State) (q pol : Nat) : State :=
  let v := s.quadVco q (s.get QP_RDIV q) (s.get QP_N q) (s.get QP_F q)
  let pol := if s.get STAGE_FREQ (6 + q) = 0 then 1 else pol
  ((s.stageStart (6 + q) pol (v.1 * 10 ^ 9 / v.2)).put SL_QSTAT.STATE ckACQUIRE q).put SL_QSTAT.BUSY 1 q

/-- The QPLL stops. -/
def State.quadOff (s : State) (q : Nat) : State :=
  (((s.put SL_QSTAT.STATE ckOFF q).put SL_QSTAT.BUSY 0 q).put STAGE_FREQ 0 (6 + q)).put CK_OSTAT.PHASE phSTEADY (6 + q)

/-- GO samples the registers (R227, R430). -/
def State.quadSample (s : State) (q : Nat) : State :=
  let s := ((s.put QP_RDIV (s.get SL_QCFG.RDIV q) q).put QP_N (s.get SL_QCFG.N q) q).put QP_F (s.get SL_QFRAC.F q) q
  (s.put STAGE_POL (s.get CK_OPOL.POLICY (6 + q)) (6 + q)).put STAGE_RATE (s.get CK_OPOL.RATE (6 + q)) (6 + q)

/-- The effect of a word written to SL_QCTL[q] (R430). -/
def wrQctl (m : Master) (q w : Nat) (s : State) : State :=
  let enNow := s.flag SL_QCTL.EN q
  let enNew := bit w 0
  let go := bit w 1
  if s.quadAbsent q && !enNew && !go then s
  else
    let s := if SL_QCTL.LOCK_T.accepts (bits w 2 8) && !s.quadAbsent q then s.put SL_QCTL.LOCK_T (bits w 2 8) q else s
    if enNow = enNew && !go then s
    else
      match if go then s.quadCheck m q (s.get SL_QCFG.RDIV q) (s.get SL_QCFG.N q) (s.get SL_QFRAC.F q)
          else s.quadCheck m q (s.get QP_RDIV q) (s.get QP_N q) (s.get QP_F q) with
      | some (c, obj) => s.refuse c obj m (0x7108 + 0x20 * q)
      | none =>
        let s := (if go then s.quadSample q else s).put SL_QCTL.EN (b2n enNew) q
        if enNow && !enNew then s.quadOff q
        else if enNew then s.quadStart q (s.get STAGE_POL (6 + q))
        else s

/-- QPLL_GO (R430): a write to SL_QCTL[q]. -/
def execQpllGo (m : Master) (q : Fin 10) (w : Word) (s : State) : Out :=
  live s fun s => s.onWrite m (0x7108 + 0x20 * q) w.toNat (wrQctl m q w.toNat)

/-- A write to SL_QCFG[q] or SL_QFRAC[q], which the endpoint sets while it owns the quad (R432). -/
def wrQcfgReg (m : Master) (r : Reg) (q w : Nat) (s : State) : State :=
  if s.quadPx q || s.quadAbsent q then s else s.writeReg m r q w

/-- The stage of a quad PLL has reached its frequency (R232, R234, R431). -/
def State.quadSteady (s : State) (q : Nat) : State :=
  let s := (s.put STAGE_FREQ (s.get STAGE_NEXT (6 + q)) (6 + q)).put CK_OSTAT.PHASE phSTEADY (6 + q)
  (s.put SL_QSTAT.STATE ckLOCKED q).put SL_QSTAT.BUSY 0 q

/-- QPLL_LOCKED (R431, R232, R234). -/
def execQpllLocked (q : Fin 10) (s : State) : Out :=
  live s fun s =>
    let st := s.get SL_QSTAT.STATE q
    let j := 6 + q.val
    if s.mode = mDORMANT then s
    else if st = ckACQUIRE then
      if s.get STAGE_POL j ≠ 0 || s.get STAGE_FREQ j = s.get STAGE_NEXT j || s.quadPx q then s.quadSteady q
      else (s.put SL_QSTAT.STATE ckLOCKED q).put CK_OSTAT.PHASE phSLEWING j
    else if st = ckHOLDOVER then
      if s.get STAGE_FREQ j = s.get STAGE_NEXT j then s.quadSteady q else s.put CK_OSTAT.PHASE phSLEWING j
    else s

/-- LOCK_T has expired for a quad PLL (R431). -/
def State.quadTimeout (s : State) (q : Nat) : State :=
  if s.get SL_QSTAT.STATE q = ckACQUIRE && s.flag SL_QSTAT.BUSY q then
    (((s.put SL_QSTAT.STATE ckFAULT q).put SL_QSTAT.BUSY 0 q).put SL_IRQ.QPLL 1).raise Rc.SL_QPLL_LOCK_TIMEOUT (0x100 + q)
  else s

/-- SL_QPLL_LOCK_TIMEOUT (R431). -/
def execSlQpllLockTimeout (q : Fin 10) (s : State) : Out := live s fun s => s.quadTimeout q

/-- SL_QPLL_LOST (R431). -/
def execSlQpllLost (q : Fin 10) (s : State) : Out :=
  live s fun s =>
    if s.get SL_QSTAT.STATE q = ckLOCKED && s.mode ≠ mDORMANT then
      let s := ((s.put SL_QSTAT.STATE ckHOLDOVER q).put CK_OSTAT.PHASE phHOLDING (6 + q)).put SL_QSTAT.LOL 1 q
      (s.put SL_IRQ.QPLL 1).raise Rc.SL_QPLL_LOST (0x100 + q)
    else s

/-- SLEW_STEP (R234): one µs of a HOLD slew of output stage j. -/
def execSlewStep (j : Fin 16) (s : State) : Out :=
  live s fun s =>
    if s.get CK_OSTAT.PHASE j ≠ phSLEWING || s.mode = mDORMANT then s
    else
      let s := s.put STAGE_FREQ (s.slewTo j) j
      if s.get STAGE_FREQ j ≠ s.get STAGE_NEXT j then s
      else if j.val < 6 then (if j = 0 then (s.synSteady 0).tbFollow else s.synSteady j)
      else s.quadSteady (j.val - 6)

/-! Lanes (R433 to R442). -/

/-- Width of the word of a PCS mode, and its highest rate in Mbit/s (Table SL-3). -/
def pcsWidth (p : Nat) : Nat := match p with | 0 => 16 | 1 => 32 | 2 => 64 | 3 => 40 | 4 => 66 | _ => 64
def pcsMax (p : Nat) : Nat := match p with | 0 => 7200 | 1 => 14400 | 3 => 12500 | _ => 28200

/-- Line rate of lane l as a fraction of bit/s. -/
def State.lineRate (s : State) (l : Nat) : Nat × Nat :=
  let q := l / 4
  let v := s.quadVco q (s.get QP_RDIV q) (s.get QP_N q) (s.get QP_F q)
  (2 * v.1, v.2 * 2 ^ s.get SL_LCFG.DIV l)

/-- Table SL-4: the first check that refuses the enable of lane l, configured in `s`. -/
def State.laneCheck (s : State) (m : Master) (l : Nat) : Option (Rc × Nat) :=
  let p := s.get SL_LCFG.PCS l
  let r := s.lineRate l
  let w := pcsWidth p
  if !s.unitMode m then some (Rc.SL_WRONG_MODE, s.mode)
  else if s.laneAbsent l then some (Rc.SL_LANE_ABSENT, l)
  else if s.laneOwner l = owPCIE || s.laneOwner l = owHOKUOX then some (Rc.SL_LANE_OWNED, l)
  else if s.quadPx (l / 4) then some (Rc.SL_QPLL_OWNED, l)
  else if 6 ≤ p then some (Rc.SL_PCS_MODE, l)
  else if r.1 < 1000000000 * r.2 || pcsMax p * 1000000 * r.2 < r.1 then some (Rc.SL_RATE_RANGE, l)
  else if r.1 < 15625000 * w * r.2 || 450000000 * w * r.2 < r.1 then some (Rc.SL_PCS_RATE, l)
  else if 40 < s.get SL_LTXEQ.PRE l + s.get SL_LTXEQ.POST l || s.get SL_LTXEQ.SWING l = 15 then some (Rc.SL_EQ_RANGE, l)
  else if !s.quadRuns (l / 4) then some (Rc.SL_QPLL_OFF, l)
  else none

/-- Crossing ports attached to lane l, enabled. -/
def State.lanePorts (s : State) (l : Nat) : List Nat :=
  (List.range 256).filter fun x =>
    !xpFixed x && s.flag XP_CFG.EN x && (s.get XP_CFG.ATTACH x = 1 || s.get XP_CFG.ATTACH x = 2) &&
      s.get XP_CFG.AIDX x = l

/-- A reset of the lane PCS: word counts and MARK clear (R442, R448, R451). -/
def State.pcsReset (s : State) (l : Nat) : State :=
  (((s.put LANE_TXW 0 l).put LANE_RXW 0 l).put SL_LCTL.MARK 0 l).put LTX_ARM 0 l

/-- The lane has no signal it follows. -/
def State.laneDark (s : State) (l : Nat) : State :=
  ((s.put SL_LSTAT.SIGDET 0 l).put SL_LSTAT.CDR 0 l).put SL_LSTAT.ALIGNED 0 l

/-- Both sides of a lane stop (R440). -/
def State.laneStop (s : State) (l : Nat) : State :=
  (((s.put SL_LCFG.EN 0 l).put SL_LSTAT.OWNER owNONE l).pcsReset l).laneDark l

/-- The effect of a word written to SL_LCFG[l] (R435, R438 to R440). -/
def wrLcfg (m : Master) (l w : Nat) (s : State) : State :=
  let off := 0x7400 + 0x40 * l
  let other := s.laneOwner l = owPCIE || s.laneOwner l = owHOKUOX
  if s.flag SL_LCFG.EN l then
    let s := if bits w 1 14 ≠ s.readReg SL_LCFG.reg l / 2 then s.raise Rc.SL_LANE_ON l else s
    if bit w 0 then s
    else if !(s.lanePorts l).isEmpty then s.refuse Rc.SL_LANE_BUSY l m off
    else s.laneStop l
  else if bit w 0 then
    let s := if other || s.laneAbsent l then s else (s.writeReg m SL_LCFG.reg l w).put SL_LCFG.EN 0 l
    match s.laneCheck m l with
    | some (c, obj) => s.refuse c obj m off
    | none => ((s.put SL_LCFG.EN 1 l).put SL_LSTAT.OWNER owARRAY l).pcsReset l
  else if s.laneAbsent l then s
  else if other then s.raise Rc.SL_LANE_OWNED l
  else s.writeReg m SL_LCFG.reg l w

/-- LANE_ENABLE (R438 to R440): a write to SL_LCFG[l]. -/
def execLaneEnable (m : Master) (l : Fin 40) (w : Word) (s : State) : Out :=
  live s fun s => s.onWrite m (0x7400 + 0x40 * l) w.toNat (wrLcfg m l w.toNat)

/-- A write to SL_LTXEQ[l], ignored and logged on a lane of the endpoint or Hokuox (R435). -/
def wrTxEq (m : Master) (l w : Nat) (s : State) : State :=
  if s.laneAbsent l then s
  else if s.laneOwner l = owPCIE || s.laneOwner l = owHOKUOX then s.raise Rc.SL_LANE_OWNED l
  else s.writeReg m SL_LTXEQ.reg l w

/-- A write to SL_LRXEQ[l] or a DFE register (R435, R447): values are ignored while the receiver adapts them. -/
def wrRxEq (m : Master) (r : Reg) (l w : Nat) (s : State) : State :=
  if s.laneAbsent l then s
  else if s.laneOwner l = owPCIE || s.laneOwner l = owHOKUOX then s.raise Rc.SL_LANE_OWNED l
  else if r = SL_LRXEQ.reg then
    let s := s.put SL_LRXEQ.ADAPT (bits w 0 1) l
    if bit w 0 then s else s.writeReg m r l w
  else if s.flag SL_LRXEQ.ADAPT l then s
  else s.writeReg m r l w

/-- A read of SL_LRXEQ[l] or a DFE register: what the receiver has adapted to is left open (R447).
(DEDUCED, log entry 41.) -/
def rdRxEq (r : Reg) (l : Nat) (s : State) : Nat × State :=
  if s.flag SL_LRXEQ.ADAPT l && s.flag SL_LSTAT.CDR l then
    (if r = SL_LRXEQ.reg then 1 + 2 * s.fresh 8 else s.fresh 32, s.drawn)
  else (s.readReg r l, s)

/-- What a lane event leaves (R456, Table SL-7). -/
def State.laneEvent (s : State) (cnt irq : Field) (c : Rc) (l detail : Nat) : State :=
  let first := !s.flag irq
  let s := (s.count cnt 1 l).put irq 1
  if first then s.raise c l detail else s

/-- The eye scan of lane l ends (R455). -/
def State.eyeEnd (s : State) (l count : Nat) : State :=
  (((s.put SL_LEYERES.COUNT count l).put SL_LEYE.BUSY 0 l).put SL_LEYE.DONE 1 l).put SL_IRQ.EYE 1

/-- ALIGNED takes a value (R439, R456). -/
def State.laneAlign (s : State) (l : Nat) (on : Bool) : State :=
  let was := s.flag SL_LSTAT.ALIGNED l
  let s := s.put SL_LSTAT.ALIGNED (b2n on) l
  if was && !on && s.flag SL_LSTAT.CDR l then s.laneEvent SL_LERR.ALIGN SL_IRQ.ALIGN Rc.SL_ALIGN_LOST l 0 else s

/-- CDR_LOCK_CHANGE (R439, R441, R455, R456): clock recovery of lane l locks or is lost, and the detector shows
`sigdet`. In RAW modes ALIGNED follows; without CDR there is no alignment. -/
def execCdrLockChange (l : Fin 40) (locked sigdet : Bool) (s : State) : Out :=
  live s fun s =>
    if !s.rxRuns l || s.mode = mDORMANT then s
    else
      let was := s.flag SL_LSTAT.CDR l
      let s := (s.put SL_LSTAT.SIGDET (b2n sigdet) l).put SL_LSTAT.CDR (b2n locked) l
      let s := if !locked then s.put SL_LSTAT.ALIGNED 0 l
        else if s.get SL_LCFG.PCS l < 3 then s.put SL_LSTAT.ALIGNED 1 l else s
      if was && !locked then
        let s := if s.flag SL_LCFG.EN l then s.laneEvent SL_LERR.CDR SL_IRQ.CDR Rc.SL_CDR_LOST l 0 else s
        if s.flag SL_LEYE.BUSY l then s.eyeEnd l 0xFFFFFFFF else s
      else s

/-- ALIGN_CHANGE (R439, R456): the receive PCS of a lane with CDR gains or loses word alignment. -/
def execAlignChange (l : Fin 40) (aligned : Bool) (s : State) : Out :=
  live s fun s =>
    if s.rxRuns l && s.flag SL_LSTAT.CDR l && 3 ≤ s.get SL_LCFG.PCS l && s.mode ≠ mDORMANT then s.laneAlign l aligned
    else s

/-- The effect of a word written to SL_LCTL[l] (R442, R451). -/
def wrLctl (l w : Nat) (s : State) : State :=
  if s.laneAbsent l then s
  else
    let s := s.put SL_LCTL.MARK (bits w 1 1) l
    if bit w 0 then (s.lanePorts l).foldl (fun u x => if u.get XP_STAT.STATE x = xpFAULT then u else u.xpSync x 1) (s.pcsReset l)
    else s

/-- LANE_RST (R442): a write of RST. -/
def execLaneRst (m : Master) (l : Fin 40) (s : State) : Out :=
  live s fun s => s.onWrite m (0x7404 + 0x40 * l) 1 (wrLctl l 1)

/-- LANE_MARK (R451): a write of MARK. -/
def execLaneMark (m : Master) (l : Fin 40) (s : State) : Out :=
  live s fun s => s.onWrite m (0x7404 + 0x40 * l) 2 (wrLctl l 2)

/-! Tests (R452 to R455). -/

/-- Ages, in bits, of the errors that the PRBS checker of lane l has seen within the last 1,024 bits. -/
def PRBS_ERRS : Fifo := ⟨19⟩

/-- The checker of lane l starts again. -/
def State.prbsRestart (s : State) (l : Nat) : State :=
  (((s.put PRBS_REG 0 l).put PRBS_GOOD 0 l).setList PRBS_ERRS [] l).put SL_LTEST.PRBS_LOCK 0 l

/-- The effect of a word written to SL_LTEST[l] (R452, R453). -/
def wrLtest (m : Master) (l w : Nat) (s : State) : State :=
  let off := 0x7420 + 0x40 * l
  let next := s.writeReg m SL_LTEST.reg l w
  let on := next.get SL_LTEST.LOOP l + next.get SL_LTEST.PRBS_TX l + next.get SL_LTEST.PRBS_RX l ≠ 0
  if s.laneAbsent l then s
  else if s.laneOwner l = owPCIE || s.laneOwner l = owHOKUOX then
    if on then s.refuse Rc.SL_LANE_OWNED l m off else s.raise Rc.SL_LANE_OWNED l
  else if on && !(s.lanePorts l).isEmpty then s.refuse Rc.SL_LANE_BUSY l m off
  else
    let s := if next.get SL_LTEST.PRBS_RX l ≠ s.get SL_LTEST.PRBS_RX l then next.prbsRestart l else next
    if bit w 9 then s.emit .serial [0x100 + l, 1] else s

/-- LANE_TEST_WRITE (R452): a write to SL_LTEST[l]. -/
def execLaneTestWrite (m : Master) (l : Fin 40) (w : Word) (s : State) : Out :=
  live s fun s => s.onWrite m (0x7420 + 0x40 * l) w.toNat (wrLtest m l w.toNat)

/-- INJ (R453): a write of INJ that leaves the other fields as they are; the next bit sent is inverted. -/
def execInj (m : Master) (l : Fin 40) (s : State) : Out :=
  let w := setBit (s.readReg SL_LTEST.reg l % 256) 9
  live s fun s => s.onWrite m (0x7420 + 0x40 * l) w (wrLtest m l w)

/-- The two taps of a pattern (R453). -/
def prbsTaps (code : Nat) : Nat × Nat :=
  match code with | 1 => (6, 7) | 2 => (14, 15) | 3 => (18, 23) | _ => (28, 31)

/-- The checker of lane l takes one received bit: against the received bits before it while it seeks lock, against its
own sequence once locked (R453). -/
def State.prbsBit (s : State) (l : Nat) (b : Bool) : State :=
  let t := prbsTaps (s.get SL_LTEST.PRBS_RX l)
  let r := s.get PRBS_REG l
  let want := bit r (t.1 - 1) != bit r (t.2 - 1)
  let err := b != want
  if s.flag SL_LTEST.PRBS_LOCK l then
    let s := s.put PRBS_REG ((2 * r + b2n want) % 2 ^ 31) l
    let kept := ((s.list PRBS_ERRS l).map (· + 1)).filter (· < 1024)
    let kept := if err then 0 :: kept else kept
    let s := s.setList PRBS_ERRS kept l
    let s := if err then s.laneEvent SL_LPRBSERR.COUNT SL_IRQ.PRBS Rc.SL_PRBS_ERR l 0 else s
    if 64 ≤ kept.length then ((s.put SL_LTEST.PRBS_LOCK 0 l).put PRBS_GOOD 0 l).setList PRBS_ERRS [] l else s
  else
    let s := s.put PRBS_REG ((2 * r + b2n b) % 2 ^ 31) l
    if err then s.put PRBS_GOOD 0 l
    else
      let s := s.put PRBS_GOOD (s.get PRBS_GOOD l + 1) l
      if 64 ≤ s.get PRBS_GOOD l then s.put SL_LTEST.PRBS_LOCK 1 l else s

/-- PRBS_CHECK (R453): 64 received line bits, bit 0 first in time. -/
def execPrbsCheck (l : Fin 40) (line : BitVec 64) (s : State) : Out :=
  live s fun s =>
    if s.get SL_LTEST.PRBS_RX l ≠ 0 && s.flag SL_LCFG.EN l && s.rxRuns l && s.mode ≠ mDORMANT then
      (List.range 64).foldl (fun u i => u.prbsBit l (bit line.toNat i)) s
    else s

/-- The effect of a word written to SL_LEYE[l] (R455): available whoever owns the lane. A scan without CDR ends at
once. -/
def wrLeye (m : Master) (l w : Nat) (s : State) : State :=
  if s.laneAbsent l then s
  else if s.flag SL_LEYE.BUSY l then s
  else
    let s := s.writeReg m SL_LEYE.reg l w
    if !bit w 18 then s
    else
      let s := (s.put SL_LEYE.BUSY 1 l).put SL_LEYE.DONE 0 l
      if s.flag SL_LSTAT.CDR l then s else s.eyeEnd l 0xFFFFFFFF

/-- EYE_SCAN_GO (R455): a write to SL_LEYE[l] with GO 1. -/
def execEyeScanGo (m : Master) (l : Fin 40) (w : Word) (s : State) : Out :=
  let v := setBit w.toNat 18
  live s fun s => s.onWrite m (0x7428 + 0x40 * l) v (wrLeye m l v)

/-- EYE_SCAN_DONE (R455): the dwell ends with so many disagreements. -/
def execEyeScanDone (l : Fin 40) (count : BitVec 32) (s : State) : Out :=
  live s fun s => if s.flag SL_LEYE.BUSY l then s.eyeEnd l count.toNat else s

/-! Lane-boundary tags (R316, R448). -/

/-- LBT_CAPTURE (R316): the next word of the armed side starts at the balls, `ago` interpolator bins of 25 units before
the present count, as word `word` since the PCS left reset. -/
def execLbtCapture (l : Fin 40) (ago : BitVec 24) (word : BitVec 32) (s : State) : Out :=
  live s fun s =>
    let rx := s.flag BS_LBTCTL.SIDE l
    let runs := if rx then s.rxRuns l else s.txRuns l
    if s.flag BS_LBTCTL.EN l && s.flag BS_LBTCTL.ARM l && runs && s.flag BS_TBSTAT.RUNNING && s.mode ≠ mDORMANT then
      let t := (s.now + 2 ^ 80 - 25 * ago.toNat) % 2 ^ 80
      let s := ((s.put BS_LBTT0.T (t % 2 ^ 32) l).put BS_LBTT1.T (t / 2 ^ 32) l).put BS_LBTT2.T (t / 2 ^ 64) l
      let s := (((s.put BS_LBTWC.WORDS word.toNat l).put BS_LBTCTL.DONE 1 l).put BS_LBTCTL.ARM 0 l).put BS_IRQ.LBT 1
      if rx then s.put LANE_RXW word.toNat l else s.put LANE_TXW word.toNat l
    else s

/-! Modes (R458, R459). -/

/-- RESCUE entry and zeroise: ARRAY lanes NONE, quad PLLs of no other lane stopped. -/
def State.slStop (s : State) : State :=
  let s := (List.range 40).foldl (fun u l => if u.flag SL_LCFG.EN l then u.laneStop l else u) s
  (List.range 10).foldl (fun u q =>
    if u.quadPx q || [0, 1, 2, 3].any (fun i => u.laneOwner (4 * q + i) = owHOKUOX) then u
    else (u.quadOff q).put SL_QCTL.EN 0 q) s

/-- DORMANT entry: the quad PLLs stop, receivers are off (R240, R459). -/
def State.slSleep (s : State) : State :=
  let s := (List.range 10).foldl (fun u q => if u.get SL_QSTAT.STATE q = ckOFF then u else u.quadOff q) s
  (List.range 40).foldl (fun u l => if u.laneOwner l = owNONE then u else (u.laneDark l).prbsRestart l) s

/-- Wake: enabled quad PLLs have locked again, but for those of the mask, whose lock timed out; lanes leave PCS reset with
their counts at 0 (R459). -/
def State.slWake (s : State) (late : Nat) : State :=
  let s := (List.range 10).foldl (fun u q =>
    if u.flag SL_QCTL.EN q || u.quadPx q then
      let v := u.quadStart q 1
      if bit late q then v.quadTimeout q else v.quadSteady q
    else u) s
  (List.range 40).foldl (fun u l => if u.laneOwner l = owNONE then u else u.pcsReset l) s

end Sys2Proof.Machine
end

