-- ==== Sys2Proof/Machine/Pcie.lean ====
section
/-! DEFINITION. spec/13: the PCI Express endpoint, its host windows and its DMA engine. Requests reach the endpoint as
commands; completions and memory writes to the host are outputs. -/

namespace Sys2Proof.Machine

/-- Exchanges of window k that have entered its buffer, in the order of R471. -/
def PX_XQ : Fifo := ⟨20⟩
/-- Exchanges of window k whose requests wait behind a write that has not entered the buffer (R472). -/
def PX_WQ : Fifo := ⟨21⟩
/-- Reads of window k not yet answered in full, oldest first (R474). -/
def PX_RD : Fifo := ⟨22⟩
/-- Reads sent to the device of fabric window n and not yet answered, oldest first (R41, R474). -/
def PX_RREAD : Fifo := ⟨23⟩
/-- Bytes received for channel c and not yet used: its descriptor, then its staging buffer (R480, R482). -/
def PX_STAGE : Fifo := ⟨24⟩

/-! Outputs to the host. -/

/-- A completion with one data word. -/
def State.hostData (s : State) (tag data : Nat) : State := s.emit .toHost [0, tag, data]
/-- A Completer Abort for what is left of a request. -/
def State.hostAbort (s : State) (tag left : Nat) : State := s.emit .toHost [1, tag, left]
/-- An Unsupported Request. -/
def State.hostUnsup (s : State) (tag : Nat) : State := s.emit .toHost [2, tag]
/-- A memory read request of the DMA engine: channel, address, bytes. -/
def State.hostRead (s : State) (c addr n : Nat) : State := s.emit .toHost [3, c, addr, n]
/-- A memory write of the DMA engine: address, data, bytes. -/
def State.hostWrite (s : State) (addr data n : Nat) : State := s.emit .toHost [4, addr, data, n]

/-! The read guard (R474 to R476). -/

/-- A guarded read: counted, flagged, the first logged (R42, R474). -/
def State.guardCount (s : State) (obj : Nat) : State :=
  let first := !s.flag PX_IRQ.GUARD
  let t := (s.count PX_GCNT.GUARDED 1).put PX_IRQ.GUARD 1
  if first then t.raise Rc.PX_GUARD obj else t

/-- R475: an answer that comes too late. -/
def State.lateAnswer (s : State) (obj : Nat) : State :=
  let t := s.count PX_GCNT.LATE 1
  if s.get PX_GCNT.LATE = 0 then t.raise Rc.PX_LATE_ANSWER obj else t

/-- The answer of a policy for what is left of a read. -/
def State.policyAnswer (s : State) (policy tag left : Nat) : State := s.emit .guarded [policy, tag, left]

/-! Host windows (R469 to R473). -/

/-- One exchange of the request with receipt number `seq`. -/
def exch (side data seq : Nat) : Nat := data % 2 ^ 64 + 2 ^ 64 * side + 2 ^ 72 * seq
/-- Its receipt number. -/
def exSeq (e : Nat) : Nat := e / 2 ^ 72
/-- QSIDE[1:0] is ADDR_WR or WRITE. -/
def exWrite (e : Nat) : Bool := bits e 64 2 = 0 || bits e 64 2 = 2
/-- It carries a data word of a write. -/
def exWord (e : Nat) : Bool := bits e 64 2 = 2

/-- A read in progress: receipt number, tag, sampled policy, words still owed. -/
def rdEntry (seq tag policy left : Nat) : Nat := left % 2 ^ 12 + 2 ^ 12 * policy + 2 ^ 14 * tag + 2 ^ 24 * seq
/-- Its receipt number. -/
def rdSeq (r : Nat) : Nat := r / 2 ^ 24

/-- R471: a posted write received before `seq` is still unanswered on some window. -/
def State.writeBefore (s : State) (seq : Nat) : Bool :=
  (List.range 16).any fun k => (s.list PX_XQ k ++ s.list PX_WQ k).any fun e => exWrite e && exSeq e < seq

/-- Whether an exchange belongs to a read that the guard has ended. -/
def State.exDead (s : State) (k e : Nat) : Bool := !exWrite e && !((s.list PX_RD k).any fun r => rdSeq r = exSeq e)

/-- R472: requests enter the buffer in order while their write data fit in 4 KiB. -/
def pxEnter : Nat → Nat → State → State
  | 0, _, s => s
  | f + 1, k, s =>
    match s.list PX_WQ k with
    | [] => s
    | e :: _ =>
      let mine := (s.list PX_WQ k).filter fun x => exSeq x = exSeq e
      let held := ((s.list PX_XQ k).filter exWord).length
      if held + (mine.filter exWord).length ≤ 512 then
        pxEnter f k ((s.setList PX_XQ (s.list PX_XQ k ++ mine) k).setList PX_WQ
          ((s.list PX_WQ k).filter fun x => exSeq x ≠ exSeq e) k)
      else s

/-- Offer the next exchange of window k at its port (R252, R470, R471, R475). -/
def State.pxOffer (s : State) (k : Nat) : State :=
  if !(s.list XP_Q k).isEmpty then s
  else
    let s := s.setList PX_XQ ((s.list PX_XQ k).filter fun e => !s.exDead k e) k
    match s.list PX_XQ k with
    | [] => s
    | e :: _ =>
      if s.get XP_STAT.STATE k = xpRUN && s.get PX_LINK.DSTATE = 0 && (exWrite e || !s.writeBefore (exSeq e)) then
        (s.setList XP_Q [e] k).emit .toArray [6, k, bits e 64 8, e % 2 ^ 64]
      else s

/-- Let every window go on. -/
def State.pxPump (s : State) : State :=
  (List.range 16).foldl (fun u k => (pxEnter (u.list PX_WQ k).length k u).pxOffer k) s

/-- Forget the exchanges of a request. -/
def State.pxForget (s : State) (k seq : Nat) : State :=
  (s.setList PX_XQ ((s.list PX_XQ k).filter fun e => exSeq e ≠ seq) k).setList PX_WQ
    ((s.list PX_WQ k).filter fun e => exSeq e ≠ seq) k

/-- The array answers the open exchange of window k (R469, R470, R475). -/
def State.pxAnswered (s : State) (k data stat : Nat) : State :=
  match s.list XP_Q k with
  | [e] =>
    let q := exSeq e
    let s := (s.setList XP_Q [] k).setList PX_XQ ((s.list PX_XQ k).erase e) k
    if exWrite e then
      if stat % 16 = 0 then s.pxPump
      else ((s.pxForget k q).count PX_WDROP.ERROR 1 |>.raise Rc.PX_WRITE_DROP (0x100 + k)).pxPump
    else
      match (s.list PX_RD k).find? fun r => rdSeq r = q with
      | none => (s.lateAnswer (0x100 + k)).pxPump
      | some r =>
        let tag := bits r 14 10
        let left := bits r 0 12
        let rest := (s.list PX_RD k).erase r
        if stat % 16 ≠ 0 then (((s.setList PX_RD rest k).pxForget k q).hostAbort tag left).pxPump
        else if bits e 64 2 = 1 then s.pxPump
        else
          let s := s.hostData tag data
          (if left ≤ 1 then s.setList PX_RD rest k
           else s.setList PX_RD ((s.list PX_RD k).map fun x => if x = r then r - 1 else x) k).pxPump
  | _ => s

/-- R473: a request for a window whose port is not in RUN. -/
def State.noDesign (s : State) (k : Nat) : State :=
  let t := s.put PX_IRQ.WDROP 1
  if s.flag PX_NDLOG then t else (t.put PX_NDLOG 1).raise Rc.PX_NO_DESIGN (0x100 + k)

/-- R473: nothing can answer at window k. -/
def State.windowIdle (s : State) (k : Nat) : Bool := s.get XP_STAT.STATE k ≠ xpRUN || s.xpHeld k

/-- The parts of a request of n words at a byte offset: offset, words, first and last byte enables. A read is cut at
512-byte blocks (R470); a series has at most 64 words (Table PX-5). -/
def pxParts : Nat → Bool → Bool → Nat → Nat → Nat → Nat → List (Nat × Nat × Nat × Nat)
  | 0, _, _, _, _, _, _ => []
  | f + 1, isRead, first, off, n, fbe, lbe =>
    if n = 0 then []
    else
      let m := min n (if isRead then 64 - off / 8 % 64 else 64)
      let last := m = n
      let fe := if first then fbe else if m = 1 && last then lbe else 0xFF
      (off, m, fe, if last then lbe else 0xFF) :: pxParts f isRead false (off + 8 * m) (n - m) fbe lbe

/-- QDATA of an ADDR_WR or ADDR_RD exchange. -/
def addrData (p : Nat × Nat × Nat × Nat) : Nat := p.1 % 2 ^ 32 / 8 * 8 + 2 ^ 32 * p.2.2.1 + 2 ^ 40 * p.2.2.2

/-- The exchanges of a write. -/
def writeExchanges (seq : Nat) : List (Nat × Nat × Nat × Nat) → List Nat → List Nat
  | [], _ => []
  | p :: ps, ws =>
    exch (4 * (p.2.1 - 1)) (addrData p) seq :: (ws.take p.2.1).map (fun w => exch 2 w seq) ++
      writeExchanges seq ps (ws.drop p.2.1)

/-- The exchanges of a read. -/
def readExchanges (seq : Nat) (ps : List (Nat × Nat × Nat × Nat)) : List Nat :=
  ps.flatMap fun p => exch (1 + 4 * (p.2.1 - 1)) (addrData p) seq :: List.replicate p.2.1 (exch 3 0 seq)

/-- Whether memory requests reach the function: the link is up; in D3hot they complete with Unsupported Request
(R491). -/
def State.linkUp (s : State) : Bool := s.get PX_LINK.SPEED ≠ 0

/-- BAR2_WRITE (R470 to R473): a memory write to window k of one word and more. -/
def execBar2Write (k : Fin 16) (off : BitVec 32) (fbe lbe : BitVec 8) (word : BitVec 64) (more : List (BitVec 64))
    (s : State) : Out :=
  live s fun s =>
    if !s.linkUp || s.get PX_LINK.DSTATE ≠ 0 then s
    else if s.windowIdle k then (s.count PX_WDROP.NODESIGN 1).noDesign k
    else
      let seq := s.get PX_SEQ
      let n := more.length + 1
      let ps := pxParts n false true (off.toNat / 8 * 8) n fbe.toNat lbe.toNat
      let es := writeExchanges seq ps (word.toNat :: more.map BitVec.toNat)
      ((s.put PX_SEQ (seq + 1)).setList PX_WQ (s.list PX_WQ k ++ es) k).pxPump

/-- BAR2_READ (R470, R471, R473, R474): a memory read of `more` + 1 words of window k. -/
def execBar2Read (k : Fin 16) (off : BitVec 32) (fbe lbe : BitVec 8) (more : Fin 513) (tag : BitVec 10) (s : State) :
    Out :=
  live s fun s =>
    if !s.linkUp then s
    else if s.get PX_LINK.DSTATE ≠ 0 then s.hostUnsup tag.toNat
    else if s.windowIdle k then (s.policyAnswer (s.get PX_GUARD.POLICY) tag.toNat (more + 1)).noDesign k
    else
      let seq := s.get PX_SEQ
      let ps := pxParts (more + 1) true true (off.toNat / 8 * 8) (more + 1) fbe.toNat lbe.toNat
      let s := (s.put PX_SEQ (seq + 1)).enq PX_RD (rdEntry seq tag.toNat (s.get PX_GUARD.POLICY) (more + 1)) k
      (s.setList PX_WQ (s.list PX_WQ k ++ readExchanges seq ps) k).pxPump

/-- R474, R475: the guard time of the oldest open read of window k. -/
def State.windowGuard (s : State) (k : Nat) : State :=
  match s.list PX_RD k with
  | [] => s
  | r :: rest =>
    let s := (s.setList PX_RD rest k).guardCount (0x100 + k)
    (s.policyAnswer (bits r 12 2) (bits r 14 10) (bits r 0 12)).pxPump

/-- WRITE_GUARD_EXPIRY (R472): the guard time of the oldest write that waits for room in window k's buffer. -/
def execWriteGuardExpiry (k : Fin 16) (s : State) : Out :=
  live s fun s =>
    match (s.list PX_WQ k).find? exWrite with
    | none => s
    | some e =>
      let s := ((s.pxForget k (exSeq e)).count PX_WDROP.GUARD 1).put PX_IRQ.WDROP 1
      (s.raise Rc.PX_WRITE_DROP (0x100 + k)).pxPump

/-! DMA channels (R477 to R489). -/

/-- PX_CHSTAT.STATE codes. -/
def chOFF : Nat := 0
def chIDLE : Nat := 1
def chACTIVE : Nat := 2
def chWAIT : Nat := 3
def chHALTED : Nat := 4
def chPAUSED : Nat := 5

/-- Host to device: channels 0 to 31. -/
def chH2D (c : Nat) : Bool := c < 32
/-- The code of DMA channel c (Table QM-1). -/
def dmaCode (c : Nat) : Nat := 64 + c

/-- Descriptors posted and not completed, modulo 2^32 (R478). -/
def State.posted (s : State) (c : Nat) : Nat := (s.get PX_TAIL.TAIL c + 2 ^ 32 - s.get PX_HEAD.HEAD c) % 2 ^ 32

/-- The host address of descriptor n of channel c (R478). -/
def State.descAddr (s : State) (c n : Nat) : Nat :=
  s.get PX_RBASE_LO.ADDR c + 2 ^ 32 * s.get PX_RBASE_HI.ADDR c + 32 * (n % 2 ^ s.get PX_RSIZE.RSIZE c)

/-- LEN, TAG, SOP, EOP, IRQ of the descriptor in progress (Table PX-6). -/
def State.chLen (s : State) (c : Nat) : Nat := bits (s.get CH_DESC c) 0 24
def State.chSop (s : State) (c : Nat) : Bool := bit (s.get CH_DESC c) 32
def State.chEop (s : State) (c : Nat) : Bool := bit (s.get CH_DESC c) 33
def State.chIrq (s : State) (c : Nat) : Bool := bit (s.get CH_DESC c) 34

/-- One queue operation of channel c; none where it must wait (R482, R483). -/
def State.chOp (s : State) (c op data : Nat) : Option (QRes × State) :=
  (s.qExec { who := dmaCode c, queue := s.get PX_CHCFG.QUEUE c, op := op, lane := s.get PX_CHCFG.LANE c,
             any := s.flag PX_CHCFG.ANY c && !chH2D c, block := true, data := data }).map fun r =>
    (r.1, r.2.regrantAll (s.get PX_CHCFG.QUEUE c))

/-- Bytes moved since enable. -/
def State.chBytes (s : State) (c n : Nat) : State :=
  let v := s.get PX_CHBYTES_LO.BYTES c + 2 ^ 32 * s.get PX_CHBYTES_HI.BYTES c + n
  (s.put PX_CHBYTES_LO.BYTES (v % 2 ^ 32) c).put PX_CHBYTES_HI.BYTES (v / 2 ^ 32) c

/-- The STATUS word of the descriptor in progress (Table PX-6). -/
def State.chStatus (s : State) (c code : Nat) : Nat :=
  s.get CH_MOVED c + 2 ^ 24 * s.get CH_TAG c + 2 ^ 32 * s.get CH_STAT c + 2 ^ 40 * code + 2 ^ 63

/-- Set a STATUS flag: 0 SOP, 1 EOP, 2 ABORTED, 3 TRUNCATED, 4 UE. -/
def State.chMark (s : State) (c n : Nat) : State := s.orBit CH_STAT n c

/-- Forget the descriptor in progress. -/
def State.chNone (s : State) (c : Nat) : State :=
  ((((((s.put CH_PHASE 0 c).put CH_MOVED 0 c).put CH_ASKED 0 c).put CH_OUT 0 c).put CH_STAT 0 c).put CH_TAG 0 c).setList
    PX_STAGE [] c

/-- Pop and drop n words of the packet in progress (R488, R489). -/
def chDrain : Nat → Nat → State → State
  | 0, _, s => s
  | n + 1, c, s => match s.chOp c opPOP 0 with | some r => chDrain n c r.2 | none => s

/-- What ends with the channel: an open H2D packet is aborted, the rest of a D2H packet is popped and discarded. -/
def State.chBreak (s : State) (c : Nat) : State :=
  let s :=
    if !s.flag CH_OPEN c then s
    else if chH2D c then (if s.flag CH_TRUNC c then s else match s.chOp c opABORT 0 with | some r => r.2 | none => s)
    else chDrain ((s.get CH_PKT c + 7) / 8) c s
  (((s.put CH_OPEN 0 c).put CH_PKT 0 c).put CH_TRUNC 0 c).put CH_FLAGS 0 c

/-- R488: a channel halts. -/
def State.chHalt (s : State) (c : Nat) (rc : Rc) : State :=
  let n := s.get PX_HEAD.HEAD c
  let s := if s.get CH_PHASE c ≠ 0 then s.hostWrite (s.descAddr c n + 16) (s.chStatus c rc.num) 8 else s
  let s := ((s.count PX_CHERR.ERR 1 c).put PX_CHSTAT.STATE chHALTED c).put PX_CHSTAT.LAST rc.num c
  (((s.put PX_IRQ.DMA_ERR 1).raise rc c n).chBreak c).chNone c

/-- R491, R493: channels take no new descriptors. -/
def State.chHold (s : State) : Bool := s.get PX_LINK.DSTATE ≠ 0 || s.flag PX_PAUSE

/-- STATE of a channel that has no descriptor in progress. -/
def State.chRest (s : State) (c : Nat) : State :=
  s.put PX_CHSTAT.STATE
    (if s.chHold then chPAUSED else if s.posted c = 0 then (if s.flag CH_OPEN c then chWAIT else chIDLE) else chACTIVE) c

/-- All the data of the descriptor have moved: its STATUS is due (R484). -/
def State.chDue (s : State) (c : Nat) : State := s.put CH_PHASE 3 c

/-- R481: whether the descriptor just read is invalid. -/
def State.descBad (s : State) (c : Nat) : Bool :=
  let len := s.chLen c
  let pkt := s.flag PX_CHCFG.PKT c
  s.get CH_ADDR c % 8 ≠ 0 || len = 0 || bits (s.get CH_DESC c) 35 29 ≠ 0 ||
    (len % 8 ≠ 0 && (!chH2D c || !pkt || !s.chEop c)) ||
    (chH2D c && pkt && (s.chSop c == s.flag CH_OPEN c))

/-- A descriptor has been read (R480, R481). -/
def State.chTake (s : State) (c : Nat) (bytes : List Nat) : State :=
  let s := (s.put CH_ADDR (ofBytesLE (bytes.take 8)) c).put CH_DESC (ofBytesLE ((bytes.drop 8).take 8)) c
  let s := s.setList PX_STAGE [] c
  let s := if chH2D c then (s.put CH_TAG (bits (s.get CH_DESC c) 24 8) c).put CH_STAT (32 * s.get PX_CHCFG.LANE c) c
    else s
  if s.descBad c then s.chHalt c Rc.PX_DESC_BAD else (s.put CH_PHASE 2 c).put PX_CHSTAT.STATE chACTIVE c

/-- The max read request size that the host has set in Device Control (R482). -/
def State.maxRead (s : State) : Nat := 128 * 2 ^ min 5 (bits (s.load .cfgSpace 0x1E) 12 3)

/-- R482: ask the host for the next part of the buffer, as far as the staging buffer has room. -/
def State.chAsk (s : State) (c : Nat) : State :=
  let left := s.chLen c - s.get CH_ASKED c
  let room := 4096 - (s.list PX_STAGE c).length - s.get CH_OUT c
  let addr := s.get CH_ADDR c + s.get CH_ASKED c
  let n := min (min left room) (min s.maxRead (4096 - addr % 4096))
  if n = 0 then s
  else ((s.put CH_ASKED (s.get CH_ASKED c + n) c).put CH_OUT (s.get CH_OUT c + n) c).hostRead c addr n

/-- H2D: push what is staged, at most n words (R482): the state after, and whether the channel must wait. -/
def chPush : Nat → Nat → State → State
  | 0, _, s => s
  | n + 1, c, s =>
    if s.get CH_PHASE c ≠ 2 then s
    else if s.flag PX_CHCFG.PKT c && s.chSop c && !s.flag CH_OPEN c then
      match s.chOp c opOPEN 0 with
      | none => s.put PX_CHSTAT.STATE chWAIT c
      | some (r, t) =>
        let t := ((t.put CH_OPEN 1 c).put CH_PKT 0 c).chMark c 0
        chPush n c (if r.status = stOK then t else t.put CH_TRUNC 1 c)
    else
      let left := s.chLen c - s.get CH_MOVED c
      let have_ := s.list PX_STAGE c
      if left = 0 then
        if s.flag PX_CHCFG.PKT c && s.chEop c then
          let s := s.chMark c 1
          let s := if s.flag CH_TRUNC c then s.chMark c 3
            else match s.chOp c opCLOSE (s.get CH_PKT c + 2 ^ 24 * s.get CH_TAG c) with | some r => r.2 | none => s
          (((s.put CH_OPEN 0 c).put CH_PKT 0 c).put CH_TRUNC 0 c).chDue c
        else s.chDue c
      else if have_.length < min 8 left then s.put PX_CHSTAT.STATE chWAIT c
      else
        let m := min 8 left
        let next (t : State) : State :=
          (((t.put CH_MOVED (t.get CH_MOVED c + m) c).put CH_PKT (t.get CH_PKT c + m) c).setList PX_STAGE
            (have_.drop m) c).chBytes c m
        if s.flag CH_TRUNC c then chPush n c (next s)
        else
          match s.chOp c opPUSH (ofBytesLE (have_.take m)) with
          | none => s.put PX_CHSTAT.STATE chWAIT c
          | some (r, t) => chPush n c (next (if r.status = stOK then t else t.put CH_TRUNC 1 c))

/-- D2H: pop and write to the host, at most n words (R483). -/
def chPull : Nat → Nat → State → State
  | 0, _, s => s
  | n + 1, c, s =>
    if s.get CH_PHASE c ≠ 2 then s
    else
      let moved := s.get CH_MOVED c
      if s.flag PX_CHCFG.PKT c && !s.flag CH_OPEN c then
        match s.chOp c opPOP 0 with
        | none => s.put PX_CHSTAT.STATE chWAIT c
        | some (r, t) =>
          let w := r.rdata
          let t := ((t.put CH_OPEN 1 c).put CH_PKT (bits w 0 24) c).put CH_FLAGS (bits w 62 1 + 2 * bits w 61 1) c
          let t := (t.put CH_TAG (bits w 24 8) c).put CH_STAT (1 + 4 * bits w 62 1 + 8 * bits w 61 1 +
            16 * b2n (r.status = stUE) + 32 * r.lane) c
          if bits w 0 24 = 0 then (((t.chMark c 1).put CH_OPEN 0 c).put CH_FLAGS 0 c).chDue c else chPull n c t
      else
        match s.chOp c opPOP 0 with
        | none => s.put PX_CHSTAT.STATE chWAIT c
        | some (r, t) =>
          let m := if s.flag PX_CHCFG.PKT c then min 8 (s.get CH_PKT c) else 8
          let t := t.put CH_STAT (t.get CH_STAT c % 32 + 32 * r.lane) c
          let t := if r.status = stUE then t.chMark c 4 else t
          let t := ((t.hostWrite (s.get CH_ADDR c + moved) r.rdata m).put CH_MOVED (moved + m) c).chBytes c m
          let t := if s.flag PX_CHCFG.PKT c then t.put CH_PKT (s.get CH_PKT c - m) c else t
          if s.flag PX_CHCFG.PKT c && s.get CH_PKT c = m then
            (((t.chMark c 1).put CH_OPEN 0 c).put CH_FLAGS 0 c).chDue c
          else if moved + m = s.chLen c then t.chDue c
          else chPull n c t

/-- R485: whether the engine would serve channel c. -/
def State.chReady (s : State) (c : Nat) : Bool :=
  let st := s.get PX_CHSTAT.STATE c
  s.flag PX_CHCFG.EN c && !s.flag PX_CHCFG.PUSH c && (st = chIDLE || st = chACTIVE || st = chWAIT || st = chPAUSED) &&
    (match s.get CH_PHASE c with
     | 0 => !s.chHold && s.posted c ≠ 0
     | 1 => true
     | 3 => true
     | _ =>
       if chH2D c then
         s.get CH_OUT c ≠ 0 || (s.chOp c opPUSH 0).isSome || s.flag CH_TRUNC c || s.chLen c = s.get CH_MOVED c
       else (s.chOp c opPEEK 0).isSome)

/-- DMA_TURN (R485): a turn for the next ready channel. -/
def execDmaTurn (s : State) : Out :=
  live s fun s =>
    if s.mode = mDORMANT || !s.linkUp then s
    else
      match (List.range 64).find? fun i => s.chReady ((s.get PX_SERVED + 1 + i) % 64) with
      | none => s
      | some i =>
        let c := (s.get PX_SERVED + 1 + i) % 64
        let s := s.put PX_SERVED c
        let n := 64 * (s.get PX_CHCFG.WEIGHT c + 1)
        match s.get CH_PHASE c with
        | 0 =>
          let s := (s.chNone c).hostRead c (s.descAddr c (s.get PX_HEAD.HEAD c)) 32
          let s := if chH2D c || !s.flag CH_OPEN c then s
            else s.put CH_STAT (4 * bits (s.get CH_FLAGS c) 0 1 + 8 * bits (s.get CH_FLAGS c) 1 1) c
          ((s.put CH_PHASE 1 c).put CH_OUT 32 c).put PX_CHSTAT.STATE chWAIT c
        | 2 =>
          let s := s.put PX_CHSTAT.STATE chACTIVE c
          if chH2D c then (chPush (n + 2) c s).chAsk c else chPull (n + 1) c s
        | _ => s

/-- DMA_COMPLETION (R480, R482, R488): a completion for a read of channel c brings data, or an error. -/
def execDmaCompletion (c : Fin 64) (good : Bool) (data : List (BitVec 8)) (s : State) : Out :=
  live s fun s =>
    if s.get CH_OUT c = 0 then s
    else if !good then s.chHalt c Rc.PX_CPL_ERR
    else
      let got := (data.map BitVec.toNat).take (s.get CH_OUT c)
      let s := (s.setList PX_STAGE (s.list PX_STAGE c ++ got) c).put CH_OUT (s.get CH_OUT c - got.length) c
      if s.get CH_PHASE c = 1 && s.get CH_OUT c = 0 then s.chTake c (s.list PX_STAGE c) else s

/-- PX_CPL_TIMEOUT (R488). -/
def execPxCplTimeout (c : Fin 64) (s : State) : Out :=
  live s fun s => if s.get CH_OUT c = 0 then s else s.chHalt c Rc.PX_CPL_TIMEOUT

/-- FLUSH_TIMEOUT (R483): FLUSH_T has passed with the buffer partly filled and no word readable. -/
def execFlushTimeout (c : Fin 64) (s : State) : Out :=
  live s fun s =>
    if !chH2D c && !s.flag PX_CHCFG.PKT c && s.get CH_PHASE c = 2 && s.get CH_MOVED c ≠ 0 &&
        s.get PX_CHFLUSH.FLUSH_T c ≠ 0 && (s.chOp c opPEEK 0).isNone then s.chDue c
    else s

/-- DESCRIPTOR_COMPLETE (R484): the STATUS that is due is written, the message sent, HEAD advances. -/
def execDescriptorComplete (c : Fin 64) (s : State) : Out :=
  live s fun s =>
    if s.get CH_PHASE c ≠ 3 then s
    else
      let n := s.get PX_HEAD.HEAD c
      let t := s.hostWrite (s.descAddr c n + 16) (s.chStatus c 0x0A00) 8
      let t := if s.chIrq c then t.message (s.get PX_CHCFG.VECTOR c) else t
      ((t.put PX_HEAD.HEAD (n + 1) c).chNone c).chRest c

/-- TAIL_DOORBELL (R478, R479): the low 32 bits of a write to the doorbell of channel c. -/
def execTailDoorbell (c : Fin 64) (v : Word) (s : State) : Out :=
  live s fun s =>
    if !s.linkUp || s.get PX_LINK.DSTATE ≠ 0 || !s.flag PX_CHCFG.EN c then s
    else
      let t := s.put PX_TAIL.TAIL v.toNat c
      let st := s.get PX_CHSTAT.STATE c
      if s.flag PX_CHCFG.PUSH c || st = chHALTED then t
      else if 2 ^ s.get PX_RSIZE.RSIZE c < t.posted c then t.chHalt c Rc.PX_RING_OVER
      else if s.get CH_PHASE c = 0 then t.chRest c
      else t

/-- PUSH_DOORBELL (R486): a write to the push doorbell of channel c, `full` when it is one whole aligned 8-byte
write. -/
def execPushDoorbell (c : Fin 32) (full : Bool) (v : BitVec 64) (s : State) : Out :=
  live s fun s =>
    if !s.linkUp || s.get PX_LINK.DSTATE ≠ 0 then s
    else if full && s.flag PX_CHCFG.EN c && s.flag PX_CHCFG.PUSH c then
      let r := s.qNow { who := dmaCode c, queue := s.get PX_CHCFG.QUEUE c, op := opPUSH, lane := s.get PX_CHCFG.LANE c,
                        any := false, block := false, data := v.toNat }
      if r.1.status = stOK then r.2.chBytes c 8 else r.2
    else (s.put PX_IRQ.DMA_ERR 1).raise Rc.PX_DOORBELL c

/-- R489: the channel stops. -/
def State.chStop (s : State) (c : Nat) : State :=
  let q := s.get PX_CHCFG.QUEUE c
  let s := (s.chBreak c).chNone c
  let s := if chH2D c then s.unbindProducer (dmaCode c) q else s.unbindConsumer (dmaCode c) q
  ((s.put PX_CHCFG.EN 0 c).put PX_CHSTAT.STATE chOFF c).regrantAll q

/-- Table PX-7 for channel c, configured in `s` but not yet enabled: the refusal, `true` for a binding one. -/
def State.chCheck (s : State) (c : Nat) : Option ((Rc × Nat) × Bool) :=
  let push := s.flag PX_CHCFG.PUSH c
  let size := s.get PX_RSIZE.RSIZE c
  let own (r : Rc × Nat) : Option ((Rc × Nat) × Bool) := some (r, false)
  if s.mode ≠ mHOLD && s.mode ≠ mRUN then own (Rc.PX_WRONG_MODE, s.mode)
  else if !push && (size < 4 || 16 < size || s.get PX_RBASE_LO.ADDR c % 4096 ≠ 0) then own (Rc.PX_RING, c)
  else if (push && !chH2D c) || (s.flag PX_CHCFG.ANY c && chH2D c) || (push && s.flag PX_CHCFG.PKT c) then
    own (Rc.PX_DIR, c)
  else
    (if chH2D c then s.producerCheck (dmaCode c) (s.get PX_CHCFG.QUEUE c) (2 ^ s.get PX_CHCFG.LANE c)
     else s.consumerCheck (dmaCode c) (s.get PX_CHCFG.QUEUE c)).map fun r => (r, true)

/-- The effect of a word written to PX_CHCFG[c] (R487, R489). -/
def wrPxChcfg (m : Master) (c w : Nat) (s : State) : State :=
  let off := 0x21000 + 0x40 * c
  if s.flag PX_CHCFG.EN c then
    let t := s.writeReg m PX_CHCFG.reg c w
    if t.readReg PX_CHCFG.reg c / 2 ≠ s.readReg PX_CHCFG.reg c / 2 then s.raise Rc.PX_CH_ON c
    else if bit w 0 then s
    else s.chStop c
  else
    let s := (s.writeReg m PX_CHCFG.reg c w).put PX_CHCFG.EN 0 c
    if !bit w 0 then s
    else
      match s.chCheck c with
      | some (r, true) => s.refuseBinding 0x0A r m off
      | some (r, false) => s.refuse r.1 r.2 m off
      | none =>
        let q := s.get PX_CHCFG.QUEUE c
        let s := if chH2D c then s.bindProducer (dmaCode c) q (2 ^ s.get PX_CHCFG.LANE c)
          else s.bindConsumer (dmaCode c) q
        let s := (((s.put PX_CHCFG.EN 1 c).put PX_HEAD.HEAD 0 c).put PX_TAIL.TAIL 0 c).chNone c
        let s := (((s.put CH_OPEN 0 c).put CH_TRUNC 0 c).put CH_PKT 0 c).put CH_FLAGS 0 c
        ((s.put PX_CHBYTES_LO.BYTES 0 c).put PX_CHBYTES_HI.BYTES 0 c).chRest c

/-- CHANNEL_ENABLE (R487, R489): a write to PX_CHCFG[c]. -/
def execChannelEnable (m : Master) (c : Fin 64) (w : Word) (s : State) : Out :=
  live s fun s => s.onWrite m (0x21000 + 0x40 * c) w.toNat (wrPxChcfg m c w.toNat)

/-- A write to PX_CHFLUSH[c] or PX_RSIZE[c] (R487). -/
def wrPxRing (m : Master) (r : Reg) (c w : Nat) (s : State) : State :=
  if s.flag PX_CHCFG.EN c then
    if (s.writeReg m r c w).readReg r c ≠ s.readReg r c then s.raise Rc.PX_CH_ON c else s
  else s.writeReg m r c w

/-- A write to PX_RBASE_HI[c] takes the pair (R19, R487). -/
def wrPxRbaseHi (m : Master) (c w : Nat) (s : State) : State :=
  let lo := 0x21008 + 0x40 * c
  let low := (s.heldLow m lo).getD (s.get PX_RBASE_LO.ADDR c)
  let s := s.dropHold m lo
  if s.flag PX_CHCFG.EN c then
    if low ≠ s.get PX_RBASE_LO.ADDR c || w % 2 ^ 32 ≠ s.get PX_RBASE_HI.ADDR c then s.raise Rc.PX_CH_ON c else s
  else (s.put PX_RBASE_LO.ADDR low c).put PX_RBASE_HI.ADDR w c

/-- A write to PX_IRQ (R473, R495): a cleared cause lets its first event be logged again. -/
def wrPxIrq (m : Master) (w : Nat) (s : State) : State :=
  let s := s.writeReg m PX_IRQ.reg 0 w
  let s := if bit w 4 then s.put PX_NDLOG 0 else s
  if bit w 3 then s.put PX_AERLOG 0 else s

/-! The endpoint identity (R465, R466). -/

/-- Whether the stored identity differs from the one in effect. -/
def State.idDiffers (s : State) : Bool :=
  s.readReg PX_IDCFG.reg 0 ≠ s.get PX_IDEFF || s.get PX_BAR2CFG.SIZE ≠ s.get PX_B2EFF

/-- A write to PX_IDCFG or PX_BAR2CFG (R466). -/
def wrPxIdentity (m : Master) (r : Reg) (w : Nat) (s : State) : State :=
  let t := s.writeReg m r 0 w (m = .gatehouse)
  let differs := t.idDiffers
  let t' := t.put PX_LINK.ID_PEND (b2n differs)
  if differs && t.readReg r 0 ≠ s.readReg r 0 then t'.raise Rc.PX_ID_PENDING 0 else t'

/-- The stored identity takes effect (R466). -/
def State.idTake (s : State) : State :=
  ((s.put PX_IDEFF (s.readReg PX_IDCFG.reg 0)).put PX_B2EFF (s.get PX_BAR2CFG.SIZE)).put PX_LINK.ID_PEND 0

/-! Configuration space (R465; Tables PX-2 and PX-3). -/

/-- What the device fixes in a DWORD of configuration space. -/
def State.cfgFixed (s : State) (d : Nat) : Nat :=
  match d with
  | 0x00 => 0x15361F6D
  | 0x01 => 0x00100000
  | 0x02 => 0x118000A1
  | 0x04 => 0x00000004
  | 0x06 => 0x0000000C
  | 0x08 => 0x00000004
  | 0x0B => s.get PX_IDEFF
  | 0x19 => s.get MSI_PEND
  | 0x0D => 0x40
  | 0x10 => 0x00035001
  | 0x11 => 0x00000008
  | 0x14 => 0x018A7005
  | 0x1C => 0x0002B010
  | 0x1D => 0x00008022
  | 0x1F => 4 + 16 * s.get SL_PXCFG.ACTIVE + 2 ^ 11 + 2 ^ 15 * 7
  | 0x20 => 2 ^ 16 * s.get PX_LINK.SPEED + 2 ^ 20 * s.get PX_LINK.WIDTH
  | 0x25 => 0x0003001F
  | 0x27 => 0x0000001E
  | 0x2C => 0x07FF0011
  | 0x2D => 0x00080004
  | 0x2E => 0x000C0004
  | 0x40 => 0x14820001
  | 0x52 => 0x16810019
  | 0x5A => 0x19810026
  | 0x66 => 0x1C010027
  | 0x70 => 0x1D010003
  | 0x71 => s.get GH_DIEID_LO.ID
  | 0x72 => s.get GH_DIEID_HI.ID
  | 0x74 => 0x0001001E
  | 0x75 => 0x00000018
  | _ => 0

/-- The bits of a DWORD of configuration space that the host can write. -/
def State.cfgMask (s : State) (d : Nat) : Nat :=
  match d with
  | 0x01 => 0x00000546
  | 0x03 => 0x000000FF
  | 0x04 => 0xF0000000
  | 0x05 => 0xFFFFFFFF
  | 0x06 => (2 ^ 32 - 2 ^ (26 + min 6 (s.get PX_B2EFF)))
  | 0x07 => 2 ^ 32 - 2 ^ (s.get PX_B2EFF - 6)
  | 0x08 => 0xFFF00000
  | 0x09 => 0xFFFFFFFF
  | 0x0F => 0x000000FF
  | 0x11 => 0x00000003
  | 0x14 => 0x00710000
  | 0x15 => 0xFFFFFFFC
  | 0x16 => 0xFFFFFFFF
  | 0x17 => 0x0000FFFF
  | 0x18 => 0xFFFFFFFF
  | 0x1E => 0x000071FF
  | 0x20 => 0x000000FB
  | 0x26 => 0x0000101F
  | 0x28 => 0x0000FFFF
  | 0x2C => 0xC0000000
  | 0x42 => 0x03FFF030
  | 0x43 => 0x03FFF030
  | 0x45 => 0x0000F1C1
  | 0x76 => 0x00000008
  | _ => 0

/-- A DWORD of configuration space: what the device fixes and what the host has written. -/
def State.cfgRead (s : State) (d : Nat) : Nat := s.cfgFixed d ||| (s.load .cfgSpace d &&& s.cfgMask d)

/-- The vectors of one allocation of MSI messages: 2 ^ Multiple Message Enable. -/
def State.msiVecs (s : State) : Nat := 2 ^ min 5 (bits (s.load .cfgSpace 0x14) 20 3)

/-- Send the pending messages whose masks are clear (R490). -/
def State.pbaFlush (s : State) : State :=
  if s.flag PX_LINK.MSIX_EN && !s.flag MSIX_FMASK then
    s.pba.reverse.foldl (fun u v =>
      if bit (s.load .msix (4 * v + 3)) 0 then ({ u with pba := u.pba.erase v } : State).emit .message [v] else u) s
  else s

/-- Send the pending MSI messages whose mask bits are clear (R490). -/
def State.msiFlush (s : State) : State :=
  if s.flag PX_LINK.MSI_EN && !s.flag PX_LINK.MSIX_EN then
    (List.range 32).foldl (fun u v =>
      if bit (u.get MSI_PEND) v && !bit (u.load .cfgSpace 0x18) v then (u.andBit MSI_PEND v).emit .message [v] else u) s
  else s

/-- R491: the function changes its D-state. -/
def State.dstate (s : State) (d3 : Bool) : State :=
  let v := if d3 then 3 else 0
  if s.get PX_LINK.DSTATE = v then s
  else
    let s := ((s.put PX_LINK.DSTATE v).put PX_IRQ.DSTATE 1).raise Rc.PX_DSTATE v
    ((List.range 64).foldl (fun u c =>
      let st := u.get PX_CHSTAT.STATE c
      if (st = chIDLE || st = chACTIVE || st = chWAIT || st = chPAUSED) && u.get CH_PHASE c = 0 && u.flag PX_CHCFG.EN c
      then u.chRest c else u) s).pxPump

/-- What a host write of a configuration DWORD changes beyond the word itself: MSI, MSI-X, the power state. -/
def State.cfgEffect (s : State) (d : Nat) : State :=
  match d with
  | 0x11 => let v := bits (s.load .cfgSpace 0x11) 0 2; if v = 3 then s.dstate true else if v = 0 then s.dstate false else s
  | 0x14 =>
    let s := s.put PX_LINK.MSI_EN (bits (s.load .cfgSpace 0x14) 16 1)
    s.put PX_LINK.MSI_VECS (if s.flag PX_LINK.MSI_EN then s.msiVecs else 0)
  | 0x18 => s.msiFlush
  | 0x2C =>
    let w := s.load .cfgSpace 0x2C
    ((s.put PX_LINK.MSIX_EN (bits w 31 1)).put MSIX_FMASK (bits w 30 1)).pbaFlush
  | _ => s

/-- CONFIG_REQUEST (R51, R465): a configuration read, or a write with byte enables, of DWORD d; answered once the link
is up. -/
def execConfigRequest (write : Bool) (d : BitVec 10) (be : BitVec 4) (w : Word) (tag : BitVec 10) (s : State) : Out :=
  live s fun s =>
    if !s.linkUp || s.mode = mTEST then s
    else if write then
      let old := s.load .cfgSpace d.toNat
      let mask := ((List.range 4).map fun i => if bit be.toNat i then 0xFF * 256 ^ i else 0).sum &&& s.cfgMask d.toNat
      let new := (old &&& (0xFFFFFFFF - mask)) ||| (w.toNat &&& mask)
      (s.store .cfgSpace d.toNat new).cfgEffect d.toNat
    else s.hostData tag.toNat (s.cfgRead d.toNat)

/-- DSTATE_CHANGE (R491): the host moves the function between D0 and D3hot. -/
def execDstateChange (d3 : Bool) (s : State) : Out :=
  live s fun s =>
    if s.linkUp then (s.store .cfgSpace 0x11 (if d3 then 3 else 0)).dstate d3 else s

/-- The masked DWORD of the MSI-X table after a host write: the reserved bits stay 0; Vector Control bit 0, the mask,
is stored inverted, so that a blank entry is masked. -/
def msixStored (i w : Nat) : Nat :=
  match i % 4 with | 0 => w - w % 4 | 3 => 1 - w % 2 | _ => w

/-- The DWORD that the host reads. -/
def msixShown (i v : Nat) : Nat := if i % 4 = 3 then 1 - v % 2 else v

/-- DWORD i of the pending-bit array. -/
def State.pbaWord (s : State) (i : Nat) : Nat :=
  ((List.range 32).map fun b => if s.pba.contains (32 * i + b) then 2 ^ b else 0).sum

/-- The DWORD at a BAR4 offset (R468). -/
def State.bar4Read (s : State) (off : Nat) : Nat :=
  if 0x80000 ≤ off && off < 0x88000 then msixShown ((off - 0x80000) / 4) (s.load .msix ((off - 0x80000) / 4))
  else if 0xC0000 ≤ off && off < 0xC0100 then s.pbaWord ((off - 0xC0000) / 4)
  else 0

/-- Write the DWORD at a BAR4 offset (R468). -/
def State.bar4Write (s : State) (off w : Nat) : State :=
  if 0x80000 ≤ off && off < 0x88000 then
    let i := (off - 0x80000) / 4
    s.store .msix i (msixStored i w)
  else s

/-- A host violation of Table PX-8: kind 0 MALF, 1 POISON, 2 UNSUP, 3 UNEXP (R495). -/
def State.violation (s : State) (kind : Nat) : State :=
  let f := match kind with
    | 0 => PX_ERRCNT.MALF | 1 => PX_ERRCNT.POISON | 2 => PX_ERRCNT.UNSUP | _ => PX_ERRCNT.UNEXP
  let c := match kind with
    | 0 => Rc.PX_MALFORMED | 1 => Rc.PX_POISONED | 2 => Rc.PX_UNSUPPORTED | _ => Rc.PX_UNEXP_CPL
  let logged := bit (s.get PX_AERLOG) kind
  let s := ((s.count f 1).put PX_IRQ.AER 1).orBit PX_AERLOG kind
  if logged then s else s.raise c 0

/-- MSIX_TABLE_ACCESS (R468, R490, Table PX-8): a host access of `len` bytes in BAR4, to the MSI-X table, the PBA or a
reserved offset. -/
def execMsixTableAccess (write : Bool) (off : BitVec 20) (len : Fin 513) (w : BitVec 64) (tag : BitVec 10) (s : State) :
    Out :=
  live s fun s =>
    let o := off.toNat
    if !s.linkUp then s
    else if s.get PX_LINK.DSTATE ≠ 0 then (if write then s else s.hostUnsup tag.toNat)
    else if (len.val = 4 || len.val = 8) && o % len.val = 0 then
      if write then
        let s := s.bar4Write o (w.toNat % 2 ^ 32)
        (if len.val = 8 then s.bar4Write (o + 4) (w.toNat / 2 ^ 32) else s).pbaFlush
      else s.hostData tag.toNat (s.bar4Read o + if len.val = 8 then 2 ^ 32 * s.bar4Read (o + 4) else 0)
    else
      let s := s.violation 2
      if write then s else s.hostData tag.toNat 0

/-- HOST_VIOLATION_TLP (R495). -/
def execHostViolationTlp (v : HostViolation) (s : State) : Out :=
  live s fun s =>
    if !s.linkUp then s
    else
      match v with
      | .malformed | .badCompletion => s.violation 0
      | .poisonedWrite => s.violation 1
      | .unsupported | .vendorType0 => s.violation 2
      | .unknownMessage => s
      | .unexpectedCompletion => s.violation 3

/-! The link. -/

/-- The quad PLLs that the endpoint owns start, when it is released and PERST_N is high (R51, R432). -/
def State.pxTrain (s : State) : State :=
  if s.flag PX_FREED && !s.flag PX_PERST && s.mode ≠ mTEST then
    (List.range 2).foldl (fun u q =>
      if u.quadPx q && u.get SL_QSTAT.STATE q ≠ ckLOCKED && u.get SL_QSTAT.STATE q ≠ ckHOLDOVER then u.quadStart q 1
      else u) s
  else s

/-- LINK_UP (R51, R496): training completes, or the speed or width changes. -/
def execLinkUp (speed : Fin 4) (width : BitVec 4) (s : State) : Out :=
  live s fun s =>
    if s.flag PX_FREED && !s.flag PX_PERST && s.mode ≠ mTEST && s.mode ≠ mDORMANT then
      let v := speed.val + 1
      (((s.put PX_LINK.SPEED v).put PX_LINK.WIDTH width.toNat).put PX_IRQ.LINK 1).raise Rc.PX_LINK_UP
        (16 * v + width.toNat)
    else s

/-- The link is down. (DEDUCED, log entry 101.) -/
def State.linkLost (s : State) : State :=
  if s.linkUp then
    ((((s.put PX_LINK.SPEED 0).put PX_LINK.WIDTH 0).put PX_LINK.L1 0).put PX_IRQ.LINK 1).raise Rc.PX_LINK_DOWN 0
  else s

/-- R494: every DMA channel is disabled; requests and open exchanges end. (DEDUCED, log entry 101.) -/
def State.channelsOff (s : State) : State :=
  (List.range 64).foldl (fun u c => if u.flag PX_CHCFG.EN c then u.chStop c else u) s

/-- Reads of other devices that wait to be sent (R536). -/
def HX_CSRQ : Fifo := ⟨33⟩
/-- BAR0 requests that arrived in DORMANT, as numbers of Machine/Access.lean (R35). (DEDUCED, log entry 29.) -/
def BAR0_HELD : Fifo := ⟨48⟩

/-- R494: the requests of the host that are in progress are dropped: a read of another device is marked, so that its
answer is discarded uncounted. -/
def State.hostDropped (s : State) : State :=
  let s := (List.range 255).foldl (fun u n =>
    u.setList PX_RREAD ((u.list PX_RREAD n).map fun r => if bits r 0 12 = 11 then r + 4 else r) n) s
  let s := s.setList HX_CSRQ ((s.list HX_CSRQ).filter fun c => bit c 8 || bits c 9 3 ≠ 3)
  s.setList BAR0_HELD []

/-- R50, R434, R494: an endpoint reset. (DEDUCED, log entry 101.) -/
def State.endpointReset (s : State) : State :=
  let n := ((List.range 64).filter fun c => s.flag PX_CHCFG.EN c).length
  let s := s.channelsOff.hostDropped
  let s := (List.range 16).foldl (fun u k =>
    let u := ((u.setList PX_XQ [] k).setList PX_WQ [] k).setList PX_RD [] k
    let st := u.get XP_STAT.STATE k
    if st = xpSYNC || st = xpRUN then u.xpSync k 1 else u) s
  let s := (((s.wipe .cfgSpace).wipe .msix).idTake).put SL_PXCFG.ACTIVE (s.get SL_PXCFG.WIDTH)
  let s := ({ s with pba := [] } : State).put MSIX_FMASK 0 |>.put MSI_PEND 0
  let s := ((((s.put PX_LINK.MSIX_EN 0).put PX_LINK.MSI_EN 0).put PX_LINK.MSI_VECS 0).put PX_LINK.DSTATE 0).put
    PX_LINK.L1 0
  s.raise Rc.PX_DMA_RESET n

end Sys2Proof.Machine
end

