-- ==== Sys2Proof/Machine/Island.lean ====
section
/-! DEFINITION. spec/07: what passes at the two sides of a crossing port, with what the chapters of its attachments
(spec/08, 11, 12, 13) make of it. -/

namespace Sys2Proof.Machine

/-- Whether port x carries the tokens of event line x − 32 toward the array (Table XP-1). -/
def xpEventIn (x : Nat) : Bool := (32 ≤ x && x < 64) || (80 ≤ x && x < 96)
/-- Whether port x carries the tokens of event line x − 32 toward the trigger router. -/
def xpEventOut (x : Nat) : Bool := 64 ≤ x && x < 80

/-- XP_ARRAY_ACK (R248, R251, R252): the array acknowledges what port x offers it; to a request it answers with data
and a status. -/
def execXpArrayAck (x : Fin 256) (data : BitVec 64) (stat : BitVec 4) (s : State) : Out :=
  live s fun s =>
    if s.get XP_STAT.STATE x ≠ xpRUN || s.xpDir x ≠ 1 then s
    else if xpEventIn x then
      match s.xpPop x with
      | some (_, t) => t.eventToken (x - 32)
      | none => s
    else if !s.siteLive x then s
    else if x.val < 16 then s.pxAnswered x data.toNat stat.toNat
    else
      match s.xpPop x with
      | none => s
      | some (v, t) =>
        if s.xpType x = 2 then t.emit .toIsland [x, data.toNat, stat.toNat]
        else t.emit .toArray [5, x, v % 2 ^ 64, v / 2 ^ 64]

/-- The receive entry of lane l (R444, R451, Table SL-5): its SIDE bits, with what it leaves. -/
def State.laneReceive (s : State) (x l data side : Nat) : State :=
  let pcs := s.get SL_LCFG.PCS l
  let marked := s.flag SL_LCTL.MARK l && s.get LANE_RXW l = s.get SL_LMARK.MARKWC l
  let own := if pcs < 3 then 0 else if pcs = 3 then bits side 0 6 else
    bits side 0 2 + 4 * b2n (bits side 0 2 = 0 || bits side 0 2 = 3)
  let v := own + 64 * b2n marked + 128 * b2n (!s.flag SL_LSTAT.ALIGNED l)
  let wrong := if pcs = 3 then bit own 4 else bit own 2
  let s := if wrong then s.laneEvent SL_LERR.CODE SL_IRQ.CODE Rc.SL_CODE_ERR l 0 else s
  let s := s.put LANE_RXW (s.get LANE_RXW l + 1) l
  let s := if marked then s.put SL_LCTL.MARK 0 l else s
  s.xpPut x (data + 2 ^ 64 * v)

/-- XP_ISLAND_PUT (R248, R251, R258): the island puts an entry or event; of a lane, the received word with its line
flags. A tag stream puts its next record. -/
def execXpIslandPut (x : Fin 256) (data : BitVec 64) (side : BitVec 8) (s : State) : Out :=
  live s fun s =>
    let a := s.get XP_CFG.AIDX x
    if s.mode = mDORMANT then s
    else if xpFixed x then
      if xpEventIn x && s.get XP_STAT.STATE x = xpRUN then
        if s.xpRoom x then s.enq XP_Q 0 x else s.xpOverrun x
      else s
    else
      match s.xpAttach x with
      | 2 => if s.rxRuns a then s.laneReceive x a data.toNat side.toNat else s
      | 4 => if s.flag IO_SERCFG.EN a then
          (s.xpPut x (data.toNat + 2 ^ 64 * s.get SER_FIRST a)).put SER_FIRST 0 a else s
      | 5 => if a < 48 then s.streamPut x a else s
      | _ => s

/-- The K characters of 8B/10B. -/
def validK (b : Nat) : Bool := [0x1C, 0x3C, 0x5C, 0x7C, 0x9C, 0xBC, 0xDC, 0xFC, 0xF7, 0xFB, 0xFD, 0xFE].contains b

/-- The transmit side of lane l sends an entry (R444, R450). -/
def State.laneSend (s : State) (x l v : Nat) : State :=
  let s := if s.flag LTX_ARM l then (s.put SL_LTXWC0.WC (s.get LANE_TXW l) l).put LTX_ARM 0 l else s
  let bad := s.get SL_LCFG.PCS l = 3 && (List.range 4).any fun i => bit v (64 + i) && !validK (bits v (8 * i) 8)
  let s := if bad then s.laneEvent SL_LERR.CODE SL_IRQ.CODE Rc.SL_CODE_ERR l 1 else s
  (s.put LANE_TXW (s.get LANE_TXW l + 1) l).emit .toIsland [x, v % 2 ^ 64, v / 2 ^ 64]

/-- XP_ISLAND_TAKE (R248, R259): the island takes an entry or event, or counts a starve when it must take one and finds
none. -/
def execXpIslandTake (x : Fin 256) (s : State) : Out :=
  live s fun s =>
    let a := s.get XP_CFG.AIDX x
    if s.mode = mDORMANT then s
    else if xpEventOut x then
      match s.xpTake x with
      | some (_, t) => t.pulseSource (96 + (x - 64))
      | none => s
    else if xpFixed x then s
    else
      match s.xpAttach x with
      | 1 =>
        if !s.txRuns a then s
        else
          match s.xpTake x with
          | some (v, t) => t.laneSend x a v
          | none => (s.xpStarve x).put LANE_TXW (s.get LANE_TXW a + 1) a
      | 3 =>
        if !s.flag IO_SERCFG.EN a then s
        else
          match s.xpTake x with
          | some (v, t) => t.emit .toIsland [x, v % 2 ^ 64, v / 2 ^ 64]
          | none => s.xpStarve x
      | 5 => if 48 ≤ a && a < 112 then s.streamTake x (a - 48) else s
      | _ => s

/-- XP_ISLAND_ANSWER (R252, Table BS-8): the island answers the request of port x; a time read answers the count and its
flags. -/
def execXpIslandAnswer (x : Fin 256) (data : BitVec 64) (stat : BitVec 4) (s : State) : Out :=
  live s fun s =>
    let a := s.get XP_CFG.AIDX x
    if s.mode = mDORMANT || xpFixed x then s
    else if s.xpAttach x = 5 && 112 ≤ a then s.xpAnswer x (s.now % 2 ^ 64) s.timeFlags
    else s.xpAnswer x data.toNat stat.toNat

end Sys2Proof.Machine
end

