-- ==== Sys2Proof/Machine/Fabric.lean ====
section
/-! DEFINITION. spec/14: packets, routing, election, elastic channels and remote accesses of the Hokuox fabric. A packet
waits in a transmit queue until PACKET_SEND takes it; a packet delivered to this device waits in its port's receive
buffer until the row of its kind takes it. Port 8 stands for this device itself. -/

namespace Sys2Proof.Machine

/-- Packets waiting to be sent on port n in class k, by 16n + k. -/
def HX_TX : Fifo := ⟨25⟩
/-- Packets delivered to this device from port n in class k, by 16n + k (R512). -/
def HX_RX : Fifo := ⟨26⟩
/-- The replay buffer of port n: LSEQ plus 2^12 times the packet (R509). -/
def HX_HOLD : Fifo := ⟨27⟩
/-- Tokens that send endpoint e has taken and not yet sent (R528, R530). -/
def HX_EPQ : Fifo := ⟨28⟩
/-- The token that channel port j withholds ACK for: EP plus 2^12 times DATA (R528). -/
def HX_CPW : Fifo := ⟨29⟩
/-- Tokens to be offered at inbound channel port j, in order of arrival: EP plus 2^12 times DATA (R529). -/
def HX_INQ : Fifo := ⟨30⟩
/-- On the root: addresses held, as address plus 2^8 times die ID (R521). -/
def HX_HELD : Fifo := ⟨31⟩
/-- Tags of unacknowledged CSR writes to device n, oldest first (R538). -/
def HX_CSRW : Fifo := ⟨32⟩
/-- Enabled endpoints. -/
def HX_EPON : Fifo := ⟨34⟩

/-! Packets. -/

/-- Classes of Table HX-5. -/
def clLINK : Nat := 0
def clDISC : Nat := 1
def clCH : Nat := 2
def clCSR : Nat := 3
def clTIME : Nat := 4
def clUPD : Nat := 5
def clMIR : Nat := 6

/-- Max LEN and receive buffer of a class (Table HX-5). -/
def clMax (k : Nat) : Nat := match k with | 0 => 1 | 1 => 3 | 2 => 17 | 3 => 1 | 4 => 2 | 5 => 256 | 6 => 256 | _ => 0
def clBuf (k : Nat) : Nat :=
  match k with | 0 => 16 | 1 => 128 | 2 => 1024 | 3 => 256 | 4 => 32 | 5 => 512 | 6 => 1024 | _ => 0

/-- 64-bit words as one number, the first lowest. -/
def ofWords : List Nat → Nat
  | [] => 0
  | w :: r => w % 2 ^ 64 + 2 ^ 64 * ofWords r

/-- A packet as one number: header, HOPS, payload. -/
def mkPacket (header hops : Nat) (payload : List Nat) : Nat := header % 2 ^ 64 + 2 ^ 64 * hops + 2 ^ 72 * ofWords payload

/-- The header word of Table HX-3. -/
def mkHeader (dest src cls id len seq : Nat) : Nat :=
  seq % 2 ^ 16 + 2 ^ 16 * len + 2 ^ 32 * (id % 2 ^ 12) + 2 ^ 44 * cls + 2 ^ 48 * (src % 256) + 2 ^ 56 * (dest % 256)

def pkHeader (p : Nat) : Nat := bits p 0 64
def pkHops (p : Nat) : Nat := bits p 64 8
def pkSeq (p : Nat) : Nat := bits p 0 16
def pkLen (p : Nat) : Nat := bits p 16 16
def pkId (p : Nat) : Nat := bits p 32 12
def pkClass (p : Nat) : Nat := bits p 44 4
def pkSrc (p : Nat) : Nat := bits p 48 8
def pkDest (p : Nat) : Nat := bits p 56 8
/-- Payload word i. -/
def pkWord (p i : Nat) : Nat := bits p (72 + 64 * i) 64
/-- The payload words. -/
def pkWords (p : Nat) : List Nat := (List.range (pkLen p)).map (pkWord p)
/-- Words counted for credit: header, payload, trailer (R512). -/
def pkCost (p : Nat) : Nat := pkLen p + 2
/-- The same packet after one more forwarding. -/
def pkHop (p : Nat) : Nat := p + 2 ^ 64

/-- The local address, and the 64-bit die ID. -/
def State.hxAddr (s : State) : Nat := s.get HX_DSTAT.ADDR
def State.dieId (s : State) : Nat := s.get GH_DIEID_LO.ID + 2 ^ 32 * s.get GH_DIEID_HI.ID

/-- A packet of this device. -/
def State.ownPacket (s : State) (dest cls id seq : Nat) (payload : List Nat) : Nat :=
  mkPacket (mkHeader dest s.hxAddr cls id payload.length seq) 0 payload

/-- Port states (Table HX-4). -/
def hpOFF : Nat := 0
def hpTRAINING : Nat := 1
def hpALIGNING : Nat := 2
def hpINIT : Nat := 3
def hpUP : Nat := 4
def hpSLEEPING : Nat := 5

/-- R526: a port counts as UP for routing while its life lasts. -/
def State.alive (s : State) (n : Nat) : Bool := s.flag HX_PSTAT.LIVE n

/-- Queue a packet for port n. -/
def State.hxTx (s : State) (n p : Nat) : State := s.enq HX_TX p (16 * n + pkClass p)

/-- A control block leaves port n (Table HX-2): its payload bits. -/
def State.hxBlock (s : State) (n word : Nat) : State := s.emit .packet [n, 1, word]

/-- Words freed in the receive buffer of a class of port n return as credit (R512). -/
def State.hxFree (s : State) (n k words : Nat) : State :=
  if n < 8 then
    (s.put HX_USED (s.get HX_USED (16 * n + k) - words) (16 * n + k)).hxBlock n (0x2D + 2 ^ 8 * k + 2 ^ 16 * words)
  else s

/-- Deliver a packet to this device from port n. -/
def State.hxDeliver (s : State) (n p : Nat) : State := s.enq HX_RX p (16 * n + pkClass p)

/-- The oldest delivered packet of a class of port n, with the state after it has left the buffer. -/
def State.hxHead (s : State) (n k : Nat) : Option (Nat × State) :=
  match s.list HX_RX (16 * n + k) with
  | [] => none
  | p :: r => some (p, (s.setList HX_RX r (16 * n + k)).hxFree n k (pkCost p))

/-- R547: a neighbour's violation. -/
def State.hxViolation (s : State) (n kind : Nat) : State :=
  if 8 ≤ n then s
  else
    let first := !s.flag HX_IRQ.VIOL
    let t := (s.count HX_PERR.VIOL 1 n).put HX_IRQ.VIOL 1
    if first then t.raise Rc.HX_VIOLATION n kind else t

/-! Routing (R514, R515, R524 to R526). -/

/-- R515: a discard for want of a route. (DEDUCED, log entry 27.) -/
def State.noRoute (s : State) (d : Nat) : State :=
  let t := s.count HX_NOROUTE.COUNT 1
  if s.get HX_NOROUTE.COUNT = 0 then t.raise Rc.HX_NO_ROUTE d else t

/-- The port on which a packet to d leaves, having come from port `from_` (R514, R515). -/
def State.outPort (s : State) (d from_ : Nat) : Option Nat :=
  if s.flag HX_RT.PVALID d then
    let p := s.get HX_RT.PRIMARY d
    if p ≠ from_ then some p
    else if s.flag HX_RT.AVALID d && s.get HX_RT.ALT d ≠ from_ then some (s.get HX_RT.ALT d)
    else none
  else none

/-- Send a packet of this device toward its DEST. -/
def State.hxSend (s : State) (p : Nat) : State :=
  if pkDest p = s.hxAddr then s.hxDeliver 8 p
  else match s.outPort (pkDest p) 8 with | some n => s.hxTx n p | none => s.noRoute (pkDest p)

/-! Elastic channels: what ends them (R533). -/

/-- Endpoint states. -/
def epOFF : Nat := 0
def epOPENING : Nat := 1
def epOPEN : Nat := 2
def epBROKEN : Nat := 3

/-- Channel KIND codes (Table HX-7). -/
def chkTOKENS : Nat := 0
def chkCREDIT : Nat := 1
def chkOPEN : Nat := 2
def chkPROBE : Nat := 3
def chkREPLY : Nat := 4
def chkBREAK : Nat := 5

/-- A channel packet of endpoint e to its peer, without tokens. -/
def State.chPacket (s : State) (e kind count value : Nat) : Nat :=
  s.ownPacket (s.get EPS_ADDR e) clCH (s.get EPS_PEER e) (s.get EPS_SEQ e)
    [kind + 2 ^ 4 * e + 2 ^ 16 * count + 2 ^ 24 * (value % 2 ^ 32)]

/-- An outbound port completes a token with a status (R528). -/
def State.cpDone (s : State) (j status : Nat) : State := s.emit .toArray [7, j, status]

/-- Complete the token that an outbound port withholds ACK for, if it names endpoint e. -/
def State.cpRefuse (s : State) (e status : Nat) : State :=
  let j := s.get EPS_PORT e
  match s.list HX_CPW j with
  | [t] => if t % 2 ^ 12 = e then (s.setList HX_CPW [] j).cpDone j status else s
  | _ => s

/-- Forget what an endpoint holds. -/
def State.epEmpty (s : State) (e : Nat) : State :=
  let j := s.get EPS_PORT e
  let s := s.setList HX_EPQ [] e
  let s := if s.flag EPS_DIR e then s.setList HX_INQ ((s.list HX_INQ j).filter fun t => t % 2 ^ 12 ≠ e) j else s
  (((s.put EPS_CREDIT 0 e).put EPS_DUE 0 e).put EPS_DRY 0 e).put EPS_PROBES 0 e

/-- R533: endpoint e enters BROKEN. -/
def State.epBreak (s : State) (e cause : Nat) : State :=
  if s.get EPS_STATE e = epBROKEN || s.get EPS_STATE e = epOFF then s
  else
    let s := if cause = 4 then s else s.hxSend (s.chPacket e chkBREAK 0 cause)
    let s := ((s.epEmpty e).put EPS_STATE epBROKEN e).put EPS_CAUSE cause e
    ((s.cpRefuse e 3).raise Rc.HX_CH_BROKEN e cause).put HX_IRQ.BROKEN 1

/-- Break every enabled endpoint that a test chooses. -/
def State.epBreakAll (s : State) (cause : Nat) (p : State → Nat → Bool) : State :=
  (s.list HX_EPON).foldl (fun u e => if p s e then u.epBreak e cause else u) s

/-- ROUTE packets for the group of addresses from 16g on every UP port (R524). -/
def State.routeGroup (s : State) (g : Nat) : State :=
  (List.range 8).foldl (fun u n =>
    if u.alive n then
      let dist (i : Nat) : Nat :=
        let d := 16 * g + i
        if d = u.hxAddr && d ≠ 0 then 0
        else if u.flag HX_RT.PVALID d && u.get HX_RT.PRIMARY d = n then 255
        else u.get HX_RT.DIST d
      let word (k : Nat) : Nat := ((List.range 8).map fun i => dist (8 * k + i) * 256 ^ i).sum
      u.hxTx n (u.ownPacket 0 clDISC 3 0 [16 * g, word 0, word 1])
    else u) s

/-- PRIMARY of address d takes a value (R525, R533): none is invalid. -/
def State.setPrimary (s : State) (d : Nat) (p : Option Nat) : State :=
  let old := if s.flag HX_RT.PVALID d then some (s.get HX_RT.PRIMARY d) else none
  if old = p then s
  else
    let s := match p with
      | some n => (s.put HX_RT.PRIMARY n d).put HX_RT.PVALID 1 d
      | none => s.put HX_RT.PVALID 0 d
    let s := (s.raise Rc.HX_ROUTE_CHANGE d).put HX_IRQ.ROUTE 1
    s.epBreakAll 6 fun u e => u.get EPS_ADDR e = d && d ≠ u.hxAddr

/-- The port of least advertised distance to d among `ps`, the lower number first. -/
def State.leastPort (s : State) (d : Nat) (ps : List Nat) : Option Nat :=
  ps.foldl (fun b n =>
    match b with
    | none => some n
    | some m => if s.get HX_RDIST (256 * n + d) < s.get HX_RDIST (256 * m + d) then some n else some m) none

/-- R525: the route to d after a change of what is advertised; LOCK keeps it. `lost` is a port whose life has ended. -/
def State.reroute (s : State) (d : Nat) (lost : Option Nat) : State :=
  if s.flag HX_RT.LOCK d || d = 0 || d = 255 then s
  else
    let before := s.readReg HX_RT.reg d
    let cands := (List.range 8).filter fun n => s.alive n && s.get HX_RDIST (256 * n + d) < 16
    let cur := if s.flag HX_RT.PVALID d then some (s.get HX_RT.PRIMARY d) else none
    let keep := match cur with | some p => some p ≠ lost && !cands.isEmpty | none => false
    let prim := if keep then cur else s.leastPort d cands
    let s := s.setPrimary d prim
    let s := match s.leastPort d (cands.filter fun n => some n ≠ prim) with
      | some a => (s.put HX_RT.ALT a d).put HX_RT.AVALID 1 d
      | none => s.put HX_RT.AVALID 0 d
    let s := s.put HX_RT.DIST (match s.leastPort d cands with
      | some n => s.get HX_RDIST (256 * n + d) + 1
      | none => 255) d
    if s.readReg HX_RT.reg d = before then s else s.routeGroup (d / 16)

/-- A write to HX_RT[d] (R525): a master's route is stored only with LOCK 1. -/
def wrHxRt (_m : Master) (d w : Nat) (s : State) : State :=
  if bit w 16 then
    let s := ((s.put HX_RT.LOCK 1 d).put HX_RT.ALT (bits w 4 3) d).put HX_RT.AVALID (bits w 7 1) d
    s.setPrimary d (if bit w 3 then some (bits w 0 3) else none)
  else (s.put HX_RT.LOCK 0 d).reroute d none

/-! Election and addresses (R517 to R523). -/

/-- The device's own election key (R517). -/
def State.ownKey (s : State) : Nat := s.dieId + 2 ^ 64 * s.get HX_DCFG.PRIO

/-- DISC ADVERT on every UP port (R518). -/
def State.advertise (s : State) : State :=
  let root := s.get HX_ROOTID_LO.ID + 2 ^ 32 * s.get HX_ROOTID_HI.ID
  (List.range 8).foldl (fun u n =>
    if u.alive n then
      let prio := if u.flag HX_DSTAT.PVALID then u.get HX_AKEY (u.get HX_DSTAT.PARENT) / 2 ^ 64 else u.get HX_DCFG.PRIO
      let w1 := prio + 2 ^ 8 * u.get HX_DSTAT.DIST +
        2 ^ 13 * b2n (u.flag HX_DSTAT.PVALID && u.get HX_DSTAT.PARENT = n) + 2 ^ 14 * u.get HX_DSTAT.FINAL +
        2 ^ 16 * u.get HX_DCFG.PRIO
      u.hxTx n (u.ownPacket 0 clDISC 0 0 [root, w1, u.dieId])
    else u) s

/-- R520: JOIN up the parent chain, while the present root has not assigned the device. -/
def State.sendJoin (s : State) : State :=
  if s.flag HX_DSTAT.PVALID && s.flag HX_DSTAT.FINAL && !s.flag HX_ASGN then
    let want := if s.hxAddr = 0 then s.get HX_DCFG.REQ_ADDR else s.hxAddr
    s.hxTx (s.get HX_DSTAT.PARENT) (s.ownPacket 1 clDISC 1 0 [s.dieId, want])
  else s

/-- R289, R540: the time servo owns the adjustment on a device that has a parent and TIME_EN 1. -/
def State.servoOwn (s : State) : State := s.put BS_ADJCTL.OWNED (b2n (s.flag HX_DSTAT.PVALID && s.flag HX_TCFG.TIME_EN))

/-- What the election shows: root ID, parent, distance, FINAL, ROOT. -/
def State.electView (s : State) : List Nat :=
  [s.get HX_ROOTID_LO.ID, s.get HX_ROOTID_HI.ID, s.readReg HX_DSTAT.reg 0 / 256]

/-- R519: root, parent and distance from the device's own key and those advertised on its UP ports. -/
def State.elect (s : State) : State :=
  let before := s.electView
  let heard := (List.range 8).filter fun n => s.alive n && s.flag HX_AVALID n
  let best := heard.foldl (fun b n => min b (s.get HX_AKEY n)) s.ownKey
  let near (a b : Nat) : Bool :=
    let key (n : Nat) : Nat :=
      s.get HX_ADIST n * 2 ^ 64 + s.get HX_PNBR_LO.ID n + 2 ^ 32 * s.get HX_PNBR_HI.ID n
    key a < key b
  let parent := if best = s.ownKey then none
    else (heard.filter fun n => s.get HX_AKEY n = best).foldl
      (fun b n => match b with | none => some n | some m => if near n m then some n else some m) none
  let deep := match parent with | some n => decide (16 < s.get HX_ADIST n + 1) | none => false
  let parent := if deep then none else parent
  let s := if deep then (if s.flag HX_DEEP then s else (s.put HX_DEEP 1).raise Rc.HX_TOO_DEEP 0) else s.put HX_DEEP 0
  let sameRoot := s.get HX_ROOTID_LO.ID + 2 ^ 32 * s.get HX_ROOTID_HI.ID = best % 2 ^ 64
  let s := (s.put HX_ROOTID_LO.ID (best % 2 ^ 32)).put HX_ROOTID_HI.ID (best / 2 ^ 32)
  let s := if sameRoot then s else s.put HX_ASGN 0
  let s := if best ≠ s.ownKey && s.flag HX_DSTAT.ROOT then
      ((s.put HX_DSTAT.ROOT 0).put HX_DEVCNT.COUNT 0).setList HX_HELD []
    else s
  let final := match parent with | some n => s.get HX_AFINAL n | none => s.get HX_DSTAT.ROOT
  let fresh := final = 1 && (s.get HX_DSTAT.FINAL = 0 || !sameRoot)
  let s := (s.put HX_DSTAT.FINAL final).put HX_DSTAT.PVALID (b2n parent.isSome)
  let s := match parent with
    | some n => (s.put HX_DSTAT.PARENT n).put HX_DSTAT.DIST (s.get HX_ADIST n + 1)
    | none => (s.put HX_DSTAT.PARENT 0).put HX_DSTAT.DIST 0
  let s := (List.range 8).foldl (fun (u : State) n => u.put HX_PSTAT.PARENT (b2n (parent == some n)) n) s
  let s := s.servoOwn
  let s := if fresh then s.sendJoin else s
  if s.electView = before then s else s.advertise

/-- The device takes an address (R522, R533). -/
def State.takeAddr (s : State) (a : Nat) (log : Bool) : State :=
  let old := s.hxAddr
  if old = a then s
  else
    let s := s.put HX_DSTAT.ADDR a
    let s := if log then s.raise Rc.HX_ADDR_ASSIGNED a old else s
    (s.put HX_IRQ.ADDR 1).epBreakAll 7 fun _ _ => true

/-- ELECT_T_EXPIRY (R519): the device's own key has stayed the lowest, so it declares itself root. -/
def execElectTExpiry (s : State) : Out :=
  live s fun s =>
    let root := s.get HX_ROOTID_LO.ID + 2 ^ 32 * s.get HX_ROOTID_HI.ID
    let heard := (List.range 8).filter fun n => s.alive n && s.flag HX_AVALID n
    if s.mode = mDORMANT || s.mode = mTEST || s.flag HX_DSTAT.ROOT || heard.any (fun n => s.get HX_AKEY n < s.ownKey) ||
        (root ≠ s.dieId && root ≠ 0) then s
    else
      let s := (s.put HX_ROOTID_LO.ID (s.dieId % 2 ^ 32)).put HX_ROOTID_HI.ID (s.dieId / 2 ^ 32)
      let s := ((s.put HX_DSTAT.ROOT 1).put HX_DSTAT.FINAL 1).setList HX_HELD [1 + 2 ^ 8 * s.dieId]
      (((s.put HX_DEVCNT.COUNT 1).raise Rc.HX_ELECTED 1).takeAddr 1 false).advertise

/-- ADVERT_TIMER (R518). -/
def execAdvertTimer (s : State) : Out :=
  live s fun s => if s.mode = mDORMANT || s.mode = mTEST then s else s.advertise

/-- JOIN_TIMER (R520). -/
def execJoinTimer (s : State) : Out :=
  live s fun s => if s.mode = mDORMANT || s.mode = mTEST then s else s.sendJoin

/-- ROUTE_TIMER (R524). -/
def execRouteTimer (s : State) : Out :=
  live s fun s =>
    if s.mode = mDORMANT || s.mode = mTEST then s else (List.range 16).foldl (fun u g => u.routeGroup g) s

/-- ADVERT (R518, R519): the next DISC packet delivered from port n, if it is an ADVERT. -/
def execAdvert (n : Fin 9) (s : State) : Out :=
  live s fun s =>
    match s.hxHead n clDISC with
    | some (p, t) =>
      if pkId p ≠ 0 || 8 ≤ n.val then s
      else
        let w1 := pkWord p 1
        let t := ((t.put HX_AKEY (pkWord p 0 + 2 ^ 64 * bits w1 0 8) n).put HX_ADIST (bits w1 8 5) n).put HX_AFINAL
          (bits w1 14 1) n
        let t := ((t.put HX_AVALID 1 n).put HX_PSTAT.CHILD (bits w1 13 1) n).put HX_PNBR_LO.ID (pkWord p 2 % 2 ^ 32) n
        (t.put HX_PNBR_HI.ID (pkWord p 2 / 2 ^ 32) n).elect
    | none => s

/-- R521: the address that the root gives a die that requests one. -/
def State.grant (s : State) (die want : Nat) : Nat × State :=
  let held := s.list HX_HELD
  match held.find? fun h => h / 2 ^ 8 = die with
  | some h => (h % 2 ^ 8, s)
  | none =>
    let taken (a : Nat) : Bool := held.any fun h => h % 2 ^ 8 = a
    let give (s : State) (a : Nat) : Nat × State :=
      let t := s.enq HX_HELD (a + 2 ^ 8 * die)
      (a, t.put HX_DEVCNT.COUNT (t.list HX_HELD).length)
    if 2 ≤ want && want ≤ 254 && !taken want then give s want
    else
      match (List.range 253).find? fun i => !taken (i + 2) with
      | some i => give (if want = 0 then s else s.raise Rc.HX_ADDR_CONFLICT want) (i + 2)
      | none => (0, s.raise Rc.HX_FABRIC_FULL 0)

/-- JOIN (R520 to R522): the next DISC packet delivered from port n, if it is a JOIN, is extended with n and passed up,
or the root answers it. -/
def execJoin (n : Fin 9) (s : State) : Out :=
  live s fun s =>
    match s.hxHead n clDISC with
    | some (p, t) =>
      let w := pkWord p 1
      let h := bits w 8 5
      if pkId p ≠ 1 || 8 ≤ n.val then s
      else if 16 ≤ h then t
      else
        let path := bits w 16 48 + n * 8 ^ h - bits w (16 + 3 * h) 3 * 8 ^ h
        if t.flag HX_DSTAT.ROOT then
          let r := t.grant (pkWord p 0) (bits w 0 8)
          r.2.hxTx n (r.2.ownPacket 0 clDISC 2 0 [pkWord p 0, r.1 + 2 ^ 8 * h + 2 ^ 16 * path])
        else if t.flag HX_DSTAT.PVALID then
          t.hxTx (t.get HX_DSTAT.PARENT) (mkPacket (pkHeader p) (pkHops p + 1)
            [pkWord p 0, bits w 0 8 + 2 ^ 8 * (h + 1) + 2 ^ 16 * path])
        else t
    | none => s

/-- ASSIGN (R522): the next DISC packet delivered from port n, if it is an ASSIGN, is passed down or taken. -/
def execAssign (n : Fin 9) (s : State) : Out :=
  live s fun s =>
    match s.hxHead n clDISC with
    | some (p, t) =>
      let w := pkWord p 1
      let r := bits w 8 5
      if pkId p ≠ 2 || 8 ≤ n.val then s
      else if 0 < r then
        t.hxTx (bits w (16 + 3 * (r - 1)) 3) (t.ownPacket 0 clDISC 2 0 [pkWord p 0, w - 2 ^ 8])
      else if pkWord p 0 = t.dieId then (t.takeAddr (bits w 0 8) true).put HX_ASGN (b2n (bits w 0 8 ≠ 0))
      else t.hxViolation n 12
    | none => s

/-- ROUTE (R524, R525): the next DISC packet delivered from port n, if it is a ROUTE. -/
def execRoute (n : Fin 9) (s : State) : Out :=
  live s fun s =>
    match s.hxHead n clDISC with
    | some (p, t) =>
      if pkId p ≠ 3 || 8 ≤ n.val then s
      else
        let base := bits (pkWord p 0) 0 8
        (List.range 16).foldl (fun u i =>
          let v := bits (pkWord p (1 + i / 8)) (8 * (i % 8)) 8
          (u.put HX_RDIST v (256 * n + base + i)).reroute (base + i) none) t
    | none => s

/-! Elastic channels (R527 to R535). -/

/-- Queue the tokens of endpoint e for sending: a TOKENS packet without tokens marks their place, one for each endpoint
at a time; inside the device they arrive at once. -/
def State.epFlow (s : State) (e : Nat) : State :=
  let ts := s.list HX_EPQ e
  let d := s.get EPS_ADDR e
  if ts.isEmpty then s
  else if d = s.hxAddr then
    let k := min 16 ts.length
    let seq := s.get EPS_SEQ e + 2 ^ 16 - ts.length
    let t := s.setList HX_EPQ (ts.drop k) e
    t.hxDeliver 8 (mkPacket (mkHeader d s.hxAddr clCH (s.get EPS_PEER e) (k + 1) seq) 0
      ((2 ^ 4 * e + 2 ^ 16 * k) :: ts.take k))
  else
    match s.outPort d 8 with
    | none => s
    | some n =>
      let mark := mkPacket (mkHeader d s.hxAddr clCH (s.get EPS_PEER e) 1 0) 0 [2 ^ 4 * e]
      if (s.list HX_TX (16 * n + clCH)).contains mark then s else s.hxTx n mark

/-- Send endpoint e takes a token (R528). -/
def State.epTake (s : State) (e data : Nat) : State :=
  let t := ((s.put EPS_CREDIT (s.get EPS_CREDIT e - 1) e).put EPS_SEQ (s.get EPS_SEQ e + 1) e).put EPS_CNT
    (s.get EPS_CNT e + 1) e
  (t.enq HX_EPQ data e).epFlow e

/-- Whether the site of channel port j can act (R527). -/
def State.hcpLive (s : State) (j : Nat) : Bool := s.plotRuns (8 * (j % 16 / 2) + if 16 ≤ j then 7 else 0)

/-- OUTBOUND_TOKEN (R528). -/
def execOutboundToken (j : Fin 32) (e : Fin 4096) (block : Bool) (data : BitVec 64) (s : State) : Out :=
  live s fun s =>
    if !s.hcpLive j || !s.flag HX_CPCFG.EN j || s.flag HX_CPCFG.DIR j || !(s.list HX_CPW j).isEmpty then s
    else if !s.flag EPS_EN e || s.flag EPS_DIR e || s.get EPS_PORT e ≠ j then s.cpDone j 4
    else if s.get EPS_STATE e = epBROKEN then s.cpDone j 3
    else if s.get EPS_STATE e ≠ epOPEN then s.cpDone j 2
    else if s.get EPS_CREDIT e ≠ 0 then (s.epTake e data.toNat).cpDone j 0
    else
      let s := s.put EPS_DRY 1 e
      if block then s.setList HX_CPW [e + 2 ^ 12 * data.toNat] j else s.cpDone j 1

/-- Credits arrive for send endpoint e: a withheld token is taken (R528, R531). -/
def State.epCredit (s : State) (e n : Nat) : State :=
  let s := s.put EPS_CREDIT (s.get EPS_CREDIT e + n) e
  if s.get EPS_CREDIT e = 0 then s
  else
    let s := (s.put EPS_DRY 0 e).put EPS_PROBES 0 e
    let j := s.get EPS_PORT e
    match s.list HX_CPW j with
    | [t] => if t % 2 ^ 12 = e then ((s.setList HX_CPW [] j).epTake e (t / 2 ^ 12)).cpDone j 0 else s
    | _ => s

/-- CREDIT of all that is due (R531). -/
def State.epReturn (s : State) (e : Nat) : State :=
  if s.get EPS_DUE e = 0 || s.get EPS_STATE e ≠ epOPEN then s
  else (s.put EPS_DUE 0 e).hxSend (s.chPacket e chkCREDIT (s.get EPS_DUE e) 0)

/-- INBOUND_TOKEN_ACK (R529, R531). -/
def execInboundTokenAck (j : Fin 32) (s : State) : Out :=
  live s fun s =>
    if !s.hcpLive j || !s.flag HX_CPCFG.EN j || !s.flag HX_CPCFG.DIR j then s
    else
      match s.list HX_INQ j with
      | [] => s
      | t :: r =>
        let e := t % 2 ^ 12
        let s := (s.setList HX_INQ r j).emit .toArray [8, j, e, t / 2 ^ 12]
        let s := (s.put EPS_CREDIT (s.get EPS_CREDIT e - 1) e).put EPS_DUE (s.get EPS_DUE e + 1) e
        if max 1 ((s.get EPS_CREDITS e + 1) / 4) ≤ s.get EPS_DUE e then s.epReturn e else s

/-- The next CH packet delivered from port n, if it is of a kind: from the peer of an enabled endpoint of the right
direction it is handled; otherwise it is discarded as violation 11 (R533, Table HX-14). -/
def State.chPacketOf (s : State) (n kind : Nat) (recv : Bool) (k : State → Nat → Nat → State) : State :=
  match s.hxHead n clCH with
  | some (p, t) =>
    let w := pkWord p 0
    let e := pkId p
    if bits w 0 4 ≠ kind then s
    else if !t.flag EPS_EN e then t
    else if t.get EPS_ADDR e ≠ pkSrc p || t.get EPS_PEER e ≠ bits w 4 12 then t.hxViolation n 11
    else if t.get EPS_STATE e = epBROKEN || t.flag EPS_DIR e ≠ recv then t
    else k t e p
  | none => s

/-- TOKENS (R530, R533). -/
def execTokens (n : Fin 9) (s : State) : Out :=
  live s fun s => s.chPacketOf n chkTOKENS true fun s e p =>
    let count := bits (pkWord p 0) 16 7
    let all := s.get EPS_CREDITS e + 1
    if s.get EPS_STATE e ≠ epOPEN then s
    else if pkSeq p ≠ s.get EPS_SEQ e then s.epBreak e 1
    else if all < s.get EPS_CREDIT e + s.get EPS_DUE e + count then s.epBreak e 2
    else
      let j := s.get EPS_PORT e
      let s := s.setList HX_INQ (s.list HX_INQ j ++
        (((pkWords p).drop 1).take count).map fun d => e + 2 ^ 12 * d) j
      ((s.put EPS_CREDIT (s.get EPS_CREDIT e + count) e).put EPS_SEQ (s.get EPS_SEQ e + count) e).put EPS_CNT
        (s.get EPS_CNT e + count) e

/-- CHANNEL_CREDIT (R531). -/
def execChannelCredit (n : Fin 9) (s : State) : Out :=
  live s fun s => s.chPacketOf n chkCREDIT false fun s e p =>
    if s.get EPS_STATE e = epOPEN then s.epCredit e (bits (pkWord p 0) 16 7) else s

/-- CHANNEL_OPEN (R531): an OPEN from the peer; a send endpoint answers it and takes its credit. -/
def execChannelOpen (n : Fin 9) (s : State) : Out :=
  live s fun s =>
    match s.hxHead n clCH with
    | some (p, t) =>
      let w := pkWord p 0
      let e := pkId p
      if bits w 0 4 ≠ chkOPEN then s
      else if !t.flag EPS_EN e || t.get EPS_ADDR e ≠ pkSrc p || t.get EPS_PEER e ≠ bits w 4 12 then t
      else if t.get EPS_STATE e ≠ epOPENING then t
      else if t.flag EPS_DIR e then t.put EPS_STATE epOPEN e
      else ((t.put EPS_STATE epOPEN e).hxSend (t.chPacket e chkOPEN 0 0)).epCredit e (bits w 16 7)
    | none => s

/-- PROBE (R534). -/
def execProbe (n : Fin 9) (s : State) : Out :=
  live s fun s => s.chPacketOf n chkPROBE true fun s e _ => s.hxSend (s.chPacket e chkREPLY 0 (s.get EPS_CNT e))

/-- PROBE_REPLY (R534). -/
def execProbeReply (n : Fin 9) (s : State) : Out :=
  live s fun s => s.chPacketOf n chkREPLY false fun s e p =>
    if bits (pkWord p 0) 24 32 < s.get EPS_CNT e % 2 ^ 32 then s.epBreak e 3 else s.put EPS_PROBES 0 e

/-- BREAK (R533). -/
def execBreak (n : Fin 9) (s : State) : Out :=
  live s fun s =>
    match s.hxHead n clCH with
    | some (p, t) =>
      let w := pkWord p 0
      let e := pkId p
      if bits w 0 4 ≠ chkBREAK then s
      else if !t.flag EPS_EN e then t
      else if t.get EPS_ADDR e ≠ pkSrc p || t.get EPS_PEER e ≠ bits w 4 12 then t.hxViolation n 11
      else t.epBreak e 4
    | none => s

/-- OPEN from a receive endpoint (R531). -/
def State.sendOpen (s : State) (e : Nat) : State := s.hxSend (s.chPacket e chkOPEN (s.get EPS_CREDITS e + 1) 0)

/-- OPEN_TIMER (R531). -/
def execOpenTimer (e : Fin 4096) (s : State) : Out :=
  live s fun s => if s.flag EPS_DIR e && s.get EPS_STATE e = epOPENING then s.sendOpen e else s

/-- CREDIT_RETURN_TIMER (R531). -/
def execCreditReturnTimer (e : Fin 4096) (s : State) : Out :=
  live s fun s => if s.flag EPS_DIR e then s.epReturn e else s

/-- PROBE_TIMER (R533, R534). -/
def execProbeTimer (e : Fin 4096) (s : State) : Out :=
  live s fun s =>
    if !s.flag EPS_DIR e && s.get EPS_STATE e = epOPEN && s.flag EPS_DRY e && s.get EPS_CREDIT e = 0 then
      if s.get EPS_PROBES e = 8 then s.epBreak e 5
      else (s.put EPS_PROBES (s.get EPS_PROBES e + 1) e).hxSend (s.chPacket e chkPROBE 0 (s.get EPS_CNT e))
    else s

/-- The word that HX_EPCFG reads for endpoint e. -/
def State.epCfgWord (s : State) (e : Nat) : Nat :=
  s.get EPS_EN e + 2 * s.get EPS_DIR e + 4 * s.get EPS_PORT e + 128 * s.get EPS_CREDITS e

/-- HX_EPPEER and HX_EPSTAT of endpoint e. -/
def State.epPeerWord (s : State) (e : Nat) : Nat := s.get EPS_ADDR e + 256 * s.get EPS_PEER e
def State.epStatWord (s : State) (e : Nat) : Nat :=
  s.get EPS_STATE e + 4 * s.get EPS_CREDIT e + 2 ^ 9 * s.get EPS_CAUSE e + 2 ^ 16 * s.get EPS_SEQ e

/-- Table HX-9 for endpoint e, configured in `s` but not yet enabled. -/
def State.epCheck (s : State) (e : Nat) : Option (Rc × Nat) :=
  let j := s.get EPS_PORT e
  let sum := ((s.list HX_EPON).map fun f => if s.flag EPS_DIR f then s.get EPS_CREDITS f + 1 else 0).sum
  if s.mode ≠ mHOLD && s.mode ≠ mRUN then some (Rc.HX_WRONG_MODE, s.mode)
  else if s.hxAddr = 0 then some (Rc.HX_NO_ADDRESS, e)
  else if s.get EPS_CREDITS e + 1 < 4 || s.get EPS_ADDR e = 0 || s.get EPS_ADDR e = 255 then some (Rc.HX_EP_RANGE, e)
  else if !s.flag HX_CPCFG.EN j || s.get HX_CPCFG.DIR j ≠ s.get EPS_DIR e then some (Rc.HX_EP_PORT, e)
  else if s.flag EPS_DIR e && 16384 < sum + s.get EPS_CREDITS e + 1 then some (Rc.HX_EP_CREDITS, e)
  else none

/-- Endpoint e is disabled. -/
def State.epOff (s : State) (e : Nat) : State :=
  let s := ((s.cpRefuse e 4).epEmpty e).put EPS_EN 0 e
  (s.put EPS_STATE epOFF e).setList HX_EPON ((s.list HX_EPON).erase e)

/-- The effect of a word written to HX_EPCFG (R535). -/
def wrEpCfg (m : Master) (w : Nat) (s : State) : State :=
  let e := s.get HX_EPSEL.EP
  if s.flag EPS_EN e then
    if bits w 1 12 ≠ s.epCfgWord e / 2 then s.raise Rc.HX_EP_ON e
    else if bit w 0 then s
    else s.epOff e
  else
    let s := ((s.put EPS_DIR (bits w 1 1) e).put EPS_PORT (bits w 2 5) e).put EPS_CREDITS (bits w 7 6) e
    if !bit w 0 then s
    else
      match s.epCheck e with
      | some (c, obj) => s.refuse c obj m 0x24904
      | none =>
        let s := ((s.epEmpty e).put EPS_EN 1 e).put EPS_STATE epOPENING e
        let s := ((s.put EPS_SEQ 0 e).put EPS_CNT 0 e).put EPS_CAUSE 0 e
        let s := s.enq HX_EPON e
        if s.flag EPS_DIR e then s.sendOpen e else s

/-- The effect of a word written to HX_EPPEER (R535). -/
def wrEpPeer (_m : Master) (w : Nat) (s : State) : State :=
  let e := s.get HX_EPSEL.EP
  if s.flag EPS_EN e then (if w % 2 ^ 20 ≠ s.epPeerWord e then s.raise Rc.HX_EP_ON e else s)
  else (s.put EPS_ADDR (bits w 0 8) e).put EPS_PEER (bits w 8 12) e

/-- ENDPOINT_ENABLE (R535): a write to HX_EPCFG. -/
def execEndpointEnable (m : Master) (w : Word) (s : State) : Out :=
  live s fun s => s.onWrite m 0x24904 w.toNat (wrEpCfg m w.toNat)

/-- The effect of a word written to HX_CPCFG[j]. -/
def wrCpCfg (m : Master) (j w : Nat) (s : State) : State :=
  if s.flag HX_CPCFG.EN j then
    if bit w 0 then s
    else if (s.list HX_EPON).any fun e => s.get EPS_PORT e = j then s.refuse Rc.HX_EP_PORT j m (0x24800 + 4 * j)
    else (s.put HX_CPCFG.EN 0 j).put HX_CPCFG.DIR (bits w 1 1) j
  else s.writeReg m HX_CPCFG.reg j w

/-- CHANNEL_PORT_ENABLE (R548): a write to HX_CPCFG[j]. -/
def execChannelPortEnable (m : Master) (j : Fin 32) (w : Word) (s : State) : Out :=
  live s fun s => s.onWrite m (0x24800 + 4 * j) w.toNat (wrCpCfg m j w.toNat)

/-! Remote accesses: the originator's side (R536, R538). -/

/-- A CSR request as the originator keeps it while it waits. -/
structure CsrReq where
  dest : Nat
  write : Bool
  master : Nat
  off : Nat
  data : Nat
  tag : Nat
  deriving DecidableEq, Repr

def CsrReq.code (r : CsrReq) : Nat :=
  r.dest + 2 ^ 8 * b2n r.write + 2 ^ 9 * r.master + 2 ^ 12 * r.off + 2 ^ 32 * r.data + 2 ^ 64 * r.tag

def CsrReq.ofCode (n : Nat) : CsrReq :=
  { dest := bits n 0 8, write := bit n 8, master := bits n 9 3, off := bits n 12 20, data := bits n 32 32,
    tag := bits n 64 16 }

/-- Requests outstanding (R536). -/
def State.csrOpen (s : State) : Nat :=
  ((List.range 255).map fun n => (s.list HX_CSRW n).length + (s.list PX_RREAD n).length).sum

/-- Send one CSR request: a write waits for its acknowledge, a read for its answer under the read guard (R41, R476). -/
def State.csrSend (s : State) (r : CsrReq) : State :=
  let tag := s.get HX_CTAG
  let op := b2n r.write
  let p := s.ownPacket r.dest clCSR (r.master + 2 ^ 8 * op) tag [r.off + 2 ^ 32 * (if r.write then r.data else 0)]
  let s := (s.put HX_CTAG (tag + 1)).emit .csrSent [r.dest, op, r.off, r.data]
  let s := if r.write then s.enq HX_CSRW tag r.dest
    else s.enq PX_RREAD (rdEntry tag (r.tag % 2 ^ 10) (bits r.tag 10 2) (r.master + 8)) r.dest
  s.hxSend p

/-- Send what waits and may go (R536, R538), in order. -/
def csrPump : Nat → State → State
  | 0, s => s
  | f + 1, s =>
    if 64 ≤ s.csrOpen then s
    else
      match (s.list HX_CSRQ).find? fun c =>
          let r := CsrReq.ofCode c
          r.write || (s.list HX_CSRW r.dest).isEmpty with
      | none => s
      | some c => csrPump f ((s.setList HX_CSRQ ((s.list HX_CSRQ).erase c)).csrSend (CsrReq.ofCode c))

/-- An access of this device to another one becomes a CSR exchange; a read carries the guard policy as it stands when
it is received (R476). -/
def State.csrAsk (s : State) (r : CsrReq) : State :=
  let s := s.enq HX_CSRQ { r with tag := r.tag % 2 ^ 10 + 2 ^ 10 * s.get PX_GUARD.POLICY }.code
  csrPump (s.list HX_CSRQ).length s

/-- WRITE_ACK (R538): the next CSR packet delivered from port n, if it is one. -/
def execWriteAck (n : Fin 9) (s : State) : Out :=
  live s fun s =>
    match s.hxHead n clCSR with
    | some (p, t) =>
      if pkId p / 2 ^ 8 ≠ 3 then s
      else
        let d := pkSrc p
        let t := t.setList HX_CSRW ((t.list HX_CSRW d).filter fun x => x ≠ pkSeq p) d
        csrPump (t.list HX_CSRQ).length t
    | none => s

/-- CSR_WRITE_LOST (R538): the oldest write to device n is not acknowledged within the guard time. -/
def execCsrWriteLost (n : Fin 255) (s : State) : Out :=
  live s fun s =>
    match s.list HX_CSRW n with
    | [] => s
    | _ :: r =>
      let t := ((s.setList HX_CSRW r n).count HX_CSRCNT.LOST 1).put HX_IRQ.CSR 1
      let t := if s.get HX_CSRCNT.LOST = 0 then t.raise Rc.HX_CSR_LOST n else t
      csrPump (t.list HX_CSRQ).length t

/-! Time transfer (R540, R541). -/

/-- TIME_EXCHANGE_PERIOD (R540): the parent starts an exchange with the child on port n. -/
def execTimeExchangePeriod (n : Fin 8) (s : State) : Out :=
  live s fun s =>
    if s.get HX_PSTAT.STATE n = hpUP && s.flag HX_PSTAT.CHILD n then
      (s.put HX_TNUM (s.get HX_TNUM n + 1) n).hxTx n (s.ownPacket 0 clTIME 0 (s.get HX_TNUM n) [0, 0])
    else s

/-- The payload of FOLLOW and DRESP (Table HX-10). -/
def State.timeWords (s : State) (t : Nat) : List Nat :=
  [t % 2 ^ 64, t / 2 ^ 64 % 2 ^ 16 + 2 ^ 16 * s.get BS_TBSTAT.EPOCH + 2 ^ 17 * s.get SYN0_HOLD]

/-- R541: an exchange is dropped. -/
def State.timeDrop (s : State) : State :=
  let k := s.get HX_TDROP + 1
  let s := (s.put HX_TSTEP 0).put HX_TDROP k
  if k = 8 then ((s.put HX_TDROP 0).put HX_IRQ.TIME 1).raise Rc.HX_TIME_LOST (s.get HX_DSTAT.PARENT) else s

/-- Whether port n is the parent port of a device that runs the time servo. -/
def State.servoPort (s : State) (n : Nat) : Bool := s.flag BS_ADJCTL.OWNED && s.get HX_DSTAT.PARENT = n

/-- SYNC (R540): t2. -/
def execSync (n : Fin 9) (s : State) : Out :=
  live s fun s =>
    match s.hxHead n clTIME with
    | some (p, t) =>
      if pkId p ≠ 0 then s
      else if !t.servoPort n then t
      else
        let t := if t.get HX_TSTEP ≠ 0 then t.timeDrop else t
        let at_ := t.get HX_TAT n
        if at_ < 2 ^ 80 then t.timeDrop
        else ((t.put HX_XNUM (pkSeq p)).put HX_T2 at_).put HX_TSTEP 1
    | none => s

/-- FOLLOW (R540): t1 reaches the child, which sends DREQ. -/
def execFollow (n : Fin 9) (s : State) : Out :=
  live s fun s =>
    match s.hxHead n clTIME with
    | some (p, t) =>
      if pkId p ≠ 1 then s
      else if !t.servoPort n || t.get HX_TSTEP ≠ 1 || t.get HX_XNUM ≠ pkSeq p then t
      else
        let t := (t.put HX_T1 (pkWord p 0 + 2 ^ 64 * bits (pkWord p 1) 0 16)).put HX_TSTEP 2
        let t := if bit (pkWord p 1) 16 then t.put HX_PEPOCH 1 else t
        t.hxTx n (t.ownPacket 0 clTIME 2 (pkSeq p) [0, 0])
    | none => s

/-- DREQ (R540): the parent answers with t4. -/
def execDreq (n : Fin 9) (s : State) : Out :=
  live s fun s =>
    match s.hxHead n clTIME with
    | some (p, t) =>
      if pkId p ≠ 2 then s
      else t.hxTx n (t.ownPacket 0 clTIME 3 (pkSeq p) (t.timeWords (t.get HX_TAT n % 2 ^ 80)))
    | none => s

/-- An integer as a 32-bit two's-complement number, saturating. -/
def sat32 (i : Int) : Nat := if i < -2147483648 then 0x80000000 else if 2147483647 < i then 0x7FFFFFFF else ofSigned 32 i

/-- DRESP (R541): offset and delay; the servo steps or slews. -/
def execDresp (n : Fin 9) (s : State) : Out :=
  live s fun s =>
    match s.hxHead n clTIME with
    | some (p, t) =>
      if pkId p ≠ 3 then s
      else if !t.servoPort n || t.get HX_TSTEP ≠ 3 || t.get HX_XNUM ≠ pkSeq p then t
      else
        let t1 := toSigned 80 (t.get HX_T1)
        let t2 := toSigned 80 (t.get HX_T2)
        let t3 := toSigned 80 (t.get HX_T3)
        let t4 := toSigned 80 (pkWord p 0 + 2 ^ 64 * bits (pkWord p 1) 0 16)
        let offset := ((t2 - t1) - (t4 - t3)) / 2 - toSigned 32 (t.get HX_PASYM.ASYM n)
        let delay := ((t2 - t1) + (t4 - t3)) / 2
        let t := ((t.put HX_TSTAT.OFFSET (sat32 offset)).put HX_TDELAY.DELAY
          (if delay < 0 then 0 else min delay.toNat (2 ^ 32 - 1))).put HX_TSTEP 0
        let t := t.put HX_TDROP 0
        let big := 65536000 < offset.natAbs
        let t := if big then t.timeStep (ofSigned 64 (-offset)) else t.slewStart (ofSigned 64 (-offset))
        let t := if t.flag HX_PEPOCH then t.put BS_TBSTAT.EPOCH 1 else t
        if offset.natAbs < 65536000 then t.put BS_TBSTAT.COARSE 0 else t
    | none => s

/-- A write to HX_TCFG (R289, R540). -/
def wrHxTcfg (m : Master) (w : Nat) (s : State) : State := (s.writeReg m HX_TCFG.reg 0 w).servoOwn

/-- A write to HX_DCFG (R518, R519): a new PRIO is a new key. -/
def wrHxDcfg (m : Master) (w : Nat) (s : State) : State := (s.writeReg m HX_DCFG.reg 0 w).elect

end Sys2Proof.Machine
end

