-- ==== Sys2Proof/Machine/Sessions.lean ====
section
/-! DEFINITION. spec/18 and 19: what a container and an update session keep, and what the end of a link life does to
them. -/

namespace Sys2Proof.Machine

/-- The container's header bytes, its payload words, the tiles whose LOGIC or STYLE frames it wrote, the memories it
preloaded, the sources still to be tried, and the bytes that a neighbour has sent. -/
def CT_HEADER : Fifo := ⟨36⟩
def CT_PAYLOAD : Fifo := ⟨37⟩
def CT_TILES : Fifo := ⟨38⟩
def CT_PRELOADED : Fifo := ⟨39⟩
def CT_PLAN : Fifo := ⟨40⟩
def CT_BYTES : Fifo := ⟨41⟩

/-! Loading from a neighbour (R687, R688). -/

/-- CFG_REQ from GH_CFGPOS: what came after it is forgotten, and the stream goes on from the span that starts there.
(DEDUCED, log entry 76.) -/
def State.cfgRequest (s : State) : State :=
  let pos := s.get GH_CFGPOS.BYTES
  let span := pos - 256
  let s := (s.setList CT_BYTES ((s.list CT_BYTES).take pos)).setList CT_PAYLOAD ((s.list CT_PAYLOAD).take (span / 4))
  let s := ((s.put CT_POS span).put CT_SPAN span).put CT_CRC (2 ^ 32 - 1)
  let s := ((s.put CT_AFTER (b2n (256 < pos))).put CT_PLEFT 0).put CT_RX 0
  if s.alive 0 then s.hxTx 0 (s.ownPacket 0 clUPD 0 0 [s.dieId, pos]) else s

/-- Whether the device loads from its neighbour and has not heard the container's end. (DEDUCED, log entry 76.) -/
def State.cfgAwaits (s : State) : Bool := s.get CT_ON = 1 && s.get CT_SRC = 3 && !s.flag CT_DOING

/-! Update sessions (R699 to R717). -/

/-- The bytes of the prologue, of the package as fed to the coordinator, of the blocks held for downstream neighbours by
their number, and of the block that arrives. -/
def UP_PRO : Fifo := ⟨43⟩
def UP_PKG : Fifo := ⟨44⟩
def UP_BLK : Fifo := ⟨45⟩
def UP_IN : Fifo := ⟨46⟩

/-- GH_UPSTAT.STATE codes (Table UP-8). -/
def usIDLE : Nat := 0
def usRECEIVING : Nat := 1
def usSTAGED : Nat := 2
def usPASS : Nat := 3
def usPREPARED : Nat := 4
def usCOMMITTED : Nat := 5
def usTRIAL : Nat := 6
def usINDOUBT : Nat := 7
def usFAILED : Nat := 8
def usREFUSED : Nat := 9
def usSTARTED : Nat := 10
def usFALLBACK : Nat := 11

/-- Byte a of the prologue, and the little-endian number at it. -/
def State.proByte (s : State) (a : Nat) : Nat := (s.list UP_PRO).getD a 0
def State.proLE (s : State) (a n : Nat) : Nat := ofBytesLE ((List.range n).map fun i => s.proByte (a + i))

/-- PACKAGE_ID of the session. -/
def State.upId (s : State) : Nat := s.get GH_UPPKG_LO.ID + 2 ^ 32 * s.get GH_UPPKG_HI.ID

/-- Where the manifest starts in the prologue, and its entries (R701, R704). -/
def State.upManifest (s : State) : Nat := 256 + s.proLE 20 4
def State.upEntries (s : State) (type : Nat) : List Nat :=
  ((List.range (s.proLE 28 2)).map fun i => s.upManifest + 64 * i).filter fun a => s.proByte a = type

/-- Whether the target entry at byte a of the prologue selects a device (Table UP-3). -/
def State.upSelects (s : State) (a die addr : Nat) : Bool :=
  if s.proByte (a + 1) = 0 then s.proLE (a + 8) 8 = die else s.proByte (a + 8) = addr

/-- The target entry of this device. -/
def State.upMine (s : State) : Option Nat := (s.upEntries 1).find? fun a => s.upSelects a s.dieId s.hxAddr

/-- A broadcast of this device (R514). -/
def State.broadcast (s : State) (cls id : Nat) (payload : List Nat) : State :=
  let p := s.ownPacket 255 cls id 0 payload
  (List.range 8).foldl (fun u o =>
    if u.alive o && (u.flag HX_PSTAT.CHILD o || (u.flag HX_DSTAT.PVALID && u.get HX_DSTAT.PARENT = o)) then u.hxTx o p
    else u) s

/-- GH_UPTGT counts the reports (R717). (DEDUCED, log entry 85.) -/
def State.upTally (s : State) : State :=
  let n := (s.upEntries 1).length
  let count (k : Nat) := ((List.range n).filter fun i => bit (s.get UP_REP i) k).length
  (((s.put GH_UPTGT.TOTAL n).put GH_UPTGT.STAGED (count 0)).put GH_UPTGT.STARTED (count 1)).put GH_UPTGT.FAILED (count 2)

/-- The bits of UP_REP that a state sets. -/
def repBit (st : Nat) : Option Nat :=
  match st with
  | 2 => some 0 | 10 => some 1 | 8 | 9 => some 2 | 5 => some 4 | 11 => some 5 | _ => none

/-- The coordinator counts a report of a device: bit k of UP_REP. -/
def State.upNote (s : State) (die addr : Nat) (k : Option Nat) : State :=
  match k with
  | none => s
  | some k =>
    if s.flag GH_UPSTAT.COORD then
      ((s.upEntries 1).zipIdx.foldl (fun u x => if u.upSelects x.1 die addr then u.orBit UP_REP k x.2 else u) s).upTally
    else s

/-- The device broadcasts STATUS (R717). -/
def State.upReport (s : State) : State :=
  let st := s.get GH_UPSTAT.STATE
  let reason := if st = usFAILED || st = usREFUSED then s.get GH_UPSTAT.LAST else 0
  (s.broadcast clUPD 0x14 [s.upId, s.dieId, st + 2 ^ 16 * reason + 2 ^ 32 * s.get GH_UPPROG.STORED]).upNote s.dieId s.hxAddr
    (repBit st)

/-- A change of GH_UPSTAT.STATE (R717, R735). -/
def State.upSet (s : State) (st : Nat) : State :=
  if s.get GH_UPSTAT.STATE = st then s
  else
    let s := (s.put GH_UPSTAT.STATE st).put GH_IRQ.UPD 1
    if st = usIDLE then s else s.upReport

/-- An update record of this device (R736). -/
def State.upLog (s : State) (c : Rc) : State := s.raise c s.hxAddr s.upId

/-- The device stops, with its reason (R715 to R717). -/
def State.upStop (s : State) (c : Rc) : State := ((s.upLog c).put GH_UPSTAT.LAST c.num).upSet usFAILED

/-- R716, R688: the life of port n has ended. -/
def State.sessionCut (s : State) (n : Nat) : State :=
  let s := s.andBit UP_DOWN n
  if s.get UP_UP ≠ n then s
  else if s.flag UP_ASKED then (s.put UP_ASKED 0).put UP_UP 8
  else
    let st := s.get GH_UPSTAT.STATE
    if (st = usRECEIVING || st = usPASS) && s.get UP_NEXT < s.proLE 32 4 then s.upStop Rc.UP_PATH_LOST else s

end Sys2Proof.Machine
end

