-- ==== Sys2Proof/Machine/Hokuox.lean ====
section
/-! DEFINITION. spec/14: the ports of Hokuox: their states and lives, packets on the line, replay and credit. -/

namespace Sys2Proof.Machine

/-- Lanes of port n by its configuration (R498). -/
def State.portLanes (s : State) (n : Nat) : List Nat :=
  (List.range (2 ^ s.get HX_PCFG.WIDTH n)).map fun i => 4 * s.get HX_PCFG.QUAD n + s.get HX_PCFG.SLANE n + i

/-- Reset of the receive and transmit bookkeeping of port n (R508). -/
def State.portClear (s : State) (n : Nat) : State :=
  let s := (s.setList HX_HOLD [] n).put HX_RPOS 0 n
  let s := ((((s.put HX_TXSEQ 0 n).put HX_NEXT 0 n).put HX_UNACK 0 n).put HX_NAKED 0 n).put HX_RCNT 0 n
  (List.range 7).foldl (fun u k =>
    let i := 16 * n + k
    ((u.setList HX_RX [] i).put HX_USED 0 i).put HX_CRED (clBuf k) i) s

/-- R508: the life of port n ends for cause 1 to 5, in the order of the rule; an enabled port trains again. -/
def State.lifeEnd (s : State) (n cause : Nat) : State :=
  let s := ((s.put HX_PSTAT.STATE (if s.flag HX_PCFG.EN n then hpTRAINING else hpOFF) n).put HX_INITC 0 n).put
    HX_INITS 0 n
  if !s.alive n then s
  else
    let s := (s.portClear n).put HX_PSTAT.LIVE 0 n
    let s := (s.count HX_PERR.DOWN 1 n).raise Rc.HX_LINK_DOWN n cause
    let s := s.put HX_IRQ.LINK 1
    let s := if cause = 3 then s.put HX_IRQ.LFAULT 1 else s
    let s := s.epBreakAll 6 fun u e =>
      u.get EPS_ADDR e ≠ u.hxAddr && u.flag HX_RT.PVALID (u.get EPS_ADDR e) &&
        u.get HX_RT.PRIMARY (u.get EPS_ADDR e) = n
    let s := ((s.put HX_AVALID 0 n).put HX_PSTAT.CHILD 0 n).put HX_AFINAL 0 n
    let s := (List.range 256).foldl (fun u d =>
      if u.get HX_RDIST (256 * n + d) = 255 && !(u.flag HX_RT.PVALID d && u.get HX_RT.PRIMARY d = n) then u
      else (u.put HX_RDIST 255 (256 * n + d)).reroute d (some n)) s
    s.elect.sessionCut n

/-- R508: a life begins on port n. -/
def State.lifeStart (s : State) (n : Nat) : State :=
  let s := (s.portClear n).put HX_PSTAT.LIVE 1 n
  let s := s.raise Rc.HX_LINK_UP n (s.get HX_PCFG.WIDTH n + 4 * s.get HX_PCFG.RATE n + 8 * s.get HX_PCFG.FEC n)
  let s := (s.put HX_IRQ.LINK 1).advertise
  if n = 0 && s.cfgAwaits then s.cfgRequest else s

/-- R540: while the port of a device sleeps or trains nothing is captured. -/
def State.portUp (s : State) (n : Nat) : Bool := s.get HX_PSTAT.STATE n = hpUP

/-- Whether Hokuox runs in the present mode (R546). -/
def State.hxRuns (s : State) : Bool := s.mode ≠ mTEST && s.mode ≠ mDORMANT

/-! Enabling (R498 to R502). -/

/-- Table HX-1 for port n, configured in `s` but not yet enabled. -/
def State.hxCheck (s : State) (m : Master) (n : Nat) : Option (Rc × Nat) :=
  let lanes := s.portLanes n
  let q := s.get HX_PCFG.QUAD n
  let w := s.get HX_PCFG.WIDTH n
  let v := s.quadVco q (s.get QP_RDIV q) (s.get QP_N q) (s.get QP_F q)
  let want := if s.flag HX_PCFG.RATE n then 12890625000 else 10312500000
  if s.mode ≠ mHOLD && s.mode ≠ mRUN && m ≠ .gatehouse then some (Rc.HX_WRONG_MODE, s.mode)
  else
    match lanes.find? fun l => 40 ≤ l || s.laneAbsent l with
    | some l => some (Rc.SL_LANE_ABSENT, l)
    | none =>
      if w = 3 || s.get HX_PCFG.SLANE n % 2 ^ w ≠ 0 then some (Rc.HX_PORT_WIDTH, n)
      else
        match lanes.find? fun l => s.laneOwner l ≠ owNONE with
        | some l => some (Rc.SL_LANE_OWNED, l)
        | none =>
          if !s.quadRuns q || v.1 ≠ want * v.2 then some (Rc.HX_QPLL_RATE, n)
          else if s.flag HX_PCFG.FEC n && !s.flag HX_PCFG.RATE n then some (Rc.HX_FEC_RATE, n)
          else if s.flag HX_PCFG.MIRROR n && (List.range 8).any fun k =>
              k ≠ n && s.flag HX_PCFG.EN k && s.flag HX_PCFG.MIRROR k then some (Rc.HX_MIRROR_HELD, n)
          else none

/-- R498, R501: the lanes of an enabled port are set and tagged by Hokuox. -/
def State.portLanesOn (s : State) (n : Nat) : State :=
  (s.portLanes n).foldl (fun u l =>
    let u := ((u.put SL_LSTAT.OWNER owHOKUOX l).put BS_LBTCTL.OWNED 1 l).pcsReset l
    ((u.put SL_LCFG.PCS 5 l).put SL_LCFG.SCR 1 l).put SL_LCFG.DIV (1 - s.get HX_PCFG.RATE n) l) s

/-- The lanes of a port become NONE (R501). -/
def State.portLanesOff (s : State) (n : Nat) : State :=
  (s.portLanes n).foldl (fun u l =>
    (((u.put SL_LSTAT.OWNER owNONE l).put BS_LBTCTL.OWNED 0 l).pcsReset l).laneDark l) s

/-- The port starts training (R506). -/
def State.portStart (s : State) (n : Nat) : State :=
  ((s.put HX_PCFG.EN 1 n).put HX_PSTAT.STATE hpTRAINING n).portLanesOn n

/-- The port is disabled (R501, R508). -/
def State.portStop (s : State) (n : Nat) : State := ((s.put HX_PCFG.EN 0 n).lifeEnd n 5).portLanesOff n

/-- The effect of a word written to HX_PCFG[n] (R501). -/
def wrHxPcfg (m : Master) (n w : Nat) (s : State) : State :=
  if s.flag HX_PCFG.EN n then
    let t := s.writeReg m HX_PCFG.reg n w
    if t.readReg HX_PCFG.reg n / 2 ≠ s.readReg HX_PCFG.reg n / 2 then s.raise Rc.HX_PORT_ON n
    else if bit w 0 then s
    else s.portStop n
  else
    let s := s.put HX_PCFG.WIDTH (bits w 7 2) n
    let s := (s.writeReg m HX_PCFG.reg n w).put HX_PCFG.EN 0 n
    if !bit w 0 then s
    else
      match s.hxCheck m n with
      | some (c, obj) => s.refuse c obj m (0x24100 + 0x40 * n)
      | none => s.portStart n

/-- HX_PORT_ENABLE (R501): a write to HX_PCFG[n]. -/
def execHxPortEnable (m : Master) (n : Fin 8) (w : Word) (s : State) : Out :=
  live s fun s => s.onWrite m (0x24100 + 0x40 * n) w.toNat (wrHxPcfg m n w.toNat)

/-- R502: H0 as the boot port, on QPLL2 at 10.3125 GHz. -/
def State.bootPort (s : State) : State :=
  let s := if s.flag HX_PCFG.EN 0 then s.portStop 0 else s
  let s := ((s.put SL_QCFG.RDIV 0 2).put SL_QCFG.N 66 2).put SL_QFRAC.F 0 2
  let s := ((s.quadSample 2).put SL_QCTL.EN 1 2).quadStart 2 1
  let s := (((s.put HX_PCFG.QUAD 2 0).put HX_PCFG.SLANE 0 0).put HX_PCFG.WIDTH 0 0).put HX_PCFG.RATE 0 0
  ((s.put HX_PCFG.FEC 0 0).put HX_PCFG.MIRROR 0 0).portStart 0

/-- R546: every life ends, endpoints and channel ports are disabled, the address returns to 0. -/
def State.hxAllDown (s : State) : State :=
  let s := (s.list HX_EPON).foldl (fun u e => u.epOff e) s
  let s := (List.range 32).foldl (fun u j => if u.flag HX_CPCFG.EN j then u.put HX_CPCFG.EN 0 j else u) s
  let s := (List.range 8).foldl (fun u n => if u.flag HX_PCFG.EN n then u.portStop n else u) s
  ((s.put HX_DSTAT.ADDR 0).put HX_DSTAT.ROOT 0).put HX_DSTAT.FINAL 0

/-! Training (R500, R506, R507). -/

/-- Leave UP: the life waits for the port to return (R506, R508). -/
def State.portDrop (s : State) (n state : Nat) : State :=
  ((s.put HX_PSTAT.STATE state n).put HX_INITC 0 n).put HX_INITS 0 n

/-- BLOCK_LOCK (R506): every lane of port n holds block lock; a neighbour that has left electrical idle has ended
SLEEPING. -/
def execBlockLock (n : Fin 8) (s : State) : Out :=
  live s fun s =>
    let st := s.get HX_PSTAT.STATE n
    if s.hxRuns && (st = hpTRAINING || st = hpSLEEPING) then s.portDrop n hpALIGNING else s

/-- BLOCK_LOCK_LOST (R506). -/
def execBlockLockLost (n : Fin 8) (s : State) : Out :=
  live s fun s =>
    let st := s.get HX_PSTAT.STATE n
    if st = hpALIGNING || st = hpINIT || st = hpUP then s.portDrop n hpTRAINING else s

/-- ALIGN (R500, R506, Table HX-14): ALIGN blocks on port n deskew its lanes, come out of place, or carry a wrong lane
index or width. -/
def execHxAlign (n : Fin 8) (r : AlignResult) (s : State) : Out :=
  live s fun s =>
    let st := s.get HX_PSTAT.STATE n
    if st ≠ hpALIGNING && st ≠ hpINIT && st ≠ hpUP then s
    else
      match r with
      | .deskewed => if st = hpALIGNING then s.portDrop n hpINIT else s
      | .outOfPlace => s.portDrop n hpALIGNING
      | .wrongField => (s.hxViolation n 9).portDrop n hpALIGNING

/-- The fields in which an INIT block disagrees with this port: width, rate, FEC, mirror, version (Table HX-14). -/
def State.initDiff (s : State) (n w : Nat) : Nat :=
  b2n (bits w 11 2 ≠ s.get HX_PCFG.WIDTH n) + 2 * b2n (bits w 13 1 ≠ s.get HX_PCFG.RATE n) +
    4 * b2n (bits w 14 1 ≠ s.get HX_PCFG.FEC n) + 8 * b2n (bits w 15 1 ≠ s.get HX_PCFG.MIRROR n) +
    16 * b2n (bits w 24 4 ≠ 1)

/-- An INIT block with payload `v` is received on port n (R507, R508). -/
def State.initBlock (s : State) (n v : Nat) : State :=
    if s.get HX_PSTAT.STATE n ≠ hpINIT then s
    else if s.initDiff n v ≠ 0 then
      let s := ((s.hxViolation n 8).put HX_INITC 0 n).put HX_INITS 0 n
      s.raise Rc.HX_LINK_MISMATCH n (s.initDiff n v)
    else
      let seen := bit v 28
      let s := (s.put HX_INITC (min 8 (s.get HX_INITC n + 1)) n).put HX_INITS (if seen then s.get HX_INITS n + 1 else 0) n
      if s.get HX_INITS n < 8 then s
      else
        let s := (s.put HX_PSTAT.NADDR (bits v 16 8) n).put HX_INITS 0 n
        if bit v 29 && s.alive n then s.put HX_PSTAT.STATE hpUP n
        else ((s.lifeEnd n 2).put HX_PSTAT.STATE hpUP n).lifeStart n

/-- WAKE_T_EXPIRY (R508): the port has not returned to UP. -/
def execWakeTExpiry (n : Fin 8) (s : State) : Out :=
  live s fun s =>
    let st := s.get HX_PSTAT.STATE n
    if s.alive n && (st = hpTRAINING || st = hpALIGNING || st = hpINIT) && s.hxRuns then s.lifeEnd n 1 else s

/-- The effect of a word written to HX_PCTL[n] (R508, R548). -/
def wrHxPctl (_m : Master) (n w : Nat) (s : State) : State :=
  let s := if bit w 0 && s.flag HX_PCFG.EN n then s.lifeEnd n 4 else s
  if bit w 1 && s.alive n then s.hxTx n (s.ownPacket 0 clLINK 0 0 [0]) else s

/-- RETRAIN (R508): a write of RETRAIN to HX_PCTL[n]. -/
def execRetrain (m : Master) (n : Fin 8) (s : State) : Out :=
  live s fun s => s.onWrite m (0x24104 + 0x40 * n) 1 (wrHxPctl m n 1)

/-- ECHO (R548): a write of ECHO to HX_PCTL[n]. -/
def execEcho (m : Master) (n : Fin 8) (s : State) : Out :=
  live s fun s => s.onWrite m (0x24104 + 0x40 * n) 2 (wrHxPctl m n 2)

/-! Sending (R509, R511 to R513). -/

/-- The CRC of a packet (R505). -/
def pkCrc (p : Nat) : Nat := crcWords (pkHeader p :: pkWords p)

/-- A packet leaves port n under a sequence number: SOP, header, payload, trailer. -/
def State.hxLine (s : State) (n lseq p : Nat) : State :=
  s.emit .packet ([n, 0, lseq, pkHeader p] ++ pkWords p ++ [pkCrc p + 2 ^ 32 * pkHops p])

/-- The words of a marker's TOKENS packet are those waiting when it starts (R530). -/
def State.hxFill (s : State) (p : Nat) : Option (Nat × State) :=
  if pkClass p = clCH && pkSrc p = s.hxAddr && pkLen p = 1 && bits (pkWord p 0) 0 4 = chkTOKENS &&
      bits (pkWord p 0) 16 7 = 0 then
    let e := bits (pkWord p 0) 4 12
    let ts := s.list HX_EPQ e
    if ts.isEmpty then none
    else
      let k := min 16 ts.length
      let seq := s.get EPS_SEQ e + 2 ^ 16 - ts.length
      some (mkPacket (mkHeader (pkDest p) s.hxAddr clCH (pkId p) (k + 1) seq) 0
        ((2 ^ 4 * e + 2 ^ 16 * k) :: ts.take k), s.setList HX_EPQ (ts.drop k) e)
  else some (p, s)

/-- Words held in the replay buffer of port n. -/
def State.replayWords (s : State) (n : Nat) : Nat := ((s.list HX_HOLD n).map fun h => pkCost (h / 2 ^ 12)).sum

/-- Send the head of class k of port n, if credit and the replay buffer cover it; none otherwise. -/
def State.sendHead (s : State) (n k : Nat) : Option State :=
  match s.list HX_TX (16 * n + k) with
  | [] => none
  | p :: r =>
    let s0 := s.setList HX_TX r (16 * n + k)
    match s0.hxFill p with
    | none => some s0
    | some (q, t) =>
      if t.get HX_CRED (16 * n + k) < pkCost q || 4096 < t.replayWords n + pkCost q || 2047 ≤ (t.list HX_HOLD n).length
      then none
      else
        let lseq := t.get HX_TXSEQ n
        let t := (t.put HX_CRED (t.get HX_CRED (16 * n + k) - pkCost q) (16 * n + k)).put HX_TXSEQ (lseq + 1) n
        let t := (t.enq HX_HOLD (lseq + 2 ^ 12 * q) n).hxLine n lseq q
        let t := if k = clCH && q ≠ p then t.epFlow (bits (pkWord q 0) 4 12) else t
        let t := if k = clLINK && pkId q = 0 then t.put HX_ECHO_T t.now n else t
        some (if k = clTIME && pkId q = 0 then t.hxTx n (t.ownPacket 0 clTIME 1 (pkSeq q) (t.timeWords t.now))
          else if k = clTIME && pkId q = 2 then (t.put HX_T3 t.now).put HX_TSTEP 3
          else t)

/-- PACKET_SEND (R509, R511, R513): between packets, port n sends the next packet of a replay, or the eligible packet of
highest priority; `timeSpent` when TIME has used its 1 %, and class k is in `aged` when its head has waited 1 ms. A
SLEEPING port that has a packet leaves electrical idle (R545). -/
def execPacketSend (n : Fin 8) (timeSpent : Bool) (aged : BitVec 7) (s : State) : Out :=
  live s fun s =>
    let order := [clTIME, clLINK, clDISC, clMIR, clCSR, clCH, clUPD]
    let ks := [clTIME] ++ order.filter (fun k => k ≠ clTIME && bit aged.toNat k) ++
      order.filter (fun k => k ≠ clTIME && !bit aged.toNat k)
    let ks := if timeSpent then ks.filter (fun k => k ≠ clTIME) else ks
    if !s.hxRuns then s
    else if s.get HX_PSTAT.STATE n = hpSLEEPING then
      if ks.any fun k => !(s.list HX_TX (16 * n + k)).isEmpty then s.portDrop n hpTRAINING else s
    else if !s.portUp n then s
    else if s.get HX_RPOS n ≠ 0 then
      match (s.list HX_HOLD n)[s.get HX_RPOS n - 1]? with
      | none => s.put HX_RPOS 0 n
      | some h =>
        let t := s.hxLine n (h % 2 ^ 12) (h / 2 ^ 12)
        if (s.list HX_HOLD n).length ≤ s.get HX_RPOS n then t.put HX_RPOS 0 n else t.put HX_RPOS (s.get HX_RPOS n + 1) n
    else (ks.findSome? fun k => s.sendHead n k).getD s

/-- R511: held packets are sent again, or the replay limit ends the life. -/
def State.replay (s : State) (n : Nat) : State :=
  if s.get HX_PTIME.MAX_REPLAY n ≤ s.get HX_RCNT n then s.lifeEnd n 3
  else ((s.put HX_RCNT (s.get HX_RCNT n + 1) n).put HX_RPOS 1 n).count HX_PERR.REPLAY 1 n

/-- ACK (R511, Table HX-14): an ACK block with ACKSEQ and NAK is received on port n. -/
def execAck (n : Fin 8) (seq : BitVec 12) (nak : Bool) (s : State) : Out :=
  live s fun s =>
    if !s.portUp n then s
    else
      let held := s.list HX_HOLD n
      let q := seq.toNat
      let before := match held with | [] => s.get HX_TXSEQ n | h :: _ => h % 2 ^ 12
      let i := held.findIdx? fun h => h % 2 ^ 12 = q
      match i with
      | some k =>
        let s := (s.setList HX_HOLD (held.drop (k + 1)) n).put HX_RCNT 0 n
        let s := s.put HX_RPOS (s.get HX_RPOS n - (k + 1)) n
        if nak && k + 1 < held.length then s.replay n else s
      | none =>
        if (q + 1) % 2 ^ 12 = before then (if nak && !held.isEmpty then s.replay n else s)
        else s.hxViolation n 6

/-- REPLAY_TIMEOUT (R511). -/
def execReplayTimeout (n : Fin 8) (s : State) : Out :=
  live s fun s => if s.portUp n && !(s.list HX_HOLD n).isEmpty then s.replay n else s

/-- CREDIT (R512, Table HX-14): a CREDIT block returns words of a class. -/
def execCredit (n : Fin 8) (k : BitVec 4) (words : BitVec 16) (s : State) : Out :=
  live s fun s =>
    let i := 16 * n + k.toNat
    if !s.portUp n || 7 ≤ k.toNat then s
    else
      let v := s.get HX_CRED i + words.toNat
      if clBuf k.toNat < v then (s.put HX_CRED (clBuf k.toNat) i).hxViolation n 7 else s.put HX_CRED v i

/-- SLEEP (R544): a SLEEP block is received. -/
def execSleep (n : Fin 8) (s : State) : Out :=
  live s fun s => if s.portUp n then s.put HX_PSTAT.STATE hpSLEEPING n else s

/-- ACK or NAK sent on port n (R510). -/
def State.sendAck (s : State) (n : Nat) (nak : Bool) : State :=
  let v := (s.get HX_NEXT n + 4095) % 4096
  (s.put HX_UNACK 0 n).hxBlock n (0x33 + 2 ^ 8 * v + 2 ^ 20 * b2n nak)

/-- ACK_TIMER (R510). -/
def execAckTimer (n : Fin 8) (s : State) : Out :=
  live s fun s => if s.portUp n && s.get HX_UNACK n ≠ 0 then s.sendAck n false else s

/-! Receiving (R504, R505, R510, R512, R514, R515). -/

/-- R510: a packet fails its check, or is out of sequence: one NAK for each error episode. -/
def State.hxFail (s : State) (n : Nat) : State :=
  if s.flag HX_NAKED n then s else ((s.put HX_NAKED 1 n).sendAck n true).count HX_PERR.NAK 1 n

/-- R514, R515: a packet goes on, or is discarded for want of a route; a CSR read is answered instead (R539). -/
def State.hxForward (s : State) (n p : Nat) : State :=
  let d := pkDest p
  let lost (u : State) : State :=
    if pkClass p = clCSR && pkId p / 2 ^ 8 = 0 then
      u.hxSend (u.ownPacket (pkSrc p) clCSR (pkId p % 2 ^ 8 + 2 * 2 ^ 8) (pkSeq p) [2 ^ 32])
    else u.noRoute d
  if pkHops p = 15 then lost s
  else match s.outPort d n with | some o => s.hxTx o (pkHop p) | none => lost s

/-- Table HX-5 and Table HX-14, kinds 10, 12 and 14, and reserved channel KINDs: the violation of an accepted packet, 0
where there is none. -/
def State.pkWrong (s : State) (n p : Nat) : Nat :=
  let k := pkClass p
  let d := pkDest p
  if d = 0 && (k = clCH || k = clCSR || k = clMIR) then 10
  else if d ≠ 0 && (k = clLINK || k = clTIME) then 10
  else if k = clMIR && !s.flag HX_PCFG.MIRROR n then 14
  else if k = clDISC && !((pkId p = 0 && pkLen p = 3) || (pkId p = 1 && pkLen p = 2) || (pkId p = 2 && pkLen p = 2) ||
      (pkId p = 3 && pkLen p = 3 && bits (pkWord p 0) 0 8 % 16 = 0)) then 12
  else if k = clTIME && !(pkId p ≤ 3 && pkLen p = 2) then 12
  else if k = clCH && d = s.hxAddr && (pkLen p = 0 || 5 < bits (pkWord p 0) 0 4) then 11
  else 0

/-- An accepted packet that is not stomped (R514). -/
def State.hxAccept (s : State) (n p : Nat) : State :=
  let k := pkClass p
  let d := pkDest p
  let wrong := s.pkWrong n p
  let t := s.hxFree n k (pkCost p)
  if wrong ≠ 0 then t.hxViolation n wrong
  else if k = clLINK then
    if pkId p = 0 then t.hxTx n (t.ownPacket 0 clLINK 1 (pkSeq p) (pkWords p))
    else t.put HX_PSTAT.ECHO_NS (min (2 ^ 18 - 1) ((t.now + 2 ^ 80 - t.get HX_ECHO_T n) % 2 ^ 80 / 2 ^ 16)) n
  else
    let s := if k = clTIME then s.put HX_TAT (s.now + 2 ^ 80) n else s
    if k = clDISC || d = 0 || d = s.hxAddr then s.hxDeliver n p
    else if d = 255 then
      (List.range 8).foldl (fun u o =>
        if o ≠ n && u.alive o && (u.flag HX_PSTAT.CHILD o || (u.flag HX_DSTAT.PVALID && u.get HX_DSTAT.PARENT = o))
        then u.hxTx o (pkHop p) else u) (s.hxDeliver n p)
    else t.hxForward n p

/-- PACKET_RECEIVE (R504, R505, R510): what port n receives on its line: a packet, a control block of reserved TYPE, a
stray data block, or a SOP inside a packet. -/
def execPacketReceive (n : Fin 8) (x : LineItem) (s : State) : Out :=
  live s fun s =>
    if !s.portUp n then s
    else
      match x with
      | .reservedBlock => s.hxViolation n 1
      | .strayData => s.hxViolation n 2
      | .earlySop => (s.hxViolation n 3).hxFail n
      | .packet lseq header payload trailer =>
        let h := header.toNat
        let ws := payload.map BitVec.toNat
        let k := bits h 44 4
        let len := bits h 16 16
        let tr := trailer.toNat
        let p := mkPacket h (bits tr 32 5) ws
        if 7 ≤ k || clMax k < len then (s.hxViolation n 4).hxFail n
        else if bits tr 37 27 ≠ 0 then (s.hxViolation n 13).hxFail n
        else
          let crc := crcWords (h :: ws)
          let stomped := bits tr 0 32 = 0xFFFFFFFF - crc
          let q := lseq.toNat
          let back := (s.get HX_NEXT n + 4096 - q) % 4096
          if ws.length ≠ len || (bits tr 0 32 ≠ crc && !stomped) then s.hxFail n
          else if 1 ≤ back && back ≤ 2048 then s.sendAck n false
          else if back ≠ 0 then s.hxFail n
          else if clBuf k < s.get HX_USED (16 * n + k) + pkCost p then (s.hxViolation n 5).hxFail n
          else
            let s := ((s.put HX_NEXT (q + 1) n).put HX_NAKED 0 n).put HX_UNACK (s.get HX_UNACK n + 1) n
            let s := if 64 ≤ s.get HX_UNACK n then s.sendAck n false else s
            let s := s.put HX_USED (s.get HX_USED (16 * n + k) + pkCost p) (16 * n + k)
            if stomped then s.hxFree n k (pkCost p) else s.hxAccept n p

/-- R544: DORMANT entry; UP ports send 8 SLEEP blocks and sleep. -/
def State.hxSleep (s : State) : State :=
  (List.range 8).foldl (fun u n =>
    if u.portUp n then
      ((List.range 8).foldl (fun v _ => v.hxBlock n 0x66) u).put HX_PSTAT.STATE hpSLEEPING n
    else u) s

/-- R545: after wake each port trains again. -/
def State.hxWake (s : State) : State :=
  (List.range 8).foldl (fun u n =>
    if u.get HX_PSTAT.STATE n = hpSLEEPING then u.portDrop n hpTRAINING else u) s

/-- R544: an enabled port that is in TRAINING, ALIGNING or INIT. -/
def State.hxBusy (s : State) : Option Nat :=
  (List.range 8).find? fun n =>
    s.flag HX_PCFG.EN n && 1 ≤ s.get HX_PSTAT.STATE n && s.get HX_PSTAT.STATE n ≤ 3

end Sys2Proof.Machine
end

