-- ==== Sys2Proof/Machine/Domains.lean ====
section
/-! DEFINITION. spec/01 and spec/15: the reset domains of the design, held by PW_RDHOLD and by a mirrored pair; the role
of the pair. -/

namespace Sys2Proof.Machine

/-- MI_STAT.ROLE codes (R551). -/
def rSTANDALONE : Nat := 0
def rPRIMARY : Nat := 1
def rSECONDARY : Nat := 2

/-- R569, R578, R579: the pair keeps domain d in reset: outside PRIMARY, during a planned switch, and after a SECONDARY
has been disbanded until PW_RDHOLD releases it. -/
def State.pairHolds (s : State) (d : Nat) : Bool :=
  (s.flag MI_CFG.EN && bit (s.get MI_CFG.HOLD_RD) d && (s.get MI_STAT.ROLE ≠ rPRIMARY || s.flag MI_HANDING)) ||
    bit (s.get MI_STUCK) d

/-- Domain d is to stay in reset (R55, R569). -/
def State.domainWanted (s : State) (d : Nat) : Bool := bit (s.get PW_RDHOLD.HOLD) d || s.pairHolds d

/-- R166: the MAC cells of domain d lose P and their PCOUT token. -/
def State.macDomainReset (s : State) (d : Nat) : State :=
  (List.range 3072).foldl (fun u n =>
    if u.get FB_MACCFG.RDOM n = d && (u.macP n ≠ 0 || u.flag FB_MACSTAT.PCOUT_FULL n) then u.macClear n else u) s

/-- The reset of domain d is asserted: its ports and MAC cells reset, and it waits for no slot (R55, R166, R263). -/
def State.assertDomain (s : State) (d : Nat) : State :=
  (((s.put DOM_RESET 1 d).andBit REL_LEFT d).xpDomainReset d).macDomainReset d

/-- Domain d leaves reset. -/
def State.freeDomain (s : State) (d : Nat) : State := (s.put DOM_RESET 0 d).andBit REL_LEFT d

/-- R55: the lowest domain that waits and is to be released leaves reset; those that are held again are passed over. -/
def State.releaseNext (s : State) : State :=
  let s := (List.range 16).foldl (fun u d => if bit (u.get REL_LEFT) d && u.domainWanted d then u.andBit REL_LEFT d else u) s
  match (List.range 16).find? fun d => bit (s.get REL_LEFT) d with
  | some d => s.freeDomain d
  | none => s

/-- R55, R569: in RUN the domains follow what holds them: newly held ones are reset, newly freed ones are released in
ascending order, the first at once unless a release is in progress. -/
def State.domainsFollow (s : State) : State :=
  if s.mode ≠ mRUN then s
  else
    let s := (List.range 16).foldl (fun u d =>
      if u.domainWanted d && (!u.flag DOM_RESET d || bit (u.get REL_LEFT) d) then u.assertDomain d else u) s
    let idle := s.get REL_LEFT = 0
    let t := (List.range 16).foldl (fun u d =>
      if !u.domainWanted d && u.flag DOM_RESET d then u.orBit REL_LEFT d else u) s
    if idle then t.releaseNext else t

/-- The effect of a word written to PW_RDHOLD (R55, R56): outside RUN the bits are kept for the staged release. -/
def wrRdhold (_m : Master) (w : Nat) (s : State) : State :=
  let s := s.put PW_RDHOLD.HOLD (bits w 0 16)
  let s := s.put MI_STUCK (s.get MI_STUCK &&& bits w 0 16)
  if s.flag PW_MODE.BUSY then s else (s.put REL_T2 (s.get GH_RELT2.T)).domainsFollow

/-- RDHOLD_WRITE (R55, R56): a write to PW_RDHOLD. -/
def execRdholdWrite (m : Master) (w : Word) (s : State) : Out :=
  live s fun s => s.onWrite m 0x100C w.toNat (wrRdhold m w.toNat)

/-- A change of MI_STAT.ROLE (R551, R569). -/
def State.setRole (s : State) (r : Nat) : State :=
  if s.get MI_STAT.ROLE = r then s
  else
    let s := s.put MI_STAT.ROLE r
    ((s.raise Rc.MI_ROLE r (s.get MI_STAT.TERM)).put MI_IRQ.ROLE 1).domainsFollow

/-- Epochs closed and not yet acknowledged, oldest first: number plus 2^32 times their words (R562). -/
def MI_EPOCHS : Fifo := ⟨35⟩

/-- Forget the journal of a pair. -/
def State.pairForget (s : State) : State := ((s.dropJournal.setList MI_EPOCHS []).setList DIRTY_LANES []).put MI_SENT 0

/-- R585: every MI register takes its reset value. -/
def State.mirrorReset (s : State) : State :=
  let s := { s with cells := s.cells.filter fun c => c.1 < 32 * 0x28000 || 32 * 0x29000 ≤ c.1 }
  let s := (((s.pairForget.put MI_HANDING 0).put MI_STUCK 0).put MI_SEEN 0).put MI_WANT 0
  (((s.put MI_MISS 0).put MI_MISM 0).put MI_NEXTEP 0).put MI_COPYING 0

end Sys2Proof.Machine
end

