-- ==== Sys2Proof/Machine/Mirror.lean ====
section
/-! DEFINITION. spec/15: mirrored pairs. The register values that a copy pass reads and the register writes that the
applier makes go through the functions given as `peek` and `poke`, which the control bus supplies. -/

namespace Sys2Proof.Machine

/-! MIR packets (R550, R563, R565). -/

/-- The mirror port (R503, R550). -/
def State.mirrorPort (s : State) : Option Nat :=
  (List.range 8).find? fun n => s.flag HX_PCFG.EN n && s.flag HX_PCFG.MIRROR n

/-- Send a MIR packet of a kind to the peer. -/
def State.mirSend (s : State) (kind : Nat) (ws : List Nat) : State :=
  match s.mirrorPort with
  | none => s
  | some n =>
    let dest := if s.get MI_STAT.PEER_ADDR = 0 then s.get HX_PSTAT.NADDR n else s.get MI_STAT.PEER_ADDR
    if s.hxAddr = 0 || dest = 0 || !s.alive n then s
    else
      let t := s.hxTx n (s.ownPacket dest clMIR (2 ^ 8 * kind) (s.get MI_SEQ) ws)
      t.put MI_SEQ (s.get MI_SEQ + 1)

/-- The next MIR packet delivered from the mirror port, if it is of a kind. -/
def State.mirHead (s : State) (kind : Nat) : Option (Nat × State) :=
  match s.mirrorPort with
  | none => none
  | some n =>
    match s.hxHead n clMIR with
    | some (p, t) => if pkId p / 2 ^ 8 = kind then some (p, t) else none
    | none => none

/-- JOURNAL packets of up to 256 words for what has not been sent (R563). -/
def journalSend : Nat → State → State
  | 0, s => s
  | f + 1, s =>
    let ws := ((s.list JOURNAL_WORDS).drop (s.get MI_SENT)).take 256
    if ws.isEmpty then s
    else journalSend f ((s.mirSend 0 ws).put MI_SENT (s.get MI_SENT + ws.length))

/-- Send all of it. -/
def State.journalOut (s : State) : State := journalSend (s.get MI_JLEVEL.WORDS / 256 + 1) s

/-! Declarations (R555, R556). -/

/-- Items that declaration r covers: registers, memory words, or lanes. -/
def State.declItems (s : State) (r : Nat) : Nat :=
  let n := s.get MI_DECLB.COUNT r
  match s.get MI_DECLA.KIND r with | 1 => n | 2 => 4096 * n | 3 => n | _ => 0

/-- Item number `pos` over all declarations: kind and number (register offset, memory word, lane). -/
def declItem (s : State) : Nat → Nat → Nat → Option (Nat × Nat)
  | 0, _, _ => none
  | f + 1, r, pos =>
    let n := s.declItems r
    if pos < n then
      let a := s.get MI_DECLA.START r
      some (match s.get MI_DECLA.KIND r with
        | 1 => (1, a + 4 * pos)
        | 2 => (2, 4096 * a + pos)
        | _ => (3, a + pos))
    else declItem s f (r + 1) (pos - n)

/-- HASH (R555). -/
def State.declHash (s : State) : Nat :=
  crc32c (((List.range 128).flatMap fun r =>
    bytesLE 4 (s.readReg MI_DECLA.reg r) ++ bytesLE 4 (s.readReg MI_DECLB.reg r)) ++ bytesLE 2 (s.get MI_CFG.HOLD_RD))

/-- R556: the span of a declaration in the numbers of its kind. -/
def State.declSpan (s : State) (r : Nat) : Nat × Nat :=
  let a := s.get MI_DECLA.START r
  (a, a + (if s.get MI_DECLA.KIND r = 1 then 4 else 1) * s.get MI_DECLB.COUNT r)

/-- Table MI-2: whether declaration r is out of range. -/
def State.declBad (s : State) (r : Nat) : Bool :=
  let n := s.get MI_DECLB.COUNT r
  let sp := s.declSpan r
  match s.get MI_DECLA.KIND r with
  | 0 => false
  | 1 => sp.1 % 4 ≠ 0 || n = 0 || 131072 < n ||
      !([(0x2000, 0x4000), (0x4000, 0x5000), (0x5000, 0x7000), (0x7000, 0x8000), (0x8000, 0xA000), (0xA000, 0xB000),
         (0x10000, 0x18000), (0x18000, 0x1C000), (0x40000, 0x80000)].any fun b => b.1 ≤ sp.1 && sp.2 ≤ b.2)
  | 2 => n = 0 || 512 < n || 2048 < sp.2
  | _ => n = 0 || 2048 < n || 2048 < sp.2

/-- Table MI-1, with the declarations in `s`. -/
def State.pairCheck (s : State) : Option (Rc × Nat) :=
  let used := (List.range 128).filter fun r => s.get MI_DECLA.KIND r ≠ 0
  let total (k : Nat) : Nat := ((used.filter fun r => s.get MI_DECLA.KIND r = k).map fun r => s.get MI_DECLB.COUNT r).sum
  let wit := s.get MI_WIT.WADDR
  if s.mode ≠ mHOLD && s.mode ≠ mRUN then some (Rc.MI_WRONG_MODE, s.mode)
  else if s.mirrorPort.isNone then some (Rc.MI_NO_PORT, 0)
  else if !s.flag QM_CTL.JRES then some (Rc.MI_NO_JOURNAL, 0)
  else
    match used.find? fun r => s.declBad r with
    | some r => some (Rc.MI_DECL_RANGE, r)
    | none =>
      match used.find? fun r => used.any fun q =>
          q < r && s.get MI_DECLA.KIND q = s.get MI_DECLA.KIND r && (s.declSpan q).1 < (s.declSpan r).2 &&
            (s.declSpan r).1 < (s.declSpan q).2 with
      | some r => some (Rc.MI_DECL_OVERLAP, r)
      | none =>
        if 131072 < total 1 || 512 < total 2 then some (Rc.MI_DECL_LIMIT, 0)
        else if s.get MI_CFG.WIT_MODE = 1 && (wit = 0 || wit = 255 || wit = s.hxAddr) then some (Rc.MI_WITNESS, wit)
        else none

/-! The journal of the primary (R560 to R568). -/

/-- The LPTR record of lane x (Table MI-3). -/
def State.lptr (s : State) (x : Nat) : List Nat :=
  [4 + 16 * x + 2 ^ 15 * s.get LANE_W x + 2 ^ 36 * s.get LANE_HDR x + 2 ^ 57 * s.get LANE_OPEN x +
      2 ^ 58 * s.get LANE_MVALID x,
    s.get LANE_RD x + 2 ^ 21 * s.get LANE_REL x + 2 ^ 42 * s.get LANE_MARK x]

/-- The next record of a copy pass, with the state after it; none at the end of the pass (R567). -/
def State.copyRecord (s : State) (peek : State → Nat → Nat) : Option (List Nat × State) :=
  match declItem s 128 0 (s.get MI_CPOS) with
  | none => none
  | some (kind, n) =>
    let next := s.put MI_CPOS (s.get MI_CPOS + 1)
    some (match kind with
      | 1 => ([1 + 16 * n + 2 ^ 32 * (peek s n % 2 ^ 32)], next)
      | 2 =>
        let v := s.load .block n
        ([2 + 16 * (n / 4096) + 2 ^ 15 * (n % 4096) + 2 ^ 27 * (v / 2 ^ 64 % 256), v % 2 ^ 64], next)
      | _ =>
        let k := s.get MI_CSUB
        if k < s.laneOcc n then
          let p := s.lanePlus n (s.get LANE_REL n) k
          let w := s.load .queue (s.slotAddr n p)
          ([3 + 16 * n + 2 ^ 15 * p + 2 ^ 36 * b2n (slotHeader w), w % 2 ^ 64], s.put MI_CSUB (k + 1))
        else (s.lptr n, next.put MI_CSUB 0))

/-- Copy records as far as live records leave room (R567). -/
def copyLoop (peek : State → Nat → Nat) : Nat → State → State
  | 0, s => s
  | f + 1, s =>
    if s.get MI_COPYING ≠ 1 then s
    else
      match s.copyRecord peek with
      | none => (s.put MI_COPYING 2).put MI_CEND (s.get MI_NEXTEP)
      | some (ws, t) => if 131000 < s.get MI_JLEVEL.WORDS + ws.length then s else copyLoop peek f (t.journalWords ws)

/-- A copy pass starts (R560, R567). -/
def State.copyStart (s : State) : State :=
  let s := ((((s.pairForget.put MI_NEXTEP 0).put MI_EPOCH.EPOCH 0).put MI_EPACK.ACKED 0).put MI_COPYING 1).put MI_CPOS 0
  ((s.put MI_CSUB 0).put MI_CHEARD 0).setSync 1

/-- R567: a DEGRADED primary starts again when AUTO_RESYNC is 1; its journal is empty. -/
def State.autoResync (s : State) : State :=
  if s.flag MI_CFG.EN && s.get MI_STAT.ROLE = rPRIMARY && s.get MI_STAT.SYNC = 3 && s.flag MI_CFG.AUTO_RESYNC &&
      s.flag MI_STAT.PEER then s.copyStart
  else s

/-- Close the open epoch and send the journal (R560, R561). -/
def State.epochClose (s : State) (peek : State → Nat → Nat) : State :=
  if !s.journaling then s
  else
    let s := copyLoop peek 131072 s
    let s := (s.list DIRTY_LANES).foldl (fun u x => u.journalWords (u.lptr x)) s
    let s := s.setList DIRTY_LANES []
    if !s.journaling then s
    else
      let e := s.get MI_NEXTEP
      let n := s.get JOPEN
      let head := 5 + 16 * e + 2 ^ 36 * n
      let body := (s.list JOURNAL_WORDS).drop (s.get MI_JLEVEL.WORDS - n)
      let crc := crcWords (body ++ [head])
      let s := s.journalWords [head, crc + 2 ^ 32 * (s.now / 2 ^ 16 % 2 ^ 32)]
      if !s.journaling then s
      else
        let s := (s.enq MI_EPOCHS (e + 2 ^ 32 * (n + 2))).put JOPEN 0
        ((s.put MI_EPOCH.EPOCH e).put MI_NEXTEP (e + 1)).journalOut

/-- EPOCH_ACK (R562, R567): the secondary has applied an epoch. -/
def execEpochAck (s : State) : Out :=
  live s fun s =>
    match s.mirHead 2 with
    | none => s
    | some (p, t) =>
      let e := bits (pkWord p 0) 0 32
      if !t.journaling then t
      else
        let done := (t.list MI_EPOCHS).filter fun x => x % 2 ^ 32 ≤ e
        let words := (done.map fun x => x / 2 ^ 32).sum
        let t := t.setList MI_EPOCHS ((t.list MI_EPOCHS).filter fun x => !(x % 2 ^ 32 ≤ e))
        let t := (t.setList JOURNAL_WORDS ((t.list JOURNAL_WORDS).drop words)).put MI_JLEVEL.WORDS
          (t.get MI_JLEVEL.WORDS - words)
        let t := (t.put MI_SENT (t.get MI_SENT - words)).put MI_EPACK.ACKED e
        if t.get MI_COPYING = 2 && t.get MI_CEND ≤ e then (t.put MI_COPYING 0).setSync 2 else t

/-- R563: after a link life of the mirror port has ended, what was not acknowledged is sent again. -/
def State.journalAgain (s : State) : State := if s.journaling then (s.put MI_SENT 0).journalOut else s

/-- INIT (R507, R508, R563): an INIT block with payload `w` is received on port n; a new life of the mirror port makes the
primary send its journal again. -/
def execHxInit (n : Fin 8) (w : BitVec 64) (s : State) : Out :=
  live s fun s =>
    let t := s.initBlock n w.toNat
    if s.flag HX_PCFG.MIRROR n && !s.portUp n && t.portUp n && !(s.alive n && bit w.toNat 29) then t.journalAgain else t

/-! The secondary: applying epochs (R563, R564). -/

/-- Cut the first epoch off the words received: its words before EPOCH_END, the EPOCH_END words, the rest; none while
its EPOCH_END has not arrived. -/
def cutEpoch : Nat → List Nat → List Nat → Option (List Nat × Nat × Nat × List Nat)
  | 0, _, _ => none
  | f + 1, acc, ws =>
    match ws with
    | [] => none
    | h :: r =>
      let t := bits h 0 4
      if 2 ≤ t && t ≤ 5 then
        match r with
        | [] => none
        | d :: r' => if t = 5 then some (acc.reverse, h, d, r') else cutEpoch f (d :: h :: acc) r'
      else cutEpoch f (h :: acc) r

/-- Apply the records of an epoch in order (R564). -/
def applyRecords (poke : State → Nat → Nat → State) : Nat → List Nat → State → State
  | 0, _, s => s
  | f + 1, ws, s =>
    match ws with
    | [] => s
    | h :: r =>
      match bits h 0 4 with
      | 1 => applyRecords poke f r (poke s (bits h 4 20) (bits h 32 32))
      | 2 =>
        applyRecords poke f (r.drop 1)
          (s.store .block (4096 * bits h 4 11 + bits h 15 12) (r.headD 0 % 2 ^ 64 + 2 ^ 64 * bits h 27 8))
      | 3 => applyRecords poke f (r.drop 1) (s.putSlot (bits h 4 11) (bits h 15 21) (r.headD 0) (bit h 36))
      | 4 =>
        let x := bits h 4 11
        let d := r.headD 0
        let s := ((s.put LANE_W (bits h 15 21) x).put LANE_HDR (bits h 36 21) x).put LANE_OPEN (bits h 57 1) x
        let s := ((s.put LANE_MVALID (bits h 58 1) x).put LANE_RD (bits d 0 21) x).put LANE_REL (bits d 21 21) x
        let s := s.put LANE_MARK (bits d 42 21) x
        let s := s.put LANE_N (if bit h 57 then s.laneDiff x (bits h 15 21) (bits h 36 21) - 1 else 0) x
        applyRecords poke f (r.drop 1) s
      | _ => applyRecords poke f r s

/-- R564: the secondary's journal has broken. -/
def State.epochBad (s : State) (e : Nat) : State := (s.pairForget.setSync 3).raise Rc.MI_EPOCH_BAD 0 e

/-- Apply every complete epoch that has arrived (R563, R564). -/
def applyEpochs (poke : State → Nat → Nat → State) : Nat → State → State
  | 0, s => s
  | f + 1, s =>
    let ws := s.list JOURNAL_WORDS
    match cutEpoch (ws.length + 1) [] ws with
    | none => s
    | some (body, head, tail, rest) =>
      let e := bits head 4 32
      let s := (s.setList JOURNAL_WORDS rest).put MI_JLEVEL.WORDS rest.length
      if e < s.get MI_NEXTEP then applyEpochs poke f s
      else if crcWords (body ++ [head]) ≠ bits tail 0 32 || bits head 36 20 ≠ body.length then s.epochBad e
      else
        let s := applyRecords poke (body.length + 1) body s
        applyEpochs poke f (((s.put MI_EPOCH.EPOCH e).put MI_NEXTEP (e + 1)).mirSend 2 [e])

/-- JOURNAL packets reach the secondary (R563, R564). -/
def State.journalIn (s : State) (poke : State → Nat → Nat → State) : State :=
  match s.mirHead 0 with
  | none => s
  | some (p, t) =>
    if !t.secondary || t.get MI_STAT.SYNC = 3 then t
    else
      let ws := pkWords p
      let t := (t.setList JOURNAL_WORDS (t.list JOURNAL_WORDS ++ ws)).put MI_JLEVEL.WORDS
        (t.get MI_JLEVEL.WORDS + ws.length)
      applyEpochs poke (t.get MI_JLEVEL.WORDS + 1) t

/-! Roles (R553, R554, R573, R577 to R582). -/

/-- R577: every packet left open in a declared lane is closed as R192 states. -/
def State.closeLanes (s : State) : State :=
  (List.range 2048).foldl (fun u x =>
    if (u.declOf 3 x).isSome && u.flag LANE_OPEN x then u.closePacket x (lengthWord true false 0 (8 * u.get LANE_N x))
    else u) s

/-- R577: a SECONDARY takes over; after a planned switch the pair stays IN_SYNC. -/
def State.promote (s : State) (planned : Bool) : State :=
  let s := (s.pairForget.put MI_WANT 0).put MI_STAT.TERM (s.get MI_STAT.TERM + 1)
  let s := s.closeLanes
  let s := (s.setRole rPRIMARY).raise Rc.MI_PROMOTED (s.get MI_STAT.PEER_ADDR) (s.get MI_STAT.TERM)
  if planned then s else s.setSync 4

/-- R582: a PRIMARY is demoted. -/
def State.demote (s : State) : State :=
  let s := ((s.pairForget.put MI_HANDING 0).put MI_COPYING 0).put MI_WANT 0
  ((s.setRole rSECONDARY).setSync 3).raise Rc.MI_DEMOTED (s.get MI_STAT.PEER_ADDR)

/-- The device becomes PRIMARY for a reason, or asks for the lease first (R554, R573). -/
def State.takePrimary (s : State) (why : Nat) : State :=
  if s.get MI_CFG.WIT_MODE = 1 && !s.flag MI_STAT.LEASE then s.put MI_WANT why
  else
    let s := s.put MI_WANT 0
    match why with
    | 2 => s.promote false
    | 3 => (s.setRole rPRIMARY).setSync 4
    | _ => s.setRole rPRIMARY

/-- R553: the role that the requests, or the die IDs, give this device: true for PRIMARY. -/
def State.choosePrimary (s : State) (theirs : Nat) : Bool :=
  let mine := s.get MI_CFG.ROLE_REQ
  if mine ≠ theirs then (if mine = 0 then theirs = 2 else mine = 1)
  else decide (s.dieId < s.get MI_PEERID_LO.ID + 2 ^ 32 * s.get MI_PEERID_HI.ID)

/-- HEARTBEAT (R553, R566, R572, R578, R580): the next MIR packet delivered from the mirror port, if it is one. -/
def execHeartbeat (s : State) : Out :=
  live s fun s =>
    match s.mirHead 1 with
    | none => s
    | some (p, t) =>
      let w0 := pkWord p 0
      let w1 := pkWord p 1
      let n := t.mirrorPort.getD 0
      let role := bits w0 0 2
      let sync := bits w0 4 3
      let term := bits w0 16 16
      if !t.flag MI_CFG.EN then t
      else
        let t := ((t.put MI_SEEN 1).put MI_MISS 0).put MI_PHASH.PHASH (bits w1 0 32)
        let t := ((t.put MI_PEERID_LO.ID (t.get HX_PNBR_LO.ID n)).put MI_PEERID_HI.ID (t.get HX_PNBR_HI.ID n)).put
          MI_STAT.PEER_ADDR (pkSrc p)
        let t := t.put MI_STAT.PEER 1
        let badId := bits w1 32 16 ≠ t.get MI_WIT.PAIR_ID
        let badHash := bits w1 0 32 ≠ t.get MI_HASH.HASH
        if badId || badHash then
          let t' := (t.put MI_MISM 1).put MI_IRQ.MISMATCH 1
          if t.flag MI_MISM then t' else t'.raise Rc.MI_DECL_MISMATCH (pkSrc p) (b2n badId + 2 * b2n badHash)
        else
          let t := t.put MI_MISM 0
          let t := if 2 ≤ t.get MI_WANT then t.put MI_WANT 0 else t
          let mine := t.get MI_STAT.ROLE
          if mine = rPRIMARY && role = rPRIMARY then
            if t.flag MI_HANDING && t.get MI_STAT.TERM < term then
              let t := (t.pairForget.put MI_HANDING 0).put MI_STAT.TERM term
              ((t.put MI_NEXTEP (t.get MI_EPOCH.EPOCH + 1)).setRole rSECONDARY).setSync 2
            else
              let t := (t.raise Rc.MI_SPLIT_BRAIN (pkSrc p) term).put MI_IRQ.SPLIT 1
              let own := t.get MI_STAT.TERM
              let keep := term < own || (term = own &&
                decide (t.dieId < t.get MI_PEERID_LO.ID + 2 ^ 32 * t.get MI_PEERID_HI.ID))
              if keep then t else t.demote
          else if mine = rPRIMARY then
            if role ≠ rSECONDARY then t
            else
              let st := t.get MI_STAT.SYNC
              if st = 0 || st = 4 then t.copyStart
              else
                let t := if sync = 1 then t.put MI_CHEARD 1 else t
                let t := if sync = 3 && (st = 2 || (st = 1 && t.flag MI_CHEARD)) then (t.pairForget).setSync 3 else t
                t.autoResync
          else if role = rPRIMARY then
            let t := (t.setRole rSECONDARY).put MI_STAT.TERM term
            let st := t.get MI_STAT.SYNC
            if sync = 1 && st ≠ 1 then (t.pairForget.put MI_NEXTEP 0).setSync 1
            else if sync = 2 && st = 1 then t.setSync 2
            else if sync = 3 && st ≠ 3 then t.pairForget.setSync 3
            else t
          else
            let theirs := bits w0 2 2
            let req := t.get MI_CFG.ROLE_REQ
            let t := if mine = 0 && req = theirs && req ≠ 0 then t.raise Rc.MI_ROLE_CONFLICT (pkSrc p) else t
            let first := if mine = 0 || role = 0 then t.choosePrimary theirs
              else decide (t.dieId < t.get MI_PEERID_LO.ID + 2 ^ 32 * t.get MI_PEERID_HI.ID)
            if first then (if t.get MI_WANT = 0 then t.takePrimary 1 else t) else t.setRole rSECONDARY

/-- HEARTBEAT_TIMER (R553, R576, R581): HB_T has passed on an enabled device. -/
def execHeartbeatTimer (s : State) : Out :=
  live s fun s =>
    if !s.flag MI_CFG.EN || (s.mode ≠ mHOLD && s.mode ≠ mRUN) then s
    else
      let s := s.mirSend 1
        [s.get MI_STAT.ROLE + 4 * s.get MI_CFG.ROLE_REQ + 16 * s.get MI_STAT.SYNC + 2 ^ 16 * s.get MI_STAT.TERM +
            2 ^ 32 * s.get MI_EPOCH.EPOCH,
          s.get MI_HASH.HASH + 2 ^ 32 * s.get MI_WIT.PAIR_ID]
      let value := s.hxAddr + 2 ^ 16 * s.get MI_WIT.PAIR_ID
      let ask (write : Bool) (off : Nat) : CsrReq :=
        { dest := s.get MI_WIT.WADDR, write := write, master := 0, off := off, data := value, tag := 0 }
      if s.get MI_CFG.WIT_MODE ≠ 1 then s
      else if s.get MI_WANT ≠ 0 then (s.csrAsk (ask true 0x28044)).csrAsk (ask false 0x28040)
      else if s.get MI_STAT.ROLE = rPRIMARY then
        let s := s.csrAsk (ask true 0x28048)
        if s.flag MI_STAT.PEER then s else s.csrAsk (ask false 0x28040)
      else s

/-- R576, R581: what a read of MI_WHOLD on the witness showed: none where the read failed. -/
def State.leaseShown (s : State) (v : Option Nat) : State :=
  if !s.flag MI_CFG.EN || s.get MI_CFG.WIT_MODE ≠ 1 then s
  else
    let alone := s.get MI_STAT.ROLE = rPRIMARY && !s.flag MI_STAT.PEER
    match v with
    | none => if alone then s.demote else s
    | some w =>
      let mine := bits w 0 8 = s.hxAddr && bits w 16 16 = s.get MI_WIT.PAIR_ID
      let s := s.put MI_STAT.LEASE (b2n mine)
      if mine then (if s.get MI_WANT ≠ 0 then s.takePrimary (s.get MI_WANT) else s)
      else if alone && bits w 0 8 ≠ 0 then s.demote
      else s

/-- PAIR_T_EXPIRY (R554). -/
def execPairTExpiry (s : State) : Out :=
  live s fun s =>
    if s.flag MI_CFG.EN && !s.flag MI_SEEN && s.get MI_STAT.ROLE = 0 && s.get MI_CFG.ROLE_REQ ≠ 2 && s.get MI_WANT = 0
    then s.takePrimary 3 else s

/-- HEARTBEAT_MISS (R572 to R574). -/
def execHeartbeatMiss (s : State) : Out :=
  live s fun s =>
    if !s.flag MI_CFG.EN || !s.flag MI_STAT.PEER then s
    else
      let k := s.get MI_MISS + 1
      let s := s.put MI_MISS k
      if k < s.get MI_TIME.HB_MISS then s
      else
        let s := ((s.put MI_STAT.PEER 0).raise Rc.MI_PEER_LOST (s.get MI_STAT.PEER_ADDR)).put MI_IRQ.PEER 1
        if s.get MI_STAT.ROLE = rSECONDARY then
          if s.get MI_STAT.SYNC = 2 then s.takePrimary 2 else s.setSync 4
        else if s.get MI_STAT.ROLE = rPRIMARY then
          (((s.pairForget.put MI_HANDING 0).put MI_COPYING 0).setSync 4).domainsFollow
        else s

/-- LEASE_LOST (R576, R581). -/
def execLeaseLost (s : State) : Out :=
  live s fun s =>
    if !s.flag MI_CFG.EN || s.get MI_CFG.WIT_MODE ≠ 1 || !s.flag MI_STAT.LEASE then s
    else
      let s := (s.put MI_STAT.LEASE 0).raise Rc.MI_LEASE_LOST (s.get MI_WIT.WADDR)
      if s.get MI_STAT.ROLE = rPRIMARY && !s.flag MI_STAT.PEER then s.demote else s

/-- HANDOVER_PACKET (R578): the secondary promotes once the named epoch has been applied. -/
def execHandoverPacket (s : State) : Out :=
  live s fun s =>
    match s.mirHead 3 with
    | none => s
    | some (p, t) =>
      let e := bits (pkWord p 0) 0 32
      if t.secondary && t.get MI_STAT.SYNC = 2 && t.get MI_NEXTEP = e + 1 then t.promote true else t

/-- DISBAND, or EN cleared (R579): role STANDALONE. -/
def State.disband (s : State) : State :=
  let stuck := if s.get MI_STAT.ROLE = rPRIMARY then 0 else s.get MI_CFG.HOLD_RD
  let s := (((s.put MI_CFG.EN 0).pairForget.put MI_STUCK stuck).put MI_HANDING 0).put MI_COPYING 0
  let s := ((s.put MI_STAT.PEER 0).put MI_STAT.LEASE 0).put MI_WANT 0
  (s.setRole rSTANDALONE).setSync 0

/-- The effect of a word written to MI_CFG (R552, R554, R555). -/
def wrMiCfg (m : Master) (w : Nat) (s : State) : State :=
  if s.flag MI_CFG.EN then
    let t := s.writeReg m MI_CFG.reg 0 w
    if t.readReg MI_CFG.reg 0 / 2 ≠ s.readReg MI_CFG.reg 0 / 2 then s.raise Rc.MI_ON 0
    else if bit w 0 then s
    else s.disband
  else
    let s := (s.writeReg m MI_CFG.reg 0 w).put MI_CFG.EN 0
    if !bit w 0 then s
    else
      match s.pairCheck with
      | some (c, obj) => s.refuse c obj m 0x28000
      | none =>
        let s := ((s.pairForget.put MI_CFG.EN 1).put MI_HASH.HASH s.declHash).put MI_STAT.TERM 0
        let s := ((s.put MI_SEEN 0).put MI_MISS 0).put MI_MISM 0
        (((s.put MI_WANT 0).put MI_COPYING 0).put MI_NEXTEP 0).domainsFollow

/-- MI_ENABLE (R552): a write to MI_CFG. -/
def execMiEnable (m : Master) (w : Word) (s : State) : Out :=
  live s fun s => s.onWrite m 0x28000 w.toNat (wrMiCfg m w.toNat)

/-- A write to MI_TIME, MI_TIME2, MI_WIT or a declaration (R552). -/
def wrMiFixed (m : Master) (r : Reg) (i w : Nat) (s : State) : State :=
  if s.flag MI_CFG.EN then
    if (s.writeReg m r i w).readReg r i ≠ s.readReg r i then s.raise Rc.MI_ON 0 else s
  else s.writeReg m r i w

/-- The effect of a word written to MI_CMD (R578, R579). -/
def wrMiCmd (peek : State → Nat → Nat) (m : Master) (w : Nat) (s : State) : State :=
  let role := s.get MI_STAT.ROLE
  let s :=
    if bit w 0 then
      if s.flag MI_CFG.EN && role = rPRIMARY && s.get MI_STAT.SYNC = 2 then
        let t := ((s.put MI_HANDING 1).domainsFollow).epochClose peek
        t.mirSend 3 [t.get MI_EPOCH.EPOCH]
      else s.refuse Rc.MI_WRONG_STATE role m 0x28010
    else s
  let s :=
    if bit w 1 then
      if s.flag MI_CFG.EN && role = rPRIMARY then s.copyStart else s.refuse Rc.MI_WRONG_STATE role m 0x28010
    else s
  if bit w 2 then
    if s.flag MI_CFG.EN && role ≠ rSTANDALONE then s.disband else s.refuse Rc.MI_WRONG_STATE role m 0x28010
  else s

/-- RESYNC (R579): a write of RESYNC to MI_CMD. -/
def execResync (m : Master) (s : State) : Out := live s fun s => s.onWrite m 0x28010 2 (wrMiCmd (fun _ _ => 0) m 2)

/-- DISBAND (R579): a write of DISBAND to MI_CMD. -/
def execDisband (m : Master) (s : State) : Out := live s fun s => s.onWrite m 0x28010 4 (wrMiCmd (fun _ _ => 0) m 4)

/-! The witness (R575). -/

/-- The effect of a word written to MI_WCLAIM. Whether another holder has gone LEASE_T without a renewal is a matter of
time that no command shows: a free value. (DEDUCED, log entry 46.) -/
def wrWclaim (_m : Master) (w : Nat) (s : State) : State :=
  let a := bits w 0 8
  let id := bits w 16 16
  let h := s.get MI_WHOLD.HOLDER
  if !s.flag MI_WCFG.WIT_EN || (s.flag MI_WBOUND && s.get MI_WHOLD.PAIR_ID ≠ id) then s
  else
    let s := (s.put MI_WBOUND 1).put MI_WHOLD.PAIR_ID id
    if h = 0 || h = a then s.put MI_WHOLD.HOLDER a
    else (if s.fresh 1 = 1 then s.put MI_WHOLD.HOLDER a else s).drawn

/-- The effect of a word written to MI_WREN: it renews the holder's lease, which no register shows.
(DEDUCED, log entry 46.) -/
def wrWren (_m : Master) (_w : Nat) (s : State) : State := s

/-- A write to MI_WCFG: setting WIT_EN opens the witness for its first claim. -/
def wrWcfg (m : Master) (w : Nat) (s : State) : State :=
  let t := s.writeReg m MI_WCFG.reg 0 w
  if bit w 0 && !s.flag MI_WCFG.WIT_EN then (t.put MI_WBOUND 0).put MI_WHOLD.HOLDER 0 else t

/-- WITNESS_CLAIM (R575): a write to MI_WCLAIM. -/
def execWitnessClaim (m : Master) (w : Word) (s : State) : Out :=
  live s fun s => s.onWrite m 0x28044 w.toNat (wrWclaim m w.toNat)

/-- WITNESS_RENEW (R575): a write to MI_WREN. -/
def execWitnessRenew (m : Master) (w : Word) (s : State) : Out :=
  live s fun s => s.onWrite m 0x28048 w.toNat (wrWren m w.toNat)

end Sys2Proof.Machine
end

