-- ==== Sys2Proof/Machine/Periph.lean ====
section
/-! DEFINITION. spec/16: the peripherals of the Lodge, its mailbox, watchdog and interrupt controller. Peripheral i is
UART0, UART1, SPI0, SPI1, I2C0, I2C1. -/

namespace Sys2Proof.Machine

/-- Put a byte, or an entry, into a FIFO of peripheral i. -/
def State.periphPush (s : State) (q : Fifo) (i v : Nat) : State := (s.enq q v i).periphLevels i

/-- Take the oldest out. -/
def State.periphPop (s : State) (q : Fifo) (i : Nat) : Option (Nat × State) :=
  match s.list q i with
  | [] => none
  | v :: r => some (v, (s.setList q r i).periphLevels i)

/-- A read of a receive data register: the entry with VALID, popped unless it is a peek (R22, R607 to R609). -/
def State.periphRead (s : State) (m : Master) (i valid : Nat) : Nat × State :=
  match s.periphPop LG_RX i with
  | none => (0, s)
  | some (v, t) => (v + valid, if s.peeks m then s else t)

/-! Enabling (R604, R605). -/

/-- R604 for the output pins given: the refusal, or the state with the claims made. -/
def State.periphClaim (s : State) (lv obj : Nat) (reserved : Bool) (pins : List Nat) : (Rc × Nat) ⊕ State :=
  if s.mode ≠ mHOLD && s.mode ≠ mRUN then .inl (Rc.LG_WRONG_MODE, s.mode)
  else if reserved then .inl (Rc.LG_RESERVED, obj)
  else s.claimAll lv pins

/-- The configuration register of peripheral i, with the index within its kind. -/
def periphCfg (i : Nat) : Reg × Field × Nat :=
  if i < 2 then (LG_UCFG.reg, LG_UCFG.EN, i)
  else if i < 4 then (LG_SCFG.reg, LG_SCFG.EN, i - 2)
  else (LG_ICFG.reg, LG_ICFG.EN, i - 4)

/-- The offset of peripheral i. -/
def periphOff (i : Nat) : Nat := 0x31000 + 0x100 * i

/-- A written configuration of peripheral i carries a reserved code. -/
def periphReserved (i w : Nat) : Bool :=
  if i < 2 then bits w 2 2 = 3 || bits w 12 20 < 16
  else if i < 4 then bits w 8 16 = 0
  else bits w 1 2 = 3

/-- The effect of a word written to the configuration of peripheral i (R604). -/
def wrPeriphCfg (m : Master) (i w : Nat) (s : State) : State :=
  let c := periphCfg i
  let off := periphOff i
  if s.flag c.2.1 c.2.2 then
    let t := s.writeReg m c.1 c.2.2 w
    if t.readReg c.1 c.2.2 / 2 ≠ s.readReg c.1 c.2.2 / 2 then s.raise Rc.LG_PERIPH_ON i
    else if bit w 0 then s
    else (s.dropAll lvLODGE (s.periphPins i)).periphStop i
  else
    let s := (s.writeReg m c.1 c.2.2 w).put c.2.1 0 c.2.2
    if !bit w 0 then s
    else
      match s.periphClaim lvLODGE i (periphReserved i w) (s.periphPins i) with
      | .inl (rc, obj) => s.refuseBy 0x0D rc obj (writeDetail m off)
      | .inr t =>
        let t := t.put c.2.1 1 c.2.2
        if i < 2 then
          match t.periphPop LG_TX i with
          | some (b, u) => u.put U_SHIFT (256 + b) i
          | none => t
        else t

/-- What hard GPIOs drive (R610). -/
def State.gpioOut (s : State) : State := s.emit .serial [6, s.get LG_GPOUT.OUT, s.get LG_GPOE.OE]

/-- The effect of a word written to LG_GPOE (R604, R610): each bit is enabled or disabled on its own. -/
def wrGpoe (m : Master) (w : Nat) (s : State) : State :=
  ((List.range 32).foldl (fun u g =>
    let was := bit (u.get LG_GPOE.OE) g
    if was && !bit w g then (u.dropAll lvGPIO [u.gpioPin g]).andBit LG_GPOE.OE g
    else if !was && bit w g then
      match u.periphClaim lvGPIO (0x100 + g) false [u.gpioPin g] with
      | .inl (rc, obj) => u.refuseBy 0x0D rc obj (writeDetail m 0x3180C)
      | .inr t => (t.orBit LG_GPOE.OE g).andBit LG_GPLOST.LOST g
    else u) s).gpioOut

/-- PERIPHERAL_ENABLE (R604): a write to a UART, SPI or I²C configuration, or to LG_GPOE. -/
def execPeripheralEnable (m : Master) (p : Periph) (w : Word) (s : State) : Out :=
  live s fun s =>
    match p with
    | .host i => s.onWrite m (periphOff i) w.toNat (wrPeriphCfg m i w.toNat)
    | .gpio => s.onWrite m 0x3180C w.toNat (wrGpoe m w.toNat)

/-! UART (R607). -/

/-- The effect of a byte written to LG_UDATA[k]. -/
def wrUdata (_m : Master) (k w : Nat) (s : State) : State :=
  let b := w % 256
  if s.flag LG_UCFG.EN k && s.get U_SHIFT k = 0 then s.put U_SHIFT (256 + b) k
  else if 64 ≤ (s.list LG_TX k).length then s.count LG_USTAT.DROP 1 k
  else s.periphPush LG_TX k b

/-- A read of LG_UDATA[k]. -/
def rdUdata (m : Master) (k : Nat) (s : State) : Nat × State := s.periphRead m k 256

/-- A frame reaches the receiver of UART k. -/
def State.uartIn (s : State) (k b : Nat) (perr ferr brk : Bool) : State :=
  let s := if perr || ferr || brk then s.put LG_USTAT.ERR 1 k else s
  let b := if s.flag LG_UCFG.BITS7 k then b % 128 else b
  if 64 ≤ (s.list LG_RX k).length then
    let t := s.put LG_USTAT.OVR 1 k
    if s.flag LG_USTAT.OVR k then t else t.raise Rc.LG_UART_OVR k
  else s.periphPush LG_RX k (b + 2 ^ 9 * b2n perr + 2 ^ 10 * b2n ferr + 2 ^ 11 * b2n brk)

/-- UART_TX_PUSH (R607). -/
def execUartTxPush (m : Master) (k : Fin 2) (w : Word) (s : State) : Out :=
  live s fun s => s.onWrite m (0x31004 + 0x100 * k) w.toNat (wrUdata m k w.toNat)

/-- UART_RX_POP (R607). -/
def execUartRxPop (m : Master) (k : Fin 2) (s : State) : Out :=
  live s fun s =>
    let r := s.onRead m (0x31004 + 0x100 * k) (rdUdata m k)
    r.2.emit .busData [m.code, r.1]

/-- UART_FRAME_RECEIVED (R607): a frame on RXD; with LOOP the receiver is joined to TXD instead. -/
def execUartFrameReceived (k : Fin 2) (b : BitVec 8) (perr ferr brk : Bool) (s : State) : Out :=
  live s fun s =>
    if s.flag LG_UCFG.EN k && !s.flag LG_UCFG.LOOP k && s.mode ≠ mDORMANT then s.uartIn k b.toNat perr ferr brk else s

/-- UART_FRAME_SENT (R607): the frame in the shift register ends, and the next byte starts. -/
def execUartFrameSent (k : Fin 2) (s : State) : Out :=
  live s fun s =>
    let v := s.get U_SHIFT k
    if !s.flag LG_UCFG.EN k || v < 256 || s.mode = mDORMANT then s
    else
      let b := if s.flag LG_UCFG.BITS7 k then v % 128 else v % 256
      let s := if s.flag LG_UCFG.LOOP k then s.uartIn k b false false false else s.emit .serial [k, b]
      match s.periphPop LG_TX k with
      | some (n, t) => t.put U_SHIFT (256 + n) k
      | none => s.put U_SHIFT 0 k

/-! SPI (R608). -/

/-- The effect of a word written to LG_SCMD[k]. -/
def wrScmd (_m : Master) (k w : Nat) (s : State) : State :=
  let cs := bits w 0 2
  if !s.flag LG_SCFG.EN k then s
  else if !bit (s.get LG_SCFG.CSEN k) cs || s.flag LG_SSTAT.BUSY k then s.put LG_SSTAT.CMDERR 1 k
  else
    let s := ((s.put S_CS cs k).put S_KEEP (bits w 2 1) k).put S_LEFT (bits w 3 11 + 1) k
    (s.put LG_SSTAT.BUSY 1 k).emit .serial [2 + k, 0, cs]

/-- The effect of a byte written to LG_SDATA[k]; a full FIFO takes nothing. -/
def wrSdata (_m : Master) (k w : Nat) (s : State) : State :=
  if 32 ≤ (s.list LG_TX (2 + k)).length then s else s.periphPush LG_TX (2 + k) (w % 256)

/-- A read of LG_SDATA[k]. -/
def rdSdata (m : Master) (k : Nat) (s : State) : Nat × State := s.periphRead m (2 + k) 256

/-- SPI_COMMAND (R608). -/
def execSpiCommand (m : Master) (k : Fin 2) (w : Word) (s : State) : Out :=
  live s fun s => s.onWrite m (0x31204 + 0x100 * k) w.toNat (wrScmd m k w.toNat)

/-- SPI_BYTE_DONE (R608): the time of a byte, with the byte on MISO; SCK holds while a FIFO does not allow it. -/
def execSpiByteDone (k : Fin 2) (miso : BitVec 8) (s : State) : Out :=
  live s fun s =>
    if !s.flag LG_SSTAT.BUSY k || s.mode = mDORMANT || 32 ≤ (s.list LG_RX (2 + k)).length then s
    else
      match s.periphPop LG_TX (2 + k) with
      | none => s
      | some (b, t) =>
        let t := (t.emit .serial [2 + k, 1, b]).periphPush LG_RX (2 + k) miso.toNat
        let left := t.get S_LEFT k - 1
        let t := t.put S_LEFT left k
        if left ≠ 0 then t
        else
          let t := (t.put LG_SSTAT.BUSY 0 k).put LG_SSTAT.DONE 1 k
          if t.flag S_KEEP k then t else t.emit .serial [2 + k, 2, t.get S_CS k]

/-- SPI_DATA_ACCESS (R608): a write of LG_SDATA, or a read (`w` none). -/
def execSpiDataAccess (m : Master) (k : Fin 2) (w : Option Word) (s : State) : Out :=
  live s fun s =>
    match w with
    | some v => s.onWrite m (0x31208 + 0x100 * k) v.toNat (wrSdata m k v.toNat)
    | none =>
      let r := s.onRead m (0x31208 + 0x100 * k) (rdSdata m k)
      r.2.emit .busData [m.code, r.1]

/-! I²C (R609). -/

/-- One byte into the SMBus packet error code, polynomial x^8 + x^2 + x + 1. -/
def pecByte (c b : Nat) : Nat :=
  (List.range 8).foldl (fun x _ => if 128 ≤ x then (x * 2) % 256 ^^^ 7 else x * 2) ((c ^^^ b) % 256)

/-- Fields of the command in progress of I²C host k. -/
def State.icAddr (s : State) (k : Nat) : Nat := bits (s.get I_CMD k) 0 7
def State.icRead (s : State) (k : Nat) : Bool := bit (s.get I_CMD k) 7
def State.icStop (s : State) (k : Nat) : Bool := bit (s.get I_CMD k) 9

/-- Write bytes go out as the FIFO has them. -/
def icDrain : Nat → Nat → State → State
  | 0, _, s => s
  | f + 1, k, s =>
    if !s.flag LG_ISTAT.BUSY k || s.icRead k || s.get I_LEFT k = 0 then s
    else
      match s.periphPop LG_TX (4 + k) with
      | none => s
      | some (b, t) =>
        icDrain f k (((t.emit .serial [4 + k, 1, b]).put I_PEC (pecByte (t.get I_PEC k) b) k).put I_LEFT
          (t.get I_LEFT k - 1) k)

/-- The effect of a word written to LG_ICMD[k]; a command while one runs is ignored. -/
def wrIcmd (_m : Master) (k w : Nat) (s : State) : State :=
  if !s.flag LG_ICFG.EN k || s.flag LG_ISTAT.BUSY k then s
  else
    let w := if s.flag I_HOLD k then w % 2 ^ 18 else setBit (w % 2 ^ 18) 8
    let a := 2 * bits w 0 7 + bits w 7 1
    let n := bits w 10 8
    let s := ((s.put I_CMD w k).put LG_ISTAT.BUSY 1 k).put I_LEFT n k
    let s := if bit w 8 then
        (s.put I_PEC (pecByte (if s.flag I_HOLD k then s.get I_PEC k else 0) a) k).emit .serial [4 + k, 0, a]
      else s
    icDrain 32 k (s.put I_HOLD 1 k)

/-- The effect of a byte written to LG_IDATA[k]; a full FIFO takes nothing. -/
def wrIdata (_m : Master) (k w : Nat) (s : State) : State :=
  if 32 ≤ (s.list LG_TX (4 + k)).length then s else icDrain 1 k (s.periphPush LG_TX (4 + k) (w % 256))

/-- A read of LG_IDATA[k]. -/
def rdIdata (m : Master) (k : Nat) (s : State) : Nat × State := s.periphRead m (4 + k) 256

/-- I2C_COMMAND (R609). -/
def execI2cCommand (m : Master) (k : Fin 2) (w : Word) (s : State) : Out :=
  live s fun s => s.onWrite m (0x31404 + 0x100 * k) w.toNat (wrIcmd m k w.toNat)

/-- The command of host k ends. -/
def State.icEnd (s : State) (k : Nat) (stop : Bool) : State :=
  let s := ((s.put LG_ISTAT.BUSY 0 k).put LG_ISTAT.DONE 1 k).put I_LEFT 0 k
  if stop then (s.put I_HOLD 0 k).emit .serial [4 + k, 2] else s

/-- I2C_COMMAND_DONE (R609): the bus has carried the command, or what of it the FIFOs allow, to its end. -/
def execI2cCommandDone (k : Fin 2) (e : I2cEnd) (s : State) : Out :=
  live s fun s =>
    if !s.flag LG_ISTAT.BUSY k || s.mode = mDORMANT then s
    else
      match e with
      | .arbLost => ((s.icEnd k false).put LG_ISTAT.ARBLOST 1 k).put I_HOLD 0 k
      | .nack _ => (s.icEnd k true).put LG_ISTAT.NACK 1 k
      | .served data pec =>
        if s.icRead k then
          let room := 32 - (s.list LG_RX (4 + k)).length
          let got := (data.map BitVec.toNat).take (min room (s.get I_LEFT k))
          let s := got.foldl (fun u b => (u.periphPush LG_RX (4 + k) b).put I_PEC (pecByte (u.get I_PEC k) b) k) s
          let s := s.put I_LEFT (s.get I_LEFT k - got.length) k
          if s.get I_LEFT k ≠ 0 then s
          else
            let s := if s.flag LG_ICFG.PEC_EN k && pec.toNat ≠ s.get I_PEC k then s.put LG_ISTAT.PECERR 1 k else s
            s.icEnd k (s.icStop k)
        else if s.get I_LEFT k ≠ 0 then s
        else
          let s := if s.flag LG_ICFG.PEC_EN k && s.icStop k then s.emit .serial [4 + k, 1, s.get I_PEC k] else s
          s.icEnd k (s.icStop k)

/-- I2C_TIMEOUT (R609): SCL has been held low for more than 25 ms. -/
def execI2cTimeout (k : Fin 2) (s : State) : Out :=
  live s fun s =>
    if s.flag LG_ICFG.EN k && s.flag LG_ICFG.TOUT_EN k && s.mode ≠ mDORMANT then
      let t := (s.put LG_ISTAT.TIMEOUT 1 k).put I_HOLD 0 k
      if s.flag LG_ISTAT.BUSY k then (t.icEnd k false).put I_HOLD 0 k else t
    else s

/-- I2C_ALERT (R609): ALERT_N falls, or rises again. -/
def execI2cAlert (k : Fin 2) (low : Bool) (s : State) : Out :=
  live s fun s =>
    let t := s.put LG_ISTAT.ALERT_LVL (b2n low) k
    if low && !s.flag LG_ISTAT.ALERT_LVL k then t.put LG_ISTAT.ALERT 1 k else t

/-- I2C_DATA_ACCESS (R609): a write of LG_IDATA, or a read (`w` none). -/
def execI2cDataAccess (m : Master) (k : Fin 2) (w : Option Word) (s : State) : Out :=
  live s fun s =>
    match w with
    | some v => s.onWrite m (0x31408 + 0x100 * k) v.toNat (wrIdata m k v.toNat)
    | none =>
      let r := s.onRead m (0x31408 + 0x100 * k) (rdIdata m k)
      r.2.emit .busData [m.code, r.1]

/-! Hard GPIO (R610). -/

/-- GPIO_EDGE (R610): an edge at the pin of hard GPIO g. -/
def execGpioEdge (g : Fin 32) (rising : Bool) (s : State) : Out :=
  live s fun s =>
    let on := bit (if rising then s.get LG_GPRISE.RISE else s.get LG_GPFALL.FALL) g
    if on && s.mode ≠ mDORMANT && s.inputOn (s.gpioPin g) then s.orBit LG_GPIF.IF g else s

/-- The effect of a word written to LG_GPOUT, LG_GPSET or LG_GPCLR. -/
def wrGpout (w : Nat) (s : State) : State := (s.put LG_GPOUT.OUT w).gpioOut
def wrGpset (w : Nat) (s : State) : State := wrGpout (s.get LG_GPOUT.OUT ||| w % 2 ^ 32) s
def wrGpclr (w : Nat) (s : State) : State :=
  wrGpout (s.get LG_GPOUT.OUT &&& (2 ^ 32 - 1 - w % 2 ^ 32)) s

/-- GPIO_SET_CLEAR (R610). -/
def execGpioSetClear (m : Master) (clear : Bool) (w : Word) (s : State) : Out :=
  live s fun s =>
    if clear then s.onWrite m 0x31808 w.toNat (wrGpclr w.toNat) else s.onWrite m 0x31804 w.toNat (wrGpset w.toNat)

/-- A read of LG_GPIN: the levels at the pins are the card's (R420); pins whose input buffer is off read 0.
(DEDUCED, log entry 34.) -/
def rdGpin (s : State) : Nat × State :=
  let v := s.fresh 32
  (((List.range 32).map fun g => if bit v g && s.inputOn (s.gpioPin g) then 2 ^ g else 0).sum, s.drawn)

/-! Watchdog (R611). -/

/-- The effect of a word written to LG_WDCFG: nothing once EN is 1. -/
def wrWdcfg (m : Master) (w : Nat) (s : State) : State :=
  if s.flag LG_WDCFG.EN then s
  else
    let t := s.writeReg m LG_WDCFG.reg 0 w
    if bit w 0 then t.put LG_WDSTAT.REMAIN (t.get LG_WDCFG.TIMEOUT) else t

/-- The effect of a word written to LG_WDKICK. -/
def wrWdkick (m : Master) (w : Nat) (s : State) : State :=
  if w % 2 ^ 32 = 0x5A5A && m = .lodgeM then
    if s.flag LG_WDCFG.EN then (s.put LG_WDSTAT.REMAIN (s.get LG_WDCFG.TIMEOUT)).put LG_WDSTAT.WARNED 0 else s
  else
    let t := s.count LG_WDSTAT.BADKICK 1
    if s.get LG_WDSTAT.BADKICK = 0 then t.raise Rc.LG_WD_BADKICK m.code else t

/-- WATCHDOG_ENABLE (R611). -/
def execWatchdogEnable (m : Master) (w : Word) (s : State) : Out :=
  live s fun s => s.onWrite m 0x31900 w.toNat (wrWdcfg m w.toNat)

/-- WATCHDOG_KICK (R611). -/
def execWatchdogKick (m : Master) (w : Word) (s : State) : Out :=
  live s fun s => s.onWrite m 0x31904 w.toNat (wrWdkick m w.toNat)

/-! Mailbox (R612). -/

/-- A write dropped while a side is full. -/
def State.mboxBusy (s : State) (side : Nat) : State := (s.count LG_MBSTAT.DROPS 1).raise Rc.LG_MBOX_BUSY side

/-- Whether a master is the Lodge. -/
def isLodge (m : Master) : Bool := m = .lodgeM || m = .lodgeU

/-- The effect of a word written to LG_MBH2L[i] or LG_MBL2H[i]. -/
def wrMbH2l (m : Master) (i w : Nat) (s : State) : State :=
  if isLodge m then s else if s.flag LG_MBSTAT.H2L_FULL then s.mboxBusy 0 else s.put LG_MBH2L.DATA w i
def wrMbL2h (m : Master) (i w : Nat) (s : State) : State :=
  if m ≠ .lodgeM then s else if s.flag LG_MBSTAT.L2H_FULL then s.mboxBusy 1 else s.put LG_MBL2H.DATA w i

/-- The effect of a word written to LG_MBDB. -/
def wrMbdb (m : Master) (w : Nat) (s : State) : State :=
  let s :=
    if bit w 0 && !isLodge m then
      if s.flag LG_MBSTAT.H2L_FULL then s.mboxBusy 0 else (s.put LG_MBSTAT.H2L_FULL 1).put LG_IRQ.MBOX_H2L 1
    else s
  if bit w 1 && m = .lodgeM then
    if s.flag LG_MBSTAT.L2H_FULL then s.mboxBusy 1 else (s.put LG_MBSTAT.L2H_FULL 1).put LG_IRQ.MBOX_L2H 1
  else s

/-- The effect of a word written to LG_MBSTAT. -/
def wrMbstat (m : Master) (w : Nat) (s : State) : State :=
  let s := if bit w 0 && m = .lodgeM then (s.put LG_MBSTAT.H2L_FULL 0).put LG_IRQ.MBOX_H2L 0 else s
  let s := if bit w 1 && m ≠ .lodgeM then (s.put LG_MBSTAT.L2H_FULL 0).put LG_IRQ.MBOX_L2H 0 else s
  if bits w 8 8 ≠ 0 then s.put LG_MBSTAT.DROPS 0 else s

/-- H2L_RING (R612). -/
def execH2lRing (m : Master) (s : State) : Out := live s fun s => s.onWrite m 0x31A40 1 (wrMbdb m 1)

/-- L2H_RING (R612). -/
def execL2hRing (m : Master) (s : State) : Out := live s fun s => s.onWrite m 0x31A40 2 (wrMbdb m 2)

/-- MAILBOX_CLEAR (R612): a write to LG_MBSTAT. -/
def execMailboxClear (m : Master) (w : Word) (s : State) : Out :=
  live s fun s => s.onWrite m 0x31A44 w.toNat (wrMbstat m w.toNat)

/-! The interrupt controller (R601, R602). -/

/-- Input s of the controller. -/
def State.icInput (s : State) (n : Nat) : Bool := s.flag PW_IRQMAP.LODGE_EN n && s.level n

/-- LG_ICPEND[k]. -/
def State.icPendWord (s : State) (k : Nat) : Nat :=
  ((List.range 32).map fun i => if s.icInput (32 * k + i) then 2 ^ i else 0).sum

/-- Source n is eligible. -/
def State.icEligible (s : State) (n : Nat) : Bool :=
  s.icInput n && bit (s.get LG_ICEN.EN (n / 32)) (n % 32) && !s.flag IC_SERV n && s.get LG_ICTHR.THR < s.get LG_ICPRIO.PRIO n

/-- The eligible source of highest priority, the lowest number first among equals. -/
def State.icBest (s : State) : Option Nat :=
  (List.range 256).foldl (fun b n =>
    if s.icEligible n then
      match b with
      | none => some n
      | some k => if s.get LG_ICPRIO.PRIO k < s.get LG_ICPRIO.PRIO n then some n else b
    else b) none

/-- A read of LG_ICCLAIM (R602). -/
def rdIcclaim (m : Master) (s : State) : Nat × State :=
  match s.icBest with
  | none => (0, s)
  | some n => (n + 256, if m = .lodgeM && !s.peeks m then s.put IC_SERV 1 n else s)

/-- The effect of a word written to LG_ICCLAIM (R602). -/
def wrIcclaim (_m : Master) (w : Nat) (s : State) : State := s.put IC_SERV 0 (bits w 0 8)

/-- ICCLAIM_READ (R602). -/
def execIcclaimRead (m : Master) (s : State) : Out :=
  live s fun s =>
    let r := s.onRead m 0x32504 (rdIcclaim m)
    r.2.emit .busData [m.code, r.1]

/-- ICCLAIM_WRITE (R602). -/
def execIcclaimWrite (m : Master) (w : Word) (s : State) : Out :=
  live s fun s => s.onWrite m 0x32504 w.toNat (wrIcclaim m w.toNat)

end Sys2Proof.Machine
end

