-- ==== Sys2Proof/Machine/Log.lean ====
section
/-! DEFINITION. spec/22: the event log, its ring, cursors and registers. -/

namespace Sys2Proof.Machine

/-- EV_HEAD − EV_TAIL: records held (R796). -/
def State.logHeld (s : State) : Nat := s.ring.length

/-- The oldest SEQ held (R796). -/
def State.logTail (s : State) : Nat := (s.get EV_HEAD.SEQ + 2 ^ 32 - s.logHeld) % 2 ^ 32

/-- The eight words of a record with its SEQ (Table EV-4). -/
def LogRec.words (r : LogRec) (seq : Nat) : List Nat :=
  [r.time % 2 ^ 32, r.time / 2 ^ 32 % 2 ^ 32, r.time / 2 ^ 64 % 2 ^ 16 + 2 ^ 16 * r.code,
    r.sev + 16 * b2n r.notime + 32 * b2n r.coarse + 64 * b2n r.noepoch + 128 + 2 ^ 16 * r.obj,
    r.detail % 2 ^ 32, r.detail / 2 ^ 32 % 2 ^ 32, seq, 0]

/-- Table EV-5: the cursor of a reading identity. -/
def cursorOf (m : Master) : Nat :=
  match m with
  | .host | .gatehouse | .debug => 0
  | .lodgeM | .lodgeU | .fabric => 1
  | .hokuoxRemote => 3

/-- Unread records of cursor c (R802). -/
def State.unread (s : State) (c : Nat) : Nat := (s.get EV_HEAD.SEQ + 2 ^ 32 - s.get EV_CUR.SEQ c) % 2 ^ 32

/-- R799: what a record with an uncorrectable error reads as. -/
def corruptWords (seq : Nat) : List Nat := [0, 0, 2 ^ 16 * Rc.GH_LOG_CORRUPT.num, Rc.GH_LOG_CORRUPT.sev + 128, 0, 0, seq, 0]

/-- The words of the record at cursor c, which a soft error may have spoilt (R799); zeros while the cursor equals EV_HEAD
(R801). -/
def State.recordAt (s : State) (c : Nat) (corrupt : Bool) : List Nat :=
  let n := s.unread c
  if n = 0 then List.replicate 8 0
  else
    match s.ring[n - 1]? with
    | some r => if corrupt then corruptWords (s.get EV_CUR.SEQ c) else r.words (s.get EV_CUR.SEQ c)
    | none => List.replicate 8 0

/-- Advance cursor c over a record (R801). -/
def State.cursorOn (s : State) (c : Nat) : State := if s.unread c = 0 then s else s.put EV_CUR.SEQ (s.get EV_CUR.SEQ c + 1) c

/-- R807: the cursors that point at the record that is overwritten move on. -/
def State.overrun (s : State) (old : Nat) : State :=
  (List.range 4).foldl (fun u c =>
    if u.get EV_CUR.SEQ c = old then
      let v := (u.put EV_CUR.SEQ (old + 1) c).count EV_LOST.COUNT 1 c
      if bit (u.get EV_IRQ.OVR) c then v else (v.orBit EV_IRQ.OVR c).raise Rc.GH_LOG_OVERRUN c
    else u) s

/-- The threshold of cursor c. -/
def State.logThr (s : State) (c : Nat) : Nat :=
  match c with
  | 0 => s.get EV_THR.THR0 | 1 => s.get EV_THR.THR1 | 2 => s.get EV_THR.THR2 | _ => s.get EV_THR.THR3

/-- Write a record into the ring (R796, R807, R808). -/
def State.logWrite (s : State) (r : LogRec) : State :=
  let s := if s.logHeld = 4096 then s.overrun ((s.get EV_HEAD.SEQ + 2 ^ 32 - 4096) % 2 ^ 32) else s
  let s : State := { s with ring := r :: s.ring.take 4095 }
  let s := s.put EV_HEAD.SEQ (s.get EV_HEAD.SEQ + 1)
  let s := s.put EV_TAIL.SEQ s.logTail
  let s := if 3 ≤ r.sev then s.put BV_ALERT.FAULT_LOG 1 else s
  (List.range 4).foldl (fun u c => if u.logThr c ≤ r.sev then u.orBit EV_IRQ.NEW c else u) s

/-- R797: with room again, the number of records dropped is logged. (DEDUCED, log entry 49.) -/
def State.logRoom (s : State) : State :=
  let n := s.get DROP_EPISODE
  if n ≠ 0 && s.intake.length < 64 then (s.put DROP_EPISODE 0).raise Rc.GH_LOG_DROPPED 0 n else s

/-- LOG_WRITE_TICK (R797): one record from the intake queue into the ring; the log stands still in a reset and in
DORMANT (R798). -/
def execLogWriteTick (s : State) : Out :=
  live s fun s =>
    if s.mode = mDORMANT then s
    else
      match s.intake with
      | [] => s.logRoom
      | r :: rest => (({ s with intake := rest } : State).logWrite r).logRoom

/-- R798: the log runs again after DORMANT; the held records enter the queue, those beyond its room are lost. -/
def State.logWake (s : State) : State :=
  let all := s.intake ++ s.held
  let s : State := { s with intake := all.take 64, held := [] }
  ((s.count EV_DROP.COUNT (all.length - 64)).count DROP_EPISODE (all.length - 64)).logRoom

/-- A read of EV_REC0 (R801): word 0 of the record at the reader's cursor, words 1 to 7 latched. -/
def rdEvRec0 (m : Master) (corrupt : Bool) (s : State) : Nat × State :=
  let c := cursorOf m
  let ws := s.recordAt c corrupt
  let t := (List.range 7).foldl (fun u k => u.latchHigh m (0x38054 + 4 * k) (ws.getD (k + 1) 0)) s
  (ws.getD 0 0, if s.peeks m then t else t.cursorOn c)

/-- A read of EV_REC1 to EV_REC7: the latched word, 0 before the first latch. -/
def rdEvRec (m : Master) (k : Nat) (s : State) : Nat × State := (s.latched m (0x38050 + 4 * k) 0, s)

/-- EV_REC0_READ (R799, R801). -/
def execEvRec0Read (m : Master) (corrupt : Bool) (s : State) : Out :=
  live s fun s =>
    let r := s.onRead m 0x38050 (rdEvRec0 m corrupt)
    r.2.emit .busData [m.code, r.1]

/-- The effect of a word written to EV_CUR[c] (R803). (DEDUCED, log entry 56.) -/
def wrEvCur (m : Master) (c w : Nat) (s : State) : State :=
  if cursorOf m ≠ c && !s.asOwner m 8 then s.writeDenied m (0x38020 + 4 * c) 1
  else
    let back := (s.get EV_HEAD.SEQ + 2 ^ 32 - w % 2 ^ 32) % 2 ^ 32
    s.put EV_CUR.SEQ (if s.logHeld < back then s.logTail else w) c

/-- EV_CUR_WRITE (R803). -/
def execEvCurWrite (m : Master) (c : Fin 4) (w : Word) (s : State) : Out :=
  live s fun s => s.onWrite m (0x38020 + 4 * c) w.toNat (wrEvCur m c w.toNat)

end Sys2Proof.Machine
end

