-- ==== Sys2Proof/Machine/Lodge.lean ====
section
/-! DEFINITION. spec/16: the Lodge core from outside: starting, stopping, halting, its memories as the registers reach
them, its machine timer, and the debug registers that a debug grant governs. -/

namespace Sys2Proof.Machine

/-- LG_STAT.STATE codes. -/
def lgRESET : Nat := 0
def lgRUN : Nat := 1
def lgWFI : Nat := 2
def lgHALTED : Nat := 3
def lgSTOPPED : Nat := 4

/-- Forget all elements of some internal fields. -/
def State.forget (s : State) (fs : List Field) : State :=
  { s with cells := s.cells.filter fun c =>
      !(fs.any fun f => 32 * f.off ≤ c.1 && c.1 < 32 * (f.off + 0x100000)) }

/-- The cells of the hart that a core reset returns to their reset values (R597, R614). -/
def hartFields : List Field :=
  [RV_X, RV_PC, RV_PRIV, RV_CSR, RV_MSTATUS, RV_MCYCLE, RV_MINSTRET, RV_DCSR, RV_TD1, RV_TD2, RV_RESA, RV_WINS, RV_WSEQ,
    RV_HALTREQ, RV_RESUMEREQ, IC_SERV, DM_POST]

/-- Hart out of HALTED. -/
def State.unhalt (s : State) : State := s.put PW_MODE.HALTED 0

/-- R597: the hart, its CSRs, the PMP and the in-service bits reset; the core is then in `st`. An array window exchange
that is open stays open (R595). -/
def State.coreReset (s : State) (st : Nat) : State :=
  let w := s.get RV_WAIT
  let rst := s.flag DM_RSTHALT
  let open_ := w = 1 || w = 2 || (w = 3 && s.get AW_SB ≠ 1)
  let s := ((s.forget hartFields).put RV_WAIT (if open_ then 2 else 0)).put DM_HAVERESET 1
  let s := ((s.put LG_STAT.STATE st).put LG_STAT.RESV 0).unhalt
  if st ≠ lgRUN then s
  else if rst then s.put RV_HALTREQ 5
  else if s.flag DM_HALTREQ then s.put RV_HALTREQ 3
  else s

/-- The debug module holds the hart in reset (R614). -/
def State.dmHolds (s : State) : Bool := s.flag DM_NDMRESET || s.flag DM_HARTRST

/-- R597: entry to HOLD. -/
def State.coreHold (s : State) : State :=
  if s.flag LG_CTL.RUN && s.get LG_STAT.STATE = lgRESET && !s.dmHolds then s.coreReset lgRUN else s

/-- R616: the level that the debug claim drives on U0_47. -/
def State.xtDrive (s : State) : State :=
  if s.flag XT_OUT && s.get IO_PCLM.HOLDER 47 = lvDEBUG then s.emit .jtag [1, s.get PW_MODE.HALTED] else s

/-- R619: a halt between the two key writes of a Lodge sequence aborts it. -/
def State.seqAbort (s : State) : State :=
  [1, 2].foldl (fun u c =>
    if u.get UNL_LEFT c = 0 then u
    else ((u.put UNL_LEFT 0 c).put UNL_ABORT 1 c).put GH_STATUS.UNLOCK_ABORT 1) s

/-- Whether the hart runs. -/
def State.coreRuns (s : State) : Bool := s.get LG_STAT.STATE = lgRUN || s.get LG_STAT.STATE = lgWFI

/-- An access of the hart is open, so that a halt or a stop waits for it (R597, R600, R618). -/
def State.coreBusy (s : State) : Bool := s.get RV_WAIT = 1 || s.get RV_WAIT = 3 || s.get RV_WAIT = 4

/-- R617 to R619: the hart enters halt with dcsr.cause `cause`. -/
def State.coreHalt (s : State) (cause : Nat) : State :=
  let d := s.get RV_DCSR
  let s := (s.put RV_CSR (s.get RV_PC) 0x7B1).put RV_DCSR (d - bits d 0 2 - 64 * bits d 6 3 + s.get RV_PRIV + 64 * cause)
  let s := (((s.put RV_HALTREQ 0).put LG_STAT.STATE lgHALTED).put PW_MODE.HALTED 1).put LG_IRQ.HALT 1
  let s := if cause = 4 then s else s.raise Rc.LG_HALT 0 cause
  ((s.put LG_STAT.RESV 0).seqAbort).xtDrive

/-- R617: the hart leaves halt. -/
def State.coreResume (s : State) : State :=
  let s := (s.put RV_PC (s.get RV_CSR 0x7B1)).put RV_PRIV (bits (s.get RV_DCSR) 0 2)
  let s := ((s.put RV_RESUMEREQ 0).put LG_STAT.STATE lgRUN).unhalt
  ((s.put DM_RESUMEACK 1).raise Rc.LG_RESUME 0).xtDrive

/-- A halt that was asked for is taken, once no access is open (R617, R618). -/
def State.haltDue (s : State) : State :=
  if s.get RV_HALTREQ ≠ 0 && s.coreRuns && !s.coreBusy then s.coreHalt (s.get RV_HALTREQ) else s

/-- R600: Dormant entry. (DEDUCED, log entry 62.) -/
def State.coreStop (s : State) : State :=
  if s.coreRuns then (s.put LG_STAT.STATE lgSTOPPED).put LG_STAT.RESV 0 else s

/-- R600: wake. -/
def State.coreGo (s : State) : State := if s.get LG_STAT.STATE = lgSTOPPED then s.put LG_STAT.STATE lgRUN else s

/-- Every peripheral disabled (R600). -/
def State.periphsOff (s : State) : State :=
  let s := (List.range 6).foldl (fun u i => u.periphStop i) s
  s.put LG_GPOE.OE 0

/-- R597: with RUN 0 the core is placed in reset once its bus access has ended. -/
def State.coreOff (s : State) : State :=
  if s.get LG_CTL.RUN = 0 && s.get LG_STAT.STATE ≠ lgRESET && !s.coreBusy then s.coreReset lgRESET else s

/-- The effect of a word written to LG_CTL (R597). (DEDUCED, log entry 62.) -/
def wrLgCtl (m : Master) (w : Nat) (s : State) : State :=
  let s := s.writeReg m LG_CTL.reg 0 w
  if !bit w 0 then s.coreOff
  else if s.get LG_STAT.STATE = lgRESET && (s.mode = mHOLD || s.mode = mRUN) && !s.dmHolds then s.coreReset lgRUN
  else s

/-- CORE_RUN (R597): a write to LG_CTL. -/
def execCoreRun (m : Master) (w : Word) (s : State) : Out :=
  live s fun s => s.onWrite m 0x30000 w.toNat (wrLgCtl m w.toNat)

/-- HALT (R617): an instruction boundary with a halt request pending. -/
def execHalt (s : State) : Out := live s fun s => if s.mode = mHOLD || s.mode = mRUN then s.haltDue else s

/-- RESUME (R617): a resume request is carried out. -/
def execResume (s : State) : Out :=
  live s fun s => if s.flag RV_RESUMEREQ && s.get LG_STAT.STATE = lgHALTED then s.coreResume else s

/-- XT_IN_EDGE (R616): a rising edge at U0_46. -/
def execXtInEdge (s : State) : Out :=
  live s fun s =>
    if s.flag XT_IN && s.coreRuns && s.inputOn 46 && (s.mode = mHOLD || s.mode = mRUN) then s.put RV_HALTREQ 3 else s

/-! Memories from outside (R598). -/

/-- Word of Lodge memory SEL. -/
def State.lgLoad (s : State) (sel w : Nat) : Nat := s.load (if sel = 0 then .lodgeI else .lodgeD) w % 2 ^ 32
def State.lgStore (s : State) (sel w v : Nat) : State := s.store (if sel = 0 then .lodgeI else .lodgeD) w (v % 2 ^ 32)

/-- Whether LG_MEMDATA reaches the memories. -/
def State.lgMemOpen (s : State) : Bool := s.get LG_STAT.STATE = lgRESET || s.get LG_STAT.STATE = lgHALTED

/-- What a refused access leaves. -/
def State.lgMemRefuse (s : State) : State := (s.put LG_STAT.MEMREF 1).raise Rc.LG_CORE_RUNNING 0

/-- INC. -/
def State.lgMemNext (s : State) : State :=
  if s.flag LG_MEMADDR.INC then s.put LG_MEMADDR.WADDR (s.get LG_MEMADDR.WADDR + 1) else s

/-- The effect of a word written to LG_MEMDATA (R598). -/
def wrLgMemdata (w : Nat) (s : State) : State :=
  if s.lgMemOpen then (s.lgStore (s.get LG_MEMADDR.SEL) (s.get LG_MEMADDR.WADDR) w).lgMemNext else s.lgMemRefuse

/-- A read of LG_MEMDATA (R598). -/
def rdLgMemdata (m : Master) (s : State) : Nat × State :=
  if s.lgMemOpen then
    (s.lgLoad (s.get LG_MEMADDR.SEL) (s.get LG_MEMADDR.WADDR), if s.peeks m then s else s.lgMemNext)
  else (0, s.lgMemRefuse)

/-- LG_MEMDATA_ACCESS (R598): a write, or a read (`w` none). -/
def execLgMemdataAccess (m : Master) (w : Option Word) (s : State) : Out :=
  live s fun s =>
    match w with
    | some v => s.onWrite m 0x3001C v.toNat (wrLgMemdata v.toNat)
    | none =>
      let r := s.onRead m 0x3001C (rdLgMemdata m)
      r.2.emit .busData [m.code, r.1]

/-! The machine timer (R589). -/

/-- mtime and mtimecmp. -/
def State.mtime (s : State) : Nat := s.get LG_MTIME_LO.MTIME + 2 ^ 32 * s.get LG_MTIME_HI.MTIME
def State.mtimecmp (s : State) : Nat := s.get LG_MTIMECMP_LO.CMP + 2 ^ 32 * s.get LG_MTIMECMP_HI.CMP
def State.setMtime (s : State) (v : Nat) : State := (s.put LG_MTIME_LO.MTIME (v % 2 ^ 32)).put LG_MTIME_HI.MTIME (v / 2 ^ 32)

/-- Whether mtime counts: not in DORMANT, nor while the hart is halted with stoptime (R600, R620). -/
def State.mtimeRuns (s : State) : Bool :=
  s.mode ≠ mDORMANT && !(s.get LG_STAT.STATE = lgHALTED && bit (s.get RV_DCSR) 9)

/-- `n` CTL_CLK periods pass for mtime and mcycle (R589). (DESIGN CHOICE, log entry 4.) -/
def State.coreTime (s : State) (n : Nat) : State :=
  let s := if s.mtimeRuns then
      let k := s.get MT_FRAC + n
      (s.setMtime (s.mtime + k / 25)).put MT_FRAC (k % 25)
    else s
  let stopped := s.get LG_STAT.STATE = lgHALTED && bit (s.get RV_DCSR) 10
  if s.get LG_STAT.STATE = lgRESET || s.get LG_STAT.STATE = lgSTOPPED || stopped || bit (s.get RV_CSR 0x320) 0 then s
  else s.put RV_MCYCLE (s.get RV_MCYCLE + n)

/-- MACHINE_TIMER (R589): mtime reaches mtimecmp. -/
def execMachineTimer (s : State) : Out :=
  live s fun s =>
    if s.mtimeRuns && s.mtime < s.mtimecmp && (s.mode = mHOLD || s.mode = mRUN) then s.setMtime s.mtimecmp else s

/-! What a debug grant governs (R615, R616, R655). -/

/-- R655: the debug module resumes a halted hart and clears DMCUSTOM0; LEVEL falls to 0. (DEDUCED, log entry 55.) -/
def State.debugLock (s : State) : State :=
  if s.get GH_DBGSTAT.LEVEL = 0 then s
  else
    let s := s.put GH_DBGSTAT.LEVEL 0
    let s := if s.get LG_STAT.STATE = lgHALTED then s.coreResume else s
    let s := if s.flag XT_OUT then s.dropAll lvDEBUG [47] else s
    let s := ((s.put DBG_CONSUME 0).put XT_OUT 0).put XT_IN 0
    let s := if [0, 3, 4, 5, 6].contains (s.get TAP_IR) then s.put TAP_IR 0x1F else s
    (s.raise Rc.GH_DEBUG_LOCKED 0).put GH_IRQ.DEBUG 1

end Sys2Proof.Machine
end

