-- ==== Sys2Proof/Machine/Pace.lean ====
section
/-! DEFINITION. spec/02: pace meters, the governor and its AVSBus traffic. -/

namespace Sys2Proof.Machine

/-- R73: whether meter p is governed. -/
def State.governed (s : State) (p : Nat) : Bool :=
  (if p < 32 then bit (s.get PW_METERMASK_LO.MASK) p else bit (s.get PW_METERMASK_HI.MASK) (p - 32)) &&
    s.get PW_METER.FAULT p = 0

/-- The governed meter with the lowest index, the lower number on a tie (R73). -/
def State.slowest (s : State) : Option Nat :=
  (List.range 64).foldl (fun best p =>
    if s.governed p then
      match best with
      | none => some p
      | some b => if s.get PW_METER.INDEX p < s.get PW_METER.INDEX b then some p else some b
    else best) none

/-- MINIDX: the index of the slowest governed meter, 0 with none (R73, Table PW-8). -/
def State.minIndex (s : State) : Nat := match s.slowest with | some p => s.get PW_METER.INDEX p | none => 0

/-- R72: target := ceil(PACE_REQ * (100 + MARGIN) / 100). -/
def State.paceTarget (s : State) : Nat := (s.get PW_GOVREQ.PACE_REQ * (100 + s.get PW_GOVREQ.MARGIN) + 99) / 100

/-- R72: upper := ceil(target * (100 + HYST) / 100). -/
def State.paceUpper (s : State) : Nat := (s.paceTarget * (100 + s.get PW_GOVREQ.HYST) + 99) / 100

/-- R74: GOV_EN is 1 in HOLD or RUN. -/
def State.governing (s : State) : Bool :=
  s.flag PW_GOVCTL.GOV_EN && (s.mode = mHOLD || s.mode = mRUN) && s.get PW_GOVSTAT.STATE ≠ 3

/-- A commit of R75 is in progress, up to its voltage read. -/
def State.committing (s : State) : Bool := [1, 2, 3, 10, 11].contains (s.get AVS_PHASE)

/-- Send the frame of a phase: 0 write, 1 voltage read, 2 status, 3 current, 4 temperature (R89, Table PW-4). -/
def State.avsSend (s : State) (phase : Nat) : State :=
  let kind := match phase with | 1 => 0 | 3 | 5 | 6 => 1 | 4 | 7 => 2 | 8 => 3 | _ => 4
  (s.put AVS_PHASE phase).emit .avsFrame
    (if phase = 1 then [kind, s.get PW_AVSCFG.RAIL, s.get AVS_TARGET] else [kind, s.get PW_AVSCFG.RAIL])

/-- R75: start commit(v), or let it wait for the frame on the bus; nothing with ABSENT (R85) or in FROZEN (Table
PW-5). -/
def State.commit (s : State) (v : Nat) : State :=
  if s.flag PW_AVSSTAT.ABSENT || s.get PW_GOVSTAT.STATE = 3 then s
  else if s.get AVS_PHASE = 0 then
    ((((s.put AVS_TARGET v).put AVS_TRIES 0).put AVS_REPEATED 0).put AVS_MISMATCHED 0).avsSend 1
  else s.put AVS_NEXT (1024 + v % 1024)

/-- What R86 leaves once the governor has stopped. -/
def State.govStopped (s : State) : State :=
  ((s.put GOV_STOPPING 0).put PW_GOVSTAT.STATE 0).put PW_VSET.VSET (s.get PW_GOVSTAT.VNOW)

/-- The bus is free again: a waiting commit, then a waiting fast raise (Table PW-8). -/
def State.avsIdle (s : State) : State :=
  let s := (s.put AVS_PHASE 0).put AVS_TRIES 0
  let s := if s.flag GOV_STOPPING then s.govStopped else s
  if 1024 ≤ s.get AVS_NEXT then
    (s.put AVS_NEXT 0).commit (s.get AVS_NEXT % 1024)
  else if s.flag AVS_FASTQ then
    let s := s.put AVS_FASTQ 0
    if s.governing then
      s.commit (min (s.get PW_GOVSTAT.VNOW + 2 * s.get PW_GOVLIM.STEP) (s.get PW_GOVLIM.VMAX))
    else s
  else s

/-- Table PW-5: the governor enters FROZEN; no frame is sent until AVS_FAULT is cleared. -/
def State.freeze (s : State) : State :=
  let s := (((s.put AVS_PHASE 0).put AVS_NEXT 0).put AVS_FASTQ 0).put AVS_TRIES 0
  let s := if s.flag GOV_STOPPING then s.govStopped else s
  ((s.put PW_GOVSTAT.STATE 3).put PW_GOVIRQ.AVS_FAULT 1).raise Rc.PW_AVS_FAULT 0

/-- The voltage read of a commit is sent once every delay line has been calibrated (R754). (DEDUCED, log entry 38.) -/
def State.avsRead (s : State) : State :=
  if s.flag BV_DLSTAT.BUSY then s.put AVS_PHASE 11 else (s.put AVS_TRIES 0).avsSend 3

/-- R69: index := min(4095, floor(count * G / 65536)). (DESIGN CHOICE, log entry 37.) -/
def paceIndex (count gain : Nat) : Nat := min 4095 (count * gain / 65536)

/-- One meter at the end of a window (R69, R71). -/
def State.meterWindow (s : State) (p count : Nat) : State :=
  let x := paceIndex count (s.get METER_GAIN p)
  let s := ((s.put PW_METER.INDEX x p).put PW_METER.VALID 1 p).put PW_METER.SEQ (s.get PW_METER.SEQ p + 1) p
  if x < 150 || 2500 < x then
    if s.get METER_OOR p ≠ 0 && s.get PW_METER.FAULT p = 0 then
      (((s.put METER_OOR 2 p).put PW_METER.FAULT 1 p).raise Rc.PW_METER_FAULT p).put PW_GOVIRQ.METER_FAULT 1
    else s.put METER_OOR (min 2 (s.get METER_OOR p + 1)) p
  else s.put METER_OOR 0 p

/-- R76: the fast raise when a window completes. -/
def State.fastRaise (s : State) : State :=
  let fast := s.get PW_GOVREQ.FAST
  if s.governing && fast ≠ 0 && s.slowest.isSome && s.get GOV_FRESH = 2 &&
      s.minIndex * 100 < s.paceTarget * (100 - fast) && s.get PW_GOVSTAT.VNOW < s.get PW_GOVLIM.VMAX then
    if s.committing then s.put AVS_FASTQ 1
    else s.commit (min (s.get PW_GOVSTAT.VNOW + 2 * s.get PW_GOVLIM.STEP) (s.get PW_GOVLIM.VMAX))
  else s

/-- PACE_WINDOW_END (R68, R69, R71, R73, R76): every meter computes its index from the ring cycles it counted. -/
def execPaceWindowEnd (counts : List Nat) (s : State) : Out :=
  if counts.length ≠ 64 then .fault (.noSuchCommand "PACE_WINDOW_END")
  else live s fun s =>
    if s.mode = mDORMANT || s.mode = mTEST then s
    else
      let s := (List.range 64).foldl (fun u p => u.meterWindow p (counts.getD p 0)) s
      let s := s.put PW_GOVSTAT.MINIDX s.minIndex
      let s := s.put GOV_FRESH (min 2 (s.get GOV_FRESH + 1))
      s.fastRaise

/-- R82: SHORT clears at the first period in which MINIDX reaches target. -/
def State.paceRestored (s : State) : State :=
  match s.slowest with
  | some p =>
    if s.flag PW_GOVSTAT.SHORT && s.paceTarget ≤ s.minIndex then
      ((s.put PW_GOVSTAT.SHORT 0).put PW_GOVSTAT.STATE 1).raise Rc.PW_PACE_RESTORED p (s.minIndex % 4096)
    else s
  | none => if s.flag PW_GOVSTAT.SHORT then (s.put PW_GOVSTAT.SHORT 0).put PW_GOVSTAT.STATE 1 else s

/-- R74: the choice at the end of a period, with m taken from a window that began after the last SETTLE. -/
def State.periodStep (s : State) : State :=
  let m := s.minIndex
  let vnow := s.get PW_GOVSTAT.VNOW
  let step := s.get PW_GOVLIM.STEP
  let vmin := s.get PW_GOVLIM.VMIN
  let vmax := s.get PW_GOVLIM.VMAX
  if m < s.paceTarget && vnow < vmax then (s.put GOV_DOWN 0).commit (min (vnow + step) vmax)
  else if s.paceUpper ≤ m && vmin < vnow then
    if s.get GOV_DOWN + 1 = s.get PW_GOVTIME.DOWN_N then (s.put GOV_DOWN 0).commit (max (vnow - step) vmin)
    else s.put GOV_DOWN (s.get GOV_DOWN + 1)
  else s.put GOV_DOWN 0

/-- GOVERNOR_PERIOD (R72 to R77, R82, R83). -/
def execGovernorPeriod (s : State) : Out :=
  live s fun s =>
    if !s.governing then s
    else
      let s := s.paceRestored
      let vnow := s.get PW_GOVSTAT.VNOW
      let vmin := s.get PW_GOVLIM.VMIN
      let vmax := s.get PW_GOVLIM.VMAX
      let step := s.get PW_GOVLIM.STEP
      let s := s.put PW_GOVSTAT.FLOOR (b2n (vnow = vmin && s.slowest.isSome && s.paceUpper ≤ s.minIndex))
      if s.committing then s
      else if vnow < vmin then s.commit (min (vnow + step) vmin)
      else if vmax < vnow then s.commit (max (vnow - step) vmax)
      else if s.slowest.isSome && s.get GOV_FRESH = 2 then s.periodStep
      else s

/-- PACE_SHORT (R80, R81): the pace has been short at VMAX for SHORT_T. -/
def execPaceShort (s : State) : Out :=
  live s fun s =>
    match s.slowest with
    | none => s
    | some p =>
      if s.governing && s.minIndex < s.paceTarget && s.get PW_GOVSTAT.VNOW = s.get PW_GOVLIM.VMAX &&
          !s.flag PW_GOVSTAT.SHORT then
        ((((s.put PW_GOVSTAT.SHORT 1).put PW_GOVSTAT.STATE 2).put PW_GOVIRQ.SHORT_SEEN 1).put BV_ALERT.PACE_SHORT
          1).raise Rc.PW_PACE_SHORT p (s.minIndex % 4096)
      else s

/-- AVS_SETTLE_END (R75, R754, Table PW-5): the voltage read of the commit, or the repeat of a write acknowledged as
not executed. -/
def execAvsSettleEnd (s : State) : Out :=
  live s fun s =>
    if s.get AVS_PHASE = 2 then (s.put GOV_FRESH 0).avsRead
    else if s.get AVS_PHASE = 10 then (s.put AVS_TRIES 0).avsSend 1
    else s

/-- A failed try: repeated up to three tries (Table PW-5); then what the kind of frame asks. -/
def State.avsBad (s : State) : State :=
  let ph := s.get AVS_PHASE
  let s := s.count PW_AVSSTAT.ERRS 1
  if ph = 8 || ph = 9 then
    let f := if ph = 8 then AVS_CURFAIL else AVS_TEMPFAIL
    if s.get f = 0 then (s.put f 1).avsSend ph
    else
      let s := (s.put f 2).put (if ph = 8 then PW_AVSSTAT.NOCUR else PW_AVSSTAT.NOTEMP) 1
      if ph = 8 && !s.flag PW_AVSSTAT.NOTEMP then s.avsSend 9 else s.avsIdle
  else if s.get AVS_TRIES < 2 then (s.put AVS_TRIES (s.get AVS_TRIES + 1)).avsSend ph
  else if ph = 5 then (s.put PW_AVSSTAT.ABSENT 1).put AVS_PHASE 0
  else if ph = 4 || ph = 7 then s.avsIdle
  else s.freeze

/-- A good voltage read of a commit (Table PW-5, the mismatch row). -/
def State.avsReadGood (s : State) (v : Nat) : State :=
  let s := s.put PW_AVSSTAT.VREAD v
  let vnow := s.get PW_GOVSTAT.VNOW
  let v := v % 1024
  if 15 < (v - vnow) + (vnow - v) then
    if s.flag AVS_MISMATCHED then
      (((s.raise Rc.PW_AVS_MISMATCH 0 v).put PW_GOVSTAT.VNOW v).put AVS_TRIES 0).avsSend 4
    else (((s.put AVS_MISMATCHED 1).put AVS_TRIES 0).put AVS_TARGET vnow).avsSend 1
  else (s.put AVS_TRIES 0).avsSend 4

/-- A good response, by phase (R75, R85, R90, R91). -/
def State.avsGood (s : State) (v : Nat) : State :=
  let vnow := s.get PW_GOVSTAT.VNOW
  match s.get AVS_PHASE with
  | 1 =>
    let s := (s.put PW_GOVSTAT.VNOW (s.get AVS_TARGET)).put AVS_PHASE 2
    if s.flag PW_GOVCTL.LOG_STEPS then s.raise Rc.PW_VSTEP 0 (s.get AVS_TARGET + 2 ^ 16 * vnow) else s
  | 3 => s.avsReadGood v
  | 5 => ((s.put PW_AVSSTAT.VREAD v).put AVS_PHASE 0).commit 800
  | 6 =>
    ((s.put PW_AVSSTAT.VREAD v).put PW_GOVSTAT.STATE (if s.flag PW_GOVCTL.GOV_EN then 1 else 0)).avsIdle
  | 8 =>
    let s := (s.put PW_AVSDATA.CURRENT v).put AVS_CURFAIL 0
    if s.flag PW_AVSSTAT.NOTEMP then s.avsIdle else s.avsSend 9
  | 9 => ((s.put PW_AVSDATA.TEMP v).put AVS_TEMPFAIL 0).avsIdle
  | ph =>
    let alert := decide (v ≠ 0)
    let s := if alert && !s.flag PW_AVSSTAT.ALERT then s.raise Rc.PW_AVS_ALERT 0 else s
    let s := (s.put PW_AVSSTAT.ALERT (b2n alert)).put AVS_TRIES 0
    if ph = 7 && s.flag PW_AVSCFG.TELEM_EN && !s.flag PW_AVSSTAT.NOCUR then s.avsSend 8
    else if ph = 7 && s.flag PW_AVSCFG.TELEM_EN && !s.flag PW_AVSSTAT.NOTEMP then s.avsSend 9
    else s.avsIdle

/-- AVS_FRAME_DONE (R75, R85, R89, R90, R91, Table PW-5). -/
def execAvsFrameDone (r : AvsResult) (s : State) : Out :=
  live s fun s =>
    let ph := s.get AVS_PHASE
    if ph = 0 || ph = 2 || ph = 10 || ph = 11 then s
    else
      match r with
      | .good v => s.avsGood v.toNat
      | .bad => s.avsBad
      | .notExecuted =>
        if ph = 1 then
          if s.flag AVS_REPEATED then s.freeze else (s.put AVS_REPEATED 1).put AVS_PHASE 10
        else s.avsBad

/-- AVS_STATUS_POLL (Table PW-4): every 10 ms a status read, and current and temperature reads where enabled. -/
def execAvsStatusPoll (s : State) : Out :=
  live s fun s =>
    if s.flag PW_AVSSTAT.ABSENT || s.get PW_GOVSTAT.STATE = 3 || s.get AVS_PHASE ≠ 0 || s.mode = mDORMANT then s
    else (s.put AVS_TRIES 0).avsSend 7

/-- Table PW-2: the first check that fails, with its object index. -/
def State.govCheck (s : State) : Option (Rc × Nat) :=
  if s.mode ≠ mHOLD && s.mode ≠ mRUN then some (Rc.PW_WRONG_MODE, s.mode)
  else if s.flag PW_AVSSTAT.ABSENT then some (Rc.PW_GOV_NO_AVS, 0)
  else if s.flag PW_GOVIRQ.AVS_FAULT then some (Rc.PW_AVS_FAULT, 0)
  else if s.get PW_GOVLIM.VMAX < s.get PW_GOVLIM.VMIN then some (Rc.PW_GOV_LIMITS, 0)
  else if s.get PW_GOVREQ.PACE_REQ = 0 then some (Rc.PW_GOV_NOREQ, 0)
  else if s.slowest.isNone then some (Rc.PW_GOV_NO_METER, 0)
  else none

/-- The effect of a word written to PW_GOVCTL: the plain fields, then the start (R84) or the stop (R86). -/
def wrGovCtl (m : Master) (w : Nat) (s : State) : State :=
  let was := s.flag PW_GOVCTL.GOV_EN
  let s := s.writeReg m PW_GOVCTL.reg 0 w
  let now := bit w 0
  if now && !was then
    match s.govCheck with
    | some (c, obj) => (s.put PW_GOVCTL.GOV_EN 0).refuse c obj m 0x1100
    | none => ((s.put PW_GOVSTAT.STATE 1).put GOV_DOWN 0).put GOV_STOPPING 0
  else if !now && was then
    if s.committing then s.put GOV_STOPPING 1
    else if s.get PW_GOVSTAT.STATE = 3 then s.put PW_VSET.VSET (s.get PW_GOVSTAT.VNOW)
    else s.govStopped
  else s

/-- GOV_EN (R84, R86): a write to PW_GOVCTL. -/
def execGovEn (m : Master) (w : Word) (s : State) : Out :=
  live s fun s => s.onWrite m 0x1100 w.toNat (wrGovCtl m w.toNat)

/-- The effect of a word written to PW_VSET (R87). -/
def wrVset (_m : Master) (w : Nat) (s : State) : State :=
  let v := bits w 0 10
  if s.flag PW_GOVCTL.GOV_EN then s
  else if PW_VSET.VSET.accepts v then
    let s := s.put PW_VSET.VSET v
    if s.mode = mHOLD || s.mode = mRUN then s.commit v else s
  else s

/-- VSET_WRITE (R87). -/
def execVsetWrite (m : Master) (w : Word) (s : State) : Out :=
  live s fun s => s.onWrite m 0x1110 w.toNat (wrVset m w.toNat)

/-- The effect of a word written to PW_GOVIRQ: W1C, and a 1 in AVS_FAULT leaves FROZEN with a voltage read (R91). -/
def wrGovIrq (m : Master) (w : Nat) (s : State) : State :=
  let s := s.writeReg m PW_GOVIRQ.reg 0 w
  if bit w 1 && s.get PW_GOVSTAT.STATE = 3 then
    ((s.put PW_GOVSTAT.STATE (if s.flag PW_GOVCTL.GOV_EN then 1 else 0)).put AVS_TRIES 0).avsSend 6
  else s

/-- AVS_FAULT_CLEAR (R91). -/
def execAvsFaultClear (m : Master) (w : Word) (s : State) : Out :=
  live s fun s => s.onWrite m 0x111C w.toNat (wrGovIrq m w.toNat)

/-- R88: on entry to LOAD, RESCUE or TEST, GOV_EN is cleared and 0.80 V is committed. (DEDUCED, log entry 38.) -/
def State.govModeEntry (s : State) : State :=
  let s := if s.flag PW_GOVCTL.GOV_EN then
      let s := s.put PW_GOVCTL.GOV_EN 0
      if s.committing then s.put GOV_STOPPING 1 else if s.get PW_GOVSTAT.STATE = 3 then s else s.govStopped
    else s
  s.commit 800

end Sys2Proof.Machine
end

