-- ==== Sys2Proof/Machine/Reset.lean ====
section
/-! DEFINITION. spec/01, 17 and 18: what resets, zeroise and a failed configuration clear; key slots; the state of the
Gatehouse command interface. -/

namespace Sys2Proof.Machine

/-! Clearing. -/

/-- Return the registers from offset lo to hi to their reset values. -/
def State.clearRange (s : State) (lo hi : Nat) : State :=
  { s with cells := s.cells.filter fun c => c.1 < 32 * lo || 32 * hi ≤ c.1 }

/-- Empty every list of some families. -/
def State.dropLists (s : State) (qs : List Fifo) : State :=
  { s with lists := s.lists.filter fun c => !(qs.any fun q => q.id * 2 ^ 20 ≤ c.1 && c.1 < (q.id + 1) * 2 ^ 20) }

/-- Element i of a register at its reset values. -/
def State.resetReg (s : State) (r : Reg) (i : Nat) : State := r.fields.foldl (fun u f => u.put f f.reset i) s

/-- R424: every claim but the Gatehouse's ends. -/
def State.claimsEnd (s : State) : State :=
  (List.range 585).foldl (fun u p =>
    if u.get IO_PCLM.CLAIMS p = 0 then u else (u.put IO_PCLM.CLAIMS (u.get IO_PCLM.CLAIMS p % 2) p).showHolder p) s

/-- The IO registers at their reset values, the Gatehouse's claims kept. -/
def State.pinsReset (s : State) : State :=
  let own := (List.range 585).filter fun p => bit (s.get IO_PCLM.CLAIMS p) 0
  let s := (s.clearRange 0x2000 0x4000).forget [SER_FIRST]
  own.foldl (fun u p => (u.put IO_PCLM.CLAIMS 1 p).showHolder p) s

/-- Internal state of the blocks that only a design uses: crossing ports, Bandstand, timers, queues, Orangery, plots. -/
def designFields : List Field :=
  [XP_DISC, XP_SIDE, TCOUNT, SYN0_HOLD, SRC_VAL, RT_VAL, RT_RAW, RT_LEFT, TT_SEQ, TT_GAP, TT_LAST, TT_TURN, CUE_LAST,
    CUE_LATEP, CUE_PULSE, SLEW_LEFT, SLEW_NEG, TOP_ACT, CMP_ACT, BT_PSCNT, TRIG_LAST, KLAST, KHELD, KCOUNT, KEDGES,
    LF_ACC, LF_LIVE, LF_MATCHED, LANE_W, LANE_RD, LANE_REL, LANE_MARK, LANE_MVALID, LANE_HDR, LANE_OPEN, LANE_OWNER,
    LANE_N, LANE_OVF, WHEEL_POS, QHOLD, QHOLD_LEFT, QCONS, QP_STATE, QP_CUT, SSCRUB_AT, OG_CODE, OG_OUTN, OG_PHASE,
    OG_FLAGS, OG_OPENED, OG_PUSHED, OG_TAG, OG_STRAY, OG_DUE, OG_ABORTING, OG_SERVED, LAST_UE, PORT_RDATA, MSCRUB_AT,
    MAC_PCOUT, FENCE_FORCE, FENCE_BY, GATE_HELD, GATE_SINK, STALLED, EL_PEND, UI_LINE, UI_WANT, DOM_RESET, REL_T2,
    REL_LEFT, REL_STEP, REL_DONE, REL_WANT, SV_ON]

/-- Their lists. -/
def designLists : List Fifo :=
  [⟨47⟩, ⟨49⟩, MAC_WAIT, MEM_HELD, PARKED, QP_HELD, PRODS, DIRTY_LANES, XP_Q, XP_WAIT, ⟨9⟩, ⟨10⟩, ⟨11⟩, ⟨12⟩, OG_DESC, OG_INW, OG_PUSHQ,
    OG_WAITERS]

/-- Internal state of the Lodge, its peripherals and the debug module. -/
def lodgeFields : List Field := hartFields ++ [FCM_SEQ, AW_SB, MT_FRAC, RV_WAIT, U_SHIFT, S_CS, S_KEEP, S_LEFT, I_HOLD, I_CMD, I_LEFT, I_PEC]

/-- The blocks held outside HOLD and RUN, at their reset values: XP, BS, BT, QM, OG, MI, LG, FB; the channels of the
endpoint and the lives of the mirror end. (DEDUCED, log entry 47.) -/
def State.designGone (s : State) : State :=
  let s := (s.channelsOff.coreReset lgRESET).mirrorReset
  let s := (s.synOff 0).clearRange 0x5000 0x7000 |>.clearRange 0x8000 0xB000 |>.clearRange 0x10000 0x1C000
  let s := (s.clearRange 0x30000 0x34000).clearRange 0x40000 0x80000
  let s := ((s.forget designFields).forget lodgeFields).dropLists (designLists ++ [LG_TX, LG_RX])
  (s.put PW_MODE.FENCED_ANY 0).put PW_MODE.BUSY 0

/-! Key slots (R630 to R641). -/

/-- KSTAT.STATE codes. -/
def ksEMPTY : Nat := 0
def ksVALID : Nat := 1
def ksPENDW : Nat := 2
def ksPENDE : Nat := 3

/-- R630: the check value of a key: the first two bytes of AES-256 of zero. -/
def kcvOf (key : Nat) : Nat := Config.aes256 key 0 / 2 ^ 112 % 2 ^ 16

/-- A key and its usage in a slot. -/
def State.keySet (s : State) (k key usage : Nat) : State :=
  let s := ((s.put KEY_VAL key k).put GH_KSTAT.STATE ksVALID k).put GH_KSTAT.USAGE usage k
  (if k = 1 then s.put KS1_WRITTEN 1 else s).put GH_KSTAT.KCV (kcvOf key) k

/-- An empty slot. (DEDUCED, log entry 54.) -/
def State.keyClear (s : State) (k : Nat) : State :=
  (((s.put KEY_VAL 0 k).put GH_KSTAT.STATE ksEMPTY k).put GH_KSTAT.USAGE 0 k).put GH_KSTAT.KCV 0 k

/-- R636: erase a slot; on KS0 and KS1 the kill fuse blows. -/
def State.keyErase (s : State) (k : Nat) : State :=
  let s := s.keyClear k
  if k < 2 then s.put GH_KSTAT.KILLED 1 k else s

/-- Whether a slot has a pending change. -/
def State.keyPending (s : State) (k : Nat) : Bool := s.get GH_KSTAT.STATE k = ksPENDW || s.get GH_KSTAT.STATE k = ksPENDE

/-- STATE and RESULT; a change away from BUSY sets GH_IRQ.CMD (R629). -/
def State.cmdStatus (s : State) (state result : Nat) : State :=
  let s := if s.get GH_STATUS.STATE = 1 && state ≠ 1 then s.put GH_IRQ.CMD 1 else s
  (s.put GH_STATUS.STATE state).put GH_STATUS.RESULT result

/-- R640: a pending change takes effect. -/
def State.keyApply (s : State) (k : Nat) : State :=
  let s := if s.get GH_KSTAT.STATE k = ksPENDW then s.keySet k (s.get KEY_NEW k) (s.get KEY_NUSE k) else s.keyErase k
  let s := ((s.put KEY_NEW 0 k).raise Rc.GH_KEY_APPLIED k (s.get GH_KSTAT.KCV k)).put GH_IRQ.KEY 1
  if s.get CMD_PSLOT = 8 + k then
    let s := s.put CMD_PSLOT 0
    if s.get GH_STATUS.STATE = 4 then s.cmdStatus 2 0x0100 else s
  else s

/-- An operation that names slot k begins (R637). -/
def State.keyUse (s : State) (k : Nat) : State := s.put GH_KSTAT.USE (s.get GH_KSTAT.USE k + 1) k

/-- It ends; with no other left, a pending change takes effect (R640). -/
def State.keyDone (s : State) (k : Nat) : State :=
  let n := s.get GH_KSTAT.USE k - 1
  let s := s.put GH_KSTAT.USE n k
  if n = 0 && s.keyPending k then s.keyApply k else s

/-- Why an operation may not name slot k with a usage bit, in the order of R861 (R631, R637, R641). -/
def State.keyBad (s : State) (k usage : Nat) : Option Rc :=
  if s.keyPending k then some Rc.GH_KEY_PENDING
  else if s.get GH_KSTAT.STATE k = ksEMPTY then some Rc.GH_KEY_EMPTY
  else if !bit (s.get GH_KSTAT.USAGE k) usage then some Rc.GH_KEY_USAGE
  else if s.get GH_KSTAT.USE k = 255 then some Rc.GH_BUSY
  else none

/-! The command interface (R627 to R629). -/

/-- The data buffer read as zeros. -/
def State.bufClear (s : State) : State := s.clearRange 0x400 0x1000

/-- R627: the interface is free; its arguments and buffer are cleared. -/
def State.cmdFree (s : State) : State := ((s.put GH_CMDOWN.OWNER 7).clearRange 0x30 0x40).bufClear

/-- The running command is over. -/
def State.cmdOver (s : State) : State := ((s.put CMD_OP 0).put CMD_RES 0).put CMD_KEY 0

/-- A command ends DONE. -/
def State.cmdDone (s : State) : State := s.cmdOver.cmdStatus 2 0x0100

/-- A command fails, with its record (R629). -/
def State.cmdFailAs (s : State) (rc : Rc) (obj detail : Nat) : State :=
  (s.cmdStatus 3 rc.num).refuseBy 0x01 rc obj detail

/-- The command that runs fails. -/
def State.cmdFail (s : State) (rc : Rc) (obj : Nat) : State := s.cmdOver.cmdFailAs rc obj (s.get CMD_ARG 0)

/-! The protected-register unlock (R651). -/

/-- The unlock closes. -/
def State.unlockClose (s : State) : State := (s.put GH_STATUS.UNLOCK_OPEN 0).put GH_STATUS.UNLOCK_ID 7

/-! The container in progress. -/

/-- STAGE codes of GH_CFGSTAT. -/
def stHEADERS : Nat := 1
def stSTREAM : Nat := 2
def stFINAL : Nat := 3
def stDONE : Nat := 4
def stFAILED : Nat := 5

/-- The configuration port is free again; the key slot of the container is released (R637). -/
def State.ctClose (s : State) : State :=
  let k := s.get CT_SLOT
  let s := s.dropLists [CT_HEADER, CT_PAYLOAD, CT_TILES, CT_PRELOADED]
  let s := s.forget [CT_ON, CT_SLOT, CT_KEY, CT_POS, CT_SPAN, CT_CRC, CT_AFTER, CT_BUSY, CT_ISCMD, CT_ARG0, CT_BASE,
    CT_BY, CT_LEN, CT_HDR_OK, CT_POLL, CT_PLEFT, CT_PMASK, CT_PVAL, CT_DOING, CT_RX]
  if k = 0 then s else s.keyDone k

/-! Zeroise (R663, Table GH-6). -/

/-- What the update session of the device leaves when zeroise ends it: a FAILED report (Table UP-14). -/
def State.updateFail (s : State) (rc : Rc) : State :=
  if s.get GH_UPSTAT.STATE = 0 then s else (s.put GH_UPSTAT.LAST rc.num).upSet usFAILED

/-- A prologue or votes that the device awaited are awaited no more; its key slot has been released. -/
def State.sessionLost (s : State) : State :=
  let st := s.get UP_STEP
  ((s.put UP_SLOT 0).put UP_STEP (if st = 1 then 0 else if st = 3 then 2 else st)).put UP_ASKED 0

/-- The memories filled with zero words (step 4). -/
def State.memoriesZero (s : State) : State :=
  let s := ((((s.wipe .block).wipe .queue).wipe .workspace).wipe .lodgeI).wipe .lodgeD
  s.put MEM_UNDEF 0

/-- Entry to RESCUE (Table DV-9): 0.80 V, synthesisers and lanes stopped, the boot port up. (DEDUCED, log entry 47.) -/
def State.enterRescue (s : State) (requester : Nat) : State :=
  let s := s.govModeEntry.hxAllDown.ckStop.designGone
  let s := (((s.slStop.claimsEnd).put PX_PAUSE 0).put PW_DMSTAT.PHASE 0).put DM_STEP 0
  let s := { s with intake := s.intake ++ s.held, held := [] }
  (s.setMode mRESCUE requester).bootPort

/-- Zeroise with its cause (0 the command, else the source of R661) and the commanding identity.
(DEDUCED, log entry 47.) -/
def State.zeroise (s : State) (cause by_ : Nat) : State :=
  let op := s.get CMD_OP
  let s := if op ≠ 0 && op ≠ 4 then s.cmdFail Rc.GH_ABORT_ZEROIZE op
    else if s.get GH_STATUS.STATE = 4 then
      (s.put CMD_PSLOT 0).cmdFailAs Rc.GH_ABORT_ZEROIZE (s.get GH_STATUS.OP) (s.get CMD_ARG 0)
    else s
  let s := if s.get CT_ON = 0 then s
    else
      let s := (s.put GH_CFGSTAT.STAGE stFAILED).put GH_CFGSTAT.LAST Rc.GH_ABORT_ZEROIZE.num
      s.raise Rc.GH_ABORT_ZEROIZE (s.get CT_SLOT)
  let s := if s.get GH_UPSTAT.STATE = 0 || s.get GH_UPSTAT.STATE = 8 then s
    else (s.raise Rc.GH_ABORT_ZEROIZE 6).updateFail Rc.GH_ABORT_ZEROIZE
  let s := (List.range 8).foldl (fun u k =>
    let v := (u.put GH_KSTAT.USE 0 k).put KEY_NEW 0 k
    if 2 ≤ k then v.keyClear k else if v.keyPending k then v.put GH_KSTAT.STATE ksVALID k else v) s
  let s := ((s.put CT_SLOT 0).ctClose.sessionLost).dropLists [CT_PLAN]
  let s := ((s.debugLock.unlockClose).forget [UNL_LEFT, UNL_ABORT]).put GH_DBGSTAT.CHALLENGED 0
  let s := (s.cmdFree.wipe .config).memoriesZero
  let s := ((s.clearRange 0x34100 0x34200).put BV_CSSTAT.REPAIRING 0).forget [REP_STEP, REP_SLOT, CS_AT, CS_DONE]
  let s := s.put PW_RSTCAUSE.CAUSE (setBit (s.get PW_RSTCAUSE.CAUSE) 7)
  (s.raise Rc.GH_ZEROIZE 0 (cause + 256 * by_)).enterRescue by_

/-! Resets (R47, R53, Table DV-14). -/

/-- Registers that a cold reset keeps: identity, key and public-key status, anti-rollback, tamper status. -/
def keptCold : List (Nat × Nat) :=
  [(0x0, 0x4), (0x8, 0x10), (0x40, 0x58), (0x60, 0x74), (0x7C, 0x80)]

/-- Registers that a warm reset keeps besides: update state and trial, reset causes, Dormant status, self-test, event
log, error totals (R735, R762, R779, R788, R809). -/
def keptWarm : List (Nat × Nat) :=
  [(0xB0, 0xBC), (0xC8, 0xCC), (0x1004, 0x1008), (0x1308, 0x1314), (0x1900, 0x1A00), (0x38000, 0x38008),
    (0x38020, 0x38044), (0x340E0, 0x340F0)]

/-- Internal state that every reset keeps: fuses, what the card drives, the battery domain, the reset in progress.
(DEDUCED, log entry 48.) -/
def keptFields : List Field :=
  [METER_GAIN, QREF_HZ, PK_HASH, KS1_WRITTEN, MODE_PINS, DEVRST_LOW, RESETTING, RST_FIRST, PX_PERST, MEM_EPOCH, VAUX_LOW,
    VBATT_LOST, BATT_NEW, BATT_ZERO, TEST_FAILED, DROP_EPISODE]

/-- Whether a reset keeps the cell at a key. -/
def keeps (cold : Bool) (k : Nat) : Bool :=
  (keptCold.any fun r => 32 * r.1 ≤ k && k < 32 * r.2) ||
    (!cold && keptWarm.any fun r => 32 * r.1 ≤ k && k < 32 * r.2) ||
    (keptFields.any fun f => 32 * f.off ≤ k && k < 32 * (f.off + 0x100000)) ||
    k = GH_TAMPCFG.TAMP0.key 0 || k = GH_TAMPCFG.TAMP1.key 0 || (KEY_VAL.key 0 ≤ k && k < KEY_VAL.key 6)

/-- Every cell that the reset does not keep takes its reset value; lists, volatile memories and pending interrupts are
gone, the memories of Table DV-14 undefined after a warm reset. (DEDUCED, log entries 49, 54, 99.) -/
def State.resetClear (s : State) (cold : Bool) : State :=
  let ir := s.get TAP_IR
  let s : State := { s with cells := s.cells.filter fun c => keeps cold c.1, lists := [], pba := [], held := [] }
  let s := (((((s.wipe .block).wipe .queue).wipe .workspace).wipe .lodgeI).wipe .lodgeD).wipe .config
  let s := (((s.wipe .msix).wipe .cfgSpace).wipe .rescue).wipe .settings
  let s := (List.range 6).foldl (fun u k =>
    let v := u.put GH_KSTAT.USE 0 k
    if v.keyPending k then v.put GH_KSTAT.STATE ksVALID k else v) s
  let s := s.put PW_DMSTAT.PHASE 0
  let s := if cold then s else s.put TAP_IR (if [0, 3, 4, 5, 6].contains ir then 0x1F else ir)
  if cold then ({ s with ring := [], intake := [] } : State).put DROP_EPISODE 0 |>.put MEM_UNDEF 0
  else (s.put MEM_EPOCH (s.get MEM_EPOCH + 1)).put MEM_UNDEF 1

/-- R784, R786: a reset that leaves TEST other than at its end leaves the run aborted. (DEDUCED, log entry 58.) -/
def State.testCut (s : State) : State :=
  if s.mode = mTEST && s.get PW_TSSTAT.STATE = 2 then
    (((s.put PW_TSRES.RESULT 3 (s.get PW_TSSTAT.CURRENT)).put PW_TSSTAT.STATE 4).put PW_TSSTAT.ALL_PASS 0).put TEST_FAILED 1
  else s

/-- A warm reset source with its PW_RSTCAUSE bit (R47): begins a warm reset, or adds its bit to the one in progress; a
cold reset goes on as it is. (DEDUCED, log entry 63.) -/
def State.warmReset (s : State) (bit_ : Nat) : State :=
  let w := s.get RESETTING
  if w = 2 then s
  else
    let s := s.put PW_RSTCAUSE.CAUSE (setBit (s.get PW_RSTCAUSE.CAUSE) bit_)
    if w = 1 then s
    else ((s.testCut.resetClear false).put RST_FIRST bit_).put RESETTING 1

/-- A cold source (R47, R53). -/
def State.coldReset (s : State) : State :=
  let s := if s.get RESETTING = 0 then s.put RST_FIRST 0 else s
  ((s.resetClear true).put PW_RSTCAUSE.CAUSE 1).put RESETTING 2

/-- COLD_RESET_SOURCE (R814): VAUX, or VCORE alone, has crossed its power-on threshold for longer than the filter. -/
def execColdResetSource (vaux : Bool) (s : State) : Out :=
  let t := s.coldReset
  .next (if vaux then t.put VAUX_LOW 1 else t)

/-- DEV_RESET_N (R48): the level at the far side of the filter changes; low begins or extends a warm reset. -/
def execDevResetN (low : Bool) (s : State) : Out :=
  .next (if low then (s.put DEVRST_LOW 1).warmReset 1 else s.put DEVRST_LOW 0)

/-! Endpoint resets (R50, R494). -/

/-- PERST_N, Hot Reset or link down (Table DV-13): an endpoint reset, or with PERST_SCOPE a warm reset. -/
def State.pxReset (s : State) : State := if s.flag PW_RSTCFG.PERST_SCOPE then s.warmReset 5 else s.endpointReset.pxTrain

end Sys2Proof.Machine
end

