-- ==== Sys2Proof/Machine/Wake.lean ====
section
/-! DEFINITION. spec/21 and 13: entering DORMANT, its wake events, the wake; endpoint resets and the link, which wake the
device too. -/

namespace Sys2Proof.Machine

/-- PW_DMSTAT.PHASE codes. -/
def dmAWAKE : Nat := 0
def dmENTERING : Nat := 1
def dmASLEEP : Nat := 2
def dmWAKING : Nat := 3

/-- R775: a wake source is armed. -/
def State.wakeArmed (s : State) : Bool :=
  s.flag PW_DMCFG.WAKEN_EN ||
    (bit (s.get CK_REFSTAT.PRESENT) 12 && (List.range 16).any fun t =>
      s.flag BT_CTL.EN t && s.flag BT_CTL.LFRUN t && s.get BT_CTL.WAKE t ≠ 0) ||
    s.linkUp || ((List.range 8).any fun n => s.flag HX_PCFG.EN n && s.portUp n)

/-- ASPM L1 is enabled in Link Control. -/
def State.aspmL1 (s : State) : Bool := bit (s.load .cfgSpace 0x20) 1

/-- Table PW-9: the first check that fails. -/
def State.dmCheck (s : State) : Option (Rc × Nat) :=
  if s.mode ≠ mRUN then some (Rc.PW_WRONG_MODE, s.mode)
  else if s.flag PW_MODE.BUSY then some (Rc.PW_MODE_BUSY, 0)
  else if s.flag PW_AVSSTAT.ABSENT then some (Rc.PW_GOV_NO_AVS, 0)
  else if s.get PW_GOVSTAT.STATE = 3 then some (Rc.PW_AVS_FAULT, 0)
  else if s.flag MI_CFG.EN then some (Rc.MI_PAIRED, 0)
  else if s.get LG_STAT.STATE = lgHALTED then some (Rc.LG_HALTED, 0)
  else if s.linkUp && !s.aspmL1 then some (Rc.PX_DORMANT_LINK, 0)
  else
    match s.hxBusy with
    | some n => some (Rc.HX_DORMANT_BUSY, n)
    | none =>
      if s.get GH_UPSTAT.STATE ≠ 0 then some (Rc.UP_BUSY, 0)
      else if !s.wakeArmed then some (Rc.PW_DM_NO_WAKE, 0)
      else none

/-- The effect of a word written to PW_DMCTL (R765, R766). -/
def wrDmctl (m : Master) (w : Nat) (s : State) : State :=
  if bit w 0 then
    match s.dmCheck with
    | some (c, obj) => (s.refuseBy 0x02 c obj (writeDetail m 0x1300)).put PW_DMIRQ.REFUSED 1
    | none => (((s.put PW_MODE.BUSY 1).put PW_DMSTAT.PHASE dmENTERING).put DM_STEP 1).put DM_BY m.code
  else s

/-- ENTER (R765): a write of 1 to PW_DMCTL.ENTER. -/
def execEnter (m : Master) (s : State) : Out := live s fun s => s.onWrite m 0x1300 1 (wrDmctl m 1)

/-- The channels follow what holds them (R485, R491, R493). -/
def State.channelsFollow (s : State) : State :=
  ((List.range 64).foldl (fun u c =>
    if u.flag PX_CHCFG.EN c && u.get PX_CHSTAT.STATE c ≠ chOFF && u.get PX_CHSTAT.STATE c ≠ chHALTED &&
        u.get CH_PHASE c = 0 then u.chRest c else u) s).pxPump

/-- Plots that Dormant entry fenced are LIVE again (R769, Table PW-13). (DEDUCED, log entry 59.) -/
def State.dmUnfence (s : State) : State :=
  (List.range 64).foldl (fun u p => if u.get FB_PSTAT.HOLDER p = hDORMANT then u.unfence p else u) s

/-- R769: entry is abandoned. -/
def State.dmAbandon (s : State) (c : Rc) (obj detail : Nat) : State :=
  let s := if s.get DM_STEP = 2 then
      (((s.put DM_STEP 0).dmUnfence.put PX_PAUSE 0).channelsFollow.hxWake).ogSchedule
    else s
  let s := ((s.put DM_STEP 0).put PW_MODE.BUSY 0).put PW_DMSTAT.PHASE dmAWAKE
  (s.put PW_DMIRQ.REFUSED 1).refuseBy 0x02 c obj detail

/-- WAIT_T_EXPIRY (R766, R769). -/
def execWaitTExpiry (s : State) : Out :=
  live s fun s => if s.get DM_STEP = 1 then s.dmAbandon Rc.PW_DM_TIMEOUT 0 (2 ^ 20 * s.get DM_BY) else s

/-- R766: nothing runs that entry waits for. -/
def State.dmReady (s : State) : Bool :=
  s.get CMD_OP = 0 && s.get CT_ON = 0 && !s.flag BV_CSSTAT.REPAIRING && !s.committing &&
    !((List.range 6).any fun k => s.flag CK_SYNSTAT.BUSY k) && !((List.range 10).any fun q => s.flag SL_QSTAT.BUSY q)

/-- DORMANT_ENTRY_START (Table PW-10, steps 1 and 2). -/
def execDormantEntryStart (s : State) : Out :=
  live s fun s =>
    if s.get DM_STEP = 1 && s.dmReady then
      let s := (((s.put DM_STEP 2).put PX_PAUSE 1).channelsFollow.hxSleep)
      let s := if s.flag OG_STAT.ACTIVE then s.put OG_DUE 1 else s
      (List.range 64).foldl (fun u p =>
        if u.get FB_PSTAT.STATE p = pLIVE then u.fence p hDORMANT (u.flag PW_DMCFG.FORCE) 7 else u) s
    else s

/-- Timers at step 4: those with LFRUN pass to LF stepping while LFXO is PRESENT; every other enabled one holds, and is
logged (R351, R354). (DEDUCED, log entry 59.) -/
def State.btSleep (s : State) : State :=
  let lf := bit (s.get CK_REFSTAT.PRESENT) 12
  (List.range 16).foldl (fun u t =>
    if u.flag BT_CTL.EN t then
      if u.flag BT_CTL.LFRUN t && lf then u.put LF_LIVE 1 t else u.raise Rc.BT_LF_HOLD t
    else u) s

/-- SYN0 and the time count (R318). (DEDUCED, log entry 59.) -/
def State.tbSleep (s : State) : State :=
  let s := (s.synOff 0).tbFollow
  if s.flag BS_TBSTAT.RUNNING then
    (s.put BS_TBSTAT.COARSE 1).put BS_TBSTAT.LF (b2n (s.flag BS_TBCTL.LFXO_EN && bit (s.get CK_REFSTAT.PRESENT) 12))
  else s

/-- DORMANT_ENTRY_STOP (Table PW-10, steps 3 to 7): every plot is FENCED. -/
def execDormantEntryStop (s : State) : Out :=
  live s fun s =>
    if s.get DM_STEP = 2 && !s.coreBusy && !((List.range 64).any fun p => s.get FB_PSTAT.STATE p = pFENCING) then
      let s := (s.ogPreempt.coreStop.btSleep).put LF_MATCHED 0
      let s := s.ckSleep.slSleep.tbSleep
      let s := if s.linkUp then s.put PX_LINK.L1 1 else s
      let s := (s.setMode mDORMANT (s.get DM_BY)).put PW_DMSTAT.PHASE dmASLEEP
      let s := ((s.put PW_DMSTAT.ENTRIES (s.get PW_DMSTAT.ENTRIES + 1)).put DM_STEP 0).put PW_MODE.BUSY 0
      s.emit .avsFrame [0, s.get PW_AVSCFG.RAIL, 450]
    else s

/-! Waking. -/

/-- A wake event (R769, R772): it wakes a sleeping device or makes an entry be abandoned. (DEDUCED, log entry 44.) -/
def State.wakeEvent (s : State) (cause idx : Nat) : State :=
  if s.mode = mDORMANT && s.get PW_DMSTAT.PHASE = dmASLEEP then
    let s := (((s.put PW_DMSTAT.CAUSE cause).put PW_DMSTAT.CIDX idx).put PW_DMSTAT.PHASE dmWAKING).put PW_MODE.BUSY 1
    s.emit .avsFrame [0, s.get PW_AVSCFG.RAIL, s.get PW_GOVSTAT.VNOW]
  else if s.get PW_DMSTAT.PHASE = dmENTERING then s.dmAbandon Rc.PW_DM_ABORTED 0 cause
  else s

/-- Whether a wake event would find the device asleep, waking or entering. -/
def State.drowsy (s : State) : Bool := s.get PW_DMSTAT.PHASE ≠ dmAWAKE

/-- WAKE_EVENT (R772): WAKE_N low for 1 µs, an L1 exit, or a neighbour of a SLEEPING port leaving electrical idle; the
other sources of Table PW-12 are events of their own rows. -/
def execWakeEvent (w : WakeSource) (s : State) : Out :=
  live s fun s =>
    match w with
    | .wakeN => if s.flag PW_DMCFG.WAKEN_EN then s.wakeEvent 1 0 else s
    | .l1Exit =>
      if s.linkUp && s.drowsy then (if s.mode = mDORMANT then s.orBit PX_OWED 1 else s.put PX_LINK.L1 0).wakeEvent 3 0
      else s
    | .hokuox n => if s.get HX_PSTAT.STATE n = hpSLEEPING then s.wakeEvent 5 n else s

/-- LFXO_EDGE_DORMANT (R318, R351, R353, R354): while LFXO is lost, nothing steps. -/
def execLfxoEdgeDormant (s : State) : Out :=
  live s fun s =>
    if s.mode = mDORMANT && bit (s.get CK_REFSTAT.PRESENT) 12 then
      let s := if s.flag BS_TBSTAT.LF then s.put TCOUNT (s.get TCOUNT + 2000000000 * 65536) else s
      let s := (s.put LF_MATCHED 0).lfStep
      let t := s.get LF_MATCHED
      if t = 0 then s else s.wakeEvent 2 (t - 1)
    else s

/-- The endpoint is reset by PERST_N, a Hot Reset or a link down; in DORMANT the wake carries it out (R47, R773).
(DEDUCED, log entry 44.) -/
def State.pxEvent (s : State) (cause : Nat) : State :=
  if s.mode = mDORMANT then (s.orBit PX_OWED 0).wakeEvent cause 0
  else
    let s := if s.drowsy then s.wakeEvent cause 0 else s
    s.linkLost.pxReset

/-- ENDPOINT_RESET (R47, R50, R494): PERST_N goes low (`perst`), or a Hot Reset arrives. -/
def execEndpointReset (perst : Bool) (s : State) : Out :=
  let t := if perst then s.put PX_PERST 1 else s
  if s.get RESETTING ≠ 0 then .next t
  else if perst || s.linkUp then run s (t.pxEvent (if perst then 4 else 3))
  else .next t

/-- LINK_DOWN (R47): the endpoint link goes down, which resets the endpoint, or the device with PERST_SCOPE 1. -/
def execLinkDown (s : State) : Out := live s fun s => if s.linkUp then s.pxEvent 3 else s

/-- PERST_N_RELEASE (R51): PERST_N goes high; the endpoint may begin link training. -/
def execPerstNRelease (s : State) : Out :=
  let t := s.put PX_PERST 0
  if s.get RESETTING ≠ 0 || s.mode = mDORMANT then .next t else run s t.pxTrain

/-- ASPM_L1_CHANGE (R492): the link enters or leaves L1 or L1.1, which the host has enabled; an exit in DORMANT is a wake
event (R493). -/
def execAspmL1Change (enter : Bool) (s : State) : Out :=
  live s fun s =>
    if !s.linkUp then s
    else if enter then (if s.aspmL1 && s.mode ≠ mDORMANT then s.put PX_LINK.L1 1 else s)
    else if s.mode = mDORMANT then (s.orBit PX_OWED 1).wakeEvent 3 0
    else
      let t := s.put PX_LINK.L1 0
      if s.drowsy && s.flag PX_LINK.L1 then t.wakeEvent 3 0 else t

/-- SYN0 relocks, or does not (R319, R776); the count goes on from its value. (DEDUCED, log entry 59.) -/
def State.tbWake (s : State) (late : Bool) : State :=
  let s := s.put BS_TBSTAT.LF 0
  if s.flag BS_TBCTL.EN then
    let s := s.syn0Start (s.get BS_TBSTAT.REF_ACT)
    (if late then s.synTimeout 0 else (s.put CK_SYNSTAT.BUSY 0 0).synSteady 0).tbFollow
  else s

/-- Table PW-13, steps 3 to 7, up to the release of plots: `avs` whether the commit and its voltage read were good,
`late` the synthesisers (bits 0 to 5) and quad PLLs (bits 6 to 15) whose lock timed out. -/
def State.wakeUp (s : State) (avs : Bool) (late ms ns : Nat) : State :=
  let s := ((s.put PW_DMSTAT.PHASE dmAWAKE).put PW_DMTIME.DUR ms).put PW_DMWAKET.NS ns
  let s := s.logWake
  let s := if avs then s else s.freeze
  let s := ((s.ckWake late).slWake (late / 64)).tbWake (bit late 0)
  let s := (s.forget [LF_LIVE]).cuesRejudge
  let s := s.coreGo.setMode mRUN 7
  let s := ((s.put PX_PAUSE 0).put PW_MODE.BUSY 0).dmUnfence
  let s := ((s.hxWake.channelsFollow).put GOV_FRESH 0).put GOV_DOWN 0
  let s := if bit (s.get PX_OWED) 1 then s.put PX_LINK.L1 0 else s
  let owed := bit (s.get PX_OWED) 0
  let s := ((s.put PX_OWED 0).put PW_DMIRQ.WOKE 1).raise Rc.PW_DM_WAKE (s.get PW_DMSTAT.CAUSE) (s.get PW_DMSTAT.CIDX)
  let s := s.ogSchedule
  let s := (List.range 256).foldl (fun u n => if u.routed n && u.level n then u.edge n else u) s
  if owed then s.linkLost.pxReset else s

end Sys2Proof.Machine
end

