-- ==== Sys2Proof/Machine/Gate.lean ====
section
/-! DEFINITION. spec/17: the Gatehouse command interface and its commands on keys, signers, sealing, debug access and
resets; the protected-register unlock; the tamper sources. -/

namespace Sys2Proof.Machine

/-! The interface (R627, R628). -/

/-- Table GH-2: whether an identity is permitted a command. (DEDUCED, log entry 50.) -/
def State.permitted (s : State) (m : Master) (op : Nat) : Bool :=
  match m with
  | .host | .lodgeM | .debug => true
  | .hokuoxRemote => s.flag GH_POLICY.REMOTE_CMD && [6, 7, 8, 0xC].contains op
  | _ => false

/-- Whether a write of a master counts as one of the interface's holder (R628, R652). -/
def State.holds (s : State) (m : Master) : Bool :=
  m = .gatehouse || (s.get GH_CMDOWN.OWNER ≠ 7 && s.asOwner m (s.get GH_CMDOWN.OWNER))

/-- The effect of a word written to GH_CMDOWN (R627); the firmware acts without the interface.
(DEDUCED, log entries 50, 57.) -/
def wrCmdown (m : Master) (w : Nat) (s : State) : State :=
  let owner := s.get GH_CMDOWN.OWNER
  let s := if bit w 3 && m ≠ .gatehouse then
      if !s.permitted m 6 then s.refuse Rc.GH_NOT_PERMITTED m.code m 0x28
      else if owner = 7 then s.put GH_CMDOWN.OWNER m.code
      else if owner ≠ m.code then s.refuse Rc.GH_CMD_HELD owner m 0x28
      else s
    else s
  if bit w 4 && s.get GH_CMDOWN.OWNER = m.code then s.cmdFree else s

/-- CMD_CLAIM (R627): a write of CLAIM to GH_CMDOWN. -/
def execCmdClaim (m : Master) (s : State) : Out := live s fun s => s.onWrite m 0x28 8 (wrCmdown m 8)

/-- CMD_RELEASE (R627): a write of RELEASE to GH_CMDOWN. -/
def execCmdRelease (m : Master) (s : State) : Out := live s fun s => s.onWrite m 0x28 16 (wrCmdown m 16)

/-- CMD_INTERFACE_TIMEOUT (R627): 100 ms without an access by the holder, STATE neither BUSY nor PENDING. -/
def execCmdInterfaceTimeout (s : State) : Out :=
  live s fun s =>
    if s.get GH_CMDOWN.OWNER ≠ 7 && s.get GH_STATUS.STATE ≠ 1 && s.get GH_STATUS.STATE ≠ 4 && s.get CMD_OP = 0 then s.cmdFree
    else s

/-- The effect of a word written to GH_ARG0 to GH_ARG3 or GH_DBUF (R628). -/
def wrGhArg (m : Master) (r : Reg) (i w : Nat) (s : State) : State := s.writeReg m r i w (s.holds m)

/-- A read of one of them: 0 for any master but the holder (R628). -/
def rdGhArg (m : Master) (r : Reg) (i : Nat) (s : State) : Nat × State :=
  (if m.code = s.get GH_CMDOWN.OWNER then s.readReg r i else 0, s)

/-- Byte i of the data buffer. -/
def State.bufByte (s : State) (i : Nat) : Nat := s.get GH_DBUF.DATA (i / 4) / 256 ^ (i % 4) % 256

/-- Bytes of the data buffer. -/
def State.bufBytes (s : State) (a n : Nat) : List Nat := (List.range n).map fun i => s.bufByte (a + i)

/-- Write bytes at the start of the data buffer, by whole words. -/
def State.bufPut (s : State) (l : List Nat) : State :=
  (List.range (l.length / 4)).foldl (fun u i => u.put GH_DBUF.DATA (ofBytesLE ((l.drop (4 * i)).take 4)) i) s

/-- A big-endian byte string as a number, and back. -/
def ofBytesBE (l : List Nat) : Nat := l.foldl (fun v b => 256 * v + b % 256) 0
def bytesBE (n v : Nat) : List Nat := (bytesLE n v).reverse

/-- R628: modes that permit a command (Tables GH-1 and UP-1; R685). -/
def opModes (op : Nat) : List Nat :=
  match op with
  | 0x01 | 0x02 | 0x03 => [mRESCUE, mLOAD, mHOLD, mRUN]
  | 0x05 => [mLOAD, mHOLD, mRUN]
  | 0x06 | 0x07 => [mRESCUE, mHOLD, mRUN]
  | 0x08 => [mRESCUE, mLOAD, mHOLD, mRUN]
  | 0x09 => [mHOLD, mRESCUE]
  | 0x0A => [mRESCUE, mLOAD, mHOLD, mRUN, mDORMANT]
  | 0x0D | 0x0E => [mRESCUE, mHOLD, mRUN]
  | 0x0F => [mRESCUE, mHOLD]
  | _ => [mRESCUE, mLOAD, mHOLD, mRUN, mDORMANT, mTEST]

/-- The bits of GH_ARG0 that a command uses, and how many of the arguments (Table GH-1, R628). -/
def opArgs (op : Nat) : Nat × Nat :=
  match op with
  | 0x01 => (0x30177, 1) | 0x02 => (0x7, 2) | 0x03 => (0x70, 1) | 0x04 => (2 ^ 32 - 1, 1) | 0x05 => (0x3F0F, 4)
  | 0x06 => (0x3, 4) | 0x08 => (0x1, 1) | 0x0A => (0x331, 1) | 0x0D => (0x1373, 1) | 0x0E => (0x303, 1)
  | 0x0F => (2 ^ 32 - 1, 1) | _ => (0, 0)

/-- R628: an argument is reserved or out of range. -/
def State.argsBad (s : State) (op : Nat) : Bool :=
  let a := s.get GH_ARG.ARG 0
  let u := opArgs op
  a &&& (2 ^ 32 - 1 - u.1) ≠ 0 || ((List.range 4).any fun i => u.2 ≤ i && s.get GH_ARG.ARG i ≠ 0) ||
    match op with
    | 0x01 => bits a 16 2 = 0
    | 0x02 => bits a 0 3 < 2 && s.get GH_ARG.ARG 1 ≠ 0x4B494C4C
    | 0x04 => a ≠ 0x5A45524F
    | 0x05 => bits a 0 2 = 3 || 2 ≤ bits a 2 2
    | 0x06 => 2 ≤ bits a 0 2 || s.get GH_ARG.ARG 3 ≠ 0
    | 0x0A => bits a 0 1 = 0 && !([1, 2].contains (bits a 4 2))
    | 0x0F => a ≠ 0x5345414C
    | _ => false

/-- R685: the mode does not accept this LOAD_START. -/
def State.loadMode (s : State) : Bool :=
  let a := s.get GH_ARG.ARG 0
  if bits a 0 2 = 0 then s.mode = mLOAD && s.get MODE_PINS = 1 && bits a 2 2 = 0 else s.mode = mHOLD || s.mode = mRUN

/-- R628: the checks before a command runs. -/
def State.ghCheck (s : State) (m : Master) (op : Nat) : Option (Rc × Nat) :=
  if s.get CMD_OP ≠ 0 then some (Rc.GH_BUSY, op)
  else if !((opModes op).contains s.mode) then some (Rc.GH_WRONG_MODE, s.mode)
  else if !s.permitted m op then some (Rc.GH_NOT_PERMITTED, m.code)
  else if op = 0 || 0xF < op || s.argsBad op then some (Rc.GH_BAD_CMD, op)
  else if op = 5 && !s.loadMode then some (Rc.GH_WRONG_MODE, s.mode)
  else none

/-- R629: a key command clears the data buffer when it ends. (DEDUCED, log entries 51, 54.) -/
def State.keyCmdEnd (s : State) (op : Nat) : State := if op = 1 || op = 2 || op = 3 then s.bufClear else s

/-- A write of OP to GH_CMD (R628, R629): the checks, then the command itself. -/
def State.ghCommand (s : State) (m : Master) (op : Nat) (body : State → State) : State :=
  if s.get GH_CMDOWN.OWNER ≠ m.code then s.raise Rc.GH_CMD_HELD (s.get GH_CMDOWN.OWNER) (writeDetail m 0x24)
  else
    let s := s.put GH_STATUS.OP op
    match s.ghCheck m op with
    | some (c, obj) => (s.cmdFailAs c obj (s.get GH_ARG.ARG 0)).keyCmdEnd op
    | none =>
      let s := ((s.cmdStatus 1 0).put CMD_OP op).put CMD_BY m.code
      body ((List.range 4).foldl (fun u i => u.put CMD_ARG (u.get GH_ARG.ARG i) i) s)

/-! Key commands (R631 to R641, R861). -/

/-- A command that fails for the state of a key slot (R629). (DEDUCED, log entry 54.) -/
def State.cmdFailSlot (s : State) (c : Rc) (k : Nat) : State :=
  let op := s.get CMD_OP
  if c = Rc.GH_BUSY then s.cmdOver.cmdFailAs c op (s.get CMD_ARG 0 + 2 ^ 32 * k + 2 ^ 35) else s.cmdFail c k

/-- A new key, now or pending (R634, R639). -/
def State.keyStore (s : State) (k key usage : Nat) : State :=
  if s.get GH_KSTAT.USE k = 0 then (s.keySet k key usage).cmdDone
  else
    let s := ((s.put KEY_NEW key k).put KEY_NUSE usage k).put GH_KSTAT.STATE ksPENDW k
    (s.put CMD_PSLOT (8 + k)).cmdOver.cmdStatus 4 0x0100

/-- KEY_WRITE (R632, R633, R861). -/
def runKeyWrite (s : State) : State :=
  let a := s.get CMD_ARG 0
  let k := bits a 0 3
  let kek := bits a 4 3
  let plain := bit a 8
  if plain && s.flag GH_IDENT.SEALED then (s.cmdFail Rc.GH_SEALED 1).bufClear
  else if plain && k < 6 then (s.cmdFail Rc.GH_KEY_SLOT k).bufClear
  else if k = 0 || (k = 1 && s.flag KS1_WRITTEN) || s.flag GH_KSTAT.KILLED k then (s.cmdFail Rc.GH_KEY_SLOT k).bufClear
  else if s.keyPending k then (s.cmdFail Rc.GH_KEY_PENDING k).bufClear
  else if plain then (s.keyStore k (ofBytesBE (s.bufBytes 0 32)) (bits a 16 2)).bufClear
  else if kek = k || (k = 1 && kek ≠ 0) then (s.cmdFail Rc.GH_KEY_SLOT k).bufClear
  else
    match s.keyBad kek 0 with
    | some c => (s.cmdFailSlot c kek).bufClear
    | none =>
      match Config.keyUnwrap (s.get KEY_VAL kek) (s.bufBytes 0 40) with
      | some key => (s.keyUse kek).put CMD_KEY (key % 2 ^ 256)
      | none => (s.keyUse kek).put CMD_RES Rc.GH_UNWRAP_FAIL.num

/-- The end of a wrapped KEY_WRITE. -/
def endKeyWrite (s : State) : State :=
  let a := s.get CMD_ARG 0
  let s := s.keyDone (bits a 4 3)
  (if s.get CMD_RES = 0 then s.keyStore (bits a 0 3) (s.get CMD_KEY) (bits a 16 2)
   else s.cmdFail Rc.GH_UNWRAP_FAIL (bits a 0 3)).bufClear

/-- KEY_ERASE (R636, R639, R641). -/
def runKeyErase (s : State) : State :=
  let k := bits (s.get CMD_ARG 0) 0 3
  if s.flag GH_KSTAT.KILLED k then (s.cmdFail Rc.GH_KEY_SLOT k).bufClear
  else if s.keyPending k then (s.cmdFail Rc.GH_KEY_PENDING k).bufClear
  else if s.get GH_KSTAT.USE k = 0 then (s.keyErase k).cmdDone.bufClear
  else (((s.put GH_KSTAT.STATE ksPENDE k).put CMD_PSLOT (8 + k)).cmdOver.cmdStatus 4 0x0100).bufClear

/-- KEY_WRAP (R638). -/
def runKeyWrap (s : State) : State :=
  let kek := bits (s.get CMD_ARG 0) 4 3
  if s.flag GH_IDENT.SEALED then (s.cmdFail Rc.GH_SEALED 3).bufClear
  else
    match s.keyBad kek 0 with
    | some c => (s.cmdFailSlot c kek).bufClear
    | none => (s.keyUse kek).put CMD_KEY (ofBytesBE (s.bufBytes 0 32))

/-- Its end: the wrapped key in the first 40 bytes of the buffer. -/
def endKeyWrap (s : State) : State :=
  let kek := bits (s.get CMD_ARG 0) 4 3
  let out := (Config.keyWrap (s.get KEY_VAL kek) (s.get CMD_KEY)).take 40
  ((s.keyDone kek).cmdDone.bufClear).bufPut out

/-- KEY_WRITE: a write of OP 0x01 to GH_CMD. -/
def execKeyWrite (m : Master) (s : State) : Out :=
  live s fun s => s.onWrite m 0x24 0x01 fun s => s.ghCommand m 0x01 runKeyWrite

/-- KEY_ERASE: a write of OP 0x02 to GH_CMD. -/
def execKeyErase (m : Master) (s : State) : Out :=
  live s fun s => s.onWrite m 0x24 0x02 fun s => s.ghCommand m 0x02 runKeyErase

/-- KEY_WRAP: a write of OP 0x03 to GH_CMD. -/
def execKeyWrap (m : Master) (s : State) : Out :=
  live s fun s => s.onWrite m 0x24 0x03 fun s => s.ghCommand m 0x03 runKeyWrap

/-! Signers (R642 to R645). -/

/-- GH_PKSTAT.STATE codes. -/
def pkEMPTY : Nat := 0
def pkVALID : Nat := 1
def pkREVOKED : Nat := 2

/-- An authorisation block: the key bytes and the signature bytes, none where a length runs past `limit` (R642).
(DEDUCED, log entry 70.) -/
def authSplit (byte : Nat → Nat) (a limit : Nat) : Option (List Nat × List Nat) :=
  let word (x : Nat) := ofBytesLE ((List.range 4).map fun i => byte (x + i))
  let lk := word a
  let ls := word (a + 4)
  if limit < a + 8 + lk + ls then none
  else some ((List.range lk).map fun i => byte (a + 8 + i), (List.range ls).map fun i => byte (a + 8 + lk + i))

/-- Whether key and signature have the lengths and type codes of a parameter set of the kind (R642, RFC 8554). -/
def authFormat (kind : Nat) (key sig : List Nat) : Bool :=
  if kind = 0 then key.length = 97 && key.getD 0 0 = 4 && sig.length = 96
  else
    let be (l : List Nat) (x : Nat) := ofBytesBE ((l.drop x).take 4)
    let lms := be key 0
    let ots := be key 4
    let h := if lms = 6 then 10 else 15
    let p := if ots = 3 then 67 else 34
    key.length = 56 && (lms = 6 || lms = 7) && (ots = 3 || ots = 4) && sig.length = 12 + 32 * (1 + p + h) &&
      be sig 4 = ots && be sig (40 + 32 * p) = lms

/-- R643: whether PK slot n lets these key bytes sign a message with a usage bit (0 DEBUG, 1 UPDATE). -/
def State.signerBad (s : State) (n usage : Nat) (key sig msg : List Nat) : Option Rc :=
  if s.get GH_PKSTAT.STATE n = pkREVOKED then some Rc.GH_PK_REVOKED
  else if s.get GH_PKSTAT.STATE n = pkVALID && (if usage = 0 then s.flag GH_PKSTAT.DEBUG n else s.flag GH_PKSTAT.UPDATE n) &&
      Config.sha384 key = s.get PK_HASH n && Config.verifies (s.get GH_PKSTAT.KIND n) key sig msg then none
  else some Rc.GH_AUTH_FAIL

/-- The authorisation block of the data buffer at offset a: none where its format is refused, else what R643 gives.
(DEDUCED, log entry 70.) -/
def State.authCheck (s : State) (a n usage : Nat) (msg : List Nat) : Option (Option Rc) :=
  match authSplit s.bufByte a 3072 with
  | none => none
  | some (key, sig) =>
    if authFormat (s.get GH_PKSTAT.KIND n) key sig then some (s.signerBad n usage key sig msg) else none

/-- The die ID as signed messages carry it (R626). -/
def State.dieBytes (s : State) : List Nat := bytesLE 8 s.dieId

/-- A command goes on to its verification, or fails for the format of its block. -/
def State.cmdVerify (s : State) (r : Option (Option Rc)) : State :=
  match r with
  | none => s.cmdFail Rc.GH_BAD_CMD (s.get CMD_OP)
  | some none => s
  | some (some c) => s.put CMD_RES c.num

/-- The reason that a verification has given. -/
def State.cmdReason (s : State) : Rc :=
  if s.get CMD_RES = Rc.GH_PK_REVOKED.num then Rc.GH_PK_REVOKED else Rc.GH_AUTH_FAIL

/-- PK_PROGRAM (R644). -/
def runPkProgram (s : State) : State :=
  let a := s.get CMD_ARG 0
  let n := bits a 0 2
  let auth := bits a 8 2
  let s := s.put CMD_KEY (ofBytesBE (s.bufBytes 0 48))
  if s.get GH_PKSTAT.STATE n ≠ pkEMPTY then s.cmdFail Rc.GH_PK_SLOT n
  else if (List.range 4).any fun i => s.get GH_PKSTAT.STATE i = pkVALID then
    if !bit a 12 then s.cmdFail Rc.GH_AUTH_FAIL auth
    else s.cmdVerify (s.authCheck 48 auth 1 ([0x4C, 0x48, 0x50, 0x4B, n, bits a 4 3] ++ s.bufBytes 0 48 ++ s.dieBytes))
  else s

/-- Its end: the hash is fused. -/
def endPkProgram (s : State) : State :=
  let a := s.get CMD_ARG 0
  let n := bits a 0 2
  if s.get CMD_RES ≠ 0 then s.cmdFail s.cmdReason (bits a 8 2)
  else
    let s := ((s.put PK_HASH (s.get CMD_KEY) n).put GH_PKSTAT.HASH (s.get CMD_KEY / 2 ^ 368) n).put GH_PKSTAT.STATE pkVALID n
    (((s.put GH_PKSTAT.KIND (bits a 4 1) n).put GH_PKSTAT.DEBUG (bits a 5 1) n).put GH_PKSTAT.UPDATE (bits a 6 1) n).cmdDone

/-- Whether a VALID slot other than n has UPDATE usage. -/
def State.updateSigner (s : State) (n : Nat) : Bool :=
  (List.range 4).any fun i => i ≠ n && s.get GH_PKSTAT.STATE i = pkVALID && s.flag GH_PKSTAT.UPDATE i

/-- PK_REVOKE (R645). -/
def runPkRevoke (s : State) : State :=
  let a := s.get CMD_ARG 0
  let n := bits a 0 2
  let auth := bits a 8 2
  if s.get GH_PKSTAT.STATE n ≠ pkVALID || !s.updateSigner n then s.cmdFail Rc.GH_PK_SLOT n
  else if auth = n then s.cmdFail Rc.GH_AUTH_FAIL auth
  else s.cmdVerify (s.authCheck 0 auth 1 ([0x4C, 0x48, 0x50, 0x52, n] ++ s.dieBytes))

/-- Debug access ends (R655). (DEDUCED, log entries 51, 55.) -/
def State.debugEnd (s : State) : State := s.debugLock.put DBG_BYPK 0

/-- The end of PK_REVOKE. -/
def endPkRevoke (s : State) : State :=
  let a := s.get CMD_ARG 0
  let n := bits a 0 2
  if s.get CMD_RES ≠ 0 then s.cmdFail s.cmdReason (bits a 8 2)
  else
    let s := s.put GH_PKSTAT.STATE pkREVOKED n
    (if s.flag DBG_BYPK && s.get GH_DBGSTAT.SLOT = n then s.debugEnd else s).cmdDone

/-- PK_PROGRAM: a write of OP 0x0D to GH_CMD. -/
def execPkProgram (m : Master) (s : State) : Out :=
  live s fun s => s.onWrite m 0x24 0x0D fun s => s.ghCommand m 0x0D runPkProgram

/-- PK_REVOKE: a write of OP 0x0E to GH_CMD. -/
def execPkRevoke (m : Master) (s : State) : Out :=
  live s fun s => s.onWrite m 0x24 0x0E fun s => s.ghCommand m 0x0E runPkRevoke

/-- SEAL (R647, R648). -/
def runSeal (s : State) : State :=
  if s.flag GH_IDENT.SEALED then s.cmdFail Rc.GH_SEALED 0xF
  else if !s.updateSigner 4 then s.cmdFail Rc.GH_PK_SLOT 0
  else if !((List.range 6).any fun k => 1 ≤ k && s.get GH_KSTAT.STATE k = ksVALID && bit (s.get GH_KSTAT.USAGE k) 1) then
    s.cmdFail Rc.GH_KEY_EMPTY 0
  else (((s.put GH_IDENT.SEALED 1).put GH_POLICY.DBG_OPEN 0).raise Rc.GH_SEALED_NOW 0).cmdDone

/-- SEAL: a write of OP 0x0F to GH_CMD. -/
def execSeal (m : Master) (s : State) : Out :=
  live s fun s => s.onWrite m 0x24 0x0F fun s => s.ghCommand m 0x0F runSeal

/-! Debug access (R655 to R659). -/

/-- A grant of a debug level. (DEDUCED, log entries 52, 55.) -/
def State.debugGrant (s : State) (level slot detail : Nat) : State :=
  (((s.put GH_DBGSTAT.LEVEL level).put GH_DBGSTAT.SLOT slot).put DBG_FAILS 0).raise Rc.GH_DEBUG_GRANTED level detail

/-- R659: a failed PHASE 1. -/
def State.debugFailed (s : State) : State := s.count DBG_FAILS 1

/-- DEBUG_UNLOCK (R657, R658): PHASE 0 issues a challenge or grants at once; PHASE 1 begins to verify the response. After
the fourth failure a lockout may be running: whether it is, is a free value (its end is a matter of time).
(DEDUCED, log entries 52, 53.) -/
def runDebugUnlock (s : State) : State :=
  let a := s.get CMD_ARG 0
  let slot := bits a 8 2
  let phase1 := bit a 0
  let had := s.flag GH_DBGSTAT.CHALLENGED
  let locked := 4 ≤ s.get DBG_FAILS && s.fresh 1 = 1
  let s := if 4 ≤ s.get DBG_FAILS then s.drawn else s
  if locked then (if phase1 then s.put GH_DBGSTAT.CHALLENGED 0 else s).cmdFail Rc.GH_AUTH_FAIL slot
  else
    let s := s.put GH_DBGSTAT.CHALLENGED 0
    if phase1 then
      if !had then (s.debugFailed).cmdFail Rc.GH_NO_CHALLENGE 0
      else
        let msg := [0x4C, 0x48, 0x44, 0x42] ++ s.dieBytes ++ bytesLE 32 (s.get NONCE) ++ [s.get CH_LEVEL]
        match s.authCheck 0 slot 0 msg with
        | none => (s.debugFailed).cmdVerify none
        | r => s.cmdVerify r
    else if !s.flag GH_IDENT.SEALED && s.flag GH_POLICY.DBG_OPEN then
      ((s.debugGrant (bits a 4 2) 0 0x100).put DBG_BYPK 0).cmdDone
    else
      let n := s.fresh 256
      let s := ((s.drawn.put NONCE n).put CH_LEVEL (bits a 4 2)).put GH_DBGSTAT.CHALLENGED 1
      (s.bufPut (bytesLE 32 n ++ s.dieBytes)).cmdDone

/-- The end of PHASE 1. -/
def endDebugUnlock (s : State) : State :=
  let slot := bits (s.get CMD_ARG 0) 8 2
  if s.get CMD_RES ≠ 0 then (s.debugFailed).cmdFail s.cmdReason slot
  else (((s.debugGrant (s.get CH_LEVEL) slot slot).put DBG_BYPK 1).put GH_IRQ.DEBUG 1).cmdDone

/-- DEBUG_UNLOCK: a write of OP 0x0A to GH_CMD. -/
def execDebugUnlock (m : Master) (s : State) : Out :=
  live s fun s => s.onWrite m 0x24 0x0A fun s => s.ghCommand m 0x0A runDebugUnlock

/-- DEBUG_UNLOCK_RESPONSE: the same write with PHASE 1 in GH_ARG0. -/
def execDebugUnlockResponse (m : Master) (s : State) : Out :=
  live s fun s => s.onWrite m 0x24 0x0A fun s => s.ghCommand m 0x0A runDebugUnlock

/-- DEBUG_LOCK. -/
def runDebugLock (s : State) : State := s.debugEnd.cmdDone

/-- DEBUG_LOCK: a write of OP 0x0B to GH_CMD. -/
def execDebugLock (m : Master) (s : State) : Out :=
  live s fun s => s.onWrite m 0x24 0x0B fun s => s.ghCommand m 0x0B runDebugLock

/-- CHALLENGE_LAPSE (R657). -/
def execChallengeLapse (s : State) : Out :=
  live s fun s => (s.put GH_DBGSTAT.CHALLENGED 0).put NONCE 0

/-! ZEROIZE and DEVICE_RESET. -/

/-- ZEROIZE (R663). -/
def runZeroize (s : State) : State := (s.zeroise 0 (s.get CMD_BY)).cmdDone

/-- ZEROIZE: a write of OP 0x04 to GH_CMD. -/
def execZeroize (m : Master) (s : State) : Out :=
  live s fun s => s.onWrite m 0x24 0x04 fun s => s.ghCommand m 0x04 runZeroize

/-- DEVICE_RESET (R47). (DEDUCED, log entry 65.) -/
def runDeviceReset (s : State) : State :=
  ((s.put PW_RSTCAUSE.RST_MASTER (s.get CMD_BY)).cmdDone).warmReset 2

/-- DEVICE_RESET: a write of OP 0x0C to GH_CMD. -/
def execDeviceReset (m : Master) (s : State) : Out :=
  live s fun s => s.onWrite m 0x24 0x0C fun s => s.ghCommand m 0x0C runDeviceReset

/-- GH_COMMAND_END (R628, R629): the command that verifies, unwraps or wraps ends. -/
def execGhCommandEnd (s : State) : Out :=
  live s fun s =>
    match s.get CMD_OP with
    | 0x01 => endKeyWrite s
    | 0x03 => endKeyWrap s
    | 0x0A => endDebugUnlock s
    | 0x0D => endPkProgram s
    | 0x0E => endPkRevoke s
    | _ => s

/-! The protected-register unlock (R649 to R651). -/

/-- R649: who may open it. -/
def State.mayUnlock (s : State) (m : Master) : Bool :=
  match m with
  | .host => s.flag GH_POLICY.UNLOCK_HOST
  | .lodgeM => true
  | .debug => 1 ≤ s.get GH_DBGSTAT.LEVEL
  | _ => false

/-- The effect of a word written to GH_UNLOCK (R649 to R651). -/
def wrUnlock (m : Master) (w : Nat) (s : State) : State :=
  let others := s.flag GH_STATUS.UNLOCK_OPEN && s.get GH_STATUS.UNLOCK_ID ≠ m.code
  let bad (d : Nat) := s.raise Rc.GH_UNLOCK_SEQ m.code d
  if w = 0 && s.flag GH_STATUS.UNLOCK_OPEN && !others then s.unlockClose
  else if w = 0xA5C3 then
    if s.mayUnlock m && !others then (s.put UNL_LEFT 33 m.code).put UNL_ABORT 0 m.code else bad 0
  else if w = 0x3C5A then
    if s.flag UNL_ABORT m.code then (bad 1).put UNL_ABORT 0 m.code
    else if s.mayUnlock m && !others && s.get UNL_LEFT m.code ≠ 0 then
      let s := ((s.put UNL_LEFT 0 m.code).put GH_STATUS.UNLOCK_OPEN 1).put GH_STATUS.UNLOCK_ID m.code
      (s.raise Rc.GH_UNLOCK_OPEN m.code).put GH_IRQ.UNLOCK 1
    else bad 0
  else bad 0

/-- UNLOCK_KEY_WRITE (R649): a write to GH_UNLOCK. -/
def execUnlockKeyWrite (m : Master) (w : Word) (s : State) : Out :=
  live s fun s => s.onWrite m 0x1C w.toNat (wrUnlock m w.toNat)

/-- UNLOCK_EXPIRY (R651). -/
def execUnlockExpiry (s : State) : Out := live s fun s => s.unlockClose

/-! Tamper (R660 to R662). -/

/-- An event of source 1 TAMP0, 2 TAMP1, 3 mesh, 4 sensor, with its policy and its latched bit (R661, R773). -/
def State.tamperEvent (s : State) (source policy : Nat) (evt : Field) : State :=
  if policy = 0 then s
  else
    let s := (s.put evt 1).raise Rc.GH_TAMPER 0 source
    if policy = 2 then s.zeroise source 7
    else
      let s := s.put GH_IRQ.TAMPER 1
      if s.drowsy then s.wakeEvent 6 source else s

/-- Policy of tamper input n. -/
def State.tampPolicy (s : State) (n : Nat) : Nat := if n = 0 then s.get GH_TAMPCFG.TAMP0 else s.get GH_TAMPCFG.TAMP1

/-- What the battery domain does alone with an event at tamper input n (R662). -/
def State.battEvent (s : State) (n : Nat) : State :=
  let s := ((s.put GH_TAMPSTAT.BATT_EVT 1).put (if n = 0 then GH_TAMPSTAT.TAMP0_EVT else GH_TAMPSTAT.TAMP1_EVT) 1).put BATT_NEW 1
  if s.tampPolicy n = 2 then
    let s := [2, 3, 4, 5].foldl (fun u k => u.keyClear k) s
    if s.flag VAUX_LOW then s else s.put BATT_ZERO (n + 1)
  else s

/-- TAMPER_INPUT (R660 to R662): TAMPn_N has been low for 10 µs, or has returned high. -/
def execTamperInput (n : Fin 2) (low : Bool) (s : State) : Out :=
  let t := s.put (if n.val = 0 then GH_TAMPSTAT.TAMP0 else GH_TAMPSTAT.TAMP1) (b2n (!low))
  if !low then .next t
  else if s.get RESETTING ≠ 0 then .next (t.battEvent n)
  else run s (t.tamperEvent (n + 1) (t.tampPolicy n) (if n.val = 0 then GH_TAMPSTAT.TAMP0_EVT else GH_TAMPSTAT.TAMP1_EVT))

/-- MESH_MISMATCH (R660). -/
def execMeshMismatch (s : State) : Out :=
  live s fun s =>
    if s.flag GH_TAMPCFG.MESH_EN then s.tamperEvent 3 (s.get GH_TAMPCFG.MESH) GH_TAMPSTAT.MESH_EVT else s

/-- VBATT_OUT_OF_RANGE (R635, R662). -/
def execVbattOutOfRange (s : State) : Out :=
  let t := (s.put GH_TAMPCFG.TAMP0 0).put GH_TAMPCFG.TAMP1 0
  .next (if s.flag VAUX_LOW then ([2, 3, 4, 5].foldl (fun u k => u.keyClear k) t).put VBATT_LOST 1 else t)

/-- A field of GH_TAMPCFG takes its value, but on a sealed part it is never lowered (R648, R662). -/
def State.tampField (s : State) (f : Field) (w : Nat) : State :=
  let v := bits w f.lo f.width
  if !f.accepts v || (s.flag GH_IDENT.SEALED && v < s.get f) then s else s.put f v

/-- The effect of a word written to GH_TAMPCFG (R660, R662). (DEDUCED, log entry 61.) -/
def wrTampcfg (m : Master) (w : Nat) (s : State) : State :=
  if !s.unlocked m then s.writeDenied m 0x78 0
  else
    let fs := [GH_TAMPCFG.TAMP0, GH_TAMPCFG.TAMP1, GH_TAMPCFG.MESH, GH_TAMPCFG.SENSOR]
    let lower := s.flag GH_IDENT.SEALED && (fs ++ [GH_TAMPCFG.MESH_EN]).any fun f =>
      f.accepts (bits w f.lo f.width) && bits w f.lo f.width < s.get f
    let s := fs.foldl (fun u f => u.tampField f w) s
    let s := if lower then s.writeDenied m 0x78 0 else s
    let pins := [42, 43, 44, 45, 46, 47]
    if bit w 8 && !s.flag GH_TAMPCFG.MESH_EN then
      match s.claimAll lvGATEHOUSE pins with
      | .inl (c, p) => s.refuse c p m 0x78
      | .inr t => t.put GH_TAMPCFG.MESH_EN 1
    else if !bit w 8 && s.flag GH_TAMPCFG.MESH_EN && !s.flag GH_IDENT.SEALED then
      (s.dropAll lvGATEHOUSE pins).put GH_TAMPCFG.MESH_EN 0
    else s

/-- The effect of a word written to GH_POLICY: DBG_OPEN is fixed at 0 on a sealed part (R648). -/
def wrPolicy (m : Master) (w : Nat) (s : State) : State :=
  s.writeReg m GH_POLICY.reg 0 (if s.flag GH_IDENT.SEALED then clrBit w 0 else w)

end Sys2Proof.Machine
end

