-- ==== Sys2Proof/Machine/Frames.lean ====
section
/-! DEFINITION. spec/03: tile frames in configuration memory, what a frame may hold, and the checks over whole frames at
the end of a container. Word w of tile t is word 128 t + w of the region: its data plus 2 ^ 32 times its check bits. -/

namespace Sys2Proof.Machine

/-! Check bits of a frame word (R741). -/

/-- Hamming positions of data bits 0 to 31. -/
def cfgPositions : List Nat := (List.range 39).filter fun q => decide (3 ≤ q) && !([4, 8, 16, 32].contains q)

/-- c[5:0]. -/
def cfgLow (data : Nat) : Nat :=
  (List.range 32).foldl (fun c d => if bit data d then c ^^^ cfgPositions.getD d 0 else c) 0

/-- The seven check bits of a word. -/
def cfgEcc (data : Nat) : Nat :=
  let c := cfgLow data
  c + 64 * b2n (parity 32 data != parity 6 c)

/-- The syndrome S of a stored word. -/
def cfgSyndrome (v : Nat) : Nat :=
  (cfgLow (v % 2 ^ 32) ^^^ bits v 32 6) + 64 * b2n (parity 39 v)

/-- The stored word with its one faulty bit changed, none where the error is no correctable one.
(DEDUCED, log entry 92.) -/
def cfgCorrect (v : Nat) : Option Nat :=
  let sy := cfgSyndrome v
  let p := sy % 64
  if sy < 64 || 38 < p then none
  else if p = 0 then some (v ^^^ 2 ^ 38)
  else if [1, 2, 4, 8, 16, 32].contains p then some (v ^^^ (p * 2 ^ 32))
  else some (v ^^^ 2 ^ cfgPositions.idxOf p)

/-! Tiles (R93, R94, R129). -/

/-- The tile at a plot-local column and row. -/
def tileOf (plot col row : Nat) : Nat := 96 * (128 * (plot / 8) + row) + 12 * (plot % 8) + col

/-- The plot of a tile. -/
def plotOfTile (t : Nat) : Nat := 8 * (t / 96 / 128) + t % 96 / 12

/-- First word and number of words of a frame type (Table FB-6). -/
def frameBase (type : Nat) : Nat := match type with | 0 => 0 | 1 => 64 | _ => 112
def frameWords (type : Nat) : Nat := match type with | 0 => 64 | 1 => 48 | _ => 16

/-- The data of word w of tile t. -/
def State.cfgWord (s : State) (t w : Nat) : Nat := s.load .config (128 * t + w) % 2 ^ 32

/-- Write it with its check bits. -/
def State.cfgPut (s : State) (t w v : Nat) : State :=
  s.store .config (128 * t + w) (v % 2 ^ 32 + 2 ^ 32 * cfgEcc (v % 2 ^ 32))

/-- 32-bit words as one number, the first lowest. -/
def ofWords32 (ws : List Nat) : Nat := ws.foldr (fun w v => w % 2 ^ 32 + 2 ^ 32 * v) 0

/-- A frame of a tile as one number, by type-local frame bit. -/
def State.frame (s : State) (t type : Nat) : Nat :=
  ofWords32 ((List.range (frameWords type)).map fun i => s.cfgWord t (frameBase type + i))

/-- Write a frame. -/
def State.framePut (s : State) (t type : Nat) (ws : List Nat) : State :=
  (List.range (frameWords type)).foldl (fun u i => u.cfgPut t (frameBase type + i) (ws.getD i 0)) s

/-- The frames of a plot are zero again (R696). -/
def State.plotWipe (s : State) (p : Nat) : State :=
  { s with mem := s.mem.filter fun c =>
      c.1 < Region.base .config || Region.base .config + 2 ^ 32 ≤ c.1 || plotOfTile ((c.1 - Region.base .config) / 128) ≠ p }

/-- The tiles that hold any word other than 0, in ascending order. -/
def State.cfgTiles (s : State) : List Nat :=
  (s.mem.filterMap fun c =>
    if Region.base .config ≤ c.1 && c.1 < Region.base .config + 2 ^ 32 then some ((c.1 - Region.base .config) / 128)
    else none).foldr (fun t l => if l.head? = some t then l else t :: l) []

/-! What one frame may hold (R104, R130 to R134). -/

/-- R134 for LOGIC (Table FB-7). -/
def logicBad (v : Nat) : Bool :=
  (List.range 16).any fun c =>
    let x := v / 2 ^ (128 * c)
    bits x 70 2 ≠ 0 || bits x 118 10 ≠ 0 || bits x 65 2 = 3 || 4 < bits x 108 4

/-- R134 for ROUTE (Table FB-9). -/
def routeBad (v : Nat) : Bool :=
  ((List.range 128).any fun k => bit v (10 * k + 9) || (bit v (10 * k + 8) && bit v (10 * k + 5))) ||
    ((List.range 16).any fun t => bit v (1280 + 8 * t + 7) || (bit v (1280 + 8 * t + 6) && bit v (1280 + 8 * t + 5))) ||
    ([1408, 1424].any fun b => bits v (b + 8) 8 ≠ 0 || (bit v (b + 6) && bit v (b + 5))) ||
    ([1440, 1456].any fun b => bits v (b + 8) 8 ≠ 0) || bits v 1472 64 ≠ 0

/-- A hedge declaration that its limits refuse (R134). (DEDUCED, log entry 71.) -/
def declBad (w : Nat) : Bool :=
  let lim := if bit w 3 then 16 else 32
  let kind := bits w 1 2
  let req := bits w 6 6
  let cnt := bits w 18 5
  bits w 23 9 ≠ 0 ||
    (bit w 0 && (2 ≤ kind || lim ≤ req || lim ≤ bits w 12 6 || (kind = 0 && cnt ≠ 0) ||
      (kind = 1 && (cnt = 0 || 16 < cnt || lim < req + 2 * cnt))))

/-- R134 for STYLE (Table FB-10). -/
def styleBad (v : Nat) : Bool :=
  let w (i : Nat) := bits v (32 * i) 32
  bits (w 0) 1 31 ≠ 0 || ([1, 2, 3, 4].any fun i => bits (w i) 13 3 ≠ 0 || bits (w i) 22 10 ≠ 0) ||
    ([9, 10, 11, 12, 13, 14].any fun i => declBad (w i)) || bits (w 15) 10 6 ≠ 0 || bits (w 15) 26 6 ≠ 0

/-- The tile 64 columns (axis 0) or rows (axis 1) away, up or down; none off the array. -/
def rampTarget (t axis : Nat) (lower : Bool) : Option Nat :=
  let c := t % 96
  let r := t / 96
  if axis = 0 then (if lower then (if c < 64 then none else some (t - 64)) else if c < 32 then some (t + 64) else none)
  else if lower then (if r < 64 then none else some (t - 64 * 96)) else if r < 960 then some (t + 64 * 96) else none

/-- R104: an enabled on-ramp or arrival whose other end lies off the array. -/
def rampsOff (t v : Nat) : Bool :=
  [0, 1].any fun axis =>
    let on := v / 2 ^ (1408 + 16 * axis)
    let arr := v / 2 ^ (1440 + 16 * axis)
    (bit on 6 && (rampTarget t axis (bit on 7)).isNone) || (bit arr 0 && (rampTarget t axis (!bit arr 1)).isNone)

/-- The frame check: FB_FRAME_RESERVED refuses a frame of a type for tile t (R104, R134). -/
def frameBad (t type v : Nat) : Bool :=
  match type with
  | 0 => logicBad v
  | 1 => routeBad v || rampsOff t v
  | _ => styleBad v

/-! Checks at the end of a container. -/

/-- R99: tile t is dual-rail and one of its pairs differs in LATCH, INIT or ACK_IN. -/
def State.pairBad (s : State) (t : Nat) : Bool :=
  let v := s.frame t 0
  bit (s.frame t 2) 0 && (List.range 8).any fun k =>
    let a := v / 2 ^ (256 * k)
    let b := v / 2 ^ (256 * k + 128)
    bits a 65 3 ≠ bits b 65 3 || bits a 112 6 ≠ bits b 112 6

/-- R104: the segment of a track that passes a coordinate: its first coordinate and its end, exclusive, along an axis of
n tiles. -/
def segmentOf (track x n : Nat) : Nat × Nat :=
  let off := 2 * (track % 8)
  if x < off then (0, off) else (off + 16 * ((x - off) / 16), min n (off + 16 * ((x - off) / 16) + 16))

/-- What tile t drives that only one tile may drive, each as a number: avenue segments, the arrivals of its on-ramps, its
user interrupt line and its event line (R104, R112). -/
def State.tileDrives (s : State) (t : Nat) : List Nat :=
  let rt := s.frame t 1
  let w15 := bits (s.frame t 2) 480 32
  let c := t % 96
  let r := t / 96
  let aves := (List.range 16).filterMap fun k =>
    if bit rt (1280 + 8 * k + 6) then
      some (if k < 8 then 8 * ((segmentOf k c 96).1 + 1024 * r + 2 ^ 20 * k)
        else 8 * ((segmentOf k r 1024).1 + 1024 * c + 2 ^ 20 * k))
    else none
  let ramps := [0, 1].filterMap fun axis =>
    let on := rt / 2 ^ (1408 + 16 * axis)
    if bit on 6 then (rampTarget t axis (bit on 7)).map fun x => 8 * (2 * x + axis) + 1 else none
  aves ++ ramps ++ (if bit w15 0 then [8 * bits w15 1 4 + 2] else []) ++ (if bit w15 16 then [8 * bits w15 17 4 + 3] else [])

/-- Whether a tile takes part in the check of a plot, or of the whole array. -/
def inScope (plot : Option Nat) (t : Nat) : Bool := match plot with | none => true | some p => plotOfTile t = p

/-- FB_ROUTE_CONFLICT: two tiles drive one segment, arrival or line, one of them in scope (R104, R112, R128). -/
def State.routeConflict (s : State) (plot : Option Nat) : Bool :=
  let drives := s.cfgTiles.flatMap fun t => (s.tileDrives t).map fun k => (k, t)
  drives.any fun a => inScope plot a.2 && drives.any fun b => b.1 = a.1 && b.2 ≠ a.2

/-- The neighbour of tile t across an edge (0 N, 1 E, 2 S, 3 W). -/
def tileNext (t edge : Nat) : Option Nat :=
  match edge with
  | 0 => if t / 96 < 1023 then some (t + 96) else none
  | 1 => if t % 96 < 95 then some (t + 1) else none
  | 2 => if 96 ≤ t then some (t - 96) else none
  | _ => if t % 96 = 0 then none else some (t - 1)

/-- The VALID hedge declarations of a tile (Table FB-10). -/
def State.decls (s : State) (t : Nat) : List Nat :=
  ((List.range 6).map fun d => s.cfgWord t (112 + 9 + d)).filter fun w => bit w 0

/-- R128: the crossing from tile a across its edge into tile b, on a path wire (class 0) or an avenue track (class 1), is
covered by a declaration of the requesting side: as a request or data wire of tile a, or as the acknowledge of tile b's
channel. (DEDUCED, log entry 71.) -/
def State.declared (s : State) (a b edge cls wire : Nat) : Bool :=
  ((s.decls a).any fun w => bits w 3 1 = cls && bits w 4 2 = edge &&
      (bits w 1 2 = 0 || (bits w 6 6 ≤ wire && wire < bits w 6 6 + 2 * bits w 18 5))) ||
    ((s.decls b).any fun w => bits w 3 1 = cls && bits w 4 2 = (edge + 2) % 4 && bits w 12 6 = wire)

/-- An enabled path wire of tile t that crosses a hedge undeclared. -/
def State.pathCrosses (s : State) (plot : Option Nat) (t : Nat) : Bool :=
  let rt := s.frame t 1
  (List.range 4).any fun e =>
    match tileNext t e with
    | none => false
    | some b =>
      plotOfTile b ≠ plotOfTile t && (inScope plot t || inScope plot b) &&
        (List.range 32).any fun w => bit rt (10 * (32 * e + w) + 8) && !(s.declared t b e 0 w)

/-- A driven avenue segment of tile t that crosses a hedge undeclared, away from its driver on either side. -/
def State.avenueCrosses (s : State) (plot : Option Nat) (t : Nat) : Bool :=
  let rt := s.frame t 1
  let c := t % 96
  let r := t / 96
  (List.range 16).any fun k =>
    bit rt (1280 + 8 * k + 6) &&
      let h := k < 8
      let x := if h then c else r
      let seg := segmentOf k x (if h then 96 else 1024)
      let tileAt (y : Nat) := if h then 96 * r + y else 96 * y + c
      (List.range (seg.2 - seg.1 - 1)).any fun i =>
        let y := seg.1 + i
        let lo := tileAt y
        let hi := tileAt (y + 1)
        let away := x ≤ y
        let a := if away then lo else hi
        let b := if away then hi else lo
        let edge := if h then (if away then 1 else 3) else if away then 0 else 2
        plotOfTile a ≠ plotOfTile b && (inScope plot t || inScope plot a || inScope plot b) && !(s.declared a b edge 1 k)

/-- The route checks (Table GH-16): FULL over every tile, PLOT where a tile of the plot takes part (R128). -/
def State.routeCheck (s : State) (plot : Option Nat) : Option Rc :=
  if s.routeConflict plot then some Rc.FB_ROUTE_CONFLICT
  else if s.cfgTiles.any fun t => s.pathCrosses plot t || s.avenueCrosses plot t then some Rc.FB_HEDGE_UNDECLARED
  else none

end Sys2Proof.Machine
end

