-- ==== Sys2Proof/Machine/UpBase.lean ====
section
/-! DEFINITION. spec/18 and 19: the configuration flash as the firmware reads and writes it: boot records, area records
and their components, the settings image; what a trial start does at HOLD and in RESCUE. -/

namespace Sys2Proof.Machine

/-! Flash bytes. -/

def State.flashLE (s : State) (a n : Nat) : Nat := ofBytesLE ((List.range n).map fun i => s.load .flash (a + i))
def State.flashBytes (s : State) (a n : Nat) : List Nat := (List.range n).map fun i => s.load .flash (a + i)

/-- Erase and program bytes from a. -/
def State.flashPut (s : State) (a : Nat) (l : List Nat) : State :=
  l.zipIdx.foldl (fun u x => u.store .flash (a + x.2) (x.1 % 256)) s

/-- Four ASCII bytes as a little-endian word. -/
def magic (a b c d : Nat) : Nat := a + 256 * b + 65536 * c + 16777216 * d

/-! Boot records (R671, Table GH-12). -/

/-- Byte where copy c of the boot record starts. -/
def brBase (c : Nat) : Nat := 0x1000 * c

/-- Fields of copy c. -/
def State.brFlags (s : State) (c : Nat) : Nat := s.flashLE (brBase c + 6) 2
def State.brArea (s : State) (c x : Nat) : Nat := s.flashLE (brBase c + 8 + 4 * x) 4
def State.brSize (s : State) (c : Nat) : Nat := s.flashLE (brBase c + 16) 4
def State.brSeq (s : State) (c : Nat) : Nat := s.flashLE (brBase c + 20) 4

/-- Whether copy c is valid. -/
def State.brValid (s : State) (c : Nat) : Bool :=
  let a := s.brArea c 0
  let b := s.brArea c 1
  let n := s.brSize c
  s.flashLE (brBase c) 4 = magic 0x4C 0x48 0x42 0x52 && s.flashLE (brBase c + 4) 2 = 1 &&
    crc32c (s.flashBytes (brBase c) 60) = s.flashLE (brBase c + 60) 4 &&
    a % 4096 = 0 && b % 4096 = 0 && a + n ≤ s.get FLASH_SIZE && b + n ≤ s.get FLASH_SIZE &&
    (a + n ≤ b || b + n ≤ a) && 0x30000 ≤ a && 0x30000 ≤ b

/-- The copy in use, none without a valid one. -/
def State.brUsed (s : State) : Option Nat :=
  if s.brValid 0 && (!s.brValid 1 || s.brSeq 1 ≤ s.brSeq 0) then some 0 else if s.brValid 1 then some 1 else none

/-- Of the record in use: the area named ACTIVE, TRIAL. -/
def State.brActive (s : State) : Nat := match s.brUsed with | some c => s.brFlags c % 2 | none => 0
def State.brTrial (s : State) : Bool := match s.brUsed with | some c => bit (s.brFlags c) 2 | none => false

/-- R719: the size of an area where the session creates the layout. -/
def State.layoutSize (s : State) : Nat := (s.get FLASH_SIZE - 0x100000) / 2 / 65536 * 65536

/-- Start and size of area x, by the record in use or the layout to be created. -/
def State.areaBase (s : State) (x : Nat) : Nat :=
  match s.brUsed with | some c => s.brArea c x | none => 0x100000 + x * s.layoutSize
def State.areaSize (s : State) : Nat := match s.brUsed with | some c => s.brSize c | none => s.layoutSize

/-- A boot record written under R721: into the copy not in use, with SEQ one higher. -/
def State.writeBoot (s : State) (active : Nat) (trial fallback : Bool) : State :=
  let c := match s.brUsed with | some c => 1 - c | none => 0
  let seq := match s.brUsed with | some c => s.brSeq c + 1 | none => 1
  let body := bytesLE 4 (magic 0x4C 0x48 0x42 0x52) ++ bytesLE 2 1 ++ bytesLE 2 (active + 2 * b2n fallback + 4 * b2n trial) ++
    bytesLE 4 (s.areaBase 0) ++ bytesLE 4 (s.areaBase 1) ++ bytesLE 4 s.areaSize ++ bytesLE 4 seq ++ List.replicate 36 0
  (s.flashPut (brBase c) (body ++ bytesLE 4 (crc32c body))).put BR_COPY (c + 1)

/-! Area records (Table UP-7). -/

/-- Where the record of area x lies. -/
def State.recBase (s : State) (x : Nat) : Nat := s.areaBase x + s.areaSize - 4096

/-- Whether area x has a record. -/
def State.recThere (s : State) (x : Nat) : Bool :=
  4096 ≤ s.areaSize && s.flashLE (s.recBase x) 4 = magic 0x4C 0x48 0x41 0x52

/-- The tag over bytes 0 to 4,079. -/
def State.recTag (s : State) (body : List Nat) : Nat := Config.areaTag (s.get KEY_VAL 0) body

/-- Whether the record of area x is there and its tag holds. -/
def State.recGood (s : State) (x : Nat) : Bool :=
  s.recThere x && s.flashLE (s.recBase x + 4080) 16 = s.recTag (s.flashBytes (s.recBase x) 4080) % 2 ^ 128

/-- Write the body of a record of area x with its tag. -/
def State.recWrite (s : State) (x : Nat) (body : List Nat) : State :=
  s.flashPut (s.recBase x) (body ++ bytesLE 16 (s.recTag body))

/-- PREPARED is written into the record of area x (Table UP-9, R722). -/
def State.recPrepared (s : State) (x : Nat) (v : Bool) : State :=
  let b := s.flashBytes (s.recBase x) 4080
  s.recWrite x (b.take 7 ++ [(b.getD 7 0) % 2 + 2 * b2n v] ++ b.drop 8)

/-- Entry i of the record of area x: its place in flash. -/
def State.recEntry (s : State) (x i : Nat) : Nat := s.recBase x + 64 + 128 * i

/-- R707: the stored bytes of entry i. -/
def State.recStored (s : State) (x i : Nat) : List Nat :=
  let e := s.recEntry x i
  s.flashBytes (s.areaBase x + s.flashLE (e + 8) 4) (s.flashLE (e + 12) 4)

/-- R706: byte j of a component whose first block is b, under a key and IV. -/
def packStream (key iv b j : Nat) : Nat := Config.gcmStream key iv (16384 * b + j / 4) / 256 ^ (j % 4) % 256

/-- The plain bytes of entry i of area x (R706, R707). -/
def State.recPlain (s : State) (x i : Nat) : List Nat :=
  let r := s.recBase x
  let e := s.recEntry x i
  let l := s.recStored x i
  if s.load .flash (r + 41) % 2 = 0 || s.load .flash e = 1 then l
  else
    let key := s.get KEY_VAL (s.load .flash (r + 40) % 8)
    l.zipIdx.map fun z => z.1 ^^^ packStream key (s.flashLE (r + 42) 12) (s.flashLE (e + 16) 4) z.2

/-- R707: entry i passes: its check value, the key it needs, and the head of a firmware image. -/
def State.recEntryGood (s : State) (x i : Nat) : Bool :=
  let r := s.recBase x
  let e := s.recEntry x i
  let ctype := s.load .flash e
  let slot := s.load .flash (r + 40) % 8
  let p := s.recPlain x i
  let head := ofBytesLE (p.take 4)
  let len (a : Nat) := ofBytesLE ((p.drop a).take 4)
  Config.sha384 (s.recStored x i) % 2 ^ 384 = s.flashLE (e + 24) 48 &&
    (s.load .flash (r + 41) % 2 = 0 || ctype = 1 || (s.keyBad slot 1).isNone) &&
    match ctype with
    | 2 => head = magic 0x4C 0x48 0x4C 0x46 && len 4 % 4 = 0 && len 8 % 4 = 0 && len 4 ≤ 262144 && len 8 ≤ 262144 &&
        16 + len 4 + len 8 ≤ p.length
    | 3 | 4 | 5 => head = magic 0x4C 0x48 0x46 0x57 && p.getD 4 0 = ctype && p.getD 5 0 = 0xA1
    | _ => true

/-- R707: UP_AREA_BAD does not apply to area x. (DEDUCED, log entry 90.) -/
def State.areaGood (s : State) (x : Nat) : Bool :=
  !s.recThere x || (s.recGood x && (List.range (s.load .flash (s.recBase x + 6))).all fun i => s.recEntryGood x i)

/-- The entry of area x with a CTYPE. -/
def State.recFind (s : State) (x ctype : Nat) : Option Nat :=
  if s.recThere x then
    (List.range (min 6 (s.load .flash (s.recBase x + 6)))).find? fun i => s.load .flash (s.recEntry x i) = ctype
  else none

/-- LODGE_FW of area x goes to the Lodge memories (Table UP-4). (DESIGN CHOICE, log entry 77.) -/
def State.lodgeFirmware (s : State) (x : Nat) : State :=
  match s.recFind x 2 with
  | none => s
  | some i =>
    let p := s.recPlain x i
    let il := ofBytesLE ((p.drop 4).take 4)
    let dl := ofBytesLE ((p.drop 8).take 4)
    let s := (s.fillZero .lodgeI 0 65536 2048).fillZero .lodgeD 0 65536 2049
    let put (sel : Nat) (l : List Nat) (s : State) : State :=
      (List.range (l.length / 4)).foldl (fun u w => u.lgStore sel w (ofBytesLE ((l.drop (4 * w)).take 4))) s
    put 1 ((p.drop (16 + il)).take dl) (put 0 ((p.drop 16).take il) s)

/-! The settings image (R731 to R734). Its records end at the first word 0 after which no key can ascend. -/

/-- Base of settings copy c. -/
def setBase (c : Nat) : Nat := 0x10000 * (c + 1)

/-- A copy is valid when MAGIC, LEN and CRC are correct. -/
def State.setValid (s : State) (c : Nat) : Bool :=
  let b := setBase c
  let n := s.flashLE (b + 12) 4
  s.flashLE b 4 = magic 0x4C 0x48 0x53 0x54 && 20 ≤ n && n ≤ 65536 &&
    crc32c (s.flashBytes b (n - 4)) = s.flashLE (b + n - 4) 4

/-- The current copy. (DEDUCED, log entry 73.) -/
def State.setUsed (s : State) : Option Nat :=
  let seq (c : Nat) := s.flashLE (setBase c + 8) 4
  if s.setValid 0 && (!s.setValid 1 || seq 1 ≤ seq 0) then some 0 else if s.setValid 1 then some 1 else none

/-- Bytes of the image in private memory. -/
def State.setBytes (s : State) (a n : Nat) : List Nat := (List.range n).map fun i => s.load .settings (a + i)

/-- Replace the image: SCHEMA and records (key, data). -/
def State.setPutImage (s : State) (schema count : Nat) (recs : List Nat) : State :=
  let head := bytesLE 4 (magic 0x4C 0x48 0x53 0x54) ++ bytesLE 2 schema ++ bytesLE 2 count ++ bytesLE 4 0 ++
    bytesLE 4 (20 + recs.length)
  ((head ++ recs).zipIdx.foldl (fun u x => u.store .settings x.2 (x.1 % 256)) (s.wipe .settings)).put GH_SETCTL.SCHEMA schema

/-- R731: the current copy is loaded, or the empty image. (DEDUCED, log entry 73.) -/
def State.settingsLoad (s : State) : State :=
  let s := (s.put GH_SETCTL.DIRTY 0).put SET_MIGRATED 0
  match s.setUsed with
  | some c =>
    let b := setBase c
    (s.setPutImage (s.flashLE (b + 4) 2) (s.flashLE (b + 6) 2) (s.flashBytes (b + 16) (s.flashLE (b + 12) 4 - 20))).put
      SET_COPY (c + 1)
  | none => (s.setPutImage 0 0 []).put SET_COPY 0

/-- The bytes of one record. -/
def setRecord (key : Nat) (data : List Nat) : List Nat :=
  bytesLE 2 key ++ bytesLE 2 data.length ++ data ++ List.replicate ((4 - data.length % 4) % 4) 0

/-- The records from byte a of the image, after key `last` plus one: none where they are not well formed (Table
UP-11). -/
def setParse (byte : Nat → Nat) : Nat → Nat → Nat → Option (List (Nat × List Nat))
  | 0, _, _ => none
  | f + 1, a, last =>
    let key := byte a + 256 * byte (a + 1)
    let n := byte (a + 2) + 256 * byte (a + 3)
    if key = 0 && n = 0 then some []
    else if key < last || 1024 < n || 65532 < a + 4 + (n + 3) / 4 * 4 ||
        ((List.range ((4 - n % 4) % 4)).any fun i => byte (a + 4 + n + i) ≠ 0) then none
    else
      match setParse byte f (a + 4 + (n + 3) / 4 * 4) (key + 1) with
      | none => none
      | some r => some ((key, (List.range n).map fun i => byte (a + 4 + i)) :: r)

/-- The records of the image. -/
def State.setRecords (s : State) : Option (List (Nat × List Nat)) :=
  setParse (fun a => if a < 65536 then s.load .settings a else 0) 16400 16 0

/-- Their bytes. -/
def recordBytes (l : List (Nat × List Nat)) : List Nat := l.flatMap fun r => setRecord r.1 r.2

/-- Write the image to the copy that is not current, with SEQ one higher, LEN, COUNT and CRC recomputed (R734). -/
def State.settingsSave (s : State) (l : List (Nat × List Nat)) : State :=
  let c := match s.setUsed with | some c => 1 - c | none => 0
  let seq := match s.setUsed with | some c => s.flashLE (setBase c + 8) 4 + 1 | none => 1
  let recs := recordBytes l
  let body := s.setBytes 0 6 ++ bytesLE 2 l.length ++ bytesLE 4 seq ++ bytesLE 4 (20 + recs.length) ++ recs
  ((s.flashPut (setBase c) (body ++ bytesLE 4 (crc32c body))).put SET_COPY (c + 1)).put GH_SETCTL.DIRTY 0

/-- A record takes its place by ascending key. -/
def recordPut (key : Nat) (data : List Nat) (l : List (Nat × List Nat)) : List (Nat × List Nat) :=
  (l.filter fun r => r.1 < key) ++ [(key, data)] ++ l.filter fun r => key < r.1

/-- The rules of a SETTINGS component from rule i on, with the default data that is left (R732). -/
def migrateRules (p : List Nat) : Nat → Nat → List Nat → List (Nat × List Nat) → List (Nat × List Nat)
  | 0, _, _, l => l
  | f + 1, i, dflt, l =>
    let b (k : Nat) := p.getD (16 + 8 * i + k) 0
    let old := b 0 + 256 * b 1
    let new := b 2 + 256 * b 3
    let n := b 6 + 256 * b 7
    match b 4 with
    | 1 =>
      match l.find? fun r => r.1 = old with
      | none => migrateRules p f (i + 1) dflt l
      | some r => migrateRules p f (i + 1) dflt (recordPut new r.2 (l.filter fun r => r.1 ≠ old))
    | 2 => migrateRules p f (i + 1) dflt (l.filter fun r => r.1 ≠ old)
    | 3 =>
      let l' := if l.any fun r => r.1 = new then l else recordPut new (dflt.take n) l
      migrateRules p f (i + 1) (dflt.drop ((n + 3) / 4 * 4)) l'
    | _ => migrateRules p f (i + 1) dflt l

/-- R733: the image migrated by a SETTINGS component, none where migration fails. -/
def State.migrate (s : State) (p : List Nat) : Option State :=
  let le (a : Nat) := p.getD a 0 + 256 * p.getD (a + 1) 0
  let schema := s.get GH_SETCTL.SCHEMA
  let rules := le 8
  if ofBytesLE (p.take 4) ≠ magic 0x4C 0x48 0x53 0x4D then none
  else if schema = le 4 then
    match s.setRecords with
    | none => none
    | some l =>
      let l' := migrateRules p rules 0 (p.drop (16 + 8 * rules)) l
      let recs := recordBytes l'
      if 65536 < 20 + recs.length then none
      else some ((s.setPutImage (le 6) l'.length recs).put SET_MIGRATED 1)
  else if schema = le 6 then some s
  else none

/-! What a start does to a session (R725, R730). -/

/-- The session that the record of area x names: its PACKAGE_ID, its coordinator and its prologue. -/
def State.sessionFrom (s : State) (x : Nat) : State :=
  let r := s.recBase x
  let s := (s.put GH_UPPKG_LO.ID (s.flashLE (r + 8) 4)).put GH_UPPKG_HI.ID (s.flashLE (r + 12) 4)
  let s := ((s.put UP_CID (s.flashLE (r + 24) 8)).put GH_UPSTAT.COORD (s.load .flash (r + 7) % 2)).put GH_UPSTAT.AREA x
  let s := s.setList UP_PRO (s.flashBytes (s.areaBase x + s.flashLE (r + 32) 4) (s.flashLE (r + 36) 4))
  let s := if s.flag GH_UPSTAT.COORD then s.put UP_STEP 5 else s
  s.upTally

/-- R730: area x holds a PREPARED record that no valid boot record names; a coordinator knows that it has not committed.
(DEDUCED, log entry 85.) -/
def State.inDoubt (s : State) (x : Nat) : Bool :=
  s.recGood x && bits (s.load .flash (s.recBase x + 7)) 0 2 = 2 &&
    !((List.range 2).any fun c => s.brValid c && s.brFlags c % 2 = x)

/-- R730: the QUERY of an in-doubt device. -/
def State.upQuery (s : State) : State := s.broadcast clUPD 0x1C [s.upId, s.dieId]

/-- A device has reached HOLD from the flash area it started from (R725, R730, R733). (DEDUCED, log entry 85.) -/
def State.upHold (s : State) : State :=
  let x := s.get UP_BOOT - 1
  if s.get UP_BOOT = 0 then s
  else if s.flag UP_TRIAL then
    let s := s.sessionFrom s.brActive
    if x ≠ s.brActive then s.upSet usFALLBACK
    else
      let r := match s.recFind x 6 with
        | none => some s
        | some i => s.migrate (s.recPlain x i)
      match r with
      | some t => (t.upSet usSTARTED).upLog Rc.UP_TRIAL
      | none => s.upStop Rc.UP_SETTINGS
  else if s.inDoubt (1 - x) then (((s.sessionFrom (1 - x)).upSet usINDOUBT).upLog Rc.UP_INDOUBT).upQuery
  else s

/-- A trial start that enters RESCUE reports FALLBACK (R725). -/
def State.upRescue (s : State) : State :=
  if s.flag UP_TRIAL then
    ((s.sessionFrom s.brActive).upSet usFALLBACK)
  else s

end Sys2Proof.Machine
end

