-- ==== Sys2Proof/Machine/Container.lean ====
section
/-! DEFINITION. spec/18: configuration containers: their sources, the header, one command of the stream, what a failure
and a completed load leave, the flash as it is found; the release of the design. -/

namespace Sys2Proof.Machine

/-! Releasing the design (R690 to R693). -/

/-- Table GH-18: the first condition that refuses, or the state with the array's claims taken. -/
def State.releaseCheck (s : State) : (Rc × Nat) ⊕ State :=
  if s.mode ≠ mHOLD then .inl (Rc.PW_WRONG_MODE, s.mode)
  else if s.flag PW_MODE.BUSY then .inl (Rc.PW_MODE_BUSY, 0)
  else
    match (List.range 64).find? fun p => s.get FB_PSTAT.STATE p = pWRITING || s.get FB_PSTAT.STATE p = pSTAGING with
    | some p => .inl (Rc.FB_PLOT_BUSY, p)
    | none =>
      match s.allBlocksCheck with
      | some r => .inl r
      | none => s.arrayClaims none

/-- The effect of a word written to GH_CTL (R690, R691). -/
def wrGhCtl (m : Master) (w : Nat) (s : State) : State :=
  if bit w 0 then
    match s.releaseCheck with
    | .inl (c, obj) => s.refuse c obj m 0x4
    | .inr t =>
      let t := (t.setMode mRUN m.code).put PW_MODE.BUSY 1
      (((t.put REL_STEP 1).put REL_WANT (t.get GH_RELDOM.USED)).put REL_T2 (t.get GH_RELT2.T)).put REL_DONE 0
  else s

/-- A read of GH_CTL (R693). -/
def rdGhCtl (s : State) : Nat × State := (b2n (s.mode = mRUN || s.mode = mDORMANT), s)

/-- RUN_EN (R690): a write of 1 to GH_CTL.RUN_EN. -/
def execRunEn (m : Master) (s : State) : Out := live s fun s => s.onWrite m 0x4 1 (wrGhCtl m 1)

/-- The end of staged release (step 5); the domains then follow what holds them. -/
def State.releaseEnd (s : State) : State :=
  let s := ((s.put REL_STEP 0).put PW_MODE.BUSY 0).raise Rc.GH_RELEASED 0 (s.get REL_DONE)
  s.domainsFollow

/-- The domains still to come, less those that are held (R56, R569). -/
def State.releaseLeft (s : State) : List Nat :=
  (List.range 16).filter fun d => bit (s.get REL_WANT) d && !(s.domainWanted d)

/-- Step 2 of Table GH-19, after the held accesses have gone on. -/
def State.releaseOpen (s : State) : State :=
  let s := (List.range 16).foldl (fun u d => if bit (s.get REL_WANT) d || u.domainWanted d then u else u.freeDomain d) s
  let s := s.put REL_STEP 2
  if s.releaseLeft.isEmpty then s.releaseEnd else s

/-- Steps 3 and 4: the lowest domain that is not held leaves reset. -/
def State.releaseSlot (s : State) : State :=
  match s.releaseLeft with
  | [] => s.releaseEnd
  | d :: _ =>
    let s := ((s.freeDomain d).orBit REL_DONE d).put REL_WANT (s.get REL_WANT / 2 ^ (d + 1) * 2 ^ (d + 1))
    if s.releaseLeft.isEmpty then s.releaseEnd else s

/-! The bytes of the container in progress. -/

/-- Header byte i, and the little-endian number at it. -/
def State.hdrByte (s : State) (i : Nat) : Nat := (s.list CT_HEADER).getD i 0
def State.hdrLE (s : State) (a n : Nat) : Nat := ofBytesLE ((List.range n).map fun i => s.hdrByte (a + i))
def State.ctPlen (s : State) : Nat := s.hdrLE 20 4
def State.ctEnc (s : State) : Bool := bit (s.hdrByte 7) 0

/-- Byte i of the container where the source is flash or a neighbour; none where it is not there. -/
def State.ctByte (s : State) (i : Nat) : Option Nat :=
  match s.get CT_SRC with
  | 2 => none
  | 3 => (s.list CT_BYTES)[i]?
  | _ => if s.get FLASH_OK = 1 then some (s.load .flash (s.get CT_BASE + i)) else none

/-- Word k from the present command on, as stored: `ws` holds the words that the host's memory returned. -/
def State.ctStored (s : State) (ws : List Nat) (k : Nat) : Option Nat :=
  if s.get CT_SRC = 2 then ws[k]?
  else ((List.range 4).mapM fun j => s.ctByte (256 + s.get CT_POS + 4 * k + j)).map ofBytesLE

/-- The same word of the plaintext (R675). -/
def State.ctPlain (s : State) (ws : List Nat) (k : Nat) : Option Nat :=
  (s.ctStored ws k).map fun v =>
    if s.ctEnc then v ^^^ Config.gcmStream (s.get CT_KEY) (s.hdrLE 24 12) (s.get CT_POS / 4 + k) % 2 ^ 32 else v

/-! One command of the stream (Tables GH-15 and GH-16). -/

/-- What judges a command: its payload byte, the payload's length, the start of the span, its CRC register, whether a
CHECK came before it, the plot of a PLOT container, and whether that plot is STAGING. -/
structure CtView where
  pos : Nat
  plen : Nat
  span : Nat
  crc : Nat
  after : Bool
  plot : Option Nat
  staging : Bool

/-- What the stream check answers: not all of the command is there yet; a failure with the payload byte that it is
logged with; the words of the command. -/
inductive CtJudged where
  | wait
  | bad (c : Rc) (off : Nat)
  | ok (ws : List Nat)

/-- R679: the offsets that register commands may name. -/
def ctScope (plot : Option Nat) (off : Nat) : Bool :=
  match plot with
  | none => (0x1000 ≤ off && off < 0x80000 && !(0x38000 ≤ off && off < 0x39000)) || [0x98, 0x9C, 0xA0].contains off
  | some p =>
    (0x50000 ≤ off && off < 0x58000 && off % 16 = 0 && (off - 0x50000) / 16 / 32 = p) ||
      (0x58000 ≤ off && off < 0x58000 + 16 * 3072 && off % 16 = 0 && (off - 0x58000) / 16 / 48 = p)

/-- A command of t words in all: R681 for its span, the end of the payload, and whether its words are there. -/
def CtView.take (v : CtView) (word : Nat → Option Nat) (t : Nat) (k : List Nat → CtJudged) : CtJudged :=
  if v.span + 65536 < v.pos + 4 * t + 8 then .bad Rc.GH_CFG_CRC v.pos
  else if v.plen < v.pos + 4 * t then .bad Rc.GH_CFG_TRUNC v.plen
  else match (List.range t).mapM word with | none => .wait | some ws => k ws

/-- The second word of a command. -/
def CtView.second (v : CtView) (word : Nat → Option Nat) (k : Nat → CtJudged) : CtJudged :=
  if v.plen < v.pos + 8 then .bad Rc.GH_CFG_TRUNC v.plen
  else match word 1 with | none => .wait | some w => k w

/-- FRAME (R678). (DEDUCED, log entry 69.) -/
def judgeFrame (v : CtView) (word : Nat → Option Nat) (w : Nat) : CtJudged :=
  let type := bits w 8 2
  let plot := bits w 10 6
  let col := bits w 16 4
  let row := bits w 20 7
  let run := bits w 27 5 + 1
  let n := frameWords type
  if type = 3 || v.staging then .bad Rc.GH_CFG_CMD v.pos
  else if 12 ≤ col || 128 < row + run || !(v.plot = none || v.plot = some plot) then .bad Rc.GH_CFG_ADDR v.pos
  else v.take word (1 + run * n) fun ws =>
    if (List.range run).any fun k =>
        frameBad (tileOf plot col (row + k)) type (ofWords32 ((ws.drop (1 + k * n)).take n)) then
      .bad Rc.FB_FRAME_RESERVED v.pos
    else .ok ws

/-- PRELOAD (R678). -/
def judgePreload (v : CtView) (word : Nat → Option Nat) (w : Nat) : CtJudged :=
  v.second word fun w2 =>
    let count := bits w2 12 13
    let per := if bit w 19 then 3 else 2
    if bits w 20 12 ≠ 0 || bits w2 25 7 ≠ 0 || count = 0 || 4096 < count then .bad Rc.GH_CFG_CMD v.pos
    else if 4096 < bits w2 0 12 + count || !(v.plot = none || v.plot = some (bits w 8 11 / 32)) then
      .bad Rc.GH_CFG_ADDR v.pos
    else v.take word (2 + per * count) fun ws =>
      if per = 3 && (List.range count).any fun i => 256 ≤ ws.getD (4 + 3 * i) 0 then .bad Rc.GH_CFG_CMD v.pos else .ok ws

/-- REGW, REGFILL and POLL (R679, R680). (DEDUCED, log entry 69.) -/
def judgeReg (v : CtView) (word : Nat → Option Nat) (w : Nat) : CtJudged :=
  let scope (k : CtJudged) : CtJudged := if ctScope v.plot (4 * bits w 8 18) then k else .bad Rc.GH_CFG_SCOPE v.pos
  if bits w 26 6 ≠ 0 then .bad Rc.GH_CFG_CMD v.pos
  else if w % 256 = 3 then scope (v.take word 2 .ok)
  else if w % 256 = 7 then
    v.second word fun n =>
      if n = 0 || 16777215 < n then .bad Rc.GH_CFG_CMD v.pos else scope (v.take word (2 + n) .ok)
  else if v.plen < v.pos + 16 then .bad Rc.GH_CFG_TRUNC v.plen
  else
    match word 3 with
    | none => .wait
    | some t => if t = 0 || 1000000 < t then .bad Rc.GH_CFG_CMD v.pos else scope (v.take word 4 .ok)

/-- CHECK (R681): the CRC covers the span up to and with the command word. (DEDUCED, log entry 69.) -/
def judgeCheck (v : CtView) (word : Nat → Option Nat) (w : Nat) : CtJudged :=
  if w / 256 ≠ 0 then .bad Rc.GH_CFG_CMD v.pos
  else if v.span + 65536 < v.pos + 8 then .bad Rc.GH_CFG_CRC v.pos
  else v.second word fun c =>
    if (bytesLE 4 w).foldl crcByte v.crc ^^^ 0xFFFFFFFF = c then .ok [w, c] else .bad Rc.GH_CFG_CRC v.pos

/-- The stream check of the command at `pos`. (DEDUCED, log entry 69.) -/
def CtView.judge (v : CtView) (word : Nat → Option Nat) : CtJudged :=
  if v.plen < v.pos + 4 then .bad Rc.GH_CFG_TRUNC v.plen
  else
    match word 0 with
    | none => .wait
    | some w =>
      match w % 256 with
      | 1 => judgeFrame v word w
      | 2 => judgePreload v word w
      | 3 | 5 | 7 => judgeReg v word w
      | 4 => judgeCheck v word w
      | 6 => v.take word (1 + w / 256) .ok
      | 15 => if w / 256 ≠ 0 || !v.after || v.plen ≠ v.pos + 4 then .bad Rc.GH_CFG_CMD v.pos else .ok [w]
      | _ => .bad Rc.GH_CFG_CMD v.pos

/-- The row that a command word belongs to; reserved codes belong to NOP's. -/
def ctRow (w : Nat) : Nat := if [1, 2, 3, 4, 5, 7, 15].contains (w % 256) then w % 256 else 6

/-! What a failure leaves (R669, R696, R698). -/

/-- R669: the blocks other than GH, PW, PX and EV at their reset values; the endpoint's lanes and quad PLLs and the boot
port stay. (DEDUCED, log entry 75.) -/
def State.blocksReset (s : State) : State :=
  let boot := s.get MODE_PINS = 2 || s.get MODE_PINS = 3
  let s := (s.list HX_EPON).foldl (fun u e => u.epOff e) s
  let s := (List.range 8).foldl (fun u n => if u.flag HX_PCFG.EN n && !(boot && n = 0) then u.portStop n else u) s
  let s := (s.clearRange 0x24000 0x24100).clearRange 0x24140 0x28000
  let s := if boot then s else s.clearRange 0x24100 0x24140
  let s := s.forget [HX_RDIST, HX_ASGN, HX_DEEP, HX_CTAG]
  let s := s.ckStop.slStop
  let kept (u : State) (q : Nat) : Bool := u.quadPx q || (boot && q = 2)
  let s := (List.range 10).foldl (fun u q =>
    if kept u q then u
    else [SL_QCFG.reg, SL_QFRAC.reg, SL_QCTL.reg, SL_QSTAT.reg].foldl (fun v r => v.resetReg r q) u) s
  let s := (List.range 40).foldl (fun u l =>
    if kept u (l / 4) then u
    else
      [SL_LCFG.reg, SL_LCTL.reg, SL_LSTAT.reg, SL_LTXEQ.reg, SL_LRXEQ.reg, SL_LDFE0.reg, SL_LDFE1.reg, SL_LDFE2.reg,
        SL_LTEST.reg, SL_LPRBSERR.reg, SL_LEYE.reg, SL_LEYERES.reg, SL_LERR.reg, SL_LTXWC0.reg,
        SL_LMARK.reg].foldl (fun v r => v.resetReg r l) u) s
  let s := (s.clearRange 0x4000 0x5000).clearRange 0x7000 0x700C
  let s := (s.forget [SYN_REFSEL, SYN_RDIV, SYN_N, SYN_D, SYN_F, SYN_M, FM_SRC, REF_WAS_LOST]).designGone
  (s.pinsReset).clearRange 0x34000 0x38000

/-- The source code that stands first in the plan, or 7. -/
def State.planHead (s : State) : Nat := match s.list CT_PLAN with | [] => 7 | x :: _ => x % 8

/-- The next attempt of the plan begins (R668): a flash area, a neighbour; the host's begins with a LOAD_START; with none
left the device enters RESCUE. An item is its source code plus 8 times its flash offset plus 2 ^ 40 times its length. -/
def State.planNext (s : State) : State :=
  match s.list CT_PLAN with
  | [] => (s.enterRescue 7).upRescue
  | x :: _ =>
    if x % 8 = 2 then s
    else
      let s := (((s.put CT_ON 1).put CT_SRC (x % 8)).put GH_CFGSTAT.STAGE stHEADERS).put GH_CFGSTAT.SRC (x % 8)
      let s := (s.put GH_CFGPOS.BYTES 0).setList CT_BYTES []
      if x % 8 = 3 then (s.put CT_LEN (2 ^ 32 - 1)).cfgRequest
      else
        let s := ((s.put CT_BASE (x / 8 % 2 ^ 32)).put CT_LEN (x / 2 ^ 40)).put UP_BOOT (x % 8 + 1)
        s

/-- The endpoint is released to train, with the identity that is stored (steps 5 and 6 of Table GH-10). -/
def State.endpointFree (s : State) : State :=
  if s.flag PX_FREED then s
  else (((s.put PX_FREED 1).idTake).put SL_PXCFG.ACTIVE (s.get SL_PXCFG.WIDTH)).pxTrain

/-- The frames of a failed rewrite (R696). -/
def State.rewriteFailed (s : State) (p : Nat) (c : Rc) : State :=
  ((s.plotWipe p).setPlot p pFENCED hUSER).raise Rc.GH_REWRITE_FAIL p c.num

/-- A container ends in failure (R669, R685, R696, R698): `detail` is [31:0] of its record; a refusal of the release check
has been logged already. (DEDUCED, log entries 67, 75.) -/
def State.ctFailed (s : State) (c : Rc) (detail : Nat) (logged : Bool) : State :=
  let src := s.get CT_SRC
  let busy := s.flag CT_BUSY
  let rewrite := s.get CT_ON = 2
  let plot := s.get CT_PLOT
  let s := ((s.put GH_CFGSTAT.STAGE stFAILED).put GH_CFGSTAT.LAST c.num).put GH_CFGSTAT.FALLBACK 1
  let s :=
    if busy then s.cmdOver.cmdFailAs c src (detail % 2 ^ 32 + 2 ^ 32 * s.get CT_ARG0)
    else if logged then s
    else s.raise c src detail
  let s := s.ctClose
  if rewrite then
    let s := s.rewriteFailed plot c
    if busy then s else s.put GH_IRQ.CMD 1
  else
    let s := if src = 2 || src = 3 then s.put GH_CFGSTAT.ATTEMPTS (min 3 (s.get GH_CFGSTAT.ATTEMPTS + 1)) else s
    let again := (src = 2 || src = 3) && s.get GH_CFGSTAT.ATTEMPTS < 3
    let s := if again then s else s.setList CT_PLAN (s.list CT_PLAN).tail
    let s := ((s.wipe .config).blocksReset.endpointFree).raise Rc.GH_CFG_FALLBACK s.planHead
    (s.put UP_BOOT 0).planNext

/-- The same where the record is still to be written. (DEDUCED, log entry 67.) -/
def State.ctFail (s : State) (c : Rc) (detail : Nat) : State := s.ctFailed c detail false

/-! The header stage. -/

/-- The condition of Table GH-16 on the header `h` of a container: `kindOk` the kind and target that the operation
takes, `len` the bytes that the source holds. The key slot and the signature come after it. -/
def State.headerBad (s : State) (h : List Nat) (kindOk : Nat → Nat → Bool) (len : Nat) : Option Rc :=
  let b (i : Nat) := h.getD i 0
  let le (a n : Nat) := ofBytesLE ((List.range n).map fun i => b (a + i))
  let enc := bit (b 7) 0
  let signed := bit (b 7) 1
  let zero (a n : Nat) := le a n = 0
  if len < 256 || le 0 4 ≠ magic 0x4C 0x48 0x4C 0x42 then some Rc.GH_CFG_MAGIC
  else if le 4 2 ≠ 1 || 1 < b 6 || 8 ≤ b 7 || (if enc then b 12 = 0 || 7 < b 12 else b 12 ≠ 0) || 3 < b 13 ||
      (if b 6 = 1 then 63 < b 14 else b 14 ≠ 0) || b 15 ≠ 0 || 64 < le 16 4 || le 20 4 % 4 ≠ 0 || 10 < b 40 ||
      !([1, 2, 4, 8].contains (b 41)) || !zero 42 6 || !zero 56 8 || !zero 112 144 then some Rc.GH_CFG_HEADER
  else if le 8 2 ≠ 0x1536 || b 10 ≠ 0xA1 || !bit (b 11) (s.get GH_IDENT.PKG) then some Rc.GH_CFG_PART
  else if !kindOk (b 6) (b 14) then some Rc.GH_CFG_KIND
  else if s.flag GH_IDENT.SEALED && !(enc && signed) then some Rc.GH_SEALED
  else if le 16 4 < s.get GH_ARB.COUNT then some Rc.GH_ROLLBACK
  else if enc then s.keyBad (b 12) 1
  else none

/-- R676: the signature of a header under its SIGSLOT; a malformed block does not verify either. -/
def State.headerUnsigned (s : State) (h : List Nat) (byte : Nat → Nat) (len : Nat) : Option Rc :=
  let a := 272 + ofBytesLE ((h.drop 20).take 4)
  if !bit (h.getD 7 0) 1 then (if len < a then some Rc.GH_CFG_TRUNC else none)
  else if len < a + 8 then some Rc.GH_CFG_TRUNC
  else
    match authSplit byte a len with
    | none => some Rc.GH_CFG_TRUNC
    | some (key, sig) =>
      let n := h.getD 13 0 % 4
      if authFormat (s.get GH_PKSTAT.KIND n) key sig then
        s.signerBad n 1 key sig ([0x4C, 0x48, 0x43, 0x46] ++ h)
      else some Rc.GH_AUTH_FAIL

/-- Step 5 of Table GH-10: the endpoint's identity from the header of a FULL container. (DEDUCED, log entry 74.) -/
def State.headerIdentity (s : State) : State :=
  let s := wrPxIdentity .gatehouse PX_IDCFG.reg (s.hdrLE 36 4) s
  let s := wrPxIdentity .gatehouse PX_BAR2CFG.reg (s.hdrByte 40) s
  s.put SL_PXCFG.WIDTH (s.hdrByte 41)

/-- The header has passed (R682, R685). -/
def State.headerPass (s : State) (h : List Nat) : State :=
  let slot := if bit (h.getD 7 0) 0 then h.getD 12 0 else 0
  let s := (s.setList CT_HEADER h).put CT_HDR_OK 1
  let s := if s.get CT_ON = 1 then s.headerIdentity else s
  let s := s.endpointFree
  let s := ((s.put GH_CFGPOS.BYTES 256).put GH_CFGSTAT.STAGE stSTREAM).put CT_KEY (if slot = 0 then 0 else s.get KEY_VAL slot)
  if s.flag CT_BUSY then (s.put CT_BUSY 0).cmdDone else s

/-- The checks of the header stage; the key slot is in use from its check on (R637). (DEDUCED, log entry 70.) -/
def State.headerStage (s : State) (h : List Nat) (byte : Nat → Nat) : State :=
  let plot := s.get CT_PLOT
  let kindOk (kind target : Nat) : Bool := if s.get CT_ON = 1 then kind = 0 else kind = 1 && target = plot
  let len := if s.get CT_SRC = 3 && !s.flag CT_DOING then 2 ^ 40 else s.get CT_LEN
  match s.headerBad h kindOk len with
  | some c => s.ctFail c 0
  | none =>
    let slot := if bit (h.getD 7 0) 0 then h.getD 12 0 else 0
    let s := if slot = 0 then s else (s.keyUse slot).put CT_SLOT slot
    match s.headerUnsigned h byte len with
    | some c => s.ctFail c 0
    | none =>
      let planned := s.get CT_ON = 1 && s.get CT_SRC < 2
      if planned && !s.areaGood (s.get CT_SRC) then s.ctFail Rc.UP_AREA_BAD 0 else s.headerPass h

/-- CONTAINER_HEADER (R682): the header is at hand: from the host, `hdr` and the bytes of the authorisation block; from
flash or a neighbour, what the source holds (a signed container of a neighbour once its end is known). -/
def execContainerHeader (hdr auth : List (BitVec 8)) (s : State) : Out :=
  live s fun s =>
    if !(s.get CT_ON = 1 || s.get CT_ON = 2) || s.flag CT_HDR_OK then s
    else if s.get CT_SRC = 2 then
      let h := hdr.map BitVec.toNat
      let a := 272 + ofBytesLE ((h.drop 20).take 4)
      let byte (i : Nat) : Nat := ((auth.map BitVec.toNat)[i - a]?).getD 0
      let lens := ofBytesLE ((auth.map BitVec.toNat).take 4) + ofBytesLE (((auth.map BitVec.toNat).drop 4).take 4)
      let short := bit (h.getD 7 0) 1 && auth.length < 8 + (if s.get CT_LEN < a + 8 + lens then 0 else lens) &&
        a + 8 ≤ s.get CT_LEN
      if s.get CT_LEN < 256 then s.ctFail Rc.GH_CFG_MAGIC 0
      else if h.length ≠ 256 || short then s
      else s.headerStage h byte
    else if s.get CT_SRC ≠ 3 && s.get FLASH_OK = 0 then s
    else if s.get CT_SRC ≠ 3 && s.get FLASH_OK = 2 then s.ctFail Rc.GH_CFG_SOURCE 0
    else if s.get CT_LEN < 256 then s.ctFail Rc.GH_CFG_MAGIC 0
    else
      match (List.range 256).mapM s.ctByte with
      | none => s
      | some h =>
        if s.get CT_SRC = 3 && bit (h.getD 7 0) 1 && !s.flag CT_DOING then s
        else s.headerStage h fun i => (s.ctByte i).getD 0

/-! The stream stage. -/

/-- The view of the command at hand. -/
def State.ctView (s : State) : CtView :=
  { pos := s.get CT_POS, plen := s.ctPlen, span := s.get CT_SPAN, crc := s.get CT_CRC, after := s.flag CT_AFTER,
    plot := if s.get CT_ON = 2 then some (s.get CT_PLOT) else none,
    staging := s.get CT_ON = 2 && s.get FB_PSTAT.STATE (s.get CT_PLOT) = pSTAGING }

/-- n plain words are behind: the payload as stored, the position and the CRC follow. -/
def State.ctTake (s : State) (host l : List Nat) : State :=
  let stored := (List.range l.length).map fun k => (s.ctStored host k).getD 0
  let s := (s.setList CT_PAYLOAD (s.list CT_PAYLOAD ++ stored)).put CT_POS (s.get CT_POS + 4 * l.length)
  (s.put CT_CRC ((l.flatMap (bytesLE 4)).foldl crcByte (s.get CT_CRC))).put CT_AFTER 0

/-- The command at hand, if it belongs to row `op` and nothing stands before it: its failure, or its effect with its
payload byte and its words. -/
def State.ctCommand (s : State) (op : Nat) (host : List Word) (effect : Nat → List Nat → State → State) : State :=
  let ws := host.map BitVec.toNat
  let v := s.ctView
  if !(s.get CT_ON = 1 || s.get CT_ON = 2) || s.get GH_CFGSTAT.STAGE ≠ stSTREAM || s.get CT_PLEFT ≠ 0 then s
  else if v.pos + 4 ≤ v.plen && (match s.ctPlain ws 0 with | some w => ctRow w ≠ op | none => true) then s
  else
    match v.judge (s.ctPlain ws) with
    | .wait => s
    | .bad c off => s.ctFail c off
    | .ok l => effect v.pos l (s.ctTake ws l)

/-- The frames of a FRAME command. -/
def State.putFrames (s : State) (l : List Nat) : State :=
  let w := l.headD 0
  let type := bits w 8 2
  let n := frameWords type
  (List.range (bits w 27 5 + 1)).foldl (fun u k =>
    let t := tileOf (bits w 10 6) (bits w 16 4) (bits w 20 7 + k)
    let u := u.framePut t type ((l.drop (1 + k * n)).take n)
    if type = 1 then u else u.enq CT_TILES t) s

/-- FRAME (R678): the words of the command as the host's memory returned them. -/
def execFrame (ws : List Word) (s : State) : Out := live s fun s => s.ctCommand 1 ws fun _ l s => s.putFrames l

/-- R695: the first PRELOAD or REGW of a rewrite. (DEDUCED, log entry 68.) -/
def State.ctStaging (s : State) : State :=
  if s.get CT_ON = 2 && s.get FB_PSTAT.STATE (s.get CT_PLOT) = pWRITING then s.setPlot (s.get CT_PLOT) pSTAGING hGATEHOUSE
  else s

/-- PRELOAD (R678). -/
def execPreload (ws : List Word) (s : State) : Out :=
  live s fun s => s.ctCommand 2 ws fun _ l s =>
    let w := l.headD 0
    let mem := bits w 8 11
    let first := bits (l.getD 1 0) 0 12
    let per := if bit w 19 then 3 else 2
    let s := s.ctStaging.enq CT_PRELOADED mem
    (List.range (bits (l.getD 1 0) 12 13)).foldl (fun u i =>
      let d := l.getD (2 + per * i) 0 + 2 ^ 32 * l.getD (3 + per * i) 0
      u.memPut mem (first + i) d (if per = 3 then l.getD (4 + 3 * i) 0 else eccOf d)) s

/-- CHECK (R681, R682). -/
def execContainerCheck (ws : List Word) (s : State) : Out :=
  live s fun s => s.ctCommand 4 ws fun pos _ s =>
    (((s.put CT_SPAN (pos + 8)).put CT_CRC (2 ^ 32 - 1)).put CT_AFTER 1).put GH_CFGPOS.BYTES (256 + pos + 8)

/-- NOP (R677), and the codes that Table GH-15 reserves, which fail. -/
def execContainerNop (ws : List Word) (s : State) : Out := live s fun s => s.ctCommand 6 ws fun _ _ s => s

/-- POLL (R680): the register is read from the next 1 µs on. -/
def execPoll (ws : List Word) (s : State) : Out :=
  live s fun s => s.ctCommand 5 ws fun _ l s =>
    (((s.put CT_POLL (bits (l.headD 0) 8 18)).put CT_PMASK (l.getD 1 0)).put CT_PVAL (l.getD 2 0)).put CT_PLEFT (l.getD 3 0)

/-! The end of a container. -/

/-- R675: the tag holds over what was read. -/
def State.ctTagOk (s : State) (tag : Nat) : Bool :=
  let h := s.list CT_HEADER
  let p := (s.list CT_PAYLOAD).flatMap (bytesLE 4)
  let iv := s.hdrLE 24 12
  if s.ctEnc then Config.gcmTagOk (s.get CT_KEY) iv h p tag else Config.gcmTagOk 0 iv (h ++ p) [] tag

/-- The first end check that fails (Table GH-16). (DEDUCED, log entry 67.) -/
def State.ctEndBad (s : State) (tag : Nat) (plot : Option Nat) : Option Rc :=
  let p := (s.list CT_PAYLOAD).flatMap (bytesLE 4)
  if !s.ctTagOk tag || Config.sha384 p % 2 ^ 384 ≠ s.hdrLE 64 48 then some Rc.GH_CFG_TAG
  else if (s.list CT_TILES).any fun t => s.pairBad t then some Rc.FB_STYLE_PAIR
  else s.routeCheck plot

/-- R154: the memories that the container did not preload. -/
def State.fillMemories (s : State) : State :=
  let pre := s.list CT_PRELOADED
  (List.range 2048).foldl (fun u m => if pre.contains m then u else u.fillZero .block (4096 * m) (4096 * m + 4096) m) s

/-- R166: P and PCOUT of MAC cells lo to lo + n - 1. -/
def State.macsClear (s : State) (lo n : Nat) : State :=
  (List.range n).foldl (fun u i =>
    if u.macP (lo + i) ≠ 0 || u.flag FB_MACSTAT.PCOUT_FULL (lo + i) then u.macClear (lo + i) else u) s

/-- R745: the repair source of a plot. -/
def State.repSource (s : State) (p : Nat) : State :=
  if s.get CT_SRC = 2 || s.get CT_SRC = 3 then (s.put BV_REPSRC.SRC 0 p).put BV_REPSRC.OFFSET 0 p
  else (s.put BV_REPSRC.SRC 1 p).put BV_REPSRC.OFFSET (s.get CT_BASE) p

/-- The device enters HOLD (Table DV-9): the design is in reset, the device's own ports come up, the core starts where it
is to run. -/
def State.enterHold (s : State) : State :=
  let s := (List.range 16).foldl (fun u d => u.put DOM_RESET 1 d) s
  (s.setMode mHOLD 7).xpFixedOn.coreHold

/-- R684: a FULL container has passed. -/
def State.loadDone (s : State) : State :=
  let src := s.get CT_SRC
  let auto := bit (s.hdrByte 7) 2
  let cmd := s.flag CT_ISCMD
  let s := (s.fillMemories).macsClear 0 3072
  let s := (s.put GH_DESIGN_LO.ID (s.hdrLE 48 4)).put GH_DESIGN_HI.ID (s.hdrLE 52 4)
  let s := (List.range 64).foldl (fun u p => u.repSource p) s
  let s := s.raise Rc.GH_CFG_LOADED src
  let s := if src < 2 then s.lodgeFirmware src else s
  let s := (s.ctClose.put GH_CFGSTAT.STAGE stDONE).put GH_CFGSTAT.AUTORUN (b2n auto)
  let s := (s.dropLists [CT_PLAN, CT_BYTES]).enterHold
  let s := if cmd then s.put GH_IRQ.CMD 1 else s
  let s := s.upHold
  if auto then s.onWrite .gatehouse 0x4 1 (wrGhCtl .gatehouse 1) else s

/-- R695: the release check of a rewrite: a refusal, or the state with the plot's claims taken.
(DEDUCED, log entry 91.) -/
def State.plotReleaseCheck (s : State) (p : Nat) : (Rc × Nat) ⊕ State :=
  match s.plotBlocksCheck p with
  | some r => .inl r
  | none => s.arrayClaims (some p)

/-- R695, R696: a PLOT container has passed its end checks. -/
def State.rewriteDone (s : State) : State :=
  let p := s.get CT_PLOT
  let s := s.ctStaging
  match s.plotReleaseCheck p with
  | .inl (c, obj) => (s.refuseBy c.block c obj (2 ^ 20 * s.get CT_BY)).ctFailed c s.ctPlen true
  | .inr s =>
    let s := (s.macsClear (48 * p) 48).repSource p
    let s := (s.unfence p).raise Rc.GH_REWRITE_DONE p
    (s.ctClose.put GH_CFGSTAT.STAGE stDONE).put GH_IRQ.CMD 1

/-- END (R681, R684, R695): the command word, and the four words of the tag behind it. -/
def execContainerEnd (ws : List Word) (s : State) : Out :=
  live s fun s =>
    let host := ws.map BitVec.toNat
    match (List.range 4).mapM fun j => s.ctStored host (1 + j) with
    | none => s
    | some t => s.ctCommand 15 ws fun _ _ s =>
      let s := s.put GH_CFGSTAT.STAGE stFINAL
      match s.ctEndBad (ofWords32 t) (if s.get CT_ON = 2 then some (s.get CT_PLOT) else none) with
      | some c => s.ctFail c s.ctPlen
      | none => if s.get CT_ON = 2 then s.rewriteDone else s.loadDone

/-- CONTAINER_SOURCE_FAIL (R669, R686): a completion with an error or a timeout; the offset is the payload byte reached. -/
def execContainerSourceFail (s : State) : Out :=
  live s fun s =>
    if s.get CT_ON = 1 || s.get CT_ON = 2 then s.ctFail Rc.GH_CFG_SOURCE (s.get CT_POS) else s

/-! The configuration flash (R670 to R673). -/

/-- The plan of the power-up once the flash is known: its areas, then a neighbour under source 011 (R671). -/
def State.planFlash (s : State) : State :=
  let tail := if s.get MODE_PINS = 3 then [3] else []
  match if s.get FLASH_OK = 1 then s.brUsed else none with
  | none =>
    let s := ((s.put CT_ON 1).put CT_SRC 0).put GH_CFGSTAT.SRC 0
    ((s.put GH_CFGPOS.BYTES 0).setList CT_PLAN (0 :: tail)).ctFail Rc.GH_CFG_SOURCE 0
  | some c =>
    let f := s.brFlags c
    let item (x : Nat) : Nat := x + 8 * s.brArea c x + 2 ^ 40 * s.brSize c
    let other := if bit f 1 || bit f 2 then [item (1 - f % 2)] else []
    (s.setList CT_PLAN (item (f % 2) :: (other ++ tail))).planNext

/-- R685: the source code of a flash offset. (DEDUCED, log entries 72, 90.) -/
def State.flashSource (s : State) (off : Nat) : Nat :=
  match s.brUsed with
  | none => 4
  | some c =>
    if s.brArea c 0 ≤ off && off < s.brArea c 0 + s.brSize c then 0
    else if s.brArea c 1 ≤ off && off < s.brArea c 1 + s.brSize c then 1
    else 4

/-- Step 4 of Table GH-10 is still to come: the sources begin with the flash. -/
def State.awaitsFlash (s : State) : Bool :=
  s.mode = mLOAD && s.get FLASH_OK = 0 && s.get CT_ON = 0 && (s.get MODE_PINS = 0 || s.get MODE_PINS = 3)

/-- The boot records and settings as the firmware takes them in (R671, R725, R729, R731). (DEDUCED, log entry 73.) -/
def State.flashRecords (s : State) (boot : Bool) : State :=
  let s := [0, 1].foldl (fun u c => if u.brValid c then u else u.raise Rc.GH_FLASH_RECORD c) s
  let s := s.put BR_COPY (match s.brUsed with | some c => c + 1 | none => 0)
  let s := if s.mode = mLOAD || s.mode = mRESCUE then s.settingsLoad else s
  if boot && s.brTrial then
    let s := if s.get GH_UPTRIAL.REMAIN = 0 then s.put GH_UPTRIAL.REMAIN (1000 * s.get GH_UPCFG.TRIAL_T) else s
    (s.put UP_TRIAL 1).upSet usTRIAL
  else s

/-! LOAD_START (R685 to R689, R694). -/

/-- ARG1 and ARG2 as a host address. -/
def State.cmdAddr (s : State) : Nat := s.get CMD_ARG 1 + 2 ^ 32 * s.get CMD_ARG 2

/-- Bus Master Enable. -/
def State.busMaster (s : State) : Bool := bit (s.load .cfgSpace 1) 2

/-- A container begins by command: `on` 1 a load, 2 a rewrite; flash offsets that the flash may not hold are judged when
it has been found. (DEDUCED, log entry 72.) -/
def State.ctBegin (s : State) (on : Nat) (flash : Bool) (plot : Nat) : State :=
  let base := if flash then s.get CMD_ARG 1 else s.cmdAddr
  let known := s.get FLASH_OK = 1
  let src := if !flash then 2 else if known then s.flashSource base else 4
  let len := if flash && known then min (s.get CMD_ARG 3) (s.get FLASH_SIZE - base) else s.get CMD_ARG 3
  let s := ((((s.put CT_ON on).put CT_SRC src).put CT_BASE base).put CT_LEN len).put CT_PLOT plot
  let s := ((s.put CT_BUSY 1).put CT_ISCMD 1).put CT_ARG0 (s.get CMD_ARG 0)
  let s := s.put CT_BY (s.get CMD_BY)
  ((s.put GH_CFGSTAT.STAGE stHEADERS).put GH_CFGSTAT.SRC src).put GH_CFGPOS.BYTES 0

/-- LOAD_START once it runs. -/
def runLoadStart (s : State) : State :=
  let a := s.get CMD_ARG 0
  let flash := bit a 2
  let plot := bits a 8 6
  if bits a 0 2 = 2 then
    let s := ((s.put SV_ON (b2n (s.get CMD_ARG 3 ≠ 0))).put SV_SRC (b2n flash)).put SV_LEN (s.get CMD_ARG 3)
    (s.put SV_ADDR (if flash then s.get CMD_ARG 1 else s.cmdAddr)).cmdDone
  else if s.get CT_ON ≠ 0 || s.flag BV_CSSTAT.REPAIRING then s.cmdFail Rc.GH_BUSY 5
  else if !flash && !s.busMaster then s.cmdFail Rc.GH_CFG_BUSMASTER 0
  else if bits a 0 2 = 0 then s.ctBegin 1 flash 0
  else if s.flag MI_CFG.EN then s.cmdFail Rc.MI_PAIRED plot
  else if s.get FB_PSTAT.STATE plot ≠ pFENCED || s.get FB_PSTAT.HOLDER plot ≠ hUSER then s.cmdFail Rc.GH_NOT_FENCED plot
  else if s.flag FB_PSTAT.REPAIR plot then s.cmdFail Rc.FB_PLOT_BUSY plot
  else (s.ctBegin 2 flash plot).setPlot plot pWRITING hGATEHOUSE

/-- LOAD_START with ACTION LOAD (R685, R686): a write of OP 0x05 to GH_CMD; ACTION stands in GH_ARG0. -/
def execLoadStart (m : Master) (s : State) : Out :=
  live s fun s => s.onWrite m 0x24 0x05 fun s => s.ghCommand m 0x05 runLoadStart

/-- LOAD_START with ACTION REWRITE (R694): the same write. -/
def execRewrite (m : Master) (s : State) : Out :=
  live s fun s => s.onWrite m 0x24 0x05 fun s => s.ghCommand m 0x05 runLoadStart

/-- LOAD_START with ACTION SERVE (R689): the same write. -/
def execServe (m : Master) (s : State) : Out :=
  live s fun s => s.onWrite m 0x24 0x05 fun s => s.ghCommand m 0x05 runLoadStart

/-! Loading from a neighbour and serving one (R687 to R689, Table GH-17). -/

/-- UPD packets that Tables GH-17 and UP-6 define; those with an ID below 0x14 pass between neighbours (R713).
(DEDUCED, log entry 89.) -/
def updKnown (p : Nat) : Bool :=
  (pkId p < 4 && pkDest p = 0) || (0x10 ≤ pkId p && pkId p < 0x14 && pkDest p = 0) || (0x14 ≤ pkId p && pkId p < 0x1E)

/-- Other UPD packets are dropped before the next one is taken. (DEDUCED, log entries 76, 89.) -/
def updDrop (n : Nat) : Nat → State → State
  | 0, s => s
  | f + 1, s =>
    match s.hxHead n clUPD with
    | some (p, t) => if updKnown p then s else updDrop n f t
    | none => s

/-- The oldest UPD packet received on port n, if it has this ID: the packet and the state without it. -/
def State.updHead (s : State) (n id : Nat) : Option (Nat × State) :=
  match (updDrop n (s.list HX_RX (16 * n + clUPD)).length s).hxHead n clUPD with
  | some (p, t) => if pkId p = id then some (p, t) else none
  | none => none

/-- The container bytes that the SERVE source holds from an offset on. (DEDUCED, log entry 76.) -/
def State.serveBytes (s : State) (off : Nat) (host : List Nat) : List Nat :=
  let n := s.get SV_LEN - off
  if s.flag SV_SRC then s.flashBytes (s.get SV_ADDR + off) n else host.take n

/-- Bytes as 64-bit words, the last padded with zero bytes. -/
def wordsOfBytes (l : List Nat) : List Nat :=
  (List.range ((l.length + 7) / 8)).map fun i => ofBytesLE ((l.drop (8 * i)).take 8)

/-- CFG_REQ (R689): `data` is what the host's memory holds of a host-served container from the offset asked for on. -/
def execCfgReq (n : Fin 8) (data : List (BitVec 8)) (s : State) : Out :=
  live s fun s =>
    match s.updHead n 0 with
    | none => s
    | some (p, t) =>
      let keep := (t.list HX_TX (16 * n + clUPD)).filter fun q => !(pkDest q = 0 && (pkId q = 1 || pkId q = 2))
      let t := t.setList HX_TX keep (16 * n + clUPD)
      if !t.flag SV_ON then t.hxTx n (t.ownPacket 0 clUPD 3 0 [0])
      else
        let ws := wordsOfBytes (t.serveBytes (pkWord p 1 % 2 ^ 32) (data.map BitVec.toNat))
        let k := (ws.length + 255) / 256
        let t := (List.range k).foldl (fun u i =>
          u.hxTx n (u.ownPacket 0 clUPD 1 i ((ws.drop (256 * i)).take 256))) t
        t.hxTx n (t.ownPacket 0 clUPD 2 k [t.get SV_LEN])

/-- CFG_DATA (R687, R688): packets of an older answer do not count. -/
def execCfgData (s : State) : Out :=
  live s fun s =>
    match s.updHead 0 1 with
    | none => s
    | some (p, t) =>
      if t.cfgAwaits && pkSeq p = t.get CT_RX then
        (t.setList CT_BYTES (t.list CT_BYTES ++ (pkWords p).flatMap (bytesLE 8))).put CT_RX (t.get CT_RX + 1)
      else t

/-- CFG_END (R687): the length of the container; the bytes that pad it are dropped. -/
def execCfgEnd (s : State) : Out :=
  live s fun s =>
    match s.updHead 0 2 with
    | none => s
    | some (p, t) =>
      if t.cfgAwaits && pkSeq p = t.get CT_RX then
        let n := pkWord p 0 % 2 ^ 32
        let t := ((t.setList CT_BYTES ((t.list CT_BYTES).take n)).put CT_LEN n).put CT_DOING 1
        if t.flag CT_HDR_OK && n < 272 + t.ctPlen then t.ctFail Rc.GH_CFG_TRUNC t.ctPlen else t
      else t

/-- CFG_NONE (R688). -/
def execCfgNone (s : State) : Out :=
  live s fun s =>
    match s.updHead 0 3 with
    | none => s
    | some (_, t) => if t.cfgAwaits then t.cfgRequest else t

/-- CFG_REQ_TIMER (R688). -/
def execCfgReqTimer (s : State) : Out := live s fun s => if s.cfgAwaits then s.cfgRequest else s

end Sys2Proof.Machine
end

