-- ==== Sys2Proof/Machine/Update.lean ====
section
/-! DEFINITION. spec/19: update sessions: the prologue and its checks, blocks along the tree, staging, the two-phase
commit, activation, trial starts, in-doubt devices, and the settings registers. -/

namespace Sys2Proof.Machine

/-! The session (R699). -/

/-- States from which a device has gone past the decision. -/
def usLATE : List Nat := [usCOMMITTED, usTRIAL, usSTARTED, usFALLBACK]

/-- Another session is active on this device. -/
def State.upActive (s : State) : Bool :=
  !([usIDLE, usREFUSED].contains (s.get GH_UPSTAT.STATE)) || s.flag UP_ASKED || s.get UP_STEP = 1

/-- The Gatehouse's first element of the object index of a session's refusal (R629, R736). -/
def State.upObj (s : State) (c : Rc) : Nat :=
  if c = Rc.GH_ROLLBACK then s.get GH_ARB.COUNT
  else if c = Rc.GH_KEY_PENDING || c = Rc.GH_KEY_EMPTY || c = Rc.GH_KEY_USAGE then s.proByte 12 % 8
  else if c = Rc.GH_AUTH_FAIL || c = Rc.GH_PK_REVOKED then (if bit (s.proByte 6) 1 then s.proByte 13 else s.proByte 14) % 4
  else s.hxAddr

/-- The key slot is released at the decision (R709). -/
def State.upRelease (s : State) : State :=
  let k := s.get UP_SLOT
  if k = 0 then s else (s.put UP_SLOT 0).keyDone k

/-- What a session keeps is forgotten. -/
def State.upForget (s : State) : State :=
  let s := s.upRelease.dropLists [UP_PRO, UP_PKG, UP_BLK, UP_IN]
  let s := s.forget [UP_UP, UP_ASKED, UP_NEWID, UP_PLEN, UP_PSEQ, UP_CID, UP_STEP, UP_SRC, UP_FED, UP_NEXT, UP_PART, UP_BAD,
    UP_DOWN, UP_DNEXT, UP_DLIM, UP_DASK, UP_DACK, UP_REP, UP_ACT, UP_ACTV, UP_WAITS, UP_GO, UP_RANK]
  s.put GH_UPSTAT.COORD 0

/-- The same, and both staging halves are free, to begin with half 0 (R711). -/
def State.upClear (s : State) : State :=
  ((s.upForget.forget [UP_HALF, UP_STG, UP_LAST]).put GH_STAGESTAT.FREE0 1).put GH_STAGESTAT.FREE1 1

/-- The device leaves the session. -/
def State.upIdle (s : State) : State := (s.upSet usIDLE).upClear

/-! The prologue (R701 to R708). -/

/-- Length of the whole prologue, by its header. -/
def State.proLen (s : State) : Nat := 256 + s.proLE 20 4 + s.proLE 24 4

/-- ENC. -/
def State.upEnc (s : State) : Bool := bit (s.proByte 6) 0

/-- Bytes a to a + n - 1 of the prologue are 0. -/
def State.proZero (s : State) (a n : Nat) : Bool := s.proLE a n = 0

/-- UP_MAGIC to UP_SIG_POLICY of Table UP-5, on the header. -/
def State.proHeaderBad (s : State) : Option Rc :=
  let b := s.proByte
  let ecdsa := bit (b 6) 1
  let lms := bit (b 6) 2
  let policy := s.get GH_UPCFG.SIGPOL
  if (s.list UP_PRO).length < 256 || s.proLE 0 4 ≠ magic 0x4E 0x44 0x4E 0x55 then some Rc.UP_MAGIC
  else if s.proLE 4 2 ≠ 1 || 16 ≤ b 6 || b 7 ≠ 0 || (if s.upEnc then b 12 = 0 || 7 < b 12 else b 12 ≠ 0) || 3 < b 13 ||
      3 < b 14 || b 15 ≠ 0 || 64 < s.proLE 16 4 || s.proLE 20 4 % 8 ≠ 0 || s.proLE 24 4 % 64 ≠ 0 || !s.proZero 30 2 ||
      !s.proZero 36 4 || 131072 < s.proLen || s.proLE 48 8 = 0 || !s.proZero 60 4 || !s.proZero 76 4 || !s.proZero 128 128 then
    some Rc.UP_HEADER
  else if s.proLE 8 2 ≠ 0x1536 || b 10 ≠ 0xA1 || !bit (b 11) (s.get GH_IDENT.PKG) then some Rc.UP_PART
  else if s.proLE 16 4 < s.get GH_ARB.COUNT then some Rc.GH_ROLLBACK
  else if (policy = 0 && !ecdsa && !lms) || (policy % 2 = 1 && !ecdsa) || (2 ≤ policy && !lms) then some Rc.UP_SIG_POLICY
  else none

/-- R702, R703: one authorisation block at byte a, for a slot and a KIND: why it fails, and the byte after it.
(DEDUCED, log entry 79.) -/
def State.proAuth (s : State) (a slot kind : Nat) : Option Rc × Nat :=
  match authSplit s.proByte a (256 + s.proLE 20 4) with
  | none => (some Rc.GH_AUTH_FAIL, a)
  | some (key, sig) =>
    let next := a + (8 + key.length + sig.length + 7) / 8 * 8
    if s.get GH_PKSTAT.STATE slot ≠ pkREVOKED && (s.get GH_PKSTAT.KIND slot ≠ kind || !authFormat kind key sig) then
      (some Rc.GH_AUTH_FAIL, next)
    else (s.signerBad slot 1 key sig ([0x4C, 0x48, 0x55, 0x50] ++ (s.list UP_PRO).take 256), next)

/-- The first present signature that fails. -/
def State.proUnsigned (s : State) : Option Rc :=
  let e := if bit (s.proByte 6) 1 then s.proAuth 256 (s.proByte 13) 0 else (none, 256)
  match e.1 with
  | some c => some c
  | none => if bit (s.proByte 6) 2 then (s.proAuth e.2 (s.proByte 14) 1).1 else none

/-- Fields of a component entry at byte a (Table UP-3). -/
def State.cmpLen (s : State) (a : Nat) : Nat := s.proLE (a + 16) 8
def State.cmpOfs (s : State) (a : Nat) : Nat := s.proLE (a + 8) 8
def State.cmpFirst (s : State) (a : Nat) : Nat := s.proLE (a + 24) 4
def State.cmpBlocks (s : State) (a : Nat) : Nat := s.proLE (a + 28) 4

/-- The components that a mask names, as entries. -/
def State.maskOf (s : State) (mask : Nat) : List Nat :=
  ((s.upEntries 2).zipIdx.filter fun x => bit mask x.2).map Prod.fst

/-- R705: the chain of components is complete: next block, next offset. -/
def State.compsOk (s : State) : List Nat → Nat → Nat → Bool
  | [], block, _ => block = s.proLE 32 4
  | a :: r, block, off =>
    let n := s.cmpLen a
    let after := off + n
    (1 ≤ s.proByte (a + 1) && s.proByte (a + 1) ≤ 6 && 1 ≤ n && n ≤ 134217728 && s.cmpBlocks a = (n + 65535) / 65536 &&
      s.cmpFirst a = block && s.cmpOfs a = off && (!r.isEmpty || after = s.proLE 40 8)) &&
      s.compsOk r (block + s.cmpBlocks a) ((after + 7) / 8 * 8)

/-- R705: a target entry names existing components, one BITSTREAM, at most one of every other CTYPE. -/
def State.targetOk (s : State) (a : Nat) : Bool :=
  let mask := s.proLE (a + 16) 8
  let types := (s.maskOf mask).map fun c => s.proByte (c + 1)
  mask < 2 ^ (s.upEntries 2).length && s.proByte (a + 1) ≤ 1 && s.proByte (a + 2) ≤ 15 && types.count 1 = 1 &&
    [2, 3, 4, 5, 6].all fun t => types.count t ≤ 1

/-- MANIFEST_HASH and R705. (DEDUCED, log entry 79.) -/
def State.manifestOk (s : State) : Bool :=
  let comps := s.upEntries 2
  let targets := s.upEntries 1
  let ids := targets.map fun a => (s.proByte (a + 1), s.proLE (a + 8) 8)
  let n := s.proLE 28 2
  let blocks := s.proLE 32 4
  Config.sha384 (((s.list UP_PRO).drop s.upManifest).take (s.proLE 24 4)) % 2 ^ 384 = ofBytesLE (((s.list UP_PRO).drop 80).take 48) &&
    64 * n + 48 * blocks ≤ s.proLE 24 4 && 1 ≤ blocks && blocks ≤ 2048 && comps.length + targets.length = n &&
    1 ≤ comps.length && comps.length ≤ 64 && 1 ≤ targets.length && targets.length ≤ 254 &&
    s.compsOk comps 0 (256 + s.proLE 20 4 + s.proLE 24 4) && targets.all s.targetOk && ids.Nodup

/-- Components of this device (R718), in manifest order. -/
def State.upOwn (s : State) : List Nat :=
  match s.upMine with | some a => s.maskOf (s.proLE (a + 16) 8) | none => []

/-- Their places in the area: the BITSTREAM at 0, each other one at the next 64 KiB boundary; and the first boundary after
all of them, where the prologue goes (R718). -/
def State.upPlaces (s : State) : List (Nat × Nat) × Nat :=
  let own := s.upOwn
  let up (x : Nat) : Nat := (x + 65535) / 65536 * 65536
  let first := own.filter fun a => s.proByte (a + 1) = 1
  let rest := own.filter fun a => s.proByte (a + 1) ≠ 1
  (first ++ rest).foldl (fun u a => (u.1 ++ [(a, u.2)], up (u.2 + s.cmpLen a))) ([], 0)

/-- R718, R719: the target area. -/
def State.upArea (s : State) : Nat :=
  if s.brUsed.isNone then 0
  else if s.mode ≠ mRESCUE && s.get UP_BOOT ≠ 0 then 1 - (s.get UP_BOOT - 1)
  else 1 - s.brActive

/-- The head of a BITSTREAM: what UP_COMPONENT tests. (DEDUCED, log entry 78.) -/
def State.bitstreamBad (s : State) (h : List Nat) : Bool :=
  let le (a n : Nat) := ofBytesLE ((h.drop a).take n)
  h.length < 256 || le 0 4 ≠ magic 0x4C 0x48 0x4C 0x42 || le 8 2 ≠ 0x1536 || h.getD 10 0 ≠ 0xA1 ||
    !bit (h.getD 11 0) (s.get GH_IDENT.PKG) || h.getD 6 0 ≠ 0 || le 16 4 < s.get GH_ARB.COUNT

/-- What the checks of Table UP-5 give: the flash has to be found first, or the reason, or a pass. -/
inductive ProCheck where
  | wait
  | bad (c : Rc)
  | pass

/-- Target only: the conditions on key, flash and area. -/
def State.proTarget (s : State) : ProCheck :=
  let k := s.proByte 12
  match if s.upEnc then s.keyBad k 1 else none with
  | some c => .bad c
  | none =>
    match s.get FLASH_OK with
    | 0 => .wait
    | 1 =>
      if s.areaSize < s.upPlaces.2 + s.proLen + 4096 then .bad Rc.UP_AREA_SIZE
      else
        match s.upOwn.find? fun a => s.proByte (a + 1) = 1 with
        | none => .pass
        | some a =>
          let h := ((s.list UP_PKG).drop (s.cmpOfs a)).take 256
          if h.length = 256 && s.bitstreamBad h then .bad Rc.UP_COMPONENT else .pass
    | _ => .bad Rc.UP_NO_FLASH

/-- The prologue at hand against Table UP-5, from UP_MAGIC on. (DEDUCED, log entry 79.) -/
def State.proCheck (s : State) (coord : Bool) : ProCheck :=
  match s.proHeaderBad with
  | some c => .bad c
  | none =>
    match s.proUnsigned with
    | some c => .bad c
    | none =>
      if !s.manifestOk then .bad Rc.UP_MANIFEST
      else if coord && s.upMine.isNone then .bad Rc.UP_NOT_TARGET
      else if s.upMine.isNone then .pass
      else s.proTarget

/-! Blocks (R706, R714, R715). -/

/-- The component that block b belongs to, as entry; bytes of the block; where it starts in the package. -/
def State.blkComp (s : State) (b : Nat) : Option Nat :=
  (s.upEntries 2).find? fun a => s.cmpFirst a ≤ b && b < s.cmpFirst a + s.cmpBlocks a
def State.blkLen (s : State) (b : Nat) : Nat :=
  match s.blkComp b with | some a => min 65536 (s.cmpLen a - 65536 * (b - s.cmpFirst a)) | none => 0
def State.blkOfs (s : State) (b : Nat) : Nat :=
  match s.blkComp b with | some a => s.cmpOfs a + 65536 * (b - s.cmpFirst a) | none => 0

/-- Blocks of the package. -/
def State.upBlocks (s : State) : Nat := s.proLE 32 4

/-- Check value of block b (R704). -/
def State.blkCheck (s : State) (b : Nat) : Nat := s.proLE (s.upManifest + 64 * s.proLE 28 2 + 48 * b) 48

/-- Downstream ports. -/
def State.downPorts (s : State) : List Nat := (List.range 8).filter fun n => bit (s.get UP_DOWN) n

/-- The first block that some downstream neighbour has not said to hold. -/
def State.upLow (s : State) : Nat := s.downPorts.foldl (fun v n => min v (s.get UP_DACK n)) (s.get UP_NEXT)

/-- Blocks that the device could take besides those it holds (R715). -/
def State.upRoom (s : State) : Nat := 4 - (s.get UP_NEXT - s.upLow)

/-- NEED to the upstream neighbour: the prologue, or the next blocks. -/
def State.upAskPro (s : State) : State :=
  s.hxTx (s.get UP_UP) (s.ownPacket 0 clUPD 0x13 0 [s.upId, 2 ^ 32 - 1 + 2 ^ 32])
def State.upAsk (s : State) (retry : Bool) : State :=
  if s.get UP_UP = 8 || s.upRoom = 0 then s
  else s.hxTx (s.get UP_UP) (s.ownPacket 0 clUPD 0x13 0 [s.upId, s.get UP_NEXT + 2 ^ 32 * s.upRoom + 2 ^ 35 * b2n retry])

/-- The BLOCK packets of block b on port n. -/
def State.sendBlock (s : State) (n b : Nat) : State :=
  let l := s.list UP_BLK b
  (List.range ((l.length + 1023) / 1024)).foldl (fun u i =>
    u.hxTx n (u.ownPacket 0 clUPD 0x12 i (b :: wordsOfBytes ((l.drop (1024 * i)).take 1024)))) s

/-- Send port n what its NEED allows and the device holds. (DEDUCED, log entry 81.) -/
def State.upServe (s : State) (n : Nat) : State :=
  let b := s.get UP_DNEXT n
  let e := min (s.get UP_DLIM n) (s.get UP_NEXT)
  ((List.range (e - b)).foldl (fun u i => u.sendBlock n (b + i)) s).put UP_DNEXT (max b e) n

/-- Serve every downstream port; blocks that all of them hold are freed. (DEDUCED, log entry 81.) -/
def State.upFree (s : State) (before : Nat) : State :=
  (List.range (s.upLow - before)).foldl (fun u i => u.setList UP_BLK [] (before + i)) s

/-- A device stops, or refuses, for a reason (R708, R715). -/
def State.upRefuse (s : State) (c : Rc) : State := ((s.upLog c).put GH_UPSTAT.LAST c.num).upSet usREFUSED

/-- The bytes of block b are written to their place, if this device stores it (R718). -/
def State.storeBlock (s : State) (b : Nat) (l : List Nat) : State :=
  match s.upPlaces.1.find? fun x => s.cmpFirst x.1 ≤ b && b < s.cmpFirst x.1 + s.cmpBlocks x.1 with
  | none => s
  | some x =>
    (s.flashPut (s.areaBase (s.get GH_UPSTAT.AREA) + x.2 + 65536 * (b - s.cmpFirst x.1)) l).count GH_UPPROG.STORED 1

/-- Whether the session goes on taking blocks. -/
def State.upTakes (s : State) : Bool :=
  (s.get GH_UPSTAT.STATE = usRECEIVING || s.get GH_UPSTAT.STATE = usPASS) && s.get UP_NEXT < s.upBlocks

/-- The next block has arrived whole: it is checked, stored, held for the neighbours and passed on (R715). -/
def State.takeBlock (s : State) (l : List Nat) : State :=
  let b := s.get UP_NEXT
  let s := (s.put UP_PART 0).setList UP_IN []
  if Config.sha384 l % 2 ^ 384 ≠ s.blkCheck b then
    let s := s.put UP_BAD (s.get UP_BAD + 1)
    if 3 ≤ s.get UP_BAD then s.upStop Rc.UP_BLOCK_BAD else s.upAsk true
  else
    let mine := s.upOwn.any fun a => s.proByte (a + 1) = 1 && s.cmpFirst a = b
    let s := s.count GH_UPPROG.CHECKED 1
    if mine && s.bitstreamBad (l.take 256) then s.upRefuse Rc.UP_COMPONENT
    else
      let s := (s.storeBlock b l).put UP_BAD 0
      let s := if s.get UP_DOWN = 0 then s else s.setList UP_BLK l b
      let s := s.put UP_NEXT (b + 1)
      (s.downPorts.foldl State.upServe s).upAsk false

/-- The coordinator takes the next blocks from the package (R710, R711). Host memory that did not answer, or a package
that ends before its blocks do, is a source failure. -/
def State.feedOne (s : State) : State :=
  let b := s.get UP_NEXT
  if !s.upTakes || s.get UP_STEP ≠ 2 || s.upRoom = 0 then s
  else
    let l := ((s.list UP_PKG).drop (s.blkOfs b)).take (s.blkLen b)
    if l.length = s.blkLen b then s.takeBlock l
    else if s.flag UP_FED then s.upStop Rc.UP_SOURCE
    else s

/-- A block that fails is read again, up to three times. (DEDUCED, log entry 78.) -/
def State.upFeed (s : State) : State := (List.range (s.upBlocks + 2)).foldl (fun u _ => u.feedOne) s

/-- ANNOUNCE on the downstream ports (R714). -/
def State.upAnnounce (s : State) : State :=
  let ports := (List.range 8).filter fun o =>
    s.alive o && o ≠ s.get UP_UP &&
      (s.flag GH_UPSTAT.COORD || s.flag HX_PSTAT.CHILD o || (s.flag HX_DSTAT.PVALID && s.get HX_DSTAT.PARENT = o))
  let s := ports.foldl (fun u o => u.hxTx o (u.ownPacket 0 clUPD 0x10 0 [u.upId, u.get UP_CID, u.get UP_PLEN])) s
  s.put UP_DOWN (ports.map (2 ^ ·)).sum

/-- The prologue has passed (R699, R708, R709). (DEDUCED, log entry 80.) -/
def State.upAccept (s : State) : State :=
  let target := s.upMine.isSome
  let s := (s.put GH_UPPKG_LO.ID (s.proLE 48 4)).put GH_UPPKG_HI.ID (s.proLE 52 4)
  let s := ((s.put GH_UPPROG.CHECKED 0).put GH_UPPROG.STORED 0).put UP_ASKED 0
  let s := if target then s.put GH_UPSTAT.AREA s.upArea else s
  let s := if target && s.upEnc then (s.keyUse (s.proByte 12 % 8)).put UP_SLOT (s.proByte 12) else s
  let s := s.forget [UP_REP, UP_DNEXT, UP_DLIM, UP_DASK, UP_DACK, UP_NEXT, UP_PART, UP_BAD]
  let s := if s.flag GH_UPSTAT.COORD then s.upTally else s
  ((s.upLog Rc.UP_BEGUN).upSet (if target then usRECEIVING else usPASS)).upAnnounce

/-! UPDATE_BEGIN and the staging buffer. -/

/-- A failed UPDATE_BEGIN: its log detail is PACKAGE_ID, or 0 while no header was read (R629, R708). -/
def State.beginFail (s : State) (c : Rc) : State :=
  let obj := s.upObj c
  let id := if 256 ≤ (s.list UP_PRO).length then s.proLE 48 8 else 0
  ((s.put GH_UPSTAT.LAST c.num).upClear).cmdOver.cmdFailAs c obj id

/-- The coordinator goes on with the prologue as far as the package has come. -/
def State.beginOn (s : State) : State :=
  if s.get UP_STEP ≠ 1 || s.get CMD_OP ≠ 6 then s
  else
    let l := s.list UP_PKG
    let s := s.setList UP_PRO (l.take (256 + ofBytesLE ((l.drop 20).take 4) + ofBytesLE ((l.drop 24).take 4)))
    let fed := s.flag UP_FED
    if l.length < 256 then
      if fed then s.beginFail (if s.flag UP_SRC then Rc.UP_MAGIC else Rc.UP_SOURCE) else s
    else
      match s.proHeaderBad with
      | some c => s.beginFail c
      | none =>
        if l.length < s.proLen then (if fed then s.beginFail Rc.UP_SOURCE else s)
        else
          match s.proCheck true with
          | .wait => s
          | .bad c => s.beginFail c
          | .pass =>
            let s := ((s.put GH_UPSTAT.COORD 1).put UP_CID s.dieId).put UP_PLEN s.proLen
            (s.upAccept.put UP_STEP 2).cmdDone.upFeed

/-- R711: the Gatehouse consumes the staging halves handed over, the older first, while a package is awaited.
(DEDUCED, log entry 86.) -/
def State.stageTake (s : State) : State :=
  let one (s : State) : State :=
    let next := s.get UP_HALF
    let full (h : Nat) : Bool := s.get UP_STG h ≠ 0
    let h := if full next then next else 1 - next
    if !full h || !s.flag UP_SRC || !(s.get UP_STEP = 1 || s.get UP_STEP = 2) then s
    else
      let v := s.get UP_STG h
      let piece := (List.range (v % 2 ^ 19)).map fun i => s.load .rescue (0x40000 * h + i)
      let s := (s.setList UP_PKG (s.list UP_PKG ++ piece)).put UP_STG 0 h
      let s := if bit v 19 then (s.put UP_FED 1).put UP_LAST 1 else s
      if h = 0 then s.put GH_STAGESTAT.FREE0 1 else s.put GH_STAGESTAT.FREE1 1
  one (one s)

/-- UPDATE_BEGIN once it runs; `pkg` is what host memory returns from the address on. (DEDUCED, log entry 78.) -/
def runUpdateBegin (pkg : List (BitVec 8)) (s : State) : State :=
  let host := bits (s.get CMD_ARG 0) 0 2 = 0
  if s.upActive then (s.put GH_UPSTAT.LAST Rc.UP_BUSY.num).cmdOver.cmdFailAs Rc.UP_BUSY s.hxAddr 0
  else if host && !s.busMaster then s.cmdFail Rc.GH_CFG_BUSMASTER 0
  else
    let s := s.upForget.put UP_STEP 1
    if host then
      (((s.put UP_SRC 0).put UP_FED 1).setList UP_PKG (pkg.map BitVec.toNat)).beginOn
    else (((s.put UP_SRC 1).put UP_FED 0).stageTake).beginOn

/-- UPDATE_BEGIN (R700, R708): a write of OP 0x06 to GH_CMD. -/
def execUpdateBegin (m : Master) (pkg : List (BitVec 8)) (s : State) : Out :=
  live s fun s => s.onWrite m 0x24 0x06 fun s => s.ghCommand m 0x06 (runUpdateBegin pkg)

/-- The effect of a word written to GH_STAGE (R711). (DEDUCED, log entry 86.) -/
def wrGhStage (w : Nat) (s : State) : State :=
  let h := bits w 19 1
  let n := bits w 0 19
  let last := bit w 20
  let free := if h = 0 then s.flag GH_STAGESTAT.FREE0 else s.flag GH_STAGESTAT.FREE1
  if s.mode ≠ mRESCUE || !free || h ≠ s.get UP_HALF || (n ≠ 0x40000 && !last) || 0x40000 < n || s.flag UP_LAST then
    s.upLog Rc.UP_STAGE_ORDER
  else
    let s := (s.put UP_HALF (1 - h)).put UP_STG (n + 2 ^ 19 * b2n last) h
    let s := if h = 0 then s.put GH_STAGESTAT.FREE0 0 else s.put GH_STAGESTAT.FREE1 0
    let s := if last then s.put UP_LAST 1 else s
    s.stageTake.beginOn.upFeed

/-- STAGE_HANDOVER (R711): a write of GH_STAGE. -/
def execStageHandover (m : Master) (w : Word) (s : State) : Out :=
  live s fun s => s.onWrite m 0xCC w.toNat (wrGhStage w.toNat)

/-! The other devices: the prologue from the neighbour. -/

/-- A device turns a session away that it does not take part in: its STATUS, and the record (R708). -/
def State.upTurnAway (s : State) (id : Nat) : State :=
  let s := (s.raise Rc.UP_BUSY s.hxAddr 0).put GH_UPSTAT.LAST Rc.UP_BUSY.num
  s.broadcast clUPD 0x14 [id, s.dieId, usREFUSED + 2 ^ 16 * Rc.UP_BUSY.num]

/-- ANNOUNCE (R714). -/
def execAnnounce (n : Fin 8) (s : State) : Out :=
  live s fun s =>
    match s.updHead n 0x10 with
    | none => s
    | some (p, t) =>
      let id := pkWord p 0
      if t.mode = mTEST || t.mode = mDORMANT then t
      else if t.upActive then
        if id = (if t.flag UP_ASKED then t.get UP_NEWID else t.upId) then t else t.upTurnAway id
      else
        let t := t.upForget
        let t := ((t.put UP_ASKED 1).put UP_NEWID id).put UP_UP n
        let t := (t.put UP_CID (pkWord p 1)).put UP_PLEN (pkWord p 2 % 2 ^ 32)
        t.hxTx n (t.ownPacket 0 clUPD 0x13 0 [id, 2 ^ 32 - 1 + 2 ^ 32])

/-- The prologue of an announced session is at hand, or will not be longer. -/
def State.upProceed (s : State) : State :=
  if !s.flag UP_ASKED || (s.list UP_PRO).length < s.get UP_PLEN then s
  else
    match s.proCheck false with
    | .wait => s
    | .pass => s.upAccept.upAsk false
    | .bad c =>
      let read := 256 ≤ (s.list UP_PRO).length
      let id := if read then s.proLE 48 8 else 0
      let s := (s.raise c (s.upObj c) id).put GH_UPSTAT.LAST c.num
      let s := (s.put GH_UPPKG_LO.ID (s.get UP_NEWID % 2 ^ 32)).put GH_UPPKG_HI.ID (s.get UP_NEWID / 2 ^ 32)
      (s.upSet usREFUSED).upClear

/-- PROLOGUE (R708, R714): the last packet may carry fewer than 8 bytes in its last word. -/
def execPrologue (n : Fin 8) (s : State) : Out :=
  live s fun s =>
    match s.updHead n 0x11 with
    | none => s
    | some (p, t) =>
      let more := (t.list UP_PRO).length < t.get UP_PLEN
      if t.flag UP_ASKED && t.get UP_UP = n && more && pkSeq p = t.get UP_PSEQ then
        let l := t.list UP_PRO ++ (pkWords p).flatMap (bytesLE 8)
        ((t.setList UP_PRO (l.take (t.get UP_PLEN))).put UP_PSEQ (t.get UP_PSEQ + 1)).upProceed
      else t

/-- NEED (R714): a downstream neighbour asks for the prologue, or for blocks. -/
def execNeed (n : Fin 8) (s : State) : Out :=
  live s fun s =>
    match s.updHead n 0x13 with
    | none => s
    | some (p, t) =>
      let next := pkWord p 1 % 2 ^ 32
      if pkWord p 0 ≠ t.upId || !bit (t.get UP_DOWN) n then t
      else
        let t := t.orBit UP_DASK n
        if next = 2 ^ 32 - 1 then
          let ws := wordsOfBytes (t.list UP_PRO)
          (List.range ((ws.length + 255) / 256)).foldl (fun u i =>
            u.hxTx n (u.ownPacket 0 clUPD 0x11 i ((ws.drop (256 * i)).take 256))) t
        else if t.get UP_NEXT < next || next < t.get UP_DACK n then t
        else
          let low := t.upLow
          let full := t.upRoom = 0
          let t := if bit (pkWord p 1) 35 then t.put UP_DNEXT next n else t
          let t := (t.put UP_DLIM (next + bits (pkWord p 1) 32 3) n).put UP_DACK next n
          let t := ((t.upServe n).upFree low).upFeed
          if full then t.upAsk false else t

/-- BLOCK (R715): the parts of a block come in order; parts of another block do not count. -/
def execBlock (n : Fin 8) (s : State) : Out :=
  live s fun s =>
    match s.updHead n 0x12 with
    | none => s
    | some (p, t) =>
      let b := t.get UP_NEXT
      if t.get UP_UP = n && t.upTakes && pkWord p 0 % 2 ^ 32 = b && pkSeq p = t.get UP_PART then
        let l := (t.list UP_IN ++ ((pkWords p).drop 1).flatMap (bytesLE 8)).take (min (t.blkLen b) (1024 * (pkSeq p + 1)))
        let t := (t.setList UP_IN l).put UP_PART (pkSeq p + 1)
        if l.length = t.blkLen b then t.takeBlock l else t
      else t

/-! Staging (R718, Table UP-7). -/

/-- The area record of the session: its first 4,080 bytes. -/
def State.recBody (s : State) : List Nat :=
  let places := s.upPlaces
  let base := s.areaBase (s.get GH_UPSTAT.AREA)
  let entry (x : Nat × Nat) : List Nat :=
    let n := s.cmpLen x.1
    [s.proByte (x.1 + 1), 0, 0, 0] ++ bytesLE 4 (s.proLE (x.1 + 4) 4) ++ bytesLE 4 x.2 ++ bytesLE 4 n ++
      bytesLE 4 (s.cmpFirst x.1) ++ [0, 0, 0, 0] ++ bytesLE 48 (Config.sha384 (s.flashBytes (base + x.2) n) % 2 ^ 384) ++
      List.replicate 56 0
  let head := bytesLE 4 (magic 0x4C 0x48 0x41 0x52) ++ bytesLE 2 1 ++ [places.1.length, s.get GH_UPSTAT.COORD] ++
    bytesLE 8 s.upId ++ bytesLE 4 (s.proLE 56 4) ++ bytesLE 4 (s.proLE 16 4) ++ bytesLE 8 (s.get UP_CID) ++
    bytesLE 4 places.2 ++ bytesLE 4 s.proLen ++ [s.proByte 12, b2n s.upEnc] ++ bytesLE 12 (s.proLE 64 12) ++ List.replicate 10 0
  let l := head ++ places.1.flatMap entry
  l ++ List.replicate (4080 - l.length) 0

/-- AREA_STAGED (R718): every component has been read back; `ok` says that the flash returned what was written, and the
prologue and record as well. A mismatch stops the target at any block. -/
def execAreaStaged (ok : Bool) (s : State) : Out :=
  live s fun s =>
    if s.get GH_UPSTAT.STATE ≠ usRECEIVING then s
    else if !ok then s.upStop Rc.UP_FLASH_WRITE
    else if s.get UP_NEXT < s.upBlocks then s
    else
      let x := s.get GH_UPSTAT.AREA
      let s := s.flashPut (s.areaBase x + s.upPlaces.2) (s.list UP_PRO)
      ((s.recWrite x s.recBody).upLog Rc.UP_STAGED).upSet usSTAGED

/-! The commit (R720 to R722). -/

/-- R730 and Table UP-9: what the record of area x says of its stored components is true of the flash. -/
def State.recHolds (s : State) (x : Nat) : Bool :=
  s.recGood x && (List.range (s.load .flash (s.recBase x + 6))).all fun i =>
    Config.sha384 (s.recStored x i) % 2 ^ 384 = s.flashLE (s.recEntry x i + 24) 48

/-- Step 2 of Table UP-9: the state of the device after PREPARE, and the payload of its vote.
(DEDUCED, log entry 82.) -/
def State.upPrepare (s : State) : State × List Nat :=
  let x := s.get GH_UPSTAT.AREA
  if s.recHolds x then ((s.recPrepared x true).upSet usPREPARED, [s.upId, s.dieId, 1])
  else (s.upSet usPREPARED, [s.upId, s.dieId, 2 ^ 16 * Rc.UP_FLASH_WRITE.num])

/-- UPDATE_COMMIT once it runs (R720); the coordinator's own vote reaches it as the others do, on port 8.
(DEDUCED, log entry 82.) -/
def runUpdateCommit (s : State) : State :=
  let n := (s.upEntries 1).length
  let all := (List.range n).all fun i => bit (s.get UP_REP i) 0 && !bit (s.get UP_REP i) 2
  if !s.flag GH_UPSTAT.COORD || s.get UP_STEP = 0 then s.cmdFail Rc.UP_NOT_COORD s.hxAddr
  else if !all || s.get GH_UPSTAT.STATE ≠ usSTAGED || s.get UP_STEP ≠ 2 then s.cmdFail Rc.UP_NOT_STAGED s.hxAddr
  else
    let s := (s.broadcast clUPD 0x15 [s.upId]).put UP_STEP 3
    let r := s.upPrepare
    r.1.hxDeliver 8 (r.1.ownPacket 255 clUPD 0x16 0 r.2)

/-- UPDATE_COMMIT (R720): a write of OP 0x07 to GH_CMD. -/
def execUpdateCommit (m : Master) (s : State) : Out :=
  live s fun s => s.onWrite m 0x24 0x07 fun s => s.ghCommand m 0x07 runUpdateCommit

/-- PREPARE (R720): port 8 stands for this device itself. -/
def execPrepare (n : Fin 9) (s : State) : Out :=
  live s fun s =>
    match s.updHead n 0x15 with
    | none => s
    | some (p, t) =>
      if pkWord p 0 = t.upId && t.get GH_UPSTAT.STATE = usSTAGED then
        let r := t.upPrepare
        r.1.broadcast clUPD 0x16 r.2
      else t

/-- R722: what the decision ABORT does to a device. -/
def State.upAborted (s : State) : State :=
  let x := s.get GH_UPSTAT.AREA
  let s := if s.get FLASH_OK = 1 && s.recGood x && bits (s.load .flash (s.recBase x + 7)) 1 1 = 1 &&
      s.flashLE (s.recBase x + 8) 8 = s.upId then s.recPrepared x false else s
  (s.upLog Rc.UP_ABORTED).upIdle

/-- The coordinator's decision ABORT, with the reason that UPDATE_COMMIT fails for. (DEDUCED, log entry 82.) -/
def State.upDecideAbort (s : State) (c : Nat) : State :=
  let s := s.broadcast clUPD 0x18 [s.upId]
  let rc : Rc := ⟨if c = 0 then Rc.UP_VOTE.num else c, Rc.UP_VOTE.sev⟩
  let s := if s.get CMD_OP = 7 then s.cmdFail rc s.hxAddr else s
  s.upAborted

/-- R721: the boot record that a commit writes, in the copy not in use. (DEDUCED, log entry 84.) -/
def State.upBootRecord (s : State) : State := s.writeBoot (s.get GH_UPSTAT.AREA) true s.brUsed.isSome

/-- R723: the count qualifies for ACT_TIME. -/
def State.timeQualifies (s : State) : Bool := s.flag BS_TBSTAT.RUNNING && s.flag BS_TBSTAT.EPOCH

/-- Rank of this device (R724): 0 under SIMULTANEOUS order. -/
def State.upRank (s : State) : Nat :=
  if bit (s.proByte 6) 3 then (match s.upMine with | some a => s.proByte (a + 2) | none => 0) else 0

/-- A target is committed: its key slot is released, the trial time starts anew. -/
def State.upCommitted (s : State) : State := (s.upRelease.put GH_UPTRIAL.REMAIN 0).upSet usCOMMITTED

/-- Step 3 of Table UP-9: the commit point; `ok` says that the boot record reads back. -/
def State.upCommit (s : State) (ok : Bool) : State :=
  if !ok then (s.upStop Rc.UP_FLASH_WRITE).upDecideAbort Rc.UP_FLASH_WRITE.num
  else
    let s := s.upBootRecord.cmdDone.upLog Rc.UP_COMMITTED
    let valid := s.timeQualifies && !s.flag BS_TBSTAT.COARSE
    let act := (s.now / 2 ^ 16 + 10000000 * s.get GH_UPCFG.ACT_DELAY) % 2 ^ 64
    let s := ((s.put UP_ACT act).put UP_ACTV (b2n valid)).put UP_STEP 4
    let s := s.upCommitted.broadcast clUPD 0x17 [s.upId, act, b2n valid]
    if s.upRank = 0 then s.put UP_WAITS 1 else s

/-- VOTE (R720, R722): `ok` as for COMMIT, where this vote is the last READY. -/
def execVote (n : Fin 9) (ok : Bool) (s : State) : Out :=
  live s fun s =>
    match s.updHead n 0x16 with
    | none => s
    | some (p, t) =>
      if pkWord p 0 ≠ t.upId || t.get UP_STEP ≠ 3 || t.get GH_UPSTAT.STATE ≠ usPREPARED then t
      else if bit (pkWord p 2) 0 then
        let t := t.upNote (pkWord p 1) (pkSrc p) (some 3)
        if (List.range (t.upEntries 1).length).all fun i => bit (t.get UP_REP i) 3 then t.upCommit ok else t
      else t.upDecideAbort (bits (pkWord p 2) 16 16)

/-- VOTE_T_EXPIRY (R722). -/
def execVoteTExpiry (s : State) : Out := live s fun s => if s.get UP_STEP = 3 then s.upDecideAbort 0 else s

/-- UPDATE_ABORT once it runs (R722, R730). (DEDUCED, log entry 82.) -/
def runUpdateAbort (s : State) : State :=
  let st := s.get GH_UPSTAT.STATE
  if st = usINDOUBT then
    if bit (s.get CMD_ARG 0) 0 then (s.upLog Rc.UP_FORCED_ABORT).upAborted.cmdDone else s.cmdDone
  else if s.flag GH_UPSTAT.COORD && !(usLATE.contains st) && st ≠ usIDLE then (s.upDecideAbort 0).cmdDone
  else s.cmdDone

/-- UPDATE_ABORT: a write of OP 0x08 to GH_CMD. -/
def execUpdateAbort (m : Master) (s : State) : Out :=
  live s fun s => s.onWrite m 0x24 0x08 fun s => s.ghCommand m 0x08 runUpdateAbort

/-- COMMIT (R721, R723): the target writes its boot record; `ok` says that it reads back. -/
def execUpCommit (n : Fin 9) (ok : Bool) (s : State) : Out :=
  live s fun s =>
    match s.updHead n 0x17 with
    | none => s
    | some (p, t) =>
      if pkWord p 0 ≠ t.upId || t.flag GH_UPSTAT.COORD then t
      else if t.get GH_UPSTAT.STATE ≠ usPREPARED then t
      else
        let t := t.upBootRecord
        if !ok then t.upStop Rc.UP_FLASH_WRITE
        else
          let t := (t.put UP_ACT (pkWord p 1)).put UP_ACTV (bits (pkWord p 2) 0 1)
          let t := t.upCommitted
          if t.upRank ≠ 0 then t
          else if t.flag UP_ACTV && t.timeQualifies && t.now / 2 ^ 16 < t.get UP_ACT then t.put UP_WAITS 1
          else t.warmReset 3

/-- The ABORT update packet (R722). -/
def execAbortPacket (n : Fin 9) (s : State) : Out :=
  live s fun s =>
    match s.updHead n 0x18 with
    | none => s
    | some (p, t) =>
      let st := t.get GH_UPSTAT.STATE
      if t.flag UP_ASKED && pkWord p 0 = t.get UP_NEWID then t.upClear
      else if pkWord p 0 ≠ t.upId || st = usIDLE || usLATE.contains st || t.flag GH_UPSTAT.COORD then t
      else t.upAborted

/-- ACT_TIME (R723, R724): ACT_TIME has come, or the wait after a hand-over has ended. -/
def execActTime (s : State) : Out :=
  live s fun s =>
    if s.get GH_UPSTAT.STATE = usCOMMITTED && (s.flag UP_WAITS || s.flag UP_GO) then s.warmReset 3 else s

/-! Trial starts (R725 to R729). -/

/-- R724: what a target does that ACTIVATE names; `peek` reads the control bus. The coordinator and a device that hands its
role over reset at the ACT_TIME row. (DEDUCED, log entry 83.) -/
def State.upActivate (peek : State → Nat → Nat) (s : State) (rank : Nat) : State :=
  if s.get GH_UPSTAT.STATE ≠ usCOMMITTED || s.upRank ≠ rank || rank = 0 then s
  else if s.flag MI_CFG.EN && s.get MI_STAT.ROLE = rPRIMARY && s.get MI_STAT.SYNC = 2 then
    (s.onWrite .gatehouse 0x28010 1 (wrMiCmd peek .gatehouse 1)).put UP_GO 1
  else if s.flag GH_UPSTAT.COORD then s.put UP_GO 1
  else s.warmReset 3

/-- R727: CONFIRM at a device. (DEDUCED, log entry 84.) -/
def State.upConfirm (s : State) : State :=
  let st := s.get GH_UPSTAT.STATE
  if st = usPASS then s.upIdle
  else if st = usSTARTED then
    let s := s.writeBoot s.brActive false true
    let s := s.put GH_ARB.COUNT (max (s.get GH_ARB.COUNT) (s.proLE 16 4 % 2 ^ 7))
    let s := if s.flag SET_MIGRATED then (match s.setRecords with | some l => s.settingsSave l | none => s) else s
    let s := (s.put SET_MIGRATED 0).put GH_UPTRIAL.REMAIN 0
    (s.upLog Rc.UP_CONFIRMED).upIdle
  else s

/-- R728: REVERT at a device. Where R719 created the layout, the record in use has no FALLBACK_EN; the record written has
none either, so that the next start has no image. (DEDUCED, log entry 84.) -/
def State.upRevert (s : State) : State :=
  let st := s.get GH_UPSTAT.STATE
  if st = usPASS then s.upIdle
  else if s.brTrial && s.get FLASH_OK = 1 then
    let trial := s.brActive
    let fallback := match s.brUsed with | some c => bit (s.brFlags c) 1 | none => true
    let s := s.writeBoot (1 - trial) false fallback
    let s := ((s.put GH_UPTRIAL.REMAIN 0).upLog Rc.UP_REVERTED).upIdle
    if s.get UP_BOOT = trial + 1 then s.warmReset 3 else s
  else s

/-- The coordinator confirms or reverts the fabric (R726). (DEDUCED, log entry 80.) -/
def State.upDecide (s : State) (confirm : Bool) : State :=
  let s := s.broadcast clUPD (if confirm then 0x1A else 0x1B) [s.upId]
  if confirm then s.upConfirm else s.upRevert

/-- R724, R726: what the reports decide at the coordinator. -/
def State.upJudge (peek : State → Nat → Nat) (s : State) : State :=
  let st := s.get GH_UPSTAT.STATE
  let step := s.get UP_STEP
  let targets := (s.upEntries 1).zipIdx
  let late := targets.filter fun x => !bit (s.get UP_REP x.2) 1
  if !s.flag GH_UPSTAT.COORD || !(step = 4 || step = 5) || !(usLATE.contains st || st = usFAILED) then s
  else if st = usFALLBACK || st = usFAILED || targets.any fun x => bit (s.get UP_REP x.2) 2 || bit (s.get UP_REP x.2) 5 then
    s.upDecide false
  else if late.isEmpty then s.upDecide true
  else if bit (s.proByte 6) 3 then
    let rank := late.foldl (fun v x => min v (s.proByte (x.1 + 2))) 15
    let done := if step = 5 then max (s.get UP_RANK) s.upRank else s.get UP_RANK
    if done < rank then
      let s := (s.put UP_RANK rank).broadcast clUPD 0x19 [s.upId, rank]
      s.upActivate peek rank
    else s
  else s

/-- A STATUS packet as this device takes it (R714, R717): the coordinator counts it; a neighbour that will not ask, having
stopped or taken the session elsewhere, is no downstream neighbour. (DEDUCED, log entry 81.) -/
def State.upStatus (s : State) (n p : Nat) : State :=
  let st := bits (pkWord p 2) 0 4
  if pkWord p 0 ≠ s.upId then s
  else
    let near := pkHops p = 0 && bit (s.get UP_DOWN) n
    let gone := near && (st = usREFUSED || st = usFAILED || ((st = usRECEIVING || st = usPASS) && !bit (s.get UP_DASK) n))
    let low := s.upLow
    let s := if gone then ((s.andBit UP_DOWN n).upFree low).upFeed else s
    s.upNote (pkWord p 1) (pkSrc p) (repBit st)

/-- CONFIRM (R727). -/
def execConfirm (n : Fin 9) (s : State) : Out :=
  live s fun s =>
    match s.updHead n 0x1A with
    | none => s
    | some (p, t) => if pkWord p 0 = t.upId && !t.flag GH_UPSTAT.COORD then t.upConfirm else t

/-- CONFIRM_T_EXPIRY (R726): counted from the coordinator's own trial start, or from its last ACTIVATE. -/
def execConfirmTExpiry (s : State) : Out :=
  live s fun s =>
    let step := s.get UP_STEP
    if s.flag GH_UPSTAT.COORD && (step = 5 || (step = 4 && s.get UP_RANK ≠ 0)) then s.upDecide false else s

/-- REVERT (R728). -/
def execRevert (n : Fin 9) (s : State) : Out :=
  live s fun s =>
    match s.updHead n 0x1B with
    | none => s
    | some (p, t) => if pkWord p 0 = t.upId && !t.flag GH_UPSTAT.COORD then t.upRevert else t

/-- TRIAL_EXPIRY (R729): REMAIN has counted down to 0. -/
def execTrialExpiry (s : State) : Out :=
  live s fun s => if s.get GH_UPTRIAL.REMAIN = 0 then s else (s.put GH_UPTRIAL.REMAIN 0).upRevert

/-! In doubt (R730). -/

/-- QUERY: a device whose boot record names an area whose record holds the package answers COMMITTED; its coordinator
answers ABORTED otherwise, but not while its own vote is open. -/
def execQuery (n : Fin 9) (s : State) : Out :=
  live s fun s =>
    match s.updHead n 0x1C with
    | none => s
    | some (p, t) =>
      let id := pkWord p 0
      let holds (x : Nat) : Bool := t.get FLASH_OK = 1 && t.recGood x && t.flashLE (t.recBase x + 8) 8 = id
      let answer (v : Nat) : State := t.broadcast clUPD 0x1D [id, v]
      if t.brUsed.isSome && holds t.brActive then answer 1
      else if t.get UP_STEP ≠ 3 && t.brUsed.isSome && holds (1 - t.brActive) &&
          bit (t.load .flash (t.recBase (1 - t.brActive) + 7)) 0 then answer 0
      else t

/-- QUERY_TIMER (R730). -/
def execQueryTimer (s : State) : Out :=
  live s fun s => if s.get GH_UPSTAT.STATE = usINDOUBT then s.upQuery else s

/-- ANSWER (R730). -/
def execAnswer (n : Fin 9) (s : State) : Out :=
  live s fun s =>
    match s.updHead n 0x1D with
    | none => s
    | some (p, t) =>
      if pkWord p 0 ≠ t.upId || t.get GH_UPSTAT.STATE ≠ usINDOUBT then t
      else if bit (pkWord p 1) 0 then ((t.upBootRecord).upCommitted).warmReset 3
      else t.upAborted

/-! Settings (R734). -/

/-- Each write and each ordinary read of GH_SETDATA adds 4 with INC. -/
def State.setNext (s : State) : State :=
  if s.flag GH_SETADDR.INC then s.put GH_SETADDR.ADDR ((s.get GH_SETADDR.ADDR + 4) % 2 ^ 16) else s

/-- The effect of a word written to GH_SETADDR: bits [1:0] are 0. -/
def wrSetaddr (w : Nat) (s : State) : State :=
  (s.put GH_SETADDR.ADDR (bits w 2 14 * 4)).put GH_SETADDR.INC (bits w 31 1)

/-- The effect of a word written to GH_SETDATA. -/
def wrSetdata (m : Master) (w : Nat) (s : State) : State :=
  if s.unlocked m then
    let a := s.get GH_SETADDR.ADDR
    let s := (List.range 4).foldl (fun u i => u.store .settings (a + i) (w / 256 ^ i % 256)) s
    let s := (s.put GH_SETCTL.DIRTY 1).put GH_SETCTL.SCHEMA (s.load .settings 4 + 256 * s.load .settings 5)
    s.setNext
  else s.writeDenied m 0xD8 0

/-- A read of GH_SETDATA. -/
def rdSetdata (m : Master) (s : State) : Nat × State :=
  let a := s.get GH_SETADDR.ADDR
  (ofBytesLE (s.setBytes a 4), if s.peeks m then s else s.setNext)

/-- SETDATA_ACCESS (R734): a write, or a read (`w` none). -/
def execSetdataAccess (m : Master) (w : Option Word) (s : State) : Out :=
  live s fun s =>
    match w with
    | some v => s.onWrite m 0xD8 v.toNat (wrSetdata m v.toNat)
    | none =>
      let r := s.onRead m 0xD8 (rdSetdata m)
      r.2.emit .busData [m.code, r.1]

/-- A SAVE that the flash lets through, or not. (DEDUCED, log entry 87.) -/
def State.saveNow (s : State) : State :=
  match s.get FLASH_OK with
  | 0 => s.put UP_SAVE 1
  | 1 =>
    match s.setRecords with
    | some l => (s.put UP_SAVE 0).settingsSave l
    | none => (s.put UP_SAVE 0).refuseBy 0x11 Rc.UP_SETTINGS s.hxAddr s.upId
  | _ => (s.put UP_SAVE 0).refuseBy 0x11 Rc.UP_NO_FLASH s.hxAddr s.upId

/-- The effect of a word written to GH_SETCTL. (DEDUCED, log entry 87.) -/
def wrSetctl (w : Nat) (s : State) : State :=
  let st := s.get GH_UPSTAT.STATE
  if !bit w 0 then s
  else if st = usTRIAL || st = usSTARTED then s.refuseBy 0x11 Rc.UP_BUSY s.hxAddr s.upId
  else s.saveNow

/-- SAVE (R734): a write of SAVE to GH_SETCTL. -/
def execSave (m : Master) (s : State) : Out := live s fun s => s.onWrite m 0xDC 1 (wrSetctl 1)

/-- The effect of a word written to GH_UPCFG: on a sealed part SIGPOL is not lowered (R703). (DEDUCED, log entry 88.) -/
def wrUpcfg (m : Master) (w : Nat) (s : State) : State :=
  let old := s.get GH_UPCFG.SIGPOL
  if s.unlocked m && s.flag GH_IDENT.SEALED && bits w 0 2 < old then
    (s.writeReg m GH_UPCFG.reg 0 (w / 4 * 4 + old)).writeDenied m 0xC4 0
  else s.writeReg m GH_UPCFG.reg 0 w

/-! The first use of the flash. -/

/-- FLASH_DISCOVERY (R670, R673): the first use of the flash since the reset; what its SFDP tables say. -/
def execFlashDiscovery (x : SfdpResult) (s : State) : Out :=
  live s fun s =>
    if s.get FLASH_OK ≠ 0 then s
    else
      let boot := s.awaitsFlash
      let s := match x with
        | .blank => (s.put FLASH_OK 2).raise Rc.GH_FLASH_PROTOCOL 3
        | .noSignature => ((s.put FLASH_OK 1).put FLASH_SIZE (2 ^ 28)).raise Rc.GH_FLASH_PROTOCOL 1
        | .found size dqs =>
          let t := (s.put FLASH_OK 1).put FLASH_SIZE (min size.toNat (2 ^ 28))
          if dqs then t else t.raise Rc.GH_FLASH_PROTOCOL 2
      let s := if s.get FLASH_OK = 1 then s.flashRecords boot else s
      let s := if s.flag UP_SAVE then s.saveNow else s
      let s := s.beginOn.upProceed
      if s.get CT_ON ≠ 0 && s.get CT_SRC = 4 then
        let src := s.flashSource (s.get CT_BASE)
        ((s.put CT_SRC src).put GH_CFGSTAT.SRC src).put CT_LEN (min (s.get CT_LEN) (s.get FLASH_SIZE - s.get CT_BASE))
      else if boot then s.planFlash
      else s

end Sys2Proof.Machine
end

