-- ==== Sys2Proof/Machine/Upkeep.lean ====
section
/-! DEFINITION. spec/20: temperature, rails, the configuration scrubber, repairs, delay lines, sensor tamper; the ends of
a fence (R118, R119), which a repair and Dormant entry wait for. -/

namespace Sys2Proof.Machine

/-! Temperature and rails (R737 to R739). -/

/-- A signed 12-bit value shifted so that it compares as a natural number. -/
def offset12 (v : Nat) : Nat := (v + 2048) % 4096

/-- A temperature threshold: k 0 WARN, 1 CRIT (R738). (DEDUCED, log entry 94.) -/
def State.tempThr (s : State) (k thr : Nat) (c : Rc) : State :=
  let v := offset12 (s.get BV_TEMPMAX.VALUE)
  let t := offset12 thr
  if t ≤ v && !s.flag TMP_ON k then
    let s := (s.put TMP_ON 1 k).raise c (s.get BV_TEMPMAX.SENSOR)
    if k = 0 then (s.put BV_IRQ.TEMP 1).put BV_ALERT.TEMP_HIGH 1 else s.put BV_ALERT.TEMP_CRIT 1
  else if v + 16 ≤ t then s.put TMP_ON 0 k
  else s

/-- TEMP_SAMPLE (R737, R738): the samples of TS0 to TS15 in 1/8 °C. -/
def execTempSample (ts : List (BitVec 12)) (s : State) : Out :=
  if ts.length ≠ 16 then .fault (.noSuchCommand "TEMP_SAMPLE")
  else live s fun s =>
    let v (k : Nat) : Nat := ((ts[k]?).getD 0).toNat
    let s := (List.range 16).foldl (fun u k => (u.put BV_TEMP.VALUE (v k) k).put BV_TEMP.VALID 1 k) s
    let hot := (List.range 16).foldl (fun b k => if offset12 (v b) < offset12 (v k) then k else b) 0
    let s := (s.put BV_TEMPMAX.VALUE (v hot)).put BV_TEMPMAX.SENSOR hot
    (s.tempThr 0 (s.get BV_TEMPTHR.WARN) Rc.BV_TEMP_HIGH).tempThr 1 (s.get BV_TEMPTHR.CRIT) Rc.BV_TEMP_CRIT

/-- Window of a rail in mV (Table BV-1, the recommended operating range). -/
def State.railWindow (s : State) (r : Nat) : Nat × Nat :=
  match r with
  | 0 => let v := if s.mode = mDORMANT then 450 else s.get PW_GOVSTAT.VNOW
         (v - 30, v + 30)
  | 1 => (1710, 1890)
  | 2 => (873, 927)
  | 3 => (1164, 1236)
  | 4 => (3135, 3465)
  | 5 => (1710, 1890)
  | _ => (1200, 3600)

/-- One side of a rail's window: `out` whether the sample is outside it there (R739). -/
def State.railSide (s : State) (r : Nat) (high out : Bool) : State :=
  let i := if high then r + 8 else r
  let n := s.get RAIL_CNT i
  if !out then s.put RAIL_CNT 0 i
  else if n = 3 then s
  else if n < 2 then s.put RAIL_CNT (n + 1) i
  else
    let s := (s.put RAIL_CNT 3 i).put (if high then BV_RAIL.HIGH else BV_RAIL.LOW) 1 r
    ((s.put BV_IRQ.RAIL 1).put BV_ALERT.RAIL 1).raise Rc.BV_RAIL_RANGE r (s.get BV_RAIL.MV r)

/-- RAIL_SAMPLE (R739): the rails in mV; `settled` when VCORE is judged, its last commit being 200 µs old. -/
def execRailSample (mv : List (BitVec 12)) (settled : Bool) (s : State) : Out :=
  if mv.length ≠ 7 then .fault (.noSuchCommand "RAIL_SAMPLE")
  else live s fun s =>
    (List.range 7).foldl (fun u r =>
      let v := ((mv[r]?).getD 0).toNat
      let u := u.put BV_RAIL.MV v r
      if r = 0 && (!settled || u.get PW_DMSTAT.PHASE = dmENTERING || u.get PW_DMSTAT.PHASE = dmWAKING) then u
      else
        let w := u.railWindow r
        (u.railSide r false (v < w.1)).railSide r true (w.2 < v)) s

/-! Repairs (R744 to R746). -/

/-- Plots whose repair waits for the one that runs (Table BV-9). -/
def REP_Q : Fifo := ⟨47⟩

/-- Scrubbing runs, or is suspended because the configuration port is in use (R742, R748). -/
def State.csRuns (s : State) : Bool := s.flag BV_CSCFG.EN && (s.mode = mHOLD || s.mode = mRUN)
def State.csSuspended (s : State) : Bool := s.csRuns && (s.get CT_ON ≠ 0 || s.get REP_STEP = 2)

/-- BV_CSSTAT as it reads. -/
def State.csstatWord (s : State) : Nat :=
  s.get BV_CSSTAT.PASSES + 2 ^ 16 * b2n (s.csRuns && !s.csSuspended) + 2 ^ 17 * b2n s.csSuspended +
    2 ^ 18 * s.get BV_CSSTAT.REPAIR_PLOT + 2 ^ 24 * s.get BV_CSSTAT.REPAIRING

/-- The repair is over; its key slot is released. -/
def State.repairOver (s : State) : State :=
  let k := s.get REP_SLOT
  let s := ((s.put REP_STEP 0).put REP_SLOT 0).put BV_CSSTAT.REPAIRING 0
  let s := s.put FB_PSTAT.REPAIR 0 (s.get BV_CSSTAT.REPAIR_PLOT)
  if k = 0 then s else s.keyDone k

/-- A failure once the plot is FENCED: its frames are zero, and the Belvedere holds it (R746); a plot that a user fenced
keeps its holder (R124). (DEDUCED, log entry 93.) -/
def State.repairFail (s : State) (c : Rc) : State :=
  let p := s.get BV_CSSTAT.REPAIR_PLOT
  let s := if s.flag FB_PSTAT.REPAIR p then s.plotWipe p else (s.plotWipe p).setPlot p pFENCED hBELVEDERE
  s.repairOver.raise Rc.BV_REPAIR_FAIL p c.num

/-- Word k from payload byte `pos` on of the container at flash offset `base`, in plain. -/
def State.repWord (s : State) (base : Nat) (h : List Nat) (pos k : Nat) : Option Nat :=
  let v := s.flashLE (base + 256 + pos + 4 * k) 4
  let iv := ofBytesLE ((h.drop 24).take 12)
  if bit (h.getD 7 0) 0 then some (v ^^^ Config.gcmStream (s.get KEY_VAL (h.getD 12 0 % 8)) iv (pos / 4 + k) % 2 ^ 32) else some v

/-- The commands of the source, of which only the FRAMEs of plot p are executed (R745): the first that fails. -/
def repLoop (p base : Nat) (h : List Nat) : Nat → CtView → State → Option Rc × State
  | 0, _, s => (some Rc.GH_CFG_TRUNC, s)
  | f + 1, v, s =>
    match v.judge (s.repWord base h v.pos) with
    | .wait => (some Rc.GH_CFG_TRUNC, s)
    | .bad c _ => (some c, s)
    | .ok ws =>
      let w := ws.headD 0
      let s := if w % 256 = 1 && bits w 10 6 = p then s.putFrames ws else s
      let next := v.pos + 4 * ws.length
      if w % 256 = 15 then (none, s)
      else if w % 256 = 4 then
        repLoop p base h f { v with pos := next, span := next, crc := 2 ^ 32 - 1, after := true } s
      else
        let crc := (ws.flatMap (bytesLE 4)).foldl crcByte v.crc
        let staging := v.staging || (v.plot.isSome && [2, 3, 7].contains (w % 256))
        repLoop p base h f { v with pos := next, crc := crc, after := false, staging := staging } s

/-- The whole source container of plot p read, checked (Table GH-16) and written: its failure, and the state.
(DEDUCED, log entry 93.) -/
def State.repRun (s : State) (p : Nat) : Option Rc × State :=
  let base := s.get BV_REPSRC.OFFSET p
  let h := s.flashBytes base 256
  let le (a n : Nat) := ofBytesLE ((h.drop a).take n)
  let plen := le 20 4
  let plot := if h.getD 6 0 = 1 then some p else none
  let view : CtView :=
    { pos := 0, plen := plen, span := 0, crc := 2 ^ 32 - 1, after := false, plot := plot, staging := false }
  let r := repLoop p base h (plen / 4 + 1) view (s.setList CT_TILES [])
  match r.1 with
  | some c => (some c, r.2.setList CT_TILES [])
  | none =>
    let s := r.2
    let body := s.flashBytes (base + 256) plen
    let tag := s.flashLE (base + 256 + plen) 16
    let enc := bit (h.getD 7 0) 0
    let ok := if enc then Config.gcmTagOk (s.get KEY_VAL (h.getD 12 0 % 8)) (le 24 12) h body tag
      else Config.gcmTagOk 0 (le 24 12) (h ++ body) [] tag
    let tiles := s.list CT_TILES
    let s := s.setList CT_TILES []
    if !ok || Config.sha384 body % 2 ^ 384 ≠ le 64 48 then (some Rc.GH_CFG_TAG, s)
    else if tiles.any fun t => s.pairBad t then (some Rc.FB_STYLE_PAIR, s)
    else (s.routeCheck (some p), s)

/-- Step 2 of Table BV-3: the source is opened and its header checked; its key slot is in use from here on. -/
def State.repairRead (s : State) : State :=
  let p := s.get BV_CSSTAT.REPAIR_PLOT
  let base := s.get BV_REPSRC.OFFSET p
  let s := if s.flag FB_PSTAT.REPAIR p then s else s.setPlot p pWRITING hBELVEDERE
  let s := s.put REP_STEP 2
  if s.flag MI_CFG.EN then s.repairFail Rc.MI_PAIRED
  else if s.get FLASH_OK ≠ 1 || s.get BV_REPSRC.SRC p ≠ 1 then s.repairFail Rc.GH_CFG_SOURCE
  else
    let h := s.flashBytes base 256
    let len := s.get FLASH_SIZE - base
    match s.headerBad h (fun kind target => kind = 0 || (kind = 1 && target = p)) len with
    | some c => s.repairFail c
    | none =>
      match s.headerUnsigned h (fun i => s.load .flash (base + i)) len with
      | some c => s.repairFail c
      | none =>
        let k := if bit (h.getD 7 0) 0 then h.getD 12 0 % 8 else 0
        if k = 0 then s else (s.keyUse k).put REP_SLOT k

/-- A repair of plot p begins: a LIVE plot is fenced first (Table BV-3); one that a user has fenced is not (R124).
(DEDUCED, log entry 93.) -/
def State.repairStart (s : State) (p : Nat) : State :=
  let st := s.get FB_PSTAT.STATE p
  let s1 := ((s.put BV_CSSTAT.REPAIRING 1).put BV_CSSTAT.REPAIR_PLOT p).raise Rc.BV_REPAIR_START p
  if st = pLIVE then (s1.put REP_STEP 1).fence p hBELVEDERE (s.flag BV_CSCFG.FORCE) 7
  else if st = pFENCED && s.get FB_PSTAT.HOLDER p = hUSER then (s1.put FB_PSTAT.REPAIR 1 p).repairRead
  else s

/-- The next repair that waits. -/
def State.repairNext (s : State) : State :=
  match s.list REP_Q with
  | [] => s
  | p :: r =>
    if s.flag BV_CSSTAT.REPAIRING || s.get CT_ON ≠ 0 || s.get DM_STEP = 2 || !(s.mode = mHOLD || s.mode = mRUN) then s
    else (s.setList REP_Q r).repairStart p

/-- REPAIR_COMPLETE (R745, R746): the source has been read to its end. -/
def execRepairComplete (s : State) : Out :=
  live s fun s =>
    if s.get REP_STEP ≠ 2 then s
    else
      let p := s.get BV_CSSTAT.REPAIR_PLOT
      let user := s.flag FB_PSTAT.REPAIR p
      let r := s.repRun p
      match r.1 with
      | some c => (r.2.repairFail c).repairNext
      | none =>
        let s := if user then r.2 else r.2.unfence p
        ((s.repairOver.raise Rc.BV_REPAIR_DONE p).put BV_IRQ.REPAIR 1).repairNext

/-! The configuration scrubber (R742 to R744). -/

/-- The word at a scrub position: its plot and tile, and the word within the 128-word tile frame. -/
def csPlot (a : Nat) : Nat := a / 2 ^ 14 / 12
def csTile (a : Nat) : Nat := tileOf (csPlot a) (a / 2 ^ 14 % 12) (a / 2 ^ 7 % 128)
def csWords : Nat := 64 * 12 * 2 ^ 14

/-- Go to a position; after the last the pass has ended, and the next begins (R742). -/
def State.csGo (s : State) (a : Nat) : State :=
  if a < csWords then s.put CS_AT a
  else ((s.put CS_AT 0).put BV_CSSTAT.PASSES (s.get BV_CSSTAT.PASSES + 1)).forget [CS_DONE]

/-- The plot at hand, past those that are WRITING or STAGING. -/
def csSkip : Nat → State → State
  | 0, s => s
  | f + 1, s =>
    let p := csPlot (s.get CS_AT)
    let st := s.get FB_PSTAT.STATE p
    if st = pWRITING || st = pSTAGING then csSkip f (s.csGo ((p + 1) * 12 * 2 ^ 14)) else s

/-- R744: an uncorrectable error in plot p, once per plot and pass. (DEDUCED, log entry 92.) -/
def State.csHandle (s : State) (p : Nat) : State :=
  let act := s.get BV_CSCFG.UE_ACT
  let st := s.get FB_PSTAT.STATE p
  let user := st = pFENCED && s.get FB_PSTAT.HOLDER p = hUSER
  if act = 0 || s.flag CS_DONE p || !(st = pLIVE || user) then s
  else
    let s := s.put CS_DONE 1 p
    if act = 2 && s.get BV_REPSRC.SRC p = 1 then
      if (s.list REP_Q).contains p || (s.flag BV_CSSTAT.REPAIRING && s.get BV_CSSTAT.REPAIR_PLOT = p) then s
      else (s.enq REP_Q p).repairNext
    else if st = pLIVE then s.fence p hBELVEDERE (s.flag BV_CSCFG.FORCE) 7
    else s

/-- CONFIG_SCRUB_READ (R741 to R744): the scrubber reads its next word; `flips` are the bits of it that have changed by
themselves since it was written. -/
def execConfigScrubRead (flips : BitVec 39) (s : State) : Out :=
  live s fun s =>
    if !s.csRuns || s.csSuspended then s
    else
      let s := csSkip 64 s
      let a := s.get CS_AT
      let p := csPlot a
      let t := csTile a
      let w := a % 128
      let v := s.load .config (128 * t + w) ^^^ flips.toNat
      let s := s.store .config (128 * t + w) v
      let sy := cfgSyndrome v
      let type := if w < 64 then 0 else if w < 112 then 1 else 2
      let detail := t + 2 ^ 17 * type + 2 ^ 19 * w + 2 ^ 32 * sy
      let s :=
        if sy = 0 then s
        else
          match cfgCorrect v with
          | some u =>
            let s := ((s.store .config (128 * t + w) u).count BV_CSCNT.CE 1).count BV_ERRSUM.COUNT 1 0
            if s.flag CE_SEEN then s else (s.put CE_SEEN 1).raise Rc.BV_CFG_CE p detail
          | none =>
            let s := ((s.count BV_CSCNT.UE 1).count BV_ERRSUM.COUNT 1 1).put BV_IRQ.CFG 1
            ((s.put BV_ALERT.CFG_UE 1).raise Rc.BV_CFG_UE p detail).csHandle p
      if (s.get FB_PSTAT.STATE p = pWRITING) then s.csGo ((p + 1) * 12 * 2 ^ 14) else s.csGo (a + 1)

/-- The effect of a word written to BV_IRQ (R743). -/
def wrBvIrq (m : Master) (w : Nat) (s : State) : State :=
  let s := s.writeReg m BV_IRQ.reg 0 w
  if bit w 0 then s.put CE_SEEN 0 else s

/-- The effect of a word written to BV_CSCTL (R742, R747). -/
def wrCsctl (m : Master) (w : Nat) (s : State) : State :=
  let p := bits w 0 6
  if !(bit w 6 || bit w 7) then s
  else if s.mode ≠ mHOLD && s.mode ≠ mRUN then s.refuse Rc.BV_WRONG_MODE s.mode m 0x34014
  else
    let s :=
      if bit w 6 then
        if s.get FB_PSTAT.STATE p = pFENCED && s.get FB_PSTAT.HOLDER p = hBELVEDERE then
          (s.put FB_PSTAT.HOLDER hUSER p).raise Rc.BV_HANDBACK p
        else s.refuse Rc.BV_NOT_HELD p m 0x34014
      else s
    if bit w 7 then (s.put CS_AT 0).forget [CS_DONE] else s

/-- SCAN (R742): a write of SCAN to BV_CSCTL. -/
def execScan (m : Master) (s : State) : Out := live s fun s => s.onWrite m 0x34014 128 (wrCsctl m 128)

/-- HANDBACK (R747): a write of HANDBACK to BV_CSCTL, naming a plot. -/
def execHandback (m : Master) (p : Fin 64) (s : State) : Out :=
  live s fun s => s.onWrite m 0x34014 (64 + p) (wrCsctl m (64 + p))

/-- SCRUB_STARVED (R748): a suspension has lasted 100 ms, or a further 100 ms. -/
def execScrubStarved (s : State) : Out :=
  live s fun s =>
    if s.csSuspended then ((s.put BV_IRQ.STARVED 1).put BV_ALERT.STARVED 1).raise Rc.BV_SCRUB_STARVED 0 else s

/-! The ends of a fence (R118, R119). -/

/-- What waits for a plot that has become FENCED. -/
def State.fenceDone (s : State) (p : Nat) : State :=
  if s.get FB_PSTAT.HOLDER p = hBELVEDERE then
    if s.get REP_STEP = 1 && s.get BV_CSSTAT.REPAIR_PLOT = p then s.repairRead.repairNext else s.raise Rc.BV_PLOT_HELD p
  else s

/-- PLOT_QUIET (R118): the fourth consecutive quiet sample. -/
def execPlotQuiet (p : Fin 64) (s : State) : Out :=
  live s fun s => if s.get FB_PSTAT.STATE p = pFENCING then (s.fenced p).fenceDone p else s

/-- DRAIN_TIMEOUT (R119): DRAIN_T has passed; with FORCE 1 `discarded` handshakes are dropped. -/
def execDrainTimeout (p : Fin 64) (discarded : BitVec 16) (s : State) : Out :=
  live s fun s =>
    let h := s.get FB_PSTAT.HOLDER p
    if s.get FB_PSTAT.STATE p ≠ pFENCING then s
    else if s.flag FENCE_FORCE p then (((s.xpForce p).forced p discarded.toNat)).fenceDone p
    else
      let detail := if h = hUSER then 0x41000 + 0x10 * p.val + 2 ^ 20 * s.get FENCE_BY p else 0
      let s := ((s.unfence p).refuseBy 0x0F Rc.FB_DRAIN_TIMEOUT p detail).put FB_IRQ.DRAIN_TO 1
      if h = hDORMANT then s.dmAbandon Rc.PW_DM_DRAIN p (2 ^ 20 * s.get DM_BY)
      else if h = hBELVEDERE && s.get REP_STEP = 1 && s.get BV_CSSTAT.REPAIR_PLOT = p then
        (s.repairOver.raise Rc.BV_REPAIR_FAIL p Rc.FB_DRAIN_TIMEOUT.num).repairNext
      else s

/-! Delay lines (R753, R754). -/

/-- DL_CALIBRATION_START (R754): the interval, or a commit. -/
def execDlCalibrationStart (s : State) : Out :=
  live s fun s => if s.mode = mHOLD || s.mode = mRUN then s.put BV_DLSTAT.BUSY 1 else s

/-- A line has its new code; with the last one the calibration has completed, and a voltage read that waited for it is
sent (R754). (DEDUCED, log entry 94.) -/
def State.dlDone (s : State) (last : Bool) : State :=
  if last && s.flag BV_DLSTAT.BUSY then
    let s := s.put BV_DLSTAT.BUSY 0
    if s.get AVS_PHASE = 11 then s.avsRead else s
  else s

/-- DL_SWAP (R753): shadow lines are swapped in at an idle gap, or keep the code in use; `last` when no line is left. -/
def execDlSwap (last : Bool) (s : State) : Out := live s fun s => s.dlDone last

/-- DL_FORCED_SWAP (R753): a line of plot p is swapped without an idle gap. -/
def execDlForcedSwap (p : Fin 64) (last : Bool) (s : State) : Out :=
  live s fun s =>
    if !s.flag BV_DLSTAT.BUSY then s
    else
      let first := !s.flag BV_IRQ.CAL
      let s := (s.count BV_DLSTAT.FORCED 1).put BV_IRQ.CAL 1
      (if first then s.raise Rc.BV_CAL_FORCED p else s).dlDone last

/-! Sensor tamper (R757). -/

/-- SENSOR_TAMPER (R757, R661): condition c of Table BV-5 holds. -/
def execSensorTamper (c : Fin 4) (s : State) : Out :=
  live s fun s =>
    if !bit (s.get BV_TAMPEN.EN) c then s
    else
      let s := ((s.orBit BV_TAMPSTAT.EVT c).put GH_TAMPSTAT.SENSOR_EVT 1).put BV_IRQ.TAMPER 1
      let s := (s.put BV_ALERT.TAMPER 1).raise Rc.BV_SENSOR_TAMPER c
      s.tamperEvent 4 (s.get GH_TAMPCFG.SENSOR) GH_TAMPSTAT.SENSOR_EVT

/-- The effect of a word written to BV_TAMPEN (R757): on a sealed part a set bit stays. -/
def wrTampen (m : Master) (w : Nat) (s : State) : State :=
  let old := s.get BV_TAMPEN.EN
  if s.unlocked m && s.flag GH_IDENT.SEALED && bits w 0 4 ||| old ≠ bits w 0 4 then
    (s.put BV_TAMPEN.EN (bits w 0 4 ||| old)).writeDenied m 0x340C0 0
  else s.writeReg m BV_TAMPEN.reg 0 w

end Sys2Proof.Machine
end

