-- ==== Sys2Proof/Machine/Smbus.lean ====
section
/-! DEFINITION. spec/20: the SMBus target (R758 to R761) and its alert; the log read through cursor 2 (R806). An answer is
emitted as the command code, 1, and the bytes that the device drives; a NACKed command byte as the code and 0. -/

namespace Sys2Proof.Machine

/-! The alert (R760). -/

/-- BV_ALERT and BV_ALERTMASK as words. -/
def State.alertBits (s : State) : Nat := s.readReg BV_ALERT.reg 0
def State.alertOn (s : State) : Bool := s.alertBits &&& s.get BV_ALERTMASK.MASK ≠ 0

/-- A bit of BV_ALERT that has been set since the release ends it. -/
def State.alertSettle (s : State) : State :=
  if s.flag SMB_REL && s.alertBits ||| s.get SMB_OLD ≠ s.get SMB_OLD then s.put SMB_REL 0 else s

/-- SMB_ALERT_N is driven low. -/
def State.alertDriven (s : State) : Bool := s.alertOn && !s.alertSettle.flag SMB_REL

/-- Bits of BV_ALERT are cleared; with every unmasked bit clear the release ends. -/
def State.alertClear (s : State) (w : Nat) : State :=
  let s := s.alertSettle
  let s := BV_ALERT.reg.fields.foldl (fun u f => if bit w f.lo then u.put f 0 else u) s
  let s := s.put SMB_OLD (s.get SMB_OLD &&& s.alertBits)
  if s.alertOn then s else s.put SMB_REL 0

/-- The effect of a word written to BV_ALERT. -/
def wrBvAlert (w : Nat) (s : State) : State := s.alertClear (bits w 0 10)

/-! The target (R758, R759, R761). -/

/-- Commands answered in DORMANT (R759). -/
def smbDormant : List Nat := [0x01, 0x02, 0x10, 0x11, 0x12, 0x18, 0x19, 0x38, 0x39, 0x3A]

/-- Commands of Table BV-6 that are read, and that are written. -/
def smbReads : List Nat :=
  [0x01, 0x02, 0x03, 0x10, 0x11, 0x12, 0x18, 0x19, 0x1A, 0x1B, 0x20, 0x21, 0x28, 0x30, 0x31, 0x32, 0x38, 0x3A]
def smbWrites : List Nat := [0x11, 0x18, 0x39, 0x3A]
def smbBlocks : List Nat := [0x01, 0x28, 0x31, 0x32]

/-- R761: a host violation of a kind. (DEDUCED, log entry 95.) -/
def State.smbViolation (s : State) (kind : Nat) : State :=
  let s := (if s.get BV_SMBSTAT.PECERR = 0 then s.put SMB_SEEN 0 1 else s)
  let s := if s.get BV_SMBSTAT.PROTO = 0 then [2, 3, 4, 5, 6].foldl (fun u k => u.put SMB_SEEN 0 k) s else s
  let first := !s.flag SMB_SEEN kind
  let s := ((s.count (if kind = 1 then BV_SMBSTAT.PECERR else BV_SMBSTAT.PROTO) 1).put SMB_SEEN 1 kind).put BV_IRQ.SMB 1
  if first then s.raise (if kind = 1 then Rc.BV_SMB_PEC else Rc.BV_SMB_PROTOCOL) kind else s

/-- The command byte is NACKed. -/
def State.smbNack (s : State) (cmd : Nat) : State := s.emit .smbus [cmd, 0]

/-- A transaction that names the device's address: nothing with EN 0; a NACK of a command that DORMANT does not answer. -/
def State.smbAt (s : State) (cmd : Nat) (k : State → State) : State :=
  if !s.flag BV_SMBCFG.EN then s
  else if s.mode = mDORMANT && !(smbDormant.contains cmd) then s.smbNack cmd
  else k s

/-- The packet error code of a read, over the addresses, the command and the data. (DEDUCED, log entry 95.) -/
def State.smbPec (s : State) (cmd : Nat) (l : List Nat) : Nat :=
  let a := 2 * s.get BV_SMBCFG.ADDR
  ([a, cmd, a + 1] ++ l).foldl pecByte 0

/-- A read of a command that answers `data`; `after` is what the read does when it is not discarded. -/
def State.smbRead (s : State) (cmd : Nat) (r : SmbRead) (data : List Nat) (after : State → State) : State :=
  s.smbAt cmd fun s =>
    let l := if smbBlocks.contains cmd then data.length :: data else data
    match r with
    | .cut => if smbBlocks.contains cmd then s.smbViolation 6 else s
    | .whole pec => (after s).emit .smbus ([cmd, 1] ++ l ++ (if pec then [s.smbPec cmd l] else []))
    | .past n => (after s).emit .smbus ([cmd, 1] ++ l ++ List.replicate n.toNat 0xFF)

/-- A read without a further effect. -/
def State.smbValue (s : State) (cmd : Nat) (r : SmbRead) (data : List Nat) : State := s.smbRead cmd r data id

/-- A write of n bytes to a command: out of range, PEC, then its effect. -/
def State.smbWrite (s : State) (cmd n v : Nat) (pec : Option (BitVec 8)) (ok : Bool) (k : State → State) : State :=
  s.smbAt cmd fun s =>
    let good := match pec with
      | none => !s.flag BV_SMBCFG.PEC_REQ
      | some p => ([2 * s.get BV_SMBCFG.ADDR, cmd] ++ bytesLE n v).foldl pecByte 0 = p.toNat
    if !ok then s.smbViolation 4 else if good then k s else s.smbViolation 1

/-- PW_MODE.ROLE as it reads (R551). -/
def State.roleShown (s : State) : Nat := if s.mode = mRUN then s.get MI_STAT.ROLE else 0

/-- IDENT (R758). -/
def execIdent (r : SmbRead) (s : State) : Out :=
  live s fun s => s.smbValue 0x01 r ([0x36, 0x15, 0xA1, s.mode + 16 * s.roleShown] ++ bytesLE 8 s.dieId)

/-- STATUS (R758). -/
def execSmbStatus (r : SmbRead) (s : State) : Out :=
  live s fun s =>
    let low := s.mode + 16 * s.roleShown + 64 * s.get PW_GOVSTAT.SHORT + 128 * b2n (s.get PW_GOVSTAT.STATE = 3)
    s.smbValue 0x02 r [low, s.alertBits % 256]

/-- ADDR (R758). -/
def execSmbAddr (r : SmbRead) (s : State) : Out := live s fun s => s.smbValue 0x03 r [s.hxAddr]

/-- A signed 12-bit value as a 16-bit word. -/
def signed16 (v : Nat) : List Nat := bytesLE 2 (if 2048 ≤ v then v + 0xF000 else v)

/-- TEMP_MAX (R758). -/
def execTempMax (r : SmbRead) (s : State) : Out := live s fun s => s.smbValue 0x10 r (signed16 (s.get BV_TEMPMAX.VALUE))

/-- TEMP_SEL (R758). -/
def execTempSel (x : SmbAccess 8) (s : State) : Out :=
  live s fun s =>
    match x with
    | .read r => s.smbValue 0x11 r [s.get SMB_SEL]
    | .write d pec => s.smbWrite 0x11 1 d.toNat pec (d.toNat < 16) fun s => s.put SMB_SEL d.toNat

/-- TEMP (R758). -/
def execSmbTemp (r : SmbRead) (s : State) : Out :=
  live s fun s => s.smbValue 0x12 r (signed16 (s.get BV_TEMP.VALUE (s.get SMB_SEL)))

/-- RAIL_SEL (R758). -/
def execRailSel (x : SmbAccess 8) (s : State) : Out :=
  live s fun s =>
    match x with
    | .read r => s.smbValue 0x18 r [s.get SMB_RSEL]
    | .write d pec => s.smbWrite 0x18 1 d.toNat pec (d.toNat < 7) fun s => s.put SMB_RSEL d.toNat

/-- RAIL (R758). -/
def execSmbRail (r : SmbRead) (s : State) : Out :=
  live s fun s => s.smbValue 0x19 r (bytesLE 2 (s.get BV_RAIL.MV (s.get SMB_RSEL)))

/-- VCORE_CMD (R758). -/
def execVcoreCmd (r : SmbRead) (s : State) : Out := live s fun s => s.smbValue 0x1A r (bytesLE 2 (s.get PW_GOVSTAT.VNOW))

/-- ICORE (R758). -/
def execIcore (r : SmbRead) (s : State) : Out :=
  live s fun s =>
    s.smbValue 0x1B r (bytesLE 2 (if s.flag PW_AVSSTAT.NOCUR then 0xFFFF else s.get PW_AVSDATA.CURRENT))

/-- PACE_MIN (R758). -/
def execPaceMin (r : SmbRead) (s : State) : Out := live s fun s => s.smbValue 0x20 r (bytesLE 2 (s.get PW_GOVSTAT.MINIDX))

/-- PACE_REQ (R758). -/
def execPaceReq (r : SmbRead) (s : State) : Out := live s fun s => s.smbValue 0x21 r (bytesLE 2 (s.get PW_GOVREQ.PACE_REQ))

/-- ERRSUM (R758, R740). -/
def execErrsum (r : SmbRead) (s : State) : Out :=
  live s fun s => s.smbValue 0x28 r ((List.range 4).flatMap fun i => bytesLE 4 (s.get BV_ERRSUM.COUNT i))

/-- LOG_STAT (R806). -/
def execLogStat (r : SmbRead) (s : State) : Out :=
  live s fun s =>
    let n := s.unread 2
    let bad := (s.ring.take n).any fun x => 3 ≤ x.sev
    let ovr := bit (s.get EV_IRQ.OVR) 2
    s.smbRead 0x30 r (bytesLE 2 (n % 2 ^ 13 + 2 ^ 13 * b2n ovr + 2 ^ 14 * b2n bad)) fun s => s.andBit EV_IRQ.OVR 2

/-- LOG_NEXT (R806, R799). -/
def execLogNext (r : SmbRead) (corrupt : Bool) (s : State) : Out :=
  live s fun s => s.smbRead 0x31 r ((s.recordAt 2 corrupt).flatMap (bytesLE 4)) fun s => s.cursorOn 2

/-- LOG_PEEK (R806, R799). -/
def execLogPeek (r : SmbRead) (corrupt : Bool) (s : State) : Out :=
  live s fun s => s.smbValue 0x32 r ((s.recordAt 2 corrupt).flatMap (bytesLE 4))

/-- ALERT_STAT (R758). -/
def execAlertStat (r : SmbRead) (s : State) : Out := live s fun s => s.smbValue 0x38 r (bytesLE 2 s.alertBits)

/-- ALERT_CLR (R758, R760). -/
def execAlertClr (w : BitVec 16) (pec : Option (BitVec 8)) (s : State) : Out :=
  live s fun s => s.smbWrite 0x39 2 w.toNat pec true fun s => s.alertClear (w.toNat % 2 ^ 10)

/-- ALERT_MASK (R758, R760). -/
def execAlertMask (x : SmbAccess 16) (s : State) : Out :=
  live s fun s =>
    match x with
    | .read r => s.smbValue 0x3A r (bytesLE 2 (s.get BV_ALERTMASK.MASK))
    | .write d pec => s.smbWrite 0x3A 2 d.toNat pec true fun s => s.put BV_ALERTMASK.MASK (d.toNat % 2 ^ 10)

/-- ALERT_RESPONSE_ADDRESS (R760): a read of address 0x0C; `won` when no other target wins the arbitration. -/
def execAlertResponseAddress (won : Bool) (s : State) : Out :=
  live s fun s =>
    if s.flag BV_SMBCFG.EN && s.alertDriven && won then
      (((s.alertSettle.put SMB_REL 1).put SMB_OLD s.alertBits)).emit .smbus [0x0C, 1, 2 * s.get BV_SMBCFG.ADDR]
    else s

/-- SMB_SCL_TIMEOUT (R761, kind 5). -/
def execSmbSclTimeout (s : State) : Out :=
  live s fun s => if s.flag BV_SMBCFG.EN then s.smbViolation 5 else s

/-- SMB_RESERVED_COMMAND (R761, kinds 2 and 3): a transaction with a command code, in a direction. -/
def execSmbReservedCommand (code : BitVec 8) (write : Bool) (s : State) : Out :=
  live s fun s =>
    let c := code.toNat
    s.smbAt c fun s =>
      if !(smbReads.contains c || smbWrites.contains c) then (s.smbNack c).smbViolation 2
      else if !((if write then smbWrites else smbReads).contains c) then (s.smbNack c).smbViolation 3
      else s

end Sys2Proof.Machine
end

