-- ==== Sys2Proof/Machine/SelfTest.lean ====
section
/-! DEFINITION. spec/21: the self-test. -/

namespace Sys2Proof.Machine

/-- The order in which tests run (Table TS-1), as bits of TESTS. -/
def tsOrder : List Nat := [2, 0, 1, 5, 3, 4]

/-- The place of the first selected test from place k on. -/
def State.tsFrom (s : State) (k : Nat) : Option Nat :=
  (List.range 6).find? fun i => k ≤ i && bit (s.get TS_SEL) (tsOrder.getD i 0)

/-- R781: the first condition that fails: `freq` the test reference in kHz, `vcore` the voltage read in mV. -/
def State.tsCheck (s : State) (freq vcore : Nat) : Option (Rc × Nat) :=
  let ref := s.get PW_TSCFG.REF
  let there := bit (s.get CK_REFSTAT.PRESENT) (if ref = 0 then 3 else 0)
  if !there || freq < 98000 || 102000 < freq then some (Rc.TS_NO_REF, ref)
  else if vcore < 780 || 820 < vcore then some (Rc.TS_VCORE, 0)
  else
    ((List.range 16).find? fun k =>
      let v := offset12 (s.get BV_TEMP.VALUE k)
      v < 1728 || 2848 < v).map fun k => (Rc.TS_TEMP, k)

/-- Step 2 of Table TS-1: every block other than GH, PW and EV is reset. -/
def State.testBlocks (s : State) : State :=
  let s := s.linkLost.endpointReset.hxAllDown.ckStop.slStop.designGone.claimsEnd.pinsReset
  let s := (s.clearRange 0x2000 0x38000).clearRange 0x39000 0x100000
  s.forget [PX_FREED, PX_PAUSE, HX_RDIST, HX_ASGN, HX_DEEP, HX_CTAG, SYN_REFSEL, SYN_RDIV, SYN_N, SYN_D, SYN_F, SYN_M,
    FM_SRC, REF_WAS_LOST, CS_AT, CS_DONE, CE_SEEN]

/-- TEST_START once it runs (R780, R781, R783). (DEDUCED, log entry 96.) -/
def runTestStart (freq vcore : Nat) (s : State) : State :=
  let tests := s.get PW_TSCFG.TESTS
  if tests = 0 then s.cmdFail Rc.TS_NONE 0
  else
    let rescue := s.mode = mRESCUE
    let s := s.govModeEntry
    match s.tsCheck freq vcore with
    | some (c, obj) => s.cmdFail c obj
    | none =>
      let by_ := s.get CMD_BY
      let s := ((s.put TS_SEL tests).put PW_TSSTAT.STATE 2).put PW_TSSTAT.RUNS (s.get PW_TSSTAT.RUNS + 1)
      let s := (s.put PW_TSSTAT.FROM_RESCUE (b2n rescue)).put PW_TSSTAT.ALL_PASS 0
      let s := (List.range 6).foldl (fun u i => ((u.put PW_TSRES.RESULT 0 i).put PW_TSRES.COUNT 0 i).put PW_TSRES.OBJ 0 i) s
      let k := (s.tsFrom 0).getD 0
      let s := (s.put TS_NEXT k).put PW_TSSTAT.CURRENT (tsOrder.getD k 0)
      let s := (s.cmdDone.setMode mTEST by_).raise Rc.TS_STARTED 0 tests
      s.testBlocks

/-- TEST_START (R780, R781): a write of OP 0x09 to GH_CMD; what the frequency meter and the voltage read show. -/
def execTestStart (m : Master) (freq : BitVec 20) (vcore : BitVec 12) (s : State) : Out :=
  live s fun s => s.onWrite m 0x24 0x09 fun s => s.ghCommand m 0x09 (runTestStart freq.toNat vcore.toNat)

/-- Steps 4 and 5 of Table TS-1 (R784, R785). (DEDUCED, log entry 96.) -/
def State.testEnd (s : State) (aborted : Bool) : State :=
  let sel := s.get TS_SEL
  let passed := ((List.range 6).filter fun i => s.get PW_TSRES.RESULT i = 1).map (2 ^ ·)
  let all := !aborted && passed.sum = sel
  let s := ((s.wipe .config).memoriesZero).raise Rc.TS_DONE 0 passed.sum
  let s := (s.put PW_TSSTAT.STATE (if aborted then 4 else 3)).put PW_TSSTAT.ALL_PASS (b2n all)
  let s := if all && !s.flag PW_TSSTAT.FROM_RESCUE then s else s.put TEST_FAILED 1
  s.warmReset 6

/-- TEST_COMPLETE (R787): the test that runs ends with its number of failures, the first failing object, and the address
within it. -/
def execTestComplete (fails : BitVec 12) (obj : BitVec 16) (addr : BitVec 32) (s : State) : Out :=
  live s fun s =>
    if s.mode ≠ mTEST || s.get PW_TSSTAT.STATE ≠ 2 then s
    else
      let i := s.get PW_TSSTAT.CURRENT
      let n := fails.toNat
      let s := ((s.put PW_TSRES.RESULT (if n = 0 then 1 else 2) i).put PW_TSRES.COUNT n i).put PW_TSRES.OBJ
        (if n = 0 then 0 else obj.toNat) i
      let s := if n = 0 then s.raise Rc.TS_PASS i else s.raise Rc.TS_FAIL i (obj.toNat + 2 ^ 16 * addr.toNat)
      if n ≠ 0 && s.flag PW_TSCFG.STOP_ON_FAIL then s.testEnd false
      else
        match s.tsFrom (s.get TS_NEXT + 1) with
        | some k => (s.put TS_NEXT k).put PW_TSSTAT.CURRENT (tsOrder.getD k 0)
        | none => s.testEnd false

/-- TS_COND_LOST (R784): a condition has failed in three samples: 0 the reference, 1 VCORE, 2 temperature. -/
def execTsCondLost (c : Fin 3) (s : State) : Out :=
  live s fun s =>
    if s.mode ≠ mTEST || s.get PW_TSSTAT.STATE ≠ 2 then s
    else
      let i := s.get PW_TSSTAT.CURRENT
      ((s.put PW_TSRES.RESULT 3 i).raise Rc.TS_COND_LOST i c).testEnd true

end Sys2Proof.Machine
end

