-- ==== Sys2Proof/Machine/BusRead.lean ====
section
/-! DEFINITION. What a read of any offset of the local control space returns and what it changes (R18, R19, R22, R23):
the registers with a rule of their own, the 64-bit pairs, and every other register from its fields. -/

namespace Sys2Proof.Machine

/-! 64-bit pairs (R19). -/

/-- The _LO registers of pairs whose reads have no rule of their own; their _HI registers follow at + 4. -/
def pairLow : List Nat :=
  [0x8, 0xA4, 0xB4, 0x1120, 0x40010, 0x40104, 0x58008, 0x803C, 0xA110, 0xA118, 0xA124, 0xA134, 0xA144] ++
    [0xA154, 0xA164, 0x19018, 0x21008, 0x21020, 0x24014, 0x24114, 0x28038, 0x32600, 0x32608]

/-- The _LO registers of all pairs: those above and the ones that a read pops, latches or steps.
(DEDUCED, log entry 25.) -/
def latchLow : List Nat := pairLow ++ [0x1010C, 0x18024, 0xA904]

/-- The word that the register after this one holds. -/
def State.nextWord (s : State) (r : Reg) (i : Nat) : Nat :=
  match findReg (regsOf r.off) (r.off + r.stride * i + 4) with
  | some (h, j) => s.readReg h j
  | none => 0

/-- A read of a register from its fields, as a half of a pair where it is one (R19). -/
def State.readPlain (s : State) (m : Master) (r : Reg) (i : Nat) : Nat × State :=
  let off := r.off + r.stride * i
  let v := s.readReg r i
  if pairLow.contains r.off then (v, s.latchHigh m off (s.nextWord r i))
  else if latchLow.contains (r.off - 4) && 4 ≤ r.off then (s.latched m (off - 4) v, s)
  else (v, s)

/-! The blocks. -/

/-- Reads of GH registers. -/
def rdGH (m : Master) (r : Reg) (i : Nat) (s : State) : Nat × State :=
  match r.off with
  | 0x4 => rdGhCtl s
  | 0x30 => rdGhArg m r i s
  | 0x400 => rdGhArg m r i s
  | 0xD8 => rdSetdata m s
  | _ => s.readPlain m r i

/-- Reads of PW registers. -/
def rdPW (m : Master) (r : Reg) (i : Nat) (s : State) : Nat × State :=
  match r.off with
  | 0x1000 => ((s.put PW_MODE.ROLE s.roleShown).readReg r 0, s)
  | 0x1800 => (s.levelWord i, s)
  | _ => s.readPlain m r i

/-- Reads of IO registers; those of absent pins and banks read 0 (R393). -/
def rdIO (m : Master) (r : Reg) (i : Nat) (s : State) : Nat × State :=
  match r.off with
  | 0x2014 => rdIoInct s
  | 0x2100 => if s.bankAbsent i then (0, s) else s.readPlain m r i
  | 0x2104 => if s.bankAbsent i then (0, s) else s.readPlain m r i
  | 0x2200 => rdIoIn i s
  | 0x2300 => if s.small && 6 ≤ i then (0, s) else s.readPlain m r i
  | 0x2400 => if s.pinAbsent i then (0, s) else s.readPlain m r i
  | 0x3000 => if s.pinAbsent i then (0, s) else s.readPlain m r i
  | _ => s.readPlain m r i

/-- Reads of CK registers; stages of absent quads read 0 (R233). -/
def rdCK (m : Master) (r : Reg) (i : Nat) (s : State) : Nat × State :=
  if 0x4400 ≤ r.off && s.small && 12 ≤ i then (0, s) else s.readPlain m r i

/-- Reads of SL registers; those of absent lanes and quads read 0 (R427). -/
def rdSL (m : Master) (r : Reg) (i : Nat) (s : State) : Nat × State :=
  if 0x7400 ≤ r.off && s.laneAbsent i then (0, s)
  else if 0x7100 ≤ r.off && r.off < 0x7400 && s.quadAbsent i then (0, s)
  else
    match r.off with
    | 0x710C => (s.quadStatWord i, s)
    | 0x7408 => (s.laneStatWord i, s)
    | 0x7410 => rdRxEq r i s
    | 0x7414 => rdRxEq r i s
    | 0x7418 => rdRxEq r i s
    | 0x741C => rdRxEq r i s
    | _ => s.readPlain m r i

/-- Reads of BS registers. -/
def rdBS (m : Master) (r : Reg) (i : Nat) (s : State) : Nat × State :=
  let own := s.latched m (r.off + r.stride * i)
  match r.off with
  | 0x802C => rdTnow0 m s
  | 0x8030 => (own (s.now / 2 ^ 32 % 2 ^ 32), s)
  | 0x8034 => (own (s.now / 2 ^ 64 + 2 ^ 16 * s.timeFlags), s)
  | 0x8108 => rdTtDat0 m i s
  | 0x810C => (own 0, s)
  | 0x8110 => (own 0, s)
  | 0x8114 => (own 0, s)
  | _ => s.readPlain m r i

/-- Reads of BT registers. -/
def rdBT (m : Master) (r : Reg) (i : Nat) (s : State) : Nat × State :=
  let own := s.latched m (r.off + r.stride * i) (s.readReg r i)
  match r.off with
  | 0xA904 => rdCapLo m i s
  | 0xA90C => (own, s)
  | 0xA910 => (own, s)
  | 0xA914 => (own, s)
  | _ => s.readPlain m r i

/-- Reads of QM registers. -/
def rdQM (m : Master) (r : Reg) (i : Nat) (s : State) : Nat × State :=
  match r.off with
  | 0x1010C => rdRwPopLo m i s
  | 0x16000 => (s.laneOccWord i, s)
  | _ => if 0x10014 ≤ r.off && r.off ≤ 0x10028 then (s.laneWord r.off, s) else s.readPlain m r i

/-- Reads of the endpoint registers of HX_EPSEL (R535). -/
def rdEndpoint (m : Master) (off : Nat) (s : State) : Nat × State :=
  let e := s.get HX_EPSEL.EP
  match off with
  | 0x24904 => (s.epCfgWord e, s)
  | 0x24908 => (s.epPeerWord e, s)
  | 0x2490C => (s.epStatWord e, s)
  | 0x24910 => (s.get EPS_CNT e % 2 ^ 32, s.latchHigh m 0x24910 (s.get EPS_CNT e / 2 ^ 32))
  | 0x24914 => (s.latched m 0x24910 (s.get EPS_CNT e / 2 ^ 32), s)
  | _ => (0, s)

/-- Reads of LG registers. -/
def rdLG (m : Master) (r : Reg) (i : Nat) (s : State) : Nat × State :=
  match r.off with
  | 0x3001C => rdLgMemdata m s
  | 0x31004 => rdUdata m i s
  | 0x31208 => rdSdata m i s
  | 0x31408 => rdIdata m i s
  | 0x31810 => rdGpin s
  | 0x32480 => (s.icPendWord i, s)
  | 0x32504 => rdIcclaim m s
  | _ => s.readPlain m r i

/-- Reads of EV registers; whether the record fails its check is open (R799). (DEDUCED, log entry 33.) -/
def rdEV (m : Master) (r : Reg) (i : Nat) (s : State) : Nat × State :=
  if r.off = 0x38050 then
    if i = 0 then rdEvRec0 m (s.fresh 1 = 1) s.drawn else rdEvRec m i s
  else s.readPlain m r i

/-- The byte range of the rescue staging buffer, which answers in RESCUE (R36, Table DV-11). (DEDUCED, log entry 31.) -/
def inStaging (s : State) (off : Nat) : Bool := s.mode = mRESCUE && 0x80000 ≤ off && off < 0x100000

/-- A read of a local offset past the checks of R34 and R653. (DESIGN CHOICE, log entry 23.) -/
def rawRead (m : Master) (off : Nat) (s : State) : Nat × State :=
  if inStaging s off then
    (ofBytesLE ((List.range 4).map fun i => s.load .rescue (off - 0x80000 + i) % 256), s)
  else
    match findReg (regsOf off) off with
    | none => rdEndpoint m off s
    | some (r, i) =>
      match blockOf off with
      | 0x01 => rdGH m r i s
      | 0x02 => rdPW m r i s
      | 0x03 => rdIO m r i s
      | 0x04 => rdCK m r i s
      | 0x05 => if r.off = 0x6000 then (s.xpCfgWord i, s) else s.readPlain m r i
      | 0x10 => rdSL m r i s
      | 0x06 => rdBS m r i s
      | 0x07 => rdBT m r i s
      | 0x08 => rdQM m r i s
      | 0x09 => if r.off = 0x18024 then rdWsDataLo m s else s.readPlain m r i
      | 0x0D => rdLG m r i s
      | 0x0E => if r.off = 0x34018 then (s.csstatWord, s) else s.readPlain m r i
      | 0x13 => rdEV m r i s
      | _ => s.readPlain m r i

/-- A read of a local offset by a master (R18, R34, R36, R653). -/
def busRead (m : Master) (off : Nat) (s : State) : Nat × State :=
  let off := off - off % 4
  if inStaging s off then
    let s := s.transact m
    if s.denied m 0 then (0, s.deny m off) else rawRead m off s
  else s.onRead m off (rawRead m off)

/-- What a register reads as, with no effect: a peek read (R23). -/
def busPeek (s : State) (off : Nat) : Nat := (rawRead .debug off (s.put DBG_CONSUME 0)).1

/-- PAIR_LO_READ (R19): a read of the _LO half of a pair; a read of another register is a read of it. -/
def execPairLoRead (m : Master) (off : BitVec 20) (s : State) : Out :=
  live s fun s =>
    let r := busRead m off.toNat s
    r.2.emit .busData [m.code, r.1]

end Sys2Proof.Machine
end

