-- ==== Sys2Proof/Machine/BusWrite.lean ====
section
/-! DEFINITION. What a write of any offset of the local control space does (R18, R19, R21, R22): the registers with a
rule of their own, the 64-bit pairs, and every other register under the access codes of its fields. -/

namespace Sys2Proof.Machine

/-! 64-bit pairs (R19). -/

/-- A _LO half that takes no effect is held for the writer; the halves of the timers are owner-guarded (R326). -/
def holdLows : List Nat := [0x1120, 0x40010, 0x40104, 0x803C, 0x10104, 0x18024, 0x21008, 0x32600, 0x32608]

/-- The same, of a timer. -/
def holdTimer : List Nat := [0xA110, 0xA118, 0xA134, 0xA144, 0xA154, 0xA164]

/-- Both halves of a pair take effect together: the low half from the writer's hold, or unchanged (R19). A cleared
FB_ELOVR keeps what the hold does not clear. (DEDUCED, log entry 25.) -/
def State.writePair (s : State) (m : Master) (r : Reg) (i w : Nat) : State :=
  let lo := r.off + r.stride * i - 4
  match findReg (regsOf lo) lo with
  | none => s
  | some (l, j) =>
    let t := match s.heldLow m lo with
      | some v => s.writeReg m l j v
      | none => s
    (t.dropHold m lo).writeReg m r i w

/-- A write under the access codes, or as a half of a pair. -/
def State.writePlain (s : State) (m : Master) (r : Reg) (i w : Nat) : State :=
  let off := r.off + r.stride * i
  if holdLows.contains r.off then s.holdLow m off w
  else if 4 ≤ r.off && holdLows.contains (r.off - 4) then s.writePair m r i w
  else s.writeReg m r i w

/-! GH_CMD (R628): the command codes of Table GH-2. -/

/-- Bytes that a partner outside the block supplies and no operand shows: free values. (DEDUCED, log entry 32.) -/
def State.freeBytes (s : State) (n : Nat) : List (BitVec 8) :=
  (List.range n).map fun i => BitVec.ofNat 8 (Config.freeValue (2 ^ 128 * (s.draws + 1) + i))

/-- What each command does once it runs. Where the row of a command carries what a partner shows (the package that host
memory returns, the frequency and voltage that the self-test checks), it is a free value here.
(DEDUCED, log entry 32.) -/
def runCommand (op : Nat) (s : State) : State :=
  match op with
  | 0x01 => runKeyWrite s
  | 0x02 => runKeyErase s
  | 0x03 => runKeyWrap s
  | 0x04 => runZeroize s
  | 0x05 => runLoadStart s
  | 0x06 => runUpdateBegin (s.freeBytes (s.fresh 31)) s.drawn
  | 0x07 => runUpdateCommit s
  | 0x08 => runUpdateAbort s
  | 0x09 => runTestStart (s.fresh 20) (s.drawn.fresh 12) s.drawn.drawn
  | 0x0A => runDebugUnlock s
  | 0x0B => runDebugLock s
  | 0x0C => runDeviceReset s
  | 0x0D => runPkProgram s
  | 0x0E => runPkRevoke s
  | 0x0F => runSeal s
  | _ => s

/-- The effect of a word written to GH_CMD. -/
def wrGhCmd (m : Master) (w : Nat) (s : State) : State := s.ghCommand m (bits w 0 8) (runCommand (bits w 0 8))

/-! The blocks. -/

/-- Writes to GH registers. -/
def wrGH (m : Master) (r : Reg) (i w : Nat) (s : State) : State :=
  match r.off with
  | 0x4 => wrGhCtl m w s
  | 0x1C => wrUnlock m w s
  | 0x24 => wrGhCmd m w s
  | 0x28 => wrCmdown m w s
  | 0x30 => wrGhArg m r i w s
  | 0x400 => wrGhArg m r i w s
  | 0x74 => wrPolicy m w s
  | 0x78 => wrTampcfg m w s
  | 0xC4 => wrUpcfg m w s
  | 0xCC => wrGhStage w s
  | 0xD4 => wrSetaddr w s
  | 0xD8 => wrSetdata m w s
  | 0xDC => wrSetctl w s
  | _ => s.writePlain m r i w

/-- Writes to PW registers. -/
def wrPW (m : Master) (r : Reg) (i w : Nat) (s : State) : State :=
  match r.off with
  | 0x100C => wrRdhold m w s
  | 0x1100 => wrGovCtl m w s
  | 0x1110 => wrVset m w s
  | 0x111C => wrGovIrq m w s
  | 0x1300 => wrDmctl m w s
  | _ => s.writePlain m r i w

/-- Writes to IO registers. -/
def wrIO (m : Master) (r : Reg) (i w : Nat) (s : State) : State :=
  match r.off with
  | 0x2010 => wrGpmap m w s
  | 0x2100 => wrBcfg m i w s
  | 0x2300 => wrSercfg m i w s
  | 0x2400 => wrPinCfg m i w s
  | 0x3000 => wrPclm m i w s
  | _ => s.writePlain m r i w

/-- Writes to CK registers; stages of absent quads, and of quads that the endpoint has set, ignore them (R233, R432). -/
def wrCK (m : Master) (r : Reg) (i w : Nat) (s : State) : State :=
  match r.off with
  | 0x4000 => wrCkCtl m w s
  | 0x4020 => wrFmCtl m w s
  | 0x4100 => wrSynCfg m r i w s
  | 0x4104 => wrSynCfg m r i w s
  | 0x4108 => wrSynCfg m r i w s
  | 0x410C => wrSynCtl m i w s
  | 0x4400 => if 6 ≤ i && (s.quadAbsent (i - 6) || s.quadPx (i - 6)) then s else s.writePlain m r i w
  | _ => s.writePlain m r i w

/-- Writes to SL registers; those of absent lanes and quads ignore them (R427). -/
def wrSL (m : Master) (r : Reg) (i w : Nat) (s : State) : State :=
  if 0x7400 ≤ r.off && s.laneAbsent i then
    if r.off = 0x7400 then wrLcfg m i w s else s
  else
    match r.off with
    | 0x7100 => wrQcfgReg m r i w s
    | 0x7104 => wrQcfgReg m r i w s
    | 0x7108 => wrQctl m i w s
    | 0x7400 => wrLcfg m i w s
    | 0x7404 => wrLctl i w s
    | 0x740C => wrTxEq m i w s
    | 0x7410 => wrRxEq m r i w s
    | 0x7414 => wrRxEq m r i w s
    | 0x7418 => wrRxEq m r i w s
    | 0x741C => wrRxEq m r i w s
    | 0x7420 => wrLtest m i w s
    | 0x7428 => wrLeye m i w s
    | _ => s.writePlain m r i w

/-- Writes to BS registers. -/
def wrBS (m : Master) (r : Reg) (i w : Nat) (s : State) : State :=
  match r.off with
  | 0x8000 => wrTbCtl m w s
  | 0x8018 => wrEpCtl m w s
  | 0x801C => wrEpoch m r i w s
  | 0x8028 => wrEpoch m r 0 w s
  | 0x8038 => wrAdjCtl m w s
  | 0x8044 => wrSoft w s
  | 0x8048 => wrSoftLevel w s
  | 0x8100 => wrTtCfg m i w s
  | 0x8E00 => wrRt m i w s
  | 0x9100 => wrCuCfg m i w s
  | 0x9110 => wrCueCmd2 i w s
  | 0x9A00 => wrLbtCtl m i w s
  | _ => s.writePlain m r i w

/-- Writes to BT registers: a _LO half of an owner is held, another master's is refused (R326, R652). -/
def wrBT (m : Master) (r : Reg) (i w : Nat) (s : State) : State :=
  if holdTimer.contains r.off then s.btOwned m i (r.off + r.stride * i) fun s => s.holdLow m (r.off + r.stride * i) w
  else
    match r.off with
    | 0xA004 => wrBtGo m w s
    | 0xA008 => wrBtSnap w s
    | 0xA100 => wrBtCtl m i w s
    | 0xA104 => wrBtOwn m i w s
    | 0xA108 => wrBtStat m i w s
    | 0xA10C => wrBtIe m i w s
    | 0xA114 => wrBtCntHi m i w s
    | 0xA11C => wrBtTopHi m i w s
    | 0xA138 => wrBtCmpHi m i 0 w s
    | 0xA148 => wrBtCmpHi m i 1 w s
    | 0xA158 => wrBtCmpHi m i 2 w s
    | 0xA168 => wrBtCmpHi m i 3 w s
    | 0xA120 => wrBtLocked m r i i w s
    | 0xA130 => wrBtLocked m r i i w s
    | 0xA140 => wrBtLocked m r i i w s
    | 0xA150 => wrBtLocked m r i i w s
    | 0xA160 => wrBtLocked m r i i w s
    | 0xA900 => wrBtLocked m r (i / 2) i w s
    | _ => s.writePlain m r i w

/-- Writes to QM registers. -/
def wrQM (m : Master) (r : Reg) (i w : Nat) (s : State) : State :=
  match r.off with
  | 0x10000 => wrQmCtl m w s
  | 0x10028 => wrLovf w s
  | 0x10100 => wrRwsel m i w s
  | 0x10108 => wrRwPushHi m i w s
  | 0x10114 => wrRwCmd m i w s
  | 0x10400 => wrPcfg m i w s
  | 0x11000 => wrQcfg m i w s
  | 0x11400 => wrQueueCfg m r i i w s
  | 0x11800 => wrQueueCfg m r i i w s
  | 0x14000 => wrQueueCfg m r (i / 8) i w s
  | _ => s.writePlain m r i w

/-- Writes to OG registers. -/
def wrOG (m : Master) (r : Reg) (i w : Nat) (s : State) : State :=
  match r.off with
  | 0x18028 => wrWsDataHi m w s
  | 0x19000 => wrOgCcfg m i w s
  | 0x19004 => wrOgCfg m r i w s
  | 0x19008 => wrOgCfg m r i w s
  | 0x19014 => wrOgCctl i w s
  | 0x19020 => wrOgPhase i w s
  | _ => s.writePlain m r i w

/-- Writes to PX registers. -/
def wrPX (m : Master) (r : Reg) (i w : Nat) (s : State) : State :=
  match r.off with
  | 0x20000 => wrPxIrq m w s
  | 0x20018 => wrPxIdentity m r w s
  | 0x2001C => wrPxIdentity m r w s
  | 0x21000 => wrPxChcfg m i w s
  | 0x21004 => wrPxRing m r i w s
  | 0x2100C => wrPxRbaseHi m i w s
  | 0x21010 => wrPxRing m r i w s
  | _ => s.writePlain m r i w

/-- Writes to HX registers. -/
def wrHX (m : Master) (r : Reg) (i w : Nat) (s : State) : State :=
  match r.off with
  | 0x24010 => wrHxDcfg m w s
  | 0x24020 => wrHxTcfg m w s
  | 0x24100 => wrHxPcfg m i w s
  | 0x24104 => wrHxPctl m i w s
  | 0x24400 => wrHxRt m i w s
  | 0x24800 => wrCpCfg m i w s
  | _ => s.writePlain m r i w

/-- Writes to MI registers. -/
def wrMI (m : Master) (r : Reg) (i w : Nat) (s : State) : State :=
  match r.off with
  | 0x28000 => wrMiCfg m w s
  | 0x28004 => wrMiFixed m r i w s
  | 0x28008 => wrMiFixed m r i w s
  | 0x2800C => wrMiFixed m r i w s
  | 0x28010 => wrMiCmd busPeek m w s
  | 0x28044 => wrWclaim m w s
  | 0x28048 => wrWren m w s
  | 0x2804C => wrWcfg m w s
  | 0x28100 => wrMiFixed m r i w s
  | 0x28104 => wrMiFixed m r i w s
  | _ => s.writePlain m r i w

/-- Writes to LG registers. -/
def wrLG (m : Master) (r : Reg) (i w : Nat) (s : State) : State :=
  match r.off with
  | 0x30000 => wrLgCtl m w s
  | 0x3001C => wrLgMemdata w s
  | 0x31000 => wrPeriphCfg m i w s
  | 0x31200 => wrPeriphCfg m (2 + i) w s
  | 0x31400 => wrPeriphCfg m (4 + i) w s
  | 0x31004 => wrUdata m i w s
  | 0x31204 => wrScmd m i w s
  | 0x31208 => wrSdata m i w s
  | 0x31404 => wrIcmd m i w s
  | 0x31408 => wrIdata m i w s
  | 0x31800 => wrGpout w s
  | 0x31804 => wrGpset w s
  | 0x31808 => wrGpclr w s
  | 0x3180C => wrGpoe m w s
  | 0x31900 => wrWdcfg m w s
  | 0x31904 => wrWdkick m w s
  | 0x31A00 => wrMbH2l m i w s
  | 0x31A20 => wrMbL2h m i w s
  | 0x31A40 => wrMbdb m w s
  | 0x31A44 => wrMbstat m w s
  | 0x32504 => wrIcclaim m w s
  | _ => s.writePlain m r i w

/-- Writes to BV registers. -/
def wrBV (m : Master) (r : Reg) (i w : Nat) (s : State) : State :=
  match r.off with
  | 0x34000 => wrBvIrq m w s
  | 0x34014 => wrCsctl m w s
  | 0x340C0 => wrTampen m w s
  | 0x340D8 => wrBvAlert w s
  | _ => s.writePlain m r i w

/-- Writes to FB registers. -/
def wrFB (m : Master) (r : Reg) (i w : Nat) (s : State) : State :=
  match r.off with
  | 0x40100 => wrMemAcc m w s
  | 0x41000 => wrPctl m i w s
  | 0x50000 => wrHardBlock m r (i / 32) i w s
  | 0x58000 => wrHardBlock m r (i / 48) i w s
  | _ => s.writePlain m r i w

/-- Writes to XP registers. -/
def wrXP (m : Master) (r : Reg) (i w : Nat) (s : State) : State :=
  match r.off with
  | 0x6000 => wrXpCfg m i w s
  | 0x6008 => wrXpStat m i w s
  | _ => s.writePlain m r i w

/-- A write of a local offset past the checks of R34, R557 and R653. (DESIGN CHOICE, log entry 23.) -/
def rawWrite (m : Master) (off w : Nat) (s : State) : State :=
  match findReg (regsOf off) off with
  | none => if off = 0x24904 then wrEpCfg m w s else if off = 0x24908 then wrEpPeer m w s else s
  | some (r, i) =>
    match blockOf off with
    | 0x01 => wrGH m r i w s
    | 0x02 => wrPW m r i w s
    | 0x03 => wrIO m r i w s
    | 0x04 => wrCK m r i w s
    | 0x05 => wrXP m r i w s
    | 0x10 => wrSL m r i w s
    | 0x06 => wrBS m r i w s
    | 0x07 => wrBT m r i w s
    | 0x08 => wrQM m r i w s
    | 0x09 => wrOG m r i w s
    | 0x0A => wrPX m r i w s
    | 0x0B => wrHX m r i w s
    | 0x0C => wrMI m r i w s
    | 0x0D => wrLG m r i w s
    | 0x0E => wrBV m r i w s
    | 0x0F => wrFB m r i w s
    | 0x13 => if r.off = 0x38020 then wrEvCur m i w s else s.writePlain m r i w
    | _ => s

/-- A write of a local word by a master (R18, R34, R36, R557, R653). -/
def busWrite (m : Master) (off w : Nat) (s : State) : State :=
  if inStaging s off then
    let s := s.transact m
    if s.denied m 1 then s.deny m off
    else (List.range 4).foldl (fun u i => u.store .rescue (off - 0x80000 + i) (w / 256 ^ i % 256)) s
  else s.onWrite m off w (rawWrite m off w)

/-- REGISTER_WRITE (R18, R21, R22): a write of a whole word at an offset. -/
def execRegisterWrite (m : Master) (off : BitVec 20) (w : Word) (s : State) : Out :=
  live s fun s => busWrite m (off.toNat - off.toNat % 4) w.toNat s

/-- PAIR_LO_WRITE (R19). -/
def execPairLoWrite (m : Master) (off : BitVec 20) (w : Word) (s : State) : Out :=
  live s fun s => busWrite m (off.toNat - off.toNat % 4) w.toNat s

/-- PAIR_HI_WRITE (R19): at the offset of the _HI half. -/
def execPairHiWrite (m : Master) (off : BitVec 20) (w : Word) (s : State) : Out :=
  live s fun s => busWrite m (off.toNat - off.toNat % 4) w.toNat s

end Sys2Proof.Machine
end

