-- ==== Sys2Proof/Machine/Rv.lean ====
section
/-! DEFINITION. spec/16, R588: the instruction words of RV32IMAC as the RISC-V specifications that R25 names give them
(PRESUMED, log entry 13): fields, the compressed forms, arithmetic. -/

namespace Sys2Proof.Machine

/-! Fields of a 32-bit instruction word. -/

/-- rd, rs1, rs2 and funct3. -/
def rvRd (w : Nat) : Nat := bits w 7 5
def rvRs1 (w : Nat) : Nat := bits w 15 5
def rvRs2 (w : Nat) : Nat := bits w 20 5
def rvF3 (w : Nat) : Nat := bits w 12 3

/-- An n-bit immediate, sign-extended to 32 bits. -/
def rvSext (n v : Nat) : Nat := ofSigned 32 (toSigned n v)

/-- Immediates of the I, S, B and J forms. -/
def rvImmI (w : Nat) : Nat := rvSext 12 (bits w 20 12)
def rvImmS (w : Nat) : Nat := rvSext 12 (bits w 7 5 + 2 ^ 5 * bits w 25 7)
def rvImmB (w : Nat) : Nat :=
  rvSext 13 (2 * bits w 8 4 + 2 ^ 5 * bits w 25 6 + 2 ^ 11 * bits w 7 1 + 2 ^ 12 * bits w 31 1)
def rvImmJ (w : Nat) : Nat :=
  rvSext 21 (2 * bits w 21 10 + 2 ^ 11 * bits w 20 1 + 2 ^ 12 * bits w 12 8 + 2 ^ 20 * bits w 31 1)

/-- A sum modulo 2 ^ 32. -/
def rvAdd (a b : Nat) : Nat := (a + b) % 2 ^ 32

/-! Words from fields. -/

def rvMkI (imm rs1 f3 rd op : Nat) : Nat := imm % 4096 * 2 ^ 20 + rs1 * 2 ^ 15 + f3 * 2 ^ 12 + rd * 2 ^ 7 + op
def rvMkS (imm rs2 rs1 f3 op : Nat) : Nat :=
  bits imm 5 7 * 2 ^ 25 + rs2 * 2 ^ 20 + rs1 * 2 ^ 15 + f3 * 2 ^ 12 + imm % 32 * 2 ^ 7 + op
def rvMkR (f7 rs2 rs1 f3 rd op : Nat) : Nat :=
  f7 * 2 ^ 25 + rs2 * 2 ^ 20 + rs1 * 2 ^ 15 + f3 * 2 ^ 12 + rd * 2 ^ 7 + op
def rvMkB (imm rs2 rs1 f3 : Nat) : Nat :=
  bits imm 12 1 * 2 ^ 31 + bits imm 5 6 * 2 ^ 25 + rs2 * 2 ^ 20 + rs1 * 2 ^ 15 + f3 * 2 ^ 12 + bits imm 1 4 * 2 ^ 8 +
    bits imm 11 1 * 2 ^ 7 + 0x63
def rvMkJ (imm rd : Nat) : Nat :=
  bits imm 20 1 * 2 ^ 31 + bits imm 1 10 * 2 ^ 21 + bits imm 11 1 * 2 ^ 20 + bits imm 12 8 * 2 ^ 12 + rd * 2 ^ 7 + 0x6F

/-! The compressed forms: the 32-bit word each stands for; 0, which is no instruction, for a reserved one. -/

/-- Jump offset of C.J and C.JAL. -/
def rvcJ (h : Nat) : Nat :=
  rvSext 12 (bits h 12 1 * 2 ^ 11 + bits h 11 1 * 2 ^ 4 + bits h 9 2 * 2 ^ 8 + bits h 8 1 * 2 ^ 10 + bits h 7 1 * 2 ^ 6 +
    bits h 6 1 * 2 ^ 7 + bits h 3 3 * 2 + bits h 2 1 * 2 ^ 5)

/-- Branch offset of C.BEQZ and C.BNEZ. -/
def rvcB (h : Nat) : Nat :=
  rvSext 9 (bits h 12 1 * 2 ^ 8 + bits h 10 2 * 2 ^ 3 + bits h 5 2 * 2 ^ 6 + bits h 3 2 * 2 + bits h 2 1 * 2 ^ 5)

/-- The 6-bit immediate in [12] and [6:2]. -/
def rvcImm6 (h : Nat) : Nat := bits h 12 1 * 2 ^ 5 + bits h 2 5

/-- Quadrant 0. -/
def rvc0 (h : Nat) : Nat :=
  let rd := 8 + bits h 2 3
  let rs1 := 8 + bits h 7 3
  let off := bits h 10 3 * 2 ^ 3 + bits h 6 1 * 2 ^ 2 + bits h 5 1 * 2 ^ 6
  match bits h 13 3 with
  | 0 =>
    let imm := bits h 11 2 * 2 ^ 4 + bits h 7 4 * 2 ^ 6 + bits h 6 1 * 2 ^ 2 + bits h 5 1 * 2 ^ 3
    if imm = 0 then 0 else rvMkI imm 2 0 rd 0x13
  | 2 => rvMkI off rs1 2 rd 0x03
  | 6 => rvMkS off rd rs1 2 0x23
  | _ => 0

/-- Quadrant 1. -/
def rvc1 (h : Nat) : Nat :=
  let rd := bits h 7 5
  let r := 8 + bits h 7 3
  let r2 := 8 + bits h 2 3
  let imm := rvSext 6 (rvcImm6 h)
  match bits h 13 3 with
  | 0 => rvMkI imm rd 0 rd 0x13
  | 1 => rvMkJ (rvcJ h) 1
  | 2 => rvMkI imm 0 0 rd 0x13
  | 3 =>
    if rd = 2 then
      let v := rvSext 10 (bits h 12 1 * 2 ^ 9 + bits h 6 1 * 2 ^ 4 + bits h 5 1 * 2 ^ 6 + bits h 3 2 * 2 ^ 7 +
        bits h 2 1 * 2 ^ 5)
      if v = 0 then 0 else rvMkI v 2 0 2 0x13
    else if imm = 0 then 0
    else imm % 2 ^ 20 * 2 ^ 12 + rd * 2 ^ 7 + 0x37
  | 4 =>
    match bits h 10 2 with
    | 0 => if bit h 12 then 0 else rvMkI (bits h 2 5) r 5 r 0x13
    | 1 => if bit h 12 then 0 else rvMkI (0x400 + bits h 2 5) r 5 r 0x13
    | 2 => rvMkI imm r 7 r 0x13
    | _ =>
      if bit h 12 then 0
      else
        match bits h 5 2 with
        | 0 => rvMkR 0x20 r2 r 0 r 0x33
        | 1 => rvMkR 0 r2 r 4 r 0x33
        | 2 => rvMkR 0 r2 r 6 r 0x33
        | _ => rvMkR 0 r2 r 7 r 0x33
  | 5 => rvMkJ (rvcJ h) 0
  | 6 => rvMkB (rvcB h) 0 r 0
  | _ => rvMkB (rvcB h) 0 r 1

/-- Quadrant 2. -/
def rvc2 (h : Nat) : Nat :=
  let rd := bits h 7 5
  let rs2 := bits h 2 5
  match bits h 13 3 with
  | 0 => if bit h 12 then 0 else rvMkI rs2 rd 1 rd 0x13
  | 2 =>
    if rd = 0 then 0
    else rvMkI (bits h 12 1 * 2 ^ 5 + bits h 4 3 * 2 ^ 2 + bits h 2 2 * 2 ^ 6) 2 2 rd 0x03
  | 4 =>
    if !bit h 12 then
      if rs2 = 0 then (if rd = 0 then 0 else rvMkI 0 rd 0 0 0x67) else rvMkR 0 rs2 0 0 rd 0x33
    else if rs2 = 0 then (if rd = 0 then 0x00100073 else rvMkI 0 rd 0 1 0x67)
    else rvMkR 0 rs2 rd 0 rd 0x33
  | 6 => rvMkS (bits h 9 4 * 2 ^ 2 + bits h 7 2 * 2 ^ 6) rs2 2 2 0x23
  | _ => 0

/-- The word that a compressed form stands for. -/
def rvExpand (h : Nat) : Nat := match h % 4 with | 0 => rvc0 h | 1 => rvc1 h | _ => rvc2 h

/-! Arithmetic. -/

/-- Bitwise NOT of 32 bits. -/
def rvNot (a : Nat) : Nat := 0xFFFFFFFF - a

/-- Signed less-than. -/
def rvLt (a b : Nat) : Bool := toSigned 32 a < toSigned 32 b

/-- Arithmetic right shift. -/
def rvSra (a n : Nat) : Nat := ofSigned 32 (toSigned 32 a / (2 ^ n : Nat))

/-- Integer computations by funct3; `alt` is funct7 bit 5. -/
def rvAlu (f3 : Nat) (alt : Bool) (a b : Nat) : Nat :=
  match f3 with
  | 0 => if alt then rvAdd a (2 ^ 32 - b) else rvAdd a b
  | 1 => a * 2 ^ (b % 32) % 2 ^ 32
  | 2 => b2n (rvLt a b)
  | 3 => b2n (a < b)
  | 4 => a ^^^ b
  | 5 => if alt then rvSra a (b % 32) else a / 2 ^ (b % 32)
  | 6 => a ||| b
  | _ => a &&& b

/-- Signed quotient and remainder, rounded toward zero, with the results of the M extension for a zero divisor and for
overflow. -/
def rvDiv (a b : Nat) : Nat := if b = 0 then 0xFFFFFFFF else ofSigned 32 ((toSigned 32 a).tdiv (toSigned 32 b))
def rvRem (a b : Nat) : Nat := if b = 0 then a else ofSigned 32 ((toSigned 32 a).tmod (toSigned 32 b))

/-- Multiplications and divisions by funct3. -/
def rvMul (f3 a b : Nat) : Nat :=
  match f3 with
  | 0 => a * b % 2 ^ 32
  | 1 => ofSigned 32 (toSigned 32 a * toSigned 32 b / (2 ^ 32 : Nat))
  | 2 => ofSigned 32 (toSigned 32 a * (b : Int) / (2 ^ 32 : Nat))
  | 3 => a * b / 2 ^ 32
  | 4 => rvDiv a b
  | 5 => if b = 0 then 0xFFFFFFFF else a / b
  | 6 => rvRem a b
  | _ => if b = 0 then a else a % b

/-- Branch conditions by funct3: none for a reserved one. -/
def rvBranch (f3 a b : Nat) : Option Bool :=
  match f3 with
  | 0 => some (a = b) | 1 => some (a ≠ b) | 4 => some (rvLt a b) | 5 => some (!rvLt a b)
  | 6 => some (a < b) | 7 => some (b ≤ a) | _ => none

/-- What an AMO writes, by funct5: none for a reserved one. -/
def rvAmo (f5 old v : Nat) : Option Nat :=
  match f5 with
  | 0 => some (rvAdd old v)
  | 1 => some v
  | 4 => some (old ^^^ v)
  | 8 => some (old ||| v)
  | 12 => some (old &&& v)
  | 16 => some (if rvLt old v then old else v)
  | 20 => some (if rvLt old v then v else old)
  | 24 => some (min old v)
  | 28 => some (max old v)
  | _ => none

/-- A loaded value of a size, extended by funct3: LB, LH, LW, LBU, LHU. -/
def rvLoadExt (f3 v : Nat) : Nat :=
  match f3 with | 0 => rvSext 8 v | 1 => rvSext 16 v | 4 => v % 2 ^ 8 | 5 => v % 2 ^ 16 | _ => v % 2 ^ 32

end Sys2Proof.Machine
end

