-- ==== Sys2Proof/Machine/Far.lean ====
section
/-! DEFINITION. spec/01, R39 to R43: the fabric windows as every master of this device reaches them: the local control
space, another device, no device. -/

namespace Sys2Proof.Machine

/-- Where a window leads. -/
inductive Reach where
  | here | far | nowhere | reserved
  deriving DecidableEq, Repr

/-- R39 to R43: where window n leads. -/
def State.reach (s : State) (n : Nat) : Reach :=
  if n = 0 || (n = s.hxAddr && n ≠ 255) then .here
  else if n = 255 then .reserved
  else if s.hxAddr ≠ 0 && (s.outPort n 8).isSome then .far
  else .nowhere

/-- What a read through a window gives at once. -/
inductive Got where
  /-- data of this device -/
  | data (v : Nat)
  /-- the read guard policy, for want of a route (R42) -/
  | policy (p : Nat)
  /-- Unsupported Request: window 255 (R43) -/
  | unsupported
  /-- nothing yet: it was sent to another device (R41) -/
  | waits
  deriving DecidableEq, Repr

/-- R42: a read of window n finds no route. -/
def State.unreachable (s : State) (n : Nat) : State := (s.raise Rc.HX_NO_ROUTE n).guardCount (0x200 + n)

/-- A read of a fabric address; `tag` tells the answer of another device apart (R39 to R43, R536).
(DEDUCED, log entry 26.) -/
def State.windowRead (s : State) (m : Master) (addr tag : Nat) : Got × State :=
  let n := addr / 2 ^ 20 % 256
  let off := addr % 2 ^ 20
  match s.reach n with
  | .here => let r := busRead m off s; (.data r.1, r.2)
  | .far => (.waits, s.csrAsk { dest := n, write := false, master := m.code, off := off, data := 0, tag := tag })
  | .nowhere => (.policy (s.get PX_GUARD.POLICY), s.unreachable n)
  | .reserved => (.unsupported, s.raise Rc.HX_NO_ROUTE 255)

/-- A write of a fabric address: posted to another device, discarded where there is no route (R42, R43, R538). -/
def State.windowWrite (s : State) (m : Master) (addr w : Nat) : State :=
  let n := addr / 2 ^ 20 % 256
  let off := addr % 2 ^ 20
  match s.reach n with
  | .here => busWrite m off w s
  | .far => s.csrAsk { dest := n, write := true, master := m.code, off := off, data := w, tag := 0 }
  | .nowhere => s.raise Rc.HX_NO_ROUTE n
  | .reserved => s.raise Rc.HX_NO_ROUTE 255

end Sys2Proof.Machine
end

