-- ==== Sys2Proof/Machine/Hart.lean ====
section
/-! DEFINITION. spec/16: the Lodge hart (R588 to R597, R617 to R619): registers, CSRs, protection, memory accesses,
traps, one instruction. The rules of the RISC-V specifications are PRESUMED from them (log entry 13). -/

namespace Sys2Proof.Machine

/-! Registers and mode. -/

/-- Register r; x0 reads 0. -/
def State.xr (s : State) (r : Nat) : Nat := if r = 0 then 0 else s.get RV_X r

/-- Write register r; x0 discards it. -/
def State.setX (s : State) (r v : Nat) : State := if r = 0 then s else s.put RV_X v r

/-- The hart is in debug mode. -/
def State.rvDebug (s : State) : Bool := s.get LG_STAT.STATE = lgHALTED

/-- Privilege of loads and stores: MPP while MPRV is set (R591). -/
def State.rvEff (s : State) : Nat :=
  if bit (s.get RV_MSTATUS) 17 then bits (s.get RV_MSTATUS) 11 2 else s.get RV_PRIV

/-- The identity of the hart's control-bus accesses (R591). -/
def State.rvMaster (s : State) : Master := if s.rvDebug then .debug else if s.rvEff = 3 then .lodgeM else .lodgeU

/-! Control and status registers. -/

/-- mip: software, timer and external interrupts (R589, R601). -/
def State.rvMip (s : State) : Nat :=
  8 * s.get LG_MSIP.MSIP + 128 * b2n (s.mtimecmp ≤ s.mtime) + 2048 * b2n s.icBest.isSome

/-- The trigger that tselect names. -/
def State.rvTsel (s : State) : Nat := s.get RV_CSR 0x7A0 % 4

/-- The value of a CSR; none where there is no such register. -/
def State.csrValue (s : State) (n : Nat) : Option Nat :=
  let held := some (s.get RV_CSR n)
  match n with
  | 0x300 => some (s.get RV_MSTATUS)
  | 0x301 => some 0x40101105
  | 0x304 => held
  | 0x305 => held
  | 0x306 => held
  | 0x30A => held
  | 0x310 => some 0
  | 0x31A => some 0
  | 0x320 => held
  | 0x340 => held
  | 0x341 => held
  | 0x342 => held
  | 0x343 => held
  | 0x344 => some s.rvMip
  | 0x7A0 => some s.rvTsel
  | 0x7A1 => some (s.get RV_TD1 s.rvTsel)
  | 0x7A2 => some (s.get RV_TD2 s.rvTsel)
  | 0x7A3 => some 0
  | 0x7A4 => some 4
  | 0x7B0 => some (s.get RV_DCSR)
  | 0x7B1 => held
  | 0xB00 => some (s.get RV_MCYCLE % 2 ^ 32)
  | 0xB02 => some (s.get RV_MINSTRET % 2 ^ 32)
  | 0xB80 => some (s.get RV_MCYCLE / 2 ^ 32)
  | 0xB82 => some (s.get RV_MINSTRET / 2 ^ 32)
  | 0xC00 => some (s.get RV_MCYCLE % 2 ^ 32)
  | 0xC01 => some (s.mtime % 2 ^ 32)
  | 0xC02 => some (s.get RV_MINSTRET % 2 ^ 32)
  | 0xC80 => some (s.get RV_MCYCLE / 2 ^ 32)
  | 0xC81 => some (s.mtime / 2 ^ 32)
  | 0xC82 => some (s.get RV_MINSTRET / 2 ^ 32)
  | 0xF11 => some 0
  | 0xF12 => some 0
  | 0xF13 => some 0xA1
  | 0xF14 => some 0
  | 0xF15 => some 0
  | _ =>
    if 0x3A0 ≤ n && n < 0x3A4 then held
    else if 0x3B0 ≤ n && n < 0x3C0 then held
    else if 0x323 ≤ n && n < 0x340 then some 0
    else if (0xB03 ≤ n && n < 0xB20) || (0xB83 ≤ n && n < 0xBA0) then some 0
    else if (0xC03 ≤ n && n < 0xC20) || (0xC83 ≤ n && n < 0xCA0) then some 0
    else none

/-- Whether the hart may read CSR n where it stands: its privilege, debug registers in debug mode, user counters that
mcounteren opens. -/
def State.csrAllowed (s : State) (n : Nat) : Bool :=
  if s.rvDebug then true
  else
    bits n 8 2 ≤ s.get RV_PRIV && !(0x7B0 ≤ n && n < 0x7C0) &&
      (bits n 8 4 ≠ 0xC || s.get RV_PRIV = 3 || bit (s.get RV_CSR 0x306) (n % 32))

/-- Byte i of the PMP configuration. -/
def State.pmpCfg (s : State) (i : Nat) : Nat := s.get RV_CSR (0x3A0 + i / 4) / 256 ^ (i % 4) % 256

/-- Entry i is locked. -/
def State.pmpLocked (s : State) (i : Nat) : Bool := bit (s.pmpCfg i) 7

/-- A written PMP configuration byte: a locked entry keeps its own, and so does one that would allow writes without
reads. -/
def State.pmpByte (s : State) (i v : Nat) : Nat :=
  if s.pmpLocked i || bits v 0 2 = 2 then s.pmpCfg i else v &&& 0x9F

/-- Write CSR n, which exists. (PRESUMED, log entry 16.) -/
def State.csrWrite (s : State) (n v : Nat) : State :=
  match n with
  | 0x300 =>
    let mpp := bits v 11 2
    let old := bits (s.get RV_MSTATUS) 11 2
    s.put RV_MSTATUS ((v &&& 0x00220088) + 2 ^ 11 * (if mpp = 0 || mpp = 3 then mpp else old))
  | 0x304 => s.put RV_CSR (v &&& 0x888) n
  | 0x305 =>
    let mode := if bits v 0 2 < 2 then bits v 0 2 else bits (s.get RV_CSR n) 0 2
    s.put RV_CSR (v / 4 * 4 + mode) n
  | 0x306 => s.put RV_CSR (v &&& 7) n
  | 0x30A => s.put RV_CSR (v &&& 1) n
  | 0x320 => s.put RV_CSR (v &&& 5) n
  | 0x340 => s.put RV_CSR v n
  | 0x341 => s.put RV_CSR (v / 2 * 2) n
  | 0x342 => s.put RV_CSR v n
  | 0x343 => s.put RV_CSR v n
  | 0x7A0 => s.put RV_CSR (v % 4) n
  | 0x7A1 =>
    let t := s.rvTsel
    if bit (s.get RV_TD1 t) 27 && !s.rvDebug then s
    else
      let dmode := b2n (s.rvDebug && bit v 27)
      s.put RV_TD1 (2 ^ 29 + 2 ^ 27 * dmode + 2 ^ 12 * dmode + (v &&& 0x4F)) t
  | 0x7A2 => if bit (s.get RV_TD1 s.rvTsel) 27 && !s.rvDebug then s else s.put RV_TD2 v s.rvTsel
  | 0x7B0 =>
    let old := s.get RV_DCSR
    let prv := if bits v 0 2 = 0 || bits v 0 2 = 3 then bits v 0 2 else bits old 0 2
    s.put RV_DCSR (2 ^ 30 + (v &&& 0x9E04) + (old &&& 0x1C0) + prv)
  | 0x7B1 => s.put RV_CSR (v / 2 * 2) n
  | 0xB00 => s.put RV_MCYCLE (s.get RV_MCYCLE / 2 ^ 32 * 2 ^ 32 + v)
  | 0xB02 => s.put RV_MINSTRET (s.get RV_MINSTRET / 2 ^ 32 * 2 ^ 32 + v)
  | 0xB80 => s.put RV_MCYCLE (s.get RV_MCYCLE % 2 ^ 32 + 2 ^ 32 * v)
  | 0xB82 => s.put RV_MINSTRET (s.get RV_MINSTRET % 2 ^ 32 + 2 ^ 32 * v)
  | _ =>
    if 0x3A0 ≤ n && n < 0x3A4 then
      s.put RV_CSR ((List.range 4).map fun k => s.pmpByte (4 * (n - 0x3A0) + k) (v / 256 ^ k % 256) * 256 ^ k).sum n
    else if 0x3B0 ≤ n && n < 0x3C0 then
      let i := n - 0x3B0
      let next := i < 15 && s.pmpLocked (i + 1) && bits (s.pmpCfg (i + 1)) 3 2 = 1
      if s.pmpLocked i || next then s else s.put RV_CSR v n
    else s

/-! Physical memory protection (R596). -/

/-- The number of trailing one bits of a 32-bit number. -/
def trailOnes (v : Nat) : Nat := ((List.range 32).takeWhile fun i => bit v i).length

/-- Whether PMP entry i matches the 4-byte unit of an address. -/
def State.pmpMatch (s : State) (i addr : Nat) : Bool :=
  let a := s.get RV_CSR (0x3B0 + i)
  let u := addr / 4
  match bits (s.pmpCfg i) 3 2 with
  | 1 => (if i = 0 then 0 else s.get RV_CSR (0x3B0 + i - 1)) ≤ u && u < a
  | 2 => u = a
  | 3 => let k := trailOnes a + 1; u / 2 ^ k = a / 2 ^ k
  | _ => false

/-- Whether an access of kind 1 read, 2 write, 4 execute passes at a privilege. -/
def State.pmpOk (s : State) (priv kind addr : Nat) : Bool :=
  if s.rvDebug then true
  else
    match (List.range 16).find? fun i => s.pmpMatch i addr with
    | none => priv = 3
    | some i => (priv = 3 && !s.pmpLocked i) || (s.pmpCfg i &&& kind) = kind

/-! Memory accesses (R590, R592 to R595, R599). -/

/-- What the check bits of a Lodge memory word show when an instruction reads it (R599). -/
def State.lgCheck (s : State) (sel addr : Nat) (e : CheckSeen) : State :=
  match e with
  | .clean => s
  | .corrected =>
    let t := (s.count LG_ECC.CE 1).count BV_ERRSUM.COUNT 1 2
    if s.get LG_ECC.CE = 0 then t.raise Rc.LG_MEM_CE sel addr else t
  | .uncorrectable =>
    let t := ((s.count LG_ECC.UE 1).count BV_ERRSUM.COUNT 1 3).put LG_IRQ.ECC 1
    t.raise Rc.LG_MEM_UE sel addr

/-- The queue-store word that an address names, with its lane (R593). -/
def State.storeLane (s : State) (a : Nat) : Option Nat :=
  s.enabledLanes.find? fun x => (s.laneSpan x).1 ≤ a && a < (s.laneSpan x).2

/-- A checked read of a queue-store word (R206 to R208, R593). -/
def State.storeWord (s : State) (a : Nat) : EccWord × State :=
  let w := s.load .queue a
  let r := eccDecode (w % 2 ^ 64) (w / 2 ^ 64 % 256)
  let lane := (s.storeLane a).getD 2048
  match r.kind with
  | .clean => (r, s)
  | .corrected =>
    let t := s.store .queue a (r.data + 2 ^ 64 * r.chk + 2 ^ 72 * b2n (slotHeader w))
    let t := (t.count QM_SECC.CE 1).count BV_ERRSUM.COUNT 1 2
    (r, if s.flag QM_IRQ.CE then t else (t.put QM_IRQ.CE 1).raise Rc.QM_STORE_CE lane)
  | .uncorrectable =>
    let t := ((s.count QM_SECC.UE 1).count BV_ERRSUM.COUNT 1 3).put BV_ALERT.MEM_UE 1
    (r, (t.put QM_IRQ.UE 1).raise Rc.QM_STORE_UE lane a)

/-- Half h of a word replaced. -/
def setHalf (word h v : Nat) : Nat := if h = 0 then word / 2 ^ 32 * 2 ^ 32 + v else word % 2 ^ 32 + 2 ^ 32 * v

/-- A store of one half of a queue-store word (R559, R593): none where a declared lane of a SECONDARY refuses it. -/
def State.storeHalf (s : State) (a h v : Nat) : Option State :=
  let lane := s.storeLane a
  let declared := match lane with | some x => (s.declOf 3 x).isSome | none => false
  if declared && s.secondary then none
  else
    let r := s.storeWord a
    let flag := slotHeader (r.2.load .queue a)
    let d := setHalf r.1.data h v
    let t := r.2.store .queue a (d + 2 ^ 64 * eccOf d + 2 ^ 72 * b2n flag)
    some (match lane with | some x => t.journalSlot x (a - (t.laneSpan x).1) d flag | none => t)

/-- A byte, half-word or word taken from a 32-bit word. -/
def partOf (word addr size : Nat) : Nat := word / 256 ^ (addr % 4) % 256 ^ size

/-- The same part replaced. -/
def setPart (word addr size v : Nat) : Nat :=
  let lo := 256 ^ (addr % 4)
  word - word / lo % 256 ^ size * lo + v % 256 ^ size * lo

/-- What an access of the hart gives: a value, an exception, or nothing yet. -/
inductive RvGot where
  | val (v : Nat) (s : State)
  | fault (s : State)
  | waits (s : State)

/-- An exchange at the array window is offered, or waits behind one that has faulted (R594, R595). -/
def State.winAsk (s : State) (addr : Nat) (w : Option Nat) : State :=
  if s.get RV_WAIT = 2 || s.get AW_SB = 1 then s.put RV_WAIT 3
  else (s.put RV_WAIT 1).emit .toArray [9, addr % 2 ^ 24 / 4, b2n w.isSome, w.getD 0]

/-- A tag for the answer of another device. -/
def State.rvTag (s : State) : State := s.put RV_WSEQ ((s.get RV_WSEQ + 1) % 512)

/-- A naturally aligned load that protection lets through. -/
def State.rvLoad (s : State) (addr size : Nat) (e : CheckSeen) : RvGot :=
  let memory (sel base : Nat) : RvGot :=
    let t := s.lgCheck sel (addr - base) e
    if e = .uncorrectable then .fault t else .val (partOf (s.lgLoad sel ((addr - base) / 4)) addr size) t
  if addr < 0x40000 then memory 0 0
  else if 0x10000000 ≤ addr && addr < 0x10040000 then memory 1 0x10000000
  else if size ≠ 4 then .fault s
  else if 0x20000000 ≤ addr && addr < 0x30000000 then
    match s.windowRead s.rvMaster (addr - 0x20000000) ((s.get RV_WSEQ + 1) % 512) with
    | (.data v, t) => .val v t
    | (.policy p, t) => if p = 2 then .val 0xFFFFFFFF t else .fault t
    | (.unsupported, t) => .fault t
    | (.waits, t) => .waits (t.rvTag.put RV_WAIT 4)
  else if 0x30000000 ≤ addr && addr < 0x30800000 then
    let o := addr - 0x30000000
    let r := s.storeWord (o / 8)
    if r.1.kind = .uncorrectable then .fault r.2 else .val (r.1.data / 2 ^ (8 * (o % 8)) % 2 ^ 32) r.2
  else if 0x40000000 ≤ addr && addr < 0x41000000 then .waits (s.winAsk addr none)
  else .fault s

/-- A naturally aligned store that protection lets through; the value it gives is not used. (DEDUCED, log entry 97.) -/
def State.rvStore (s : State) (addr size v : Nat) (e : CheckSeen) : RvGot :=
  let memory (sel base : Nat) : RvGot :=
    let a := (addr - base) / 4
    if size = 4 then .val 0 (s.lgStore sel a v)
    else
      let t := s.lgCheck sel (addr - base) e
      if e = .uncorrectable then .fault t else .val 0 (t.lgStore sel a (setPart (s.lgLoad sel a) addr size v))
  if addr < 0x40000 then memory 0 0
  else if 0x10000000 ≤ addr && addr < 0x10040000 then memory 1 0x10000000
  else if size ≠ 4 then .fault s
  else if 0x20000000 ≤ addr && addr < 0x30000000 then .val 0 (s.windowWrite s.rvMaster (addr - 0x20000000) v)
  else if 0x30000000 ≤ addr && addr < 0x30800000 then
    let o := addr - 0x30000000
    match s.storeHalf (o / 8) (o / 4 % 2) v with
    | some t => .val 0 t
    | none => .fault s
  else if 0x40000000 ≤ addr && addr < 0x41000000 then .waits (s.winAsk addr (some v))
  else .fault s

/-- An AMO (R590, R618): in data memory, or in the local control space as one grant. -/
def State.rvAmoAt (s : State) (addr : Nat) (f : Nat → Nat) (e : CheckSeen) : RvGot :=
  if 0x10000000 ≤ addr && addr < 0x10040000 then
    let a := (addr - 0x10000000) / 4
    let t := s.lgCheck 1 (addr - 0x10000000) e
    if e = .uncorrectable then .fault t
    else
      let old := s.lgLoad 1 a
      .val old (t.lgStore 1 a (f old))
  else if 0x20000000 ≤ addr && addr < 0x30000000 && s.reach ((addr - 0x20000000) / 2 ^ 20 % 256) = .here then
    let off := addr % 2 ^ 20
    let r := busRead s.rvMaster off s
    .val r.1 (busWrite s.rvMaster off (f r.1) r.2)
  else .fault s

/-! Triggers (R614). -/

/-- An access of kind 1 load, 2 store, 4 execute at an address fires a trigger. (PRESUMED, log entry 16.) -/
def State.rvTrigger (s : State) (kind addr : Nat) : Bool :=
  !s.rvDebug && (List.range 4).any fun t =>
    let d := s.get RV_TD1 t
    bit d 27 && (d &&& kind) ≠ 0 && (if s.get RV_PRIV = 3 then bit d 6 else bit d 3) && s.get RV_TD2 t = addr

/-! Traps. -/

/-- Trap entry: `num` the cause, `irq` for an interrupt. (DESIGN CHOICE, log entry 15.) -/
def State.rvTrap (s : State) (num : Nat) (irq : Bool) (tval : Nat) : State :=
  let ms := s.get RV_MSTATUS
  let s := (s.put RV_CSR (s.get RV_PC) 0x341).put RV_CSR (num + 2 ^ 31 * b2n irq) 0x342
  let s := s.put RV_CSR (if irq || !Config.rvTval num then 0 else tval) 0x343
  let s := s.put RV_MSTATUS ((ms &&& 0x00220000) + 2 ^ 11 * s.get RV_PRIV + 2 ^ 7 * bits ms 3 1)
  let tv := s.get RV_CSR 0x305
  (s.put RV_PRIV 3).put RV_PC (if irq && bits tv 0 2 = 1 then rvAdd (tv / 4 * 4) (4 * num) else tv / 4 * 4)

/-- MRET. -/
def State.rvMret (s : State) : State :=
  let ms := s.get RV_MSTATUS
  let mpp := bits ms 11 2
  let mprv := if mpp = 3 then ms &&& 0x20000 else 0
  (s.put RV_PRIV mpp).put RV_MSTATUS ((ms &&& 0x200000) + mprv + 8 * bits ms 7 1 + 128)

/-- The interrupt to take: external, software, timer. -/
def State.rvIrq (s : State) : Option Nat :=
  let p := s.rvMip &&& s.get RV_CSR 0x304
  let on := s.get RV_PRIV = 0 || bit (s.get RV_MSTATUS) 3
  let masked := bit (s.get RV_DCSR) 2 && !bit (s.get RV_DCSR) 11
  if on && !masked then (if bit p 11 then some 11 else if bit p 3 then some 3 else if bit p 7 then some 7 else none)
  else none

/-! One instruction. -/

/-- How an instruction ends: it retires with the next pc, traps, enters debug mode, waits for an access, or has reset
the hart. -/
inductive RvEnd where
  | retire (s : State) (pc : Nat)
  | trap (s : State) (num tval : Nat)
  | enter (s : State) (cause : Nat)
  | waits (s : State)
  | gone (s : State)

/-- The instruction goes on after an access, unless the access has taken the hart out of its state (R597). -/
def RvGot.next (old : State) (num addr : Nat) (k : Nat → State → RvEnd) : RvGot → RvEnd
  | .val v t => if t.get LG_STAT.STATE = old.get LG_STAT.STATE && t.get RESETTING = 0 then k v t else .gone t
  | .fault t => .trap t num addr
  | .waits t => .waits t

/-- A load of rd by funct3. -/
def State.doLoad (s : State) (w next : Nat) (e : CheckSeen) : RvEnd :=
  let f3 := rvF3 w
  let size := 2 ^ (f3 % 4)
  let addr := rvAdd (s.xr (rvRs1 w)) (rvImmI w)
  if f3 = 3 || 5 < f3 then .trap s 2 w
  else if s.rvTrigger 1 addr then .enter s 2
  else if addr % size ≠ 0 then .trap s 4 addr
  else if !s.pmpOk s.rvEff 1 addr then .trap s 5 addr
  else (s.rvLoad addr size e).next s 5 addr fun v t => .retire (t.setX (rvRd w) (rvLoadExt f3 v)) next

/-- A store. -/
def State.doStore (s : State) (w next : Nat) (e : CheckSeen) : RvEnd :=
  let f3 := rvF3 w
  let size := 2 ^ f3
  let addr := rvAdd (s.xr (rvRs1 w)) (rvImmS w)
  if 2 < f3 then .trap s 2 w
  else if s.rvTrigger 2 addr then .enter s 2
  else if addr % size ≠ 0 then .trap s 6 addr
  else if !s.pmpOk s.rvEff 2 addr then .trap s 7 addr
  else (s.rvStore addr size (s.xr (rvRs2 w)) e).next s 7 addr fun _ t => .retire t next

/-- LR, SC and the AMOs. -/
def State.doAtomic (s : State) (w next : Nat) (e : CheckSeen) : RvEnd :=
  let f5 := bits w 27 5
  let rd := rvRd w
  let addr := s.xr (rvRs1 w)
  let v := s.xr (rvRs2 w)
  let inData := 0x10000000 ≤ addr && addr < 0x10040000
  if rvF3 w ≠ 2 then .trap s 2 w
  else if f5 = 2 then
    if rvRs2 w ≠ 0 then .trap s 2 w
    else if s.rvTrigger 1 addr then .enter s 2
    else if addr % 4 ≠ 0 then .trap s 4 addr
    else if !s.pmpOk s.rvEff 1 addr || !inData then .trap s 5 addr
    else (s.rvLoad addr 4 e).next s 5 addr fun x t =>
      .retire (((t.setX rd x).put LG_STAT.RESV 1).put RV_RESA addr) next
  else if f5 = 3 then
    if s.rvTrigger 2 addr then .enter s 2
    else if addr % 4 ≠ 0 then .trap s 6 addr
    else if !s.pmpOk s.rvEff 2 addr || !inData then .trap s 7 addr
    else if s.flag LG_STAT.RESV && s.get RV_RESA = addr then
      (s.rvStore addr 4 v e).next s 7 addr fun _ t => .retire ((t.setX rd 0).put LG_STAT.RESV 0) next
    else .retire ((s.setX rd 1).put LG_STAT.RESV 0) next
  else
    match rvAmo f5 0 0 with
    | none => .trap s 2 w
    | some _ =>
      if s.rvTrigger 3 addr then .enter s 2
      else if addr % 4 ≠ 0 then .trap s 6 addr
      else if !s.pmpOk s.rvEff 3 addr then .trap s 7 addr
      else (s.rvAmoAt addr (fun old => (rvAmo f5 old v).getD old) e).next s 7 addr fun old t =>
        .retire (t.setX rd old) next

/-- The CSR instructions: the old value to rd, the new one written. -/
def State.doCsr (s : State) (w next : Nat) : RvEnd :=
  let n := bits w 20 12
  let f3 := rvF3 w
  let src := if 4 ≤ f3 then rvRs1 w else s.xr (rvRs1 w)
  let writes := f3 % 4 = 1 || rvRs1 w ≠ 0
  if f3 % 4 = 0 || !s.csrAllowed n || (writes && bits n 10 2 = 3) then .trap s 2 w
  else
    match s.csrValue n with
    | none => .trap s 2 w
    | some old =>
      let v := match f3 % 4 with | 1 => src | 2 => old ||| src | _ => old &&& rvNot src
      .retire ((if writes then s.csrWrite n v else s).setX (rvRd w) old) next

/-- SYSTEM instructions other than the CSR ones. -/
def State.doSystem (s : State) (w next : Nat) : RvEnd :=
  let priv := s.get RV_PRIV
  let d := s.get RV_DCSR
  match w with
  | 0x00000073 => if s.rvDebug then .trap s 2 w else .trap s (if priv = 3 then 11 else 8) 0
  | 0x00100073 =>
    if s.rvDebug || (if priv = 3 then bit d 15 else bit d 12) then .enter s 1 else .trap s 3 (s.get RV_PC)
  | 0x30200073 => if s.rvDebug || priv ≠ 3 then .trap s 2 w else .retire s.rvMret (s.get RV_CSR 0x341)
  | 0x10500073 =>
    if s.rvDebug then .retire s next
    else if priv = 0 && bit (s.get RV_MSTATUS) 21 then .trap s 2 w
    else if s.rvMip &&& s.get RV_CSR 0x304 ≠ 0 then .retire s next
    else .retire (s.put LG_STAT.STATE lgWFI) next
  | _ => .trap s 2 w

/-- One instruction word `w` of `len` bytes at the pc; in debug mode what depends on the pc is illegal. -/
def State.rvExec (s : State) (w len : Nat) (e : CheckSeen) : RvEnd :=
  let pc := s.get RV_PC
  let next := rvAdd pc len
  let rd := rvRd w
  let a := s.xr (rvRs1 w)
  let b := s.xr (rvRs2 w)
  let f3 := rvF3 w
  let f7 := bits w 25 7
  let dbg := s.rvDebug
  match w % 128 with
  | 0x37 => .retire (s.setX rd (w / 2 ^ 12 * 2 ^ 12)) next
  | 0x17 => if dbg then .trap s 2 w else .retire (s.setX rd (rvAdd pc (w / 2 ^ 12 * 2 ^ 12))) next
  | 0x6F => if dbg then .trap s 2 w else .retire (s.setX rd next) (rvAdd pc (rvImmJ w))
  | 0x67 =>
    if dbg || f3 ≠ 0 then .trap s 2 w else .retire (s.setX rd next) (rvAdd a (rvImmI w) / 2 * 2)
  | 0x63 =>
    if dbg then .trap s 2 w
    else
      match rvBranch f3 a b with
      | none => .trap s 2 w
      | some taken => .retire s (if taken then rvAdd pc (rvImmB w) else next)
  | 0x03 => s.doLoad w next e
  | 0x23 => s.doStore w next e
  | 0x13 =>
    let shift := f3 = 1 || f3 = 5
    if (f3 = 1 && f7 ≠ 0) || (f3 = 5 && f7 ≠ 0 && f7 ≠ 0x20) then .trap s 2 w
    else .retire (s.setX rd (rvAlu f3 (shift && f7 = 0x20) a (if shift then rvRs2 w else rvImmI w))) next
  | 0x33 =>
    if f7 = 1 then .retire (s.setX rd (rvMul f3 a b)) next
    else if f7 = 0 || (f7 = 0x20 && (f3 = 0 || f3 = 5)) then .retire (s.setX rd (rvAlu f3 (f7 = 0x20) a b)) next
    else .trap s 2 w
  | 0x0F => if f3 < 2 then .retire s next else .trap s 2 w
  | 0x2F => s.doAtomic w next e
  | 0x73 => if f3 = 0 then s.doSystem w next else s.doCsr w next
  | _ => .trap s 2 w

/-- A half-word of instruction memory, where a fetch may read it: none for an instruction access fault. -/
def State.rvHalf (s : State) (pc : Nat) : Option Nat :=
  if pc < 0x40000 && s.pmpOk (s.get RV_PRIV) 4 pc then some (s.lgLoad 0 (pc / 4) / 2 ^ (8 * (pc % 4)) % 2 ^ 16) else none

/-- A fetch at the pc: the word and its length, or the address of the faulting part. -/
def State.rvFetch (s : State) : (Nat × Nat) ⊕ Nat :=
  let pc := s.get RV_PC
  match s.rvHalf pc with
  | none => .inr pc
  | some lo =>
    if lo % 4 ≠ 3 then .inl (rvExpand lo, 2)
    else
      match s.rvHalf (pc + 2) with
      | none => .inr (pc + 2)
      | some hi => .inl (lo + 2 ^ 16 * hi, 4)

/-- Whether an instruction writes minstret itself. -/
def rvOwnCount (w : Nat) : Bool :=
  w % 128 = 0x73 && rvF3 w ≠ 0 && (bits w 20 12 = 0xB02 || bits w 20 12 = 0xB82) && (rvF3 w % 4 = 1 || rvRs1 w ≠ 0)

/-- One more retired instruction (R589). -/
def State.rvRetired (s : State) (w : Nat) : State :=
  if bit (s.get RV_CSR 0x320) 2 || rvOwnCount w then s else s.put RV_MINSTRET (s.get RV_MINSTRET + 1)

/-- After an instruction or a trap: a single step ends (dcsr.step). -/
def State.rvStepped (s : State) : State :=
  if bit (s.get RV_DCSR) 2 && s.coreRuns then s.coreHalt 4 else s

/-- What the end of an instruction leaves, outside debug mode. -/
def RvEnd.finish (w len : Nat) : RvEnd → State
  | .retire t pc => ((t.put RV_PC pc).rvRetired w).rvStepped
  | .trap t num tval => (t.rvTrap num false tval).rvStepped
  | .enter t cause => t.coreHalt cause
  | .waits t => t.put RV_WINS (if len = 2 then w - 2 else w)
  | .gone t => t

/-- One step of a running hart: an interrupt, or an instruction. -/
def State.rvStep (s : State) (fetch data : CheckSeen) : State :=
  match s.rvIrq with
  | some n => (s.rvTrap n true 0).rvStepped
  | none =>
    let pc := s.get RV_PC
    if s.rvTrigger 4 pc then s.coreHalt 2
    else
      match s.rvFetch with
      | .inr a => (s.rvTrap 1 false a).rvStepped
      | .inl (w, len) =>
        let s := s.lgCheck 0 pc fetch
        if fetch = .uncorrectable then (s.rvTrap 1 false pc).rvStepped else (s.rvExec w len data).finish w len

/-- INSTRUCTION (R588): `cycles` CTL_CLK periods pass, then a running hart with no access open takes a halt that was
asked for, an interrupt, or one instruction; `fetch` and `data` are what the checks of the memory words it reads show. -/
def execInstruction (cycles : BitVec 32) (fetch data : CheckSeen) (s : State) : Out :=
  live s fun s =>
    let s := s.coreTime cycles.toNat
    if !s.coreRuns || s.coreBusy || (s.mode ≠ mHOLD && s.mode ≠ mRUN) then s
    else if s.get RV_HALTREQ ≠ 0 then s.haltDue
    else if s.get LG_STAT.STATE = lgWFI && s.rvMip &&& s.get RV_CSR 0x304 = 0 then s
    else (s.put LG_STAT.STATE lgRUN).rvStep fetch data

/-! The end of an access that waited. -/

/-- The waiting load or store ends: with a value, or with the access fault. -/
def State.rvEnds (s : State) (v : Option Nat) : RvEnd :=
  let raw := s.get RV_WINS
  let w := if raw % 4 = 3 then raw else raw + 2
  let next := rvAdd (s.get RV_PC) (if raw % 4 = 3 then 4 else 2)
  let load := w % 128 = 0x03
  let addr := rvAdd (s.xr (rvRs1 w)) (if load then rvImmI w else rvImmS w)
  match v with
  | none => .trap s (if load then 5 else 7) addr
  | some x => .retire (if load then s.setX (rvRd w) (rvLoadExt (rvF3 w) x) else s) next

end Sys2Proof.Machine
end

