-- ==== Sys2Proof/Machine/Debug.lean ====
section
/-! DEFINITION. spec/16: the array window's exchanges, the watchdog, the debug module and the TAP (R595, R611, R613 to
R617, R622, R656). The rules of RISC-V External Debug Support 0.13.2 are PRESUMED from it (log entry 16). -/

namespace Sys2Proof.Machine

/-! The debug module: its program buffer and abstract commands (R614). -/

/-- Half-word h of the program buffer. -/
def State.progHalf (s : State) (h : Nat) : Nat := s.get DM_PROG (h / 2) / 2 ^ (16 * (h % 2)) % 2 ^ 16

/-- An abstract command ends with an error, unless one stands already. -/
def State.dmErr (s : State) (e : Nat) : State :=
  let s := s.put DM_POST 0
  if s.get DM_CMDERR = 0 then s.put DM_CMDERR e else s

/-- Run the program buffer from half-word h on: its two words, then the implicit EBREAK. -/
def dmRun : Nat → Nat → State → State
  | 0, _, s => s.put DM_POST 0
  | f + 1, h, s =>
    if 4 ≤ h then s.put DM_POST 0
    else
      let lo := s.progHalf h
      let long := lo % 4 = 3
      if long && h = 3 then s.dmErr 3
      else
        let w := if long then lo + 2 ^ 16 * s.progHalf (h + 1) else rvExpand lo
        let n := if long then 2 else 1
        match s.rvExec w (2 * n) .clean with
        | .retire t _ => dmRun f (h + n) (if bit (t.get RV_DCSR) 10 then t else t.rvRetired w)
        | .trap t _ _ => t.dmErr 3
        | .enter t _ => t.put DM_POST 0
        | .waits t => (t.put RV_WINS (if long then w else w - 2)).put DM_POST (h + 1)
        | .gone t => t

/-- A register as abstract commands name it: a CSR or x0 to x31. -/
def State.dmReg (s : State) (r : Nat) : Option Nat :=
  if r < 0x1000 then s.csrValue r else if r < 0x1020 then some (s.xr (r - 0x1000)) else none

/-- Write one. -/
def State.dmSetReg (s : State) (r v : Nat) : Option State :=
  if r < 0x1000 then
    (if bits r 10 2 = 3 then none else (s.csrValue r).map fun _ => s.csrWrite r v)
  else if r < 0x1020 then some (s.setX (r - 0x1000) v)
  else none

/-- The register transfer of command word c: none where it fails. -/
def State.dmTransfer (s : State) (c : Nat) : Option State :=
  let r := bits c 0 16
  if !bit c 17 then some s
  else if bit c 16 then s.dmSetReg r (s.get DM_DATA0)
  else (s.dmReg r).map fun v => s.put DM_DATA0 v

/-- Carry out command word c (R614). -/
def State.dmCommand (s : State) (c : Nat) : State :=
  let s := s.put DM_CMD c
  if bits c 24 8 ≠ 0 || (bit c 17 && bits c 20 3 ≠ 2) then s.dmErr 2
  else if !s.rvDebug then s.dmErr 4
  else
    match s.dmTransfer c with
    | none => s.dmErr 3
    | some t =>
      let t := if bit c 19 then t.put DM_CMD (c / 2 ^ 16 * 2 ^ 16 + (c + 1) % 2 ^ 16) else t
      if bit c 18 then dmRun 5 0 t else t

/-- A command is in progress. -/
def State.dmBusy (s : State) : Bool := s.get DM_POST ≠ 0

/-- An access of data0 or of a progbuf word: refused while busy, else it may run the last command again. -/
def State.dmTouch (s : State) (auto : Nat) : State :=
  if s.dmBusy then (if s.get DM_CMDERR = 0 then s.put DM_CMDERR 1 else s)
  else if bit (s.get DM_AUTO) auto && s.get DM_CMDERR = 0 then s.dmCommand (s.get DM_CMD)
  else s

/-! System bus access (R614). -/

/-- sbcs.sberror. -/
def State.sbFail (s : State) (e : Nat) : State :=
  let s := s.put DM_SBOP 0
  s.put DM_SBCS (s.get DM_SBCS - bits (s.get DM_SBCS) 12 3 * 2 ^ 12 + e * 2 ^ 12)

/-- An access has been made: with its data for a read. -/
def State.sbDone (s : State) (v : Option Nat) : State :=
  let s := match v with | some x => s.put DM_SBDATA x | none => s
  let s := if bit (s.get DM_SBCS) 16 then s.put DM_SBADDR (rvAdd (s.get DM_SBADDR) 4) else s
  s.put DM_SBOP 0

/-- Ask for an access (op 1 read, 2 write). -/
def State.sbAsk (s : State) (op : Nat) : State :=
  let c := s.get DM_SBCS
  if bits c 12 3 ≠ 0 || bit c 22 then s
  else if bits c 17 3 ≠ 2 then s.sbFail 4
  else if s.get DM_SBADDR % 4 ≠ 0 then s.sbFail 3
  else s.put DM_SBOP op

/-- An access while another is in progress: sbbusyerror. -/
def State.sbBusy (s : State) (k : State → State) : State :=
  if s.get DM_SBOP ≠ 0 then s.put DM_SBCS (setBit (s.get DM_SBCS) 22) else k s

/-- The tag of reads of other devices that the system bus makes. -/
def sbTag : Nat := 512

/-- Offer the array window exchange of the system bus, or wait behind the open one. -/
def State.sbWindow (s : State) (addr : Nat) (w : Option Nat) : State :=
  let s := s.put DM_SBOP (if w.isSome then 5 else 4)
  if s.get RV_WAIT = 1 || s.get RV_WAIT = 2 || s.get RV_WAIT = 3 then s.put AW_SB 2
  else (s.put AW_SB 1).emit .toArray [9, addr % 2 ^ 24 / 4, b2n w.isSome, w.getD 0]

/-- Make the access that was asked for, at an address of Table LG-1. -/
def State.sbMake (s : State) : State :=
  let a := s.get DM_SBADDR
  let write := s.get DM_SBOP = 2
  let v := s.get DM_SBDATA
  if 0x20000000 ≤ a && a < 0x30000000 then
    let f := a - 0x20000000
    if write then (s.windowWrite .debug f v).sbDone none
    else
      match s.windowRead .debug f sbTag with
      | (.data x, t) => t.sbDone (some x)
      | (.policy p, t) => if p = 2 then t.sbDone (some 0xFFFFFFFF) else t.sbFail 1
      | (.unsupported, t) => t.sbFail 2
      | (.waits, t) => t.put DM_SBOP 3
  else if 0x40000000 ≤ a && a < 0x41000000 then s.sbWindow a (if write then some v else none)
  else
    match if write then s.rvStore a 4 v .clean else s.rvLoad a 4 .clean with
    | .val x t => t.sbDone (if write then none else some x)
    | .fault t => t.sbFail (if 0x30000000 ≤ a && a < 0x30800000 then 7 else 2)
    | .waits t => t

/-- SYSTEM_BUS_ACCESS (R614): the access that a DMI access has asked for. -/
def execSystemBusAccess (s : State) : Out :=
  live s fun s => if s.get DM_SBOP = 1 || s.get DM_SBOP = 2 then s.sbMake else s

/-! What ends the hart's waiting accesses. -/

/-- The hart's access ends, with a value or with the access fault: an instruction of the running hart, or of the program
buffer, which then goes on. -/
def State.rvAccessEnd (s : State) (v : Option Nat) : State :=
  let raw := s.get RV_WINS
  let long := raw % 4 = 3
  if s.dmBusy then
    let h := s.get DM_POST - 1
    match s.rvEnds v with
    | .retire t _ => dmRun 4 (h + if long then 2 else 1) t
    | .trap t _ _ => t.dmErr 3
    | _ => s
  else (s.rvEnds v).finish (if long then raw else raw + 2) (if long then 4 else 2)

/-- The same, and then the reset that a write of RUN 0 has asked for meanwhile (R597). (DEDUCED, log entry 97.) -/
def State.rvAccessEnds (s : State) (v : Option Nat) : State := (s.rvAccessEnd v).coreOff

/-- The access of RV_WINS is offered at the array window. (DEDUCED, log entry 97.) -/
def State.winOffer (s : State) : State :=
  let raw := s.get RV_WINS
  let w := if raw % 4 = 3 then raw else raw + 2
  let load := w % 128 = 0x03
  let addr := rvAdd (s.xr (rvRs1 w)) (if load then rvImmI w else rvImmS w)
  (s.put RV_WAIT 1).emit .toArray [9, addr % 2 ^ 24 / 4, b2n !load, if load then 0 else s.xr (rvRs2 w)]

/-- The exchange of the system bus goes next. -/
def State.sbOffer (s : State) : State :=
  if s.get AW_SB = 2 then s.sbWindow (s.get DM_SBADDR) (if s.get DM_SBOP = 5 then some (s.get DM_SBDATA) else none) else s

/-- ARRAY_WINDOW_ANSWER (R594, R595): ACK rises with RDATA and STATUS. -/
def execArrayWindowAnswer (data : Word) (error : Bool) (s : State) : Out :=
  live s fun s =>
    let v := if error then none else some data.toNat
    if s.get AW_SB = 1 then
      let s := s.put AW_SB 0
      let s := match v with
        | none => s.sbFail 7
        | some x => s.sbDone (if s.get DM_SBOP = 4 then some x else none)
      if s.get RV_WAIT = 3 then s.winOffer else s
    else
      match s.get RV_WAIT with
      | 1 => ((s.put RV_WAIT 0).sbOffer).rvAccessEnds v
      | 2 => ((s.count LG_AWCNT.LATE 1).put RV_WAIT 0).sbOffer
      | 3 => (s.count LG_AWCNT.LATE 1).winOffer
      | _ => s

/-- R595: a guarded exchange is counted, flagged, the first one logged. -/
def State.winGuarded (s : State) : State :=
  let first := !s.flag LG_IRQ.AWIN
  let s := (s.count LG_AWCNT.GUARDED 1).put LG_IRQ.AWIN 1
  if first then s.raise Rc.LG_AWIN_GUARD 0 else s

/-- ARRAY_WINDOW_GUARD (R595): the guard time of the hart's access, or of the system bus's (`sb`). -/
def execArrayWindowGuard (sb : Bool) (s : State) : Out :=
  live s fun s =>
    let w := s.get RV_WAIT
    if sb then
      if s.get AW_SB = 0 then s
      else
        let s := if s.get AW_SB = 1 && w = 0 then s.put RV_WAIT 2 else s
        ((s.put AW_SB 0).winGuarded).sbFail 1
    else if w = 1 then ((s.put RV_WAIT 2).winGuarded).rvAccessEnds none
    else if w = 3 then ((s.put RV_WAIT (if s.get AW_SB = 1 then 0 else 2)).winGuarded).rvAccessEnds none
    else s

/-! The watchdog (R611). -/

/-- WATCHDOG_EXPIRY (R611). -/
def execWatchdogExpiry (s : State) : Out :=
  live s fun s =>
    let st := s.get LG_STAT.STATE
    let holds := st = lgRESET || st = lgSTOPPED || (st = lgHALTED && s.flag LG_WDCFG.FRZ)
    if !s.flag LG_WDCFG.EN || holds then s
    else
      let s := s.put LG_WDSTAT.REMAIN (s.get LG_WDCFG.TIMEOUT)
      if !s.flag LG_WDSTAT.WARNED then ((s.put LG_IRQ.WDT 1).put LG_WDSTAT.WARNED 1).raise Rc.LG_WD_WARN 0
      else
        let s := s.raise Rc.LG_WD_RESET (s.get LG_WDCFG.ACTION)
        if s.flag LG_WDCFG.ACTION then s.warmReset 4
        else s.coreReset (if s.flag LG_CTL.RUN then lgRUN else lgRESET)

/-! DMI registers (R614 to R616). -/

/-- DMCUSTOM0. -/
def State.dmCustom (s : State) : Nat := s.get DBG_CONSUME + 2 * s.get XT_OUT + 4 * s.get XT_IN

/-- The effect of a word written to DMCUSTOM0 (R616). -/
def State.dmCustomWrite (s : State) (w : Nat) : State :=
  let s := (s.put DBG_CONSUME (bits w 0 1)).put XT_IN (bits w 2 1)
  if bit w 1 then
    if s.flag XT_OUT then s
    else
      match s.claimAll lvDEBUG [47] with
      | .inl (c, obj) => s.refuseBy 0x0D c obj (writeDetail .debug 0)
      | .inr t => (t.put XT_OUT 1).xtDrive
  else if s.flag XT_OUT then (s.put XT_OUT 0).dropAll lvDEBUG [47]
  else s

/-- The core leaves a reset that the debug module has held, if it may run (R597). -/
def State.dmLetGo (s : State) : State :=
  if !s.dmHolds && s.flag LG_CTL.RUN && s.get LG_STAT.STATE = lgRESET && (s.mode = mHOLD || s.mode = mRUN) then
    s.coreReset lgRUN
  else s

/-- dmactive 0: the module's state takes its reset values. -/
def State.dmOff (s : State) : State :=
  let s := s.dmCustomWrite 0
  (s.forget [DM_ACTIVE, DM_NDMRESET, DM_HARTRST, DM_HALTREQ, DM_RSTHALT, DM_RESUMEACK, DM_CMDERR, DM_CMD, DM_AUTO,
    DM_DATA0, DM_PROG, DM_POST, DM_SBCS, DM_SBADDR, DM_SBDATA, DM_SBOP]).dmLetGo

/-- R614: ndmreset resets the core and the Lodge peripherals: UARTs, SPI and I²C hosts, hard GPIO.
(DEDUCED, log entry 99.) -/
def State.ndmReset (s : State) : State :=
  let s := s.periphsOff.clearRange 0x31000 0x31900
  let s := (s.forget [U_SHIFT, S_CS, S_KEEP, S_LEFT, I_HOLD, I_CMD, I_LEFT, I_PEC]).dropLists [LG_TX, LG_RX]
  s.coreReset lgRESET

/-- The effect of a word written to dmcontrol. -/
def State.dmControl (s : State) (w : Nat) : State :=
  if !bit w 0 then s.dmOff
  else if !s.flag DM_ACTIVE then s.put DM_ACTIVE 1
  else
    let s := s.put DM_HALTREQ (bits w 31 1)
    let s :=
      if bit w 31 then (if s.coreRuns && s.get RV_HALTREQ = 0 then s.put RV_HALTREQ 3 else s)
      else if s.get RV_HALTREQ = 3 then s.put RV_HALTREQ 0
      else s
    let s := if bit w 30 && !bit w 31 && s.rvDebug then (s.put RV_RESUMEREQ 1).put DM_RESUMEACK 0 else s
    let s := if bit w 28 then s.put DM_HAVERESET 0 else s
    let s := if bit w 2 then s.put DM_RSTHALT 0 else if bit w 3 then s.put DM_RSTHALT 1 else s
    let held := s.dmHolds
    let nd := bit w 1 && !s.flag DM_NDMRESET
    let hr := bit w 29 && !s.flag DM_HARTRST
    let s := (s.put DM_NDMRESET (bits w 1 1)).put DM_HARTRST (bits w 29 1)
    let s := if nd then s.ndmReset else if hr then s.coreReset lgRESET else s
    if held then s.dmLetGo else s

/-- dmstatus: the hart is unavailable outside HOLD and RUN, and in reset (R615). -/
def State.dmStatus (s : State) : Nat :=
  let up := s.mode = mHOLD || s.mode = mRUN
  let st := s.get LG_STAT.STATE
  let halted := up && st = lgHALTED
  let running := up && s.coreRuns
  2 + 2 ^ 5 + 2 ^ 7 + 3 * 2 ^ 8 * b2n halted + 3 * 2 ^ 10 * b2n running + 3 * 2 ^ 12 * b2n (!halted && !running) +
    3 * 2 ^ 16 * s.get DM_RESUMEACK + 3 * 2 ^ 18 * s.get DM_HAVERESET + 2 ^ 22

/-- A DMI read: the value and what the read starts. -/
def State.dmiRead (s : State) (a : Nat) : Nat × State :=
  match a with
  | 0x04 => (s.get DM_DATA0, s.dmTouch 0)
  | 0x10 => (s.get DM_ACTIVE + 2 * s.get DM_NDMRESET + 2 ^ 29 * s.get DM_HARTRST, s)
  | 0x11 => (s.dmStatus, s)
  | 0x16 => (1 + 2 ^ 8 * s.get DM_CMDERR + 2 ^ 12 * b2n s.dmBusy + 2 ^ 25, s)
  | 0x18 => (s.get DM_AUTO, s)
  | 0x20 => (s.get DM_PROG 0, s.dmTouch 16)
  | 0x21 => (s.get DM_PROG 1, s.dmTouch 17)
  | 0x38 => (s.get DM_SBCS + 2 ^ 21 * b2n (s.get DM_SBOP ≠ 0), s)
  | 0x39 => (s.get DM_SBADDR, s)
  | 0x3C => (s.get DM_SBDATA, s.sbBusy fun s => if bit (s.get DM_SBCS) 15 then s.sbAsk 1 else s)
  | 0x40 => (b2n s.rvDebug, s)
  | 0x70 => (s.dmCustom, s)
  | _ => (0, s)

/-- A write of data0 or of a progbuf word. -/
def State.dmPut (s : State) (f : Field) (i v auto : Nat) : State := (if s.dmBusy then s else s.put f v i).dmTouch auto

/-- What a DMI write does. -/
def State.dmiWrite (s : State) (a w : Nat) : State :=
  if a = 0x10 then s.dmControl w
  else if !s.flag DM_ACTIVE then s
  else
    match a with
    | 0x04 => s.dmPut DM_DATA0 0 w 0
    | 0x16 => if s.dmBusy then s.dmTouch 0 else s.put DM_CMDERR (s.get DM_CMDERR &&& (7 - bits w 8 3))
    | 0x17 => if s.dmBusy then s.dmTouch 0 else if s.get DM_CMDERR ≠ 0 then s else s.dmCommand w
    | 0x18 => if s.dmBusy then s.dmTouch 0 else s.put DM_AUTO (w &&& 0x30001)
    | 0x20 => s.dmPut DM_PROG 0 w 16
    | 0x21 => s.dmPut DM_PROG 1 w 17
    | 0x38 =>
      let old := s.get DM_SBCS
      let e := bits old 12 3 &&& (7 - bits w 12 3)
      s.put DM_SBCS (0x20000404 + (w &&& 0x1F8000) + e * 2 ^ 12 + (if bit old 22 && !bit w 22 then 2 ^ 22 else 0))
    | 0x39 => s.sbBusy fun s =>
      let s := s.put DM_SBADDR w
      if bit (s.get DM_SBCS) 20 then s.sbAsk 1 else s
    | 0x3C => s.sbBusy fun s => (s.put DM_SBDATA w).sbAsk 2
    | 0x70 => s.dmCustomWrite w
    | _ => s

/-- R615, R655: a debug grant. -/
def State.debugGranted (s : State) : Bool := 1 ≤ s.get GH_DBGSTAT.LEVEL

/-- DMI_ACCESS (R614, R615): a read or a write of the debug module; without a grant a read returns 0 and a write is
ignored; the TAP is inactive in DORMANT. -/
def execDmiAccess (a : BitVec 7) (w : Option Word) (s : State) : Out :=
  live s fun s =>
    if s.mode = mDORMANT then s
    else
      match w with
      | some v => if s.debugGranted then s.dmiWrite a.toNat v.toNat else s
      | none =>
        let r := if s.debugGranted then s.dmiRead a.toNat else (0, s)
        r.2.emit .jtag [2, r.1]

/-- DMCUSTOM0_WRITE (R616). -/
def execDmcustom0Write (w : Word) (s : State) : Out :=
  live s fun s =>
    if s.mode ≠ mDORMANT && s.debugGranted && s.flag DM_ACTIVE then s.dmCustomWrite w.toNat else s

/-! The TAP (R613, R622, R656). -/

/-- The instruction that a code selects (Table LG-3). (DEDUCED, log entry 99.) -/
def tapCode (c : Nat) : Nat := if [0, 1, 2, 3, 4, 5, 6, 0x10, 0x11, 0x12].contains c then c else 0x1F

/-- R622: a boundary-scan instruction takes effect: the lives on scanned lanes end. (DEDUCED, log entry 99.) -/
def State.scanBegins (s : State) : State :=
  let s := if s.linkUp then s.linkLost.pxReset else s
  (List.range 8).foldl (fun u n => if u.alive n then u.lifeEnd n 1 else u) s

/-- TAP_INSTRUCTION (R613, R622): Update-IR with a code. -/
def execTapInstruction (c : BitVec 5) (s : State) : Out :=
  live s fun s =>
    if s.mode = mDORMANT then s
    else
      let i := tapCode c.toNat
      if [0, 3, 4, 5, 6].contains i then
        let granted := s.get GH_DBGSTAT.LEVEL = 2
        if (s.mode = mHOLD || s.mode = mRESCUE) && granted then (s.put TAP_IR i).scanBegins
        else (s.put TAP_IR 0x1F).raise Rc.LG_SCAN_MODE s.mode (b2n !granted)
      else s.put TAP_IR i

/-- TAP_RESET (R613): five TCK periods with TMS high; IDCODE is selected. -/
def execTapReset (s : State) : Out := live s fun s => if s.mode = mDORMANT then s else s.put TAP_IR 1

/-- GHDBG (R656): Update-DR; one access of the GH range with the DEBUG identity. -/
def execGhdbg (write : Bool) (off : BitVec 10) (data : Word) (s : State) : Out :=
  live s fun s =>
    let a := 4 * off.toNat
    if s.mode = mDORMANT || s.get TAP_IR ≠ 0x12 then s
    else if write then busWrite .debug a data.toNat s
    else
      let r := busRead .debug a s
      (r.2.put GHDBG_DATA r.1).emit .jtag [3, r.1]

end Sys2Proof.Machine
end

