-- ==== Sys2Proof/Machine/Access.lean ====
section
/-! DEFINITION. spec/01, 03, 13 and 14: accesses that leave a master for a fabric window and what ends them: BAR0 requests,
the fabric control master, the requests and the answers of other devices, the read guard of remote reads (R39 to R43, R113
to R115, R467, R474 to R476, R536 to R539). -/

namespace Sys2Proof.Machine

/-! The fabric control master (R113 to R115, R692). -/

/-- A write of the fabric control master that staged release holds: its address and its data (R692).
(DEDUCED, log entry 66.) -/
def FCM_HELD : Fifo := ⟨49⟩

/-- The access ends: RDATA and STATUS (Table FB-3). An access whose plot has been forced to FENCED meanwhile is answered to
no one (R119). -/
def State.fcmEnd (s : State) (data status : Nat) : State :=
  let s := s.put FB_FCM.BUSY 0
  let s := if status = 0 then s else s.count FB_FCM.ERRS 1
  if s.plotRuns 0 then s.emit .toArray [10, data, status] else s

/-- It ends by the read guard policy: the data of ONES are all ones, those of the other policies a free value.
(DEDUCED, log entry 30.) -/
def State.fcmPolicy (s : State) (policy : Nat) : State :=
  if policy = 2 then s.fcmEnd 0xFFFFFFFF 1 else (s.drawn).fcmEnd (s.fresh 32) 1

/-- A write of the fabric control master: status 1 without a route (Table FB-3). (DEDUCED, log entry 66.) -/
def State.fcmWrite (s : State) (addr w : Nat) : State :=
  let r := s.reach (addr / 2 ^ 20 % 256)
  (s.windowWrite .fabric addr w).fcmEnd 0 (if r = .here || r = .far then 0 else 1)

/-- A read of the fabric control master. (DEDUCED, log entry 26.) -/
def State.fcmRead (s : State) (addr : Nat) : State :=
  let seq := (s.get FCM_SEQ + 1) % 512
  match s.windowRead .fabric addr seq with
  | (.data v, t) => t.fcmEnd v 0
  | (.policy p, t) => t.fcmPolicy p
  | (.unsupported, t) => (t.drawn).fcmEnd (t.fresh 32) 1
  | (.waits, t) => (t.put FCM_SEQ seq).put FB_FCM.BUSY 1

/-- FCM_ACCESS (R113 to R115, R692): REQ rises with an address, and with data for a write. -/
def execFcmAccess (addr : Word) (w : Option Word) (s : State) : Out :=
  live s fun s =>
    let a := addr.toNat
    if !s.plotRuns 0 || s.flag FB_FCM.BUSY then s
    else if 0x10000000 ≤ a || a % 4 ≠ 0 then s.fcmEnd 0 2
    else
      match w with
      | none => s.fcmRead a
      | some v =>
        if s.get REL_STEP = 1 then (s.setList FCM_HELD [a, v.toNat]).put FB_FCM.BUSY 1 else s.fcmWrite a v.toNat

/-- R692: a held write goes on at step 2. (DEDUCED, log entry 66.) -/
def State.fcmGoes (s : State) : State :=
  match s.list FCM_HELD with
  | [a, w] => (s.setList FCM_HELD []).fcmWrite a w
  | _ => s

/-! What ends a read of another device. -/

/-- The tag of a read that FABRIC_WINDOW_ACCESS makes for a master. -/
def windowTag : Nat := 1023

/-- A value for the hart or the system bus that a guard policy gives: all ones under ONES, else none (R594). -/
def policyValue (policy : Nat) : Option Nat := if policy = 2 then some 0xFFFFFFFF else none

/-- A read of the Lodge's (or, in debug mode, of the debug module's program buffer) ends. -/
def State.lodgeReadEnds (s : State) (tag : Nat) (v : Option Nat) : State :=
  if s.get RV_WAIT = 4 && s.get RV_WSEQ = tag then (s.put RV_WAIT 0).rvAccessEnds v else s

/-- The answer to a read of FABRIC_WINDOW_ACCESS. (DEDUCED, log entries 26, 27.) -/
def State.windowEnds (s : State) (master policy : Nat) (v : Option Nat) : State :=
  match v with
  | some x => s.emit .busData [master, x]
  | none => s.policyAnswer policy windowTag 1

/-- A read that was sent to another device, as PX_RREAD keeps it, ends: with data, or, with none, by the policy that it
carries. Its originator is told apart by master and tag. -/
def State.readEnds (s : State) (r : Nat) (v : Option Nat) : State :=
  let policy := bits r 12 2
  let tag := bits r 14 10
  let value := match v with | some x => some x | none => policyValue policy
  match bits r 0 12 with
  | 8 => if tag = windowTag then s.windowEnds 0 policy v else s.leaseShown v
  | 9 => if tag = windowTag then s.windowEnds 1 policy v else s.lodgeReadEnds tag value
  | 10 => if tag = windowTag then s.windowEnds 2 policy v else s.lodgeReadEnds tag value
  | 11 => match v with | some x => s.hostData tag x | none => s.policyAnswer policy tag 1
  | 12 => s.windowEnds 4 policy v
  | 13 =>
    if tag = windowTag then s.windowEnds 5 policy v
    else if s.flag FB_FCM.BUSY && s.get FCM_SEQ = tag then
      (match v with | some x => s.fcmEnd x 0 | none => s.fcmPolicy policy)
    else s
  | 14 =>
    if tag = windowTag then s.windowEnds 6 policy v
    else if tag = sbTag then
      if s.get DM_SBOP = 3 then (match value with | some x => s.sbDone (some x) | none => s.sbFail 1) else s
    else s.lodgeReadEnds tag value
  | _ => s

/-- FABRIC_WINDOW_ACCESS (R39 to R43): an access of a master to offset `off` of window n, a read or a write with its data. -/
def execFabricWindowAccess (m : Master) (n : BitVec 8) (off : BitVec 20) (w : Option Word) (s : State) : Out :=
  live s fun s =>
    let addr := 2 ^ 20 * n.toNat + (off.toNat - off.toNat % 4)
    if s.mode = mDORMANT then s
    else
      match w with
      | some v => s.windowWrite m addr v.toNat
      | none =>
        match s.windowRead m addr windowTag with
        | (.data v, t) => t.emit .busData [m.code, v]
        | (.policy p, t) => t.policyAnswer p windowTag 1
        | (.unsupported, t) => t.hostUnsup windowTag
        | (.waits, t) => t

/-! BAR0 (R35, R43, R467, R474, R491). -/

/-- The byte enables of word i of n. -/
def byteEnables (first last i n : Nat) : Nat := if i = 0 then first else if i + 1 = n then last else 15

/-- The bits of a word that byte enables name. -/
def enabledMask (be : Nat) : Nat := ((List.range 4).map fun i => if bit be i then 0xFF * 256 ^ i else 0).sum

/-- Write words from a BAR0 address on: word i of n comes next; one with a byte enable at 0 is discarded (R467).
(DESIGN CHOICE, log entry 23.) -/
def bar0Write (first last n : Nat) : Nat → Nat → List Nat → State → State
  | _, _, [], s => s
  | i, addr, w :: ws, s =>
    let s := if byteEnables first last i n = 15 then s.windowWrite .host addr w else s
    bar0Write first last n (i + 1) (addr + 4) ws s

/-- Read k more words of n from a BAR0 address on. A read of window 255 ends with Unsupported Request (R43).
(DEDUCED, log entry 28.) -/
def bar0Read (first last n tag : Nat) : Nat → Nat → Nat → State → State
  | 0, _, _, s => s
  | k + 1, i, addr, s =>
    match s.windowRead .host addr tag with
    | (.data v, t) =>
      bar0Read first last n tag k (i + 1) (addr + 4) (t.hostData tag (v &&& enabledMask (byteEnables first last i n)))
    | (.policy p, t) => bar0Read first last n tag k (i + 1) (addr + 4) (t.policyAnswer p tag 1)
    | (.unsupported, t) => t.hostUnsup tag
    | (.waits, t) => bar0Read first last n tag k (i + 1) (addr + 4) t

/-- A memory request as BAR0_HELD keeps it while the device wakes: one number, then the words of a write. -/
def bar0Code (write : Bool) (addr first last n tag : Nat) : Nat :=
  b2n write + 2 * addr + 2 ^ 32 * first + 2 ^ 36 * last + 2 ^ 40 * n + 2 ^ 64 * tag

/-- Serve a memory request to BAR0 (R467). -/
def State.bar0Serve (s : State) (code : Nat) (ws : List Nat) : State :=
  let addr := bits code 1 28
  let n := bits code 40 24
  if bit code 0 then bar0Write (bits code 32 4) (bits code 36 4) n 0 addr ws s
  else bar0Read (bits code 32 4) (bits code 36 4) n (bits code 64 10) n 0 addr s

/-- R35: the requests that came in DORMANT are served in order, after the wake. (DEDUCED, log entry 29.) -/
def bar0Held : Nat → List Nat → State → State
  | 0, _, s => s
  | _, [], s => s
  | f + 1, c :: l, s =>
    let k := if bit c 0 then bits c 40 24 else 0
    bar0Held f (l.drop k) (s.bar0Serve c (l.take k))

/-- A memory request to BAR0: served, answered with Unsupported Request in D3hot (R491), or held while it wakes the device
(R35). (DEDUCED, log entries 28, 29.) -/
def State.bar0Request (s : State) (code : Nat) (ws : List Nat) : State :=
  if !s.linkUp then s
  else if s.get PX_LINK.DSTATE ≠ 0 then (if bit code 0 then s else s.hostUnsup (bits code 64 10))
  else if s.mode = mDORMANT then
    ((s.orBit PX_OWED 1).setList BAR0_HELD (s.list BAR0_HELD ++ code :: ws)).wakeEvent 3 0
  else s.bar0Serve code ws

/-- BAR0_REQUEST (R467): a memory read of `more` + 1 words, or a write of a word and more, at a word address of BAR0, with
the byte enables of its first and last word. -/
def execBar0Request (r : Bar0Words) (addr : BitVec 26) (first last : BitVec 4) (s : State) : Out :=
  live s fun s =>
    let a := 4 * addr.toNat
    match r with
    | .write w more =>
      let ws := (w :: more).map BitVec.toNat
      s.bar0Request (bar0Code true a first.toNat last.toNat (more.length + 1) 0) ws
    | .read more tag => s.bar0Request (bar0Code false a first.toNat last.toNat (more + 1) tag.toNat) []

/-! Requests of other devices and their answers (R536 to R539). -/

/-- CSR_REQUEST (R537): the next CSR packet delivered from port n, if it is a READ or a WRITE. -/
def execCsrRequest (n : Fin 9) (s : State) : Out :=
  live s fun s =>
    if s.mode = mDORMANT then s
    else
      match s.hxHead n clCSR with
      | none => s
      | some (p, t) =>
        let op := pkId p / 2 ^ 8
        let master := pkId p % 2 ^ 8
        let off := pkWord p 0 % 2 ^ 20 / 4 * 4
        if op = 0 then
          let r := busRead .hokuoxRemote off t
          r.2.hxSend (r.2.ownPacket (pkSrc p) clCSR (master + 2 ^ 8 * 2) (pkSeq p) [r.1 % 2 ^ 32])
        else if op = 1 then
          let u := busWrite .hokuoxRemote off (bits (pkWord p 0) 32 32) t
          u.hxSend (u.ownPacket (pkSrc p) clCSR (master + 2 ^ 8 * 3) (pkSeq p) [])
        else s

/-- The destination and the entry of the read that a tag belongs to. (DEDUCED, log entry 100.) -/
def State.readOf (s : State) (tag : Nat) : Option (Nat × Nat) :=
  (List.range 255).findSome? fun d => ((s.list PX_RREAD d).find? fun r => rdSeq r = tag).map fun r => (d, r)

/-- READ_RESP (R475, R539): the next CSR packet delivered from port n, if it is one. -/
def execReadResp (n : Fin 9) (s : State) : Out :=
  live s fun s =>
    match s.hxHead n clCSR with
    | none => s
    | some (p, t) =>
      if pkId p / 2 ^ 8 ≠ 2 then s
      else
        match t.readOf (pkSeq p) with
        | none => t.lateAnswer (0x200 + pkSrc p)
        | some (d, r) =>
          let t := t.setList PX_RREAD ((t.list PX_RREAD d).erase r) d
          let t :=
            if bits (pkWord p 0) 32 2 = 1 then
              if bits r 0 12 = 15 then t else (t.unreachable d).readEnds r none
            else t.readEnds r (some (pkWord p 0 % 2 ^ 32))
          csrPump (t.list HX_CSRQ).length t

/-- The reads to device n that the oldest one's request has made: a BAR0 request is guarded as one (R474). -/
def sameRead (r x : Nat) : Bool := if bits r 0 12 = 11 then bits x 0 12 = 11 && bits x 14 10 = bits r 14 10 else x = r

/-- A request that waits to be sent, as PX_RREAD would keep it. -/
def waitingRead (c : Nat) : Nat := rdEntry 0 (bits c 64 10) (bits c 74 2) (bits c 9 3 + 8)

/-- R474: the guard time of the oldest read of device n: every word of its request that is still owed is answered by the
policy, and what waits is not sent. -/
def State.fabricGuard (s : State) (n : Nat) : State :=
  let waiting := (s.list HX_CSRQ).filter fun c => !bit c 8 && bits c 0 8 = n
  match s.list PX_RREAD n ++ waiting.map waitingRead with
  | [] => s
  | r :: _ =>
    let sent := (s.list PX_RREAD n).filter (sameRead r)
    let queued :=
      if sent.isEmpty || bits r 0 12 = 11 then waiting.filter fun c => sameRead r (waitingRead c) else []
    let queued := if bits r 0 12 = 11 then queued else queued.take 1
    let s := s.setList PX_RREAD ((s.list PX_RREAD n).filter fun x => !sameRead r x) n
    let s := queued.foldl (fun u c => u.setList HX_CSRQ ((u.list HX_CSRQ).erase c)) s
    let s := if bits r 0 12 = 15 then s else s.guardCount (0x200 + n)
    let s := (List.range (sent.length + queued.length)).foldl (fun u _ => u.readEnds r none) s
    csrPump (s.list HX_CSRQ).length s

/-- READ_GUARD_EXPIRY (R474 to R476): the guard time of the oldest read of a host window, or of a fabric window.
(DEDUCED, log entry 28.) -/
def execReadGuardExpiry (t : GuardTarget) (s : State) : Out :=
  live s fun s => match t with | .window k => s.windowGuard k | .fabric n => s.fabricGuard n

end Sys2Proof.Machine
end

