-- ==== Sys2Proof/Machine/Finish.lean ====
section
/-! DEFINITION. What reaches the registers from inside the device, or ends a span of time: container commands and epochs that
write registers, the steps of a release, the update reports, the wake, and the end of a reset. -/

namespace Sys2Proof.Machine

/-! Register commands of a container (R679, R680). -/

/-- One register write with the GATEHOUSE identity: the state after it, and the code and object of its refusal, 0 with
none. -/
def State.gatehouseWrite (s : State) (off w : Nat) : Nat × State :=
  let code := s.get GH_REFUSE.CODE
  let obj := s.get GH_REFUSE.OBJ
  let t := busWrite .gatehouse off w (s.put GH_REFUSE.CODE 0)
  if t.get GH_REFUSE.CODE = 0 then (0, (t.put GH_REFUSE.CODE code).put GH_REFUSE.OBJ obj)
  else (t.get GH_REFUSE.CODE + 2 ^ 16 * t.get GH_REFUSE.OBJ, t)

/-- Writes to one register in turn, up to the first that is refused (Table GH-15). -/
def gatehouseWrites (off : Nat) : List Nat → State → Nat × State
  | [], s => (0, s)
  | w :: ws, s =>
    match s.gatehouseWrite off w with
    | (0, t) => gatehouseWrites off ws t
    | r => r

/-- The values of a register command at payload byte `pos`: GH_CFG_REGW, with what was refused, ends the container. -/
def State.ctWrites (s : State) (off : Nat) (ws : List Nat) : State :=
  match gatehouseWrites off ws s with
  | (0, t) => t
  | (why, t) => t.ctFail Rc.GH_CFG_REGW why

/-- REGW (R679, R695): the words of the command as the host's memory returned them. -/
def execRegw (ws : List Word) (s : State) : Out :=
  live s fun s => s.ctCommand 3 ws fun _ l s => s.ctStaging.ctWrites (4 * bits (l.headD 0) 8 18) (l.drop 1)

/-- REGFILL (R679): the words of the command as the host's memory returned them. -/
def execRegfill (ws : List Word) (s : State) : Out :=
  live s fun s => s.ctCommand 7 ws fun _ l s => s.ctWrites (4 * bits (l.headD 0) 8 18) (l.drop 2)

/-- POLL_READ (R680): one microsecond of the poll in progress has passed; GH_CFG_POLL names the payload byte of the POLL
command, whose four words are behind. -/
def execPollRead (s : State) : Out :=
  live s fun s =>
    if s.get CT_PLEFT = 0 || !(s.get CT_ON = 1 || s.get CT_ON = 2) then s
    else
      let r := busRead .gatehouse (4 * s.get CT_POLL) s
      if r.1 &&& s.get CT_PMASK = s.get CT_PVAL then r.2.put CT_PLEFT 0
      else if r.2.get CT_PLEFT = 1 then r.2.ctFail Rc.GH_CFG_POLL (s.get CT_POS - 16)
      else r.2.put CT_PLEFT (r.2.get CT_PLEFT - 1)

/-! Mirrored pairs (R560, R564, R578). -/

/-- EPOCH_CLOSE (R560): EPOCH_T has passed on the primary. -/
def execEpochClose (s : State) : Out := live s fun s => s.epochClose busPeek

/-- JOURNAL (R563, R564): the next MIR packet delivered from the mirror port, if it carries journal words; the register
writes of a complete epoch carry the GATEHOUSE identity. -/
def execJournal (s : State) : Out := live s fun s => s.journalIn fun u off w => busWrite .gatehouse off w u

/-- HANDOVER (R578): a write of HANDOVER to MI_CMD. -/
def execHandover (m : Master) (s : State) : Out :=
  live s fun s => s.onWrite m 0x28010 1 (wrMiCmd busPeek m 1)

/-! Releasing the design (R55, R691, R692, Table GH-19). -/

/-- DOMAIN_RELEASE_SLOT (R55): T2 has passed since a domain left reset. -/
def execDomainReleaseSlot (s : State) : Out := live s fun s => if s.mode = mRUN then s.releaseNext else s

/-- STAGED_RELEASE_STEP (R691, R692): T1, or a slot of T2, has passed. -/
def execStagedReleaseStep (s : State) : Out :=
  live s fun s =>
    match s.get REL_STEP with
    | 1 => (s.put REL_STEP 2).writesOpen.fcmGoes.releaseOpen
    | 2 => s.releaseSlot
    | _ => s

/-! Update reports (R717, R724, R726). -/

/-- STATUS (R714, R717, R724, R726): the oldest update packet received on port n, if it is one; what the reports decide at
the coordinator follows. -/
def execUpStatus (n : Fin 9) (s : State) : Out :=
  live s fun s =>
    match s.updHead n 0x14 with
    | none => s
    | some (p, t) => (t.upStatus n p).upJudge busPeek

/-- STATUS_TIMER (R717). -/
def execStatusTimer (s : State) : Out :=
  live s fun s => if s.get GH_UPSTAT.STATE = usIDLE then s else (s.upReport).upJudge busPeek

/-- ACTIVATE (R724). -/
def execActivate (n : Fin 9) (s : State) : Out :=
  live s fun s =>
    match s.updHead n 0x19 with
    | none => s
    | some (p, t) =>
      if pkWord p 0 ≠ t.upId || t.flag GH_UPSTAT.COORD then t else t.upActivate busPeek (bits (pkWord p 1) 0 8)

/-! The wake (R774, Table PW-13). -/

/-- WAKE_COMPLETE (R774, R776): the wake ends; `avs` whether its commit and voltage read were good, `late` which
synthesisers (bits 0 to 5) and quad PLLs (bits 6 to 15) timed out, `ms` and `ns` the time asleep and the wake time. The
accesses of the host that came meanwhile are then made (R35). -/
def execWakeComplete (avs : Bool) (late : BitVec 16) (ms : BitVec 32) (ns : BitVec 18) (s : State) : Out :=
  if s.get RESETTING = 0 && s.mode = mDORMANT && s.get PW_DMSTAT.PHASE = dmWAKING then
    let u := s.wakeUp avs late.toNat ms.toNat ns.toNat
    let held := u.list BAR0_HELD
    run u (bar0Held held.length held (u.setList BAR0_HELD []))
  else .next s

/-! The end of a reset (R33, R47, R54, R635, R662, R667, R668, R785). -/

/-- What the battery domain has latched shows at step 2 of Table GH-10 (R635, R662). (DEDUCED, log entry 60.) -/
def State.batteryShown (s : State) : State :=
  let s := if s.flag BATT_NEW then (s.raise Rc.GH_TAMPER_BATT 0).put BATT_NEW 0 else s
  if s.flag VBATT_LOST then (s.put GH_TAMPSTAT.BATT_LOW 1).put VBATT_LOST 0 else s

/-- An update session that had not come to its commit point is over (Table UP-10). -/
def State.sessionOver (s : State) : State :=
  if [usRECEIVING, usSTAGED, usPASS, usPREPARED].contains (s.get GH_UPSTAT.STATE) then s.upSet usIDLE else s

/-- Steps 3 to 6 of Table GH-10 for the selected mode and sources (R667, R668, R671). (DEDUCED, log entry 29.) -/
def State.powerUp (s : State) : State :=
  let s := s.avsSend 5
  if s.mode = mLOAD then
    match s.get MODE_PINS with
    | 0 => s
    | 1 => (s.setList CT_PLAN [2]).planNext.endpointFree
    | 2 => (s.bootPort.setList CT_PLAN [3]).planNext.endpointFree
    | _ => s.bootPort
  else s.bootPort.endpointFree

/-- RESET_END (R47, R667): the reset in progress ends with the levels of MODE2 to MODE0; not while DEV_RESET_N is low
(R48). -/
def execResetEnd (pins : BitVec 3) (s : State) : Out :=
  if s.get RESETTING = 0 || s.flag DEVRST_LOW then .next s
  else
    let rescue := 3 < pins.toNat || (s.get RESETTING = 1 && s.flag TEST_FAILED)
    let first := s.get RST_FIRST
    let owed := s.get BATT_ZERO
    let s := ((s.put RESETTING 0).put VAUX_LOW 0).put TEST_FAILED 0
    let s := ((s.put RST_FIRST 7).put BATT_ZERO 0).put MODE_PINS pins.toNat
    let s := ((s.put PW_MODE.MODE (if rescue then mRESCUE else mLOAD)).put PW_MODE.PREV_MODE 0).put PW_MODE.MCHG 0
    let s := ((s.raise Rc.PW_RESET first).batteryShown.setPutImage 0 0 []).sessionOver
    if owed ≠ 0 then .next ((s.zeroise owed 7).endpointFree) else .next s.powerUp

end Sys2Proof.Machine
end

