-- ==== Sys2Proof/Machine/Dispatch.lean ====
section
/-! DEFINITION. exec: one arm per command, each one call of its meaning. -/

namespace Sys2Proof.Machine

def exec (i : Instr) (s : State) : Host.Outcome State Fault Refusal :=
  match i with
  | .registerWrite m off w => Sys2Proof.Machine.execRegisterWrite m off w s
  | .pairLoRead m off => Sys2Proof.Machine.execPairLoRead m off s
  | .pairLoWrite m off w => Sys2Proof.Machine.execPairLoWrite m off w s
  | .pairHiWrite m off w => Sys2Proof.Machine.execPairHiWrite m off w s
  | .fabricWindowAccess m n off w => Sys2Proof.Machine.execFabricWindowAccess m n off w s
  | .coldResetSource vaux => Sys2Proof.Machine.execColdResetSource vaux s
  | .devResetN low => Sys2Proof.Machine.execDevResetN low s
  | .resetEnd pins => Sys2Proof.Machine.execResetEnd pins s
  | .endpointReset perst => Sys2Proof.Machine.execEndpointReset perst s
  | .rdholdWrite m w => Sys2Proof.Machine.execRdholdWrite m w s
  | .domainReleaseSlot => Sys2Proof.Machine.execDomainReleaseSlot s
  | .paceWindowEnd counts => Sys2Proof.Machine.execPaceWindowEnd counts s
  | .governorPeriod => Sys2Proof.Machine.execGovernorPeriod s
  | .paceShort => Sys2Proof.Machine.execPaceShort s
  | .avsSettleEnd => Sys2Proof.Machine.execAvsSettleEnd s
  | .avsFrameDone r => Sys2Proof.Machine.execAvsFrameDone r s
  | .avsStatusPoll => Sys2Proof.Machine.execAvsStatusPoll s
  | .govEn m w => Sys2Proof.Machine.execGovEn m w s
  | .vsetWrite m w => Sys2Proof.Machine.execVsetWrite m w s
  | .avsFaultClear m w => Sys2Proof.Machine.execAvsFaultClear m w s
  | .fence m p w => Sys2Proof.Machine.execFence m p w s
  | .plotQuiet p => Sys2Proof.Machine.execPlotQuiet p s
  | .drainTimeout p discarded => Sys2Proof.Machine.execDrainTimeout p discarded s
  | .release m p w => Sys2Proof.Machine.execRelease m p w s
  | .gateInboundRequest p started => Sys2Proof.Machine.execGateInboundRequest p started s
  | .hedgeProtocolViolation p wire avenue inbound side => Sys2Proof.Machine.execHedgeProtocolViolation p wire avenue inbound side s
  | .drIllegalCode p wire avenue inbound side => Sys2Proof.Machine.execDrIllegalCode p wire avenue inbound side s
  | .stallDetected p => Sys2Proof.Machine.execStallDetected p s
  | .eventLineToken l => Sys2Proof.Machine.execEventLineToken l s
  | .eventLineDeliver l => Sys2Proof.Machine.execEventLineDeliver l s
  | .fcmAccess addr w => Sys2Proof.Machine.execFcmAccess addr w s
  | .memPortRead m port addr => Sys2Proof.Machine.execMemPortRead m port addr s
  | .memPortWrite m port addr be data => Sys2Proof.Machine.execMemPortWrite m port addr be data s
  | .macOperation n op a b d => Sys2Proof.Machine.execMacOperation n op a b d s
  | .memIndirectRead m w => Sys2Proof.Machine.execMemIndirectRead m w s
  | .memIndirectWrite m w => Sys2Proof.Machine.execMemIndirectWrite m w s
  | .memScrubAccess m => Sys2Proof.Machine.execMemScrubAccess m s
  | .push p lane block data => Sys2Proof.Machine.execPush p lane block data s
  | .qmOpen p lane block => Sys2Proof.Machine.execQmOpen p lane block s
  | .close p lane data => Sys2Proof.Machine.execClose p lane data s
  | .qmAbort p lane => Sys2Proof.Machine.execQmAbort p lane s
  | .pop p lane any block => Sys2Proof.Machine.execPop p lane any block s
  | .peek p lane any block => Sys2Proof.Machine.execPeek p lane any block s
  | .mark p lane any => Sys2Proof.Machine.execMark p lane any s
  | .rewind p lane any => Sys2Proof.Machine.execRewind p lane any s
  | .qmRelease p lane any count => Sys2Proof.Machine.execQmRelease p lane any count s
  | .occ p lane any => Sys2Proof.Machine.execOcc p lane any s
  | .parkedOpRegrant q => Sys2Proof.Machine.execParkedOpRegrant q s
  | .queueEnable m q w => Sys2Proof.Machine.execQueueEnable m q w s
  | .portBind m t w => Sys2Proof.Machine.execPortBind m t w s
  | .windowPush m idx w => Sys2Proof.Machine.execWindowPush m idx w s
  | .windowPop m idx => Sys2Proof.Machine.execWindowPop m idx s
  | .jres m w => Sys2Proof.Machine.execJres m w s
  | .storeScrubAccess => Sys2Proof.Machine.execStoreScrubAccess s
  | .refLoss c => Sys2Proof.Machine.execRefLoss c s
  | .refRestored c => Sys2Proof.Machine.execRefRestored c s
  | .ctlSel m w => Sys2Proof.Machine.execCtlSel m w s
  | .synGo m k w => Sys2Proof.Machine.execSynGo m k w s
  | .synEn m k w => Sys2Proof.Machine.execSynEn m k w s
  | .synLocked k => Sys2Proof.Machine.execSynLocked k s
  | .synLockTimeout k => Sys2Proof.Machine.execSynLockTimeout k s
  | .synLockLost k => Sys2Proof.Machine.execSynLockLost k s
  | .slewStep j => Sys2Proof.Machine.execSlewStep j s
  | .freqMeterGo m w => Sys2Proof.Machine.execFreqMeterGo m w s
  | .freqMeterDone count => Sys2Proof.Machine.execFreqMeterDone count s
  | .xpEnable m x w => Sys2Proof.Machine.execXpEnable m x w s
  | .xpArrayOffer x data side => Sys2Proof.Machine.execXpArrayOffer x data side s
  | .xpArrayAck x data stat => Sys2Proof.Machine.execXpArrayAck x data stat s
  | .xpIslandPut x data side => Sys2Proof.Machine.execXpIslandPut x data side s
  | .xpIslandTake x => Sys2Proof.Machine.execXpIslandTake x s
  | .xpIslandAnswer x data stat => Sys2Proof.Machine.execXpIslandAnswer x data stat s
  | .pacedPairMove a => Sys2Proof.Machine.execPacedPairMove a s
  | .xpTimeout x => Sys2Proof.Machine.execXpTimeout x s
  | .xpPortReset m x => Sys2Proof.Machine.execXpPortReset m x s
  | .xpResync x => Sys2Proof.Machine.execXpResync x s
  | .tbEn m w => Sys2Proof.Machine.execTbEn m w s
  | .epochArm m w => Sys2Proof.Machine.execEpochArm m w s
  | .epochLoad since => Sys2Proof.Machine.execEpochLoad since s
  | .adjStep m w => Sys2Proof.Machine.execAdjStep m w s
  | .adjSlew m w => Sys2Proof.Machine.execAdjSlew m w s
  | .slewDone => Sys2Proof.Machine.execSlewDone s
  | .tnowRead m => Sys2Proof.Machine.execTnowRead m s
  | .tagEdge n rising ago => Sys2Proof.Machine.execTagEdge n rising ago s
  | .ttdat0Read m n => Sys2Proof.Machine.execTtdat0Read m n s
  | .ttCalibrationStart n => Sys2Proof.Machine.execTtCalibrationStart n s
  | .ttCalibrationEnd n => Sys2Proof.Machine.execTtCalibrationEnd n s
  | .ttStale n => Sys2Proof.Machine.execTtStale n s
  | .cueCommandPush m c w => Sys2Proof.Machine.execCueCommandPush m c w s
  | .cueFire c => Sys2Proof.Machine.execCueFire c s
  | .cueLate c => Sys2Proof.Machine.execCueLate c s
  | .pulseEnd c => Sys2Proof.Machine.execPulseEnd c s
  | .bsUnitEnable m u w => Sys2Proof.Machine.execBsUnitEnable m u w s
  | .softTrigger m w => Sys2Proof.Machine.execSoftTrigger m w s
  | .routerSourceEdge c high => Sys2Proof.Machine.execRouterSourceEdge c high s
  | .stretchEnd d => Sys2Proof.Machine.execStretchEnd d s
  | .lbtArm m l => Sys2Proof.Machine.execLbtArm m l s
  | .lbtCapture l ago word => Sys2Proof.Machine.execLbtCapture l ago word s
  | .lfxoEdgeDormant => Sys2Proof.Machine.execLfxoEdgeDormant s
  | .timerClaim m t assign => Sys2Proof.Machine.execTimerClaim m t assign s
  | .timerRelease m t => Sys2Proof.Machine.execTimerRelease m t s
  | .timerEnable m t w => Sys2Proof.Machine.execTimerEnable m t w s
  | .timerRun m t on => Sys2Proof.Machine.execTimerRun m t on s
  | .btGo m start stop => Sys2Proof.Machine.execBtGo m start stop s
  | .countLoad m t w => Sys2Proof.Machine.execCountLoad m t w s
  | .snapshot m mask => Sys2Proof.Machine.execSnapshot m mask s
  | .timerOverflow t => Sys2Proof.Machine.execTimerOverflow t s
  | .compareMatch t k => Sys2Proof.Machine.execCompareMatch t k s
  | .triggerEdge t => Sys2Proof.Machine.execTriggerEdge t s
  | .capture t j => Sys2Proof.Machine.execCapture t j s
  | .capLoRead m t j => Sys2Proof.Machine.execCapLoRead m t j s
  | .contextEnable m c w => Sys2Proof.Machine.execContextEnable m c w s
  | .jobFetch c => Sys2Proof.Machine.execJobFetch c s
  | .sliceEnd => Sys2Proof.Machine.execSliceEnd s
  | .preemptionPoint => Sys2Proof.Machine.execPreemptionPoint s
  | .contextInputReady c => Sys2Proof.Machine.execContextInputReady c s
  | .contextOutputReady c => Sys2Proof.Machine.execContextOutputReady c s
  | .jobEnd => Sys2Proof.Machine.execJobEnd s
  | .jobAbort m c => Sys2Proof.Machine.execJobAbort m c s
  | .contextResume m c => Sys2Proof.Machine.execContextResume m c s
  | .wsIndirectRead m => Sys2Proof.Machine.execWsIndirectRead m s
  | .wsIndirectWrite m w => Sys2Proof.Machine.execWsIndirectWrite m w s
  | .bankEnable m b w => Sys2Proof.Machine.execBankEnable m b w s
  | .vioLost b vdet => Sys2Proof.Machine.execVioLost b vdet s
  | .pinEnable m p w => Sys2Proof.Machine.execPinEnable m p w s
  | .renew m p => Sys2Proof.Machine.execRenew m p s
  | .serGroupEnable m g w => Sys2Proof.Machine.execSerGroupEnable m g w s
  | .bitslip m g => Sys2Proof.Machine.execBitslip m g s
  | .qpllGo m q w => Sys2Proof.Machine.execQpllGo m q w s
  | .qpllLocked q => Sys2Proof.Machine.execQpllLocked q s
  | .slQpllLockTimeout q => Sys2Proof.Machine.execSlQpllLockTimeout q s
  | .slQpllLost q => Sys2Proof.Machine.execSlQpllLost q s
  | .laneEnable m l w => Sys2Proof.Machine.execLaneEnable m l w s
  | .cdrLockChange l locked sigdet => Sys2Proof.Machine.execCdrLockChange l locked sigdet s
  | .alignChange l aligned => Sys2Proof.Machine.execAlignChange l aligned s
  | .laneRst m l => Sys2Proof.Machine.execLaneRst m l s
  | .laneMark m l => Sys2Proof.Machine.execLaneMark m l s
  | .laneTestWrite m l w => Sys2Proof.Machine.execLaneTestWrite m l w s
  | .inj m l => Sys2Proof.Machine.execInj m l s
  | .eyeScanGo m l w => Sys2Proof.Machine.execEyeScanGo m l w s
  | .eyeScanDone l count => Sys2Proof.Machine.execEyeScanDone l count s
  | .configRequest write d be w tag => Sys2Proof.Machine.execConfigRequest write d be w tag s
  | .bar0Request r addr first last => Sys2Proof.Machine.execBar0Request r addr first last s
  | .bar2Write k off fbe lbe word more => Sys2Proof.Machine.execBar2Write k off fbe lbe word more s
  | .bar2Read k off fbe lbe more tag => Sys2Proof.Machine.execBar2Read k off fbe lbe more tag s
  | .tailDoorbell c v => Sys2Proof.Machine.execTailDoorbell c v s
  | .pushDoorbell c full v => Sys2Proof.Machine.execPushDoorbell c full v s
  | .readGuardExpiry t => Sys2Proof.Machine.execReadGuardExpiry t s
  | .writeGuardExpiry k => Sys2Proof.Machine.execWriteGuardExpiry k s
  | .channelEnable m c w => Sys2Proof.Machine.execChannelEnable m c w s
  | .dmaTurn => Sys2Proof.Machine.execDmaTurn s
  | .dmaCompletion c good data => Sys2Proof.Machine.execDmaCompletion c good data s
  | .descriptorComplete c => Sys2Proof.Machine.execDescriptorComplete c s
  | .pxCplTimeout c => Sys2Proof.Machine.execPxCplTimeout c s
  | .flushTimeout c => Sys2Proof.Machine.execFlushTimeout c s
  | .dstateChange d3 => Sys2Proof.Machine.execDstateChange d3 s
  | .aspmL1Change enter => Sys2Proof.Machine.execAspmL1Change enter s
  | .linkUp speed width => Sys2Proof.Machine.execLinkUp speed width s
  | .linkDown => Sys2Proof.Machine.execLinkDown s
  | .hostViolationTlp v => Sys2Proof.Machine.execHostViolationTlp v s
  | .hxPortEnable m n w => Sys2Proof.Machine.execHxPortEnable m n w s
  | .blockLock n => Sys2Proof.Machine.execBlockLock n s
  | .blockLockLost n => Sys2Proof.Machine.execBlockLockLost n s
  | .hxAlign n r => Sys2Proof.Machine.execHxAlign n r s
  | .hxInit n w => Sys2Proof.Machine.execHxInit n w s
  | .wakeTExpiry n => Sys2Proof.Machine.execWakeTExpiry n s
  | .retrain m n => Sys2Proof.Machine.execRetrain m n s
  | .echo m n => Sys2Proof.Machine.execEcho m n s
  | .packetReceive n x => Sys2Proof.Machine.execPacketReceive n x s
  | .packetSend n timeSpent aged => Sys2Proof.Machine.execPacketSend n timeSpent aged s
  | .ack n seq nak => Sys2Proof.Machine.execAck n seq nak s
  | .ackTimer n => Sys2Proof.Machine.execAckTimer n s
  | .replayTimeout n => Sys2Proof.Machine.execReplayTimeout n s
  | .credit n k words => Sys2Proof.Machine.execCredit n k words s
  | .sleep n => Sys2Proof.Machine.execSleep n s
  | .advertTimer => Sys2Proof.Machine.execAdvertTimer s
  | .advert n => Sys2Proof.Machine.execAdvert n s
  | .electTExpiry => Sys2Proof.Machine.execElectTExpiry s
  | .joinTimer => Sys2Proof.Machine.execJoinTimer s
  | .join n => Sys2Proof.Machine.execJoin n s
  | .assign n => Sys2Proof.Machine.execAssign n s
  | .routeTimer => Sys2Proof.Machine.execRouteTimer s
  | .route n => Sys2Proof.Machine.execRoute n s
  | .outboundToken j e block data => Sys2Proof.Machine.execOutboundToken j e block data s
  | .inboundTokenAck j => Sys2Proof.Machine.execInboundTokenAck j s
  | .tokens n => Sys2Proof.Machine.execTokens n s
  | .channelCredit n => Sys2Proof.Machine.execChannelCredit n s
  | .channelOpen n => Sys2Proof.Machine.execChannelOpen n s
  | .openTimer e => Sys2Proof.Machine.execOpenTimer e s
  | .creditReturnTimer e => Sys2Proof.Machine.execCreditReturnTimer e s
  | .probeTimer e => Sys2Proof.Machine.execProbeTimer e s
  | .probe n => Sys2Proof.Machine.execProbe n s
  | .probeReply n => Sys2Proof.Machine.execProbeReply n s
  | .break n => Sys2Proof.Machine.execBreak n s
  | .endpointEnable m w => Sys2Proof.Machine.execEndpointEnable m w s
  | .channelPortEnable m j w => Sys2Proof.Machine.execChannelPortEnable m j w s
  | .csrRequest n => Sys2Proof.Machine.execCsrRequest n s
  | .readResp n => Sys2Proof.Machine.execReadResp n s
  | .writeAck n => Sys2Proof.Machine.execWriteAck n s
  | .csrWriteLost n => Sys2Proof.Machine.execCsrWriteLost n s
  | .timeExchangePeriod n => Sys2Proof.Machine.execTimeExchangePeriod n s
  | .sync n => Sys2Proof.Machine.execSync n s
  | .follow n => Sys2Proof.Machine.execFollow n s
  | .dreq n => Sys2Proof.Machine.execDreq n s
  | .dresp n => Sys2Proof.Machine.execDresp n s
  | .miEnable m w => Sys2Proof.Machine.execMiEnable m w s
  | .heartbeatTimer => Sys2Proof.Machine.execHeartbeatTimer s
  | .heartbeat => Sys2Proof.Machine.execHeartbeat s
  | .pairTExpiry => Sys2Proof.Machine.execPairTExpiry s
  | .heartbeatMiss => Sys2Proof.Machine.execHeartbeatMiss s
  | .epochClose => Sys2Proof.Machine.execEpochClose s
  | .journal => Sys2Proof.Machine.execJournal s
  | .epochAck => Sys2Proof.Machine.execEpochAck s
  | .handover m => Sys2Proof.Machine.execHandover m s
  | .handoverPacket => Sys2Proof.Machine.execHandoverPacket s
  | .resync m => Sys2Proof.Machine.execResync m s
  | .disband m => Sys2Proof.Machine.execDisband m s
  | .witnessClaim m w => Sys2Proof.Machine.execWitnessClaim m w s
  | .witnessRenew m w => Sys2Proof.Machine.execWitnessRenew m w s
  | .leaseLost => Sys2Proof.Machine.execLeaseLost s
  | .instruction cycles fetch data => Sys2Proof.Machine.execInstruction cycles fetch data s
  | .machineTimer => Sys2Proof.Machine.execMachineTimer s
  | .coreRun m w => Sys2Proof.Machine.execCoreRun m w s
  | .lgMemdataAccess m w => Sys2Proof.Machine.execLgMemdataAccess m w s
  | .arrayWindowGuard sb => Sys2Proof.Machine.execArrayWindowGuard sb s
  | .icclaimRead m => Sys2Proof.Machine.execIcclaimRead m s
  | .icclaimWrite m w => Sys2Proof.Machine.execIcclaimWrite m w s
  | .peripheralEnable m p w => Sys2Proof.Machine.execPeripheralEnable m p w s
  | .uartTxPush m k w => Sys2Proof.Machine.execUartTxPush m k w s
  | .uartRxPop m k => Sys2Proof.Machine.execUartRxPop m k s
  | .uartFrameReceived k b perr ferr brk => Sys2Proof.Machine.execUartFrameReceived k b perr ferr brk s
  | .uartFrameSent k => Sys2Proof.Machine.execUartFrameSent k s
  | .spiCommand m k w => Sys2Proof.Machine.execSpiCommand m k w s
  | .spiByteDone k miso => Sys2Proof.Machine.execSpiByteDone k miso s
  | .spiDataAccess m k w => Sys2Proof.Machine.execSpiDataAccess m k w s
  | .i2cCommand m k w => Sys2Proof.Machine.execI2cCommand m k w s
  | .i2cCommandDone k e => Sys2Proof.Machine.execI2cCommandDone k e s
  | .i2cTimeout k => Sys2Proof.Machine.execI2cTimeout k s
  | .i2cAlert k low => Sys2Proof.Machine.execI2cAlert k low s
  | .i2cDataAccess m k w => Sys2Proof.Machine.execI2cDataAccess m k w s
  | .gpioEdge g rising => Sys2Proof.Machine.execGpioEdge g rising s
  | .gpioSetClear m clear w => Sys2Proof.Machine.execGpioSetClear m clear w s
  | .watchdogEnable m w => Sys2Proof.Machine.execWatchdogEnable m w s
  | .watchdogKick m w => Sys2Proof.Machine.execWatchdogKick m w s
  | .watchdogExpiry => Sys2Proof.Machine.execWatchdogExpiry s
  | .h2lRing m => Sys2Proof.Machine.execH2lRing m s
  | .l2hRing m => Sys2Proof.Machine.execL2hRing m s
  | .mailboxClear m w => Sys2Proof.Machine.execMailboxClear m w s
  | .tapInstruction c => Sys2Proof.Machine.execTapInstruction c s
  | .tapReset => Sys2Proof.Machine.execTapReset s
  | .dmiAccess a w => Sys2Proof.Machine.execDmiAccess a w s
  | .systemBusAccess => Sys2Proof.Machine.execSystemBusAccess s
  | .dmcustom0Write w => Sys2Proof.Machine.execDmcustom0Write w s
  | .xtInEdge => Sys2Proof.Machine.execXtInEdge s
  | .halt => Sys2Proof.Machine.execHalt s
  | .resume => Sys2Proof.Machine.execResume s
  | .ghdbg write off data => Sys2Proof.Machine.execGhdbg write off data s
  | .cmdClaim m => Sys2Proof.Machine.execCmdClaim m s
  | .cmdRelease m => Sys2Proof.Machine.execCmdRelease m s
  | .cmdInterfaceTimeout => Sys2Proof.Machine.execCmdInterfaceTimeout s
  | .keyWrite m => Sys2Proof.Machine.execKeyWrite m s
  | .keyErase m => Sys2Proof.Machine.execKeyErase m s
  | .keyWrap m => Sys2Proof.Machine.execKeyWrap m s
  | .zeroize m => Sys2Proof.Machine.execZeroize m s
  | .loadStart m => Sys2Proof.Machine.execLoadStart m s
  | .rewrite m => Sys2Proof.Machine.execRewrite m s
  | .serve m => Sys2Proof.Machine.execServe m s
  | .updateBegin m pkg => Sys2Proof.Machine.execUpdateBegin m pkg s
  | .updateCommit m => Sys2Proof.Machine.execUpdateCommit m s
  | .updateAbort m => Sys2Proof.Machine.execUpdateAbort m s
  | .testStart m freq vcore => Sys2Proof.Machine.execTestStart m freq vcore s
  | .debugUnlock m => Sys2Proof.Machine.execDebugUnlock m s
  | .debugUnlockResponse m => Sys2Proof.Machine.execDebugUnlockResponse m s
  | .debugLock m => Sys2Proof.Machine.execDebugLock m s
  | .deviceReset m => Sys2Proof.Machine.execDeviceReset m s
  | .pkProgram m => Sys2Proof.Machine.execPkProgram m s
  | .pkRevoke m => Sys2Proof.Machine.execPkRevoke m s
  | .seal m => Sys2Proof.Machine.execSeal m s
  | .challengeLapse => Sys2Proof.Machine.execChallengeLapse s
  | .unlockKeyWrite m w => Sys2Proof.Machine.execUnlockKeyWrite m w s
  | .unlockExpiry => Sys2Proof.Machine.execUnlockExpiry s
  | .tamperInput n low => Sys2Proof.Machine.execTamperInput n low s
  | .meshMismatch => Sys2Proof.Machine.execMeshMismatch s
  | .sensorTamper c => Sys2Proof.Machine.execSensorTamper c s
  | .runEn m => Sys2Proof.Machine.execRunEn m s
  | .stagedReleaseStep => Sys2Proof.Machine.execStagedReleaseStep s
  | .flashDiscovery x => Sys2Proof.Machine.execFlashDiscovery x s
  | .containerHeader hdr auth => Sys2Proof.Machine.execContainerHeader hdr auth s
  | .frame ws => Sys2Proof.Machine.execFrame ws s
  | .preload ws => Sys2Proof.Machine.execPreload ws s
  | .regw ws => Sys2Proof.Machine.execRegw ws s
  | .regfill ws => Sys2Proof.Machine.execRegfill ws s
  | .containerCheck ws => Sys2Proof.Machine.execContainerCheck ws s
  | .containerNop ws => Sys2Proof.Machine.execContainerNop ws s
  | .poll ws => Sys2Proof.Machine.execPoll ws s
  | .pollRead => Sys2Proof.Machine.execPollRead s
  | .containerEnd ws => Sys2Proof.Machine.execContainerEnd ws s
  | .containerSourceFail => Sys2Proof.Machine.execContainerSourceFail s
  | .cfgReq n data => Sys2Proof.Machine.execCfgReq n data s
  | .cfgData => Sys2Proof.Machine.execCfgData s
  | .cfgEnd => Sys2Proof.Machine.execCfgEnd s
  | .cfgNone => Sys2Proof.Machine.execCfgNone s
  | .cfgReqTimer => Sys2Proof.Machine.execCfgReqTimer s
  | .announce n => Sys2Proof.Machine.execAnnounce n s
  | .prologue n => Sys2Proof.Machine.execPrologue n s
  | .block n => Sys2Proof.Machine.execBlock n s
  | .need n => Sys2Proof.Machine.execNeed n s
  | .areaStaged ok => Sys2Proof.Machine.execAreaStaged ok s
  | .upStatus n => Sys2Proof.Machine.execUpStatus n s
  | .statusTimer => Sys2Proof.Machine.execStatusTimer s
  | .prepare n => Sys2Proof.Machine.execPrepare n s
  | .vote n ok => Sys2Proof.Machine.execVote n ok s
  | .voteTExpiry => Sys2Proof.Machine.execVoteTExpiry s
  | .upCommit n ok => Sys2Proof.Machine.execUpCommit n ok s
  | .abortPacket n => Sys2Proof.Machine.execAbortPacket n s
  | .actTime => Sys2Proof.Machine.execActTime s
  | .activate n => Sys2Proof.Machine.execActivate n s
  | .confirm n => Sys2Proof.Machine.execConfirm n s
  | .confirmTExpiry => Sys2Proof.Machine.execConfirmTExpiry s
  | .revert n => Sys2Proof.Machine.execRevert n s
  | .trialExpiry => Sys2Proof.Machine.execTrialExpiry s
  | .query n => Sys2Proof.Machine.execQuery n s
  | .queryTimer => Sys2Proof.Machine.execQueryTimer s
  | .answer n => Sys2Proof.Machine.execAnswer n s
  | .stageHandover m w => Sys2Proof.Machine.execStageHandover m w s
  | .setdataAccess m w => Sys2Proof.Machine.execSetdataAccess m w s
  | .save m => Sys2Proof.Machine.execSave m s
  | .tempSample ts => Sys2Proof.Machine.execTempSample ts s
  | .railSample mv settled => Sys2Proof.Machine.execRailSample mv settled s
  | .configScrubRead flips => Sys2Proof.Machine.execConfigScrubRead flips s
  | .repairComplete => Sys2Proof.Machine.execRepairComplete s
  | .scan m => Sys2Proof.Machine.execScan m s
  | .handback m p => Sys2Proof.Machine.execHandback m p s
  | .scrubStarved => Sys2Proof.Machine.execScrubStarved s
  | .dlCalibrationStart => Sys2Proof.Machine.execDlCalibrationStart s
  | .dlSwap last => Sys2Proof.Machine.execDlSwap last s
  | .dlForcedSwap p last => Sys2Proof.Machine.execDlForcedSwap p last s
  | .ident r => Sys2Proof.Machine.execIdent r s
  | .smbStatus r => Sys2Proof.Machine.execSmbStatus r s
  | .smbAddr r => Sys2Proof.Machine.execSmbAddr r s
  | .tempMax r => Sys2Proof.Machine.execTempMax r s
  | .tempSel x => Sys2Proof.Machine.execTempSel x s
  | .smbTemp r => Sys2Proof.Machine.execSmbTemp r s
  | .railSel x => Sys2Proof.Machine.execRailSel x s
  | .smbRail r => Sys2Proof.Machine.execSmbRail r s
  | .vcoreCmd r => Sys2Proof.Machine.execVcoreCmd r s
  | .icore r => Sys2Proof.Machine.execIcore r s
  | .paceMin r => Sys2Proof.Machine.execPaceMin r s
  | .paceReq r => Sys2Proof.Machine.execPaceReq r s
  | .errsum r => Sys2Proof.Machine.execErrsum r s
  | .logStat r => Sys2Proof.Machine.execLogStat r s
  | .logNext r corrupt => Sys2Proof.Machine.execLogNext r corrupt s
  | .logPeek r corrupt => Sys2Proof.Machine.execLogPeek r corrupt s
  | .alertStat r => Sys2Proof.Machine.execAlertStat r s
  | .alertClr w pec => Sys2Proof.Machine.execAlertClr w pec s
  | .alertMask x => Sys2Proof.Machine.execAlertMask x s
  | .alertResponseAddress won => Sys2Proof.Machine.execAlertResponseAddress won s
  | .smbSclTimeout => Sys2Proof.Machine.execSmbSclTimeout s
  | .enter m => Sys2Proof.Machine.execEnter m s
  | .dormantEntryStart => Sys2Proof.Machine.execDormantEntryStart s
  | .dormantEntryStop => Sys2Proof.Machine.execDormantEntryStop s
  | .waitTExpiry => Sys2Proof.Machine.execWaitTExpiry s
  | .wakeEvent w => Sys2Proof.Machine.execWakeEvent w s
  | .wakeComplete avs late ms ns => Sys2Proof.Machine.execWakeComplete avs late ms ns s
  | .testComplete fails obj addr => Sys2Proof.Machine.execTestComplete fails obj addr s
  | .tsCondLost c => Sys2Proof.Machine.execTsCondLost c s
  | .logWriteTick => Sys2Proof.Machine.execLogWriteTick s
  | .evRec0Read m corrupt => Sys2Proof.Machine.execEvRec0Read m corrupt s
  | .evCurWrite m c w => Sys2Proof.Machine.execEvCurWrite m c w s
  | .timerTick lfxo => Sys2Proof.Machine.execTimerTick lfxo s
  | .prbsCheck l line => Sys2Proof.Machine.execPrbsCheck l line s
  | .vbattOutOfRange => Sys2Proof.Machine.execVbattOutOfRange s
  | .perstNRelease => Sys2Proof.Machine.execPerstNRelease s
  | .msixTableAccess write off len w tag => Sys2Proof.Machine.execMsixTableAccess write off len w tag s
  | .vioRestored b vdet => Sys2Proof.Machine.execVioRestored b vdet s
  | .uiLineChange k p high => Sys2Proof.Machine.execUiLineChange k p high s
  | .arrayWindowAnswer data error => Sys2Proof.Machine.execArrayWindowAnswer data error s
  | .ghCommandEnd => Sys2Proof.Machine.execGhCommandEnd s
  | .smbReservedCommand code write => Sys2Proof.Machine.execSmbReservedCommand code write s

end Sys2Proof.Machine
end

