-- ==== Sys2Proof/Safety.lean ====
section
/-! DEFINITION. What a safe run is, in the terms the statements use: completing, the frame of a command, when a register
write is taken, and the hold of a reset. -/

namespace Sys2Proof.Machine

/-- The canonical form of everything sparse: cells, lists and memory have keys strictly rising. -/
def State.wf (s : State) : Prop :=
  Store.sorted s.cells = true ∧ Store.sorted s.lists = true ∧ Store.sorted s.mem = true

/-- A command that ends in a next state with a property. -/
def Answers (c : Instr) (s : State) (P : State → Prop) : Prop := ∃ t, exec c s = .next t ∧ P t

/-- The device is not in reset (R47). -/
def Awake (s : State) : Prop := s.get RESETTING = 0

/-- Everything but the cells, the outputs and the pending message bits: memories, FIFOs, the log and the queue. -/
def State.SameStores (s t : State) : Prop :=
  t.mem = s.mem ∧ t.lists = s.lists ∧ t.ring = s.ring ∧ t.intake = s.intake ∧ t.held = s.held ∧ t.pending = s.pending

/-- Every register field and internal cell but those at the keys keeps its value; the message bits of an interrupt
that a command raises (MSI_PEND) are output, not frame. -/
def State.SameCells (s t : State) (keys : List Nat) : Prop :=
  ∀ f i, f.key i ∉ keys → f.key i ≠ MSI_PEND.key 0 → t.get f i = s.get f i

/-- The frame of a command that writes the cells at `keys` and no memory, FIFO or log. -/
def State.Frame (s t : State) (keys : List Nat) : Prop := s.SameStores t ∧ s.SameCells t keys

/-- The places of element i of some fields. -/
def cellsAt (fs : List Field) (i : Nat := 0) : List Nat := fs.map fun f => f.key i

/-- The places of the elements below n of some fields. -/
def cellsUpTo (fs : List Field) (n : Nat) : List Nat := (List.range n).flatMap fun i => cellsAt fs i

/-- The places of list i of some families. -/
def listsAt (qs : List Fifo) (i : Nat := 0) : List Nat := qs.map fun q => q.key i

/-- The places of the lists below n of some families. -/
def listsUpTo (qs : List Fifo) (n : Nat) : List Nat := (List.range n).flatMap fun i => listsAt qs i

/-- What a refusal in a block writes (R792): its REFUSE register and GH_REFUSE. -/
def refuseCells (block : Nat) : List Nat :=
  cellsAt [refuseCode block, refuseObj block, GH_REFUSE.CODE, GH_REFUSE.OBJ]

/-- What a change of an event router source can reach (R311 to R316): the 176 destinations, and the pending counts and
the overrun flags of the event lines behind destinations 16 to 47. -/
def routeCells : List Nat :=
  cellsAt [FB_ELOVR_LO.OVR, FB_ELOVR_HI.OVR, FB_IRQ.EL_OVR] ++ cellsUpTo [EL_PEND] 32 ++
    cellsUpTo [RT_RAW, RT_LEFT, RT_VAL] 176

/-- What counting of timer t writes: the count, the values in effect, the match flags and the output levels. -/
def timerCells (t : Nat) : List Nat :=
  cellsAt [BT_CNT_LO.COUNT, BT_CNT_HI.COUNT, BT_STAT.CMF, BT_STAT.OCLVL, BT_STAT.WOKE, TOP_ACT] t ++
    (List.range 4).flatMap fun k => cellsAt [CMP_ACT] (4 * t + k)

/-- What an SMBus access that is violated writes (R760). -/
def smbCells : List Nat := cellsAt [BV_IRQ.SMB, BV_SMBSTAT.PECERR, BV_SMBSTAT.PROTO] ++ cellsUpTo [SMB_SEEN] 7

/-- The frame of a command that writes the cells at `keys` and raises records at most: the memories, the log's ring and
the queue are kept, and the records that wait for the log grow at the young end only (R797, R798). -/
def State.KeptBy (s t : State) (keys : List Nat) : Prop :=
  t.mem = s.mem ∧ t.ring = s.ring ∧ t.pending = s.pending ∧ s.intake <+: t.intake ∧ s.held <+: t.held ∧
    s.SameCells t (cellsAt [EV_DROP.COUNT, DROP_EPISODE] ++ keys)

/-- Every next state of the command leaves all but the cells at `keys`, all FIFOs, memories and the log. -/
def Silent (c : Instr) (s : State) (keys : List Nat) : Prop := ∀ t, exec c s = .next t → s.Frame t keys

/-- Every next state of the command leaves all but the cells at `keys` and what its records take. -/
def Kept (c : Instr) (s : State) (keys : List Nat) : Prop := ∀ t, exec c s = .next t → s.KeptBy t keys

/-- As `Kept`, and every FIFO and list but those at `lists` is left too. -/
def Logged (c : Instr) (s : State) (keys lists : List Nat) : Prop :=
  ∀ t, exec c s = .next t → s.KeptBy t keys ∧ ∀ q i, Fifo.key q i ∉ lists → t.list q i = s.list q i

/-- Every next state of the command leaves every word of every memory and the ring of the log. -/
def KeepsMemory (c : Instr) (s : State) : Prop := ∀ t, exec c s = .next t → t.mem = s.mem ∧ t.ring = s.ring

/-- A register write of this master at this offset is taken as it stands: the device is out of reset, the block answers
(R34), the identity is not denied (R653), no protected-register sequence is under way (R649) and no mirrored pair
diverts or journals it (R557). -/
def Writes (m : Master) (off : Nat) (s : State) : Prop :=
  Awake s ∧ s.answers m off = true ∧ s.denied m 1 = false ∧ s.secondary = false ∧ s.journaling = false ∧
    s.get UNL_LEFT m.code = 0

/-- A register write of this master at this offset is taken as it stands whatever a mirrored pair does: as `Writes`, at an
offset that no declaration covers (R557). -/
def WritesAlways (m : Master) (off : Nat) (s : State) : Prop :=
  Awake s ∧ s.answers m off = true ∧ s.denied m 1 = false ∧ s.declOf 1 off = none ∧ s.get UNL_LEFT m.code = 0

/-- A register read of this master at this offset is answered by the register itself (R34, R649, R653). -/
def Reads (m : Master) (off : Nat) (s : State) : Prop :=
  Awake s ∧ s.answers m off = true ∧ s.denied m 0 = false ∧ s.get UNL_LEFT m.code = 0

/-- A write of an operation to GH_CMD is accepted: the master holds the interface and every check of R628 passes. -/
def Issues (m : Master) (op : Nat) (s : State) : Prop :=
  Writes m 0x24 s ∧ s.get GH_CMDOWN.OWNER = m.code ∧ s.ghCheck m op = none

/-- The command at hand of the container that streams begins with the word `w` and belongs to row `op` (R677, R682): a
load or a rewrite is on, at its stream stage, and no POLL is in progress; `ws` are the words that host memory returned. -/
def Streams (op : Nat) (ws : List Word) (w : Nat) (s : State) : Prop :=
  Awake s ∧ (s.get CT_ON = 1 ∨ s.get CT_ON = 2) ∧ s.get GH_CFGSTAT.STAGE = stSTREAM ∧ s.get CT_PLEFT = 0 ∧
    s.ctPlain (ws.map BitVec.toNat) 0 = some w ∧ ctRow w = op

/-- What the stream check answers on that command (Table GH-16). -/
def Judged (ws : List Word) (s : State) : CtJudged := s.ctView.judge (s.ctPlain (ws.map BitVec.toNat))

/-- The state once the words `l` of that command are behind. -/
def Taken (ws : List Word) (l : List Nat) (s : State) : State := s.ctTake (ws.map BitVec.toNat) l

/-- The device is held in reset by a low DEV_RESET_N (R48): it is in reset, the pin is low, and no waiting command
raises it. -/
def HeldInReset (s : State) : Prop :=
  s.get RESETTING ≠ 0 ∧ s.get DEVRST_LOW = 1 ∧ Instr.devResetN false ∉ s.pending

end Sys2Proof.Machine
end

