-- ==== Sys2Proof/WellFormed.lean ====
section
/-! DEFINITION. Which commands the device can meet. Ranges of single operands are in their types; what bounds a list is
checked here: one entry for each meter (R69), sensor (R737) and rail (R739); a memory request of at most 1,024 DWORDs
(R467, R470); a completion of at most 4,096 bytes (R488); an I2C command of at most 255 bytes (R609); a packet whose
payload a 16-bit LEN can count (Table HX-3); a container header of 256 bytes at most (R682). -/

namespace Sys2Proof

/-- Well-formedness of a command. -/
def Instr.wf (i : Instr) : Bool :=
  match i with
  | .registerWrite .. => true
  | .pairLoRead .. => true
  | .pairLoWrite .. => true
  | .pairHiWrite .. => true
  | .fabricWindowAccess .. => true
  | .coldResetSource .. => true
  | .devResetN .. => true
  | .resetEnd .. => true
  | .endpointReset .. => true
  | .rdholdWrite .. => true
  | .domainReleaseSlot => true
  | .paceWindowEnd counts => decide (counts.length = 64)
  | .governorPeriod => true
  | .paceShort => true
  | .avsSettleEnd => true
  | .avsFrameDone .. => true
  | .avsStatusPoll => true
  | .govEn .. => true
  | .vsetWrite .. => true
  | .avsFaultClear .. => true
  | .fence .. => true
  | .plotQuiet .. => true
  | .drainTimeout .. => true
  | .release .. => true
  | .gateInboundRequest .. => true
  | .hedgeProtocolViolation .. => true
  | .drIllegalCode .. => true
  | .stallDetected .. => true
  | .eventLineToken .. => true
  | .eventLineDeliver .. => true
  | .fcmAccess .. => true
  | .memPortRead .. => true
  | .memPortWrite .. => true
  | .macOperation .. => true
  | .memIndirectRead .. => true
  | .memIndirectWrite .. => true
  | .memScrubAccess .. => true
  | .push .. => true
  | .qmOpen .. => true
  | .close .. => true
  | .qmAbort .. => true
  | .pop .. => true
  | .peek .. => true
  | .mark .. => true
  | .rewind .. => true
  | .qmRelease .. => true
  | .occ .. => true
  | .parkedOpRegrant .. => true
  | .queueEnable .. => true
  | .portBind .. => true
  | .windowPush .. => true
  | .windowPop .. => true
  | .jres .. => true
  | .storeScrubAccess => true
  | .refLoss .. => true
  | .refRestored .. => true
  | .ctlSel .. => true
  | .synGo .. => true
  | .synEn .. => true
  | .synLocked .. => true
  | .synLockTimeout .. => true
  | .synLockLost .. => true
  | .slewStep .. => true
  | .freqMeterGo .. => true
  | .freqMeterDone .. => true
  | .xpEnable .. => true
  | .xpArrayOffer .. => true
  | .xpArrayAck .. => true
  | .xpIslandPut .. => true
  | .xpIslandTake .. => true
  | .xpIslandAnswer .. => true
  | .pacedPairMove .. => true
  | .xpTimeout .. => true
  | .xpPortReset .. => true
  | .xpResync .. => true
  | .tbEn .. => true
  | .epochArm .. => true
  | .epochLoad .. => true
  | .adjStep .. => true
  | .adjSlew .. => true
  | .slewDone => true
  | .tnowRead .. => true
  | .tagEdge .. => true
  | .ttdat0Read .. => true
  | .ttCalibrationStart .. => true
  | .ttCalibrationEnd .. => true
  | .ttStale .. => true
  | .cueCommandPush .. => true
  | .cueFire .. => true
  | .cueLate .. => true
  | .pulseEnd .. => true
  | .bsUnitEnable .. => true
  | .softTrigger .. => true
  | .routerSourceEdge .. => true
  | .stretchEnd .. => true
  | .lbtArm .. => true
  | .lbtCapture .. => true
  | .lfxoEdgeDormant => true
  | .timerClaim .. => true
  | .timerRelease .. => true
  | .timerEnable .. => true
  | .timerRun .. => true
  | .btGo .. => true
  | .countLoad .. => true
  | .snapshot .. => true
  | .timerOverflow .. => true
  | .compareMatch .. => true
  | .triggerEdge .. => true
  | .capture .. => true
  | .capLoRead .. => true
  | .contextEnable .. => true
  | .jobFetch .. => true
  | .sliceEnd => true
  | .preemptionPoint => true
  | .contextInputReady .. => true
  | .contextOutputReady .. => true
  | .jobEnd => true
  | .jobAbort .. => true
  | .contextResume .. => true
  | .wsIndirectRead .. => true
  | .wsIndirectWrite .. => true
  | .bankEnable .. => true
  | .vioLost .. => true
  | .pinEnable .. => true
  | .renew .. => true
  | .serGroupEnable .. => true
  | .bitslip .. => true
  | .qpllGo .. => true
  | .qpllLocked .. => true
  | .slQpllLockTimeout .. => true
  | .slQpllLost .. => true
  | .laneEnable .. => true
  | .cdrLockChange .. => true
  | .alignChange .. => true
  | .laneRst .. => true
  | .laneMark .. => true
  | .laneTestWrite .. => true
  | .inj .. => true
  | .eyeScanGo .. => true
  | .eyeScanDone .. => true
  | .configRequest .. => true
  | .bar0Request (.write _ more) _ _ _ => decide (more.length < 1024)
  | .bar0Request (.read _ _) _ _ _ => true
  | .bar2Write _ _ _ _ _ more => decide (more.length < 512)
  | .bar2Read .. => true
  | .tailDoorbell .. => true
  | .pushDoorbell .. => true
  | .readGuardExpiry .. => true
  | .writeGuardExpiry .. => true
  | .channelEnable .. => true
  | .dmaTurn => true
  | .dmaCompletion _ _ data => decide (data.length ≤ 4096)
  | .descriptorComplete .. => true
  | .pxCplTimeout .. => true
  | .flushTimeout .. => true
  | .dstateChange .. => true
  | .aspmL1Change .. => true
  | .linkUp .. => true
  | .linkDown => true
  | .hostViolationTlp .. => true
  | .hxPortEnable .. => true
  | .blockLock .. => true
  | .blockLockLost .. => true
  | .hxAlign .. => true
  | .hxInit .. => true
  | .wakeTExpiry .. => true
  | .retrain .. => true
  | .echo .. => true
  | .packetReceive _ (.packet _ _ payload _) => decide (payload.length < 65536)
  | .packetReceive _ .reservedBlock => true
  | .packetReceive _ .strayData => true
  | .packetReceive _ .earlySop => true
  | .packetSend .. => true
  | .ack .. => true
  | .ackTimer .. => true
  | .replayTimeout .. => true
  | .credit .. => true
  | .sleep .. => true
  | .advertTimer => true
  | .advert .. => true
  | .electTExpiry => true
  | .joinTimer => true
  | .join .. => true
  | .assign .. => true
  | .routeTimer => true
  | .route .. => true
  | .outboundToken .. => true
  | .inboundTokenAck .. => true
  | .tokens .. => true
  | .channelCredit .. => true
  | .channelOpen .. => true
  | .openTimer .. => true
  | .creditReturnTimer .. => true
  | .probeTimer .. => true
  | .probe .. => true
  | .probeReply .. => true
  | .break .. => true
  | .endpointEnable .. => true
  | .channelPortEnable .. => true
  | .csrRequest .. => true
  | .readResp .. => true
  | .writeAck .. => true
  | .csrWriteLost .. => true
  | .timeExchangePeriod .. => true
  | .sync .. => true
  | .follow .. => true
  | .dreq .. => true
  | .dresp .. => true
  | .miEnable .. => true
  | .heartbeatTimer => true
  | .heartbeat => true
  | .pairTExpiry => true
  | .heartbeatMiss => true
  | .epochClose => true
  | .journal => true
  | .epochAck => true
  | .handover .. => true
  | .handoverPacket => true
  | .resync .. => true
  | .disband .. => true
  | .witnessClaim .. => true
  | .witnessRenew .. => true
  | .leaseLost => true
  | .instruction .. => true
  | .machineTimer => true
  | .coreRun .. => true
  | .lgMemdataAccess .. => true
  | .arrayWindowGuard .. => true
  | .icclaimRead .. => true
  | .icclaimWrite .. => true
  | .peripheralEnable .. => true
  | .uartTxPush .. => true
  | .uartRxPop .. => true
  | .uartFrameReceived .. => true
  | .uartFrameSent .. => true
  | .spiCommand .. => true
  | .spiByteDone .. => true
  | .spiDataAccess .. => true
  | .i2cCommand .. => true
  | .i2cCommandDone _ (.served data _) => decide (data.length < 256)
  | .i2cCommandDone _ (.nack _) => true
  | .i2cCommandDone _ .arbLost => true
  | .i2cTimeout .. => true
  | .i2cAlert .. => true
  | .i2cDataAccess .. => true
  | .gpioEdge .. => true
  | .gpioSetClear .. => true
  | .watchdogEnable .. => true
  | .watchdogKick .. => true
  | .watchdogExpiry => true
  | .h2lRing .. => true
  | .l2hRing .. => true
  | .mailboxClear .. => true
  | .tapInstruction .. => true
  | .tapReset => true
  | .dmiAccess .. => true
  | .systemBusAccess => true
  | .dmcustom0Write .. => true
  | .xtInEdge => true
  | .halt => true
  | .resume => true
  | .ghdbg .. => true
  | .cmdClaim .. => true
  | .cmdRelease .. => true
  | .cmdInterfaceTimeout => true
  | .keyWrite .. => true
  | .keyErase .. => true
  | .keyWrap .. => true
  | .zeroize .. => true
  | .loadStart .. => true
  | .rewrite .. => true
  | .serve .. => true
  | .updateBegin .. => true
  | .updateCommit .. => true
  | .updateAbort .. => true
  | .testStart .. => true
  | .debugUnlock .. => true
  | .debugUnlockResponse .. => true
  | .debugLock .. => true
  | .deviceReset .. => true
  | .pkProgram .. => true
  | .pkRevoke .. => true
  | .seal .. => true
  | .challengeLapse => true
  | .unlockKeyWrite .. => true
  | .unlockExpiry => true
  | .tamperInput .. => true
  | .meshMismatch => true
  | .sensorTamper .. => true
  | .runEn .. => true
  | .stagedReleaseStep => true
  | .flashDiscovery .. => true
  | .containerHeader hdr _ => decide (hdr.length ≤ 256)
  | .frame .. => true
  | .preload .. => true
  | .regw .. => true
  | .regfill .. => true
  | .containerCheck .. => true
  | .containerNop .. => true
  | .poll .. => true
  | .pollRead => true
  | .containerEnd .. => true
  | .containerSourceFail => true
  | .cfgReq .. => true
  | .cfgData => true
  | .cfgEnd => true
  | .cfgNone => true
  | .cfgReqTimer => true
  | .announce .. => true
  | .prologue .. => true
  | .block .. => true
  | .need .. => true
  | .areaStaged .. => true
  | .upStatus .. => true
  | .statusTimer => true
  | .prepare .. => true
  | .vote .. => true
  | .voteTExpiry => true
  | .upCommit .. => true
  | .abortPacket .. => true
  | .actTime => true
  | .activate .. => true
  | .confirm .. => true
  | .confirmTExpiry => true
  | .revert .. => true
  | .trialExpiry => true
  | .query .. => true
  | .queryTimer => true
  | .answer .. => true
  | .stageHandover .. => true
  | .setdataAccess .. => true
  | .save .. => true
  | .tempSample ts => decide (ts.length = 16)
  | .railSample mv _ => decide (mv.length = 7)
  | .configScrubRead .. => true
  | .repairComplete => true
  | .scan .. => true
  | .handback .. => true
  | .scrubStarved => true
  | .dlCalibrationStart => true
  | .dlSwap .. => true
  | .dlForcedSwap .. => true
  | .ident .. => true
  | .smbStatus .. => true
  | .smbAddr .. => true
  | .tempMax .. => true
  | .tempSel .. => true
  | .smbTemp .. => true
  | .railSel .. => true
  | .smbRail .. => true
  | .vcoreCmd .. => true
  | .icore .. => true
  | .paceMin .. => true
  | .paceReq .. => true
  | .errsum .. => true
  | .logStat .. => true
  | .logNext .. => true
  | .logPeek .. => true
  | .alertStat .. => true
  | .alertClr .. => true
  | .alertMask .. => true
  | .alertResponseAddress .. => true
  | .smbSclTimeout => true
  | .enter .. => true
  | .dormantEntryStart => true
  | .dormantEntryStop => true
  | .waitTExpiry => true
  | .wakeEvent .. => true
  | .wakeComplete .. => true
  | .testComplete .. => true
  | .tsCondLost .. => true
  | .logWriteTick => true
  | .evRec0Read .. => true
  | .evCurWrite .. => true
  | .timerTick .. => true
  | .prbsCheck .. => true
  | .vbattOutOfRange => true
  | .perstNRelease => true
  | .msixTableAccess .. => true
  | .vioRestored .. => true
  | .uiLineChange .. => true
  | .arrayWindowAnswer .. => true
  | .ghCommandEnd => true
  | .smbReservedCommand .. => true

end Sys2Proof
end

