-- ==== Sys2Proof/Certificates/Slice0/Obligations.lean ====
section
/-! DEFINITION. The statements about the block, from the numbered rules of spec/. -/

open Sys2Proof Sys2Proof.Machine

/-- For every state whose queue is a command c followed by rest, step is exec of c on the state with rest as its queue:
a command runs alone, whole and in the order of arrival. A step on an empty queue answers the same state, and a
command put behind the waiting ones does not change which one the next step runs. That time does not pass on an
empty queue is the model's choice (log entry 3). (spec/01_device_map.md How the subsystems work together,
spec/95_what_each_step_holds.md.) -/
def Obligations.StepRunsFrontCommand : Prop :=
  (∀ (s : State) (c : Instr) (rest : List Instr), s.pending = c :: rest → step s = exec c { s with pending := rest }) ∧
  ((∀ s : State, s.pending = [] → step s = .next s) ∧
  ∀ (s : State) (c d : Instr) (rest : List Instr), s.pending = c :: rest →
    step { s with pending := s.pending ++ [d] } = exec c { s with pending := rest ++ [d] })

/-- For every command c that is well formed and every state s, exec c s is a next state: no command of the device ends
in a fault or a refusal, whatever the operands, the mode and the state. What the next state holds is said command by
command below. PACE_WINDOW_END with a list of other than 64 counts, TEMP_SAMPLE with other than 16 samples and
RAIL_SAMPLE with other than 7 stop with the fault that names them, and they are exactly the commands that are not
well formed and stop; this is the model's boundary, not a happening on the device. Where it rests on the model's own
readings: log entries 19 and 20. (spec/95_what_each_step_holds.md, spec/01_device_map.md When the device resets,
spec/02_pace_and_voltage.md R69, spec/20_upkeep_and_telemetry.md R737 R739.) -/
def Obligations.WellFormedCommandsComplete : Prop :=
  (∀ (c : Instr) (s : State), c.wf = true → ∃ t, exec c s = .next t) ∧
  (∀ s : State,
    (∀ counts, counts.length ≠ 64 → exec (.paceWindowEnd counts) s = .fault (.noSuchCommand "PACE_WINDOW_END")) ∧
    (∀ ts, ts.length ≠ 16 → exec (.tempSample ts) s = .fault (.noSuchCommand "TEMP_SAMPLE")) ∧
    (∀ mv settled, mv.length ≠ 7 → exec (.railSample mv settled) s = .fault (.noSuchCommand "RAIL_SAMPLE")) ∧
    (∀ c f, exec c s = .fault f → c.wf = false))

/-- HeldInReset says that the device is in reset, that DEV_RESET_N is low and that no waiting command raises it. From
every state that meets it, whatever command is at the front, a step answers a state that meets it: neither the
reset's own end, nor a cold source, a tamper, a wake, a pin of the endpoint or any other command leaves the reset
while the pin is low. (The 1 µs minimum and the glitch filter are carried by the rows RESET_END and DEV_RESET_N.)
Where it rests on the model's own readings: log entries 63 and 64. (R48, R47, spec/01_device_map.md When the device
resets.) -/
def Obligations.HeldInResetIsInvariant : Prop :=
  ∀ s t : State, HeldInReset s → step s = .next t → HeldInReset t

/-- From every state in which no waiting command raises the pin, DEV_RESET_N low answers a next state that is
HeldInReset; outside a cold reset PW_RSTCAUSE bit 1 is set in it. With the pin low, or with no reset in progress,
RESET_END changes nothing, and a high pin only records its level. While a reset is in progress, every well-formed
command other than a cold source, DEV_RESET_N, the endpoint's pin, a tamper input, the battery and the reset's own
end leaves the whole state as it is. Where it rests on the model's own readings: log entries 63 and 64. (R48, R47,
Table DV-13.) -/
def Obligations.ResetHoldsTheDevice : Prop :=
  ((∀ s : State, Instr.devResetN false ∉ s.pending → Answers (.devResetN true) s HeldInReset) ∧
  (∀ s : State, s.get RESETTING ≠ 2 → Answers (.devResetN true) s fun t => bit (t.get PW_RSTCAUSE.CAUSE) 1 = true) ∧
  (∀ (s : State) (pins : BitVec 3), s.get DEVRST_LOW = 1 ∨ Awake s → exec (.resetEnd pins) s = .next s) ∧
  (∀ s : State, exec (.devResetN false) s = .next (s.put DEVRST_LOW 0))) ∧
  (∀ (c : Instr) (s : State), ¬Awake s → c.wf = true →
    (∀ v, c ≠ .coldResetSource v) → (∀ l, c ≠ .devResetN l) → (∀ p, c ≠ .endpointReset p) → c ≠ .perstNRelease →
    (∀ n l, c ≠ .tamperInput n l) → c ≠ .vbattOutOfRange → (∀ p, c ≠ .resetEnd p) → exec c s = .next s)

/-- Out of reset, REGISTER_WRITE, PAIR_LO_WRITE and PAIR_HI_WRITE answer the bus write of the aligned offset, and
PAIR_LO_READ answers the bus read and returns its value to the master. A block that does not answer discards a write
and reads 0; an identity that GH_ACCESS denies is counted in GH_DENYCNT, sets GH_IRQ.DENIED and reads 0 outside the
GH range. Where it rests on the model's own readings: log entries 23 and 31. (R18, R19, R34, R36, R653.) -/
def Obligations.ControlBusCommandsAnswer : Prop :=
  ∀ (s : State) (m : Master) (off : BitVec 20), Awake s →
    (∀ w : Word, exec (.registerWrite m off w) s = run s (busWrite m (off.toNat - off.toNat % 4) w.toNat s)) ∧
    (∀ w : Word, exec (.pairLoWrite m off w) s = run s (busWrite m (off.toNat - off.toNat % 4) w.toNat s)) ∧
    (∀ w : Word, exec (.pairHiWrite m off w) s = run s (busWrite m (off.toNat - off.toNat % 4) w.toNat s)) ∧
    exec (.pairLoRead m off) s =
      run s ((busRead m off.toNat s).2.emit .busData [m.code, (busRead m off.toNat s).1]) ∧
    (∀ (w : Nat) (k : State → State), s.get UNL_LEFT m.code = 0 → s.answers m off.toNat = false →
      s.onWrite m off.toNat w k = s) ∧
    (∀ k : State → Nat × State, s.get UNL_LEFT m.code = 0 → s.answers m off.toNat = false →
      s.onRead m off.toNat k = (0, s)) ∧
    (∀ (w : Nat) (k : State → State), s.get UNL_LEFT m.code = 0 → s.answers m off.toNat = true →
      s.denied m 1 = true →
      (s.onWrite m off.toNat w k).get GH_DENYCNT.COUNT = min (s.get GH_DENYCNT.COUNT + 1) (2 ^ 16 - 1) ∧
        (s.onWrite m off.toNat w k).get GH_IRQ.DENIED = 1)

/-- For a field of a register and a written word: RW takes its bits unless they are a reserved encoding, W1C clears what
a 1 names and a counter is cleared whole, RWL takes its bits only unlocked, RWO only from the owner, RO and WO keep
their value. A write of PW_RSTCFG stores its field. A write of LG_MTIMECMP_LO is held and changes nothing; the write
of LG_MTIMECMP_HI makes both halves take effect and empties the hold. Where it rests on the model's own readings:
log entries 23 and 25. (R19, R21, R22, R651, R652.) -/
def Obligations.RegisterWritesFollowAccessCodes : Prop :=
  (∀ (s : State) (f : Field) (i w : Nat) (un own : Bool),
    (f.acc = .rw → (s.writeField f i w un own).get f i =
      if f.accepts (bits w f.lo f.width) then bits w f.lo f.width else s.get f i) ∧
    (f.acc = .rwl → (s.writeField f i w un own).get f i =
      if un && f.accepts (bits w f.lo f.width) then bits w f.lo f.width else s.get f i) ∧
    (f.acc = .rwo → (s.writeField f i w un own).get f i =
      if own && f.accepts (bits w f.lo f.width) then bits w f.lo f.width else s.get f i) ∧
    (f.acc = .w1cAny → (s.writeField f i w un own).get f i =
      if bits w f.lo f.width ≠ 0 then 0 else s.get f i) ∧
    (f.acc = .w1c → s.get f i < 2 ^ f.width → (s.writeField f i w un own).get f i =
      s.get f i - (s.get f i &&& bits w f.lo f.width)) ∧
    (f.acc = .ro ∨ f.acc = .wo → s.writeField f i w un own = s)) ∧
  (∀ (s : State) (m : Master) (w : Word), Writes m 0x18 s →
    Answers (.registerWrite m 0x18 w) s fun t => t.get GH_IE.IE = w.toNat % 2 ^ 7) ∧
  (∀ (s : State) (m : Master) (w : Word), Writes m 0x32608 s →
    Answers (.pairLoWrite m 0x32608 w) s fun t => t.heldLow m 0x32608 = some w.toNat ∧
      t.get LG_MTIMECMP_LO.CMP = s.get LG_MTIMECMP_LO.CMP ∧ t.get LG_MTIMECMP_HI.CMP = s.get LG_MTIMECMP_HI.CMP) ∧
  (∀ (s : State) (m : Master) (v w : Word), Writes m 0x3260C s → s.heldLow m 0x32608 = some v.toNat →
    Answers (.pairHiWrite m 0x3260C w) s fun t => t.heldLow m 0x32608 = none ∧
      t.get LG_MTIMECMP_LO.CMP = v.toNat ∧ t.get LG_MTIMECMP_HI.CMP = w.toNat)

/-- A cold source puts the device in cold reset with PW_RSTCAUSE bit 0 alone, the log empty, and the command queue
unchanged. RESET_END with the pin high answers a state out of reset whose mode is LOAD for MODE pins 0 to 3 and
RESCUE for 4 to 7 when no battery zeroise is owed and no self-test was cut, with the pins latched. An endpoint reset
by PERST_N records the pin. PW_RDHOLD takes the written domains, and DOMAIN_RELEASE_SLOT outside RUN changes nothing
but what it delivers; in RUN it releases the lowest waiting domain. Where it rests on the model's own readings: log
entry 64. (R47, R48, R50, R53, R54, R55, R56, R494, R667, Table DV-13, Table DV-14.) -/
def Obligations.ResetCommandsTakeEffect : Prop :=
  (∀ (s : State) (v : Bool), Answers (.coldResetSource v) s fun t =>
    t.get RESETTING = 2 ∧ t.get PW_RSTCAUSE.CAUSE = 1 ∧ t.ring = [] ∧ t.intake = [] ∧ t.lists = [] ∧
      t.pending = s.pending ∧ (v = true → t.get VAUX_LOW = 1)) ∧
  (∀ (s : State) (pins : BitVec 3), ¬Awake s → s.get DEVRST_LOW = 0 → s.get BATT_ZERO = 0 → s.get TEST_FAILED = 0 →
    ∃ u : State, exec (.resetEnd pins) s = .next u.powerUp ∧ u.get RESETTING = 0 ∧ u.get MODE_PINS = pins.toNat ∧
      u.mode = (if pins.toNat < 4 then mLOAD else mRESCUE)) ∧
  (∀ s : State, ¬Awake s → exec (.endpointReset true) s = .next (s.put PX_PERST 1)) ∧
  (∀ s : State, Awake s → exec (.endpointReset true) s = run s ((s.put PX_PERST 1).pxEvent 4)) ∧
  (∀ s : State, Awake s → s.mode ≠ mDORMANT → exec .perstNRelease s = run s (s.put PX_PERST 0).pxTrain) ∧
  (∀ (s : State) (m : Master) (w : Word), Writes m 0x100C s → s.mode = mLOAD → s.get PW_MODE.BUSY = 0 →
    Answers (.rdholdWrite m w) s fun t => t.get PW_RDHOLD.HOLD = w.toNat % 2 ^ 16) ∧
  (∀ s : State, Awake s → s.mode = mRUN → exec .domainReleaseSlot s = run s s.releaseNext) ∧
  (∀ s : State, Awake s → s.mode ≠ mRUN → exec .domainReleaseSlot s = run s s)

/-- While the governor runs, with MINIDX below target at VNOW = VMAX and SHORT not set, the end of SHORT_T answers a
state in which PW_GOVSTAT.SHORT is 1, PW_GOVSTAT.STATE is CEILING (2), PW_GOVIRQ.SHORT_SEEN is 1 and, with room in
the intake queue, the record PW_PACE_SHORT with the slowest governed meter as object and its index in detail [11:0]
is the youngest in the intake queue. Where the pace is not short, nothing changes but what is delivered. (R80.) -/
def Obligations.PaceShortIsReported : Prop :=
  ∀ (s : State) (p : Nat), Awake s → s.slowest = some p → s.governing = true →
    (s.minIndex < s.paceTarget → s.get PW_GOVSTAT.VNOW = s.get PW_GOVLIM.VMAX → s.flag PW_GOVSTAT.SHORT = false →
      s.intake.length < 64 →
      Answers .paceShort s fun t => t.get PW_GOVSTAT.SHORT = 1 ∧ t.get PW_GOVSTAT.STATE = 2 ∧
        t.get PW_GOVIRQ.SHORT_SEEN = 1 ∧
        t.intake = s.intake ++ [s.record Rc.PW_PACE_SHORT p (s.get PW_METER.INDEX p % 2 ^ 12)]) ∧
    (s.paceTarget ≤ s.minIndex → exec .paceShort s = run s s)

/-- A window's end gives each meter its index. A governor period with VNOW below VMIN, no commit in progress and the bus
free commits one STEP up. The end of SETTLE sends the voltage read. A good answer to a voltage write makes VNOW the
target. The poll sends a status read. A write that sets GOV_EN with the checks passed starts the governor, one that
clears it on a stopped bus copies VNOW into VSET; a write to PW_VSET with GOV_EN 0 stores it, and with GOV_EN 1 is
ignored; clearing AVS_FAULT in FROZEN leaves FROZEN with a voltage read. Where it rests on the model's own readings:
log entries 37 and 38. (R69, R72, R73, R74, R75, R76, R77, R84, R86, R87, R89, R91.) -/
def Obligations.GovernorCommandsAct : Prop :=
  ∀ s : State, Awake s →
    (∀ (counts : List Nat) (p : Nat), counts.length = 64 → p < 64 → s.mode = mHOLD → s.get METER_OOR p = 0 →
      s.get PW_GOVCTL.GOV_EN = 0 →
      Answers (.paceWindowEnd counts) s fun t =>
        t.get PW_METER.INDEX p = min 4095 (counts.getD p 0 * s.get METER_GAIN p / 65536) ∧
        t.get PW_METER.VALID p = 1 ∧ t.get PW_GOVSTAT.VNOW = s.get PW_GOVSTAT.VNOW) ∧
    (s.governing = true → s.get PW_GOVSTAT.SHORT = 0 → s.get AVS_PHASE = 0 → s.get PW_AVSSTAT.ABSENT = 0 →
      s.get PW_GOVSTAT.VNOW < s.get PW_GOVLIM.VMIN →
      Answers .governorPeriod s fun t => t.get AVS_PHASE = 1 ∧
        t.get AVS_TARGET = min (s.get PW_GOVSTAT.VNOW + s.get PW_GOVLIM.STEP) (s.get PW_GOVLIM.VMIN) % 2 ^ 10) ∧
    (s.get AVS_PHASE = 2 → s.get BV_DLSTAT.BUSY = 0 → Answers .avsSettleEnd s fun t => t.get AVS_PHASE = 3) ∧
    (∀ v, s.get AVS_PHASE = 1 → s.get AVS_TARGET < 2 ^ 10 → Answers (.avsFrameDone (.good v)) s fun t =>
      t.get PW_GOVSTAT.VNOW = s.get AVS_TARGET ∧ t.get AVS_PHASE = 2) ∧
    (s.get AVS_PHASE = 0 → s.get PW_AVSSTAT.ABSENT = 0 → s.get PW_GOVSTAT.STATE = 0 → s.mode = mRUN →
      Answers .avsStatusPoll s fun t => t.get AVS_PHASE = 7) ∧
    (∀ (m : Master) (w : Word), Writes m 0x1100 s → s.get PW_GOVCTL.GOV_EN = 0 → w.toNat % 2 = 1 →
      (s.writeReg m PW_GOVCTL.reg 0 w.toNat).govCheck = none →
      Answers (.govEn m w) s fun t => t.get PW_GOVCTL.GOV_EN = 1 ∧ t.get PW_GOVSTAT.STATE = 1) ∧
    (∀ (m : Master) (w : Word), Writes m 0x1100 s → s.get PW_GOVCTL.GOV_EN = 1 → w.toNat % 2 = 0 → s.get AVS_PHASE = 0 →
      s.get PW_GOVSTAT.STATE = 1 → s.get PW_GOVSTAT.VNOW < 2 ^ 10 →
      Answers (.govEn m w) s fun t => t.get PW_GOVCTL.GOV_EN = 0 ∧ t.get PW_GOVSTAT.STATE = 0 ∧
        t.get PW_VSET.VSET = s.get PW_GOVSTAT.VNOW ∧ t.get PW_GOVSTAT.VNOW = s.get PW_GOVSTAT.VNOW) ∧
    (∀ (m : Master) (w : Word), Writes m 0x1110 s → s.get PW_GOVCTL.GOV_EN = 0 → 600 ≤ w.toNat % 1024 →
      w.toNat % 1024 ≤ 950 → Answers (.vsetWrite m w) s fun t => t.get PW_VSET.VSET = w.toNat % 1024) ∧
    (∀ (m : Master) (w : Word), Writes m 0x1110 s → s.get PW_GOVCTL.GOV_EN = 1 →
      Answers (.vsetWrite m w) s fun t => t.get PW_VSET.VSET = s.get PW_VSET.VSET) ∧
    (∀ (m : Master) (w : Word), Writes m 0x111C s → bit w.toNat 1 = true → s.get PW_GOVSTAT.STATE = 3 →
      Answers (.avsFaultClear m w) s fun t => t.get PW_GOVSTAT.STATE ≠ 3 ∧ t.get PW_GOVIRQ.AVS_FAULT = 0 ∧
        t.get AVS_PHASE = 6)

/-- FENCE of a LIVE plot in HOLD or RUN makes it FENCING under the user; the fourth quiet sample and the drain's end
leave any plot that is not FENCING as it is, and a quiet FENCING plot ends its fence; RELEASE of a plot that passes
its checks makes it LIVE without a holder. In RUN a request at a gate that is not LIVE is held with SINK 0 and, once
FENCED, counted with SINK 1. A stall is shown once. An event-line token adds one to a pending count below 255, a
delivery takes one away. A user line follows its cell while the plot is LIVE and holds its level otherwise. In RUN a
protocol violation adds one to FB_PERR[p].PROTO and an illegal code to FB_PERR[p].ILLEGAL, each up to saturation;
FB_PSTAT[p].ERR and FB_IRQ.HEDGE_ERR become 1, the record with wire, class, direction and edge is the youngest of
the intake queue, and no other cell, no memory and no FIFO changes. What the gate holds back on its wires is the
array's. (R109, R110, R111, R117, R118, R120, R121, R123, R124, R125, R126, R127.) -/
def Obligations.PlotCommandsTakeEffect : Prop :=
  (∀ s : State, Awake s →
    (∀ (m : Master) (p : Fin 64) (w : Word), Writes m (0x41000 + 0x10 * p) s → s.mode = mRUN →
      s.get FB_PSTAT.STATE p = pLIVE →
      Answers (.fence m p w) s fun t => t.get FB_PSTAT.STATE p = pFENCING ∧ t.get FB_PSTAT.HOLDER p = hUSER) ∧
    (∀ p : Fin 64, s.get FB_PSTAT.STATE p ≠ pFENCING → exec (.plotQuiet p) s = run s s) ∧
    (∀ p : Fin 64, s.get FB_PSTAT.STATE p = pFENCING → exec (.plotQuiet p) s = run s ((s.fenced p).fenceDone p)) ∧
    (∀ p : Fin 64, (s.fenced p).get FB_PSTAT.STATE p = pFENCED ∧
      (s.fenced p).get FB_PSTAT.HOLDER p = s.get FB_PSTAT.HOLDER p % 8 ∧ (s.fenced p).get FB_IRQ.DONE = 1) ∧
    (∀ (p : Fin 64) (d : BitVec 16), s.get FB_PSTAT.STATE p = pFENCING → s.get FENCE_FORCE p = 1 →
      exec (.drainTimeout p d) s = run s (((s.xpForce p).forced p d.toNat).fenceDone p)) ∧
    (∀ (p : Fin 64) (d : BitVec 16), s.get FB_PSTAT.STATE p = pFENCING → s.get FENCE_FORCE p = 0 →
      s.get FB_PSTAT.HOLDER p = hUSER →
      exec (.drainTimeout p d) s = run s (((s.unfence p).refuseBy 0x0F Rc.FB_DRAIN_TIMEOUT p
        (0x41000 + 0x10 * p.val + 2 ^ 20 * s.get FENCE_BY p)).put FB_IRQ.DRAIN_TO 1)) ∧
    (∀ (m : Master) (p : Fin 64) (w : Word), Writes m (0x41000 + 0x10 * p) s →
      (s.writeReg m FB_PCTL.reg p (w.toNat - bits w.toNat 0 2 + 2)).plotCheck p 2 = none →
      exec (.release m p w) s = run s (((((s.writeReg m FB_PCTL.reg p (w.toNat - bits w.toNat 0 2 + 2)).unfence p).raise
        Rc.FB_RELEASED p).put FB_IRQ.DONE 1).resend s (0x41000 + 0x10 * p) (w.toNat - bits w.toNat 0 2 + 2))) ∧
    (∀ (p : Fin 64) (started : Bool), s.mode = mRUN → s.get FB_PSTAT.STATE p = pFENCED → s.get FB_PCTL.SINK p = 0 →
      s.get GATE_HELD p < 2 ^ 16 - 1 →
      Answers (.gateInboundRequest p started) s fun t =>
        t.get GATE_HELD p = s.get GATE_HELD p + 1 ∧ t.get FB_PSTAT.HOLDING p = 1) ∧
    (∀ (p : Fin 64) (started : Bool), s.mode = mRUN → s.get FB_PSTAT.STATE p = pFENCED → s.get FB_PCTL.SINK p = 1 →
      Answers (.gateInboundRequest p started) s fun t =>
        t.get FB_PCNT.SINKED p = min (s.get FB_PCNT.SINKED p + 1) (2 ^ 16 - 1)) ∧
    (∀ p : Fin 64, s.mode = mRUN → s.get FB_PSTAT.STATE p = pLIVE → s.get FB_PCTL.STALL_EN p = 1 →
      s.get STALLED p = 0 → Answers (.stallDetected p) s fun t => t.get FB_IRQ.STALL = 1 ∧ t.get STALLED p = 1) ∧
    (∀ l : Fin 64, s.mode = mRUN ∨ s.mode = mHOLD → s.get EL_PEND l < 255 →
      Answers (.eventLineToken l) s fun t => t.get EL_PEND l = s.get EL_PEND l + 1) ∧
    (∀ l : Fin 64, s.mode = mRUN ∨ s.mode = mHOLD → 0 < s.get EL_PEND l → s.get EL_PEND l < 256 →
      Answers (.eventLineDeliver l) s fun t => t.get EL_PEND l = s.get EL_PEND l - 1) ∧
    (∀ (k : Fin 16) (p : Fin 64) (high : Bool), s.mode = mRUN → s.get FB_PSTAT.STATE p = pLIVE →
      Answers (.uiLineChange k p high) s fun t => t.get UI_LINE k = b2n high) ∧
    (∀ (k : Fin 16) (p : Fin 64) (high : Bool), s.mode = mRUN → s.get FB_PSTAT.STATE p ≠ pLIVE →
      Answers (.uiLineChange k p high) s fun t => t.get UI_LINE k = s.get UI_LINE k)) ∧
  (∀ (s : State) (p : Fin 64) (wire : BitVec 6) (avenue inbound : Bool) (side : BitVec 2), Awake s → s.mode = mRUN →
    s.intake.length < 64 →
    (Answers (.hedgeProtocolViolation p wire avenue inbound side) s fun t =>
      t.get FB_PERR.PROTO p = min (s.get FB_PERR.PROTO p + 1) (2 ^ 16 - 1) ∧ t.get FB_PSTAT.ERR p = 1 ∧
      t.get FB_IRQ.HEDGE_ERR = 1 ∧
      t.intake = s.intake ++ [s.record Rc.FB_HEDGE_PROTO p
        (wire.toNat + 64 * b2n avenue + 128 * b2n inbound + 256 * side.toNat)] ∧
      s.SameCells t [FB_PERR.PROTO.key p, FB_PSTAT.ERR.key p, FB_IRQ.HEDGE_ERR.key 0] ∧ t.mem = s.mem ∧
      t.lists = s.lists) ∧
    (Answers (.drIllegalCode p wire avenue inbound side) s fun t =>
      t.get FB_PERR.ILLEGAL p = min (s.get FB_PERR.ILLEGAL p + 1) (2 ^ 16 - 1) ∧ t.get FB_PSTAT.ERR p = 1 ∧
      t.get FB_IRQ.HEDGE_ERR = 1 ∧
      t.intake = s.intake ++ [s.record Rc.FB_DR_ILLEGAL p
        (wire.toNat + 64 * b2n avenue + 128 * b2n inbound + 256 * side.toNat)] ∧
      s.SameCells t [FB_PERR.ILLEGAL.key p, FB_PSTAT.ERR.key p, FB_IRQ.HEDGE_ERR.key 0] ∧ t.mem = s.mem ∧
      t.lists = s.lists))

/-- With plot 0 running and no access under way, an address outside BAR0's windows or not on a 4-byte boundary counts
one error and leaves BUSY 0; an aligned write during step 1 of staged release is held with BUSY 1; every other
access is made with the FABRIC identity. With plot 0 not running nothing changes but what is delivered. Where it
rests on the model's own readings: log entry 66. (R113, R114, R115, R692, Table FB-3.) -/
def Obligations.FabricControlMasterAnswers : Prop :=
  ∀ (s : State) (addr : Word) (w : Option Word), Awake s →
    (s.plotRuns 0 = false → exec (.fcmAccess addr w) s = run s s) ∧
    (s.plotRuns 0 = true → s.get FB_FCM.BUSY = 0 → 0x10000000 ≤ addr.toNat ∨ addr.toNat % 4 ≠ 0 →
      Answers (.fcmAccess addr w) s fun t =>
        t.get FB_FCM.BUSY = 0 ∧ t.get FB_FCM.ERRS = min (s.get FB_FCM.ERRS + 1) (2 ^ FB_FCM.ERRS.width - 1)) ∧
    (∀ v : Word, s.plotRuns 0 = true → s.get FB_FCM.BUSY = 0 → addr.toNat < 0x10000000 → addr.toNat % 4 = 0 →
      s.get REL_STEP = 1 → Answers (.fcmAccess addr (some v)) s fun t =>
        t.get FB_FCM.BUSY = 1 ∧ t.list FCM_HELD = [addr.toNat, v.toNat]) ∧
    (∀ v : Word, s.plotRuns 0 = true → s.get FB_FCM.BUSY = 0 → addr.toNat < 0x10000000 → addr.toNat % 4 = 0 →
      s.get REL_STEP ≠ 1 → exec (.fcmAccess addr (some v)) s = run s (s.fcmWrite addr.toNat v.toNat)) ∧
    (s.plotRuns 0 = true → s.get FB_FCM.BUSY = 0 → addr.toNat < 0x10000000 → addr.toNat % 4 = 0 →
      exec (.fcmAccess addr none) s = run s (s.fcmRead addr.toNat))

/-- A 64-bit port without ECC, of a memory that stands alone in a running plot, reads the stored data of its word into
the port's output and changes no memory word; a write with all bytes enabled stores the data with its computed check
bits. A write through a port, of whatever width, enables and configuration, changes no word of any memory other than
the one that the port address names, and in step 1 of staged release it changes no memory at all. With no injection
armed and no journal kept. For a word of a memory whose plot is open, an indirect raw write stores the data and
check registers at the word and changes no other word, and an indirect raw read loads them with the stored bits and
changes no memory word. A scrub access of a memory whose ECC is off, or whose word is clean, changes no word and
moves to the next; one of the queue store moves on likewise. (R140, R141, R142, R143, R148, R150, R151, R153, R156,
R749, R750.) -/
def Obligations.MemoryPortsReadAndWrite : Prop :=
  (∀ (s : State) (m : Fin 2048), Awake s → s.get FB_MINJ.MODE = 0 → s.journaling = false → s.portUsed m = true →
    (∀ addr : BitVec 19, s.get FB_MCFG.CASC m = 0 → s.get FB_MCFG.WIDTH_A m = 3 → s.get FB_MCFG.ECC_EN m = 0 →
      Answers (.memPortRead m 0 addr) s fun t =>
        t.get PORT_RDATA (2 * m) = s.memData m (addr.toNat % 4096) ∧ t.mem = s.mem) ∧
    (∀ (addr : BitVec 19) (data : BitVec 72), s.get FB_MCFG.CASC m = 0 → s.get FB_MCFG.WIDTH_A m = 3 →
      s.get REL_STEP ≠ 1 → Answers (.memPortWrite m 0 addr 255 data) s fun t =>
        t.memData m (addr.toNat % 4096) = data.toNat % 2 ^ 64 ∧
        t.memChk m (addr.toNat % 4096) = eccOf (data.toNat % 2 ^ 64) % 256) ∧
    (∀ (port : Fin 2) (addr : BitVec 19) (be : BitVec 8) (data : BitVec 72) (r : Region) (a : Nat), a < 2 ^ 32 →
      (r ≠ .block ∨ a ≠ 4096 * (s.portTarget m port addr.toNat).1 + (s.portTarget m port addr.toNat).2.1) →
      Answers (.memPortWrite m port addr be data) s fun t => t.load r a = s.load r a) ∧
    (∀ (port : Fin 2) (addr : BitVec 19) (be : BitVec 8) (data : BitVec 72), s.get REL_STEP = 1 →
      Answers (.memPortWrite m port addr be data) s fun t => t.mem = s.mem ∧
        t.list MEM_HELD (2 * m + port) = [addr.toNat, be.toNat, data.toNat])) ∧
  (∀ (s : State) (ms : Master) (m : Fin 2048) (a : Fin 4096), Awake s → s.journaling = false →
    (∀ w : Word, Writes ms 0x40100 s → s.get FB_MEMASTAT.BUSY = 0 → s.plotOpen (m / 32) = true →
      bits w.toNat 0 11 = m → bits w.toNat 12 12 = a → bit w.toNat 24 = true → bit w.toNat 25 = true →
      Answers (.memIndirectWrite ms w) s fun t =>
        t.memData m a = (s.get FB_MDATA_LO.DATA + 2 ^ 32 * s.get FB_MDATA_HI.DATA) % 2 ^ 64 ∧
        t.memChk m a = s.get FB_MCHK.CHK % 256 ∧
        ∀ g b, Region.base g + b ≠ Region.base .block + 4096 * m + a → t.load g b = s.load g b) ∧
    (∀ w : Word, Writes ms 0x40100 s → s.get FB_MEMASTAT.BUSY = 0 → s.plotOpen (m / 32) = true →
      bits w.toNat 0 11 = m → bits w.toNat 12 12 = a → bit w.toNat 24 = false → bit w.toNat 25 = true →
      Answers (.memIndirectRead ms w) s fun t =>
        t.get FB_MDATA_LO.DATA + 2 ^ 32 * t.get FB_MDATA_HI.DATA = s.memData m a ∧ t.get FB_MCHK.CHK = s.memChk m a ∧
        t.mem = s.mem) ∧
    (s.mode = mRUN → s.get FB_MCFG.ECC_EN m = 0 → s.get MSCRUB_AT m = a →
      Answers (.memScrubAccess m) s fun t => t.mem = s.mem ∧ t.get MSCRUB_AT m = (a + 1) % 4096) ∧
    (s.mode = mRUN →
      (eccDecode (s.load .queue (s.get SSCRUB_AT) % 2 ^ 64) (s.load .queue (s.get SSCRUB_AT) / 2 ^ 64 % 256)).kind =
        .clean →
      Answers .storeScrubAccess s fun t => t.mem = s.mem ∧ t.get SSCRUB_AT = (s.get SSCRUB_AT + 1) % 2 ^ 20))

/-- One operation of a MAC cell without pre-adder and cascade leaves in P the accumulator (or 0 with LOAD) plus the
product of the operands in their signedness (minus it with SUB), limited to 64 bits as OVF_MODE says, and leaves
every other cell's P alone. A token at an idle cell of a running plot starts its operation, or keeps it waiting
during step 1 of staged release. (R160, R161, R162, R163, R165, R692.) -/
def Obligations.MacCellsComputeTheirOperation : Prop :=
  (∀ (s : State) (n : Fin 3072) (op : BitVec 5) (a b d : BitVec 27),
    bit op.toNat 2 = false → s.macCasc n op.toNat = false →
    let prod := operand27 (s.flag FB_MACCFG.SIGNED_A n) a.toNat * operand27 (s.flag FB_MACCFG.SIGNED_B n) b.toNat
    let base := if bit op.toNat 0 then 0 else s.macP n
    let v := limit64 (s.flag FB_MACCFG.OVF_MODE n) (if bit op.toNat 1 then base - prod else base + prod)
    let t := s.macStep n op.toNat a.toNat b.toNat d.toNat
    t.get FB_MACP_LO.P n + 2 ^ 32 * t.get FB_MACP_HI.P n = ofSigned 64 v.1 ∧ t.macP n = v.1 ∧
      ∀ k : Fin 3072, k ≠ n → t.macP k = s.macP k) ∧
  (∀ (s : State) (n : Fin 3072) (op : BitVec 5) (a b d : BitVec 27), Awake s → s.plotRuns (n / 48) = true →
    s.list MAC_WAIT n = [] →
    (s.get REL_STEP ≠ 1 → exec (.macOperation n op a b d) s =
      run s (macPump 48 n (s.setList MAC_WAIT [op.toNat, a.toNat, b.toNat, d.toNat] n))) ∧
    (s.get REL_STEP = 1 → Answers (.macOperation n op a b d) s fun t =>
      t.list MAC_WAIT n = [op.toNat, a.toNat, b.toNat, d.toNat] ∧ t.macP n = s.macP n))

/-- In RUN, at a port with no operation open whose plot is LIVE or FENCING, each of the ten operations is granted with
its operands (a producer's operation never takes ANY); in HOLD each is held at the port without an acknowledge; a
change of a lane lets the parked operations of its queue complete. (R117, R184, R185, R187, R203, R204, R212, Table
QM-4.) -/
def Obligations.QueueOperationsReachTheArbiter : Prop :=
  ∀ (s : State) (p : Fin 64) (lane : BitVec 3) (any block : Bool) (data : BitVec 64) (n : BitVec 21), Awake s →
    (let op (code : Nat) (a b : Bool) (d : Nat) : QOp :=
       { who := p, queue := s.get QM_PCFG.QUEUE p, op := code, lane := lane.toNat, any := a && s.flag QM_PCFG.ROLE p,
         block := b, data := d }
     s.get QP_STATE p = 0 → s.mode = mRUN → s.get FB_PSTAT.STATE (portPlot p) ≤ pFENCING →
      exec (.push p lane block data) s = run s (s.portGrant (op opPUSH false block data.toNat)) ∧
      exec (.qmOpen p lane block) s = run s (s.portGrant (op opOPEN false block 0)) ∧
      exec (.close p lane data) s = run s (s.portGrant (op opCLOSE false false data.toNat)) ∧
      exec (.qmAbort p lane) s = run s (s.portGrant (op opABORT false false 0)) ∧
      exec (.pop p lane any block) s = run s (s.portGrant (op opPOP any block 0)) ∧
      exec (.peek p lane any block) s = run s (s.portGrant (op opPEEK any block 0)) ∧
      exec (.mark p lane any) s = run s (s.portGrant (op opMARK any false 0)) ∧
      exec (.rewind p lane any) s = run s (s.portGrant (op opREWIND any false 0)) ∧
      exec (.qmRelease p lane any n) s = run s (s.portGrant (op opRELEASE any false n.toNat)) ∧
      exec (.occ p lane any) s = run s (s.portGrant (op opOCC any false 0))) ∧
    (s.get QP_STATE p = 0 → s.mode = mHOLD → Answers (.push p lane block data) s fun t =>
      t.get QP_STATE p = 1 ∧ (t.list QP_HELD).length = (s.list QP_HELD).length + 1 ∧ t.mem = s.mem) ∧
    (∀ q : Fin 256, exec (.parkedOpRegrant q) s = run s (s.regrantAll q)) ∧
    (∀ q : Fin 256, s.list PARKED q = [] → exec (.parkedOpRegrant q) s = run s s)

/-- For a granted operation on an enabled queue: a PUSH on a lane with no open packet that is not full stores its word,
with its check bits and no header flag, at slot W mod S and advances W by 1, leaving RD and REL; a POP of a readable
lane, named or arbitrated, returns the checked word at slot RD mod S (the stored one where it is clean) and advances
RD by 1, and advances REL by 1 exactly with MANUAL 0; with MANUAL 1 every operation but RELEASE leaves REL as it
was, and RELEASE advances it by the words it frees. Pointers are taken modulo 2S, in a state whose lane sizes are
the legal ones. A PUSH leaves every word of every memory but its slot, every list and record, and every cell but W
and the open packet's count; a POP leaves every word but a corrected one at its slot, every list, and every cell but
RD, REL, the wheel and hold of its queue, and what a memory error of the word counts and raises. (R180.) -/
def Obligations.PushAndPopMoveTheLane : Prop :=
  ∀ (s : State) (o : QOp) (q : Fin 256), o.queue = q → s.get QM_QCFG.EN q = 1 → s.journaling = false →
    s.secondary = false → (∀ x < 2048, s.get QM_LCFG.SIZE x ≤ 14) →
    (∀ l : Fin 8, o.op = opPUSH → o.lane = l → l < s.lanes q →
      s.flag LANE_OPEN (8 * q + l) = false ∨ s.get LANE_OWNER (8 * q + l) = o.who → s.laneFull (8 * q + l) = false →
      ∃ t, s.qExec o = some (⟨stOK, 0, l⟩, t) ∧
        t.load .queue (s.slotAddr (8 * q + l) (s.get LANE_W (8 * q + l))) =
          o.data % 2 ^ 64 + 2 ^ 64 * (eccOf (o.data % 2 ^ 64) % 2 ^ 16) ∧
        t.get LANE_W (8 * q + l) = (s.get LANE_W (8 * q + l) + 1) % (2 * s.laneSize (8 * q + l)) ∧
        t.get LANE_RD (8 * q + l) = s.get LANE_RD (8 * q + l) ∧
        t.get LANE_REL (8 * q + l) = s.get LANE_REL (8 * q + l) ∧
        (∀ r a, r.base + a ≠ Region.base .queue + s.slotAddr (8 * q + l) (s.get LANE_W (8 * q + l)) →
          t.load r a = s.load r a) ∧
        t.lists = s.lists ∧ t.ring = s.ring ∧ t.intake = s.intake ∧ t.held = s.held ∧ t.pending = s.pending ∧
        s.SameCells t (cellsAt [LANE_W, LANE_N] (8 * q + l))) ∧
    (∀ l < 8, o.op = opPOP →
      (o.any = false ∧ o.lane = l ∧ l < s.lanes q ∧ s.readable (8 * q + l) = true ∨
        o.any = true ∧ ∃ pos, s.anyLane q = some (l, pos)) →
      ∃ r t, s.qExec o = some (r, t) ∧
        r.rdata = (s.readSlot (8 * q + l) (s.get LANE_RD (8 * q + l))).1.data ∧
        ((s.readSlot (8 * q + l) (s.get LANE_RD (8 * q + l))).1.kind = .clean → r.rdata =
          s.load .queue (s.slotAddr (8 * q + l) (s.get LANE_RD (8 * q + l))) % 2 ^ 64) ∧
        t.get LANE_RD (8 * q + l) = (s.get LANE_RD (8 * q + l) + 1) % (2 * s.laneSize (8 * q + l)) ∧
        t.get LANE_REL (8 * q + l) = (if s.get QM_QCFG.MANUAL q = 1 then s.get LANE_REL (8 * q + l)
          else (s.get LANE_REL (8 * q + l) + 1) % (2 * s.laneSize (8 * q + l))) ∧
        (∀ g a, g.base + a ≠ Region.base .queue + s.slotAddr (8 * q + l) (s.get LANE_RD (8 * q + l)) →
          t.load g a = s.load g a) ∧
        t.lists = s.lists ∧ t.ring = s.ring ∧ t.pending = s.pending ∧
        s.SameCells t (cellsAt [LANE_RD, LANE_REL] (8 * q + l) ++ cellsAt [WHEEL_POS, QHOLD, QHOLD_LEFT] q ++
          cellsAt [QM_SECC.CE, QM_SECC.UE, QM_IRQ.CE, QM_IRQ.UE, BV_ALERT.MEM_UE, EV_DROP.COUNT, DROP_EPISODE] ++
          cellsAt [BV_ERRSUM.COUNT] 2 ++ cellsAt [BV_ERRSUM.COUNT] 3)) ∧
    (s.get QM_QCFG.MANUAL q = 1 → o.op ≠ opRELEASE → ∀ r t, s.qExec o = some (r, t) →
      ∀ x < 2048, t.get LANE_REL x = s.get LANE_REL x) ∧
    (∀ l : Fin 8, s.get QM_QCFG.MANUAL q = 1 → o.op = opRELEASE → o.any = false → o.lane = l → l < s.lanes q →
      let x := 8 * q.val + l
      let avail := s.laneDiff x (s.get LANE_RD x) (s.get LANE_REL x)
      let n := if bits o.data 0 21 = 0 then avail else min (bits o.data 0 21) avail
      ∃ t, s.qExec o = some (⟨stOK, n, l⟩, t) ∧ t.get LANE_REL x = (s.get LANE_REL x + n) % (2 * s.laneSize x))

/-- At an enabled port, an operation of its role whose lanes it may use and which does not park leaves the state that
the arbiter's answer gives, with the port idle and the result driven to the array; the parked operations of the
queue follow. A non-blocking PUSH on a full lane without an open packet answers FULL and counts one overflow; a
non-blocking POP or PEEK of a lane that is not readable answers EMPTY and changes nothing; a PEEK leaves RD as it
was; a blocking one that cannot complete is parked. (R180, R185, R189, R190, R191, R192, R197, R199, R201, R202,
R207.) -/
def Obligations.QueuePortsCompleteTheirOperations : Prop :=
  ∀ (s : State) (o : QOp) (p : Fin 64) (q : Fin 256), o.who = p → o.queue = q → s.get QM_PCFG.EN p = 1 →
    (∀ r t, s.qExec o = some (r, t) →
      (s.get QM_PCFG.ROLE p = 0 ∧ (o.op ≤ 3 ∨ o.op = 9) ∧ bit (s.get QM_PCFG.LANEMASK p) o.lane = true ∨
        s.get QM_PCFG.ROLE p = 1 ∧ 4 ≤ o.op ∧ o.op ≤ 9) →
      s.portGrant o = (t.portDone p r).regrantAll q ∧ (t.portDone p r).get QP_STATE p = 0) ∧
    (s.qExec o = none → s.get QM_PCFG.ROLE p = 1 → o.op = opPOP → s.get FB_PSTAT.STATE (portPlot p) = pLIVE →
      (s.portGrant o).get QP_STATE p = 2 ∧ (s.portGrant o).list PARKED q = s.list PARKED q ++ [o.code]) ∧
    (∀ l : Fin 8, s.get QM_QCFG.EN q = 1 → s.secondary = false → o.lane = l → l < s.lanes q → o.block = false →
      (o.op = opPUSH → s.flag LANE_OPEN (8 * q + l) = false → s.laneFull (8 * q + l) = true →
        ∃ t, s.qExec o = some (⟨stFULL, 0, l⟩, t) ∧ t.mem = s.mem ∧
          t.get LANE_OVF (8 * q + l) = min (s.get LANE_OVF (8 * q + l) + 1) (2 ^ 32 - 1)) ∧
      (o.op = opPOP ∨ o.op = opPEEK → o.any = false → s.readable (8 * q + l) = false →
        s.qExec o = some (⟨stEMPTY, 0, l⟩, s)) ∧
      (o.op = opPEEK → o.any = false → ∀ r t, s.qExec o = some (r, t) → ∀ x < 2048, t.get LANE_RD x = s.get LANE_RD x))

/-- Setting QM_QCFG.EN of a queue that passes its checks zeroes the pointers of its lanes and enables it; with a failing
check EN stays 0 and GH_REFUSE holds the code. Clearing EN of a queue with nothing bound disables it. Setting the
enable of a port that passes the binding checks binds it; a window's enables likewise each on its own. JRES is set
where no enabled lane reaches into the area. A window push is the PUSH operation of the written word with the held
low half, and a window pop returns the low half of the popped word to the reader. (R177, R182, R183, R209, R210,
R211, R213, R214.) -/
def Obligations.QueueConfigurationTakesEffect : Prop :=
  ∀ (s : State) (m : Master), Awake s →
    (∀ (q : Fin 256) (w : Word), Writes m (0x11000 + 4 * q) s → s.get QM_QCFG.EN q = 0 → bit w.toNat 0 = true →
      ((s.writeReg m QM_QCFG.reg q w.toNat).put QM_QCFG.EN 0 q).queueCheck q = none →
      Answers (.queueEnable m q w) s fun t => t.get QM_QCFG.EN q = 1 ∧
        ∀ l < 8, t.get LANE_W (8 * q + l) = 0 ∧ t.get LANE_RD (8 * q + l) = 0 ∧ t.get LANE_REL (8 * q + l) = 0) ∧
    (∀ (q : Fin 256) (w : Word) (c : Rc) (obj : Nat), Writes m (0x11000 + 4 * q) s → s.get QM_QCFG.EN q = 0 →
      bit w.toNat 0 = true →
      ((s.writeReg m QM_QCFG.reg q w.toNat).put QM_QCFG.EN 0 q).queueCheck q = some (c, obj) →
      Answers (.queueEnable m q w) s fun t => t.get QM_QCFG.EN q = 0 ∧ t.get GH_REFUSE.CODE = c.num % 2 ^ 16) ∧
    (∀ (q : Fin 256) (w : Word), Writes m (0x11000 + 4 * q) s → s.get QM_QCFG.EN q = 1 → bit w.toNat 0 = false →
      s.queueBound q = false → Answers (.queueEnable m q w) s fun t => t.get QM_QCFG.EN q = 0) ∧
    (∀ (p : Fin 64) (w : Word), Writes m (0x10400 + 4 * p) s → s.get QM_PCFG.EN p = 0 → bit w.toNat 0 = true →
      (s.writeReg m QM_PCFG.reg p w.toNat).get QM_PCFG.ROLE p = 1 →
      (s.writeReg m QM_PCFG.reg p w.toNat).consumerCheck p ((s.writeReg m QM_PCFG.reg p w.toNat).get QM_PCFG.QUEUE p) =
        none →
      Answers (.portBind m (.port p) w) s fun t => t.get QM_PCFG.EN p = 1 ∧
        t.get QCONS ((s.writeReg m QM_PCFG.reg p w.toNat).get QM_PCFG.QUEUE p) = 256 + p) ∧
    (∀ (k : Fin 8) (w : Word), Writes m (0x10100 + 0x20 * k) s →
      exec (.portBind m (.window k) w) s = run s ((wrRwsel m k w.toNat s).resend s (0x10100 + 0x20 * k) w.toNat)) ∧
    (∀ w : Word, Writes m 0x10000 s → s.get QM_CTL.JRES = 0 →
      (s.enabledLanes.find? fun x => 0xE0000 < (s.laneSpan x).2) = none →
      Answers (.jres m w) s fun t => t.get QM_CTL.JRES = bits w.toNat 0 1) ∧
    (∀ (k : Fin 8) (w : Word), Writes m (0x10108 + 0x20 * k) s →
      exec (.windowPush m k w) s = run s ((((s.dropHold m (0x10104 + 0x20 * k)).windowOp k opPUSH
        ((s.heldLow m (0x10104 + 0x20 * k)).getD 0 + 2 ^ 32 * w.toNat)).2).resend s (0x10108 + 0x20 * k) w.toNat)) ∧
    (∀ k : Fin 8, Reads m (0x1010C + 0x20 * k) s → s.peeks m = false →
      exec (.windowPop m k) s = run s ((rdRwPopLo m k s).2.emit .busData [m.code, (rdRwPopLo m k s).1]) ∧
      (rdRwPopLo m k s).2.get QM_RWSTAT.STATUS k = (s.windowOp k opPOP 0).1.status % 2 ^ QM_RWSTAT.STATUS.width)

/-- Outside DORMANT: the loss of a present reference input clears PRESENT, sets LOST and CK_IRQ.REF_LOS; its return sets
PRESENT. CTL_SEL moves CTL_CLK to a LOCKED SYN1 and is refused with CK_REF_ABSENT otherwise. GO or EN of a
synthesiser other than SYN0 that passes Table CK-3 acquires on the sampled dividers with BUSY; clearing EN turns it
OFF; with a failing check the code stands in GH_REFUSE and STATE is kept. Lock under GATE ends the change LOCKED and
steady; LOCK_T leaves FAULT; lost lock leaves HOLDOVER with LOL. A slew advances the output. The frequency meter
starts with GO and shows its count and DONE at the end of its gate. (R219, R221, R227, R228, R229, R231, R234, R236,
R241, Table CK-3.) -/
def Obligations.ClockCommandsTakeEffect : Prop :=
  ∀ s : State, Awake s → s.mode ≠ mDORMANT →
    (∀ c : Fin 13, refInput c = true → bit (s.get CK_REFSTAT.PRESENT) c = true → Answers (.refLoss c) s fun t =>
      t.get CK_REFSTAT.PRESENT = clrBit (s.get CK_REFSTAT.PRESENT) c % 2 ^ CK_REFSTAT.PRESENT.width ∧
      t.get CK_REFLOS.LOST = setBit (s.get CK_REFLOS.LOST) c % 2 ^ CK_REFLOS.LOST.width ∧ t.get CK_IRQ.REF_LOS = 1) ∧
    (∀ c : Fin 13, refInput c = true → bit (s.get CK_REFSTAT.PRESENT) c = false → Answers (.refRestored c) s fun t =>
      t.get CK_REFSTAT.PRESENT = setBit (s.get CK_REFSTAT.PRESENT) c % 2 ^ CK_REFSTAT.PRESENT.width) ∧
    (∀ (m : Master) (w : Word), Writes m 0x4000 s → bit w.toNat 0 = true → s.get CK_CTL.CTL_SEL = 0 →
      s.get CK_SYNSTAT.STATE 1 = ckLOCKED →
      Answers (.ctlSel m w) s fun t => t.get CK_CTL.CTL_SEL = 1 ∧ t.get CK_CTL.CTL_ACT = 1) ∧
    (∀ (m : Master) (w : Word), Writes m 0x4000 s → bit w.toNat 0 = true → s.get CK_CTL.CTL_SEL = 0 →
      s.get CK_SYNSTAT.STATE 1 ≠ ckLOCKED → Answers (.ctlSel m w) s fun t =>
        t.get CK_CTL.CTL_SEL = 0 ∧ t.get GH_REFUSE.CODE = Rc.CK_REF_ABSENT.num % 2 ^ 16) ∧
    (∀ (m : Master) (w : Word), Writes m 0x4000 s → bit w.toNat 0 = false →
      Answers (.ctlSel m w) s fun t => t.get CK_CTL.CTL_SEL = 0 ∧ t.get CK_CTL.CTL_ACT = 0) ∧
    (∀ (m : Master) (k : Fin 6) (w : Word), Writes m (0x410C + 0x20 * k) s → k ≠ 0 →
      let u := if CK_SYNCTL.LOCK_T.accepts (bits w.toNat 2 8) then s.put CK_SYNCTL.LOCK_T (bits w.toNat 2 8) k else s
      (bit w.toNat 1 = true → bit w.toNat 0 = true → u.synCheck k (s.flag CK_SYNCTL.EN k) true true = none →
        Answers (.synGo m k w) s fun t => t.get CK_SYNSTAT.STATE k = ckACQUIRE ∧ t.get CK_SYNSTAT.BUSY k = 1 ∧
          t.get CK_SYNCTL.EN k = 1 ∧ t.get SYN_N k = s.get CK_SYNCFGA.N k % 2 ^ SYN_N.width) ∧
      (bit w.toNat 1 = true → bit w.toNat 0 = true → ∀ c obj,
        u.synCheck k (s.flag CK_SYNCTL.EN k) true true = some (c, obj) →
        Answers (.synGo m k w) s fun t => t.get CK_SYNSTAT.STATE k = s.get CK_SYNSTAT.STATE k ∧
          t.get GH_REFUSE.CODE = c.num % 2 ^ 16) ∧
      (bit w.toNat 1 = false → bit w.toNat 0 = false → s.get CK_SYNCTL.EN k = 1 →
        u.synCheck k true false false = none →
        Answers (.synEn m k w) s fun t => t.get CK_SYNSTAT.STATE k = ckOFF ∧ t.get CK_SYNCTL.EN k = 0 ∧
          t.get STAGE_FREQ k = 0)) ∧
    (∀ k : Fin 6, k ≠ 0 → s.get CK_SYNSTAT.STATE k = ckACQUIRE → s.get STAGE_POL k ≠ 0 →
      Answers (.synLocked k) s fun t => t.get CK_SYNSTAT.STATE k = ckLOCKED ∧ t.get CK_OSTAT.PHASE k = phSTEADY ∧
        t.get STAGE_FREQ k = s.get STAGE_NEXT k % 2 ^ STAGE_FREQ.width) ∧
    (∀ k : Fin 6, k ≠ 0 → s.get CK_SYNSTAT.STATE k = ckACQUIRE → s.get CK_SYNSTAT.BUSY k = 1 →
      Answers (.synLockTimeout k) s fun t => t.get CK_SYNSTAT.STATE k = ckFAULT ∧ t.get CK_SYNSTAT.BUSY k = 0 ∧
        t.get CK_IRQ.LOCK_TO = 1) ∧
    (∀ k : Fin 6, k ≠ 0 → s.get CK_SYNSTAT.STATE k = ckLOCKED → Answers (.synLockLost k) s fun t =>
      t.get CK_SYNSTAT.STATE k = ckHOLDOVER ∧ t.get CK_SYNSTAT.LOL k = 1 ∧ t.get CK_IRQ.LOL = 1) ∧
    (∀ j : Fin 16, s.get CK_OSTAT.PHASE j = phSLEWING →
      s.slewTo j % 2 ^ STAGE_FREQ.width ≠ s.get STAGE_NEXT j →
      Answers (.slewStep j) s fun t => t.get STAGE_FREQ j = s.slewTo j % 2 ^ STAGE_FREQ.width) ∧
    (∀ (m : Master) (w : Word), Writes m 0x4020 s → s.get CK_FMCTL.BUSY = 0 →
      Answers (.freqMeterGo m w) s fun t => t.get CK_FMCTL.BUSY = 1 ∧ t.get CK_FMCTL.DONE = 0) ∧
    (∀ n : BitVec 40, s.get CK_FMCTL.BUSY = 1 → Answers (.freqMeterDone n) s fun t =>
      t.get CK_FMRES.COUNT = min n.toNat (2 ^ 32 - 1) ∧ t.get CK_FMCTL.BUSY = 0 ∧ t.get CK_FMCTL.DONE = 1)

/-- An array edge at a running event port with room adds one event; an array acknowledge of an offered entry takes the
oldest one; an island event at a running event port is stored, or counted as an overrun when the port is full. An
island's take from a running serial port gives the oldest entry, or counts a starve; its answer ends the open
exchange of a ROUNDTRIP port; a paced pair moves one token from its DIR 0 to its DIR 1 port. A stopped-clock timeout
empties the port into FAULT; a port reset empties it into SYNC; a resynchronisation ends in RUN; an enable that
passes its checks leaves EN 1 and SYNC, and one that fails leaves EN 0 and its code. Where it rests on the model's
own readings: log entry 40. (R248, R251, R252, R254, R258, R259, R260, R262, R264, R266, R267, R268.) -/
def Obligations.CrossingPortsMoveEntries : Prop :=
  ∀ (s : State) (x : Fin 256), Awake s →
    (∀ (d : BitVec 64) (e : BitVec 8), 64 ≤ x.val → x.val < 80 → s.get XP_STAT.STATE x = xpRUN → s.mode = mRUN →
      s.xpRoom x = true → Answers (.xpArrayOffer x d e) s fun t => t.list XP_Q x = s.list XP_Q x ++ [0]) ∧
    (∀ (d : BitVec 64) (e : BitVec 8), s.siteLive x = true → xpFixed x = false → s.list XP_WAIT x = [] →
      exec (.xpArrayOffer x d e) s = run s ((s.setList XP_WAIT [d.toNat + 2 ^ 64 * e.toNat] x).xpPump x)) ∧
    (∀ (d : BitVec 64) (st : BitVec 4) (v : Nat) (r : List Nat), s.get XP_STAT.STATE x = xpRUN → s.xpDir x = 1 →
      xpFixed x = false → s.siteLive x = true → s.list XP_Q x = v :: r →
      Answers (.xpArrayAck x d st) s fun t => t.list XP_Q x = r) ∧
    (∀ (d : BitVec 64) (e : BitVec 8), xpEventIn x = true → s.get XP_STAT.STATE x = xpRUN → s.mode ≠ mDORMANT →
      (s.xpRoom x = true → Answers (.xpIslandPut x d e) s fun t => t.list XP_Q x = s.list XP_Q x ++ [0]) ∧
      (s.xpRoom x = false → Answers (.xpIslandPut x d e) s fun t => t.list XP_Q x = s.list XP_Q x ∧
        t.get XP_CNT.OVERRUN x = min (s.get XP_CNT.OVERRUN x + 1) (2 ^ XP_CNT.OVERRUN.width - 1))) ∧
    (xpFixed x = false → s.mode ≠ mDORMANT → s.get XP_CFG.ATTACH x = 3 → s.get IO_SERCFG.EN (s.get XP_CFG.AIDX x) = 1 →
      s.get XP_CFG.DIR x = 0 → s.get XP_CFG.TYPE x = 0 → s.get XP_STAT.STATE x = xpRUN →
      (s.list XP_Q x = [] → Answers (.xpIslandTake x) s fun t =>
        t.get XP_CNT.STARVE x = min (s.get XP_CNT.STARVE x + 1) (2 ^ XP_CNT.STARVE.width - 1)) ∧
      (∀ v r, s.list XP_Q x = v :: r → s.list XP_WAIT x = [] →
        Answers (.xpIslandTake x) s fun t => t.list XP_Q x = r)) ∧
    (∀ (d : BitVec 64) (st : BitVec 4), xpFixed x = false → s.mode ≠ mDORMANT → s.xpAttach x ≠ 5 →
      exec (.xpIslandAnswer x d st) s = run s (s.xpAnswer x d.toNat st.toNat)) ∧
    (∀ (a : Fin 128) (y : Nat) (v : Nat) (t : State), s.pacedPort a 0 = some x → s.pacedPort a 1 = some y →
      s.xpType x = s.xpType y → s.xpClk x = s.xpClk y → s.xpRoom y = true → s.xpTake x = some (v, t) →
      exec (.pacedPairMove a) s = run s ((t.enq XP_Q v y).showLevel y)) ∧
    (s.get XP_STAT.STATE x = xpRUN → s.xpClk x ≠ 0 → s.xpSuspended x = false → Answers (.xpTimeout x) s fun t =>
      t.get XP_STAT.STATE x = xpFAULT ∧ t.list XP_Q x = []) ∧
    (∀ m : Master, Writes m (0x6008 + 0x10 * x) s → s.get XP_STAT.STATE x ≠ xpOFF → Answers (.xpPortReset m x) s fun t =>
      t.get XP_STAT.STATE x = xpSYNC ∧ t.list XP_Q x = []) ∧
    (s.get XP_STAT.STATE x = xpSYNC → s.xpHeld x = false → s.list XP_WAIT x = [] →
      Answers (.xpResync x) s fun t => t.get XP_STAT.STATE x = xpRUN ∧ t.get XP_DISC x = 0) ∧
    (∀ (m : Master) (w : Word), Writes m (0x6000 + 0x10 * x) s → xpFixed x = false → s.get XP_CFG.EN x = 0 →
      bit w.toNat 0 = true →
      (((s.writeReg m XP_CFG.reg x w.toNat).put XP_CFG.EN 0 x).xpCheck m x = none →
        Answers (.xpEnable m x w) s fun t => t.get XP_CFG.EN x = 1 ∧ t.get XP_STAT.STATE x = xpSYNC) ∧
      (∀ c obj, ((s.writeReg m XP_CFG.reg x w.toNat).put XP_CFG.EN 0 x).xpCheck m x = some (c, obj) →
        Answers (.xpEnable m x w) s fun t => t.get XP_CFG.EN x = 0 ∧ t.get GH_REFUSE.CODE = c.num % 2 ^ 16))

/-- Outside DORMANT: setting BS_TBCTL.EN with the checks of Table BS-1 passed starts SYN0 on the reference; with a
failing check EN is kept. ARM of an immediate epoch is taken while the time base runs. An armed immediate load makes
the count the epoch, clears ARM, sets EPOCH and advances EPOCH_GEN. GO with MODE 1 adds the signed offset to the
count and advances EPOCH_GEN; with MODE 0 it starts a slew of the offset's magnitude with BUSY. The slew's end takes
what was left into the count and clears BUSY. A read of BS_TNOW0 returns the low word of the count and latches the
next one for its reader. Where it rests on the model's own readings: log entry 39. (R277, R278, R280, R284, R285,
R286, R287, R288.) -/
def Obligations.TimeBaseCommandsTakeEffect : Prop :=
  ∀ (s : State) (m : Master), Awake s → s.mode ≠ mDORMANT →
    (∀ w : Word, Writes m 0x8000 s → s.get BS_TBCTL.EN = 0 → bit w.toNat 8 = true → s.unitMode m = true →
      s.badRef (bits w.toNat 0 3) = false → s.badRef (bits w.toNat 4 3) = false →
      (s.refPresent (bits w.toNat 0 3) = true → Answers (.tbEn m w) s fun t =>
        t.get BS_TBCTL.EN = 1 ∧ t.get CK_SYNSTAT.STATE 0 = ckACQUIRE ∧ t.get BS_TBSTAT.STATE = ckACQUIRE ∧
          t.get BS_TBSTAT.REF_ACT = bits w.toNat 0 3) ∧
      (s.refPresent (bits w.toNat 0 3) = false → Answers (.tbEn m w) s fun t =>
        t.get BS_TBCTL.EN = 0 ∧ t.get GH_REFUSE.CODE = Rc.BS_REF_ABSENT.num % 2 ^ 16)) ∧
    (∀ w : Word, Writes m 0x8018 s → s.get BS_EPCTL.ARM = 0 → bit w.toNat 2 = true → bits w.toNat 0 2 = 0 →
      s.get BS_TBSTAT.RUNNING = 1 → s.get BS_ADJCTL.OWNED = 0 →
      Answers (.epochArm m w) s fun t => t.get BS_EPCTL.ARM = 1) ∧
    (∀ since : BitVec 32, s.get BS_EPCTL.ARM = 1 → s.get BS_TBSTAT.RUNNING = 1 → s.get BS_EPCTL.SRC = 0 →
      Answers (.epochLoad since) s fun t => t.now = s.epoch % 2 ^ 80 ∧ t.get BS_EPCTL.ARM = 0 ∧
        t.get BS_TBSTAT.EPOCH = 1 ∧
        t.get BS_TBSTAT.EPOCH_GEN = (s.get BS_TBSTAT.EPOCH_GEN + 1) % 2 ^ BS_TBSTAT.EPOCH_GEN.width) ∧
    (∀ w : Word, Writes m 0x8038 s → s.get BS_TBSTAT.RUNNING = 1 → s.get BS_ADJCTL.OWNED = 0 →
      s.get BS_ADJCTL.BUSY = 0 →
      (Answers (.adjStep m w) s fun t =>
        t.get TCOUNT = ofSigned 96 ((s.get TCOUNT : Int) +
          toSigned 64 (s.get BS_ADJ_LO.OFFSET + 2 ^ 32 * s.get BS_ADJ_HI.OFFSET) * 65536) ∧
        t.get BS_TBSTAT.EPOCH_GEN = (s.get BS_TBSTAT.EPOCH_GEN + 1) % 2 ^ BS_TBSTAT.EPOCH_GEN.width) ∧
      (Answers (.adjSlew m w) s fun t => t.get BS_ADJCTL.BUSY = 1 ∧ t.get TCOUNT = s.get TCOUNT ∧
        t.get SLEW_LEFT = (toSigned 64 (s.get BS_ADJ_LO.OFFSET + 2 ^ 32 * s.get BS_ADJ_HI.OFFSET)).natAbs * 65536 %
          2 ^ SLEW_LEFT.width)) ∧
    (s.get BS_ADJCTL.BUSY = 1 → Answers .slewDone s fun t => t.get BS_ADJCTL.BUSY = 0 ∧ t.get SLEW_LEFT = 0 ∧
      (s.get SLEW_NEG = 0 → t.get TCOUNT = (s.get TCOUNT + s.get SLEW_LEFT) % 2 ^ TCOUNT.width)) ∧
    (Reads m 0x802C s →
      exec (.tnowRead m) s = run s ((rdTnow0 m s).2.emit .busData [m.code, s.now % 2 ^ 32]) ∧
      ∀ c, (rdTnow0 m s).2.latched m 0x8030 c = s.now / 2 ^ 32 % 2 ^ 32)

/-- Outside DORMANT: a selected edge at an enabled converter with room becomes the youngest record of its buffer, and
one within 16 ticks of the last counts as missed; a read of BS_TTDAT0 removes the oldest record and returns its low
word; a calibration starts, ends and goes stale on an enabled converter. A pushed cue command is the youngest of its
queue; a SET command fires its edge and leaves the queue; a late command is skipped with LATE 1; a pulse ends low. A
converter that passes its checks is enabled, the other units likewise through their registers. Soft triggers, router
sources and stretches move their sources and destinations. A tagger is armed, and its capture stores time and word
count. (R294, R295, R296, R297, R300, R302, R303, R304, R307, R311, R312, R316.) -/
def Obligations.TagsCuesAndRoutesTakeEffect : Prop :=
  ∀ s : State, Awake s → s.mode ≠ mDORMANT →
    (∀ (n : Fin 96) (rising : Bool) (ago : BitVec 24), s.get BS_TTCFG.EN n = 1 → s.get BS_TBSTAT.RUNNING = 1 →
      s.get BS_TTCFG.EDGE n = 2 → s.get BS_TTCFG.GATE_EN n = 0 → s.get BS_TTCFG.RTR_EN n = 0 →
      let t0 := (s.now + 2 ^ 80 - 25 * ago.toNat) % 2 ^ 80
      (s.get TT_LAST n < 2 ^ 80 → (s.list TT_BUF n).length < 16 → Answers (.tagEdge n rising ago) s fun t =>
        t.list TT_BUF n = s.list TT_BUF n ++ [s.tagRecord n (addSigned t0 32 (s.get BS_TTOFS.OFS n)) rising]) ∧
      (s.get TT_LAST n = 2 ^ 80 + t0 → Answers (.tagEdge n rising ago) s fun t =>
        t.get BS_TTCNT.MISSED n = min (s.get BS_TTCNT.MISSED n + 1) (2 ^ BS_TTCNT.MISSED.width - 1) ∧
          t.list TT_BUF n = s.list TT_BUF n)) ∧
    (∀ (m : Master) (n : Fin 96) (r : Nat) (rest : List Nat), Reads m (0x8108 + 0x20 * n) s → s.peeks m = false →
      s.list TT_BUF n = r :: rest →
      exec (.ttdat0Read m n) s = run s ((rdTtDat0 m n s).2.emit .busData [m.code, r % 2 ^ 32]) ∧
      (rdTtDat0 m n s).2.list TT_BUF n = rest) ∧
    (∀ n : Fin 96, s.mode = mRUN → s.get BS_TTCFG.EN n = 1 →
      ((List.range 96).filter fun j => s.flag BS_TTSTAT.CAL j).length < 4 →
      Answers (.ttCalibrationStart n) s fun t => t.get BS_TTSTAT.CAL n = 1) ∧
    (∀ n : Fin 96, s.get BS_TTSTAT.CAL n = 1 → Answers (.ttCalibrationEnd n) s fun t =>
      t.get BS_TTSTAT.CAL n = 0 ∧ t.get BS_TTSTAT.STALE n = 0) ∧
    (∀ n : Fin 96, s.get BS_TTCFG.EN n = 1 → s.get BS_TTSTAT.STALE n = 0 → Answers (.ttStale n) s fun t =>
      t.get BS_TTSTAT.STALE n = 1 ∧ t.get BS_IRQ.STALE = 1) ∧
    (∀ (m : Master) (c : Fin 64) (w : Word), Writes m (0x9110 + 0x20 * c) s → s.get BS_CUCFG.EN c = 1 →
      (s.list CUE_Q c).length < 8 → s.get CUE_LAST c < 2 ^ 80 → Answers (.cueCommandPush m c w) s fun t =>
        t.list CUE_Q c = s.list CUE_Q c ++ [s.get BS_CUCMD0.TIME c + 2 ^ 32 * s.get BS_CUCMD1.TIME c +
          2 ^ 64 * bits w.toNat 0 16 + 2 ^ 80 * bits w.toNat 16 2]) ∧
    (∀ (c : Fin 64) (v : Nat) (q : List Nat), s.get BS_CUCFG.EN c = 1 → s.list CUE_Q c = v :: q → v < 2 ^ 80 →
      s.get CUE_LATEP c = 0 → Answers (.cueFire c) s fun t =>
        t.get BS_CUSTAT.LEVEL c = 1 ∧ t.list CUE_Q c = q) ∧
    (∀ c : Fin 64, s.get BS_CUCFG.EN c = 1 → s.get CUE_LATEP c = 1 → s.get BS_CUCFG.LATE c = 1 →
      Answers (.cueLate c) s fun t => t.list CUE_Q c = (s.list CUE_Q c).tail ∧
        t.get BS_CUCNT.LATE c = min (s.get BS_CUCNT.LATE c + 1) (2 ^ BS_CUCNT.LATE.width - 1)) ∧
    (∀ c : Fin 64, s.get CUE_PULSE c = 1 → Answers (.pulseEnd c) s fun t =>
      t.get CUE_PULSE c = 0 ∧ t.get BS_CUSTAT.LEVEL c = 0) ∧
    (∀ (m : Master) (n : Fin 96) (w : Word), Writes m (0x8100 + 0x20 * n) s → s.get BS_TTCFG.EN n = 0 →
      bit w.toNat 0 = true →
      let u := (s.writeReg m BS_TTCFG.reg n w.toNat).put BS_TTCFG.EN 0 n
      u.unitCheck m (0x100 + n) (235 < u.get BS_TTCFG.INPUT n || u.codeAbsent (u.get BS_TTCFG.INPUT n)) false false =
        none →
      Answers (.bsUnitEnable m (.converter n) w) s fun t => t.get BS_TTCFG.EN n = 1 ∧ t.list TT_BUF n = []) ∧
    (∀ (m : Master) (w : Word),
      (∀ c : Fin 64, Writes m (0x9100 + 0x20 * c) s → exec (.bsUnitEnable m (.cue c) w) s =
        run s ((wrCuCfg m c w.toNat s).resend s (0x9100 + 0x20 * c) w.toNat)) ∧
      (∀ d : Fin 176, Writes m (0x8E00 + 4 * d) s → exec (.bsUnitEnable m (.route d) w) s =
        run s ((wrRt m d w.toNat s).resend s (0x8E00 + 4 * d) w.toNat)) ∧
      (∀ l : Fin 40, Writes m (0x9A00 + 0x20 * l) s → exec (.bsUnitEnable m (.tagger l) w) s =
        run s ((wrLbtCtl m l w.toNat s).resend s (0x9A00 + 0x20 * l) w.toNat)) ∧
      (Writes m 0x8044 s → exec (.softTrigger m w) s = run s ((wrSoft w.toNat s).resend s 0x8044 w.toNat))) ∧
    (∀ (c : BitVec 8) (high : Bool), outsideSource c.toNat = true → c.toNat < 96 →
      exec (.routerSourceEdge c high) s = run s (s.setSource c.toNat high) ∧
      (s.setSource c.toNat high).flag SRC_VAL c.toNat = high) ∧
    (∀ d : Fin 176, s.get RT_LEFT d ≠ 0 → Answers (.stretchEnd d) s fun t =>
      t.get RT_LEFT d = 0 ∧ t.flag RT_VAL d = false) ∧
    (∀ (m : Master) (l : Fin 40), Writes m (0x9A00 + 0x20 * l) s → s.get BS_LBTCTL.EN l = 1 →
      (∀ f ∈ BS_LBTCTL.reg.fields, s.get f l < 2 ^ f.width) →
      Answers (.lbtArm m l) s fun t => t.get BS_LBTCTL.ARM l = 1 ∧ t.get BS_LBTCTL.DONE l = 0) ∧
    (∀ (l : Fin 40) (ago : BitVec 24) (word : BitVec 32), s.get BS_LBTCTL.EN l = 1 → s.get BS_LBTCTL.ARM l = 1 →
      s.get BS_LBTCTL.SIDE l = 0 → s.txRuns l = true → s.get BS_TBSTAT.RUNNING = 1 →
      Answers (.lbtCapture l ago word) s fun t => t.get BS_LBTCTL.DONE l = 1 ∧ t.get BS_LBTCTL.ARM l = 0 ∧
        t.get BS_LBTWC.WORDS l = word.toNat ∧
        t.get BS_LBTT0.T l = (s.now + 2 ^ 80 - 25 * ago.toNat) % 2 ^ 80 % 2 ^ 32)

/-- A CLAIM of a free timer makes the writer its owner; on a timer of another owner it is refused with BT_TIMER_OWNED.
RELEASE by the owner of a stopped-by-EN timer frees it. The owner's EN runs the checks of Table BT-4: with none
failing EN is 1 and RUN is as written, else EN stays 0 and the code is in GH_REFUSE. The owner's write of RUN to an
enabled timer sets or clears RUN. BT_GO sets or clears RUN of every named timer that the writer owns, STOP winning,
and leaves the others. A completed BT_CNT write loads the count and clears the prescaler. BT_SNAPCMD copies the
named counts. A read of BT_CAP_LO clears CAPF of its channel and latches the high half. (R325, R326, R327, R332,
R333, R335, R336, R346, R348.) -/
def Obligations.TimerRegistersTakeEffect : Prop :=
  ∀ (s : State) (m : Master),
    (∀ (t : Fin 16) (assign : BitVec 3), Writes m (0xA104 + 0x80 * t) s →
      (m ≠ .gatehouse → s.get BT_OWN.OWNER t = 7 → Answers (.timerClaim m t assign) s fun u =>
        u.get BT_OWN.OWNER t = m.code) ∧
      (m ≠ .gatehouse → s.get BT_OWN.OWNER t ≠ 7 → s.get BT_OWN.OWNER t ≠ m.code →
        Answers (.timerClaim m t assign) s fun u => u.get BT_OWN.OWNER t = s.get BT_OWN.OWNER t ∧
          u.get GH_REFUSE.CODE = Rc.BT_TIMER_OWNED.num % 2 ^ 16) ∧
      (m = .gatehouse → Answers (.timerClaim m t assign) s fun u => u.get BT_OWN.OWNER t = assign.toNat) ∧
      (s.get BT_OWN.OWNER t = m.code → s.get BT_CTL.EN t = 0 → Answers (.timerRelease m t) s fun u =>
        u.get BT_OWN.OWNER t = 7)) ∧
    (∀ (t : Fin 16) (w : Word), Writes m (0xA100 + 0x80 * t) s → s.get BT_OWN.OWNER t = m.code →
      s.get BT_CTL.EN t = 0 → bit w.toNat 0 = true →
      let u := ([BT_CTL.ONESHOT, BT_CTL.PRELOAD, BT_CTL.FRZ] ++ btLocked).foldl
        (fun u f => u.put f (bits w.toNat f.lo f.width) t) s
      (u.btCheck m t = none → Answers (.timerEnable m t w) s fun v =>
        v.get BT_CTL.EN t = 1 ∧ v.get BT_CTL.RUN t = bits w.toNat 1 1 ∧ v.get BT_PSCNT t = 0) ∧
      (∀ r, u.btCheck m t = some r → Answers (.timerEnable m t w) s fun v =>
        v.get BT_CTL.EN t = 0 ∧ v.get GH_REFUSE.CODE = r.1.num % 2 ^ 16)) ∧
    (∀ (t : Fin 16) (on : Bool), Writes m (0xA100 + 0x80 * t) s → s.get BT_OWN.OWNER t = m.code →
      s.get BT_CTL.EN t = 1 → Answers (.timerRun m t on) s fun u =>
        u.get BT_CTL.RUN t = b2n on ∧ u.get BT_CTL.EN t = 1) ∧
    (∀ start stop : BitVec 16, Writes m 0xA004 s → Answers (.btGo m start stop) s fun u => ∀ t : Fin 16,
      u.get BT_CTL.RUN t = if s.btOwns m t && stop.getLsbD t then 0
        else if s.btOwns m t && start.getLsbD t then 1 else s.get BT_CTL.RUN t) ∧
    (∀ (t : Fin 16) (w : Word) (low : Nat), Writes m (0xA114 + 0x80 * t) s → s.get BT_OWN.OWNER t = m.code →
      s.heldLow m (0xA110 + 0x80 * t) = some low → Answers (.countLoad m t w) s fun u =>
        u.btCount t = low + 2 ^ 32 * (w.toNat % 2 ^ 16) ∧ u.get BT_PSCNT t = 0) ∧
    (∀ mask : BitVec 16, Writes m 0xA008 s → Answers (.snapshot m mask) s fun u => ∀ t : Fin 16,
      mask.getLsbD t = true → u.get BT_SNAP_LO.COUNT t = s.get BT_CNT_LO.COUNT t % 2 ^ 32 ∧
        u.get BT_SNAP_HI.COUNT t = s.get BT_CNT_HI.COUNT t % 2 ^ 16) ∧
    (∀ (t : Fin 16) (j : Fin 2), Reads m (0xA904 + 0x20 * (2 * t.val + j.val)) s → s.peeks m = false →
      let r := rdCapLo m (2 * t.val + j.val) s
      exec (.capLoRead m t j) s = run s (r.2.emit .busData [m.code, s.get BT_CAP_LO.COUNT (2 * t.val + j.val)]) ∧
      bit (r.2.get BT_STAT.CAPF t) j = false ∧
      ∀ c, r.2.latched m (0xA904 + 0x20 * (2 * t.val + j.val)) c =
        s.readReg BT_CAP_HI.reg (2 * t.val + j.val) % 2 ^ 32)

/-- Outside DORMANT: at a tick a running timer with CSRC PACE and no slave mode counts up by one, its capture channels
being off. A count input at TOP sets OVF and brings the count to 0, and clears RUN with ONESHOT. A count input that
takes the count to CMPk sets CMFk. A rising trigger edge starts a stopped TRIGGER timer and clears the count of a
RESET timer, and sets TRG. An accepted edge on a channel whose prescaler is due stores the count, sets VALID and
CAPF; one that is not due advances the edge counter. In DORMANT an LFXO edge performs an LF step, and the time base
in LF steps 2,000,000,000 units. An access to a window of this device is the control-bus access of its offset. (R40,
R323, R329, R330, R331, R332, R338, R340, R344, R345, R351.) -/
def Obligations.TimersCountMatchAndCapture : Prop :=
  ∀ s : State, Awake s →
    (s.mode ≠ mDORMANT →
    (∀ (lfxo : Bool) (t : Fin 16), s.get STAGE_FREQ ≠ 0 → s.btCounting t = true → s.get BT_CTL.CSRC t = 0 →
      s.get BT_CTL.SMODE t = 0 → s.btCount t ≠ s.get TOP_ACT t → s.btCount t + 1 < 2 ^ 48 →
      s.get BT_KCFG.CEN (2 * t.val) = 0 → s.get BT_KCFG.CEN (2 * t.val + 1) = 0 →
      Answers (.timerTick lfxo) s fun u => u.btCount t = s.btCount t + 1) ∧
    (∀ t : Fin 16, s.btCounting t = true → s.btCount t = s.get TOP_ACT t → Answers (.timerOverflow t) s fun u =>
      u.get BT_STAT.OVF t = 1 ∧ u.btCount t = 0 ∧ (s.get BT_CTL.ONESHOT t = 1 → u.get BT_CTL.RUN t = 0)) ∧
    (∀ (t : Fin 16) (k : Fin 4), s.btCounting t = true → s.btCount t ≠ s.get TOP_ACT t →
      s.btCount t + 1 = s.get CMP_ACT (4 * t + k) → s.btCount t + 1 < 2 ^ 48 →
      Answers (.compareMatch t k) s fun u => bit (u.get BT_STAT.CMF t) k = true ∧ u.btCount t = s.btCount t + 1) ∧
    (∀ t : Fin 16, s.btTrigger t = true → s.get TRIG_LAST t = 0 → s.get BT_CTL.EN t = 1 → s.btFrozen t = false →
      (s.get BT_CTL.SMODE t = 3 → s.get BT_CTL.RUN t = 0 → Answers (.triggerEdge t) s fun u =>
        u.get BT_CTL.RUN t = 1 ∧ u.get BT_STAT.TRG t = 1) ∧
      (s.get BT_CTL.SMODE t = 2 → Answers (.triggerEdge t) s fun u =>
        u.btCount t = 0 ∧ u.get BT_STAT.TRG t = 1)) ∧
    (∀ (t : Fin 16) (j : Fin 2),
      let c := 2 * t.val + j.val
      s.get BT_CTL.EN t = 1 → s.get BT_KCFG.CEN c = 1 →
      (s.get BT_KCFG.PSC c ≤ s.get KEDGES c → Answers (.capture t j) s fun u =>
        u.get BT_CAP_LO.COUNT c = s.btCount t % 2 ^ 32 ∧ u.get BT_CAP_HI.COUNT c = s.btCount t / 2 ^ 32 % 2 ^ 16 ∧
          u.get BT_CAP_HI.VALID c = 1 ∧ bit (u.get BT_STAT.CAPF t) j = true ∧ u.get KEDGES c = 0) ∧
      (s.get KEDGES c < s.get BT_KCFG.PSC c → Answers (.capture t j) s fun u =>
        u.get KEDGES c = (s.get KEDGES c + 1) % 2 ^ KEDGES.width ∧
          u.get BT_CAP_LO.COUNT c = s.get BT_CAP_LO.COUNT c)) ∧
    (∀ (m : Master) (n : BitVec 8) (off : BitVec 20), s.reach n.toNat = .here → off.toNat % 4 = 0 →
      (∀ w : Word, exec (.fabricWindowAccess m n off (some w)) s = run s (busWrite m off.toNat w.toNat s)) ∧
      exec (.fabricWindowAccess m n off none) s =
        run s ((busRead m off.toNat s).2.emit .busData [m.code, (busRead m off.toNat s).1]))) ∧
    (s.mode = mDORMANT → bit (s.get CK_REFSTAT.PRESENT) 12 = true → s.get BS_TBSTAT.LF = 1 →
      ((s.put TCOUNT (s.get TCOUNT + 2000000000 * 65536)).put LF_MATCHED 0).lfStep.get LF_MATCHED = 0 →
      exec .lfxoEdgeDormant s =
        run s ((s.put TCOUNT (s.get TCOUNT + 2000000000 * 65536)).put LF_MATCHED 0).lfStep)

/-- Enabling a context in OFF that passes Table OG-1 and binds its queues makes it IDLE; a failing check leaves EN 0
with the code in GH_REFUSE. Clearing EN of a context without a job takes it to OFF. In RUN an IDLE context with a
length word at its job queue takes that job; a slice's end makes a preemption due where a rival waits; a due
preemption puts the running context into READY and the engine chooses; a due abort ends its job with OG_ABORTED. A
context in WAIT_IN with a word to pop, and one in WAIT_OUT with room, become READY behind the others while the
engine is active. The engine goes on with the current job. ABORT marks a running job and ends another one at once;
RESUME takes HALTED to IDLE. Where it rests on the model's own readings: log entries 11, 42 and 43. (R358, R361,
R362, R365, R376, R378, R380, R381, R382, R384, R385, R386.) -/
def Obligations.ContextsAndJobsMove : Prop :=
  ∀ s : State, Awake s →
    (∀ (m : Master) (c : Fin 64) (w : Word), Writes m (0x19000 + 0x40 * c) s →
      let u := (s.writeReg m OG_CCFG.reg c w.toNat).put OG_CCFG.EN 0 c
      (s.get OG_CCFG.EN c = 0 → s.ogState c = ogOFF → bit w.toNat 0 = true →
        (∀ t, u.ogCheck m c = none → u.ogBind c = .inr t → Answers (.contextEnable m c w) s fun v =>
          v.get OG_CCFG.EN c = 1 ∧ v.ogState c = ogIDLE) ∧
        (∀ r, u.ogCheck m c = some r → Answers (.contextEnable m c w) s fun v =>
          v.get OG_CCFG.EN c = 0 ∧ v.ogState c = ogOFF ∧ v.get GH_REFUSE.CODE = r.1.num % 2 ^ 16)) ∧
      (s.get OG_CCFG.EN c = 1 → s.ogBusy c = false → bit w.toNat 0 = false →
        Answers (.contextEnable m c w) s fun v => v.get OG_CCFG.EN c = 0 ∧ v.ogState c = ogOFF)) ∧
    (∀ (c : Fin 64) (lw : Nat) (t : State), s.mode = mRUN → s.get OG_CCFG.EN c = 1 → s.ogState c = ogIDLE →
      ogStray (s.queueSlots (s.get OG_CQ.JQ c) + 1) c s = (some lw, t) →
      exec (.jobFetch c) s = run s (t.ogTake c lw)) ∧
    (s.get OG_STAT.ACTIVE = 1 → s.mode = mRUN →
      (s.ogRival = true → Answers .sliceEnd s fun t => t.get OG_DUE = 1) ∧
      (s.ogRival = false → Answers .sliceEnd s fun t => t.get OG_DUE = s.get OG_DUE) ∧
      exec .jobEnd s = run s (s.ogRun (s.get OG_STAT.CUR)) ∧
      (s.get OG_ABORTING (s.get OG_STAT.CUR) = 1 → exec .preemptionPoint s =
        run s ((s.put OG_ABORTING 0 (s.get OG_STAT.CUR)).ogEnd (s.get OG_STAT.CUR) Rc.OG_ABORTED)) ∧
      (s.get OG_ABORTING (s.get OG_STAT.CUR) = 0 → s.get OG_DUE = 1 →
        exec .preemptionPoint s = run s s.ogPreempt.ogSchedule ∧
        s.ogPreempt.ogState (s.get OG_STAT.CUR) = ogREADY ∧
        (s.ogState (s.get OG_STAT.CUR) = ogRUN → s.ogPreempt.get OG_STAT.ACTIVE = 0))) ∧
    (∀ c : Fin 64, s.get OG_STAT.ACTIVE = 1 →
      (s.ogState c = ogWAIT_IN → (s.anyLane (s.get OG_CQ.DQ c)).isSome = true →
        Answers (.contextInputReady c) s fun t =>
          t.ogState c = ogREADY ∧ t.list OG_WAITERS = s.list OG_WAITERS ++ [c.val]) ∧
      (s.ogState c = ogWAIT_OUT → s.ogRoom c = true → Answers (.contextOutputReady c) s fun t =>
        t.ogState c = ogREADY ∧ t.list OG_WAITERS = s.list OG_WAITERS ++ [c.val])) ∧
    (∀ (m : Master) (c : Fin 64), Writes m (0x19014 + 0x40 * c) s →
      (s.ogState c = ogRUN → Answers (.jobAbort m c) s fun t => t.get OG_ABORTING c = 1 ∧ t.ogState c = ogRUN) ∧
      (s.ogBusy c = true → s.ogState c ≠ ogRUN →
        exec (.jobAbort m c) s = run s ((s.ogEnd c Rc.OG_ABORTED).resend s (0x19014 + 0x40 * c) 2)) ∧
      (s.ogState c = ogHALTED → Answers (.contextResume m c) s fun t => t.ogState c = ogIDLE))

/-- Where no busy context owns the word at WADDR: a completed write of OG_WSDATA stores the 64-bit word with its check
bits, and WADDR goes on by one with INC, every other word of every memory being left; a read by a consuming master
returns the low half of a clean word, clears CE and UE of OG_WSSTAT, latches the high half and advances likewise.
Where a busy context owns it, both leave memory as it is and set REFUSED. (R364, R387, R19.) -/
def Obligations.WorkspaceIsReachedThroughItsWindow : Prop :=
  ∀ (s : State) (m : Master),
    let a := s.get OG_WSADDR.WADDR
    (∀ (w : Word) (low : Nat), Writes m 0x18028 s → s.heldLow m 0x18024 = some low →
      (s.wsOwner a = none → Answers (.wsIndirectWrite m w) s fun t =>
        t.load .workspace a = low + 2 ^ 32 * w.toNat + 2 ^ 64 * eccOf (low + 2 ^ 32 * w.toNat) ∧
        (s.get OG_WSADDR.INC = 1 → t.get OG_WSADDR.WADDR = (a + 1) % 2 ^ OG_WSADDR.WADDR.width) ∧
        ∀ g b, Region.base g + b ≠ Region.base .workspace + a → t.load g b = s.load g b) ∧
      (∀ c, s.wsOwner a = some c → Answers (.wsIndirectWrite m w) s fun t =>
        t.get OG_WSSTAT.REFUSED = 1 ∧ t.mem = s.mem)) ∧
    (Reads m 0x18024 s → s.peeks m = false →
      (s.wsOwner a = none → (s.wsLook a).kind = .clean →
        exec (.wsIndirectRead m) s = run s ((rdWsDataLo m s).2.emit .busData [m.code, (s.wsLook a).data % 2 ^ 32]) ∧
        (rdWsDataLo m s).2.get OG_WSSTAT.CE = 0 ∧ (rdWsDataLo m s).2.get OG_WSSTAT.UE = 0 ∧
        (∀ c, (rdWsDataLo m s).2.latched m 0x18024 c = (s.wsLook a).data / 2 ^ 32 % 2 ^ 32) ∧
        (s.get OG_WSADDR.INC = 1 → (rdWsDataLo m s).2.get OG_WSADDR.WADDR = (a + 1) % 2 ^ OG_WSADDR.WADDR.width)) ∧
      (∀ c, s.wsOwner a = some c →
        exec (.wsIndirectRead m) s = run s ((rdWsDataLo m s).2.emit .busData [m.code, 0]) ∧
        (rdWsDataLo m s).2.get OG_WSSTAT.REFUSED = 1))

/-- Enabling a bank that passes the checks of R397 sets EN and VSEL, else EN stays 0 with the code in GH_REFUSE. A lost
VIO clears OK, and on an enabled bank that was OK sets IO_IRQ.VIO; a restored one sets OK where it measures VSEL. A
pin's owner enables it after the checks of Table IO-4 and disables it unless it has claims (IO_PIN_IN_USE). RENEW
renews the array's claim of a pin in RUN that no other level holds. A serialiser group that passes its checks is
enabled; BITSLIP on an enabled group makes its next word a first one. (R397, R398, R399, R400, R402, R410, R415,
R417.) -/
def Obligations.BanksPinsAndGroupsAreEnabled : Prop :=
  ∀ s : State, Awake s →
    (∀ (m : Master) (b : Fin 12) (w : Word), Writes m (0x2100 + 8 * b) s → s.unlocked m = true →
      (s.get IO_BCFG.EN b = 0 → bit w.toNat 0 = true →
        (s.bankCheck m b (bits w.toNat 1 3) = none → Answers (.bankEnable m b w) s fun t =>
          t.get IO_BCFG.EN b = 1 ∧ t.get IO_BCFG.VSEL b = bits w.toNat 1 3) ∧
        (∀ r, s.bankCheck m b (bits w.toNat 1 3) = some r → Answers (.bankEnable m b w) s fun t =>
          t.get IO_BCFG.EN b = 0 ∧ t.get GH_REFUSE.CODE = r.1.num % 2 ^ 16)) ∧
      (s.get IO_BCFG.EN b = 1 → bit w.toNat 0 = false → s.bankAbsent b = false →
        ((List.range 48).any fun i => s.flag IO_PCFG.EN (48 * b + i)) = false →
        Answers (.bankEnable m b w) s fun t => t.get IO_BCFG.EN b = 0)) ∧
    (∀ (b : Fin 12) (vdet : BitVec 3),
      (Answers (.vioLost b vdet) s fun t => t.get IO_BSTAT.OK b = 0 ∧ t.get IO_BSTAT.VDET b = vdet.toNat ∧
        (s.get IO_BSTAT.OK b = 1 → s.get IO_BCFG.EN b = 1 → t.get IO_IRQ.VIO = 1)) ∧
      (Answers (.vioRestored b vdet) s fun t => t.get IO_BSTAT.VDET b = vdet.toNat ∧
        t.get IO_BSTAT.OK b = b2n (vdet.toNat = s.get IO_BCFG.VSEL b))) ∧
    (∀ (m : Master) (p : Fin 576) (w : Word), Writes m (0x2400 + 4 * p) s →
      s.pinOwns m (s.get IO_PCFG.OWNER p) = true → s.pinAbsent p = false →
      (s.get IO_PCFG.EN p = 0 → bit w.toNat 0 = true →
        ((s.storePcfg m p w.toNat).pinCheck m p = none → Answers (.pinEnable m p w) s fun t =>
          t.get IO_PCFG.EN p = 1) ∧
        (∀ r, (s.storePcfg m p w.toNat).pinCheck m p = some r → Answers (.pinEnable m p w) s fun t =>
          t.get IO_PCFG.EN p = 0 ∧ t.get GH_REFUSE.CODE = r.1.num % 2 ^ 16)) ∧
      (s.get IO_PCFG.EN p = 1 → bit w.toNat 0 = false →
        (s.get IO_PCLM.CLAIMS p = 0 → Answers (.pinEnable m p w) s fun t => t.get IO_PCFG.EN p = 0) ∧
        (s.get IO_PCLM.CLAIMS p ≠ 0 → Answers (.pinEnable m p w) s fun t =>
          t.get IO_PCFG.EN p = 1 ∧ t.get GH_REFUSE.CODE = Rc.IO_PIN_IN_USE.num % 2 ^ 16))) ∧
    (∀ (m : Master) (p : Fin 585), Writes m (0x3000 + 4 * p) s → s.mode = mRUN →
      bit (s.get IO_PCLM.CLAIMS p) 5 = false → s.claimCheck lvARRAY p = none →
      (if p.val < 576 then s.pinOwns m (s.get IO_PCFG.OWNER p) = true ∧ s.get IO_PCFG.ARR p ≠ 0
        else m = .gatehouse ∧ bit (s.get IO_CTARR.ARR) (p - 576) = true) →
      Answers (.renew m p) s fun t => bit (t.get IO_PCLM.CLAIMS p) 5 = true ∧
        (s.get IO_PCLM.CLAIMS p = 0 → t.get IO_PCLM.HOLDER p = lvARRAY)) ∧
    (∀ (m : Master) (g : Fin 12), Writes m (0x2300 + 4 * g) s →
      s.pinOwns m (s.get IO_PCFG.OWNER ((groupPins g).headD 0)) = true →
      (∀ w : Word, s.get IO_SERCFG.EN g = 0 → bit w.toNat 0 = true → bit w.toNat 6 = false →
        let u := (s.writeReg m IO_SERCFG.reg g w.toNat).put IO_SERCFG.EN 0 g
        (u.groupCheck m g = none → u.get IO_SERCFG.DIR g = 1 → Answers (.serGroupEnable m g w) s fun t =>
          t.get IO_SERCFG.EN g = 1 ∧ t.get SER_FIRST g = 1) ∧
        (∀ v, u.groupCheck m g = none → u.get IO_SERCFG.DIR g = 0 → u.claimAll lvARRAY (groupPins g) = .inr v →
          Answers (.serGroupEnable m g w) s fun t => t.get IO_SERCFG.EN g = 1 ∧ t.get SER_FIRST g = 1) ∧
        (∀ r, u.groupCheck m g = some r → Answers (.serGroupEnable m g w) s fun t =>
          t.get IO_SERCFG.EN g = 0 ∧ t.get GH_REFUSE.CODE = r.1.num % 2 ^ 16)) ∧
      (s.get IO_SERCFG.EN g = 1 → Answers (.bitslip m g) s fun t =>
        t.get IO_SERCFG.EN g = 1 ∧ t.get SER_FIRST g = 1))

/-- A GO of a quad PLL that passes Table SL-2 with EN 1 starts it (ACQUIRE, BUSY); a failing check leaves EN and STATE
and puts the code into GH_REFUSE. Its lock shows LOCKED, with BUSY 0 unless a HOLD slew begins; an expired lock time
shows FAULT; a lost lock shows HOLDOVER with LOL. A lane that passes Table SL-4 is enabled with owner ARRAY;
clearing EN frees it, or is refused with SL_LANE_BUSY while a crossing port is attached. Clock recovery and
alignment changes are shown. RST clears the word counts and MARK; a write of MARK alone sets it. (R430, R431, R435,
R438, R439, R440, R442, R451, R456.) -/
def Obligations.QuadPllsAndLanesTakeEffect : Prop :=
  ∀ s : State, Awake s →
    (∀ (m : Master) (q : Fin 10) (w : Word), Writes m (0x7108 + 0x20 * q) s → bit w.toNat 1 = true →
      (s.quadCheck m q (s.get SL_QCFG.RDIV q) (s.get SL_QCFG.N q) (s.get SL_QFRAC.F q) = none →
        bit w.toNat 0 = true → Answers (.qpllGo m q w) s fun t => t.get SL_QCTL.EN q = 1 ∧
          t.get SL_QSTAT.STATE q = ckACQUIRE ∧ t.get SL_QSTAT.BUSY q = 1) ∧
      (∀ r, s.quadCheck m q (s.get SL_QCFG.RDIV q) (s.get SL_QCFG.N q) (s.get SL_QFRAC.F q) = some r →
        Answers (.qpllGo m q w) s fun t => t.get SL_QCTL.EN q = s.get SL_QCTL.EN q ∧
          t.get SL_QSTAT.STATE q = s.get SL_QSTAT.STATE q ∧
          (s.quadAbsent q = false → t.get GH_REFUSE.CODE = r.1.num % 2 ^ 16))) ∧
    (s.mode ≠ mDORMANT → ∀ q : Fin 10,
      (s.get SL_QSTAT.STATE q = ckACQUIRE → s.quadPx q = false →
        (s.get STAGE_POL (6 + q) ≠ 0 → Answers (.qpllLocked q) s fun t =>
          t.get SL_QSTAT.STATE q = ckLOCKED ∧ t.get SL_QSTAT.BUSY q = 0) ∧
        (s.get STAGE_POL (6 + q) = 0 → s.get STAGE_FREQ (6 + q) ≠ s.get STAGE_NEXT (6 + q) →
          Answers (.qpllLocked q) s fun t =>
            t.get SL_QSTAT.STATE q = ckLOCKED ∧ t.get CK_OSTAT.PHASE (6 + q) = phSLEWING)) ∧
      (s.get SL_QSTAT.STATE q = ckACQUIRE → s.get SL_QSTAT.BUSY q = 1 → Answers (.slQpllLockTimeout q) s fun t =>
        t.get SL_QSTAT.STATE q = ckFAULT ∧ t.get SL_QSTAT.BUSY q = 0 ∧ t.get SL_IRQ.QPLL = 1) ∧
      (s.get SL_QSTAT.STATE q = ckLOCKED → Answers (.slQpllLost q) s fun t =>
        t.get SL_QSTAT.STATE q = ckHOLDOVER ∧ t.get SL_QSTAT.LOL q = 1 ∧ t.get SL_IRQ.QPLL = 1)) ∧
    (∀ (m : Master) (l : Fin 40) (w : Word), Writes m (0x7400 + 0x40 * l) s → s.laneAbsent l = false →
      (s.get SL_LCFG.EN l = 0 → bit w.toNat 0 = true → s.laneOwner l ≠ owPCIE → s.laneOwner l ≠ owHOKUOX →
        let u := (s.writeReg m SL_LCFG.reg l w.toNat).put SL_LCFG.EN 0 l
        (u.laneCheck m l = none → Answers (.laneEnable m l w) s fun t =>
          t.get SL_LCFG.EN l = 1 ∧ t.get SL_LSTAT.OWNER l = owARRAY) ∧
        (∀ r, u.laneCheck m l = some r → Answers (.laneEnable m l w) s fun t =>
          t.get SL_LCFG.EN l = 0 ∧ t.get GH_REFUSE.CODE = r.1.num % 2 ^ 16)) ∧
      (s.get SL_LCFG.EN l = 1 → bit w.toNat 0 = false →
        (s.lanePorts l = [] → Answers (.laneEnable m l w) s fun t =>
          t.get SL_LCFG.EN l = 0 ∧ t.get SL_LSTAT.OWNER l = owNONE) ∧
        (s.lanePorts l ≠ [] → Answers (.laneEnable m l w) s fun t =>
          t.get SL_LCFG.EN l = 1 ∧ t.get GH_REFUSE.CODE = Rc.SL_LANE_BUSY.num % 2 ^ 16))) ∧
    (s.mode ≠ mDORMANT → ∀ l : Fin 40, s.rxRuns l = true →
      (∀ locked sigdet : Bool, Answers (.cdrLockChange l locked sigdet) s fun t =>
        t.get SL_LSTAT.CDR l = b2n locked ∧ t.get SL_LSTAT.SIGDET l = b2n sigdet ∧
          (locked = false → t.get SL_LSTAT.ALIGNED l = 0)) ∧
      (∀ aligned : Bool, s.get SL_LSTAT.CDR l = 1 → 3 ≤ s.get SL_LCFG.PCS l → Answers (.alignChange l aligned) s
        fun t => t.get SL_LSTAT.ALIGNED l = b2n aligned)) ∧
    (∀ (m : Master) (l : Fin 40), Writes m (0x7404 + 0x40 * l) s → s.laneAbsent l = false →
      (s.lanePorts l = [] → Answers (.laneRst m l) s fun t => t.get LANE_TXW l = 0 ∧ t.get LANE_RXW l = 0 ∧
        t.get SL_LCTL.MARK l = 0) ∧
      (Answers (.laneMark m l) s fun t => t.get SL_LCTL.MARK l = 1 ∧ t.get LANE_TXW l = s.get LANE_TXW l))

/-- On a lane that is present, not of the endpoint or Hokuox, with no crossing port: a write of SL_LTEST stores LOOP,
PRBS_TX and PRBS_RX, and INJ has the next bit sent inverted. On a lane of the endpoint or Hokuox a write that would
switch a test on is refused with SL_LANE_OWNED. A PRBS check takes the 64 bits in order of time; against the
pattern, a wrong bit of a locked checker is counted, and the 64th right bit in a row locks it. GO starts an eye scan
with CDR and ends it at once with all ones without; a scan's end shows its count. (R435, R452, R453, R455.) -/
def Obligations.LaneTestsAndEyeScansAct : Prop :=
  ∀ s : State, Awake s →
    (∀ (m : Master) (l : Fin 40), Writes m (0x7420 + 0x40 * l) s → s.laneAbsent l = false →
      (s.laneOwner l ≠ owPCIE → s.laneOwner l ≠ owHOKUOX → s.lanePorts l = [] →
        (∀ w : Word, Answers (.laneTestWrite m l w) s fun t =>
          ∀ f ∈ [SL_LTEST.LOOP, SL_LTEST.PRBS_TX, SL_LTEST.PRBS_RX],
            t.get f l = (s.writeReg m SL_LTEST.reg l w.toNat).get f l) ∧
        (Answers (.inj m l) s fun t => ⟨.serial, [0x100 + l.val, 1]⟩ ∈ t.out)) ∧
      (∀ w : Word, s.laneOwner l = owHOKUOX →
        (let u := s.writeReg m SL_LTEST.reg l w.toNat
         u.get SL_LTEST.LOOP l + u.get SL_LTEST.PRBS_TX l + u.get SL_LTEST.PRBS_RX l ≠ 0) →
        Answers (.laneTestWrite m l w) s fun t => t.get GH_REFUSE.CODE = Rc.SL_LANE_OWNED.num % 2 ^ 16 ∧
          t.get SL_LTEST.LOOP l = s.get SL_LTEST.LOOP l ∧ t.get SL_LTEST.PRBS_RX l = s.get SL_LTEST.PRBS_RX l)) ∧
    (∀ (l : Fin 40) (line : BitVec 64), s.get SL_LTEST.PRBS_RX l ≠ 0 → s.get SL_LCFG.EN l = 1 → s.rxRuns l = true →
      s.mode ≠ mDORMANT →
      exec (.prbsCheck l line) s = run s ((List.range 64).foldl (fun u i => u.prbsBit l (bit line.toNat i)) s)) ∧
    (∀ (l : Fin 40) (b : Bool),
      let t := prbsTaps (s.get SL_LTEST.PRBS_RX l)
      let want := bit (s.get PRBS_REG l) (t.1 - 1) != bit (s.get PRBS_REG l) (t.2 - 1)
      (s.get SL_LTEST.PRBS_LOCK l = 1 → b ≠ want → (s.prbsBit l b).get SL_LPRBSERR.COUNT l =
        min (s.get SL_LPRBSERR.COUNT l + 1) (2 ^ SL_LPRBSERR.COUNT.width - 1)) ∧
      (s.get SL_LTEST.PRBS_LOCK l = 0 → s.get PRBS_GOOD l = 63 → b = want →
        (s.prbsBit l b).get SL_LTEST.PRBS_LOCK l = 1) ∧
      (s.get SL_LTEST.PRBS_LOCK l = 0 → b ≠ want → (s.prbsBit l b).get PRBS_GOOD l = 0 ∧
        (s.prbsBit l b).get SL_LTEST.PRBS_LOCK l = 0)) ∧
    (∀ (m : Master) (l : Fin 40) (w : Word), Writes m (0x7428 + 0x40 * l) s → s.laneAbsent l = false →
      s.get SL_LEYE.BUSY l = 0 →
      (s.get SL_LSTAT.CDR l = 1 → Answers (.eyeScanGo m l w) s fun t =>
        t.get SL_LEYE.BUSY l = 1 ∧ t.get SL_LEYE.DONE l = 0) ∧
      (s.get SL_LSTAT.CDR l = 0 → Answers (.eyeScanGo m l w) s fun t =>
        t.get SL_LEYE.BUSY l = 0 ∧ t.get SL_LEYE.DONE l = 1 ∧ t.get SL_LEYERES.COUNT l = 0xFFFFFFFF)) ∧
    (∀ (l : Fin 40) (count : BitVec 32), s.get SL_LEYE.BUSY l = 1 → Answers (.eyeScanDone l count) s fun t =>
      t.get SL_LEYERES.COUNT l = count.toNat ∧ t.get SL_LEYE.BUSY l = 0 ∧ t.get SL_LEYE.DONE l = 1)

/-- With the link up, a configuration read is answered with its DWORD and a write stores the bits that the host can
write under the byte enables. In D0, outside DORMANT, a one-word BAR0 write or read with all byte enables is the
access of its fabric address. A BAR2 write to a window that nothing can answer is counted; otherwise requests enter
the window's queues; in D3hot a BAR2 read is an Unsupported Request. A 4-byte MSI-X table write stores the DWORD and
changes no other word of any memory, a read returns it. A push doorbell pushes into the channel's lane, or sets
DMA_ERR where it is not a push. A guard time answers the oldest read of its window by its policy and is counted; a
write that waits too long is dropped and counted. Where it rests on the model's own readings: log entries 26, 28 and
29. (R465, R467, R468, R470, R472, R473, R474, R475, R486, R490, R491.) -/
def Obligations.HostRequestsReachTheirWindows : Prop :=
  ∀ s : State, Awake s → s.linkUp = true →
    (∀ (d : BitVec 10) (be : BitVec 4) (w : Word) (tag : BitVec 10), s.mode ≠ mTEST →
      exec (.configRequest false d be w tag) s = run s (s.hostData tag.toNat (s.cfgRead d.toNat)) ∧
      (let mask := ((List.range 4).map fun i => if bit be.toNat i then 0xFF * 256 ^ i else 0).sum &&& s.cfgMask d.toNat
       Answers (.configRequest true d be w tag) s fun t => t.load .cfgSpace d.toNat =
         ((s.load .cfgSpace d.toNat &&& (0xFFFFFFFF - mask)) ||| (w.toNat &&& mask)) % 2 ^ 80)) ∧
    (s.get PX_LINK.DSTATE = 0 → s.mode ≠ mDORMANT → ∀ addr : BitVec 26,
      (∀ w : Word, exec (.bar0Request (.write w []) addr 15 15) s =
        run s (s.windowWrite .host (4 * addr.toNat) w.toNat)) ∧
      (∀ (tag : BitVec 10) (v : Nat) (t : State), s.windowRead .host (4 * addr.toNat) tag.toNat = (.data v, t) →
        exec (.bar0Request (.read 0 tag) addr 15 15) s = run s (t.hostData tag.toNat (v &&& 0xFFFFFFFF)))) ∧
    (∀ (k : Fin 16) (off : BitVec 32) (fbe lbe : BitVec 8) (w : BitVec 64) (more : List (BitVec 64)),
      s.get PX_LINK.DSTATE = 0 →
      (s.windowIdle k = true → Answers (.bar2Write k off fbe lbe w more) s fun t =>
        t.get PX_WDROP.NODESIGN = min (s.get PX_WDROP.NODESIGN + 1) (2 ^ PX_WDROP.NODESIGN.width - 1) ∧
          t.get PX_IRQ.WDROP = 1 ∧ t.list PX_WQ k = s.list PX_WQ k) ∧
      (s.windowIdle k = false →
        let ps := pxParts (more.length + 1) false true (off.toNat / 8 * 8) (more.length + 1) fbe.toNat lbe.toNat
        let es := writeExchanges (s.get PX_SEQ) ps (w.toNat :: more.map BitVec.toNat)
        exec (.bar2Write k off fbe lbe w more) s =
          run s (((s.put PX_SEQ (s.get PX_SEQ + 1)).setList PX_WQ (s.list PX_WQ k ++ es) k).pxPump))) ∧
    (∀ (k : Fin 16) (off : BitVec 32) (fbe lbe : BitVec 8) (more : Fin 513) (tag : BitVec 10),
      (s.get PX_LINK.DSTATE ≠ 0 → exec (.bar2Read k off fbe lbe more tag) s = run s (s.hostUnsup tag.toNat)) ∧
      (s.get PX_LINK.DSTATE = 0 → s.windowIdle k = false →
        let ps := pxParts (more + 1) true true (off.toNat / 8 * 8) (more + 1) fbe.toNat lbe.toNat
        let u := (s.put PX_SEQ (s.get PX_SEQ + 1)).enq PX_RD
          (rdEntry (s.get PX_SEQ) tag.toNat (s.get PX_GUARD.POLICY) (more + 1)) k
        exec (.bar2Read k off fbe lbe more tag) s =
          run s ((u.setList PX_WQ (s.list PX_WQ k ++ readExchanges (s.get PX_SEQ) ps) k).pxPump))) ∧
    (∀ (i : Fin 8192) (w : BitVec 64) (tag : BitVec 10), s.get PX_LINK.DSTATE = 0 →
      (Answers (.msixTableAccess true (BitVec.ofNat 20 (0x80000 + 4 * i)) 4 w tag) s fun t =>
        t.load .msix i = msixStored i (w.toNat % 2 ^ 32) ∧
        ∀ g b, Region.base g + b ≠ Region.base .msix + i.val → t.load g b = s.load g b) ∧
      exec (.msixTableAccess false (BitVec.ofNat 20 (0x80000 + 4 * i)) 4 w tag) s =
        run s (s.hostData tag.toNat (msixShown i (s.load .msix i)))) ∧
    (∀ (c : Fin 32) (v : BitVec 64), s.get PX_LINK.DSTATE = 0 →
      (s.get PX_CHCFG.EN c = 1 → s.get PX_CHCFG.PUSH c = 1 →
        let r := s.qNow { who := dmaCode c, queue := s.get PX_CHCFG.QUEUE c, op := opPUSH,
                          lane := s.get PX_CHCFG.LANE c, any := false, block := false, data := v.toNat }
        exec (.pushDoorbell c true v) s = run s (if r.1.status = stOK then r.2.chBytes c 8 else r.2)) ∧
      (s.get PX_CHCFG.EN c = 0 → Answers (.pushDoorbell c true v) s fun t => t.get PX_IRQ.DMA_ERR = 1)) ∧
    (∀ (k : Fin 16) (r : Nat) (rest : List Nat), s.list PX_RD k = r :: rest →
      Answers (.readGuardExpiry (.window k)) s fun t => t.get PX_IRQ.GUARD = 1 ∧ t.list PX_RD k = rest ∧
        t.get PX_GCNT.GUARDED = min (s.get PX_GCNT.GUARDED + 1) (2 ^ PX_GCNT.GUARDED.width - 1)) ∧
    (∀ (k : Fin 16) (e : Nat), (s.list PX_WQ k).find? exWrite = some e → Answers (.writeGuardExpiry k) s fun t =>
      t.get PX_IRQ.WDROP = 1 ∧ t.get PX_WDROP.GUARD = min (s.get PX_WDROP.GUARD + 1) (2 ^ PX_WDROP.GUARD.width - 1))

/-- Enabling a channel that passes Table PX-7 sets EN with HEAD, TAIL and the byte count 0, IDLE unless it must pause; a
failing check leaves EN 0 with the code in GH_REFUSE; clearing EN of a channel with no open packet leaves it OFF. A
tail doorbell sets TAIL, and halts the channel with PX_RING_OVER where more is posted than the ring holds. A turn of
a channel between descriptors asks the host for 32 bytes of the next one. A good completion's bytes are staged; an
error or a timeout halts the channel with its code. A due flush ends the data of a descriptor; completing it
advances HEAD. (R478, R479, R480, R482, R483, R484, R485, R487, R488, R489.) -/
def Obligations.DmaChannelsMove : Prop :=
  ∀ s : State, Awake s →
    (∀ (m : Master) (c : Fin 64) (w : Word), Writes m (0x21000 + 0x40 * c) s →
      let u := (s.writeReg m PX_CHCFG.reg c w.toNat).put PX_CHCFG.EN 0 c
      (s.get PX_CHCFG.EN c = 0 → bit w.toNat 0 = true →
        (u.chCheck c = none → Answers (.channelEnable m c w) s fun t => t.get PX_CHCFG.EN c = 1 ∧
          t.get PX_HEAD.HEAD c = 0 ∧ t.get PX_TAIL.TAIL c = 0 ∧ t.get PX_CHBYTES_LO.BYTES c = 0 ∧
          t.get PX_CHSTAT.STATE c = if s.chHold then chPAUSED else chIDLE) ∧
        (∀ r, u.chCheck c = some (r, false) → Answers (.channelEnable m c w) s fun t =>
          t.get PX_CHCFG.EN c = 0 ∧ t.get GH_REFUSE.CODE = r.1.num % 2 ^ 16)) ∧
      (s.get PX_CHCFG.EN c = 1 → bit w.toNat 0 = false → s.get CH_OPEN c = 0 →
        (s.writeReg m PX_CHCFG.reg c w.toNat).readReg PX_CHCFG.reg c / 2 = s.readReg PX_CHCFG.reg c / 2 →
        Answers (.channelEnable m c w) s fun t => t.get PX_CHCFG.EN c = 0 ∧ t.get PX_CHSTAT.STATE c = chOFF)) ∧
    (∀ (c : Fin 64) (v : Word), s.linkUp = true → s.get PX_LINK.DSTATE = 0 → s.get PX_CHCFG.EN c = 1 →
      s.get PX_CHCFG.PUSH c = 0 → s.get PX_CHSTAT.STATE c ≠ chHALTED →
      ((s.put PX_TAIL.TAIL v.toNat c).posted c ≤ 2 ^ s.get PX_RSIZE.RSIZE c → Answers (.tailDoorbell c v) s fun t =>
        t.get PX_TAIL.TAIL c = v.toNat) ∧
      (2 ^ s.get PX_RSIZE.RSIZE c < (s.put PX_TAIL.TAIL v.toNat c).posted c → s.get CH_OPEN c = 0 →
        Answers (.tailDoorbell c v) s fun t => t.get PX_CHSTAT.STATE c = chHALTED ∧
          t.get PX_CHSTAT.LAST c = Rc.PX_RING_OVER.num % 2 ^ PX_CHSTAT.LAST.width)) ∧
    (∀ i, s.mode ≠ mDORMANT → s.linkUp = true →
      ((List.range 64).find? fun i => s.chReady ((s.get PX_SERVED + 1 + i) % 64)) = some i →
      let c := (s.get PX_SERVED + 1 + i) % 64
      s.get CH_PHASE c = 0 → Answers .dmaTurn s fun t => t.get PX_SERVED = c ∧ t.get CH_PHASE c = 1 ∧
        t.get CH_OUT c = 32 ∧ t.get PX_CHSTAT.STATE c = chWAIT) ∧
    (∀ (c : Fin 64) (data : List (BitVec 8)), s.get CH_OUT c ≠ 0 →
      (s.get CH_PHASE c = 2 → Answers (.dmaCompletion c true data) s fun t =>
        let got := (data.map BitVec.toNat).take (s.get CH_OUT c)
        t.list PX_STAGE c = s.list PX_STAGE c ++ got ∧
          t.get CH_OUT c = (s.get CH_OUT c - got.length) % 2 ^ CH_OUT.width) ∧
      (s.get CH_OPEN c = 0 →
        (Answers (.dmaCompletion c false data) s fun t => t.get PX_CHSTAT.STATE c = chHALTED ∧
          t.get PX_CHSTAT.LAST c = Rc.PX_CPL_ERR.num % 2 ^ PX_CHSTAT.LAST.width ∧ t.get PX_IRQ.DMA_ERR = 1) ∧
        (Answers (.pxCplTimeout c) s fun t => t.get PX_CHSTAT.STATE c = chHALTED ∧
          t.get PX_CHSTAT.LAST c = Rc.PX_CPL_TIMEOUT.num % 2 ^ PX_CHSTAT.LAST.width ∧ t.get PX_IRQ.DMA_ERR = 1))) ∧
    (∀ c : Fin 64, s.get CH_PHASE c = 3 → Answers (.descriptorComplete c) s fun t =>
      t.get PX_HEAD.HEAD c = (s.get PX_HEAD.HEAD c + 1) % 2 ^ 32 ∧ t.get CH_PHASE c = 0) ∧
    (∀ c : Fin 64, chH2D c = false → s.get PX_CHCFG.PKT c = 0 → s.get CH_PHASE c = 2 → s.get CH_MOVED c ≠ 0 →
      s.get PX_CHFLUSH.FLUSH_T c ≠ 0 → (s.chOp c opPEEK 0).isNone = true →
      Answers (.flushTimeout c) s fun t => t.get CH_PHASE c = 3 ∧ t.get PX_HEAD.HEAD c = s.get PX_HEAD.HEAD c)

/-- Training of a released endpoint with PERST_N high shows SPEED and WIDTH and raises LINK. A link down outside
DORMANT, with PERST_SCOPE 0 and no entry under way, shows speed 0 and resets the endpoint: D0, MSI-X off. With the
link up: the host's change of D-state is shown and raises DSTATE; L1 is entered where Link Control enables it, and
left; a malformed TLP and a bad completion count in MALF, a poisoned write in POISON, an unsupported request and a
type 0 message in UNSUP, an unexpected completion in UNEXP, each raising AER; an unknown message changes nothing.
Where it rests on the model's own readings: log entries 44 and 101. (R47, R50, R51, R491, R492, R494, R495, R496.) -/
def Obligations.EndpointLinkAndPowerStatesAct : Prop :=
  ∀ s : State, Awake s →
    (∀ (speed : Fin 4) (width : BitVec 4), s.get PX_FREED = 1 → s.get PX_PERST = 0 → s.mode ≠ mTEST →
      s.mode ≠ mDORMANT → Answers (.linkUp speed width) s fun t =>
        t.get PX_LINK.SPEED = speed.val + 1 ∧ t.get PX_LINK.WIDTH = width.toNat ∧ t.get PX_IRQ.LINK = 1) ∧
    (s.linkUp = true → s.mode ≠ mDORMANT → s.drowsy = false → s.get PW_RSTCFG.PERST_SCOPE = 0 →
      Answers .linkDown s fun t => t.get PX_LINK.SPEED = 0 ∧ t.get PX_LINK.DSTATE = 0 ∧ t.get PX_LINK.MSIX_EN = 0 ∧
        t.get PX_LINK.L1 = 0 ∧ t.pba = []) ∧
    (s.linkUp = true →
      (∀ d3 : Bool, Answers (.dstateChange d3) s fun t => t.get PX_LINK.DSTATE = (if d3 then 3 else 0) ∧
        (s.get PX_LINK.DSTATE ≠ (if d3 then 3 else 0) → t.get PX_IRQ.DSTATE = 1)) ∧
      (s.mode ≠ mDORMANT → (s.aspmL1 = true → Answers (.aspmL1Change true) s fun t => t.get PX_LINK.L1 = 1) ∧
        (s.drowsy = false → Answers (.aspmL1Change false) s fun t => t.get PX_LINK.L1 = 0)) ∧
      (∀ (v : HostViolation) (f : Field),
        (match v with
          | .malformed | .badCompletion => some PX_ERRCNT.MALF
          | .poisonedWrite => some PX_ERRCNT.POISON
          | .unsupported | .vendorType0 => some PX_ERRCNT.UNSUP
          | .unexpectedCompletion => some PX_ERRCNT.UNEXP
          | .unknownMessage => none) = some f → Answers (.hostViolationTlp v) s fun t =>
            t.get f = min (s.get f + 1) (2 ^ f.width - 1) ∧ t.get PX_IRQ.AER = 1) ∧
      exec (.hostViolationTlp .unknownMessage) s = run s s)

/-- Enabling a port that passes Table HX-1 sets EN and starts TRAINING; a failing check leaves EN 0 with the code in
GH_REFUSE; clearing EN leaves it OFF with no life. Block lock takes TRAINING or SLEEPING to ALIGNING, its loss takes
ALIGNING, INIT and UP to TRAINING; deskewed ALIGN blocks take ALIGNING to INIT, misplaced or wrong ones take INIT
and UP back to ALIGNING, the wrong ones as a violation. In INIT the eighth agreeing INIT block that has seen ours
brings UP with a life and the neighbour's address; a disagreeing one is a violation. WAKE_T ends the life of a port
that is not back; RETRAIN ends it and trains; ECHO sends an echo packet. (R501, R506, R507, R508, R547, R548.) -/
def Obligations.HokuoxPortsTrainAndLive : Prop :=
  ∀ s : State, Awake s →
    (∀ (m : Master) (n : Fin 8) (w : Word), Writes m (0x24100 + 0x40 * n) s →
      let u := ((s.put HX_PCFG.WIDTH (bits w.toNat 7 2) n).writeReg m HX_PCFG.reg n w.toNat).put HX_PCFG.EN 0 n
      (s.get HX_PCFG.EN n = 0 → bit w.toNat 0 = true →
        (u.hxCheck m n = none → Answers (.hxPortEnable m n w) s fun t =>
          t.get HX_PCFG.EN n = 1 ∧ t.get HX_PSTAT.STATE n = hpTRAINING) ∧
        (∀ r, u.hxCheck m n = some r → Answers (.hxPortEnable m n w) s fun t =>
          t.get HX_PCFG.EN n = 0 ∧ t.get GH_REFUSE.CODE = r.1.num % 2 ^ 16)) ∧
      (s.get HX_PCFG.EN n = 1 → bit w.toNat 0 = false →
        (s.writeReg m HX_PCFG.reg n w.toNat).readReg HX_PCFG.reg n / 2 = s.readReg HX_PCFG.reg n / 2 →
        Answers (.hxPortEnable m n w) s fun t =>
          t.get HX_PCFG.EN n = 0 ∧ t.get HX_PSTAT.STATE n = hpOFF ∧ t.alive n = false)) ∧
    (∀ n : Fin 8,
      (s.hxRuns = true → s.get HX_PSTAT.STATE n = hpTRAINING ∨ s.get HX_PSTAT.STATE n = hpSLEEPING →
        Answers (.blockLock n) s fun t => t.get HX_PSTAT.STATE n = hpALIGNING) ∧
      (s.get HX_PSTAT.STATE n = hpALIGNING ∨ s.get HX_PSTAT.STATE n = hpINIT ∨ s.get HX_PSTAT.STATE n = hpUP →
        Answers (.blockLockLost n) s fun t => t.get HX_PSTAT.STATE n = hpTRAINING) ∧
      (s.get HX_PSTAT.STATE n = hpALIGNING → Answers (.hxAlign n .deskewed) s fun t =>
        t.get HX_PSTAT.STATE n = hpINIT) ∧
      (s.get HX_PSTAT.STATE n = hpINIT ∨ s.get HX_PSTAT.STATE n = hpUP →
        (Answers (.hxAlign n .outOfPlace) s fun t => t.get HX_PSTAT.STATE n = hpALIGNING) ∧
        (Answers (.hxAlign n .wrongField) s fun t => t.get HX_PSTAT.STATE n = hpALIGNING ∧
          t.get HX_PERR.VIOL n = min (s.get HX_PERR.VIOL n + 1) (2 ^ HX_PERR.VIOL.width - 1) ∧
          t.get HX_IRQ.VIOL = 1)) ∧
      (∀ w : BitVec 64, s.get HX_PSTAT.STATE n = hpINIT →
        (s.initDiff n w.toNat ≠ 0 → Answers (.hxInit n w) s fun t => t.get HX_PSTAT.STATE n = hpINIT ∧
          t.get HX_PERR.VIOL n = min (s.get HX_PERR.VIOL n + 1) (2 ^ HX_PERR.VIOL.width - 1)) ∧
        (s.initDiff n w.toNat = 0 → bit w.toNat 28 = true → s.get HX_INITS n = 7 →
          Answers (.hxInit n w) s fun t => t.get HX_PSTAT.STATE n = hpUP ∧ t.alive n = true ∧
            t.get HX_PSTAT.NADDR n = bits w.toNat 16 8)) ∧
      (s.alive n = true → s.hxRuns = true → s.get HX_PSTAT.STATE n = hpTRAINING →
        Answers (.wakeTExpiry n) s fun t => t.alive n = false ∧ t.get HX_IRQ.LINK = 1 ∧
          t.get HX_PERR.DOWN n = min (s.get HX_PERR.DOWN n + 1) (2 ^ HX_PERR.DOWN.width - 1)) ∧
      (∀ m : Master, Writes m (0x24104 + 0x40 * n) s →
        (s.get HX_PCFG.EN n = 1 → Answers (.retrain m n) s fun t =>
          t.get HX_PSTAT.STATE n = hpTRAINING ∧ t.alive n = false) ∧
        (s.alive n = true → Answers (.echo m n) s fun t =>
          let p := s.ownPacket 0 clLINK 0 0 [0]
          t.list HX_TX (16 * n + pkClass p) = s.list HX_TX (16 * n + pkClass p) ++ [p])))

/-- On an UP port: a packet of class DISC that passes every check is delivered and the expected number goes on; one
whose check fails begins an error episode with one NAK; a block of reserved TYPE is a violation. With only a DISC
packet waiting, credit for it and room to hold it, it leaves its queue, is held for replay under its number and
takes its credit. An ACK releases what it covers; ACK_TIMER acknowledges what is owed; a replay timeout replays
within MAX_REPLAY and else ends the life; a CREDIT block returns words, more than the buffer being a violation; a
SLEEP block puts the port to sleep. (R504, R505, R509, R510, R511, R512, R513, R544, R547.) -/
def Obligations.PacketsAreSentReceivedAndReplayed : Prop :=
  ∀ (s : State) (n : Fin 8), Awake s → s.portUp n = true →
    (∀ (lseq : BitVec 12) (h : BitVec 64) (payload : List (BitVec 64)) (tr : BitVec 64),
      let ws := payload.map BitVec.toNat
      let p := mkPacket h.toNat (bits tr.toNat 32 5) ws
      bits h.toNat 44 4 = clDISC → bits h.toNat 16 16 = ws.length → ws.length ≤ clMax clDISC → bits tr.toNat 37 27 = 0 →
      (bits tr.toNat 0 32 = crcWords (h.toNat :: ws) → (s.get HX_NEXT n + 4096 - lseq.toNat) % 4096 = 0 →
        s.get HX_USED (16 * n + clDISC) + pkCost p ≤ clBuf clDISC → s.pkWrong n p = 0 →
        Answers (.packetReceive n (.packet lseq h payload tr)) s fun t =>
          t.get HX_NEXT n = (lseq.toNat + 1) % 2 ^ 12 ∧ t.get HX_NAKED n = 0 ∧
          t.list HX_RX (16 * n + pkClass p) = s.list HX_RX (16 * n + pkClass p) ++ [p]) ∧
      (bits tr.toNat 0 32 ≠ crcWords (h.toNat :: ws) →
        bits tr.toNat 0 32 ≠ 0xFFFFFFFF - crcWords (h.toNat :: ws) → s.get HX_NAKED n = 0 →
        Answers (.packetReceive n (.packet lseq h payload tr)) s fun t =>
          t.get HX_NAKED n = 1 ∧ t.get HX_NEXT n = s.get HX_NEXT n ∧
          t.get HX_PERR.NAK n = min (s.get HX_PERR.NAK n + 1) (2 ^ HX_PERR.NAK.width - 1))) ∧
    (Answers (.packetReceive n .reservedBlock) s fun t => t.get HX_IRQ.VIOL = 1 ∧
      t.get HX_PERR.VIOL n = min (s.get HX_PERR.VIOL n + 1) (2 ^ HX_PERR.VIOL.width - 1)) ∧
    (∀ (spent : Bool) (aged : BitVec 7) (p : Nat) (r : List Nat), s.hxRuns = true → s.get HX_RPOS n = 0 →
      s.list HX_TX (16 * n + clDISC) = p :: r → pkClass p = clDISC →
      (∀ k < 7, k ≠ clDISC → s.list HX_TX (16 * n + k) = []) → pkCost p ≤ s.get HX_CRED (16 * n + clDISC) →
      s.replayWords n + pkCost p ≤ 4096 → (s.list HX_HOLD n).length < 2047 →
      Answers (.packetSend n spent aged) s fun t => t.list HX_TX (16 * n + clDISC) = r ∧
        t.list HX_HOLD n = s.list HX_HOLD n ++ [s.get HX_TXSEQ n + 2 ^ 12 * p] ∧
        t.get HX_TXSEQ n = (s.get HX_TXSEQ n + 1) % 2 ^ 12 ∧
        t.get HX_CRED (16 * n + clDISC) = (s.get HX_CRED (16 * n + clDISC) - pkCost p) % 2 ^ HX_CRED.width) ∧
    (∀ (q : BitVec 12) (k : Nat), ((s.list HX_HOLD n).findIdx? fun h => h % 2 ^ 12 = q.toNat) = some k →
      Answers (.ack n q false) s fun t =>
        t.list HX_HOLD n = (s.list HX_HOLD n).drop (k + 1) ∧ t.get HX_RCNT n = 0) ∧
    (s.get HX_UNACK n ≠ 0 → Answers (.ackTimer n) s fun t => t.get HX_UNACK n = 0) ∧
    (s.list HX_HOLD n ≠ [] →
      (s.get HX_RCNT n < s.get HX_PTIME.MAX_REPLAY n → Answers (.replayTimeout n) s fun t =>
        t.get HX_RPOS n = 1 ∧ t.get HX_RCNT n = (s.get HX_RCNT n + 1) % 2 ^ HX_RCNT.width) ∧
      (s.get HX_PTIME.MAX_REPLAY n ≤ s.get HX_RCNT n → Answers (.replayTimeout n) s fun t => t.alive n = false)) ∧
    (∀ (k : BitVec 4) (words : BitVec 16), k.toNat < 7 →
      (s.get HX_CRED (16 * n + k.toNat) + words.toNat ≤ clBuf k.toNat → Answers (.credit n k words) s fun t =>
        t.get HX_CRED (16 * n + k.toNat) = s.get HX_CRED (16 * n + k.toNat) + words.toNat) ∧
      (clBuf k.toNat < s.get HX_CRED (16 * n + k.toNat) + words.toNat → Answers (.credit n k words) s fun t =>
        t.get HX_CRED (16 * n + k.toNat) = clBuf k.toNat ∧ t.get HX_IRQ.VIOL = 1)) ∧
    (Answers (.sleep n) s fun t => t.get HX_PSTAT.STATE n = hpSLEEPING)

/-- Outside DORMANT and TEST the advert and route timers send on every UP port; a device that may declare itself root
becomes ROOT with FINAL, address 1 and one device; the JOIN timer of a device with a final parent and no assignment
sends JOIN to the parent. A delivered ADVERT stores the neighbour's key, distance and child bit; a JOIN is granted
by the root and passed on by another device; an ASSIGN for this die gives its address; a ROUTE stores 16 advertised
distances. (R518, R519, R520, R521, R522, R524, R525.) -/
def Obligations.FabricElectsAddressesAndRoutes : Prop :=
  ∀ s : State, Awake s →
    (s.mode ≠ mDORMANT → s.mode ≠ mTEST →
      exec .advertTimer s = run s s.advertise ∧
      exec .routeTimer s = run s ((List.range 16).foldl (fun u g => u.routeGroup g) s) ∧
      (s.get HX_DSTAT.ROOT = 0 →
        (∀ n < 8, s.alive n = true → s.get HX_AVALID n = 1 → s.ownKey ≤ s.get HX_AKEY n) →
        s.get HX_ROOTID_LO.ID + 2 ^ 32 * s.get HX_ROOTID_HI.ID = s.dieId →
        Answers .electTExpiry s fun t => t.get HX_DSTAT.ROOT = 1 ∧ t.get HX_DSTAT.FINAL = 1 ∧ t.hxAddr = 1 ∧
          t.get HX_DEVCNT.COUNT = 1) ∧
      (s.get HX_DSTAT.PVALID = 1 → s.get HX_DSTAT.FINAL = 1 → s.get HX_ASGN = 0 → Answers .joinTimer s fun t =>
        let p := s.ownPacket 1 clDISC 1 0 [s.dieId, if s.hxAddr = 0 then s.get HX_DCFG.REQ_ADDR else s.hxAddr]
        let i := 16 * s.get HX_DSTAT.PARENT + pkClass p
        t.list HX_TX i = s.list HX_TX i ++ [p])) ∧
    (∀ (n : Fin 9) (p : Nat) (t : State), n.val < 8 → s.hxHead n clDISC = some (p, t) →
      (pkId p = 0 → Answers (.advert n) s fun v => v.get HX_AVALID n = 1 ∧
        v.get HX_AKEY n = pkWord p 0 + 2 ^ 64 * bits (pkWord p 1) 0 8 ∧
        v.get HX_ADIST n = bits (pkWord p 1) 8 5 ∧ v.get HX_PSTAT.CHILD n = bits (pkWord p 1) 13 1 ∧
        v.get HX_PNBR_LO.ID n = pkWord p 2 % 2 ^ 32) ∧
      (pkId p = 1 → bits (pkWord p 1) 8 5 < 16 →
        let w := pkWord p 1
        let h := bits w 8 5
        let path := bits w 16 48 + n * 8 ^ h - bits w (16 + 3 * h) 3 * 8 ^ h
        (t.get HX_DSTAT.ROOT = 1 → let r := t.grant (pkWord p 0) (bits w 0 8)
          exec (.join n) s =
            run s (r.2.hxTx n (r.2.ownPacket 0 clDISC 2 0 [pkWord p 0, r.1 + 2 ^ 8 * h + 2 ^ 16 * path]))) ∧
        (t.get HX_DSTAT.ROOT = 0 → t.get HX_DSTAT.PVALID = 1 → exec (.join n) s =
          run s (t.hxTx (t.get HX_DSTAT.PARENT) (mkPacket (pkHeader p) (pkHops p + 1)
            [pkWord p 0, bits w 0 8 + 2 ^ 8 * (h + 1) + 2 ^ 16 * path])))) ∧
      (pkId p = 2 → bits (pkWord p 1) 8 5 = 0 → pkWord p 0 = t.dieId → Answers (.assign n) s fun v =>
        v.hxAddr = bits (pkWord p 1) 0 8 ∧ v.get HX_ASGN = b2n (bits (pkWord p 1) 0 8 ≠ 0)) ∧
      (pkId p = 3 → Answers (.route n) s fun v => ∀ i < 16,
        v.get HX_RDIST (256 * n + bits (pkWord p 0) 0 8 + i) = bits (pkWord p (1 + i / 8)) (8 * (i % 8)) 8))

/-- Enabling an endpoint that passes Table HX-9 makes it OPENING with sequence 0, a failing check leaves it off with the
code in GH_REFUSE, clearing EN makes it OFF; channel ports are written, and not disabled while an endpoint names
them. A token offered to an open endpoint with credit is taken and completed with 0; without credit it waits where
it may block and else completes with 1. An acknowledged inbound token leaves its port's queue. From the peer of an
endpoint: fitting TOKENS in sequence reach the port and are counted, others break it; CREDIT adds credit; OPEN
opens; PROBE is answered; a REPLY of no less than was sent clears the probes, of less breaks it; BREAK breaks it.
The timers send OPEN, return credit and probe, breaking after 8. (R528, R529, R530, R531, R533, R534, R535, R548.) -/
def Obligations.ElasticChannelsMoveTokens : Prop :=
  ∀ s : State, Awake s →
    (∀ (m : Master) (w : Word), Writes m 0x24904 s →
      let e := s.get HX_EPSEL.EP
      let u := ((s.put EPS_DIR (bits w.toNat 1 1) e).put EPS_PORT (bits w.toNat 2 5) e).put EPS_CREDITS
        (bits w.toNat 7 6) e
      e < 4096 →
      (s.get EPS_EN e = 0 → bit w.toNat 0 = true →
        (u.epCheck e = none → Answers (.endpointEnable m w) s fun t =>
          t.get EPS_EN e = 1 ∧ t.get EPS_STATE e = epOPENING ∧ t.get EPS_SEQ e = 0) ∧
        (∀ r, u.epCheck e = some r → Answers (.endpointEnable m w) s fun t =>
          t.get EPS_EN e = 0 ∧ t.get GH_REFUSE.CODE = r.1.num % 2 ^ 16)) ∧
      (s.get EPS_EN e = 1 → bit w.toNat 0 = false → bits w.toNat 1 12 = s.epCfgWord e / 2 →
        Answers (.endpointEnable m w) s fun t => t.get EPS_EN e = 0 ∧ t.get EPS_STATE e = epOFF)) ∧
    (∀ (m : Master) (j : Fin 32) (w : Word), Writes m (0x24800 + 4 * j) s →
      (s.get HX_CPCFG.EN j = 0 → Answers (.channelPortEnable m j w) s fun t =>
        t.get HX_CPCFG.EN j = bits w.toNat 0 1 ∧ t.get HX_CPCFG.DIR j = bits w.toNat 1 1) ∧
      (s.get HX_CPCFG.EN j = 1 → bit w.toNat 0 = false →
        ((s.list HX_EPON).any fun e => s.get EPS_PORT e = j) = true → Answers (.channelPortEnable m j w) s fun t =>
          t.get HX_CPCFG.EN j = 1 ∧ t.get GH_REFUSE.CODE = Rc.HX_EP_PORT.num % 2 ^ 16)) ∧
    (∀ (j : Fin 32) (e : Fin 4096) (block : Bool) (data : BitVec 64), s.hcpLive j = true → s.get HX_CPCFG.EN j = 1 →
      s.get HX_CPCFG.DIR j = 0 → s.list HX_CPW j = [] → s.get EPS_EN e = 1 → s.get EPS_DIR e = 0 →
      s.get EPS_PORT e = j → s.get EPS_STATE e = epOPEN →
      (s.get EPS_CREDIT e ≠ 0 → Answers (.outboundToken j e block data) s fun t =>
        t.get EPS_CREDIT e = (s.get EPS_CREDIT e - 1) % 2 ^ EPS_CREDIT.width ∧
          t.get EPS_SEQ e = (s.get EPS_SEQ e + 1) % 2 ^ 16 ∧ ⟨.toArray, [7, j.val, 0]⟩ ∈ t.out) ∧
      (s.get EPS_CREDIT e = 0 → Answers (.outboundToken j e block data) s fun t => t.get EPS_DRY e = 1 ∧
        (block = true → t.list HX_CPW j = [e.val + 2 ^ 12 * data.toNat]) ∧
        (block = false → ⟨.toArray, [7, j.val, 1]⟩ ∈ t.out))) ∧
    (∀ (j : Fin 32) (t : Nat) (r : List Nat), s.hcpLive j = true → s.get HX_CPCFG.EN j = 1 →
      s.get HX_CPCFG.DIR j = 1 → s.list HX_INQ j = t :: r → Answers (.inboundTokenAck j) s fun u =>
        ⟨.toArray, [8, j.val, t % 2 ^ 12, t / 2 ^ 12]⟩ ∈ u.out ∧
          (s.get EPS_DUE (t % 2 ^ 12) + 1 < max 1 ((s.get EPS_CREDITS (t % 2 ^ 12) + 1) / 4) → u.list HX_INQ j = r)) ∧
    (∀ (n : Fin 9) (p : Nat) (t : State), s.hxHead n clCH = some (p, t) →
      let e := pkId p
      let kind := bits (pkWord p 0) 0 4
      let count := bits (pkWord p 0) 16 7
      t.get EPS_EN e = 1 → t.get EPS_ADDR e = pkSrc p → t.get EPS_PEER e = bits (pkWord p 0) 4 12 →
      (kind = chkTOKENS → t.get EPS_DIR e = 1 → t.get EPS_STATE e = epOPEN →
        (pkSeq p = t.get EPS_SEQ e → t.get EPS_CREDIT e + t.get EPS_DUE e + count ≤ t.get EPS_CREDITS e + 1 →
          Answers (.tokens n) s fun v => v.get EPS_SEQ e = (t.get EPS_SEQ e + count) % 2 ^ 16 ∧
            v.get EPS_CREDIT e = (t.get EPS_CREDIT e + count) % 2 ^ EPS_CREDIT.width ∧
            v.list HX_INQ (t.get EPS_PORT e) = t.list HX_INQ (t.get EPS_PORT e) ++
              (((pkWords p).drop 1).take count).map fun d => e + 2 ^ 12 * d) ∧
        (pkSeq p ≠ t.get EPS_SEQ e → Answers (.tokens n) s fun v =>
          v.get EPS_STATE e = epBROKEN ∧ v.get EPS_CAUSE e = 1)) ∧
      (kind = chkCREDIT → t.get EPS_DIR e = 0 → t.get EPS_STATE e = epOPEN →
        t.list HX_CPW (t.get EPS_PORT e) = [] → Answers (.channelCredit n) s fun v =>
          v.get EPS_CREDIT e = (t.get EPS_CREDIT e + count) % 2 ^ EPS_CREDIT.width) ∧
      (kind = chkOPEN → t.get EPS_STATE e = epOPENING → Answers (.channelOpen n) s fun v =>
        v.get EPS_STATE e = epOPEN) ∧
      (kind = chkPROBE → t.get EPS_DIR e = 1 → t.get EPS_STATE e = epOPEN →
        exec (.probe n) s = run s (t.hxSend (t.chPacket e chkREPLY 0 (t.get EPS_CNT e)))) ∧
      (kind = chkREPLY → t.get EPS_DIR e = 0 → t.get EPS_STATE e = epOPEN →
        (t.get EPS_CNT e % 2 ^ 32 ≤ bits (pkWord p 0) 24 32 → Answers (.probeReply n) s fun v =>
          v.get EPS_PROBES e = 0 ∧ v.get EPS_STATE e = epOPEN) ∧
        (bits (pkWord p 0) 24 32 < t.get EPS_CNT e % 2 ^ 32 → Answers (.probeReply n) s fun v =>
          v.get EPS_STATE e = epBROKEN ∧ v.get EPS_CAUSE e = 3)) ∧
      (kind = chkBREAK → t.get EPS_STATE e = epOPEN → Answers (.break n) s fun v =>
        v.get EPS_STATE e = epBROKEN ∧ v.get EPS_CAUSE e = 4)) ∧
    (∀ e : Fin 4096,
      (s.get EPS_DIR e = 1 → s.get EPS_STATE e = epOPENING → exec (.openTimer e) s = run s (s.sendOpen e)) ∧
      (s.get EPS_DIR e = 1 → s.get EPS_STATE e = epOPEN → s.get EPS_DUE e ≠ 0 →
        Answers (.creditReturnTimer e) s fun t => t.get EPS_DUE e = 0) ∧
      (s.get EPS_DIR e = 0 → s.get EPS_STATE e = epOPEN → s.get EPS_DRY e = 1 → s.get EPS_CREDIT e = 0 →
        (s.get EPS_PROBES e < 8 → Answers (.probeTimer e) s fun t => t.get EPS_PROBES e = s.get EPS_PROBES e + 1) ∧
        (s.get EPS_PROBES e = 8 → Answers (.probeTimer e) s fun t =>
          t.get EPS_STATE e = epBROKEN ∧ t.get EPS_CAUSE e = 5)))

/-- A delivered READ is answered with the register's word and a WRITE is done and acknowledged; a RESP that no read
waits for is counted as late, one that a read waits for ends it; an acknowledge forgets its write, and a write not
acknowledged in time is forgotten, counted and raises CSR. The parent starts an exchange with the child on a period;
the child keeps t2 of a SYNC, keeps t1 of its FOLLOW and asks with DREQ; a DREQ is answered with the time of its
arrival; the DRESP completes the exchange and shows the offset. Where it rests on the model's own readings: log
entries 26, 27 and 100. (R475, R536, R537, R538, R539, R540, R541.) -/
def Obligations.RemoteAccessesAndTimeTransferAct : Prop :=
  ∀ s : State, Awake s →
    (∀ (n : Fin 9) (p : Nat) (t : State), s.hxHead n clCSR = some (p, t) →
      let op := pkId p / 2 ^ 8
      let off := pkWord p 0 % 2 ^ 20 / 4 * 4
      (s.mode ≠ mDORMANT → op = 0 →
        let r := busRead .hokuoxRemote off t
        exec (.csrRequest n) s =
          run s (r.2.hxSend (r.2.ownPacket (pkSrc p) clCSR (pkId p % 2 ^ 8 + 2 ^ 8 * 2) (pkSeq p) [r.1 % 2 ^ 32]))) ∧
      (s.mode ≠ mDORMANT → op = 1 →
        let u := busWrite .hokuoxRemote off (bits (pkWord p 0) 32 32) t
        exec (.csrRequest n) s =
          run s (u.hxSend (u.ownPacket (pkSrc p) clCSR (pkId p % 2 ^ 8 + 2 ^ 8 * 3) (pkSeq p) []))) ∧
      (op = 2 → t.readOf (pkSeq p) = none → Answers (.readResp n) s fun v =>
        v.get PX_GCNT.LATE = min (t.get PX_GCNT.LATE + 1) (2 ^ PX_GCNT.LATE.width - 1)) ∧
      (∀ d r, op = 2 → t.readOf (pkSeq p) = some (d, r) → bits (pkWord p 0) 32 2 ≠ 1 →
        let u := (t.setList PX_RREAD ((t.list PX_RREAD d).erase r) d).readEnds r (some (pkWord p 0 % 2 ^ 32))
        exec (.readResp n) s = run s (csrPump (u.list HX_CSRQ).length u)) ∧
      (op = 3 → t.list HX_CSRQ = [] → Answers (.writeAck n) s fun v =>
        v.list HX_CSRW (pkSrc p) = (t.list HX_CSRW (pkSrc p)).filter fun x => x ≠ pkSeq p)) ∧
    (∀ (n : Fin 255) (x : Nat) (r : List Nat), s.list HX_CSRW n = x :: r → s.list HX_CSRQ = [] →
      Answers (.csrWriteLost n) s fun t => t.list HX_CSRW n = r ∧ t.get HX_IRQ.CSR = 1 ∧
        t.get HX_CSRCNT.LOST = min (s.get HX_CSRCNT.LOST + 1) (2 ^ HX_CSRCNT.LOST.width - 1)) ∧
    (∀ n : Fin 8, s.get HX_PSTAT.STATE n = hpUP → s.get HX_PSTAT.CHILD n = 1 → Answers (.timeExchangePeriod n) s fun t =>
      let p := s.ownPacket 0 clTIME 0 (s.get HX_TNUM n) [0, 0]
      t.get HX_TNUM n = (s.get HX_TNUM n + 1) % 2 ^ 16 ∧
        t.list HX_TX (16 * n + pkClass p) = s.list HX_TX (16 * n + pkClass p) ++ [p]) ∧
    (∀ (n : Fin 9) (p : Nat) (t : State), s.hxHead n clTIME = some (p, t) →
      (pkId p = 0 → t.servoPort n = true → t.get HX_TSTEP = 0 → 2 ^ 80 ≤ t.get HX_TAT n → Answers (.sync n) s fun v =>
        v.get HX_TSTEP = 1 ∧ v.get HX_XNUM = pkSeq p ∧ v.get HX_T2 = t.get HX_TAT n % 2 ^ 80) ∧
      (pkId p = 1 → t.servoPort n = true → t.get HX_TSTEP = 1 → t.get HX_XNUM = pkSeq p →
        Answers (.follow n) s fun v =>
          v.get HX_TSTEP = 2 ∧ v.get HX_T1 = pkWord p 0 + 2 ^ 64 * bits (pkWord p 1) 0 16) ∧
      (pkId p = 2 → exec (.dreq n) s =
        run s (t.hxTx n (t.ownPacket 0 clTIME 3 (pkSeq p) (t.timeWords (t.get HX_TAT n % 2 ^ 80))))) ∧
      (pkId p = 3 → t.servoPort n = true → t.get HX_TSTEP = 3 → t.get HX_XNUM = pkSeq p →
        let t4 := toSigned 80 (pkWord p 0 + 2 ^ 64 * bits (pkWord p 1) 0 16)
        let offset := ((toSigned 80 (t.get HX_T2) - toSigned 80 (t.get HX_T1)) - (t4 - toSigned 80 (t.get HX_T3))) / 2 -
          toSigned 32 (t.get HX_PASYM.ASYM n)
        Answers (.dresp n) s fun v => v.get HX_TSTEP = 0 ∧ v.get HX_TSTAT.OFFSET = sat32 offset % 2 ^ 32))

/-- Setting EN runs the checks of Table MI-1: the enable is taken with its hash, or EN stays 0 with the code of the
failing check. A heartbeat shows the peer and clears the count of misses; HB_MISS misses lose the peer: a PRIMARY
goes on with SYNC LOST, a SECONDARY out of IN_SYNC too, and one IN_SYNC promotes. A device that has seen no peer for
PAIR_T becomes PRIMARY alone unless it asked for SECONDARY. An epoch closes with its number, and the acknowledgement
of the epochs up to e forgets them and ends a finished copy pass. HANDOVER, RESYNC and DISBAND act on a PRIMARY and
are refused elsewhere with MI_WRONG_STATE. A witness grants a free claim; a renewal changes no register; a lost
lease clears LEASE and demotes a PRIMARY without its peer. Where it rests on the model's own readings: log entries
45 and 46. (R552, R554, R560, R562, R564, R566, R572, R573, R575, R576, R578, R579.) -/
def Obligations.MirroredPairsFormMoveAndEnd : Prop :=
  ∀ s : State, Awake s →
    (∀ (m : Master) (w : Word), WritesAlways m 0x28000 s → s.get MI_CFG.EN = 0 → bit w.toNat 0 = true →
      let u := (s.writeReg m MI_CFG.reg 0 w.toNat).put MI_CFG.EN 0
      (u.pairCheck = none → Answers (.miEnable m w) s fun t =>
        t.get MI_CFG.EN = 1 ∧ t.get MI_STAT.TERM = 0 ∧ t.get MI_HASH.HASH = u.declHash % 2 ^ 32) ∧
      (∀ r, u.pairCheck = some r → Answers (.miEnable m w) s fun t =>
        t.get MI_CFG.EN = 0 ∧ t.get MI_REFUSE.CODE = r.1.num % 2 ^ 16 ∧ t.get GH_REFUSE.CODE = r.1.num % 2 ^ 16)) ∧
    (s.get MI_CFG.EN = 1 → s.mode = mHOLD ∨ s.mode = mRUN → s.get MI_CFG.WIT_MODE = 0 →
      exec .heartbeatTimer s = run s (s.mirSend 1
        [s.get MI_STAT.ROLE + 4 * s.get MI_CFG.ROLE_REQ + 16 * s.get MI_STAT.SYNC + 2 ^ 16 * s.get MI_STAT.TERM +
            2 ^ 32 * s.get MI_EPOCH.EPOCH,
          s.get MI_HASH.HASH + 2 ^ 32 * s.get MI_WIT.PAIR_ID])) ∧
    (∀ (p : Nat) (t : State), s.mirHead 1 = some (p, t) → t.get MI_CFG.EN = 1 → Answers .heartbeat s fun v =>
      v.get MI_STAT.PEER = 1 ∧ v.get MI_MISS = 0 ∧ v.get MI_PHASH.PHASH = bits (pkWord p 1) 0 32 ∧
      (bits (pkWord p 1) 0 32 ≠ t.get MI_HASH.HASH → v.get MI_IRQ.MISMATCH = 1 ∧
        v.get MI_STAT.ROLE = t.get MI_STAT.ROLE ∧ v.get MI_STAT.SYNC = t.get MI_STAT.SYNC)) ∧
    (s.get MI_CFG.EN = 1 → s.get MI_SEEN = 0 → s.get MI_STAT.ROLE = rSTANDALONE → s.get MI_CFG.ROLE_REQ ≠ 2 →
      s.get MI_WANT = 0 → s.get MI_CFG.WIT_MODE = 0 ∨ s.get MI_STAT.LEASE = 1 → Answers .pairTExpiry s fun t =>
        t.get MI_STAT.ROLE = rPRIMARY ∧ t.get MI_STAT.SYNC = 4) ∧
    (s.get MI_CFG.EN = 1 → s.get MI_STAT.PEER = 1 →
      (s.get MI_MISS + 1 < s.get MI_TIME.HB_MISS → Answers .heartbeatMiss s fun t =>
        t.get MI_MISS = (s.get MI_MISS + 1) % 2 ^ MI_MISS.width ∧ t.get MI_STAT.PEER = 1) ∧
      (s.get MI_TIME.HB_MISS ≤ s.get MI_MISS + 1 →
        (s.get MI_STAT.ROLE = rPRIMARY → Answers .heartbeatMiss s fun t =>
          t.get MI_STAT.PEER = 0 ∧ t.get MI_IRQ.PEER = 1 ∧ t.get MI_STAT.ROLE = rPRIMARY ∧ t.get MI_STAT.SYNC = 4) ∧
        (s.get MI_STAT.ROLE = rSECONDARY → s.get MI_STAT.SYNC ≠ 2 → Answers .heartbeatMiss s fun t =>
          t.get MI_STAT.PEER = 0 ∧ t.get MI_IRQ.PEER = 1 ∧ t.get MI_STAT.ROLE = rSECONDARY ∧ t.get MI_STAT.SYNC = 4) ∧
        (s.get MI_STAT.ROLE = rSECONDARY → s.get MI_STAT.SYNC = 2 → s.get MI_CFG.WIT_MODE = 0 →
          Answers .heartbeatMiss s fun t => t.get MI_STAT.ROLE = rPRIMARY ∧ t.get MI_STAT.SYNC = 4))) ∧
    (s.journaling = true → s.get MI_COPYING = 0 → s.list DIRTY_LANES = [] → s.get MI_JLEVEL.WORDS + 2 ≤ 131072 →
      Answers .epochClose s fun t =>
        t.get MI_EPOCH.EPOCH = s.get MI_NEXTEP % 2 ^ 32 ∧ t.get JOPEN = 0 ∧
        t.get MI_NEXTEP = (s.get MI_NEXTEP + 1) % 2 ^ MI_NEXTEP.width ∧
        t.list MI_EPOCHS = s.list MI_EPOCHS ++ [s.get MI_NEXTEP + 2 ^ 32 * (s.get JOPEN + 2)]) ∧
    exec .journal s = run s (s.journalIn fun u off w => busWrite .gatehouse off w u) ∧
    (∀ (p : Nat) (t : State), s.mirHead 2 = some (p, t) → t.journaling = true →
      let e := bits (pkWord p 0) 0 32
      Answers .epochAck s fun v => v.get MI_EPACK.ACKED = e ∧
        v.list MI_EPOCHS = (t.list MI_EPOCHS).filter (fun x => !(x % 2 ^ 32 ≤ e)) ∧
        (t.get MI_COPYING = 2 → t.get MI_CEND ≤ e → v.get MI_STAT.SYNC = 2 ∧ v.get MI_COPYING = 0)) ∧
    (∀ m : Master, WritesAlways m 0x28010 s →
      (s.get MI_CFG.EN = 1 → s.get MI_STAT.ROLE = rPRIMARY →
        (s.get MI_STAT.SYNC = 2 → Answers (.handover m) s fun t => t.get MI_HANDING = 1) ∧
        Answers (.resync m) s (fun t => t.get MI_STAT.SYNC = 1 ∧ t.get MI_COPYING = 1 ∧ t.get MI_EPOCH.EPOCH = 0) ∧
        Answers (.disband m) s (fun t => t.get MI_CFG.EN = 0 ∧ t.get MI_STAT.ROLE = rSTANDALONE ∧
          t.get MI_STAT.SYNC = 0 ∧ t.get MI_STAT.PEER = 0)) ∧
      (s.get MI_STAT.ROLE = rSTANDALONE → ∀ c, c = Instr.handover m ∨ c = Instr.resync m ∨ c = Instr.disband m →
        Answers c s fun t => t.get MI_REFUSE.CODE = Rc.MI_WRONG_STATE.num % 2 ^ 16 ∧
          t.get MI_STAT.ROLE = rSTANDALONE ∧ t.get MI_CFG.EN = s.get MI_CFG.EN)) ∧
    (∀ (p : Nat) (t : State), s.mirHead 3 = some (p, t) → t.secondary = true → t.get MI_STAT.SYNC = 2 →
      t.get MI_NEXTEP = bits (pkWord p 0) 0 32 + 1 → Answers .handoverPacket s fun v =>
        v.get MI_STAT.ROLE = rPRIMARY ∧ v.get MI_STAT.SYNC = 2 ∧ v.get MI_STAT.TERM = (t.get MI_STAT.TERM + 1) % 2 ^ 16) ∧
    (∀ (m : Master) (w : Word),
      (Writes m 0x28044 s → s.get MI_WCFG.WIT_EN = 1 →
        s.get MI_WBOUND = 0 ∨ s.get MI_WHOLD.PAIR_ID = bits w.toNat 16 16 →
        s.get MI_WHOLD.HOLDER = 0 ∨ s.get MI_WHOLD.HOLDER = bits w.toNat 0 8 → Answers (.witnessClaim m w) s fun t =>
          t.get MI_WHOLD.HOLDER = bits w.toNat 0 8 ∧ t.get MI_WHOLD.PAIR_ID = bits w.toNat 16 16) ∧
      (Writes m 0x28048 s → Answers (.witnessRenew m w) s fun t => s.Frame t [])) ∧
    (s.get MI_CFG.EN = 1 → s.get MI_CFG.WIT_MODE = 1 → s.get MI_STAT.LEASE = 1 → Answers .leaseLost s fun t =>
      t.get MI_STAT.LEASE = 0 ∧ (s.get MI_STAT.ROLE = rPRIMARY → s.get MI_STAT.PEER = 0 →
        t.get MI_STAT.ROLE = rSECONDARY ∧ t.get MI_STAT.SYNC = 3))

/-- A running hart with no access open takes one step: a due halt; else a pending enabled interrupt, with the pc in
mepc, the cause in mcause and machine mode; else an instruction, of which ADDI writes rd alone and ECALL traps with
its cause. A halt keeps the pc in dpc and shows HALTED; a resume goes on there. An edge at U0_46 asks for a halt
where XT_IN_EN allows. A write of RUN 0 places an idle core in reset, one of RUN 1 releases it. mtime reaches
mtimecmp. LG_MEMDATA reads and writes the word at WADDR of a memory while the core is in RESET or HALTED, leaving
every other word of every memory, and is refused else. Where it rests on the model's own readings: log entries 13,
14, 17 and 62. (R588, R589, R590, R597, R598, R616, R617.) -/
def Obligations.LodgeHartRunsHaltsAndRests : Prop :=
  ∀ s : State, Awake s →
    (∀ (cycles : BitVec 32) (fetch data : CheckSeen), s.get LG_STAT.STATE = lgRUN → s.coreBusy = false →
      s.mode = mHOLD ∨ s.mode = mRUN →
      let c := s.coreTime cycles.toNat
      let pc := c.get RV_PC
      let tv := c.get RV_CSR 0x305
      (s.get RV_HALTREQ ≠ 0 → Answers (.instruction cycles fetch data) s fun t =>
        t.get LG_STAT.STATE = lgHALTED ∧ t.get PW_MODE.HALTED = 1 ∧ t.get RV_CSR 0x7B1 = pc % 2 ^ 32) ∧
      (s.get RV_HALTREQ = 0 →
        exec (.instruction cycles fetch data) s = run s ((c.put LG_STAT.STATE lgRUN).rvStep fetch data) ∧
        (bit (c.get RV_DCSR) 2 = false →
          (∀ n, (c.put LG_STAT.STATE lgRUN).rvIrq = some n → Answers (.instruction cycles fetch data) s fun t =>
            t.get RV_CSR 0x341 = pc % 2 ^ 32 ∧ t.get RV_CSR 0x342 = (n + 2 ^ 31) % 2 ^ 32 ∧ t.get RV_PRIV = 3 ∧
            (bits tv 0 2 ≠ 1 → t.get RV_PC = tv / 4 * 4 % 2 ^ 32)) ∧
          (∀ w, (c.put LG_STAT.STATE lgRUN).rvIrq = none → (c.put LG_STAT.STATE lgRUN).rvTrigger 4 pc = false →
            (c.put LG_STAT.STATE lgRUN).rvFetch = .inl (w, 4) → fetch = .clean →
            (w % 128 = 0x13 → rvF3 w = 0 → Answers (.instruction cycles fetch data) s fun t =>
              t.get RV_PC = rvAdd pc 4 ∧ (rvRd w ≠ 0 → t.xr (rvRd w) = rvAdd (c.xr (rvRs1 w)) (rvImmI w)) ∧
              (∀ r : Fin 32, r.val ≠ rvRd w → t.xr r = c.xr r) ∧ t.mem = s.mem) ∧
            (w = 0x73 → Answers (.instruction cycles fetch data) s fun t =>
              t.get RV_CSR 0x341 = pc % 2 ^ 32 ∧ t.get RV_CSR 0x342 = (if c.get RV_PRIV = 3 then 11 else 8) ∧
              t.get RV_PRIV = 3 ∧ t.get RV_PC = tv / 4 * 4 % 2 ^ 32 ∧ ∀ r : Fin 32, t.xr r = c.xr r))))) ∧
    (s.mode = mHOLD ∨ s.mode = mRUN →
      (s.mtimeRuns = true → s.mtime < s.mtimecmp → s.mtimecmp < 2 ^ 64 → Answers .machineTimer s fun t =>
        t.mtime = s.mtimecmp) ∧
      (s.get RV_HALTREQ ≠ 0 → s.coreRuns = true → s.coreBusy = false → Answers .halt s fun t =>
        t.get LG_STAT.STATE = lgHALTED ∧ t.get PW_MODE.HALTED = 1 ∧ t.get LG_IRQ.HALT = 1 ∧ t.get RV_HALTREQ = 0 ∧
        t.get RV_CSR 0x7B1 = s.get RV_PC % 2 ^ 32) ∧
      (s.get XT_IN = 1 → s.coreRuns = true → s.inputOn 46 = true → Answers .xtInEdge s fun t => t.get RV_HALTREQ = 3)) ∧
    (s.get RV_RESUMEREQ = 1 → s.get LG_STAT.STATE = lgHALTED → Answers .resume s fun t =>
      t.get LG_STAT.STATE = lgRUN ∧ t.get PW_MODE.HALTED = 0 ∧ t.get RV_PC = s.get RV_CSR 0x7B1 % 2 ^ 32 ∧
      t.get RV_PRIV = bits (s.get RV_DCSR) 0 2 ∧ t.get DM_RESUMEACK = 1) ∧
    (∀ (m : Master) (w : Word), Writes m 0x30000 s →
      (bit w.toNat 0 = false → s.coreBusy = false → Answers (.coreRun m w) s fun t =>
        t.get LG_CTL.RUN = 0 ∧ t.get LG_STAT.STATE = lgRESET ∧ (s.get LG_STAT.STATE ≠ lgRESET → t.get RV_PC = 0)) ∧
      (bit w.toNat 0 = true → s.get LG_STAT.STATE = lgRESET → s.mode = mHOLD ∨ s.mode = mRUN → s.dmHolds = false →
        Answers (.coreRun m w) s fun t => t.get LG_CTL.RUN = 1 ∧ t.get LG_STAT.STATE = lgRUN ∧ t.get RV_PC = 0)) ∧
    (∀ m : Master,
      let sel := s.get LG_MEMADDR.SEL
      let a := s.get LG_MEMADDR.WADDR
      (∀ w : Word, Writes m 0x3001C s →
        (s.lgMemOpen = true → Answers (.lgMemdataAccess m (some w)) s fun t => t.lgLoad sel a = w.toNat ∧
          (∀ g b, Region.base g + b ≠ Region.base (if sel = 0 then .lodgeI else .lodgeD) + a → t.load g b = s.load g b) ∧
          (s.get LG_MEMADDR.INC = 1 → t.get LG_MEMADDR.WADDR = (a + 1) % 2 ^ LG_MEMADDR.WADDR.width)) ∧
        (s.lgMemOpen = false → Answers (.lgMemdataAccess m (some w)) s fun t =>
          t.get LG_STAT.MEMREF = 1 ∧ t.mem = s.mem)) ∧
      (Reads m 0x3001C s →
        (s.lgMemOpen = true → exec (.lgMemdataAccess m none) s =
          run s ((if s.peeks m then s else s.lgMemNext).emit .busData [m.code, s.lgLoad sel a])) ∧
        (s.lgMemOpen = false → Answers (.lgMemdataAccess m none) s fun t =>
          t.get LG_STAT.MEMREF = 1 ∧ t.mem = s.mem)))

/-- A peripheral that passes the checks is enabled with its claims, else EN stays 0 with the code; a disabled hard GPIO
clears its bit. A byte written to UART data goes into the shift register of an idle transmitter, else into the FIFO,
or is dropped where it is full; a read pops the oldest entry; a frame received enters the FIFO or sets OVR; a frame
sent leaves and the next byte starts. An SPI command starts a transfer, a byte done moves one each way. An I2C
command starts on a free host, and its end sets DONE; timeouts and alerts are shown. A GPIO edge sets its enabled
flag. LG_ICCLAIM returns the best source and puts it in service for LODGE_M, and a write ends the service. Where it
rests on the model's own readings: log entry 18. (R602, R604, R607, R608, R609, R610.) -/
def Obligations.PeripheralsEnableAndMoveBytes : Prop :=
  ∀ s : State, Awake s →
    (∀ (m : Master) (i : Fin 6) (w : Word), Writes m (periphOff i) s →
      let r := (periphCfg i).1
      let f := (periphCfg i).2.1
      let k := (periphCfg i).2.2
      let u := (s.writeReg m r k w.toNat).put f 0 k
      s.get f k = 0 → bit w.toNat 0 = true →
        (∀ t, u.periphClaim lvLODGE i (periphReserved i w.toNat) (u.periphPins i) = .inr t →
          Answers (.peripheralEnable m (.host i) w) s fun v => v.get f k = 1) ∧
        (∀ e, u.periphClaim lvLODGE i (periphReserved i w.toNat) (u.periphPins i) = .inl e →
          Answers (.peripheralEnable m (.host i) w) s fun v =>
            v.get f k = 0 ∧ v.get LG_REFUSE.CODE = e.1.num % 2 ^ 16)) ∧
    (∀ (m : Master) (w : Word), Writes m 0x3180C s → Answers (.peripheralEnable m .gpio w) s fun t =>
      ∀ g : Fin 32, bit (s.get LG_GPOE.OE) g = true → bit w.toNat g = false → bit (t.get LG_GPOE.OE) g = false) ∧
    (∀ (m : Master) (k : Fin 2),
      (∀ w : Word, Writes m (0x31004 + 0x100 * k) s →
        let b := w.toNat % 256
        (s.get LG_UCFG.EN k = 1 → s.get U_SHIFT k = 0 → Answers (.uartTxPush m k w) s fun t =>
          t.get U_SHIFT k = 256 + b ∧ t.list LG_TX k = s.list LG_TX k) ∧
        (s.get U_SHIFT k ≠ 0 → (s.list LG_TX k).length < 64 → Answers (.uartTxPush m k w) s fun t =>
          t.list LG_TX k = s.list LG_TX k ++ [b]) ∧
        (s.get U_SHIFT k ≠ 0 → 64 ≤ (s.list LG_TX k).length → Answers (.uartTxPush m k w) s fun t =>
          t.get LG_USTAT.DROP k = min (s.get LG_USTAT.DROP k + 1) (2 ^ LG_USTAT.DROP.width - 1))) ∧
      (∀ v r, Reads m (0x31004 + 0x100 * k) s → s.peeks m = false → s.list LG_RX k = v :: r →
        exec (.uartRxPop m k) s = run s ((rdUdata m k s).2.emit .busData [m.code, v + 256]) ∧
        (rdUdata m k s).2.list LG_RX k = r)) ∧
    (∀ (k : Fin 2) (b : BitVec 8) (perr ferr brk : Bool), s.get LG_UCFG.EN k = 1 → s.get LG_UCFG.LOOP k = 0 →
      s.mode ≠ mDORMANT →
      ((s.list LG_RX k).length < 64 → s.get LG_UCFG.BITS7 k = 0 → Answers (.uartFrameReceived k b perr ferr brk) s fun t =>
        t.list LG_RX k = s.list LG_RX k ++ [b.toNat + 2 ^ 9 * b2n perr + 2 ^ 10 * b2n ferr + 2 ^ 11 * b2n brk]) ∧
      (64 ≤ (s.list LG_RX k).length → Answers (.uartFrameReceived k b perr ferr brk) s fun t =>
        t.get LG_USTAT.OVR k = 1 ∧ t.list LG_RX k = s.list LG_RX k) ∧
      (256 ≤ s.get U_SHIFT k → s.get LG_UCFG.BITS7 k = 0 →
        (s.list LG_TX k = [] → exec (.uartFrameSent k) s =
          run s ((s.emit .serial [k, s.get U_SHIFT k % 256]).put U_SHIFT 0 k)) ∧
        (∀ n r, s.list LG_TX k = n :: r → Answers (.uartFrameSent k) s fun t =>
          t.get U_SHIFT k = (256 + n) % 2 ^ 9 ∧ t.list LG_TX k = r))) ∧
    (∀ (m : Master) (k : Fin 2),
      (∀ w : Word, Writes m (0x31204 + 0x100 * k) s → s.get LG_SCFG.EN k = 1 →
        (bit (s.get LG_SCFG.CSEN k) (bits w.toNat 0 2) = true → s.get LG_SSTAT.BUSY k = 0 →
          Answers (.spiCommand m k w) s fun t =>
            t.get LG_SSTAT.BUSY k = 1 ∧ t.get S_LEFT k = bits w.toNat 3 11 + 1 ∧ t.get S_CS k = bits w.toNat 0 2) ∧
        (bit (s.get LG_SCFG.CSEN k) (bits w.toNat 0 2) = false ∨ s.get LG_SSTAT.BUSY k = 1 →
          Answers (.spiCommand m k w) s fun t => t.get LG_SSTAT.CMDERR k = 1 ∧
            t.get LG_SSTAT.BUSY k = s.get LG_SSTAT.BUSY k ∧ t.get S_LEFT k = s.get S_LEFT k)) ∧
      (∀ w : Word, Writes m (0x31208 + 0x100 * k) s → (s.list LG_TX (2 + k)).length < 32 →
        Answers (.spiDataAccess m k (some w)) s fun t =>
          t.list LG_TX (2 + k) = s.list LG_TX (2 + k) ++ [w.toNat % 256]) ∧
      (∀ v r, Reads m (0x31208 + 0x100 * k) s → s.peeks m = false → s.list LG_RX (2 + k) = v :: r →
        exec (.spiDataAccess m k none) s = run s ((rdSdata m k s).2.emit .busData [m.code, v + 256]) ∧
        (rdSdata m k s).2.list LG_RX (2 + k) = r)) ∧
    (∀ (k : Fin 2) (miso : BitVec 8) (b : Nat) (r : List Nat), s.get LG_SSTAT.BUSY k = 1 → s.mode ≠ mDORMANT →
      (s.list LG_RX (2 + k)).length < 32 → s.list LG_TX (2 + k) = b :: r → Answers (.spiByteDone k miso) s fun t =>
        t.list LG_RX (2 + k) = s.list LG_RX (2 + k) ++ [miso.toNat] ∧ t.list LG_TX (2 + k) = r ∧
        (s.get S_LEFT k = 1 → t.get LG_SSTAT.BUSY k = 0 ∧ t.get LG_SSTAT.DONE k = 1) ∧
        (2 ≤ s.get S_LEFT k → t.get LG_SSTAT.BUSY k = 1 ∧ t.get S_LEFT k = (s.get S_LEFT k - 1) % 2 ^ S_LEFT.width)) ∧
    (∀ (m : Master) (k : Fin 2),
      (∀ w : Word, Writes m (0x31404 + 0x100 * k) s →
        (s.get LG_ICFG.EN k = 1 → s.get LG_ISTAT.BUSY k = 0 → Answers (.i2cCommand m k w) s fun t =>
          t.get LG_ISTAT.BUSY k = 1 ∧ t.get I_HOLD k = 1 ∧
          (bit w.toNat 7 = true → t.get I_LEFT k = bits w.toNat 10 8)) ∧
        (s.get LG_ICFG.EN k = 0 ∨ s.get LG_ISTAT.BUSY k = 1 → Answers (.i2cCommand m k w) s fun t => s.Frame t [])) ∧
      (∀ w : Word, Writes m (0x31408 + 0x100 * k) s → s.get LG_ISTAT.BUSY k = 0 → (s.list LG_TX (4 + k)).length < 32 →
        Answers (.i2cDataAccess m k (some w)) s fun t =>
          t.list LG_TX (4 + k) = s.list LG_TX (4 + k) ++ [w.toNat % 256]) ∧
      (∀ v r, Reads m (0x31408 + 0x100 * k) s → s.peeks m = false → s.list LG_RX (4 + k) = v :: r →
        exec (.i2cDataAccess m k none) s = run s ((rdIdata m k s).2.emit .busData [m.code, v + 256]) ∧
        (rdIdata m k s).2.list LG_RX (4 + k) = r)) ∧
    (∀ k : Fin 2, s.mode ≠ mDORMANT →
      (s.get LG_ISTAT.BUSY k = 1 →
        (∀ n, Answers (.i2cCommandDone k (.nack n)) s fun t => t.get LG_ISTAT.BUSY k = 0 ∧ t.get LG_ISTAT.DONE k = 1 ∧
          t.get LG_ISTAT.NACK k = 1 ∧ t.get I_HOLD k = 0) ∧
        Answers (.i2cCommandDone k .arbLost) s (fun t => t.get LG_ISTAT.BUSY k = 0 ∧ t.get LG_ISTAT.DONE k = 1 ∧
          t.get LG_ISTAT.ARBLOST k = 1 ∧ t.get I_HOLD k = 0) ∧
        (∀ data pec, s.icRead k = true → data.length = s.get I_LEFT k → (s.list LG_RX (4 + k)).length + data.length ≤ 32 →
          Answers (.i2cCommandDone k (.served data pec)) s fun t =>
            t.get LG_ISTAT.BUSY k = 0 ∧ t.get LG_ISTAT.DONE k = 1 ∧
            t.list LG_RX (4 + k) = s.list LG_RX (4 + k) ++ data.map BitVec.toNat) ∧
        (∀ data pec, s.icRead k = false → s.get I_LEFT k = 0 → Answers (.i2cCommandDone k (.served data pec)) s fun t =>
          t.get LG_ISTAT.BUSY k = 0 ∧ t.get LG_ISTAT.DONE k = 1)) ∧
      (s.get LG_ICFG.EN k = 1 → s.get LG_ICFG.TOUT_EN k = 1 → Answers (.i2cTimeout k) s fun t =>
        t.get LG_ISTAT.TIMEOUT k = 1 ∧ t.get I_HOLD k = 0 ∧
        (s.get LG_ISTAT.BUSY k = 1 → t.get LG_ISTAT.BUSY k = 0 ∧ t.get LG_ISTAT.DONE k = 1))) ∧
    (∀ k : Fin 2,
      (s.get LG_ISTAT.ALERT_LVL k = 0 → Answers (.i2cAlert k true) s fun t =>
        t.get LG_ISTAT.ALERT_LVL k = 1 ∧ t.get LG_ISTAT.ALERT k = 1) ∧
      Answers (.i2cAlert k false) s (fun t => t.get LG_ISTAT.ALERT_LVL k = 0 ∧
        t.get LG_ISTAT.ALERT k = s.get LG_ISTAT.ALERT k)) ∧
    (∀ (g : Fin 32) (rising : Bool),
      let on := bit (if rising then s.get LG_GPRISE.RISE else s.get LG_GPFALL.FALL) g
      (on = true → s.mode ≠ mDORMANT → s.inputOn (s.gpioPin g) = true → Answers (.gpioEdge g rising) s fun t =>
        bit (t.get LG_GPIF.IF) g = true) ∧
      (on = false → Answers (.gpioEdge g rising) s fun t => s.Frame t [])) ∧
    (∀ (m : Master) (w : Word),
      (Writes m 0x31804 s → Answers (.gpioSetClear m false w) s fun t =>
        t.get LG_GPOUT.OUT = (s.get LG_GPOUT.OUT ||| w.toNat) % 2 ^ 32) ∧
      (Writes m 0x31808 s → Answers (.gpioSetClear m true w) s fun t =>
        t.get LG_GPOUT.OUT = (s.get LG_GPOUT.OUT &&& (2 ^ 32 - 1 - w.toNat)) % 2 ^ 32) ∧
      (Writes m 0x32504 s → Answers (.icclaimWrite m w) s fun t =>
        t.get IC_SERV (bits w.toNat 0 8) = 0 ∧ s.Frame t [IC_SERV.key (bits w.toNat 0 8)])) ∧
    (∀ m : Master, Reads m 0x32504 s →
      (s.icBest = none → exec (.icclaimRead m) s = run s (s.emit .busData [m.code, 0])) ∧
      (∀ n, s.icBest = some n → exec (.icclaimRead m) s =
        run s ((if m = .lodgeM then s.put IC_SERV 1 n else s).emit .busData [m.code, n + 256])))

/-- H2L_RING of a master other than the Lodge fills its side, or is dropped and counted while it is full; L2H_RING does
so for LODGE_M; others ring nothing. LODGE_M clears the one side, the others the other. The write that sets
LG_WDCFG.EN starts the count at TIMEOUT, and later writes are ignored. A kick with 5A5AH by LODGE_M restarts the
count and any other counts in BADKICK. The first expiry warns; a second resets the core, or the device with ACTION
1. Where it rests on the model's own readings: log entry 98. (R611, R612.) -/
def Obligations.MailboxAndWatchdogAct : Prop :=
  ∀ s : State,
    (∀ m : Master, Writes m 0x31A40 s →
      (isLodge m = false → s.get LG_MBSTAT.H2L_FULL = 0 → Answers (.h2lRing m) s fun t =>
        t.get LG_MBSTAT.H2L_FULL = 1 ∧ t.get LG_IRQ.MBOX_H2L = 1) ∧
      (isLodge m = false → s.get LG_MBSTAT.H2L_FULL = 1 → Answers (.h2lRing m) s fun t =>
        t.get LG_MBSTAT.H2L_FULL = 1 ∧
        t.get LG_MBSTAT.DROPS = min (s.get LG_MBSTAT.DROPS + 1) (2 ^ LG_MBSTAT.DROPS.width - 1)) ∧
      (isLodge m = true → Answers (.h2lRing m) s fun t => s.Frame t []) ∧
      (m = .lodgeM → s.get LG_MBSTAT.L2H_FULL = 0 → Answers (.l2hRing m) s fun t =>
        t.get LG_MBSTAT.L2H_FULL = 1 ∧ t.get LG_IRQ.MBOX_L2H = 1) ∧
      (m = .lodgeM → s.get LG_MBSTAT.L2H_FULL = 1 → Answers (.l2hRing m) s fun t =>
        t.get LG_MBSTAT.L2H_FULL = 1 ∧
        t.get LG_MBSTAT.DROPS = min (s.get LG_MBSTAT.DROPS + 1) (2 ^ LG_MBSTAT.DROPS.width - 1)) ∧
      (m ≠ .lodgeM → Answers (.l2hRing m) s fun t => s.Frame t [])) ∧
    (∀ (m : Master) (w : Word), Writes m 0x31A44 s → Answers (.mailboxClear m w) s fun t =>
      (bit w.toNat 0 = true → m = .lodgeM → t.get LG_MBSTAT.H2L_FULL = 0 ∧ t.get LG_IRQ.MBOX_H2L = 0) ∧
      (bit w.toNat 1 = true → m ≠ .lodgeM → t.get LG_MBSTAT.L2H_FULL = 0 ∧ t.get LG_IRQ.MBOX_L2H = 0) ∧
      (m ≠ .lodgeM → t.get LG_MBSTAT.H2L_FULL = s.get LG_MBSTAT.H2L_FULL) ∧
      (m = .lodgeM → t.get LG_MBSTAT.L2H_FULL = s.get LG_MBSTAT.L2H_FULL)) ∧
    (∀ (m : Master) (w : Word), Writes m 0x31900 s →
      (s.get LG_WDCFG.EN = 0 → bit w.toNat 0 = true → Answers (.watchdogEnable m w) s fun t =>
        t.get LG_WDCFG.EN = 1 ∧ t.get LG_WDSTAT.REMAIN = t.get LG_WDCFG.TIMEOUT % 2 ^ 24) ∧
      (s.get LG_WDCFG.EN = 1 → Answers (.watchdogEnable m w) s fun t => s.Frame t [])) ∧
    (∀ (m : Master) (w : Word), Writes m 0x31904 s →
      (w = 0x5A5A → m = .lodgeM → s.get LG_WDCFG.EN = 1 → Answers (.watchdogKick m w) s fun t =>
        t.get LG_WDSTAT.REMAIN = s.get LG_WDCFG.TIMEOUT % 2 ^ 24 ∧ t.get LG_WDSTAT.BADKICK = s.get LG_WDSTAT.BADKICK) ∧
      (w ≠ 0x5A5A ∨ m ≠ .lodgeM → Answers (.watchdogKick m w) s fun t =>
        t.get LG_WDSTAT.BADKICK = min (s.get LG_WDSTAT.BADKICK + 1) (2 ^ LG_WDSTAT.BADKICK.width - 1) ∧
        t.get LG_WDSTAT.REMAIN = s.get LG_WDSTAT.REMAIN)) ∧
    (Awake s → s.get LG_WDCFG.EN = 1 → s.get LG_STAT.STATE = lgRUN →
      (s.get LG_WDSTAT.WARNED = 0 → Answers .watchdogExpiry s fun t =>
        t.get LG_WDSTAT.WARNED = 1 ∧ t.get LG_IRQ.WDT = 1 ∧ t.get LG_WDSTAT.REMAIN = s.get LG_WDCFG.TIMEOUT % 2 ^ 24) ∧
      (s.get LG_WDSTAT.WARNED = 1 → s.get LG_WDCFG.ACTION = 0 → s.get LG_CTL.RUN = 1 → Answers .watchdogExpiry s fun t =>
        t.get LG_STAT.STATE = lgRUN ∧ t.get RV_PC = 0 ∧ t.get RV_PRIV = 3) ∧
      (s.get LG_WDSTAT.WARNED = 1 → s.get LG_WDCFG.ACTION = 1 → Answers .watchdogExpiry s fun t =>
        t.get RESETTING = 1))

/-- Without a grant a DMI read returns 0 and a write changes nothing. With one, data0 is written; an abstract command
writes a register of a halted hart, and fails with cmderr 4 on a running one. A system bus access reads or writes a
word of data memory. DMCUSTOM0 sets its bits. A TAP code selects its instruction; a boundary-scan code without the
whole grant selects BYPASS; the TAP's reset selects IDCODE. GHDBG makes one access of the GH range with the DEBUG
identity. An acknowledged load of the array window writes its register; one that is not acknowledged in time faults
and sets AWIN. Where it rests on the model's own readings: log entries 14, 16, 97 and 99. (R594, R595, R613, R614,
R615, R616, R622, R656.) -/
def Obligations.DebugModuleTapAndWindowAct : Prop :=
  ∀ s : State, Awake s → s.mode ≠ mDORMANT →
    (s.get GH_DBGSTAT.LEVEL = 0 →
      (∀ a w, Answers (.dmiAccess a (some w)) s fun t => s.Frame t []) ∧
      (∀ a, exec (.dmiAccess a none) s = run s (s.emit .jtag [2, 0]))) ∧
    (1 ≤ s.get GH_DBGSTAT.LEVEL → s.get DM_ACTIVE = 1 →
      (∀ w : Word, s.get DM_POST = 0 → bit (s.get DM_AUTO) 0 = false → Answers (.dmiAccess 0x04 (some w)) s fun t =>
        t.get DM_DATA0 = w.toNat ∧ s.Frame t [DM_DATA0.key 0]) ∧
      (∀ (w : Word) (r : Fin 32), w.toNat = 0x231000 + r → s.get DM_POST = 0 → s.get DM_CMDERR = 0 →
        (s.get LG_STAT.STATE = lgHALTED → r.val ≠ 0 → Answers (.dmiAccess 0x17 (some w)) s fun t =>
          t.get RV_X r = s.get DM_DATA0 % 2 ^ 32 ∧ t.get DM_CMDERR = 0 ∧ s.Frame t [RV_X.key r, DM_CMD.key 0]) ∧
        (s.get LG_STAT.STATE ≠ lgHALTED → Answers (.dmiAccess 0x17 (some w)) s fun t =>
          t.get DM_CMDERR = 4 ∧ t.get RV_X r = s.get RV_X r)) ∧
      (∀ w : Word, Answers (.dmcustom0Write w) s fun t =>
        t.get DBG_CONSUME = bits w.toNat 0 1 ∧ t.get XT_IN = bits w.toNat 2 1)) ∧
    (let a := s.get DM_SBADDR
     a % 4 = 0 → 0x10000000 ≤ a → a < 0x10040000 →
      (s.get DM_SBOP = 1 → Answers .systemBusAccess s fun t =>
        t.get DM_SBDATA = s.lgLoad 1 ((a - 0x10000000) / 4) ∧ t.get DM_SBOP = 0 ∧ t.mem = s.mem) ∧
      (s.get DM_SBOP = 2 → Answers .systemBusAccess s fun t =>
        t.lgLoad 1 ((a - 0x10000000) / 4) = s.get DM_SBDATA % 2 ^ 32 ∧ t.get DM_SBOP = 0)) ∧
    (∀ c : BitVec 5,
      ([0, 3, 4, 5, 6].contains c.toNat = false → Answers (.tapInstruction c) s fun t =>
        t.get TAP_IR = tapCode c.toNat ∧ s.Frame t [TAP_IR.key 0]) ∧
      ([0, 3, 4, 5, 6].contains c.toNat = true → s.get GH_DBGSTAT.LEVEL ≠ 2 ∨ (s.mode ≠ mHOLD ∧ s.mode ≠ mRESCUE) →
        Answers (.tapInstruction c) s fun t => t.get TAP_IR = 0x1F) ∧
      ([0, 3, 4, 5, 6].contains c.toNat = true → s.get GH_DBGSTAT.LEVEL = 2 → s.mode = mHOLD ∨ s.mode = mRESCUE →
        exec (.tapInstruction c) s = run s ((s.put TAP_IR c.toNat).scanBegins))) ∧
    Answers .tapReset s (fun t => t.get TAP_IR = 1 ∧ s.Frame t [TAP_IR.key 0]) ∧
    (∀ (off : BitVec 10) (w : Word),
      (s.get TAP_IR = 0x12 → exec (.ghdbg true off w) s = run s (busWrite .debug (4 * off.toNat) w.toNat s) ∧
        exec (.ghdbg false off w) s = run s (((busRead .debug (4 * off.toNat) s).2.put GHDBG_DATA
          (busRead .debug (4 * off.toNat) s).1).emit .jtag [3, (busRead .debug (4 * off.toNat) s).1])) ∧
      (s.get TAP_IR ≠ 0x12 → ∀ b, Answers (.ghdbg b off w) s fun t => s.Frame t [])) ∧
    (s.get LG_CTL.RUN = 1 → s.get RV_WAIT = 1 → s.get AW_SB = 0 → s.get DM_POST = 0 → bit (s.get RV_DCSR) 2 = false →
      s.get RV_WINS % 128 = 0x03 →
      (∀ data : Word, Answers (.arrayWindowAnswer data false) s fun t =>
        t.get RV_WAIT = 0 ∧ t.get RV_PC = rvAdd (s.get RV_PC) 4 ∧
        (rvRd (s.get RV_WINS) ≠ 0 → rvF3 (s.get RV_WINS) = 2 → t.xr (rvRd (s.get RV_WINS)) = data.toNat)) ∧
      Answers (.arrayWindowGuard false) s (fun t =>
        t.get RV_WAIT = 2 ∧ t.get LG_IRQ.AWIN = 1 ∧ t.get RV_CSR 0x342 = 5 ∧ t.get RV_CSR 0x341 = s.get RV_PC % 2 ^ 32 ∧
        t.get RV_PC = s.get RV_CSR 0x305 / 4 * 4 % 2 ^ 32))

/-- A permitted master claims the free interface; a claim while another holds it, or by a master without commands, is
refused; release and timeout free it and clear the arguments. An accepted plain KEY_WRITE stores the key of the
buffer; a wrapped one goes BUSY with what unwrapping gives and stores it at its end; KEY_ERASE empties the slot, or
is PENDING while the slot is in use; KEY_WRAP goes BUSY and ends DONE, and fails on a sealed part. ZEROIZE clears
KS2 to KS7 and leads to RESCUE. DEVICE_RESET begins a warm reset. LOAD_START begins a load or a rewrite, or takes a
SERVE source. Where it rests on the model's own readings: log entries 51, 54 and 57. (R627, R628, R629, R631, R632,
R634, R636, R638, R639, R663, R685, R694.) -/
def Obligations.GatehouseInterfaceAndKeyCommandsAct : Prop :=
  ∀ (s : State) (m : Master),
    let a := s.get GH_ARG.ARG 0
    let k := bits a 0 3
    let kek := bits a 4 3
    (Writes m 0x28 s →
      (s.permitted m 6 = true → s.get GH_CMDOWN.OWNER = 7 → Answers (.cmdClaim m) s fun t =>
        t.get GH_CMDOWN.OWNER = m.code) ∧
      (s.permitted m 6 = true → s.get GH_CMDOWN.OWNER ≠ 7 → s.get GH_CMDOWN.OWNER ≠ m.code → Answers (.cmdClaim m) s fun t =>
        t.get GH_CMDOWN.OWNER = s.get GH_CMDOWN.OWNER ∧ t.get GH_REFUSE.CODE = Rc.GH_CMD_HELD.num % 2 ^ 16) ∧
      (s.permitted m 6 = false → m ≠ .gatehouse → Answers (.cmdClaim m) s fun t =>
        t.get GH_CMDOWN.OWNER = s.get GH_CMDOWN.OWNER ∧ t.get GH_REFUSE.CODE = Rc.GH_NOT_PERMITTED.num % 2 ^ 16) ∧
      (s.get GH_CMDOWN.OWNER = m.code → Answers (.cmdRelease m) s fun t =>
        t.get GH_CMDOWN.OWNER = 7 ∧ ∀ i : Fin 4, t.get GH_ARG.ARG i = 0) ∧
      (s.get GH_CMDOWN.OWNER ≠ m.code → Answers (.cmdRelease m) s fun t => s.Frame t [])) ∧
    (Awake s → s.get GH_CMDOWN.OWNER ≠ 7 →
      (s.get GH_STATUS.STATE ≠ 1 → s.get GH_STATUS.STATE ≠ 4 → s.get CMD_OP = 0 → Answers .cmdInterfaceTimeout s fun t =>
        t.get GH_CMDOWN.OWNER = 7) ∧
      (s.get GH_STATUS.STATE = 1 ∨ s.get GH_STATUS.STATE = 4 → Answers .cmdInterfaceTimeout s fun t => s.Frame t [])) ∧
    (Issues m 0x01 s →
      (bit a 8 = true → s.get GH_IDENT.SEALED = 0 → 6 ≤ k → s.get GH_KSTAT.KILLED k = 0 → s.keyPending k = false →
        s.get GH_KSTAT.USE k = 0 → Answers (.keyWrite m) s fun t =>
          t.get KEY_VAL k = ofBytesBE (s.bufBytes 0 32) % 2 ^ 256 ∧ t.get GH_KSTAT.STATE k = ksVALID ∧
          t.get GH_KSTAT.USAGE k = bits a 16 2 ∧ t.get GH_STATUS.STATE = 2 ∧ t.get GH_STATUS.RESULT = 0x0100 ∧
          t.get CMD_OP = 0) ∧
      (bit a 8 = true → s.get GH_IDENT.SEALED = 1 → Answers (.keyWrite m) s fun t =>
        t.get GH_STATUS.STATE = 3 ∧ t.get GH_STATUS.RESULT = Rc.GH_SEALED.num % 2 ^ 16) ∧
      (∀ key, bit a 8 = false → 2 ≤ k → s.get GH_KSTAT.KILLED k = 0 → s.keyPending k = false → kek ≠ k →
        s.keyBad kek 0 = none → Config.keyUnwrap (s.get KEY_VAL kek) (s.bufBytes 0 40) = some key →
        Answers (.keyWrite m) s fun t =>
          t.get GH_STATUS.STATE = 1 ∧ t.get CMD_OP = 1 ∧ t.get CMD_KEY = key % 2 ^ 256 ∧
          t.get GH_KSTAT.USE kek = (s.get GH_KSTAT.USE kek + 1) % 2 ^ 8)) ∧
    (Issues m 0x02 s → s.get GH_KSTAT.KILLED k = 0 → s.keyPending k = false →
      (s.get GH_KSTAT.USE k = 0 → Answers (.keyErase m) s fun t =>
        t.get KEY_VAL k = 0 ∧ t.get GH_KSTAT.STATE k = ksEMPTY ∧ (k < 2 → t.get GH_KSTAT.KILLED k = 1) ∧
        t.get GH_STATUS.STATE = 2) ∧
      (s.get GH_KSTAT.USE k ≠ 0 → Answers (.keyErase m) s fun t =>
        t.get KEY_VAL k = s.get KEY_VAL k ∧ t.get GH_KSTAT.STATE k = ksPENDE ∧ t.get GH_STATUS.STATE = 4)) ∧
    (Issues m 0x03 s →
      (s.get GH_IDENT.SEALED = 1 → Answers (.keyWrap m) s fun t =>
        t.get GH_STATUS.STATE = 3 ∧ t.get GH_STATUS.RESULT = Rc.GH_SEALED.num % 2 ^ 16) ∧
      (s.get GH_IDENT.SEALED = 0 → s.keyBad kek 0 = none → Answers (.keyWrap m) s fun t =>
        t.get GH_STATUS.STATE = 1 ∧ t.get CMD_OP = 3 ∧
        t.get CMD_KEY = ofBytesBE (s.bufBytes 0 32) % 2 ^ CMD_KEY.width)) ∧
    (Awake s →
      let c := s.get CMD_ARG 0
      (s.get CMD_OP = 1 → s.get CMD_RES = 0 → bits c 0 3 ≠ bits c 4 3 → s.get GH_KSTAT.USE (bits c 0 3) = 0 →
        Answers .ghCommandEnd s fun t =>
          t.get KEY_VAL (bits c 0 3) = s.get CMD_KEY % 2 ^ 256 ∧ t.get GH_KSTAT.STATE (bits c 0 3) = ksVALID ∧
          t.get GH_STATUS.STATE = 2 ∧ t.get CMD_OP = 0) ∧
      (s.get CMD_OP = 3 → Answers .ghCommandEnd s fun t => t.get GH_STATUS.STATE = 2 ∧ t.get CMD_OP = 0)) ∧
    (Issues m 0x04 s → s.get UP_SLOT < 8 → Answers (.zeroize m) s fun t =>
      t.mode = mRESCUE ∧ t.get GH_STATUS.STATE = 2 ∧
      ∀ i : Fin 8, 2 ≤ i.val → t.get KEY_VAL i = 0 ∧ t.get GH_KSTAT.STATE i = ksEMPTY) ∧
    (Issues m 0x0C s → Answers (.deviceReset m) s fun t => t.get RESETTING = 1) ∧
    (Issues m 0x05 s →
      (bits a 0 2 = 2 → Answers (.serve m) s fun t =>
        t.get SV_ON = b2n (s.get GH_ARG.ARG 3 % 2 ^ 32 ≠ 0) ∧ t.get SV_LEN = s.get GH_ARG.ARG 3 % 2 ^ 32 ∧
        t.get GH_STATUS.STATE = 2) ∧
      (s.get CT_ON = 0 → s.get BV_CSSTAT.REPAIRING = 0 → bit a 2 = true ∨ s.busMaster = true →
        (bits a 0 2 = 0 → Answers (.loadStart m) s fun t =>
          t.get CT_ON = 1 ∧ t.get GH_CFGSTAT.STAGE = stHEADERS ∧ t.get GH_STATUS.STATE = 1) ∧
        (bits a 0 2 = 1 → s.get MI_CFG.EN = 0 → s.get FB_PSTAT.STATE (bits a 8 6) = pFENCED →
          s.get FB_PSTAT.HOLDER (bits a 8 6) = hUSER → s.get FB_PSTAT.REPAIR (bits a 8 6) = 0 →
          Answers (.rewrite m) s fun t =>
            t.get CT_ON = 2 ∧ t.get CT_PLOT = bits a 8 6 ∧ t.get FB_PSTAT.STATE (bits a 8 6) = pWRITING ∧
            t.get GH_STATUS.STATE = 1)))

/-- PK_PROGRAM of an empty slot without a VALID one, and PK_REVOKE signed by another signer, go BUSY and end with the
slot VALID or REVOKED; a slot that is not empty refuses. SEAL needs a signer and a decrypt key. DEBUG_UNLOCK of an
open unsealed part grants at once, of another it issues a challenge; a response without a challenge fails and
counts, a good one is granted at its end; DEBUG_LOCK ends the access; a challenge lapses. The two keys in order open
the unlock for their master, a wrong key does not; it expires. A tamper event under LOG sets its bit and TAMPER,
under ZEROIZE it leads to RESCUE, under OFF the mesh changes nothing; a sensor event that is enabled shows in its
bits. Where it rests on the model's own readings: log entries 52, 53, 55 and 60. (R642, R643, R644, R645, R647,
R649, R651, R655, R657, R658, R661, R757.) -/
def Obligations.SignersDebugUnlockAndTamperAct : Prop :=
  ∀ (s : State) (m : Master),
    let a := s.get GH_ARG.ARG 0
    let n := bits a 0 2
    let slot := bits a 8 2
    (Issues m 0x0D s →
      (s.get GH_PKSTAT.STATE n = pkEMPTY → (∀ i : Fin 4, s.get GH_PKSTAT.STATE i ≠ pkVALID) →
        Answers (.pkProgram m) s fun t => t.get GH_STATUS.STATE = 1 ∧ t.get CMD_OP = 0x0D ∧
          t.get CMD_KEY = ofBytesBE (s.bufBytes 0 48) % 2 ^ CMD_KEY.width ∧ t.get CMD_RES = s.get CMD_RES) ∧
      (s.get GH_PKSTAT.STATE n ≠ pkEMPTY → Answers (.pkProgram m) s fun t =>
        t.get GH_STATUS.STATE = 3 ∧ t.get GH_STATUS.RESULT = Rc.GH_PK_SLOT.num % 2 ^ 16)) ∧
    (Issues m 0x0E s → s.get GH_PKSTAT.STATE n = pkVALID → s.updateSigner n = true → slot ≠ n →
      s.authCheck 0 slot 1 ([0x4C, 0x48, 0x50, 0x52, n] ++ s.dieBytes) = some none → Answers (.pkRevoke m) s fun t =>
        t.get GH_STATUS.STATE = 1 ∧ t.get CMD_OP = 0x0E ∧ t.get GH_PKSTAT.STATE n = pkVALID) ∧
    (Awake s → s.get CMD_RES = 0 →
      let c := s.get CMD_ARG 0
      (s.get CMD_OP = 0x0D → Answers .ghCommandEnd s fun t =>
        t.get GH_PKSTAT.STATE (bits c 0 2) = pkVALID ∧ t.get PK_HASH (bits c 0 2) = s.get CMD_KEY % 2 ^ 384 ∧
        t.get GH_PKSTAT.DEBUG (bits c 0 2) = bits c 5 1 ∧ t.get GH_PKSTAT.UPDATE (bits c 0 2) = bits c 6 1 ∧
        t.get GH_STATUS.STATE = 2) ∧
      (s.get CMD_OP = 0x0E → s.get DBG_BYPK = 0 → Answers .ghCommandEnd s fun t =>
        t.get GH_PKSTAT.STATE (bits c 0 2) = pkREVOKED ∧ t.get GH_STATUS.STATE = 2) ∧
      (s.get CMD_OP = 0x0A → Answers .ghCommandEnd s fun t =>
        t.get GH_DBGSTAT.LEVEL = s.get CH_LEVEL % 2 ^ 2 ∧ t.get GH_DBGSTAT.SLOT = bits c 8 2 ∧ t.get GH_IRQ.DEBUG = 1 ∧
        t.get DBG_FAILS = 0 ∧ t.get GH_STATUS.STATE = 2)) ∧
    (Issues m 0x0F s →
      (s.get GH_IDENT.SEALED = 1 → Answers (.seal m) s fun t =>
        t.get GH_STATUS.STATE = 3 ∧ t.get GH_STATUS.RESULT = Rc.GH_SEALED.num % 2 ^ 16) ∧
      (s.get GH_IDENT.SEALED = 0 → s.updateSigner 4 = true → s.get GH_KSTAT.STATE 1 = ksVALID →
        bit (s.get GH_KSTAT.USAGE 1) 1 = true → Answers (.seal m) s fun t =>
          t.get GH_IDENT.SEALED = 1 ∧ t.get GH_POLICY.DBG_OPEN = 0 ∧ t.get GH_STATUS.STATE = 2) ∧
      (s.get GH_IDENT.SEALED = 0 → s.updateSigner 4 = false → Answers (.seal m) s fun t =>
        t.get GH_IDENT.SEALED = 0 ∧ t.get GH_STATUS.STATE = 3 ∧
        t.get GH_STATUS.RESULT = Rc.GH_PK_SLOT.num % 2 ^ 16)) ∧
    (Issues m 0x0A s → s.get DBG_FAILS < 4 →
      (bit a 0 = false → s.get GH_IDENT.SEALED = 0 → s.get GH_POLICY.DBG_OPEN = 1 → Answers (.debugUnlock m) s fun t =>
        t.get GH_DBGSTAT.LEVEL = bits a 4 2 ∧ t.get GH_DBGSTAT.CHALLENGED = 0 ∧ t.get GH_STATUS.STATE = 2) ∧
      (bit a 0 = false → s.get GH_IDENT.SEALED = 1 → Answers (.debugUnlock m) s fun t =>
        t.get GH_DBGSTAT.CHALLENGED = 1 ∧ t.get CH_LEVEL = bits a 4 2 ∧ t.get GH_STATUS.STATE = 2 ∧
        t.get GH_DBGSTAT.LEVEL = s.get GH_DBGSTAT.LEVEL) ∧
      (bit a 0 = true → s.get GH_DBGSTAT.CHALLENGED = 0 → Answers (.debugUnlockResponse m) s fun t =>
        t.get DBG_FAILS = s.get DBG_FAILS + 1 ∧ t.get GH_STATUS.STATE = 3 ∧
        t.get GH_STATUS.RESULT = Rc.GH_NO_CHALLENGE.num % 2 ^ 16) ∧
      (bit a 0 = true → s.get GH_DBGSTAT.CHALLENGED = 1 →
        s.authCheck 0 slot 0 ([0x4C, 0x48, 0x44, 0x42] ++ s.dieBytes ++ bytesLE 32 (s.get NONCE) ++ [s.get CH_LEVEL]) =
          some none → Answers (.debugUnlockResponse m) s fun t =>
            t.get GH_STATUS.STATE = 1 ∧ t.get CMD_OP = 0x0A ∧ t.get GH_DBGSTAT.CHALLENGED = 0)) ∧
    (Issues m 0x0B s → Answers (.debugLock m) s fun t => t.get GH_DBGSTAT.LEVEL = 0 ∧ t.get GH_STATUS.STATE = 2) ∧
    (Awake s → Answers .challengeLapse s fun t =>
      t.get GH_DBGSTAT.CHALLENGED = 0 ∧ t.get NONCE = 0 ∧ s.Frame t [GH_DBGSTAT.CHALLENGED.key 0, NONCE.key 0]) ∧
    (let mine := s.get GH_STATUS.UNLOCK_OPEN = 0 ∨ s.get GH_STATUS.UNLOCK_ID = m.code
     (Writes m 0x1C s →
        (s.mayUnlock m = true → mine → Answers (.unlockKeyWrite m 0xA5C3) s fun t => t.get UNL_LEFT m.code = 33) ∧
        (∀ w : Word, w ≠ 0 → w ≠ 0xA5C3 → w ≠ 0x3C5A → Answers (.unlockKeyWrite m w) s fun t =>
          t.get GH_STATUS.UNLOCK_OPEN = s.get GH_STATUS.UNLOCK_OPEN ∧ t.get UNL_LEFT m.code = 0) ∧
        (s.get GH_STATUS.UNLOCK_OPEN = 1 → s.get GH_STATUS.UNLOCK_ID = m.code → Answers (.unlockKeyWrite m 0) s fun t =>
          t.get GH_STATUS.UNLOCK_OPEN = 0)) ∧
      (Awake s → s.answers m 0x1C = true → s.denied m 1 = false → s.secondary = false → s.journaling = false →
        2 ≤ s.get UNL_LEFT m.code → s.get UNL_LEFT m.code ≤ 33 → s.get UNL_ABORT m.code = 0 → s.mayUnlock m = true → mine →
        Answers (.unlockKeyWrite m 0x3C5A) s fun t =>
          t.get GH_STATUS.UNLOCK_OPEN = 1 ∧ t.get GH_STATUS.UNLOCK_ID = m.code ∧ t.get GH_IRQ.UNLOCK = 1 ∧
          t.get UNL_LEFT m.code = 0)) ∧
    (Awake s → Answers .unlockExpiry s (fun t => t.get GH_STATUS.UNLOCK_OPEN = 0 ∧ t.get GH_STATUS.UNLOCK_ID = 7 ∧
        s.Frame t [GH_STATUS.UNLOCK_OPEN.key 0, GH_STATUS.UNLOCK_ID.key 0]) ∧
      (s.get GH_TAMPCFG.MESH_EN = 1 →
        (s.get GH_TAMPCFG.MESH = 0 → Answers .meshMismatch s fun t => s.Frame t []) ∧
        (s.get GH_TAMPCFG.MESH = 1 → s.drowsy = false → Answers .meshMismatch s fun t =>
          t.get GH_TAMPSTAT.MESH_EVT = 1 ∧ t.get GH_IRQ.TAMPER = 1) ∧
        (s.get GH_TAMPCFG.MESH = 2 → s.get UP_SLOT < 8 → Answers .meshMismatch s fun t => t.mode = mRESCUE)) ∧
      (∀ c : Fin 4,
        (bit (s.get BV_TAMPEN.EN) c = false → Answers (.sensorTamper c) s fun t => s.Frame t []) ∧
        (bit (s.get BV_TAMPEN.EN) c = true → s.drowsy = false → s.get GH_TAMPCFG.SENSOR < 2 →
          Answers (.sensorTamper c) s fun t =>
            bit (t.get BV_TAMPSTAT.EVT) c = true ∧ t.get GH_TAMPSTAT.SENSOR_EVT = 1 ∧ t.get BV_IRQ.TAMPER = 1 ∧
            t.get BV_ALERT.TAMPER = 1 ∧ (s.get GH_TAMPCFG.SENSOR = 1 → t.get GH_IRQ.TAMPER = 1))))

/-- A command that passes the stream check moves the position past its words. FRAME writes its frames, PRELOAD stores
its words with their check bits and names its memory, REGW and REGFILL write their register with the GATEHOUSE
identity, CHECK starts a new span, POLL arms its reads, NOP does no more. A command that fails the check ends the
container with its code: a rewrite leaves its plot FENCED. A poll's read ends it on a match, fails it at its last
read and else counts down. END completes the load or rewrite, or fails for what its checks find. A source that fails
ends it with GH_CFG_SOURCE. A header at hand goes through its checks; one that passes opens the stream. Where it
rests on the model's own readings: log entries 67, 68 and 69. (R677, R678, R679, R680, R681, R682, R684, R686, R695,
R696, R698.) -/
def Obligations.ContainerCommandsTakeEffect : Prop :=
  ∀ (s : State) (ws : List Word) (w : Nat) (l : List Nat),
    (Judged ws s = .ok l →
      let u := Taken ws l s
      let pos := (s.get CT_POS + 4 * l.length) % 2 ^ 32
      (Streams 1 ws w s → exec (.frame ws) s = run s (u.putFrames l) ∧
        Answers (.frame ws) s fun t => t.get CT_POS = pos ∧ t.get CT_AFTER = 0) ∧
      (Streams 2 ws w s → s.get CT_PLOT < 64 → Answers (.preload ws) s fun t =>
        let mem := bits (l.headD 0) 8 11
        let first := bits (l.getD 1 0) 0 12
        let per := if bit (l.headD 0) 19 then 3 else 2
        t.get CT_POS = pos ∧ mem ∈ t.list CT_PRELOADED ∧
        ∀ i, i < bits (l.getD 1 0) 12 13 →
          let d := l.getD (2 + per * i) 0 + 2 ^ 32 * l.getD (3 + per * i) 0
          t.load .block (4096 * mem + (first + i)) =
            d % 2 ^ 64 + 2 ^ 64 * ((if per = 3 then l.getD (4 + 3 * i) 0 else eccOf d) % 256)) ∧
      (Streams 3 ws w s → exec (.regw ws) s = run s (u.ctStaging.ctWrites (4 * bits (l.headD 0) 8 18) (l.drop 1))) ∧
      (Streams 7 ws w s → exec (.regfill ws) s = run s (u.ctWrites (4 * bits (l.headD 0) 8 18) (l.drop 2))) ∧
      (Streams 4 ws w s → Answers (.containerCheck ws) s fun t =>
        t.get CT_SPAN = (s.get CT_POS + 8) % 2 ^ 32 ∧ t.get CT_CRC = 2 ^ 32 - 1 ∧ t.get CT_AFTER = 1 ∧ t.get CT_POS = pos ∧
        t.get GH_CFGPOS.BYTES = (256 + s.get CT_POS + 8) % 2 ^ 32) ∧
      (Streams 5 ws w s → Answers (.poll ws) s fun t =>
        t.get CT_PLEFT = l.getD 3 0 % 2 ^ CT_PLEFT.width ∧ t.get CT_POLL = bits (l.headD 0) 8 18 ∧
        t.get CT_PMASK = l.getD 1 0 % 2 ^ 32 ∧ t.get CT_PVAL = l.getD 2 0 % 2 ^ 32 ∧ t.get CT_POS = pos) ∧
      (Streams 6 ws w s → exec (.containerNop ws) s = run s u ∧ u.get CT_POS = pos) ∧
      (∀ tag, Streams 15 ws w s →
        ((List.range 4).mapM fun j => s.ctStored (ws.map BitVec.toNat) (1 + j)) = some tag →
        let v := u.put GH_CFGSTAT.STAGE stFINAL
        let bad := v.ctEndBad (ofWords32 tag) (if s.get CT_ON = 2 then some (s.get CT_PLOT) else none)
        (∀ c, bad = some c → exec (.containerEnd ws) s = run s (v.ctFail c v.ctPlen)) ∧
        (bad = none → s.get CT_ON = 1 → exec (.containerEnd ws) s = run s v.loadDone) ∧
        (bad = none → s.get CT_ON = 2 → exec (.containerEnd ws) s = run s v.rewriteDone))) ∧
    (∀ c off op i, (i, op) ∈ [(Instr.frame ws, 1), (.preload ws, 2), (.regw ws, 3), (.containerCheck ws, 4), (.poll ws, 5),
        (.containerNop ws, 6), (.regfill ws, 7)] → Judged ws s = .bad c off → Streams op ws w s →
      exec i s = run s (s.ctFail c off) ∧
      (s.get CT_ON = 2 → s.get CT_PLOT < 64 → s.get CT_SLOT < 8 → Answers i s fun t =>
        t.get GH_CFGSTAT.STAGE = stFAILED ∧ t.get GH_CFGSTAT.LAST = c.num % 2 ^ 16 ∧ t.get CT_ON = 0 ∧
        t.get FB_PSTAT.STATE (s.get CT_PLOT) = pFENCED ∧ t.get FB_PSTAT.HOLDER (s.get CT_PLOT) = hUSER)) ∧
    (Awake s →
      (s.get CT_ON = 1 ∨ s.get CT_ON = 2 →
        (s.get CT_PLEFT ≠ 0 →
          let r := busRead .gatehouse (4 * s.get CT_POLL) s
          (r.1 &&& s.get CT_PMASK = s.get CT_PVAL → exec .pollRead s = run s (r.2.put CT_PLEFT 0)) ∧
          (r.1 &&& s.get CT_PMASK ≠ s.get CT_PVAL → r.2.get CT_PLEFT = 1 →
            exec .pollRead s = run s (r.2.ctFail Rc.GH_CFG_POLL (s.get CT_POS - 16))) ∧
          (r.1 &&& s.get CT_PMASK ≠ s.get CT_PVAL → r.2.get CT_PLEFT ≠ 1 →
            exec .pollRead s = run s (r.2.put CT_PLEFT (r.2.get CT_PLEFT - 1)))) ∧
        exec .containerSourceFail s = run s (s.ctFail Rc.GH_CFG_SOURCE (s.get CT_POS)) ∧
        (∀ hdr auth : List (BitVec 8), s.get CT_HDR_OK = 0 → s.get CT_SRC = 2 → 256 ≤ s.get CT_LEN → hdr.length = 256 →
          let h := hdr.map BitVec.toNat
          bit (h.getD 7 0) 1 = false →
          (exec (.containerHeader hdr auth) s = run s (s.headerStage h fun i =>
            ((auth.map BitVec.toNat)[i - (272 + ofBytesLE ((h.drop 20).take 4))]?).getD 0)) ∧
          (s.headerBad h (fun kind target => if s.get CT_ON = 1 then kind = 0 else kind = 1 && target = s.get CT_PLOT)
              (s.get CT_LEN) = none →
            272 + ofBytesLE ((h.drop 20).take 4) ≤ s.get CT_LEN → bit (h.getD 7 0) 0 = false → s.get PX_FREED = 1 →
            Answers (.containerHeader hdr auth) s fun t =>
              t.get GH_CFGSTAT.STAGE = stSTREAM ∧ t.get CT_HDR_OK = 1 ∧ t.get GH_CFGPOS.BYTES = 256 ∧
              t.list CT_HEADER = h))) ∧
      (s.get CT_ON = 0 → (Answers .pollRead s fun t => s.Frame t []) ∧
        (Answers .containerSourceFail s fun t => s.Frame t []) ∧
        ∀ hdr auth, Answers (.containerHeader hdr auth) s fun t => s.Frame t []))

/-- RUN_EN with its checks passed enters RUN and starts the staged release; a failing check refuses with its code. A
release slot takes the lowest domain that is not held out of reset, and the last ends the release. The first
discovery of the flash shows whether and how large it is, and a later one changes nothing. A CFG_REQ is answered
CFG_NONE without a SERVE source, and with the bytes from its offset and CFG_END with one. A device loading from its
neighbour appends the data of the answer in order, takes its length from CFG_END, and asks again at CFG_NONE and at
the timer. Where it rests on the model's own readings: log entries 73 and 76. (R55, R670, R673, R687, R688, R689,
R690, R691.) -/
def Obligations.ReleaseFlashAndNeighbourLoadAct : Prop :=
  ∀ s : State, Awake s →
    (∀ m : Master, Writes m 0x4 s →
      (∀ t, s.releaseCheck = .inr t → Answers (.runEn m) s fun v =>
        v.mode = mRUN ∧ v.get PW_MODE.BUSY = 1 ∧ v.get REL_STEP = 1 ∧ v.get REL_DONE = 0 ∧
        v.get REL_WANT = t.get GH_RELDOM.USED % 2 ^ 16) ∧
      (∀ r, s.releaseCheck = .inl r → Answers (.runEn m) s fun v =>
        v.mode = s.mode ∧ v.get GH_REFUSE.CODE = r.1.num % 2 ^ 16)) ∧
    (s.get REL_STEP = 1 →
      exec .stagedReleaseStep s = run s (s.put REL_STEP 2).writesOpen.fcmGoes.releaseOpen) ∧
    (s.get REL_STEP = 2 →
      (s.releaseLeft = [] → Answers .stagedReleaseStep s fun t => t.get REL_STEP = 0 ∧ t.get PW_MODE.BUSY = 0) ∧
      (∀ d r, s.releaseLeft = d :: r → Answers .stagedReleaseStep s fun t =>
        t.get DOM_RESET d = 0 ∧ bit (t.get REL_DONE) d = true ∧
        (r ≠ [] → t.get REL_STEP = 2 ∧ ∀ e, e ≠ d → e < 16 → t.get DOM_RESET e = s.get DOM_RESET e))) ∧
    (s.get FLASH_OK ≠ 0 → ∀ x, Answers (.flashDiscovery x) s fun t => s.Frame t []) ∧
    (s.get FLASH_OK = 0 → s.awaitsFlash = false → s.get UP_SAVE = 0 → s.get UP_STEP = 0 → s.get UP_ASKED = 0 →
      s.get CT_ON = 0 →
      (Answers (.flashDiscovery .blank) s fun t => t.get FLASH_OK = 2) ∧
      (Answers (.flashDiscovery .noSignature) s fun t => t.get FLASH_OK = 1 ∧ t.get FLASH_SIZE = 2 ^ 28) ∧
      ∀ size dqs, Answers (.flashDiscovery (.found size dqs)) s fun t =>
        t.get FLASH_OK = 1 ∧ t.get FLASH_SIZE = min size.toNat (2 ^ 28)) ∧
    (∀ (n : Fin 8) (data : List (BitVec 8)) (p : Nat) (t : State), s.updHead n 0 = some (p, t) →
      let u := t.setList HX_TX ((t.list HX_TX (16 * n + clUPD)).filter
        fun q => !(pkDest q = 0 && (pkId q = 1 || pkId q = 2))) (16 * n + clUPD)
      (t.get SV_ON = 0 → exec (.cfgReq n data) s = run s (u.hxTx n (u.ownPacket 0 clUPD 3 0 [0]))) ∧
      (t.get SV_ON = 1 → Answers (.cfgReq n data) s fun v =>
        ∃ k, (v.list HX_TX (16 * n + clUPD)).getLast? = some (u.ownPacket 0 clUPD 2 k [t.get SV_LEN]))) ∧
    (∀ (p : Nat) (t : State), s.updHead 0 1 = some (p, t) → t.cfgAwaits = true →
      (pkSeq p = t.get CT_RX → Answers .cfgData s fun v =>
        v.list CT_BYTES = t.list CT_BYTES ++ (pkWords p).flatMap (bytesLE 8) ∧
        v.get CT_RX = (t.get CT_RX + 1) % 2 ^ CT_RX.width) ∧
      (pkSeq p ≠ t.get CT_RX → exec .cfgData s = run s t)) ∧
    (∀ (p : Nat) (t : State), s.updHead 0 2 = some (p, t) → t.cfgAwaits = true → pkSeq p = t.get CT_RX →
      t.get CT_HDR_OK = 0 → Answers .cfgEnd s fun v =>
        v.get CT_LEN = pkWord p 0 % 2 ^ 32 ∧ v.get CT_DOING = 1 ∧
        v.list CT_BYTES = (t.list CT_BYTES).take (pkWord p 0 % 2 ^ 32)) ∧
    (∀ (p : Nat) (t : State), s.updHead 0 3 = some (p, t) → t.cfgAwaits = true → exec .cfgNone s = run s t.cfgRequest) ∧
    (s.cfgAwaits = true → Answers .cfgReqTimer s fun t =>
      t.get CT_POS = (s.get GH_CFGPOS.BYTES - 256) % 2 ^ 32 ∧ t.get CT_RX = 0) ∧
    (s.cfgAwaits = false → Answers .cfgReqTimer s fun t => s.Frame t [])

/-- UPDATE_BEGIN with a session active fails UP_BUSY, from host memory without bus mastering GH_CFG_BUSMASTER, with less
than a header UP_SOURCE; from the staging buffer it waits for the package. A half handed over in its order is taken,
and one out of order changes nothing; a prologue that passes at UPDATE_BEGIN begins the session and ends the
command. An announced session is asked for its prologue, and turned away while another is active; the prologue's
parts are gathered in order, and judged when whole. A NEED for the prologue is answered with it, one for blocks sets
the neighbour's limit. Staging ends with STAGED, or FAILED on a mismatch. Reports are counted, and made at the
timer. Where it rests on the model's own readings: log entries 78, 79, 81 and 86. (R699, R700, R708, R711, R713,
R714, R715, R717, R718.) -/
def Obligations.UpdateSessionsBeginPassAndStage : Prop :=
  ∀ (s : State) (m : Master),
    (∀ pkg, Issues m 0x06 s →
      let host := bits (s.get GH_ARG.ARG 0) 0 2 = 0
      (s.upActive = true → Answers (.updateBegin m pkg) s fun t =>
        t.get GH_STATUS.STATE = 3 ∧ t.get GH_STATUS.RESULT = Rc.UP_BUSY.num % 2 ^ 16 ∧
        t.get GH_UPSTAT.STATE = s.get GH_UPSTAT.STATE) ∧
      (s.upActive = false → s.get UP_SLOT = 0 →
        (host → s.busMaster = false → Answers (.updateBegin m pkg) s fun t =>
          t.get GH_STATUS.STATE = 3 ∧ t.get GH_STATUS.RESULT = Rc.GH_CFG_BUSMASTER.num % 2 ^ 16) ∧
        (host → s.busMaster = true → pkg.length < 256 → Answers (.updateBegin m pkg) s fun t =>
          t.get GH_STATUS.STATE = 3 ∧ t.get GH_STATUS.RESULT = Rc.UP_SOURCE.num % 2 ^ 16) ∧
        (¬host → s.get UP_STG 0 = 0 → s.get UP_STG 1 = 0 → Answers (.updateBegin m pkg) s fun t =>
          t.get UP_STEP = 1 ∧ t.get UP_SRC = 1 ∧ t.list UP_PKG = [] ∧ t.get GH_STATUS.STATE = 1 ∧ t.get CMD_OP = 6))) ∧
    (∀ w : Word, Writes m 0xCC s →
      let h := bits w.toNat 19 1
      let n := bits w.toNat 0 19
      let last := bit w.toNat 20
      let free := if h = 0 then s.get GH_STAGESTAT.FREE0 else s.get GH_STAGESTAT.FREE1
      let ordered := s.mode = mRESCUE ∧ free = 1 ∧ h = s.get UP_HALF ∧ (n = 0x40000 ∨ last = true ∧ n ≤ 0x40000) ∧
        s.get UP_LAST ≠ 1
      (¬ordered → Answers (.stageHandover m w) s fun t =>
        t.get GH_STAGESTAT.FREE0 = s.get GH_STAGESTAT.FREE0 ∧ t.get GH_STAGESTAT.FREE1 = s.get GH_STAGESTAT.FREE1 ∧
        t.get UP_HALF = s.get UP_HALF ∧ t.lists = s.lists ∧ t.mem = s.mem) ∧
      (ordered → s.get UP_STEP = 0 → Answers (.stageHandover m w) s fun t =>
        (if h = 0 then t.get GH_STAGESTAT.FREE0 = 0 else t.get GH_STAGESTAT.FREE1 = 0) ∧ t.get UP_HALF = 1 - h ∧
        t.get UP_STG h = n + 2 ^ 19 * b2n last) ∧
      (ordered → s.get UP_STEP = 1 → s.get CMD_OP = 6 → s.get UP_SRC = 1 → s.get UP_STG (1 - h) = 0 →
        let all := s.list UP_PKG ++ (List.range n).map fun i => s.load .rescue (0x40000 * h + i)
        let v := ((((((s.put UP_HALF (1 - h)).put UP_FED (if last then 1 else s.get UP_FED)).put UP_LAST (b2n last)).setList
          UP_PKG all)).setList UP_PRO (all.take (256 + ofBytesLE ((all.drop 20).take 4) + ofBytesLE ((all.drop 24).take 4))))
        256 ≤ all.length → v.proHeaderBad = none → v.proLen ≤ all.length → v.proCheck true = .pass →
        Answers (.stageHandover m w) s fun t =>
          t.get GH_UPSTAT.COORD = 1 ∧ t.get UP_STEP = 2 ∧ t.get GH_STATUS.STATE = 2 ∧ t.get CMD_OP = 0 ∧
          t.get GH_UPPKG_LO.ID = v.proLE 48 4 % 2 ^ 32 ∧ t.get GH_UPPKG_HI.ID = v.proLE 52 4 % 2 ^ 32)) ∧
    (Awake s → ∀ (n : Fin 8) (p : Nat) (t : State),
      let q := 16 * n.val + clUPD
      (s.updHead n 0x10 = some (p, t) → t.mode ≠ mTEST → t.mode ≠ mDORMANT →
        (t.upActive = true → pkWord p 0 ≠ (if t.get UP_ASKED = 1 then t.get UP_NEWID else t.upId) →
          exec (.announce n) s = run s (t.upTurnAway (pkWord p 0))) ∧
        (t.upActive = false → t.get UP_SLOT = 0 → Answers (.announce n) s fun v =>
          v.get UP_ASKED = 1 ∧ v.get UP_NEWID = pkWord p 0 ∧ v.get UP_UP = n.val ∧ v.get UP_PLEN = pkWord p 2 % 2 ^ 32 ∧
          (v.list HX_TX q).getLast? = some (t.ownPacket 0 clUPD 0x13 0 [pkWord p 0, 2 ^ 32 - 1 + 2 ^ 32]))) ∧
      (s.updHead n 0x11 = some (p, t) → t.get UP_ASKED = 1 → t.get UP_UP = n.val →
        (t.list UP_PRO).length < t.get UP_PLEN → pkSeq p = t.get UP_PSEQ →
        let l := t.list UP_PRO ++ (pkWords p).flatMap (bytesLE 8)
        let u := (t.setList UP_PRO (l.take (t.get UP_PLEN))).put UP_PSEQ (t.get UP_PSEQ + 1)
        (l.length < t.get UP_PLEN → exec (.prologue n) s = run s u) ∧
        (t.get UP_PLEN ≤ l.length →
          (u.proCheck false = .pass → Answers (.prologue n) s fun v =>
            v.get GH_UPSTAT.STATE = (if u.upMine.isSome then usRECEIVING else usPASS) ∧ v.get UP_ASKED = 0 ∧
            v.get GH_UPPKG_LO.ID = u.proLE 48 4 % 2 ^ 32) ∧
          (∀ c, u.proCheck false = .bad c → t.get UP_SLOT = 0 → Answers (.prologue n) s fun v =>
            v.get GH_UPSTAT.STATE = usREFUSED ∧ v.get GH_UPSTAT.LAST = c.num % 2 ^ 16 ∧ v.get UP_ASKED = 0))) ∧
      (s.updHead n 0x13 = some (p, t) →
        let next := pkWord p 1 % 2 ^ 32
        (pkWord p 0 ≠ t.upId ∨ bit (t.get UP_DOWN) n = false → exec (.need n) s = run s t) ∧
        (pkWord p 0 = t.upId → bit (t.get UP_DOWN) n = true →
          (next = 2 ^ 32 - 1 → Answers (.need n) s fun v =>
            let ws := wordsOfBytes (t.list UP_PRO)
            v.list HX_TX q = t.list HX_TX q ++ (List.range ((ws.length + 255) / 256)).map fun i =>
              t.ownPacket 0 clUPD 0x11 i ((ws.drop (256 * i)).take 256)) ∧
          (next ≠ 2 ^ 32 - 1 → next ≤ t.get UP_NEXT → t.get UP_DACK n ≤ next → Answers (.need n) s fun v =>
            v.get UP_DACK n = next % 2 ^ 16 ∧ v.get UP_DLIM n = (next + bits (pkWord p 1) 32 3) % 2 ^ 16)))) ∧
    (Awake s →
      (s.get GH_UPSTAT.STATE = usRECEIVING →
        (Answers (.areaStaged false) s fun t =>
          t.get GH_UPSTAT.STATE = usFAILED ∧ t.get GH_UPSTAT.LAST = Rc.UP_FLASH_WRITE.num % 2 ^ 16) ∧
        (s.get UP_NEXT < s.upBlocks → Answers (.areaStaged true) s fun t => s.Frame t []) ∧
        (s.upBlocks ≤ s.get UP_NEXT → Answers (.areaStaged true) s fun t => t.get GH_UPSTAT.STATE = usSTAGED)) ∧
      (s.get GH_UPSTAT.STATE ≠ usRECEIVING → ∀ ok, Answers (.areaStaged ok) s fun t => s.Frame t []) ∧
      (∀ (n : Fin 9) (p : Nat) (t : State), s.updHead n 0x14 = some (p, t) →
        (pkWord p 0 ≠ t.upId → t.get GH_UPSTAT.COORD ≠ 1 → exec (.upStatus n) s = run s t) ∧
        (∀ k, repBit (bits (pkWord p 2) 0 4) = some k → pkWord p 0 = t.upId → t.get GH_UPSTAT.COORD = 1 →
          t.get UP_STEP = 2 → Answers (.upStatus n) s fun v =>
            ∀ x ∈ (t.upEntries 1).zipIdx, t.upSelects x.1 (pkWord p 1) (pkSrc p) = true → bit (v.get UP_REP x.2) k = true)) ∧
      (s.get GH_UPSTAT.STATE = usIDLE → Answers .statusTimer s fun t => s.Frame t []) ∧
      (s.get GH_UPSTAT.STATE ≠ usIDLE → s.get GH_UPSTAT.COORD ≠ 1 → Answers .statusTimer s fun t =>
        ∀ o : Fin 8, s.alive o = true → s.get HX_PSTAT.CHILD o = 1 → ∃ r,
          (t.list HX_TX (16 * o + clUPD)).getLast? = some (s.ownPacket 255 clUPD 0x14 0
            [s.upId, s.dieId, s.get GH_UPSTAT.STATE + 2 ^ 16 * r + 2 ^ 32 * s.get GH_UPPROG.STORED])))

/-- UPDATE_COMMIT fails away from the coordinator and while a target is not STAGED; otherwise this device is PREPARED
and the votes are awaited. PREPARE makes a staged target PREPARED and vote. The last vote READY commits: the boot
record is written, and the coordinator is COMMITTED. A vote against, and the end of VOTE_T, abort: the session is
IDLE and the command has failed. UPDATE_ABORT does the same on the coordinator, and in doubt only when forced.
COMMIT makes a prepared target write its record, then wait for ACT_TIME, its rank, or reset at once; a record that
does not read back stops it. ACT_TIME resets a committed device that waits for it. Where it rests on the model's own
readings: log entries 82 and 83. (R717, R720, R721, R722, R723, R724, R730, R736.) -/
def Obligations.UpdateCommitsInTwoPhases : Prop :=
  ∀ (s : State) (m : Master),
    (Issues m 0x07 s →
      (s.get GH_UPSTAT.COORD ≠ 1 ∨ s.get UP_STEP = 0 → Answers (.updateCommit m) s fun t =>
        t.get GH_STATUS.STATE = 3 ∧ t.get GH_STATUS.RESULT = Rc.UP_NOT_COORD.num % 2 ^ 16) ∧
      (s.get GH_UPSTAT.COORD = 1 → s.get UP_STEP ≠ 0 → s.get GH_UPSTAT.STATE ≠ usSTAGED →
        Answers (.updateCommit m) s fun t =>
          t.get GH_STATUS.STATE = 3 ∧ t.get GH_STATUS.RESULT = Rc.UP_NOT_STAGED.num % 2 ^ 16) ∧
      (s.get GH_UPSTAT.COORD = 1 → s.get UP_STEP = 2 → s.get GH_UPSTAT.STATE = usSTAGED →
        (∀ i, i < (s.upEntries 1).length → bit (s.get UP_REP i) 0 = true ∧ bit (s.get UP_REP i) 2 = false) →
        Answers (.updateCommit m) s fun t =>
          t.get UP_STEP = 3 ∧ t.get GH_UPSTAT.STATE = usPREPARED ∧ t.get GH_STATUS.STATE = 1 ∧ t.get CMD_OP = 7)) ∧
    (Issues m 0x08 s → s.get UP_SLOT < 8 →
      let st := s.get GH_UPSTAT.STATE
      (s.get GH_UPSTAT.COORD = 1 → st ∉ usLATE → st ≠ usIDLE → st ≠ usINDOUBT → Answers (.updateAbort m) s fun t =>
        t.get GH_UPSTAT.STATE = usIDLE ∧ t.get GH_UPSTAT.COORD = 0 ∧ t.get GH_STATUS.STATE = 2) ∧
      (st = usINDOUBT → bit (s.get GH_ARG.ARG 0) 0 = true → Answers (.updateAbort m) s fun t =>
        t.get GH_UPSTAT.STATE = usIDLE ∧ t.get GH_STATUS.STATE = 2) ∧
      (st = usINDOUBT → bit (s.get GH_ARG.ARG 0) 0 = false → Answers (.updateAbort m) s fun t =>
        t.get GH_UPSTAT.STATE = usINDOUBT ∧ t.get GH_STATUS.STATE = 2) ∧
      (s.get GH_UPSTAT.COORD ≠ 1 → st ≠ usINDOUBT → Answers (.updateAbort m) s fun t =>
        t.get GH_UPSTAT.STATE = st ∧ t.get GH_STATUS.STATE = 2)) ∧
    (Awake s → ∀ (n : Fin 9) (p : Nat) (t : State),
      (s.updHead n 0x15 = some (p, t) →
        (pkWord p 0 ≠ t.upId ∨ t.get GH_UPSTAT.STATE ≠ usSTAGED → exec (.prepare n) s = run s t) ∧
        (pkWord p 0 = t.upId → t.get GH_UPSTAT.STATE = usSTAGED → Answers (.prepare n) s fun v =>
          v.get GH_UPSTAT.STATE = usPREPARED ∧ ∀ o : Fin 8, t.alive o = true → t.get HX_PSTAT.CHILD o = 1 →
            (v.list HX_TX (16 * o + clUPD)).getLast? = some (t.ownPacket 255 clUPD 0x16 0 [t.upId, t.dieId,
              if t.recHolds (t.get GH_UPSTAT.AREA) then 1 else 2 ^ 16 * Rc.UP_FLASH_WRITE.num]))) ∧
      (∀ ok, s.updHead n 0x16 = some (p, t) →
        let open_ := pkWord p 0 = t.upId ∧ t.get UP_STEP = 3 ∧ t.get GH_UPSTAT.STATE = usPREPARED
        (¬open_ → exec (.vote n ok) s = run s t) ∧
        (open_ → t.get UP_SLOT < 8 →
          (bit (pkWord p 2) 0 = false → Answers (.vote n ok) s fun v =>
            v.get GH_UPSTAT.STATE = usIDLE ∧ v.get GH_UPSTAT.COORD = 0 ∧
            (t.get CMD_OP = 7 → v.get GH_STATUS.STATE = 3 ∧ v.get CMD_OP = 0)) ∧
          (bit (pkWord p 2) 0 = true →
            let u := t.upNote (pkWord p 1) (pkSrc p) (some 3)
            ((∀ i, i < (u.upEntries 1).length → bit (u.get UP_REP i) 3 = true) → ok = true → Answers (.vote n ok) s fun v =>
              v.get UP_STEP = 4 ∧ v.get GH_UPSTAT.STATE = usCOMMITTED ∧ v.mem = t.upBootRecord.mem) ∧
            ((∃ i, i < (u.upEntries 1).length ∧ bit (u.get UP_REP i) 3 = false) → exec (.vote n ok) s = run s u)))) ∧
      (∀ ok, s.updHead n 0x17 = some (p, t) →
        let open_ := pkWord p 0 = t.upId ∧ t.get GH_UPSTAT.COORD ≠ 1 ∧ t.get GH_UPSTAT.STATE = usPREPARED
        (¬open_ → exec (.upCommit n ok) s = run s t) ∧
        (open_ → ok = false → Answers (.upCommit n ok) s fun v =>
          v.get GH_UPSTAT.STATE = usFAILED ∧ v.get GH_UPSTAT.LAST = Rc.UP_FLASH_WRITE.num % 2 ^ 16) ∧
        (open_ → ok = true → t.get UP_SLOT < 8 →
          let waits := bit (pkWord p 2) 0 = true ∧ t.timeQualifies = true ∧ t.now / 2 ^ 16 < pkWord p 1
          (t.upRank ≠ 0 → Answers (.upCommit n ok) s fun v =>
            v.get GH_UPSTAT.STATE = usCOMMITTED ∧ v.get RESETTING = t.get RESETTING ∧ v.mem = t.upBootRecord.mem) ∧
          (t.upRank = 0 → waits → Answers (.upCommit n ok) s fun v =>
            v.get GH_UPSTAT.STATE = usCOMMITTED ∧ v.get UP_WAITS = 1 ∧ v.get UP_ACT = pkWord p 1 ∧
            v.mem = t.upBootRecord.mem) ∧
          (t.upRank = 0 → ¬waits → t.get RESETTING = 0 → Answers (.upCommit n ok) s fun v => v.get RESETTING = 1))) ∧
      (s.updHead n 0x18 = some (p, t) → t.get UP_SLOT < 8 →
        (t.get UP_ASKED = 1 → pkWord p 0 = t.get UP_NEWID → Answers (.abortPacket n) s fun v =>
          v.get UP_ASKED = 0 ∧ v.list UP_PRO = []) ∧
        (t.get UP_ASKED ≠ 1 → pkWord p 0 = t.upId → t.get GH_UPSTAT.STATE ∉ usLATE → t.get GH_UPSTAT.COORD ≠ 1 →
          Answers (.abortPacket n) s fun v => v.get GH_UPSTAT.STATE = usIDLE) ∧
        (t.get UP_ASKED ≠ 1 → pkWord p 0 ≠ t.upId ∨ t.get GH_UPSTAT.STATE ∈ usLATE → exec (.abortPacket n) s = run s t))) ∧
    (Awake s →
      (s.get UP_STEP = 3 → s.get UP_SLOT < 8 → Answers .voteTExpiry s fun t =>
        t.get GH_UPSTAT.STATE = usIDLE ∧ t.get GH_UPSTAT.COORD = 0 ∧ (s.get CMD_OP = 7 → t.get GH_STATUS.STATE = 3)) ∧
      (s.get UP_STEP ≠ 3 → Answers .voteTExpiry s fun t => s.Frame t []) ∧
      (s.get GH_UPSTAT.STATE = usCOMMITTED → s.get UP_WAITS = 1 ∨ s.get UP_GO = 1 → Answers .actTime s fun t =>
        t.get RESETTING = 1) ∧
      (s.get GH_UPSTAT.STATE ≠ usCOMMITTED → Answers .actTime s fun t => s.Frame t []))

/-- ACTIVATE resets an unpaired committed target of its rank. CONFIRM ends a STARTED session with the anti-rollback
count raised and the trial time 0; a device with PASS leaves the session. REVERT, the end of CONFIRM_T and the end
of the trial time write back the other area and reset a device that runs the trial one. A device whose records hold
the package answers a QUERY; an in-doubt device asks at its timer, and commits and resets, or aborts, by the ANSWER.
GH_SETDATA is written (its four bytes and nothing else of any memory) and read at GH_SETADDR, which INC advances.
SAVE is refused during a trial, waits for the flash, or writes the image. Where it rests on the model's own
readings: log entries 83, 84, 85 and 87. (R724, R725, R726, R727, R728, R729, R730, R731, R734.) -/
def Obligations.UpdatesAreConfirmedOrReverted : Prop :=
  ∀ (s : State) (m : Master),
    (Awake s → ∀ (n : Fin 9) (p : Nat) (t : State),
      (s.updHead n 0x19 = some (p, t) →
        let rank := bits (pkWord p 1) 0 8
        (pkWord p 0 ≠ t.upId ∨ t.get GH_UPSTAT.COORD = 1 ∨ t.upRank ≠ rank ∨ t.get GH_UPSTAT.STATE ≠ usCOMMITTED →
          exec (.activate n) s = run s t) ∧
        (pkWord p 0 = t.upId → t.get GH_UPSTAT.COORD ≠ 1 → t.upRank = rank → rank ≠ 0 →
          t.get GH_UPSTAT.STATE = usCOMMITTED → t.get MI_CFG.EN = 0 → t.get RESETTING = 0 →
          Answers (.activate n) s fun v => v.get RESETTING = 1)) ∧
      (s.updHead n 0x1A = some (p, t) →
        (pkWord p 0 ≠ t.upId ∨ t.get GH_UPSTAT.COORD = 1 → exec (.confirm n) s = run s t) ∧
        (pkWord p 0 = t.upId → t.get GH_UPSTAT.COORD ≠ 1 → t.get UP_SLOT < 8 →
          (t.get GH_UPSTAT.STATE = usPASS → Answers (.confirm n) s fun v => v.get GH_UPSTAT.STATE = usIDLE) ∧
          (t.get GH_UPSTAT.STATE = usSTARTED → Answers (.confirm n) s fun v =>
            v.get GH_UPSTAT.STATE = usIDLE ∧ v.get GH_UPTRIAL.REMAIN = 0 ∧
            v.get GH_ARB.COUNT = max (t.get GH_ARB.COUNT) (t.proLE 16 4 % 2 ^ 7) % 2 ^ 7 ∧
            (t.get SET_MIGRATED ≠ 1 → v.mem = (t.writeBoot t.brActive false true).mem)))) ∧
      (s.updHead n 0x1B = some (p, t) →
        (pkWord p 0 ≠ t.upId ∨ t.get GH_UPSTAT.COORD = 1 → exec (.revert n) s = run s t) ∧
        (pkWord p 0 = t.upId → t.get GH_UPSTAT.COORD ≠ 1 → t.get UP_SLOT < 8 → t.get RESETTING = 0 →
          t.get GH_UPSTAT.STATE ≠ usPASS → t.brTrial = true → t.get FLASH_OK = 1 →
          (t.get UP_BOOT = t.brActive + 1 → Answers (.revert n) s fun v => v.get RESETTING = 1) ∧
          (t.get UP_BOOT ≠ t.brActive + 1 → Answers (.revert n) s fun v =>
            v.get GH_UPSTAT.STATE = usIDLE ∧ v.get GH_UPTRIAL.REMAIN = 0))) ∧
      (s.updHead n 0x1C = some (p, t) →
        let holds (x : Nat) := t.get FLASH_OK = 1 ∧ t.recGood x = true ∧ t.flashLE (t.recBase x + 8) 8 = pkWord p 0
        (t.brUsed.isSome = true → holds t.brActive →
          exec (.query n) s = run s (t.broadcast clUPD 0x1D [pkWord p 0, 1])) ∧
        (¬holds t.brActive → ¬holds (1 - t.brActive) → exec (.query n) s = run s t)) ∧
      (s.updHead n 0x1D = some (p, t) →
        (pkWord p 0 ≠ t.upId ∨ t.get GH_UPSTAT.STATE ≠ usINDOUBT → exec (.answer n) s = run s t) ∧
        (pkWord p 0 = t.upId → t.get GH_UPSTAT.STATE = usINDOUBT → t.get UP_SLOT < 8 → t.get RESETTING = 0 →
          (bit (pkWord p 1) 0 = true → Answers (.answer n) s fun v => v.get RESETTING = 1) ∧
          (bit (pkWord p 1) 0 = false → Answers (.answer n) s fun v => v.get GH_UPSTAT.STATE = usIDLE)))) ∧
    (Awake s →
      let coord := s.get GH_UPSTAT.COORD = 1 ∧ (s.get UP_STEP = 5 ∨ s.get UP_STEP = 4 ∧ s.get UP_RANK ≠ 0)
      let trial := s.get GH_UPSTAT.STATE ≠ usPASS ∧ s.brTrial = true ∧ s.get FLASH_OK = 1 ∧ s.get UP_SLOT < 8
      (¬coord → Answers .confirmTExpiry s fun t => s.Frame t []) ∧
      (coord → trial → s.get UP_BOOT = s.brActive + 1 → Answers .confirmTExpiry s fun t => t.get RESETTING = 1) ∧
      (s.get GH_UPTRIAL.REMAIN = 0 → Answers .trialExpiry s fun t => s.Frame t []) ∧
      (s.get GH_UPTRIAL.REMAIN ≠ 0 → trial → s.get UP_BOOT = s.brActive + 1 → Answers .trialExpiry s fun t =>
        t.get RESETTING = 1) ∧
      (s.get GH_UPSTAT.STATE ≠ usINDOUBT → Answers .queryTimer s fun t => s.Frame t []) ∧
      (s.get GH_UPSTAT.STATE = usINDOUBT → Answers .queryTimer s fun t => ∀ o : Fin 8, s.alive o = true →
        s.get HX_PSTAT.CHILD o = 1 →
        (t.list HX_TX (16 * o + clUPD)).getLast? = some (s.ownPacket 255 clUPD 0x1C 0 [s.upId, s.dieId]))) ∧
    (∀ v : Word, Writes m 0xD8 s →
      (s.unlocked m = true → Answers (.setdataAccess m (some v)) s fun t =>
        (∀ i : Fin 4, t.load .settings (s.get GH_SETADDR.ADDR + i) = v.toNat / 256 ^ i.val % 256) ∧
        (∀ g b, (∀ i : Fin 4, Region.base g + b ≠ Region.base .settings + s.get GH_SETADDR.ADDR + i) →
          t.load g b = s.load g b) ∧ t.get GH_SETCTL.DIRTY = 1 ∧
        t.get GH_SETADDR.ADDR = (if s.get GH_SETADDR.INC = 1 then (s.get GH_SETADDR.ADDR + 4) % 2 ^ 16
          else s.get GH_SETADDR.ADDR)) ∧
      (s.unlocked m = false → Answers (.setdataAccess m (some v)) s fun t =>
        t.mem = s.mem ∧ t.get GH_SETADDR.ADDR = s.get GH_SETADDR.ADDR)) ∧
    (Reads m 0xD8 s →
      exec (.setdataAccess m none) s = run s ((rdSetdata m s).2.emit .busData [m.code, (rdSetdata m s).1]) ∧
      (s.peeks m = false → s.get GH_SETADDR.INC = 1 → Answers (.setdataAccess m none) s fun t =>
        t.get GH_SETADDR.ADDR = (s.get GH_SETADDR.ADDR + 4) % 2 ^ 16 ∧ t.mem = s.mem)) ∧
    (Writes m 0xDC s →
      let st := s.get GH_UPSTAT.STATE
      let ok := st ≠ usTRIAL ∧ st ≠ usSTARTED
      (¬ok → Answers (.save m) s fun t => t.get GH_REFUSE.CODE = Rc.UP_BUSY.num % 2 ^ 16 ∧ t.mem = s.mem) ∧
      (ok → s.get FLASH_OK = 0 → Answers (.save m) s fun t => t.get UP_SAVE = 1 ∧ t.mem = s.mem) ∧
      (ok → s.get FLASH_OK = 2 → Answers (.save m) s fun t =>
        t.get GH_REFUSE.CODE = Rc.UP_NO_FLASH.num % 2 ^ 16 ∧ t.mem = s.mem) ∧
      (∀ l, ok → s.get FLASH_OK = 1 → s.setRecords = some l → Answers (.save m) s fun t =>
        t.mem = (s.settingsSave l).mem ∧ t.get GH_SETCTL.DIRTY = 0 ∧ t.get UP_SAVE = 0) ∧
      (ok → s.get FLASH_OK = 1 → s.setRecords = none → Answers (.save m) s fun t =>
        t.get GH_REFUSE.CODE = Rc.UP_SETTINGS.num % 2 ^ 16 ∧ t.mem = s.mem))

/-- A temperature sample shows the 16 values and the highest with its sensor, and an onset at WARN or CRIT sets its
bits. A rail sample shows the readings; a third one in a row outside a window sets LOW or HIGH, BV_IRQ.RAIL and
BV_ALERT.RAIL, and one inside begins the count anew. The scrubber does nothing while it is off or suspended. A
correctable word is stored corrected and counted in CE and BV_ERRSUM; an uncorrectable one is counted, sets
BV_IRQ.CFG and BV_ALERT.CFG_UE, and under action 1 fences a LIVE plot for the Belvedere; the scrubber goes on to the
next word, and counts a pass at the last. A repair whose source passes ends with BV_IRQ.REPAIR, and one that fails
leaves the plot's holder the Belvedere. SCAN starts the pass anew, and outside HOLD and RUN is refused; HANDBACK
gives a plot that the Belvedere holds to the user, another is refused. A suspension of 100 ms sets STARVED. A
calibration starts in HOLD and RUN, and ends with its last line; a forced swap is counted and sets BV_IRQ.CAL. Where
it rests on the model's own readings: log entries 92, 93 and 94. (R737, R738, R739, R742, R743, R744, R745, R746,
R747, R748, R753, R754.) -/
def Obligations.ScrubberRepairsAndCalibrationAct : Prop :=
  ∀ s : State, Awake s →
    (∀ ts : List (BitVec 12), ts.length = 16 → Answers (.tempSample ts) s fun t =>
      (∀ k : Fin 16, t.get BV_TEMP.VALUE k = (ts.getD k 0).toNat ∧ t.get BV_TEMP.VALID k = 1) ∧
      (∃ h : Fin 16, t.get BV_TEMPMAX.SENSOR = h ∧ t.get BV_TEMPMAX.VALUE = (ts.getD h 0).toNat ∧
        ∀ k : Fin 16, offset12 (ts.getD k 0).toNat ≤ offset12 (ts.getD h 0).toNat) ∧
      (s.get TMP_ON 0 = 0 → offset12 (s.get BV_TEMPTHR.WARN) ≤ offset12 (t.get BV_TEMPMAX.VALUE) →
        t.get BV_IRQ.TEMP = 1 ∧ t.get BV_ALERT.TEMP_HIGH = 1) ∧
      (s.get TMP_ON 1 = 0 → offset12 (s.get BV_TEMPTHR.CRIT) ≤ offset12 (t.get BV_TEMPMAX.VALUE) →
        t.get BV_ALERT.TEMP_CRIT = 1)) ∧
    (∀ (mv : List (BitVec 12)) (settled : Bool), mv.length = 7 → Answers (.railSample mv settled) s fun t =>
      ∀ r : Fin 7,
        let v := (mv.getD r 0).toNat
        let w := s.railWindow r
        t.get BV_RAIL.MV r = v ∧
        (r.val ≠ 0 →
          (s.get RAIL_CNT r = 2 → v < w.1 →
            t.get BV_RAIL.LOW r = 1 ∧ t.get BV_IRQ.RAIL = 1 ∧ t.get BV_ALERT.RAIL = 1) ∧
          (s.get RAIL_CNT (r + 8) = 2 → w.2 < v →
            t.get BV_RAIL.HIGH r = 1 ∧ t.get BV_IRQ.RAIL = 1 ∧ t.get BV_ALERT.RAIL = 1) ∧
          (s.get RAIL_CNT r < 2 → v < w.1 → t.get RAIL_CNT r = s.get RAIL_CNT r + 1) ∧
          (w.1 ≤ v → v ≤ w.2 → t.get RAIL_CNT r = 0 ∧ t.get RAIL_CNT (r + 8) = 0))) ∧
    (∀ flips : BitVec 39,
      let a := s.get CS_AT
      let p := csPlot a
      let st := s.get FB_PSTAT.STATE p
      let ad := 128 * csTile a + a % 128
      let v := s.load .config ad ^^^ flips.toNat
      (s.csRuns = false ∨ s.csSuspended = true → Answers (.configScrubRead flips) s fun t => s.Frame t []) ∧
      (s.csRuns = true → s.csSuspended = false → a < csWords → st ≠ pWRITING → st ≠ pSTAGING → cfgSyndrome v ≠ 0 →
        (∀ u, cfgCorrect v = some u → Answers (.configScrubRead flips) s fun t =>
          t.load .config ad = u % 2 ^ 80 ∧ t.get BV_CSCNT.CE = min (s.get BV_CSCNT.CE + 1) (2 ^ 16 - 1) ∧
          t.get BV_ERRSUM.COUNT 0 = min (s.get BV_ERRSUM.COUNT 0 + 1) (2 ^ 32 - 1) ∧
          (a + 1 < csWords → t.get CS_AT = a + 1) ∧
          (a + 1 = csWords → t.get CS_AT = 0 ∧ t.get BV_CSSTAT.PASSES = (s.get BV_CSSTAT.PASSES + 1) % 2 ^ 16)) ∧
        (cfgCorrect v = none → s.get BV_CSCFG.UE_ACT < 2 → Answers (.configScrubRead flips) s fun t =>
          t.get BV_CSCNT.UE = min (s.get BV_CSCNT.UE + 1) (2 ^ 16 - 1) ∧
          t.get BV_ERRSUM.COUNT 1 = min (s.get BV_ERRSUM.COUNT 1 + 1) (2 ^ 32 - 1) ∧
          t.get BV_IRQ.CFG = 1 ∧ t.get BV_ALERT.CFG_UE = 1 ∧
          (s.get BV_CSCFG.UE_ACT = 0 → t.get FB_PSTAT.STATE p = st) ∧
          (s.get BV_CSCFG.UE_ACT = 1 → st = pLIVE → s.get CS_DONE p ≠ 1 →
            t.get FB_PSTAT.STATE p = pFENCING ∧ t.get FB_PSTAT.HOLDER p = hBELVEDERE)))) ∧
    (s.get REP_STEP ≠ 2 → Answers .repairComplete s fun t => s.Frame t []) ∧
    (s.get REP_STEP = 2 → s.list REP_Q = [] →
      let p := s.get BV_CSSTAT.REPAIR_PLOT
      let r := s.repRun p
      (∀ c, r.1 = some c → p < 64 → s.get REP_SLOT < 8 → Answers .repairComplete s fun t =>
        t.get BV_CSSTAT.REPAIRING = 0 ∧ t.get REP_STEP = 0 ∧
        (s.get FB_PSTAT.REPAIR p ≠ 1 → t.get FB_PSTAT.STATE p = pFENCED ∧ t.get FB_PSTAT.HOLDER p = hBELVEDERE)) ∧
      (r.1 = none →
        (s.get FB_PSTAT.REPAIR p = 1 → exec .repairComplete s =
          run s ((r.2.repairOver.raise Rc.BV_REPAIR_DONE p).put BV_IRQ.REPAIR 1)) ∧
        (s.get FB_PSTAT.REPAIR p ≠ 1 → exec .repairComplete s = run s
          (((r.2.unfence p).repairOver.raise Rc.BV_REPAIR_DONE p).put BV_IRQ.REPAIR 1).repairNext))) ∧
    (∀ m : Master, Writes m 0x34014 s →
      (s.mode = mHOLD ∨ s.mode = mRUN →
        (Answers (.scan m) s fun t => t.get CS_AT = 0 ∧ t.get BV_CSSTAT.PASSES = s.get BV_CSSTAT.PASSES) ∧
        (∀ p : Fin 64,
          (s.get FB_PSTAT.STATE p = pFENCED → s.get FB_PSTAT.HOLDER p = hBELVEDERE → Answers (.handback m p) s fun t =>
            t.get FB_PSTAT.HOLDER p = hUSER ∧ t.get FB_PSTAT.STATE p = pFENCED) ∧
          (s.get FB_PSTAT.HOLDER p ≠ hBELVEDERE → Answers (.handback m p) s fun t =>
            t.get FB_PSTAT.HOLDER p = s.get FB_PSTAT.HOLDER p ∧ t.get GH_REFUSE.CODE = Rc.BV_NOT_HELD.num % 2 ^ 16))) ∧
      (s.mode ≠ mHOLD → s.mode ≠ mRUN → Answers (.scan m) s fun t =>
        t.get CS_AT = s.get CS_AT ∧ t.get GH_REFUSE.CODE = Rc.BV_WRONG_MODE.num % 2 ^ 16)) ∧
    (s.csSuspended = true → Answers .scrubStarved s fun t => t.get BV_IRQ.STARVED = 1 ∧ t.get BV_ALERT.STARVED = 1) ∧
    (s.csSuspended = false → Answers .scrubStarved s fun t => s.Frame t []) ∧
    (s.mode = mHOLD ∨ s.mode = mRUN → Answers .dlCalibrationStart s fun t =>
      t.get BV_DLSTAT.BUSY = 1 ∧ s.Frame t [BV_DLSTAT.BUSY.key 0]) ∧
    (s.mode ≠ mHOLD → s.mode ≠ mRUN → Answers .dlCalibrationStart s fun t => s.Frame t []) ∧
    (s.get BV_DLSTAT.BUSY = 1 → s.get AVS_PHASE ≠ 11 → Answers (.dlSwap true) s fun t =>
      t.get BV_DLSTAT.BUSY = 0 ∧ s.Frame t [BV_DLSTAT.BUSY.key 0]) ∧
    (Answers (.dlSwap false) s fun t => s.Frame t []) ∧
    (∀ (p : Fin 64) (last : Bool),
      (s.get BV_DLSTAT.BUSY = 1 → Answers (.dlForcedSwap p last) s fun t =>
        t.get BV_DLSTAT.FORCED = min (s.get BV_DLSTAT.FORCED + 1) (2 ^ 16 - 1) ∧ t.get BV_IRQ.CAL = 1 ∧
        (last = true → t.get BV_DLSTAT.BUSY = 0)) ∧
      (s.get BV_DLSTAT.BUSY ≠ 1 → Answers (.dlForcedSwap p last) s fun t => s.Frame t []))

/-- A disabled target ignores every transaction; in DORMANT a command outside those that R759 lists is NACKed. A read
answers the command's data, behind its length for a block, then the PEC when it is asked for and 0xFF beyond it.
LOG_STAT clears the overrun flag, LOG_NEXT advances cursor 2. A write with a good PEC, or without one where none is
required, takes its value when it is in range; out of range counts in PROTO, a wrong PEC in PECERR, and either sets
BV_IRQ.SMB. ALERT_CLR clears the written bits. The alert response address is answered while the alert is driven and
wins, which releases it. A clock timeout and a reserved or wrongly directed command count in PROTO. Where it rests
on the model's own readings: log entry 95. (R740, R758, R759, R760, R761, R806, Table BV-6.) -/
def Obligations.SmbusTargetAnswersItsCommands : Prop :=
  ∀ s : State, Awake s →
    let on (cmd : Nat) := s.get BV_SMBCFG.EN = 1 ∧ (s.mode = mDORMANT → cmd ∈ smbDormant)
    let framed (cmd : Nat) (data : List Nat) := if cmd ∈ smbBlocks then data.length :: data else data
    let low := s.mode + 16 * s.roleShown + 64 * s.get PW_GOVSTAT.SHORT + 128 * b2n (s.get PW_GOVSTAT.STATE = 3)
    let unread := s.unread 2
    let bad := (s.ring.take unread).any fun x => 3 ≤ x.sev
    let record (x : Bool) := (s.recordAt 2 x).flatMap (bytesLE 4)
    (∀ (c : SmbRead → Instr) (cmd : Nat) (data : List Nat) (after : State), (c, cmd, data, after) ∈
        [(Instr.ident, 0x01, [0x36, 0x15, 0xA1, s.mode + 16 * s.roleShown] ++ bytesLE 8 s.dieId, s),
         (.smbStatus, 0x02, [low, s.alertBits % 256], s),
         (.smbAddr, 0x03, [s.hxAddr], s),
         (.tempMax, 0x10, signed16 (s.get BV_TEMPMAX.VALUE), s),
         ((fun r => .tempSel (.read r)), 0x11, [s.get SMB_SEL], s),
         (.smbTemp, 0x12, signed16 (s.get BV_TEMP.VALUE (s.get SMB_SEL)), s),
         ((fun r => .railSel (.read r)), 0x18, [s.get SMB_RSEL], s),
         (.smbRail, 0x19, bytesLE 2 (s.get BV_RAIL.MV (s.get SMB_RSEL)), s),
         (.vcoreCmd, 0x1A, bytesLE 2 (s.get PW_GOVSTAT.VNOW), s),
         (.icore, 0x1B, bytesLE 2 (if s.get PW_AVSSTAT.NOCUR = 1 then 0xFFFF else s.get PW_AVSDATA.CURRENT), s),
         (.paceMin, 0x20, bytesLE 2 (s.get PW_GOVSTAT.MINIDX), s),
         (.paceReq, 0x21, bytesLE 2 (s.get PW_GOVREQ.PACE_REQ), s),
         (.errsum, 0x28, (List.range 4).flatMap fun i => bytesLE 4 (s.get BV_ERRSUM.COUNT i), s),
         (.logStat, 0x30, bytesLE 2 (unread % 2 ^ 13 + 2 ^ 13 * b2n (bit (s.get EV_IRQ.OVR) 2) + 2 ^ 14 * b2n bad),
           s.andBit EV_IRQ.OVR 2),
         ((fun r => .logNext r false), 0x31, record false, s.cursorOn 2),
         ((fun r => .logNext r true), 0x31, record true, s.cursorOn 2),
         ((fun r => .logPeek r false), 0x32, record false, s),
         ((fun r => .logPeek r true), 0x32, record true, s),
         (.alertStat, 0x38, bytesLE 2 s.alertBits, s),
         ((fun r => .alertMask (.read r)), 0x3A, bytesLE 2 (s.get BV_ALERTMASK.MASK), s)] →
      let l := framed cmd data
      (on cmd → exec (c (.whole false)) s = run s (after.emit .smbus ([cmd, 1] ++ l)) ∧
        exec (c (.whole true)) s = run s (after.emit .smbus ([cmd, 1] ++ l ++ [s.smbPec cmd l])) ∧
        (∀ n, exec (c (.past n)) s = run s (after.emit .smbus ([cmd, 1] ++ l ++ List.replicate n.toNat 0xFF))) ∧
        (cmd ∈ smbBlocks → Answers (c .cut) s fun t =>
          t.get BV_SMBSTAT.PROTO = min (s.get BV_SMBSTAT.PROTO + 1) (2 ^ 8 - 1) ∧ t.get BV_IRQ.SMB = 1)) ∧
      (s.get BV_SMBCFG.EN = 1 → ¬on cmd → ∀ r, exec (c r) s = run s (s.emit .smbus [cmd, 0])) ∧
      (s.get BV_SMBCFG.EN ≠ 1 → ∀ r, Answers (c r) s fun t => s.Frame t [])) ∧
    (∀ (d : BitVec 8) (pec : Option (BitVec 8)) (c : SmbAccess 8 → Instr) (cmd top : Nat) (f : Field),
      (c, cmd, top, f) ∈ [(Instr.tempSel, 0x11, 16, SMB_SEL), (.railSel, 0x18, 7, SMB_RSEL)] → on cmd →
      let good := match pec with
        | none => s.get BV_SMBCFG.PEC_REQ ≠ 1
        | some p => [2 * s.get BV_SMBCFG.ADDR, cmd, d.toNat].foldl pecByte 0 = p.toNat
      (good → d.toNat < top → Answers (c (.write d pec)) s fun t => t.get f = d.toNat ∧ s.Frame t [f.key 0]) ∧
      (top ≤ d.toNat → Answers (c (.write d pec)) s fun t => t.get f = s.get f ∧
        t.get BV_SMBSTAT.PROTO = min (s.get BV_SMBSTAT.PROTO + 1) (2 ^ 8 - 1) ∧ t.get BV_IRQ.SMB = 1) ∧
      (¬good → d.toNat < top → Answers (c (.write d pec)) s fun t => t.get f = s.get f ∧
        t.get BV_SMBSTAT.PECERR = min (s.get BV_SMBSTAT.PECERR + 1) (2 ^ 8 - 1) ∧ t.get BV_IRQ.SMB = 1)) ∧
    (∀ w : BitVec 16, s.get BV_SMBCFG.PEC_REQ ≠ 1 →
      (on 0x39 → Answers (.alertClr w none) s fun t => ∀ f ∈ BV_ALERT.reg.fields,
        t.get f = if bit w.toNat f.lo then 0 else s.get f) ∧
      (on 0x3A → Answers (.alertMask (.write w none)) s fun t => t.get BV_ALERTMASK.MASK = w.toNat % 2 ^ 10)) ∧
    (s.get BV_SMBCFG.EN = 1 → s.alertDriven = true → Answers (.alertResponseAddress true) s fun t =>
      t.get SMB_REL = 1 ∧ (s.alertBits < 2 ^ 10 → t.alertDriven = false) ∧ ⟨.smbus, [0x0C, 1, 2 * s.get BV_SMBCFG.ADDR]⟩ ∈ t.out) ∧
    (s.alertDriven = false → ∀ won, Answers (.alertResponseAddress won) s fun t => s.Frame t []) ∧
    (Answers (.alertResponseAddress false) s fun t => s.Frame t []) ∧
    (s.get BV_SMBCFG.EN = 1 → Answers .smbSclTimeout s fun t =>
      t.get BV_SMBSTAT.PROTO = min (s.get BV_SMBSTAT.PROTO + 1) (2 ^ 8 - 1) ∧ t.get BV_IRQ.SMB = 1) ∧
    (s.get BV_SMBCFG.EN ≠ 1 → Answers .smbSclTimeout s fun t => s.Frame t []) ∧
    (∀ (code : BitVec 8) (write : Bool), on code.toNat →
      (code.toNat ∉ (if write then smbWrites else smbReads) → Answers (.smbReservedCommand code write) s fun t =>
        t.get BV_SMBSTAT.PROTO = min (s.get BV_SMBSTAT.PROTO + 1) (2 ^ 8 - 1) ∧ t.get BV_IRQ.SMB = 1 ∧
        ⟨.smbus, [code.toNat, 0]⟩ ∈ t.out) ∧
      (code.toNat ∈ (if write then smbWrites else smbReads) → Answers (.smbReservedCommand code write) s fun t =>
        s.Frame t []))

/-- ENTER goes to ENTERING with BUSY when every check of Table PW-9 passes, and is refused with the check's code
otherwise. Entry starts once nothing runs that it waits for; it stops in DORMANT, asleep, once every plot is fenced
and the core rests, and its count of entries rises. At the end of WAIT_T before its start it is abandoned. WAKE_N,
an exit of the link from L1 and a neighbour of a sleeping port wake the sleeping device with their cause, and a wake
event during entry abandons it. The end of the wake leads through Table PW-13; outside a wake it changes nothing.
Where it rests on the model's own readings: log entries 29, 44 and 59. (R765, R766, R769, R772, R774, Table PW-9,
Table PW-10, Table PW-13.) -/
def Obligations.DormantIsEnteredAndLeft : Prop :=
  ∀ s : State, Awake s →
    let asleep := s.mode = mDORMANT ∧ s.get PW_DMSTAT.PHASE = dmASLEEP
    let woken (t : State) (cause idx : Nat) := t.get PW_DMSTAT.PHASE = dmWAKING ∧ t.get PW_MODE.BUSY = 1 ∧
      t.get PW_DMSTAT.CAUSE = cause ∧ t.get PW_DMSTAT.CIDX = idx ∧ t.mode = mDORMANT
    let left (t : State) (code : Nat) := t.get PW_DMSTAT.PHASE = dmAWAKE ∧ t.get DM_STEP = 0 ∧ t.get PW_MODE.BUSY = 0 ∧
      t.get PW_DMIRQ.REFUSED = 1 ∧ t.get PW_REFUSE.CODE = code % 2 ^ 16 ∧ t.mode = s.mode
    (∀ m : Master, Writes m 0x1300 s →
      (s.dmCheck = none → Answers (.enter m) s fun t =>
        t.get PW_MODE.BUSY = 1 ∧ t.get PW_DMSTAT.PHASE = dmENTERING ∧ t.get DM_STEP = 1 ∧ t.get DM_BY = m.code ∧
        t.mode = s.mode) ∧
      (∀ r, s.dmCheck = some r → Answers (.enter m) s fun t =>
        t.get PW_REFUSE.CODE = r.1.num % 2 ^ 16 ∧ t.get PW_DMIRQ.REFUSED = 1 ∧ t.get DM_STEP = s.get DM_STEP ∧
        t.get PW_DMSTAT.PHASE = s.get PW_DMSTAT.PHASE)) ∧
    (s.get DM_STEP = 1 → s.dmReady = true →
      let u := ((s.put DM_STEP 2).put PX_PAUSE 1).channelsFollow.hxSleep
      let v := if u.get OG_STAT.ACTIVE = 1 then u.put OG_DUE 1 else u
      exec .dormantEntryStart s = run s ((List.range 64).foldl (fun x p =>
        if x.get FB_PSTAT.STATE p = pLIVE then x.fence p hDORMANT (x.flag PW_DMCFG.FORCE) 7 else x) v)) ∧
    (s.get DM_STEP ≠ 1 ∨ s.dmReady = false → Answers .dormantEntryStart s fun t => s.Frame t []) ∧
    (s.get DM_STEP = 2 → s.coreBusy = false → (∀ p : Fin 64, s.get FB_PSTAT.STATE p ≠ pFENCING) →
      Answers .dormantEntryStop s fun t =>
        t.mode = mDORMANT ∧ t.get PW_DMSTAT.PHASE = dmASLEEP ∧ t.get DM_STEP = 0 ∧ t.get PW_MODE.BUSY = 0) ∧
    (s.get DM_STEP ≠ 2 ∨ s.coreBusy = true ∨ (∃ p : Fin 64, s.get FB_PSTAT.STATE p = pFENCING) →
      Answers .dormantEntryStop s fun t => s.Frame t []) ∧
    (s.get DM_STEP = 1 → Answers .waitTExpiry s fun t => left t Rc.PW_DM_TIMEOUT.num) ∧
    (s.get DM_STEP ≠ 1 → Answers .waitTExpiry s fun t => s.Frame t []) ∧
    (asleep →
      (s.get PW_DMCFG.WAKEN_EN = 1 → Answers (.wakeEvent .wakeN) s fun t => woken t 1 0) ∧
      (s.linkUp = true → Answers (.wakeEvent .l1Exit) s fun t => woken t 3 0 ∧ bit (t.get PX_OWED) 1 = true) ∧
      (∀ n : Fin 8, s.get HX_PSTAT.STATE n = hpSLEEPING → Answers (.wakeEvent (.hokuox n)) s fun t => woken t 5 n)) ∧
    (s.mode ≠ mDORMANT → s.get PW_DMSTAT.PHASE = dmENTERING → s.get DM_STEP = 1 → s.get PW_DMCFG.WAKEN_EN = 1 →
      Answers (.wakeEvent .wakeN) s fun t => left t Rc.PW_DM_ABORTED.num) ∧
    (s.get PW_DMCFG.WAKEN_EN ≠ 1 → Answers (.wakeEvent .wakeN) s fun t => s.Frame t []) ∧
    (∀ avs late ms ns,
      (s.mode = mDORMANT → s.get PW_DMSTAT.PHASE = dmWAKING →
        let u := s.wakeUp avs late.toNat ms.toNat ns.toNat
        exec (.wakeComplete avs late ms ns) s =
          run u (bar0Held (u.list BAR0_HELD).length (u.list BAR0_HELD) (u.setList BAR0_HELD []))) ∧
      (s.mode ≠ mDORMANT ∨ s.get PW_DMSTAT.PHASE ≠ dmWAKING →
        Answers (.wakeComplete avs late ms ns) s fun t => t = s))

/-- TEST_START with no test selected fails TS_NONE, and with a failing condition its code; otherwise the device is in
TEST. A test without failures passes, one with failures fails with their count and the first object, and the next
selected test runs; after the last, or a failing one under STOP_ON_FAIL, a warm reset begins, as it does when a
condition is lost. Outside TEST these change nothing. Where it rests on the model's own readings: log entries 58 and
96. (R780, R781, R783, R784, R785, R787.) -/
def Obligations.SelfTestRunsAndEnds : Prop :=
  ∀ (s : State) (m : Master),
    (∀ freq vcore, Issues m 0x09 s →
      (s.get PW_TSCFG.TESTS = 0 → Answers (.testStart m freq vcore) s fun t =>
        t.get GH_STATUS.STATE = 3 ∧ t.get GH_STATUS.RESULT = Rc.TS_NONE.num % 2 ^ 16 ∧ t.mode = s.mode) ∧
      (∀ c obj, s.get PW_TSCFG.TESTS ≠ 0 → s.tsCheck freq.toNat vcore.toNat = some (c, obj) →
        Answers (.testStart m freq vcore) s fun t =>
          t.get GH_STATUS.STATE = 3 ∧ t.get GH_STATUS.RESULT = c.num % 2 ^ 16 ∧ t.mode = s.mode) ∧
      (s.get PW_TSCFG.TESTS ≠ 0 → s.tsCheck freq.toNat vcore.toNat = none →
        Answers (.testStart m freq vcore) s fun t => t.mode = mTEST)) ∧
    (Awake s →
      let running := s.mode = mTEST ∧ s.get PW_TSSTAT.STATE = 2
      let i := s.get PW_TSSTAT.CURRENT
      let next := s.tsFrom (s.get TS_NEXT + 1)
      (∀ fails obj addr, running → i < 6 →
        (∀ k, next = some k → fails = 0 ∨ s.get PW_TSCFG.STOP_ON_FAIL ≠ 1 → Answers (.testComplete fails obj addr) s fun t =>
          t.get PW_TSRES.RESULT i = (if fails = 0 then 1 else 2) ∧ t.get PW_TSRES.COUNT i = fails.toNat ∧
          t.get PW_TSRES.OBJ i = (if fails = 0 then 0 else obj.toNat) ∧ t.get TS_NEXT = k ∧
          t.get PW_TSSTAT.CURRENT = tsOrder.getD k 0 ∧ t.mode = mTEST) ∧
        (next = none ∨ fails ≠ 0 ∧ s.get PW_TSCFG.STOP_ON_FAIL = 1 → Answers (.testComplete fails obj addr) s fun t =>
          t.get RESETTING = 1)) ∧
      (running → i < 6 → ∀ c, Answers (.tsCondLost c) s fun t => t.get RESETTING = 1) ∧
      (¬running → (∀ fails obj addr, Answers (.testComplete fails obj addr) s fun t => s.Frame t []) ∧
        ∀ c, Answers (.tsCondLost c) s fun t => s.Frame t []))

/-- Outside DORMANT a tick takes the oldest waiting record into the ring, and EV_HEAD rises; a full ring gives up its
oldest record, and a cursor that stood at it moves on, counts a loss and shows the overrun. A record at or above a
cursor's threshold sets its NEW bit. A read of EV_REC0 returns word 0 at the reader's cursor and latches the other
seven, and the cursor moves on over an unread record, but not for a peeking debugger; the ring stays. A cursor is
written by its own reader, or by the owner, and is held within the ring; another's write is denied. Where it rests
on the model's own readings: log entries 33, 49 and 56. (R796, R797, R798, R799, R801, R803, R807, R808.) -/
def Obligations.LogIsWrittenAndReadThroughCursors : Prop :=
  ∀ s : State, Awake s →
    (s.mode = mDORMANT → Answers .logWriteTick s fun t => s.Frame t []) ∧
    (s.mode ≠ mDORMANT → s.intake = [] → s.get DROP_EPISODE = 0 → Answers .logWriteTick s fun t => s.Frame t []) ∧
    (∀ r rest, s.mode ≠ mDORMANT → s.intake = r :: rest →
      Answers .logWriteTick s fun t =>
        t.ring = r :: s.ring.take 4095 ∧ t.get EV_HEAD.SEQ = (s.get EV_HEAD.SEQ + 1) % 2 ^ 32 ∧
        (∀ c, c < 4 → s.logThr c ≤ r.sev → bit (t.get EV_IRQ.NEW) c = true) ∧
        (s.ring.length < 4096 → s.get DROP_EPISODE = 0 → t.intake = rest ∧
          ∀ c : Fin 4, t.get EV_CUR.SEQ c = s.get EV_CUR.SEQ c) ∧
        (s.ring.length = 4096 → ∀ c : Fin 4, s.get EV_CUR.SEQ c = (s.get EV_HEAD.SEQ + 2 ^ 32 - 4096) % 2 ^ 32 →
          t.get EV_CUR.SEQ c = (s.get EV_CUR.SEQ c + 1) % 2 ^ 32 ∧
          t.get EV_LOST.COUNT c = min (s.get EV_LOST.COUNT c + 1) (2 ^ EV_LOST.COUNT.width - 1) ∧
          bit (t.get EV_IRQ.OVR) c = true)) ∧
    (∀ (m : Master) (corrupt : Bool), Reads m 0x38050 s →
      let c := cursorOf m
      let ws := s.recordAt c corrupt
      Answers (.evRec0Read m corrupt) s fun t =>
        ⟨.busData, [m.code, ws.getD 0 0]⟩ ∈ t.out ∧ t.ring = s.ring ∧
        (∀ k : Fin 7, t.latched m (0x38054 + 4 * k) 0 = ws.getD (k + 1) 0 % 2 ^ 32) ∧
        t.get EV_CUR.SEQ c =
          if s.unread c = 0 ∨ s.peeks m = true then s.get EV_CUR.SEQ c else (s.get EV_CUR.SEQ c + 1) % 2 ^ 32) ∧
    (∀ (m : Master) (c : Fin 4) (w : Word), Writes m (0x38020 + 4 * c) s →
      let back := (s.get EV_HEAD.SEQ + 2 ^ 32 - w.toNat) % 2 ^ 32
      (cursorOf m = c ∨ s.asOwner m 8 = true → Answers (.evCurWrite m c w) s fun t =>
        t.get EV_CUR.SEQ c = (if s.logHeld < back then s.logTail else w.toNat) ∧ s.Frame t [EV_CUR.SEQ.key c]) ∧
      (cursorOf m ≠ c → s.asOwner m 8 = false → Answers (.evCurWrite m c w) s fun t =>
        t.get EV_CUR.SEQ c = s.get EV_CUR.SEQ c ∧ t.get GH_IRQ.DENIED = 1))

/-- For each of these commands and every state: where it answers a next state, every memory, the log's ring, the waiting
commands, every FIFO and list and every register field and internal cell is as before, except the cells and lists
that the clause names (element by element); where the command can raise a record, the records that wait for the log
grow at the young end only, and a record lost for want of room is counted (R797, R798). Message bits of an interrupt
that the command raises are output. (spec/02_pace_and_voltage.md, spec/03_handshake_array.md,
spec/06_clock_synthesisers.md, spec/07_crossing_ports.md, spec/08_bandstand_time_and_triggers.md,
spec/09_bandstand_timers.md, spec/11_pins_and_banks.md, spec/12_serial_lanes.md, R797, R798.) -/
def Obligations.DeviceHappeningsKeepTheRest : Prop :=
  ∀ s : State,
    Silent .domainReleaseSlot s (cellsAt [REL_LEFT] ++ cellsUpTo [DOM_RESET] 16) ∧
    Silent .avsSettleEnd s (cellsAt [AVS_PHASE, AVS_TRIES, GOV_FRESH]) ∧
    Silent .avsStatusPoll s (cellsAt [AVS_PHASE, AVS_TRIES]) ∧
    (∀ (p : Fin 64) (b : Bool), Silent (.gateInboundRequest p b) s (cellsAt [FB_PCNT.SINKED, FB_PSTAT.HOLDING,
      GATE_HELD, GATE_SINK, STALLED] p)) ∧
    (∀ (l : Fin 64), Silent (.eventLineDeliver l) s (cellsAt [EL_PEND] l)) ∧
    (∀ (k : Fin 16) (p : Fin 64) (b : Bool), Silent (.uiLineChange k p b) s (cellsAt [UI_LINE, UI_WANT] k)) ∧
    (∀ (n : BitVec 40), Silent (.freqMeterDone n) s (cellsAt [CK_FMRES.COUNT, CK_FMCTL.BUSY, CK_FMCTL.DONE])) ∧
    Silent .slewDone s (cellsAt [BS_ADJCTL.BUSY, SLEW_LEFT, TCOUNT]) ∧
    (∀ (n : Fin 96), Silent (.ttCalibrationStart n) s (cellsAt [BS_TTSTAT.CAL] n)) ∧
    (∀ (n : Fin 96), Silent (.ttCalibrationEnd n) s (cellsAt [BS_TTSTAT.CAL, BS_TTSTAT.STALE] n)) ∧
    (∀ (l : Fin 40) (ago : BitVec 24) (w : BitVec 32), Silent (.lbtCapture l ago w) s (cellsAt [BS_IRQ.LBT] ++ cellsAt
      [BS_LBTT0.T, BS_LBTT1.T, BS_LBTT2.T, BS_LBTWC.WORDS, BS_LBTCTL.DONE, BS_LBTCTL.ARM, LANE_RXW, LANE_TXW] l)) ∧
    (∀ (b : Fin 12) (v : BitVec 3), Silent (.vioRestored b v) s (cellsAt [IO_BSTAT.OK, IO_BSTAT.VDET] b)) ∧
    (∀ (q : Fin 10), Silent (.qpllLocked q) s (cellsAt [SL_QSTAT.STATE, SL_QSTAT.BUSY] q ++ cellsAt [STAGE_FREQ,
      CK_OSTAT.PHASE] (6 + q))) ∧
    (∀ (l : Fin 40) (n : BitVec 32), Silent (.eyeScanDone l n) s (cellsAt [SL_IRQ.EYE] ++ cellsAt [SL_LEYE.BUSY,
      SL_LEYE.DONE, SL_LEYERES.COUNT] l)) ∧
    Silent .sliceEnd s (cellsAt [OG_DUE]) ∧
    Silent .perstNRelease s (cellsAt [PX_PERST] ++ cellsUpTo [SL_QSTAT.STATE, SL_QSTAT.BUSY] 2 ++ (cellsAt
      [STAGE_FREQ, STAGE_NEXT, STAGE_POL, CK_OSTAT.PHASE] 6 ++ cellsAt [STAGE_FREQ, STAGE_NEXT, STAGE_POL,
      CK_OSTAT.PHASE] 7)) ∧
    Logged .governorPeriod s (cellsAt [AVS_MISMATCHED, AVS_NEXT, AVS_PHASE, AVS_REPEATED, AVS_TARGET, AVS_TRIES,
      GOV_DOWN, PW_GOVSTAT.FLOOR, PW_GOVSTAT.SHORT, PW_GOVSTAT.STATE]) [] ∧
    Logged .paceShort s (cellsAt [PW_GOVSTAT.SHORT, PW_GOVSTAT.STATE, PW_GOVIRQ.SHORT_SEEN, BV_ALERT.PACE_SHORT]) [] ∧
    (∀ (l : List Nat), Logged (.paceWindowEnd l) s (cellsAt [AVS_FASTQ, AVS_MISMATCHED, AVS_NEXT, AVS_PHASE,
      AVS_REPEATED, AVS_TARGET, AVS_TRIES, GOV_FRESH, PW_GOVIRQ.METER_FAULT, PW_GOVSTAT.MINIDX] ++ cellsUpTo
      [METER_OOR, PW_METER.FAULT, PW_METER.INDEX, PW_METER.SEQ, PW_METER.VALID] 64) []) ∧
    (∀ (p : Fin 64) (w : BitVec 6) (a b : Bool) (d : BitVec 2), Logged (.hedgeProtocolViolation p w a b d) s (cellsAt
      [FB_IRQ.HEDGE_ERR] ++ cellsAt [FB_PERR.PROTO, FB_PSTAT.ERR] p) []) ∧
    (∀ (p : Fin 64) (w : BitVec 6) (a b : Bool) (d : BitVec 2), Logged (.drIllegalCode p w a b d) s (cellsAt
      [FB_IRQ.HEDGE_ERR] ++ cellsAt [FB_PERR.ILLEGAL, FB_PSTAT.ERR] p) []) ∧
    (∀ (p : Fin 64), Logged (.stallDetected p) s (cellsAt [FB_IRQ.STALL] ++ cellsAt [FB_PSTAT.QUIET, STALLED] p) []) ∧
    (∀ (l : Fin 64), Logged (.eventLineToken l) s (cellsAt [FB_ELOVR_LO.OVR, FB_ELOVR_HI.OVR, FB_IRQ.EL_OVR] ++
      cellsAt [EL_PEND] l) []) ∧
    (∀ (c : Fin 13), Logged (.refLoss c) s (cellsAt [CK_IRQ.REF_LOS, CK_REFLOS.LOST, CK_REFSTAT.PRESENT,
      REF_WAS_LOST]) []) ∧
    (∀ (c : Fin 13), Logged (.refRestored c) s (cellsAt [CK_REFSTAT.PRESENT, REF_WAS_LOST]) []) ∧
    (∀ (k : Fin 6), Logged (.synLockTimeout k) s (cellsAt [BS_IRQ.TB, BS_TBSTAT.STATE, CK_IRQ.LOCK_TO, SYN0_HOLD] ++
      cellsAt [CK_SYNSTAT.STATE, CK_SYNSTAT.BUSY] k) []) ∧
    (∀ (k : Fin 6), Logged (.synLocked k) s (cellsAt [BS_IRQ.TB, BS_TBSTAT.EPOCH, BS_TBSTAT.EPOCH_GEN,
      BS_TBSTAT.RUNNING, BS_TBSTAT.STATE, CK_IRQ.DONE, SYN0_HOLD, TCOUNT] ++ cellsAt [CK_OSTAT.PHASE, CK_SYNSTAT.BUSY,
      CK_SYNSTAT.STATE, STAGE_FREQ] k) []) ∧
    (∀ (d : BitVec 32), Logged (.epochLoad d) s (cellsAt [BS_EPCTL.ARM, BS_IRQ.EPOCH, BS_TBSTAT.COARSE,
      BS_TBSTAT.EPOCH, BS_TBSTAT.EPOCH_GEN, TCOUNT] ++ cellsUpTo [BS_CUSTAT.PEND, CUE_LATEP] 64) []) ∧
    (∀ (n : Fin 96), Logged (.ttStale n) s (cellsAt [BS_IRQ.STALE] ++ cellsAt [BS_TTSTAT.STALE] n) []) ∧
    (∀ (d : Fin 176), Logged (.stretchEnd d) s (cellsAt [RT_LEFT, RT_VAL] d) []) ∧
    (∀ (q : Fin 10), Logged (.slQpllLockTimeout q) s (cellsAt [SL_IRQ.QPLL] ++ cellsAt [SL_QSTAT.BUSY, SL_QSTAT.STATE]
      q) []) ∧
    (∀ (q : Fin 10), Logged (.slQpllLost q) s (cellsAt [SL_IRQ.QPLL] ++ cellsAt [SL_QSTAT.LOL, SL_QSTAT.STATE] q ++
      cellsAt [CK_OSTAT.PHASE] (6 + q)) []) ∧
    (∀ (l : Fin 40) (a b : Bool), Logged (.cdrLockChange l a b) s (cellsAt [SL_IRQ.CDR, SL_IRQ.EYE] ++ cellsAt
      [SL_LERR.CDR, SL_LEYE.BUSY, SL_LEYE.DONE, SL_LEYERES.COUNT, SL_LSTAT.ALIGNED, SL_LSTAT.CDR, SL_LSTAT.SIGDET] l)
      []) ∧
    (∀ (l : Fin 40) (a : Bool), Logged (.alignChange l a) s (cellsAt [SL_IRQ.ALIGN] ++ cellsAt [SL_LERR.ALIGN,
      SL_LSTAT.ALIGNED] l) []) ∧
    (∀ (b : Fin 12) (v : BitVec 3), Logged (.vioLost b v) s (cellsAt [IO_IRQ.VIO] ++ cellsAt [IO_BSTAT.OK,
      IO_BSTAT.VDET] b) []) ∧
    (∀ (l : Fin 40) (v : BitVec 64), Logged (.prbsCheck l v) s (cellsAt [SL_IRQ.PRBS] ++ cellsAt [PRBS_GOOD, PRBS_REG,
      SL_LPRBSERR.COUNT, SL_LTEST.PRBS_LOCK] l) (listsAt [PRBS_ERRS] l)) ∧
    (∀ (t : Fin 16) (j : Fin 2), Logged (.capture t j) s (cellsAt [LF_MATCHED] ++ timerCells t ++ cellsAt
      [BT_STAT.CAPF, BT_STAT.OVC, BT_PSCNT] t ++ cellsAt (BT_FINE2.reg.fields ++ [BT_CAP_LO.COUNT, BT_CAP_HI.COUNT,
      BT_CAP_HI.VALID, BT_KCNT.OVER, KEDGES, BT_FINE0.TIME, BT_FINE1.TIME]) (2 * t + j)) []) ∧
    (∀ (t : Fin 16), Logged (.timerOverflow t) s (timerCells t ++ cellsAt [LF_MATCHED] ++ cellsAt [BT_CTL.RUN,
      BT_STAT.OUT, BT_STAT.OVF] t ++ cellsAt [SRC_VAL] (80 + t) ++ routeCells) []) ∧
    (∀ (t : Fin 16) (k : Fin 4), Logged (.compareMatch t k) s (timerCells t ++ cellsAt [LF_MATCHED] ++ cellsAt
      [BT_CTL.RUN, BT_STAT.OUT, BT_STAT.OVF] t ++ cellsAt [SRC_VAL] (80 + t) ++ routeCells) []) ∧
    (∀ (t : Fin 16), Logged (.triggerEdge t) s (timerCells t ++ cellsAt [LF_MATCHED] ++ cellsAt [BT_CTL.RUN,
      BT_STAT.OUT, BT_STAT.OVF, BT_STAT.TRG, BT_PSCNT, TRIG_LAST] t ++ cellsAt [SRC_VAL] (80 + t) ++ routeCells) []) ∧
    (∀ (c : Fin 64), Logged (.pulseEnd c) s (cellsAt [BS_CUSTAT.LEVEL, CUE_PULSE] c ++ cellsAt [SRC_VAL] (16 + c) ++
      routeCells) []) ∧
    (∀ (c : Fin 64), Logged (.cueFire c) s (cellsAt [BS_CUSTAT.LEVEL, BS_CUSTAT.PEND, CUE_LATEP, CUE_PULSE] c ++
      cellsAt [SRC_VAL] (16 + c) ++ routeCells) (listsAt [CUE_Q] c)) ∧
    (∀ (c : Fin 64), Logged (.cueLate c) s (cellsAt [BS_IRQ.CUE_LATE] ++ cellsAt [BS_CUCNT.LATE, BS_CUSTAT.LEVEL,
      BS_CUSTAT.PEND, CUE_LATEP, CUE_PULSE] c ++ cellsAt [SRC_VAL] (16 + c) ++ routeCells) (listsAt [CUE_Q] c)) ∧
    (∀ (c : BitVec 8) (b : Bool), Logged (.routerSourceEdge c b) s (cellsAt [SRC_VAL] c.toNat ++ routeCells) (listsAt
      [PULSES])) ∧
    (∀ (x : Fin 256) (v : BitVec 64) (e : BitVec 8), Logged (.xpArrayOffer x v e) s (cellsAt [XP_CNT.OVERRUN,
      XP_STAT.LEVEL] x ++ cellsAt [XP_OVRMAP.OVR] (x / 32)) (listsAt [XP_Q, XP_WAIT] x)) ∧
    (∀ (x : Fin 256) (v : BitVec 64) (e : BitVec 4), Logged (.xpIslandAnswer x v e) s (cellsAt [XP_STAT.LEVEL] x)
      (listsAt [XP_Q, XP_WAIT] x)) ∧
    (∀ (x : Fin 256), Logged (.xpTimeout x) s (cellsAt [XP_DISC, XP_STAT.LEVEL, XP_STAT.STATE] x ++ cellsAt
      [XP_FAULT.FAULT] (x / 32)) (listsAt [XP_Q] x)) ∧
    (∀ (x : Fin 256), Logged (.xpResync x) s (cellsAt [XP_DISC, XP_SIDE, XP_STAT.LEVEL, XP_STAT.STATE] x ++ cellsAt
      [LTX_ARM] (s.get XP_CFG.AIDX x)) (listsAt [XP_Q, XP_WAIT] x))

/-- For each of these commands and every state: where it answers a next state, every memory, the log's ring, the waiting
commands and every register field and internal cell is as before, except the cells that the clause names; where the
clause names the lists too, every other FIFO and list is as before. The records that wait for the log grow at the
young end only (R797, R798). (spec/13_pcie_endpoint_and_dma.md, spec/14_hokuox_fabric.md, spec/15_mirrored_pair.md,
spec/18_configuration_and_release.md, spec/19_field_update.md, R797, R798.) -/
def Obligations.LinkHappeningsKeepTheRest : Prop :=
  ∀ s : State,
    (∀ (k : Fin 16) (o : BitVec 32) (f l : BitVec 8) (w : BitVec 64) (r : List (BitVec 64)), Logged (.bar2Write k o f
      l w r) s (cellsAt [PX_IRQ.WDROP, PX_NDLOG, PX_SEQ, PX_WDROP.NODESIGN]) (listsUpTo [PX_WQ, PX_XQ, XP_Q] 16)) ∧
    (∀ (k : Fin 16) (o : BitVec 32) (f l : BitVec 8) (n : Fin 513) (g : BitVec 10), Logged (.bar2Read k o f l n g) s
      (cellsAt [PX_IRQ.WDROP, PX_NDLOG, PX_SEQ]) (listsUpTo [PX_WQ, PX_XQ, XP_Q] 16 ++ listsAt [PX_RD] k)) ∧
    (∀ (k : Fin 16), Logged (.writeGuardExpiry k) s (cellsAt [PX_IRQ.WDROP, PX_WDROP.GUARD]) (listsUpTo [PX_WQ, PX_XQ,
      XP_Q] 16)) ∧
    (∀ (c : Fin 64), Logged (.descriptorComplete c) s (cellsAt [CH_ASKED, CH_MOVED, CH_OUT, CH_PHASE, CH_STAT, CH_TAG,
      PX_CHSTAT.STATE, PX_HEAD.HEAD] c) (listsAt [PX_STAGE] c)) ∧
    (∀ (v : Fin 4) (w : BitVec 4), Logged (.linkUp v w) s (cellsAt [PX_IRQ.LINK, PX_LINK.SPEED, PX_LINK.WIDTH]) []) ∧
    (∀ (v : HostViolation), Logged (.hostViolationTlp v) s (cellsAt [PX_AERLOG, PX_IRQ.AER, PX_ERRCNT.MALF,
      PX_ERRCNT.POISON, PX_ERRCNT.UNSUP, PX_ERRCNT.UNEXP]) []) ∧
    (∀ (n : Fin 8), Silent (.blockLock n) s (cellsAt [HX_INITC, HX_INITS, HX_PSTAT.STATE] n)) ∧
    (∀ (n : Fin 8), Silent (.blockLockLost n) s (cellsAt [HX_INITC, HX_INITS, HX_PSTAT.STATE] n)) ∧
    (∀ (n : Fin 8) (r : AlignResult), Logged (.hxAlign n r) s (cellsAt [HX_IRQ.VIOL] ++ cellsAt [HX_INITC, HX_INITS,
      HX_PERR.VIOL, HX_PSTAT.STATE] n) []) ∧
    (∀ (n : Fin 8), Silent (.ackTimer n) s (cellsAt [HX_UNACK] n)) ∧
    (∀ (n : Fin 8), Silent (.sleep n) s (cellsAt [HX_PSTAT.STATE] n)) ∧
    (∀ (n : Fin 8) (k : BitVec 4) (w : BitVec 16), Logged (.credit n k w) s (cellsAt [HX_IRQ.VIOL] ++ cellsAt
      [HX_PERR.VIOL] n ++ cellsAt [HX_CRED] (16 * n + k.toNat)) []) ∧
    Logged .advertTimer s [] (listsUpTo [HX_TX] 128) ∧
    Logged .routeTimer s [] (listsUpTo [HX_TX] 128) ∧
    Kept .joinTimer s [] ∧
    (∀ (n : Fin 9), Kept (.join n) s (cellsAt [HX_DEVCNT.COUNT] ++ cellsAt [HX_USED] (16 * n + clDISC))) ∧
    (∀ (j : Fin 32) (e : Fin 4096) (b : Bool) (v : BitVec 64), Kept (.outboundToken j e b v) s (cellsAt [EPS_CNT,
      EPS_CREDIT, EPS_DRY, EPS_SEQ] e)) ∧
    (∀ (j : Fin 32), Kept (.inboundTokenAck j) s (cellsAt [HX_NOROUTE.COUNT] ++ cellsUpTo [EPS_CREDIT, EPS_DUE] 4096)) ∧
    (∀ (e : Fin 4096), Kept (.openTimer e) s (cellsAt [HX_NOROUTE.COUNT])) ∧
    (∀ (e : Fin 4096), Kept (.creditReturnTimer e) s (cellsAt [HX_NOROUTE.COUNT] ++ cellsAt [EPS_DUE] e)) ∧
    (∀ (n : Fin 9), Kept (.probe n) s (cellsAt [HX_NOROUTE.COUNT, HX_IRQ.VIOL] ++ cellsAt [HX_PERR.VIOL] n ++ cellsAt
      [HX_USED] (16 * n + clCH))) ∧
    (∀ (n : Fin 9), Kept (.writeAck n) s (cellsAt [HX_CTAG, HX_NOROUTE.COUNT] ++ cellsAt [HX_USED] (16 * n + clCSR))) ∧
    (∀ (n : Fin 255), Kept (.csrWriteLost n) s (cellsAt [HX_CTAG, HX_NOROUTE.COUNT, HX_IRQ.CSR, HX_CSRCNT.LOST])) ∧
    (∀ (n : Fin 8), Logged (.timeExchangePeriod n) s (cellsAt [HX_TNUM] n) (listsAt [HX_TX] (16 * n + clTIME))) ∧
    (∀ (n : Fin 9), Logged (.sync n) s (cellsAt [HX_IRQ.TIME, HX_T2, HX_TDROP, HX_TSTEP, HX_XNUM] ++ cellsAt [HX_USED]
      (16 * n + clTIME)) (listsAt [HX_RX] (16 * n + clTIME))) ∧
    (∀ (n : Fin 9), Logged (.follow n) s (cellsAt [HX_PEPOCH, HX_T1, HX_TSTEP] ++ cellsAt [HX_USED] (16 * n + clTIME))
      (listsAt [HX_RX, HX_TX] (16 * n + clTIME))) ∧
    (∀ (n : Fin 9), Logged (.dreq n) s (cellsAt [HX_USED] (16 * n + clTIME)) (listsAt [HX_RX, HX_TX] (16 * n +
      clTIME))) ∧
    Kept .heartbeatTimer s (cellsAt [HX_CTAG, HX_NOROUTE.COUNT, MI_SEQ]) ∧
    (∀ (n : Fin 8) (d : List (BitVec 8)), Logged (.cfgReq n d) s (cellsAt [HX_USED] (16 * n + clUPD)) (listsAt [HX_RX,
      HX_TX] (16 * n + clUPD))) ∧
    Logged .cfgData s (cellsAt [CT_RX] ++ cellsAt [HX_USED] clUPD) (listsAt [CT_BYTES] ++ listsAt [HX_RX] clUPD) ∧
    Logged .cfgReqTimer s (cellsAt [CT_AFTER, CT_CRC, CT_PLEFT, CT_POS, CT_RX, CT_SPAN]) (listsAt [CT_BYTES,
      CT_PAYLOAD] ++ listsAt [HX_TX] clUPD) ∧
    (∀ (n : Fin 9), Logged (.query n) s (cellsAt [HX_USED] (16 * n + clUPD)) (listsAt [HX_RX] (16 * n + clUPD) ++
      (List.range 8).flatMap fun o => listsAt [HX_TX] (16 * o + clUPD))) ∧
    Logged .queryTimer s [] ((List.range 8).flatMap fun o => listsAt [HX_TX] (16 * o + clUPD))

/-- For each of these commands and every state: where it answers a next state, every memory, the log's ring, the waiting
commands, every FIFO and list and every register field and internal cell is as before, except the cells and lists
that the clause names; an SMBus read of whatever command changes at most what a violation of the access writes
(R760, R761). The records that wait for the log grow at the young end only (R797, R798).
(spec/16_lodge_core_and_debug.md, spec/20_upkeep_and_telemetry.md, R797, R798.) -/
def Obligations.LodgeAndUpkeepHappeningsKeepTheRest : Prop :=
  ∀ s : State,
    Silent .machineTimer s (cellsAt [LG_MTIME_LO.MTIME, LG_MTIME_HI.MTIME]) ∧
    (∀ (k : Fin 2) (b : BitVec 8) (p f r : Bool), Logged (.uartFrameReceived k b p f r) s (cellsAt [LG_USTAT.ERR,
      LG_USTAT.OVR, LG_USTAT.TXLVL, LG_USTAT.RXLVL, LG_USTAT.RXNE, LG_USTAT.TXLOW] k) (listsAt [LG_RX] k)) ∧
    (∀ (k : Fin 2), Logged (.uartFrameSent k) s (cellsAt [U_SHIFT, LG_USTAT.ERR, LG_USTAT.OVR, LG_USTAT.TXLVL,
      LG_USTAT.RXLVL, LG_USTAT.RXNE, LG_USTAT.TXLOW] k) (listsAt [LG_RX, LG_TX] k)) ∧
    (∀ (k : Fin 2) (b : BitVec 8), Logged (.spiByteDone k b) s (cellsAt [LG_SSTAT.BUSY, LG_SSTAT.DONE, S_LEFT,
      LG_SSTAT.TXLVL, LG_SSTAT.RXLVL, LG_SSTAT.RXNE] k) (listsAt [LG_RX, LG_TX] (2 + k))) ∧
    (∀ (k : Fin 2) (e : I2cEnd), Logged (.i2cCommandDone k e) s (cellsAt [I_HOLD, I_LEFT, I_PEC, LG_ISTAT.ARBLOST,
      LG_ISTAT.BUSY, LG_ISTAT.DONE, LG_ISTAT.NACK, LG_ISTAT.PECERR, LG_ISTAT.TXLVL, LG_ISTAT.RXLVL] k) (listsAt
      [LG_RX] (4 + k))) ∧
    (∀ (k : Fin 2), Silent (.i2cTimeout k) s (cellsAt [I_HOLD, I_LEFT, LG_ISTAT.BUSY, LG_ISTAT.DONE, LG_ISTAT.TIMEOUT]
      k)) ∧
    (∀ (k : Fin 2) (b : Bool), Silent (.i2cAlert k b) s (cellsAt [LG_ISTAT.ALERT, LG_ISTAT.ALERT_LVL] k)) ∧
    (∀ (g : Fin 32) (b : Bool), Silent (.gpioEdge g b) s (cellsAt [LG_GPIF.IF])) ∧
    Silent .tapReset s (cellsAt [TAP_IR]) ∧
    Silent .xtInEdge s (cellsAt [RV_HALTREQ]) ∧
    Logged .halt s (cellsAt [LG_IRQ.HALT, LG_STAT.RESV, LG_STAT.STATE, PW_MODE.HALTED, RV_DCSR, RV_HALTREQ,
      GH_STATUS.UNLOCK_ABORT] ++ cellsAt [RV_CSR] 0x7B1 ++ cellsAt [UNL_LEFT, UNL_ABORT] 1 ++ cellsAt [UNL_LEFT,
      UNL_ABORT] 2) [] ∧
    Logged .resume s (cellsAt [DM_RESUMEACK, LG_STAT.STATE, PW_MODE.HALTED, RV_PC, RV_PRIV, RV_RESUMEREQ]) [] ∧
    (∀ (l : List (BitVec 12)), Logged (.tempSample l) s (cellsAt [BV_ALERT.TEMP_CRIT, BV_ALERT.TEMP_HIGH, BV_IRQ.TEMP,
      BV_TEMPMAX.SENSOR, BV_TEMPMAX.VALUE] ++ cellsUpTo [BV_TEMP.VALUE, BV_TEMP.VALID] 16 ++ cellsUpTo [TMP_ON] 2) []) ∧
    (∀ (l : List (BitVec 12)) (b : Bool), Logged (.railSample l b) s (cellsAt [BV_ALERT.RAIL, BV_IRQ.RAIL] ++
      cellsUpTo [BV_RAIL.MV, BV_RAIL.LOW, BV_RAIL.HIGH] 7 ++ cellsUpTo [RAIL_CNT] 15) []) ∧
    Logged .scrubStarved s (cellsAt [BV_IRQ.STARVED, BV_ALERT.STARVED]) [] ∧
    Silent .dlCalibrationStart s (cellsAt [BV_DLSTAT.BUSY]) ∧
    (∀ (b : Bool), Silent (.dlSwap b) s (cellsAt [AVS_PHASE, AVS_TRIES, BV_DLSTAT.BUSY])) ∧
    (∀ (p : Fin 64) (b : Bool), Logged (.dlForcedSwap p b) s (cellsAt [AVS_PHASE, AVS_TRIES, BV_DLSTAT.BUSY,
      BV_DLSTAT.FORCED, BV_IRQ.CAL]) []) ∧
    (∀ (r : SmbRead), Logged (.ident r) s (smbCells) []) ∧
    (∀ (r : SmbRead), Logged (.smbStatus r) s (smbCells) []) ∧
    (∀ (r : SmbRead), Logged (.smbAddr r) s (smbCells) []) ∧
    (∀ (r : SmbRead), Logged (.tempMax r) s (smbCells) []) ∧
    (∀ (r : SmbRead), Logged (.smbTemp r) s (smbCells) []) ∧
    (∀ (r : SmbRead), Logged (.smbRail r) s (smbCells) []) ∧
    (∀ (r : SmbRead), Logged (.vcoreCmd r) s (smbCells) []) ∧
    (∀ (r : SmbRead), Logged (.icore r) s (smbCells) []) ∧
    (∀ (r : SmbRead), Logged (.paceMin r) s (smbCells) []) ∧
    (∀ (r : SmbRead), Logged (.paceReq r) s (smbCells) []) ∧
    (∀ (r : SmbRead), Logged (.errsum r) s (smbCells) []) ∧
    (∀ (r : SmbRead), Logged (.alertStat r) s (smbCells) []) ∧
    (∀ (r : SmbRead) (b : Bool), Logged (.logPeek r b) s (smbCells) []) ∧
    (∀ (r : SmbRead), Logged (.logStat r) s (cellsAt [EV_IRQ.OVR] ++ smbCells) []) ∧
    (∀ (r : SmbRead) (b : Bool), Logged (.logNext r b) s (cellsAt [EV_CUR.SEQ] 2 ++ smbCells) []) ∧
    (∀ (a : SmbAccess 8), Logged (.tempSel a) s (cellsAt [SMB_SEL] ++ smbCells) []) ∧
    (∀ (a : SmbAccess 8), Logged (.railSel a) s (cellsAt [SMB_RSEL] ++ smbCells) []) ∧
    (∀ (a : SmbAccess 16), Logged (.alertMask a) s (cellsAt [BV_ALERTMASK.MASK] ++ smbCells) []) ∧
    (∀ (w : BitVec 16) (p : Option (BitVec 8)), Logged (.alertClr w p) s (cellsAt (BV_ALERT.reg.fields ++ [SMB_OLD,
      SMB_REL]) ++ smbCells) []) ∧
    (∀ (b : Bool), Silent (.alertResponseAddress b) s (cellsAt [SMB_OLD, SMB_REL])) ∧
    Logged .smbSclTimeout s (smbCells) []

/-- For each of these register commands, every master and every state in which the access is taken as it stands (Writes,
Reads): where it answers a next state, every memory, the log's ring, the waiting commands, every FIFO and list and
every other register field and internal cell is as before, except those that the clause names: the register's own
fields, what the write commands, the REFUSE registers where it can be refused (R792), and the read latches of the
words behind a consuming read (R19). (R19, R21, R22, R651, R792, R797, R798.) -/
def Obligations.RegisterCommandsKeepTheRest : Prop :=
  ∀ s : State,
    (∀ (m : Master) (w : Word), Writes m 0x1110 s → Silent (.vsetWrite m w) s (cellsAt [AVS_MISMATCHED, AVS_NEXT,
      AVS_PHASE, AVS_REPEATED, AVS_TARGET, AVS_TRIES, PW_VSET.VSET])) ∧
    (∀ (m : Master) (w : Word), Writes m 0x111C s → Silent (.avsFaultClear m w) s (cellsAt [AVS_PHASE, AVS_TRIES,
      PW_GOVIRQ.AVS_FAULT, PW_GOVIRQ.METER_FAULT, PW_GOVIRQ.SHORT_SEEN, PW_GOVSTAT.STATE])) ∧
    (∀ (m : Master) (w : Word), Writes m 0x4000 s → Logged (.ctlSel m w) s (cellsAt [CK_CTL.CTL_SEL, CK_CTL.CTL_ACT]
      ++ refuseCells 4) []) ∧
    (∀ (m : Master) (w : Word), Writes m 0x4020 s → Silent (.freqMeterGo m w) s (cellsAt [CK_FMCTL.BASE,
      CK_FMCTL.BUSY, CK_FMCTL.DONE, CK_FMCTL.GATE, CK_FMCTL.SRC, FM_SRC])) ∧
    (∀ (m : Master) (w : Word), Writes m 0x8018 s → Logged (.epochArm m w) s (cellsAt [BS_EPCTL.ARM, BS_EPCTL.SRC,
      BS_EPCTL.QUAL] ++ refuseCells 6) []) ∧
    (∀ (m : Master) (w : Word), Writes m 0x8038 s → Logged (.adjStep m w) s (cellsAt (BS_ADJCTL.reg.fields ++
      [BS_IRQ.EPOCH, BS_TBSTAT.COARSE, BS_TBSTAT.EPOCH_GEN, SLEW_LEFT, SLEW_NEG, TCOUNT]) ++ cellsUpTo
      [BS_CUSTAT.PEND, CUE_LATEP] 64 ++ refuseCells 6) []) ∧
    (∀ (m : Master) (w : Word), Writes m 0x8038 s → Logged (.adjSlew m w) s (cellsAt (BS_ADJCTL.reg.fields ++
      [BS_IRQ.EPOCH, BS_TBSTAT.COARSE, BS_TBSTAT.EPOCH_GEN, SLEW_LEFT, SLEW_NEG, TCOUNT]) ++ cellsUpTo
      [BS_CUSTAT.PEND, CUE_LATEP] 64 ++ refuseCells 6) []) ∧
    (∀ (m : Master) (c : Fin 64) (w : Word), Writes m (0x9110 + 0x20 * c) s → Logged (.cueCommandPush m c w) s
      (cellsAt [BS_IRQ.CUE_ERR] ++ cellsAt [BS_CUCNT.DROP, BS_CUSTAT.PEND, CUE_LAST, CUE_LATEP] c) (listsAt [CUE_Q]
      c)) ∧
    (∀ (m : Master) (w : Word), Writes m 0x8044 s → Logged (.softTrigger m w) s ((List.range 16).flatMap (fun k =>
      cellsAt [SRC_VAL] (112 + k)) ++ routeCells) (listsAt [PULSES])) ∧
    (∀ (m : Master) (a b : BitVec 16), Writes m 0xA004 s → Logged (.btGo m a b) s (cellsUpTo [BT_CTL.RUN, BT_STAT.OUT]
      16 ++ (List.range 16).flatMap (fun t => cellsAt [SRC_VAL] (80 + t)) ++ cellsAt [GH_IRQ.DENIED] ++ routeCells)
      []) ∧
    (∀ (m : Master) (v : BitVec 16), Writes m 0xA008 s → Silent (.snapshot m v) s (cellsUpTo [BT_SNAP_LO.COUNT,
      BT_SNAP_HI.COUNT] 16)) ∧
    (∀ (m : Master) (t : Fin 16) (a : BitVec 3), Writes m (0xA104 + 0x80 * t) s → Logged (.timerClaim m t a) s
      (cellsAt [BT_OWN.OWNER] t ++ refuseCells 7) []) ∧
    (∀ (m : Master) (t : Fin 16), Writes m (0xA104 + 0x80 * t) s → Logged (.timerRelease m t) s (cellsAt
      [BT_OWN.OWNER] t ++ cellsAt [GH_IRQ.DENIED] ++ refuseCells 7) []) ∧
    (∀ (m : Master) (t : Fin 16) (w : Word), Writes m (0xA114 + 0x80 * t) s → Logged (.countLoad m t w) s (cellsAt
      [BT_CNT_LO.COUNT, BT_CNT_HI.COUNT, BT_PSCNT] t ++ cellsAt [WR_HOLD] (8 * (0x2844 + 0x20 * t) + m.code) ++
      cellsAt [GH_IRQ.DENIED]) []) ∧
    (∀ (m : Master) (w : Word), Writes m 0x10000 s → Logged (.jres m w) s (cellsAt [QM_CTL.JRES] ++ refuseCells 8) []) ∧
    (∀ (m : Master) (b : Fin 12) (w : Word), Writes m (0x2100 + 8 * b) s → Logged (.bankEnable m b w) s (cellsAt
      [IO_BCFG.EN, IO_BCFG.VSEL, IO_BSTAT.OK] b ++ cellsAt [GH_IRQ.DENIED] ++ refuseCells 3) []) ∧
    (∀ (m : Master) (l : Fin 40) (w : Word), Writes m (0x7428 + 0x40 * l) s → Silent (.eyeScanGo m l w) s (cellsAt
      [SL_IRQ.EYE] ++ cellsAt (SL_LEYE.reg.fields ++ [SL_LEYERES.COUNT]) l)) ∧
    (∀ (m : Master) (x : Fin 256), Writes m (0x6008 + 0x10 * x) s → Logged (.xpPortReset m x) s (cellsAt [XP_DISC,
      XP_SIDE, XP_STAT.LEVEL, XP_STAT.STATE] x) (listsAt [XP_Q] x)) ∧
    (∀ (m : Master) (l : Fin 40), Writes m (0x7404 + 0x40 * l) s → Silent (.laneMark m l) s (cellsAt [SL_LCTL.MARK]
      l)) ∧
    (∀ (m : Master) (l : Fin 40), Writes m (0x7404 + 0x40 * l) s → Logged (.laneRst m l) s (cellsAt [SL_LCTL.MARK,
      LANE_RXW, LANE_TXW, LTX_ARM] l ++ cellsUpTo [XP_DISC, XP_SIDE, XP_STAT.LEVEL, XP_STAT.STATE] 256) (listsUpTo
      [XP_Q] 256)) ∧
    (∀ (m : Master) (w : Word), Writes m 0x28044 s → Silent (.witnessClaim m w) s (cellsAt [MI_WBOUND,
      MI_WHOLD.HOLDER, MI_WHOLD.PAIR_ID])) ∧
    (∀ (m : Master) (j : Fin 32) (w : Word), Writes m (0x24800 + 4 * j) s → Logged (.channelPortEnable m j w) s
      (cellsAt HX_CPCFG.reg.fields j ++ cellsAt [GH_IRQ.DENIED] ++ refuseCells 0x0B) []) ∧
    (∀ (m : Master) (k : Fin 2) (w : Word), Writes m (0x31004 + 0x100 * k) s → Logged (.uartTxPush m k w) s (cellsAt
      [U_SHIFT, LG_USTAT.DROP, LG_USTAT.TXLVL, LG_USTAT.RXLVL, LG_USTAT.RXNE, LG_USTAT.TXLOW] k) (listsAt [LG_TX] k)) ∧
    (∀ (m : Master) (k : Fin 2) (w : Word), Writes m (0x31204 + 0x100 * k) s → Silent (.spiCommand m k w) s (cellsAt
      [LG_SSTAT.BUSY, LG_SSTAT.CMDERR, S_CS, S_KEEP, S_LEFT] k)) ∧
    (∀ (m : Master) (k : Fin 2) (w : Word), Writes m (0x31404 + 0x100 * k) s → Logged (.i2cCommand m k w) s (cellsAt
      [I_CMD, I_HOLD, I_LEFT, I_PEC, LG_ISTAT.BUSY, LG_ISTAT.TXLVL, LG_ISTAT.RXLVL] k) (listsAt [LG_TX] (4 + k))) ∧
    (∀ (m : Master) (w : Word), Writes m 0x31808 s → Silent (.gpioSetClear m true w) s (cellsAt [LG_GPOUT.OUT])) ∧
    (∀ (m : Master) (w : Word), Writes m 0x31804 s → Silent (.gpioSetClear m false w) s (cellsAt [LG_GPOUT.OUT])) ∧
    (∀ (m : Master) (w : Word), Writes m 0x31900 s → Logged (.watchdogEnable m w) s (cellsAt [LG_WDCFG.ACTION,
      LG_WDCFG.EN, LG_WDCFG.FRZ, LG_WDCFG.TIMEOUT, LG_WDSTAT.REMAIN]) []) ∧
    (∀ (m : Master) (w : Word), Writes m 0x31904 s → Logged (.watchdogKick m w) s (cellsAt [LG_WDSTAT.BADKICK,
      LG_WDSTAT.REMAIN, LG_WDSTAT.WARNED]) []) ∧
    (∀ (m : Master), Writes m 0x31A40 s → Logged (.h2lRing m) s (cellsAt [LG_IRQ.MBOX_H2L, LG_MBSTAT.DROPS,
      LG_MBSTAT.H2L_FULL]) []) ∧
    (∀ (m : Master), Writes m 0x31A40 s → Logged (.l2hRing m) s (cellsAt [LG_IRQ.MBOX_L2H, LG_MBSTAT.DROPS,
      LG_MBSTAT.L2H_FULL]) []) ∧
    (∀ (m : Master) (w : Word), Writes m 0x31A44 s → Silent (.mailboxClear m w) s (cellsAt [LG_IRQ.MBOX_H2L,
      LG_IRQ.MBOX_L2H, LG_MBSTAT.DROPS, LG_MBSTAT.H2L_FULL, LG_MBSTAT.L2H_FULL])) ∧
    (∀ (m : Master) (w : Word), Writes m 0x1C s → Logged (.unlockKeyWrite m w) s (cellsAt [GH_IRQ.UNLOCK,
      GH_STATUS.UNLOCK_ID, GH_STATUS.UNLOCK_OPEN] ++ cellsAt [UNL_LEFT, UNL_ABORT] m.code) []) ∧
    (∀ (m : Master) (c : Fin 4) (w : Word), Writes m (0x38020 + 4 * c) s → Logged (.evCurWrite m c w) s (cellsAt
      [EV_CUR.SEQ] c ++ cellsAt [GH_IRQ.DENIED]) []) ∧
    (∀ (m : Master), Reads m 0x802C s → Silent (.tnowRead m) s (cellsAt [RD_LATCH] (8 * 0x200C + m.code) ++ cellsAt
      [RD_LATCH] (8 * 0x200D + m.code))) ∧
    (∀ (m : Master) (n : Fin 96), Reads m (0x8108 + 0x20 * n) s → Logged (.ttdat0Read m n) s (cellsAt
      [BS_TTSTAT.LEVEL] n ++ (List.range 3).flatMap (fun i => cellsAt [RD_LATCH] (8 * (0x2043 + 8 * n + i) + m.code)))
      (listsAt [TT_BUF] n)) ∧
    (∀ (m : Master) (t : Fin 16) (j : Fin 2), Reads m (0xA904 + 0x20 * (2 * t.val + j.val)) s → Silent (.capLoRead m t
      j) s (cellsAt [BT_STAT.CAPF] t ++ [0, 2, 3, 4].flatMap (fun i => cellsAt [RD_LATCH] (8 * (0x2A41 + 8 * (2 * t +
      j) + i) + m.code)))) ∧
    (∀ (m : Master) (b : Bool), Reads m 0x38050 s → Silent (.evRec0Read m b) s (cellsAt [EV_CUR.SEQ] (cursorOf m) ++
      (List.range 7).flatMap (fun i => cellsAt [RD_LATCH] (8 * (0xE015 + i) + m.code)))) ∧
    (∀ (m : Master), Reads m 0x32504 s → Silent (.icclaimRead m) s (cellsUpTo [IC_SERV] 256)) ∧
    (∀ (m : Master) (k : Fin 2), Reads m (0x31004 + 0x100 * k) s → Logged (.uartRxPop m k) s (cellsAt [LG_USTAT.TXLVL,
      LG_USTAT.RXLVL, LG_USTAT.RXNE, LG_USTAT.TXLOW] k) (listsAt [LG_RX] k))

/-- For each of these commands, with whatever operands and in every state: where it answers a next state, every word of
every memory (block memories, queue store, workspace, Lodge memories, flash, configuration, MSI-X table,
configuration space, buffers and settings) and the ring of the log are as before. The commands whose cells and lists
are framed elsewhere are not repeated here. (R143, R797, spec/95_what_each_step_holds.md, Table DV-11.) -/
def Obligations.TheseCommandsStoreToNoMemory : Prop :=
  ∀ s : State,
    (∀ (m : Master) (w : Word),
      KeepsMemory (.rdholdWrite m w) s ∧ KeepsMemory (.govEn m w) s ∧ KeepsMemory (.tbEn m w) s ∧
      KeepsMemory (.endpointEnable m w) s ∧ KeepsMemory (.miEnable m w) s ∧ KeepsMemory (.coreRun m w) s) ∧
    (∀ (r : AvsResult),
      KeepsMemory (.avsFrameDone r) s) ∧
    (∀ (n : Fin 3072) (op : BitVec 5) (a b d : BitVec 27),
      KeepsMemory (.macOperation n op a b d) s) ∧
    (∀ (m : Master) (q : Fin 256) (w : Word),
      KeepsMemory (.queueEnable m q w) s) ∧
    (∀ (m : Master) (k : Fin 6) (w : Word),
      KeepsMemory (.synGo m k w) s ∧ KeepsMemory (.synEn m k w) s) ∧
    (∀ (k : Fin 6),
      KeepsMemory (.synLockLost k) s) ∧
    (∀ (j : Fin 16),
      KeepsMemory (.slewStep j) s) ∧
    (∀ (m : Master) (x : Fin 256) (w : Word),
      KeepsMemory (.xpEnable m x w) s) ∧
    (∀ (x : Fin 256) (data : BitVec 64) (stat : BitVec 4),
      KeepsMemory (.xpArrayAck x data stat) s) ∧
    (∀ (x : Fin 256) (data : BitVec 64) (side : BitVec 8),
      KeepsMemory (.xpIslandPut x data side) s) ∧
    (∀ (x : Fin 256),
      KeepsMemory (.xpIslandTake x) s) ∧
    (∀ (a : Fin 128),
      KeepsMemory (.pacedPairMove a) s) ∧
    (∀ (n : Fin 96) (rising : Bool) (ago : BitVec 24),
      KeepsMemory (.tagEdge n rising ago) s) ∧
    (∀ (m : Master) (u : BsUnit) (w : Word),
      KeepsMemory (.bsUnitEnable m u w) s) ∧
    (∀ (m : Master) (l : Fin 40),
      KeepsMemory (.lbtArm m l) s ∧ KeepsMemory (.inj m l) s) ∧
    (∀ (m : Master) (t : Fin 16) (w : Word),
      KeepsMemory (.timerEnable m t w) s) ∧
    (∀ (m : Master) (t : Fin 16) (on : Bool),
      KeepsMemory (.timerRun m t on) s) ∧
    (∀ (c : Fin 64),
      KeepsMemory (.contextInputReady c) s) ∧
    (∀ (m : Master) (p : Fin 576) (w : Word),
      KeepsMemory (.pinEnable m p w) s) ∧
    (∀ (m : Master) (p : Fin 585),
      KeepsMemory (.renew m p) s) ∧
    (∀ (m : Master) (g : Fin 12) (w : Word),
      KeepsMemory (.serGroupEnable m g w) s) ∧
    (∀ (m : Master) (g : Fin 12),
      KeepsMemory (.bitslip m g) s) ∧
    (∀ (m : Master) (q : Fin 10) (w : Word),
      KeepsMemory (.qpllGo m q w) s) ∧
    (∀ (m : Master) (l : Fin 40) (w : Word),
      KeepsMemory (.laneEnable m l w) s ∧ KeepsMemory (.laneTestWrite m l w) s) ∧
    (∀ (m : Master) (n : Fin 8) (w : Word),
      KeepsMemory (.hxPortEnable m n w) s) ∧
    (∀ (n : Fin 8) (w : BitVec 64),
      KeepsMemory (.hxInit n w) s) ∧
    (∀ (n : Fin 8),
      KeepsMemory (.wakeTExpiry n) s ∧ KeepsMemory (.replayTimeout n) s ∧ KeepsMemory (.announce n) s ∧
      KeepsMemory (.prologue n) s) ∧
    (∀ (m : Master) (n : Fin 8),
      KeepsMemory (.retrain m n) s ∧ KeepsMemory (.echo m n) s) ∧
    (∀ (n : Fin 8) (x : LineItem),
      KeepsMemory (.packetReceive n x) s) ∧
    (∀ (n : Fin 8) (timeSpent : Bool) (aged : BitVec 7),
      KeepsMemory (.packetSend n timeSpent aged) s) ∧
    (∀ (n : Fin 8) (seq : BitVec 12) (nak : Bool),
      KeepsMemory (.ack n seq nak) s) ∧
    (∀ (n : Fin 9),
      KeepsMemory (.advert n) s ∧ KeepsMemory (.assign n) s ∧ KeepsMemory (.tokens n) s ∧
      KeepsMemory (.channelCredit n) s ∧ KeepsMemory (.channelOpen n) s ∧ KeepsMemory (.probeReply n) s ∧
      KeepsMemory (.break n) s ∧ KeepsMemory (.dresp n) s) ∧
    KeepsMemory .electTExpiry s ∧ KeepsMemory .epochAck s ∧ KeepsMemory .leaseLost s ∧
    KeepsMemory .cmdInterfaceTimeout s ∧ KeepsMemory .cfgNone s ∧ KeepsMemory .dormantEntryStart s ∧
    KeepsMemory .dormantEntryStop s ∧ KeepsMemory .vbattOutOfRange s ∧ KeepsMemory .ghCommandEnd s ∧
    (∀ (n : Fin 9),
      KeepsMemory (.route n) s) ∧
    (∀ (e : Fin 4096),
      KeepsMemory (.probeTimer e) s) ∧
    (∀ (m : Master),
      KeepsMemory (.resync m) s ∧ KeepsMemory (.disband m) s ∧ KeepsMemory (.cmdClaim m) s ∧
      KeepsMemory (.cmdRelease m) s ∧ KeepsMemory (.keyWrite m) s ∧ KeepsMemory (.keyErase m) s ∧
      KeepsMemory (.keyWrap m) s ∧ KeepsMemory (.loadStart m) s ∧ KeepsMemory (.rewrite m) s ∧
      KeepsMemory (.serve m) s ∧ KeepsMemory (.debugUnlock m) s ∧ KeepsMemory (.debugUnlockResponse m) s ∧
      KeepsMemory (.debugLock m) s ∧ KeepsMemory (.pkProgram m) s ∧ KeepsMemory (.pkRevoke m) s ∧
      KeepsMemory (.seal m) s ∧ KeepsMemory (.runEn m) s ∧ KeepsMemory (.scan m) s ∧ KeepsMemory (.enter m) s) ∧
    (∀ (m : Master) (p : Periph) (w : Word),
      KeepsMemory (.peripheralEnable m p w) s) ∧
    (∀ (m : Master) (k : Fin 2) (w : Option Word),
      KeepsMemory (.spiDataAccess m k w) s ∧ KeepsMemory (.i2cDataAccess m k w) s) ∧
    (∀ (w : Word),
      KeepsMemory (.dmcustom0Write w) s) ∧
    (∀ (m : Master) (p : Fin 64),
      KeepsMemory (.handback m p) s) ∧
    (∀ (lfxo : Bool),
      KeepsMemory (.timerTick lfxo) s) ∧
    (∀ (code : BitVec 8) (write : Bool),
      KeepsMemory (.smbReservedCommand code write) s)

/-- After a cold source the keys KS0 to KS5, the anti-rollback count and the flash are as before, KS6 and KS7 and the
log are gone, PW_RSTCAUSE holds bit 0 alone, PW_RDHOLD its reset value, and every other memory reads 0 (the model's
choice, log entry 8). When DEV_RESET_N goes low out of reset, the ring, its head, the keys KS0 to KS5, the
anti-rollback count and the flash are as before, KS6 and KS7 are gone, PW_RSTCAUSE gains bit 1 and keeps the others,
PW_RDHOLD has its reset value, and configuration memory reads 0; of the memories that the table calls undefined
nothing is said. Where it rests on the model's own readings: log entries 8, 49 and 54. (R47, R48, R53, R796, Table
DV-14.) -/
def Obligations.ResetsKeepWhatTableDV14Keeps : Prop :=
  (∀ (s : State) (vaux : Bool), Answers (.coldResetSource vaux) s fun t =>
    (∀ k : Fin 6, t.get KEY_VAL k = s.get KEY_VAL k) ∧ t.get KEY_VAL 6 = 0 ∧ t.get KEY_VAL 7 = 0 ∧
    t.get GH_ARB.COUNT = s.get GH_ARB.COUNT ∧ t.ring = [] ∧ t.intake = [] ∧ t.get EV_HEAD.SEQ = 0 ∧
    t.get PW_RSTCAUSE.CAUSE = 1 ∧ t.get PW_RDHOLD.HOLD = 0 ∧
    (∀ a, a < 2 ^ 32 → s.mem.get (Region.base .flash + a) 0xFF < 256 → t.load .flash a = s.load .flash a) ∧
    (∀ (r : Region) a, r ≠ .flash → a < 2 ^ 32 → t.load r a = 0)) ∧
  (∀ s : State, Awake s → s.get PW_TSSTAT.CURRENT < 8 → Answers (.devResetN true) s fun t =>
    t.ring = s.ring ∧ t.get EV_HEAD.SEQ = s.get EV_HEAD.SEQ ∧
    (∀ k : Fin 6, t.get KEY_VAL k = s.get KEY_VAL k) ∧ t.get KEY_VAL 6 = 0 ∧ t.get KEY_VAL 7 = 0 ∧
    t.get GH_ARB.COUNT = s.get GH_ARB.COUNT ∧ t.get PW_RDHOLD.HOLD = 0 ∧
    bit (t.get PW_RSTCAUSE.CAUSE) 1 = true ∧
    (∀ n, n < 8 → n ≠ 1 → bit (t.get PW_RSTCAUSE.CAUSE) n = bit (s.get PW_RSTCAUSE.CAUSE) n) ∧
    (∀ a, a < 2 ^ 32 → s.mem.get (Region.base .flash + a) 0xFF < 256 → t.load .flash a = s.load .flash a) ∧
    (∀ a, a < 2 ^ 32 → t.load .config a = 0))

/-- State.reset has the canonical form and no waiting command; it is out of reset, in LOAD, with PW_RSTCAUSE bit 0
alone, no holder of the command interface or of the unlock, no debug level, 800 mV, every domain free to follow the
design and an empty log; every memory but the flash reads 0 there. (That memory reads 0 and the flash 0xFF is the
model's choice, log entry 8; so is that the state after reset is the one of MODE pins 000, log entry 7.) Where it
rests on the model's own readings: log entries 5, 7 and 8. (R33, R47, R53, R796, Table DV-8, Table DV-13,
spec/17_gatehouse.md.) -/
def Obligations.ResetStateIsAsTheSpecStates : Prop :=
  State.reset.wf ∧ State.reset.pending = [] ∧ Awake State.reset ∧ State.reset.mode = mLOAD ∧
    State.reset.get PW_RSTCAUSE.CAUSE = 1 ∧ State.reset.get GH_CMDOWN.OWNER = 7 ∧
    State.reset.get GH_STATUS.UNLOCK_ID = 7 ∧ State.reset.get GH_DBGSTAT.LEVEL = 0 ∧
    State.reset.get PW_GOVSTAT.VNOW = 800 ∧ State.reset.get PW_RDHOLD.HOLD = 0 ∧ State.reset.get EV_HEAD.SEQ = 0 ∧
    State.reset.ring = [] ∧ State.reset.intake = [] ∧ (∀ (r : Region) (a : Nat), r ≠ .flash → State.reset.load r a = 0)
end

