-- ==== Sys2Proof/Laws/Store.lean ====
section
/-! SUPPORT. The laws of sparse storage: a read after a write, and that every operation keeps the canonical form. -/

namespace Sys2Proof.Machine

theorem Store.get_erase_ne {V : Type} (m : Store V) {k k' : Nat} (d : V) (h : k' ≠ k) :
    Store.get (Store.erase m k) k' d = Store.get m k' d := by
  induction m with
  | nil => rfl
  | cons c r ih =>
    obtain ⟨a, v⟩ := c
    by_cases ha : a = k
    · simp only [Store.erase, ha, ne_eq, not_true_eq_false, decide_false, Bool.false_eq_true, not_false_eq_true,
        List.filter_cons_of_neg]
      simp only [Store.get, Ne.symm h, if_false]
      exact ih
    · by_cases hb : a = k'
      · simp [Store.erase, Store.get, hb, h]
      · simp only [Store.erase, ne_eq, ha, not_false_eq_true, decide_true, List.filter_cons_of_pos, Store.get, hb,
          if_false]
        exact ih

theorem Store.get_erase_same {V : Type} (m : Store V) (k : Nat) (d : V) : Store.get (Store.erase m k) k d = d := by
  induction m with
  | nil => rfl
  | cons c r ih =>
    obtain ⟨a, v⟩ := c
    by_cases ha : a = k
    · simpa [Store.erase, ha] using ih
    · simpa [Store.erase, Store.get, ha] using ih

theorem Store.get_insert_ne {V : Type} (m : Store V) {k k' : Nat} (v d : V) (h : k' ≠ k) :
    Store.get (Store.insert m k v) k' d = Store.get m k' d := by
  induction m with
  | nil => simp [Store.insert, Store.get, Ne.symm h]
  | cons c r ih =>
    obtain ⟨a, w⟩ := c
    by_cases hk : k < a
    · simp [Store.insert, hk, Store.get, Ne.symm h]
    · simp only [Store.insert, hk, if_false, Store.get, ih]

theorem Store.get_insert_same {V : Type} (m : Store V) (k : Nat) (v d : V) (h : ∀ c ∈ m, c.1 ≠ k) :
    Store.get (Store.insert m k v) k d = v := by
  induction m with
  | nil => simp [Store.insert, Store.get]
  | cons c r ih =>
    obtain ⟨a, w⟩ := c
    have ha : a ≠ k := h (a, w) (by simp)
    by_cases hk : k < a
    · simp [Store.insert, hk, Store.get]
    · simpa [Store.insert, hk, Store.get, ha] using ih fun c hc => h c (by simp [hc])

/-- A read after a write to the same key gives the value written, whatever the map was. -/
theorem Store.get_set_same {V : Type} [DecidableEq V] (m : Store V) (k : Nat) (v d : V) :
    Store.get (Store.set m k v d) k d = v := by
  by_cases hv : v = d
  · simp [Store.set, hv, Store.get_erase_same]
  · rw [Store.set, if_neg hv]
    exact Store.get_insert_same _ _ _ _ fun c hc => by simpa [Store.erase] using (List.mem_filter.mp hc).2

/-- A write leaves every other key alone. -/
theorem Store.get_set_ne {V : Type} [DecidableEq V] (m : Store V) {k k' : Nat} (v d d' : V) (h : k' ≠ k) :
    Store.get (Store.set m k v d) k' d' = Store.get m k' d' := by
  by_cases hv : v = d
  · simp [Store.set, hv, Store.get_erase_ne _ _ h]
  · rw [Store.set, if_neg hv, Store.get_insert_ne _ _ _ h, Store.get_erase_ne _ _ h]

/-! The canonical form. -/

theorem Store.sorted_filter {V : Type} {m : Store V} (p : Nat × V → Bool) (h : Store.sorted m = true) :
    Store.sorted (m.filter p) = true := by
  simp only [Store.sorted, decide_eq_true_eq] at *
  exact h.filter p

theorem Store.sorted_erase {V : Type} {m : Store V} (k : Nat) (h : Store.sorted m = true) :
    Store.sorted (Store.erase m k) = true := Store.sorted_filter _ h

theorem Store.mem_insert {V : Type} {m : Store V} {k : Nat} {v : V} {c : Nat × V} :
    c ∈ Store.insert m k v ↔ c = (k, v) ∨ c ∈ m := by
  induction m with
  | nil => simp [Store.insert]
  | cons a r ih =>
    obtain ⟨a, w⟩ := a
    by_cases hk : k < a
    · simp [Store.insert, hk]
    · simp only [Store.insert, hk, if_false, List.mem_cons, ih]
      tauto

theorem Store.sorted_insert {V : Type} {m : Store V} {k : Nat} (v : V) (h : Store.sorted m = true)
    (hk : ∀ c ∈ m, c.1 ≠ k) : Store.sorted (Store.insert m k v) = true := by
  simp only [Store.sorted, decide_eq_true_eq] at *
  induction m with
  | nil => simp [Store.insert]
  | cons a r ih =>
    obtain ⟨a, w⟩ := a
    rw [List.pairwise_cons] at h
    by_cases hlt : k < a
    · simp only [Store.insert, hlt, if_true, List.pairwise_cons, List.mem_cons, forall_eq_or_imp]
      exact ⟨⟨trivial, fun c hc => hlt.trans (h.1 c hc)⟩, h.1, h.2⟩
    · have hne : a ≠ k := hk (a, w) (by simp)
      simp only [Store.insert, hlt, if_false, List.pairwise_cons]
      refine ⟨fun c hc => ?_, ih (fun c hc => hk c (by simp [hc])) h.2⟩
      rcases Store.mem_insert.mp hc with rfl | hc
      · simp only; omega
      · exact h.1 c hc

/-- A write keeps the keys rising. -/
theorem Store.sorted_set {V : Type} [DecidableEq V] {m : Store V} (k : Nat) (v d : V) (h : Store.sorted m = true) :
    Store.sorted (Store.set m k v d) = true := by
  by_cases hv : v = d
  · simpa [Store.set, hv] using Store.sorted_erase k h
  · rw [Store.set, if_neg hv]
    exact Store.sorted_insert v (Store.sorted_erase k h) fun c hc => by
      simpa [Store.erase] using (List.mem_filter.mp hc).2

/-- A write whose default is that of the whole map keeps the canonical form. -/
theorem Store.wf_set {V : Type} [DecidableEq V] {m : Store V} (k : Nat) (v d : V) (h : Store.wf m d = true) :
    Store.wf (Store.set m k v d) d = true := by
  simp only [Store.wf, Bool.and_eq_true, List.all_eq_true, decide_eq_true_eq, ne_eq] at *
  refine ⟨Store.sorted_set k v d h.1, fun c hc => ?_⟩
  by_cases hv : v = d
  · rw [Store.set, if_pos hv] at hc
    exact h.2 c (List.mem_filter.mp hc).1
  · rw [Store.set, if_neg hv] at hc
    rcases Store.mem_insert.mp hc with rfl | hc
    · exact hv
    · exact h.2 c (List.mem_filter.mp hc).1

end Sys2Proof.Machine
end

