-- ==== Sys2Proof/Laws/State.lean ====
section
/-! SUPPORT. The laws of State: one lemma for each field under each update, and reads of fields, lists and memory words
after a write. -/

namespace Sys2Proof.Machine

/-! Reads after writes. -/

theorem State.get_put_self (s : State) (f : Field) (v i : Nat) : (s.put f v i).get f i = v % 2 ^ f.width :=
  Store.get_set_same _ _ _ _

theorem State.get_put_ne (s : State) {f g : Field} (v : Nat) {i j : Nat} (h : g.key j ≠ f.key i) :
    (s.put f v i).get g j = s.get g j := Store.get_set_ne _ _ _ _ h

theorem State.get_orBit_ne (s : State) {f g : Field} (n : Nat) {i j : Nat} (h : g.key j ≠ f.key i) :
    (s.orBit f n i).get g j = s.get g j := State.get_put_ne _ _ h

theorem State.get_andBit_ne (s : State) {f g : Field} (n : Nat) {i j : Nat} (h : g.key j ≠ f.key i) :
    (s.andBit f n i).get g j = s.get g j := State.get_put_ne _ _ h

theorem State.get_count_ne (s : State) {f g : Field} (n : Nat) {i j : Nat} (h : g.key j ≠ f.key i) :
    (s.count f n i).get g j = s.get g j := State.get_put_ne _ _ h

/-- A counter saturates at its width. -/
theorem State.get_count_self (s : State) (f : Field) (n i : Nat) :
    (s.count f n i).get f i = min (s.get f i + n) (2 ^ f.width - 1) := by
  rw [State.count, State.get_put_self, Nat.mod_eq_of_lt]
  have : 0 < 2 ^ f.width := Nat.two_pow_pos _
  omega

theorem State.list_setList_self (s : State) (q : Fifo) (l : List Nat) (i : Nat) : (s.setList q l i).list q i = l :=
  Store.get_set_same _ _ _ _

theorem State.list_setList_ne (s : State) {q q' : Fifo} (l : List Nat) {i j : Nat} (h : q'.key j ≠ q.key i) :
    (s.setList q l i).list q' j = s.list q' j := Store.get_set_ne _ _ _ _ h

theorem State.list_enq_self (s : State) (q : Fifo) (v i : Nat) : (s.enq q v i).list q i = s.list q i ++ [v] :=
  State.list_setList_self _ _ _ _

theorem State.list_enq_ne (s : State) {q q' : Fifo} (v : Nat) {i j : Nat} (h : q'.key j ≠ q.key i) :
    (s.enq q v i).list q' j = s.list q' j := State.list_setList_ne _ _ h

/-! One lemma for each field under each update. -/

@[simp] theorem State.put_pending (s : State) (f : Field) (v i : Nat) : (s.put f v i).pending = s.pending := rfl
@[simp] theorem State.put_lists (s : State) (f : Field) (v i : Nat) : (s.put f v i).lists = s.lists := rfl
@[simp] theorem State.put_mem (s : State) (f : Field) (v i : Nat) : (s.put f v i).mem = s.mem := rfl
@[simp] theorem State.put_ring (s : State) (f : Field) (v i : Nat) : (s.put f v i).ring = s.ring := rfl
@[simp] theorem State.put_intake (s : State) (f : Field) (v i : Nat) : (s.put f v i).intake = s.intake := rfl
@[simp] theorem State.put_held (s : State) (f : Field) (v i : Nat) : (s.put f v i).held = s.held := rfl
@[simp] theorem State.put_pba (s : State) (f : Field) (v i : Nat) : (s.put f v i).pba = s.pba := rfl
@[simp] theorem State.put_out (s : State) (f : Field) (v i : Nat) : (s.put f v i).out = s.out := rfl
@[simp] theorem State.put_draws (s : State) (f : Field) (v i : Nat) : (s.put f v i).draws = s.draws := rfl

@[simp] theorem State.count_pending (s : State) (f : Field) (n i : Nat) : (s.count f n i).pending = s.pending := rfl
@[simp] theorem State.count_lists (s : State) (f : Field) (n i : Nat) : (s.count f n i).lists = s.lists := rfl
@[simp] theorem State.count_mem (s : State) (f : Field) (n i : Nat) : (s.count f n i).mem = s.mem := rfl
@[simp] theorem State.count_ring (s : State) (f : Field) (n i : Nat) : (s.count f n i).ring = s.ring := rfl
@[simp] theorem State.count_intake (s : State) (f : Field) (n i : Nat) : (s.count f n i).intake = s.intake := rfl
@[simp] theorem State.count_held (s : State) (f : Field) (n i : Nat) : (s.count f n i).held = s.held := rfl
@[simp] theorem State.count_pba (s : State) (f : Field) (n i : Nat) : (s.count f n i).pba = s.pba := rfl
@[simp] theorem State.count_out (s : State) (f : Field) (n i : Nat) : (s.count f n i).out = s.out := rfl
@[simp] theorem State.count_draws (s : State) (f : Field) (n i : Nat) : (s.count f n i).draws = s.draws := rfl

@[simp] theorem State.orBit_pending (s : State) (f : Field) (n i : Nat) : (s.orBit f n i).pending = s.pending := rfl
@[simp] theorem State.orBit_lists (s : State) (f : Field) (n i : Nat) : (s.orBit f n i).lists = s.lists := rfl
@[simp] theorem State.orBit_mem (s : State) (f : Field) (n i : Nat) : (s.orBit f n i).mem = s.mem := rfl
@[simp] theorem State.orBit_ring (s : State) (f : Field) (n i : Nat) : (s.orBit f n i).ring = s.ring := rfl
@[simp] theorem State.orBit_intake (s : State) (f : Field) (n i : Nat) : (s.orBit f n i).intake = s.intake := rfl
@[simp] theorem State.orBit_held (s : State) (f : Field) (n i : Nat) : (s.orBit f n i).held = s.held := rfl
@[simp] theorem State.orBit_pba (s : State) (f : Field) (n i : Nat) : (s.orBit f n i).pba = s.pba := rfl
@[simp] theorem State.orBit_out (s : State) (f : Field) (n i : Nat) : (s.orBit f n i).out = s.out := rfl
@[simp] theorem State.orBit_draws (s : State) (f : Field) (n i : Nat) : (s.orBit f n i).draws = s.draws := rfl

@[simp] theorem State.andBit_pending (s : State) (f : Field) (n i : Nat) : (s.andBit f n i).pending = s.pending := rfl
@[simp] theorem State.andBit_lists (s : State) (f : Field) (n i : Nat) : (s.andBit f n i).lists = s.lists := rfl
@[simp] theorem State.andBit_mem (s : State) (f : Field) (n i : Nat) : (s.andBit f n i).mem = s.mem := rfl
@[simp] theorem State.andBit_ring (s : State) (f : Field) (n i : Nat) : (s.andBit f n i).ring = s.ring := rfl
@[simp] theorem State.andBit_intake (s : State) (f : Field) (n i : Nat) : (s.andBit f n i).intake = s.intake := rfl
@[simp] theorem State.andBit_held (s : State) (f : Field) (n i : Nat) : (s.andBit f n i).held = s.held := rfl
@[simp] theorem State.andBit_pba (s : State) (f : Field) (n i : Nat) : (s.andBit f n i).pba = s.pba := rfl
@[simp] theorem State.andBit_out (s : State) (f : Field) (n i : Nat) : (s.andBit f n i).out = s.out := rfl
@[simp] theorem State.andBit_draws (s : State) (f : Field) (n i : Nat) : (s.andBit f n i).draws = s.draws := rfl

@[simp] theorem State.setList_pending (s : State) (q : Fifo) (l : List Nat) (i : Nat) : (s.setList q l i).pending = s.pending := rfl
@[simp] theorem State.setList_cells (s : State) (q : Fifo) (l : List Nat) (i : Nat) : (s.setList q l i).cells = s.cells := rfl
@[simp] theorem State.setList_mem (s : State) (q : Fifo) (l : List Nat) (i : Nat) : (s.setList q l i).mem = s.mem := rfl
@[simp] theorem State.setList_ring (s : State) (q : Fifo) (l : List Nat) (i : Nat) : (s.setList q l i).ring = s.ring := rfl
@[simp] theorem State.setList_intake (s : State) (q : Fifo) (l : List Nat) (i : Nat) : (s.setList q l i).intake = s.intake := rfl
@[simp] theorem State.setList_held (s : State) (q : Fifo) (l : List Nat) (i : Nat) : (s.setList q l i).held = s.held := rfl
@[simp] theorem State.setList_pba (s : State) (q : Fifo) (l : List Nat) (i : Nat) : (s.setList q l i).pba = s.pba := rfl
@[simp] theorem State.setList_out (s : State) (q : Fifo) (l : List Nat) (i : Nat) : (s.setList q l i).out = s.out := rfl
@[simp] theorem State.setList_draws (s : State) (q : Fifo) (l : List Nat) (i : Nat) : (s.setList q l i).draws = s.draws := rfl

@[simp] theorem State.enq_pending (s : State) (q : Fifo) (v i : Nat) : (s.enq q v i).pending = s.pending := rfl
@[simp] theorem State.enq_cells (s : State) (q : Fifo) (v i : Nat) : (s.enq q v i).cells = s.cells := rfl
@[simp] theorem State.enq_mem (s : State) (q : Fifo) (v i : Nat) : (s.enq q v i).mem = s.mem := rfl
@[simp] theorem State.enq_ring (s : State) (q : Fifo) (v i : Nat) : (s.enq q v i).ring = s.ring := rfl
@[simp] theorem State.enq_intake (s : State) (q : Fifo) (v i : Nat) : (s.enq q v i).intake = s.intake := rfl
@[simp] theorem State.enq_held (s : State) (q : Fifo) (v i : Nat) : (s.enq q v i).held = s.held := rfl
@[simp] theorem State.enq_pba (s : State) (q : Fifo) (v i : Nat) : (s.enq q v i).pba = s.pba := rfl
@[simp] theorem State.enq_out (s : State) (q : Fifo) (v i : Nat) : (s.enq q v i).out = s.out := rfl
@[simp] theorem State.enq_draws (s : State) (q : Fifo) (v i : Nat) : (s.enq q v i).draws = s.draws := rfl

@[simp] theorem State.store_pending (s : State) (r : Region) (a v : Nat) : (s.store r a v).pending = s.pending := rfl
@[simp] theorem State.store_cells (s : State) (r : Region) (a v : Nat) : (s.store r a v).cells = s.cells := rfl
@[simp] theorem State.store_lists (s : State) (r : Region) (a v : Nat) : (s.store r a v).lists = s.lists := rfl
@[simp] theorem State.store_ring (s : State) (r : Region) (a v : Nat) : (s.store r a v).ring = s.ring := rfl
@[simp] theorem State.store_intake (s : State) (r : Region) (a v : Nat) : (s.store r a v).intake = s.intake := rfl
@[simp] theorem State.store_held (s : State) (r : Region) (a v : Nat) : (s.store r a v).held = s.held := rfl
@[simp] theorem State.store_pba (s : State) (r : Region) (a v : Nat) : (s.store r a v).pba = s.pba := rfl
@[simp] theorem State.store_out (s : State) (r : Region) (a v : Nat) : (s.store r a v).out = s.out := rfl
@[simp] theorem State.store_draws (s : State) (r : Region) (a v : Nat) : (s.store r a v).draws = s.draws := rfl

@[simp] theorem State.wipe_pending (s : State) (r : Region) : (s.wipe r).pending = s.pending := rfl
@[simp] theorem State.wipe_cells (s : State) (r : Region) : (s.wipe r).cells = s.cells := rfl
@[simp] theorem State.wipe_lists (s : State) (r : Region) : (s.wipe r).lists = s.lists := rfl
@[simp] theorem State.wipe_ring (s : State) (r : Region) : (s.wipe r).ring = s.ring := rfl
@[simp] theorem State.wipe_intake (s : State) (r : Region) : (s.wipe r).intake = s.intake := rfl
@[simp] theorem State.wipe_held (s : State) (r : Region) : (s.wipe r).held = s.held := rfl
@[simp] theorem State.wipe_pba (s : State) (r : Region) : (s.wipe r).pba = s.pba := rfl
@[simp] theorem State.wipe_out (s : State) (r : Region) : (s.wipe r).out = s.out := rfl
@[simp] theorem State.wipe_draws (s : State) (r : Region) : (s.wipe r).draws = s.draws := rfl

@[simp] theorem State.emit_pending (s : State) (k : OutKind) (args : List Nat) : (s.emit k args).pending = s.pending := rfl
@[simp] theorem State.emit_cells (s : State) (k : OutKind) (args : List Nat) : (s.emit k args).cells = s.cells := rfl
@[simp] theorem State.emit_lists (s : State) (k : OutKind) (args : List Nat) : (s.emit k args).lists = s.lists := rfl
@[simp] theorem State.emit_mem (s : State) (k : OutKind) (args : List Nat) : (s.emit k args).mem = s.mem := rfl
@[simp] theorem State.emit_ring (s : State) (k : OutKind) (args : List Nat) : (s.emit k args).ring = s.ring := rfl
@[simp] theorem State.emit_intake (s : State) (k : OutKind) (args : List Nat) : (s.emit k args).intake = s.intake := rfl
@[simp] theorem State.emit_held (s : State) (k : OutKind) (args : List Nat) : (s.emit k args).held = s.held := rfl
@[simp] theorem State.emit_pba (s : State) (k : OutKind) (args : List Nat) : (s.emit k args).pba = s.pba := rfl
@[simp] theorem State.emit_draws (s : State) (k : OutKind) (args : List Nat) : (s.emit k args).draws = s.draws := rfl

@[simp] theorem State.drawn_pending (s : State) : (s.drawn).pending = s.pending := rfl
@[simp] theorem State.drawn_cells (s : State) : (s.drawn).cells = s.cells := rfl
@[simp] theorem State.drawn_lists (s : State) : (s.drawn).lists = s.lists := rfl
@[simp] theorem State.drawn_mem (s : State) : (s.drawn).mem = s.mem := rfl
@[simp] theorem State.drawn_ring (s : State) : (s.drawn).ring = s.ring := rfl
@[simp] theorem State.drawn_intake (s : State) : (s.drawn).intake = s.intake := rfl
@[simp] theorem State.drawn_held (s : State) : (s.drawn).held = s.held := rfl
@[simp] theorem State.drawn_pba (s : State) : (s.drawn).pba = s.pba := rfl
@[simp] theorem State.drawn_out (s : State) : (s.drawn).out = s.out := rfl

@[simp] theorem State.put_list (s : State) (f : Field) (v i : Nat) (q' : Fifo) (j : Nat) :
    (s.put f v i).list q' j = s.list q' j := rfl
@[simp] theorem State.count_list (s : State) (f : Field) (n i : Nat) (q' : Fifo) (j : Nat) :
    (s.count f n i).list q' j = s.list q' j := rfl
@[simp] theorem State.orBit_list (s : State) (f : Field) (n i : Nat) (q' : Fifo) (j : Nat) :
    (s.orBit f n i).list q' j = s.list q' j := rfl
@[simp] theorem State.andBit_list (s : State) (f : Field) (n i : Nat) (q' : Fifo) (j : Nat) :
    (s.andBit f n i).list q' j = s.list q' j := rfl
@[simp] theorem State.setList_get (s : State) (q : Fifo) (l : List Nat) (i : Nat) (g : Field) (j : Nat) :
    (s.setList q l i).get g j = s.get g j := rfl
@[simp] theorem State.enq_get (s : State) (q : Fifo) (v i : Nat) (g : Field) (j : Nat) :
    (s.enq q v i).get g j = s.get g j := rfl
@[simp] theorem State.store_get (s : State) (r : Region) (a v : Nat) (g : Field) (j : Nat) :
    (s.store r a v).get g j = s.get g j := rfl
@[simp] theorem State.store_list (s : State) (r : Region) (a v : Nat) (q' : Fifo) (j : Nat) :
    (s.store r a v).list q' j = s.list q' j := rfl
@[simp] theorem State.wipe_get (s : State) (r : Region) (g : Field) (j : Nat) :
    (s.wipe r).get g j = s.get g j := rfl
@[simp] theorem State.wipe_list (s : State) (r : Region) (q' : Fifo) (j : Nat) :
    (s.wipe r).list q' j = s.list q' j := rfl
@[simp] theorem State.emit_get (s : State) (k : OutKind) (args : List Nat) (g : Field) (j : Nat) :
    (s.emit k args).get g j = s.get g j := rfl
@[simp] theorem State.emit_list (s : State) (k : OutKind) (args : List Nat) (q' : Fifo) (j : Nat) :
    (s.emit k args).list q' j = s.list q' j := rfl
@[simp] theorem State.drawn_get (s : State) (g : Field) (j : Nat) :
    (s.drawn).get g j = s.get g j := rfl
@[simp] theorem State.drawn_list (s : State) (q' : Fifo) (j : Nat) :
    (s.drawn).list q' j = s.list q' j := rfl

/-! Memory words. -/

theorem Region.base_inj {r r' : Region} (h : r.base = r'.base) : r = r' := by
  cases r <;> cases r' <;> simp_all [Region.base]

theorem Region.key_ne {r r' : Region} {a a' : Nat} (ha : a < 2 ^ 32) (ha' : a' < 2 ^ 32) (h : r ≠ r' ∨ a ≠ a') :
    r.base + a ≠ r'.base + a' := by
  intro he
  have hb : r.base = r'.base := by cases r <;> cases r' <;> simp only [Region.base] at * <;> omega
  rcases h with h | h
  · exact h (Region.base_inj hb)
  · omega

theorem State.blank_cells {s t : State} (h : t.cells = s.cells) (r : Region) (a : Nat) : t.blank r a = s.blank r a := by
  have hg (f : Field) (i : Nat) : t.get f i = s.get f i := by simp [State.get, h]
  cases r <;> simp [State.blank, State.filled, hg]

/-- A word written reads as the word: no stored word is the undefined mark. -/
theorem State.load_store_self (s : State) (r : Region) (a v : Nat) : (s.store r a v).load r a = v % 2 ^ 80 := by
  have hb : (s.store r a v).blank r a = s.blank r a := State.blank_cells rfl r a
  have hv : v % 2 ^ 80 ≠ undefinedWord := by
    have : v % 2 ^ 80 < 2 ^ 80 := Nat.mod_lt _ (by decide)
    have : (2 ^ 80 : Nat) < undefinedWord := by decide
    omega
  have hg : (s.store r a v).mem.get (r.base + a) ((s.store r a v).blank r a) = v % 2 ^ 80 := by
    rw [hb]
    exact Store.get_set_same _ _ _ _
  simp only [State.load, hg, hv, if_false]

/-- A write leaves every other word of every memory alone. -/
theorem State.load_store_ne (s : State) {r r' : Region} {a a' : Nat} (v : Nat) (ha : a < 2 ^ 32) (ha' : a' < 2 ^ 32)
    (h : r' ≠ r ∨ a' ≠ a) : (s.store r a v).load r' a' = s.load r' a' := by
  have hb : (s.store r a v).blank r' a' = s.blank r' a' := State.blank_cells rfl r' a'
  have hg : (s.store r a v).mem.get (r'.base + a') (s.blank r' a') = s.mem.get (r'.base + a') (s.blank r' a') :=
    Store.get_set_ne _ _ _ _ (Region.key_ne ha' ha h)
  simp only [State.load, hb, hg]
  rfl

/-- Memory reads depend on the memory and on the cells alone. -/
theorem State.load_of_eq {s t : State} (hm : t.mem = s.mem) (hc : t.cells = s.cells) (r : Region) (a : Nat) :
    t.load r a = s.load r a := by
  simp [State.load, hm, State.blank_cells hc, State.get, hc]

/-! The canonical form of the sparse stores. -/

theorem State.sorted_put {s : State} (h : Store.sorted s.cells = true) (f : Field) (v i : Nat) :
    Store.sorted (s.put f v i).cells = true := Store.sorted_set _ _ _ h

theorem State.sorted_setList {s : State} (h : Store.sorted s.lists = true) (q : Fifo) (l : List Nat) (i : Nat) :
    Store.sorted (s.setList q l i).lists = true := Store.sorted_set _ _ _ h

theorem State.sorted_store {s : State} (h : Store.sorted s.mem = true) (r : Region) (a v : Nat) :
    Store.sorted (s.store r a v).mem = true := Store.sorted_set _ _ _ h

theorem State.sorted_wipe {s : State} (h : Store.sorted s.mem = true) (r : Region) :
    Store.sorted (s.wipe r).mem = true := Store.sorted_filter _ h

end Sys2Proof.Machine
end

