-- ==== Sys2Proof/Laws/Deliver.lean ====
section
/-! SUPPORT. What the operations that every command goes through can do: raising a record, sending messages, delivering
interrupt edges, the checks of a register write. -/

namespace Sys2Proof.Machine

/-! Messages and edges. -/

theorem State.message_stores (s : State) (v : Nat) : s.SameStores (s.message v) := by
  unfold State.message
  dsimp only
  repeat' split
  all_goals exact ⟨rfl, rfl, rfl, rfl, rfl, rfl⟩

theorem State.message_draws (s : State) (v : Nat) : (s.message v).draws = s.draws := by
  unfold State.message
  dsimp only
  repeat' split
  all_goals rfl

theorem State.message_get (s : State) (v : Nat) {g : Field} {j : Nat} (h : g.key j ≠ MSI_PEND.key 0) :
    (s.message v).get g j = s.get g j := by
  unfold State.message
  dsimp only
  repeat' split
  all_goals first | rfl | exact State.get_orBit_ne _ _ h

theorem State.edge_stores (s : State) (n : Nat) : s.SameStores (s.edge n) := by
  unfold State.edge
  dsimp only
  split
  · exact ⟨rfl, rfl, rfl, rfl, rfl, rfl⟩
  · have h := State.message_stores s (s.get PW_IRQMAP.VECTOR n)
    repeat' split
    all_goals first | exact h | exact ⟨rfl, rfl, rfl, rfl, rfl, rfl⟩

theorem State.edge_draws (s : State) (n : Nat) : (s.edge n).draws = s.draws := by
  have h := State.message_draws s (s.get PW_IRQMAP.VECTOR n)
  unfold State.edge
  dsimp only
  repeat' split
  all_goals first | rfl | exact h

theorem State.edge_get (s : State) (n : Nat) {g : Field} {j : Nat} (h : g.key j ≠ MSI_PEND.key 0) :
    (s.edge n).get g j = s.get g j := by
  have h := State.message_get s (s.get PW_IRQMAP.VECTOR n) h
  unfold State.edge
  dsimp only
  repeat' split
  all_goals first | rfl | exact h

/-- A fold whose every step keeps a property keeps it. -/
theorem foldl_keeps {α β : Type} (P : β → Prop) (f : β → α → β) (h : ∀ b a, P b → P (f b a)) (l : List α) (b : β)
    (hb : P b) : P (l.foldl f b) := by
  induction l generalizing b with
  | nil => exact hb
  | cons a l ih => exact ih _ (h _ _ hb)

theorem State.SameStores.trans {s t u : State} (h : s.SameStores t) (h' : t.SameStores u) : s.SameStores u := by
  obtain ⟨a, b, c, d, e, f⟩ := h
  obtain ⟨a', b', c', d', e', f'⟩ := h'
  exact ⟨a'.trans a, b'.trans b, c'.trans c, d'.trans d, e'.trans e, f'.trans f⟩

theorem State.SameStores.refl (s : State) : s.SameStores s := ⟨rfl, rfl, rfl, rfl, rfl, rfl⟩

theorem deliver_stores (s t : State) : t.SameStores (deliver s t) := by
  unfold deliver
  refine foldl_keeps (fun u => t.SameStores u) _ (fun u n h => ?_) _ t (State.SameStores.refl t)
  split
  · exact h.trans (State.edge_stores u n)
  · exact h

@[simp] theorem deliver_mem (s t : State) : (deliver s t).mem = t.mem := (deliver_stores s t).1
@[simp] theorem deliver_lists (s t : State) : (deliver s t).lists = t.lists := (deliver_stores s t).2.1
@[simp] theorem deliver_ring (s t : State) : (deliver s t).ring = t.ring := (deliver_stores s t).2.2.1
@[simp] theorem deliver_intake (s t : State) : (deliver s t).intake = t.intake := (deliver_stores s t).2.2.2.1
@[simp] theorem deliver_held (s t : State) : (deliver s t).held = t.held := (deliver_stores s t).2.2.2.2.1
@[simp] theorem deliver_pending (s t : State) : (deliver s t).pending = t.pending := (deliver_stores s t).2.2.2.2.2

@[simp] theorem deliver_list (s t : State) (q : Fifo) (i : Nat) : (deliver s t).list q i = t.list q i := by
  simp [State.list]

@[simp] theorem deliver_draws (s t : State) : (deliver s t).draws = t.draws := by
  unfold deliver
  refine foldl_keeps (fun u => u.draws = t.draws) _ (fun u n h => ?_) _ t rfl
  split
  · exact (State.edge_draws u n).trans h
  · exact h

/-- Delivering interrupt edges leaves every cell alone but the pending message bits. -/
theorem deliver_get (s t : State) {g : Field} {j : Nat} (h : g.key j ≠ MSI_PEND.key 0) :
    (deliver s t).get g j = t.get g j := by
  unfold deliver
  refine foldl_keeps (fun u => u.get g j = t.get g j) _ (fun u n hu => ?_) _ t rfl
  split
  · exact (State.edge_get u n h).trans hu
  · exact hu

theorem deliver_blank (s t : State) (r : Region) (a : Nat) : (deliver s t).blank r a = t.blank r a := by
  have h (g : Field) (j : Nat) (hg : g.key j ≠ MSI_PEND.key 0) := deliver_get s t hg
  have he (n : Nat) : BLK_EPOCH.key n ≠ MSI_PEND.key 0 := by
    simp only [Field.key, BLK_EPOCH, MSI_PEND]
    omega
  cases r <;> simp [State.blank, State.filled, h MEM_UNDEF 0 (by decide), h MEM_EPOCH 0 (by decide), h BLK_EPOCH _ (he _)]

@[simp] theorem deliver_load (s t : State) (r : Region) (a : Nat) : (deliver s t).load r a = t.load r a := by
  simp [State.load, deliver_blank, deliver_get s t (g := MEM_EPOCH) (j := 0) (by decide)]

/-- The frame of a delivery. -/
theorem deliver_frame {s u t : State} {keys : List Nat} (h : u.Frame t keys) : u.Frame (deliver s t) keys :=
  ⟨h.1.trans (deliver_stores s t), fun f i hf hm => (deliver_get s t hm).trans (h.2 f i hf hm)⟩

/-! Running a command. -/

/-- Out of reset a command that is carried out ends in its effect with its interrupt edges delivered. -/
theorem live_awake {s : State} (k : State → State) (h : Awake s) : live s k = .next (deliver s (k s)) := by
  simp [live, run, show s.get RESETTING = 0 from h]

/-- In reset it leaves the state as it is (R47). -/
theorem live_reset {s : State} (k : State → State) (h : ¬Awake s) : live s k = .next s := by
  simp [live, show ¬s.get RESETTING = 0 from h]

/-- A command whose meaning is `live` answers whatever its effect has, seen through the delivery. -/
theorem answers_live {c : Instr} {s : State} {k : State → State} {P : State → Prop} (hc : exec c s = live s k)
    (h : Awake s) (hp : P (deliver s (k s))) : Answers c s P :=
  ⟨_, hc.trans (live_awake k h), hp⟩

/-! Records. -/

theorem State.dropRecord_get (s : State) {g : Field} {j : Nat} (h1 : g.key j ≠ EV_DROP.COUNT.key 0)
    (h2 : g.key j ≠ DROP_EPISODE.key 0) : s.dropRecord.get g j = s.get g j := by
  rw [State.dropRecord, State.get_count_ne _ _ h2, State.get_count_ne _ _ h1]

/-- Raising a record leaves every cell alone but the count of dropped records. -/
theorem State.raise_get (s : State) (c : Rc) (obj d : Nat) {g : Field} {j : Nat} (h1 : g.key j ≠ EV_DROP.COUNT.key 0)
    (h2 : g.key j ≠ DROP_EPISODE.key 0) : (s.raise c obj d).get g j = s.get g j := by
  unfold State.raise
  repeat' split
  all_goals first | rfl | exact State.dropRecord_get s h1 h2

@[simp] theorem State.raise_pending (s : State) (c : Rc) (obj d : Nat) : (s.raise c obj d).pending = s.pending := by
  unfold State.raise
  repeat' split
  all_goals rfl

@[simp] theorem State.raise_mem (s : State) (c : Rc) (obj d : Nat) : (s.raise c obj d).mem = s.mem := by
  unfold State.raise
  repeat' split
  all_goals rfl

@[simp] theorem State.raise_lists (s : State) (c : Rc) (obj d : Nat) : (s.raise c obj d).lists = s.lists := by
  unfold State.raise
  repeat' split
  all_goals rfl

@[simp] theorem State.raise_list (s : State) (c : Rc) (obj d : Nat) (q : Fifo) (i : Nat) :
    (s.raise c obj d).list q i = s.list q i := by
  simp [State.list]

@[simp] theorem State.raise_ring (s : State) (c : Rc) (obj d : Nat) : (s.raise c obj d).ring = s.ring := by
  unfold State.raise
  repeat' split
  all_goals rfl

@[simp] theorem State.raise_draws (s : State) (c : Rc) (obj d : Nat) : (s.raise c obj d).draws = s.draws := by
  unfold State.raise
  repeat' split
  all_goals rfl

/-- Out of reset and of DORMANT, with room in the intake queue, a record is put at its young end (R797). -/
theorem State.raise_intake {s : State} (c : Rc) (obj d : Nat) (h : Awake s) (hm : s.mode ≠ mDORMANT)
    (hr : s.intake.length < 64) : (s.raise c obj d).intake = s.intake ++ [s.record c obj d] := by
  simp [State.raise, show s.get RESETTING = 0 from h, hm, hr]

/-- A refusal leaves every cell alone but the two REFUSE registers and the count of dropped records. -/
theorem State.refuseBy_get (s : State) (b : Nat) (c : Rc) (obj d : Nat) {g : Field} {j : Nat}
    (h1 : g.key j ≠ (refuseCode b).key 0) (h2 : g.key j ≠ (refuseObj b).key 0) (h3 : g.key j ≠ GH_REFUSE.CODE.key 0)
    (h4 : g.key j ≠ GH_REFUSE.OBJ.key 0) (h5 : g.key j ≠ EV_DROP.COUNT.key 0) (h6 : g.key j ≠ DROP_EPISODE.key 0) :
    (s.refuseBy b c obj d).get g j = s.get g j := by
  rw [State.refuseBy, State.raise_get _ _ _ _ h5 h6, State.get_put_ne _ _ h4, State.get_put_ne _ _ h3,
    State.get_put_ne _ _ h2, State.get_put_ne _ _ h1]

/-- A refusal leaves its code in GH_REFUSE (R792). -/
theorem State.refuseBy_code (s : State) (b : Nat) (c : Rc) (obj d : Nat) :
    (s.refuseBy b c obj d).get GH_REFUSE.CODE = c.num % 2 ^ 16 := by
  rw [State.refuseBy, State.raise_get _ _ _ _ (by decide) (by decide), State.get_put_ne _ _ (by decide),
    State.get_put_self]
  rfl

/-! Register writes. -/

theorem State.resend_stores (s before : State) (off w : Nat) : s.SameStores (s.resend before off w) := by
  unfold State.resend
  repeat' split
  all_goals try exact State.SameStores.refl s
  refine foldl_keeps (fun u => s.SameStores u) _ (fun u n h => ?_) _ s (State.SameStores.refl s)
  dsimp only
  split
  · exact h.trans (State.message_stores _ _)
  · exact h

/-- The further messages of R59 leave every cell alone but the pending message bits. -/
theorem State.resend_get (s before : State) (off w : Nat) {g : Field} {j : Nat} (h : g.key j ≠ MSI_PEND.key 0) :
    (s.resend before off w).get g j = s.get g j := by
  unfold State.resend
  repeat' split
  all_goals try rfl
  refine foldl_keeps (fun u => u.get g j = s.get g j) _ (fun u n hu => ?_) _ s rfl
  dsimp only
  split
  · exact (State.message_get _ _ h).trans hu
  · exact hu

@[simp] theorem State.resend_mem (s b : State) (off w : Nat) : (s.resend b off w).mem = s.mem :=
  (State.resend_stores s b off w).1
@[simp] theorem State.resend_lists (s b : State) (off w : Nat) : (s.resend b off w).lists = s.lists :=
  (State.resend_stores s b off w).2.1
@[simp] theorem State.resend_ring (s b : State) (off w : Nat) : (s.resend b off w).ring = s.ring :=
  (State.resend_stores s b off w).2.2.1
@[simp] theorem State.resend_intake (s b : State) (off w : Nat) : (s.resend b off w).intake = s.intake :=
  (State.resend_stores s b off w).2.2.2.1
@[simp] theorem State.resend_pending (s b : State) (off w : Nat) : (s.resend b off w).pending = s.pending :=
  (State.resend_stores s b off w).2.2.2.2.2
@[simp] theorem State.resend_list (s b : State) (off w : Nat) (q : Fifo) (i : Nat) :
    (s.resend b off w).list q i = s.list q i := by
  simp [State.list]

@[simp] theorem State.transact_idle {s : State} {m : Master} (h : s.get UNL_LEFT m.code = 0) : s.transact m = s := by
  simp [State.transact, h]

@[simp] theorem State.journalReg_off {s : State} (h : s.journaling = false) (off w : Nat) : s.journalReg off w = s := by
  simp [State.journalReg, h]

/-- A register write that is taken as it stands has the register's own effect and the further messages of R59. -/
theorem State.onWrite_of {m : Master} {off : Nat} {s : State} (h : Writes m off s) (w : Nat) (k : State → State) :
    s.onWrite m off w k = (k s).resend s off w := by
  obtain ⟨-, h1, h2, h3, h4, h5⟩ := h
  simp [State.onWrite, h5, h1, h2, h3, h4]

/-- The same at an offset that no declaration covers. -/
theorem State.onWrite_always {m : Master} {off : Nat} {s : State} (h : WritesAlways m off s) (w : Nat)
    (k : State → State) : s.onWrite m off w k = (k s).resend s off w := by
  obtain ⟨-, h1, h2, h3, h4⟩ := h
  simp [State.onWrite, State.journalReg, h4, h1, h2, h3]

/-- A register read that is answered by the register itself. -/
theorem State.onRead_of {m : Master} {off : Nat} {s : State} (h : Reads m off s) (k : State → Nat × State) :
    s.onRead m off k = k s := by
  obtain ⟨-, h1, h2, h3⟩ := h
  simp [State.onRead, h3, h1, h2]

end Sys2Proof.Machine
end

