-- ==== Sys2Proof/Laws/Exec.lean ====
section
/-! SUPPORT. exec of each command is its meaning: one equation for each constructor, so that no proof unfolds exec. -/

namespace Sys2Proof.Machine

theorem exec_registerWrite (m : Master) (off : BitVec 20) (w : Word) (s : State) :
    exec (.registerWrite m off w) s = execRegisterWrite m off w s := rfl
theorem exec_pairLoRead (m : Master) (off : BitVec 20) (s : State) :
    exec (.pairLoRead m off) s = execPairLoRead m off s := rfl
theorem exec_pairLoWrite (m : Master) (off : BitVec 20) (w : Word) (s : State) :
    exec (.pairLoWrite m off w) s = execPairLoWrite m off w s := rfl
theorem exec_pairHiWrite (m : Master) (off : BitVec 20) (w : Word) (s : State) :
    exec (.pairHiWrite m off w) s = execPairHiWrite m off w s := rfl
theorem exec_fabricWindowAccess (m : Master) (n : BitVec 8) (off : BitVec 20) (w : Option Word) (s : State) :
    exec (.fabricWindowAccess m n off w) s = execFabricWindowAccess m n off w s := rfl
theorem exec_coldResetSource (vaux : Bool) (s : State) :
    exec (.coldResetSource vaux) s = execColdResetSource vaux s := rfl
theorem exec_devResetN (low : Bool) (s : State) : exec (.devResetN low) s = execDevResetN low s := rfl
theorem exec_resetEnd (pins : BitVec 3) (s : State) : exec (.resetEnd pins) s = execResetEnd pins s := rfl
theorem exec_endpointReset (perst : Bool) (s : State) :
    exec (.endpointReset perst) s = execEndpointReset perst s := rfl
theorem exec_rdholdWrite (m : Master) (w : Word) (s : State) :
    exec (.rdholdWrite m w) s = execRdholdWrite m w s := rfl
theorem exec_domainReleaseSlot (s : State) : exec (.domainReleaseSlot) s = execDomainReleaseSlot s := rfl
theorem exec_paceWindowEnd (counts : List Nat) (s : State) :
    exec (.paceWindowEnd counts) s = execPaceWindowEnd counts s := rfl
theorem exec_governorPeriod (s : State) : exec (.governorPeriod) s = execGovernorPeriod s := rfl
theorem exec_paceShort (s : State) : exec (.paceShort) s = execPaceShort s := rfl
theorem exec_avsSettleEnd (s : State) : exec (.avsSettleEnd) s = execAvsSettleEnd s := rfl
theorem exec_avsFrameDone (r : AvsResult) (s : State) : exec (.avsFrameDone r) s = execAvsFrameDone r s := rfl
theorem exec_avsStatusPoll (s : State) : exec (.avsStatusPoll) s = execAvsStatusPoll s := rfl
theorem exec_govEn (m : Master) (w : Word) (s : State) : exec (.govEn m w) s = execGovEn m w s := rfl
theorem exec_vsetWrite (m : Master) (w : Word) (s : State) : exec (.vsetWrite m w) s = execVsetWrite m w s := rfl
theorem exec_avsFaultClear (m : Master) (w : Word) (s : State) :
    exec (.avsFaultClear m w) s = execAvsFaultClear m w s := rfl
theorem exec_fence (m : Master) (p : Fin 64) (w : Word) (s : State) : exec (.fence m p w) s = execFence m p w s := rfl
theorem exec_plotQuiet (p : Fin 64) (s : State) : exec (.plotQuiet p) s = execPlotQuiet p s := rfl
theorem exec_drainTimeout (p : Fin 64) (discarded : BitVec 16) (s : State) :
    exec (.drainTimeout p discarded) s = execDrainTimeout p discarded s := rfl
theorem exec_release (m : Master) (p : Fin 64) (w : Word) (s : State) :
    exec (.release m p w) s = execRelease m p w s := rfl
theorem exec_gateInboundRequest (p : Fin 64) (started : Bool) (s : State) :
    exec (.gateInboundRequest p started) s = execGateInboundRequest p started s := rfl
theorem exec_hedgeProtocolViolation (p : Fin 64) (wire : BitVec 6) (avenue inbound : Bool) (side : BitVec 2) (s : State) :
    exec (.hedgeProtocolViolation p wire avenue inbound side) s = execHedgeProtocolViolation p wire avenue inbound side s := rfl
theorem exec_drIllegalCode (p : Fin 64) (wire : BitVec 6) (avenue inbound : Bool) (side : BitVec 2) (s : State) :
    exec (.drIllegalCode p wire avenue inbound side) s = execDrIllegalCode p wire avenue inbound side s := rfl
theorem exec_stallDetected (p : Fin 64) (s : State) : exec (.stallDetected p) s = execStallDetected p s := rfl
theorem exec_eventLineToken (l : Fin 64) (s : State) : exec (.eventLineToken l) s = execEventLineToken l s := rfl
theorem exec_eventLineDeliver (l : Fin 64) (s : State) :
    exec (.eventLineDeliver l) s = execEventLineDeliver l s := rfl
theorem exec_fcmAccess (addr : Word) (w : Option Word) (s : State) :
    exec (.fcmAccess addr w) s = execFcmAccess addr w s := rfl
theorem exec_memPortRead (m : Fin 2048) (port : Fin 2) (addr : BitVec 19) (s : State) :
    exec (.memPortRead m port addr) s = execMemPortRead m port addr s := rfl
theorem exec_memPortWrite (m : Fin 2048) (port : Fin 2) (addr : BitVec 19) (be : BitVec 8) (data : BitVec 72) (s : State) :
    exec (.memPortWrite m port addr be data) s = execMemPortWrite m port addr be data s := rfl
theorem exec_macOperation (n : Fin 3072) (op : BitVec 5) (a b d : BitVec 27) (s : State) :
    exec (.macOperation n op a b d) s = execMacOperation n op a b d s := rfl
theorem exec_memIndirectRead (m : Master) (w : Word) (s : State) :
    exec (.memIndirectRead m w) s = execMemIndirectRead m w s := rfl
theorem exec_memIndirectWrite (m : Master) (w : Word) (s : State) :
    exec (.memIndirectWrite m w) s = execMemIndirectWrite m w s := rfl
theorem exec_memScrubAccess (m : Fin 2048) (s : State) : exec (.memScrubAccess m) s = execMemScrubAccess m s := rfl
theorem exec_push (p : Fin 64) (lane : BitVec 3) (block : Bool) (data : BitVec 64) (s : State) :
    exec (.push p lane block data) s = execPush p lane block data s := rfl
theorem exec_qmOpen (p : Fin 64) (lane : BitVec 3) (block : Bool) (s : State) :
    exec (.qmOpen p lane block) s = execQmOpen p lane block s := rfl
theorem exec_close (p : Fin 64) (lane : BitVec 3) (data : BitVec 64) (s : State) :
    exec (.close p lane data) s = execClose p lane data s := rfl
theorem exec_qmAbort (p : Fin 64) (lane : BitVec 3) (s : State) :
    exec (.qmAbort p lane) s = execQmAbort p lane s := rfl
theorem exec_pop (p : Fin 64) (lane : BitVec 3) (any block : Bool) (s : State) :
    exec (.pop p lane any block) s = execPop p lane any block s := rfl
theorem exec_peek (p : Fin 64) (lane : BitVec 3) (any block : Bool) (s : State) :
    exec (.peek p lane any block) s = execPeek p lane any block s := rfl
theorem exec_mark (p : Fin 64) (lane : BitVec 3) (any : Bool) (s : State) :
    exec (.mark p lane any) s = execMark p lane any s := rfl
theorem exec_rewind (p : Fin 64) (lane : BitVec 3) (any : Bool) (s : State) :
    exec (.rewind p lane any) s = execRewind p lane any s := rfl
theorem exec_qmRelease (p : Fin 64) (lane : BitVec 3) (any : Bool) (count : BitVec 21) (s : State) :
    exec (.qmRelease p lane any count) s = execQmRelease p lane any count s := rfl
theorem exec_occ (p : Fin 64) (lane : BitVec 3) (any : Bool) (s : State) :
    exec (.occ p lane any) s = execOcc p lane any s := rfl
theorem exec_parkedOpRegrant (q : Fin 256) (s : State) : exec (.parkedOpRegrant q) s = execParkedOpRegrant q s := rfl
theorem exec_queueEnable (m : Master) (q : Fin 256) (w : Word) (s : State) :
    exec (.queueEnable m q w) s = execQueueEnable m q w s := rfl
theorem exec_portBind (m : Master) (t : BindTarget) (w : Word) (s : State) :
    exec (.portBind m t w) s = execPortBind m t w s := rfl
theorem exec_windowPush (m : Master) (idx : Fin 8) (w : Word) (s : State) :
    exec (.windowPush m idx w) s = execWindowPush m idx w s := rfl
theorem exec_windowPop (m : Master) (idx : Fin 8) (s : State) :
    exec (.windowPop m idx) s = execWindowPop m idx s := rfl
theorem exec_jres (m : Master) (w : Word) (s : State) : exec (.jres m w) s = execJres m w s := rfl
theorem exec_storeScrubAccess (s : State) : exec (.storeScrubAccess) s = execStoreScrubAccess s := rfl
theorem exec_refLoss (c : Fin 13) (s : State) : exec (.refLoss c) s = execRefLoss c s := rfl
theorem exec_refRestored (c : Fin 13) (s : State) : exec (.refRestored c) s = execRefRestored c s := rfl
theorem exec_ctlSel (m : Master) (w : Word) (s : State) : exec (.ctlSel m w) s = execCtlSel m w s := rfl
theorem exec_synGo (m : Master) (k : Fin 6) (w : Word) (s : State) : exec (.synGo m k w) s = execSynGo m k w s := rfl
theorem exec_synEn (m : Master) (k : Fin 6) (w : Word) (s : State) : exec (.synEn m k w) s = execSynEn m k w s := rfl
theorem exec_synLocked (k : Fin 6) (s : State) : exec (.synLocked k) s = execSynLocked k s := rfl
theorem exec_synLockTimeout (k : Fin 6) (s : State) : exec (.synLockTimeout k) s = execSynLockTimeout k s := rfl
theorem exec_synLockLost (k : Fin 6) (s : State) : exec (.synLockLost k) s = execSynLockLost k s := rfl
theorem exec_slewStep (j : Fin 16) (s : State) : exec (.slewStep j) s = execSlewStep j s := rfl
theorem exec_freqMeterGo (m : Master) (w : Word) (s : State) :
    exec (.freqMeterGo m w) s = execFreqMeterGo m w s := rfl
theorem exec_freqMeterDone (count : BitVec 40) (s : State) :
    exec (.freqMeterDone count) s = execFreqMeterDone count s := rfl
theorem exec_xpEnable (m : Master) (x : Fin 256) (w : Word) (s : State) :
    exec (.xpEnable m x w) s = execXpEnable m x w s := rfl
theorem exec_xpArrayOffer (x : Fin 256) (data : BitVec 64) (side : BitVec 8) (s : State) :
    exec (.xpArrayOffer x data side) s = execXpArrayOffer x data side s := rfl
theorem exec_xpArrayAck (x : Fin 256) (data : BitVec 64) (stat : BitVec 4) (s : State) :
    exec (.xpArrayAck x data stat) s = execXpArrayAck x data stat s := rfl
theorem exec_xpIslandPut (x : Fin 256) (data : BitVec 64) (side : BitVec 8) (s : State) :
    exec (.xpIslandPut x data side) s = execXpIslandPut x data side s := rfl
theorem exec_xpIslandTake (x : Fin 256) (s : State) : exec (.xpIslandTake x) s = execXpIslandTake x s := rfl
theorem exec_xpIslandAnswer (x : Fin 256) (data : BitVec 64) (stat : BitVec 4) (s : State) :
    exec (.xpIslandAnswer x data stat) s = execXpIslandAnswer x data stat s := rfl
theorem exec_pacedPairMove (a : Fin 128) (s : State) : exec (.pacedPairMove a) s = execPacedPairMove a s := rfl
theorem exec_xpTimeout (x : Fin 256) (s : State) : exec (.xpTimeout x) s = execXpTimeout x s := rfl
theorem exec_xpPortReset (m : Master) (x : Fin 256) (s : State) :
    exec (.xpPortReset m x) s = execXpPortReset m x s := rfl
theorem exec_xpResync (x : Fin 256) (s : State) : exec (.xpResync x) s = execXpResync x s := rfl
theorem exec_tbEn (m : Master) (w : Word) (s : State) : exec (.tbEn m w) s = execTbEn m w s := rfl
theorem exec_epochArm (m : Master) (w : Word) (s : State) : exec (.epochArm m w) s = execEpochArm m w s := rfl
theorem exec_epochLoad (since : BitVec 32) (s : State) : exec (.epochLoad since) s = execEpochLoad since s := rfl
theorem exec_adjStep (m : Master) (w : Word) (s : State) : exec (.adjStep m w) s = execAdjStep m w s := rfl
theorem exec_adjSlew (m : Master) (w : Word) (s : State) : exec (.adjSlew m w) s = execAdjSlew m w s := rfl
theorem exec_slewDone (s : State) : exec (.slewDone) s = execSlewDone s := rfl
theorem exec_tnowRead (m : Master) (s : State) : exec (.tnowRead m) s = execTnowRead m s := rfl
theorem exec_tagEdge (n : Fin 96) (rising : Bool) (ago : BitVec 24) (s : State) :
    exec (.tagEdge n rising ago) s = execTagEdge n rising ago s := rfl
theorem exec_ttdat0Read (m : Master) (n : Fin 96) (s : State) : exec (.ttdat0Read m n) s = execTtdat0Read m n s := rfl
theorem exec_ttCalibrationStart (n : Fin 96) (s : State) :
    exec (.ttCalibrationStart n) s = execTtCalibrationStart n s := rfl
theorem exec_ttCalibrationEnd (n : Fin 96) (s : State) :
    exec (.ttCalibrationEnd n) s = execTtCalibrationEnd n s := rfl
theorem exec_ttStale (n : Fin 96) (s : State) : exec (.ttStale n) s = execTtStale n s := rfl
theorem exec_cueCommandPush (m : Master) (c : Fin 64) (w : Word) (s : State) :
    exec (.cueCommandPush m c w) s = execCueCommandPush m c w s := rfl
theorem exec_cueFire (c : Fin 64) (s : State) : exec (.cueFire c) s = execCueFire c s := rfl
theorem exec_cueLate (c : Fin 64) (s : State) : exec (.cueLate c) s = execCueLate c s := rfl
theorem exec_pulseEnd (c : Fin 64) (s : State) : exec (.pulseEnd c) s = execPulseEnd c s := rfl
theorem exec_bsUnitEnable (m : Master) (u : BsUnit) (w : Word) (s : State) :
    exec (.bsUnitEnable m u w) s = execBsUnitEnable m u w s := rfl
theorem exec_softTrigger (m : Master) (w : Word) (s : State) :
    exec (.softTrigger m w) s = execSoftTrigger m w s := rfl
theorem exec_routerSourceEdge (c : BitVec 8) (high : Bool) (s : State) :
    exec (.routerSourceEdge c high) s = execRouterSourceEdge c high s := rfl
theorem exec_stretchEnd (d : Fin 176) (s : State) : exec (.stretchEnd d) s = execStretchEnd d s := rfl
theorem exec_lbtArm (m : Master) (l : Fin 40) (s : State) : exec (.lbtArm m l) s = execLbtArm m l s := rfl
theorem exec_lbtCapture (l : Fin 40) (ago : BitVec 24) (word : BitVec 32) (s : State) :
    exec (.lbtCapture l ago word) s = execLbtCapture l ago word s := rfl
theorem exec_lfxoEdgeDormant (s : State) : exec (.lfxoEdgeDormant) s = execLfxoEdgeDormant s := rfl
theorem exec_timerClaim (m : Master) (t : Fin 16) (assign : BitVec 3) (s : State) :
    exec (.timerClaim m t assign) s = execTimerClaim m t assign s := rfl
theorem exec_timerRelease (m : Master) (t : Fin 16) (s : State) :
    exec (.timerRelease m t) s = execTimerRelease m t s := rfl
theorem exec_timerEnable (m : Master) (t : Fin 16) (w : Word) (s : State) :
    exec (.timerEnable m t w) s = execTimerEnable m t w s := rfl
theorem exec_timerRun (m : Master) (t : Fin 16) (on : Bool) (s : State) :
    exec (.timerRun m t on) s = execTimerRun m t on s := rfl
theorem exec_btGo (m : Master) (start stop : BitVec 16) (s : State) :
    exec (.btGo m start stop) s = execBtGo m start stop s := rfl
theorem exec_countLoad (m : Master) (t : Fin 16) (w : Word) (s : State) :
    exec (.countLoad m t w) s = execCountLoad m t w s := rfl
theorem exec_snapshot (m : Master) (mask : BitVec 16) (s : State) :
    exec (.snapshot m mask) s = execSnapshot m mask s := rfl
theorem exec_timerOverflow (t : Fin 16) (s : State) : exec (.timerOverflow t) s = execTimerOverflow t s := rfl
theorem exec_compareMatch (t : Fin 16) (k : Fin 4) (s : State) :
    exec (.compareMatch t k) s = execCompareMatch t k s := rfl
theorem exec_triggerEdge (t : Fin 16) (s : State) : exec (.triggerEdge t) s = execTriggerEdge t s := rfl
theorem exec_capture (t : Fin 16) (j : Fin 2) (s : State) : exec (.capture t j) s = execCapture t j s := rfl
theorem exec_capLoRead (m : Master) (t : Fin 16) (j : Fin 2) (s : State) :
    exec (.capLoRead m t j) s = execCapLoRead m t j s := rfl
theorem exec_contextEnable (m : Master) (c : Fin 64) (w : Word) (s : State) :
    exec (.contextEnable m c w) s = execContextEnable m c w s := rfl
theorem exec_jobFetch (c : Fin 64) (s : State) : exec (.jobFetch c) s = execJobFetch c s := rfl
theorem exec_sliceEnd (s : State) : exec (.sliceEnd) s = execSliceEnd s := rfl
theorem exec_preemptionPoint (s : State) : exec (.preemptionPoint) s = execPreemptionPoint s := rfl
theorem exec_contextInputReady (c : Fin 64) (s : State) :
    exec (.contextInputReady c) s = execContextInputReady c s := rfl
theorem exec_contextOutputReady (c : Fin 64) (s : State) :
    exec (.contextOutputReady c) s = execContextOutputReady c s := rfl
theorem exec_jobEnd (s : State) : exec (.jobEnd) s = execJobEnd s := rfl
theorem exec_jobAbort (m : Master) (c : Fin 64) (s : State) : exec (.jobAbort m c) s = execJobAbort m c s := rfl
theorem exec_contextResume (m : Master) (c : Fin 64) (s : State) :
    exec (.contextResume m c) s = execContextResume m c s := rfl
theorem exec_wsIndirectRead (m : Master) (s : State) : exec (.wsIndirectRead m) s = execWsIndirectRead m s := rfl
theorem exec_wsIndirectWrite (m : Master) (w : Word) (s : State) :
    exec (.wsIndirectWrite m w) s = execWsIndirectWrite m w s := rfl
theorem exec_bankEnable (m : Master) (b : Fin 12) (w : Word) (s : State) :
    exec (.bankEnable m b w) s = execBankEnable m b w s := rfl
theorem exec_vioLost (b : Fin 12) (vdet : BitVec 3) (s : State) :
    exec (.vioLost b vdet) s = execVioLost b vdet s := rfl
theorem exec_pinEnable (m : Master) (p : Fin 576) (w : Word) (s : State) :
    exec (.pinEnable m p w) s = execPinEnable m p w s := rfl
theorem exec_renew (m : Master) (p : Fin 585) (s : State) : exec (.renew m p) s = execRenew m p s := rfl
theorem exec_serGroupEnable (m : Master) (g : Fin 12) (w : Word) (s : State) :
    exec (.serGroupEnable m g w) s = execSerGroupEnable m g w s := rfl
theorem exec_bitslip (m : Master) (g : Fin 12) (s : State) : exec (.bitslip m g) s = execBitslip m g s := rfl
theorem exec_qpllGo (m : Master) (q : Fin 10) (w : Word) (s : State) :
    exec (.qpllGo m q w) s = execQpllGo m q w s := rfl
theorem exec_qpllLocked (q : Fin 10) (s : State) : exec (.qpllLocked q) s = execQpllLocked q s := rfl
theorem exec_slQpllLockTimeout (q : Fin 10) (s : State) :
    exec (.slQpllLockTimeout q) s = execSlQpllLockTimeout q s := rfl
theorem exec_slQpllLost (q : Fin 10) (s : State) : exec (.slQpllLost q) s = execSlQpllLost q s := rfl
theorem exec_laneEnable (m : Master) (l : Fin 40) (w : Word) (s : State) :
    exec (.laneEnable m l w) s = execLaneEnable m l w s := rfl
theorem exec_cdrLockChange (l : Fin 40) (locked sigdet : Bool) (s : State) :
    exec (.cdrLockChange l locked sigdet) s = execCdrLockChange l locked sigdet s := rfl
theorem exec_alignChange (l : Fin 40) (aligned : Bool) (s : State) :
    exec (.alignChange l aligned) s = execAlignChange l aligned s := rfl
theorem exec_laneRst (m : Master) (l : Fin 40) (s : State) : exec (.laneRst m l) s = execLaneRst m l s := rfl
theorem exec_laneMark (m : Master) (l : Fin 40) (s : State) : exec (.laneMark m l) s = execLaneMark m l s := rfl
theorem exec_laneTestWrite (m : Master) (l : Fin 40) (w : Word) (s : State) :
    exec (.laneTestWrite m l w) s = execLaneTestWrite m l w s := rfl
theorem exec_inj (m : Master) (l : Fin 40) (s : State) : exec (.inj m l) s = execInj m l s := rfl
theorem exec_eyeScanGo (m : Master) (l : Fin 40) (w : Word) (s : State) :
    exec (.eyeScanGo m l w) s = execEyeScanGo m l w s := rfl
theorem exec_eyeScanDone (l : Fin 40) (count : BitVec 32) (s : State) :
    exec (.eyeScanDone l count) s = execEyeScanDone l count s := rfl
theorem exec_configRequest (write : Bool) (d : BitVec 10) (be : BitVec 4) (w : Word) (tag : BitVec 10) (s : State) :
    exec (.configRequest write d be w tag) s = execConfigRequest write d be w tag s := rfl
theorem exec_bar0Request (r : Bar0Words) (addr : BitVec 26) (first last : BitVec 4) (s : State) :
    exec (.bar0Request r addr first last) s = execBar0Request r addr first last s := rfl
theorem exec_bar2Write (k : Fin 16) (off : BitVec 32) (fbe lbe : BitVec 8) (word : BitVec 64) (more : List (BitVec 64)) (s : State) :
    exec (.bar2Write k off fbe lbe word more) s = execBar2Write k off fbe lbe word more s := rfl
theorem exec_bar2Read (k : Fin 16) (off : BitVec 32) (fbe lbe : BitVec 8) (more : Fin 513) (tag : BitVec 10) (s : State) :
    exec (.bar2Read k off fbe lbe more tag) s = execBar2Read k off fbe lbe more tag s := rfl
theorem exec_tailDoorbell (c : Fin 64) (v : Word) (s : State) :
    exec (.tailDoorbell c v) s = execTailDoorbell c v s := rfl
theorem exec_pushDoorbell (c : Fin 32) (full : Bool) (v : BitVec 64) (s : State) :
    exec (.pushDoorbell c full v) s = execPushDoorbell c full v s := rfl
theorem exec_readGuardExpiry (t : GuardTarget) (s : State) :
    exec (.readGuardExpiry t) s = execReadGuardExpiry t s := rfl
theorem exec_writeGuardExpiry (k : Fin 16) (s : State) :
    exec (.writeGuardExpiry k) s = execWriteGuardExpiry k s := rfl
theorem exec_channelEnable (m : Master) (c : Fin 64) (w : Word) (s : State) :
    exec (.channelEnable m c w) s = execChannelEnable m c w s := rfl
theorem exec_dmaTurn (s : State) : exec (.dmaTurn) s = execDmaTurn s := rfl
theorem exec_dmaCompletion (c : Fin 64) (good : Bool) (data : List (BitVec 8)) (s : State) :
    exec (.dmaCompletion c good data) s = execDmaCompletion c good data s := rfl
theorem exec_descriptorComplete (c : Fin 64) (s : State) :
    exec (.descriptorComplete c) s = execDescriptorComplete c s := rfl
theorem exec_pxCplTimeout (c : Fin 64) (s : State) : exec (.pxCplTimeout c) s = execPxCplTimeout c s := rfl
theorem exec_flushTimeout (c : Fin 64) (s : State) : exec (.flushTimeout c) s = execFlushTimeout c s := rfl
theorem exec_dstateChange (d3 : Bool) (s : State) : exec (.dstateChange d3) s = execDstateChange d3 s := rfl
theorem exec_aspmL1Change (enter : Bool) (s : State) : exec (.aspmL1Change enter) s = execAspmL1Change enter s := rfl
theorem exec_linkUp (speed : Fin 4) (width : BitVec 4) (s : State) :
    exec (.linkUp speed width) s = execLinkUp speed width s := rfl
theorem exec_linkDown (s : State) : exec (.linkDown) s = execLinkDown s := rfl
theorem exec_hostViolationTlp (v : HostViolation) (s : State) :
    exec (.hostViolationTlp v) s = execHostViolationTlp v s := rfl
theorem exec_hxPortEnable (m : Master) (n : Fin 8) (w : Word) (s : State) :
    exec (.hxPortEnable m n w) s = execHxPortEnable m n w s := rfl
theorem exec_blockLock (n : Fin 8) (s : State) : exec (.blockLock n) s = execBlockLock n s := rfl
theorem exec_blockLockLost (n : Fin 8) (s : State) : exec (.blockLockLost n) s = execBlockLockLost n s := rfl
theorem exec_hxAlign (n : Fin 8) (r : AlignResult) (s : State) : exec (.hxAlign n r) s = execHxAlign n r s := rfl
theorem exec_hxInit (n : Fin 8) (w : BitVec 64) (s : State) : exec (.hxInit n w) s = execHxInit n w s := rfl
theorem exec_wakeTExpiry (n : Fin 8) (s : State) : exec (.wakeTExpiry n) s = execWakeTExpiry n s := rfl
theorem exec_retrain (m : Master) (n : Fin 8) (s : State) : exec (.retrain m n) s = execRetrain m n s := rfl
theorem exec_echo (m : Master) (n : Fin 8) (s : State) : exec (.echo m n) s = execEcho m n s := rfl
theorem exec_packetReceive (n : Fin 8) (x : LineItem) (s : State) :
    exec (.packetReceive n x) s = execPacketReceive n x s := rfl
theorem exec_packetSend (n : Fin 8) (timeSpent : Bool) (aged : BitVec 7) (s : State) :
    exec (.packetSend n timeSpent aged) s = execPacketSend n timeSpent aged s := rfl
theorem exec_ack (n : Fin 8) (seq : BitVec 12) (nak : Bool) (s : State) :
    exec (.ack n seq nak) s = execAck n seq nak s := rfl
theorem exec_ackTimer (n : Fin 8) (s : State) : exec (.ackTimer n) s = execAckTimer n s := rfl
theorem exec_replayTimeout (n : Fin 8) (s : State) : exec (.replayTimeout n) s = execReplayTimeout n s := rfl
theorem exec_credit (n : Fin 8) (k : BitVec 4) (words : BitVec 16) (s : State) :
    exec (.credit n k words) s = execCredit n k words s := rfl
theorem exec_sleep (n : Fin 8) (s : State) : exec (.sleep n) s = execSleep n s := rfl
theorem exec_advertTimer (s : State) : exec (.advertTimer) s = execAdvertTimer s := rfl
theorem exec_advert (n : Fin 9) (s : State) : exec (.advert n) s = execAdvert n s := rfl
theorem exec_electTExpiry (s : State) : exec (.electTExpiry) s = execElectTExpiry s := rfl
theorem exec_joinTimer (s : State) : exec (.joinTimer) s = execJoinTimer s := rfl
theorem exec_join (n : Fin 9) (s : State) : exec (.join n) s = execJoin n s := rfl
theorem exec_assign (n : Fin 9) (s : State) : exec (.assign n) s = execAssign n s := rfl
theorem exec_routeTimer (s : State) : exec (.routeTimer) s = execRouteTimer s := rfl
theorem exec_route (n : Fin 9) (s : State) : exec (.route n) s = execRoute n s := rfl
theorem exec_outboundToken (j : Fin 32) (e : Fin 4096) (block : Bool) (data : BitVec 64) (s : State) :
    exec (.outboundToken j e block data) s = execOutboundToken j e block data s := rfl
theorem exec_inboundTokenAck (j : Fin 32) (s : State) : exec (.inboundTokenAck j) s = execInboundTokenAck j s := rfl
theorem exec_tokens (n : Fin 9) (s : State) : exec (.tokens n) s = execTokens n s := rfl
theorem exec_channelCredit (n : Fin 9) (s : State) : exec (.channelCredit n) s = execChannelCredit n s := rfl
theorem exec_channelOpen (n : Fin 9) (s : State) : exec (.channelOpen n) s = execChannelOpen n s := rfl
theorem exec_openTimer (e : Fin 4096) (s : State) : exec (.openTimer e) s = execOpenTimer e s := rfl
theorem exec_creditReturnTimer (e : Fin 4096) (s : State) :
    exec (.creditReturnTimer e) s = execCreditReturnTimer e s := rfl
theorem exec_probeTimer (e : Fin 4096) (s : State) : exec (.probeTimer e) s = execProbeTimer e s := rfl
theorem exec_probe (n : Fin 9) (s : State) : exec (.probe n) s = execProbe n s := rfl
theorem exec_probeReply (n : Fin 9) (s : State) : exec (.probeReply n) s = execProbeReply n s := rfl
theorem exec_break (n : Fin 9) (s : State) : exec (.break n) s = execBreak n s := rfl
theorem exec_endpointEnable (m : Master) (w : Word) (s : State) :
    exec (.endpointEnable m w) s = execEndpointEnable m w s := rfl
theorem exec_channelPortEnable (m : Master) (j : Fin 32) (w : Word) (s : State) :
    exec (.channelPortEnable m j w) s = execChannelPortEnable m j w s := rfl
theorem exec_csrRequest (n : Fin 9) (s : State) : exec (.csrRequest n) s = execCsrRequest n s := rfl
theorem exec_readResp (n : Fin 9) (s : State) : exec (.readResp n) s = execReadResp n s := rfl
theorem exec_writeAck (n : Fin 9) (s : State) : exec (.writeAck n) s = execWriteAck n s := rfl
theorem exec_csrWriteLost (n : Fin 255) (s : State) : exec (.csrWriteLost n) s = execCsrWriteLost n s := rfl
theorem exec_timeExchangePeriod (n : Fin 8) (s : State) :
    exec (.timeExchangePeriod n) s = execTimeExchangePeriod n s := rfl
theorem exec_sync (n : Fin 9) (s : State) : exec (.sync n) s = execSync n s := rfl
theorem exec_follow (n : Fin 9) (s : State) : exec (.follow n) s = execFollow n s := rfl
theorem exec_dreq (n : Fin 9) (s : State) : exec (.dreq n) s = execDreq n s := rfl
theorem exec_dresp (n : Fin 9) (s : State) : exec (.dresp n) s = execDresp n s := rfl
theorem exec_miEnable (m : Master) (w : Word) (s : State) : exec (.miEnable m w) s = execMiEnable m w s := rfl
theorem exec_heartbeatTimer (s : State) : exec (.heartbeatTimer) s = execHeartbeatTimer s := rfl
theorem exec_heartbeat (s : State) : exec (.heartbeat) s = execHeartbeat s := rfl
theorem exec_pairTExpiry (s : State) : exec (.pairTExpiry) s = execPairTExpiry s := rfl
theorem exec_heartbeatMiss (s : State) : exec (.heartbeatMiss) s = execHeartbeatMiss s := rfl
theorem exec_epochClose (s : State) : exec (.epochClose) s = execEpochClose s := rfl
theorem exec_journal (s : State) : exec (.journal) s = execJournal s := rfl
theorem exec_epochAck (s : State) : exec (.epochAck) s = execEpochAck s := rfl
theorem exec_handover (m : Master) (s : State) : exec (.handover m) s = execHandover m s := rfl
theorem exec_handoverPacket (s : State) : exec (.handoverPacket) s = execHandoverPacket s := rfl
theorem exec_resync (m : Master) (s : State) : exec (.resync m) s = execResync m s := rfl
theorem exec_disband (m : Master) (s : State) : exec (.disband m) s = execDisband m s := rfl
theorem exec_witnessClaim (m : Master) (w : Word) (s : State) :
    exec (.witnessClaim m w) s = execWitnessClaim m w s := rfl
theorem exec_witnessRenew (m : Master) (w : Word) (s : State) :
    exec (.witnessRenew m w) s = execWitnessRenew m w s := rfl
theorem exec_leaseLost (s : State) : exec (.leaseLost) s = execLeaseLost s := rfl
theorem exec_instruction (cycles : BitVec 32) (fetch data : CheckSeen) (s : State) :
    exec (.instruction cycles fetch data) s = execInstruction cycles fetch data s := rfl
theorem exec_machineTimer (s : State) : exec (.machineTimer) s = execMachineTimer s := rfl
theorem exec_coreRun (m : Master) (w : Word) (s : State) : exec (.coreRun m w) s = execCoreRun m w s := rfl
theorem exec_lgMemdataAccess (m : Master) (w : Option Word) (s : State) :
    exec (.lgMemdataAccess m w) s = execLgMemdataAccess m w s := rfl
theorem exec_arrayWindowGuard (sb : Bool) (s : State) :
    exec (.arrayWindowGuard sb) s = execArrayWindowGuard sb s := rfl
theorem exec_icclaimRead (m : Master) (s : State) : exec (.icclaimRead m) s = execIcclaimRead m s := rfl
theorem exec_icclaimWrite (m : Master) (w : Word) (s : State) :
    exec (.icclaimWrite m w) s = execIcclaimWrite m w s := rfl
theorem exec_peripheralEnable (m : Master) (p : Periph) (w : Word) (s : State) :
    exec (.peripheralEnable m p w) s = execPeripheralEnable m p w s := rfl
theorem exec_uartTxPush (m : Master) (k : Fin 2) (w : Word) (s : State) :
    exec (.uartTxPush m k w) s = execUartTxPush m k w s := rfl
theorem exec_uartRxPop (m : Master) (k : Fin 2) (s : State) : exec (.uartRxPop m k) s = execUartRxPop m k s := rfl
theorem exec_uartFrameReceived (k : Fin 2) (b : BitVec 8) (perr ferr brk : Bool) (s : State) :
    exec (.uartFrameReceived k b perr ferr brk) s = execUartFrameReceived k b perr ferr brk s := rfl
theorem exec_uartFrameSent (k : Fin 2) (s : State) : exec (.uartFrameSent k) s = execUartFrameSent k s := rfl
theorem exec_spiCommand (m : Master) (k : Fin 2) (w : Word) (s : State) :
    exec (.spiCommand m k w) s = execSpiCommand m k w s := rfl
theorem exec_spiByteDone (k : Fin 2) (miso : BitVec 8) (s : State) :
    exec (.spiByteDone k miso) s = execSpiByteDone k miso s := rfl
theorem exec_spiDataAccess (m : Master) (k : Fin 2) (w : Option Word) (s : State) :
    exec (.spiDataAccess m k w) s = execSpiDataAccess m k w s := rfl
theorem exec_i2cCommand (m : Master) (k : Fin 2) (w : Word) (s : State) :
    exec (.i2cCommand m k w) s = execI2cCommand m k w s := rfl
theorem exec_i2cCommandDone (k : Fin 2) (e : I2cEnd) (s : State) :
    exec (.i2cCommandDone k e) s = execI2cCommandDone k e s := rfl
theorem exec_i2cTimeout (k : Fin 2) (s : State) : exec (.i2cTimeout k) s = execI2cTimeout k s := rfl
theorem exec_i2cAlert (k : Fin 2) (low : Bool) (s : State) : exec (.i2cAlert k low) s = execI2cAlert k low s := rfl
theorem exec_i2cDataAccess (m : Master) (k : Fin 2) (w : Option Word) (s : State) :
    exec (.i2cDataAccess m k w) s = execI2cDataAccess m k w s := rfl
theorem exec_gpioEdge (g : Fin 32) (rising : Bool) (s : State) :
    exec (.gpioEdge g rising) s = execGpioEdge g rising s := rfl
theorem exec_gpioSetClear (m : Master) (clear : Bool) (w : Word) (s : State) :
    exec (.gpioSetClear m clear w) s = execGpioSetClear m clear w s := rfl
theorem exec_watchdogEnable (m : Master) (w : Word) (s : State) :
    exec (.watchdogEnable m w) s = execWatchdogEnable m w s := rfl
theorem exec_watchdogKick (m : Master) (w : Word) (s : State) :
    exec (.watchdogKick m w) s = execWatchdogKick m w s := rfl
theorem exec_watchdogExpiry (s : State) : exec (.watchdogExpiry) s = execWatchdogExpiry s := rfl
theorem exec_h2lRing (m : Master) (s : State) : exec (.h2lRing m) s = execH2lRing m s := rfl
theorem exec_l2hRing (m : Master) (s : State) : exec (.l2hRing m) s = execL2hRing m s := rfl
theorem exec_mailboxClear (m : Master) (w : Word) (s : State) :
    exec (.mailboxClear m w) s = execMailboxClear m w s := rfl
theorem exec_tapInstruction (c : BitVec 5) (s : State) : exec (.tapInstruction c) s = execTapInstruction c s := rfl
theorem exec_tapReset (s : State) : exec (.tapReset) s = execTapReset s := rfl
theorem exec_dmiAccess (a : BitVec 7) (w : Option Word) (s : State) :
    exec (.dmiAccess a w) s = execDmiAccess a w s := rfl
theorem exec_systemBusAccess (s : State) : exec (.systemBusAccess) s = execSystemBusAccess s := rfl
theorem exec_dmcustom0Write (w : Word) (s : State) : exec (.dmcustom0Write w) s = execDmcustom0Write w s := rfl
theorem exec_xtInEdge (s : State) : exec (.xtInEdge) s = execXtInEdge s := rfl
theorem exec_halt (s : State) : exec (.halt) s = execHalt s := rfl
theorem exec_resume (s : State) : exec (.resume) s = execResume s := rfl
theorem exec_ghdbg (write : Bool) (off : BitVec 10) (data : Word) (s : State) :
    exec (.ghdbg write off data) s = execGhdbg write off data s := rfl
theorem exec_cmdClaim (m : Master) (s : State) : exec (.cmdClaim m) s = execCmdClaim m s := rfl
theorem exec_cmdRelease (m : Master) (s : State) : exec (.cmdRelease m) s = execCmdRelease m s := rfl
theorem exec_cmdInterfaceTimeout (s : State) : exec (.cmdInterfaceTimeout) s = execCmdInterfaceTimeout s := rfl
theorem exec_keyWrite (m : Master) (s : State) : exec (.keyWrite m) s = execKeyWrite m s := rfl
theorem exec_keyErase (m : Master) (s : State) : exec (.keyErase m) s = execKeyErase m s := rfl
theorem exec_keyWrap (m : Master) (s : State) : exec (.keyWrap m) s = execKeyWrap m s := rfl
theorem exec_zeroize (m : Master) (s : State) : exec (.zeroize m) s = execZeroize m s := rfl
theorem exec_loadStart (m : Master) (s : State) : exec (.loadStart m) s = execLoadStart m s := rfl
theorem exec_rewrite (m : Master) (s : State) : exec (.rewrite m) s = execRewrite m s := rfl
theorem exec_serve (m : Master) (s : State) : exec (.serve m) s = execServe m s := rfl
theorem exec_updateBegin (m : Master) (pkg : List (BitVec 8)) (s : State) :
    exec (.updateBegin m pkg) s = execUpdateBegin m pkg s := rfl
theorem exec_updateCommit (m : Master) (s : State) : exec (.updateCommit m) s = execUpdateCommit m s := rfl
theorem exec_updateAbort (m : Master) (s : State) : exec (.updateAbort m) s = execUpdateAbort m s := rfl
theorem exec_testStart (m : Master) (freq : BitVec 20) (vcore : BitVec 12) (s : State) :
    exec (.testStart m freq vcore) s = execTestStart m freq vcore s := rfl
theorem exec_debugUnlock (m : Master) (s : State) : exec (.debugUnlock m) s = execDebugUnlock m s := rfl
theorem exec_debugUnlockResponse (m : Master) (s : State) :
    exec (.debugUnlockResponse m) s = execDebugUnlockResponse m s := rfl
theorem exec_debugLock (m : Master) (s : State) : exec (.debugLock m) s = execDebugLock m s := rfl
theorem exec_deviceReset (m : Master) (s : State) : exec (.deviceReset m) s = execDeviceReset m s := rfl
theorem exec_pkProgram (m : Master) (s : State) : exec (.pkProgram m) s = execPkProgram m s := rfl
theorem exec_pkRevoke (m : Master) (s : State) : exec (.pkRevoke m) s = execPkRevoke m s := rfl
theorem exec_seal (m : Master) (s : State) : exec (.seal m) s = execSeal m s := rfl
theorem exec_challengeLapse (s : State) : exec (.challengeLapse) s = execChallengeLapse s := rfl
theorem exec_unlockKeyWrite (m : Master) (w : Word) (s : State) :
    exec (.unlockKeyWrite m w) s = execUnlockKeyWrite m w s := rfl
theorem exec_unlockExpiry (s : State) : exec (.unlockExpiry) s = execUnlockExpiry s := rfl
theorem exec_tamperInput (n : Fin 2) (low : Bool) (s : State) :
    exec (.tamperInput n low) s = execTamperInput n low s := rfl
theorem exec_meshMismatch (s : State) : exec (.meshMismatch) s = execMeshMismatch s := rfl
theorem exec_sensorTamper (c : Fin 4) (s : State) : exec (.sensorTamper c) s = execSensorTamper c s := rfl
theorem exec_runEn (m : Master) (s : State) : exec (.runEn m) s = execRunEn m s := rfl
theorem exec_stagedReleaseStep (s : State) : exec (.stagedReleaseStep) s = execStagedReleaseStep s := rfl
theorem exec_flashDiscovery (x : SfdpResult) (s : State) : exec (.flashDiscovery x) s = execFlashDiscovery x s := rfl
theorem exec_containerHeader (hdr auth : List (BitVec 8)) (s : State) :
    exec (.containerHeader hdr auth) s = execContainerHeader hdr auth s := rfl
theorem exec_frame (ws : List Word) (s : State) : exec (.frame ws) s = execFrame ws s := rfl
theorem exec_preload (ws : List Word) (s : State) : exec (.preload ws) s = execPreload ws s := rfl
theorem exec_regw (ws : List Word) (s : State) : exec (.regw ws) s = execRegw ws s := rfl
theorem exec_regfill (ws : List Word) (s : State) : exec (.regfill ws) s = execRegfill ws s := rfl
theorem exec_containerCheck (ws : List Word) (s : State) :
    exec (.containerCheck ws) s = execContainerCheck ws s := rfl
theorem exec_containerNop (ws : List Word) (s : State) : exec (.containerNop ws) s = execContainerNop ws s := rfl
theorem exec_poll (ws : List Word) (s : State) : exec (.poll ws) s = execPoll ws s := rfl
theorem exec_pollRead (s : State) : exec (.pollRead) s = execPollRead s := rfl
theorem exec_containerEnd (ws : List Word) (s : State) : exec (.containerEnd ws) s = execContainerEnd ws s := rfl
theorem exec_containerSourceFail (s : State) : exec (.containerSourceFail) s = execContainerSourceFail s := rfl
theorem exec_cfgReq (n : Fin 8) (data : List (BitVec 8)) (s : State) :
    exec (.cfgReq n data) s = execCfgReq n data s := rfl
theorem exec_cfgData (s : State) : exec (.cfgData) s = execCfgData s := rfl
theorem exec_cfgEnd (s : State) : exec (.cfgEnd) s = execCfgEnd s := rfl
theorem exec_cfgNone (s : State) : exec (.cfgNone) s = execCfgNone s := rfl
theorem exec_cfgReqTimer (s : State) : exec (.cfgReqTimer) s = execCfgReqTimer s := rfl
theorem exec_announce (n : Fin 8) (s : State) : exec (.announce n) s = execAnnounce n s := rfl
theorem exec_prologue (n : Fin 8) (s : State) : exec (.prologue n) s = execPrologue n s := rfl
theorem exec_block (n : Fin 8) (s : State) : exec (.block n) s = execBlock n s := rfl
theorem exec_need (n : Fin 8) (s : State) : exec (.need n) s = execNeed n s := rfl
theorem exec_areaStaged (ok : Bool) (s : State) : exec (.areaStaged ok) s = execAreaStaged ok s := rfl
theorem exec_upStatus (n : Fin 9) (s : State) : exec (.upStatus n) s = execUpStatus n s := rfl
theorem exec_statusTimer (s : State) : exec (.statusTimer) s = execStatusTimer s := rfl
theorem exec_prepare (n : Fin 9) (s : State) : exec (.prepare n) s = execPrepare n s := rfl
theorem exec_vote (n : Fin 9) (ok : Bool) (s : State) : exec (.vote n ok) s = execVote n ok s := rfl
theorem exec_voteTExpiry (s : State) : exec (.voteTExpiry) s = execVoteTExpiry s := rfl
theorem exec_upCommit (n : Fin 9) (ok : Bool) (s : State) : exec (.upCommit n ok) s = execUpCommit n ok s := rfl
theorem exec_abortPacket (n : Fin 9) (s : State) : exec (.abortPacket n) s = execAbortPacket n s := rfl
theorem exec_actTime (s : State) : exec (.actTime) s = execActTime s := rfl
theorem exec_activate (n : Fin 9) (s : State) : exec (.activate n) s = execActivate n s := rfl
theorem exec_confirm (n : Fin 9) (s : State) : exec (.confirm n) s = execConfirm n s := rfl
theorem exec_confirmTExpiry (s : State) : exec (.confirmTExpiry) s = execConfirmTExpiry s := rfl
theorem exec_revert (n : Fin 9) (s : State) : exec (.revert n) s = execRevert n s := rfl
theorem exec_trialExpiry (s : State) : exec (.trialExpiry) s = execTrialExpiry s := rfl
theorem exec_query (n : Fin 9) (s : State) : exec (.query n) s = execQuery n s := rfl
theorem exec_queryTimer (s : State) : exec (.queryTimer) s = execQueryTimer s := rfl
theorem exec_answer (n : Fin 9) (s : State) : exec (.answer n) s = execAnswer n s := rfl
theorem exec_stageHandover (m : Master) (w : Word) (s : State) :
    exec (.stageHandover m w) s = execStageHandover m w s := rfl
theorem exec_setdataAccess (m : Master) (w : Option Word) (s : State) :
    exec (.setdataAccess m w) s = execSetdataAccess m w s := rfl
theorem exec_save (m : Master) (s : State) : exec (.save m) s = execSave m s := rfl
theorem exec_tempSample (ts : List (BitVec 12)) (s : State) : exec (.tempSample ts) s = execTempSample ts s := rfl
theorem exec_railSample (mv : List (BitVec 12)) (settled : Bool) (s : State) :
    exec (.railSample mv settled) s = execRailSample mv settled s := rfl
theorem exec_configScrubRead (flips : BitVec 39) (s : State) :
    exec (.configScrubRead flips) s = execConfigScrubRead flips s := rfl
theorem exec_repairComplete (s : State) : exec (.repairComplete) s = execRepairComplete s := rfl
theorem exec_scan (m : Master) (s : State) : exec (.scan m) s = execScan m s := rfl
theorem exec_handback (m : Master) (p : Fin 64) (s : State) : exec (.handback m p) s = execHandback m p s := rfl
theorem exec_scrubStarved (s : State) : exec (.scrubStarved) s = execScrubStarved s := rfl
theorem exec_dlCalibrationStart (s : State) : exec (.dlCalibrationStart) s = execDlCalibrationStart s := rfl
theorem exec_dlSwap (last : Bool) (s : State) : exec (.dlSwap last) s = execDlSwap last s := rfl
theorem exec_dlForcedSwap (p : Fin 64) (last : Bool) (s : State) :
    exec (.dlForcedSwap p last) s = execDlForcedSwap p last s := rfl
theorem exec_ident (r : SmbRead) (s : State) : exec (.ident r) s = execIdent r s := rfl
theorem exec_smbStatus (r : SmbRead) (s : State) : exec (.smbStatus r) s = execSmbStatus r s := rfl
theorem exec_smbAddr (r : SmbRead) (s : State) : exec (.smbAddr r) s = execSmbAddr r s := rfl
theorem exec_tempMax (r : SmbRead) (s : State) : exec (.tempMax r) s = execTempMax r s := rfl
theorem exec_tempSel (x : SmbAccess 8) (s : State) : exec (.tempSel x) s = execTempSel x s := rfl
theorem exec_smbTemp (r : SmbRead) (s : State) : exec (.smbTemp r) s = execSmbTemp r s := rfl
theorem exec_railSel (x : SmbAccess 8) (s : State) : exec (.railSel x) s = execRailSel x s := rfl
theorem exec_smbRail (r : SmbRead) (s : State) : exec (.smbRail r) s = execSmbRail r s := rfl
theorem exec_vcoreCmd (r : SmbRead) (s : State) : exec (.vcoreCmd r) s = execVcoreCmd r s := rfl
theorem exec_icore (r : SmbRead) (s : State) : exec (.icore r) s = execIcore r s := rfl
theorem exec_paceMin (r : SmbRead) (s : State) : exec (.paceMin r) s = execPaceMin r s := rfl
theorem exec_paceReq (r : SmbRead) (s : State) : exec (.paceReq r) s = execPaceReq r s := rfl
theorem exec_errsum (r : SmbRead) (s : State) : exec (.errsum r) s = execErrsum r s := rfl
theorem exec_logStat (r : SmbRead) (s : State) : exec (.logStat r) s = execLogStat r s := rfl
theorem exec_logNext (r : SmbRead) (corrupt : Bool) (s : State) :
    exec (.logNext r corrupt) s = execLogNext r corrupt s := rfl
theorem exec_logPeek (r : SmbRead) (corrupt : Bool) (s : State) :
    exec (.logPeek r corrupt) s = execLogPeek r corrupt s := rfl
theorem exec_alertStat (r : SmbRead) (s : State) : exec (.alertStat r) s = execAlertStat r s := rfl
theorem exec_alertClr (w : BitVec 16) (pec : Option (BitVec 8)) (s : State) :
    exec (.alertClr w pec) s = execAlertClr w pec s := rfl
theorem exec_alertMask (x : SmbAccess 16) (s : State) : exec (.alertMask x) s = execAlertMask x s := rfl
theorem exec_alertResponseAddress (won : Bool) (s : State) :
    exec (.alertResponseAddress won) s = execAlertResponseAddress won s := rfl
theorem exec_smbSclTimeout (s : State) : exec (.smbSclTimeout) s = execSmbSclTimeout s := rfl
theorem exec_enter (m : Master) (s : State) : exec (.enter m) s = execEnter m s := rfl
theorem exec_dormantEntryStart (s : State) : exec (.dormantEntryStart) s = execDormantEntryStart s := rfl
theorem exec_dormantEntryStop (s : State) : exec (.dormantEntryStop) s = execDormantEntryStop s := rfl
theorem exec_waitTExpiry (s : State) : exec (.waitTExpiry) s = execWaitTExpiry s := rfl
theorem exec_wakeEvent (w : WakeSource) (s : State) : exec (.wakeEvent w) s = execWakeEvent w s := rfl
theorem exec_wakeComplete (avs : Bool) (late : BitVec 16) (ms : BitVec 32) (ns : BitVec 18) (s : State) :
    exec (.wakeComplete avs late ms ns) s = execWakeComplete avs late ms ns s := rfl
theorem exec_testComplete (fails : BitVec 12) (obj : BitVec 16) (addr : BitVec 32) (s : State) :
    exec (.testComplete fails obj addr) s = execTestComplete fails obj addr s := rfl
theorem exec_tsCondLost (c : Fin 3) (s : State) : exec (.tsCondLost c) s = execTsCondLost c s := rfl
theorem exec_logWriteTick (s : State) : exec (.logWriteTick) s = execLogWriteTick s := rfl
theorem exec_evRec0Read (m : Master) (corrupt : Bool) (s : State) :
    exec (.evRec0Read m corrupt) s = execEvRec0Read m corrupt s := rfl
theorem exec_evCurWrite (m : Master) (c : Fin 4) (w : Word) (s : State) :
    exec (.evCurWrite m c w) s = execEvCurWrite m c w s := rfl
theorem exec_timerTick (lfxo : Bool) (s : State) : exec (.timerTick lfxo) s = execTimerTick lfxo s := rfl
theorem exec_prbsCheck (l : Fin 40) (line : BitVec 64) (s : State) :
    exec (.prbsCheck l line) s = execPrbsCheck l line s := rfl
theorem exec_vbattOutOfRange (s : State) : exec (.vbattOutOfRange) s = execVbattOutOfRange s := rfl
theorem exec_perstNRelease (s : State) : exec (.perstNRelease) s = execPerstNRelease s := rfl
theorem exec_msixTableAccess (write : Bool) (off : BitVec 20) (len : Fin 513) (w : BitVec 64) (tag : BitVec 10) (s : State) :
    exec (.msixTableAccess write off len w tag) s = execMsixTableAccess write off len w tag s := rfl
theorem exec_vioRestored (b : Fin 12) (vdet : BitVec 3) (s : State) :
    exec (.vioRestored b vdet) s = execVioRestored b vdet s := rfl
theorem exec_uiLineChange (k : Fin 16) (p : Fin 64) (high : Bool) (s : State) :
    exec (.uiLineChange k p high) s = execUiLineChange k p high s := rfl
theorem exec_arrayWindowAnswer (data : Word) (error : Bool) (s : State) :
    exec (.arrayWindowAnswer data error) s = execArrayWindowAnswer data error s := rfl
theorem exec_ghCommandEnd (s : State) : exec (.ghCommandEnd) s = execGhCommandEnd s := rfl
theorem exec_smbReservedCommand (code : BitVec 8) (write : Bool) (s : State) :
    exec (.smbReservedCommand code write) s = execSmbReservedCommand code write s := rfl

end Sys2Proof.Machine
end

