-- ==== Sys2Proof/Laws/Registers.lean ====
section
/-! SUPPORT. What the shared register operations can do: a filtered store keeps what the filter keeps, a written field
and a written register change their own cells alone, and the operations on memories, lists and cells keep the
canonical form. -/

namespace Sys2Proof.Machine

/-- A filter that keeps every entry of a key keeps what the key reads as. -/
theorem Store.get_filter {V : Type} (m : Store V) (p : Nat × V → Bool) (k : Nat) (d : V) (h : ∀ v, p (k, v) = true) :
    Store.get (m.filter p) k d = Store.get m k d := by
  induction m with
  | nil => rfl
  | cons c r ih =>
    obtain ⟨a, v⟩ := c
    by_cases ha : a = k
    · subst ha; simp [h, Store.get]
    · by_cases hp : p (a, v) = true <;> simp [hp, Store.get, ha, ih]

/-! A written field (R21, R22). -/

/-- A written field ends as the same state with at most its own cell written. -/
theorem State.writeField_cases (s : State) (f : Field) (i w : Nat) (unlocked own : Bool) :
    s.writeField f i w unlocked own = s ∨ ∃ v, s.writeField f i w unlocked own = s.put f v i := by
  unfold State.writeField
  dsimp only
  split <;> (try split) <;> first | exact .inl rfl | exact .inr ⟨_, rfl⟩

theorem State.writeField_get (s : State) {f g : Field} {i j : Nat} (w : Nat) (unlocked own : Bool)
    (h : g.key j ≠ f.key i) : (s.writeField f i w unlocked own).get g j = s.get g j := by
  rcases s.writeField_cases f i w unlocked own with h' | ⟨v, h'⟩
  · rw [h']
  · rw [h', State.get_put_ne _ _ h]

theorem State.writeField_stores (s : State) (f : Field) (i w : Nat) (unlocked own : Bool) :
    s.SameStores (s.writeField f i w unlocked own) := by
  rcases s.writeField_cases f i w unlocked own with h | ⟨v, h⟩ <;> rw [h] <;> exact ⟨rfl, rfl, rfl, rfl, rfl, rfl⟩

/-- A legal value written to an RW field is what the field then reads as. -/
theorem State.writeField_rw (s : State) {f : Field} (i w : Nat) (unlocked own : Bool) (hf : f.acc = .rw)
    (h : f.accepts (bits w f.lo f.width) = true) :
    (s.writeField f i w unlocked own).get f i = bits w f.lo f.width := by
  simp only [State.writeField, hf, h, if_true]
  rw [State.get_put_self, bits, Nat.mod_mod]

/-- An RO or WO field keeps its value under a write. -/
theorem State.writeField_kept (s : State) {f : Field} (i w : Nat) (unlocked own : Bool)
    (hf : f.acc = .ro ∨ f.acc = .wo) : s.writeField f i w unlocked own = s := by
  rcases hf with hf | hf <;> simp [State.writeField, hf]

/-! A written register, to a master whose writes its fields take. -/

/-- The fold of a register's fields leaves every cell that is none of them. -/
theorem State.writeFields_get (l : List Field) (s : State) {g : Field} {i j : Nat} (w : Nat) (unlocked own : Bool)
    (h : ∀ f ∈ l, g.key j ≠ f.key i) :
    (l.foldl (fun u f => u.writeField f i w unlocked own) s).get g j = s.get g j := by
  induction l generalizing s with
  | nil => rfl
  | cons f r ih =>
    rw [List.foldl_cons, ih _ fun f' hf => h f' (by simp [hf]), State.writeField_get _ _ _ _ (h f (by simp))]

theorem State.writeFields_stores (l : List Field) (s : State) (i w : Nat) (unlocked own : Bool) :
    s.SameStores (l.foldl (fun u f => u.writeField f i w unlocked own) s) := by
  induction l generalizing s with
  | nil => exact State.SameStores.refl _
  | cons f r ih => exact State.SameStores.trans (State.writeField_stores s f i w unlocked own) (ih _)

/-- With no RWL and no RWO field a written register is the fold of its fields: nothing is refused (R652). -/
theorem State.writeReg_plain (s : State) (m : Master) (r : Reg) (i w : Nat) (own : Bool)
    (h : ∀ f ∈ r.fields, f.acc ≠ .rwl ∧ f.acc ≠ .rwo) :
    s.writeReg m r i w own = r.fields.foldl (fun u f => u.writeField f i w (s.unlocked m) own) s := by
  have h1 : (r.fields.any fun f => decide (f.acc = .rwl)) = false := by
    simpa [List.any_eq_false] using fun f hf => (h f hf).1
  have h2 : (r.fields.any fun f => decide (f.acc = .rwo)) = false := by
    simpa [List.any_eq_false] using fun f hf => (h f hf).2
  simp [State.writeReg, h1, h2]

theorem State.writeReg_get (s : State) (m : Master) (r : Reg) {g : Field} {i j : Nat} (w : Nat) (own : Bool)
    (h : ∀ f ∈ r.fields, f.acc ≠ .rwl ∧ f.acc ≠ .rwo) (hg : ∀ f ∈ r.fields, g.key j ≠ f.key i) :
    (s.writeReg m r i w own).get g j = s.get g j := by
  rw [State.writeReg_plain _ _ _ _ _ _ h, State.writeFields_get _ _ _ _ _ hg]

theorem State.writeReg_stores (s : State) (m : Master) (r : Reg) (i w : Nat) (own : Bool)
    (h : ∀ f ∈ r.fields, f.acc ≠ .rwl ∧ f.acc ≠ .rwo) : s.SameStores (s.writeReg m r i w own) := by
  rw [State.writeReg_plain _ _ _ _ _ _ h]
  exact State.writeFields_stores _ _ _ _ _ _

/-! The canonical form. -/

theorem State.wf_reset : State.reset.wf := ⟨rfl, rfl, rfl⟩

theorem State.wf_put {s : State} (h : s.wf) (f : Field) (v i : Nat) : (s.put f v i).wf :=
  ⟨State.sorted_put h.1 f v i, h.2.1, h.2.2⟩

theorem State.wf_setList {s : State} (h : s.wf) (q : Fifo) (l : List Nat) (i : Nat) : (s.setList q l i).wf :=
  ⟨h.1, State.sorted_setList h.2.1 q l i, h.2.2⟩

theorem State.wf_store {s : State} (h : s.wf) (r : Region) (a v : Nat) : (s.store r a v).wf :=
  ⟨h.1, h.2.1, State.sorted_store h.2.2 r a v⟩

theorem State.wf_wipe {s : State} (h : s.wf) (r : Region) : (s.wipe r).wf :=
  ⟨h.1, h.2.1, State.sorted_wipe h.2.2 r⟩

theorem State.wf_fillZero {s : State} (h : s.wf) (r : Region) (lo hi n : Nat) : (s.fillZero r lo hi n).wf := by
  have hm : ({ s with mem := s.mem.filter fun c => c.1 < r.base + lo || r.base + hi ≤ c.1 } : State).wf :=
    ⟨h.1, h.2.1, Store.sorted_filter _ h.2.2⟩
  unfold State.fillZero
  dsimp only
  split
  · exact hm
  · exact State.wf_put hm _ _ _

end Sys2Proof.Machine
end

