-- ==== Sys2Proof/Tests/Slice0.lean ====
section
/-! SUPPORT. Tests: the well-formedness checks refuse what they should; small results from the spec's text and tables; and
for each statement with hypotheses a state and operands that meet them, clause by clause. -/

open Sys2Proof Sys2Proof.Machine

set_option maxRecDepth 100000

namespace Sys2Proof.Tests

/-- The state after reset with fields written. -/
def st (l : List (Field × Nat × Nat)) : State := l.foldl (fun s x => s.put x.1 x.2.2 x.2.1) State.reset

/-- The state after a command that ends in one. -/
def after (i : Instr) (s : State) : State := match exec i s with | .next t => t | _ => s

theorem test_witness_queue : (⟨State.reset, .paceShort, [.governorPeriod]⟩ : State × Instr × List Instr).2.2 ≠ [] ∧
    State.reset.pending = [] ∧ (({ State.reset with pending := [.paceShort] } : State).pending = [.paceShort]) := by decide

theorem test_witness_WellFormedCommandsComplete : (Instr.paceWindowEnd (List.replicate 64 0)).wf = true ∧
    (Instr.tempSample (List.replicate 16 0)).wf = true ∧ (Instr.railSample (List.replicate 7 0) true).wf = true := by decide

theorem test_witness_HeldInReset : HeldInReset (st [(RESETTING, 0, 1), (DEVRST_LOW, 0, 1)]) ∧
    HeldInReset { st [(RESETTING, 0, 2), (DEVRST_LOW, 0, 1)] with pending := [.devResetN true] } := by
  simp only [HeldInReset]; decide

theorem test_witness_DevResetLow : Instr.devResetN false ∉ State.reset.pending ∧ State.reset.get RESETTING ≠ 2 ∧
    (st [(DEVRST_LOW, 0, 1)]).get DEVRST_LOW = 1 := by decide

theorem test_witness_CommandsInReset : ¬Awake (st [(RESETTING, 0, 1)]) ∧ ¬Awake (st [(RESETTING, 0, 2)]) ∧
    (Instr.paceShort).wf = true := by
  simp only [Awake]; decide

theorem test_witness_ControlBus : Awake State.reset ∧
    (State.reset.get UNL_LEFT (Master.host).code = 0 ∧ State.reset.answers .host 0xB000 = false) ∧
    (State.reset.answers .host 0x0 = true ∧ (st [(GH_ACCESS.HOST, 0, 2)]).denied .host 1 = true) := by
  simp only [Awake]; decide

theorem test_witness_AccessCodes : GH_IE.IE.acc = .rw ∧ GH_IRQ.CMD.acc = .w1c ∧ BV_CSCNT.CE.acc = .w1cAny ∧
    PW_MODE.MODE.acc = .ro ∧ Writes .host 0x18 State.reset ∧ Writes .host 0x32608 (st [(PW_MODE.MODE, 0, 2)]) ∧
    (busWrite .host 0x32608 0xFFFFFFFF (st [(PW_MODE.MODE, 0, 2)])).heldLow .host 0x32608 = some 0xFFFFFFFF := by
  simp only [Writes, Awake]; decide

theorem test_witness_Resets : (¬Awake (st [(RESETTING, 0, 1)]) ∧ (st [(RESETTING, 0, 1)]).get DEVRST_LOW = 0 ∧
      (st [(RESETTING, 0, 1)]).get BATT_ZERO = 0 ∧ (st [(RESETTING, 0, 1)]).get TEST_FAILED = 0) ∧
    (Awake State.reset ∧ State.reset.mode ≠ mDORMANT) ∧
    (Writes .host 0x100C State.reset ∧ State.reset.mode = mLOAD ∧ State.reset.get PW_MODE.BUSY = 0) ∧
    (st [(PW_MODE.MODE, 0, 3)]).mode = mRUN := by
  simp only [Writes, Awake]; decide

def governed : List (Field × Nat × Nat) :=
  [(PW_MODE.MODE, 0, 2), (PW_GOVCTL.GOV_EN, 0, 1), (PW_GOVSTAT.STATE, 0, 1), (PW_METER.VALID, 5, 1), (PW_METER.INDEX, 5, 1),
    (PW_METERMASK_LO.MASK, 0, 32), (PW_METERMASK_HI.MASK, 0, 0), (PW_GOVREQ.PACE_REQ, 0, 100), (PW_GOVSTAT.VNOW, 0, 950), (PW_GOVLIM.VMAX, 0, 950)]

theorem test_witness_PaceShort : Awake (st governed) ∧ (st governed).slowest = some 5 ∧ (st governed).governing = true ∧
    (st governed).minIndex < (st governed).paceTarget ∧
    (st governed).get PW_GOVSTAT.VNOW = (st governed).get PW_GOVLIM.VMAX ∧ (st governed).flag PW_GOVSTAT.SHORT = false ∧
    (let s := (st governed).put PW_GOVREQ.PACE_REQ 0
     s.slowest = some 5 ∧ s.governing = true ∧ s.paceTarget ≤ s.minIndex) := by
  simp only [Awake]; decide

theorem test_witness_Governor : (st [(PW_MODE.MODE, 0, 2)]).get METER_OOR 63 = 0 ∧
    (let s := st (governed ++ [(PW_GOVSTAT.VNOW, 0, 599), (PW_GOVLIM.VMIN, 0, 600)])
     s.governing = true ∧ s.get PW_GOVSTAT.SHORT = 0 ∧ s.get AVS_PHASE = 0 ∧ s.get PW_AVSSTAT.ABSENT = 0 ∧
       s.get PW_GOVSTAT.VNOW < s.get PW_GOVLIM.VMIN) ∧
    ((st [(AVS_PHASE, 0, 2)]).get AVS_PHASE = 2 ∧ (st [(AVS_PHASE, 0, 2)]).get BV_DLSTAT.BUSY = 0) ∧
    ((st [(AVS_PHASE, 0, 1)]).get AVS_PHASE = 1 ∧ (st [(AVS_PHASE, 0, 1)]).get AVS_TARGET < 2 ^ 10) ∧
    (let s := st [(PW_MODE.MODE, 0, 3)]
     s.get AVS_PHASE = 0 ∧ s.get PW_AVSSTAT.ABSENT = 0 ∧ s.get PW_GOVSTAT.STATE = 0) ∧
    (let s := (st governed).put PW_GOVCTL.GOV_EN 0
     Writes .host 0x1100 s ∧ s.get PW_GOVCTL.GOV_EN = 0 ∧ (s.writeReg .host PW_GOVCTL.reg 0 1).govCheck = none) ∧
    (Writes .host 0x1100 (st governed) ∧ (st governed).get PW_GOVSTAT.STATE = 1 ∧ (st governed).get AVS_PHASE = 0) ∧
    (Writes .host 0x1110 State.reset ∧ 600 ≤ 600 % 1024 ∧ 950 % 1024 ≤ 950) ∧ Writes .host 0x1110 (st governed) ∧
    (Writes .host 0x111C (st [(PW_GOVSTAT.STATE, 0, 3)]) ∧ bit 2 1 = true) := by
  simp only [Writes, Awake]; decide

theorem test_witness_Plots : (let s := st [(PW_MODE.MODE, 0, 3)]
     Writes .host (0x41000 + 0x10 * 63) s ∧ s.get FB_PSTAT.STATE 63 = pLIVE ∧ s.get EL_PEND 63 < 255 ∧
       s.get FB_PSTAT.STATE 63 ≠ pFENCING) ∧
    (let s := st [(PW_MODE.MODE, 0, 3), (FB_PSTAT.STATE, 63, 1), (FENCE_FORCE, 63, 1)]
     s.get FB_PSTAT.STATE 63 = pFENCING ∧ s.get FENCE_FORCE 63 = 1) ∧
    (let s := st [(PW_MODE.MODE, 0, 3), (FB_PSTAT.STATE, 0, 1), (FB_PSTAT.HOLDER, 0, 1)]
     s.get FENCE_FORCE 0 = 0 ∧ s.get FB_PSTAT.HOLDER 0 = hUSER) ∧
    (let s := st [(PW_MODE.MODE, 0, 3), (FB_PSTAT.STATE, 0, 2), (FB_PSTAT.HOLDER, 0, 1)]
     Writes .host 0x41000 s ∧ (s.writeReg .host FB_PCTL.reg 0 2).plotCheck 0 2 = none ∧ s.get GATE_HELD 0 < 2 ^ 16 - 1 ∧
       s.get FB_PCTL.SINK 0 = 0 ∧ (s.put FB_PCTL.SINK 1).get FB_PCTL.SINK = 1 ∧ s.get FB_PSTAT.STATE 0 ≠ pLIVE) ∧
    (let s := st [(PW_MODE.MODE, 0, 3), (FB_PCTL.STALL_EN, 0, 1), (EL_PEND, 63, 255)]
     s.get FB_PCTL.STALL_EN 0 = 1 ∧ s.get STALLED 0 = 0 ∧ 0 < s.get EL_PEND 63 ∧ s.get EL_PEND 63 < 256) := by
  simp only [Writes, Awake]; decide

theorem test_witness_Gate : Awake (st [(PW_MODE.MODE, 0, 3)]) ∧ (st [(PW_MODE.MODE, 0, 3)]).mode = mRUN ∧
    (st [(PW_MODE.MODE, 0, 3)]).intake.length < 64 := by
  simp only [Awake]; decide

theorem test_witness_Fcm : Awake State.reset ∧ State.reset.plotRuns 0 = false ∧
    (st [(PW_MODE.MODE, 0, 3)]).plotRuns 0 = true ∧ (st [(PW_MODE.MODE, 0, 3)]).get FB_FCM.BUSY = 0 ∧
    0x10000000 ≤ 0x10000000 ∧ (0x0FFFFFFC < 0x10000000 ∧ 0x0FFFFFFC % 4 = 0) ∧
    (st [(PW_MODE.MODE, 0, 3), (REL_STEP, 0, 1)]).get REL_STEP = 1 := by
  simp only [Awake]; decide

theorem test_witness_MemoryPorts : (let s := st [(PW_MODE.MODE, 0, 3), (FB_MCFG.WIDTH_A, 2047, 3), (FB_MCFG.ECC_EN, 2047, 0)]
     Awake s ∧ s.get FB_MINJ.MODE = 0 ∧ s.journaling = false ∧ s.portUsed 2047 = true ∧ s.get FB_MCFG.CASC 2047 = 0 ∧
       s.get FB_MCFG.WIDTH_A 2047 = 3 ∧ s.get FB_MCFG.ECC_EN 2047 = 0 ∧ s.get REL_STEP ≠ 1 ∧
       0 ≠ 4096 * (s.portTarget 2047 1 0).1 + (s.portTarget 2047 1 0).2.1) := by
  simp only [Awake]; decide

theorem test_witness_Indirect : (let s := st [(PW_MODE.MODE, 0, 2)]
     Writes .host 0x40100 s ∧ s.journaling = false ∧ s.get FB_MEMASTAT.BUSY = 0 ∧ s.plotOpen (2047 / 32) = true) ∧
    (let w := 2047 + 2 ^ 12 * 4095 + 2 ^ 25
     bits w 0 11 = 2047 ∧ bits w 12 12 = 4095 ∧ bit w 24 = false ∧ bit w 25 = true ∧ bit (w + 2 ^ 24) 24 = true) ∧
    (let s := st [(PW_MODE.MODE, 0, 3), (MSCRUB_AT, 2047, 4095), (FB_MCFG.ECC_EN, 2047, 0)]
     s.get FB_MCFG.ECC_EN 2047 = 0 ∧ s.get MSCRUB_AT 2047 = 4095 ∧
       (eccDecode (s.load .queue 0 % 2 ^ 64) (s.load .queue 0 / 2 ^ 64 % 256)).kind = .clean) := by
  simp only [Writes, Awake]; decide

theorem test_witness_Macs : bit 27 2 = false ∧ State.reset.macCasc 3071 27 = false ∧
    (st [(PW_MODE.MODE, 0, 3)]).plotRuns (3071 / 48) = true ∧ State.reset.list MAC_WAIT 3071 = [] ∧
    (st [(REL_STEP, 0, 1)]).get REL_STEP = 1 := by decide

theorem test_witness_QueueOps : (let s := st [(PW_MODE.MODE, 0, 3)]
     Awake s ∧ s.get QP_STATE 63 = 0 ∧ s.get FB_PSTAT.STATE (portPlot 63) ≤ pFENCING ∧ s.list PARKED 255 = []) ∧
    (st [(PW_MODE.MODE, 0, 2)]).mode = mHOLD := by
  simp only [Awake]; decide

/-- One lane of queue 255, of 64 words, with one word in it. -/
def oneWord : List (Field × Nat × Nat) := [(QM_QCFG.EN, 255, 1), (LANE_W, 2040, 1), (PW_MODE.MODE, 0, 3)]

theorem test_witness_PushPop : (let s := st oneWord
     s.get QM_QCFG.EN 255 = 1 ∧ s.journaling = false ∧ s.secondary = false ∧ 0 < s.lanes 255 ∧
       s.flag LANE_OPEN 2040 = false ∧ s.laneFull 2040 = false ∧ s.readable 2040 = true ∧
       (s.anyLane 255).isSome = true) ∧
    (st (oneWord ++ [(QM_QCFG.MANUAL, 255, 1)])).get QM_QCFG.MANUAL 255 = 1 := by decide

theorem test_witness_PushPop_sizes : ∀ x < 2048, (st oneWord).get QM_LCFG.SIZE x ≤ 14 := by decide

theorem test_witness_QueuePorts : (let s := st (oneWord ++ [(QM_PCFG.EN, 63, 1), (QM_PCFG.LANEMASK, 63, 1), (LANE_W, 2040, 64)])
     s.get QM_PCFG.EN 63 = 1 ∧ s.get QM_PCFG.ROLE 63 = 0 ∧ bit (s.get QM_PCFG.LANEMASK 63) 0 = true ∧
       (s.qExec ⟨63, 255, opPUSH, 0, false, false, 7⟩).isSome = true ∧ s.flag LANE_OPEN 2040 = false ∧
       s.laneFull 2040 = true) ∧
    (let s := st [(QM_QCFG.EN, 255, 1), (QM_PCFG.EN, 63, 1), (QM_PCFG.ROLE, 63, 1), (PW_MODE.MODE, 0, 3)]
     s.qExec ⟨63, 255, opPOP, 0, false, true, 0⟩ = none ∧ s.get QM_PCFG.ROLE 63 = 1 ∧ s.readable 2040 = false ∧
       s.get FB_PSTAT.STATE (portPlot 63) = pLIVE ∧ (s.qExec ⟨63, 255, opPEEK, 0, false, false, 0⟩).isSome = true) := by
  decide

theorem test_witness_QueueConfiguration : (let s := st [(PW_MODE.MODE, 0, 2)]
     Writes .host (0x11000 + 4 * 255) s ∧ s.get QM_QCFG.EN 255 = 0 ∧
       ((s.writeReg .host QM_QCFG.reg 255 1).put QM_QCFG.EN 0 255).queueCheck 255 = none ∧
       Writes .host (0x10100 + 0x20 * 7) s ∧ Writes .host 0x10000 s ∧ s.get QM_CTL.JRES = 0 ∧
       Writes .host (0x10108 + 0x20 * 7) s ∧ Reads .host (0x1010C + 0x20 * 7) s ∧ s.peeks .host = false ∧
       (s.enabledLanes.find? fun x => 0xE0000 < (s.laneSpan x).2) = none) ∧
    (let s := st [(PW_MODE.MODE, 0, 2), (QM_LCFG.BASE, 2040, 1), (QM_LCFG.SIZE, 2040, 1)]
     Writes .host (0x11000 + 4 * 255) s ∧
       (((s.writeReg .host QM_QCFG.reg 255 1).put QM_QCFG.EN 0 255).queueCheck 255).isSome = true) ∧
    (let s := st [(PW_MODE.MODE, 0, 2), (QM_QCFG.EN, 255, 1)]
     s.get QM_QCFG.EN 255 = 1 ∧ s.queueBound 255 = false ∧ Writes .host (0x10400 + 4 * 63) s ∧
       (let w := 1 + 2 ^ QM_PCFG.ROLE.lo + 255 * 2 ^ QM_PCFG.QUEUE.lo
        (s.writeReg .host QM_PCFG.reg 63 w).get QM_PCFG.ROLE 63 = 1 ∧
          (s.writeReg .host QM_PCFG.reg 63 w).consumerCheck 63 ((s.writeReg .host QM_PCFG.reg 63 w).get QM_PCFG.QUEUE 63) =
            none)) := by
  simp only [Writes, Reads, Awake]; decide

theorem test_witness_Clocks : (Awake State.reset ∧ State.reset.mode ≠ mDORMANT ∧ refInput 12 = true ∧
      bit ((st [(CK_REFSTAT.PRESENT, 0, 4096)]).get CK_REFSTAT.PRESENT) 12 = true ∧
      bit (State.reset.get CK_REFSTAT.PRESENT) 12 = false) ∧
    (let s := st [(PW_MODE.MODE, 0, 3), (CK_SYNSTAT.STATE, 1, 2)]
     Writes .host 0x4000 s ∧ s.get CK_CTL.CTL_SEL = 0 ∧ s.get CK_SYNSTAT.STATE 1 = ckLOCKED ∧
       State.reset.get CK_SYNSTAT.STATE 1 ≠ ckLOCKED) ∧
    (let s := st [(PW_MODE.MODE, 0, 3), (CK_SYNCFGA.N, 5, 100), (CK_SYNCTL.EN, 4, 1)]
     Writes .host (0x410C + 0x20 * 5) s ∧ (s.synCheck 5 false true true).isSome = true ∧
       Writes .host (0x410C + 0x20 * 4) s ∧ s.get CK_SYNCTL.EN 4 = 1 ∧ s.synCheck 4 true false false = none) ∧
    (let s := st [(CK_SYNSTAT.STATE, 5, 1), (STAGE_POL, 5, 1), (CK_SYNSTAT.BUSY, 5, 1), (CK_SYNSTAT.STATE, 4, 2)]
     s.get CK_SYNSTAT.STATE 5 = ckACQUIRE ∧ s.get STAGE_POL 5 ≠ 0 ∧ s.get CK_SYNSTAT.BUSY 5 = 1 ∧
       s.get CK_SYNSTAT.STATE 4 = ckLOCKED) ∧
    (let s := st [(CK_OSTAT.PHASE, 15, 3), (STAGE_FREQ, 15, 1000000), (STAGE_NEXT, 15, 2000000), (STAGE_RATE, 15, 1)]
     s.get CK_OSTAT.PHASE 15 = phSLEWING ∧ s.slewTo 15 % 2 ^ STAGE_FREQ.width ≠ s.get STAGE_NEXT 15) ∧
    (Writes .host 0x4020 (st [(PW_MODE.MODE, 0, 3)]) ∧ (st [(CK_FMCTL.BUSY, 0, 1)]).get CK_FMCTL.BUSY = 1) := by
  simp only [Writes, Awake]; decide

theorem test_witness_Crossings : (let s := st [(PW_MODE.MODE, 0, 3), (XP_STAT.STATE, 79, 2), (XP_STAT.STATE, 80, 2)]
     s.get XP_STAT.STATE 79 = xpRUN ∧ s.xpRoom 79 = true ∧ xpEventIn 80 = true ∧ s.get XP_STAT.STATE 80 = xpRUN ∧
       s.xpRoom 80 = true ∧ (s.setList XP_Q [0] 80).xpRoom 80 = false) ∧
    (let s := (st [(PW_MODE.MODE, 0, 3), (XP_STAT.STATE, 255, 2), (XP_CFG.DIR, 255, 1)]).setList XP_Q [5] 255
     s.siteLive 255 = true ∧ xpFixed 255 = false ∧ s.list XP_WAIT 255 = [] ∧ s.xpDir 255 = 1 ∧ s.list XP_Q 255 = [5] ∧
       s.xpAttach 255 ≠ 5) ∧
    (let s := st [(PW_MODE.MODE, 0, 3), (XP_STAT.STATE, 96, 2), (XP_CFG.ATTACH, 96, 3), (XP_CFG.AIDX, 96, 11),
       (IO_SERCFG.EN, 11, 1)]
     s.get XP_CFG.ATTACH 96 = 3 ∧ s.get IO_SERCFG.EN (s.get XP_CFG.AIDX 96) = 1 ∧ s.get XP_CFG.DIR 96 = 0 ∧
       s.list XP_Q 96 = [] ∧ (s.setList XP_Q [1, 2] 96).list XP_Q 96 = [1, 2]) ∧
    (let s := (st [(PW_MODE.MODE, 0, 3), (XP_STAT.STATE, 96, 2), (XP_CFG.ATTACH, 96, 7), (XP_STAT.STATE, 97, 2),
       (XP_CFG.ATTACH, 97, 7), (XP_CFG.DIR, 97, 1)]).setList XP_Q [9] 96
     s.pacedPort 0 0 = some 96 ∧ s.pacedPort 0 1 = some 97 ∧ s.xpRoom 97 = true ∧ (s.xpTake 96).isSome = true) ∧
    (let s := st [(PW_MODE.MODE, 0, 3), (XP_STAT.STATE, 255, 2), (XP_CFG.CLK, 255, 7)]
     s.xpClk 255 ≠ 0 ∧ s.xpSuspended 255 = false ∧ Writes .host (0x6008 + 0x10 * 255) s ∧
       s.get XP_STAT.STATE 255 ≠ xpOFF ∧ Writes .host (0x6000 + 0x10 * 254) s ∧ s.get XP_CFG.EN 254 = 0 ∧
       (((s.writeReg .host XP_CFG.reg 254 1).put XP_CFG.EN 0 254).xpCheck .host 254).isSome = true) ∧
    (let s := st [(PW_MODE.MODE, 0, 3), (XP_STAT.STATE, 255, 1)]
     s.get XP_STAT.STATE 255 = xpSYNC ∧ s.xpHeld 255 = false) ∧
    (let s := st [(PW_MODE.MODE, 0, 3)]
     ((s.writeReg .host XP_CFG.reg 254 (1 + 2 ^ XP_CFG.ATTACH.lo * 7)).put XP_CFG.EN 0 254).xpCheck .host 254 = none) := by
  simp only [Writes, Awake]; decide

theorem test_witness_TimeBase : (let s := st [(PW_MODE.MODE, 0, 3)]
     Writes .host 0x8000 s ∧ s.mode ≠ mDORMANT ∧ s.get BS_TBCTL.EN = 0 ∧ bit 256 8 = true ∧ s.unitMode .host = true ∧
       s.badRef 0 = false ∧ s.refPresent 0 = false ∧ (s.put CK_REFSTAT.PRESENT 1).refPresent 0 = true ∧
       Reads .host 0x802C s) ∧
    (let s := st [(PW_MODE.MODE, 0, 3), (BS_TBSTAT.RUNNING, 0, 1)]
     Writes .host 0x8018 s ∧ s.get BS_EPCTL.ARM = 0 ∧ bit 4 2 = true ∧ bits 4 0 2 = 0 ∧ s.get BS_TBSTAT.RUNNING = 1 ∧
       s.get BS_ADJCTL.OWNED = 0 ∧ Writes .host 0x8038 s ∧ s.get BS_ADJCTL.BUSY = 0) ∧
    (let s := st [(PW_MODE.MODE, 0, 3), (BS_TBSTAT.RUNNING, 0, 1), (BS_EPCTL.ARM, 0, 1)]
     s.get BS_EPCTL.ARM = 1 ∧ s.get BS_TBSTAT.RUNNING = 1 ∧ s.get BS_EPCTL.SRC = 0) ∧
    ((st [(BS_ADJCTL.BUSY, 0, 1)]).get BS_ADJCTL.BUSY = 1 ∧ (st [(BS_ADJCTL.BUSY, 0, 1)]).get SLEW_NEG = 0) := by
  simp only [Writes, Reads, Awake]; decide

def tag95 : List (Field × Nat × Nat) := [(PW_MODE.MODE, 0, 3), (BS_TTCFG.EN, 95, 1), (BS_TTCFG.EDGE, 95, 2),
  (BS_TBSTAT.RUNNING, 0, 1), (TCOUNT, 0, 65536 * 1000)]

theorem test_witness_Tags : (let s := st tag95
     Awake s ∧ s.mode ≠ mDORMANT ∧ s.get BS_TTCFG.EN 95 = 1 ∧ s.get BS_TBSTAT.RUNNING = 1 ∧ s.get BS_TTCFG.EDGE 95 = 2 ∧
       s.get BS_TTCFG.GATE_EN 95 = 0 ∧ s.get BS_TTCFG.RTR_EN 95 = 0 ∧ s.get TT_LAST 95 < 2 ^ 80 ∧
       (s.list TT_BUF 95).length < 16 ∧ s.mode = mRUN ∧
       ((List.range 96).filter fun j => s.flag BS_TTSTAT.CAL j).length < 4 ∧ s.get BS_TTSTAT.STALE 95 = 0) ∧
    (let s := st (tag95 ++ [(TT_LAST, 95, 2 ^ 80 + 975)])
     s.get TT_LAST 95 = 2 ^ 80 + (s.now + 2 ^ 80 - 25 * 1) % 2 ^ 80) ∧
    (let s := (st tag95).setList TT_BUF [5] 95
     Reads .host (0x8108 + 0x20 * 95) s ∧ s.peeks .host = false ∧ s.list TT_BUF 95 = 5 :: []) ∧
    (let s := st [(PW_MODE.MODE, 0, 3), (BS_TBSTAT.RUNNING, 0, 1)]
     Writes .host (0x8100 + 0x20 * 95) s ∧ s.get BS_TTCFG.EN 95 = 0 ∧ bit 1 0 = true ∧
       (let u := (s.writeReg .host BS_TTCFG.reg 95 1).put BS_TTCFG.EN 0 95
        u.unitCheck .host (0x100 + 95) (235 < u.get BS_TTCFG.INPUT 95 || u.codeAbsent (u.get BS_TTCFG.INPUT 95)) false
          false = none)) ∧
    (st [(BS_TTSTAT.CAL, 95, 1)]).get BS_TTSTAT.CAL 95 = 1 := by
  simp only [Writes, Reads, Awake]; decide

theorem test_witness_CuesRoutesTaggers : (let s := st [(PW_MODE.MODE, 0, 3), (BS_CUCFG.EN, 63, 1)]
     Writes .host (0x9110 + 0x20 * 63) s ∧ s.get BS_CUCFG.EN 63 = 1 ∧ (s.list CUE_Q 63).length < 8 ∧
       s.get CUE_LAST 63 < 2 ^ 80 ∧ s.get CUE_LATEP 63 = 0 ∧ Writes .host (0x9100 + 0x20 * 63) s ∧
       Writes .host (0x8E00 + 4 * 175) s ∧ Writes .host (0x9A00 + 0x20 * 39) s ∧ Writes .host 0x8044 s) ∧
    ((st [(BS_CUCFG.EN, 63, 1)]).setList CUE_Q [7] 63).list CUE_Q 63 = 7 :: [] ∧
    (let s := st [(BS_CUCFG.EN, 63, 1), (CUE_LATEP, 63, 1), (BS_CUCFG.LATE, 63, 1)]
     s.get CUE_LATEP 63 = 1 ∧ s.get BS_CUCFG.LATE 63 = 1) ∧
    (st [(CUE_PULSE, 63, 1)]).get CUE_PULSE 63 = 1 ∧ (outsideSource 0 = true ∧ 0 < 96) ∧
    (st [(RT_LEFT, 175, 1)]).get RT_LEFT 175 ≠ 0 ∧
    (let s := st [(PW_MODE.MODE, 0, 3), (BS_LBTCTL.EN, 39, 1), (BS_LBTCTL.ARM, 39, 1), (BS_TBSTAT.RUNNING, 0, 1),
       (SL_QSTAT.STATE, 9, 2), (SL_LCFG.EN, 39, 1)]
     s.get BS_LBTCTL.EN 39 = 1 ∧ (∀ f ∈ BS_LBTCTL.reg.fields, s.get f 39 < 2 ^ f.width) ∧ s.get BS_LBTCTL.ARM 39 = 1 ∧
       s.get BS_LBTCTL.SIDE 39 = 0 ∧ s.txRuns 39 = true ∧ s.get BS_TBSTAT.RUNNING = 1) := by
  simp only [Writes, Awake]; decide
theorem test_witness_TimerRegisters : (let s := st [(PW_MODE.MODE, 0, 3)]
     Writes .host (0xA104 + 0x80 * 15) s ∧ Master.host ≠ .gatehouse ∧ s.get BT_OWN.OWNER 15 = 7 ∧ Writes .host 0xA004 s ∧
       Writes .host 0xA008 s ∧ Writes .gatehouse (0xA104 + 0x80 * 15) s) ∧
    (let s := st [(BT_OWN.OWNER, 15, 1)]
     s.get BT_OWN.OWNER 15 ≠ 7 ∧ s.get BT_OWN.OWNER 15 ≠ Master.host.code) ∧
    (let s := st [(PW_MODE.MODE, 0, 3), (BT_OWN.OWNER, 15, 3), (CK_SYNSTAT.STATE, 0, 2)]
     s.get BT_OWN.OWNER 15 = Master.host.code ∧ s.get BT_CTL.EN 15 = 0 ∧ Writes .host (0xA100 + 0x80 * 15) s ∧
       bit 1 0 = true ∧
       (let u := ([BT_CTL.ONESHOT, BT_CTL.PRELOAD, BT_CTL.FRZ] ++ btLocked).foldl
          (fun u f => u.put f (bits 1 f.lo f.width) 15) s
        u.btCheck .host 15 = none) ∧
       (let w := 1 + 2 ^ BT_CTL.CSRC.lo * 7
        let u := ([BT_CTL.ONESHOT, BT_CTL.PRELOAD, BT_CTL.FRZ] ++ btLocked).foldl
          (fun u f => u.put f (bits w f.lo f.width) 15) s
        (u.btCheck .host 15).isSome = true)) ∧
    (st [(BT_OWN.OWNER, 15, 3), (BT_CTL.EN, 15, 1)]).get BT_CTL.EN 15 = 1 ∧
    (let s := busWrite .host (0xA110 + 0x80 * 15) 9 (st [(PW_MODE.MODE, 0, 3), (BT_OWN.OWNER, 15, 3), (CK_SYNSTAT.STATE, 0, 2)])
     Writes .host (0xA114 + 0x80 * 15) s ∧ s.get BT_OWN.OWNER 15 = Master.host.code ∧
       s.heldLow .host (0xA110 + 0x80 * 15) = some 9) ∧
    (Reads .host (0xA904 + 0x20 * 31) (st [(PW_MODE.MODE, 0, 3)]) ∧ (st []).peeks .host = false) := by
  simp only [Writes, Reads, Awake]; decide

def runs15 : List (Field × Nat × Nat) := [(BT_OWN.OWNER, 15, 3), (BT_CTL.EN, 15, 1), (BT_CTL.RUN, 15, 1), (STAGE_FREQ, 0, 1),
  (TOP_ACT, 15, 2 ^ 48 - 1)]

theorem test_witness_TimersCount : (let s := st runs15
     Awake s ∧ s.mode ≠ mDORMANT ∧ s.get STAGE_FREQ ≠ 0 ∧ s.btCounting 15 = true ∧ s.get BT_CTL.CSRC 15 = 0 ∧
       s.get BT_CTL.SMODE 15 = 0 ∧ s.btCount 15 ≠ s.get TOP_ACT 15 ∧ s.btCount 15 + 1 < 2 ^ 48 ∧
       s.get BT_KCFG.CEN 30 = 0 ∧ s.get BT_KCFG.CEN 31 = 0) ∧
    (let s := st (runs15 ++ [(TOP_ACT, 15, 0), (BT_CTL.ONESHOT, 15, 1)])
     s.btCounting 15 = true ∧ s.btCount 15 = s.get TOP_ACT 15 ∧ s.get BT_CTL.ONESHOT 15 = 1) ∧
    (let s := st (runs15 ++ [(CMP_ACT, 63, 1)])
     s.btCount 15 + 1 = s.get CMP_ACT (4 * 15 + 3)) ∧
    (let s := st [(BT_CTL.EN, 15, 1), (BT_CTL.SMODE, 15, 3), (RT_VAL, 63, 1)]
     s.btTrigger 15 = true ∧ s.get TRIG_LAST 15 = 0 ∧ s.get BT_CTL.EN 15 = 1 ∧ s.btFrozen 15 = false ∧
       s.get BT_CTL.SMODE 15 = 3 ∧ s.get BT_CTL.RUN 15 = 0 ∧ (s.put BT_CTL.SMODE 2 15).get BT_CTL.SMODE 15 = 2) ∧
    (let s := st [(BT_CTL.EN, 15, 1), (BT_KCFG.CEN, 31, 1)]
     s.get BT_CTL.EN 15 = 1 ∧ s.get BT_KCFG.CEN 31 = 1 ∧ s.get BT_KCFG.PSC 31 ≤ s.get KEDGES 31 ∧
       (s.put BT_KCFG.PSC 1 31).get KEDGES 31 < (s.put BT_KCFG.PSC 1 31).get BT_KCFG.PSC 31) ∧
    ((st []).reach 0 = .here ∧ 0xFFFFC % 4 = 0) := by
  simp only [Awake]; decide

theorem foldl_fixed {f : State → State} {s : State} (h : f s = s) (l : List Nat) : l.foldl (fun u _ => f u) s = s := by
  induction l with
  | nil => rfl
  | cons _ l ih => simpa only [List.foldl_cons, h] using ih

def dormantLf : State := st [(PW_MODE.MODE, 0, 4), (CK_REFSTAT.PRESENT, 0, 4096), (BS_TBSTAT.LF, 0, 1)]

theorem test_witness_LfStep : dormantLf.mode = mDORMANT ∧ bit (dormantLf.get CK_REFSTAT.PRESENT) 12 = true ∧
    dormantLf.get BS_TBSTAT.LF = 1 ∧
    ((dormantLf.put TCOUNT (dormantLf.get TCOUNT + 2000000000 * 65536)).put LF_MATCHED 0).lfStep.get LF_MATCHED = 0 := by
  refine ⟨by decide, by decide, by decide, ?_⟩
  have h1 : (((dormantLf.put TCOUNT (dormantLf.get TCOUNT + 2000000000 * 65536)).put LF_MATCHED 0).put LF_ACC
      ((((dormantLf.put TCOUNT (dormantLf.get TCOUNT + 2000000000 * 65536)).put LF_MATCHED 0).get LF_ACC + 5) % 8)).lfTick true
      = ((dormantLf.put TCOUNT (dormantLf.get TCOUNT + 2000000000 * 65536)).put LF_MATCHED 0).put LF_ACC 5 := by decide
  have h2 : (((dormantLf.put TCOUNT (dormantLf.get TCOUNT + 2000000000 * 65536)).put LF_MATCHED 0).put LF_ACC 5).lfTick false
      = ((dormantLf.put TCOUNT (dormantLf.get TCOUNT + 2000000000 * 65536)).put LF_MATCHED 0).put LF_ACC 5 := by decide
  simp only [State.lfStep]
  rw [h1, foldl_fixed (f := fun u => u.lfTick false) h2]
  decide
/-- Context 63 enabled, in RUN, the current one, with queue 255 as its job queue. -/
def ctx (l : List (Field × Nat × Nat)) : State :=
  st ([(PW_MODE.MODE, 0, 3), (OG_CCFG.EN, 63, 1), (OG_STAT.CUR, 0, 63), (OG_CQ.JQ, 63, 255), (OG_CCFG.CLASS, 63, 0), (OG_CCFG.CLASS, 0, 0)] ++ l)

theorem test_witness_ContextsAndJobs : (let s := st [(PW_MODE.MODE, 0, 2), (QM_QCFG.EN, 255, 1), (OG_CQ.JQ, 63, 255),
       (OG_CQ.RQ, 63, 255), (OG_CWS.BASE, 63, 511), (OG_CWS.SIZE, 63, 1)]
     let u := (s.writeReg .host OG_CCFG.reg 63 1).put OG_CCFG.EN 0 63
     Awake s ∧ Writes .host (0x19000 + 0x40 * 63) s ∧ s.get OG_CCFG.EN 63 = 0 ∧ s.ogState 63 = ogOFF ∧ bit 1 0 = true ∧
       u.ogCheck .host 63 = none ∧ (u.ogBind 63).isRight = true ∧ ((u.put OG_CWS.SIZE 2 63).ogCheck .host 63).isSome = true) ∧
    (let s := ctx [(OG_CSTAT.STATE, 63, 1)]
     s.mode = mRUN ∧ s.get OG_CCFG.EN 63 = 1 ∧ s.ogState 63 = ogIDLE ∧ s.ogBusy 63 = false ∧ bit 0 0 = false ∧
       Writes .host (0x19000 + 0x40 * 63) s) ∧
    (let s := ctx [(OG_CSTAT.STATE, 63, 3), (OG_STAT.ACTIVE, 0, 1)]
     s.get OG_STAT.ACTIVE = 1 ∧ s.mode = mRUN ∧ s.ogRival = false ∧ (s.put OG_CSTAT.STATE 2 0).ogRival = true ∧
       s.get OG_ABORTING 63 = 0 ∧ (s.put OG_DUE 1).get OG_DUE = 1 ∧ (s.put OG_ABORTING 1 63).get OG_ABORTING 63 = 1 ∧
       s.ogState 63 = ogRUN ∧ Writes .host (0x19014 + 0x40 * 63) s ∧ s.ogBusy 63 = true ∧
       (s.put OG_CSTAT.STATE 4 0).ogBusy 0 = true ∧ (s.put OG_CSTAT.STATE 4 0).ogState 0 ≠ ogRUN ∧
       (s.put OG_CSTAT.STATE 6 0).ogState 0 = ogHALTED) := by
  simp only [Writes, Awake]; decide

def jobWaits : State := (ctx [(OG_CSTAT.STATE, 63, 1), (QM_QCFG.EN, 255, 1), (LANE_W, 2040, 2)]).putSlot 2040 0 0x8000000000000008 true

theorem test_witness_JobFetch : jobWaits.ogState 63 = ogIDLE ∧
    (ogStray (jobWaits.queueSlots (jobWaits.get OG_CQ.JQ 63) + 1) 63 jobWaits).1 = some 0x8000000000000008 := by decide

theorem test_witness_ContextReady : (let s := ctx [(OG_STAT.ACTIVE, 0, 1), (OG_CSTAT.STATE, 62, 4), (OG_CQ.DQ, 62, 254),
       (QM_QCFG.EN, 254, 1), (LANE_W, 2032, 1)]
     s.get OG_STAT.ACTIVE = 1 ∧ s.ogState 62 = ogWAIT_IN ∧ (s.anyLane (s.get OG_CQ.DQ 62)).isSome = true) ∧
    (let s := ctx [(OG_STAT.ACTIVE, 0, 1), (OG_CSTAT.STATE, 62, 5), (OG_CQ.RQ, 62, 254), (QM_QCFG.EN, 254, 1)]
     s.ogState 62 = ogWAIT_OUT ∧ s.ogRoom 62 = true) := by decide

theorem test_witness_Workspace : (let s := busWrite .host 0x18024 7 (st [(PW_MODE.MODE, 0, 3), (OG_WSADDR.WADDR, 0, 262143),
       (OG_WSADDR.INC, 0, 1)])
     Writes .host 0x18028 s ∧ s.heldLow .host 0x18024 = some 7 ∧ s.wsOwner (s.get OG_WSADDR.WADDR) = none ∧
       s.get OG_WSADDR.INC = 1 ∧ Reads .host 0x18024 s ∧ s.peeks .host = false ∧
       (s.wsLook (s.get OG_WSADDR.WADDR)).kind = .clean) ∧
    (let s := busWrite .host 0x18024 7 (ctx [(OG_CSTAT.STATE, 63, 3), (OG_CWS.SIZE, 63, 1)])
     Writes .host 0x18028 s ∧ s.heldLow .host 0x18024 = some 7 ∧ s.wsOwner (s.get OG_WSADDR.WADDR) = some 63) := by
  simp only [Writes, Reads, Awake]; decide
/-- Bank 11 (HD) enabled at 1.8 V code 3, pin 575 owned by the host. -/
def bank11 (l : List (Field × Nat × Nat)) : State :=
  st ([(PW_MODE.MODE, 0, 2), (IO_BCFG.EN, 11, 1), (IO_BSTAT.OK, 11, 1), (IO_BCFG.VSEL, 11, 2), (IO_BSTAT.VDET, 11, 2),
    (IO_PCFG.OWNER, 574, 2)] ++ l)

theorem test_witness_Banks : (let s := st [(PW_MODE.MODE, 0, 2), (IO_BSTAT.VDET, 11, 2), (GH_STATUS.UNLOCK_OPEN, 0, 1),
       (GH_STATUS.UNLOCK_ID, 0, 3)]
     Awake s ∧ Writes .host (0x2100 + 8 * 11) s ∧ s.unlocked .host = true ∧ s.get IO_BCFG.EN 11 = 0 ∧ bit 5 0 = true ∧
       s.bankCheck .host 11 (bits 5 1 3) = none ∧ (s.bankCheck .host 11 (bits 7 1 3)).isSome = true) ∧
    (let s := bank11 []
     s.get IO_BCFG.EN 11 = 1 ∧ s.bankAbsent 11 = false ∧ s.get IO_BSTAT.OK 11 = 1 ∧
       ((List.range 48).any fun i => s.flag IO_PCFG.EN (48 * 11 + i)) = false) := by
  simp only [Writes, Awake]; decide

theorem test_witness_Pins : (let s := bank11 []
     Writes .host (0x2400 + 4 * 574) s ∧ s.pinOwns .host (s.get IO_PCFG.OWNER 574) = true ∧ s.pinAbsent 574 = false ∧
       s.get IO_PCFG.EN 574 = 0 ∧ bit 1 0 = true ∧
       (let w := 1 + 2 ^ IO_PCFG.STD.lo * 3
        (s.storePcfg .host 574 w).pinCheck .host 574 = none) ∧
       (let w := 1 + 2 ^ IO_PCFG.STD.lo * 6
        ((s.storePcfg .host 574 w).pinCheck .host 574).isSome = true)) ∧
    (let s := bank11 [(IO_PCFG.EN, 574, 1), (IO_PCLM.CLAIMS, 574, 1)]
     s.get IO_PCFG.EN 574 = 1 ∧ bit 0 0 = false ∧ s.get IO_PCLM.CLAIMS 574 ≠ 0 ∧
       (s.put IO_PCLM.CLAIMS 0 574).get IO_PCLM.CLAIMS 574 = 0) ∧
    (let s := bank11 [(PW_MODE.MODE, 0, 3), (IO_PCFG.EN, 574, 1), (IO_PCFG.ARR, 574, 1)]
     Writes .host (0x3000 + 4 * 574) s ∧ s.mode = mRUN ∧ bit (s.get IO_PCLM.CLAIMS 574) 5 = false ∧
       s.claimCheck lvARRAY 574 = none ∧ s.pinOwns .host (s.get IO_PCFG.OWNER 574) = true ∧ s.get IO_PCFG.ARR 574 ≠ 0 ∧
       s.get IO_PCLM.CLAIMS 574 = 0) ∧
    (let s := st [(PW_MODE.MODE, 0, 3), (IO_CTARR.ARR, 0, 256)]
     Writes .gatehouse (0x3000 + 4 * 584) s ∧ s.claimCheck lvARRAY 584 = none ∧ bit (s.get IO_CTARR.ARR) (584 - 576) = true) := by
  simp only [Writes, Awake]; decide

/-- The pins of serialiser group 11 enabled for it, with a differential standard. -/
def group11 : List (Field × Nat × Nat) :=
  (groupPins 11).flatMap fun p => [(IO_PCFG.EN, p, 1), (IO_PCFG.ARR, p, 3), (IO_PCFG.STD, p, 16), (IO_PCFG.OWNER, p, 2)]

theorem test_witness_Groups : (let s := st ([(PW_MODE.MODE, 0, 2), (CK_SYNFOUT.KHZ, 2, 100000)] ++ group11)
     Writes .host (0x2300 + 4 * 11) s ∧ s.pinOwns .host (s.get IO_PCFG.OWNER ((groupPins 11).headD 0)) = true ∧
       s.get IO_SERCFG.EN 11 = 0 ∧ bit 3 0 = true ∧ bit 3 6 = false ∧
       (let u := (s.writeReg .host IO_SERCFG.reg 11 (1 + 2 ^ IO_SERCFG.DIR.lo)).put IO_SERCFG.EN 0 11
        u.groupCheck .host 11 = none ∧ u.get IO_SERCFG.DIR 11 = 1) ∧
       (let u := (s.writeReg .host IO_SERCFG.reg 11 1).put IO_SERCFG.EN 0 11
        u.groupCheck .host 11 = none ∧ u.get IO_SERCFG.DIR 11 = 0 ∧ (u.claimAll lvARRAY (groupPins 11)).isRight = true) ∧
       (let u := ((s.put CK_SYNFOUT.KHZ 0 2).writeReg .host IO_SERCFG.reg 11 1).put IO_SERCFG.EN 0 11
        (u.groupCheck .host 11).isSome = true)) ∧
    (let s := st ([(PW_MODE.MODE, 0, 2), (IO_SERCFG.EN, 11, 1)] ++ group11)
     Writes .host (0x2300 + 4 * 11) s ∧ s.get IO_SERCFG.EN 11 = 1) := by
  simp only [Writes, Awake]; decide
theorem test_witness_QuadPlls : (let s := st [(PW_MODE.MODE, 0, 2), (CK_REFSTAT.PRESENT, 0, 4095), (SL_QCFG.N, 9, 60)]
     Awake s ∧ Writes .host (0x7108 + 0x20 * 9) s ∧ bit 3 1 = true ∧ bit 3 0 = true ∧
       s.quadCheck .host 9 (s.get SL_QCFG.RDIV 9) (s.get SL_QCFG.N 9) (s.get SL_QFRAC.F 9) = none ∧ s.mode ≠ mDORMANT ∧
       (s.quadCheck .host 8 (s.get SL_QCFG.RDIV 8) (s.get SL_QCFG.N 8) (s.get SL_QFRAC.F 8)).isSome = true ∧
       s.quadAbsent 8 = false) ∧
    (let s := st [(SL_QSTAT.STATE, 9, 1), (STAGE_POL, 15, 1), (SL_QSTAT.BUSY, 9, 1), (STAGE_NEXT, 15, 7)]
     s.get SL_QSTAT.STATE 9 = ckACQUIRE ∧ s.quadPx 9 = false ∧ s.get STAGE_POL 15 ≠ 0 ∧ s.get SL_QSTAT.BUSY 9 = 1 ∧
       (s.put STAGE_POL 0 15).get STAGE_POL 15 = 0 ∧ s.get STAGE_FREQ 15 ≠ s.get STAGE_NEXT 15) ∧
    (st [(SL_QSTAT.STATE, 9, 2)]).get SL_QSTAT.STATE 9 = ckLOCKED := by
  simp only [Writes, Awake]; decide

/-- Quad 9 locked, lane 39 enabled for the array. -/
def lane39 (l : List (Field × Nat × Nat)) : State :=
  st ([(PW_MODE.MODE, 0, 2), (SL_QSTAT.STATE, 9, 2), (SL_LCFG.EN, 39, 1), (SL_LSTAT.OWNER, 39, 3)] ++ l)

theorem test_witness_Lanes : (let s := st [(PW_MODE.MODE, 0, 2), (SL_QSTAT.STATE, 9, 2), (QP_N, 9, 60)]
     Writes .host (0x7400 + 0x40 * 39) s ∧ s.laneAbsent 39 = false ∧ s.get SL_LCFG.EN 39 = 0 ∧ bit 1 0 = true ∧
       s.laneOwner 39 ≠ owPCIE ∧ s.laneOwner 39 ≠ owHOKUOX ∧
       (let u := (s.writeReg .host SL_LCFG.reg 39 (1 + 2 ^ SL_LCFG.PCS.lo * 5 + 2 ^ SL_LCFG.DIV.lo)).put SL_LCFG.EN 0 39
        u.laneCheck .host 39 = none) ∧
       (let u := ((s.put SL_QSTAT.STATE 0 9).writeReg .host SL_LCFG.reg 39 (1 + 2 ^ SL_LCFG.PCS.lo * 5 + 2 ^ SL_LCFG.DIV.lo)).put SL_LCFG.EN 0 39
        (u.laneCheck .host 39).isSome = true)) ∧
    (let s := lane39 []
     s.get SL_LCFG.EN 39 = 1 ∧ bit 0 0 = false ∧ s.lanePorts 39 = [] ∧ s.mode ≠ mDORMANT ∧ s.rxRuns 39 = true ∧
       Writes .host (0x7404 + 0x40 * 39) s ∧ s.laneAbsent 39 = false) ∧
    (let s := lane39 [(XP_CFG.EN, 96, 1), (XP_STAT.STATE, 96, 2), (XP_CFG.ATTACH, 96, 2), (XP_CFG.AIDX, 96, 39), (SL_LSTAT.CDR, 39, 1),
       (SL_LCFG.PCS, 39, 3)]
     s.lanePorts 39 ≠ [] ∧ s.get SL_LSTAT.CDR 39 = 1 ∧ 3 ≤ s.get SL_LCFG.PCS 39) := by
  simp only [Writes, Awake]; decide

theorem test_witness_LaneTests : (let s := lane39 [(SL_LTEST.PRBS_RX, 39, 1)]
     Writes .host (0x7420 + 0x40 * 39) s ∧ s.laneAbsent 39 = false ∧ s.laneOwner 39 ≠ owPCIE ∧ s.laneOwner 39 ≠ owHOKUOX ∧
       s.lanePorts 39 = [] ∧ s.get SL_LTEST.PRBS_RX 39 ≠ 0 ∧ s.get SL_LCFG.EN 39 = 1 ∧ s.rxRuns 39 = true ∧
       s.mode ≠ mDORMANT ∧ s.get SL_LTEST.PRBS_LOCK 39 = 0 ∧ Writes .host (0x7428 + 0x40 * 39) s ∧
       s.get SL_LEYE.BUSY 39 = 0 ∧ s.get SL_LSTAT.CDR 39 = 0) ∧
    (let s := lane39 [(SL_LSTAT.OWNER, 39, 2)]
     s.laneOwner 39 = owHOKUOX ∧
       (let u := s.writeReg .host SL_LTEST.reg 39 1
        u.get SL_LTEST.LOOP 39 + u.get SL_LTEST.PRBS_TX 39 + u.get SL_LTEST.PRBS_RX 39 ≠ 0)) ∧
    (let s := lane39 [(SL_LTEST.PRBS_RX, 39, 3), (SL_LTEST.PRBS_LOCK, 39, 1), (PRBS_GOOD, 38, 63), (SL_LSTAT.CDR, 39, 1)]
     let t := prbsTaps (s.get SL_LTEST.PRBS_RX 39)
     s.get SL_LTEST.PRBS_LOCK 39 = 1 ∧ true ≠ (bit (s.get PRBS_REG 39) (t.1 - 1) != bit (s.get PRBS_REG 39) (t.2 - 1)) ∧
       s.get SL_LTEST.PRBS_LOCK 38 = 0 ∧ s.get PRBS_GOOD 38 = 63 ∧ s.get SL_LSTAT.CDR 39 = 1) ∧
    (st [(SL_LEYE.BUSY, 39, 1)]).get SL_LEYE.BUSY 39 = 1 := by
  simp only [Writes, Awake]; decide
/-- The link up, in RUN. -/
def linked (l : List (Field × Nat × Nat)) : State := st ([(PW_MODE.MODE, 0, 3), (PX_LINK.SPEED, 0, 4), (PX_FREED, 0, 1)] ++ l)

theorem test_witness_HostRequests : (let s := linked []
     Awake s ∧ s.linkUp = true ∧ s.mode ≠ mTEST ∧ s.get PX_LINK.DSTATE = 0 ∧ s.mode ≠ mDORMANT ∧
       (s.windowRead .host 0xFFFFC 0).1 = .data 0 ∧ (s.put XP_STAT.STATE 0 15).windowIdle 15 = true ∧
       (s.put XP_STAT.STATE 2 15).windowIdle 15 = false ∧ (s.put PX_LINK.DSTATE 3).get PX_LINK.DSTATE ≠ 0 ∧
       s.get PX_CHCFG.EN 31 = 0) ∧
    (let s := linked [(PX_CHCFG.EN, 31, 1), (PX_CHCFG.PUSH, 31, 1)]
     s.get PX_CHCFG.EN 31 = 1 ∧ s.get PX_CHCFG.PUSH 31 = 1) ∧
    (((linked []).setList PX_RD [5] 15).list PX_RD 15 = 5 :: []) ∧
    ((((linked []).setList PX_WQ [2 * 2 ^ 64] 15).list PX_WQ 15).find? exWrite).isSome = true := by
  simp only [Awake]; decide

theorem test_witness_DmaChannels : (let s := linked [(QM_QCFG.EN, 255, 1), (PX_RSIZE.RSIZE, 63, 4), (PX_CHCFG.QUEUE, 63, 255)]
     Awake s ∧ Writes .host (0x21000 + 0x40 * 63) s ∧ s.get PX_CHCFG.EN 63 = 0 ∧ bit 1 0 = true ∧
       (let w := 1 + 2 ^ PX_CHCFG.QUEUE.lo * 255
        ((s.writeReg .host PX_CHCFG.reg 63 w).put PX_CHCFG.EN 0 63).chCheck 63 = none) ∧
       ((((s.put PX_RSIZE.RSIZE 0 63).writeReg .host PX_CHCFG.reg 63 1).put PX_CHCFG.EN 0 63).chCheck 63).isSome = true) ∧
    (let s := linked [(PX_CHCFG.EN, 63, 1), (PX_RSIZE.RSIZE, 63, 4)]
     s.get PX_CHCFG.EN 63 = 1 ∧ bit 0 0 = false ∧ s.get CH_OPEN 63 = 0 ∧
       (s.writeReg .host PX_CHCFG.reg 63 0).readReg PX_CHCFG.reg 63 / 2 = s.readReg PX_CHCFG.reg 63 / 2 ∧
       s.linkUp = true ∧ s.get PX_LINK.DSTATE = 0 ∧ s.get PX_CHCFG.PUSH 63 = 0 ∧ s.get PX_CHSTAT.STATE 63 ≠ chHALTED ∧
       (s.put PX_TAIL.TAIL 16 63).posted 63 ≤ 2 ^ s.get PX_RSIZE.RSIZE 63 ∧
       2 ^ s.get PX_RSIZE.RSIZE 63 < (s.put PX_TAIL.TAIL 17 63).posted 63) ∧
    (let s := linked [(PX_CHCFG.EN, 63, 1), (PX_CHSTAT.STATE, 63, 1), (PX_TAIL.TAIL, 63, 1), (PX_SERVED, 0, 62)]
     s.mode ≠ mDORMANT ∧ ((List.range 64).find? fun i => s.chReady ((s.get PX_SERVED + 1 + i) % 64)) = some 0 ∧
       s.get CH_PHASE ((s.get PX_SERVED + 1 + 0) % 64) = 0) ∧
    (let s := linked [(CH_OUT, 63, 32), (CH_PHASE, 63, 2), (CH_MOVED, 63, 8), (PX_CHFLUSH.FLUSH_T, 63, 1), (PX_CHCFG.PKT, 63, 0),
       (QM_QCFG.EN, 0, 1)]
     s.get CH_OUT 63 ≠ 0 ∧ s.get CH_PHASE 63 = 2 ∧ s.get CH_OPEN 63 = 0 ∧ chH2D 63 = false ∧ s.get PX_CHCFG.PKT 63 = 0 ∧
       s.get CH_MOVED 63 ≠ 0 ∧ s.get PX_CHFLUSH.FLUSH_T 63 ≠ 0 ∧ (s.chOp 63 opPEEK 0).isNone = true) ∧
    (st [(CH_PHASE, 63, 3)]).get CH_PHASE 63 = 3 := by
  simp only [Writes, Awake]; decide

theorem test_witness_EndpointLink : (let s := linked []
     s.get PX_FREED = 1 ∧ s.get PX_PERST = 0 ∧ s.mode ≠ mTEST ∧ s.mode ≠ mDORMANT ∧ s.linkUp = true ∧ s.drowsy = false ∧
       s.get PW_RSTCFG.PERST_SCOPE = 0) ∧
    ((linked []).store .cfgSpace 0x20 2).aspmL1 = true := by decide
/-- In RUN with port 7 in a state. -/
def port7 (state : Nat) (l : List (Field × Nat × Nat)) : State :=
  st ([(PW_MODE.MODE, 0, 3), (HX_PCFG.EN, 7, 1), (HX_PSTAT.STATE, 7, state)] ++ l)

theorem test_witness_HokuoxPorts : (let s := st [(PW_MODE.MODE, 0, 3), (SL_QSTAT.STATE, 9, 2), (QP_N, 9, 66)]
     let w := 1 + 2 ^ HX_PCFG.QUAD.lo * 9
     Awake s ∧ Writes .host (0x24100 + 0x40 * 7) s ∧ s.get HX_PCFG.EN 7 = 0 ∧ bit w 0 = true ∧
       (((s.put HX_PCFG.WIDTH (bits w 7 2) 7).writeReg .host HX_PCFG.reg 7 w).put HX_PCFG.EN 0 7).hxCheck .host 7 = none ∧
       ((((s.put HX_PCFG.WIDTH (bits 1 7 2) 7).writeReg .host HX_PCFG.reg 7 1).put HX_PCFG.EN 0 7).hxCheck .host 7).isSome =
         true) ∧
    (let s := port7 1 [(HX_PSTAT.LIVE, 7, 1)]
     s.get HX_PCFG.EN 7 = 1 ∧ bit 0 0 = false ∧
       (s.writeReg .host HX_PCFG.reg 7 0).readReg HX_PCFG.reg 7 / 2 = s.readReg HX_PCFG.reg 7 / 2 ∧ s.hxRuns = true ∧
       s.get HX_PSTAT.STATE 7 = hpTRAINING ∧ s.alive 7 = true ∧ Writes .host (0x24104 + 0x40 * 7) s) ∧
    (port7 2 []).get HX_PSTAT.STATE 7 = hpALIGNING ∧
    (let s := port7 3 [(HX_INITS, 7, 7)]
     s.get HX_PSTAT.STATE 7 = hpINIT ∧ s.initDiff 7 0 ≠ 0 ∧ s.initDiff 7 (2 ^ 24 + 2 ^ 28) = 0 ∧
       bit (2 ^ 24 + 2 ^ 28) 28 = true ∧ s.get HX_INITS 7 = 7) := by
  simp only [Writes, Awake]; decide

/-- A DISC packet of one ADVERT, on the line. -/
def advertHeader : Nat := mkHeader 0 0 clDISC 0 3 9

theorem test_witness_Packets : (let s := port7 4 []
     let tr := crcWords [advertHeader, 1, 2, 3]
     Awake s ∧ s.portUp 7 = true ∧ bits advertHeader 44 4 = clDISC ∧ bits advertHeader 16 16 = 3 ∧ 3 ≤ clMax clDISC ∧
       bits tr 37 27 = 0 ∧ bits tr 0 32 = crcWords [advertHeader, 1, 2, 3] ∧ (s.get HX_NEXT 7 + 4096 - 0) % 4096 = 0 ∧
       (let p := mkPacket advertHeader (bits tr 32 5) [1, 2, 3]
        s.get HX_USED (16 * 7 + clDISC) + pkCost p ≤ clBuf clDISC ∧ s.pkWrong 7 p = 0) ∧
       bits (tr ^^^ 1) 0 32 ≠ crcWords [advertHeader, 1, 2, 3] ∧
       bits (tr ^^^ 1) 0 32 ≠ 0xFFFFFFFF - crcWords [advertHeader, 1, 2, 3] ∧ bits (tr ^^^ 1) 37 27 = 0 ∧
       s.get HX_NAKED 7 = 0) ∧
    (let p := mkPacket advertHeader 0 [1, 2, 3]
     let s := (port7 4 [(HX_CRED, 16 * 7 + clDISC, 5)]).setList HX_TX [p] (16 * 7 + clDISC)
     s.hxRuns = true ∧ s.get HX_RPOS 7 = 0 ∧ s.list HX_TX (16 * 7 + clDISC) = p :: [] ∧ pkClass p = clDISC ∧
       (∀ k < 7, k ≠ clDISC → s.list HX_TX (16 * 7 + k) = []) ∧ pkCost p ≤ s.get HX_CRED (16 * 7 + clDISC) ∧
       s.replayWords 7 + pkCost p ≤ 4096 ∧ (s.list HX_HOLD 7).length < 2047) ∧
    (let s := (port7 4 [(HX_UNACK, 7, 1), (HX_CRED, 16 * 7 + 6, 1)]).setList HX_HOLD [4095 + 4096 * 7] 7
     ((s.list HX_HOLD 7).findIdx? fun h => h % 2 ^ 12 = 4095) = some 0 ∧ s.get HX_UNACK 7 ≠ 0 ∧ s.list HX_HOLD 7 ≠ [] ∧
       s.get HX_RCNT 7 < s.get HX_PTIME.MAX_REPLAY 7 ∧
       (s.put HX_RCNT 15 7).get HX_PTIME.MAX_REPLAY 7 ≤ (s.put HX_RCNT 15 7).get HX_RCNT 7 ∧
       s.get HX_CRED (16 * 7 + 6) + 1023 ≤ clBuf 6 ∧ clBuf 6 < s.get HX_CRED (16 * 7 + 6) + 1024) := by
  simp only [Awake]; decide

/-- A packet waits at port or source n in a class. -/
def arrived (n k : Nat) (p : Nat) (s : State) : State := s.setList HX_RX [p] (16 * n + k)

theorem test_witness_Fabric : (let s := port7 4 [(HX_PSTAT.LIVE, 7, 1)]
     Awake s ∧ s.mode ≠ mDORMANT ∧ s.mode ≠ mTEST ∧ s.get HX_DSTAT.ROOT = 0 ∧
       (∀ n < 8, s.alive n = true → s.get HX_AVALID n = 1 → s.ownKey ≤ s.get HX_AKEY n) ∧
       s.get HX_ROOTID_LO.ID + 2 ^ 32 * s.get HX_ROOTID_HI.ID = s.dieId ∧
       (let s := ((s.put HX_DSTAT.PVALID 1).put HX_DSTAT.FINAL 1)
        s.get HX_DSTAT.PVALID = 1 ∧ s.get HX_DSTAT.FINAL = 1 ∧ s.get HX_ASGN = 0)) ∧
    (((arrived 7 clDISC (mkPacket advertHeader 0 [1, 2, 3]) (port7 4 [])).hxHead 7 clDISC).any fun r => pkId r.1 = 0) = true ∧
    (((arrived 7 clDISC (mkPacket (mkHeader 0 0 clDISC 1 2 9) 0 [1, 15 * 2 ^ 8]) (port7 4 [(HX_DSTAT.ROOT, 0, 1)])).hxHead 7
      clDISC).any fun r => pkId r.1 = 1 ∧ bits (pkWord r.1 1) 8 5 < 16 ∧ r.2.get HX_DSTAT.ROOT = 1 ∧
        (r.2.put HX_DSTAT.ROOT 0 |>.put HX_DSTAT.PVALID 1).get HX_DSTAT.PVALID = 1) = true ∧
    (((arrived 7 clDISC (mkPacket (mkHeader 0 0 clDISC 2 2 9) 0 [0, 5]) (port7 4 [])).hxHead 7 clDISC).any fun r =>
      pkId r.1 = 2 ∧ bits (pkWord r.1 1) 8 5 = 0 ∧ pkWord r.1 0 = r.2.dieId) = true ∧
    (((arrived 7 clDISC (mkPacket (mkHeader 0 0 clDISC 3 3 9) 0 [240, 0, 0]) (port7 4 [])).hxHead 7 clDISC).any fun r =>
      pkId r.1 = 3) = true := by
  simp only [Awake]; decide

/-- Endpoint 4095 enabled, outbound, open, on channel port 31. -/
def ep (l : List (Field × Nat × Nat)) : State :=
  st ([(PW_MODE.MODE, 0, 3), (EPS_EN, 4095, 1), (EPS_PORT, 4095, 31), (EPS_STATE, 4095, 2), (EPS_ADDR, 4095, 9),
    (EPS_PEER, 4095, 77), (EPS_CREDITS, 4095, 7), (HX_CPCFG.EN, 31, 1)] ++ l)

theorem test_witness_Channels : (let s := st [(PW_MODE.MODE, 0, 3), (HX_EPSEL.EP, 0, 4095), (HX_DSTAT.ADDR, 0, 5),
       (EPS_ADDR, 4095, 9), (HX_CPCFG.EN, 31, 1)]
     let w := 1 + 2 ^ 2 * 31 + 2 ^ 7 * 7
     let u := ((s.put EPS_DIR (bits w 1 1) 4095).put EPS_PORT (bits w 2 5) 4095).put EPS_CREDITS (bits w 7 6) 4095
     Awake s ∧ Writes .host 0x24904 s ∧ s.get HX_EPSEL.EP < 4096 ∧ s.get EPS_EN (s.get HX_EPSEL.EP) = 0 ∧ bit w 0 = true ∧
       u.epCheck 4095 = none ∧ ((u.put EPS_CREDITS 0 4095).epCheck 4095).isSome = true ∧ Writes .host (0x24800 + 4 * 31) s ∧
       s.get HX_CPCFG.EN 30 = 0) ∧
    (let s := (ep [(HX_EPSEL.EP, 0, 4095), (EPS_CREDIT, 4095, 1)]).setList HX_EPON [4095]
     s.get EPS_EN 4095 = 1 ∧ bit (s.epCfgWord 4095 / 2 * 2) 0 = false ∧
       bits (s.epCfgWord 4095 / 2 * 2) 1 12 = s.epCfgWord 4095 / 2 ∧ s.get HX_CPCFG.EN 31 = 1 ∧
       ((s.list HX_EPON).any fun e => s.get EPS_PORT e = 31) = true ∧ s.hcpLive 31 = true ∧ s.get HX_CPCFG.DIR 31 = 0 ∧
       s.list HX_CPW 31 = [] ∧ s.get EPS_DIR 4095 = 0 ∧ s.get EPS_PORT 4095 = 31 ∧ s.get EPS_STATE 4095 = epOPEN ∧
       s.get EPS_CREDIT 4095 ≠ 0 ∧ (s.put EPS_CREDIT 0 4095).get EPS_CREDIT 4095 = 0) ∧
    (let s := (ep [(HX_CPCFG.DIR, 31, 1), (EPS_CREDITS, 4095, 63)]).setList HX_INQ [4095] 31
     s.get HX_CPCFG.DIR 31 = 1 ∧ s.list HX_INQ 31 = 4095 :: [] ∧
       s.get EPS_DUE (4095 % 2 ^ 12) + 1 < max 1 ((s.get EPS_CREDITS (4095 % 2 ^ 12) + 1) / 4)) ∧
    (let s := ep [(EPS_DIR, 4094, 1), (EPS_STATE, 4094, 1), (EPS_DIR, 4095, 1), (EPS_DUE, 4095, 1)]
     s.get EPS_DIR 4094 = 1 ∧ s.get EPS_STATE 4094 = epOPENING ∧ s.get EPS_DIR 4095 = 1 ∧ s.get EPS_STATE 4095 = epOPEN ∧
       s.get EPS_DUE 4095 ≠ 0) ∧
    (let s := ep [(EPS_DRY, 4095, 1)]
     s.get EPS_DRY 4095 = 1 ∧ s.get EPS_CREDIT 4095 = 0 ∧ s.get EPS_PROBES 4095 < 8 ∧
       (s.put EPS_PROBES 8 4095).get EPS_PROBES 4095 = 8) := by
  simp only [Writes, Awake]; decide

/-- A CH packet of the peer of endpoint 4095, with its sequence number and first word. -/
def fromPeer (seq w : Nat) (s : State) : Option (Nat × State) :=
  (arrived 8 clCH (mkPacket (mkHeader 0 9 clCH 4095 2 seq) 0 [w + 2 ^ 4 * 77, 5]) s).hxHead 8 clCH

def fits (r : Nat × State) : Bool :=
  r.2.get EPS_EN (pkId r.1) = 1 && r.2.get EPS_ADDR (pkId r.1) = pkSrc r.1 &&
    r.2.get EPS_PEER (pkId r.1) = bits (pkWord r.1 0) 4 12

theorem test_witness_FromPeer : ((fromPeer 0 (chkTOKENS + 2 ^ 16) (ep [(EPS_DIR, 4095, 1)])).any fun r => fits r &&
      r.2.get EPS_DIR 4095 = 1 && r.2.get EPS_STATE 4095 = epOPEN && pkSeq r.1 = r.2.get EPS_SEQ 4095 &&
      r.2.get EPS_CREDIT 4095 + r.2.get EPS_DUE 4095 + 1 ≤ r.2.get EPS_CREDITS 4095 + 1) = true ∧
    ((fromPeer 1 (chkTOKENS + 2 ^ 16) (ep [(EPS_DIR, 4095, 1)])).any fun r => fits r &&
      pkSeq r.1 ≠ r.2.get EPS_SEQ 4095) = true ∧
    ((fromPeer 0 (chkCREDIT + 2 ^ 16) (ep [])).any fun r => fits r && r.2.get EPS_DIR 4095 = 0 &&
      r.2.list HX_CPW (r.2.get EPS_PORT 4095) = []) = true ∧
    ((fromPeer 0 chkOPEN (ep [(EPS_STATE, 4095, 1)])).any fun r => fits r && r.2.get EPS_STATE 4095 = epOPENING) = true ∧
    ((fromPeer 0 chkPROBE (ep [(EPS_DIR, 4095, 1)])).any fits) = true ∧
    ((fromPeer 0 (chkREPLY + 2 ^ 24 * 5) (ep [(EPS_CNT, 4095, 5)])).any fun r => fits r &&
      r.2.get EPS_CNT 4095 % 2 ^ 32 ≤ bits (pkWord r.1 0) 24 32) = true ∧
    ((fromPeer 0 (chkREPLY + 2 ^ 24 * 4) (ep [(EPS_CNT, 4095, 5)])).any fun r => fits r &&
      bits (pkWord r.1 0) 24 32 < r.2.get EPS_CNT 4095 % 2 ^ 32) = true ∧
    ((fromPeer 0 chkBREAK (ep [])).any fun r => fits r && r.2.get EPS_STATE 4095 = epOPEN) = true := by decide

theorem test_witness_Remote : (let s := port7 4 [(HX_PSTAT.CHILD, 7, 1)]
     s.mode ≠ mDORMANT ∧ s.get HX_PSTAT.STATE 7 = hpUP ∧ s.get HX_PSTAT.CHILD 7 = 1) ∧
    ((arrived 8 clCSR (mkPacket (mkHeader 0 9 clCSR 0 1 7) 0 [0xFFFFC]) (port7 4 [])).hxHead 8 clCSR).any
      (fun r => pkId r.1 / 2 ^ 8 = 0) = true ∧
    ((arrived 8 clCSR (mkPacket (mkHeader 0 9 clCSR 0x100 1 7) 0 [0xFFFFC]) (port7 4 [])).hxHead 8 clCSR).any
      (fun r => pkId r.1 / 2 ^ 8 = 1) = true ∧
    ((arrived 8 clCSR (mkPacket (mkHeader 0 9 clCSR 0x200 1 7) 0 [5]) (port7 4 [])).hxHead 8 clCSR).any
      (fun r => pkId r.1 / 2 ^ 8 = 2 ∧ r.2.readOf (pkSeq r.1) = none ∧ bits (pkWord r.1 0) 32 2 ≠ 1) = true ∧
    ((arrived 8 clCSR (mkPacket (mkHeader 0 9 clCSR 0x200 1 7) 0 [5]) ((port7 4 []).setList PX_RREAD [7 * 2 ^ 24] 254)).hxHead 8 clCSR).any
      (fun r => (r.2.readOf (pkSeq r.1)).isSome = true) = true ∧
    ((arrived 8 clCSR (mkPacket (mkHeader 0 9 clCSR 0x300 1 7) 0 [5]) (port7 4 [])).hxHead 8 clCSR).any
      (fun r => pkId r.1 / 2 ^ 8 = 3 ∧ r.2.list HX_CSRQ = []) = true ∧
    (((port7 4 []).setList HX_CSRW [7] 254).list HX_CSRW 254 = 7 :: [] ∧ ((port7 4 []).setList HX_CSRW [7] 254).list HX_CSRQ = []) := by
  decide

theorem test_witness_TimeExchange : ((arrived 7 clTIME (mkPacket (mkHeader 0 9 clTIME 0 2 7) 0 [0, 0])
      (port7 4 [(BS_ADJCTL.OWNED, 0, 1), (HX_DSTAT.PARENT, 0, 7), (HX_TAT, 7, 2 ^ 80)])).hxHead 7 clTIME).any
      (fun r => pkId r.1 = 0 ∧ r.2.servoPort 7 = true ∧ r.2.get HX_TSTEP = 0 ∧ 2 ^ 80 ≤ r.2.get HX_TAT 7) = true ∧
    ((arrived 7 clTIME (mkPacket (mkHeader 0 9 clTIME 1 2 7) 0 [0, 0])
      (port7 4 [(BS_ADJCTL.OWNED, 0, 1), (HX_DSTAT.PARENT, 0, 7), (HX_TSTEP, 0, 1), (HX_XNUM, 0, 7)])).hxHead 7 clTIME).any
      (fun r => pkId r.1 = 1 ∧ r.2.servoPort 7 = true ∧ r.2.get HX_TSTEP = 1 ∧ r.2.get HX_XNUM = pkSeq r.1) = true ∧
    ((arrived 7 clTIME (mkPacket (mkHeader 0 9 clTIME 2 2 7) 0 [0, 0]) (port7 4 [])).hxHead 7 clTIME).any
      (fun r => pkId r.1 = 2) = true ∧
    ((arrived 7 clTIME (mkPacket (mkHeader 0 9 clTIME 3 2 7) 0 [0, 0])
      (port7 4 [(BS_ADJCTL.OWNED, 0, 1), (HX_DSTAT.PARENT, 0, 7), (HX_TSTEP, 0, 3), (HX_XNUM, 0, 7)])).hxHead 7 clTIME).any
      (fun r => pkId r.1 = 3 ∧ r.2.servoPort 7 = true ∧ r.2.get HX_TSTEP = 3 ∧ r.2.get HX_XNUM = pkSeq r.1) = true := by
  decide
/-- Enabled pair in RUN with a role and a state of synchronisation, port 7 its mirror port. -/
def pair (role sync : Nat) (l : List (Field × Nat × Nat)) : State :=
  st ([(PW_MODE.MODE, 0, 3), (HX_PCFG.EN, 7, 1), (HX_PSTAT.STATE, 7, 4), (HX_PSTAT.LIVE, 7, 1), (HX_PCFG.MIRROR, 7, 1),
    (MI_CFG.EN, 0, 1), (MI_STAT.ROLE, 0, role), (MI_STAT.SYNC, 0, sync)] ++ l)

theorem test_witness_Mirror_registers : (let s := st [(PW_MODE.MODE, 0, 3), (HX_PCFG.EN, 7, 1), (HX_PSTAT.STATE, 7, 4),
       (HX_PSTAT.LIVE, 7, 1), (HX_PCFG.MIRROR, 7, 1), (QM_CTL.JRES, 0, 1)]
     Awake s ∧ WritesAlways .host 0x28000 s ∧ s.get MI_CFG.EN = 0 ∧ bit 1 0 = true ∧
       ((s.writeReg .host MI_CFG.reg 0 1).put MI_CFG.EN 0).pairCheck = none ∧
       ((((s.put QM_CTL.JRES 0).writeReg .host MI_CFG.reg 0 1).put MI_CFG.EN 0).pairCheck).isSome = true) ∧
    (let s := pair 1 2 []
     WritesAlways .host 0x28010 s ∧ s.get MI_CFG.EN = 1 ∧ s.get MI_STAT.ROLE = rPRIMARY ∧ s.get MI_STAT.SYNC = 2) ∧
    (let s := pair 0 0 []
     WritesAlways .host 0x28010 s ∧ s.get MI_STAT.ROLE = rSTANDALONE) ∧
    (let s := st [(PW_MODE.MODE, 0, 3), (MI_WCFG.WIT_EN, 0, 1)]
     Writes .host 0x28044 s ∧ s.get MI_WCFG.WIT_EN = 1 ∧ s.get MI_WBOUND = 0 ∧ s.get MI_WHOLD.HOLDER = 0 ∧
       Writes .host 0x28048 s) := by
  simp only [Writes, WritesAlways, Awake]; decide

theorem test_witness_Mirror_time : (let s := pair 1 2 []
     s.mode = mHOLD ∨ s.mode = mRUN) ∧ (pair 1 2 []).get MI_CFG.WIT_MODE = 0 ∧
    (let s := pair 0 0 []
     s.get MI_SEEN = 0 ∧ s.get MI_STAT.ROLE = rSTANDALONE ∧ s.get MI_CFG.ROLE_REQ ≠ 2 ∧ s.get MI_WANT = 0) ∧
    (let s := pair 1 2 [(MI_STAT.PEER, 0, 1)]
     s.get MI_STAT.PEER = 1 ∧ s.get MI_MISS + 1 < s.get MI_TIME.HB_MISS ∧
       (s.put MI_TIME.HB_MISS 1).get MI_TIME.HB_MISS ≤ (s.put MI_TIME.HB_MISS 1).get MI_MISS + 1) ∧
    ((pair 2 3 []).get MI_STAT.ROLE = rSECONDARY ∧ (pair 2 3 []).get MI_STAT.SYNC ≠ 2 ∧ (pair 2 2 []).get MI_STAT.SYNC = 2) ∧
    (let s := pair 1 2 []
     s.journaling = true ∧ s.get MI_COPYING = 0 ∧ s.list DIRTY_LANES = [] ∧ s.get MI_JLEVEL.WORDS + 2 ≤ 131072) ∧
    (let s := pair 1 4 [(MI_CFG.WIT_MODE, 0, 1), (MI_STAT.LEASE, 0, 1)]
     s.get MI_CFG.WIT_MODE = 1 ∧ s.get MI_STAT.LEASE = 1 ∧ s.get MI_STAT.ROLE = rPRIMARY ∧ s.get MI_STAT.PEER = 0) := by
  decide

theorem test_witness_Mirror_packets : ((arrived 7 clMIR (mkPacket (mkHeader 9 8 clMIR 0x100 2 0) 0 [0, 5]) (pair 1 2 [])).mirHead 1).any
      (fun r => r.2.get MI_CFG.EN = 1 ∧ bits (pkWord r.1 1) 0 32 ≠ r.2.get MI_HASH.HASH) = true ∧
    ((arrived 7 clMIR (mkPacket (mkHeader 9 8 clMIR 0x200 1 0) 0 [5]) (pair 1 1 [(MI_COPYING, 0, 2), (MI_CEND, 0, 5)])).mirHead 2).any
      (fun r => r.2.journaling = true ∧ r.2.get MI_COPYING = 2 ∧ r.2.get MI_CEND ≤ bits (pkWord r.1 0) 0 32) = true ∧
    ((arrived 7 clMIR (mkPacket (mkHeader 9 8 clMIR 0x300 1 0) 0 [5]) (pair 2 2 [(MI_NEXTEP, 0, 6)])).mirHead 3).any
      (fun r => r.2.secondary = true ∧ r.2.get MI_STAT.SYNC = 2 ∧ r.2.get MI_NEXTEP = bits (pkWord r.1 0) 0 32 + 1) = true := by
  decide

/-- A core in a state in RUN, with instruction words at 0. -/
def core (state : Nat) (prog : List Nat) (l : List (Field × Nat × Nat)) : State :=
  (prog.zipIdx).foldl (fun s w => s.lgStore 0 w.2 w.1) (st ([(PW_MODE.MODE, 0, 3), (LG_STAT.STATE, 0, state), (LG_CTL.RUN, 0, 1)] ++ l))

theorem test_witness_Hart : (let s := core 1 [0x00500093] []
     let c := s.coreTime 3
     Awake s ∧ s.get LG_STAT.STATE = lgRUN ∧ s.coreBusy = false ∧ (s.mode = mHOLD ∨ s.mode = mRUN) ∧
       s.get RV_HALTREQ = 0 ∧ (s.put RV_HALTREQ 3).get RV_HALTREQ ≠ 0 ∧ bit (c.get RV_DCSR) 2 = false ∧
       (c.put LG_STAT.STATE lgRUN).rvIrq = none ∧ (c.put LG_STAT.STATE lgRUN).rvTrigger 4 (c.get RV_PC) = false ∧
       (c.put LG_STAT.STATE lgRUN).rvFetch = .inl (0x00500093, 4) ∧ 0x00500093 % 128 = 0x13 ∧ rvF3 0x00500093 = 0 ∧
       rvRd 0x00500093 ≠ 0) ∧
    (let c := (core 1 [0x73] []).coreTime 3
     (c.put LG_STAT.STATE lgRUN).rvFetch = .inl (0x73, 4) ∧ bits (c.get RV_CSR 0x305) 0 2 ≠ 1) ∧
    (let c := (core 1 [] [(LG_MTIME_LO.MTIME, 0, 5), (LG_MTIMECMP_LO.CMP, 0, 5), (LG_MTIMECMP_HI.CMP, 0, 0), (RV_CSR, 0x304, 0x80),
       (RV_MSTATUS, 0, 8)]).coreTime 3
     (c.put LG_STAT.STATE lgRUN).rvIrq = some 7) := by
  simp only [Awake]; decide

theorem test_witness_HartControl : (let s := core 1 [] [(LG_MTIMECMP_LO.CMP, 0, 5), (LG_MTIMECMP_HI.CMP, 0, 0), (RV_HALTREQ, 0, 3),
       (XT_IN, 0, 1), (IO_PCFG.EN, 46, 1), (IO_PCFG.STD, 46, 2)]
     s.mtimeRuns = true ∧ s.mtime < s.mtimecmp ∧ s.mtimecmp < 2 ^ 64 ∧ s.get RV_HALTREQ ≠ 0 ∧ s.coreRuns = true ∧
       s.coreBusy = false ∧ s.get XT_IN = 1 ∧ s.inputOn 46 = true) ∧
    (let s := core 3 [] [(RV_RESUMEREQ, 0, 1)]
     s.get RV_RESUMEREQ = 1 ∧ s.get LG_STAT.STATE = lgHALTED ∧ Writes .host 0x30000 s ∧ bit 0 0 = false ∧
       s.coreBusy = false ∧ Writes .host 0x3001C s ∧ Reads .host 0x3001C s ∧ s.lgMemOpen = true ∧
       (core 1 [] []).lgMemOpen = false) ∧
    (let s := core 0 [] [(LG_CTL.RUN, 0, 0)]
     bit 1 0 = true ∧ s.get LG_STAT.STATE = lgRESET ∧ (s.mode = mHOLD ∨ s.mode = mRUN) ∧ s.dmHolds = false) := by
  simp only [Writes, Reads, Awake]; decide

theorem test_witness_Peripherals : (let s := st [(PW_MODE.MODE, 0, 3), (IO_PCFG.EN, 21, 1), (IO_PCFG.EN, 22, 1), (LG_GPOE.OE, 0, 2 ^ 31)]
     let r := (periphCfg 5).1
     let f := (periphCfg 5).2.1
     let k := (periphCfg 5).2.2
     Writes .host (periphOff 5) s ∧ s.get f k = 0 ∧ bit 1 0 = true ∧
       (let u := (s.writeReg .host r k 1).put f 0 k
        (u.periphClaim lvLODGE 5 (periphReserved 5 1) (u.periphPins 5)).isRight = true) ∧
       (let u := (s.writeReg .host r k 7).put f 0 k
        (u.periphClaim lvLODGE 5 (periphReserved 5 7) (u.periphPins 5)).isLeft = true) ∧
       Writes .host 0x3180C s ∧ bit (s.get LG_GPOE.OE) 31 = true ∧ Writes .host 0x31804 s ∧ Writes .host 0x31808 s ∧
       Writes .host 0x32504 s ∧ Reads .lodgeM 0x32504 s ∧ s.icBest = none ∧
       ((((s.put LG_ICEN.EN 0xFFFFFFFF).put LG_ICPRIO.PRIO 3 0).put LG_ICTHR.THR 0)).mode = mRUN) := by
  simp only [Writes, Reads, Awake]; decide

theorem test_witness_Uart : (let s := st [(PW_MODE.MODE, 0, 3), (LG_UCFG.EN, 1, 1), (U_SHIFT, 0, 256)]
     Writes .host (0x31004 + 0x100) s ∧ s.get LG_UCFG.EN 1 = 1 ∧ s.get U_SHIFT 1 = 0 ∧ s.get U_SHIFT 0 ≠ 0 ∧
       (s.list LG_TX 0).length < 64 ∧ 64 ≤ ((s.setList LG_TX (List.replicate 64 1) 0).list LG_TX 0).length ∧
       Reads .host (0x31004 + 0x100) s ∧ s.peeks .host = false ∧ (s.setList LG_RX [5] 1).list LG_RX 1 = 5 :: [] ∧
       s.get LG_UCFG.LOOP 1 = 0 ∧ s.mode ≠ mDORMANT ∧ (s.list LG_RX 1).length < 64 ∧ s.get LG_UCFG.BITS7 1 = 0 ∧
       64 ≤ ((s.setList LG_RX (List.replicate 64 1) 1).list LG_RX 1).length ∧ 256 ≤ s.get U_SHIFT 0 ∧ s.list LG_TX 0 = []) := by
  simp only [Writes, Reads, Awake]; decide

theorem test_witness_SpiI2c : (let s := st [(PW_MODE.MODE, 0, 3), (LG_SCFG.EN, 1, 1), (LG_SCFG.CSEN, 1, 8)]
     Writes .host (0x31204 + 0x100) s ∧ s.get LG_SCFG.EN 1 = 1 ∧ bit (s.get LG_SCFG.CSEN 1) (bits 3 0 2) = true ∧
       s.get LG_SSTAT.BUSY 1 = 0 ∧ bit (s.get LG_SCFG.CSEN 1) (bits 2 0 2) = false ∧ Writes .host (0x31208 + 0x100) s ∧
       (s.list LG_TX 3).length < 32 ∧ Reads .host (0x31208 + 0x100) s ∧ s.peeks .host = false ∧
       (s.setList LG_RX [5] 3).list LG_RX 3 = 5 :: []) ∧
    (let s := (st [(LG_SSTAT.BUSY, 1, 1), (S_LEFT, 1, 2)]).setList LG_TX [9] 3
     s.get LG_SSTAT.BUSY 1 = 1 ∧ s.mode ≠ mDORMANT ∧ (s.list LG_RX 3).length < 32 ∧ s.list LG_TX 3 = 9 :: [] ∧
       2 ≤ s.get S_LEFT 1 ∧ (s.put S_LEFT 1 1).get S_LEFT 1 = 1) ∧
    (let s := st [(PW_MODE.MODE, 0, 3), (LG_ICFG.EN, 1, 1)]
     Writes .host (0x31404 + 0x100) s ∧ s.get LG_ICFG.EN 1 = 1 ∧ s.get LG_ISTAT.BUSY 1 = 0 ∧ bit 128 7 = true ∧
       s.get LG_ICFG.EN 0 = 0 ∧ Writes .host (0x31408 + 0x100) s ∧ (s.list LG_TX 5).length < 32 ∧
       Reads .host (0x31408 + 0x100) s ∧ (s.setList LG_RX [5] 5).list LG_RX 5 = 5 :: [] ∧ s.get LG_ISTAT.ALERT_LVL 1 = 0) ∧
    (let s := st [(LG_ISTAT.BUSY, 1, 1), (I_CMD, 1, 128), (I_LEFT, 1, 2), (LG_ICFG.EN, 1, 1), (LG_ICFG.TOUT_EN, 1, 1)]
     s.get LG_ISTAT.BUSY 1 = 1 ∧ s.icRead 1 = true ∧ 2 = s.get I_LEFT 1 ∧ (s.list LG_RX 5).length + 2 ≤ 32 ∧
       (s.put I_CMD 0 1).icRead 1 = false ∧ (s.put I_LEFT 0 1).get I_LEFT 1 = 0 ∧ s.get LG_ICFG.EN 1 = 1 ∧
       s.get LG_ICFG.TOUT_EN 1 = 1) := by
  simp only [Writes, Reads, Awake]; decide

theorem test_witness_Gpio : (let s := st [(PW_MODE.MODE, 0, 3), (LG_GPRISE.RISE, 0, 2 ^ 31), (IO_PCFG.EN, 79, 1), (IO_PCFG.STD, 79, 2)]
     bit (s.get LG_GPRISE.RISE) 31 = true ∧ s.mode ≠ mDORMANT ∧ s.inputOn (s.gpioPin 31) = true ∧
       bit (s.get LG_GPFALL.FALL) 31 = false) := by decide

theorem test_witness_MailboxWatchdog : (let s := st [(PW_MODE.MODE, 0, 3)]
     Writes .host 0x31A40 s ∧ isLodge .host = false ∧ s.get LG_MBSTAT.H2L_FULL = 0 ∧ Writes .lodgeM 0x31A40 s ∧
       isLodge .lodgeM = true ∧ s.get LG_MBSTAT.L2H_FULL = 0 ∧ Writes .host 0x31A44 s ∧ Writes .host 0x31900 s ∧
       s.get LG_WDCFG.EN = 0 ∧ bit 1 0 = true ∧ Writes .lodgeM 0x31904 s) ∧
    (let s := st [(PW_MODE.MODE, 0, 3), (LG_WDCFG.EN, 0, 1), (LG_STAT.STATE, 0, 1), (LG_CTL.RUN, 0, 1)]
     Awake s ∧ s.get LG_WDCFG.EN = 1 ∧ s.get LG_STAT.STATE = lgRUN ∧ s.get LG_WDSTAT.WARNED = 0 ∧
       (s.put LG_WDSTAT.WARNED 1).get LG_WDSTAT.WARNED = 1 ∧ s.get LG_WDCFG.ACTION = 0 ∧ s.get LG_CTL.RUN = 1 ∧
       (s.put LG_WDCFG.ACTION 1).get LG_WDCFG.ACTION = 1) := by
  simp only [Writes, Awake]; decide

theorem test_witness_DebugModule : (let s := st []
     Awake s ∧ s.mode ≠ mDORMANT ∧ s.get GH_DBGSTAT.LEVEL = 0 ∧ [0, 3, 4, 5, 6].contains 31 = false ∧
       [0, 3, 4, 5, 6].contains 6 = true ∧ s.get TAP_IR ≠ 0x12 ∧ (s.put TAP_IR 0x12).get TAP_IR = 0x12) ∧
    (let s := st [(GH_DBGSTAT.LEVEL, 0, 2), (DM_ACTIVE, 0, 1), (LG_STAT.STATE, 0, 3), (PW_MODE.MODE, 0, 2)]
     1 ≤ s.get GH_DBGSTAT.LEVEL ∧ s.get DM_ACTIVE = 1 ∧ s.get DM_POST = 0 ∧ bit (s.get DM_AUTO) 0 = false ∧
       (0x0023101F#32).toNat = 0x231000 + 31 ∧ s.get DM_CMDERR = 0 ∧ s.get LG_STAT.STATE = lgHALTED ∧
       (s.put LG_STAT.STATE 1).get LG_STAT.STATE ≠ lgHALTED ∧ s.get GH_DBGSTAT.LEVEL = 2 ∧ s.mode = mHOLD) ∧
    (let s := st [(DM_SBADDR, 0, 0x1003FFFC), (DM_SBOP, 0, 1)]
     s.get DM_SBADDR % 4 = 0 ∧ 0x10000000 ≤ s.get DM_SBADDR ∧ s.get DM_SBADDR < 0x10040000 ∧ s.get DM_SBOP = 1 ∧
       (s.put DM_SBOP 2).get DM_SBOP = 2) ∧
    (let s := st [(LG_CTL.RUN, 0, 1), (RV_WAIT, 0, 1), (RV_WINS, 0, 0x00052083)]
     s.get LG_CTL.RUN = 1 ∧ s.get RV_WAIT = 1 ∧ s.get AW_SB = 0 ∧ s.get DM_POST = 0 ∧ bit (s.get RV_DCSR) 2 = false ∧
       s.get RV_WINS % 128 = 0x03 ∧ rvRd (s.get RV_WINS) ≠ 0 ∧ rvF3 (s.get RV_WINS) = 2) := by
  simp only [Awake]; decide
/-- The host holds the command interface in HOLD, with ARG0. -/
def cmd (arg0 : Nat) (l : List (Field × Nat × Nat)) : State :=
  st ([(PW_MODE.MODE, 0, 2), (GH_CMDOWN.OWNER, 0, 3), (GH_ARG.ARG, 0, arg0)] ++ l)

theorem test_witness_GatehouseInterface : (let s := st [(PW_MODE.MODE, 0, 2)]
     Writes .host 0x28 s ∧ s.permitted .host 6 = true ∧ s.get GH_CMDOWN.OWNER = 7 ∧ s.permitted .fabric 6 = false ∧
       Writes .fabric 0x28 s ∧ s.get GH_CMDOWN.OWNER ≠ Master.host.code) ∧
    (let s := cmd 0 []
     s.get GH_CMDOWN.OWNER = Master.host.code ∧ s.get GH_CMDOWN.OWNER ≠ 7 ∧ s.get GH_CMDOWN.OWNER ≠ Master.lodgeM.code ∧
       s.get GH_STATUS.STATE ≠ 1 ∧ s.get GH_STATUS.STATE ≠ 4 ∧ s.get CMD_OP = 0 ∧
       (s.put GH_STATUS.STATE 4).get GH_STATUS.STATE = 4) := by
  simp only [Writes, Awake]; decide

theorem test_witness_Keys : (let a := 7 + 2 ^ 8 + 2 ^ 16 * 3
     let s := cmd a []
     Issues .host 0x01 s ∧ bit a 8 = true ∧ s.get GH_IDENT.SEALED = 0 ∧ 6 ≤ bits a 0 3 ∧
       s.get GH_KSTAT.KILLED (bits a 0 3) = 0 ∧ s.keyPending (bits a 0 3) = false ∧ s.get GH_KSTAT.USE (bits a 0 3) = 0 ∧
       Issues .host 0x01 (s.put GH_IDENT.SEALED 1)) ∧
    (let s := cmd 2 []
     Issues .host 0x02 s ∧ s.get GH_KSTAT.USE 2 = 0 ∧ Issues .host 0x02 (s.put GH_KSTAT.USE 1 2)) ∧
    (let s := cmd (2 ^ 4) [(GH_KSTAT.STATE, 1, 1), (GH_KSTAT.USAGE, 1, 1)]
     Issues .host 0x03 s ∧ s.get GH_IDENT.SEALED = 0 ∧ s.keyBad 1 0 = none) ∧
    (let s := st [(CMD_OP, 0, 1), (CMD_ARG, 0, 7 + 2 ^ 4)]
     s.get CMD_OP = 1 ∧ s.get CMD_RES = 0 ∧ bits (s.get CMD_ARG 0) 0 3 ≠ bits (s.get CMD_ARG 0) 4 3 ∧
       s.get GH_KSTAT.USE (bits (s.get CMD_ARG 0) 0 3) = 0) := by
  simp only [Issues, Writes, Awake]; decide

theorem test_witness_LoadCommands : (Issues .host 0x04 (cmd 0x5A45524F []) ∧ (cmd 0x5A45524F []).get UP_SLOT < 8) ∧
    Issues .host 0x0C (cmd 0 []) ∧ Issues .host 0x05 (cmd 2 [(PW_MODE.MODE, 0, 3)]) ∧
    (let s := (cmd 0 [(PW_MODE.MODE, 0, 1), (MODE_PINS, 0, 1)]).store .cfgSpace 1 4
     Issues .host 0x05 s ∧ s.get CT_ON = 0 ∧ s.get BV_CSSTAT.REPAIRING = 0 ∧ s.busMaster = true ∧ bits 0 0 2 = 0) ∧
    (let a := 1 + 4 + 2 ^ 8 * 63
     let s := cmd a [(PW_MODE.MODE, 0, 3), (FB_PSTAT.STATE, 63, 2), (FB_PSTAT.HOLDER, 63, 1)]
     Issues .host 0x05 s ∧ bits a 0 2 = 1 ∧ s.get MI_CFG.EN = 0 ∧ s.get FB_PSTAT.STATE (bits a 8 6) = pFENCED ∧
       s.get FB_PSTAT.HOLDER (bits a 8 6) = hUSER ∧ s.get FB_PSTAT.REPAIR (bits a 8 6) = 0) := by
  simp only [Issues, Writes, Awake]; decide

theorem test_witness_Signers : (let s := cmd 3 []
     Issues .host 0x0D s ∧ s.get GH_PKSTAT.STATE 3 = pkEMPTY ∧ (∀ i : Fin 4, s.get GH_PKSTAT.STATE i ≠ pkVALID) ∧
       (s.put GH_PKSTAT.STATE 1 3).get GH_PKSTAT.STATE 3 ≠ pkEMPTY) ∧
    (let s := cmd 3 [(GH_PKSTAT.STATE, 3, 1), (GH_PKSTAT.STATE, 2, 1), (GH_PKSTAT.UPDATE, 2, 1)]
     Issues .host 0x0E s ∧ s.get GH_PKSTAT.STATE 3 = pkVALID ∧ s.updateSigner 3 = true ∧ bits 3 8 2 ≠ 3) ∧
    ((st [(CMD_OP, 0, 0x0E)]).get CMD_RES = 0 ∧ (st [(CMD_OP, 0, 0x0E)]).get DBG_BYPK = 0) ∧
    (let s := cmd 0x5345414C [(GH_PKSTAT.STATE, 2, 1), (GH_PKSTAT.UPDATE, 2, 1), (GH_KSTAT.STATE, 1, 1), (GH_KSTAT.USAGE, 1, 3)]
     Issues .host 0x0F s ∧ s.get GH_IDENT.SEALED = 0 ∧ s.updateSigner 4 = true ∧ s.get GH_KSTAT.STATE 1 = ksVALID ∧
       bit (s.get GH_KSTAT.USAGE 1) 1 = true ∧ (cmd 0x5345414C []).updateSigner 4 = false) := by
  simp only [Issues, Writes, Awake]; decide

theorem test_witness_DebugUnlock : (let s := cmd (2 * 2 ^ 4) [(GH_POLICY.DBG_OPEN, 0, 1)]
     Issues .host 0x0A s ∧ s.get DBG_FAILS < 4 ∧ bit (2 * 2 ^ 4) 0 = false ∧ s.get GH_IDENT.SEALED = 0 ∧
       s.get GH_POLICY.DBG_OPEN = 1 ∧ Issues .host 0x0A (s.put GH_IDENT.SEALED 1)) ∧
    (Issues .host 0x0A (cmd 1 []) ∧ bit 1 0 = true ∧ (cmd 1 []).get GH_DBGSTAT.CHALLENGED = 0) ∧
    Issues .host 0x0B (cmd 0 []) ∧
    (let s := st [(GH_POLICY.UNLOCK_HOST, 0, 1)]
     Writes .host 0x1C s ∧ s.mayUnlock .host = true ∧ s.get GH_STATUS.UNLOCK_OPEN = 0) ∧
    (let s := st [(GH_POLICY.UNLOCK_HOST, 0, 1), (UNL_LEFT, 3, 33)]
     s.answers .host 0x1C = true ∧ s.denied .host 1 = false ∧ 2 ≤ s.get UNL_LEFT 3 ∧ s.get UNL_LEFT 3 ≤ 33 ∧
       s.get UNL_ABORT 3 = 0 ∧ s.mayUnlock .host = true) := by
  simp only [Issues, Writes, Awake]; decide

theorem test_witness_Tamper : (let s := st [(GH_TAMPCFG.MESH_EN, 0, 1), (BV_TAMPEN.EN, 0, 8), (GH_TAMPCFG.MESH, 0, 1),
       (GH_TAMPCFG.SENSOR, 0, 1)]
     s.get GH_TAMPCFG.MESH_EN = 1 ∧ s.get GH_TAMPCFG.MESH = 1 ∧ s.drowsy = false ∧ s.get UP_SLOT < 8 ∧
       bit (s.get BV_TAMPEN.EN) 3 = true ∧ bit (s.get BV_TAMPEN.EN) 2 = false ∧ s.get GH_TAMPCFG.SENSOR = 1) := by decide

/-- A container of a payload of n bytes that the host sends, in its stream; `on` 1 a load, 2 a rewrite of plot 63. -/
def stream (on n : Nat) (l : List (Field × Nat × Nat)) : State :=
  (st ([(PW_MODE.MODE, 0, 3), (CT_ON, 0, on), (GH_CFGSTAT.STAGE, 0, 2), (CT_SRC, 0, 2), (CT_PLOT, 0, 63), (CT_HDR_OK, 0, 1)] ++
    l)).setList CT_HEADER (List.replicate 20 0 ++ bytesLE 4 n ++ List.replicate 232 0)

def judgedOk : CtJudged → Bool
  | .ok _ => true
  | _ => false

def judgedBad : CtJudged → Bool
  | .bad _ _ => true
  | _ => false

def checkWords : List Word := [4, BitVec.ofNat 32 ((bytesLE 4 4).foldl crcByte (2 ^ 32 - 1) ^^^ 0xFFFFFFFF)]

theorem test_witness_Streams : Streams 1 (1 :: List.replicate 64 0) 1 (stream 1 300 []) ∧
    Streams 2 [0x7FF02, 0x1FFF, 5, 6] 524034 (stream 1 100 []) ∧
    Streams 3 [0x40003, 5] 262147 (stream 1 100 []) ∧
    Streams 7 [0x40007, 1, 5] 262151 (stream 1 100 []) ∧
    Streams 4 checkWords 4 (stream 1 100 [(CT_CRC, 0, 2 ^ 32 - 1)]) ∧
    Streams 5 [0x40005, 1, 1, 1000000] 262149 (stream 1 100 []) ∧
    Streams 6 [0x106, 0] 262 (stream 1 100 []) ∧
    Streams 15 [15, 0, 0, 0, 0] 15 (stream 1 4 [(CT_AFTER, 0, 1)]) ∧
    Streams 1 [0x301] 769 (stream 2 100 []) := by
  simp only [Streams, Awake]
  refine ⟨?_, ?_, ?_, ?_, ?_, ?_, ?_, ?_, ?_⟩ <;> decide

theorem test_witness_Judged : judgedOk (Judged (1 :: List.replicate 64 0) (stream 1 300 [])) = true ∧
    judgedOk (Judged [0x7FF02, 0x1FFF, 5, 6] (stream 1 100 [])) = true ∧
    judgedOk (Judged [0x40003, 5] (stream 1 100 [])) = true ∧ judgedOk (Judged [0x40007, 1, 5] (stream 1 100 [])) = true ∧
    judgedOk (Judged checkWords (stream 1 100 [(CT_CRC, 0, 2 ^ 32 - 1)])) = true ∧
    judgedOk (Judged [0x40005, 1, 1, 1000000] (stream 1 100 [])) = true ∧
    judgedOk (Judged [0x106, 0] (stream 1 100 [])) = true ∧
    judgedOk (Judged [15, 0, 0, 0, 0] (stream 1 4 [(CT_AFTER, 0, 1)])) = true ∧
    judgedBad (Judged [0x0301] (stream 2 100 [])) = true ∧ (stream 2 100 []).get CT_PLOT < 64 ∧
    (stream 2 100 []).get CT_SLOT < 8 := by decide

theorem test_witness_Container : (let s := stream 1 100 [(CT_PLEFT, 0, 1), (CT_POLL, 0, 0)]
     (s.get CT_ON = 1 ∨ s.get CT_ON = 2) ∧ s.get CT_PLEFT ≠ 0 ∧
       ((busRead .gatehouse 0 s).1 &&& s.get CT_PMASK) = s.get CT_PVAL ∧
       ((busRead .gatehouse 0 (s.put CT_PVAL 1)).1 &&& (s.put CT_PVAL 1).get CT_PMASK) ≠ (s.put CT_PVAL 1).get CT_PVAL ∧
       (busRead .gatehouse 0 s).2.get CT_PLEFT = 1) ∧
    (let s := st [(CT_ON, 0, 1), (CT_SRC, 0, 2), (CT_LEN, 0, 272), (PX_FREED, 0, 1)]
     let h := bytesLE 4 (magic 0x4C 0x48 0x4C 0x42) ++ [1, 0, 0, 0, 0x36, 0x15, 0xA1, 1] ++ List.replicate 29 0 ++ [1] ++
       List.replicate 214 0
     s.get CT_HDR_OK = 0 ∧ s.get CT_SRC = 2 ∧ 256 ≤ s.get CT_LEN ∧ h.length = 256 ∧ bit (h.getD 7 0) 1 = false ∧
       s.headerBad h (fun kind target => if s.get CT_ON = 1 then kind = 0 else kind = 1 && target = s.get CT_PLOT)
         (s.get CT_LEN) = none ∧
       272 + ofBytesLE ((h.drop 20).take 4) ≤ s.get CT_LEN ∧ bit (h.getD 7 0) 0 = false ∧ s.get PX_FREED = 1) ∧
    (st []).get CT_ON = 0 := by decide
theorem test_witness_Release : (let s := st [(PW_MODE.MODE, 0, 2)]
     Awake s ∧ Writes .host 0x4 s ∧ s.releaseCheck.isRight = true ∧ (s.put PW_MODE.BUSY 1).releaseCheck.isLeft = true) ∧
    (let s := st [(PW_MODE.MODE, 0, 3), (REL_STEP, 0, 2), (REL_WANT, 0, 0x8001)]
     s.get REL_STEP = 2 ∧ s.releaseLeft = 0 :: [15] ∧ (s.put REL_WANT 0).releaseLeft = [] ∧
       (st [(REL_STEP, 0, 1)]).get REL_STEP = 1) ∧
    (let s := st [(PW_MODE.MODE, 0, 3)]
     s.get FLASH_OK = 0 ∧ s.awaitsFlash = false ∧ s.get UP_SAVE = 0 ∧ s.get UP_STEP = 0 ∧ s.get UP_ASKED = 0 ∧
       s.get CT_ON = 0 ∧ (s.put FLASH_OK 1).get FLASH_OK ≠ 0 ∧ s.cfgAwaits = false) := by
  simp only [Writes, Awake]; decide

/-- The packet of an ID at a port, for a neighbour or for all. -/
def upd (n id seq : Nat) (ws : List Nat) (s : State) : State :=
  arrived n clUPD (mkPacket (mkHeader (if id < 0x14 then 0 else 255) 9 clUPD id ws.length seq) 0 ws) s

theorem test_witness_NeighbourLoad : ((upd 7 0 0 [0] (st [])).updHead 7 0).any (fun r => r.2.get SV_ON = 0) = true ∧
    ((upd 7 0 0 [0] (st [(SV_ON, 0, 1)])).updHead 7 0).any (fun r => r.2.get SV_ON = 1) = true ∧
    (let s := st [(CT_ON, 0, 1), (CT_SRC, 0, 3), (CT_RX, 0, 5)]
     s.cfgAwaits = true ∧
       ((upd 0 1 5 [1, 2] s).updHead 0 1).any (fun r => r.2.cfgAwaits = true ∧ pkSeq r.1 = r.2.get CT_RX) = true ∧
       ((upd 0 1 4 [1, 2] s).updHead 0 1).any (fun r => r.2.cfgAwaits = true ∧ pkSeq r.1 ≠ r.2.get CT_RX) = true ∧
       ((upd 0 2 5 [16] s).updHead 0 2).any (fun r => r.2.cfgAwaits = true ∧ pkSeq r.1 = r.2.get CT_RX ∧
         r.2.get CT_HDR_OK = 0) = true ∧
       ((upd 0 3 0 [0] s).updHead 0 3).any (fun r => r.2.cfgAwaits = true) = true) := by decide

theorem test_witness_UpdateBegin : (let s := cmd 0 []
     Issues .host 0x06 s ∧ s.upActive = false ∧ s.get UP_SLOT = 0 ∧ bits 0 0 2 = 0 ∧ s.busMaster = false ∧
       (s.store .cfgSpace 1 4).busMaster = true ∧ Issues .host 0x06 (s.put GH_UPSTAT.STATE 1) ∧
       (s.put GH_UPSTAT.STATE 1).upActive = true) ∧
    (let s := cmd 1 []
     Issues .host 0x06 s ∧ ¬bits 1 0 2 = 0 ∧ s.get UP_STG 0 = 0 ∧ s.get UP_STG 1 = 0) ∧
    (let s := st [(PW_MODE.MODE, 0, 0)]
     Writes .host 0xCC s ∧ s.mode = mRESCUE ∧ s.get GH_STAGESTAT.FREE0 = 1 ∧ 0 = s.get UP_HALF ∧ s.get UP_LAST ≠ 1 ∧
       bits 0x40000 0 19 = 0x40000 ∧ bits 0x40000 19 1 = 0 ∧ s.get UP_STEP = 0 ∧ bits 0x80000 19 1 ≠ s.get UP_HALF) := by
  simp only [Issues, Writes, Awake]; decide

theorem test_witness_UpdatePackets : ((upd 7 0x10 0 [5, 0, 300] (st [])).updHead 7 0x10).any (fun r => r.2.mode ≠ mTEST ∧
      r.2.mode ≠ mDORMANT ∧ r.2.upActive = false ∧ r.2.get UP_SLOT = 0) = true ∧
    ((upd 7 0x10 0 [5, 0, 300] (st [(UP_ASKED, 0, 1), (UP_NEWID, 0, 6)])).updHead 7 0x10).any (fun r =>
      r.2.upActive = true ∧ pkWord r.1 0 ≠ if r.2.get UP_ASKED = 1 then r.2.get UP_NEWID else r.2.upId) = true ∧
    ((upd 7 0x11 0 [1] (st [(UP_ASKED, 0, 1), (UP_UP, 0, 7), (UP_PLEN, 0, 300)])).updHead 7 0x11).any (fun r =>
      r.2.get UP_ASKED = 1 ∧ r.2.get UP_UP = 7 ∧ (r.2.list UP_PRO).length < r.2.get UP_PLEN ∧ pkSeq r.1 = r.2.get UP_PSEQ ∧
        (r.2.list UP_PRO ++ (pkWords r.1).flatMap (bytesLE 8)).length < r.2.get UP_PLEN) = true ∧
    ((upd 7 0x13 0 [5, 2 ^ 32 - 1] (st [(GH_UPPKG_LO.ID, 0, 5), (UP_DOWN, 0, 128)])).updHead 7 0x13).any (fun r =>
      pkWord r.1 0 = r.2.upId ∧ bit (r.2.get UP_DOWN) 7 = true ∧ pkWord r.1 1 % 2 ^ 32 = 2 ^ 32 - 1) = true ∧
    ((upd 7 0x13 0 [5, 2 + 2 ^ 32 * 4] (st [(GH_UPPKG_LO.ID, 0, 5), (UP_DOWN, 0, 128), (UP_NEXT, 0, 2)])).updHead 7 0x13).any
      (fun r => pkWord r.1 1 % 2 ^ 32 ≠ 2 ^ 32 - 1 ∧ pkWord r.1 1 % 2 ^ 32 ≤ r.2.get UP_NEXT ∧
        r.2.get UP_DACK 7 ≤ pkWord r.1 1 % 2 ^ 32) = true ∧
    ((upd 7 0x13 0 [6, 0] (st [(GH_UPPKG_LO.ID, 0, 5)])).updHead 7 0x13).any (fun r => pkWord r.1 0 ≠ r.2.upId) = true ∧
    ((upd 8 0x14 0 [5, 0, 2] (st [(GH_UPPKG_LO.ID, 0, 5), (GH_UPSTAT.COORD, 0, 1), (UP_STEP, 0, 2)])).updHead 8 0x14).any (fun r =>
      repBit (bits (pkWord r.1 2) 0 4) = some 0 ∧ pkWord r.1 0 = r.2.upId ∧ r.2.get GH_UPSTAT.COORD = 1 ∧
        r.2.get UP_STEP = 2) = true ∧
    ((upd 8 0x14 0 [6, 0, 2] (st [])).updHead 8 0x14).any (fun r => pkWord r.1 0 ≠ r.2.upId ∧ r.2.get GH_UPSTAT.COORD ≠ 1) = true ∧
    (let s := st [(GH_UPSTAT.STATE, 0, 1)]
     s.get GH_UPSTAT.STATE = usRECEIVING ∧ s.upBlocks ≤ s.get UP_NEXT ∧
       (let u := s.setList UP_PRO (List.replicate 32 0 ++ [3])
        u.get UP_NEXT < u.upBlocks) ∧ s.get GH_UPSTAT.COORD ≠ 1 ∧ s.get GH_UPSTAT.STATE ≠ usIDLE) := by decide

theorem test_witness_UpdateCommit : (Issues .host 0x07 (cmd 0 []) ∧ (cmd 0 []).get GH_UPSTAT.COORD ≠ 1) ∧
    (let s := cmd 0 [(GH_UPSTAT.COORD, 0, 1), (UP_STEP, 0, 2), (GH_UPSTAT.STATE, 0, 2)]
     Issues .host 0x07 s ∧ s.get GH_UPSTAT.COORD = 1 ∧ s.get UP_STEP = 2 ∧ s.get GH_UPSTAT.STATE = usSTAGED ∧
       (∀ i, i < (s.upEntries 1).length → bit (s.get UP_REP i) 0 = true ∧ bit (s.get UP_REP i) 2 = false) ∧
       (s.put GH_UPSTAT.STATE 1).get GH_UPSTAT.STATE ≠ usSTAGED ∧ Issues .host 0x08 s ∧ s.get UP_SLOT < 8 ∧
       s.get GH_UPSTAT.STATE ∉ usLATE ∧ s.get GH_UPSTAT.STATE ≠ usIDLE ∧ s.get GH_UPSTAT.STATE ≠ usINDOUBT) ∧
    (let s := cmd 1 [(GH_UPSTAT.STATE, 0, 7)]
     Issues .host 0x08 s ∧ s.get GH_UPSTAT.STATE = usINDOUBT ∧ bit 1 0 = true ∧ Issues .host 0x08 (cmd 0 [(GH_UPSTAT.STATE, 0, 7)])) ∧
    (let s := st [(UP_STEP, 0, 3), (GH_UPSTAT.STATE, 0, 5), (UP_WAITS, 0, 1)]
     s.get UP_STEP = 3 ∧ s.get UP_SLOT < 8 ∧ s.get GH_UPSTAT.STATE = usCOMMITTED ∧ s.get UP_WAITS = 1) := by
  simp only [Issues, Writes, Awake]; decide

/-- A target whose session has package 5. -/
def session (state : Nat) (l : List (Field × Nat × Nat)) : State :=
  st ([(GH_UPPKG_LO.ID, 0, 5), (GH_UPSTAT.STATE, 0, state)] ++ l)

theorem test_witness_CommitPackets : ((upd 8 0x15 0 [5] (session 2 [])).updHead 8 0x15).any (fun r => pkWord r.1 0 = r.2.upId ∧
      r.2.get GH_UPSTAT.STATE = usSTAGED) = true ∧
    ((upd 8 0x16 0 [5, 0, 0] (session 4 [(UP_STEP, 0, 3)])).updHead 8 0x16).any (fun r => pkWord r.1 0 = r.2.upId ∧
      r.2.get UP_STEP = 3 ∧ r.2.get GH_UPSTAT.STATE = usPREPARED ∧ r.2.get UP_SLOT < 8 ∧ bit (pkWord r.1 2) 0 = false) = true ∧
    ((upd 8 0x16 0 [5, 0, 1] (session 4 [(UP_STEP, 0, 3), (GH_UPSTAT.COORD, 0, 1)])).updHead 8 0x16).any (fun r =>
      bit (pkWord r.1 2) 0 = true ∧ ((r.2.upNote (pkWord r.1 1) (pkSrc r.1) (some 3)).upEntries 1).length = 0) = true ∧
    ((upd 8 0x17 0 [5, 2 ^ 30, 1] (session 4 [(BS_TBSTAT.RUNNING, 0, 1), (BS_TBSTAT.EPOCH, 0, 1)])).updHead 8 0x17).any (fun r =>
      pkWord r.1 0 = r.2.upId ∧ r.2.get GH_UPSTAT.COORD ≠ 1 ∧ r.2.get GH_UPSTAT.STATE = usPREPARED ∧ r.2.get UP_SLOT < 8 ∧
        bit (pkWord r.1 2) 0 = true ∧ r.2.timeQualifies = true ∧ r.2.now / 2 ^ 16 < pkWord r.1 1 ∧ r.2.upRank = 0 ∧
        r.2.get RESETTING = 0) = true ∧
    ((upd 8 0x18 0 [6] (session 2 [(UP_ASKED, 0, 1), (UP_NEWID, 0, 6)])).updHead 8 0x18).any (fun r => r.2.get UP_ASKED = 1 ∧
      pkWord r.1 0 = r.2.get UP_NEWID) = true ∧
    ((upd 8 0x18 0 [5] (session 2 [])).updHead 8 0x18).any (fun r => r.2.get UP_ASKED ≠ 1 ∧ pkWord r.1 0 = r.2.upId ∧
      r.2.get GH_UPSTAT.STATE ∉ usLATE ∧ r.2.get GH_UPSTAT.COORD ≠ 1) = true := by decide

/-- Package 5 with one target entry: die 0, rank 2. -/
def ranked (state : Nat) : State :=
  (session state []).setList UP_PRO (List.replicate 6 0 ++ [8] ++ List.replicate 21 0 ++ [1] ++ List.replicate 227 0 ++ [1, 0, 2] ++
    List.replicate 61 0)

/-- A flash with a boot record: area 1, on trial. -/
def onTrial (s : State) : State := ((s.put FLASH_OK 1).put FLASH_SIZE (2 ^ 28)).writeBoot 1 true true

theorem test_witness_Ranks : (ranked 5).upRank = 2 ∧
    ((upd 8 0x19 0 [5, 2] (ranked 5)).updHead 8 0x19).any (fun r => pkWord r.1 0 = r.2.upId ∧ r.2.get GH_UPSTAT.COORD ≠ 1 ∧
      r.2.upRank = bits (pkWord r.1 1) 0 8 ∧ r.2.get GH_UPSTAT.STATE = usCOMMITTED ∧ r.2.get MI_CFG.EN = 0 ∧
      r.2.get RESETTING = 0) = true ∧
    ((upd 8 0x1A 0 [5] (session 3 [])).updHead 8 0x1A).any (fun r => r.2.get UP_SLOT < 8 ∧
      r.2.get GH_UPSTAT.STATE = usPASS) = true ∧
    ((upd 8 0x1A 0 [5] (session 10 [])).updHead 8 0x1A).any (fun r => r.2.get GH_UPSTAT.STATE = usSTARTED ∧
      r.2.get SET_MIGRATED ≠ 1) = true ∧
    ((upd 8 0x1C 0 [5] (session 0 [])).updHead 8 0x1C).any (fun r => r.2.get FLASH_OK ≠ 1) = true ∧
    ((upd 8 0x1D 0 [5, 1] (session 7 [])).updHead 8 0x1D).any (fun r => pkWord r.1 0 = r.2.upId ∧
      r.2.get GH_UPSTAT.STATE = usINDOUBT ∧ r.2.get UP_SLOT < 8 ∧ r.2.get RESETTING = 0 ∧ bit (pkWord r.1 1) 0 = true) = true := by
  decide

theorem test_witness_Trial : (let s := onTrial (session 6 [(UP_BOOT, 0, 2), (GH_UPSTAT.COORD, 0, 1), (UP_STEP, 0, 5), (GH_UPTRIAL.REMAIN, 0, 1)])
     s.brTrial = true ∧ s.get FLASH_OK = 1 ∧ s.get UP_BOOT = s.brActive + 1 ∧ (s.put UP_BOOT 1).get UP_BOOT ≠ s.brActive + 1 ∧
       s.get UP_STEP = 5 ∧ s.get GH_UPTRIAL.REMAIN ≠ 0 ∧ s.get UP_SLOT < 8 ∧ s.get GH_UPSTAT.STATE ≠ usPASS) := by
  decide

theorem test_witness_Revert : ((upd 8 0x1B 0 [5] (session 5 [])).updHead 8 0x1B).any (fun r => pkWord r.1 0 = r.2.upId ∧
      r.2.get GH_UPSTAT.COORD ≠ 1 ∧ r.2.get UP_SLOT < 8 ∧ r.2.get RESETTING = 0 ∧ r.2.get GH_UPSTAT.STATE ≠ usPASS) = true := by
  decide

theorem test_witness_Settings : (let s := st [(PW_MODE.MODE, 0, 2), (GH_STATUS.UNLOCK_OPEN, 0, 1), (GH_STATUS.UNLOCK_ID, 0, 3),
       (GH_SETADDR.INC, 0, 1), (FLASH_OK, 0, 1)]
     Writes .host 0xD8 s ∧ s.unlocked .host = true ∧ Reads .host 0xD8 s ∧ s.peeks .host = false ∧ s.get GH_SETADDR.INC = 1 ∧
       (st []).unlocked .host = false ∧ Writes .host 0xDC s ∧ s.get GH_UPSTAT.STATE ≠ usTRIAL ∧
       s.get GH_UPSTAT.STATE ≠ usSTARTED ∧ s.get FLASH_OK = 1 ∧ s.setRecords.isSome = true ∧
       (s.store .settings 19 255).setRecords = none) := by
  simp only [Writes, Reads, Awake]; decide
theorem test_witness_Scrubber : (let s := st [(PW_MODE.MODE, 0, 3), (BV_CSCFG.EN, 0, 1), (CS_AT, 0, 12582911), (BV_CSCFG.UE_ACT, 0, 1)]
     let ad := 128 * csTile (s.get CS_AT) + s.get CS_AT % 128
     s.csRuns = true ∧ s.csSuspended = false ∧ s.get CS_AT < csWords ∧ s.get CS_AT + 1 = csWords ∧
       s.get FB_PSTAT.STATE (csPlot (s.get CS_AT)) = pLIVE ∧ (cfgCorrect (s.load .config ad ^^^ 2 ^ 31)).isSome = true ∧
       cfgSyndrome (s.load .config ad ^^^ 2 ^ 31) ≠ 0 ∧ cfgCorrect (s.load .config ad ^^^ 3) = none ∧
       cfgSyndrome (s.load .config ad ^^^ 3) ≠ 0 ∧ s.get CS_DONE 63 ≠ 1 ∧ (s.put CT_ON 1).csSuspended = true) ∧
    (st [(PW_MODE.MODE, 0, 3), (BV_CSCFG.EN, 0, 0)]).csRuns = false := by decide

theorem test_witness_Repairs : (let s := st [(REP_STEP, 0, 2), (BV_CSSTAT.REPAIR_PLOT, 0, 63)]
     s.get REP_STEP = 2 ∧ s.list REP_Q = [] ∧ ((s.store .flash 7 0).repRun 63).1.isSome = true ∧ s.get REP_SLOT < 8 ∧
       s.get FB_PSTAT.REPAIR 63 ≠ 1) ∧
    (let s := st [(PW_MODE.MODE, 0, 3), (FB_PSTAT.STATE, 63, 2), (FB_PSTAT.HOLDER, 63, 3), (BV_DLSTAT.BUSY, 0, 1)]
     Writes .host 0x34014 s ∧ s.mode = mRUN ∧ s.get FB_PSTAT.STATE 63 = pFENCED ∧ s.get FB_PSTAT.HOLDER 63 = hBELVEDERE ∧
       s.get FB_PSTAT.HOLDER 0 ≠ hBELVEDERE ∧ s.get BV_DLSTAT.BUSY = 1 ∧ s.get AVS_PHASE ≠ 11) ∧
    (let s := st []
     s.mode ≠ mHOLD ∧ s.mode ≠ mRUN ∧ (s.put PW_MODE.MODE 0).answers .host 0x34014 = true) := by
  simp only [Writes, Awake]; decide

theorem test_witness_Smbus : (let s := st [(BV_SMBCFG.EN, 0, 1)]
     s.get BV_SMBCFG.EN = 1 ∧ s.mode ≠ mDORMANT ∧ s.get BV_SMBCFG.PEC_REQ ≠ 1 ∧ (15 : BitVec 8).toNat < 16 ∧
       16 ≤ (16 : BitVec 8).toNat ∧ (6 : BitVec 8).toNat < 7 ∧
       [2 * s.get BV_SMBCFG.ADDR, 0x11, 15].foldl pecByte 0 < 256 ∧ s.alertDriven = false ∧
       (0x11 : BitVec 8).toNat ∈ smbReads ∧ (0xFF : BitVec 8).toNat ∉ smbReads ∧ (0xFF : BitVec 8).toNat ∉ smbWrites) ∧
    (let s := st [(BV_SMBCFG.EN, 0, 1), (BV_ALERT.TAMPER, 0, 1), (BV_ALERTMASK.MASK, 0, 1023)]
     s.alertDriven = true ∧ s.alertBits < 2 ^ 10) ∧
    (let s := st [(BV_SMBCFG.EN, 0, 1), (PW_MODE.MODE, 0, 4)]
     s.mode = mDORMANT ∧ 0x01 ∈ smbDormant ∧ 0x30 ∉ smbDormant) := by decide

theorem test_witness_Dormant : (let s := st [(PW_MODE.MODE, 0, 3), (PW_DMCFG.WAKEN_EN, 0, 1)]
     Awake s ∧ Writes .host 0x1300 s ∧ s.dmCheck = none ∧ (s.put PW_DMCFG.WAKEN_EN 0).dmCheck.isSome = true ∧
       (s.put PW_DMCFG.WAKEN_EN 0).get PW_DMCFG.WAKEN_EN ≠ 1) ∧
    (let s := st [(PW_MODE.MODE, 0, 3), (DM_STEP, 0, 1), (PW_DMSTAT.PHASE, 0, 1), (PW_DMCFG.WAKEN_EN, 0, 1)]
     s.get DM_STEP = 1 ∧ s.dmReady = true ∧ s.mode ≠ mDORMANT ∧ s.get PW_DMSTAT.PHASE = dmENTERING ∧
       s.get PW_DMCFG.WAKEN_EN = 1) ∧
    (let s := st [(DM_STEP, 0, 2)]
     s.get DM_STEP = 2 ∧ s.coreBusy = false ∧ ∀ p : Fin 64, s.get FB_PSTAT.STATE p ≠ pFENCING) ∧
    (let s := st [(PW_MODE.MODE, 0, 4), (PW_DMSTAT.PHASE, 0, 2), (PX_LINK.SPEED, 0, 1), (HX_PSTAT.STATE, 7, 5)]
     s.mode = mDORMANT ∧ s.get PW_DMSTAT.PHASE = dmASLEEP ∧ s.linkUp = true ∧ s.get HX_PSTAT.STATE 7 = hpSLEEPING ∧
       (s.put PW_DMSTAT.PHASE 3).get PW_DMSTAT.PHASE = dmWAKING) := by
  simp only [Writes, Awake]; decide

theorem test_witness_SelfTest : (let s := cmd 0 [(PW_TSCFG.TESTS, 0, 63), (CK_REFSTAT.PRESENT, 0, 4095)]
     Issues .host 0x09 s ∧ s.get PW_TSCFG.TESTS ≠ 0 ∧ s.tsCheck 100000 800 = none ∧ s.tsCheck 102000 820 = none ∧
       (s.tsCheck 102001 800).isSome = true ∧ (s.put PW_TSCFG.TESTS 0).get PW_TSCFG.TESTS = 0) ∧
    (let s := st [(PW_MODE.MODE, 0, 5), (PW_TSSTAT.STATE, 0, 2), (TS_SEL, 0, 63), (PW_TSCFG.STOP_ON_FAIL, 0, 1)]
     s.mode = mTEST ∧ s.get PW_TSSTAT.STATE = 2 ∧ s.get PW_TSSTAT.CURRENT < 6 ∧ (s.tsFrom (s.get TS_NEXT + 1)).isSome = true ∧
       (s.put TS_NEXT 5).tsFrom ((s.put TS_NEXT 5).get TS_NEXT + 1) = none ∧ s.get PW_TSCFG.STOP_ON_FAIL = 1) := by
  simp only [Issues, Writes, Awake]; decide

/-- A record of severity 3. -/
def someRecord : LogRec := ⟨0, true, false, true, 0x101, 3, 0, 0⟩

theorem test_witness_Log : (let s : State := { st [(PW_MODE.MODE, 0, 3)] with intake := [someRecord] }
     s.mode ≠ mDORMANT ∧ s.intake = someRecord :: [] ∧ s.logThr 3 ≤ 3 ∧ s.ring.length < 4096 ∧ s.get DROP_EPISODE = 0 ∧
       Reads .host 0x38050 s ∧ Writes .host (0x38020 + 4 * 3) s ∧ cursorOf .host ≠ 3 ∧ cursorOf .hokuoxRemote = 3 ∧
       s.asOwner .gatehouse 8 = true ∧ s.asOwner .host 8 = false) ∧
    (let s := st [(PW_MODE.MODE, 0, 3), (EV_HEAD.SEQ, 0, 4096)]
     s.get EV_CUR.SEQ 3 = (s.get EV_HEAD.SEQ + 2 ^ 32 - 4096) % 2 ^ 32) ∧
    (List.replicate 4096 someRecord).length = 4096 := by
  simp only [Writes, Reads, Awake]; decide

theorem test_witness_Resets_keep : Awake (st []) ∧ (st []).get PW_TSSTAT.CURRENT < 8 ∧
    (st []).mem.get (Region.base .flash + 4294967295) 0xFF < 256 := by
  simp only [Awake]; decide

theorem test_witness_Monitors : (let s := st [(RAIL_CNT, 1, 2), (RAIL_CNT, 10, 2)]
     Awake s ∧ s.get RAIL_CNT 1 = 2 ∧ 1709 < (s.railWindow 1).1 ∧ s.get RAIL_CNT (2 + 8) = 2 ∧ (s.railWindow 2).2 < 928 ∧
       s.get RAIL_CNT 3 < 2 ∧ 1163 < (s.railWindow 3).1 ∧ (s.railWindow 4).1 ≤ 3135 ∧ 3465 ≤ (s.railWindow 4).2 ∧
       ([0, 1709, 928, 1163, 3135, 1890, 3600] : List (BitVec 12)).length = 7) ∧
    (let s := st [(BV_TEMPTHR.WARN, 0, 680), (BV_TEMPTHR.CRIT, 0, 840)]
     let t (v : BitVec 12) := after (.tempSample (List.replicate 15 0xFFF ++ [v])) s
     s.get TMP_ON 0 = 0 ∧ s.get TMP_ON 1 = 0 ∧
       offset12 (s.get BV_TEMPTHR.WARN) ≤ offset12 ((t 680).get BV_TEMPMAX.VALUE) ∧
       offset12 (s.get BV_TEMPTHR.CRIT) ≤ offset12 ((t 840).get BV_TEMPMAX.VALUE) ∧
       (t 840).get BV_TEMPMAX.SENSOR = 15 ∧ (t 680).get BV_ALERT.TEMP_HIGH = 1 ∧ (t 679).get BV_ALERT.TEMP_HIGH = 0) := by
  simp only [Awake]; decide

/-! Witnesses of the frames: the commands answer a next state, here with the last of each range of their operands. -/

/-- A command that ends in a next state. -/
def runs (s : State) (i : Instr) : Bool := match exec i s with | .next _ => true | _ => false

theorem test_witness_DeviceHappeningsKeepTheRest_1 : ([
    .domainReleaseSlot, .avsSettleEnd, .avsStatusPoll, .gateInboundRequest 63 true, .eventLineDeliver 63,
    .uiLineChange 15 63 true, .freqMeterDone 0, .slewDone, .ttCalibrationStart 95, .ttCalibrationEnd 95,
    .lbtCapture 39 0 0, .vioRestored 11 0, .qpllLocked 9, .eyeScanDone 39 0, .sliceEnd, .perstNRelease,
    .governorPeriod, .paceShort, .paceWindowEnd (List.replicate 64 0), .hedgeProtocolViolation 63 0 true true 0,
    .drIllegalCode 63 0 true true 0, .stallDetected 63, .eventLineToken 63, .refLoss 12, .refRestored 12,
    .synLockTimeout 5, .synLocked 5, .epochLoad 0, .ttStale 95, .stretchEnd 175, .slQpllLockTimeout 9,
    .slQpllLost 9, .cdrLockChange 39 true true, .alignChange 39 true, .vioLost 11 0, .prbsCheck 39 0,
    .capture 15 1, .timerOverflow 15, .compareMatch 15 3, .triggerEdge 15] : List Instr).all (runs State.reset) = true := by decide

theorem test_witness_DeviceHappeningsKeepTheRest_2 : ([
    .pulseEnd 63, .cueFire 63, .cueLate 63, .routerSourceEdge 0 true, .xpArrayOffer 255 0 0,
    .xpIslandAnswer 255 0 0, .xpTimeout 255, .xpResync 255] : List Instr).all (runs State.reset) = true := by decide

theorem test_witness_LinkHappeningsKeepTheRest : ([
    .bar2Write 15 0 0 0 0 [], .bar2Read 15 0 0 0 512 0, .writeGuardExpiry 15, .descriptorComplete 63, .linkUp 3 0,
    .hostViolationTlp .malformed, .blockLock 7, .blockLockLost 7, .hxAlign 7 .deskewed, .ackTimer 7, .sleep 7,
    .credit 7 0 0, .advertTimer, .routeTimer, .joinTimer, .join 8, .outboundToken 31 4095 true 0,
    .inboundTokenAck 31, .openTimer 4095, .creditReturnTimer 4095, .probe 8, .writeAck 8, .csrWriteLost 254,
    .timeExchangePeriod 7, .sync 8, .follow 8, .dreq 8, .heartbeatTimer, .cfgReq 7 [], .cfgData, .cfgReqTimer,
    .query 8, .queryTimer] : List Instr).all (runs State.reset) = true := by decide

theorem test_witness_LodgeAndUpkeepHappeningsKeepTheRest : ([
    .machineTimer, .uartFrameReceived 1 0 true true true, .uartFrameSent 1, .spiByteDone 1 0,
    .i2cCommandDone 1 .arbLost, .i2cTimeout 1, .i2cAlert 1 true, .gpioEdge 31 true, .tapReset, .xtInEdge, .halt,
    .resume, .tempSample (List.replicate 16 0), .railSample (List.replicate 7 0) true, .scrubStarved,
    .dlCalibrationStart, .dlSwap true, .dlForcedSwap 63 true, .ident (.whole true), .smbStatus (.whole true),
    .smbAddr (.whole true), .tempMax (.whole true), .smbTemp (.whole true), .smbRail (.whole true),
    .vcoreCmd (.whole true), .icore (.whole true), .paceMin (.whole true), .paceReq (.whole true),
    .errsum (.whole true), .alertStat (.whole true), .logPeek (.whole true) true, .logStat (.whole true),
    .logNext (.whole true) true, .tempSel (.read .cut), .railSel (.read .cut), .alertMask (.read .cut),
    .alertClr 0 none, .alertResponseAddress true, .smbSclTimeout] : List Instr).all (runs State.reset) = true := by decide

theorem test_witness_RegisterCommandsKeepTheRest : ([
    .vsetWrite .host 0, .avsFaultClear .host 0, .ctlSel .host 0, .freqMeterGo .host 0, .epochArm .host 0,
    .adjStep .host 0, .adjSlew .host 0, .cueCommandPush .host 63 0, .softTrigger .host 0, .btGo .host 0 0,
    .snapshot .host 0, .timerClaim .host 15 0, .timerRelease .host 15, .countLoad .host 15 0, .jres .host 0,
    .bankEnable .host 11 0, .eyeScanGo .host 39 0, .xpPortReset .host 255, .laneMark .host 39, .laneRst .host 39,
    .witnessClaim .host 0, .channelPortEnable .host 31 0, .uartTxPush .host 1 0, .spiCommand .host 1 0,
    .i2cCommand .host 1 0, .gpioSetClear .host true 0, .gpioSetClear .host false 0, .watchdogEnable .host 0,
    .watchdogKick .host 0, .h2lRing .host, .l2hRing .host, .mailboxClear .host 0, .unlockKeyWrite .host 0,
    .evCurWrite .host 3 0, .tnowRead .host, .ttdat0Read .host 95, .capLoRead .host 15 1, .evRec0Read .host true,
    .icclaimRead .host, .uartRxPop .host 1] : List Instr).all (runs State.reset) = true := by decide

theorem test_witness_RegisterCommandsKeepTheRest_Writes : (let s := st [(PW_MODE.MODE, 0, 2)]
    ∀ off ∈ [
    0x1110, 0x111c, 0x4000, 0x4020, 0x8018, 0x8038, 0x98f0, 0x8044, 0xa004, 0xa008, 0xa884, 0xa894, 0x10000,
    0x2158, 0x7de8, 0x6ff8, 0x7dc4, 0x28044, 0x2487c, 0x31104, 0x31304, 0x31504, 0x31808, 0x31804, 0x31900,
    0x31904, 0x31a40, 0x31a44, 0x1c, 0x3802c], Writes .host off s) := by
  simp only [Writes, Awake]; decide

theorem test_witness_RegisterCommandsKeepTheRest_Reads : (let s := st [(PW_MODE.MODE, 0, 2)]
    ∀ off ∈ [
    0x802c, 0x8ce8, 0xace4, 0x38050, 0x32504, 0x31104], Reads .host off s) := by
  simp only [Reads, Awake]; decide

theorem test_witness_TheseCommandsStoreToNoMemory_1 : ([
    .rdholdWrite .host 0, .govEn .host 0, .tbEn .host 0, .endpointEnable .host 0, .miEnable .host 0,
    .coreRun .host 0, .avsFrameDone .bad, .macOperation 3071 0 0 0 0, .queueEnable .host 255 0, .synGo .host 5 0,
    .synEn .host 5 0, .synLockLost 5, .slewStep 15, .xpEnable .host 255 0, .xpArrayAck 255 0 0,
    .xpIslandPut 255 0 0, .xpIslandTake 255, .pacedPairMove 127, .tagEdge 95 true 0,
    .bsUnitEnable .host (.cue 63) 0, .lbtArm .host 39, .inj .host 39, .timerEnable .host 15 0,
    .timerRun .host 15 true, .contextInputReady 63, .pinEnable .host 575 0, .renew .host 584,
    .serGroupEnable .host 11 0, .bitslip .host 11, .qpllGo .host 9 0, .laneEnable .host 39 0,
    .laneTestWrite .host 39 0, .hxPortEnable .host 7 0, .hxInit 7 0, .wakeTExpiry 7, .replayTimeout 7,
    .announce 7, .prologue 7, .retrain .host 7, .echo .host 7] : List Instr).all (runs State.reset) = true := by decide

theorem test_witness_TheseCommandsStoreToNoMemory_2 : ([
    .packetReceive 7 .strayData, .packetSend 7 true 0, .ack 7 0 true, .advert 8, .assign 8, .tokens 8,
    .channelCredit 8, .channelOpen 8, .probeReply 8, .break 8, .dresp 8, .electTExpiry, .epochAck, .leaseLost,
    .cmdInterfaceTimeout, .cfgNone, .dormantEntryStart, .dormantEntryStop, .vbattOutOfRange, .ghCommandEnd,
    .route 8, .probeTimer 4095, .resync .host, .disband .host, .cmdClaim .host, .cmdRelease .host,
    .keyWrite .host, .keyErase .host, .keyWrap .host, .loadStart .host, .rewrite .host, .serve .host,
    .debugUnlock .host, .debugUnlockResponse .host, .debugLock .host, .pkProgram .host, .pkRevoke .host,
    .seal .host, .runEn .host, .scan .host] : List Instr).all (runs State.reset) = true := by decide

theorem test_witness_TheseCommandsStoreToNoMemory_3 : ([
    .enter .host, .peripheralEnable .host .gpio 0, .spiDataAccess .host 1 none, .i2cDataAccess .host 1 none,
    .dmcustom0Write 0, .handback .host 63, .timerTick true, .smbReservedCommand 0 true] : List Instr).all (runs State.reset) = true := by decide

/-! Well-formedness: one ill-formed command for each check. -/

theorem test_wf_refuses : (Instr.paceWindowEnd (List.replicate 63 0)).wf = false ∧
    (Instr.tempSample (List.replicate 17 0)).wf = false ∧ (Instr.railSample (List.replicate 8 0) true).wf = false ∧
    (Instr.bar0Request (.write 0 (List.replicate 1024 0)) 0 15 15).wf = false ∧
    (Instr.bar2Write 0 0 255 255 0 (List.replicate 512 0)).wf = false ∧
    (Instr.dmaCompletion 0 true (List.replicate 4097 0)).wf = false ∧
    (Instr.i2cCommandDone 0 (.served (List.replicate 256 0) 0)).wf = false ∧
    (Instr.containerHeader (List.replicate 257 0) []).wf = false := by decide

theorem test_wf_packet (l : List (BitVec 64)) (h : 65536 ≤ l.length) : (Instr.packetReceive 0 (.packet 0 0 l 0)).wf = false := by
  simp only [Instr.wf, decide_eq_false_iff_not]; omega

theorem test_wf_bounds : (Instr.bar0Request (.write 0 (List.replicate 1023 0)) 0 15 15).wf = true ∧
    (Instr.bar2Write 0 0 255 255 0 (List.replicate 511 0)).wf = true ∧
    (Instr.dmaCompletion 0 true (List.replicate 4096 0)).wf = true ∧
    (Instr.i2cCommandDone 0 (.served (List.replicate 255 0) 0)).wf = true ∧
    (Instr.containerHeader (List.replicate 256 0) []).wf = true := by decide

theorem test_malformed_samples_fault : exec (.paceWindowEnd []) State.reset = .fault (.noSuchCommand "PACE_WINDOW_END") ∧
    exec (.tempSample []) State.reset = .fault (.noSuchCommand "TEMP_SAMPLE") ∧ exec (.railSample [] true) State.reset = .fault (.noSuchCommand "RAIL_SAMPLE") :=
  ⟨rfl, rfl, rfl⟩

/-! The worked cases of the spec's chapters. -/

/-- What a read of an offset answers the host. -/
def rd (off : Nat) (s : State) : Nat := (busRead .host off s).1

/-- spec/01, worked case, steps 1, 2 and 5. -/
theorem test_worked_irqmap : rd 0x1000 (st [(PW_MODE.MODE, 0, 2)]) = 2 ∧
    (let t := busWrite .host 0x1594 0x30025 (st [(PW_MODE.MODE, 0, 2)])
     t.get PW_IRQMAP.VECTOR 101 = 37 ∧ t.get PW_IRQMAP.MSIX_EN 101 = 1 ∧ t.get PW_IRQMAP.LODGE_EN 101 = 1) ∧
    rd 0x180C (st [(PW_MODE.MODE, 0, 3), (BT_STAT.CMF, 5, 1), (BT_IE.IE, 5, 1)]) = 0x20 ∧
    rd 0x1000 (st [(PW_MODE.MODE, 0, 3), (PW_MODE.PREV_MODE, 0, 2), (PW_MODE.MCHG, 0, 1)]) = 0x80203 := by decide

/-- spec/02, worked case: target and upper of PACE_REQ 560. -/
theorem test_worked_pace : (let s := st [(PW_GOVREQ.PACE_REQ, 0, 560), (PW_GOVREQ.MARGIN, 0, 3), (PW_GOVREQ.HYST, 0, 4)]
     s.paceTarget = 577 ∧ s.paceUpper = 601) := by decide

/-- spec/03, worked case: the fence of plot 27, and the two fields of the tile. -/
theorem test_worked_fence : (let t := busWrite .host 0x411B0 0x61 (st [(PW_MODE.MODE, 0, 3)])
     t.get FB_PSTAT.STATE 27 = pFENCING ∧ t.get FB_PSTAT.HOLDER 27 = hUSER ∧ t.get FB_PCTL.SINK 27 = 1 ∧
       t.get FB_PCTL.STALL_EN 27 = 1) := by decide

/-- spec/04, worked case, step 3: a flip of data bit 9 has syndrome 0x8E, and is corrected. -/
theorem test_worked_ecc : syndrome (0x00030A7C00000417 ^^^ 2 ^ 9) (eccOf 0x00030A7C00000417) = 0x8E ∧
    (eccDecode (0x00030A7C00000417 ^^^ 2 ^ 9) (eccOf 0x00030A7C00000417)).data = 0x00030A7C00000417 ∧ eccOf 1 = 0x83 := by
  decide

/-- spec/04, worked case, steps 4 and 5: MAC cell 583. -/
theorem test_worked_mac : (let s := (busWrite .gatehouse 0x5A470 0x427 (st [(FB_MACP_LO.P, 583, 9999992)])).put PW_MODE.MODE 3
     let t := after (.macOperation 583 0x0C 1000 3000 (2 ^ 27 - 250)) s
     t.macP 583 = 6249992 ∧ ⟨.toArray, [2, 583, 390624, 0]⟩ ∈ t.out) := by decide

/-- spec/05, worked case: the length word, and the configuration words. -/
theorem test_worked_queue : lengthWord false false 0x5A 21 = 0x800000005A000015 ∧
    (let t := busWrite .host 0x14128 0x11000 (st [(PW_MODE.MODE, 0, 2)])
     t.get QM_LCFG.SIZE 74 = 4 ∧ t.get QM_LCFG.BASE 74 = 0x1000) ∧
    (let t := busWrite .host 0x11024 7 (st [(PW_MODE.MODE, 0, 2), (QM_LCFG.BASE, 73, 64), (QM_LCFG.BASE, 74, 128),
       (QM_LCFG.BASE, 75, 192)])
     t.get QM_QCFG.EN 9 = 1 ∧ t.get QM_QCFG.NL 9 = 3) := by decide

/-- spec/06, worked case: MC3 to 400 MHz. -/
theorem test_worked_clock : (let t := busWrite .host 0x4160 0x282800 (st [(PW_MODE.MODE, 0, 3)])
     t.get CK_SYNCFGA.D 3 = 10 ∧ t.get CK_SYNCFGA.N 3 = 40) ∧
    (let t := busWrite .host 0x416C 0x53 (st [(PW_MODE.MODE, 0, 3), (CK_SYNCFGA.D, 3, 10), (CK_SYNCFGA.N, 3, 40),
       (CK_REFSTAT.PRESENT, 0, 4095)])
     t.get CK_SYNSTAT.STATE 3 = ckACQUIRE ∧ rd 0x4174 t = 400000) := by decide

/-- spec/07, worked case: the word of XP140. -/
theorem test_worked_crossing : (let t := busWrite .gatehouse 0x68C0 0x30C5A9 (st [(PW_MODE.MODE, 0, 2)])
     t.get XP_CFG.DIR 140 = 1 ∧ t.get XP_CFG.DEPTH 140 = 2 ∧ t.get XP_CFG.CLK 140 = 6 ∧ t.get XP_CFG.ATTACH 140 = 2 ∧
       t.get XP_CFG.AIDX 140 = 12 ∧ t.get XP_CFG.RDOM 140 = 3) := by decide

/-- spec/08, worked case: the record of TT7. -/
theorem test_worked_tag : (let s := st [(PW_MODE.MODE, 0, 3), (BS_TTCFG.EN, 7, 1), (BS_TTCFG.RDFIFO, 7, 1), (BS_TBSTAT.EPOCH, 0, 1),
       (BS_TBSTAT.EPOCH_GEN, 0, 2), (TT_SEQ, 7, 40), (BS_TBSTAT.RUNNING, 0, 1)]
     let r := busRead .host 0x81E8 (s.setList TT_BUF [s.tagRecord 7 (addSigned (12500018 * 65536 + 26238) 32 0xFFFECCCD) true] 7)
     r.1 = 0xBC31334B ∧ rd 0x81EC r.2 = 0xBE ∧ rd 0x81F0 r.2 = 0x02810000 ∧ rd 0x81F4 r.2 = 0x28) := by decide

/-- spec/09, worked case, steps 2, 4 and 5. -/
theorem test_worked_timer : (let t := busWrite .lodgeM 0xA31C 0 (busWrite .lodgeM 0xA318 0xF423F
       (st [(PW_MODE.MODE, 0, 3), (BT_OWN.OWNER, 4, 1), (CK_SYNSTAT.STATE, 0, 2)]))
     t.btTop 4 = 999999 ∧
       (let u := busWrite .lodgeM 0xA300 0xA005 t
        u.get BT_CTL.EN 4 = 1 ∧ u.get BT_CTL.CSRC 4 = 1 ∧ u.get BT_CTL.MMODE 4 = 4 ∧ u.get BT_CTL.LFRUN 4 = 1)) ∧
    (let t := busWrite .lodgeM 0xAA00 0xC50001 (st [(PW_MODE.MODE, 0, 3), (BT_OWN.OWNER, 4, 1)])
     t.get BT_KCFG.SRC 8 = 138 ∧ t.get BT_KCFG.FINE 8 = 1 ∧ t.get BT_KCFG.CEN 8 = 1) := by decide

/-- spec/11, worked case: the claims of pin 437. -/
theorem test_worked_claims : (let s := (st [(PW_MODE.MODE, 0, 3)]).takeClaim lvARRAY 437
     rd 0x36D4 s = 0x206 ∧
       (let t := s.takeClaim lvBANDSTAND 437
        rd 0x36D4 t = 0x8043 ∧ (t.intake.any fun r => r.code = Rc.IO_PIN_LOST.num ∧ r.obj = 437 ∧ r.detail = 0x1E) = true ∧
          rd 0x36D4 (t.dropClaim lvBANDSTAND 437) = 0x8000)) := by decide

/-- spec/12, worked case: QPLL2. -/
theorem test_worked_quad : (let t := busWrite .gatehouse 0x7140 0x280 (st [(PW_MODE.MODE, 0, 1), (QREF_HZ, 0, 250000000)])
     t.get SL_QCFG.N 2 = 40 ∧ (t.quadVco 2 0 40 0).1 = 10000000000 * (t.quadVco 2 0 40 0).2) := by decide

/-- spec/13, worked case: the first STATUS word. -/
theorem test_worked_channel : (let t := busWrite .host 0x21840 0x04030C0D (st [(PW_MODE.MODE, 0, 3), (QM_QCFG.EN, 12, 1),
       (PX_RSIZE.RSIZE, 33, 8)])
     t.get PX_CHCFG.EN 33 = 1 ∧ t.get PX_CHCFG.QUEUE 33 = 12 ∧ t.get PX_CHCFG.WEIGHT 33 = 3 ∧ t.get PX_CHCFG.VECTOR 33 = 64) := by
  decide

/-- spec/14, worked case: the packet of 16 tokens, and the endpoint's configuration. -/
theorem test_worked_packet : mkHeader 2 1 clCH 300 17 0x40 = 0x0201212C00110040 ∧
    (let t := busWrite .host 0x24904 0x7C3 (busWrite .host 0x24908 0xA01 (st [(PW_MODE.MODE, 0, 3), (HX_EPSEL.EP, 0, 300),
       (HX_DSTAT.ADDR, 0, 2), (HX_CPCFG.EN, 16, 1), (HX_CPCFG.DIR, 16, 1)]))
     t.get EPS_EN 300 = 1 ∧ t.get EPS_DIR 300 = 1 ∧ t.get EPS_PORT 300 = 16 ∧ t.get EPS_CREDITS 300 = 15 ∧
       t.get EPS_ADDR 300 = 1 ∧ t.get EPS_PEER 300 = 10) := by decide

/-- spec/15, worked case: the journal record of memory 163, and MI_STAT of the promoted card. -/
theorem test_worked_journal : (let s := pair 1 2 [(MI_DECLA.KIND, 0, 2), (MI_DECLA.START, 0, 160), (MI_DECLB.COUNT, 0, 8)]
     (s.journalMem 163 0x200 1 (eccOf 1)).list JOURNAL_WORDS = [0x0000000419000A32, 1]) ∧
    rd 0x28014 (pair 1 4 [(MI_STAT.TERM, 0, 1), (MI_STAT.PEER_ADDR, 0, 1), (MI_STAT.LEASE, 0, 1)]) = 0x10151 := by decide

/-- spec/16, worked case, step 3: a peek of UART0 pops nothing. -/
theorem test_worked_uart : (let s := (st [(PW_MODE.MODE, 0, 3), (LG_UCFG.EN, 0, 1), (GH_DBGSTAT.LEVEL, 0, 2)]).setList LG_RX [0x41, 0x54, 0x0D] 0
     (busRead .debug 0x31004 s).1 = 0x141 ∧ ((busRead .debug 0x31004 s).2.list LG_RX 0).length = 3 ∧
       ((busRead .lodgeM 0x31004 s).2.list LG_RX 0) = [0x54, 0x0D]) := by decide

/-- spec/17, worked case: words of GH_STATUS and GH_KSTAT. -/
theorem test_worked_keys : (busWrite .host 0x28 8 (st [(PW_MODE.MODE, 0, 3)])).get GH_CMDOWN.OWNER = 3 ∧
    rd 0x48 (st [(GH_KSTAT.STATE, 2, 2), (GH_KSTAT.USAGE, 2, 2), (GH_KSTAT.USE, 2, 1), (GH_KSTAT.KCV, 2, 0x7E21)]) = 0x7E21010A ∧
    Rc.GH_KEY_PENDING.num = 0x0106 := by decide

/-- spec/18, worked case: GH_CFGSTAT after the fallback. -/
theorem test_worked_cfgstat : rd 0x90 (st [(GH_CFGSTAT.LAST, 0, Rc.GH_CFG_CRC.num), (GH_CFGSTAT.FALLBACK, 0, 1),
    (GH_CFGSTAT.AUTORUN, 0, 1), (GH_CFGSTAT.STAGE, 0, stDONE), (GH_CFGSTAT.SRC, 0, 0)]) = 0x012901C0 := by decide

/-- spec/19, worked case, step 4. -/
theorem test_worked_update : rd 0xB0 (st [(GH_UPSTAT.STATE, 0, usSTAGED), (GH_UPSTAT.COORD, 0, 1), (GH_UPSTAT.AREA, 0, 1)]) = 0x32 ∧
    rd 0xC0 (st [(GH_UPTGT.TOTAL, 0, 4), (GH_UPTGT.STAGED, 0, 4)]) = 0x404 := by decide

/-- spec/20, worked case: BV_REPSRC[27] and FB_PSTAT[27] of a repair. -/
theorem test_worked_repair : rd 0x3416C (st [(PW_MODE.MODE, 0, 3), (BV_REPSRC.SRC, 27, 1), (BV_REPSRC.OFFSET, 27, 0x100000)]) = 0x10100000 ∧
    rd 0x411B4 (st [(PW_MODE.MODE, 0, 3), (FB_PSTAT.STATE, 27, 3), (FB_PSTAT.HOLDER, 27, 3)]) = 0x33 ∧
    rd 0x34018 (st [(PW_MODE.MODE, 0, 3), (BV_CSCFG.EN, 0, 1), (BV_CSSTAT.PASSES, 0, 412), (BV_CSSTAT.REPAIR_PLOT, 0, 27),
      (BV_CSSTAT.REPAIRING, 0, 1), (REP_STEP, 0, 2)]) = 0x016E019C := by decide

/-- spec/21, worked case: PW_DMSTAT after the wake. -/
theorem test_worked_dormant : rd 0x1308 (st [(PW_MODE.MODE, 0, 3), (PW_DMSTAT.ENTRIES, 0, 12), (PW_DMSTAT.CAUSE, 0, 3)]) = 0xC0030 := by
  decide

/-- The ring of spec/22's worked case as far as the record of XP140, at SEQ 10,104. -/
def weekend : State := { st [(PW_MODE.MODE, 0, 3), (EV_HEAD.SEQ, 0, 10105), (EV_CUR.SEQ, 0, 10104)] with
  ring := [⟨12500017 * 65536 + 13131, false, false, false, 0x0508, 3, 140, 0x50001F4⟩] }

/-- spec/22, worked case: the words of that record, and the cursor behind it. -/
theorem test_worked_log : (rdEvRec0 .host false weekend).1 = 0xBC31334B ∧
    (rdEvRec0 .host false weekend).2.latched .host 0x38068 0 = 0x2778 ∧
    (after (.evRec0Read .host false) weekend).get EV_CUR.SEQ 0 = 0x2779 := ⟨by decide, by decide, by decide⟩

theorem test_worked_log_words : weekend.recordAt 0 false =
    [0xBC31334B, 0xBE, 0x05080000, 0x008C0083, 0x050001F4, 0, 0x2778, 0] := by decide
end Sys2Proof.Tests
end

section
/-! The frame of an effect, built step by step. `State.Within` says that a state is reached by the elementary operations
of Machine/Ops.lean inside a scope; each operation of the model has one lemma saying which cells it needs. What a scope
guarantees is read off once: `Within.get`, `Within.list`, `Within.stores`, `Within.frame`, `Within.logged`. -/

namespace Sys2Proof.Machine

/-- What an effect may touch: cells and lists by their keys, and whether it may raise log records. -/
structure Scope where
  cells : Set Nat
  lists : Set Nat
  logs : Prop

/-- The scope of a `Silent` command. -/
def Scope.silent (keys : List Nat) : Scope := ⟨{k | k ∈ keys}, ∅, False⟩

/-- The scope of a `Logged` command. -/
def Scope.logged (keys lists : List Nat) : Scope := ⟨{k | k ∈ keys}, {k | k ∈ lists}, True⟩

@[simp] theorem Scope.mem_silent_cells {k : Nat} {keys : List Nat} : k ∈ (Scope.silent keys).cells ↔ k ∈ keys :=
  Iff.rfl
@[simp] theorem Scope.mem_logged_cells {k : Nat} {keys lists : List Nat} :
    k ∈ (Scope.logged keys lists).cells ↔ k ∈ keys := Iff.rfl

/-- `s.Within S t`: elementary operations inside the scope `S` lead from `s` to `t`. Outputs, messages and draws of free
values are inside every scope. -/
inductive State.Within (s : State) (S : Scope) : State → Prop
  | refl : s.Within S s
  | put {t : State} {f : Field} {v i : Nat} : s.Within S t → f.key i ∈ S.cells → s.Within S (t.put f v i)
  | setList {t : State} {q : Fifo} {l : List Nat} {i : Nat} :
      s.Within S t → q.key i ∈ S.lists → s.Within S (t.setList q l i)
  | raise {t : State} {c : Rc} {obj detail : Nat} : s.Within S t → S.logs → s.Within S (t.raise c obj detail)
  | emit {t : State} {k : OutKind} {args : List Nat} : s.Within S t → s.Within S (t.emit k args)
  | drawn {t : State} : s.Within S t → s.Within S t.drawn
  | message {t : State} {v : Nat} : s.Within S t → s.Within S (t.message v)

namespace State.Within

variable {s t u : State} {S : Scope}

/-! What a scope guarantees. -/

theorem get {g : Field} {j : Nat} (h : s.Within S t) (hg : g.key j ∉ S.cells) (hm : g.key j ≠ MSI_PEND.key 0)
    (hr : S.logs → g.key j ≠ EV_DROP.COUNT.key 0 ∧ g.key j ≠ DROP_EPISODE.key 0) : t.get g j = s.get g j := by
  induction h with
  | refl => rfl
  | put _ hf ih => exact (State.get_put_ne _ _ fun he => hg (by rwa [he])).trans ih
  | setList _ _ ih | emit _ ih | drawn _ ih => exact ih
  | raise _ hl ih => rw [State.raise_get _ _ _ _ (hr hl).1 (hr hl).2, ih]
  | message _ ih => rw [State.message_get _ _ hm, ih]

theorem list {q : Fifo} {j : Nat} (h : s.Within S t) (hq : q.key j ∉ S.lists) : t.list q j = s.list q j := by
  induction h with
  | refl => rfl
  | setList _ hl ih => exact (State.list_setList_ne _ _ fun he => hq (by rwa [he])).trans ih
  | put _ _ ih | emit _ ih | drawn _ ih => exact ih
  | raise _ _ ih => rw [State.raise_list, ih]
  | @message t v _ ih => rw [State.list, (State.message_stores t v).2.1]; exact ih

/-- Memories, the log's ring and the queue of commands are outside every scope. -/
theorem fixed (h : s.Within S t) : t.mem = s.mem ∧ t.ring = s.ring ∧ t.pending = s.pending := by
  induction h with
  | refl => exact ⟨rfl, rfl, rfl⟩
  | put _ _ ih | setList _ _ ih | emit _ ih | drawn _ ih => exact ih
  | raise _ _ ih => simpa using ih
  | @message t v _ ih =>
    obtain ⟨hm, -, hr, -, -, hp⟩ := State.message_stores t v
    rwa [hm, hr, hp]

/-- A raised record goes to the young end of the queue that takes it, or is dropped (R797, R798). -/
theorem raise_grows (t : State) (c : Rc) (obj d : Nat) :
    t.intake <+: (t.raise c obj d).intake ∧ t.held <+: (t.raise c obj d).held := by
  unfold State.raise State.dropRecord
  split
  · exact ⟨List.prefix_rfl, List.prefix_rfl⟩
  · split <;> split
    · exact ⟨List.prefix_rfl, List.prefix_append _ _⟩
    · exact ⟨List.prefix_rfl, List.prefix_rfl⟩
    · exact ⟨List.prefix_append _ _, List.prefix_rfl⟩
    · exact ⟨List.prefix_rfl, List.prefix_rfl⟩

theorem grows (h : s.Within S t) : s.intake <+: t.intake ∧ s.held <+: t.held := by
  induction h with
  | refl => exact ⟨List.prefix_rfl, List.prefix_rfl⟩
  | put _ _ ih | setList _ _ ih | emit _ ih | drawn _ ih => exact ih
  | @raise t c obj d _ _ ih =>
    obtain ⟨hi, hh⟩ := raise_grows t c obj d
    exact ⟨ih.1.trans hi, ih.2.trans hh⟩
  | @message t v _ ih =>
    obtain ⟨-, -, -, hi, hh, -⟩ := State.message_stores t v
    rwa [hi, hh]

/-- A scope without lists and records leaves everything but cells. -/
theorem stores (h : s.Within S t) (hl : S.lists = ∅) (hr : ¬S.logs) : s.SameStores t := by
  induction h with
  | refl => exact State.SameStores.refl s
  | put _ _ ih | emit _ ih | drawn _ ih => exact ih
  | setList _ hq => simp [hl] at hq
  | raise _ hlog => exact absurd hlog hr
  | message _ ih => exact ih.trans (State.message_stores _ _)

theorem frame {keys : List Nat} (h : s.Within (.silent keys) t) : s.Frame t keys :=
  ⟨h.stores rfl id, fun _ _ hf hm => h.get hf hm False.elim⟩

theorem logged {keys lists : List Nat} (h : s.Within (.logged keys lists) t) :
    s.KeptBy t keys ∧ ∀ q i, Fifo.key q i ∉ lists → t.list q i = s.list q i := by
  obtain ⟨hm, hr, hp⟩ := h.fixed
  refine ⟨⟨hm, hr, hp, h.grows.1, h.grows.2, fun f i hf hp => ?_⟩, fun q i hq => h.list hq⟩
  simp only [cellsAt, List.map_cons, List.map_nil, List.cons_append, List.nil_append, List.mem_cons, not_or] at hf
  exact h.get hf.2.2 hp fun _ => ⟨hf.1, hf.2.1⟩

/-! Composition. -/

theorem trans (h : s.Within S t) (h' : t.Within S u) : s.Within S u := by
  induction h' with
  | refl => exact h
  | put _ hf ih => exact ih.put hf
  | setList _ hq ih => exact ih.setList hq
  | raise _ hl ih => exact ih.raise hl
  | emit _ ih => exact ih.emit
  | drawn _ ih => exact ih.drawn
  | message _ ih => exact ih.message

theorem foldl {α : Type} {l : List α} {f : State → α → State} (h : s.Within S t)
    (hf : ∀ (u : State) (a : α), a ∈ l → u.Within S (f u a)) : s.Within S (l.foldl f t) :=
  List.foldlRecOn l f h fun u hu a ha => hu.trans (hf u a ha)

theorem branch {c : Prop} [Decidable c] {a b : State} (ha : c → s.Within S a) (hb : ¬c → s.Within S b) :
    s.Within S (if c then a else b) := by
  split
  · exact ha ‹_›
  · exact hb ‹_›

/-! What every command goes through. -/

theorem resend (h : s.Within S t) (before : State) (off w : Nat) : s.Within S (t.resend before off w) := by
  unfold State.resend
  split
  · exact h
  · refine branch (fun _ => h.foldl fun u k _ => ?_) fun _ => h
    dsimp only
    exact branch (fun _ => .message .refl) fun _ => .refl

theorem edge (u : State) (n : Nat) : u.Within S (u.edge n) := by
  have hm : u.Within S (if u.flag PW_IRQMAP.MSIX_EN n then u.message (u.get PW_IRQMAP.VECTOR n) else u) :=
    .branch (fun _ => .message .refl) fun _ => .refl
  unfold State.edge
  exact .branch (fun _ => .refl) fun _ => .branch (fun _ => hm.emit) fun _ => hm

theorem deliver (h : s.Within S t) (before : State) : s.Within S (Machine.deliver before t) := by
  unfold Machine.deliver
  exact h.foldl fun u n _ => branch (fun _ => edge u n) fun _ => .refl

/-- A register write taken as it stands stays in the scope of the register's own effect. -/
theorem of_write {c : Instr} {m : Master} {off w : Nat} {k : State → State}
    (hc : exec c s = live s fun s => s.onWrite m off w k) (hw : Writes m off s) (hk : s.Within S (k s))
    (ht : exec c s = .next t) : s.Within S t := by
  rw [hc, live_awake _ hw.1, State.onWrite_of hw] at ht
  cases ht
  exact (hk.resend s off w).deliver s

/-- A register read answered by the register stays in the scope of what the read consumes. -/
theorem of_read {c : Instr} {m : Master} {off : Nat} {k : State → Nat × State}
    (hc : exec c s = live s fun s => (s.onRead m off k).2.emit .busData [m.code, (s.onRead m off k).1])
    (hr : Reads m off s) (hk : s.Within S (k s).2) (ht : exec c s = .next t) : s.Within S t := by
  rw [hc, live_awake _ hr.1, State.onRead_of hr] at ht
  cases ht
  exact hk.emit.deliver s

end State.Within

/-! The statements' frames from a scope. -/

theorem silent_of_write {c : Instr} {s : State} {m : Master} {off w : Nat} {k : State → State} {keys : List Nat}
    (hc : exec c s = live s fun s => s.onWrite m off w k) (hw : Writes m off s)
    (hk : s.Within (.silent keys) (k s)) : Silent c s keys := fun _ ht => (State.Within.of_write hc hw hk ht).frame

theorem logged_of_write {c : Instr} {s : State} {m : Master} {off w : Nat} {k : State → State} {keys lists : List Nat}
    (hc : exec c s = live s fun s => s.onWrite m off w k) (hw : Writes m off s)
    (hk : s.Within (.logged keys lists) (k s)) : Logged c s keys lists :=
  fun _ ht => (State.Within.of_write hc hw hk ht).logged

theorem silent_of_read {c : Instr} {s : State} {m : Master} {off : Nat} {k : State → Nat × State} {keys : List Nat}
    (hc : exec c s = live s fun s => (s.onRead m off k).2.emit .busData [m.code, (s.onRead m off k).1])
    (hr : Reads m off s) (hk : s.Within (.silent keys) (k s).2) : Silent c s keys :=
  fun _ ht => (State.Within.of_read hc hr hk ht).frame

theorem logged_of_read {c : Instr} {s : State} {m : Master} {off : Nat} {k : State → Nat × State}
    {keys lists : List Nat}
    (hc : exec c s = live s fun s => (s.onRead m off k).2.emit .busData [m.code, (s.onRead m off k).1])
    (hr : Reads m off s) (hk : s.Within (.logged keys lists) (k s).2) : Logged c s keys lists :=
  fun _ ht => (State.Within.of_read hc hr hk ht).logged

end Sys2Proof.Machine
end

section
/-! The frames of the model's operations: for each operation that a register command goes through, the cells and lists
that a scope must hold for it. -/

namespace Sys2Proof.Machine

theorem mem_cellsAt {fs : List Field} {f : Field} {i : Nat} (hf : f ∈ fs) : f.key i ∈ cellsAt fs i :=
  List.mem_map_of_mem hf

theorem mem_listsAt {qs : List Fifo} {q : Fifo} {i : Nat} (hq : q ∈ qs) : q.key i ∈ listsAt qs i :=
  List.mem_map_of_mem hq

theorem mem_cellsUpTo {fs : List Field} {f : Field} {i n : Nat} (hf : f ∈ fs) (hi : i < n) :
    f.key i ∈ cellsUpTo fs n :=
  List.mem_flatMap.mpr ⟨i, List.mem_range.mpr hi, mem_cellsAt hf⟩

theorem mem_listsUpTo {qs : List Fifo} {q : Fifo} {i n : Nat} (hq : q ∈ qs) (hi : i < n) :
    q.key i ∈ listsUpTo qs n :=
  List.mem_flatMap.mpr ⟨i, List.mem_range.mpr hi, mem_listsAt hq⟩

namespace State.Within

variable {s t : State} {S : Scope}

/-! Refusals and written fields. -/

theorem refuseBy (h : s.Within S t) (b : Nat) (c : Rc) (obj d : Nat) (hl : S.logs)
    (hk : ∀ k ∈ refuseCells b, k ∈ S.cells) : s.Within S (t.refuseBy b c obj d) :=
  ((((h.put (hk _ (mem_cellsAt (by simp)))).put (hk _ (mem_cellsAt (by simp)))).put
    (hk _ (mem_cellsAt (by simp)))).put (hk _ (mem_cellsAt (by simp)))).raise hl

theorem refuse (h : s.Within S t) (c : Rc) (obj : Nat) (m : Master) (off : Nat) (hl : S.logs)
    (hk : ∀ k ∈ refuseCells c.block, k ∈ S.cells) : s.Within S (t.refuse c obj m off) :=
  h.refuseBy c.block c obj _ hl hk

theorem writeDenied (h : s.Within S t) (m : Master) (off kind : Nat) (hl : S.logs)
    (hk : GH_IRQ.DENIED.key 0 ∈ S.cells) : s.Within S (t.writeDenied m off kind) :=
  (h.raise hl).put hk

theorem writeField (h : s.Within S t) {f : Field} {i : Nat} (w : Nat) (un own : Bool)
    (hk : f.acc = .ro ∨ f.acc = .wo ∨ f.key i ∈ S.cells) : s.Within S (t.writeField f i w un own) := by
  rcases or_assoc.mpr hk with hk | hk
  · rwa [State.writeField_kept t i w un own hk]
  · rcases t.writeField_cases f i w un own with he | ⟨v, he⟩ <;> rw [he]
    · exact h
    · exact h.put hk

/-- A register without RWL and RWO fields needs its fields that a write can change. -/
theorem writeReg (h : s.Within S t) (m : Master) (r : Reg) (i w : Nat) (own : Bool)
    (hp : ∀ f ∈ r.fields, f.acc ≠ .rwl ∧ f.acc ≠ .rwo)
    (hk : ∀ f ∈ r.fields, f.acc = .ro ∨ f.acc = .wo ∨ f.key i ∈ S.cells) :
    s.Within S (t.writeReg m r i w own) := by
  rw [State.writeReg_plain _ _ _ _ _ _ hp]
  exact h.foldl fun u f hf => State.Within.refl.writeField w _ own (hk f hf)

/-! Pace and voltage. -/

theorem avsSend (h : s.Within S t) (p : Nat) (hk : AVS_PHASE.key 0 ∈ S.cells) : s.Within S (t.avsSend p) :=
  (h.put hk).emit

/-- The cells of the voltage engine that a committed value reaches (R87). -/
def commitCells : List Nat := cellsAt [AVS_TARGET, AVS_TRIES, AVS_REPEATED, AVS_MISMATCHED, AVS_PHASE, AVS_NEXT]

theorem commit (h : s.Within S t) (v : Nat) (hk : ∀ k ∈ commitCells, k ∈ S.cells) : s.Within S (t.commit v) := by
  have key {f : Field} (hf : f ∈ [AVS_TARGET, AVS_TRIES, AVS_REPEATED, AVS_MISMATCHED, AVS_PHASE, AVS_NEXT]) :
      f.key 0 ∈ S.cells := hk _ (mem_cellsAt hf)
  unfold State.commit
  refine branch (fun _ => h) fun _ => branch (fun _ => avsSend ?_ 1 (key (by simp))) fun _ => h.put (key (by simp))
  exact (((h.put (key (by simp))).put (key (by simp))).put (key (by simp))).put (key (by simp))

/-! The trigger router (R307 to R311). -/

theorem eventToken (h : s.Within S t) {l : Nat} (hl : S.logs) (hlt : l < 32)
    (hk : ∀ k ∈ routeCells, k ∈ S.cells) : s.Within S (t.eventToken l) := by
  have pend : EL_PEND.key l ∈ S.cells := hk _ (by
    simp only [routeCells, List.append_assoc, List.mem_append]
    exact .inr (.inl (mem_cellsUpTo (by simp) hlt)))
  have irq : FB_IRQ.EL_OVR.key 0 ∈ S.cells := hk _ (by simp [routeCells, cellsAt])
  have ovr : FB_ELOVR_LO.OVR.key 0 ∈ S.cells := hk _ (by simp [routeCells, cellsAt])
  have set : s.Within S ((t.orBit FB_ELOVR_LO.OVR (l % 32)).put FB_IRQ.EL_OVR 1) :=
    (show s.Within S (t.orBit FB_ELOVR_LO.OVR (l % 32)) from h.put ovr).put irq
  unfold State.eventToken
  simp only [hlt, if_true]
  exact branch (fun _ => branch (fun _ => set.raise hl) fun _ => set) fun _ => h.put pend

theorem mem_routeCells {f : Field} {d : Nat} (hf : f ∈ [RT_RAW, RT_LEFT, RT_VAL]) (hd : d < 176) :
    f.key d ∈ routeCells := List.mem_append_right _ (mem_cellsUpTo hf hd)

theorem setDest (h : s.Within S t) {d : Nat} (v : Bool) (hl : S.logs) (hd : d < 176)
    (hk : ∀ k ∈ routeCells, k ∈ S.cells) : s.Within S (t.setDest d v) := by
  have hv : s.Within S (t.put RT_VAL (b2n v) d) := h.put (hk _ (mem_routeCells (by simp) hd))
  unfold State.setDest
  refine branch (fun _ => h) fun _ => branch (fun _ => branch (fun _ => hv.emit) fun _ => hv) fun _ => ?_
  refine branch (fun hline => hv.eventToken hl ?_ hk) fun _ => hv
  simp only [Bool.and_eq_true, decide_eq_true_eq] at hline
  omega

theorem routeStep (h : s.Within S t) {d : Nat} (hl : S.logs) (hd : d < 176)
    (hk : ∀ k ∈ routeCells, k ∈ S.cells) : s.Within S (t.routeStep d) := by
  have hraw : s.Within S (t.put RT_RAW (b2n (t.routeRaw d)) d) := h.put (hk _ (mem_routeCells (by simp) hd))
  have pulse (n : Nat) : s.Within S (((t.put RT_RAW (b2n (t.routeRaw d)) d).put RT_LEFT n d).setDest d true) :=
    (hraw.put (hk _ (mem_routeCells (by simp) hd))).setDest true hl hd hk
  unfold State.routeStep
  dsimp only
  split
  · exact hraw.setDest _ hl hd hk
  · exact branch (fun _ => pulse _) fun _ => hraw
  · exact branch (fun _ => pulse _) fun _ => hraw

theorem setSource (h : s.Within S t) {c : Nat} (v : Bool) (hl : S.logs) (hc : SRC_VAL.key c ∈ S.cells)
    (hk : ∀ k ∈ routeCells, k ∈ S.cells) : s.Within S (t.setSource c v) := by
  unfold State.setSource
  refine branch (fun _ => h) fun _ => (h.put hc).foldl fun u d hd => ?_
  exact branch (fun _ => State.Within.refl.routeStep hl (List.mem_range.mp hd) hk) fun _ => .refl

theorem pulseSource (h : s.Within S t) {c : Nat} (hl : S.logs) (hc : SRC_VAL.key c ∈ S.cells)
    (hk : ∀ k ∈ routeCells, k ∈ S.cells) (hq : PULSES.key 0 ∈ S.lists) : s.Within S (t.pulseSource c) := by
  have hs := h.setSource true hl hc hk
  unfold State.pulseSource
  exact branch (fun _ => hs) fun _ => hs.setList hq

/-! The time base and cues. -/

theorem cueJudge (h : s.Within S t) {c : Nat} (hp : BS_CUSTAT.PEND.key c ∈ S.cells)
    (hq : CUE_LATEP.key c ∈ S.cells) : s.Within S (t.cueJudge c) := (h.put hp).put hq

theorem cuesRejudge (h : s.Within S t) (hk : ∀ k ∈ cellsUpTo [BS_CUSTAT.PEND, CUE_LATEP] 64, k ∈ S.cells) :
    s.Within S t.cuesRejudge := by
  unfold State.cuesRejudge
  refine h.foldl fun u c hc => branch (fun _ => .refl) fun _ => ?_
  have hc := List.mem_range.mp hc
  exact State.Within.refl.cueJudge (hk _ (mem_cellsUpTo (by simp) hc)) (hk _ (mem_cellsUpTo (by simp) hc))

theorem timeStep (h : s.Within S t) (o : Nat) (hl : S.logs)
    (hk : ∀ k ∈ cellsAt [TCOUNT, BS_TBSTAT.EPOCH_GEN, BS_TBSTAT.COARSE, BS_IRQ.EPOCH], k ∈ S.cells)
    (hc : ∀ k ∈ cellsUpTo [BS_CUSTAT.PEND, CUE_LATEP] 64, k ∈ S.cells) : s.Within S (t.timeStep o) := by
  have key {f : Field} (hf : f ∈ [TCOUNT, BS_TBSTAT.EPOCH_GEN, BS_TBSTAT.COARSE, BS_IRQ.EPOCH]) :
      f.key 0 ∈ S.cells := hk _ (mem_cellsAt hf)
  refine raise (cuesRejudge ?_ hc) hl
  exact (((h.put (key (by simp))).put (key (by simp))).put (key (by simp))).put (key (by simp))

theorem slewStart (h : s.Within S t) (o : Nat)
    (hk : ∀ k ∈ cellsAt [SLEW_LEFT, SLEW_NEG, BS_ADJCTL.BUSY], k ∈ S.cells) : s.Within S (t.slewStart o) :=
  ((h.put (hk _ (mem_cellsAt (by simp)))).put (hk _ (mem_cellsAt (by simp)))).put (hk _ (mem_cellsAt (by simp)))

theorem cuePush (h : s.Within S t) {c : Nat} (time action : Nat) (hl : S.logs)
    (hk : ∀ k ∈ cellsAt [BS_IRQ.CUE_ERR] ++ cellsAt [BS_CUCNT.DROP, BS_CUSTAT.PEND, CUE_LAST, CUE_LATEP] c,
      k ∈ S.cells)
    (hq : CUE_Q.key c ∈ S.lists) : s.Within S (t.cuePush c time action) := by
  have key {f : Field} (hf : f ∈ [BS_CUCNT.DROP, BS_CUSTAT.PEND, CUE_LAST, CUE_LATEP]) : f.key c ∈ S.cells :=
    hk _ (List.mem_append_right _ (mem_cellsAt hf))
  have irq : BS_IRQ.CUE_ERR.key 0 ∈ S.cells := hk _ (List.mem_append_left _ (mem_cellsAt (by simp)))
  have drop (why : Nat) :
      s.Within S (((t.count BS_CUCNT.DROP 1 c).put BS_IRQ.CUE_ERR 1).raise Rc.BS_CUE_DROP (0x200 + c) why) :=
    raise (put (put h (key (by simp))) irq) hl
  have queued (l : List Nat) (v : Nat) : s.Within S ((t.setList CUE_Q l c).put CUE_LAST v c) :=
    (h.setList hq).put (key (by simp))
  unfold State.cuePush State.enq
  refine branch (fun _ => h) fun _ => branch (fun _ => drop 0) fun _ => branch (fun _ => drop 1) fun _ => ?_
  exact branch (fun _ => (queued _ _).cueJudge (key (by simp)) (key (by simp))) fun _ =>
    (queued _ _).put (key (by simp))

/-! Timers. -/

/-- A write guarded by a timer's owner (R326): its own effect, or a refusal under R652. -/
theorem btOwned (h : s.Within S t) (m : Master) (n off : Nat) {k : State → State} (hl : S.logs)
    (hd : GH_IRQ.DENIED.key 0 ∈ S.cells) (hk : s.Within S (k t)) : s.Within S (t.btOwned m n off k) := by
  unfold State.btOwned
  exact branch (fun _ => hk) fun _ => h.writeDenied m off 1 hl hd

theorem btDrive (h : s.Within S t) {n : Nat} (ovf rst : Bool) (hl : S.logs) (ho : BT_STAT.OUT.key n ∈ S.cells)
    (hc : SRC_VAL.key (80 + n) ∈ S.cells) (hk : ∀ k ∈ routeCells, k ∈ S.cells) :
    s.Within S (t.btDrive n ovf rst) := (h.put ho).setSource _ hl hc hk

/-! Pins, crossing ports, lanes. -/

theorem declareVsel (h : s.Within S t) {b : Nat} (v : Nat)
    (hk : ∀ k ∈ cellsAt [IO_BCFG.VSEL, IO_BSTAT.OK] b, k ∈ S.cells) : s.Within S (t.declareVsel b v) := by
  unfold State.declareVsel
  exact branch (fun _ => h) fun _ => (h.put (hk _ (mem_cellsAt (by simp)))).put (hk _ (mem_cellsAt (by simp)))

theorem xpSync (h : s.Within S t) {x : Nat} (side : Nat)
    (hk : ∀ k ∈ cellsAt [XP_DISC, XP_SIDE, XP_STAT.LEVEL, XP_STAT.STATE] x, k ∈ S.cells)
    (hq : XP_Q.key x ∈ S.lists) : s.Within S (t.xpSync x side) := by
  have key {f : Field} (hf : f ∈ [XP_DISC, XP_SIDE, XP_STAT.LEVEL, XP_STAT.STATE]) : f.key x ∈ S.cells :=
    hk _ (mem_cellsAt hf)
  exact put (put (put (put (setList h hq) (key (by simp))) (key (by simp))) (key (by simp))) (key (by simp))

theorem pcsReset (h : s.Within S t) {l : Nat}
    (hk : ∀ k ∈ cellsAt [SL_LCTL.MARK, LANE_RXW, LANE_TXW, LTX_ARM] l, k ∈ S.cells) :
    s.Within S (t.pcsReset l) := by
  have key {f : Field} (hf : f ∈ [SL_LCTL.MARK, LANE_RXW, LANE_TXW, LTX_ARM]) : f.key l ∈ S.cells :=
    hk _ (mem_cellsAt hf)
  exact (((h.put (key (by simp))).put (key (by simp))).put (key (by simp))).put (key (by simp))

theorem eyeEnd (h : s.Within S t) {l : Nat} (n : Nat)
    (hk : ∀ k ∈ cellsAt [SL_LEYERES.COUNT, SL_LEYE.BUSY, SL_LEYE.DONE] l, k ∈ S.cells)
    (hi : SL_IRQ.EYE.key 0 ∈ S.cells) : s.Within S (t.eyeEnd l n) :=
  (((h.put (hk _ (mem_cellsAt (by simp)))).put (hk _ (mem_cellsAt (by simp)))).put
    (hk _ (mem_cellsAt (by simp)))).put hi

/-! The Lodge's peripherals. -/

/-- The level fields of a UART. -/
theorem periphLevels_uart (h : s.Within S t) {i : Nat} (hi : i < 2)
    (hk : ∀ k ∈ cellsAt [LG_USTAT.TXLVL, LG_USTAT.RXLVL, LG_USTAT.RXNE, LG_USTAT.TXLOW] i, k ∈ S.cells) :
    s.Within S (t.periphLevels i) := by
  have key {f : Field} (hf : f ∈ [LG_USTAT.TXLVL, LG_USTAT.RXLVL, LG_USTAT.RXNE, LG_USTAT.TXLOW]) :
      f.key i ∈ S.cells := hk _ (mem_cellsAt hf)
  simp only [State.periphLevels, hi, if_true]
  exact (((h.put (key (by simp))).put (key (by simp))).put (key (by simp))).put (key (by simp))

/-- The level fields of an I²C controller. -/
theorem periphLevels_i2c (h : s.Within S t) {i : Nat}
    (hk : ∀ k ∈ cellsAt [LG_ISTAT.TXLVL, LG_ISTAT.RXLVL] i, k ∈ S.cells) :
    s.Within S (t.periphLevels (4 + i)) := by
  simp only [State.periphLevels, show ¬4 + i < 2 by omega, show ¬4 + i < 4 by omega, if_false,
    Nat.add_sub_cancel_left]
  exact (h.put (hk _ (mem_cellsAt (by simp)))).put (hk _ (mem_cellsAt (by simp)))

/-- The bytes that wait for an I²C controller leave its FIFO one by one (R609). -/
theorem icDrain {k : Nat} (hk : ∀ c ∈ cellsAt [I_LEFT, I_PEC, LG_ISTAT.TXLVL, LG_ISTAT.RXLVL] k, c ∈ S.cells)
    (hq : LG_TX.key (4 + k) ∈ S.lists) (fuel : Nat) (h : s.Within S t) : s.Within S (icDrain fuel k t) := by
  have key {f : Field} (hf : f ∈ [I_LEFT, I_PEC, LG_ISTAT.TXLVL, LG_ISTAT.RXLVL]) : f.key k ∈ S.cells :=
    hk _ (mem_cellsAt hf)
  induction fuel generalizing t with
  | zero => exact h
  | succ f ih =>
    have popped (l : List Nat) : s.Within S ((t.setList LG_TX l (4 + k)).periphLevels (4 + k)) :=
      (h.setList hq).periphLevels_i2c fun c hc => by
        rcases List.mem_map.mp hc with ⟨g, hg, rfl⟩
        exact key (by simp only [List.mem_cons, List.not_mem_nil, or_false] at hg; rcases hg with rfl | rfl <;> simp)
    unfold Machine.icDrain State.periphPop
    refine branch (fun _ => h) fun _ => ?_
    cases t.list LG_TX (4 + k) with
    | nil => exact h
    | cons b r => exact ih (((popped r).emit.put (key (by simp))).put (key (by simp)))

end State.Within

end Sys2Proof.Machine
end

section
/-! O57: what each register command leaves as it was. One theorem for each clause; the last one puts them together. -/

namespace Sys2Proof.Machine

section Clauses

open State.Within (branch)

variable {s : State} {m : Master}

/-! Pace and voltage. -/

theorem vsetWrite_silent (w : Word) (hw : Writes m 0x1110 s) :
    Silent (.vsetWrite m w) s (cellsAt [AVS_MISMATCHED, AVS_NEXT, AVS_PHASE, AVS_REPEATED, AVS_TARGET, AVS_TRIES,
      PW_VSET.VSET]) := by
  refine silent_of_write (exec_vsetWrite m w s) hw ?_
  have hv (v : Nat) : s.Within (.silent (cellsAt [AVS_MISMATCHED, AVS_NEXT, AVS_PHASE, AVS_REPEATED, AVS_TARGET,
      AVS_TRIES, PW_VSET.VSET])) (s.put PW_VSET.VSET v) := .put .refl (by simp [cellsAt])
  unfold wrVset
  refine branch (fun _ => .refl) fun _ =>
    branch (fun _ => branch (fun _ => (hv _).commit _ ?_) fun _ => hv _) fun _ => .refl
  simp [State.Within.commitCells, cellsAt]

theorem avsFaultClear_silent (w : Word) (hw : Writes m 0x111C s) :
    Silent (.avsFaultClear m w) s (cellsAt [AVS_PHASE, AVS_TRIES, PW_GOVIRQ.AVS_FAULT, PW_GOVIRQ.METER_FAULT,
      PW_GOVIRQ.SHORT_SEEN, PW_GOVSTAT.STATE]) := by
  refine silent_of_write (exec_avsFaultClear m w s) hw ?_
  have hr : s.Within (.silent (cellsAt [AVS_PHASE, AVS_TRIES, PW_GOVIRQ.AVS_FAULT, PW_GOVIRQ.METER_FAULT,
      PW_GOVIRQ.SHORT_SEEN, PW_GOVSTAT.STATE])) (s.writeReg m PW_GOVIRQ.reg 0 w.toNat) :=
    State.Within.refl.writeReg m _ 0 _ true (by decide) (by simp [PW_GOVIRQ.reg, cellsAt])
  unfold wrGovIrq
  exact branch (fun _ => ((hr.put (by simp [cellsAt])).put (by simp [cellsAt])).avsSend 6 (by simp [cellsAt]))
    fun _ => hr

/-! Clocks. -/

theorem ctlSel_logged (w : Word) (hw : Writes m 0x4000 s) :
    Logged (.ctlSel m w) s (cellsAt [CK_CTL.CTL_SEL, CK_CTL.CTL_ACT] ++ refuseCells 4) [] := by
  refine logged_of_write (exec_ctlSel m w s) hw ?_
  have set (v : Nat) : s.Within (.logged (cellsAt [CK_CTL.CTL_SEL, CK_CTL.CTL_ACT] ++ refuseCells 4) [])
      ((s.put CK_CTL.CTL_SEL v).put CK_CTL.CTL_ACT v) :=
    .put (.put .refl (by simp [cellsAt])) (by simp [cellsAt])
  unfold wrCkCtl
  refine branch (fun _ => branch (fun _ => set 1) fun _ => ?_) fun _ => branch (fun _ => .refl) fun _ => set 0
  exact State.Within.refl.refuse _ _ _ _ trivial fun _ hk => List.mem_append_right _ hk

theorem freqMeterGo_silent (w : Word) (hw : Writes m 0x4020 s) :
    Silent (.freqMeterGo m w) s (cellsAt [CK_FMCTL.BASE, CK_FMCTL.BUSY, CK_FMCTL.DONE, CK_FMCTL.GATE, CK_FMCTL.SRC,
      FM_SRC]) := by
  refine silent_of_write (exec_freqMeterGo m w s) hw ?_
  have hr : s.Within (.silent (cellsAt [CK_FMCTL.BASE, CK_FMCTL.BUSY, CK_FMCTL.DONE, CK_FMCTL.GATE, CK_FMCTL.SRC,
      FM_SRC])) (s.writeReg m CK_FMCTL.reg 0 (setBit w.toNat 14)) :=
    State.Within.refl.writeReg m _ 0 _ true (by decide) (by simp [CK_FMCTL.reg, CK_FMCTL.GO, cellsAt])
  unfold wrFmCtl
  exact branch (fun _ => ((hr.put (by simp [cellsAt])).put (by simp [cellsAt])).put (by simp [cellsAt])) fun _ => hr

/-! The time base, cues and triggers. -/

theorem epochArm_logged (w : Word) (hw : Writes m 0x8018 s) :
    Logged (.epochArm m w) s (cellsAt [BS_EPCTL.ARM, BS_EPCTL.SRC, BS_EPCTL.QUAL] ++ refuseCells 6) [] := by
  refine logged_of_write (exec_epochArm m w s) hw ?_
  set S := Scope.logged (cellsAt [BS_EPCTL.ARM, BS_EPCTL.SRC, BS_EPCTL.QUAL] ++ refuseCells 6) [] with hS
  have arm {t : State} (v : Nat) (h : s.Within S t) : s.Within S (t.put BS_EPCTL.ARM v) :=
    h.put (by simp [hS, cellsAt])
  have hr := arm 0 (State.Within.refl.writeReg m BS_EPCTL.reg 0 w.toNat true (by decide)
    (by simp [hS, BS_EPCTL.reg, cellsAt]))
  have refused (c : Rc) (hc : c.block = 6) := hr.refuse c 0 m 0x8018 trivial
    fun k hk => List.mem_append_right _ (hc ▸ hk)
  unfold wrEpCtl
  exact branch (fun _ => arm _ (branch (fun _ => .raise .refl trivial) fun _ => .refl)) fun _ =>
    branch (fun _ => hr) fun _ =>
    branch (fun _ => refused _ rfl) fun _ =>
    branch (fun _ => refused _ rfl) fun _ =>
    branch (fun _ => refused _ rfl) fun _ => arm _ hr

/-- The cells that an adjustment of the time base may write (R287, R288). -/
def adjustCells : List Nat :=
  cellsAt (BS_ADJCTL.reg.fields ++
      [BS_IRQ.EPOCH, BS_TBSTAT.COARSE, BS_TBSTAT.EPOCH_GEN, SLEW_LEFT, SLEW_NEG, TCOUNT]) ++
    cellsUpTo [BS_CUSTAT.PEND, CUE_LATEP] 64 ++ refuseCells 6

theorem wrAdjCtl_within (w : Nat) : s.Within (.logged adjustCells []) (wrAdjCtl m w s) := by
  have hr : s.Within (.logged adjustCells []) (s.writeReg m BS_ADJCTL.reg 0 w) :=
    State.Within.refl.writeReg m _ 0 _ true (by decide) fun f hf => .inr (.inr
      (List.mem_append_left _ (List.mem_append_left _ (mem_cellsAt (List.mem_append_left _ hf)))))
  have refused (c : Rc) (hc : c.block = 6) :
      s.Within (.logged adjustCells []) ((s.writeReg m BS_ADJCTL.reg 0 w).refuse c 0 m 0x8038) :=
    hr.refuse c 0 m _ trivial fun k hk => List.mem_append_right _ (hc ▸ hk)
  unfold wrAdjCtl
  refine branch (fun _ => hr) fun _ =>
    branch (fun _ => refused _ rfl) fun _ =>
    branch (fun _ => refused _ rfl) fun _ =>
    branch (fun _ => refused _ rfl) fun _ =>
    branch (fun _ => hr.timeStep _ trivial ?_ ?_) fun _ => hr.slewStart _ ?_
  · simp [adjustCells, cellsAt]
  · exact fun k hk => List.mem_append_left _ (List.mem_append_right _ hk)
  · simp [adjustCells, BS_ADJCTL.reg, cellsAt]

theorem adjStep_logged (w : Word) (hw : Writes m 0x8038 s) : Logged (.adjStep m w) s adjustCells [] :=
  logged_of_write (exec_adjStep m w s) hw (wrAdjCtl_within _)

theorem adjSlew_logged (w : Word) (hw : Writes m 0x8038 s) : Logged (.adjSlew m w) s adjustCells [] :=
  logged_of_write (exec_adjSlew m w s) hw (wrAdjCtl_within _)

theorem cueCommandPush_logged (c : Fin 64) (w : Word) (hw : Writes m (0x9110 + 0x20 * c) s) :
    Logged (.cueCommandPush m c w) s (cellsAt [BS_IRQ.CUE_ERR] ++ cellsAt [BS_CUCNT.DROP, BS_CUSTAT.PEND, CUE_LAST,
      CUE_LATEP] c) (listsAt [CUE_Q] c) :=
  logged_of_write (exec_cueCommandPush m c w s) hw
    (State.Within.refl.cuePush _ _ trivial (fun _ hk => hk) (mem_listsAt (by simp)))

theorem softTrigger_logged (w : Word) (hw : Writes m 0x8044 s) :
    Logged (.softTrigger m w) s ((List.range 16).flatMap (fun k => cellsAt [SRC_VAL] (112 + k)) ++ routeCells)
      (listsAt [PULSES]) := by
  refine logged_of_write (exec_softTrigger m w s) hw ?_
  unfold wrSoft
  refine State.Within.refl.foldl fun u k hk => branch (fun _ => ?_) fun _ => .refl
  exact State.Within.refl.pulseSource trivial
    (List.mem_append_left _ (List.mem_flatMap.mpr ⟨k, hk, mem_cellsAt (by simp)⟩))
    (fun _ hr => List.mem_append_right _ hr) (mem_listsAt (by simp))

/-! Timers. -/

theorem btGo_logged (a b : BitVec 16) (hw : Writes m 0xA004 s) :
    Logged (.btGo m a b) s (cellsUpTo [BT_CTL.RUN, BT_STAT.OUT] 16 ++ (List.range 16).flatMap (fun t =>
      cellsAt [SRC_VAL] (80 + t)) ++ cellsAt [GH_IRQ.DENIED] ++ routeCells) [] := by
  refine logged_of_write (exec_btGo m a b s) hw ?_
  unfold wrBtGo
  refine State.Within.foldl (branch (fun _ => .refl) fun _ => ?_) fun u t ht => ?_
  · exact State.Within.refl.writeDenied m _ 1 trivial (by simp [cellsAt])
  · have ht : t ∈ List.range 16 := (List.mem_filter.mp (List.mem_filter.mp ht).1).1
    have cell {f : Field} (hf : f ∈ [BT_CTL.RUN, BT_STAT.OUT]) := mem_cellsUpTo hf (List.mem_range.mp ht)
    have hrun (v : Nat) := (State.Within.refl (s := u) (S := .logged (cellsUpTo [BT_CTL.RUN, BT_STAT.OUT] 16 ++
      (List.range 16).flatMap (fun t => cellsAt [SRC_VAL] (80 + t)) ++ cellsAt [GH_IRQ.DENIED] ++ routeCells) [])).put
      (f := BT_CTL.RUN) (v := v) (i := t) (by simp [cell])
    refine branch (fun _ => (hrun _).btDrive false false trivial (by simp [cell]) ?_ fun _ hr => ?_) fun _ => hrun _
    · exact List.mem_append_left _ (List.mem_append_left _ (List.mem_append_right _
        (List.mem_flatMap.mpr ⟨t, ht, mem_cellsAt (by simp)⟩)))
    · exact List.mem_append_right _ hr

theorem snapshot_silent (v : BitVec 16) (hw : Writes m 0xA008 s) :
    Silent (.snapshot m v) s (cellsUpTo [BT_SNAP_LO.COUNT, BT_SNAP_HI.COUNT] 16) := by
  refine silent_of_write (exec_snapshot m v s) hw ?_
  unfold wrBtSnap
  refine State.Within.refl.foldl fun u t ht => branch (fun _ => ?_) fun _ => .refl
  have ht := List.mem_range.mp ht
  exact .put (.put .refl (mem_cellsUpTo (by simp) ht)) (mem_cellsUpTo (by simp) ht)

theorem timerClaim_logged (t : Fin 16) (a : BitVec 3) (hw : Writes m (0xA104 + 0x80 * t) s) :
    Logged (.timerClaim m t a) s (cellsAt [BT_OWN.OWNER] t ++ refuseCells 7) [] := by
  refine logged_of_write (exec_timerClaim m t a s) hw ?_
  have release : bit (8 + 256 * a.toNat) 4 = false := by simp only [bit, decide_eq_false_iff_not]; omega
  have claim : bit (8 + 256 * a.toNat) 3 = true := by simp only [bit, decide_eq_true_eq]; omega
  have own (v : Nat) : s.Within (.logged (cellsAt [BT_OWN.OWNER] t ++ refuseCells 7) []) (s.put BT_OWN.OWNER v t) :=
    .put .refl (by simp [cellsAt])
  simp only [wrBtOwn, release, claim, if_true, Bool.false_eq_true, if_false]
  refine branch (fun _ => (own _).raise trivial) fun _ =>
    branch (fun _ => (own _).raise trivial) fun _ =>
    branch (fun _ => .refl) fun _ => ?_
  exact State.Within.refl.refuse _ _ _ _ trivial fun _ hk => List.mem_append_right _ hk

theorem timerRelease_logged (t : Fin 16) (hw : Writes m (0xA104 + 0x80 * t) s) :
    Logged (.timerRelease m t) s (cellsAt [BT_OWN.OWNER] t ++ cellsAt [GH_IRQ.DENIED] ++ refuseCells 7) [] := by
  refine logged_of_write (exec_timerRelease m t s) hw ?_
  simp only [wrBtOwn, show bit 16 3 = false from rfl, show bit 16 4 = true from rfl, if_true, Bool.false_eq_true,
    if_false]
  refine State.Within.refl.btOwned m _ _ trivial (by simp [cellsAt]) (branch (fun _ => ?_) fun _ => ?_)
  · exact State.Within.refl.refuse _ _ _ _ trivial fun _ hk => List.mem_append_right _ hk
  · exact .raise (.put .refl (by simp [cellsAt])) trivial

theorem countLoad_logged (t : Fin 16) (w : Word) (hw : Writes m (0xA114 + 0x80 * t) s) :
    Logged (.countLoad m t w) s (cellsAt [BT_CNT_LO.COUNT, BT_CNT_HI.COUNT, BT_PSCNT] t ++
      cellsAt [WR_HOLD] (8 * (0x2844 + 0x20 * t) + m.code) ++ cellsAt [GH_IRQ.DENIED]) [] := by
  refine logged_of_write (exec_countLoad m t w s) hw ?_
  have pair : 8 * ((0xA110 + 0x80 * t.val) / 4) + m.code = 8 * (0x2844 + 0x20 * t.val) + m.code := by omega
  unfold wrBtCntHi State.setBtCount State.dropHold
  refine State.Within.refl.btOwned m _ _ trivial (by simp [cellsAt]) ?_
  refine .put (.put (.put (.put .refl ?_) ?_) ?_) ?_
  · rw [pair]; simp [cellsAt]
  all_goals simp [cellsAt]

/-! Queues, banks, lanes, ports. -/

theorem jres_logged (w : Word) (hw : Writes m 0x10000 s) :
    Logged (.jres m w) s (cellsAt [QM_CTL.JRES] ++ refuseCells 8) [] := by
  refine logged_of_write (exec_jres m w s) hw ?_
  have set (v : Nat) : s.Within (.logged (cellsAt [QM_CTL.JRES] ++ refuseCells 8) []) (s.put QM_CTL.JRES v) :=
    .put .refl (by simp [cellsAt])
  unfold wrQmCtl
  refine branch (fun _ => ?_) fun _ => set _
  split
  · exact State.Within.refl.refuse _ _ _ _ trivial fun _ hk => List.mem_append_right _ hk
  · exact set 1

/-- A bank's checks answer codes of the pins' block (R397). -/
theorem bankCheck_block {b v : Nat} {c : Rc} {obj : Nat} (h : s.bankCheck m b v = some (c, obj)) : c.block = 3 := by
  simp only [State.bankCheck] at h
  split_ifs at h <;> cases h <;> rfl

theorem bankEnable_logged (b : Fin 12) (w : Word) (hw : Writes m (0x2100 + 8 * b) s) :
    Logged (.bankEnable m b w) s (cellsAt [IO_BCFG.EN, IO_BCFG.VSEL, IO_BSTAT.OK] b ++ cellsAt [GH_IRQ.DENIED] ++
      refuseCells 3) [] := by
  refine logged_of_write (exec_bankEnable m b w s) hw ?_
  set S := Scope.logged (cellsAt [IO_BCFG.EN, IO_BCFG.VSEL, IO_BSTAT.OK] b ++ cellsAt [GH_IRQ.DENIED] ++
    refuseCells 3) [] with hS
  have vsel (v : Nat) : s.Within S (s.declareVsel b v) := State.Within.refl.declareVsel v (by simp [hS, cellsAt])
  have en {t : State} (v : Nat) (h : s.Within S t) : s.Within S (t.put IO_BCFG.EN v b) := h.put (by simp [hS, cellsAt])
  have refused {t : State} (c : Rc) (obj off : Nat) (hc : c.block = 3) (h : s.Within S t) :
      s.Within S (t.refuse c obj m off) := h.refuse c obj m off trivial fun k hk => List.mem_append_right _ (hc ▸ hk)
  unfold wrBcfg
  refine branch (fun _ => State.Within.refl.writeDenied m _ 0 trivial (by simp [hS, cellsAt])) fun _ =>
    branch (fun _ => ?_) fun _ =>
    branch (fun _ => .refl) fun _ => ?_
  · split
    · exact refused _ _ _ (bankCheck_block ‹_›) (branch (fun _ => .refl) fun _ => vsel _)
    · exact en 1 (vsel _)
  · have hv (v : Nat) : s.Within S (if v ≤ 5 then s.declareVsel b v else s) :=
      branch (fun _ => vsel v) fun _ => .refl
    exact branch (fun _ => branch (fun _ => refused _ _ _ rfl (hv _)) fun _ => en 0 (hv _)) fun _ => hv _

theorem eyeScanGo_silent (l : Fin 40) (w : Word) (hw : Writes m (0x7428 + 0x40 * l) s) :
    Silent (.eyeScanGo m l w) s (cellsAt [SL_IRQ.EYE] ++ cellsAt (SL_LEYE.reg.fields ++ [SL_LEYERES.COUNT]) l) := by
  refine silent_of_write (exec_eyeScanGo m l w s) hw ?_
  have hr : s.Within (.silent (cellsAt [SL_IRQ.EYE] ++ cellsAt (SL_LEYE.reg.fields ++ [SL_LEYERES.COUNT]) l))
      (s.writeReg m SL_LEYE.reg l (setBit w.toNat 18)) :=
    State.Within.refl.writeReg m _ l _ true (by decide) fun f hf => .inr (.inr
      (List.mem_append_right _ (mem_cellsAt (List.mem_append_left _ hf))))
  have busy := (hr.put (f := SL_LEYE.BUSY) (v := 1) (i := l) (by simp [SL_LEYE.reg, cellsAt])).put
    (f := SL_LEYE.DONE) (v := 0) (i := l) (by simp [SL_LEYE.reg, cellsAt])
  unfold wrLeye
  refine branch (fun _ => .refl) fun _ =>
    branch (fun _ => .refl) fun _ =>
    branch (fun _ => hr) fun _ =>
    branch (fun _ => busy) fun _ => ?_
  exact busy.eyeEnd _ (by simp [SL_LEYE.reg, cellsAt]) (by simp [cellsAt])

theorem xpPortReset_logged (x : Fin 256) (hw : Writes m (0x6008 + 0x10 * x) s) :
    Logged (.xpPortReset m x) s (cellsAt [XP_DISC, XP_SIDE, XP_STAT.LEVEL, XP_STAT.STATE] x) (listsAt [XP_Q] x) := by
  refine logged_of_write (exec_xpPortReset m x s) hw ?_
  unfold wrXpStat
  exact branch (fun _ => State.Within.refl.xpSync 1 (fun _ hk => hk) (mem_listsAt (by simp))) fun _ => .refl

theorem laneMark_silent (l : Fin 40) (hw : Writes m (0x7404 + 0x40 * l) s) :
    Silent (.laneMark m l) s (cellsAt [SL_LCTL.MARK] l) := by
  refine silent_of_write (exec_laneMark m l s) hw ?_
  simp only [wrLctl, show bit 2 0 = false from rfl, Bool.false_eq_true, if_false]
  exact branch (fun _ => .refl) fun _ => .put .refl (by simp [cellsAt])

theorem laneRst_logged (l : Fin 40) (hw : Writes m (0x7404 + 0x40 * l) s) :
    Logged (.laneRst m l) s (cellsAt [SL_LCTL.MARK, LANE_RXW, LANE_TXW, LTX_ARM] l ++
      cellsUpTo [XP_DISC, XP_SIDE, XP_STAT.LEVEL, XP_STAT.STATE] 256) (listsUpTo [XP_Q] 256) := by
  refine logged_of_write (exec_laneRst m l s) hw ?_
  simp only [wrLctl, show bit 1 0 = true from rfl, if_true]
  refine branch (fun _ => .refl) fun _ => State.Within.foldl (State.Within.pcsReset ?_ ?_) fun u x hx => ?_
  · exact .put .refl (by simp [cellsAt])
  · exact fun _ hk => List.mem_append_left _ hk
  · have hx : x < 256 := List.mem_range.mp (List.mem_filter.mp hx).1
    refine branch (fun _ => .refl) fun _ => State.Within.refl.xpSync 1 (fun k hk => ?_) (mem_listsUpTo (by simp) hx)
    exact List.mem_append_right _ (List.mem_flatMap.mpr ⟨x, List.mem_range.mpr hx, hk⟩)

theorem witnessClaim_silent (w : Word) (hw : Writes m 0x28044 s) :
    Silent (.witnessClaim m w) s (cellsAt [MI_WBOUND, MI_WHOLD.HOLDER, MI_WHOLD.PAIR_ID]) := by
  refine silent_of_write (exec_witnessClaim m w s) hw ?_
  have bound (v : Nat) : s.Within (.silent (cellsAt [MI_WBOUND, MI_WHOLD.HOLDER, MI_WHOLD.PAIR_ID]))
      ((s.put MI_WBOUND 1).put MI_WHOLD.PAIR_ID v) := .put (.put .refl (by simp [cellsAt])) (by simp [cellsAt])
  have held (v a : Nat) := (bound v).put (f := MI_WHOLD.HOLDER) (v := a) (i := 0) (by simp [cellsAt])
  unfold wrWclaim
  exact branch (fun _ => .refl) fun _ =>
    branch (fun _ => held _ _) fun _ => .drawn (branch (fun _ => held _ _) fun _ => bound _)

theorem channelPortEnable_logged (j : Fin 32) (w : Word) (hw : Writes m (0x24800 + 4 * j) s) :
    Logged (.channelPortEnable m j w) s (cellsAt HX_CPCFG.reg.fields j ++ cellsAt [GH_IRQ.DENIED] ++ refuseCells 0x0B)
      [] := by
  refine logged_of_write (exec_channelPortEnable m j w s) hw ?_
  unfold wrCpCfg
  refine branch (fun _ => branch (fun _ => .refl) fun _ => branch (fun _ => ?_) fun _ => ?_) fun _ => ?_
  · exact State.Within.refl.refuse _ _ _ _ trivial fun _ hk => List.mem_append_right _ hk
  · exact .put (.put .refl (by simp [HX_CPCFG.reg, cellsAt])) (by simp [HX_CPCFG.reg, cellsAt])
  · exact State.Within.refl.writeReg m _ j _ true (by decide) fun f hf => .inr (.inr
      (List.mem_append_left _ (List.mem_append_left _ (mem_cellsAt hf))))

/-! The Lodge's peripherals. -/

theorem uartTxPush_logged (k : Fin 2) (w : Word) (hw : Writes m (0x31004 + 0x100 * k) s) :
    Logged (.uartTxPush m k w) s (cellsAt [U_SHIFT, LG_USTAT.DROP, LG_USTAT.TXLVL, LG_USTAT.RXLVL, LG_USTAT.RXNE,
      LG_USTAT.TXLOW] k) (listsAt [LG_TX] k) := by
  refine logged_of_write (exec_uartTxPush m k w s) hw ?_
  unfold wrUdata
  refine branch (fun _ => .put .refl (by simp [cellsAt])) fun _ =>
    branch (fun _ => .put .refl (by simp [cellsAt])) fun _ => ?_
  exact State.Within.periphLevels_uart (.setList .refl (mem_listsAt (by simp))) k.isLt (by simp [cellsAt])

theorem spiCommand_silent (k : Fin 2) (w : Word) (hw : Writes m (0x31204 + 0x100 * k) s) :
    Silent (.spiCommand m k w) s (cellsAt [LG_SSTAT.BUSY, LG_SSTAT.CMDERR, S_CS, S_KEEP, S_LEFT] k) := by
  refine silent_of_write (exec_spiCommand m k w s) hw ?_
  unfold wrScmd
  refine branch (fun _ => .refl) fun _ => branch (fun _ => .put .refl (by simp [cellsAt])) fun _ => .emit ?_
  exact .put (.put (.put (.put .refl (by simp [cellsAt])) (by simp [cellsAt])) (by simp [cellsAt])) (by simp [cellsAt])

theorem i2cCommand_logged (k : Fin 2) (w : Word) (hw : Writes m (0x31404 + 0x100 * k) s) :
    Logged (.i2cCommand m k w) s (cellsAt [I_CMD, I_HOLD, I_LEFT, I_PEC, LG_ISTAT.BUSY, LG_ISTAT.TXLVL,
      LG_ISTAT.RXLVL] k) (listsAt [LG_TX] (4 + k)) := by
  refine logged_of_write (exec_i2cCommand m k w s) hw ?_
  set S := Scope.logged (cellsAt [I_CMD, I_HOLD, I_LEFT, I_PEC, LG_ISTAT.BUSY, LG_ISTAT.TXLVL, LG_ISTAT.RXLVL] k)
    (listsAt [LG_TX] (4 + k)) with hS
  have begun (c n : Nat) : s.Within S (((s.put I_CMD c k).put LG_ISTAT.BUSY 1 k).put I_LEFT n k) :=
    .put (.put (.put .refl (by simp [hS, cellsAt])) (by simp [hS, cellsAt])) (by simp [hS, cellsAt])
  unfold wrIcmd
  refine branch (fun _ => .refl) fun _ => State.Within.icDrain (by simp [hS, cellsAt]) (mem_listsAt (by simp)) 32 ?_
  refine .put (branch (fun _ => .emit (.put (begun _ _) ?_)) fun _ => begun _ _) ?_ <;> simp [hS, cellsAt]

theorem gpioSetClear_silent (clear : Bool) (w : Word) (hw : Writes m (if clear then 0x31808 else 0x31804) s) :
    Silent (.gpioSetClear m clear w) s (cellsAt [LG_GPOUT.OUT]) := by
  have out (v : Nat) : s.Within (.silent (cellsAt [LG_GPOUT.OUT])) (wrGpout v s) :=
    .emit (.put .refl (by simp [cellsAt]))
  cases clear with
  | true => exact silent_of_write (k := wrGpclr w.toNat) (exec_gpioSetClear m true w s) hw (out _)
  | false => exact silent_of_write (k := wrGpset w.toNat) (exec_gpioSetClear m false w s) hw (out _)

theorem watchdogEnable_logged (w : Word) (hw : Writes m 0x31900 s) :
    Logged (.watchdogEnable m w) s (cellsAt [LG_WDCFG.ACTION, LG_WDCFG.EN, LG_WDCFG.FRZ, LG_WDCFG.TIMEOUT,
      LG_WDSTAT.REMAIN]) [] := by
  refine logged_of_write (exec_watchdogEnable m w s) hw ?_
  have hr : s.Within (.logged (cellsAt [LG_WDCFG.ACTION, LG_WDCFG.EN, LG_WDCFG.FRZ, LG_WDCFG.TIMEOUT,
      LG_WDSTAT.REMAIN]) []) (s.writeReg m LG_WDCFG.reg 0 w.toNat) :=
    State.Within.refl.writeReg m _ 0 _ true (by decide) (by simp [LG_WDCFG.reg, cellsAt])
  unfold wrWdcfg
  exact branch (fun _ => .refl) fun _ => branch (fun _ => hr.put (by simp [cellsAt])) fun _ => hr

theorem watchdogKick_logged (w : Word) (hw : Writes m 0x31904 s) :
    Logged (.watchdogKick m w) s (cellsAt [LG_WDSTAT.BADKICK, LG_WDSTAT.REMAIN, LG_WDSTAT.WARNED]) [] := by
  refine logged_of_write (exec_watchdogKick m w s) hw ?_
  have bad : s.Within (.logged (cellsAt [LG_WDSTAT.BADKICK, LG_WDSTAT.REMAIN, LG_WDSTAT.WARNED]) [])
      (s.count LG_WDSTAT.BADKICK 1) := .put .refl (by simp [cellsAt])
  unfold wrWdkick
  refine branch (fun _ => branch (fun _ => ?_) fun _ => .refl) fun _ => branch (fun _ => bad.raise trivial) fun _ => bad
  exact .put (.put .refl (by simp [cellsAt])) (by simp [cellsAt])

theorem h2lRing_logged (hw : Writes m 0x31A40 s) :
    Logged (.h2lRing m) s (cellsAt [LG_IRQ.MBOX_H2L, LG_MBSTAT.DROPS, LG_MBSTAT.H2L_FULL]) [] := by
  refine logged_of_write (exec_h2lRing m s) hw ?_
  simp only [wrMbdb, show bit 1 0 = true from rfl, show bit 1 1 = false from rfl, Bool.true_and, Bool.false_and,
    Bool.false_eq_true, if_false]
  refine branch (fun _ => branch (fun _ => .raise (.put .refl ?_) trivial) fun _ => .put (.put .refl ?_) ?_)
    fun _ => .refl
  all_goals simp [cellsAt]

theorem l2hRing_logged (hw : Writes m 0x31A40 s) :
    Logged (.l2hRing m) s (cellsAt [LG_IRQ.MBOX_L2H, LG_MBSTAT.DROPS, LG_MBSTAT.L2H_FULL]) [] := by
  refine logged_of_write (exec_l2hRing m s) hw ?_
  simp only [wrMbdb, show bit 2 0 = false from rfl, show bit 2 1 = true from rfl, Bool.true_and, Bool.false_and,
    Bool.false_eq_true, if_false]
  refine branch (fun _ => branch (fun _ => .raise (.put .refl ?_) trivial) fun _ => .put (.put .refl ?_) ?_)
    fun _ => .refl
  all_goals simp [cellsAt]

theorem mailboxClear_silent (w : Word) (hw : Writes m 0x31A44 s) :
    Silent (.mailboxClear m w) s (cellsAt [LG_IRQ.MBOX_H2L, LG_IRQ.MBOX_L2H, LG_MBSTAT.DROPS, LG_MBSTAT.H2L_FULL,
      LG_MBSTAT.L2H_FULL]) := by
  refine silent_of_write (exec_mailboxClear m w s) hw ?_
  set S := Scope.silent (cellsAt [LG_IRQ.MBOX_H2L, LG_IRQ.MBOX_L2H, LG_MBSTAT.DROPS, LG_MBSTAT.H2L_FULL,
    LG_MBSTAT.L2H_FULL]) with hS
  have clear {c : Prop} [Decidable c] {t : State} {f g : Field} (h : s.Within S t) (hf : f.key 0 ∈ S.cells)
      (hg : g.key 0 ∈ S.cells) : s.Within S (if c then (t.put f 0).put g 0 else t) :=
    branch (fun _ => (h.put hf).put hg) fun _ => h
  have both := clear (c := bit w.toNat 1 && m ≠ .lodgeM) (f := LG_MBSTAT.L2H_FULL) (g := LG_IRQ.MBOX_L2H)
    (clear (c := bit w.toNat 0 && m = .lodgeM) (f := LG_MBSTAT.H2L_FULL) (g := LG_IRQ.MBOX_H2L) .refl
      (by simp [hS, cellsAt]) (by simp [hS, cellsAt])) (by simp [hS, cellsAt]) (by simp [hS, cellsAt])
  unfold wrMbstat
  exact branch (fun _ => both.put (by simp [hS, cellsAt])) fun _ => both

/-! The gatehouse and the log. -/

theorem unlockKeyWrite_logged (w : Word) (hw : Writes m 0x1C s) :
    Logged (.unlockKeyWrite m w) s (cellsAt [GH_IRQ.UNLOCK, GH_STATUS.UNLOCK_ID, GH_STATUS.UNLOCK_OPEN] ++
      cellsAt [UNL_LEFT, UNL_ABORT] m.code) [] := by
  refine logged_of_write (exec_unlockKeyWrite m w s) hw ?_
  set S := Scope.logged (cellsAt [GH_IRQ.UNLOCK, GH_STATUS.UNLOCK_ID, GH_STATUS.UNLOCK_OPEN] ++
    cellsAt [UNL_LEFT, UNL_ABORT] m.code) [] with hS
  have bad (d : Nat) : s.Within S (s.raise Rc.GH_UNLOCK_SEQ m.code d) := .raise .refl trivial
  have status {f : Field} (hf : f ∈ [GH_IRQ.UNLOCK, GH_STATUS.UNLOCK_ID, GH_STATUS.UNLOCK_OPEN]) : f.key 0 ∈ S.cells :=
    List.mem_append_left _ (mem_cellsAt hf)
  have own {f : Field} (hf : f ∈ [UNL_LEFT, UNL_ABORT]) : f.key m.code ∈ S.cells :=
    List.mem_append_right _ (mem_cellsAt hf)
  have opened : s.Within S ((((s.put UNL_LEFT 0 m.code).put GH_STATUS.UNLOCK_OPEN 1).put GH_STATUS.UNLOCK_ID
      m.code).raise Rc.GH_UNLOCK_OPEN m.code) :=
    .raise (.put (.put (.put .refl (own (by simp))) (status (by simp))) (status (by simp))) trivial
  have keyed : s.Within S ((s.put UNL_LEFT 33 m.code).put UNL_ABORT 0 m.code) :=
    .put (.put .refl (own (by simp))) (own (by simp))
  have closed : s.Within S s.unlockClose := .put (.put .refl (status (by simp))) (status (by simp))
  unfold wrUnlock
  exact branch (fun _ => closed) fun _ =>
    branch (fun _ => branch (fun _ => keyed) fun _ => bad 0) fun _ =>
    branch (fun _ => branch (fun _ => (bad 1).put (own (by simp))) fun _ =>
      branch (fun _ => opened.put (status (by simp))) fun _ => bad 0) fun _ => bad 0

theorem evCurWrite_logged (c : Fin 4) (w : Word) (hw : Writes m (0x38020 + 4 * c) s) :
    Logged (.evCurWrite m c w) s (cellsAt [EV_CUR.SEQ] c ++ cellsAt [GH_IRQ.DENIED]) [] := by
  refine logged_of_write (exec_evCurWrite m c w s) hw ?_
  unfold wrEvCur
  refine branch (fun _ => State.Within.refl.writeDenied m _ 1 trivial ?_) fun _ => .put .refl ?_ <;> simp [cellsAt]

/-! Consuming reads (R19, R23). -/

theorem tnowRead_silent (hr : Reads m 0x802C s) :
    Silent (.tnowRead m) s (cellsAt [RD_LATCH] (8 * 0x200C + m.code) ++ cellsAt [RD_LATCH] (8 * 0x200D + m.code)) := by
  refine silent_of_read (exec_tnowRead m s) hr ?_
  exact .put (.put .refl (by simp [cellsAt])) (by simp [cellsAt])

theorem ttdat0Read_logged (n : Fin 96) (hr : Reads m (0x8108 + 0x20 * n) s) :
    Logged (.ttdat0Read m n) s (cellsAt [BS_TTSTAT.LEVEL] n ++ (List.range 3).flatMap (fun i =>
      cellsAt [RD_LATCH] (8 * (0x2043 + 8 * n + i) + m.code))) (listsAt [TT_BUF] n) := by
  refine logged_of_read (exec_ttdat0Read m n s) hr ?_
  set S := Scope.logged (cellsAt [BS_TTSTAT.LEVEL] n ++ (List.range 3).flatMap (fun i =>
    cellsAt [RD_LATCH] (8 * (0x2043 + 8 * n + i) + m.code))) (listsAt [TT_BUF] n) with hS
  have latch (i : Nat) (hi : i ∈ List.range 3) :
      RD_LATCH.key (8 * ((0x8108 + 0x20 * n.val + (4 * i + 4)) / 4) + m.code) ∈ S.cells := by
    rw [show (0x8108 + 0x20 * n.val + (4 * i + 4)) / 4 = 0x2043 + 8 * n.val + i by omega]
    exact List.mem_append_right _ (List.mem_flatMap.mpr ⟨i, hi, mem_cellsAt (by simp)⟩)
  unfold rdTtDat0 State.showTags State.latchHigh
  dsimp only
  split
  · exact .refl
  · refine .put (.put (.put (.put (.setList .refl (mem_listsAt (by simp))) ?_) ?_) ?_) ?_
    · simp [hS, cellsAt]
    · exact latch 0 (by decide)
    · exact latch 1 (by decide)
    · exact latch 2 (by decide)

theorem capLoRead_silent (t : Fin 16) (j : Fin 2) (hr : Reads m (0xA904 + 0x20 * (2 * t.val + j.val)) s) :
    Silent (.capLoRead m t j) s (cellsAt [BT_STAT.CAPF] t ++ [0, 2, 3, 4].flatMap (fun i =>
      cellsAt [RD_LATCH] (8 * (0x2A41 + 8 * (2 * t + j) + i) + m.code))) := by
  refine silent_of_read (exec_capLoRead m t j s) hr ?_
  set S := Scope.silent (cellsAt [BT_STAT.CAPF] t ++ [0, 2, 3, 4].flatMap (fun i =>
    cellsAt [RD_LATCH] (8 * (0x2A41 + 8 * (2 * t + j) + i) + m.code))) with hS
  have latch (i : Nat) (hi : i ∈ [0, 2, 3, 4]) :
      RD_LATCH.key (8 * ((0xA904 + 0x20 * (2 * t.val + j.val) + 4 * i) / 4) + m.code) ∈ S.cells := by
    rw [show (0xA904 + 0x20 * (2 * t.val + j.val) + 4 * i) / 4 = 0x2A41 + 8 * (2 * t.val + j.val) + i by omega]
    exact List.mem_append_right _ (List.mem_flatMap.mpr ⟨i, hi, mem_cellsAt (by simp)⟩)
  have timer : (2 * t.val + j.val) / 2 = t := by omega
  unfold rdCapLo State.andBit State.latchHigh
  dsimp only
  split
  · exact .refl
  · refine .put (.put (.put (.put (.put .refl ?_) ?_) ?_) ?_) ?_
    · simp [hS, timer, cellsAt]
    · exact latch 0 (by decide)
    · exact latch 2 (by decide)
    · exact latch 3 (by decide)
    · exact latch 4 (by decide)

theorem evRec0Read_silent (b : Bool) (hr : Reads m 0x38050 s) :
    Silent (.evRec0Read m b) s (cellsAt [EV_CUR.SEQ] (cursorOf m) ++ (List.range 7).flatMap (fun i =>
      cellsAt [RD_LATCH] (8 * (0xE015 + i) + m.code))) := by
  refine silent_of_read (exec_evRec0Read m b s) hr ?_
  set S := Scope.silent (cellsAt [EV_CUR.SEQ] (cursorOf m) ++ (List.range 7).flatMap (fun i =>
    cellsAt [RD_LATCH] (8 * (0xE015 + i) + m.code)))
  have latched (ws : List Nat) : s.Within S ((List.range 7).foldl (fun u k =>
      u.latchHigh m (0x38054 + 4 * k) (ws.getD (k + 1) 0)) s) := by
    refine State.Within.refl.foldl fun u k hk =>
      .put .refl (List.mem_append_right _ (List.mem_flatMap.mpr ⟨k, hk, ?_⟩))
    rw [show (0x38054 + 4 * k) / 4 = 0xE015 + k by omega]
    exact mem_cellsAt (by simp)
  unfold rdEvRec0 State.cursorOn
  refine branch (fun _ => latched _) fun _ => branch (fun _ => latched _) fun _ => (latched _).put ?_
  exact List.mem_append_left _ (mem_cellsAt (by simp))

/-- The interrupt that the controller offers is one of its 256 (R602). -/
theorem icBest_lt {n : Nat} (h : s.icBest = some n) : n < 256 := by
  have bound : ∀ k ∈ s.icBest, k < 256 := by
    unfold State.icBest
    refine List.foldlRecOn (motive := fun b : Option Nat => ∀ k ∈ b, k < 256) _ _ (by simp) fun b hb k hk => ?_
    have hk : ∀ x ∈ some k, x < 256 := by simpa using hk
    split
    · cases b with
      | none => exact hk
      | some x => dsimp only; split <;> assumption
    · exact hb
  exact bound n h

theorem icclaimRead_silent (hr : Reads m 0x32504 s) : Silent (.icclaimRead m) s (cellsUpTo [IC_SERV] 256) := by
  refine silent_of_read (exec_icclaimRead m s) hr ?_
  unfold rdIcclaim
  split
  · exact .refl
  · exact branch (fun _ => .put .refl (mem_cellsUpTo (by simp) (icBest_lt ‹_›))) fun _ => .refl

theorem uartRxPop_logged (k : Fin 2) (hr : Reads m (0x31004 + 0x100 * k) s) :
    Logged (.uartRxPop m k) s (cellsAt [LG_USTAT.TXLVL, LG_USTAT.RXLVL, LG_USTAT.RXNE, LG_USTAT.TXLOW] k)
      (listsAt [LG_RX] k) := by
  refine logged_of_read (exec_uartRxPop m k s) hr ?_
  have popped (r : List Nat) := State.Within.periphLevels_uart (s := s) (.setList .refl (l := r) (q := LG_RX)
    (S := .logged (cellsAt [LG_USTAT.TXLVL, LG_USTAT.RXLVL, LG_USTAT.RXNE, LG_USTAT.TXLOW] k) (listsAt [LG_RX] k))
    (mem_listsAt (by simp))) k.isLt fun _ hk => hk
  unfold rdUdata State.periphRead State.periphPop
  cases s.list LG_RX k with
  | nil => exact .refl
  | cons v r => exact branch (fun _ => .refl) fun _ => popped r

end Clauses

/-- Settles O57: each clause is the frame of the register's own effect, carried over the checks of a register access and
the delivery of interrupt edges. -/
theorem registerCommandsKeepTheRest : Obligations.RegisterCommandsKeepTheRest := by
  unfold Obligations.RegisterCommandsKeepTheRest
  exact fun s => ⟨fun _ => vsetWrite_silent, fun _ => avsFaultClear_silent, fun _ => ctlSel_logged,
    fun _ => freqMeterGo_silent, fun _ => epochArm_logged, fun _ => adjStep_logged, fun _ => adjSlew_logged,
    fun _ => cueCommandPush_logged, fun _ => softTrigger_logged, fun _ => btGo_logged, fun _ => snapshot_silent,
    fun _ => timerClaim_logged, fun _ => timerRelease_logged, fun _ => countLoad_logged, fun _ => jres_logged,
    fun _ => bankEnable_logged, fun _ => eyeScanGo_silent, fun _ => xpPortReset_logged, fun _ => laneMark_silent,
    fun _ => laneRst_logged, fun _ => witnessClaim_silent, fun _ => channelPortEnable_logged,
    fun _ => uartTxPush_logged, fun _ => spiCommand_silent, fun _ => i2cCommand_logged,
    fun _ => gpioSetClear_silent true, fun _ => gpioSetClear_silent false, fun _ => watchdogEnable_logged,
    fun _ => watchdogKick_logged, fun _ => h2lRing_logged, fun _ => l2hRing_logged, fun _ => mailboxClear_silent,
    fun _ => unlockKeyWrite_logged, fun _ => evCurWrite_logged, fun _ => tnowRead_silent, fun _ => ttdat0Read_logged,
    fun _ => capLoRead_silent, fun _ => evRec0Read_silent, fun _ => icclaimRead_silent, fun _ => uartRxPop_logged⟩

end Sys2Proof.Machine
end

section
/-! O5 and O6: what an access of the control bus answers, and what a written word does to a register's fields. -/

namespace Sys2Proof.Machine

/-! Accesses that the checks of the bus end (R34, R653). -/

theorem State.onWrite_unanswered {s : State} {m : Master} {off : Nat} (hu : s.get UNL_LEFT m.code = 0)
    (ha : s.answers m off = false) (w : Nat) (k : State → State) : s.onWrite m off w k = s := by
  simp [State.onWrite, hu, ha]

theorem State.onRead_unanswered {s : State} {m : Master} {off : Nat} (hu : s.get UNL_LEFT m.code = 0)
    (ha : s.answers m off = false) (k : State → Nat × State) : s.onRead m off k = (0, s) := by
  simp [State.onRead, hu, ha]

theorem State.onWrite_denied {s : State} {m : Master} {off : Nat} (hu : s.get UNL_LEFT m.code = 0)
    (ha : s.answers m off = true) (hd : s.denied m 1 = true) (w : Nat) (k : State → State) :
    s.onWrite m off w k = s.deny m off := by
  simp [State.onWrite, hu, ha, hd]

/-- A denied access is a count and a cause bit, with a record for the first. -/
theorem State.deny_get (s : State) (m : Master) (off : Nat) {g : Field} {j : Nat}
    (h1 : g.key j ≠ EV_DROP.COUNT.key 0) (h2 : g.key j ≠ DROP_EPISODE.key 0) :
    (s.deny m off).get g j = ((s.count GH_DENYCNT.COUNT 1).put GH_IRQ.DENIED 1).get g j := by
  unfold State.deny
  dsimp only
  split
  · exact State.raise_get _ _ _ _ h1 h2
  · rfl

theorem State.deny_count (s : State) (m : Master) (off : Nat) :
    (s.deny m off).get GH_DENYCNT.COUNT = min (s.get GH_DENYCNT.COUNT + 1) (2 ^ 16 - 1) := by
  rw [State.deny_get s m off (by decide) (by decide), State.get_put_ne _ _ (by decide), State.get_count_self]
  rfl

theorem State.deny_irq (s : State) (m : Master) (off : Nat) : (s.deny m off).get GH_IRQ.DENIED = 1 := by
  rw [State.deny_get s m off (by decide) (by decide), State.get_put_self]
  rfl

/-- Settles O5: out of reset a control-bus command is its bus access, and the checks of the bus come first. -/
theorem controlBusCommandsAnswer : Obligations.ControlBusCommandsAnswer := by
  unfold Obligations.ControlBusCommandsAnswer
  intro s m off h
  refine ⟨fun w => ?_, fun w => ?_, fun w => ?_, ?_, fun w k hu ha => State.onWrite_unanswered hu ha w k,
    fun k hu ha => State.onRead_unanswered hu ha k, fun w k hu ha hd => ?_⟩
  · exact (exec_registerWrite m off w s).trans (live_awake _ h)
  · exact (exec_pairLoWrite m off w s).trans (live_awake _ h)
  · exact (exec_pairHiWrite m off w s).trans (live_awake _ h)
  · exact (exec_pairLoRead m off s).trans (live_awake _ h)
  · rw [State.onWrite_denied hu ha hd]
    exact ⟨s.deny_count m _, s.deny_irq m _⟩

/-! Access codes (R21, R22). -/

/-- A cell written under a condition with the bits of a word reads as those bits, or as before. -/
theorem State.get_ite_put_bits (s : State) (f : Field) (i w : Nat) (c : Bool) :
    (if c then s.put f (bits w f.lo f.width) i else s).get f i = if c then bits w f.lo f.width else s.get f i := by
  cases c with
  | true => simp [State.get_put_self, bits]
  | false => rfl

section AccessCodes

variable (s : State) {f : Field} (i w : Nat) (un own : Bool)

theorem State.writeField_get_rw (hf : f.acc = .rw) : (s.writeField f i w un own).get f i =
    if f.accepts (bits w f.lo f.width) then bits w f.lo f.width else s.get f i := by
  simpa only [State.writeField, hf] using s.get_ite_put_bits f i w _

theorem State.writeField_get_rwl (hf : f.acc = .rwl) : (s.writeField f i w un own).get f i =
    if un && f.accepts (bits w f.lo f.width) then bits w f.lo f.width else s.get f i := by
  simpa only [State.writeField, hf] using s.get_ite_put_bits f i w _

theorem State.writeField_get_rwo (hf : f.acc = .rwo) : (s.writeField f i w un own).get f i =
    if own && f.accepts (bits w f.lo f.width) then bits w f.lo f.width else s.get f i := by
  simpa only [State.writeField, hf] using s.get_ite_put_bits f i w _

theorem State.writeField_get_w1cAny (hf : f.acc = .w1cAny) : (s.writeField f i w un own).get f i =
    if bits w f.lo f.width ≠ 0 then 0 else s.get f i := by
  simp only [State.writeField, hf]
  split
  · rw [State.get_put_self, Nat.zero_mod]
  · rfl

theorem State.writeField_get_w1c (hf : f.acc = .w1c) (hs : s.get f i < 2 ^ f.width) :
    (s.writeField f i w un own).get f i = s.get f i - (s.get f i &&& bits w f.lo f.width) := by
  simp only [State.writeField, hf]
  rw [State.get_put_self, Nat.mod_eq_of_lt (by omega)]

end AccessCodes

/-! Register writes through the bus. -/

/-- Outside the staging buffer a bus write that is taken as it stands is the register's own, with the messages of
R59. -/
theorem busWrite_of {s : State} {m : Master} {off : Nat} (hw : Writes m off s) (ho : off < 0x80000) (w : Nat) :
    busWrite m off w s = (rawWrite m off w s).resend s off w := by
  have hs : inStaging s off = false := by simp [inStaging, Nat.not_le.mpr ho]
  simp [busWrite, hs, State.onWrite_of hw]

/-- A field read after a bus write and the delivery of its edges is that of the register's own effect. -/
theorem get_after_busWrite {s : State} {m : Master} {off : Nat} (hw : Writes m off s) (ho : off < 0x80000) (w : Nat)
    {g : Field} {j : Nat} (hg : g.key j ≠ MSI_PEND.key 0) :
    (deliver s (busWrite m off w s)).get g j = (rawWrite m off w s).get g j := by
  rw [deliver_get s _ hg, busWrite_of hw ho, State.resend_get _ _ _ _ hg]

theorem heldLow_of_get {s t : State} {m : Master} {lo : Nat}
    (h : t.get WR_HOLD (8 * (lo / 4) + m.code) = s.get WR_HOLD (8 * (lo / 4) + m.code)) :
    t.heldLow m lo = s.heldLow m lo := by
  simp only [State.heldLow, h]

theorem masterCode_lt (m : Master) : m.code < 8 := by cases m <;> decide

theorem heldLow_after_busWrite {s : State} {m : Master} {off lo : Nat} (hw : Writes m off s) (ho : off < 0x80000)
    (hlo : lo < 0x80000) (w : Nat) :
    (deliver s (busWrite m off w s)).heldLow m lo = (rawWrite m off w s).heldLow m lo := by
  refine heldLow_of_get (get_after_busWrite hw ho w ?_)
  have := masterCode_lt m
  simp only [Field.key, WR_HOLD, MSI_PEND]
  omega

/-! The write hold of a pair (R19). -/

theorem State.heldLow_holdLow (s : State) (m : Master) (lo w : Nat) :
    (s.holdLow m lo w).heldLow m lo = some (w % 2 ^ 32) := by
  have hv : (2 ^ 32 + w % 2 ^ 32) % 2 ^ 33 = 2 ^ 32 + w % 2 ^ 32 := by omega
  have hg : (s.holdLow m lo w).get WR_HOLD (8 * (lo / 4) + m.code) = 2 ^ 32 + w % 2 ^ 32 :=
    (State.get_put_self _ _ _ _).trans hv
  simp [State.heldLow, hg]

theorem State.heldLow_dropHold (s : State) (m : Master) (lo : Nat) : (s.dropHold m lo).heldLow m lo = none := by
  have hg : (s.dropHold m lo).get WR_HOLD (8 * (lo / 4) + m.code) = 0 := State.get_put_self _ _ _ _
  simp [State.heldLow, hg]

/-! The registers of the statement. -/

theorem rawWrite_ghIe (m : Master) (w : Nat) (s : State) : rawWrite m 0x18 w s = s.writeReg m GH_IE.reg 0 w := rfl

theorem rawWrite_mtimecmpLo (m : Master) (w : Nat) (s : State) : rawWrite m 0x32608 w s = s.holdLow m 0x32608 w := rfl

theorem rawWrite_mtimecmpHi (m : Master) (v w : Nat) (s : State) (h : s.heldLow m 0x32608 = some v) :
    rawWrite m 0x3260C w s = ((s.writeReg m LG_MTIMECMP_LO.reg 0 v).dropHold m 0x32608).writeReg m
      LG_MTIMECMP_HI.reg 0 w := by
  have hp : rawWrite m 0x3260C w s = s.writePair m LG_MTIMECMP_HI.reg 0 w := rfl
  have hl : findReg (regsOf 0x32608) 0x32608 = some (LG_MTIMECMP_LO.reg, 0) := rfl
  rw [hp]
  simp [State.writePair, LG_MTIMECMP_HI.reg, hl, h]

/-- A register whose only field is RW and takes every value holds the written bits. -/
theorem State.writeReg_single_get (s : State) (m : Master) {r : Reg} {f : Field} (i w : Nat) (hr : r.fields = [f])
    (hf : f.acc = .rw) (hl : f.legal = []) : (s.writeReg m r i w).get f i = bits w f.lo f.width := by
  have hp : ∀ g ∈ r.fields, g.acc ≠ .rwl ∧ g.acc ≠ .rwo := by simp [hr, hf]
  rw [State.writeReg_plain _ _ _ _ _ _ hp, hr]
  exact (State.writeField_get_rw s i w _ _ hf).trans (by simp [Field.accepts, hl])

theorem bits_word (w : Word) : bits w.toNat 0 32 = w.toNat := by
  simp [bits, Nat.mod_eq_of_lt w.isLt]

/-- The write holds lie behind every register. -/
theorem holdKey_ne {g : Field} {j n : Nat} (h : g.key j < WR_HOLD.key 0) : g.key j ≠ WR_HOLD.key n := by
  simp only [Field.key, WR_HOLD] at *
  omega

/-- A written LG_MTIMECMP_HI takes the held low half with it and empties the hold. -/
theorem rawWrite_mtimecmpHi_takes (m : Master) (v w : Word) (s : State) (h : s.heldLow m 0x32608 = some v.toNat) :
    (rawWrite m 0x3260C w.toNat s).heldLow m 0x32608 = none ∧
      (rawWrite m 0x3260C w.toNat s).get LG_MTIMECMP_LO.CMP = v.toNat ∧
      (rawWrite m 0x3260C w.toNat s).get LG_MTIMECMP_HI.CMP = w.toNat := by
  have plainLo : ∀ f ∈ LG_MTIMECMP_LO.reg.fields, f.acc ≠ .rwl ∧ f.acc ≠ .rwo := by decide
  have plainHi : ∀ f ∈ LG_MTIMECMP_HI.reg.fields, f.acc ≠ .rwl ∧ f.acc ≠ .rwo := by decide
  rw [rawWrite_mtimecmpHi m _ _ s h]
  refine ⟨?_, ?_, ?_⟩
  · refine (heldLow_of_get (State.writeReg_get _ _ _ _ _ plainHi fun f hf => ?_)).trans (State.heldLow_dropHold _ _ _)
    obtain rfl : f = LG_MTIMECMP_HI.CMP := by simpa [LG_MTIMECMP_HI.reg] using hf
    exact (holdKey_ne (by decide)).symm
  · rw [State.writeReg_get _ _ _ _ _ plainHi (by decide)]
    refine (State.get_put_ne _ _ (holdKey_ne (by decide))).trans ?_
    exact (State.writeReg_single_get s m 0 _ rfl rfl rfl).trans (bits_word v)
  · exact (State.writeReg_single_get _ m 0 _ rfl rfl rfl).trans (bits_word w)

/-- Settles O6: the access codes field by field, then one register of one field and the pair of LG_MTIMECMP through the
bus. -/
theorem registerWritesFollowAccessCodes : Obligations.RegisterWritesFollowAccessCodes := by
  unfold Obligations.RegisterWritesFollowAccessCodes
  refine ⟨fun s f i w un own => ⟨s.writeField_get_rw i w un own, s.writeField_get_rwl i w un own,
    s.writeField_get_rwo i w un own, s.writeField_get_w1cAny i w un own, s.writeField_get_w1c i w un own,
    s.writeField_kept i w un own⟩, fun s m w hw => ?_, fun s m w hw => ?_, fun s m v w hw hv => ?_⟩
  · refine answers_live (exec_registerWrite m 0x18 w s) hw.1 ?_
    refine (get_after_busWrite hw (by decide) w.toNat (by decide)).trans ?_
    rw [rawWrite_ghIe, State.writeReg_single_get s m 0 w.toNat rfl rfl rfl]
    simp [bits, GH_IE.IE]
  · refine answers_live (exec_pairLoWrite m 0x32608 w s) hw.1 ⟨?_, ?_, ?_⟩
    · refine (heldLow_after_busWrite hw (by decide) (by decide) w.toNat).trans ?_
      rw [rawWrite_mtimecmpLo, State.heldLow_holdLow, Nat.mod_eq_of_lt w.isLt]
    all_goals
      refine (get_after_busWrite hw (by decide) w.toNat (by decide)).trans ?_
      exact State.get_put_ne _ _ (holdKey_ne (by decide))
  · obtain ⟨hold, lo, hi⟩ := rawWrite_mtimecmpHi_takes m v w s hv
    refine answers_live (exec_pairHiWrite m 0x3260C w s) hw.1 ⟨?_, ?_, ?_⟩
    · exact (heldLow_after_busWrite hw (by decide) (by decide) w.toNat).trans hold
    · exact (get_after_busWrite hw (by decide) w.toNat (by decide)).trans lo
    · exact (get_after_busWrite hw (by decide) w.toNat (by decide)).trans hi

end Sys2Proof.Machine
end

section
/-! What a reset leaves (R47, R48, R53, Table DV-14): the cells and memories after `State.resetClear`, then after a cold
source and after a low DEV_RESET_N. -/

namespace Sys2Proof.Machine

/-- A filter that drops every entry of a key leaves the key reading as unlisted. -/
theorem Store.get_filter_dropped {V : Type} (m : Store V) (p : Nat × V → Bool) (k : Nat) (d : V)
    (h : ∀ v, p (k, v) = false) : Store.get (m.filter p) k d = d := by
  induction m with
  | nil => rfl
  | cons c r ih =>
    obtain ⟨a, v⟩ := c
    by_cases hp : p (a, v) = true
    · have ha : a ≠ k := by rintro rfl; simp [h] at hp
      simpa [hp, Store.get, ha] using ih
    · simpa [hp] using ih

/-! Memories. -/

theorem State.wipe_get_same (s : State) (r : Region) {a d : Nat} (ha : a < 2 ^ 32) :
    (s.wipe r).mem.get (r.base + a) d = d :=
  Store.get_filter_dropped _ _ _ _ fun _ => by simp; omega

theorem State.wipe_get_ne (s : State) {r r' : Region} {a d : Nat} (ha : a < 2 ^ 32) (h : r' ≠ r) :
    (s.wipe r).mem.get (r'.base + a) d = s.mem.get (r'.base + a) d :=
  Store.get_filter _ _ _ _ fun _ => by
    have hb : r'.base + a < r.base ∨ r.base + 2 ^ 32 ≤ r'.base + a := by
      by_contra hin
      exact Region.key_ne (a' := r'.base + a - r.base) ha (by omega) (.inl h) (by omega)
    simpa using hb

/-- A word once wiped stays unlisted. -/
theorem State.wipe_get_blank (s : State) (r : Region) {r' : Region} {a d : Nat} (ha : a < 2 ^ 32)
    (h : s.mem.get (r'.base + a) d = d) : (s.wipe r).mem.get (r'.base + a) d = d := by
  by_cases hr : r' = r
  · subst hr
    exact s.wipe_get_same r' ha
  · rwa [s.wipe_get_ne ha hr]

/-- The memories that every reset empties (Table DV-14): all but the flash. -/
def State.volatileGone (s : State) : State :=
  [Region.block, .queue, .workspace, .lodgeI, .lodgeD, .config, .msix, .cfgSpace, .rescue, .settings].foldl
    State.wipe s

theorem State.volatileGone_flash (s : State) {a d : Nat} (ha : a < 2 ^ 32) :
    s.volatileGone.mem.get (Region.flash.base + a) d = s.mem.get (Region.flash.base + a) d := by
  unfold State.volatileGone
  simp only [List.foldl_cons, List.foldl_nil]
  simp only [State.wipe_get_ne _ ha, ne_eq, reduceCtorEq, not_false_eq_true]

theorem State.volatileGone_get (s : State) {r : Region} {a d : Nat} (ha : a < 2 ^ 32) (h : r ≠ .flash) :
    s.volatileGone.mem.get (r.base + a) d = d := by
  have keep (l : List Region) (s : State) (hs : s.mem.get (r.base + a) d = d) :
      (l.foldl State.wipe s).mem.get (r.base + a) d = d :=
    foldl_keeps (fun u => u.mem.get (r.base + a) d = d) _ (fun u q hu => u.wipe_get_blank q ha hu) l s hs
  have wiped (l : List Region) (s : State) (hr : r ∈ l) : (l.foldl State.wipe s).mem.get (r.base + a) d = d := by
    obtain ⟨l₁, l₂, rfl⟩ := List.append_of_mem hr
    rw [List.foldl_append, List.foldl_cons]
    exact keep l₂ _ (State.wipe_get_same _ r ha)
  exact wiped _ s (by cases r <;> simp at h ⊢)

/-! The cells. -/

/-- The cells that the end of `State.resetClear` writes itself. -/
def resetWrites : List Nat :=
  cellsUpTo [GH_KSTAT.USE, GH_KSTAT.STATE] 6 ++ cellsAt [PW_DMSTAT.PHASE, TAP_IR, DROP_EPISODE, MEM_UNDEF, MEM_EPOCH]

/-- What a reset has dropped before it settles the key slots and marks the memories. -/
def State.resetBase (s : State) (cold : Bool) : State :=
  ({ s with cells := s.cells.filter fun c => keeps cold c.1, lists := [], pba := [], held := [] } : State).volatileGone

/-- The key slots settled (R640), the wake phase and the instruction of the TAP. -/
def State.resetSettle (s : State) (cold : Bool) (ir : Nat) : State :=
  let s := (List.range 6).foldl (fun u k =>
    let v := u.put GH_KSTAT.USE 0 k
    if v.keyPending k then v.put GH_KSTAT.STATE ksVALID k else v) s
  let s := s.put PW_DMSTAT.PHASE 0
  if cold then s else s.put TAP_IR (if [0, 3, 4, 5, 6].contains ir then 0x1F else ir)

/-- A cold reset forgets the log and dismisses the undefined memories. -/
def State.resetCold (s : State) : State :=
  ({ s with ring := [], intake := [] } : State).put DROP_EPISODE 0 |>.put MEM_UNDEF 0

/-- A warm reset leaves memories undefined under a new epoch. -/
def State.resetWarm (s : State) : State := (s.put MEM_EPOCH (s.get MEM_EPOCH + 1)).put MEM_UNDEF 1

theorem State.resetClear_eq (s : State) (cold : Bool) : s.resetClear cold =
    if cold then ((s.resetBase cold).resetSettle cold (s.get TAP_IR)).resetCold
    else ((s.resetBase cold).resetSettle cold (s.get TAP_IR)).resetWarm := rfl

theorem State.resetSettle_within (s : State) (cold : Bool) (ir : Nat) :
    s.Within (.silent resetWrites) (s.resetSettle cold ir) := by
  have slots : s.Within (.silent resetWrites) ((List.range 6).foldl (fun u k =>
      let v := u.put GH_KSTAT.USE 0 k
      if v.keyPending k then v.put GH_KSTAT.STATE ksVALID k else v) s) := by
    refine State.Within.refl.foldl fun u k hk => ?_
    have cell {f : Field} (hf : f ∈ [GH_KSTAT.USE, GH_KSTAT.STATE]) : f.key k ∈ resetWrites :=
      List.mem_append_left _ (mem_cellsUpTo hf (List.mem_range.mp hk))
    have use : u.Within (.silent resetWrites) (u.put GH_KSTAT.USE 0 k) := .put .refl (cell (by simp))
    exact .branch (fun _ => use.put (cell (by simp))) fun _ => use
  have phase := slots.put (f := PW_DMSTAT.PHASE) (v := 0) (i := 0) (List.mem_append_right _ (mem_cellsAt (by simp)))
  exact .branch (fun _ => phase) fun _ => phase.put (List.mem_append_right _ (mem_cellsAt (by simp)))

theorem State.resetBase_get (s : State) (cold : Bool) (g : Field) (j : Nat) :
    (s.resetBase cold).get g j = if keeps cold (g.key j) then s.get g j else g.reset := by
  change Store.get (s.cells.filter fun c => keeps cold c.1) (g.key j) g.reset = _
  split
  · exact Store.get_filter _ _ _ _ fun _ => ‹_›
  · exact Store.get_filter_dropped _ _ _ _ fun _ => Bool.eq_false_iff.mpr ‹_›

theorem State.resetCold_get (s : State) {g : Field} {j : Nat} (h1 : g.key j ≠ DROP_EPISODE.key 0)
    (h2 : g.key j ≠ MEM_UNDEF.key 0) : s.resetCold.get g j = s.get g j :=
  (State.get_put_ne _ _ h2).trans (State.get_put_ne { s with ring := [], intake := [] } _ h1)

theorem State.resetWarm_get (s : State) {g : Field} {j : Nat} (h1 : g.key j ≠ MEM_EPOCH.key 0)
    (h2 : g.key j ≠ MEM_UNDEF.key 0) : s.resetWarm.get g j = s.get g j :=
  (State.get_put_ne _ _ h2).trans (State.get_put_ne _ _ h1)

/-- A cell that a reset does not write itself is kept or takes its reset value (Table DV-14). -/
theorem State.resetClear_get (s : State) (cold : Bool) {g : Field} {j : Nat} (h : g.key j ∉ resetWrites)
    (hm : g.key j ≠ MSI_PEND.key 0) :
    (s.resetClear cold).get g j = if keeps cold (g.key j) then s.get g j else g.reset := by
  have last {f : Field} (hf : f ∈ [DROP_EPISODE, MEM_UNDEF, MEM_EPOCH]) : g.key j ≠ f.key 0 := fun he =>
    h (he ▸ List.mem_append_right _ (mem_cellsAt (by simp at hf ⊢; tauto)))
  rw [← s.resetBase_get cold, ← ((s.resetBase cold).resetSettle_within cold (s.get TAP_IR)).get h hm False.elim,
    State.resetClear_eq]
  cases cold with
  | true => exact State.resetCold_get _ (last (by simp)) (last (by simp))
  | false => exact State.resetWarm_get _ (last (by simp)) (last (by simp))

@[simp] theorem State.resetCold_mem (s : State) : s.resetCold.mem = s.mem := rfl
@[simp] theorem State.resetCold_ring (s : State) : s.resetCold.ring = [] := rfl
@[simp] theorem State.resetCold_intake (s : State) : s.resetCold.intake = [] := rfl
@[simp] theorem State.resetWarm_mem (s : State) : s.resetWarm.mem = s.mem := rfl
@[simp] theorem State.resetWarm_ring (s : State) : s.resetWarm.ring = s.ring := rfl

@[simp] theorem State.resetBase_ring (s : State) (cold : Bool) : (s.resetBase cold).ring = s.ring := rfl

theorem State.resetClear_mem (s : State) (cold : Bool) : (s.resetClear cold).mem = (s.resetBase cold).mem := by
  rw [State.resetClear_eq, ← ((s.resetBase cold).resetSettle_within cold (s.get TAP_IR)).fixed.1]
  cases cold <;> simp

theorem State.resetClear_cold_logs (s : State) : (s.resetClear true).ring = [] ∧ (s.resetClear true).intake = [] := by
  simp [State.resetClear_eq]

theorem State.resetClear_warm_ring (s : State) : (s.resetClear false).ring = s.ring := by
  have settled := ((s.resetBase false).resetSettle_within false (s.get TAP_IR)).fixed.2.1
  simpa [State.resetClear_eq] using settled

/-! Memory words after a reset. -/

/-- With no memory undefined, a word that is not listed reads 0 but in the flash (log entry 8). -/
theorem State.load_unlisted {s : State} {r : Region} {a : Nat} (hu : s.get MEM_UNDEF = 0)
    (hm : ∀ d, s.mem.get (r.base + a) d = d) (h : r ≠ .flash) : s.load r a = 0 := by
  have hb : s.blank r a = 0 := by cases r <;> simp_all [State.blank, State.filled]
  simp [State.load, hm, hb, undefinedWord]

/-- A flash byte that is listed alike in two states reads alike in both. -/
theorem State.load_flash_congr {s t : State} {a : Nat}
    (hm : t.mem.get (Region.flash.base + a) 0xFF = s.mem.get (Region.flash.base + a) 0xFF)
    (hv : s.mem.get (Region.flash.base + a) 0xFF < 256) : t.load .flash a = s.load .flash a := by
  have hne : s.mem.get (Region.flash.base + a) 0xFF ≠ undefinedWord := by
    have : 256 < undefinedWord := by decide
    omega
  simp only [State.load, State.blank, hm, hne, if_false]

theorem State.resetClear_flash (s : State) (cold : Bool) {a d : Nat} (ha : a < 2 ^ 32) :
    (s.resetClear cold).mem.get (Region.flash.base + a) d = s.mem.get (Region.flash.base + a) d := by
  rw [State.resetClear_mem]
  exact State.volatileGone_flash _ ha

theorem State.resetClear_unlisted (s : State) (cold : Bool) {r : Region} {a d : Nat} (ha : a < 2 ^ 32)
    (h : r ≠ .flash) : (s.resetClear cold).mem.get (r.base + a) d = d := by
  rw [State.resetClear_mem]
  exact State.volatileGone_get _ ha h

/-! A cold source. -/

/-- What a cold source writes after it has cleared the state. -/
def coldWrites : List Nat :=
  resetWrites ++ cellsAt [MSI_PEND, RST_FIRST, PW_RSTCAUSE.CAUSE, RESETTING, VAUX_LOW]

/-- The state that a cold source leaves. -/
def State.afterCold (s : State) (vaux : Bool) : State := if vaux then s.coldReset.put VAUX_LOW 1 else s.coldReset

theorem exec_coldResetSource_next (s : State) (vaux : Bool) :
    exec (.coldResetSource vaux) s = .next (s.afterCold vaux) := rfl

/-- The state that a cold source clears: of a running device, with the first cause noted. -/
def State.coldFirst (s : State) : State := if s.get RESETTING = 0 then s.put RST_FIRST 0 else s

theorem State.coldFirst_get (s : State) {g : Field} {j : Nat} (h : g.key j ≠ RST_FIRST.key 0) :
    s.coldFirst.get g j = s.get g j := by
  unfold State.coldFirst
  split
  · exact State.get_put_ne _ _ h
  · rfl

@[simp] theorem State.coldFirst_mem (s : State) : s.coldFirst.mem = s.mem := by
  unfold State.coldFirst
  split <;> rfl

theorem State.coldReset_eq (s : State) :
    s.coldReset = ((s.coldFirst.resetClear true).put PW_RSTCAUSE.CAUSE 1).put RESETTING 2 := rfl

theorem State.afterCold_eq_put (s : State) (vaux : Bool) :
    s.afterCold vaux = s.coldReset ∨ s.afterCold vaux = s.coldReset.put VAUX_LOW 1 := by
  cases vaux
  · exact .inl rfl
  · exact .inr rfl

theorem State.afterCold_get_coldReset (s : State) (vaux : Bool) {g : Field} {j : Nat}
    (h : g.key j ≠ VAUX_LOW.key 0) : (s.afterCold vaux).get g j = s.coldReset.get g j := by
  rcases s.afterCold_eq_put vaux with he | he <;> rw [he]
  exact State.get_put_ne _ _ h

/-- Every other cell is kept or takes its reset value. -/
theorem State.afterCold_get (s : State) (vaux : Bool) {g : Field} {j : Nat} (h : g.key j ∉ coldWrites) :
    (s.afterCold vaux).get g j = if keeps true (g.key j) then s.get g j else g.reset := by
  simp only [coldWrites, List.mem_append, cellsAt, List.map_cons, List.map_nil, List.mem_cons, List.not_mem_nil,
    or_false, not_or] at h
  obtain ⟨hr, hmsi, hfirst, hcause, hres, hvaux⟩ := h
  rw [s.afterCold_get_coldReset vaux hvaux, State.coldReset_eq, State.get_put_ne _ _ hres,
    State.get_put_ne _ _ hcause, State.resetClear_get _ _ hr hmsi, State.coldFirst_get _ hfirst]

theorem State.afterCold_cause (s : State) (vaux : Bool) : (s.afterCold vaux).get PW_RSTCAUSE.CAUSE = 1 := by
  rw [s.afterCold_get_coldReset vaux (by decide), State.coldReset_eq, State.get_put_ne _ _ (by decide)]
  exact State.get_put_self _ _ _ _

theorem State.afterCold_memUndef (s : State) (vaux : Bool) : (s.afterCold vaux).get MEM_UNDEF = 0 := by
  rw [s.afterCold_get_coldReset vaux (by decide), State.coldReset_eq, State.get_put_ne _ _ (by decide),
    State.get_put_ne _ _ (by decide), State.resetClear_eq]
  exact State.get_put_self _ _ _ _

theorem State.afterCold_mem (s : State) (vaux : Bool) :
    (s.afterCold vaux).mem = (s.coldFirst.resetClear true).mem := by
  rcases s.afterCold_eq_put vaux with he | he <;> rw [he, State.coldReset_eq] <;> simp

theorem State.afterCold_logs (s : State) (vaux : Bool) :
    (s.afterCold vaux).ring = [] ∧ (s.afterCold vaux).intake = [] := by
  rcases s.afterCold_eq_put vaux with he | he <;> rw [he, State.coldReset_eq] <;>
    simp [State.resetClear_cold_logs]

/-! A low DEV_RESET_N out of reset. -/

/-- Bits of numbers as the library's. -/
theorem bit_eq_testBit (w i : Nat) : bit w i = w.testBit i := by
  rw [Nat.testBit_eq_decide_div_mod_eq]
  rfl

/-- Setting a bit of a field leaves the others, up to its width. -/
theorem State.bit_orBit (s : State) (f : Field) (n i m : Nat) :
    bit ((s.orBit f n i).get f i) m = (decide (m < f.width) && (bit (s.get f i) m || decide (n = m))) := by
  simp [State.orBit, State.get_put_self, setBit, bit_eq_testBit, Nat.testBit_mod_two_pow, Nat.testBit_or,
    Nat.testBit_two_pow]

/-- What leaving TEST by a reset writes (R784). -/
def testCutWrites : List Nat :=
  cellsUpTo [PW_TSRES.RESULT] 8 ++ cellsAt [PW_TSSTAT.STATE, PW_TSSTAT.ALL_PASS, TEST_FAILED]

theorem State.testCut_within {s : State} (h : s.get PW_TSSTAT.CURRENT < 8) :
    s.Within (.silent testCutWrites) s.testCut := by
  have cell {f : Field} (hf : f ∈ [PW_TSSTAT.STATE, PW_TSSTAT.ALL_PASS, TEST_FAILED]) : f.key 0 ∈ testCutWrites :=
    List.mem_append_right _ (mem_cellsAt hf)
  refine .branch (fun _ => ?_) fun _ => .refl
  have result := State.Within.put (S := .silent testCutWrites) (v := 3) (State.Within.refl (s := s))
    (List.mem_append_left _ (mem_cellsUpTo (f := PW_TSRES.RESULT) (by simp) h))
  exact ((result.put (cell (by simp))).put (cell (by simp))).put (cell (by simp))

/-- The state that a low DEV_RESET_N clears: the pin low and the cause noted. -/
def State.pinLow (s : State) : State := (s.put DEVRST_LOW 1).orBit PW_RSTCAUSE.CAUSE 1

/-- The state that it leaves of a running device. -/
def State.afterPinLow (s : State) : State := ((s.pinLow.testCut.resetClear false).put RST_FIRST 1).put RESETTING 1

theorem exec_devResetN_low {s : State} (h : Awake s) : exec (.devResetN true) s = .next s.afterPinLow := by
  have h0 : (s.put DEVRST_LOW 1).get RESETTING = 0 := (State.get_put_ne _ _ (by decide)).trans h
  change Host.Outcome.next ((s.put DEVRST_LOW 1).warmReset 1) = _
  simp only [State.warmReset, h0]
  rfl

@[simp] theorem State.pinLow_mem (s : State) : s.pinLow.mem = s.mem := rfl
@[simp] theorem State.pinLow_ring (s : State) : s.pinLow.ring = s.ring := rfl

theorem State.pinLow_current (s : State) : s.pinLow.get PW_TSSTAT.CURRENT = s.get PW_TSSTAT.CURRENT :=
  (State.get_orBit_ne _ _ (by decide)).trans (State.get_put_ne _ _ (by decide))

theorem State.afterPinLow_get {s : State} (hc : s.get PW_TSSTAT.CURRENT < 8) {g : Field} {j : Nat}
    (h : g.key j ∉ resetWrites ++ testCutWrites ++ cellsAt [MSI_PEND, RST_FIRST, RESETTING]) :
    s.afterPinLow.get g j = if keeps false (g.key j) then s.pinLow.get g j else g.reset := by
  simp only [List.mem_append, cellsAt, List.map_cons, List.map_nil, List.mem_cons, List.not_mem_nil,
    or_false, not_or] at h
  obtain ⟨⟨hr, ht⟩, hmsi, hfirst, hres⟩ := h
  rw [State.afterPinLow, State.get_put_ne _ _ hres, State.get_put_ne _ _ hfirst, State.resetClear_get _ _ hr hmsi,
    (State.testCut_within (s.pinLow_current ▸ hc)).get ht hmsi False.elim]

/-- A cell that neither the pin nor the cut of a test writes is kept or takes its reset value. -/
theorem State.afterPinLow_get_rest {s : State} (hc : s.get PW_TSSTAT.CURRENT < 8) {g : Field} {j : Nat}
    (h : g.key j ∉ resetWrites ++ testCutWrites ++ cellsAt [MSI_PEND, RST_FIRST, RESETTING])
    (hp : g.key j ∉ cellsAt [DEVRST_LOW, PW_RSTCAUSE.CAUSE]) :
    s.afterPinLow.get g j = if keeps false (g.key j) then s.get g j else g.reset := by
  simp only [cellsAt, List.map_cons, List.map_nil, List.mem_cons, List.not_mem_nil, or_false, not_or] at hp
  rw [State.afterPinLow_get hc h, State.pinLow, State.get_orBit_ne _ _ hp.2, State.get_put_ne _ _ hp.1]

theorem State.afterPinLow_cause {s : State} (hc : s.get PW_TSSTAT.CURRENT < 8) {n : Nat} (hn : n < 8) :
    bit (s.afterPinLow.get PW_RSTCAUSE.CAUSE) n = (bit (s.get PW_RSTCAUSE.CAUSE) n || decide (1 = n)) := by
  rw [State.afterPinLow_get hc (by decide), if_pos (by decide), State.pinLow, State.bit_orBit,
    State.get_put_ne _ _ (by decide)]
  simp [PW_RSTCAUSE.CAUSE, hn]

theorem State.afterPinLow_stores {s : State} (hc : s.get PW_TSSTAT.CURRENT < 8) :
    s.afterPinLow.mem = (s.pinLow.testCut.resetClear false).mem ∧ s.pinLow.testCut.mem = s.mem ∧
      s.afterPinLow.ring = s.ring := by
  obtain ⟨hm, hr, -⟩ := (State.testCut_within (s.pinLow_current ▸ hc)).fixed
  simp [State.afterPinLow, State.resetClear_warm_ring, hm, hr]

/-- Settles O59: each cell is in the kept ranges of Table DV-14 or not, and each memory is the flash or wiped. -/
theorem resetsKeepWhatTableDV14Keeps : Obligations.ResetsKeepWhatTableDV14Keeps := by
  unfold Obligations.ResetsKeepWhatTableDV14Keeps
  refine ⟨fun s vaux => ⟨_, exec_coldResetSource_next s vaux, ?_⟩, fun s h hc => ⟨_, exec_devResetN_low h, ?_⟩⟩
  · have cell {g : Field} {j : Nat} (hg : g.key j ∉ coldWrites) := s.afterCold_get vaux hg
    have flash {a : Nat} (ha : a < 2 ^ 32) : (s.afterCold vaux).mem.get (Region.flash.base + a) 0xFF =
        s.mem.get (Region.flash.base + a) 0xFF := by
      rw [State.afterCold_mem, State.resetClear_flash _ _ ha, State.coldFirst_mem]
    obtain ⟨hring, hintake⟩ := s.afterCold_logs vaux
    refine ⟨fun k => ?_, cell (by decide), cell (by decide), cell (by decide), hring, hintake, cell (by decide),
      s.afterCold_cause vaux, cell (by decide), fun a ha hv => State.load_flash_congr (flash ha) hv,
      fun r a hr ha => State.load_unlisted (s.afterCold_memUndef vaux) (fun d => ?_) hr⟩
    · rw [cell (by revert k; decide), if_pos (by revert k; decide)]
    · rw [State.afterCold_mem, State.resetClear_unlisted _ _ ha hr]
  · have cell {g : Field} {j : Nat}
        (hg : g.key j ∉ resetWrites ++ testCutWrites ++ cellsAt [MSI_PEND, RST_FIRST, RESETTING]) :=
      State.afterPinLow_get_rest hc hg
    obtain ⟨hmem, hcut, hring⟩ := State.afterPinLow_stores hc
    have flash {a : Nat} (ha : a < 2 ^ 32) : s.afterPinLow.mem.get (Region.flash.base + a) 0xFF =
        s.mem.get (Region.flash.base + a) 0xFF := by
      rw [hmem, State.resetClear_flash _ _ ha, hcut]
    have config {a : Nat} (ha : a < 2 ^ 32) : s.afterPinLow.load .config a = 0 := by
      simp [State.load, State.blank, hmem, State.resetClear_unlisted _ _ ha, undefinedWord]
    refine ⟨hring, cell (by decide) (by decide), fun k => ?_, cell (by decide) (by decide),
      cell (by decide) (by decide), cell (by decide) (by decide), cell (by decide) (by decide), ?_,
      fun n hn h1 => ?_, fun a ha hv => State.load_flash_congr (flash ha) hv, fun a ha => config ha⟩
    · rw [cell (by revert k; decide) (by revert k; decide), if_pos (by revert k; decide)]
    · rw [State.afterPinLow_cause hc (by decide)]
      simp
    · rw [State.afterPinLow_cause hc hn]
      simp [Ne.symm h1]

/-- Settles O60: nothing is listed in the state after reset, so every cell reads its reset value and every memory but
the flash is blank. -/
theorem resetStateIsAsTheSpecStates : Obligations.ResetStateIsAsTheSpecStates := by
  unfold Obligations.ResetStateIsAsTheSpecStates
  exact ⟨State.wf_reset, rfl, rfl, rfl, rfl, rfl, rfl, rfl, rfl, rfl, rfl, rfl, rfl,
    fun _ _ hr => State.load_unlisted rfl (fun _ => rfl) hr⟩

/-! A reset that begins in TEST at a test number that PW_TSSTAT.CURRENT cannot show. -/

/-- Cells of a state in TEST whose CURRENT lies outside its 3 bits: PW_TSRES.RESULT of test 784828 has the key
32 * (0x1910 + 4 * 784828) = 32 * 0x300000, which is that of DEVRST_LOW. -/
def strayTestCells : Store Nat :=
  [(PW_MODE.MODE.key 0, mTEST), (PW_TSSTAT.STATE.key 0, 2), (PW_TSSTAT.CURRENT.key 0, 784828)]

/-- Refutes O4: the first clause speaks of every state, also of one in TEST whose CURRENT is 784828, a value that its
3 bits cannot hold and no write leaves. There the result 3 of the cut test (R784) is written over DEVRST_LOW, which
HeldInReset asks to be 1. (The hypothesis `s.get PW_TSSTAT.CURRENT < 8` of O59 excludes this state.) -/
theorem not_resetHoldsTheDevice : ¬ Obligations.ResetHoldsTheDevice := by
  unfold Obligations.ResetHoldsTheDevice
  rintro ⟨⟨low, -⟩, -⟩
  obtain ⟨t, ht, -, hpin, -⟩ := low { State.reset with cells := strayTestCells } (by decide)
  obtain rfl := Host.Outcome.next.inj ((exec_devResetN_low (by unfold Awake; decide)).symm.trans ht)
  exact absurd hpin (by decide +kernel)

/-- Refutes O3: the same happens to a device held in reset whose RESETTING has the unused code 3, since only the codes 1
and 2 keep a further DEV_RESET_N from beginning the reset again. -/
theorem not_heldInResetIsInvariant : ¬ Obligations.HeldInResetIsInvariant := by
  unfold Obligations.HeldInResetIsInvariant
  intro keeps
  have held := keeps { State.reset with
    pending := [.devResetN true], cells := strayTestCells ++ [(RESETTING.key 0, 3), (DEVRST_LOW.key 0, 1)] } _
    (by unfold HeldInReset; decide) rfl
  exact absurd held.2.1 (by decide +kernel)

end Sys2Proof.Machine
end

section
/-! O31: what the interrupt edge of a link down leaves in the pending bits. -/

namespace Sys2Proof.Machine

/-- A link down out of reset: the endpoint's event with its interrupt edges delivered (R47). -/
theorem exec_linkDown_up {s : State} (h : Awake s) (hl : s.linkUp = true) :
    exec .linkDown s = .next (deliver s (s.pxEvent 3)) := by
  rw [exec_linkDown, execLinkDown, live_awake _ h, if_pos hl]

/-- The link is up, with MSI-X and MSI off; PX_IRQ.LINK is enabled and its source 162 is routed to MSI-X vector 0. -/
def linkRouted : State := ((State.reset.put PX_LINK.SPEED 1).put PX_IE.IE 4).put PW_IRQMAP.MSIX_EN 1 162

/-- The link down raises PX_IRQ.LINK; with neither MSI-X nor MSI enabled its message only sets the pending bit (R59). -/
theorem linkRouted_down_pba : (deliver linkRouted (linkRouted.pxEvent 3)).pba = [0] := by decide +kernel

/-- Refutes O31: a link down whose PX_IRQ.LINK is enabled and routed ends with its vector pending, since the edge is
delivered after the endpoint reset has emptied the pending bits. -/
theorem not_endpointLinkAndPowerStatesAct : ¬ Obligations.EndpointLinkAndPowerStatesAct := by
  unfold Obligations.EndpointLinkAndPowerStatesAct
  intro act
  have awake : Awake linkRouted := by unfold Awake; decide
  obtain ⟨-, down, -⟩ := act linkRouted awake
  obtain ⟨t, ht, -, -, -, -, hpba⟩ := down (by decide) (by decide) (by decide) (by decide)
  obtain rfl := Host.Outcome.next.inj ((exec_linkDown_up awake (by decide)).symm.trans ht)
  rw [linkRouted_down_pba] at hpba
  exact absurd hpba (by decide)

end Sys2Proof.Machine
end

section
/-! The Bandstand timers (spec/09): the cells that each operation of a timer and of a capture channel writes, and what a
count input, a trigger edge and a capture leave. -/

namespace Sys2Proof.Machine

/-! Scopes by what they leave alone. -/

/-- Everything but the cells at `keys`. -/
def Scope.outside (keys : List Nat) : Scope := ⟨{k | k ∉ keys}, Set.univ, True⟩

theorem Scope.mem_outside {k : Nat} {keys : List Nat} (h : k ∉ keys) : k ∈ (Scope.outside keys).cells := h

theorem Scope.all_outside {l keys : List Nat} (h : ∀ k ∈ l, k ∉ keys) : ∀ k ∈ l, k ∈ (Scope.outside keys).cells := h

/-- The cells of messages and dropped records, which any command may write. -/
def noiseCells : List Nat := cellsAt [MSI_PEND, EV_DROP.COUNT, DROP_EPISODE]

theorem State.Within.get_outside {s t : State} {keys : List Nat} (h : s.Within (.outside keys) t) {g : Field} {j : Nat}
    (hg : g.key j ∈ keys) (hn : g.key j ∉ noiseCells) : t.get g j = s.get g j := by
  simp only [noiseCells, cellsAt, List.map_cons, List.map_nil, List.mem_cons, List.not_mem_nil, or_false, not_or] at hn
  exact h.get (fun hc => hc hg) hn.1 fun _ => hn.2

/-- A fold that comes to a member once turns what holds before it into what holds after it. -/
theorem foldl_visit {α β : Type} {l : List α} (hl : l.Nodup) {a : α} (ha : a ∈ l) {f : β → α → β}
    {before after : β → Prop} (hb : ∀ b, ∀ x ∈ l, x ≠ a → before b → before (f b x))
    (hv : ∀ b, before b → after (f b a)) (hc : ∀ b, ∀ x ∈ l, x ≠ a → after b → after (f b x)) {b : β} (h : before b) :
    after (l.foldl f b) := by
  obtain ⟨l₁, l₂, rfl⟩ := List.append_of_mem ha
  have hn := List.nodup_middle.mp hl
  obtain ⟨hna, -⟩ := List.nodup_cons.mp hn
  rw [List.foldl_append, List.foldl_cons]
  refine List.foldlRecOn l₂ f (hv _ (List.foldlRecOn l₁ f h fun u hu x hx => ?_)) fun u hu x hx => ?_
  · exact hb u x (by simp [hx]) (by rintro rfl; simp [hx] at hna) hu
  · exact hc u x (by simp [hx]) (by rintro rfl; simp [hx] at hna) hu

/-! The cells of a timer. -/

/-- What a compare match of timer t writes beside its flag (R341, R353). -/
def matchedCells (t : Nat) : List Nat := cellsAt [BT_STAT.OCLVL, BT_STAT.WOKE] t ++ cellsAt [LF_MATCHED]

/-- What it writes (R340). -/
def matchCells (t : Nat) : List Nat := cellsAt [BT_STAT.CMF] t ++ matchedCells t

/-- What the transfer of its preload values writes (R331). -/
def preloadCells (t : Nat) : List Nat :=
  cellsAt [TOP_ACT] t ++ (List.range 4).flatMap fun k => cellsAt [CMP_ACT] (4 * t + k)

/-- What its tick writes (R329, R330, R338). -/
def tickCells (t : Nat) : List Nat :=
  cellsAt [BT_CNT_LO.COUNT, BT_CNT_HI.COUNT, BT_PSCNT, BT_CTL.RUN, BT_STAT.OVF, BT_STAT.TRG] t ++ preloadCells t ++
    matchCells t

/-- The fields of a capture channel that a capture writes after the count (R345, R347). -/
def noteFields : List Field :=
  [BT_KCNT.OVER, BT_FINE0.TIME, BT_FINE1.TIME, BT_FINE2.TIME, BT_FINE2.STALE_CAL, BT_FINE2.HOLDOVER, BT_FINE2.NOEPOCH,
    BT_FINE2.COARSE, BT_FINE2.VALID, BT_FINE2.EPOCH_GEN]

/-- The other fields that sampling writes (R343, R344). -/
def sampleFields : List Field :=
  [BT_CAP_LO.COUNT, BT_CAP_HI.COUNT, BT_CAP_HI.VALID, BT_KCNT.REJECT, KLAST, KHELD, KCOUNT, KEDGES]

/-- What a capture on channel c writes after the count, beside its timer's tick cells. -/
def noteCells (c : Nat) : List Nat := cellsAt noteFields c ++ cellsAt [BT_STAT.OVC] (c / 2)

/-- What sampling channel c writes beside its timer's tick cells. -/
def channelCells (c : Nat) : List Nat := noteCells c ++ cellsAt sampleFields c ++ cellsAt [BT_STAT.CAPF] (c / 2)

/-- What a count input at TOP does before the count becomes 0 (R330, R331). -/
def State.btWrap (s : State) (t : Nat) : State :=
  let s := (s.put BT_STAT.OVF 1 t).preloadTransfer t
  if s.flag BT_CTL.ONESHOT t then s.put BT_CTL.RUN 0 t else s

theorem State.btInput_top {s : State} {t : Nat} (h : s.btCount t = s.get TOP_ACT t) :
    s.btInput t = ((s.btWrap t).btCountTo t 0, true) := by
  rw [State.btInput, if_pos h]
  rfl

theorem State.btInput_below {s : State} {t : Nat} (h : s.btCount t ≠ s.get TOP_ACT t) :
    s.btInput t = (s.btCountTo t (s.btCount t + 1), false) := by
  rw [State.btInput, if_neg h]

/-- The count stored by a capture, with its flags (R345). -/
def State.btStore (s : State) (c count : Nat) : State :=
  (((s.put BT_CAP_LO.COUNT (count % 2 ^ 32) c).put BT_CAP_HI.COUNT (count / 2 ^ 32) c).put BT_CAP_HI.VALID 1 c).orBit
    BT_STAT.CAPF (c % 2) (c / 2)

/-- The note of a capture before the last one was read (R345). -/
def State.btOver (s : State) (c : Nat) : State :=
  let t := (s.orBit BT_STAT.OVC (c % 2) (c / 2)).count BT_KCNT.OVER 1 c
  if !bit (s.get BT_STAT.OVC (c / 2)) (c % 2) then t.raise Rc.BT_OVERCAPTURE (0x100 + c) else t

theorem State.btCapture_eq (s : State) (c count : Nat) : s.btCapture c count =
    let a := if bit (s.get BT_STAT.CAPF (c / 2)) (c % 2) then (s.btStore c count).btOver c else s.btStore c count
    let b := if a.flag BT_KCFG.FINE c then a.btFine c else a
    if b.flag BT_KCFG.CLR c then b.btZero (c / 2) else b := rfl

namespace State.Within

variable {s u : State} {S : Scope} {t : Nat}

/-- What follows the flag of a match. -/
theorem btMatch_after_flag (u : State) (k : Nat) (hl : S.logs) (hk : ∀ c ∈ matchedCells t, c ∈ S.cells) :
    (u.orBit BT_STAT.CMF k t).Within S (u.btMatch t k) := by
  have cell {f : Field} (hf : f ∈ [BT_STAT.OCLVL, BT_STAT.WOKE]) : f.key t ∈ S.cells :=
    hk _ (List.mem_append_left _ (mem_cellsAt hf))
  have matched : LF_MATCHED.key 0 ∈ S.cells := hk _ (List.mem_append_right _ (mem_cellsAt (by simp)))
  have woke (v : State) (hv : (u.orBit BT_STAT.CMF k t).Within S v) : (u.orBit BT_STAT.CMF k t).Within S
      (if v.mode = mDORMANT && bit (v.get BT_CTL.WAKE t) k then
        ((v.put BT_STAT.WOKE 1 t).put LF_MATCHED (if v.get LF_MATCHED = 0 then t + 1 else v.get LF_MATCHED)).raise
          Rc.BT_WAKE t k
      else v) := branch (fun _ => raise (put (put hv (cell (by simp))) matched) hl) fun _ => hv
  have level : BT_STAT.OCLVL.key t ∈ S.cells := cell (by simp)
  unfold State.btMatch
  refine woke _ ?_
  split
  · exact .put .refl level
  · exact .put .refl level
  · exact branch (fun _ => .put .refl level) fun _ => .put .refl level
  · exact .refl

theorem btMatch (h : s.Within S u) (k : Nat) (hl : S.logs) (hk : ∀ c ∈ matchCells t, c ∈ S.cells) :
    s.Within S (u.btMatch t k) :=
  (put h (hk _ (List.mem_append_left _ (mem_cellsAt (by simp))))).trans
    (btMatch_after_flag u k hl fun _ hc => hk _ (List.mem_append_right _ hc))

/-- The matches of a count. -/
theorem btMatches (h : s.Within S u) (v : Nat) (hl : S.logs) (hk : ∀ c ∈ matchCells t, c ∈ S.cells) :
    s.Within S ((List.range 4).foldl (fun u k => if u.get CMP_ACT (4 * t + k) = v then u.btMatch t k else u) u) :=
  h.foldl fun _ k _ => branch (fun _ => btMatch .refl k hl hk) fun _ => .refl

theorem tickCell (hk : ∀ c ∈ tickCells t, c ∈ S.cells) {f : Field}
    (hf : f ∈ [BT_CNT_LO.COUNT, BT_CNT_HI.COUNT, BT_PSCNT, BT_CTL.RUN, BT_STAT.OVF, BT_STAT.TRG]) : f.key t ∈ S.cells :=
  hk _ (List.mem_append_left _ (List.mem_append_left _ (mem_cellsAt hf)))

theorem matchCell (hk : ∀ c ∈ tickCells t, c ∈ S.cells) : ∀ c ∈ matchCells t, c ∈ S.cells :=
  fun _ hc => hk _ (List.mem_append_right _ hc)

theorem preloadCell (hk : ∀ c ∈ tickCells t, c ∈ S.cells) : ∀ c ∈ preloadCells t, c ∈ S.cells :=
  fun _ hc => hk _ (List.mem_append_left _ (List.mem_append_right _ hc))

theorem setBtCount (h : s.Within S u) (v : Nat) (hk : ∀ c ∈ tickCells t, c ∈ S.cells) :
    s.Within S (u.setBtCount t v) := (h.put (tickCell hk (by simp))).put (tickCell hk (by simp))

theorem btCountTo (h : s.Within S u) (v : Nat) (hl : S.logs) (hk : ∀ c ∈ tickCells t, c ∈ S.cells) :
    s.Within S (u.btCountTo t v) :=
  branch (fun _ => h) fun _ => (h.setBtCount v hk).btMatches v hl (matchCell hk)

theorem preloadTransfer (h : s.Within S u) (hk : ∀ c ∈ preloadCells t, c ∈ S.cells) :
    s.Within S (u.preloadTransfer t) := by
  refine foldl (h.put (hk _ (List.mem_append_left _ (mem_cellsAt (by simp))))) fun v k hr => .put .refl (hk _ ?_)
  exact List.mem_append_right _ (List.mem_flatMap.mpr ⟨k, hr, mem_cellsAt (by simp)⟩)

theorem btZero (h : s.Within S u) (hl : S.logs) (hk : ∀ c ∈ tickCells t, c ∈ S.cells) : s.Within S (u.btZero t) :=
  ((h.put (tickCell hk (by simp))).preloadTransfer (preloadCell hk)).btCountTo 0 hl hk

theorem btWrap (h : s.Within S u) (hk : ∀ c ∈ tickCells t, c ∈ S.cells) : s.Within S (u.btWrap t) := by
  have reloaded := (h.put (f := BT_STAT.OVF) (v := 1) (tickCell hk (by simp))).preloadTransfer (preloadCell hk)
  unfold State.btWrap
  dsimp only
  split
  · exact reloaded.put (tickCell hk (by simp))
  · exact reloaded

theorem btInput (h : s.Within S u) (hl : S.logs) (hk : ∀ c ∈ tickCells t, c ∈ S.cells) :
    s.Within S (u.btInput t).1 := by
  by_cases ht : u.btCount t = u.get TOP_ACT t
  · rw [State.btInput_top ht]
    dsimp only
    exact (h.btWrap hk).btCountTo 0 hl hk
  · rw [State.btInput_below ht]
    exact h.btCountTo _ hl hk

theorem btEdge (h : s.Within S u) (hl : S.logs) (hk : ∀ c ∈ tickCells t, c ∈ S.cells) : s.Within S (u.btEdge t) := by
  unfold State.btEdge
  split
  · exact (h.put (tickCell hk (by simp))).btZero hl hk
  · exact (h.put (tickCell hk (by simp))).put (tickCell hk (by simp))
  · exact h

theorem btSource (h : s.Within S u) (before lfxo : Bool) (hk : BT_PSCNT.key t ∈ S.cells) :
    s.Within S (u.btSource t before lfxo).1 := by
  unfold State.btSource
  split
  · exact h
  · split
    · exact h.put hk
    · exact h.put hk
  all_goals exact h

theorem btLevels (h : s.Within S u) (hk : BT_STAT.OCLVL.key t ∈ S.cells) : s.Within S (u.btLevels t) := by
  unfold State.btLevels
  refine h.foldl fun v k _ => ?_
  dsimp only
  split
  · exact .put .refl hk
  · exact .put .refl hk
  · exact .refl

theorem btTick (h : s.Within S u) (rise before lfxo : Bool) (hl : S.logs) (hk : ∀ c ∈ tickCells t, c ∈ S.cells) :
    s.Within S (u.btTick t rise before lfxo).1 := by
  have level : BT_STAT.OCLVL.key t ∈ S.cells := matchCell hk _ (by simp [matchCells, matchedCells, cellsAt])
  have sourced : s.Within S (if u.flag BT_CTL.RUN t then u.btSource t before lfxo else (u, false)).1 := by
    split
    · exact h.btSource before lfxo (tickCell hk (by simp))
    · exact h
  unfold State.btTick
  dsimp only
  generalize (if u.flag BT_CTL.RUN t then u.btSource t before lfxo else (u, false)) = r at sourced ⊢
  have edged := State.Within.branch (c := rise = true) (fun _ => sourced.btEdge hl hk) fun _ => sourced
  generalize (if rise = true then r.1.btEdge t else r.1) = e at edged ⊢
  split
  · exact h
  · split
    · dsimp only
      exact (sourced.btEdge hl hk).btLevels level
    · have stepped (i : Bool) : s.Within S (if i = true then e.btInput t else (e, false)).1 := by
        cases i
        · exact edged
        · exact edged.btInput hl hk
      dsimp only
      exact (stepped _).btLevels level

/-! Captures. -/

variable {c : Nat}

theorem noteCell (hk : ∀ k ∈ noteCells c, k ∈ S.cells) {f : Field} (hf : f ∈ noteFields) : f.key c ∈ S.cells :=
  hk _ (List.mem_append_left _ (mem_cellsAt hf))

theorem noteCells_of_channel (hk : ∀ k ∈ channelCells c, k ∈ S.cells) : ∀ k ∈ noteCells c, k ∈ S.cells :=
  fun _ hn => hk _ (List.mem_append_left _ (List.mem_append_left _ hn))

theorem sampleCell (hk : ∀ k ∈ channelCells c, k ∈ S.cells) {f : Field} (hf : f ∈ sampleFields) : f.key c ∈ S.cells :=
  hk _ (List.mem_append_left _ (List.mem_append_right _ (mem_cellsAt hf)))

theorem btFine (h : s.Within S u) (hk : ∀ k ∈ noteCells c, k ∈ S.cells) : s.Within S (u.btFine c) := by
  have cell {f : Field} (hf : f ∈ noteFields) : f.key c ∈ S.cells := noteCell hk hf
  unfold State.btFine
  split
  · exact h
  · exact put (put (put (put (put (put (put (put (put h (cell (by simp [noteFields]))) (cell (by simp [noteFields])))
      (cell (by simp [noteFields]))) (cell (by simp [noteFields]))) (cell (by simp [noteFields])))
      (cell (by simp [noteFields]))) (cell (by simp [noteFields]))) (cell (by simp [noteFields])))
      (cell (by simp [noteFields]))

theorem btOver (h : s.Within S u) (hl : S.logs) (hk : ∀ k ∈ noteCells c, k ∈ S.cells) : s.Within S (u.btOver c) := by
  have noted : s.Within S ((u.orBit BT_STAT.OVC (c % 2) (c / 2)).count BT_KCNT.OVER 1 c) :=
    put (put h (hk _ (List.mem_append_right _ (mem_cellsAt (by simp))))) (noteCell hk (by simp [noteFields]))
  exact branch (fun _ => noted.raise hl) fun _ => noted

/-- What follows the stored count: an overcapture is noted, the fine time is stored, CLR resets the timer. -/
theorem btCapture_after_store (s : State) (count : Nat) (hl : S.logs) (hk : ∀ k ∈ noteCells c, k ∈ S.cells)
    (ht : ∀ k ∈ tickCells (c / 2), k ∈ S.cells) : (s.btStore c count).Within S (s.btCapture c count) := by
  have noted : (s.btStore c count).Within S
      (if bit (s.get BT_STAT.CAPF (c / 2)) (c % 2) then (s.btStore c count).btOver c else s.btStore c count) := by
    split
    · exact btOver .refl hl hk
    · exact .refl
  rw [State.btCapture_eq]
  dsimp only
  generalize (if bit (s.get BT_STAT.CAPF (c / 2)) (c % 2) then (s.btStore c count).btOver c
    else s.btStore c count) = a at noted ⊢
  have fine : (s.btStore c count).Within S (if a.flag BT_KCFG.FINE c then a.btFine c else a) :=
    branch (fun _ => noted.btFine hk) fun _ => noted
  generalize (if a.flag BT_KCFG.FINE c then a.btFine c else a) = b at fine ⊢
  exact branch (fun _ => fine.btZero hl ht) fun _ => fine

theorem btStore (h : s.Within S u) (count : Nat) (hk : ∀ k ∈ channelCells c, k ∈ S.cells) :
    s.Within S (u.btStore c count) :=
  (((h.put (sampleCell hk (by simp [sampleFields]))).put (sampleCell hk (by simp [sampleFields]))).put
    (sampleCell hk (by simp [sampleFields]))).put (hk _ (List.mem_append_right _ (mem_cellsAt (by simp))))

theorem btAccept (h : s.Within S u) (count : Nat) (hl : S.logs) (hk : ∀ k ∈ channelCells c, k ∈ S.cells)
    (ht : ∀ k ∈ tickCells (c / 2), k ∈ S.cells) : s.Within S (u.btAccept c count) := by
  have edges (v : Nat) : s.Within S (u.put KEDGES v c) := h.put (sampleCell hk (by simp [sampleFields]))
  unfold State.btAccept
  split
  · exact ((edges 0).btStore count hk).trans (btCapture_after_store _ count hl (noteCells_of_channel hk) ht)
  · exact edges _

/-- A channel that is off only notes the level. -/
theorem btSample_off (h : s.Within S u) (high : Bool) (hc : u.get BT_KCFG.CEN c = 0) (hk : KLAST.key c ∈ S.cells) :
    s.Within S (u.btSample c high) := by
  simp only [State.btSample, State.flag, hc, Nat.zero_ne_one, decide_false, Bool.not_false, Bool.true_or, if_true]
  exact h.put hk

theorem btSample (h : s.Within S u) (high : Bool) (hl : S.logs) (hk : ∀ k ∈ channelCells c, k ∈ S.cells)
    (ht : ∀ k ∈ tickCells (c / 2), k ∈ S.cells) : s.Within S (u.btSample c high) := by
  have held (v : State) (hv : s.Within S v) (n : Nat) : s.Within S (v.put KHELD n c) :=
    hv.put (sampleCell hk (by simp [sampleFields]))
  have rejected (v : State) (hv : s.Within S v) : s.Within S (v.count BT_KCNT.REJECT 1 c) :=
    hv.put (sampleCell hk (by simp [sampleFields]))
  have last (v : State) (hv : s.Within S v) : s.Within S (v.put KLAST (b2n high) c) :=
    hv.put (sampleCell hk (by simp [sampleFields]))
  have begun (b : Prop) [Decidable b] (n : Nat) : s.Within S (if b then u.put KCOUNT n c else u) :=
    branch (fun _ => h.put (sampleCell hk (by simp [sampleFields]))) fun _ => h
  unfold State.btSample
  dsimp only
  generalize hb : (if u.get KHELD c = 0 then u.put KCOUNT (u.btCount (c / 2)) c else u) = b
  have hb : s.Within S b := hb ▸ begun _ _
  split
  · exact last _ h
  · split
    · split
      · exact h
      · split
        · exact rejected _ (held _ h 0)
        · exact held _ h 0
    · split
      · exact held _ hb _
      · split
        · exact (last _ (held _ hb 0)).btAccept _ hl hk ht
        · exact last _ (held _ hb 0)

/-! The tick of the time base and of the router. -/

theorem countTick (h : s.Within S u) (hk : ∀ k ∈ cellsAt [TCOUNT, SLEW_LEFT, BS_ADJCTL.BUSY], k ∈ S.cells) :
    s.Within S u.countTick := by
  have cell {f : Field} (hf : f ∈ [TCOUNT, SLEW_LEFT, BS_ADJCTL.BUSY]) : f.key 0 ∈ S.cells := hk _ (mem_cellsAt hf)
  have slewed (v : State) (n : Nat) (hv : s.Within S v) : s.Within S (v.slewBy n) :=
    have left := (hv.put (f := TCOUNT) (cell (by simp))).put (f := SLEW_LEFT) (cell (by simp))
    branch (fun _ => left.put (cell (by simp))) fun _ => left
  have counted : s.Within S (u.put TCOUNT (u.get TCOUNT + 8 * tickUnits * 65536)) := h.put (cell (by simp))
  unfold State.countTick
  exact branch (fun _ => h) fun _ => branch (fun _ => slewed _ _ counted) fun _ => counted

end State.Within

end Sys2Proof.Machine
end

section
/-! A tick of the timers (R323, R329, R330): the cells of different timers and channels lie apart, so a timer's count
moves at its own step alone. -/

namespace Sys2Proof.Machine

/-- A fact of every timer holds of timer t: how a finite check of the address map is used at one timer. -/
theorem forTimer {P : Fin 16 → Prop} (t : Fin 16) (h : ∀ x, P x) : P t := h t

/-- The cells that decide a count input of timer t under Tables BT-1 and BT-2, its count, and the enables of its
channels. -/
def heldCells (t : Nat) : List Nat :=
  cellsAt [BT_CTL.EN, BT_CTL.RUN, BT_CTL.CSRC, BT_CTL.SMODE, BT_CTL.FRZ, BT_CNT_LO.COUNT, BT_CNT_HI.COUNT, TOP_ACT] t ++
    cellsAt [BT_KCFG.CEN] (2 * t) ++ cellsAt [BT_KCFG.CEN] (2 * t + 1) ++ cellsAt [PW_MODE.HALTED]

/-- The words that they lie in. -/
def heldWords (t : Nat) : List Nat :=
  [0xA100 + 0x80 * t, 0xA110 + 0x80 * t, 0xA114 + 0x80 * t, 0x5700000 + t, 0xA900 + 0x40 * t, 0xA920 + 0x40 * t, 0x1000]

theorem word_of_heldCells {t k : Nat} (h : k ∈ heldCells t) : k / 32 ∈ heldWords t := by
  simp only [heldCells, cellsAt, List.map_cons, List.map_nil, List.mem_append, List.mem_cons, List.not_mem_nil,
    or_false, Field.key, BT_CTL.EN, BT_CTL.RUN, BT_CTL.CSRC, BT_CTL.SMODE, BT_CTL.FRZ, BT_CNT_LO.COUNT, BT_CNT_HI.COUNT,
    TOP_ACT, BT_KCFG.CEN, PW_MODE.HALTED] at h
  simp only [heldWords, List.mem_cons, List.not_mem_nil, or_false]
  omega

theorem word_of_tickCells {t k : Nat} (h : k ∈ tickCells t) : k / 32 ∈ [0xA100 + 0x80 * t, 0xA108 + 0x80 * t,
    0xA110 + 0x80 * t, 0xA114 + 0x80 * t, 0x5900000 + t, 0x5700000 + t, 0x5800000 + 4 * t, 0x5800001 + 4 * t,
    0x5800002 + 4 * t, 0x5800003 + 4 * t, 0x6100000] := by
  simp only [tickCells, preloadCells, matchCells, matchedCells, cellsAt, List.map_cons, List.map_nil, List.mem_append,
    List.mem_cons, List.not_mem_nil, or_false, List.mem_flatMap, List.mem_range, Field.key, BT_CNT_LO.COUNT,
    BT_CNT_HI.COUNT, BT_PSCNT, BT_CTL.RUN, BT_STAT.OVF, BT_STAT.TRG, TOP_ACT, CMP_ACT, BT_STAT.CMF, BT_STAT.OCLVL, BT_STAT.WOKE,
    LF_MATCHED] at h
  simp only [List.mem_cons, List.not_mem_nil, or_false]
  rcases h with (h | h | ⟨i, hi, h⟩) | h <;> omega

/-- The cells of different timers are different. -/
theorem tickCells_apart {t t' k : Nat} (ht : t < 16) (ht' : t' < 16) (hne : t' ≠ t) (h : k ∈ tickCells t') :
    k ∉ heldCells t := by
  intro hk
  have hk := word_of_heldCells hk
  have h := word_of_tickCells h
  simp only [heldWords, List.mem_cons, List.not_mem_nil, or_false] at hk h
  omega

theorem word_of_routeCells {k : Nat} (h : k ∈ routeCells) : k / 32 = 0x40010 ∨ k / 32 = 0x40014 ∨ k / 32 = 0x40004 ∨
    (0x900000 ≤ k / 32 ∧ k / 32 < 0x5700000) := by
  simp only [routeCells, cellsUpTo, cellsAt, List.map_cons, List.map_nil, List.mem_append, List.mem_cons,
    List.not_mem_nil, or_false, List.mem_flatMap, List.mem_range, Field.key, FB_ELOVR_LO.OVR, FB_ELOVR_HI.OVR,
    FB_IRQ.EL_OVR, EL_PEND, RT_RAW, RT_LEFT, RT_VAL] at h
  obtain (h | ⟨i, hi, h⟩) | ⟨i, hi, h⟩ := h <;> omega

theorem routeCells_apart {t k : Nat} (ht : t < 16) (h : k ∈ routeCells) : k ∉ heldCells t := by
  intro hk
  have hk := word_of_heldCells hk
  have h := word_of_routeCells h
  simp only [heldWords, List.mem_cons, List.not_mem_nil, or_false] at hk
  omega

theorem channelCells_apart {t c k : Nat} (ht : t < 16) (hc : c < 32) (h : k ∈ channelCells c) :
    k ∉ heldCells t := by
  intro hk
  have hk := word_of_heldCells hk
  have h : (0xA904 + 0x20 * c ≤ k / 32 ∧ k / 32 < 0xA91C + 0x20 * c) ∨ k / 32 = 0xA108 + 0x80 * (c / 2) ∨
      0x5B00000 ≤ k / 32 := by
    simp only [channelCells, noteCells, noteFields, sampleFields, cellsAt, List.mem_append, List.map_cons, List.map_nil,
      List.mem_cons, List.not_mem_nil, or_false, Field.key, BT_CAP_LO.COUNT, BT_CAP_HI.COUNT,
      BT_CAP_HI.VALID, BT_KCNT.OVER, BT_KCNT.REJECT, BT_FINE0.TIME, BT_FINE1.TIME, BT_FINE2.TIME, BT_FINE2.STALE_CAL,
      BT_FINE2.HOLDOVER, BT_FINE2.NOEPOCH, BT_FINE2.COARSE, BT_FINE2.VALID, BT_FINE2.EPOCH_GEN, KLAST, KHELD, KCOUNT,
      KEDGES, BT_STAT.CAPF, BT_STAT.OVC] at h
    omega
  simp only [heldWords, List.mem_cons, List.not_mem_nil, or_false] at hk
  omega

/-- A cell in a word that holds none of them is none of them. -/
theorem key_apart {f : Field} {i t : Nat} (h : f.key i / 32 ∉ heldWords t) : f.key i ∉ heldCells t :=
  fun hk => h (word_of_heldCells hk)

theorem heldCells_quiet {t k : Nat} (ht : t < 16) (h : k ∈ heldCells t) : k ∉ noiseCells := by
  intro hn
  have h := word_of_heldCells h
  simp only [heldWords, noiseCells, cellsAt, List.map_cons, List.map_nil, List.mem_cons, List.not_mem_nil, or_false,
    Field.key, MSI_PEND, EV_DROP.COUNT, DROP_EPISODE] at h hn
  omega

/-! The count. -/

theorem State.setBtCount_btCount (s : State) (t : Fin 16) {v : Nat} (hv : v < 2 ^ 48) :
    (s.setBtCount t v).btCount t = v := by
  have lo : (s.setBtCount t v).get BT_CNT_LO.COUNT t = v % 2 ^ 32 % 2 ^ 32 :=
    (State.get_put_ne _ _ (by apply forTimer t; decide)).trans (State.get_put_self _ _ _ _)
  have hi : (s.setBtCount t v).get BT_CNT_HI.COUNT t = v / 2 ^ 32 % 2 ^ 16 := State.get_put_self _ _ _ _
  rw [State.btCount, lo, hi]
  omega

/-- The cells of timer t's count. -/
def countCells (t : Nat) : List Nat := cellsAt [BT_CNT_LO.COUNT, BT_CNT_HI.COUNT] t

theorem State.Within.btCount {s u : State} {keys : List Nat} (h : s.Within (.outside keys) u) (t : Fin 16)
    (hk : ∀ k ∈ countCells t, k ∈ keys) : u.btCount t = s.btCount t := by
  rw [State.btCount, State.btCount, h.get_outside (hk _ (mem_cellsAt (by simp))) (by apply forTimer t; decide),
    h.get_outside (hk _ (mem_cellsAt (by simp))) (by apply forTimer t; decide)]

/-- A count that is taken is the count then, whatever matches (R340). -/
theorem State.btCountTo_btCount (s : State) (t : Fin 16) {v : Nat} (hv : v < 2 ^ 48) :
    (s.btCountTo t v).btCount t = v := by
  unfold State.btCountTo
  split
  · assumption
  · have matched := State.Within.btMatches (S := .outside (countCells t)) (State.Within.refl (s := s.setBtCount t v)) v
      (t := t) trivial (Scope.all_outside (by apply forTimer t; decide))
    exact (matched.btCount t fun _ hk => hk).trans (s.setBtCount_btCount t hv)

/-! A timer that is due to count up. -/

/-- Timer t counts pace ticks with no slave mode, stands at n below TOP, and has its capture channels off. -/
structure CountsUp (t n : Nat) (u : State) : Prop where
  en : u.get BT_CTL.EN t = 1
  run : u.get BT_CTL.RUN t = 1
  thawed : u.btFrozen t = false
  pace : u.get BT_CTL.CSRC t = 0
  plain : u.get BT_CTL.SMODE t = 0
  count : u.btCount t = n
  below : u.get TOP_ACT t ≠ n
  off₀ : u.get BT_KCFG.CEN (2 * t) = 0
  off₁ : u.get BT_KCFG.CEN (2 * t + 1) = 0

/-- Timer t stands at n and has its capture channels off. -/
structure StandsAt (t n : Nat) (u : State) : Prop where
  count : u.btCount t = n
  off₀ : u.get BT_KCFG.CEN (2 * t) = 0
  off₁ : u.get BT_KCFG.CEN (2 * t + 1) = 0

section Tick

variable {u v : State} {t : Fin 16} {n : Nat}

theorem heldCell {f : Field} (hf : f ∈ [BT_CTL.EN, BT_CTL.RUN, BT_CTL.CSRC, BT_CTL.SMODE, BT_CTL.FRZ, BT_CNT_LO.COUNT,
    BT_CNT_HI.COUNT, TOP_ACT]) (t : Nat) : f.key t ∈ heldCells t := by
  simp only [heldCells, List.append_assoc]
  exact List.mem_append_left _ (mem_cellsAt hf)

theorem StandsAt.of_within (hu : StandsAt t n u) (h : u.Within (.outside (heldCells t)) v) : StandsAt t n v := by
  have same {f : Field} {j : Nat} (hf : f.key j ∈ heldCells t) : v.get f j = u.get f j :=
    h.get_outside hf (heldCells_quiet t.isLt hf)
  obtain ⟨count, off₀, off₁⟩ := hu
  exact ⟨(h.btCount t (by apply forTimer t; decide)).trans count, (same (by simp [heldCells, cellsAt])).trans off₀,
    (same (by simp [heldCells, cellsAt])).trans off₁⟩

theorem CountsUp.of_within (hu : CountsUp t n u) (h : u.Within (.outside (heldCells t)) v) : CountsUp t n v := by
  have same {f : Field} {j : Nat} (hf : f.key j ∈ heldCells t) : v.get f j = u.get f j :=
    h.get_outside hf (heldCells_quiet t.isLt hf)
  have stands : StandsAt t n v := StandsAt.of_within ⟨hu.count, hu.off₀, hu.off₁⟩ h
  refine ⟨?_, ?_, ?_, ?_, ?_, stands.count, ?_, stands.off₀, stands.off₁⟩
  · exact (same (heldCell (by simp) t)).trans hu.en
  · exact (same (heldCell (by simp) t)).trans hu.run
  · rw [← hu.thawed, State.btFrozen, State.btFrozen, State.flag, State.flag, same (heldCell (by simp) t),
      same (by simp [heldCells, cellsAt])]
    rfl
  · exact (same (heldCell (by simp) t)).trans hu.pace
  · exact (same (heldCell (by simp) t)).trans hu.plain
  · rw [same (heldCell (by simp) t)]
    exact hu.below

/-- A write of the reset value to a cell leaves it unlisted. -/
theorem State.get_put_unlisted (s : State) {f g : Field} {v i j : Nat} (hk : g.key j = f.key i)
    (hv : v % 2 ^ f.width = f.reset) : (s.put f v i).get g j = g.reset := by
  have he : (s.put f v i).cells = Store.erase s.cells (f.key i) := by simp [State.put, Store.set, hv]
  rw [State.get, he, hk, Store.get_erase_same]

/-- The end of a pulse leaves the timer due: the numbers of the sources whose pulses end are free, and the only cell of
the timer that one can reach is TOP_ACT, which then reads its reset value 2 ^ 48 - 1. -/
theorem CountsUp.put_source (hu : CountsUp t n u) (hn : n + 1 < 2 ^ 48) (c : Nat) :
    CountsUp t n (u.put SRC_VAL 0 c) := by
  have low {f : Field} {j : Nat} (h : f.key j < SRC_VAL.key 0) : (u.put SRC_VAL 0 c).get f j = u.get f j := by
    refine State.get_put_ne _ _ fun he => ?_
    have : SRC_VAL.key 0 ≤ SRC_VAL.key c := by simp only [Field.key, SRC_VAL]; omega
    omega
  refine ⟨?_, ?_, ?_, ?_, ?_, ?_, ?_, ?_, ?_⟩
  · exact (low (by apply forTimer t; decide)).trans hu.en
  · exact (low (by apply forTimer t; decide)).trans hu.run
  · rw [← hu.thawed, State.btFrozen, State.btFrozen, State.flag, State.flag, low (by apply forTimer t; decide),
      low (by apply forTimer t; decide)]
    rfl
  · exact (low (by apply forTimer t; decide)).trans hu.pace
  · exact (low (by apply forTimer t; decide)).trans hu.plain
  · rw [← hu.count, State.btCount, State.btCount, low (by apply forTimer t; decide), low (by apply forTimer t; decide)]
  · by_cases hk : TOP_ACT.key t = SRC_VAL.key c
    · rw [State.get_put_unlisted _ hk rfl]
      have : TOP_ACT.reset = 2 ^ 48 - 1 := rfl
      omega
    · rw [State.get_put_ne _ _ hk]
      exact hu.below
  · exact (low (by apply forTimer t; decide)).trans hu.off₀
  · exact (low (by apply forTimer t; decide)).trans hu.off₁

theorem CountsUp.setSource (hu : CountsUp t n u) (hn : n + 1 < 2 ^ 48) (c : Nat) :
    CountsUp t n (u.setSource c false) := by
  unfold State.setSource
  split
  · exact hu
  · refine (hu.put_source hn c).of_within (State.Within.refl.foldl fun v d hd => ?_)
    exact .branch (fun _ => State.Within.refl.routeStep trivial (List.mem_range.mp hd) fun _ hk =>
      routeCells_apart t.isLt hk) fun _ => .refl

theorem CountsUp.routerTick (hu : CountsUp t n u) (hn : n + 1 < 2 ^ 48) : CountsUp t n u.routerTick := by
  have stretched : u.Within (.outside (heldCells t)) ((List.range 176).foldl (fun u d =>
      if u.get RT_LEFT d = 0 then u
      else
        let u := u.put RT_LEFT (u.get RT_LEFT d - 1) d
        if u.get RT_LEFT d = 0 then u.setDest d false else u) u) := by
    refine State.Within.refl.foldl fun v d hd => .branch (fun _ => .refl) fun _ => ?_
    have left (m : Nat) : v.Within (.outside (heldCells t)) (v.put RT_LEFT m d) :=
      .put .refl (routeCells_apart t.isLt (State.Within.mem_routeCells (by simp) (List.mem_range.mp hd)))
    exact .branch (fun _ => (left _).setDest false trivial (List.mem_range.mp hd) fun _ hk =>
      routeCells_apart t.isLt hk) fun _ => left _
  unfold State.routerTick
  refine CountsUp.of_within ?_ (.setList .refl trivial)
  exact List.foldlRecOn _ _ (hu.of_within stretched) fun v hv c _ => hv.setSource hn c

/-- Its tick is one count up, with the levels that follow (R330, Table BT-1). -/
theorem CountsUp.btTick_eq (hu : CountsUp t n u) (rise before lfxo : Bool) :
    u.btTick t rise before lfxo = ((u.btCountTo t (n + 1)).btLevels t, false, false) := by
  have input : u.btInput t = (u.btCountTo t (n + 1), false) := by
    rw [State.btInput_below (by rw [hu.count]; exact hu.below.symm), hu.count]
  have edge : u.btEdge t = u := by simp [State.btEdge, hu.plain]
  simp [State.btTick, State.flag, State.btSource, hu.en, hu.run, hu.thawed, hu.pace, hu.plain, edge, input]

theorem CountsUp.btTick (hu : CountsUp t n u) (hn : n + 1 < 2 ^ 48) (rise before lfxo : Bool) :
    StandsAt t (n + 1) (u.btTick t rise before lfxo).1 := by
  rw [hu.btTick_eq]
  dsimp only
  have ticked : u.Within (.outside (cellsAt [BT_KCFG.CEN] (2 * t) ++ cellsAt [BT_KCFG.CEN] (2 * t + 1)))
      ((u.btCountTo t (n + 1)).btLevels t) :=
    (State.Within.refl.btCountTo (n + 1) trivial (Scope.all_outside (by apply forTimer t; decide))).btLevels
      (Scope.mem_outside (by apply forTimer t; decide))
  have levelled : (u.btCountTo t (n + 1)).Within (.outside (countCells t)) ((u.btCountTo t (n + 1)).btLevels t) :=
    State.Within.refl.btLevels (Scope.mem_outside (by apply forTimer t; decide))
  refine ⟨(levelled.btCount t fun _ hk => hk).trans (u.btCountTo_btCount t hn), ?_, ?_⟩
  · exact (ticked.get_outside (by simp [cellsAt]) (by apply forTimer t; decide)).trans hu.off₀
  · exact (ticked.get_outside (by simp [cellsAt]) (by apply forTimer t; decide)).trans hu.off₁

/-- The output of any timer is apart from the cells of timer t. -/
theorem State.Within.btDrive_apart {x : Nat} (hx : x < 16) (h : u.Within (.outside (heldCells t)) v) (ovf rst : Bool) :
    u.Within (.outside (heldCells t)) (v.btDrive x ovf rst) := by
  have ht := t.isLt
  refine h.btDrive ovf rst trivial (key_apart ?_) (key_apart ?_) fun _ hk => routeCells_apart ht hk
  · simp only [heldWords, Field.key, BT_STAT.OUT, List.mem_cons, List.not_mem_nil, or_false]
    omega
  · simp only [heldWords, Field.key, SRC_VAL, List.mem_cons, List.not_mem_nil, or_false]
    omega

/-- The tick of all timers brings timer t to its next count. -/
theorem CountsUp.btAll (hu : CountsUp t n u) (hn : n + 1 < 2 ^ 48) (rise : Nat → Bool) (lfxo visible : Bool) :
    StandsAt t (n + 1) (u.btAll rise lfxo visible) := by
  have driven (w : State) {x : Nat} (hx : x < 16) (a b : Bool) : w.Within (.outside (heldCells t))
      (if visible then w.btDrive x a b else w) :=
    .branch (fun _ => State.Within.refl.btDrive_apart hx a b) fun _ => .refl
  have other (w : State) {x : Nat} (hx : x < 16) (hne : x ≠ t) (r b : Bool) :
      w.Within (.outside (heldCells t)) (w.btTick x r b lfxo).1 :=
    State.Within.refl.btTick r b lfxo trivial fun _ hk => tickCells_apart t.isLt hx hne hk
  unfold State.btAll
  refine foldl_visit (before := fun p : State × Bool => CountsUp t n p.1) (after := fun p => StandsAt t (n + 1) p.1)
    List.nodup_range (List.mem_range.mpr t.isLt) (fun p x hx hne hp => ?_) (fun p hp => ?_) (fun p x hx hne hp => ?_) hu
  · have hx := List.mem_range.mp hx
    exact hp.of_within ((other p.1 hx hne _ _).trans (driven _ hx _ _))
  · exact (hp.btTick hn _ _ _).of_within (driven _ t.isLt _ _)
  · have hx := List.mem_range.mp hx
    exact hp.of_within ((other p.1 hx hne _ _).trans (driven _ hx _ _))

/-- Sampling any channel leaves a timer whose channels are off. -/
theorem StandsAt.btSample (hu : StandsAt t n u) {c : Nat} (hc : c < 32) (high : Bool) :
    StandsAt t n (u.btSample c high) := by
  have ht := t.isLt
  by_cases hct : c / 2 = t
  · have off : u.get BT_KCFG.CEN c = 0 := by
      rcases (by omega : c = 2 * t ∨ c = 2 * t + 1) with rfl | rfl
      · exact hu.off₀
      · exact hu.off₁
    refine hu.of_within (State.Within.refl.btSample_off high off (key_apart ?_))
    simp only [heldWords, Field.key, KLAST, List.mem_cons, List.not_mem_nil, or_false]
    omega
  · exact hu.of_within (State.Within.refl.btSample high trivial (fun _ hk => channelCells_apart ht hc hk)
      fun _ hk => tickCells_apart ht (by omega) hct hk)

end Tick

end Sys2Proof.Machine
end

section
/-! O23: what the happenings of a timer and of its capture channels answer. -/

namespace Sys2Proof.Machine

section Results

variable {s u v : State} {t : Fin 16}

/-- The cells of timer t that the statement speaks of. -/
def resultCells (t : Nat) : List Nat :=
  cellsAt [BT_CNT_LO.COUNT, BT_CNT_HI.COUNT, BT_CTL.RUN, BT_STAT.CMF, BT_STAT.OVF, BT_STAT.TRG] t

/-- The levels and the output that a count shows are none of them. -/
theorem shown_within (u : State) (t : Fin 16) (ovf rst : Bool) :
    u.Within (.outside (resultCells t)) ((u.btLevels t).btDrive t ovf rst) := by
  have low : ∀ x : Fin 16, ∀ k ∈ resultCells x, k < 32 * 0x40004 := by decide
  refine (State.Within.refl.btLevels (Scope.mem_outside (by apply forTimer t; decide))).btDrive ovf rst trivial
    (Scope.mem_outside (by apply forTimer t; decide)) (Scope.mem_outside (by apply forTimer t; decide)) ?_
  intro k hk hr
  have := word_of_routeCells hk
  have := low t k hr
  omega

theorem State.Within.result (h : u.Within (.outside (resultCells t)) v) {f : Field}
    (hf : f ∈ [BT_CNT_LO.COUNT, BT_CNT_HI.COUNT, BT_CTL.RUN, BT_STAT.CMF, BT_STAT.OVF, BT_STAT.TRG]) :
    v.get f t = u.get f t := by
  have quiet : ∀ x : Fin 16, ∀ k ∈ resultCells x, k ∉ noiseCells := by decide
  exact h.get_outside (mem_cellsAt hf) (quiet t _ (mem_cellsAt hf))

theorem State.Within.result_count (h : u.Within (.outside (resultCells t)) v) : v.btCount t = u.btCount t := by
  rw [State.btCount, State.btCount, h.result (by simp), h.result (by simp)]

/-- Whether timer t counts, as its fields. -/
theorem State.btCounting_iff (s : State) (t : Nat) : s.btCounting t = true ↔ s.get BT_CTL.EN t = 1 ∧
    s.get BT_CTL.RUN t = 1 ∧ s.btFrozen t = false ∧ s.get RESETTING = 0 ∧ s.mode ≠ mDORMANT := by
  simp [State.btCounting, State.flag, and_assoc]

/-! The tick. -/

theorem StandsAt.deliver {n : Nat} (h : StandsAt t n u) (before : State) : StandsAt t n (deliver before u) :=
  h.of_within (State.Within.refl.deliver before)

theorem CountsUp.countTick {n : Nat} (h : CountsUp t n u) : CountsUp t n u.countTick :=
  h.of_within (State.Within.refl.countTick (Scope.all_outside (by apply forTimer t; decide)))

/-- TIMER_TICK brings a timer that is due to count up to its next count (R323, R329). -/
theorem CountsUp.timerTick {n : Nat} (h : CountsUp t n s) (ha : Awake s) (hm : s.mode ≠ mDORMANT)
    (hf : s.get STAGE_FREQ ≠ 0) (hn : n + 1 < 2 ^ 48) (lfxo : Bool) :
    Answers (.timerTick lfxo) s fun u => u.btCount t = n + 1 := by
  refine answers_live (exec_timerTick lfxo s) ha (StandsAt.count (StandsAt.deliver ?_ s))
  simp only [hf, hm, decide_false, Bool.or_self, Bool.false_eq_true, if_false]
  refine StandsAt.of_within ?_ (State.Within.refl.foldl fun w x hx => .put .refl (key_apart ?_))
  · exact List.foldlRecOn _ _ (h.countTick.routerTick hn |>.btAll hn _ _ _) fun w hw c hc =>
      hw.btSample (List.mem_range.mp hc) _
  · have := t.isLt
    have := List.mem_range.mp hx
    simp only [heldWords, Field.key, TRIG_LAST, List.mem_cons, List.not_mem_nil, or_false]
    omega

/-! A count input at TOP. -/

theorem State.Within.preload_result (u : State) (t : Fin 16) : u.Within
    (.outside (resultCells t ++ cellsAt [BT_CTL.ONESHOT] t)) (u.preloadTransfer t) :=
  State.Within.refl.preloadTransfer (Scope.all_outside (by apply forTimer t; decide))

theorem State.btWrap_ovf (s : State) (t : Fin 16) : (s.btWrap t).get BT_STAT.OVF t = 1 := by
  have kept := (State.Within.preload_result (s.put BT_STAT.OVF 1 t) t).get_outside (g := BT_STAT.OVF) (j := t)
    (by simp [resultCells, cellsAt]) (by apply forTimer t; decide)
  have set : ((s.put BT_STAT.OVF 1 t).preloadTransfer t).get BT_STAT.OVF t = 1 :=
    kept.trans (State.get_put_self _ _ _ _)
  unfold State.btWrap
  dsimp only
  split
  · exact (State.get_put_ne _ _ (by apply forTimer t; decide)).trans set
  · exact set

theorem State.btWrap_run (s : State) (t : Fin 16) (h : s.get BT_CTL.ONESHOT t = 1) :
    (s.btWrap t).get BT_CTL.RUN t = 0 := by
  have kept := (State.Within.preload_result (s.put BT_STAT.OVF 1 t) t).get_outside (g := BT_CTL.ONESHOT) (j := t)
    (by simp [cellsAt]) (by apply forTimer t; decide)
  rw [State.get_put_ne _ _ (by apply forTimer t; decide), h] at kept
  simp only [State.btWrap, State.flag, kept, decide_true, if_true]
  exact State.get_put_self _ _ _ _

/-- A count that is taken writes none of the flags but the compare flags. -/
theorem State.Within.btCountTo_flags (u : State) (t : Fin 16) (v : Nat) :
    u.Within (.outside (cellsAt [BT_CTL.RUN, BT_STAT.OVF, BT_STAT.TRG] t)) (u.btCountTo t v) := by
  have counted : u.Within (.outside (cellsAt [BT_CTL.RUN, BT_STAT.OVF, BT_STAT.TRG] t)) (u.setBtCount t v) :=
    (State.Within.put .refl (Scope.mem_outside (by apply forTimer t; decide))).put
      (Scope.mem_outside (by apply forTimer t; decide))
  unfold State.btCountTo
  exact branch (fun _ => .refl) fun _ =>
    counted.btMatches v trivial (Scope.all_outside (by apply forTimer t; decide))

theorem State.btCountTo_flag (u : State) (t : Fin 16) (v : Nat) {f : Field}
    (hf : f ∈ [BT_CTL.RUN, BT_STAT.OVF, BT_STAT.TRG]) : (u.btCountTo t v).get f t = u.get f t := by
  have quiet : ∀ x : Fin 16, ∀ k ∈ cellsAt [BT_CTL.RUN, BT_STAT.OVF, BT_STAT.TRG] x, k ∉ noiseCells := by decide
  exact (State.Within.btCountTo_flags u t v).get_outside (mem_cellsAt hf) (quiet t _ (mem_cellsAt hf))

/-- TIMER_OVERFLOW (R330). -/
theorem timerOverflow_answers (ha : Awake s) (hc : s.btCounting t = true) (ht : s.btCount t = s.get TOP_ACT t) :
    Answers (.timerOverflow t) s fun u => u.get BT_STAT.OVF t = 1 ∧ u.btCount t = 0 ∧
      (s.get BT_CTL.ONESHOT t = 1 → u.get BT_CTL.RUN t = 0) := by
  refine answers_live (exec_timerOverflow t s) ha ?_
  simp only [hc, ht, decide_true, Bool.and_self, if_true, State.btInput_top ht]
  have shown := (shown_within ((s.btWrap t).btCountTo t 0) t true false).deliver s
  refine ⟨?_, ?_, fun ho => ?_⟩
  · rw [shown.result (by simp), State.btCountTo_flag _ _ _ (by simp), State.btWrap_ovf]
  · rw [shown.result_count, State.btCountTo_btCount _ _ (by decide)]
  · rw [shown.result (by simp), State.btCountTo_flag _ _ _ (by simp), State.btWrap_run s t ho]

/-! A match. -/

theorem State.btMatch_flag (u : State) (t : Fin 16) (j : Nat) {k : Nat} (hk : k < 4) :
    bit ((u.btMatch t j).get BT_STAT.CMF t) k = (bit (u.get BT_STAT.CMF t) k || decide (j = k)) := by
  have kept := (State.Within.btMatch_after_flag (S := .outside (cellsAt [BT_STAT.CMF] t)) (t := t) u j trivial
    (Scope.all_outside (by apply forTimer t; decide))).get_outside (g := BT_STAT.CMF) (j := t) (mem_cellsAt (by simp))
    (by apply forTimer t; decide)
  rw [kept, State.bit_orBit]
  simp [BT_STAT.CMF, hk]

/-- A count that comes to CMPk sets its flag (R340). -/
theorem State.btCountTo_match (u : State) (t : Fin 16) (k : Fin 4) {v : Nat} (hv : u.btCount t ≠ v)
    (hk : u.get CMP_ACT (4 * t + k) = v) : bit ((u.btCountTo t v).get BT_STAT.CMF t) k = true := by
  have apart : ∀ (x : Fin 16) (y : Fin 4), (∀ c ∈ matchCells x, c ∉ [CMP_ACT.key (4 * x + y)]) ∧
      CMP_ACT.key (4 * x + y) ∉ noiseCells ∧ CMP_ACT.key (4 * x + y) ≠ BT_CNT_LO.COUNT.key x ∧
      CMP_ACT.key (4 * x + y) ≠ BT_CNT_HI.COUNT.key x := by decide
  obtain ⟨hmatch, hquiet, hlo, hhi⟩ := apart t k
  rw [State.btCountTo, if_neg hv]
  refine foldl_visit (before := fun w : State => w.get CMP_ACT (4 * t + k) = v)
    (after := fun w => bit (w.get BT_STAT.CMF t) k = true) List.nodup_range (List.mem_range.mpr k.isLt)
    (fun w j _ _ hw => ?_) (fun w hw => ?_) (fun w j _ _ hw => ?_) ?_
  · have kept : w.Within (.outside [CMP_ACT.key (4 * t + k)])
        (if w.get CMP_ACT (4 * t + j) = v then w.btMatch t j else w) :=
      .branch (fun _ => State.Within.refl.btMatch j trivial (Scope.all_outside hmatch)) fun _ => .refl
    exact (kept.get_outside (by simp) hquiet).trans hw
  · rw [if_pos hw, State.btMatch_flag _ _ _ k.isLt]
    simp
  · split
    · rw [State.btMatch_flag _ _ _ k.isLt, hw]
      rfl
    · exact hw
  · exact (State.get_put_ne _ _ hhi).trans ((State.get_put_ne _ _ hlo).trans hk)

/-- COMPARE_MATCH (R340). -/
theorem compareMatch_answers (k : Fin 4) (ha : Awake s) (hc : s.btCounting t = true)
    (ht : s.btCount t ≠ s.get TOP_ACT t) (hk : s.btCount t + 1 = s.get CMP_ACT (4 * t + k))
    (hn : s.btCount t + 1 < 2 ^ 48) :
    Answers (.compareMatch t k) s fun u => bit (u.get BT_STAT.CMF t) k = true ∧ u.btCount t = s.btCount t + 1 := by
  refine answers_live (exec_compareMatch t k s) ha ?_
  simp only [hc, ht, ← hk, decide_true, Bool.and_self, if_true, if_false, State.btInput_below ht]
  have shown := (shown_within (s.btCountTo t (s.btCount t + 1)) t false false).deliver s
  refine ⟨?_, ?_⟩
  · rw [shown.result (by simp), State.btCountTo_match _ _ _ (by omega) hk.symm]
  · rw [shown.result_count, State.btCountTo_btCount _ _ hn]

/-! A trigger edge. -/

/-- A rising edge at a stopped timer in trigger mode starts it (Table BT-2). -/
theorem State.btTick_start {s : State} {t : Nat} (he : s.get BT_CTL.EN t = 1) (hz : s.btFrozen t = false)
    (hm : s.get BT_CTL.SMODE t = 3) (hr : s.get BT_CTL.RUN t = 0) : s.btTick t true false false =
    ((((s.put BT_STAT.TRG 1 t).put BT_CTL.RUN 1 t).btLevels t), false, false) := by
  simp [State.btTick, State.flag, State.btEdge, he, hz, hm, hr]

/-- In reset mode it clears the count, whatever the prescaler does at the tick. -/
theorem State.btTick_reset {s : State} {t : Nat} (he : s.get BT_CTL.EN t = 1) (hz : s.btFrozen t = false)
    (hm : s.get BT_CTL.SMODE t = 2) : s.btTick t true false false =
    (((if s.flag BT_CTL.RUN t then s.btSource t false false else (s, false)).1.btEdge t).btLevels t, false, true) := by
  simp [State.btTick, State.flag, he, hz, hm]

theorem State.btEdge_start {s : State} {t : Nat} (hm : s.get BT_CTL.SMODE t = 2) :
    s.btEdge t = (s.put BT_STAT.TRG 1 t).btZero t := by
  simp [State.btEdge, hm]

theorem State.btZero_results (s : State) (t : Fin 16) :
    (s.btZero t).btCount t = 0 ∧ (s.btZero t).get BT_STAT.TRG t = s.get BT_STAT.TRG t := by
  unfold State.btZero
  refine ⟨State.btCountTo_btCount _ _ (by decide), ?_⟩
  rw [State.btCountTo_flag _ _ _ (by simp), (State.Within.preload_result _ t).get_outside
    (by simp [resultCells, cellsAt]) (by apply forTimer t; decide), State.get_put_ne _ _ (by apply forTimer t; decide)]

/-- The state after TRIGGER_EDGE, seen through what it shows. -/
theorem triggerEdge_answers {P : State → Prop} {a : State} {ovf rst : Bool} (ha : Awake s) (hd : s.mode ≠ mDORMANT)
    (hi : s.btTrigger t = true) (hl : s.get TRIG_LAST t = 0)
    (ht : s.btTick t true false false = (a.btLevels t, ovf, rst))
    (hp : ∀ v, a.Within (.outside (resultCells t)) v → P v) : Answers (.triggerEdge t) s P := by
  refine answers_live (exec_triggerEdge t s) ha ?_
  simp only [hi, State.flag, hl, hd, ht, Nat.zero_ne_one, decide_false, decide_true, Bool.not_false, Bool.and_self,
    if_true, ne_eq, not_false_eq_true]
  refine hp _ (State.Within.deliver ?_ s)
  exact (shown_within a t ovf rst).put (Scope.mem_outside (by apply forTimer t; decide))

/-- TRIGGER_EDGE of a stopped timer in trigger mode (R338). -/
theorem triggerEdge_starts (ha : Awake s) (hd : s.mode ≠ mDORMANT) (hi : s.btTrigger t = true)
    (hl : s.get TRIG_LAST t = 0) (he : s.get BT_CTL.EN t = 1) (hz : s.btFrozen t = false)
    (hm : s.get BT_CTL.SMODE t = 3) (hr : s.get BT_CTL.RUN t = 0) :
    Answers (.triggerEdge t) s fun u => u.get BT_CTL.RUN t = 1 ∧ u.get BT_STAT.TRG t = 1 := by
  refine triggerEdge_answers ha hd hi hl (State.btTick_start he hz hm hr) fun v hv => ⟨?_, ?_⟩
  · exact (hv.result (by simp)).trans (State.get_put_self _ _ _ _)
  · rw [hv.result (by simp), State.get_put_ne _ _ (by apply forTimer t; decide)]
    exact State.get_put_self _ _ _ _

/-- TRIGGER_EDGE of a timer in reset mode (R338). -/
theorem triggerEdge_clears (ha : Awake s) (hd : s.mode ≠ mDORMANT) (hi : s.btTrigger t = true)
    (hl : s.get TRIG_LAST t = 0) (he : s.get BT_CTL.EN t = 1) (hz : s.btFrozen t = false)
    (hm : s.get BT_CTL.SMODE t = 2) :
    Answers (.triggerEdge t) s fun u => u.btCount t = 0 ∧ u.get BT_STAT.TRG t = 1 := by
  have sourced : s.Within (.outside (cellsAt [BT_CTL.SMODE] t))
      (if s.flag BT_CTL.RUN t then s.btSource t false false else (s, false)).1 := by
    split
    · exact State.Within.refl.btSource false false (Scope.mem_outside (by apply forTimer t; decide))
    · exact .refl
  have mode := (sourced.get_outside (mem_cellsAt (by simp)) (by apply forTimer t; decide)).trans hm
  have tick := State.btTick_reset he hz hm
  rw [State.btEdge_start mode] at tick
  refine triggerEdge_answers ha hd hi hl tick fun v hv => ?_
  obtain ⟨count, trg⟩ := State.btZero_results ((if s.flag BT_CTL.RUN t then s.btSource t false false
    else (s, false)).1.put BT_STAT.TRG 1 t) t
  exact ⟨hv.result_count.trans count, (hv.result (by simp)).trans (trg.trans (State.get_put_self _ _ _ _))⟩

end Results

/-! Captures. -/

/-- The cells of a capture that the statement speaks of. -/
def captureCells (c : Nat) : List Nat :=
  cellsAt [BT_CAP_LO.COUNT, BT_CAP_HI.COUNT, BT_CAP_HI.VALID, KEDGES] c ++ cellsAt [BT_STAT.CAPF] (c / 2)

/-- What a capture writes after the count is none of them, and they are apart from one another. -/
theorem captureCells_apart : ∀ c : Fin 32, (∀ k ∈ noteCells c, k ∉ captureCells c) ∧
    (∀ k ∈ tickCells (c / 2), k ∉ captureCells c) ∧ (∀ k ∈ captureCells c, k ∉ noiseCells) ∧
    (captureCells c).Nodup := by decide

/-- A capture stores the count, low and high, with VALID and CAPF (R345). -/
theorem State.btStore_results (s : State) (c : Fin 32) (n : Nat) :
    (s.btStore c n).get BT_CAP_LO.COUNT c = n % 2 ^ 32 ∧
    (s.btStore c n).get BT_CAP_HI.COUNT c = n / 2 ^ 32 % 2 ^ 16 ∧ (s.btStore c n).get BT_CAP_HI.VALID c = 1 ∧
    bit ((s.btStore c n).get BT_STAT.CAPF (c / 2)) (c % 2) = true ∧ (s.btStore c n).get KEDGES c = s.get KEDGES c := by
  obtain ⟨-, -, -, apart⟩ := captureCells_apart c
  simp only [captureCells, cellsAt, List.map_cons, List.map_nil, List.cons_append, List.nil_append, List.nodup_cons,
    List.mem_cons, List.not_mem_nil, or_false, not_or] at apart
  obtain ⟨⟨hlh, hlv, hle, hlf⟩, ⟨hhv, hhe, hhf⟩, ⟨hve, hvf⟩, hef, -⟩ := apart
  unfold State.btStore
  refine ⟨?_, ?_, ?_, ?_, ?_⟩
  · rw [State.get_orBit_ne _ _ hlf, State.get_put_ne _ _ hlv, State.get_put_ne _ _ hlh]
    exact (State.get_put_self _ _ _ _).trans (Nat.mod_mod _ _)
  · rw [State.get_orBit_ne _ _ hhf, State.get_put_ne _ _ hhv]
    exact State.get_put_self _ _ _ _
  · rw [State.get_orBit_ne _ _ hvf]
    exact State.get_put_self _ _ _ _
  · rw [State.bit_orBit]
    have : c.val % 2 < BT_STAT.CAPF.width := Nat.mod_lt _ (by decide)
    simp [this]
  · rw [State.get_orBit_ne _ _ hef, State.get_put_ne _ _ (Ne.symm hve), State.get_put_ne _ _ (Ne.symm hhe),
      State.get_put_ne _ _ (Ne.symm hle)]

/-- What comes after the count changes none of it. -/
theorem State.btCapture_results (s : State) (c : Fin 32) (n : Nat) (before : State) :
    (deliver before (s.btCapture c n)).get BT_CAP_LO.COUNT c = n % 2 ^ 32 ∧
    (deliver before (s.btCapture c n)).get BT_CAP_HI.COUNT c = n / 2 ^ 32 % 2 ^ 16 ∧
    (deliver before (s.btCapture c n)).get BT_CAP_HI.VALID c = 1 ∧
    bit ((deliver before (s.btCapture c n)).get BT_STAT.CAPF (c / 2)) (c % 2) = true ∧
    (deliver before (s.btCapture c n)).get KEDGES c = s.get KEDGES c := by
  obtain ⟨hnote, htick, hquiet, -⟩ := captureCells_apart c
  have after := (State.Within.btCapture_after_store (c := c) s n trivial (Scope.all_outside hnote)
    (Scope.all_outside htick)).deliver before
  have same {f : Field} {j : Nat} (hf : f.key j ∈ captureCells c) := after.get_outside hf (hquiet _ hf)
  obtain ⟨hlo, hhi, hvalid, hflag, hedges⟩ := s.btStore_results c n
  exact ⟨(same (by simp [captureCells, cellsAt])).trans hlo, (same (by simp [captureCells, cellsAt])).trans hhi,
    (same (by simp [captureCells, cellsAt])).trans hvalid,
    (congrArg (bit · _) (same (by simp [captureCells, cellsAt]))).trans hflag,
    (same (by simp [captureCells, cellsAt])).trans hedges⟩

section Captures

variable {s : State} {t : Fin 16} {j : Fin 2}

/-- CAPTURE on an enabled channel is an accepted edge (R344). -/
theorem capture_answers {P : State → Prop} (ha : Awake s) (hd : s.mode ≠ mDORMANT) (he : s.get BT_CTL.EN t = 1)
    (hc : s.get BT_KCFG.CEN (2 * t.val + j.val) = 1)
    (hp : P (deliver s (s.btAccept (2 * t.val + j.val) (s.btCount t)))) : Answers (.capture t j) s P := by
  refine answers_live (exec_capture t j s) ha ?_
  simpa [State.flag, he, hc, hd] using hp

theorem capture_stores (ha : Awake s) (hd : s.mode ≠ mDORMANT) (he : s.get BT_CTL.EN t = 1)
    (hc : s.get BT_KCFG.CEN (2 * t.val + j.val) = 1)
    (hk : s.get BT_KCFG.PSC (2 * t.val + j.val) ≤ s.get KEDGES (2 * t.val + j.val)) :
    Answers (.capture t j) s fun u => u.get BT_CAP_LO.COUNT (2 * t.val + j.val) = s.btCount t % 2 ^ 32 ∧
      u.get BT_CAP_HI.COUNT (2 * t.val + j.val) = s.btCount t / 2 ^ 32 % 2 ^ 16 ∧
      u.get BT_CAP_HI.VALID (2 * t.val + j.val) = 1 ∧ bit (u.get BT_STAT.CAPF t) j = true ∧
      u.get KEDGES (2 * t.val + j.val) = 0 := by
  refine capture_answers ha hd he hc ?_
  rw [State.btAccept, if_pos hk]
  have results := (s.put KEDGES 0 (2 * t.val + j.val)).btCapture_results ⟨2 * t.val + j.val, by omega⟩ (s.btCount t) s
  simp only [show (2 * t.val + j.val) / 2 = t by omega, show (2 * t.val + j.val) % 2 = j by omega] at results
  obtain ⟨hlo, hhi, hvalid, hflag, hedges⟩ := results
  exact ⟨hlo, hhi, hvalid, hflag, hedges.trans (State.get_put_self _ _ _ _)⟩

theorem capture_counts (ha : Awake s) (hd : s.mode ≠ mDORMANT) (he : s.get BT_CTL.EN t = 1)
    (hc : s.get BT_KCFG.CEN (2 * t.val + j.val) = 1)
    (hk : s.get KEDGES (2 * t.val + j.val) < s.get BT_KCFG.PSC (2 * t.val + j.val)) :
    Answers (.capture t j) s fun u =>
      u.get KEDGES (2 * t.val + j.val) = (s.get KEDGES (2 * t.val + j.val) + 1) % 2 ^ KEDGES.width ∧
      u.get BT_CAP_LO.COUNT (2 * t.val + j.val) = s.get BT_CAP_LO.COUNT (2 * t.val + j.val) := by
  have quiet : ∀ c : Fin 32, KEDGES.key c ≠ MSI_PEND.key 0 ∧ BT_CAP_LO.COUNT.key c ≠ MSI_PEND.key 0 ∧
      BT_CAP_LO.COUNT.key c ≠ KEDGES.key c := by decide
  obtain ⟨hedges, hcap, hne⟩ := quiet ⟨2 * t.val + j.val, by omega⟩
  refine capture_answers ha hd he hc ?_
  rw [State.btAccept, if_neg (by omega)]
  exact ⟨(deliver_get _ _ hedges).trans (State.get_put_self _ _ _ _),
    (deliver_get _ _ hcap).trans (State.get_put_ne _ _ hne)⟩

end Captures

/-! A window of this device (R39, R40) and the LF step (R351). -/

section Window

variable {s : State} {n : BitVec 8} {off : BitVec 20}

theorem windowAddr_dest : (2 ^ 20 * n.toNat + off.toNat) / 2 ^ 20 % 256 = n.toNat := by
  have := n.isLt
  have := off.isLt
  omega

theorem windowAddr_off : (2 ^ 20 * n.toNat + off.toNat) % 2 ^ 20 = off.toNat := by
  have := off.isLt
  omega

theorem fabricWindow_write (m : Master) (w : Word) (ha : Awake s) (hd : s.mode ≠ mDORMANT)
    (hr : s.reach n.toNat = .here) (ho : off.toNat % 4 = 0) :
    exec (.fabricWindowAccess m n off (some w)) s = run s (busWrite m off.toNat w.toNat s) := by
  rw [exec_fabricWindowAccess, execFabricWindowAccess, live_awake _ ha]
  simp only [ho, Nat.sub_zero, hd, if_false, State.windowWrite, windowAddr_dest, windowAddr_off, hr]
  rfl

theorem fabricWindow_read (m : Master) (ha : Awake s) (hd : s.mode ≠ mDORMANT) (hr : s.reach n.toNat = .here)
    (ho : off.toNat % 4 = 0) : exec (.fabricWindowAccess m n off none) s =
      run s ((busRead m off.toNat s).2.emit .busData [m.code, (busRead m off.toNat s).1]) := by
  rw [exec_fabricWindowAccess, execFabricWindowAccess, live_awake _ ha]
  simp only [ho, Nat.sub_zero, hd, if_false, State.windowRead, windowAddr_dest, windowAddr_off, hr]
  rfl

end Window

theorem lfxoEdge_steps {s : State} (ha : Awake s) (hd : s.mode = mDORMANT)
    (hp : bit (s.get CK_REFSTAT.PRESENT) 12 = true) (hl : s.get BS_TBSTAT.LF = 1)
    (hm : ((s.put TCOUNT (s.get TCOUNT + 2000000000 * 65536)).put LF_MATCHED 0).lfStep.get LF_MATCHED = 0) :
    exec .lfxoEdgeDormant s =
      run s ((s.put TCOUNT (s.get TCOUNT + 2000000000 * 65536)).put LF_MATCHED 0).lfStep := by
  rw [exec_lfxoEdgeDormant, execLfxoEdgeDormant, live_awake _ ha]
  simp only [hd, hp, State.flag, hl, decide_true, Bool.and_self, if_true, hm]
  rfl

/-- Settles O23: each clause is the lemma of its happening. -/
theorem timersCountMatchAndCapture : Obligations.TimersCountMatchAndCapture := by
  unfold Obligations.TimersCountMatchAndCapture
  intro s ha
  refine ⟨fun hd => ⟨fun lfxo t hf hc hp hs ht hn h₀ h₁ => ?_, fun t hc ht => timerOverflow_answers ha hc ht,
    fun t k hc ht hk hn => compareMatch_answers k ha hc ht hk hn,
    fun t hi hl he hz => ⟨fun hm hr => triggerEdge_starts ha hd hi hl he hz hm hr,
      fun hm => triggerEdge_clears ha hd hi hl he hz hm⟩,
    fun t j he hc => ⟨fun hk => capture_stores ha hd he hc hk, fun hk => capture_counts ha hd he hc hk⟩,
    fun m n off hr ho => ⟨fun w => fabricWindow_write m w ha hd hr ho, fabricWindow_read m ha hd hr ho⟩⟩,
    fun hd hp hl hm => lfxoEdge_steps ha hd hp hl hm⟩
  obtain ⟨en, run, thawed, -, -⟩ := (s.btCounting_iff t).mp hc
  exact CountsUp.timerTick ⟨en, run, thawed, hp, hs, rfl, ht.symm, h₀, h₁⟩ ha hd hf hn lfxo

end Sys2Proof.Machine
end

section
/-! O8: the report of a pace that stays short at VMAX (R80). -/

namespace Sys2Proof.Machine

/-- The fields that a log record takes its time and its marks from (R794, R795). -/
def recordFields : List Field := [BS_TBSTAT.RUNNING, BS_TBSTAT.COARSE, BS_TBSTAT.EPOCH, TCOUNT]

/-- A write of any other cell leaves the next record as it would be. -/
theorem State.record_put (s : State) {f : Field} {i : Nat} (v : Nat) (h : ∀ g ∈ recordFields, g.key 0 ≠ f.key i)
    (c : Rc) (obj d : Nat) : (s.put f v i).record c obj d = s.record c obj d := by
  have kept (g : Field) (hg : g ∈ recordFields) : (s.put f v i).get g = s.get g := State.get_put_ne s v (h g hg)
  have running := kept BS_TBSTAT.RUNNING (by simp [recordFields])
  have coarse := kept BS_TBSTAT.COARSE (by simp [recordFields])
  have epoch := kept BS_TBSTAT.EPOCH (by simp [recordFields])
  have count := kept TCOUNT (by simp [recordFields])
  simp [State.record, State.now, State.flag, running, coarse, epoch, count]

/-- MINIDX is the index of the slowest governed meter (R73). -/
theorem State.minIndex_of_slowest {s : State} {p : Nat} (h : s.slowest = some p) :
    s.minIndex = s.get PW_METER.INDEX p := by
  simp [State.minIndex, h]

/-- The governor runs in HOLD and RUN only (R74). -/
theorem State.mode_of_governing {s : State} (h : s.governing = true) : s.mode ≠ mDORMANT := by
  intro hm
  simp [State.governing, hm, mDORMANT, mHOLD, mRUN] at h

/-- What a short pace shows in the registers: SHORT, CEILING, SHORT_SEEN and the alert (R80). -/
def State.paceShown (s : State) : State :=
  (((s.put PW_GOVSTAT.SHORT 1).put PW_GOVSTAT.STATE 2).put PW_GOVIRQ.SHORT_SEEN 1).put BV_ALERT.PACE_SHORT 1

theorem State.paceShown_get (s : State) :
    s.paceShown.get PW_GOVSTAT.SHORT = 1 ∧ s.paceShown.get PW_GOVSTAT.STATE = 2 ∧
      s.paceShown.get PW_GOVIRQ.SHORT_SEEN = 1 := by
  refine ⟨?_, ?_, ?_⟩
  · rw [State.paceShown, State.get_put_ne _ _ (by decide), State.get_put_ne _ _ (by decide),
      State.get_put_ne _ _ (by decide), State.get_put_self]
    rfl
  · rw [State.paceShown, State.get_put_ne _ _ (by decide), State.get_put_ne _ _ (by decide), State.get_put_self]
    rfl
  · rw [State.paceShown, State.get_put_ne _ _ (by decide), State.get_put_self]
    rfl

/-- Showing the report leaves every other cell alone. -/
theorem State.paceShown_get_ne (s : State) {g : Field} {j : Nat}
    (h : g.key j ∉ cellsAt [PW_GOVSTAT.SHORT, PW_GOVSTAT.STATE, PW_GOVIRQ.SHORT_SEEN, BV_ALERT.PACE_SHORT]) :
    s.paceShown.get g j = s.get g j := by
  simp only [cellsAt, List.map_cons, List.map_nil, List.mem_cons, List.not_mem_nil, not_or] at h
  obtain ⟨short, state, seen, alert, -⟩ := h
  rw [State.paceShown, State.get_put_ne _ _ alert, State.get_put_ne _ _ seen, State.get_put_ne _ _ state,
    State.get_put_ne _ _ short]

theorem State.paceShown_record (s : State) (c : Rc) (obj d : Nat) :
    s.paceShown.record c obj d = s.record c obj d := by
  rw [State.paceShown, State.record_put _ _ (by decide), State.record_put _ _ (by decide),
    State.record_put _ _ (by decide), State.record_put _ _ (by decide)]

/-- After a record and the delivery of interrupt edges a cell reads as before them, but for those that any command may
write. -/
theorem deliver_raise_get (s t : State) (c : Rc) (obj d : Nat) {g : Field} {j : Nat} (h : g.key j ∉ noiseCells) :
    (deliver s (t.raise c obj d)).get g j = t.get g j := by
  simp only [noiseCells, cellsAt, List.map_cons, List.map_nil, List.mem_cons, List.not_mem_nil, not_or] at h
  obtain ⟨pend, count, episode, -⟩ := h
  rw [deliver_get _ _ pend, State.raise_get _ _ _ _ count episode]

section Report

variable {s : State} {p : Nat}

/-- PACE_SHORT with the pace short at VMAX and not yet reported: the report and its record (R80). -/
theorem exec_paceShort_short (ha : Awake s) (hp : s.slowest = some p) (hg : s.governing = true)
    (hm : s.minIndex < s.paceTarget) (hv : s.get PW_GOVSTAT.VNOW = s.get PW_GOVLIM.VMAX)
    (hs : s.flag PW_GOVSTAT.SHORT = false) :
    exec .paceShort s =
      .next (deliver s (s.paceShown.raise Rc.PW_PACE_SHORT p (s.get PW_METER.INDEX p % 2 ^ 12))) := by
  rw [exec_paceShort, execPaceShort, live_awake _ ha, ← State.minIndex_of_slowest hp]
  simp [hp, hg, hm, hv, hs, State.paceShown]

/-- PACE_SHORT with the pace reached: nothing to report. -/
theorem exec_paceShort_reached (ha : Awake s) (hp : s.slowest = some p) (hm : s.paceTarget ≤ s.minIndex) :
    exec .paceShort s = run s s := by
  rw [exec_paceShort, execPaceShort, live_awake _ ha, run]
  simp [hp, Nat.not_lt.mpr hm]

end Report

/-- Settles O8: the report is shown in the registers and its record put in the intake queue, which the delivery of
interrupt edges leaves alone. -/
theorem paceShortIsReported : Obligations.PaceShortIsReported := by
  unfold Obligations.PaceShortIsReported
  intro s p ha hp hg
  refine ⟨fun hm hv hs hr => ⟨_, exec_paceShort_short ha hp hg hm hv hs, ?_⟩, exec_paceShort_reached ha hp⟩
  obtain ⟨short, ceiling, seen⟩ := s.paceShown_get
  have awake : Awake s.paceShown := (s.paceShown_get_ne (by decide)).trans ha
  have mode : s.paceShown.mode ≠ mDORMANT := by
    rw [State.mode, s.paceShown_get_ne (by decide)]
    exact State.mode_of_governing hg
  refine ⟨(deliver_raise_get _ _ _ _ _ (by decide)).trans short,
    (deliver_raise_get _ _ _ _ _ (by decide)).trans ceiling,
    (deliver_raise_get _ _ _ _ _ (by decide)).trans seen, ?_⟩
  rw [deliver_intake, State.raise_intake _ _ _ awake mode hr, State.paceShown_record]
  rfl

end Sys2Proof.Machine
end

section
/-! O2: every command answers a next state, but the three whose list is no happening of the device. -/

namespace Sys2Proof.Machine

/-- An outcome that is a next state. -/
def Completes (o : Out) : Prop := ∃ t, o = .next t

theorem completes_next (t : State) : Completes (.next t) := ⟨t, rfl⟩

theorem completes_run (s t : State) : Completes (run s t) := ⟨_, rfl⟩

theorem completes_ite {c : Prop} [Decidable c] {a b : Out} (ha : Completes a) (hb : Completes b) :
    Completes (if c then a else b) := by
  split
  · exact ha
  · exact hb

/-- A command that waits for the end of a reset completes in and out of it (R47). -/
theorem completes_live (s : State) (k : State → State) : Completes (live s k) :=
  completes_ite (completes_run _ _) (completes_next _)

/-! The commands whose meaning looks at the reset itself (R47). -/

theorem completes_endpointReset (perst : Bool) (s : State) : Completes (exec (.endpointReset perst) s) :=
  completes_ite (completes_next _) (completes_ite (completes_run _ _) (completes_next _))

theorem completes_perstNRelease (s : State) : Completes (exec .perstNRelease s) :=
  completes_ite (completes_next _) (completes_run _ _)

theorem completes_tamperInput (n : Fin 2) (low : Bool) (s : State) : Completes (exec (.tamperInput n low) s) :=
  completes_ite (completes_next _) (completes_ite (completes_next _) (completes_run _ _))

theorem completes_wakeComplete (avs : Bool) (late : BitVec 16) (ms : BitVec 32) (ns : BitVec 18) (s : State) :
    Completes (exec (.wakeComplete avs late ms ns) s) :=
  completes_ite (completes_run _ _) (completes_next _)

theorem completes_resetEnd (pins : BitVec 3) (s : State) : Completes (exec (.resetEnd pins) s) :=
  completes_ite (completes_next _) (completes_ite (completes_next _) (completes_next _))

/-! The commands of a list with one entry for each meter, sensor or rail (R69, R737, R739). -/

theorem completes_paceWindowEnd {counts : List Nat} (h : counts.length = 64) (s : State) :
    Completes (exec (.paceWindowEnd counts) s) := by
  rw [exec_paceWindowEnd, execPaceWindowEnd, if_neg (not_not.mpr h)]
  exact completes_live _ _

theorem completes_tempSample {ts : List (BitVec 12)} (h : ts.length = 16) (s : State) :
    Completes (exec (.tempSample ts) s) := by
  rw [exec_tempSample, execTempSample, if_neg (not_not.mpr h)]
  exact completes_live _ _

theorem completes_railSample {mv : List (BitVec 12)} (h : mv.length = 7) (settled : Bool) (s : State) :
    Completes (exec (.railSample mv settled) s) := by
  rw [exec_railSample, execRailSample, if_neg (not_not.mpr h)]
  exact completes_live _ _

/-- The commands above have their own lemmas, three act alike in and out of a reset, and all others are `live`. Where the
meaning names the written word with a `let`, it is unfolded first, so that the `live` below it shows. -/
theorem completes_of_wf (c : Instr) (s : State) (h : c.wf = true) : Completes (exec c s) := by
  cases c with
  | paceWindowEnd counts => exact completes_paceWindowEnd (of_decide_eq_true h) s
  | tempSample ts => exact completes_tempSample (of_decide_eq_true h) s
  | railSample mv settled => exact completes_railSample (of_decide_eq_true h) settled s
  | coldResetSource | devResetN | vbattOutOfRange => exact completes_next _
  | endpointReset perst => exact completes_endpointReset perst s
  | perstNRelease => exact completes_perstNRelease s
  | tamperInput n low => exact completes_tamperInput n low s
  | wakeComplete avs late ms ns => exact completes_wakeComplete avs late ms ns s
  | resetEnd pins => exact completes_resetEnd pins s
  | fence | release | memIndirectRead | memIndirectWrite | synGo | synEn | freqMeterGo | adjStep | adjSlew | lbtArm
  | timerClaim | timerRun | btGo | bitslip | inj | eyeScanGo =>
    dsimp only [exec, execFence, execRelease, execMemIndirectRead, execMemIndirectWrite, execSynGo, execSynEn,
      execFreqMeterGo, execAdjStep, execAdjSlew, execLbtArm, execTimerClaim, execTimerRun, execBtGo, execBitslip,
      execInj, execEyeScanGo]
    exact completes_live _ _
  | _ =>
    dsimp only [exec]
    exact completes_live _ _

/-- Settles O2: a well-formed command completes by its own case, and a command that faults is therefore not well
formed. -/
theorem wellFormedCommandsComplete : Obligations.WellFormedCommandsComplete := by
  unfold Obligations.WellFormedCommandsComplete
  refine ⟨completes_of_wf, fun s => ⟨fun _ h => if_pos h, fun _ h => if_pos h, fun _ _ h => if_pos h,
    fun c f hf => ?_⟩⟩
  by_contra hw
  obtain ⟨t, ht⟩ := completes_of_wf c s (Bool.eq_true_of_not_eq_false hw)
  cases hf.symm.trans ht

end Sys2Proof.Machine
end

section
/-! O11: an access of the fabric control master (R113 to R115) and its hold in staged release (R692). -/

namespace Sys2Proof.Machine

/-! The end of an access (Table FB-3). -/

/-- The answer to the array is an output: only BUSY, and ERRS of an access that fails, are cells. -/
theorem State.fcmEnd_get (s : State) (data status : Nat) (g : Field) (j : Nat) :
    (s.fcmEnd data status).get g j =
      (if status = 0 then s.put FB_FCM.BUSY 0 else (s.put FB_FCM.BUSY 0).count FB_FCM.ERRS 1).get g j := by
  unfold State.fcmEnd
  extract_lets t u
  by_cases h : u.plotRuns 0 = true
  · rw [if_pos h, State.emit_get]
  · rw [if_neg h]

theorem State.fcmEnd_busy (s : State) (data status : Nat) : (s.fcmEnd data status).get FB_FCM.BUSY = 0 := by
  rw [State.fcmEnd_get]
  split
  · exact State.get_put_self ..
  · rw [State.get_count_ne _ _ (by decide)]
    exact State.get_put_self ..

/-- An access that ends in another status than 0 counts one error (R115). -/
theorem State.fcmEnd_errs (s : State) (data : Nat) {status : Nat} (h : status ≠ 0) :
    (s.fcmEnd data status).get FB_FCM.ERRS = min (s.get FB_FCM.ERRS + 1) (2 ^ FB_FCM.ERRS.width - 1) := by
  rw [State.fcmEnd_get, if_neg h, State.get_count_self, State.get_put_ne _ _ (by decide)]

/-! What a request leads to. -/

section Access

variable {s : State} {addr : Word}

/-- While plot 0 does not run, a request is not taken up (log entry 66). -/
theorem exec_fcmAccess_stopped (w : Option Word) (ha : Awake s) (hp : s.plotRuns 0 = false) :
    exec (.fcmAccess addr w) s = run s s := by
  rw [exec_fcmAccess, execFcmAccess, live_awake _ ha, run]
  simp [hp]

variable (ha : Awake s) (hp : s.plotRuns 0 = true) (hb : s.get FB_FCM.BUSY = 0)
include ha hp hb

/-- An address outside BAR0's windows or off a 4-byte boundary ends the access with status 2 (R113, R115). -/
theorem exec_fcmAccess_badAddress (w : Option Word) (h : 0x10000000 ≤ addr.toNat ∨ addr.toNat % 4 ≠ 0) :
    exec (.fcmAccess addr w) s = run s (s.fcmEnd 0 2) := by
  rw [exec_fcmAccess, execFcmAccess, live_awake _ ha, run]
  simp [hp, State.flag, hb, h]

variable (hw : addr.toNat < 0x10000000) (h4 : addr.toNat % 4 = 0)
include hw h4

theorem exec_fcmAccess_read : exec (.fcmAccess addr none) s = run s (s.fcmRead addr.toNat) := by
  rw [exec_fcmAccess, execFcmAccess, live_awake _ ha, run]
  simp [hp, State.flag, hb, Nat.not_le.mpr hw, h4]

/-- A write is made with the FABRIC identity, but in step 1 of staged release it waits (R692). -/
theorem exec_fcmAccess_write (v : Word) :
    exec (.fcmAccess addr (some v)) s = run s
      (if s.get REL_STEP = 1 then (s.setList FCM_HELD [addr.toNat, v.toNat]).put FB_FCM.BUSY 1
        else s.fcmWrite addr.toNat v.toNat) := by
  rw [exec_fcmAccess, execFcmAccess, live_awake _ ha, run]
  simp [hp, State.flag, hb, Nat.not_le.mpr hw, h4]

end Access

/-- Settles O11: a request by the state of plot 0, then by its address, then by its direction and the release step. -/
theorem fabricControlMasterAnswers : Obligations.FabricControlMasterAnswers := by
  unfold Obligations.FabricControlMasterAnswers
  intro s addr w ha
  refine ⟨exec_fcmAccess_stopped w ha, fun hp hb h => ?badAddress, fun v hp hb hw h4 hr => ?heldWrite,
    fun v hp hb hw h4 hr => ?write, exec_fcmAccess_read ha⟩
  case badAddress =>
    refine ⟨_, exec_fcmAccess_badAddress ha hp hb w h, ?_, ?_⟩
    · rw [deliver_get _ _ (by decide), State.fcmEnd_busy]
    · rw [deliver_get _ _ (by decide), State.fcmEnd_errs _ _ (by decide)]
  case heldWrite =>
    refine ⟨_, exec_fcmAccess_write ha hp hb hw h4 v, ?_, ?_⟩ <;> rw [if_pos hr]
    · rw [deliver_get _ _ (by decide)]
      exact State.get_put_self ..
    · rw [deliver_list, State.put_list, State.list_setList_self]
  case write => rw [exec_fcmAccess_write ha hp hb hw h4, if_neg hr]

end Sys2Proof.Machine
end

section
/-! O14: an operation offered at an array queue port (R117, R187, R203, R212), and the regrant of parked ones (R204). -/

namespace Sys2Proof.Machine

/-- The operation that port p asks of the arbiter; a producer's never takes ANY (Table QM-4). -/
def State.portOp (s : State) (p op lane : Nat) (any block : Bool) (data : Nat) : QOp :=
  { who := p, queue := s.get QM_PCFG.QUEUE p, op := op, lane := lane, any := any && s.flag QM_PCFG.ROLE p,
    block := block, data := data }

section Offer

variable {s : State} {p : Nat} (hi : s.get QP_STATE p = 0)
include hi

/-- In RUN with the gate open, an idle port's operation goes to the arbiter. -/
theorem State.portOffer_granted (op lane : Nat) (any block : Bool) (data : Nat) (hm : s.mode = mRUN)
    (hg : s.get FB_PSTAT.STATE (portPlot p) ≤ pFENCING) :
    s.portOffer p op lane any block data = s.portGrant (s.portOp p op lane any block data) := by
  simp [State.portOffer, State.portOp, hi, hm, Nat.not_lt.mpr hg, mRUN, mHOLD]

/-- In HOLD it is held at the port, behind those that arrived before it (R212). -/
theorem State.portOffer_held (op lane : Nat) (any block : Bool) (data : Nat) (hm : s.mode = mHOLD) :
    s.portOffer p op lane any block data =
      (s.put QP_STATE 1 p).enq QP_HELD (s.portOp p op lane any block data).code := by
  simp [State.portOffer, State.portOp, hi, hm]

end Offer

section Command

variable {s : State} {p : Fin 64} {c : Instr} {op lane : Nat} {any block : Bool} {data : Nat}
  (hc : exec c s = live s fun s => s.portOffer p op lane any block data) (ha : Awake s) (hi : s.get QP_STATE p = 0)
include hc ha hi

/-- A command that offers an operation in RUN ends as the arbiter's grant of it. -/
theorem exec_of_portOffer_granted (hm : s.mode = mRUN) (hg : s.get FB_PSTAT.STATE (portPlot p) ≤ pFENCING) :
    exec c s = run s (s.portGrant (s.portOp p op lane any block data)) := by
  rw [hc, live_awake _ ha, State.portOffer_granted hi _ _ _ _ _ hm hg, run]

/-- A command that offers an operation in HOLD, whichever it is, leaves it at the port without an ACK. -/
theorem answers_of_portOffer_held (hm : s.mode = mHOLD) : Answers c s fun t => t.get QP_STATE p = 1 ∧
    t.list QP_HELD = s.list QP_HELD ++ [(s.portOp p op lane any block data).code] ∧ t.mem = s.mem := by
  have notMessage : QP_STATE.key p ≠ MSI_PEND.key 0 := by
    simp only [Field.key, QP_STATE, MSI_PEND]
    omega
  refine answers_live hc ha ⟨?_, ?_, ?_⟩ <;> rw [State.portOffer_held hi _ _ _ _ _ hm]
  · rw [deliver_get _ _ notMessage, State.enq_get]
    exact State.get_put_self ..
  · rw [deliver_list, State.list_enq_self, State.put_list]
  · rw [deliver_mem, State.enq_mem, State.put_mem]

end Command

/-- Without parked operations there is nothing to grant again. -/
theorem State.regrantAll_nil {s : State} {q : Nat} (h : s.list PARKED q = []) : s.regrantAll q = s := by
  rw [State.regrantAll, h]
  rfl

theorem exec_parkedOpRegrant_awake {s : State} (ha : Awake s) (q : Fin 256) :
    exec (.parkedOpRegrant q) s = run s (s.regrantAll q) := by
  rw [exec_parkedOpRegrant, execParkedOpRegrant, live_awake _ ha, run]

/-- Settles O14: each of the ten commands offers its operation, which RUN grants and HOLD holds. -/
theorem queueOperationsReachTheArbiter : Obligations.QueueOperationsReachTheArbiter := by
  unfold Obligations.QueueOperationsReachTheArbiter
  intro s p lane any block data n ha
  refine ⟨fun hi hm hg => ?granted, fun hi hm => ?held, exec_parkedOpRegrant_awake ha, fun q hq => ?unparked⟩
  case granted =>
    have granted {c : Instr} {op : Nat} {any block : Bool} {data : Nat}
        (hc : exec c s = live s fun s => s.portOffer p op lane.toNat any block data) :=
      exec_of_portOffer_granted hc ha hi hm hg
    exact ⟨granted (exec_push ..), granted (exec_qmOpen ..), granted (exec_close ..), granted (exec_qmAbort ..),
      granted (exec_pop ..), granted (exec_peek ..), granted (exec_mark ..), granted (exec_rewind ..),
      granted (exec_qmRelease ..), granted (exec_occ ..)⟩
  case held =>
    obtain ⟨t, ht, state, queue, mem⟩ := answers_of_portOffer_held (exec_push p lane block data s) ha hi hm
    exact ⟨t, ht, state, by rw [queue, List.length_append, List.length_singleton], mem⟩
  case unparked => rw [exec_parkedOpRegrant_awake ha, State.regrantAll_nil hq]

end Sys2Proof.Machine
end

section
/-! O12: what a block-memory port, the indirect access and the scrubbers do to the words they address, and that they
leave every other word as it is. -/

namespace Sys2Proof.Machine

/-! Words under cells: what a word reads as rests on three cells beside the memory itself. -/

/-- Everything but the cells that tell which words a warm reset has left undefined (Table DV-14). -/
def Scope.defined : Scope :=
  ⟨{k | k ≠ MEM_UNDEF.key 0 ∧ k ≠ MEM_EPOCH.key 0 ∧ ∀ n, k ≠ BLK_EPOCH.key n}, Set.univ, True⟩

theorem Scope.mem_defined {k : Nat} (h : k ≠ MEM_UNDEF.key 0 ∧ k ≠ MEM_EPOCH.key 0 ∧ ∀ n, k ≠ BLK_EPOCH.key n) :
    k ∈ Scope.defined.cells := h

/-- Control registers lie below the internal units. -/
theorem Scope.mem_defined_of_lt {f : Field} {i : Nat} (h : f.key i < 32 * 0x500000) :
    f.key i ∈ Scope.defined.cells := by
  refine ⟨?_, ?_, fun n => ?_⟩ <;> simp only [MEM_UNDEF, MEM_EPOCH, BLK_EPOCH, Field.key] at * <;> omega

theorem State.Within.get_defined {s t : State} (h : s.Within .defined t) {g : Field} {j : Nat}
    (hg : g.key j ∉ Scope.defined.cells) : t.get g j = s.get g j := by
  refine h.get hg (fun he => hg (he ▸ ?_)) fun _ => ⟨fun he => hg (he ▸ ?_), fun he => hg (he ▸ ?_)⟩
  all_goals
    refine Scope.mem_defined ⟨by decide, by decide, fun n => ?_⟩
    simp only [MSI_PEND, EV_DROP.COUNT, DROP_EPISODE, BLK_EPOCH, Field.key]
    omega

theorem State.Within.load {s t : State} (h : s.Within .defined t) (r : Region) (a : Nat) : t.load r a = s.load r a := by
  have undef : t.get MEM_UNDEF = s.get MEM_UNDEF := h.get_defined fun hk => hk.1 rfl
  have epoch : t.get MEM_EPOCH = s.get MEM_EPOCH := h.get_defined fun hk => hk.2.1 rfl
  have filled (n : Nat) : t.get BLK_EPOCH n = s.get BLK_EPOCH n := h.get_defined fun hk => hk.2.2 n rfl
  have blank : t.blank r a = s.blank r a := by cases r <;> simp [State.blank, State.filled, undef, epoch, filled]
  simp only [State.load, h.fixed.1, blank, epoch]

/-- A write leaves every word at another place alone. -/
theorem State.load_store_apart (s : State) {r r' : Region} {a a' : Nat} (v : Nat) (h : r'.base + a' ≠ r.base + a) :
    (s.store r a v).load r' a' = s.load r' a' := by
  have blank : (s.store r a v).blank r' a' = s.blank r' a' := State.blank_cells rfl r' a'
  have word : (s.store r a v).mem.get (r'.base + a') (s.blank r' a') = s.mem.get (r'.base + a') (s.blank r' a') :=
    Store.get_set_ne _ _ _ _ h
  simp only [State.load, blank, word]
  rfl

/-! The operations on a word of a block memory (R142, R148 to R152, R157, R558). -/

section Words

variable {s : State} {m a : Nat}

theorem State.journalMem_off (h : s.journaling = false) (data chk : Nat) : s.journalMem m a data chk = s := by
  simp [State.journalMem, h]

theorem State.memPut_eq (h : s.journaling = false) (data chk : Nat) :
    s.memPut m a data chk = s.store .block (4096 * m + a) (data % 2 ^ 64 + 2 ^ 64 * (chk % 256)) :=
  State.journalMem_off (s := s.store .block (4096 * m + a) _) h _ _

theorem State.memData_memPut (h : s.journaling = false) (data chk : Nat) :
    (s.memPut m a data chk).memData m a = data % 2 ^ 64 := by
  rw [State.memPut_eq h, State.memData, State.load_store_self]
  omega

theorem State.memChk_memPut (h : s.journaling = false) (data chk : Nat) :
    (s.memPut m a data chk).memChk m a = chk % 256 := by
  rw [State.memPut_eq h, State.memChk, State.load_store_self]
  omega

/-- Without an armed injection a write stores what it is given. -/
theorem State.memWrite_plain (h : s.get FB_MINJ.MODE = 0) (data chk : Nat) :
    s.memWrite m a data chk = s.memPut m a data chk := by
  simp [State.memWrite, h]

/-- Without ECC a word is read as it is stored (R148). -/
theorem State.memRead_plain (h : s.get FB_MCFG.ECC_EN m = 0) (src : Nat) (wb : Bool) : s.memRead m a src wb =
    (⟨s.memData m a, s.memChk m a, .clean, syndrome (s.memData m a) (s.memChk m a)⟩, s) := by
  simp [State.memRead, State.flag, h]

/-! What they leave: every word at another place. -/

theorem State.journalWords_defined (s : State) (ws : List Nat) : s.Within .defined (s.journalWords ws) := by
  have key {f : Field} (h : f.key 0 < 32 * 0x500000) : f.key 0 ∈ Scope.defined.cells := Scope.mem_defined_of_lt h
  have opened : JOPEN.key 0 ∈ Scope.defined.cells := by
    refine Scope.mem_defined ⟨by decide, by decide, fun n => ?_⟩
    simp only [JOPEN, BLK_EPOCH, Field.key]
    omega
  have dropped : s.Within .defined s.dropJournal :=
    .put (.put (.setList .refl trivial) (key (by decide))) opened
  have broken : s.Within .defined (s.dropJournal.setSync 3) :=
    .branch (fun _ => dropped) fun _ => .put (.raise (.put dropped (key (by decide))) trivial) (key (by decide))
  unfold State.journalWords
  exact .branch (fun _ => .put (.raise broken trivial) (key (by decide)))
    fun _ => .put (.put (.setList .refl trivial) (key (by decide))) opened

theorem State.memPut_load {r : Region} {b : Nat} (h : r.base + b ≠ Region.base .block + (4096 * m + a))
    (data chk : Nat) : (s.memPut m a data chk).load r b = s.load r b := by
  unfold State.memPut State.journalMem
  split
  · rw [(State.journalWords_defined _ _).load, State.load_store_apart _ _ h]
  · exact State.load_store_apart _ _ h

theorem State.memWrite_load {r : Region} {b : Nat} (h : r.base + b ≠ Region.base .block + (4096 * m + a))
    (data chk : Nat) : (s.memWrite m a data chk).load r b = s.load r b := by
  have disarmed (u : State) : u.Within .defined ((u.put FB_MINJ.MODE 0).raise Rc.FB_MEM_INJECT m) :=
    .raise (.put .refl (Scope.mem_defined_of_lt (by decide))) trivial
  unfold State.memWrite
  dsimp only
  split
  · rw [(disarmed _).load, State.memPut_load h]
  · exact State.memPut_load h _ _

theorem State.memErr_defined (hm : m < 4096) (synd src : Nat) (ue : Bool) :
    s.Within .defined (s.memErr m a synd src ue) := by
  have register {u : State} {f : Field} {i v : Nat} (hu : s.Within .defined u) (h : f.key i < 32 * 0x500000) :
      s.Within .defined (u.put f v i) := hu.put (Scope.mem_defined_of_lt h)
  have last : LAST_UE.key m ∈ Scope.defined.cells := by
    refine Scope.mem_defined ⟨?_, ?_, fun n => ?_⟩ <;>
      simp only [LAST_UE, MEM_UNDEF, MEM_EPOCH, BLK_EPOCH, Field.key] <;> omega
  unfold State.memErr
  extract_lets counted summed captured detail raised
  have captured_within : s.Within .defined captured := by
    refine register (register (register (register (register (register (register .refl ?_) ?_) ?_) ?_) ?_) ?_) ?_
    all_goals
      cases ue <;> simp [FB_MECC.UE, FB_MECC.CE, BV_ERRSUM.COUNT, FB_MEADDR.WADDR, FB_MEADDR.SYND, FB_MEADDR.SRC,
        FB_MEADDR.UE, FB_MEADDR.VALID, Field.key] <;> omega
  have raised_within : s.Within .defined raised :=
    register (register captured_within (by decide)) (by decide)
  exact .branch (fun _ => .branch (fun _ => raised_within) fun _ => .raise (.put raised_within last) trivial)
    fun _ => .branch (fun _ => captured_within) fun _ => .raise (register captured_within (by decide)) trivial

/-- A checked read without write-back changes cells at most. -/
theorem State.memRead_defined (hm : m < 4096) (src : Nat) : s.Within .defined (s.memRead m a src false).2 := by
  unfold State.memRead
  dsimp only
  split
  · split <;> simp only [Bool.false_eq_true, if_false]
    · exact .refl
    · exact State.memErr_defined hm ..
    · exact State.memErr_defined hm ..
  · exact .refl

end Words

/-! Ports (R139 to R143, R151, R158). -/

section Ports

variable {s : State}

theorem State.portWidth_cases (s : State) (m port : Nat) : s.portWidth m port = 8 ∨ s.portWidth m port = 16 ∨
    s.portWidth m port = 32 ∨ s.portWidth m port = 64 ∨ s.portWidth m port = 72 := by
  unfold State.portWidth memWidth
  split <;> simp

/-- A port address names a word below 4,096 of a memory at most 127 beyond the port's own. -/
theorem State.portTarget_bounds (s : State) {m addr : Nat} (port : Nat) (hm : m < 2048) (ha : addr < 2 ^ 19) :
    (s.portTarget m port addr).1 < 4096 ∧ (s.portTarget m port addr).2.1 < 4096 := by
  unfold State.portTarget
  extract_lets w depth members a
  have member : addr / depth % members ≤ addr / depth := Nat.mod_le ..
  have hw : w = 8 ∨ w = 16 ∨ w = 32 ∨ w = 64 ∨ w = 72 := s.portWidth_cases m port
  have depth_eq : depth = if w = 72 then 4096 else 32768 * 8 / w := rfl
  have a_eq : a = addr % depth := rfl
  clear_value w depth members a
  rcases hw with rfl | rfl | rfl | rfl | rfl <;> norm_num at depth_eq ⊢ <;> subst depth_eq <;> omega

/-- The 64-bit port A of a memory that stands alone names one word as a whole (R142, R158). -/
theorem State.portTarget_alone {m : Nat} (hc : s.get FB_MCFG.CASC m = 0) (hw : s.get FB_MCFG.WIDTH_A m = 3)
    (addr : Nat) : s.portTarget m 0 addr = (m, addr % 4096, 0) := by
  simp [State.portTarget, State.portWidth, memWidth, hc, hw, Nat.mod_one]

theorem State.portWidth_full {m : Nat} (hw : s.get FB_MCFG.WIDTH_A m = 3) : s.portWidth m 0 = 64 := by
  simp [State.portWidth, memWidth, hw]

/-- The low bits of a number, summed one by one. -/
theorem sum_bits (v n : Nat) : ((List.range n).map fun i => if bit v i then 2 ^ i else 0).sum = v % 2 ^ n := by
  induction n with
  | zero => simp [Nat.mod_one]
  | succ n ih =>
    rw [List.range_succ, List.map_append, List.sum_append, ih, Nat.mod_pow_succ]
    rcases Nat.mod_two_eq_zero_or_one (v / 2 ^ n) with h | h <;> simp [bit, h]

theorem bit_ones {i n : Nat} (h : i < n) : bit (2 ^ n - 1) i = true := by
  have := Nat.testBit_two_pow_sub_one n i
  simpa [Nat.testBit_eq_decide_div_mod_eq, bit, h] using this

/-- With all byte enables a 64-bit port word replaces the stored word (R143). -/
theorem mergeBits_full (old new : Nat) : mergeBits old new (beMask 64 255) 0 = new % 2 ^ 64 := by
  rw [← sum_bits, mergeBits, show beMask 64 255 = 2 ^ 64 - 1 by decide]
  refine congrArg List.sum (List.map_congr_left fun i hi => ?_)
  have ones : bit (2 ^ 64 - 1) (i - 0) = true := bit_ones (List.mem_range.mp hi)
  rw [ones, decide_eq_true (Nat.zero_le i), Nat.sub_zero]
  simp

theorem State.portRead_alone {m addr : Nat} (hc : s.get FB_MCFG.CASC m = 0) (hw : s.get FB_MCFG.WIDTH_A m = 3)
    (he : s.get FB_MCFG.ECC_EN m = 0) : s.portRead m 0 addr =
      (s.put PORT_RDATA (s.memData m (addr % 4096)) (2 * m)).portAck m 0 (s.memData m (addr % 4096)) .clean := by
  have whole : bits (s.memData m (addr % 4096)) 0 64 = s.memData m (addr % 4096) := by
    simp [bits, State.memData]
  simp [State.portRead, State.portTarget_alone hc hw, State.memRead_plain he, State.portWidth_full hw, portBits, whole]

theorem State.portWrite_alone {m : Nat} (addr data : Nat) (hc : s.get FB_MCFG.CASC m = 0)
    (hw : s.get FB_MCFG.WIDTH_A m = 3) (hi : s.get FB_MINJ.MODE = 0) : ∃ shown, s.portWrite m 0 addr 255 data =
      (s.memPut m (addr % 4096) (data % 2 ^ 64) (eccOf (data % 2 ^ 64))).portAck m 0 shown .clean := by
  simp only [State.portWrite, State.portTarget_alone hc hw, State.portWidth_full hw, mergeBits_full,
    State.memWrite_plain hi]
  exact ⟨_, (if_neg (by decide)).trans ((if_neg (by decide)).trans (if_neg (by simp)))⟩

/-- A port write leaves every word at another place than the one its address names. -/
theorem State.portWrite_load {m port addr : Nat} (hm : m < 2048) (ha : addr < 2 ^ 19) (be data : Nat) {r : Region}
    {b : Nat} (h : r.base + b ≠
      Region.base .block + (4096 * (s.portTarget m port addr).1 + (s.portTarget m port addr).2.1)) :
    (s.portWrite m port addr be data).load r b = s.load r b := by
  obtain ⟨hmem, -⟩ := s.portTarget_bounds port hm ha
  have written (u : State) (d c x : Nat) (k : EccKind) : ((u.memWrite (s.portTarget m port addr).1
      (s.portTarget m port addr).2.1 d c).portAck m port x k).load r b = u.load r b := State.memWrite_load h d c
  have checked := (State.memRead_defined (s := s) (a := (s.portTarget m port addr).2.1) hmem port).load r b
  unfold State.portWrite
  dsimp only
  split
  · exact written ..
  · split
    · rfl
    · split
      · split
        · exact checked
        · exact (written ..).trans checked
      · exact written ..

end Ports

/-! The commands. -/

section Commands

variable {s : State} {m : Fin 2048}

theorem exec_memPortRead_used (ha : Awake s) (hu : s.portUsed m = true) (port : Fin 2) (addr : BitVec 19) :
    exec (.memPortRead m port addr) s = run s (s.portRead m port addr.toNat) := by
  rw [exec_memPortRead, execMemPortRead, live_awake _ ha, if_pos hu, run]

/-- In step 1 of staged release a write is held at its port (R692). -/
theorem exec_memPortWrite_held (ha : Awake s) (hu : s.portUsed m = true) (hr : s.get REL_STEP = 1) (port : Fin 2)
    (addr : BitVec 19) (be : BitVec 8) (data : BitVec 72) : exec (.memPortWrite m port addr be data) s =
      run s (s.setList MEM_HELD [addr.toNat, be.toNat, data.toNat] (2 * m + port)) := by
  rw [exec_memPortWrite, execMemPortWrite, live_awake _ ha, hu, if_neg (by simp), if_pos hr, run]

theorem exec_memPortWrite_used (ha : Awake s) (hu : s.portUsed m = true) (hr : s.get REL_STEP ≠ 1) (port : Fin 2)
    (addr : BitVec 19) (be : BitVec 8) (data : BitVec 72) : exec (.memPortWrite m port addr be data) s =
      run s (s.portWrite m port addr.toNat be.toNat data.toNat) := by
  rw [exec_memPortWrite, execMemPortWrite, live_awake _ ha, hu, if_neg (by simp), if_neg hr, run]

@[simp] theorem deliver_memData (u t : State) (m a : Nat) : (deliver u t).memData m a = t.memData m a := by
  simp [State.memData]

@[simp] theorem deliver_memChk (u t : State) (m a : Nat) : (deliver u t).memChk m a = t.memChk m a := by
  simp [State.memChk]

theorem memPortRead_alone (ha : Awake s) (hu : s.portUsed m = true) (hc : s.get FB_MCFG.CASC m = 0)
    (hw : s.get FB_MCFG.WIDTH_A m = 3) (he : s.get FB_MCFG.ECC_EN m = 0) (addr : BitVec 19) :
    Answers (.memPortRead m 0 addr) s fun t =>
      t.get PORT_RDATA (2 * m) = s.memData m (addr.toNat % 4096) ∧ t.mem = s.mem := by
  have apart : PORT_RDATA.key (2 * m) ≠ MSI_PEND.key 0 := by
    simp only [PORT_RDATA, MSI_PEND, Field.key]
    omega
  have data : s.memData m (addr.toNat % 4096) < 2 ^ PORT_RDATA.width :=
    (Nat.mod_lt _ (by decide)).trans (by decide : 2 ^ 64 < 2 ^ PORT_RDATA.width)
  refine ⟨_, (exec_memPortRead_used ha hu 0 addr).trans (congrArg (run s) (State.portRead_alone hc hw he)), ?_, ?_⟩
  · rw [deliver_get _ _ apart, State.portAck, State.emit_get, State.get_put_self, Nat.mod_eq_of_lt data]
  · rw [deliver_mem, State.portAck, State.emit_mem, State.put_mem]

theorem memPortWrite_alone (ha : Awake s) (hi : s.get FB_MINJ.MODE = 0) (hj : s.journaling = false)
    (hu : s.portUsed m = true) (hc : s.get FB_MCFG.CASC m = 0) (hw : s.get FB_MCFG.WIDTH_A m = 3)
    (hr : s.get REL_STEP ≠ 1) (addr : BitVec 19) (data : BitVec 72) :
    Answers (.memPortWrite m 0 addr 255 data) s fun t =>
      t.memData m (addr.toNat % 4096) = data.toNat % 2 ^ 64 ∧
      t.memChk m (addr.toNat % 4096) = eccOf (data.toNat % 2 ^ 64) % 256 := by
  obtain ⟨shown, stored⟩ := State.portWrite_alone addr.toNat data.toNat hc hw hi
  refine ⟨_, (exec_memPortWrite_used ha hu hr 0 addr 255 data).trans (congrArg (run s) stored), ?_, ?_⟩
  · rw [deliver_memData]
    exact (State.memData_memPut hj _ _).trans (Nat.mod_mod ..)
  · rw [deliver_memChk]
    exact State.memChk_memPut hj _ _

theorem memPortWrite_elsewhere (ha : Awake s) (hu : s.portUsed m = true) (port : Fin 2) (addr : BitVec 19)
    (be : BitVec 8) (data : BitVec 72) {r : Region} {a : Nat} (hlt : a < 2 ^ 32) (h : r ≠ .block ∨
      a ≠ 4096 * (s.portTarget m port addr.toNat).1 + (s.portTarget m port addr.toNat).2.1) :
    Answers (.memPortWrite m port addr be data) s fun t => t.load r a = s.load r a := by
  obtain ⟨hmem, hword⟩ := s.portTarget_bounds (m := m) port m.isLt addr.isLt
  by_cases hr : s.get REL_STEP = 1
  · exact ⟨_, exec_memPortWrite_held ha hu hr port addr be data, deliver_load ..⟩
  · exact ⟨_, exec_memPortWrite_used ha hu hr port addr be data, (deliver_load ..).trans
      (State.portWrite_load m.isLt addr.isLt _ _ (Region.key_ne hlt (by omega) h))⟩

theorem memPortWrite_waits (ha : Awake s) (hu : s.portUsed m = true) (hr : s.get REL_STEP = 1) (port : Fin 2)
    (addr : BitVec 19) (be : BitVec 8) (data : BitVec 72) : Answers (.memPortWrite m port addr be data) s fun t =>
      t.mem = s.mem ∧ t.list MEM_HELD (2 * m + port) = [addr.toNat, be.toNat, data.toNat] := by
  refine ⟨_, exec_memPortWrite_held ha hu hr port addr be data, ?_, ?_⟩
  · rw [deliver_mem, State.setList_mem]
  · rw [deliver_list, State.list_setList_self]

/-! The indirect access (R156). -/

theorem setBit_of_bit {w i : Nat} (h : bit w i = true) : setBit w i = w := by
  refine Nat.eq_of_testBit_eq fun j => ?_
  have hi : w.testBit i = true := by simpa [Nat.testBit_eq_decide_div_mod_eq, bit] using h
  rw [setBit, Nat.testBit_or, Nat.testBit_two_pow]
  by_cases hj : i = j
  · simp [← hj, hi]
  · simp [hj]

theorem clrBit_of_bit {w i : Nat} (h : bit w i = false) : clrBit w i = w := by
  simp [clrBit, h]

/-- The state in which a raw write stores its word. -/
def State.memAccBegun (s : State) : State := (s.put FB_MEMASTAT.CE 0).put FB_MEMASTAT.UE 0

theorem State.memAccBegun_get (s : State) {g : Field} {j : Nat}
    (h : g.key j ∉ cellsAt [FB_MEMASTAT.CE, FB_MEMASTAT.UE]) : s.memAccBegun.get g j = s.get g j := by
  simp only [cellsAt, List.map_cons, List.map_nil, List.mem_cons, List.not_mem_nil, or_false, not_or] at h
  rw [State.memAccBegun, State.get_put_ne _ _ h.2, State.get_put_ne _ _ h.1]

/-- The state in which a raw read has loaded word a of memory m into the data and check registers. -/
def State.memAccShown (s : State) (m a : Nat) : State :=
  ((((s.put FB_MDATA_LO.DATA (s.memData m a % 2 ^ 32)).put FB_MDATA_HI.DATA (s.memData m a / 2 ^ 32)).put FB_MCHK.CHK
    (s.memChk m a)).put FB_MCHK.SYND (syndrome (s.memData m a) (s.memChk m a))).memAccBegun

theorem State.memAccShown_data (s : State) (m a : Nat) : (s.memAccShown m a).get FB_MDATA_LO.DATA +
    2 ^ 32 * (s.memAccShown m a).get FB_MDATA_HI.DATA = s.memData m a := by
  have data : s.memData m a < 2 ^ 64 := Nat.mod_lt _ (by decide)
  have low : (s.memAccShown m a).get FB_MDATA_LO.DATA = s.memData m a % 2 ^ 32 % 2 ^ 32 := by
    rw [State.memAccShown, State.memAccBegun_get _ (by decide), State.get_put_ne _ _ (by decide),
      State.get_put_ne _ _ (by decide), State.get_put_ne _ _ (by decide), State.get_put_self]
    rfl
  have high : (s.memAccShown m a).get FB_MDATA_HI.DATA = s.memData m a / 2 ^ 32 % 2 ^ 32 := by
    rw [State.memAccShown, State.memAccBegun_get _ (by decide), State.get_put_ne _ _ (by decide),
      State.get_put_ne _ _ (by decide), State.get_put_self]
    rfl
  rw [low, high]
  omega

theorem State.memAccShown_chk (s : State) (m a : Nat) : (s.memAccShown m a).get FB_MCHK.CHK = s.memChk m a := by
  rw [State.memAccShown, State.memAccBegun_get _ (by decide), State.get_put_ne _ _ (by decide), State.get_put_self]
  exact Nat.mod_eq_of_lt (Nat.mod_lt _ (by decide))

theorem State.memAccShown_mem (s : State) (m a : Nat) : (s.memAccShown m a).mem = s.mem := by
  simp only [State.memAccShown, State.memAccBegun, State.put_mem]

section Indirect

variable {ms : Master} {a : Fin 4096} {w : Word} (hb : s.get FB_MEMASTAT.BUSY = 0)
  (ho : s.plotOpen (m / 32) = true) (hm : bits w.toNat 0 11 = m) (ha : bits w.toNat 12 12 = a)
  (raw : bit w.toNat 25 = true)
include hb ho hm ha raw

theorem wrMemAcc_rawWrite (hx : bit w.toNat 24 = true) : wrMemAcc ms w.toNat s =
    s.memAccBegun.memPut m a (s.get FB_MDATA_LO.DATA + 2 ^ 32 * s.get FB_MDATA_HI.DATA) (s.get FB_MCHK.CHK) := by
  have chk : s.memAccBegun.get FB_MCHK.CHK = s.get FB_MCHK.CHK := State.memAccBegun_get s (by decide)
  rw [← chk]
  simp only [wrMemAcc, State.flag, hb, ho, hm, ha, hx, raw]
  rfl

theorem wrMemAcc_rawRead (hx : bit w.toNat 24 = false) : wrMemAcc ms w.toNat s =
s.memAccShown m a := by
  simp only [wrMemAcc, State.flag, hb, ho, hm, ha, hx, raw]
  rfl

theorem exec_memIndirectWrite_raw (hw : Writes ms 0x40100 s) (hx : bit w.toNat 24 = true) :
    exec (.memIndirectWrite ms w) s = run s ((s.memAccBegun.memPut m a
      (s.get FB_MDATA_LO.DATA + 2 ^ 32 * s.get FB_MDATA_HI.DATA) (s.get FB_MCHK.CHK)).resend s 0x40100 w.toNat) := by
  rw [exec_memIndirectWrite, execMemIndirectWrite, setBit_of_bit hx, live_awake _ hw.1, State.onWrite_of hw,
    wrMemAcc_rawWrite hb ho hm ha raw hx, run]

theorem exec_memIndirectRead_raw (hw : Writes ms 0x40100 s) (hx : bit w.toNat 24 = false) :
    exec (.memIndirectRead ms w) s = run s ((s.memAccShown m a).resend s 0x40100 w.toNat) := by
  rw [exec_memIndirectRead, execMemIndirectRead, clrBit_of_bit hx, live_awake _ hw.1, State.onWrite_of hw,
    wrMemAcc_rawRead hb ho hm ha raw hx, run]

theorem memIndirectWrite_raw (hw : Writes ms 0x40100 s) (hx : bit w.toNat 24 = true) (hj : s.journaling = false) :
    Answers (.memIndirectWrite ms w) s fun t =>
      t.memData m a = (s.get FB_MDATA_LO.DATA + 2 ^ 32 * s.get FB_MDATA_HI.DATA) % 2 ^ 64 ∧
      t.memChk m a = s.get FB_MCHK.CHK % 256 ∧
      ∀ g b, Region.base g + b ≠ Region.base .block + 4096 * m + a → t.load g b = s.load g b := by
  have begun : s.Within .defined s.memAccBegun :=
    .put (.put .refl (Scope.mem_defined_of_lt (by decide))) (Scope.mem_defined_of_lt (by decide))
  have idle : s.memAccBegun.journaling = false := by
    unfold State.journaling State.flag at hj ⊢
    rwa [State.memAccBegun_get s (g := MI_CFG.EN) (by decide), State.memAccBegun_get s (g := MI_STAT.ROLE) (by decide),
      State.memAccBegun_get s (g := MI_STAT.SYNC) (by decide)]
  have after (u : State) : u.Within .defined (deliver s (u.resend s 0x40100 w.toNat)) :=
    (State.Within.refl.resend s _ _).deliver s
  refine ⟨_, exec_memIndirectWrite_raw hb ho hm ha raw hw hx, ?_, ?_, fun g b h => ?_⟩
  · exact (congrArg (· % 2 ^ 64) ((after _).load ..)).trans (State.memData_memPut idle _ _)
  · exact (congrArg (· / 2 ^ 64 % 256) ((after _).load ..)).trans (State.memChk_memPut idle _ _)
  · exact ((after _).load g b).trans ((State.memPut_load (by rwa [← Nat.add_assoc]) _ _).trans (begun.load g b))

theorem memIndirectRead_raw (hw : Writes ms 0x40100 s) (hx : bit w.toNat 24 = false) :
    Answers (.memIndirectRead ms w) s fun t =>
      t.get FB_MDATA_LO.DATA + 2 ^ 32 * t.get FB_MDATA_HI.DATA = s.memData m a ∧ t.get FB_MCHK.CHK = s.memChk m a ∧
      t.mem = s.mem := by
  refine ⟨_, exec_memIndirectRead_raw hb ho hm ha raw hw hx, ?_, ?_, ?_⟩
  · rw [deliver_get _ _ (by decide), deliver_get _ _ (by decide), State.resend_get _ _ _ _ (by decide),
      State.resend_get _ _ _ _ (by decide), State.memAccShown_data]
  · rw [deliver_get _ _ (by decide), State.resend_get _ _ _ _ (by decide), State.memAccShown_chk]
  · rw [deliver_mem, State.resend_mem, State.memAccShown_mem]

end Indirect

/-! The scrubbers (R153, R749, R750). -/

theorem exec_memScrubAccess_plain (ha : Awake s) (hm : s.mode = mRUN) (he : s.get FB_MCFG.ECC_EN m = 0) :
    exec (.memScrubAccess m) s = run s (s.put MSCRUB_AT ((s.get MSCRUB_AT m + 1) % 4096) m) := by
  rw [exec_memScrubAccess, execMemScrubAccess, live_awake _ ha, if_pos (by simp [hm]), run]
  dsimp only
  rw [State.memRead_plain he, if_neg (by simp)]

theorem exec_storeScrubAccess_clean (ha : Awake s) (hm : s.mode = mRUN) (hk : (eccDecode
      (s.load .queue (s.get SSCRUB_AT) % 2 ^ 64) (s.load .queue (s.get SSCRUB_AT) / 2 ^ 64 % 256)).kind = .clean) :
    exec .storeScrubAccess s = run s (s.put SSCRUB_AT ((s.get SSCRUB_AT + 1) % 2 ^ 20)) := by
  rw [exec_storeScrubAccess, execStoreScrubAccess, live_awake _ ha, if_pos (by simp [hm]), run]
  dsimp only
  rw [hk]

theorem memScrubAccess_plain (ha : Awake s) (hm : s.mode = mRUN) (he : s.get FB_MCFG.ECC_EN m = 0) :
    Answers (.memScrubAccess m) s fun t => t.mem = s.mem ∧ t.get MSCRUB_AT m = (s.get MSCRUB_AT m + 1) % 4096 := by
  have apart : MSCRUB_AT.key m ≠ MSI_PEND.key 0 := by
    simp only [MSCRUB_AT, MSI_PEND, Field.key]
    omega
  refine ⟨_, exec_memScrubAccess_plain ha hm he, ?_, ?_⟩
  · rw [deliver_mem, State.put_mem]
  · rw [deliver_get _ _ apart, State.get_put_self]
    exact Nat.mod_mod ..

theorem storeScrubAccess_clean (ha : Awake s) (hm : s.mode = mRUN) (hk : (eccDecode
      (s.load .queue (s.get SSCRUB_AT) % 2 ^ 64) (s.load .queue (s.get SSCRUB_AT) / 2 ^ 64 % 256)).kind = .clean) :
    Answers .storeScrubAccess s fun t => t.mem = s.mem ∧ t.get SSCRUB_AT = (s.get SSCRUB_AT + 1) % 2 ^ 20 := by
  refine ⟨_, exec_storeScrubAccess_clean ha hm hk, ?_, ?_⟩
  · rw [deliver_mem, State.put_mem]
  · rw [deliver_get _ _ (by decide), State.get_put_self]
    exact Nat.mod_mod ..

end Commands

/-- Settles O12: each clause is the lemma of its command; a port write rests on the bounds of the word it addresses. -/
theorem memoryPortsReadAndWrite : Obligations.MemoryPortsReadAndWrite := by
  unfold Obligations.MemoryPortsReadAndWrite
  constructor
  · intro s m ha hi hj hu
    exact ⟨fun addr hc hw he => memPortRead_alone ha hu hc hw he addr,
      fun addr data hc hw hr => memPortWrite_alone ha hi hj hu hc hw hr addr data,
      fun port addr be data r a hlt h => memPortWrite_elsewhere ha hu port addr be data hlt h,
      fun port addr be data hr => memPortWrite_waits ha hu hr port addr be data⟩
  · intro s ms m a ha hj
    exact ⟨fun w hw hb ho hm hword hx raw => memIndirectWrite_raw hb ho hm hword raw hw hx hj,
      fun w hw hb ho hm hword hx raw => memIndirectRead_raw hb ho hm hword raw hw hx,
      fun hm he hat => hat ▸ memScrubAccess_plain ha hm he, storeScrubAccess_clean ha⟩

end Sys2Proof.Machine
end

section
/-! O58: what is stored, under the operations that every command goes through. A command stores to a memory by `store`,
`wipe` or `fillZero` alone, and writes the log's ring by `logWriteTick` and the resets alone; every other operation of
the model passes on what is stored. `State.stored` names it, the elementary operations are proved once, and each
operation that the commands of O58 go through has one lemma, in the order of the model. -/

namespace Sys2Proof.Machine

/-- What a command that stores to no memory passes on: the words of the memories and the ring of the log. -/
def State.stored (s : State) : Store Nat × List LogRec := (s.mem, s.ring)

theorem State.stored_eq {s t : State} (hm : t.mem = s.mem) (hr : t.ring = s.ring) : t.stored = s.stored := by
  rw [State.stored, State.stored, hm, hr]

/-! Branches and folds. -/

@[simp] theorem State.ite_stored (c : Prop) [Decidable c] (a b : State) :
    (if c then a else b).stored = if c then a.stored else b.stored := apply_ite ..

@[simp] theorem foldl_stored {α : Type} {l : List α} {f : State → α → State} {s : State}
    (h : ∀ u a, (f u a).stored = u.stored) : (l.foldl f s).stored = s.stored :=
  List.foldlRecOn (motive := fun u => u.stored = s.stored) l f rfl fun u hu a _ => (h u a).trans hu

section Elementary

variable {s : State} {i n v : Nat}

@[simp] theorem State.put_stored (f : Field) : (s.put f v i).stored = s.stored := stored_eq rfl rfl
@[simp] theorem State.count_stored (f : Field) : (s.count f n i).stored = s.stored := stored_eq rfl rfl
@[simp] theorem State.orBit_stored (f : Field) : (s.orBit f n i).stored = s.stored := stored_eq rfl rfl
@[simp] theorem State.andBit_stored (f : Field) : (s.andBit f n i).stored = s.stored := stored_eq rfl rfl

@[simp] theorem State.setList_stored (q : Fifo) (l : List Nat) : (s.setList q l i).stored = s.stored :=
  stored_eq rfl rfl

@[simp] theorem State.enq_stored (q : Fifo) : (s.enq q v i).stored = s.stored := stored_eq rfl rfl
@[simp] theorem State.emit_stored (k : OutKind) (l : List Nat) : (s.emit k l).stored = s.stored := stored_eq rfl rfl
@[simp] theorem State.drawn_stored : s.drawn.stored = s.stored := stored_eq rfl rfl

@[simp] theorem State.raise_stored (c : Rc) (obj d : Nat) : (s.raise c obj d).stored = s.stored :=
  stored_eq (State.raise_mem ..) (State.raise_ring ..)

@[simp] theorem State.resend_stored (b : State) (off w : Nat) : (s.resend b off w).stored = s.stored :=
  stored_eq (State.resend_mem ..) (State.resend_ring ..)

end Elementary

section Units

variable {s t : State} {m : Master} {a b block byWhom c d detail holder i k kind l lane n new obj off op p q r
  requester st v w : Nat}

/-! The operations that every family shares (spec/01, R22, R34, R557, R652, R653, R792). -/

@[simp] theorem State.refuseBy_stored (c : Rc) : (s.refuseBy block c obj detail).stored = s.stored := by
  simp [State.refuseBy]

@[simp] theorem State.refuse_stored (c : Rc) : (s.refuse c obj m off).stored = s.stored := by simp [State.refuse]
@[simp] theorem State.setMode_stored : (s.setMode new requester).stored = s.stored := by simp [State.setMode]
@[simp] theorem State.deny_stored : (s.deny m off).stored = s.stored := by simp [State.deny]
@[simp] theorem State.writeDenied_stored : (s.writeDenied m off kind).stored = s.stored := by simp [State.writeDenied]
@[simp] theorem State.setSync_stored : (s.setSync v).stored = s.stored := by simp [State.setSync]
@[simp] theorem State.dropJournal_stored : s.dropJournal.stored = s.stored := by simp [State.dropJournal]

@[simp] theorem State.journalWords_stored (ws : List Nat) : (s.journalWords ws).stored = s.stored := by
  simp [State.journalWords]

@[simp] theorem State.journalReg_stored : (s.journalReg off w).stored = s.stored := by simp [State.journalReg]
@[simp] theorem State.secWrite_stored : (s.secWrite m off r).stored = s.stored := by simp [State.secWrite]
@[simp] theorem State.transact_stored : (s.transact m).stored = s.stored := by simp [State.transact]

/-- A register write stores nothing where the effect of its register stores nothing. -/
@[simp] theorem State.onWrite_stored {k : State → State} (hk : ∀ u, (k u).stored = u.stored) :
    (s.onWrite m off w k).stored = s.stored := by
  unfold State.onWrite
  dsimp only
  repeat' split
  all_goals simp [hk]

@[simp] theorem State.onRead_stored {k : State → Nat × State} (hk : ∀ u, (k u).2.stored = u.stored) :
    (s.onRead m off k).2.stored = s.stored := by
  unfold State.onRead
  dsimp only
  repeat' split
  all_goals simp [hk]

@[simp] theorem State.writeField_stored (f : Field) (unlocked own : Bool) :
    (s.writeField f i w unlocked own).stored = s.stored := by
  rcases s.writeField_cases f i w unlocked own with h | ⟨x, h⟩ <;> simp [h]

@[simp] theorem State.writeReg_stored (r : Reg) (own : Bool) : (s.writeReg m r i w own).stored = s.stored := by
  simp [State.writeReg]

/-! MAC cells (spec/04). -/

@[simp] theorem State.macStep_stored : (s.macStep n op a b d).stored = s.stored := by simp [State.macStep]

@[simp] theorem macPump_stored (f : Nat) : (macPump f n s).stored = s.stored := by
  induction f generalizing n s with
  | zero => rfl
  | succ f ih =>
    unfold macPump
    split <;> simp [ih]

@[simp] theorem State.macClear_stored : (s.macClear n).stored = s.stored := by simp [State.macClear]

/-! The queue manager (spec/05). -/

@[simp] theorem State.portDone_stored (r : QRes) : (s.portDone p r).stored = s.stored := by simp [State.portDone]
@[simp] theorem State.portCut_stored : (s.portCut p lane).stored = s.stored := by simp [State.portCut]

@[simp] theorem State.cutParked_stored : (s.cutParked p).stored = s.stored := by
  unfold State.cutParked
  dsimp only
  repeat' split
  all_goals simp

@[simp] theorem State.queueClear_stored : (s.queueClear q).stored = s.stored := by simp [State.queueClear]

@[simp] theorem wrQcfg_stored : (wrQcfg m q w s).stored = s.stored := by
  unfold wrQcfg
  dsimp only
  repeat' split
  all_goals simp

/-! Plots (spec/03). -/

@[simp] theorem State.setPlot_stored : (s.setPlot p st holder).stored = s.stored := by simp [State.setPlot]

@[simp] theorem State.fence_stored (force : Bool) : (s.fence p holder force byWhom).stored = s.stored := by
  simp [State.fence]

@[simp] theorem State.eventToken_stored : (s.eventToken l).stored = s.stored := by simp [State.eventToken]

end Units

end Sys2Proof.Machine
end

section
/-! O58: what is stored, under the operations of the clocked units, the pins and the PCIe endpoint. -/

namespace Sys2Proof.Machine

section Units

variable {s t : State} {m : Master} {action c count d data detail g i j k l left lv n next obj off offset p plot
  pol q ref run seq side st stat tag time timer unitNo v w x : Nat}

/-! Clock synthesisers (spec/06). -/

@[simp] theorem State.ctlFallback_stored : s.ctlFallback.stored = s.stored := by simp [State.ctlFallback]
@[simp] theorem State.stageStart_stored : (s.stageStart j pol next).stored = s.stored := by simp [State.stageStart]
@[simp] theorem State.synStart_stored : (s.synStart k pol).stored = s.stored := by simp [State.synStart]
@[simp] theorem State.synOff_stored : (s.synOff k).stored = s.stored := by simp [State.synOff]
@[simp] theorem State.synSample_stored : (s.synSample k).stored = s.stored := by simp [State.synSample]

@[simp] theorem wrSynCtl_stored : (wrSynCtl m k w s).stored = s.stored := by
  unfold wrSynCtl
  dsimp only
  repeat' split
  all_goals simp

@[simp] theorem State.synSteady_stored : (s.synSteady k).stored = s.stored := by simp [State.synSteady]
@[simp] theorem State.synLost_stored : (s.synLost k).stored = s.stored := by simp [State.synLost]
@[simp] theorem State.ckSleep_stored : s.ckSleep.stored = s.stored := by simp [State.ckSleep]

/-! Crossing ports (spec/07). -/

@[simp] theorem State.showLevel_stored : (s.showLevel x).stored = s.stored := by simp [State.showLevel]
@[simp] theorem State.xpEmpty_stored : (s.xpEmpty x).stored = s.stored := by simp [State.xpEmpty]
@[simp] theorem State.xpSync_stored : (s.xpSync x side).stored = s.stored := by simp [State.xpSync]
@[simp] theorem State.xpOff_stored : (s.xpOff x).stored = s.stored := by simp [State.xpOff]

@[simp] theorem State.xpPump_stored : (s.xpPump x).stored = s.stored := by
  unfold State.xpPump
  dsimp only
  repeat' split
  all_goals simp

@[simp] theorem State.xpOverrun_stored : (s.xpOverrun x).stored = s.stored := by simp [State.xpOverrun]
@[simp] theorem State.xpPut_stored : (s.xpPut x v).stored = s.stored := by simp [State.xpPut]

/-- Where a taken word leaves a state, that state keeps what is stored; so for the claims and packets below. -/
theorem State.xpPop_stored (h : s.xpPop x = some (v, t)) : t.stored = s.stored := by
  unfold State.xpPop at h
  split at h <;> cases h
  simp

theorem State.xpTake_stored (h : s.xpTake x = some (v, t)) : t.stored = s.stored := by
  unfold State.xpTake at h
  split at h
  · obtain ⟨⟨_, u⟩, hu, hv⟩ := Option.map_eq_some_iff.mp h
    cases hv
    simp [State.xpPop_stored hu]
  · cases h

@[simp] theorem State.xpStarve_stored : (s.xpStarve x).stored = s.stored := by simp [State.xpStarve]
@[simp] theorem State.xpDomainReset_stored : (s.xpDomainReset d).stored = s.stored := by simp [State.xpDomainReset]

@[simp] theorem wrXpCfg_stored : (wrXpCfg m x w s).stored = s.stored := by
  unfold wrXpCfg
  dsimp only
  repeat' split
  all_goals simp

/-! Time, cues and the trigger router (spec/08). -/

@[simp] theorem State.setNow_stored : (s.setNow timer).stored = s.stored := by simp [State.setNow]
@[simp] theorem State.setDest_stored (v : Bool) : (s.setDest d v).stored = s.stored := by simp [State.setDest]

@[simp] theorem State.routeStep_stored : (s.routeStep d).stored = s.stored := by
  unfold State.routeStep
  dsimp only
  repeat' split
  all_goals simp

@[simp] theorem State.setSource_stored (v : Bool) : (s.setSource c v).stored = s.stored := by simp [State.setSource]
@[simp] theorem State.pulseSource_stored : (s.pulseSource c).stored = s.stored := by simp [State.pulseSource]
@[simp] theorem State.routerTick_stored : s.routerTick.stored = s.stored := by simp [State.routerTick]
@[simp] theorem State.tbFollow_stored : s.tbFollow.stored = s.stored := by simp [State.tbFollow]
@[simp] theorem State.syn0Start_stored : (s.syn0Start ref).stored = s.stored := by simp [State.syn0Start]
@[simp] theorem State.tbStop_stored : s.tbStop.stored = s.stored := by simp [State.tbStop]
@[simp] theorem wrTbCtl_stored : (wrTbCtl m w s).stored = s.stored := by simp [wrTbCtl]
@[simp] theorem State.syn0Lost_stored : s.syn0Lost.stored = s.stored := by simp [State.syn0Lost]
@[simp] theorem State.showTags_stored : (s.showTags n).stored = s.stored := by simp [State.showTags]

@[simp] theorem State.tagKeep_stored (rising : Bool) : (s.tagKeep n time rising).stored = s.stored := by
  simp [State.tagKeep]

@[simp] theorem State.cueJudge_stored : (s.cueJudge c).stored = s.stored := by simp [State.cueJudge]
@[simp] theorem State.cueLevel_stored (v : Bool) : (s.cueLevel c v).stored = s.stored := by simp [State.cueLevel]
@[simp] theorem State.cuePush_stored : (s.cuePush c time action).stored = s.stored := by simp [State.cuePush]
@[simp] theorem State.cuesRejudge_stored : s.cuesRejudge.stored = s.stored := by simp [State.cuesRejudge]
@[simp] theorem State.timeChanged_stored : s.timeChanged.stored = s.stored := by simp [State.timeChanged]
@[simp] theorem State.timeStep_stored : (s.timeStep offset).stored = s.stored := by simp [State.timeStep]
@[simp] theorem State.slewStart_stored : (s.slewStart offset).stored = s.stored := by simp [State.slewStart]
@[simp] theorem State.slewBy_stored : (s.slewBy unitNo).stored = s.stored := by simp [State.slewBy]
@[simp] theorem State.countTick_stored : s.countTick.stored = s.stored := by simp [State.countTick]

@[simp] theorem State.streamPut_stored : (s.streamPut x st).stored = s.stored := by
  unfold State.streamPut
  repeat' split
  all_goals simp

@[simp] theorem State.streamTake_stored : (s.streamTake x c).stored = s.stored := by
  unfold State.streamTake
  split
  · rfl
  · split
    next h => simp [State.xpTake_stored h]
    next => rfl

/-! Timers (spec/09). -/

@[simp] theorem State.setBtCount_stored : (s.setBtCount timer v).stored = s.stored := by simp [State.setBtCount]

@[simp] theorem State.preloadTransfer_stored : (s.preloadTransfer timer).stored = s.stored := by
  simp [State.preloadTransfer]

@[simp] theorem State.btOwned_stored {f : State → State} (hf : ∀ u, (f u).stored = u.stored) :
    (s.btOwned m n off f).stored = s.stored := by
  simp [State.btOwned, hf]

@[simp] theorem State.btMatch_stored : (s.btMatch timer k).stored = s.stored := by
  unfold State.btMatch
  dsimp only
  repeat' split
  all_goals simp

@[simp] theorem State.btCountTo_stored : (s.btCountTo timer v).stored = s.stored := by simp [State.btCountTo]

@[simp] theorem State.btInput_stored : (s.btInput k).1.stored = s.stored := by
  unfold State.btInput
  dsimp only
  split <;> simp

@[simp] theorem State.btZero_stored : (s.btZero timer).stored = s.stored := by simp [State.btZero]

@[simp] theorem State.btEdge_stored : (s.btEdge timer).stored = s.stored := by
  unfold State.btEdge
  repeat' split
  all_goals simp

@[simp] theorem State.btSource_stored (before lfxo : Bool) : (s.btSource k before lfxo).1.stored = s.stored := by
  unfold State.btSource
  repeat' split
  all_goals simp

@[simp] theorem State.btLevels_stored : (s.btLevels k).stored = s.stored := by
  refine foldl_stored fun u i => ?_
  dsimp only
  split <;> simp

@[simp] theorem State.btTick_stored (rise before lfxo : Bool) : (s.btTick k rise before lfxo).1.stored = s.stored := by
  unfold State.btTick
  dsimp only
  repeat' split
  all_goals simp

@[simp] theorem State.btDrive_stored (ovf : Bool) (rst : Bool) : (s.btDrive timer ovf rst).stored = s.stored := by
  simp [State.btDrive]

@[simp] theorem State.btFine_stored : (s.btFine c).stored = s.stored := by
  unfold State.btFine
  dsimp only
  repeat' split
  all_goals simp

@[simp] theorem State.btCapture_stored : (s.btCapture c count).stored = s.stored := by simp [State.btCapture]
@[simp] theorem State.btAccept_stored : (s.btAccept c count).stored = s.stored := by simp [State.btAccept]
@[simp] theorem State.btSample_stored (high : Bool) : (s.btSample c high).stored = s.stored := by simp [State.btSample]

@[simp] theorem State.btAll_stored (rise : Nat → Bool) (lfxo visible : Bool) :
    (s.btAll rise lfxo visible).stored = s.stored := by
  unfold State.btAll
  refine List.foldlRecOn (motive := fun u : State × Bool => u.1.stored = s.stored) _ _ rfl fun u hu t _ => ?_
  simp [hu]

@[simp] theorem State.btStart_stored : (s.btStart timer run).stored = s.stored := by simp [State.btStart]
@[simp] theorem State.btStop_stored : (s.btStop timer).stored = s.stored := by simp [State.btStop]

@[simp] theorem wrBtCtl_stored : (wrBtCtl m k w s).stored = s.stored := by
  refine State.btOwned_stored fun u => ?_
  dsimp only
  repeat' split
  all_goals simp

/-! The Orangery engine (spec/10). -/

@[simp] theorem State.ogSchedule_stored : s.ogSchedule.stored = s.stored := by
  unfold State.ogSchedule
  repeat' split
  all_goals simp

@[simp] theorem State.ogReady_stored : (s.ogReady c).stored = s.stored := by simp [State.ogReady]
@[simp] theorem State.ogLeave_stored : (s.ogLeave c st).stored = s.stored := by simp [State.ogLeave]
@[simp] theorem State.ogPreempt_stored : s.ogPreempt.stored = s.stored := by simp [State.ogPreempt]

/-! Pins and their claims (spec/11). -/

@[simp] theorem State.periphLevels_stored : (s.periphLevels i).stored = s.stored := by simp [State.periphLevels]
@[simp] theorem State.periphStop_stored : (s.periphStop i).stored = s.stored := by simp [State.periphStop]
@[simp] theorem State.showHolder_stored : (s.showHolder p).stored = s.stored := by simp [State.showHolder]
@[simp] theorem State.dropClaim_stored : (s.dropClaim lv p).stored = s.stored := by simp [State.dropClaim]

@[simp] theorem State.periphLost_stored : (s.periphLost p lv).stored = s.stored := by
  unfold State.periphLost
  dsimp only
  repeat' split
  all_goals simp

@[simp] theorem State.takeClaim_stored : (s.takeClaim lv p).stored = s.stored := by simp [State.takeClaim]

theorem State.claimAll_stored {pins : List Nat} (h : s.claimAll lv pins = .inr t) : t.stored = s.stored := by
  unfold State.claimAll at h
  split at h <;> cases h
  simp

@[simp] theorem State.dropAll_stored (pins : List Nat) : (s.dropAll lv pins).stored = s.stored := by
  simp [State.dropAll]

theorem State.arrayClaims_stored {plot : Option Nat} (h : s.arrayClaims plot = .inr t) : t.stored = s.stored :=
  State.claimAll_stored h

@[simp] theorem State.pinOwned_stored {f : State → State} (hf : ∀ u, (f u).stored = u.stored) :
    (s.pinOwned m p f).stored = s.stored := by
  simp [State.pinOwned, hf]

@[simp] theorem State.storePcfg_stored : (s.storePcfg m p w).stored = s.stored := by simp [State.storePcfg]

@[simp] theorem wrPinCfg_stored : (wrPinCfg m p w s).stored = s.stored := by
  refine State.pinOwned_stored fun u => ?_
  dsimp only
  repeat' split
  all_goals simp

@[simp] theorem wrPclm_stored : (wrPclm m p w s).stored = s.stored := by
  unfold wrPclm
  extract_lets u renew
  have renewed (v : State) : (renew v).stored = v.stored := by
    dsimp only [renew]
    split_ifs
    · rfl
    · split
      next => simp
      next h => simp [State.claimAll_stored h]
    · rfl
    · split
      next => simp
      next h => simp [State.claimAll_stored h]
  simp [u, renewed]

@[simp] theorem wrSercfg_stored : (wrSercfg m g w s).stored = s.stored := by
  refine State.pinOwned_stored fun u => ?_
  extract_lets v x z y
  have hv : v.stored = u.stored := by simp [v]
  have hy : y.stored = v.stored := by simp [y]
  clear_value v y
  split
  · simp [z, x, hv]
  · split
    · simp [hy, hv]
    · split
      next => simp [hy, hv]
      next =>
        split
        next => simp [hy, hv]
        next h =>
          split at h
          · simp [State.claimAll_stored h, hy, hv]
          · cases h
            simp [hy, hv]

/-! Converters, cues, routes and taggers (spec/08). -/

@[simp] theorem State.unitEnable_stored (bad : Option (Rc × Nat)) (line : Option Nat) {start : State → State}
    (hk : ∀ u, (start u).stored = u.stored) : (s.unitEnable m off bad line start).stored = s.stored := by
  unfold State.unitEnable
  split
  · simp
  · split
    next => simp
    next h => simp [hk, State.claimAll_stored h]

@[simp] theorem wrTtCfg_stored : (wrTtCfg m n w s).stored = s.stored := by simp [wrTtCfg]

@[simp] theorem wrCuCfg_stored : (wrCuCfg m c w s).stored = s.stored := by
  unfold wrCuCfg
  dsimp only
  repeat' split
  all_goals simp

@[simp] theorem wrRt_stored : (wrRt m d w s).stored = s.stored := by
  unfold wrRt
  dsimp only
  repeat' split
  all_goals simp

@[simp] theorem wrLbtCtl_stored : (wrLbtCtl m l w s).stored = s.stored := by simp [wrLbtCtl]

/-! Serial lanes (spec/12). -/

@[simp] theorem State.quadStart_stored : (s.quadStart q pol).stored = s.stored := by simp [State.quadStart]
@[simp] theorem State.quadOff_stored : (s.quadOff q).stored = s.stored := by simp [State.quadOff]
@[simp] theorem State.quadSample_stored : (s.quadSample q).stored = s.stored := by simp [State.quadSample]

@[simp] theorem wrQctl_stored : (wrQctl m q w s).stored = s.stored := by
  unfold wrQctl
  dsimp only
  repeat' split
  all_goals simp

@[simp] theorem State.quadSteady_stored : (s.quadSteady q).stored = s.stored := by simp [State.quadSteady]
@[simp] theorem State.pcsReset_stored : (s.pcsReset l).stored = s.stored := by simp [State.pcsReset]
@[simp] theorem State.laneDark_stored : (s.laneDark l).stored = s.stored := by simp [State.laneDark]
@[simp] theorem State.laneStop_stored : (s.laneStop l).stored = s.stored := by simp [State.laneStop]

@[simp] theorem wrLcfg_stored : (wrLcfg m l w s).stored = s.stored := by
  unfold wrLcfg
  dsimp only
  repeat' split
  all_goals simp

@[simp] theorem State.laneEvent_stored (cnt : Field) (irq : Field) (c : Rc) :
    (s.laneEvent cnt irq c l detail).stored = s.stored := by
  simp [State.laneEvent]

@[simp] theorem State.prbsRestart_stored : (s.prbsRestart l).stored = s.stored := by simp [State.prbsRestart]
@[simp] theorem wrLtest_stored : (wrLtest m l w s).stored = s.stored := by simp [wrLtest]
@[simp] theorem State.slSleep_stored : s.slSleep.stored = s.stored := by simp [State.slSleep]

/-! The PCIe endpoint (spec/13). -/

@[simp] theorem State.hostData_stored : (s.hostData tag data).stored = s.stored := by simp [State.hostData]
@[simp] theorem State.hostAbort_stored : (s.hostAbort tag left).stored = s.stored := by simp [State.hostAbort]
@[simp] theorem State.lateAnswer_stored : (s.lateAnswer obj).stored = s.stored := by simp [State.lateAnswer]

@[simp] theorem pxEnter_stored (f : Nat) : (pxEnter f k s).stored = s.stored := by
  induction f generalizing s with
  | zero => rfl
  | succ f ih =>
    unfold pxEnter
    split <;> simp [ih]

@[simp] theorem State.pxOffer_stored : (s.pxOffer k).stored = s.stored := by
  unfold State.pxOffer
  dsimp only
  repeat' split
  all_goals simp

@[simp] theorem State.pxPump_stored : s.pxPump.stored = s.stored := by simp [State.pxPump]
@[simp] theorem State.pxForget_stored : (s.pxForget k seq).stored = s.stored := by simp [State.pxForget]

@[simp] theorem State.pxAnswered_stored : (s.pxAnswered k data stat).stored = s.stored := by
  unfold State.pxAnswered
  dsimp only
  repeat' split
  all_goals simp

@[simp] theorem State.chRest_stored : (s.chRest c).stored = s.stored := by simp [State.chRest]

/-! Lane data across the ports (spec/12). -/

@[simp] theorem State.laneReceive_stored : (s.laneReceive x l data side).stored = s.stored := by
  simp [State.laneReceive]

@[simp] theorem State.laneSend_stored : (s.laneSend x l v).stored = s.stored := by simp [State.laneSend]

end Units

end Sys2Proof.Machine
end

section
/-! O58: what is stored, under the operations of the fabric, of its sessions and of the mirrored pair. -/

namespace Sys2Proof.Machine

section Units

variable {s t : State} {m : Master} {a addr c cause cls d data die e g id j k kind lseq n p q r st state status v
  w word words : Nat}

/-! Hokuox ports, routes and endpoints (spec/14). -/

@[simp] theorem State.hxTx_stored : (s.hxTx n p).stored = s.stored := by simp [State.hxTx]
@[simp] theorem State.hxBlock_stored : (s.hxBlock n word).stored = s.stored := by simp [State.hxBlock]
@[simp] theorem State.hxFree_stored : (s.hxFree n k words).stored = s.stored := by simp [State.hxFree]
@[simp] theorem State.hxDeliver_stored : (s.hxDeliver n p).stored = s.stored := by simp [State.hxDeliver]

theorem State.hxHead_stored (h : s.hxHead n k = some (p, t)) : t.stored = s.stored := by
  unfold State.hxHead at h
  split at h <;> cases h
  simp

@[simp] theorem State.hxViolation_stored : (s.hxViolation n kind).stored = s.stored := by simp [State.hxViolation]
@[simp] theorem State.noRoute_stored : (s.noRoute d).stored = s.stored := by simp [State.noRoute]

@[simp] theorem State.hxSend_stored : (s.hxSend p).stored = s.stored := by
  unfold State.hxSend
  repeat' split
  all_goals simp

@[simp] theorem State.cpDone_stored : (s.cpDone j status).stored = s.stored := by simp [State.cpDone]

@[simp] theorem State.cpRefuse_stored : (s.cpRefuse e status).stored = s.stored := by
  unfold State.cpRefuse
  dsimp only
  repeat' split
  all_goals simp

@[simp] theorem State.epEmpty_stored : (s.epEmpty e).stored = s.stored := by simp [State.epEmpty]
@[simp] theorem State.epBreak_stored : (s.epBreak e cause).stored = s.stored := by simp [State.epBreak]

@[simp] theorem State.epBreakAll_stored (p : State → Nat → Bool) : (s.epBreakAll cause p).stored = s.stored := by
  simp [State.epBreakAll]

@[simp] theorem State.routeGroup_stored : (s.routeGroup g).stored = s.stored := by simp [State.routeGroup]

@[simp] theorem State.setPrimary_stored (p : Option Nat) : (s.setPrimary d p).stored = s.stored := by
  unfold State.setPrimary
  dsimp only
  repeat' split
  all_goals simp

@[simp] theorem State.reroute_stored (lost : Option Nat) : (s.reroute d lost).stored = s.stored := by
  unfold State.reroute
  dsimp only
  repeat' split
  all_goals simp

@[simp] theorem State.advertise_stored : s.advertise.stored = s.stored := by simp [State.advertise]
@[simp] theorem State.sendJoin_stored : s.sendJoin.stored = s.stored := by simp [State.sendJoin]
@[simp] theorem State.servoOwn_stored : s.servoOwn.stored = s.stored := by simp [State.servoOwn]

@[simp] theorem State.elect_stored : s.elect.stored = s.stored := by
  unfold State.elect
  extract_lets before heard best key near parent₀ deep parent s₁ sameRoot s₂ s₃ s₄ final fresh s₅ s₆ s₇ s₈ s₉
  have h₁ : s₁.stored = s.stored := by simp [s₁]
  have h₄ : s₄.stored = s₁.stored := by simp [s₄, s₃, s₂]
  have h₆ : s₆.stored = s₄.stored := by
    clear_value parent
    cases parent <;> simp [s₆, s₅]
  have h₉ : s₉.stored = s₆.stored := by simp [s₉, s₈, s₇]
  have h : s₉.stored = s.stored := by rw [h₉, h₆, h₄, h₁]
  split <;> simp [h]

@[simp] theorem State.takeAddr_stored (log : Bool) : (s.takeAddr a log).stored = s.stored := by simp [State.takeAddr]

@[simp] theorem State.epFlow_stored : (s.epFlow e).stored = s.stored := by
  unfold State.epFlow
  dsimp only
  repeat' split
  all_goals simp

@[simp] theorem State.epTake_stored : (s.epTake e data).stored = s.stored := by simp [State.epTake]

@[simp] theorem State.epCredit_stored : (s.epCredit e n).stored = s.stored := by
  unfold State.epCredit
  dsimp only
  repeat' split
  all_goals simp

@[simp] theorem State.chPacketOf_stored (recv : Bool) {f : State → Nat → Nat → State}
    (hf : ∀ u e p, (f u e p).stored = u.stored) : (s.chPacketOf n kind recv f).stored = s.stored := by
  unfold State.chPacketOf
  split
  next h => simp [hf, State.hxHead_stored h]
  next => rfl

@[simp] theorem State.sendOpen_stored : (s.sendOpen e).stored = s.stored := by simp [State.sendOpen]
@[simp] theorem State.epOff_stored : (s.epOff e).stored = s.stored := by simp [State.epOff]

@[simp] theorem wrEpCfg_stored : (wrEpCfg m w s).stored = s.stored := by
  unfold wrEpCfg
  dsimp only
  repeat' split
  all_goals simp

/-! What a port's life tells the sessions of configuration and update (spec/18, spec/19). -/

@[simp] theorem State.cfgRequest_stored : s.cfgRequest.stored = s.stored := by simp [State.cfgRequest]

@[simp] theorem State.broadcast_stored (payload : List Nat) : (s.broadcast cls id payload).stored = s.stored := by
  simp [State.broadcast]

@[simp] theorem State.upTally_stored : s.upTally.stored = s.stored := by simp [State.upTally]

@[simp] theorem State.upNote_stored (k : Option Nat) : (s.upNote die addr k).stored = s.stored := by
  cases k <;> simp [State.upNote]

@[simp] theorem State.upReport_stored : s.upReport.stored = s.stored := by simp [State.upReport]
@[simp] theorem State.upSet_stored : (s.upSet st).stored = s.stored := by simp [State.upSet]
@[simp] theorem State.upLog_stored (c : Rc) : (s.upLog c).stored = s.stored := by simp [State.upLog]
@[simp] theorem State.upStop_stored (c : Rc) : (s.upStop c).stored = s.stored := by simp [State.upStop]
@[simp] theorem State.sessionCut_stored : (s.sessionCut n).stored = s.stored := by simp [State.sessionCut]

/-! The life of a port (spec/14). -/

@[simp] theorem State.portClear_stored : (s.portClear n).stored = s.stored := by simp [State.portClear]
@[simp] theorem State.lifeEnd_stored : (s.lifeEnd n cause).stored = s.stored := by simp [State.lifeEnd]
@[simp] theorem State.lifeStart_stored : (s.lifeStart n).stored = s.stored := by simp [State.lifeStart]
@[simp] theorem State.portLanesOn_stored : (s.portLanesOn n).stored = s.stored := by simp [State.portLanesOn]
@[simp] theorem State.portLanesOff_stored : (s.portLanesOff n).stored = s.stored := by simp [State.portLanesOff]
@[simp] theorem State.portStart_stored : (s.portStart n).stored = s.stored := by simp [State.portStart]
@[simp] theorem State.portStop_stored : (s.portStop n).stored = s.stored := by simp [State.portStop]

@[simp] theorem wrHxPcfg_stored : (wrHxPcfg m n w s).stored = s.stored := by
  unfold wrHxPcfg
  dsimp only
  repeat' split
  all_goals simp

@[simp] theorem State.portDrop_stored : (s.portDrop n state).stored = s.stored := by simp [State.portDrop]
@[simp] theorem State.initBlock_stored : (s.initBlock n v).stored = s.stored := by simp [State.initBlock]
@[simp] theorem wrHxPctl_stored : (wrHxPctl m n w s).stored = s.stored := by simp [wrHxPctl]
@[simp] theorem State.hxLine_stored : (s.hxLine n lseq p).stored = s.stored := by simp [State.hxLine]

theorem State.hxFill_stored (h : s.hxFill p = some (q, t)) : t.stored = s.stored := by
  unfold State.hxFill at h
  dsimp only at h
  repeat' split at h
  all_goals cases h
  all_goals simp

theorem State.sendHead_stored (h : s.sendHead n k = some t) : t.stored = s.stored := by
  unfold State.sendHead at h
  dsimp only at h
  split at h
  · cases h
  · split at h
    next => cases h; simp
    next hf =>
      split at h <;> cases h
      simp [State.hxFill_stored hf]

@[simp] theorem State.replay_stored : (s.replay n).stored = s.stored := by simp [State.replay]
@[simp] theorem State.sendAck_stored (nak : Bool) : (s.sendAck n nak).stored = s.stored := by simp [State.sendAck]
@[simp] theorem State.hxFail_stored : (s.hxFail n).stored = s.stored := by simp [State.hxFail]

@[simp] theorem State.hxForward_stored : (s.hxForward n p).stored = s.stored := by
  unfold State.hxForward
  dsimp only
  repeat' split
  all_goals simp

@[simp] theorem State.hxAccept_stored : (s.hxAccept n p).stored = s.stored := by simp [State.hxAccept]
@[simp] theorem State.hxSleep_stored : s.hxSleep.stored = s.stored := by simp [State.hxSleep]

/-! Reset domains and the role of a mirrored pair (R55, spec/15). -/

@[simp] theorem State.macDomainReset_stored : (s.macDomainReset d).stored = s.stored := by simp [State.macDomainReset]
@[simp] theorem State.assertDomain_stored : (s.assertDomain d).stored = s.stored := by simp [State.assertDomain]
@[simp] theorem State.freeDomain_stored : (s.freeDomain d).stored = s.stored := by simp [State.freeDomain]

@[simp] theorem State.releaseNext_stored : s.releaseNext.stored = s.stored := by
  unfold State.releaseNext
  dsimp only
  repeat' split
  all_goals simp

@[simp] theorem State.domainsFollow_stored : s.domainsFollow.stored = s.stored := by simp [State.domainsFollow]
@[simp] theorem wrRdhold_stored : (wrRdhold m w s).stored = s.stored := by simp [wrRdhold]
@[simp] theorem State.setRole_stored : (s.setRole r).stored = s.stored := by simp [State.setRole]
@[simp] theorem State.pairForget_stored : s.pairForget.stored = s.stored := by simp [State.pairForget]

/-! The mirrored pair (spec/15). -/

@[simp] theorem State.mirSend_stored (ws : List Nat) : (s.mirSend kind ws).stored = s.stored := by
  unfold State.mirSend
  dsimp only
  repeat' split
  all_goals simp

theorem State.mirHead_stored (h : s.mirHead kind = some (p, t)) : t.stored = s.stored := by
  unfold State.mirHead at h
  split at h
  · cases h
  · split at h
    next hu =>
      split at h <;> cases h
      simp [State.hxHead_stored hu]
    next => cases h

@[simp] theorem journalSend_stored (f : Nat) : (journalSend f s).stored = s.stored := by
  induction f generalizing s with
  | zero => rfl
  | succ f ih => simp [journalSend, ih]

@[simp] theorem State.journalOut_stored : s.journalOut.stored = s.stored := by simp [State.journalOut]

theorem State.copyRecord_stored {peek : State → Nat → Nat} {ws : List Nat} (h : s.copyRecord peek = some (ws, t)) :
    t.stored = s.stored := by
  unfold State.copyRecord at h
  dsimp only at h
  repeat' split at h
  all_goals cases h
  all_goals simp

@[simp] theorem copyLoop_stored (peek : State → Nat → Nat) (f : Nat) : (copyLoop peek f s).stored = s.stored := by
  induction f generalizing s with
  | zero => rfl
  | succ f ih =>
    unfold copyLoop
    split
    · rfl
    · split
      next => simp
      next h => simp [ih, State.copyRecord_stored h]

@[simp] theorem State.copyStart_stored : s.copyStart.stored = s.stored := by simp [State.copyStart]

@[simp] theorem State.epochClose_stored (peek : State → Nat → Nat) : (s.epochClose peek).stored = s.stored := by
  simp [State.epochClose]

@[simp] theorem State.journalAgain_stored : s.journalAgain.stored = s.stored := by simp [State.journalAgain]
@[simp] theorem State.demote_stored : s.demote.stored = s.stored := by simp [State.demote]
@[simp] theorem State.disband_stored : s.disband.stored = s.stored := by simp [State.disband]

@[simp] theorem wrMiCfg_stored : (wrMiCfg m w s).stored = s.stored := by
  unfold wrMiCfg
  dsimp only
  repeat' split
  all_goals simp

@[simp] theorem wrMiCmd_stored (peek : State → Nat → Nat) : (wrMiCmd peek m w s).stored = s.stored := by simp [wrMiCmd]

end Units

end Sys2Proof.Machine
end

section
/-! O58: what is stored, under the operations of the Lodge, of the gatehouse and of upkeep. -/

namespace Sys2Proof.Machine

section Units

variable {s t : State} {m : Master} {c cmd detail i id k key kind l level lv n obj on op p phase plot q r result
  slot st state usage v w : Nat}

/-! The Lodge's peripherals (spec/16). -/

@[simp] theorem State.periphPush_stored (q : Fifo) : (s.periphPush q i v).stored = s.stored := by
  simp [State.periphPush]

theorem State.periphPop_stored {q : Fifo} (h : s.periphPop q i = some (v, t)) : t.stored = s.stored := by
  unfold State.periphPop at h
  split at h <;> cases h
  simp

@[simp] theorem State.periphRead_stored (valid : Nat) : (s.periphRead m i valid).2.stored = s.stored := by
  unfold State.periphRead
  split
  next => rfl
  next h => simp [State.periphPop_stored h]

theorem State.periphClaim_stored {reserved : Bool} {pins : List Nat} (h : s.periphClaim lv obj reserved pins = .inr t) :
    t.stored = s.stored := by
  unfold State.periphClaim at h
  split at h
  · cases h
  · split at h
    · cases h
    · exact State.claimAll_stored h

@[simp] theorem wrPeriphCfg_stored : (wrPeriphCfg m i w s).stored = s.stored := by
  unfold wrPeriphCfg
  dsimp only
  split
  · simp
  · split
    · simp
    · split
      next => simp
      next h =>
        have claimed := State.periphClaim_stored h
        split
        · split
          next hp => simpa [claimed] using State.periphPop_stored hp
          next => simpa using claimed
        · simpa using claimed

@[simp] theorem State.gpioOut_stored : s.gpioOut.stored = s.stored := by simp [State.gpioOut]

@[simp] theorem wrGpoe_stored : (wrGpoe m w s).stored = s.stored := by
  refine State.gpioOut_stored.trans (foldl_stored fun u g => ?_)
  dsimp only
  split
  · simp
  · split
    · split
      next => simp
      next h => simp [State.periphClaim_stored h]
    · rfl

@[simp] theorem wrSdata_stored : (wrSdata m k w s).stored = s.stored := by simp [wrSdata]
@[simp] theorem rdSdata_stored : (rdSdata m k s).2.stored = s.stored := by simp [rdSdata]

@[simp] theorem icDrain_stored (f : Nat) : (icDrain f k s).stored = s.stored := by
  induction f generalizing s with
  | zero => rfl
  | succ f ih =>
    unfold icDrain
    split
    · rfl
    · split
      next => rfl
      next h => simp [ih, State.periphPop_stored h]

@[simp] theorem wrIdata_stored : (wrIdata m k w s).stored = s.stored := by simp [wrIdata]
@[simp] theorem rdIdata_stored : (rdIdata m k s).2.stored = s.stored := by simp [rdIdata]

/-! The Lodge core (spec/16). -/

@[simp] theorem State.forget_stored (fs : List Field) : (s.forget fs).stored = s.stored := stored_eq rfl rfl
@[simp] theorem State.unhalt_stored : s.unhalt.stored = s.stored := by simp [State.unhalt]
@[simp] theorem State.coreReset_stored : (s.coreReset st).stored = s.stored := by simp [State.coreReset]
@[simp] theorem State.xtDrive_stored : s.xtDrive.stored = s.stored := by simp [State.xtDrive]
@[simp] theorem State.coreResume_stored : s.coreResume.stored = s.stored := by simp [State.coreResume]
@[simp] theorem State.coreStop_stored : s.coreStop.stored = s.stored := by simp [State.coreStop]
@[simp] theorem State.coreOff_stored : s.coreOff.stored = s.stored := by simp [State.coreOff]
@[simp] theorem wrLgCtl_stored : (wrLgCtl m w s).stored = s.stored := by simp [wrLgCtl]
@[simp] theorem State.debugLock_stored : s.debugLock.stored = s.stored := by simp [State.debugLock]

/-! Pace and voltage (spec/02). -/

@[simp] theorem State.avsSend_stored : (s.avsSend phase).stored = s.stored := by simp [State.avsSend]
@[simp] theorem State.commit_stored : (s.commit v).stored = s.stored := by simp [State.commit]
@[simp] theorem State.govStopped_stored : s.govStopped.stored = s.stored := by simp [State.govStopped]
@[simp] theorem State.avsIdle_stored : s.avsIdle.stored = s.stored := by simp [State.avsIdle]
@[simp] theorem State.freeze_stored : s.freeze.stored = s.stored := by simp [State.freeze]
@[simp] theorem State.avsBad_stored : s.avsBad.stored = s.stored := by simp [State.avsBad]
@[simp] theorem State.avsReadGood_stored : (s.avsReadGood v).stored = s.stored := by simp [State.avsReadGood]

@[simp] theorem State.avsGood_stored : (s.avsGood v).stored = s.stored := by
  unfold State.avsGood
  dsimp only
  repeat' split
  all_goals simp

@[simp] theorem wrGovCtl_stored : (wrGovCtl m w s).stored = s.stored := by
  unfold wrGovCtl
  dsimp only
  repeat' split
  all_goals simp

/-! Keys and the command interface (spec/17). -/

@[simp] theorem State.clearRange_stored (lo hi : Nat) : (s.clearRange lo hi).stored = s.stored := stored_eq rfl rfl
@[simp] theorem State.dropLists_stored (qs : List Fifo) : (s.dropLists qs).stored = s.stored := stored_eq rfl rfl
@[simp] theorem State.keySet_stored : (s.keySet k key usage).stored = s.stored := by simp [State.keySet]
@[simp] theorem State.keyClear_stored : (s.keyClear k).stored = s.stored := by simp [State.keyClear]
@[simp] theorem State.keyErase_stored : (s.keyErase k).stored = s.stored := by simp [State.keyErase]
@[simp] theorem State.cmdStatus_stored : (s.cmdStatus state result).stored = s.stored := by simp [State.cmdStatus]
@[simp] theorem State.keyApply_stored : (s.keyApply k).stored = s.stored := by simp [State.keyApply]
@[simp] theorem State.keyUse_stored : (s.keyUse k).stored = s.stored := by simp [State.keyUse]
@[simp] theorem State.keyDone_stored : (s.keyDone k).stored = s.stored := by simp [State.keyDone]
@[simp] theorem State.bufClear_stored : s.bufClear.stored = s.stored := by simp [State.bufClear]
@[simp] theorem State.cmdFree_stored : s.cmdFree.stored = s.stored := by simp [State.cmdFree]
@[simp] theorem State.cmdOver_stored : s.cmdOver.stored = s.stored := by simp [State.cmdOver]
@[simp] theorem State.cmdDone_stored : s.cmdDone.stored = s.stored := by simp [State.cmdDone]

@[simp] theorem State.cmdFailAs_stored (rc : Rc) : (s.cmdFailAs rc obj detail).stored = s.stored := by
  simp [State.cmdFailAs]

@[simp] theorem State.cmdFail_stored (rc : Rc) : (s.cmdFail rc obj).stored = s.stored := by simp [State.cmdFail]

/-! Entry into DORMANT (spec/21). -/

@[simp] theorem wrDmctl_stored : (wrDmctl m w s).stored = s.stored := by
  unfold wrDmctl
  repeat' split
  all_goals simp

@[simp] theorem State.channelsFollow_stored : s.channelsFollow.stored = s.stored := by simp [State.channelsFollow]
@[simp] theorem State.btSleep_stored : s.btSleep.stored = s.stored := by simp [State.btSleep]
@[simp] theorem State.tbSleep_stored : s.tbSleep.stored = s.stored := by simp [State.tbSleep]

/-! Gatehouse commands (spec/17). -/

@[simp] theorem wrCmdown_stored : (wrCmdown m w s).stored = s.stored := by simp [wrCmdown]
@[simp] theorem State.bufPut_stored (l : List Nat) : (s.bufPut l).stored = s.stored := by simp [State.bufPut]
@[simp] theorem State.keyCmdEnd_stored : (s.keyCmdEnd op).stored = s.stored := by simp [State.keyCmdEnd]

@[simp] theorem State.ghCommand_stored {body : State → State} (hb : ∀ u, (body u).stored = u.stored) :
    (s.ghCommand m op body).stored = s.stored := by
  unfold State.ghCommand
  dsimp only
  repeat' split
  all_goals simp [hb]

@[simp] theorem State.cmdFailSlot_stored (c : Rc) : (s.cmdFailSlot c k).stored = s.stored := by simp [State.cmdFailSlot]
@[simp] theorem State.keyStore_stored : (s.keyStore k key usage).stored = s.stored := by simp [State.keyStore]

@[simp] theorem runKeyWrite_stored : (runKeyWrite s).stored = s.stored := by
  unfold runKeyWrite
  extract_lets a k kek plain
  repeat' split
  all_goals simp

@[simp] theorem endKeyWrite_stored : (endKeyWrite s).stored = s.stored := by simp [endKeyWrite]
@[simp] theorem runKeyErase_stored : (runKeyErase s).stored = s.stored := by simp [runKeyErase]

@[simp] theorem runKeyWrap_stored : (runKeyWrap s).stored = s.stored := by
  unfold runKeyWrap
  dsimp only
  repeat' split
  all_goals simp

@[simp] theorem endKeyWrap_stored : (endKeyWrap s).stored = s.stored := by simp [endKeyWrap]

@[simp] theorem State.cmdVerify_stored (r : Option (Option Rc)) : (s.cmdVerify r).stored = s.stored := by
  unfold State.cmdVerify
  repeat' split
  all_goals simp

@[simp] theorem runPkProgram_stored : (runPkProgram s).stored = s.stored := by simp [runPkProgram]
@[simp] theorem endPkProgram_stored : (endPkProgram s).stored = s.stored := by simp [endPkProgram]
@[simp] theorem runPkRevoke_stored : (runPkRevoke s).stored = s.stored := by simp [runPkRevoke]
@[simp] theorem State.debugEnd_stored : s.debugEnd.stored = s.stored := by simp [State.debugEnd]
@[simp] theorem endPkRevoke_stored : (endPkRevoke s).stored = s.stored := by simp [endPkRevoke]
@[simp] theorem runSeal_stored : (runSeal s).stored = s.stored := by simp [runSeal]

@[simp] theorem State.debugGrant_stored : (s.debugGrant level slot detail).stored = s.stored := by
  simp [State.debugGrant]

@[simp] theorem State.debugFailed_stored : s.debugFailed.stored = s.stored := by simp [State.debugFailed]

@[simp] theorem runDebugUnlock_stored : (runDebugUnlock s).stored = s.stored := by
  unfold runDebugUnlock
  dsimp only
  repeat' split
  all_goals simp

@[simp] theorem endDebugUnlock_stored : (endDebugUnlock s).stored = s.stored := by simp [endDebugUnlock]
@[simp] theorem runDebugLock_stored : (runDebugLock s).stored = s.stored := by simp [runDebugLock]

/-! Containers and the start of a release (spec/18). -/

theorem State.releaseCheck_stored (h : s.releaseCheck = .inr t) : t.stored = s.stored := by
  unfold State.releaseCheck at h
  split at h
  · cases h
  · split at h
    · cases h
    · split at h
      · cases h
      · split at h
        · cases h
        · exact State.arrayClaims_stored h

@[simp] theorem wrGhCtl_stored : (wrGhCtl m w s).stored = s.stored := by
  unfold wrGhCtl
  split
  · split
    next => simp
    next h => simp [State.releaseCheck_stored h]
  · rfl

@[simp] theorem State.ctBegin_stored (flash : Bool) : (s.ctBegin on flash plot).stored = s.stored := by
  simp [State.ctBegin]

@[simp] theorem runLoadStart_stored : (runLoadStart s).stored = s.stored := by simp [runLoadStart]

@[simp] theorem updDrop_stored (f : Nat) : (updDrop n f s).stored = s.stored := by
  induction f generalizing s with
  | zero => rfl
  | succ f ih =>
    unfold updDrop
    split
    next h => simp [ih, State.hxHead_stored h]
    next => rfl

theorem State.updHead_stored (h : s.updHead n k = some (p, t)) : t.stored = s.stored := by
  unfold State.updHead at h
  split at h
  next hu =>
    split at h <;> cases h
    simp [State.hxHead_stored hu]
  next => cases h

/-! Field update (spec/19). -/

@[simp] theorem State.upRelease_stored : s.upRelease.stored = s.stored := by simp [State.upRelease]
@[simp] theorem State.upForget_stored : s.upForget.stored = s.stored := by simp [State.upForget]
@[simp] theorem State.upClear_stored : s.upClear.stored = s.stored := by simp [State.upClear]
@[simp] theorem State.upAsk_stored (retry : Bool) : (s.upAsk retry).stored = s.stored := by simp [State.upAsk]
@[simp] theorem State.upAnnounce_stored : s.upAnnounce.stored = s.stored := by simp [State.upAnnounce]
@[simp] theorem State.upAccept_stored : s.upAccept.stored = s.stored := by simp [State.upAccept]
@[simp] theorem State.upTurnAway_stored : (s.upTurnAway id).stored = s.stored := by simp [State.upTurnAway]

@[simp] theorem State.upProceed_stored : s.upProceed.stored = s.stored := by
  unfold State.upProceed
  dsimp only
  repeat' split
  all_goals simp

/-! Upkeep (spec/20). -/

@[simp] theorem wrCsctl_stored : (wrCsctl m w s).stored = s.stored := by simp [wrCsctl]

/-! The SMBus target (spec/20). -/

@[simp] theorem State.smbViolation_stored : (s.smbViolation kind).stored = s.stored := by simp [State.smbViolation]
@[simp] theorem State.smbNack_stored : (s.smbNack cmd).stored = s.stored := by simp [State.smbNack]

@[simp] theorem State.smbAt_stored {f : State → State} (hf : ∀ u, (f u).stored = u.stored) :
    (s.smbAt cmd f).stored = s.stored := by
  simp [State.smbAt, hf]

/-! Debug (spec/16). -/

@[simp] theorem State.dmCustomWrite_stored : (s.dmCustomWrite w).stored = s.stored := by
  unfold State.dmCustomWrite
  dsimp only
  split
  · split
    · simp
    · split
      next => simp
      next h => simpa using State.claimAll_stored h
  · simp

end Units

end Sys2Proof.Machine
end

section
/-! O58: each command of the list keeps the words of the memories and the log's ring. -/

namespace Sys2Proof.Machine

section Commands

variable {s : State} {m : Master}

theorem mem_ring_of_stored {t : State} (h : t.stored = s.stored) : t.mem = s.mem ∧ t.ring = s.ring := Prod.ext_iff.mp h

theorem keepsMemory_of_live {c : Instr} {k : State → State} (hc : exec c s = live s k)
    (hk : (k s).stored = s.stored) : KeepsMemory c s := by
  intro t ht
  rw [hc] at ht
  by_cases awake : Awake s
  · obtain ⟨hm, hr⟩ := mem_ring_of_stored hk
    cases (live_awake k awake).symm.trans ht
    exact ⟨(deliver_mem ..).trans hm, (deliver_ring ..).trans hr⟩
  · cases (live_reset k awake).symm.trans ht
    exact ⟨rfl, rfl⟩

/-- A register write stores nothing, answered or not, where the effect of its register stores nothing. -/
theorem keepsMemory_of_write {c : Instr} {off w : Nat} {k : State → State}
    (hc : exec c s = live s fun s => s.onWrite m off w k) (hk : ∀ u, (k u).stored = u.stored) : KeepsMemory c s :=
  keepsMemory_of_live hc (State.onWrite_stored hk)

theorem keepsMemory_of_ghCommand {c : Instr} {op : Nat} {body : State → State}
    (hc : exec c s = live s fun s => s.onWrite m 0x24 op fun s => s.ghCommand m op body)
    (hb : ∀ u, (body u).stored = u.stored) : KeepsMemory c s :=
  keepsMemory_of_write hc fun _ => State.ghCommand_stored hb

/-! Pace and voltage, MAC cells, clocks (spec/02, spec/04, spec/06). -/

theorem avsFrameDone_keepsMemory (r : AvsResult) : KeepsMemory (.avsFrameDone r) s :=
  keepsMemory_of_live (exec_avsFrameDone ..) <| by
    dsimp only
    split
    · rfl
    · cases r with
      | good v => simp
      | bad => simp
      | notExecuted => simp

theorem macOperation_keepsMemory (n : Fin 3072) (op : BitVec 5) (a b d : BitVec 27) :
    KeepsMemory (.macOperation n op a b d) s :=
  keepsMemory_of_live (exec_macOperation ..) <| by simp

theorem synLockLost_keepsMemory (k : Fin 6) : KeepsMemory (.synLockLost k) s :=
  keepsMemory_of_live (exec_synLockLost ..) <| by simp

theorem slewStep_keepsMemory (j : Fin 16) : KeepsMemory (.slewStep j) s :=
  keepsMemory_of_live (exec_slewStep ..) <| by simp

/-! Crossing ports (spec/07). -/

theorem xpArrayAck_keepsMemory (x : Fin 256) (data : BitVec 64) (stat : BitVec 4) :
    KeepsMemory (.xpArrayAck x data stat) s :=
  keepsMemory_of_live (exec_xpArrayAck ..) <| by
    split
    · rfl
    split
    · split
      next h => simp [State.xpPop_stored h]
      next => rfl
    split
    · rfl
    split
    · simp
    split
    next => rfl
    next h => split <;> simp [State.xpPop_stored h]

theorem xpIslandPut_keepsMemory (x : Fin 256) (data : BitVec 64) (side : BitVec 8) :
    KeepsMemory (.xpIslandPut x data side) s :=
  keepsMemory_of_live (exec_xpIslandPut ..) <| by
    dsimp only
    repeat' split
    all_goals simp

theorem xpIslandTake_keepsMemory (x : Fin 256) : KeepsMemory (.xpIslandTake x) s :=
  keepsMemory_of_live (exec_xpIslandTake ..) <| by
    dsimp only
    split
    · rfl
    split
    · split
      next h => simp [State.xpTake_stored h]
      next => rfl
    split
    · rfl
    split
    · split
      · rfl
      · split
        next h => simp [State.xpTake_stored h]
        next => simp
    · split
      · rfl
      · split
        next h => simp [State.xpTake_stored h]
        next => simp
    · split <;> simp
    · rfl

theorem pacedPairMove_keepsMemory (a : Fin 128) : KeepsMemory (.pacedPairMove a) s :=
  keepsMemory_of_live (exec_pacedPairMove ..) <| by
    split
    · split
      · split
        next h => simp [State.xpTake_stored h]
        next => rfl
      · rfl
    · rfl

/-! Time, cues and timers, the Orangery engine (spec/08, spec/09, spec/10). -/

theorem tagEdge_keepsMemory (n : Fin 96) (rising : Bool) (ago : BitVec 24) : KeepsMemory (.tagEdge n rising ago) s :=
  keepsMemory_of_live (exec_tagEdge ..) <| by simp

theorem bsUnitEnable_keepsMemory (unit : BsUnit) (w : Word) : KeepsMemory (.bsUnitEnable m unit w) s :=
  keepsMemory_of_live (exec_bsUnitEnable ..) <| by
    cases unit with
    | converter n => exact State.onWrite_stored fun _ => wrTtCfg_stored
    | cue c => exact State.onWrite_stored fun _ => wrCuCfg_stored
    | route d => exact State.onWrite_stored fun _ => wrRt_stored
    | tagger l => exact State.onWrite_stored fun _ => wrLbtCtl_stored

theorem timerTick_keepsMemory (lfxo : Bool) : KeepsMemory (.timerTick lfxo) s :=
  keepsMemory_of_live (exec_timerTick ..) <| by simp

theorem contextInputReady_keepsMemory (c : Fin 64) : KeepsMemory (.contextInputReady c) s :=
  keepsMemory_of_live (exec_contextInputReady ..) <| by simp

/-! The ports of the fabric (spec/14). -/

theorem hxInit_keepsMemory (n : Fin 8) (w : BitVec 64) : KeepsMemory (.hxInit n w) s :=
  keepsMemory_of_live (exec_hxInit ..) <| by simp

theorem wakeTExpiry_keepsMemory (n : Fin 8) : KeepsMemory (.wakeTExpiry n) s :=
  keepsMemory_of_live (exec_wakeTExpiry ..) <| by simp

theorem replayTimeout_keepsMemory (n : Fin 8) : KeepsMemory (.replayTimeout n) s :=
  keepsMemory_of_live (exec_replayTimeout ..) <| by simp

theorem packetReceive_keepsMemory (n : Fin 8) (x : LineItem) : KeepsMemory (.packetReceive n x) s :=
  keepsMemory_of_live (exec_packetReceive ..) <| by
    dsimp only
    split
    · rfl
    · cases x with
      | reservedBlock => simp
      | strayData => simp
      | earlySop => simp
      | packet lseq header payload trailer => simp

theorem sendHead_findSome_stored (n : Nat) (ks : List Nat) :
    ((ks.findSome? fun k => s.sendHead n k).getD s).stored = s.stored := by
  cases sent : ks.findSome? fun k => s.sendHead n k with
  | none => rfl
  | some t =>
    obtain ⟨k, -, hk⟩ := List.exists_of_findSome?_eq_some sent
    exact State.sendHead_stored hk

theorem packetSend_keepsMemory (n : Fin 8) (timeSpent : Bool) (aged : BitVec 7) :
    KeepsMemory (.packetSend n timeSpent aged) s :=
  keepsMemory_of_live (exec_packetSend ..) <| by
    dsimp only
    split
    · rfl
    split
    · split <;> simp
    split
    · rfl
    split
    · split <;> simp
    · exact sendHead_findSome_stored ..

theorem ack_keepsMemory (n : Fin 8) (seq : BitVec 12) (nak : Bool) : KeepsMemory (.ack n seq nak) s :=
  keepsMemory_of_live (exec_ack ..) <| by
    dsimp only
    repeat' split
    all_goals simp

/-! What the other devices of the fabric send (spec/14). -/

theorem advert_keepsMemory (n : Fin 9) : KeepsMemory (.advert n) s :=
  keepsMemory_of_live (exec_advert ..) <| by
    dsimp only
    split
    next h => simp [State.hxHead_stored h]
    next => rfl

theorem assign_keepsMemory (n : Fin 9) : KeepsMemory (.assign n) s :=
  keepsMemory_of_live (exec_assign ..) <| by
    dsimp only
    split
    next h => simp [State.hxHead_stored h]
    next => rfl

theorem route_keepsMemory (n : Fin 9) : KeepsMemory (.route n) s :=
  keepsMemory_of_live (exec_route ..) <| by
    dsimp only
    split
    next h => simp [State.hxHead_stored h]
    next => rfl

theorem electTExpiry_keepsMemory : KeepsMemory .electTExpiry s :=
  keepsMemory_of_live (exec_electTExpiry ..) <| by simp

theorem tokens_keepsMemory (n : Fin 9) : KeepsMemory (.tokens n) s :=
  keepsMemory_of_live (exec_tokens ..) <| State.chPacketOf_stored _ fun u e p => by simp

theorem channelCredit_keepsMemory (n : Fin 9) : KeepsMemory (.channelCredit n) s :=
  keepsMemory_of_live (exec_channelCredit ..) <| State.chPacketOf_stored _ fun u e p => by simp

theorem probeReply_keepsMemory (n : Fin 9) : KeepsMemory (.probeReply n) s :=
  keepsMemory_of_live (exec_probeReply ..) <| State.chPacketOf_stored _ fun u e p => by simp

theorem channelOpen_keepsMemory (n : Fin 9) : KeepsMemory (.channelOpen n) s :=
  keepsMemory_of_live (exec_channelOpen ..) <| by
    dsimp only
    split
    next h => simp [State.hxHead_stored h]
    next => rfl

theorem break_keepsMemory (n : Fin 9) : KeepsMemory (.break n) s :=
  keepsMemory_of_live (exec_break ..) <| by
    dsimp only
    split
    next h => simp [State.hxHead_stored h]
    next => rfl

theorem dresp_keepsMemory (n : Fin 9) : KeepsMemory (.dresp n) s :=
  keepsMemory_of_live (exec_dresp ..) <| by
    dsimp only
    split
    next h => simp [State.hxHead_stored h]
    next => rfl

theorem probeTimer_keepsMemory (e : Fin 4096) : KeepsMemory (.probeTimer e) s :=
  keepsMemory_of_live (exec_probeTimer ..) <| by simp

/-! The mirrored pair (spec/15). -/

theorem epochAck_keepsMemory : KeepsMemory .epochAck s :=
  keepsMemory_of_live (exec_epochAck ..) <| by
    dsimp only
    split
    next => rfl
    next h => simp [State.mirHead_stored h]

theorem leaseLost_keepsMemory : KeepsMemory .leaseLost s :=
  keepsMemory_of_live (exec_leaseLost ..) <| by simp

/-! The Lodge and debug (spec/16). -/

theorem peripheralEnable_keepsMemory (p : Periph) (w : Word) : KeepsMemory (.peripheralEnable m p w) s :=
  keepsMemory_of_live (exec_peripheralEnable ..) <| by
    cases p with
    | host i => exact State.onWrite_stored fun _ => wrPeriphCfg_stored
    | gpio => exact State.onWrite_stored fun _ => wrGpoe_stored

theorem spiDataAccess_keepsMemory (k : Fin 2) (w : Option Word) : KeepsMemory (.spiDataAccess m k w) s :=
  keepsMemory_of_live (exec_spiDataAccess ..) <| by
    cases w with
    | some v => exact State.onWrite_stored fun _ => wrSdata_stored
    | none => exact State.onRead_stored fun _ => rdSdata_stored

theorem i2cDataAccess_keepsMemory (k : Fin 2) (w : Option Word) : KeepsMemory (.i2cDataAccess m k w) s :=
  keepsMemory_of_live (exec_i2cDataAccess ..) <| by
    cases w with
    | some v => exact State.onWrite_stored fun _ => wrIdata_stored
    | none => exact State.onRead_stored fun _ => rdIdata_stored

theorem dmcustom0Write_keepsMemory (w : Word) : KeepsMemory (.dmcustom0Write w) s :=
  keepsMemory_of_live (exec_dmcustom0Write ..) <| by simp

/-! The gatehouse, field update and upkeep (spec/17 to spec/21). -/

theorem cmdInterfaceTimeout_keepsMemory : KeepsMemory .cmdInterfaceTimeout s :=
  keepsMemory_of_live (exec_cmdInterfaceTimeout ..) <| by simp

theorem ghCommandEnd_keepsMemory : KeepsMemory .ghCommandEnd s :=
  keepsMemory_of_live (exec_ghCommandEnd ..) <| by
    split <;> simp

theorem cfgNone_keepsMemory : KeepsMemory .cfgNone s :=
  keepsMemory_of_live (exec_cfgNone ..) <| by
    split
    next => rfl
    next h => simp [State.updHead_stored h]

theorem announce_keepsMemory (n : Fin 8) : KeepsMemory (.announce n) s :=
  keepsMemory_of_live (exec_announce ..) <| by
    dsimp only
    split
    next => rfl
    next h => simp [State.updHead_stored h]

theorem prologue_keepsMemory (n : Fin 8) : KeepsMemory (.prologue n) s :=
  keepsMemory_of_live (exec_prologue ..) <| by
    dsimp only
    split
    next => rfl
    next h => simp [State.updHead_stored h]

theorem smbReservedCommand_keepsMemory (code : BitVec 8) (write : Bool) :
    KeepsMemory (.smbReservedCommand code write) s :=
  keepsMemory_of_live (exec_smbReservedCommand ..) <| State.smbAt_stored fun u => by simp

theorem dormantEntryStart_keepsMemory : KeepsMemory .dormantEntryStart s :=
  keepsMemory_of_live (exec_dormantEntryStart ..) <| by simp

theorem dormantEntryStop_keepsMemory : KeepsMemory .dormantEntryStop s :=
  keepsMemory_of_live (exec_dormantEntryStop ..) <| by simp

theorem vbattOutOfRange_keepsMemory : KeepsMemory .vbattOutOfRange s := by
  intro t ht
  cases (exec_vbattOutOfRange s).symm.trans ht
  exact mem_ring_of_stored (by simp)

end Commands

/-- Settles O58: none of the listed commands reaches an operation that stores a word, clears a memory or appends to
the ring, so each passes on what is stored. -/
theorem theseCommandsStoreToNoMemory : Obligations.TheseCommandsStoreToNoMemory := by
  unfold Obligations.TheseCommandsStoreToNoMemory
  intro s
  exact ⟨
    fun m w => ⟨
      keepsMemory_of_write (exec_rdholdWrite ..) fun _ => wrRdhold_stored,
      keepsMemory_of_write (exec_govEn ..) fun _ => wrGovCtl_stored,
      keepsMemory_of_write (exec_tbEn ..) fun _ => wrTbCtl_stored,
      keepsMemory_of_write (exec_endpointEnable ..) fun _ => wrEpCfg_stored,
      keepsMemory_of_write (exec_miEnable ..) fun _ => wrMiCfg_stored,
      keepsMemory_of_write (exec_coreRun ..) fun _ => wrLgCtl_stored⟩,
    fun r => avsFrameDone_keepsMemory r,
    fun n op a b d => macOperation_keepsMemory n op a b d,
    fun m q w => keepsMemory_of_write (exec_queueEnable ..) fun _ => wrQcfg_stored,
    fun m k w => ⟨
      keepsMemory_of_write (exec_synGo ..) fun _ => wrSynCtl_stored,
      keepsMemory_of_write (exec_synEn ..) fun _ => wrSynCtl_stored⟩,
    fun k => synLockLost_keepsMemory k,
    fun j => slewStep_keepsMemory j,
    fun m x w => keepsMemory_of_write (exec_xpEnable ..) fun _ => wrXpCfg_stored,
    fun x data stat => xpArrayAck_keepsMemory x data stat,
    fun x data side => xpIslandPut_keepsMemory x data side,
    fun x => xpIslandTake_keepsMemory x,
    fun a => pacedPairMove_keepsMemory a,
    fun n rising ago => tagEdge_keepsMemory n rising ago,
    fun m unit w => bsUnitEnable_keepsMemory unit w,
    fun m l => ⟨
      keepsMemory_of_write (exec_lbtArm ..) fun _ => wrLbtCtl_stored,
      keepsMemory_of_write (exec_inj ..) fun _ => wrLtest_stored⟩,
    fun m t w => keepsMemory_of_write (exec_timerEnable ..) fun _ => wrBtCtl_stored,
    fun m t on => keepsMemory_of_write (exec_timerRun ..) fun _ => wrBtCtl_stored,
    fun c => contextInputReady_keepsMemory c,
    fun m p w => keepsMemory_of_write (exec_pinEnable ..) fun _ => wrPinCfg_stored,
    fun m p => keepsMemory_of_write (exec_renew ..) fun _ => wrPclm_stored,
    fun m g w => keepsMemory_of_write (exec_serGroupEnable ..) fun _ => wrSercfg_stored,
    fun m g => keepsMemory_of_write (exec_bitslip ..) fun _ => wrSercfg_stored,
    fun m q w => keepsMemory_of_write (exec_qpllGo ..) fun _ => wrQctl_stored,
    fun m l w => ⟨
      keepsMemory_of_write (exec_laneEnable ..) fun _ => wrLcfg_stored,
      keepsMemory_of_write (exec_laneTestWrite ..) fun _ => wrLtest_stored⟩,
    fun m n w => keepsMemory_of_write (exec_hxPortEnable ..) fun _ => wrHxPcfg_stored,
    fun n w => hxInit_keepsMemory n w,
    fun n => ⟨wakeTExpiry_keepsMemory n, replayTimeout_keepsMemory n, announce_keepsMemory n, prologue_keepsMemory n⟩,
    fun m n => ⟨
      keepsMemory_of_write (exec_retrain ..) fun _ => wrHxPctl_stored,
      keepsMemory_of_write (exec_echo ..) fun _ => wrHxPctl_stored⟩,
    fun n x => packetReceive_keepsMemory n x,
    fun n timeSpent aged => packetSend_keepsMemory n timeSpent aged,
    fun n seq nak => ack_keepsMemory n seq nak,
    fun n => ⟨advert_keepsMemory n, assign_keepsMemory n, tokens_keepsMemory n, channelCredit_keepsMemory n,
      channelOpen_keepsMemory n, probeReply_keepsMemory n, break_keepsMemory n, dresp_keepsMemory n⟩,
    electTExpiry_keepsMemory, epochAck_keepsMemory, leaseLost_keepsMemory, cmdInterfaceTimeout_keepsMemory,
    cfgNone_keepsMemory, dormantEntryStart_keepsMemory, dormantEntryStop_keepsMemory, vbattOutOfRange_keepsMemory,
    ghCommandEnd_keepsMemory,
    fun n => route_keepsMemory n,
    fun e => probeTimer_keepsMemory e,
    fun m => ⟨
      keepsMemory_of_write (exec_resync ..) fun _ => wrMiCmd_stored _,
      keepsMemory_of_write (exec_disband ..) fun _ => wrMiCmd_stored _,
      keepsMemory_of_write (exec_cmdClaim ..) fun _ => wrCmdown_stored,
      keepsMemory_of_write (exec_cmdRelease ..) fun _ => wrCmdown_stored,
      keepsMemory_of_ghCommand (exec_keyWrite ..) fun _ => runKeyWrite_stored,
      keepsMemory_of_ghCommand (exec_keyErase ..) fun _ => runKeyErase_stored,
      keepsMemory_of_ghCommand (exec_keyWrap ..) fun _ => runKeyWrap_stored,
      keepsMemory_of_ghCommand (exec_loadStart ..) fun _ => runLoadStart_stored,
      keepsMemory_of_ghCommand (exec_rewrite ..) fun _ => runLoadStart_stored,
      keepsMemory_of_ghCommand (exec_serve ..) fun _ => runLoadStart_stored,
      keepsMemory_of_ghCommand (exec_debugUnlock ..) fun _ => runDebugUnlock_stored,
      keepsMemory_of_ghCommand (exec_debugUnlockResponse ..) fun _ => runDebugUnlock_stored,
      keepsMemory_of_ghCommand (exec_debugLock ..) fun _ => runDebugLock_stored,
      keepsMemory_of_ghCommand (exec_pkProgram ..) fun _ => runPkProgram_stored,
      keepsMemory_of_ghCommand (exec_pkRevoke ..) fun _ => runPkRevoke_stored,
      keepsMemory_of_ghCommand (exec_seal ..) fun _ => runSeal_stored,
      keepsMemory_of_write (exec_runEn ..) fun _ => wrGhCtl_stored,
      keepsMemory_of_write (exec_scan ..) fun _ => wrCsctl_stored,
      keepsMemory_of_write (exec_enter ..) fun _ => wrDmctl_stored⟩,
    fun m p w => peripheralEnable_keepsMemory p w,
    fun m k w => ⟨spiDataAccess_keepsMemory k w, i2cDataAccess_keepsMemory k w⟩,
    fun w => dmcustom0Write_keepsMemory w,
    fun m p => keepsMemory_of_write (exec_handback ..) fun _ => wrCsctl_stored,
    fun lfxo => timerTick_keepsMemory lfxo,
    fun code write => smbReservedCommand_keepsMemory code write⟩

end Sys2Proof.Machine
end

section
/-! O15: where the pointers of a lane lie when its number is beyond the 2,048 lanes of the device (R174, R177). -/

namespace Sys2Proof.Machine

/-- Queue 0 enabled with MANUAL 1 and an NL of 2097152, which its 3 bits cannot hold: LANE_W of lane 2097152 has the key
32 * (0xA00000 + 2097152) = 32 * 0xC00000, which is that of LANE_REL of lane 0. -/
def strayLaneCount : State :=
  { State.reset with
    cells := [(QM_QCFG.EN.key 0, 1), (QM_QCFG.NL.key 0, 2097152), (QM_QCFG.MANUAL.key 0, 1)] }

/-- A PUSH on lane 2097152 of queue 0. -/
def strayPush : QOp := { who := 0, queue := 0, op := opPUSH, lane := 2097152, any := false, block := false, data := 0 }

theorem strayLaneCount_size (x : Nat) : strayLaneCount.get QM_LCFG.SIZE x = 0 := by
  have size {k : Nat} (h : k < 32 * 0x14000) : ¬k = QM_LCFG.SIZE.key x := by
    simp only [QM_LCFG.SIZE, Field.key]
    omega
  have enable := size (k := QM_QCFG.EN.key 0) (by decide)
  have count := size (k := QM_QCFG.NL.key 0) (by decide)
  have manual := size (k := QM_QCFG.MANUAL.key 0) (by decide)
  simp only [strayLaneCount, State.get, Store.get, enable, count, manual, if_false]
  rfl

/-- The push is carried out; its write pointer, advanced by 1, is the release pointer of lane 0. -/
theorem strayPush_moves_rel :
    (strayLaneCount.qExec strayPush).map (fun a => a.2.get LANE_REL 0) = some 1 := by decide +kernel

/-- Refutes O15: its clause on MANUAL 1 speaks of every state and every lane number, also of a queue whose NL is
2097152, a value that its 3 bits cannot hold and no write leaves. There a PUSH on lane 2097152, which is no RELEASE,
advances the cell of LANE_REL of lane 0. (A hypothesis `s.get QM_QCFG.NL q < 8` would exclude this state.) -/
theorem not_pushAndPopMoveTheLane : ¬ Obligations.PushAndPopMoveTheLane := by
  unfold Obligations.PushAndPopMoveTheLane
  intro move
  obtain ⟨-, -, keepsRel, -⟩ := move strayLaneCount strayPush 0 rfl (by decide) (by decide) (by decide)
    fun x _ => (strayLaneCount_size x).trans_le (Nat.zero_le 14)
  obtain ⟨⟨r, t⟩, granted, moved⟩ := Option.map_eq_some_iff.mp strayPush_moves_rel
  have kept : t.get LANE_REL 0 = 0 := keepsRel (by decide) (by decide) r t granted 0 (by decide)
  exact absurd (moved.symm.trans kept) (by decide)

end Sys2Proof.Machine
end

section
/-! O16: what the lane arbiter answers a PUSH, POP or PEEK (R187, R189, R206, R207), and what a port makes of the answer
(R185, R187, R188, R204). -/

namespace Sys2Proof.Machine

/-! The lane arbiter. -/

section Arbiter

variable {s : State} {o : QOp} (he : s.get QM_QCFG.EN o.queue = 1) (hl : o.lane < s.lanes o.queue)
include he hl

/-- A PUSH on a lane of an enabled queue is judged by the lane alone. -/
theorem State.qExec_push (ho : o.op = opPUSH) (hs : s.secondary = false) :
    s.qExec o = s.qPush o (8 * o.queue + o.lane) := by
  simp [State.qExec, State.flag, he, ho, hs, Nat.not_le.mpr hl, opPUSH, opOPEN, opPOP, opPEEK, opMARK, opREWIND,
    opRELEASE, opOCC]

/-- So is a POP or PEEK of a named lane. -/
theorem State.qExec_read (ho : o.op = opPOP ∨ o.op = opPEEK) : s.qExec o = s.qRead o o.queue := by
  rcases ho with ho | ho <;>
    simp [State.qExec, State.flag, he, ho, Nat.not_le.mpr hl, opPOP, opPEEK, opMARK, opREWIND, opRELEASE]

end Arbiter

section Lanes

variable {s : State} {o : QOp}

/-- A non-blocking PUSH on a full lane without an open packet is refused and counted (R189). -/
theorem State.qPush_full {x : Nat} (ho : o.op = opPUSH) (hb : o.block = false) (hc : s.flag LANE_OPEN x = false)
    (hf : s.laneFull x = true) : s.qPush o x = some (⟨stFULL, 0, o.lane⟩, s.overflow x o.who) := by
  simp [State.qPush, ho, hb, hc, hf, opPUSH, opOPEN]

@[simp] theorem State.overflow_mem (s : State) (x who : Nat) : (s.overflow x who).mem = s.mem := by
  unfold State.overflow
  dsimp only
  split
  · rfl
  · rw [State.raise_mem]
    rfl

theorem State.overflow_count (s : State) (x who : Nat) :
    (s.overflow x who).get LANE_OVF x = min (s.get LANE_OVF x + 1) (2 ^ 32 - 1) := by
  have counted : (s.count LANE_OVF 1 x).get LANE_OVF x = min (s.get LANE_OVF x + 1) (2 ^ 32 - 1) :=
    State.get_count_self ..
  have apart {k : Nat} (h : k < 32 * 0x2E00000) : LANE_OVF.key x ≠ k := by
    simp only [LANE_OVF, Field.key]
    omega
  unfold State.overflow
  dsimp only
  split
  · exact counted
  · rw [State.raise_get _ _ _ _ (apart (by decide)) (apart (by decide)), State.get_put_ne _ _ (apart (by decide)),
      counted]

/-- A non-blocking POP or PEEK of a named lane that is not readable answers EMPTY (R187). -/
theorem State.qRead_empty {q : Nat} (ha : o.any = false) (hb : o.block = false)
    (hr : s.readable (8 * q + o.lane) = false) : s.qRead o q = some (⟨stEMPTY, 0, o.lane⟩, s) := by
  simp [State.qRead, ha, hb, hr]

/-- Whatever a PEEK answers, it leaves the state as it was or as the check of one stored word leaves it (R206, R207). -/
theorem State.qRead_peek {q : Nat} {r : QRes} {t : State} (ho : o.op = opPEEK) (h : s.qRead o q = some (r, t)) :
    t = s ∨ ∃ x v, t = (s.readSlot x v).2.2 := by
  unfold State.qRead at h
  extract_lets pick at h
  cases hp : pick with
  | none =>
    rw [hp] at h
    simp only [Option.ite_none_left_eq_some, Option.some.injEq, Prod.mk.injEq] at h
    exact .inl h.2.2.symm
  | some a =>
    obtain ⟨l, pos⟩ := a
    simp only [hp, ho, if_true] at h
    split at h <;> simp only [Option.some.injEq, Prod.mk.injEq] at h
    · exact .inl h.2.symm
    · exact .inr ⟨_, _, h.2.symm⟩

/-- The cells in which the check of a stored word counts and raises an error (R206, R207). -/
def slotErrorCells : List Nat :=
  cellsAt [QM_SECC.CE, QM_SECC.UE, QM_IRQ.CE, QM_IRQ.UE, BV_ALERT.MEM_UE] ++ cellsAt [BV_ERRSUM.COUNT] 2 ++
    cellsAt [BV_ERRSUM.COUNT] 3

/-- The check of a stored word writes the word back at most, then counts and raises what it has found. -/
theorem State.readSlot_within (s : State) (x v : Nat) :
    ∃ u : State, u.cells = s.cells ∧ u.Within (.logged slotErrorCells []) (s.readSlot x v).2.2 := by
  have cell {f : Field} {i : Nat} (h : f.key i ∈ slotErrorCells) :
      f.key i ∈ (Scope.logged slotErrorCells []).cells := h
  unfold State.readSlot
  extract_lets a w found u corrected counted
  cases found.kind with
  | clean => exact ⟨s, rfl, .refl⟩
  | corrected =>
    have corrected_within : u.Within (.logged slotErrorCells []) corrected :=
      .put (.put .refl (cell (by decide))) (cell (by decide))
    exact ⟨u, rfl, .branch (fun _ => corrected_within)
      fun _ => .raise (.put corrected_within (cell (by decide))) trivial⟩
  | uncorrectable =>
    have counted_within : s.Within (.logged slotErrorCells []) counted :=
      .put (.put (.put .refl (cell (by decide))) (cell (by decide))) (cell (by decide))
    exact ⟨s, rfl, .raise (.put counted_within (cell (by decide))) trivial⟩

/-- No read pointer is among those cells. -/
theorem State.readSlot_rd (s : State) (x v : Nat) {y : Nat} (hy : y < 2048) :
    (s.readSlot x v).2.2.get LANE_RD y = s.get LANE_RD y := by
  obtain ⟨u, cells, within⟩ := s.readSlot_within x v
  have apart {k : Nat} (h : k < 32 * 0xB00000 ∨ 32 * 0xB00800 ≤ k) : LANE_RD.key y ≠ k := by
    simp only [LANE_RD, Field.key]
    omega
  have below : ∀ k ∈ slotErrorCells, k < 32 * 0xB00000 := by decide
  rw [within.get (fun h => apart (.inl (below _ h)) rfl) (apart (by decide))
    fun _ => ⟨apart (by decide), apart (by decide)⟩, State.get, cells, State.get]

end Lanes

/-! What a port makes of the answer. -/

section Ports

variable {s : State} {o : QOp} (he : s.get QM_PCFG.EN o.who = 1)
include he

/-- An operation of the port's role on lanes that it may use ends at the port with the arbiter's answer, and what is
parked on the queue follows (R187, R204). -/
theorem State.portGrant_completes {r : QRes} {t : State} (h : s.qExec o = some (r, t))
    (ha : s.get QM_PCFG.ROLE o.who = 0 ∧ (o.op ≤ 3 ∨ o.op = 9) ∧ bit (s.get QM_PCFG.LANEMASK o.who) o.lane = true ∨
      s.get QM_PCFG.ROLE o.who = 1 ∧ 4 ≤ o.op ∧ o.op ≤ 9) :
    s.portGrant o = (t.portDone o.who r).regrantAll o.queue := by
  rcases ha with ⟨role, op, lane⟩ | ⟨role, op⟩
  · have producerOp : ¬(3 < o.op ∧ ¬o.op = 9) := by omega
    simp [State.portGrant, State.flag, he, h, role, producerOp, lane]
  · simp [State.portGrant, State.flag, he, h, role, op]

/-- A consumer's POP that cannot complete is parked, unless its plot is being fenced (R187, R188). -/
theorem State.portGrant_parks (h : s.qExec o = none) (hr : s.get QM_PCFG.ROLE o.who = 1) (ho : o.op = opPOP)
    (hf : s.get FB_PSTAT.STATE (portPlot o.who) ≠ pFENCING) :
    s.portGrant o = (s.put QP_STATE 2 o.who).enq PARKED o.code o.queue := by
  simp [State.portGrant, State.flag, he, h, hr, ho, hf, opPOP]

end Ports

theorem State.portDone_idle (s : State) (p : Nat) (r : QRes) : (s.portDone p r).get QP_STATE p = 0 := by
  rw [State.portDone, State.emit_get, State.get_put_self]
  rfl

/-- Settles O16: the port's clauses from what it makes of an answer, then a PUSH on a full lane, a POP or PEEK of a lane
that is not readable, and a PEEK by what the arbiter answers them. -/
theorem queuePortsCompleteTheirOperations : Obligations.QueuePortsCompleteTheirOperations := by
  unfold Obligations.QueuePortsCompleteTheirOperations
  intro s o p q hp hq
  rw [← hp, ← hq]
  refine fun en => ⟨fun r t h allowed => ?completes, fun h role pop live => ?parks, fun l enabled sec lane => ?lane⟩
  case completes => exact ⟨State.portGrant_completes en h allowed, t.portDone_idle _ r⟩
  case parks =>
    rw [State.portGrant_parks en h role pop (by rw [live]; decide)]
    refine ⟨?_, State.list_enq_self ..⟩
    rw [State.enq_get]
    exact State.get_put_self ..
  case lane =>
    rw [← lane]
    refine fun bound nonblocking => ⟨fun push closed full => ?full, fun read named unreadable => ?empty,
      fun peek named r t h y hy => ?peek⟩
    case full =>
      exact ⟨_, (State.qExec_push enabled bound push sec).trans (State.qPush_full push nonblocking closed full),
        State.overflow_mem .., State.overflow_count ..⟩
    case empty => exact (State.qExec_read enabled bound read).trans (State.qRead_empty named nonblocking unreadable)
    case peek =>
      rw [State.qExec_read enabled bound (.inr peek)] at h
      rcases State.qRead_peek peek h with unchanged | ⟨x, v, checked⟩
      · rw [unchanged]
      · rw [checked, State.readSlot_rd s x v hy]

end Sys2Proof.Machine
end

section
/-! Reads of what a command ends in: the messages that it sends leave all cells but the pending message bits, and
element k of one field is another cell than element k of another. -/

namespace Sys2Proof.Machine

section Commands

variable {c : Instr} {s : State} {P : State → Prop}

/-- A command that is carried out ends in a state that reads as its effect does. -/
theorem answers_live_same {k : State → State} (hc : exec c s = live s k) (ha : Awake s)
    (hp : ∀ t, (k s).SameCells t [] → P t) : Answers c s P :=
  answers_live hc ha (hp _ fun _ _ _ hm => deliver_get _ _ hm)

/-- A register write that is taken as it stands ends in a state that reads as the register's own effect does. -/
theorem answers_write_same {m : Master} {off w : Nat} {k : State → State}
    (hc : exec c s = live s fun s => s.onWrite m off w k) (hw : Writes m off s)
    (hp : ∀ t, (k s).SameCells t [] → P t) : Answers c s P := by
  refine answers_live_same hc hw.1 fun t same => hp t fun g j hg hm => ?_
  rw [same g j hg hm, State.onWrite_of hw, State.resend_get _ _ _ _ hm]

end Commands

section Elements

variable {s t : State} {f g : Field} {n : Nat}

theorem State.SameCells.get_eq (h : s.SameCells t []) {j : Nat} (hm : g.key j ≠ MSI_PEND.key 0) :
    t.get g j = s.get g j := h g j List.not_mem_nil hm

theorem State.SameCells.get_elem_eq (h : s.SameCells t []) (k : Fin n)
    (hm : ∀ k : Fin n, g.key k ≠ MSI_PEND.key 0) : t.get g k = s.get g k := h.get_eq (hm k)

theorem State.get_put_elem (s : State) (v : Nat) (k : Fin n) (h : ∀ k : Fin n, g.key k ≠ f.key k) :
    (s.put f v k).get g k = s.get g k := State.get_put_ne _ _ (h k)

/-- A register that is not an array is apart from all elements of one that is. -/
theorem State.get_elem_put (s : State) (v : Nat) (k : Fin n) (h : ∀ k : Fin n, g.key k ≠ f.key 0) :
    (s.put f v).get g k = s.get g k := State.get_put_ne _ _ (h k)

theorem State.raise_get_elem (s : State) (c : Rc) (obj d : Nat) (k : Fin n)
    (h : ∀ k : Fin n, g.key k ≠ EV_DROP.COUNT.key 0 ∧ g.key k ≠ DROP_EPISODE.key 0) :
    (s.raise c obj d).get g k = s.get g k := State.raise_get _ _ _ _ (h k).1 (h k).2

end Elements

theorem State.get_orBit_self (s : State) (f : Field) (n i : Nat) :
    (s.orBit f n i).get f i = setBit (s.get f i) n % 2 ^ f.width := State.get_put_self ..

theorem State.get_andBit_self (s : State) (f : Field) (n i : Nat) :
    (s.andBit f n i).get f i = clrBit (s.get f i) n % 2 ^ f.width := State.get_put_self ..

end Sys2Proof.Machine
end

section
/-! What the operations of spec/06 leave: the control clock, the control register of a synthesiser (R226 to R230), lock
and its loss (R229 to R236), the frequency meter (R241). -/

namespace Sys2Proof.Machine

/-! The control clock. -/

/-- What the fall back of CTL_CLK to the oscillator writes (R222). -/
def fallbackCells : List Nat := cellsAt [CK_CTL.CTL_SEL, CK_CTL.CTL_ACT, CK_IRQ.CTL_FB]

theorem State.Within.ctlFallback {s t : State} {S : Scope} (h : s.Within S t) (hl : S.logs)
    (hk : ∀ c ∈ fallbackCells, c ∈ S.cells) : s.Within S t.ctlFallback := by
  have cell {f : Field} (hf : f ∈ [CK_CTL.CTL_SEL, CK_CTL.CTL_ACT, CK_IRQ.CTL_FB]) : f.key 0 ∈ S.cells :=
    hk _ (mem_cellsAt hf)
  exact .branch (fun _ => .raise (.put (.put (.put h (cell (by simp))) (cell (by simp))) (cell (by simp))) hl)
    fun _ => h

section ControlClock

variable {s : State} {m : Master} {w : Nat}

theorem wrCkCtl_selects (hb : bit w 0 = true) (hs : s.get CK_CTL.CTL_SEL = 0)
    (hl : s.get CK_SYNSTAT.STATE 1 = ckLOCKED) : wrCkCtl m w s = (s.put CK_CTL.CTL_SEL 1).put CK_CTL.CTL_ACT 1 := by
  simp [wrCkCtl, State.flag, hb, hs, hl]

theorem wrCkCtl_refuses (hb : bit w 0 = true) (hs : s.get CK_CTL.CTL_SEL = 0)
    (hl : s.get CK_SYNSTAT.STATE 1 ≠ ckLOCKED) : wrCkCtl m w s = s.refuse Rc.CK_REF_ABSENT 1 m 0x4000 := by
  simp [wrCkCtl, State.flag, hb, hs, hl]

theorem wrCkCtl_releases (hb : bit w 0 = false) :
    wrCkCtl m w s = (s.put CK_CTL.CTL_SEL 0).put CK_CTL.CTL_ACT 0 := by
  simp [wrCkCtl, hb]

end ControlClock

/-! The control register of a synthesiser. -/

/-- The state in which a word written to CK_SYNCTL[k] is judged: a legal LOCK_T is stored. -/
def State.lockTimeSet (s : State) (k w : Nat) : State :=
  if CK_SYNCTL.LOCK_T.accepts (bits w 2 8) then s.put CK_SYNCTL.LOCK_T (bits w 2 8) k else s

theorem State.lockTimeSet_get (s : State) (k : Fin 6) (w : Nat) {g : Field}
    (h : ∀ k : Fin 6, g.key k ≠ CK_SYNCTL.LOCK_T.key k) : (s.lockTimeSet k w).get g k = s.get g k := by
  unfold State.lockTimeSet
  split
  · exact State.get_put_elem _ _ _ h
  · rfl

/-- Whatever block refuses, its REFUSE register is none of a synthesiser's. -/
theorem State.refuse_synState (s : State) (c : Rc) (obj : Nat) (m : Master) (off : Nat) (k : Fin 6) :
    (s.refuse c obj m off).get CK_SYNSTAT.STATE k = s.get CK_SYNSTAT.STATE k := by
  have block (b : Nat) : ∀ k : Fin 6, CK_SYNSTAT.STATE.key k ≠ (refuseCode b).key 0 ∧
      CK_SYNSTAT.STATE.key k ≠ (refuseObj b).key 0 := by
    unfold refuseObj refuseCode
    split <;> decide
  have shared : ∀ k : Fin 6, CK_SYNSTAT.STATE.key k ≠ GH_REFUSE.CODE.key 0 ∧
      CK_SYNSTAT.STATE.key k ≠ GH_REFUSE.OBJ.key 0 ∧ CK_SYNSTAT.STATE.key k ≠ EV_DROP.COUNT.key 0 ∧
      CK_SYNSTAT.STATE.key k ≠ DROP_EPISODE.key 0 := by decide
  obtain ⟨code, obj⟩ := block c.block k
  obtain ⟨ghCode, ghObj, count, episode⟩ := shared k
  exact State.refuseBy_get _ _ _ _ _ code obj ghCode ghObj count episode

section SynControl

variable {s : State} {m : Master} {k w : Nat}

/-- GO with EN set on values that pass Table CK-3 samples them and starts or changes the synthesiser (R227, R228). -/
theorem wrSynCtl_starts (hg : bit w 1 = true) (he : bit w 0 = true)
    (hc : (s.lockTimeSet k w).synCheck k (s.flag CK_SYNCTL.EN k) true true = none) :
    ∃ pol, wrSynCtl m k w s = (((s.lockTimeSet k w).synSample k).put CK_SYNCTL.EN 1 k).synStart k pol := by
  rw [State.lockTimeSet] at hc ⊢
  simp [wrSynCtl, hg, he, hc, b2n]

theorem wrSynCtl_refuses (hg : bit w 1 = true) (he : bit w 0 = true) {c : Rc} {obj : Nat}
    (hc : (s.lockTimeSet k w).synCheck k (s.flag CK_SYNCTL.EN k) true true = some (c, obj)) :
    wrSynCtl m k w s = (s.lockTimeSet k w).refuse c obj m (0x410C + 0x20 * k) := by
  rw [State.lockTimeSet] at hc ⊢
  simp [wrSynCtl, hg, he, hc]

/-- Clearing EN of an enabled synthesiser that nothing uses turns it off (R228). -/
theorem wrSynCtl_stops (hg : bit w 1 = false) (he : bit w 0 = false) (hn : s.get CK_SYNCTL.EN k = 1)
    (hc : (s.lockTimeSet k w).synCheck k true false false = none) :
    wrSynCtl m k w s = ((s.lockTimeSet k w).put CK_SYNCTL.EN 0 k).synOff k := by
  rw [State.lockTimeSet] at hc ⊢
  simp [wrSynCtl, State.flag, hg, he, hn, hc, b2n]

end SynControl

section Synthesiser

variable (s : State) (k : Fin 6)

theorem State.synSample_n : (s.synSample k).get SYN_N k = s.get CK_SYNCFGA.N k % 2 ^ SYN_N.width := by
  simp (disch := decide) only [State.synSample, State.get_put_elem, State.get_put_self]
  rfl

theorem State.synStart_state (pol : Nat) : (s.synStart k pol).get CK_SYNSTAT.STATE k = ckACQUIRE := by
  simp (disch := decide) only [State.synStart, State.get_put_elem, State.get_put_self]
  rfl

theorem State.synStart_busy (pol : Nat) : (s.synStart k pol).get CK_SYNSTAT.BUSY k = 1 := State.get_put_self ..

/-- The fields of a synthesiser that its start or change writes. -/
def startFields : List Field :=
  [STAGE_POL, STAGE_NEXT, STAGE_FREQ, CK_OSTAT.PHASE, CK_SYNSTAT.STATE, CK_SYNSTAT.BUSY]

theorem State.Within.synStart {s t : State} {S : Scope} (h : s.Within S t) (k pol : Nat) (hl : S.logs)
    (hf : ∀ c ∈ fallbackCells, c ∈ S.cells) (hk : ∀ c ∈ cellsAt startFields k, c ∈ S.cells) :
    s.Within S (t.synStart k pol) := by
  have cell {f : Field} (hf : f ∈ startFields) : f.key k ∈ S.cells := hk _ (mem_cellsAt hf)
  have staged {u : State} (hu : s.Within S u) (p next : Nat) : s.Within S (u.stageStart k p next) := by
    have begun := State.Within.put (v := next) (State.Within.put (v := p) hu (cell (f := STAGE_POL) (by decide)))
      (cell (f := STAGE_NEXT) (by decide))
    exact .branch (fun _ => .put (.put begun (cell (by decide))) (cell (by decide)))
      fun _ => .put begun (cell (by decide))
  exact .put (.put (staged (.branch (fun _ => h.ctlFallback hl hf) fun _ => h) _ _) (cell (by decide)))
    (cell (by decide))

/-- The start leaves the enable and the sampled dividers. -/
theorem State.synStart_get (pol : Nat) {g : Field} (hg : g ∈ [CK_SYNCTL.EN, SYN_N]) :
    (s.synStart k pol).get g k = s.get g k := by
  have apart : ∀ k : Fin 6, ∀ c ∈ cellsAt [CK_SYNCTL.EN, SYN_N] k,
      c ∉ fallbackCells ∧ c ∉ cellsAt startFields k ∧ c ∉ noiseCells := by decide
  refine (State.Within.refl.synStart k pol (S := .outside (cellsAt [CK_SYNCTL.EN, SYN_N] k)) trivial
    (fun c hc hk => (apart k c hk).1 hc) fun c hc hk => (apart k c hk).2.1 hc).get_outside (mem_cellsAt hg) ?_
  exact (apart k _ (mem_cellsAt hg)).2.2

theorem State.synOff_results :
    (s.synOff k).get CK_SYNSTAT.STATE k = ckOFF ∧ (s.synOff k).get STAGE_FREQ k = 0 ∧
      (s.synOff k).get CK_SYNCTL.EN k = s.get CK_SYNCTL.EN k := by
  simp (disch := decide) only [State.synOff, State.get_put_elem, State.get_put_self]
  decide

/-! Lock and its loss. -/

/-- Under GATE and STEP the lock of an acquiring synthesiser ends the change (R229, R234). -/
theorem State.synLock_ends (hs : s.get CK_SYNSTAT.STATE k = ckACQUIRE) (hp : s.get STAGE_POL k ≠ 0) :
    s.synLock k = s.synSteady k := by
  simp [State.synLock, hs, hp]

theorem State.synSteady_results :
    (s.synSteady k).get CK_SYNSTAT.STATE k = ckLOCKED ∧ (s.synSteady k).get CK_OSTAT.PHASE k = phSTEADY ∧
      (s.synSteady k).get STAGE_FREQ k = s.get STAGE_NEXT k % 2 ^ STAGE_FREQ.width := by
  unfold State.synSteady
  dsimp only
  split <;> simp (disch := decide) only [State.raise_get_elem, State.get_elem_put, State.get_put_elem,
    State.get_put_self] <;> decide

/-- LOCK_T ends an acquisition (R229). -/
theorem State.synTimeout_ends (hs : s.get CK_SYNSTAT.STATE k = ckACQUIRE) (hb : s.get CK_SYNSTAT.BUSY k = 1) :
    s.synTimeout k = (((s.put CK_SYNSTAT.STATE ckFAULT k).put CK_SYNSTAT.BUSY 0 k).put CK_IRQ.LOCK_TO 1).raise
      Rc.CK_LOCK_TIMEOUT k := by
  simp [State.synTimeout, State.flag, hs, hb]

/-- The state in which a lost lock is recorded (R231), before CTL_CLK falls back (R222). -/
def State.lockLost (s : State) (k : Nat) : State :=
  ((((s.put CK_SYNSTAT.STATE ckHOLDOVER k).put CK_OSTAT.PHASE phHOLDING k).put CK_SYNSTAT.LOL 1 k).put CK_IRQ.LOL
    1).raise Rc.CK_LOCK_LOST k

theorem State.synLost_eq (hs : s.get CK_SYNSTAT.STATE k = ckLOCKED) :
    s.synLost k = if k.val = 1 then (s.lockLost k).ctlFallback else s.lockLost k := by
  simp [State.synLost, State.lockLost, hs]

/-- The cells that show a lost lock. -/
def lostCells (k : Nat) : List Nat := cellsAt [CK_SYNSTAT.STATE, CK_SYNSTAT.LOL] k ++ cellsAt [CK_IRQ.LOL]

/-- The fall back of CTL_CLK leaves what a lost lock shows. -/
theorem State.synLost_get (hs : s.get CK_SYNSTAT.STATE k = ckLOCKED) {g : Field} {j : Nat}
    (hg : g.key j ∈ lostCells k) : (s.synLost k).get g j = (s.lockLost k).get g j := by
  have apart : ∀ k : Fin 6, ∀ c ∈ lostCells k, c ∉ fallbackCells ∧ c ∉ noiseCells := by decide
  have within : (s.lockLost k).Within (.outside (lostCells k)) (s.synLost k) := by
    rw [State.synLost_eq s k hs]
    exact .branch (fun _ => State.Within.refl.ctlFallback trivial fun c hc hk => (apart k c hk).1 hc) fun _ => .refl
  exact within.get_outside hg (apart k _ hg).2

theorem State.lockLost_results :
    (s.lockLost k).get CK_SYNSTAT.STATE k = ckHOLDOVER ∧ (s.lockLost k).get CK_SYNSTAT.LOL k = 1 ∧
      (s.lockLost k).get CK_IRQ.LOL = 1 := by
  refine ⟨?_, ?_, ?_⟩
  · simp (disch := decide) only [State.lockLost, State.raise_get_elem, State.get_elem_put, State.get_put_elem,
      State.get_put_self]
    rfl
  · simp (disch := decide) only [State.lockLost, State.raise_get_elem, State.get_elem_put, State.get_put_self]
    rfl
  · rw [State.lockLost, State.raise_get _ _ _ _ (by decide) (by decide)]
    exact State.get_put_self ..

end Synthesiser

/-! The frequency meter. -/

/-- A word written to CK_FMCTL leaves BUSY, which is read-only. -/
theorem State.writeFmCtl_busy (s : State) (m : Master) (w : Nat) :
    (s.writeReg m CK_FMCTL.reg 0 w).get CK_FMCTL.BUSY = s.get CK_FMCTL.BUSY := by
  have within : s.Within (.silent (cellsAt [CK_FMCTL.SRC, CK_FMCTL.BASE, CK_FMCTL.GATE]))
      (s.writeReg m CK_FMCTL.reg 0 w) := State.Within.refl.writeReg m _ 0 w true (by decide)
    (by simp [CK_FMCTL.reg, CK_FMCTL.GO, CK_FMCTL.BUSY, CK_FMCTL.DONE, cellsAt])
  have apart : CK_FMCTL.BUSY.key 0 ∉ cellsAt [CK_FMCTL.SRC, CK_FMCTL.BASE, CK_FMCTL.GATE] := by decide
  exact within.get apart (by decide) False.elim

/-- GO starts a measurement while none is under way (R241). -/
theorem wrFmCtl_starts {s : State} {w : Nat} (m : Master) (hg : bit w 14 = true) (hb : s.get CK_FMCTL.BUSY = 0) :
    wrFmCtl m w s = (((s.writeReg m CK_FMCTL.reg 0 w).put CK_FMCTL.BUSY 1).put CK_FMCTL.DONE 0).put FM_SRC
      ((s.writeReg m CK_FMCTL.reg 0 w).get CK_FMCTL.SRC) := by
  simp [wrFmCtl, State.flag, State.writeFmCtl_busy, hg, hb]

theorem bit_setBit (w i : Nat) : bit (setBit w i) i = true := by
  simp [bit_eq_testBit, setBit, Nat.testBit_or]

end Sys2Proof.Machine
end

section
/-! O18: what the commands of spec/06 answer. -/

namespace Sys2Proof.Machine

section Commands

variable {s : State}

/-! Reference inputs (R219). -/

theorem refLoss_answers (ha : Awake s) {c : Fin 13} (hc : refInput c = true)
    (hp : bit (s.get CK_REFSTAT.PRESENT) c = true) : Answers (.refLoss c) s fun t =>
      t.get CK_REFSTAT.PRESENT = clrBit (s.get CK_REFSTAT.PRESENT) c % 2 ^ CK_REFSTAT.PRESENT.width ∧
      t.get CK_REFLOS.LOST = setBit (s.get CK_REFLOS.LOST) c % 2 ^ CK_REFLOS.LOST.width ∧
      t.get CK_IRQ.REF_LOS = 1 := by
  refine answers_live_same (exec_refLoss c s) ha fun t same => ?_
  simp only [hc, hp, Bool.and_self, if_true] at same
  refine ⟨?_, ?_, ?_⟩ <;> rw [same.get_eq (by decide), State.raise_get _ _ _ _ (by decide) (by decide)]
  · rw [State.get_put_ne _ _ (by decide), State.get_orBit_ne _ _ (by decide), State.get_orBit_ne _ _ (by decide),
      State.get_andBit_self]
  · rw [State.get_put_ne _ _ (by decide), State.get_orBit_ne _ _ (by decide), State.get_orBit_self,
      State.get_andBit_ne _ _ (by decide)]
  · exact State.get_put_self ..

/-- The return is logged when the loss was, which leaves PRESENT. -/
theorem refRestored_answers (ha : Awake s) {c : Fin 13} (hc : refInput c = true)
    (hp : bit (s.get CK_REFSTAT.PRESENT) c = false) : Answers (.refRestored c) s fun t =>
      t.get CK_REFSTAT.PRESENT = setBit (s.get CK_REFSTAT.PRESENT) c % 2 ^ CK_REFSTAT.PRESENT.width := by
  refine answers_live_same (exec_refRestored c s) ha fun t same => ?_
  simp only [hc, hp, Bool.not_false, Bool.and_self, if_true] at same
  rw [same.get_eq (by decide), ← State.get_orBit_self]
  split
  · rw [State.raise_get _ _ _ _ (by decide) (by decide), State.get_andBit_ne _ _ (by decide)]
  · rfl

/-! The control clock (R221). -/

section ControlClock

variable {m : Master} {w : Word} (hw : Writes m 0x4000 s)
include hw

theorem ctlSel_selects (hb : bit w.toNat 0 = true) (hs : s.get CK_CTL.CTL_SEL = 0)
    (hl : s.get CK_SYNSTAT.STATE 1 = ckLOCKED) :
    Answers (.ctlSel m w) s fun t => t.get CK_CTL.CTL_SEL = 1 ∧ t.get CK_CTL.CTL_ACT = 1 := by
  refine answers_write_same (exec_ctlSel m w s) hw fun t same => ?_
  rw [wrCkCtl_selects hb hs hl] at same
  rw [same.get_eq (by decide), same.get_eq (by decide), State.get_put_ne _ _ (by decide)]
  exact ⟨State.get_put_self .., State.get_put_self ..⟩

theorem ctlSel_refused (hb : bit w.toNat 0 = true) (hs : s.get CK_CTL.CTL_SEL = 0)
    (hl : s.get CK_SYNSTAT.STATE 1 ≠ ckLOCKED) : Answers (.ctlSel m w) s fun t =>
      t.get CK_CTL.CTL_SEL = 0 ∧ t.get GH_REFUSE.CODE = Rc.CK_REF_ABSENT.num % 2 ^ 16 := by
  refine answers_write_same (exec_ctlSel m w s) hw fun t same => ?_
  rw [wrCkCtl_refuses hb hs hl, State.refuse] at same
  refine ⟨?_, ?_⟩ <;> rw [same.get_eq (by decide)]
  · rw [State.refuseBy_get _ _ _ _ _ (by decide) (by decide) (by decide) (by decide) (by decide) (by decide), hs]
  · rw [State.refuseBy_code]

theorem ctlSel_releases (hb : bit w.toNat 0 = false) :
    Answers (.ctlSel m w) s fun t => t.get CK_CTL.CTL_SEL = 0 ∧ t.get CK_CTL.CTL_ACT = 0 := by
  refine answers_write_same (exec_ctlSel m w s) hw fun t same => ?_
  rw [wrCkCtl_releases hb] at same
  rw [same.get_eq (by decide), same.get_eq (by decide), State.get_put_ne _ _ (by decide)]
  exact ⟨State.get_put_self .., State.get_put_self ..⟩

end ControlClock

/-! The control register of a synthesiser (R227, R228). -/

section SynControl

variable {m : Master} {k : Fin 6} {w : Word} (hw : Writes m (0x410C + 0x20 * k) s)
include hw

theorem synGo_starts (hg : bit w.toNat 1 = true) (he : bit w.toNat 0 = true)
    (hc : (s.lockTimeSet k w.toNat).synCheck k (s.flag CK_SYNCTL.EN k) true true = none) :
    Answers (.synGo m k w) s fun t => t.get CK_SYNSTAT.STATE k = ckACQUIRE ∧ t.get CK_SYNSTAT.BUSY k = 1 ∧
      t.get CK_SYNCTL.EN k = 1 ∧ t.get SYN_N k = s.get CK_SYNCFGA.N k % 2 ^ SYN_N.width := by
  refine answers_write_same (exec_synGo m k w s) hw fun t same => ?_
  obtain ⟨pol, started⟩ := wrSynCtl_starts (m := m) hg he hc
  rw [setBit_of_bit hg, started] at same
  refine ⟨?_, ?_, ?_, ?_⟩ <;> rw [same.get_elem_eq k (by decide)]
  · exact State.synStart_state ..
  · exact State.synStart_busy ..
  · rw [State.synStart_get _ k pol (by decide)]
    exact State.get_put_self ..
  · rw [State.synStart_get _ k pol (by decide), State.get_put_elem _ _ k (by decide), State.synSample_n,
      State.lockTimeSet_get _ k _ (by decide)]

theorem synGo_refused (hg : bit w.toNat 1 = true) (he : bit w.toNat 0 = true) {c : Rc} {obj : Nat}
    (hc : (s.lockTimeSet k w.toNat).synCheck k (s.flag CK_SYNCTL.EN k) true true = some (c, obj)) :
    Answers (.synGo m k w) s fun t => t.get CK_SYNSTAT.STATE k = s.get CK_SYNSTAT.STATE k ∧
      t.get GH_REFUSE.CODE = c.num % 2 ^ 16 := by
  refine answers_write_same (exec_synGo m k w s) hw fun t same => ?_
  rw [setBit_of_bit hg, wrSynCtl_refuses hg he hc] at same
  refine ⟨?_, ?_⟩
  · rw [same.get_elem_eq k (by decide), State.refuse_synState, State.lockTimeSet_get _ k _ (by decide)]
  · rw [same.get_eq (by decide), State.refuse, State.refuseBy_code]

theorem synEn_stops (hg : bit w.toNat 1 = false) (he : bit w.toNat 0 = false) (hn : s.get CK_SYNCTL.EN k = 1)
    (hc : (s.lockTimeSet k w.toNat).synCheck k true false false = none) :
    Answers (.synEn m k w) s fun t => t.get CK_SYNSTAT.STATE k = ckOFF ∧ t.get CK_SYNCTL.EN k = 0 ∧
      t.get STAGE_FREQ k = 0 := by
  refine answers_write_same (exec_synEn m k w s) hw fun t same => ?_
  rw [clrBit_of_bit hg, wrSynCtl_stops hg he hn hc] at same
  obtain ⟨state, freq, enable⟩ := ((s.lockTimeSet k w.toNat).put CK_SYNCTL.EN 0 k).synOff_results k
  refine ⟨?_, ?_, ?_⟩ <;> rw [same.get_elem_eq k (by decide)]
  · exact state
  · exact enable.trans (State.get_put_self ..)
  · exact freq

end SynControl

/-! Lock, its loss and slews (R229 to R236). -/

section Lock

variable (ha : Awake s) (hd : s.mode ≠ mDORMANT)
include ha hd

theorem synLocked_ends {k : Fin 6} (hk : k ≠ 0) (hs : s.get CK_SYNSTAT.STATE k = ckACQUIRE)
    (hp : s.get STAGE_POL k ≠ 0) : Answers (.synLocked k) s fun t =>
      t.get CK_SYNSTAT.STATE k = ckLOCKED ∧ t.get CK_OSTAT.PHASE k = phSTEADY ∧
        t.get STAGE_FREQ k = s.get STAGE_NEXT k % 2 ^ STAGE_FREQ.width := by
  refine answers_live_same (exec_synLocked k s) ha fun t same => ?_
  rw [if_neg hd, if_neg hk, State.synLock_ends s k hs hp] at same
  rw [same.get_elem_eq k (by decide), same.get_elem_eq k (by decide), same.get_elem_eq k (by decide)]
  exact s.synSteady_results k

theorem synLockTimeout_faults {k : Fin 6} (hk : k ≠ 0) (hs : s.get CK_SYNSTAT.STATE k = ckACQUIRE)
    (hb : s.get CK_SYNSTAT.BUSY k = 1) : Answers (.synLockTimeout k) s fun t =>
      t.get CK_SYNSTAT.STATE k = ckFAULT ∧ t.get CK_SYNSTAT.BUSY k = 0 ∧ t.get CK_IRQ.LOCK_TO = 1 := by
  refine answers_live_same (exec_synLockTimeout k s) ha fun t same => ?_
  rw [if_neg hd, if_neg hk, State.synTimeout_ends s k hs hb] at same
  refine ⟨?_, ?_, ?_⟩
  · rw [same.get_elem_eq k (by decide), State.raise_get_elem _ _ _ _ k (by decide),
      State.get_elem_put _ _ k (by decide), State.get_put_elem _ _ k (by decide)]
    exact State.get_put_self ..
  · rw [same.get_elem_eq k (by decide), State.raise_get_elem _ _ _ _ k (by decide),
      State.get_elem_put _ _ k (by decide)]
    exact State.get_put_self ..
  · rw [same.get_eq (by decide), State.raise_get _ _ _ _ (by decide) (by decide)]
    exact State.get_put_self ..

theorem synLockLost_holds {k : Fin 6} (hk : k ≠ 0) (hs : s.get CK_SYNSTAT.STATE k = ckLOCKED) :
    Answers (.synLockLost k) s fun t =>
      t.get CK_SYNSTAT.STATE k = ckHOLDOVER ∧ t.get CK_SYNSTAT.LOL k = 1 ∧ t.get CK_IRQ.LOL = 1 := by
  refine answers_live_same (exec_synLockLost k s) ha fun t same => ?_
  rw [if_neg hd, if_neg hk] at same
  rw [same.get_elem_eq k (by decide), same.get_elem_eq k (by decide), same.get_eq (by decide),
    s.synLost_get k hs (by simp [lostCells, cellsAt]), s.synLost_get k hs (by simp [lostCells, cellsAt]),
    s.synLost_get k hs (by simp [lostCells, cellsAt])]
  exact s.lockLost_results k

theorem slewStep_advances {j : Fin 16} (hp : s.get CK_OSTAT.PHASE j = phSLEWING)
    (hn : s.slewTo j % 2 ^ STAGE_FREQ.width ≠ s.get STAGE_NEXT j) : Answers (.slewStep j) s fun t =>
      t.get STAGE_FREQ j = s.slewTo j % 2 ^ STAGE_FREQ.width := by
  refine answers_live_same (exec_slewStep j s) ha fun t same => ?_
  have next : (s.put STAGE_FREQ (s.slewTo j) j).get STAGE_NEXT j = s.get STAGE_NEXT j :=
    State.get_put_elem _ _ j (by decide)
  simp only [hp, hd, ne_eq, not_true_eq_false, decide_false, Bool.or_self, Bool.false_eq_true, if_false,
    State.get_put_self, next, hn, not_false_eq_true, if_true] at same
  rw [same.get_elem_eq j (by decide), State.get_put_self]

end Lock

/-! The frequency meter (R241). -/

theorem freqMeterGo_starts {m : Master} (w : Word) (hw : Writes m 0x4020 s) (hb : s.get CK_FMCTL.BUSY = 0) :
    Answers (.freqMeterGo m w) s fun t => t.get CK_FMCTL.BUSY = 1 ∧ t.get CK_FMCTL.DONE = 0 := by
  refine answers_write_same (exec_freqMeterGo m w s) hw fun t same => ?_
  rw [wrFmCtl_starts m (bit_setBit _ _) hb] at same
  refine ⟨?_, ?_⟩ <;> rw [same.get_eq (by decide), State.get_put_ne _ _ (by decide)]
  · rw [State.get_put_ne _ _ (by decide)]
    exact State.get_put_self ..
  · exact State.get_put_self ..

theorem freqMeterDone_shows (ha : Awake s) (n : BitVec 40) (hb : s.get CK_FMCTL.BUSY = 1) :
    Answers (.freqMeterDone n) s fun t => t.get CK_FMRES.COUNT = min n.toNat (2 ^ 32 - 1) ∧
      t.get CK_FMCTL.BUSY = 0 ∧ t.get CK_FMCTL.DONE = 1 := by
  refine answers_live_same (exec_freqMeterDone n s) ha fun t same => ?_
  rw [State.flag, hb, decide_eq_true rfl, if_pos rfl] at same
  refine ⟨?_, ?_, ?_⟩ <;> rw [same.get_eq (by decide)]
  · rw [State.get_put_ne _ _ (by decide), State.get_put_ne _ _ (by decide), State.get_put_self]
    exact Nat.mod_eq_of_lt (by simp only [CK_FMRES.COUNT]; omega)
  · rw [State.get_put_ne _ _ (by decide)]
    exact State.get_put_self ..
  · exact State.get_put_self ..

end Commands

/-- Settles O18: each clause is the lemma of its command. -/
theorem clockCommandsTakeEffect : Obligations.ClockCommandsTakeEffect := by
  unfold Obligations.ClockCommandsTakeEffect
  intro s ha hd
  exact ⟨fun c => refLoss_answers ha, fun c => refRestored_answers ha, fun m w => ctlSel_selects,
    fun m w => ctlSel_refused, fun m w => ctlSel_releases,
    fun m k w hw _ => ⟨synGo_starts hw, fun hg he c obj => synGo_refused hw hg he, synEn_stops hw⟩,
    fun k => synLocked_ends ha hd, fun k => synLockTimeout_faults ha hd, fun k => synLockLost_holds ha hd,
    fun j => slewStep_advances ha hd, fun m => freqMeterGo_starts, freqMeterDone_shows ha⟩

end Sys2Proof.Machine
end

section
/-! What the operations of spec/08 leave: written fields and latched halves (R19, R22), the time base (R278, R279,
R282), the epoch (R284 to R286), steps and slews of the count (R287, R288). -/

namespace Sys2Proof.Machine

/-! Written fields and latched halves. -/

theorem bits_one_of_bit {w i : Nat} (h : bit w i = true) : bits w i 1 = 1 := by
  simpa [bit, bits] using h

theorem bit_setBit_of_bit {w i j : Nat} (h : bit w j = true) : bit (setBit w i) j = true := by
  rw [bit_eq_testBit] at h ⊢
  simp [setBit, Nat.testBit_or, h]

/-- What clearing bit i leaves above bit j. -/
theorem clrBit_div {w i j : Nat} (hj : j ≤ i) (h : bit w i = true) :
    clrBit w i / 2 ^ j = w / 2 ^ j - 2 ^ (i - j) := by
  rw [clrBit, if_pos h, ← Nat.sub_mul_div, ← Nat.pow_add, Nat.add_sub_of_le hj]

theorem bit_clrBit (w i : Nat) : bit (clrBit w i) i = false := by
  cases h : bit w i with
  | false => rwa [clrBit_of_bit h]
  | true =>
    have odd : w / 2 ^ i % 2 = 1 := by simpa [bit] using h
    have shifted := clrBit_div le_rfl h
    simp only [Nat.sub_self, Nat.pow_zero] at shifted
    simp only [bit, decide_eq_false_iff_not]
    omega

theorem bit_clrBit_of_lt (w : Nat) {i j : Nat} (hj : j < i) : bit (clrBit w i) j = bit w j := by
  cases h : bit w i with
  | false => rw [clrBit_of_bit h]
  | true =>
    have odd : w / 2 ^ i % 2 = 1 := by simpa [bit] using h
    have even : 2 ^ (i - j) = 2 * 2 ^ (i - j - 1) := (mul_pow_sub_one (by omega) 2).symm
    have above : 2 ^ (i - j) ≤ w / 2 ^ j := by
      rw [Nat.le_div_iff_mul_le (Nat.two_pow_pos j), ← Nat.pow_add, Nat.sub_add_cancel hj.le]
      exact (Nat.one_le_div_iff (Nat.two_pow_pos i)).mp (Nat.pos_of_ne_zero fun none => by simp [none] at odd)
    simp only [bit, clrBit_div hj.le h, decide_eq_decide]
    omega

/-- An RW field of a register without RWL and RWO fields takes a legal value, whatever the other fields take. -/
theorem State.writeReg_takes (s : State) (m : Master) {r : Reg} {f : Field} (i w : Nat)
    (hp : ∀ g ∈ r.fields, g.acc ≠ .rwl ∧ g.acc ≠ .rwo) (hn : r.fields.Nodup) (hf : f ∈ r.fields) (ha : f.acc = .rw)
    (hk : ∀ g ∈ r.fields, g ≠ f → f.key i ≠ g.key i) (hl : f.accepts (bits w f.lo f.width) = true) :
    (s.writeReg m r i w).get f i = bits w f.lo f.width := by
  rw [State.writeReg_plain _ _ _ _ _ _ hp]
  refine foldl_visit (before := fun _ => True) (after := fun u : State => u.get f i = bits w f.lo f.width) hn hf
    (fun _ _ _ _ _ => trivial) (fun (u : State) _ => u.writeField_rw i w _ _ ha hl) (fun u g hg hne hu => ?_) trivial
  rw [State.writeField_get _ _ _ _ (hk g hg hne), hu]

theorem State.latched_latchHigh (s : State) (m : Master) (lo high current : Nat) :
    (s.latchHigh m lo high).latched m lo current = high % 2 ^ 32 := by
  have held : (s.latchHigh m lo high).get RD_LATCH (8 * (lo / 4) + m.code) = 2 ^ 32 + high % 2 ^ 32 :=
    (State.get_put_self ..).trans (Nat.mod_eq_of_lt (by simp only [RD_LATCH]; omega))
  simp [State.latched, held]

/-- The latches of two registers are apart. -/
theorem State.latched_latchHigh_ne (s : State) (m : Master) {lo lo' : Nat} (high current : Nat)
    (h : lo / 4 ≠ lo' / 4) :
    (s.latchHigh m lo' high).latched m lo current = s.latched m lo current := by
  have apart : RD_LATCH.key (8 * (lo / 4) + m.code) ≠ RD_LATCH.key (8 * (lo' / 4) + m.code) := by
    simp only [Field.key, RD_LATCH]
    omega
  rw [State.latched, State.latchHigh, State.get_put_ne _ _ apart, State.latched]

/-! The time base. -/

theorem State.stageStart_get (s : State) (k pol next : Nat) {g : Field} {j : Nat}
    (h : g.key j ∉ cellsAt [STAGE_POL, STAGE_NEXT, STAGE_FREQ, CK_OSTAT.PHASE] k) :
    (s.stageStart k pol next).get g j = s.get g j := by
  simp only [cellsAt, List.map_cons, List.map_nil, List.mem_cons, List.not_mem_nil, or_false, not_or] at h
  obtain ⟨policy, frequency, current, phase⟩ := h
  unfold State.stageStart
  dsimp only
  split <;> simp only [State.get_put_ne, ne_eq, policy, frequency, current, phase, not_false_eq_true]

theorem State.tbFollow_state (s : State) :
    s.tbFollow.get BS_TBSTAT.STATE = s.get CK_SYNSTAT.STATE 0 % 2 ^ BS_TBSTAT.STATE.width := by
  unfold State.tbFollow
  dsimp only
  split
  · exact State.get_put_self ..
  · rw [State.get_put_ne _ _ (by decide), State.get_put_self]

theorem State.tbFollow_get (s : State) {g : Field} {j : Nat}
    (h : g.key j ∉ cellsAt [SYN0_HOLD, BS_TBSTAT.STATE, BS_IRQ.TB]) : s.tbFollow.get g j = s.get g j := by
  simp only [cellsAt, List.map_cons, List.map_nil, List.mem_cons, List.not_mem_nil, or_false, not_or] at h
  obtain ⟨hold, state, cause⟩ := h
  unfold State.tbFollow
  dsimp only
  split <;> simp only [State.get_put_ne, ne_eq, hold, state, cause, not_false_eq_true]

/-- SYN0 started on a reference acquires, and the time base shows the reference and the state (R278, R282). -/
theorem State.syn0Start_results (s : State) (ref : Nat) :
    (s.syn0Start ref).get BS_TBCTL.EN = s.get BS_TBCTL.EN ∧ (s.syn0Start ref).get CK_SYNSTAT.STATE 0 = ckACQUIRE ∧
      (s.syn0Start ref).get BS_TBSTAT.STATE = ckACQUIRE ∧
      (s.syn0Start ref).get BS_TBSTAT.REF_ACT = ref % 2 ^ BS_TBSTAT.REF_ACT.width := by
  simp (disch := decide) only [State.syn0Start, State.tbFollow_get, State.tbFollow_state, State.stageStart_get,
    State.get_put_ne, State.get_put_self, State.drawn_get]
  exact ⟨trivial, rfl, rfl, trivial⟩

section TimeBaseControl

variable {s : State} {m : Master} {w : Nat}

/-- The rows of Table BS-1 that do not speak of presence pass, and EN is written from 0 to 1. -/
structure EnablesTimeBase (m : Master) (w : Nat) (s : State) : Prop where
  stopped : s.get BS_TBCTL.EN = 0
  enable : bit w 8 = true
  mode : s.unitMode m = true
  ref : s.badRef (bits w 0 3) = false
  alt : s.badRef (bits w 4 3) = false

theorem wrTbCtl_starts (h : EnablesTimeBase m w s) (hp : s.refPresent (bits w 0 3) = true) :
    wrTbCtl m w s = (s.writeReg m BS_TBCTL.reg 0 w).syn0Start (bits w 0 3) := by
  simp [wrTbCtl, State.flag, h.stopped, h.enable, h.mode, h.ref, h.alt, hp]

theorem wrTbCtl_refuses (h : EnablesTimeBase m w s) (hp : s.refPresent (bits w 0 3) = false) :
    wrTbCtl m w s = s.refuse Rc.BS_REF_ABSENT (bits w 0 3) m 0x8000 := by
  simp [wrTbCtl, State.flag, h.stopped, h.enable, h.mode, h.ref, h.alt, hp]

end TimeBaseControl

/-! The count and its epoch. -/

theorem State.setNow_now (s : State) (time : Nat) : (s.setNow time).now = time % 2 ^ 80 := by
  rw [State.now, State.setNow, State.get_put_self]
  simp only [TCOUNT]
  omega

/-- What a new epoch of the count writes (R285). -/
def epochCells : List Nat :=
  cellsAt [BS_TBSTAT.EPOCH_GEN, BS_TBSTAT.COARSE, BS_IRQ.EPOCH] ++ cellsUpTo [BS_CUSTAT.PEND, CUE_LATEP] 64

theorem State.cuesRejudge_get (s : State) {g : Field} {j : Nat}
    (h : g.key j ∉ cellsUpTo [BS_CUSTAT.PEND, CUE_LATEP] 64) (hm : g.key j ≠ MSI_PEND.key 0) :
    s.cuesRejudge.get g j = s.get g j :=
  (State.Within.refl.cuesRejudge (S := .silent _) fun _ hk => hk).get h hm False.elim

theorem State.timeChanged_get (s : State) {g : Field} {j : Nat} (h : g.key j ∉ epochCells)
    (hm : g.key j ≠ MSI_PEND.key 0) : s.timeChanged.get g j = s.get g j := by
  obtain ⟨own, cues⟩ := not_or.mp (List.mem_append.not.mp h)
  simp only [cellsAt, List.map_cons, List.map_nil, List.mem_cons, List.not_mem_nil, or_false, not_or] at own
  obtain ⟨generation, coarse, cause⟩ := own
  rw [State.timeChanged, State.cuesRejudge_get _ cues hm, State.get_put_ne _ _ cause, State.get_put_ne _ _ coarse,
    State.get_put_ne _ _ generation]

theorem State.timeChanged_generation (s : State) : s.timeChanged.get BS_TBSTAT.EPOCH_GEN =
    (s.get BS_TBSTAT.EPOCH_GEN + 1) % 2 ^ BS_TBSTAT.EPOCH_GEN.width := by
  rw [State.timeChanged, State.cuesRejudge_get _ (by decide) (by decide), State.get_put_ne _ _ (by decide),
    State.get_put_ne _ _ (by decide), State.get_put_self]

/-- ARM of an immediate epoch is taken while the time base runs and the adjustment is not owned (R286). -/
theorem wrEpCtl_arms {s : State} {m : Master} {w : Nat} (ha : s.get BS_EPCTL.ARM = 0) (hb : bit w 2 = true)
    (hi : bits w 0 2 = 0) (hr : s.get BS_TBSTAT.RUNNING = 1) (ho : s.get BS_ADJCTL.OWNED = 0) :
    wrEpCtl m w s = ((s.writeReg m BS_EPCTL.reg 0 w).put BS_EPCTL.ARM 0).put BS_EPCTL.ARM 1 := by
  have written : ((s.writeReg m BS_EPCTL.reg 0 w).put BS_EPCTL.ARM 0).get BS_EPCTL.SRC = 0 := by
    rw [State.get_put_ne _ _ (by decide), s.writeReg_takes m 0 w (r := BS_EPCTL.reg) (f := BS_EPCTL.SRC) (by decide)
      (by decide) (by decide) rfl (by decide)] <;> rw [show bits w BS_EPCTL.SRC.lo BS_EPCTL.SRC.width = 0 from hi]
    rfl
  have kept {g : Field} (hg : ∀ f ∈ BS_EPCTL.reg.fields, g.key 0 ≠ f.key 0) :
      ((s.writeReg m BS_EPCTL.reg 0 w).put BS_EPCTL.ARM 0).get g = s.get g := by
    rw [State.get_put_ne _ _ (hg _ (by decide)), State.writeReg_get _ _ _ _ _ (by decide) hg]
  have running := (kept (g := BS_TBSTAT.RUNNING) (by decide)).trans hr
  have owned := (kept (g := BS_ADJCTL.OWNED) (by decide)).trans ho
  simp [wrEpCtl, State.flag, ha, hb, written, running, owned]

/-! Steps and slews. -/

theorem ofSigned_lt (n : Nat) (x : Int) : ofSigned n x < 2 ^ n := by
  have := Nat.two_pow_pos n
  simp only [ofSigned]
  omega

/-- The signed offset that BS_ADJ_LO and BS_ADJ_HI hold, in two's complement (R287). -/
def State.adjOffset (s : State) : Nat := s.get BS_ADJ_LO.OFFSET + 2 ^ 32 * s.get BS_ADJ_HI.OFFSET

section Adjust

variable {s : State} {m : Master} {w : Nat}

/-- A word written to BS_ADJCTL leaves what is no RW field of it. -/
theorem State.writeAdjCtl_get (s : State) (m : Master) (w : Nat) {g : Field}
    (hg : g.key 0 ∉ cellsAt [BS_ADJCTL.MODE, BS_ADJCTL.SLEW]) (hm : g.key 0 ≠ MSI_PEND.key 0) :
    (s.writeReg m BS_ADJCTL.reg 0 w).get g = s.get g := by
  have within : s.Within (.silent (cellsAt [BS_ADJCTL.MODE, BS_ADJCTL.SLEW])) (s.writeReg m BS_ADJCTL.reg 0 w) :=
    State.Within.refl.writeReg m _ 0 w true (by decide)
      (by simp [BS_ADJCTL.reg, BS_ADJCTL.GO, BS_ADJCTL.BUSY, BS_ADJCTL.OWNED, cellsAt])
  exact within.get hg hm False.elim

/-- GO with nothing in its way (R288) begins a step or a slew by the offset, as MODE says (R287). -/
theorem wrAdjCtl_goes (hg : bit w 0 = true) (hr : s.get BS_TBSTAT.RUNNING = 1) (ho : s.get BS_ADJCTL.OWNED = 0)
    (hb : s.get BS_ADJCTL.BUSY = 0) : wrAdjCtl m w s =
      if bit w 1 then (s.writeReg m BS_ADJCTL.reg 0 w).timeStep s.adjOffset
      else (s.writeReg m BS_ADJCTL.reg 0 w).slewStart s.adjOffset := by
  simp (disch := decide) [wrAdjCtl, State.flag, State.adjOffset, State.writeAdjCtl_get, hg, hr, ho, hb]

end Adjust

theorem State.timeStep_results (s : State) (offset : Nat) :
    (s.timeStep offset).get TCOUNT = ofSigned 96 ((s.get TCOUNT : Int) + toSigned 64 offset * 65536) ∧
      (s.timeStep offset).get BS_TBSTAT.EPOCH_GEN =
        (s.get BS_TBSTAT.EPOCH_GEN + 1) % 2 ^ BS_TBSTAT.EPOCH_GEN.width := by
  unfold State.timeStep
  constructor <;> rw [State.raise_get _ _ _ _ (by decide) (by decide)]
  · rw [State.timeChanged_get _ (by decide) (by decide), State.get_put_self]
    exact Nat.mod_eq_of_lt (ofSigned_lt ..)
  · rw [State.timeChanged_generation, State.get_put_ne _ _ (by decide)]

theorem State.slewStart_results (s : State) (offset : Nat) :
    (s.slewStart offset).get BS_ADJCTL.BUSY = 1 ∧ (s.slewStart offset).get TCOUNT = s.get TCOUNT ∧
      (s.slewStart offset).get SLEW_LEFT = (toSigned 64 offset).natAbs * 65536 % 2 ^ SLEW_LEFT.width := by
  simp (disch := decide) only [State.slewStart, State.get_put_ne, State.get_put_self]
  exact ⟨rfl, trivial, trivial⟩

/-- A slew whose whole rest is taken ends (R287). -/
theorem State.slewBy_all (s : State) : s.slewBy (s.get SLEW_LEFT) =
    ((s.put TCOUNT (if s.flag SLEW_NEG then s.get TCOUNT + 2 ^ 96 - s.get SLEW_LEFT
      else s.get TCOUNT + s.get SLEW_LEFT)).put SLEW_LEFT 0).put BS_ADJCTL.BUSY 0 := by
  have left (v : Nat) : (s.put TCOUNT v).get SLEW_LEFT = s.get SLEW_LEFT := State.get_put_ne _ _ (by decide)
  simp [State.slewBy, left, State.get_put_self]

end Sys2Proof.Machine
end

section
/-! O20: what the commands of the time base answer. -/

namespace Sys2Proof.Machine

section Commands

variable {s : State} {m : Master}

/-! Enabling the time base (R278, R279). -/

section TimeBaseControl

variable {w : Word} (hw : Writes m 0x8000 s) (he : EnablesTimeBase m w.toNat s)
include hw he

theorem tbEn_starts (hp : s.refPresent (bits w.toNat 0 3) = true) : Answers (.tbEn m w) s fun t =>
    t.get BS_TBCTL.EN = 1 ∧ t.get CK_SYNSTAT.STATE 0 = ckACQUIRE ∧ t.get BS_TBSTAT.STATE = ckACQUIRE ∧
      t.get BS_TBSTAT.REF_ACT = bits w.toNat 0 3 := by
  refine answers_write_same (exec_tbEn m w s) hw fun t same => ?_
  rw [wrTbCtl_starts he hp] at same
  obtain ⟨enable, synthesiser, state, reference⟩ :=
    (s.writeReg m BS_TBCTL.reg 0 w.toNat).syn0Start_results (bits w.toNat 0 3)
  refine ⟨?_, ?_, ?_, ?_⟩ <;> rw [same.get_eq (by decide)]
  · rw [enable, s.writeReg_takes m 0 _ (by decide) (by decide) (by decide) rfl (by decide) rfl]
    exact bits_one_of_bit he.enable
  · exact synthesiser
  · exact state
  · exact reference.trans (Nat.mod_mod _ _)

theorem tbEn_refused (hp : s.refPresent (bits w.toNat 0 3) = false) : Answers (.tbEn m w) s fun t =>
    t.get BS_TBCTL.EN = 0 ∧ t.get GH_REFUSE.CODE = Rc.BS_REF_ABSENT.num % 2 ^ 16 := by
  refine answers_write_same (exec_tbEn m w s) hw fun t same => ?_
  rw [wrTbCtl_refuses he hp, State.refuse] at same
  refine ⟨?_, ?_⟩ <;> rw [same.get_eq (by decide)]
  · rw [State.refuseBy_get _ _ _ _ _ (by decide) (by decide) (by decide) (by decide) (by decide) (by decide),
      he.stopped]
  · rw [State.refuseBy_code]

end TimeBaseControl

/-! The epoch (R284 to R286). -/

theorem epochArm_arms {w : Word} (hw : Writes m 0x8018 s) (ha : s.get BS_EPCTL.ARM = 0) (hb : bit w.toNat 2 = true)
    (hi : bits w.toNat 0 2 = 0) (hr : s.get BS_TBSTAT.RUNNING = 1) (ho : s.get BS_ADJCTL.OWNED = 0) :
    Answers (.epochArm m w) s fun t => t.get BS_EPCTL.ARM = 1 := by
  refine answers_write_same (exec_epochArm m w s) hw fun t same => ?_
  rw [wrEpCtl_arms ha hb hi hr ho] at same
  rw [same.get_eq (by decide), State.get_put_self]
  rfl

theorem epochLoad_loads (ha : Awake s) (hd : s.mode ≠ mDORMANT) (since : BitVec 32) (harm : s.get BS_EPCTL.ARM = 1)
    (hr : s.get BS_TBSTAT.RUNNING = 1) (hs : s.get BS_EPCTL.SRC = 0) :
    Answers (.epochLoad since) s fun t => t.now = s.epoch % 2 ^ 80 ∧ t.get BS_EPCTL.ARM = 0 ∧
      t.get BS_TBSTAT.EPOCH = 1 ∧
      t.get BS_TBSTAT.EPOCH_GEN = (s.get BS_TBSTAT.EPOCH_GEN + 1) % 2 ^ BS_TBSTAT.EPOCH_GEN.width := by
  refine answers_live_same (exec_epochLoad since s) ha fun t same => ?_
  simp only [State.flag, harm, hr, hs, hd, ne_eq, not_false_eq_true, decide_true, Bool.and_self, if_true] at same
  have kept {g : Field} (hg : g.key 0 ∉ epochCells) (hn : g.key 0 ∉ noiseCells) :
      t.get g = (((s.setNow s.epoch).put BS_EPCTL.ARM 0).put BS_TBSTAT.EPOCH 1).get g := by
    simp only [noiseCells, cellsAt, List.map_cons, List.map_nil, List.mem_cons, List.not_mem_nil, or_false,
      not_or] at hn
    obtain ⟨message, count, episode⟩ := hn
    rw [same.get_eq message, State.raise_get _ _ _ _ count episode, State.timeChanged_get _ hg message]
  refine ⟨?_, ?_, ?_, ?_⟩
  · rw [← s.setNow_now, State.now, State.now, kept (by decide) (by decide), State.get_put_ne _ _ (by decide),
      State.get_put_ne _ _ (by decide)]
  · rw [kept (by decide) (by decide), State.get_put_ne _ _ (by decide)]
    exact State.get_put_self ..
  · rw [kept (by decide) (by decide)]
    exact State.get_put_self ..
  · rw [same.get_eq (by decide), State.raise_get _ _ _ _ (by decide) (by decide), State.timeChanged_generation,
      State.get_put_ne _ _ (by decide), State.get_put_ne _ _ (by decide), State.setNow,
      State.get_put_ne _ _ (by decide)]

/-! Steps and slews (R287, R288). -/

section Adjust

variable (w : Word) (hw : Writes m 0x8038 s) (hr : s.get BS_TBSTAT.RUNNING = 1) (ho : s.get BS_ADJCTL.OWNED = 0)
  (hb : s.get BS_ADJCTL.BUSY = 0)
include hw hr ho hb

theorem adjStep_steps : Answers (.adjStep m w) s fun t =>
    t.get TCOUNT = ofSigned 96 ((s.get TCOUNT : Int) + toSigned 64 s.adjOffset * 65536) ∧
      t.get BS_TBSTAT.EPOCH_GEN = (s.get BS_TBSTAT.EPOCH_GEN + 1) % 2 ^ BS_TBSTAT.EPOCH_GEN.width := by
  refine answers_write_same (exec_adjStep m w s) hw fun t same => ?_
  rw [wrAdjCtl_goes (bit_setBit_of_bit (bit_setBit _ _)) hr ho hb, if_pos (bit_setBit _ _)] at same
  obtain ⟨count, generation⟩ :=
    (s.writeReg m BS_ADJCTL.reg 0 (setBit (setBit w.toNat 0) 1)).timeStep_results s.adjOffset
  refine ⟨?_, ?_⟩ <;> rw [same.get_eq (by decide)]
  · rw [count, State.writeAdjCtl_get _ _ _ (by decide) (by decide)]
  · rw [generation, State.writeAdjCtl_get _ _ _ (by decide) (by decide)]

theorem adjSlew_starts : Answers (.adjSlew m w) s fun t => t.get BS_ADJCTL.BUSY = 1 ∧ t.get TCOUNT = s.get TCOUNT ∧
    t.get SLEW_LEFT = (toSigned 64 s.adjOffset).natAbs * 65536 % 2 ^ SLEW_LEFT.width := by
  have mode : ¬bit (clrBit (setBit w.toNat 0) 1) 1 = true := by simp [bit_clrBit]
  refine answers_write_same (exec_adjSlew m w s) hw fun t same => ?_
  rw [wrAdjCtl_goes ((bit_clrBit_of_lt _ (by decide)).trans (bit_setBit _ _)) hr ho hb, if_neg mode] at same
  obtain ⟨busy, count, left⟩ :=
    (s.writeReg m BS_ADJCTL.reg 0 (clrBit (setBit w.toNat 0) 1)).slewStart_results s.adjOffset
  refine ⟨?_, ?_, ?_⟩ <;> rw [same.get_eq (by decide)]
  · exact busy
  · rw [count, State.writeAdjCtl_get _ _ _ (by decide) (by decide)]
  · exact left

end Adjust

theorem slewDone_ends (ha : Awake s) (hb : s.get BS_ADJCTL.BUSY = 1) : Answers .slewDone s fun t =>
    t.get BS_ADJCTL.BUSY = 0 ∧ t.get SLEW_LEFT = 0 ∧
      (s.get SLEW_NEG = 0 → t.get TCOUNT = (s.get TCOUNT + s.get SLEW_LEFT) % 2 ^ TCOUNT.width) := by
  refine answers_live_same (exec_slewDone s) ha fun t same => ?_
  rw [State.flag, hb, decide_eq_true rfl, if_pos rfl, State.slewBy_all] at same
  refine ⟨?_, ?_, fun hn => ?_⟩ <;> rw [same.get_eq (by decide)]
  · rw [State.get_put_self]
    rfl
  · rw [State.get_put_ne _ _ (by decide), State.get_put_self]
    rfl
  · rw [State.get_put_ne _ _ (by decide), State.get_put_ne _ _ (by decide), State.get_put_self]
    simp [State.flag, hn]

/-! The read of the count (R19, R277). -/

theorem tnowRead_returns (hr : Reads m 0x802C s) :
    exec (.tnowRead m) s = run s ((rdTnow0 m s).2.emit .busData [m.code, s.now % 2 ^ 32]) := by
  rw [exec_tnowRead, execTnowRead, live_awake _ hr.1, State.onRead_of hr]
  rfl

theorem rdTnow0_latches (current : Nat) : (rdTnow0 m s).2.latched m 0x8030 current = s.now / 2 ^ 32 % 2 ^ 32 := by
  rw [rdTnow0, State.latched_latchHigh_ne _ _ _ _ (by decide), State.latched_latchHigh]

end Commands

/-- Settles O20: each clause is the lemma of its command. -/
theorem timeBaseCommandsTakeEffect : Obligations.TimeBaseCommandsTakeEffect := by
  unfold Obligations.TimeBaseCommandsTakeEffect
  intro s m ha hd
  refine ⟨fun w hw stopped enable mode ref alt => ?enable, fun w => epochArm_arms, epochLoad_loads ha hd,
    fun w hw hr ho hb => ⟨adjStep_steps w hw hr ho hb, adjSlew_starts w hw hr ho hb⟩, slewDone_ends ha,
    fun hr => ⟨tnowRead_returns hr, rdTnow0_latches⟩⟩
  case enable =>
    have passes : EnablesTimeBase m w.toNat s := ⟨stopped, enable, mode, ref, alt⟩
    exact ⟨tbEn_starts hw passes, tbEn_refused hw passes⟩

end Sys2Proof.Machine
end

section
/-! What the register writes and reads of spec/09 do to a Bandstand timer: ownership (R325 to R327), BT_CTL and BT_GO
(R332, R333, R348), the count and its snapshot (R335, R336), a channel's captured count (R346). -/

namespace Sys2Proof.Machine

theorem bits_one (w i : Nat) : bits w i 1 = b2n (bit w i) := by
  cases h : bit w i with
  | false =>
    simp only [bit, decide_eq_false_iff_not] at h
    simp only [bits, b2n, Bool.false_eq_true, if_false]
    omega
  | true => exact bits_one_of_bit h

/-! Ownership. -/

section Ownership

variable {s : State} {m : Master} {t w : Nat}

theorem State.btOwned_of_owner (ho : s.get BT_OWN.OWNER t = m.code) (off : Nat) (k : State → State) :
    s.btOwned m t off k = k s := by
  have owns : s.btOwns m t = true := by cases m <;> simp [State.btOwns, State.asOwner, ho, Master.code]
  simp [State.btOwned, owns]

/-- The word of TIMER_CLAIM: CLAIM with its ASSIGN code, and no RELEASE. -/
theorem claimWord_fields (assign : BitVec 3) : bit (8 + 256 * assign.toNat) 3 = true ∧
    bit (8 + 256 * assign.toNat) 4 = false ∧ bits (8 + 256 * assign.toNat) 8 3 = assign.toNat := by
  have := assign.isLt
  simp only [bit, bits, decide_eq_true_eq, decide_eq_false_iff_not]
  omega

section Claim

variable (hc : bit w 3 = true) (hr : bit w 4 = false)
include hc hr

theorem wrBtOwn_assigns : wrBtOwn .gatehouse t w s =
    (s.put BT_OWN.OWNER (bits w 8 3) t).raise Rc.BT_CLAIMED t (bits w 8 3) := by
  simp [wrBtOwn, hc, hr]

theorem wrBtOwn_claims (hm : m ≠ .gatehouse) (ho : s.get BT_OWN.OWNER t = 7) :
    wrBtOwn m t w s = (s.put BT_OWN.OWNER m.code t).raise Rc.BT_CLAIMED t m.code := by
  simp [wrBtOwn, hc, hr, hm, ho]

theorem wrBtOwn_refuses (hm : m ≠ .gatehouse) (hf : s.get BT_OWN.OWNER t ≠ 7)
    (ho : s.get BT_OWN.OWNER t ≠ m.code) :
    wrBtOwn m t w s = s.refuse Rc.BT_TIMER_OWNED t m (0xA104 + 0x80 * t) := by
  simp [wrBtOwn, hc, hr, hm, hf, ho]

end Claim

theorem wrBtOwn_releases (ho : s.get BT_OWN.OWNER t = m.code) (he : s.get BT_CTL.EN t = 0) :
    wrBtOwn m t 16 s = (s.put BT_OWN.OWNER 7 t).raise Rc.BT_RELEASED t := by
  simp [wrBtOwn, show bit 16 3 = false from rfl, show bit 16 4 = true from rfl, State.btOwned_of_owner ho,
    State.flag, he]

end Ownership

/-- Whatever block refuses, its REFUSE register is none of a timer's. -/
theorem State.refuse_timer (s : State) (c : Rc) (obj : Nat) (m : Master) (off : Nat) (t : Fin 16) {g : Field}
    (hg : g ∈ [BT_CTL.EN, BT_OWN.OWNER]) : (s.refuse c obj m off).get g t = s.get g t := by
  have block (b : Nat) : ∀ t : Fin 16, ∀ g ∈ [BT_CTL.EN, BT_OWN.OWNER],
      g.key t ≠ (refuseCode b).key 0 ∧ g.key t ≠ (refuseObj b).key 0 := by
    unfold refuseObj refuseCode
    split <;> decide
  have shared : ∀ t : Fin 16, ∀ g ∈ [BT_CTL.EN, BT_OWN.OWNER], g.key t ≠ GH_REFUSE.CODE.key 0 ∧
      g.key t ≠ GH_REFUSE.OBJ.key 0 ∧ g.key t ≠ EV_DROP.COUNT.key 0 ∧ g.key t ≠ DROP_EPISODE.key 0 := by decide
  obtain ⟨code, obj⟩ := block c.block t g hg
  obtain ⟨ghCode, ghObj, count, episode⟩ := shared t g hg
  exact State.refuseBy_get _ _ _ _ _ code obj ghCode ghObj count episode

/-! BT_CTL. -/

/-- The fields of BT_CTL beside EN and RUN that may change while EN is 1 (R348). -/
def btFree : List Field := [BT_CTL.ONESHOT, BT_CTL.PRELOAD, BT_CTL.FRZ]

/-- The listed fields of BT_CTL[t] take their bits of a word. -/
def State.btFields (s : State) (t w : Nat) (l : List Field) : State :=
  l.foldl (fun u f => u.put f (bits w f.lo f.width) t) s

theorem State.btFields_get (s : State) (t w : Nat) {l : List Field} {g : Field} {j : Nat}
    (h : g.key j ∉ cellsAt l t) : (s.btFields t w l).get g j = s.get g j :=
  List.foldlRecOn (motive := fun u : State => u.get g j = s.get g j) l _ rfl fun _ hu _ hf =>
    (State.get_put_ne _ _ fun he => h (by rw [he]; exact mem_cellsAt hf)).trans hu

/-- The cells of RUN and EN of all timers. -/
def runCells : List Nat := cellsUpTo [BT_CTL.EN, BT_CTL.RUN] 16

/-- RUN takes a value, which the output shows under MMODE 5 (Table BT-3). -/
def State.btSetRun (s : State) (t v : Nat) : State :=
  let u := s.put BT_CTL.RUN v t
  if u.get BT_CTL.MMODE t = 5 then u.btDrive t false false else u

/-- The output of a timer is apart from cells that are neither the router's nor its own. -/
theorem State.Within.btDrive_outside {s u : State} {keys : List Nat} (h : s.Within (.outside keys) u) {t : Nat}
    (ovf rst : Bool) (hl : ∀ k ∈ keys, k < 32 * 0x40004 ∨ 32 * 0x5700000 ≤ k)
    (ho : BT_STAT.OUT.key t ∉ keys) (hs : SRC_VAL.key (80 + t) ∉ keys) :
    s.Within (.outside keys) (u.btDrive t ovf rst) := by
  refine h.btDrive ovf rst trivial (Scope.mem_outside ho) (Scope.mem_outside hs) fun k hk hr => ?_
  have := word_of_routeCells hk
  have := hl k hr
  omega

theorem State.btSetRun_within (s : State) (t : Fin 16) (v : Nat) :
    (s.put BT_CTL.RUN v t).Within (.outside runCells) (s.btSetRun t v) :=
  .branch (fun _ => State.Within.refl.btDrive_outside false false (by decide) (by apply forTimer t; decide)
    (by apply forTimer t; decide)) fun _ => .refl

theorem State.btSetRun_get (s : State) (t x : Fin 16) (v : Nat) {f : Field} (hf : f ∈ [BT_CTL.EN, BT_CTL.RUN]) :
    (s.btSetRun t v).get f x = (s.put BT_CTL.RUN v t).get f x := by
  have quiet : ∀ k ∈ runCells, k ∉ noiseCells := by decide
  exact (s.btSetRun_within t v).get_outside (mem_cellsUpTo hf x.isLt) (quiet _ (mem_cellsUpTo hf x.isLt))

theorem State.btSetRun_self (s : State) (t : Fin 16) (b : Bool) :
    (s.btSetRun t (b2n b)).get BT_CTL.RUN t = b2n b := by
  rw [State.btSetRun_get _ _ _ _ (by simp), State.get_put_self]
  cases b <;> rfl

theorem State.btSetRun_other (s : State) {t x : Fin 16} (h : t ≠ x) (v : Nat) :
    (s.btSetRun t v).get BT_CTL.RUN x = s.get BT_CTL.RUN x := by
  have apart : BT_CTL.RUN.key x ≠ BT_CTL.RUN.key t := by
    simp only [Field.key, BT_CTL.RUN]
    omega
  rw [State.btSetRun_get _ _ _ _ (by simp), State.get_put_ne _ _ apart]

/-- A locked field of an enabled timer that a word would change is logged and not stored (R348). -/
def State.lockedNoted (s : State) (t w : Nat) : State :=
  if btLocked.any fun f => bits w f.lo f.width ≠ s.get f t then s.raise Rc.BT_TIMER_ON t else s

theorem State.lockedNoted_en (s : State) (t : Fin 16) (w : Nat) :
    (s.lockedNoted t w).get BT_CTL.EN t = s.get BT_CTL.EN t := by
  unfold State.lockedNoted
  split
  · exact State.raise_get_elem _ _ _ _ t (by decide)
  · rfl

section Control

variable {s : State} {m : Master} {t w : Nat} (ho : s.get BT_OWN.OWNER t = m.code) (hb : bit w 0 = true)
include ho hb

theorem wrBtCtl_starts (he : s.get BT_CTL.EN t = 0)
    (hc : (s.btFields t w (btFree ++ btLocked)).btCheck m t = none) :
    wrBtCtl m t w s = (s.btFields t w (btFree ++ btLocked)).btStart t (bits w 1 1) := by
  unfold State.btFields btFree at hc ⊢
  simp only [wrBtCtl, State.btOwned_of_owner ho, State.flag, he, hb, hc, Nat.zero_ne_one, decide_false,
    Bool.false_eq_true, if_false, if_true]

theorem wrBtCtl_refuses (he : s.get BT_CTL.EN t = 0) {c : Rc} {obj : Nat}
    (hc : (s.btFields t w (btFree ++ btLocked)).btCheck m t = some (c, obj)) :
    wrBtCtl m t w s = (s.btFields t w (btFree ++ btLocked)).refuse c obj m (0xA100 + 0x80 * t) := by
  unfold State.btFields btFree at hc ⊢
  simp only [wrBtCtl, State.btOwned_of_owner ho, State.flag, he, hb, hc, Nat.zero_ne_one, decide_false,
    Bool.false_eq_true, if_false, if_true]

theorem wrBtCtl_runs (he : s.get BT_CTL.EN t = 1) :
    wrBtCtl m t w s = ((s.lockedNoted t w).btFields t w btFree).btSetRun t (bits w 1 1) := by
  simp only [wrBtCtl, State.btOwned_of_owner ho, State.flag, he, hb, decide_true, if_true]
  rfl

end Control

/-- The cells that the start of timer t answers for. -/
def startCells (t : Nat) : List Nat := cellsAt [BT_CTL.EN, BT_CTL.RUN, BT_PSCNT] t

/-- What an accepted enable writes after them is none of them (R331, R341, R344). -/
theorem State.btStart_within (s : State) (t : Fin 16) (run : Nat) :
    (((s.put BT_CTL.EN 1 t).put BT_CTL.RUN run t).put BT_PSCNT 0 t).Within (.outside (startCells t))
      (s.btStart t run) := by
  have level : BT_STAT.OCLVL.key t ∉ startCells t := by apply forTimer t; decide
  have channel : ∀ x : Fin 16, ∀ c ∈ [2 * x.val, 2 * x.val + 1],
      KEDGES.key c ∉ startCells x ∧ KHELD.key c ∉ startCells x := by decide
  unfold State.btStart
  refine State.Within.btDrive_outside (.foldl (.foldl (.preloadTransfer .refl ?preload) fun u k _ => ?levels)
    fun u c hc => ?channels) false false ?low ?out ?source
  case levels => exact .branch (fun _ => .put .refl level) fun _ => .put .refl level
  case channels =>
    obtain ⟨edges, held⟩ := channel t c hc
    exact .put (.put .refl edges) held
  case preload => exact Scope.all_outside (by apply forTimer t; decide)
  all_goals apply forTimer t; decide

/-- A start enables the timer, runs it as asked and clears its prescaler (R348). -/
theorem State.btStart_results (s : State) (t : Fin 16) (w : Nat) :
    (s.btStart t (bits w 1 1)).get BT_CTL.EN t = 1 ∧ (s.btStart t (bits w 1 1)).get BT_CTL.RUN t = bits w 1 1 ∧
      (s.btStart t (bits w 1 1)).get BT_PSCNT t = 0 := by
  have quiet : ∀ x : Fin 16, ∀ k ∈ startCells x, k ∉ noiseCells := by decide
  have same {f : Field} (hf : f ∈ [BT_CTL.EN, BT_CTL.RUN, BT_PSCNT]) :=
    (s.btStart_within t (bits w 1 1)).get_outside (mem_cellsAt hf) (quiet t _ (mem_cellsAt hf))
  refine ⟨?_, ?_, ?_⟩ <;> rw [same (by simp)]
  · simp (disch := decide) only [State.get_put_elem, State.get_put_self]
    rfl
  · simp (disch := decide) only [State.get_put_elem, State.get_put_self]
    exact Nat.mod_mod _ _
  · exact State.get_put_self ..

/-- The word of TIMER_RUN for an enabled timer: its own EN, and RUN as asked. -/
theorem runWord_fields {s : State} {t : Nat} (he : s.get BT_CTL.EN t = 1) (on : Bool) :
    let r := s.readReg BT_CTL.reg t
    let w := if on then setBit r 1 else clrBit r 1
    bit w 0 = true ∧ bits w 1 1 = b2n on := by
  have enabled : bit (s.readReg BT_CTL.reg t) 0 = true := by
    simp only [bit, State.readReg, BT_CTL.reg, List.map_cons, List.map_nil, List.sum_cons, List.sum_nil, he,
      decide_eq_true_eq]
    simp [BT_CTL.EN, BT_CTL.RUN, BT_CTL.CSRC, BT_CTL.SMODE, BT_CTL.TINV, BT_CTL.ONESHOT,
      BT_CTL.PRELOAD, BT_CTL.MMODE, BT_CTL.FRZ, BT_CTL.LFRUN, BT_CTL.WAKE]
    omega
  simp only [bits_one]
  cases on with
  | true => exact ⟨bit_setBit_of_bit enabled, congrArg b2n (bit_setBit _ _)⟩
  | false => exact ⟨(bit_clrBit_of_lt _ (by decide)).trans enabled, congrArg b2n (bit_clrBit _ _)⟩

/-! BT_GO. -/

/-- The word of BT_GO: START in the low half, STOP in the high half. -/
theorem goWord_bits (start stop : BitVec 16) {t : Nat} (ht : t < 16) :
    bit (start.toNat + 2 ^ 16 * stop.toNat) t = start.getLsbD t ∧
      bit (start.toNat + 2 ^ 16 * stop.toNat) (16 + t) = stop.getLsbD t := by
  rw [bit_eq_testBit, bit_eq_testBit, Nat.add_comm, Nat.testBit_two_pow_mul_add _ start.isLt,
    Nat.testBit_two_pow_mul_add _ start.isLt, if_pos ht, if_neg (by omega), Nat.add_sub_cancel_left]
  exact ⟨rfl, rfl⟩

/-- The timers that a word of BT_GO names and its writer owns. -/
def State.goTimers (s : State) (m : Master) (w : Nat) : List Nat :=
  ((List.range 16).filter fun t => bit w t || bit w (16 + t)).filter fun t => s.btOwns m t

theorem State.mem_goTimers {s : State} {m : Master} {w t : Nat} :
    t ∈ s.goTimers m w ↔ t < 16 ∧ s.btOwns m t = true ∧ (bit w t || bit w (16 + t)) = true := by
  simp [State.goTimers]

theorem wrBtGo_eq (m : Master) (w : Nat) (s : State) : wrBtGo m w s =
    (s.goTimers m w).foldl (fun u t => u.btSetRun t (b2n (!bit w (16 + t))))
      (if ((List.range 16).filter fun t => bit w t || bit w (16 + t)).all fun t => s.btOwns m t then s
        else s.writeDenied m 0xA004 1) := rfl

theorem wrBtGo_named {s : State} {m : Master} {w : Nat} {t : Fin 16} (h : t.val ∈ s.goTimers m w) :
    (wrBtGo m w s).get BT_CTL.RUN t = b2n (!bit w (16 + t)) := by
  rw [wrBtGo_eq]
  refine foldl_visit (before := fun _ => True) (after := fun u : State => u.get BT_CTL.RUN t = b2n (!bit w (16 + t)))
    ((List.nodup_range.filter _).filter _) h (fun _ _ _ _ _ => trivial) (fun u _ => u.btSetRun_self t _)
    (fun u x hx hne hu => ?_) trivial
  have hx := (State.mem_goTimers.mp hx).1
  exact (u.btSetRun_other (t := ⟨x, hx⟩) (fun he => hne (congrArg Fin.val he)) _).trans hu

theorem wrBtGo_other {s : State} {m : Master} {w : Nat} {t : Fin 16} (h : t.val ∉ s.goTimers m w) :
    (wrBtGo m w s).get BT_CTL.RUN t = s.get BT_CTL.RUN t := by
  rw [wrBtGo_eq]
  refine List.foldlRecOn (motive := fun u : State => u.get BT_CTL.RUN t = s.get BT_CTL.RUN t) _ _ ?_
    fun u hu x hx => ?_
  · split
    · rfl
    · rw [State.writeDenied, State.get_elem_put _ _ t (by decide), State.raise_get_elem _ _ _ _ t (by decide)]
  · have other : (⟨x, (State.mem_goTimers.mp hx).1⟩ : Fin 16) ≠ t := by rintro rfl; exact h hx
    exact (u.btSetRun_other other _).trans hu

/-- STOP wins over START, and only the writer's own timers move (R333). -/
theorem wrBtGo_run (m : Master) (w : Nat) (s : State) (t : Fin 16) : (wrBtGo m w s).get BT_CTL.RUN t =
    if s.btOwns m t && bit w (16 + t) then 0 else if s.btOwns m t && bit w t then 1 else s.get BT_CTL.RUN t := by
  by_cases named : t.val ∈ s.goTimers m w
  · obtain ⟨-, owns, either⟩ := State.mem_goTimers.mp named
    rw [wrBtGo_named named]
    cases stop : bit w (16 + t) with
    | true => simp [owns, b2n]
    | false =>
      have start : bit w t = true := by simpa [stop] using either
      simp [owns, start, b2n]
  · rw [wrBtGo_other named]
    cases owns : s.btOwns m t with
    | false => simp
    | true =>
      obtain ⟨start, stop⟩ : bit w t = false ∧ bit w (16 + t) = false := by
        simpa [State.mem_goTimers, owns] using named
      simp [start, stop]

/-! The count and its snapshot. -/

theorem State.heldLow_lt {s : State} {m : Master} {lo v : Nat} (h : s.heldLow m lo = some v) : v < 2 ^ 32 := by
  simp only [State.heldLow, Option.ite_none_right_eq_some, Option.some.injEq] at h
  omega

theorem wrBtCntHi_eq {s : State} {m : Master} {t low : Nat} (ho : s.get BT_OWN.OWNER t = m.code)
    (hl : s.heldLow m (0xA110 + 0x80 * t) = some low) (w : Nat) : wrBtCntHi m t w s =
      ((s.dropHold m (0xA110 + 0x80 * t)).setBtCount t (low + 2 ^ 32 * (w % 2 ^ 16))).put BT_PSCNT 0 t := by
  simp [wrBtCntHi, State.btOwned_of_owner ho, State.pairValue, hl]

/-- The count of timer t is copied to its snapshot (R336). -/
def State.btSnap (s : State) (t : Nat) : State :=
  (s.put BT_SNAP_LO.COUNT (s.get BT_CNT_LO.COUNT t) t).put BT_SNAP_HI.COUNT (s.get BT_CNT_HI.COUNT t) t

theorem wrBtSnap_eq (w : Nat) (s : State) :
    wrBtSnap w s = (List.range 16).foldl (fun u t => if bit w t then u.btSnap t else u) s := rfl

theorem State.btSnap_get (s : State) {t : Nat} {g : Field} {j : Nat}
    (h : g.key j ∉ cellsAt [BT_SNAP_LO.COUNT, BT_SNAP_HI.COUNT] t) : (s.btSnap t).get g j = s.get g j := by
  simp only [cellsAt, List.map_cons, List.map_nil, List.mem_cons, List.not_mem_nil, or_false, not_or] at h
  rw [State.btSnap, State.get_put_ne _ _ h.2, State.get_put_ne _ _ h.1]

theorem State.btSnap_results (s : State) (t : Fin 16) :
    (s.btSnap t).get BT_SNAP_LO.COUNT t = s.get BT_CNT_LO.COUNT t % 2 ^ 32 ∧
      (s.btSnap t).get BT_SNAP_HI.COUNT t = s.get BT_CNT_HI.COUNT t % 2 ^ 16 := by
  refine ⟨?_, State.get_put_self ..⟩
  rw [State.btSnap, State.get_put_elem _ _ t (by decide)]
  exact State.get_put_self ..

/-- A snapshot writes no count, and no snapshot of another timer. -/
theorem snapCells_apart {t x : Nat} {g : Field}
    (hg : g ∈ [BT_CNT_LO.COUNT, BT_CNT_HI.COUNT] ∨ g ∈ [BT_SNAP_LO.COUNT, BT_SNAP_HI.COUNT] ∧ x ≠ t) :
    g.key t ∉ cellsAt [BT_SNAP_LO.COUNT, BT_SNAP_HI.COUNT] x := by
  simp only [List.mem_cons, List.not_mem_nil, or_false] at hg
  simp only [cellsAt, List.map_cons, List.map_nil, List.mem_cons, List.not_mem_nil, or_false, Field.key]
  rcases hg with (rfl | rfl) | ⟨rfl | rfl, hx⟩ <;>
    simp only [BT_CNT_LO.COUNT, BT_CNT_HI.COUNT, BT_SNAP_LO.COUNT, BT_SNAP_HI.COUNT] <;> omega

theorem wrBtSnap_copies (s : State) {w : Nat} (t : Fin 16) (h : bit w t = true) :
    (wrBtSnap w s).get BT_SNAP_LO.COUNT t = s.get BT_CNT_LO.COUNT t % 2 ^ 32 ∧
      (wrBtSnap w s).get BT_SNAP_HI.COUNT t = s.get BT_CNT_HI.COUNT t % 2 ^ 16 := by
  have kept (u : State) (x : Nat) {g : Field} (hg : g.key t ∉ cellsAt [BT_SNAP_LO.COUNT, BT_SNAP_HI.COUNT] x) :
      (if bit w x then u.btSnap x else u).get g t = u.get g t := by
    split
    · exact u.btSnap_get hg
    · rfl
  rw [wrBtSnap_eq]
  refine foldl_visit (before := fun u : State => u.get BT_CNT_LO.COUNT t = s.get BT_CNT_LO.COUNT t ∧
      u.get BT_CNT_HI.COUNT t = s.get BT_CNT_HI.COUNT t)
    (after := fun u : State => u.get BT_SNAP_LO.COUNT t = s.get BT_CNT_LO.COUNT t % 2 ^ 32 ∧
      u.get BT_SNAP_HI.COUNT t = s.get BT_CNT_HI.COUNT t % 2 ^ 16)
    List.nodup_range (List.mem_range.mpr t.isLt) (fun u x _ _ hu => ?_) (fun u hu => ?_) (fun u x _ hne hu => ?_)
    ⟨rfl, rfl⟩
  · rwa [kept u x (snapCells_apart (.inl (by simp))), kept u x (snapCells_apart (.inl (by simp)))]
  · rw [if_pos h, ← hu.1, ← hu.2]
    exact u.btSnap_results t
  · rwa [kept u x (snapCells_apart (.inr ⟨by simp, hne⟩)), kept u x (snapCells_apart (.inr ⟨by simp, hne⟩))]

/-! The captured count. -/

theorem State.bit_andBit_self (s : State) (f : Field) (n i : Nat) :
    bit ((s.andBit f n i).get f i) n = false := by
  have cleared := bit_clrBit (s.get f i) n
  rw [bit_eq_testBit] at cleared
  rw [State.get_andBit_self, bit_eq_testBit, Nat.testBit_mod_two_pow, cleared, Bool.and_false]

section Captured

variable {s : State} {m : Master} (hp : s.peeks m = false)
include hp

theorem rdCapLo_eq (c : Nat) : rdCapLo m c s =
    (s.get BT_CAP_LO.COUNT c, ((((s.andBit BT_STAT.CAPF (c % 2) (c / 2)).latchHigh m (0xA904 + 0x20 * c)
      (s.readReg BT_CAP_HI.reg c)).latchHigh m (0xA904 + 0x20 * c + 8) (s.get BT_FINE0.TIME c)).latchHigh m
      (0xA904 + 0x20 * c + 12) (s.get BT_FINE1.TIME c)).latchHigh m (0xA904 + 0x20 * c + 16)
      (s.readReg BT_FINE2.reg c)) := by
  simp [rdCapLo, hp]

theorem rdCapLo_latches (c current : Nat) : (rdCapLo m c s).2.latched m (0xA904 + 0x20 * c) current =
    s.readReg BT_CAP_HI.reg c % 2 ^ 32 := by
  rw [rdCapLo_eq hp, State.latched_latchHigh_ne _ _ _ _ (by omega), State.latched_latchHigh_ne _ _ _ _ (by omega),
    State.latched_latchHigh_ne _ _ _ _ (by omega), State.latched_latchHigh]

theorem rdCapLo_clears (t : Fin 16) (j : Fin 2) :
    bit ((rdCapLo m (2 * t.val + j.val) s).2.get BT_STAT.CAPF t) j = false := by
  have apart (lo high : Nat) (u : State) : (u.latchHigh m lo high).get BT_STAT.CAPF t = u.get BT_STAT.CAPF t := by
    refine State.get_put_ne _ _ ?_
    simp only [Field.key, BT_STAT.CAPF, RD_LATCH]
    omega
  simp only [rdCapLo_eq hp, apart, show (2 * t.val + j.val) / 2 = t by omega, show (2 * t.val + j.val) % 2 = j by omega]
  exact State.bit_andBit_self ..

end Captured

end Sys2Proof.Machine
end

section
/-! O22: what the register commands of the Bandstand timers answer. -/

namespace Sys2Proof.Machine

section Commands

variable {s : State} {m : Master} {t : Fin 16}

/-! Ownership (R325 to R327). -/

section Ownership

variable (hw : Writes m (0xA104 + 0x80 * t) s)
include hw

theorem timerClaim_assigns (assign : BitVec 3) (hm : m = .gatehouse) :
    Answers (.timerClaim m t assign) s fun u => u.get BT_OWN.OWNER t = assign.toNat := by
  subst hm
  obtain ⟨claim, release, owner⟩ := claimWord_fields assign
  refine answers_write_same (exec_timerClaim _ t assign s) hw fun u same => ?_
  rw [wrBtOwn_assigns claim release, owner] at same
  rw [same.get_elem_eq t (by decide), State.raise_get_elem _ _ _ _ t (by decide), State.get_put_self]
  exact Nat.mod_eq_of_lt assign.isLt

theorem timerClaim_claims (assign : BitVec 3) (hm : m ≠ .gatehouse) (ho : s.get BT_OWN.OWNER t = 7) :
    Answers (.timerClaim m t assign) s fun u => u.get BT_OWN.OWNER t = m.code := by
  obtain ⟨claim, release, -⟩ := claimWord_fields assign
  refine answers_write_same (exec_timerClaim m t assign s) hw fun u same => ?_
  rw [wrBtOwn_claims claim release hm ho] at same
  rw [same.get_elem_eq t (by decide), State.raise_get_elem _ _ _ _ t (by decide), State.get_put_self]
  exact Nat.mod_eq_of_lt (masterCode_lt m)

theorem timerClaim_refused (assign : BitVec 3) (hm : m ≠ .gatehouse) (hf : s.get BT_OWN.OWNER t ≠ 7)
    (ho : s.get BT_OWN.OWNER t ≠ m.code) : Answers (.timerClaim m t assign) s fun u =>
      u.get BT_OWN.OWNER t = s.get BT_OWN.OWNER t ∧ u.get GH_REFUSE.CODE = Rc.BT_TIMER_OWNED.num % 2 ^ 16 := by
  obtain ⟨claim, release, -⟩ := claimWord_fields assign
  refine answers_write_same (exec_timerClaim m t assign s) hw fun u same => ?_
  rw [wrBtOwn_refuses claim release hm hf ho] at same
  refine ⟨?_, ?_⟩
  · rw [same.get_elem_eq t (by decide), State.refuse_timer _ _ _ _ _ _ (by simp)]
  · rw [same.get_eq (by decide), State.refuse, State.refuseBy_code]

theorem timerRelease_frees (ho : s.get BT_OWN.OWNER t = m.code) (he : s.get BT_CTL.EN t = 0) :
    Answers (.timerRelease m t) s fun u => u.get BT_OWN.OWNER t = 7 := by
  refine answers_write_same (exec_timerRelease m t s) hw fun u same => ?_
  rw [wrBtOwn_releases ho he] at same
  rw [same.get_elem_eq t (by decide), State.raise_get_elem _ _ _ _ t (by decide), State.get_put_self]
  rfl

end Ownership

/-! Enabling and running (R332, R348). -/

section Control

variable (hw : Writes m (0xA100 + 0x80 * t) s) (ho : s.get BT_OWN.OWNER t = m.code)
include hw ho

theorem timerEnable_starts {w : Word} (he : s.get BT_CTL.EN t = 0) (hb : bit w.toNat 0 = true)
    (hc : (s.btFields t w.toNat (btFree ++ btLocked)).btCheck m t = none) : Answers (.timerEnable m t w) s fun v =>
      v.get BT_CTL.EN t = 1 ∧ v.get BT_CTL.RUN t = bits w.toNat 1 1 ∧ v.get BT_PSCNT t = 0 := by
  refine answers_write_same (exec_timerEnable m t w s) hw fun v same => ?_
  rw [wrBtCtl_starts ho hb he hc] at same
  rw [same.get_elem_eq t (by decide), same.get_elem_eq t (by decide), same.get_elem_eq t (by decide)]
  exact State.btStart_results ..

theorem timerEnable_refused {w : Word} (he : s.get BT_CTL.EN t = 0) (hb : bit w.toNat 0 = true) (r : Rc × Nat)
    (hc : (s.btFields t w.toNat (btFree ++ btLocked)).btCheck m t = some r) :
    Answers (.timerEnable m t w) s fun v =>
      v.get BT_CTL.EN t = 0 ∧ v.get GH_REFUSE.CODE = r.1.num % 2 ^ 16 := by
  refine answers_write_same (exec_timerEnable m t w s) hw fun v same => ?_
  rw [wrBtCtl_refuses ho hb he hc] at same
  refine ⟨?_, ?_⟩
  · rw [same.get_elem_eq t (by decide), State.refuse_timer _ _ _ _ _ _ (by simp),
      State.btFields_get _ _ _ (by apply forTimer t; decide), he]
  · rw [same.get_eq (by decide), State.refuse, State.refuseBy_code]

theorem timerRun_sets (on : Bool) (he : s.get BT_CTL.EN t = 1) :
    Answers (.timerRun m t on) s fun u => u.get BT_CTL.RUN t = b2n on ∧ u.get BT_CTL.EN t = 1 := by
  obtain ⟨enable, run⟩ := runWord_fields he on
  refine answers_write_same (exec_timerRun m t on s) hw fun u same => ?_
  rw [wrBtCtl_runs ho enable he, run] at same
  refine ⟨?_, ?_⟩ <;> rw [same.get_elem_eq t (by decide)]
  · exact State.btSetRun_self ..
  · rw [State.btSetRun_get _ _ _ _ (by simp), State.get_put_elem _ _ t (by decide),
      State.btFields_get _ _ _ (by apply forTimer t; decide), State.lockedNoted_en, he]

end Control

/-! BT_GO (R333). -/

theorem btGo_runs (start stop : BitVec 16) (hw : Writes m 0xA004 s) : Answers (.btGo m start stop) s fun u =>
    ∀ t : Fin 16, u.get BT_CTL.RUN t = if s.btOwns m t && stop.getLsbD t then 0
      else if s.btOwns m t && start.getLsbD t then 1 else s.get BT_CTL.RUN t := by
  refine answers_write_same (exec_btGo m start stop s) hw fun u same t => ?_
  obtain ⟨starts, stops⟩ := goWord_bits start stop t.isLt
  rw [same.get_elem_eq t (by decide), wrBtGo_run, starts, stops]

/-! The count (R335) and its snapshot (R336). -/

theorem countLoad_loads (w : Word) {low : Nat} (hw : Writes m (0xA114 + 0x80 * t) s)
    (ho : s.get BT_OWN.OWNER t = m.code) (hl : s.heldLow m (0xA110 + 0x80 * t) = some low) :
    Answers (.countLoad m t w) s fun u =>
      u.btCount t = low + 2 ^ 32 * (w.toNat % 2 ^ 16) ∧ u.get BT_PSCNT t = 0 := by
  refine answers_write_same (exec_countLoad m t w s) hw fun u same => ?_
  rw [wrBtCntHi_eq ho hl] at same
  have bound : low + 2 ^ 32 * (w.toNat % 2 ^ 16) < 2 ^ 48 := by
    have := State.heldLow_lt hl
    omega
  refine ⟨?_, ?_⟩
  · rw [← State.setBtCount_btCount (s.dropHold m (0xA110 + 0x80 * t)) t bound, State.btCount, State.btCount,
      same.get_elem_eq t (by decide), same.get_elem_eq t (by decide), State.get_put_elem _ _ t (by decide),
      State.get_put_elem _ _ t (by decide)]
  · rw [same.get_elem_eq t (by decide), State.get_put_self]
    rfl

theorem snapshot_copies (mask : BitVec 16) (hw : Writes m 0xA008 s) : Answers (.snapshot m mask) s fun u =>
    ∀ t : Fin 16, mask.getLsbD t = true → u.get BT_SNAP_LO.COUNT t = s.get BT_CNT_LO.COUNT t % 2 ^ 32 ∧
      u.get BT_SNAP_HI.COUNT t = s.get BT_CNT_HI.COUNT t % 2 ^ 16 := by
  refine answers_write_same (exec_snapshot m mask s) hw fun u same t named => ?_
  rw [same.get_elem_eq t (by decide), same.get_elem_eq t (by decide)]
  exact wrBtSnap_copies s t ((bit_eq_testBit _ _).trans named)

/-! The captured count (R346). -/

theorem capLoRead_returns (j : Fin 2) (hr : Reads m (0xA904 + 0x20 * (2 * t.val + j.val)) s)
    (hp : s.peeks m = false) : exec (.capLoRead m t j) s = run s
      ((rdCapLo m (2 * t.val + j.val) s).2.emit .busData [m.code, s.get BT_CAP_LO.COUNT (2 * t.val + j.val)]) := by
  rw [exec_capLoRead, execCapLoRead, live_awake _ hr.1]
  dsimp only
  rw [State.onRead_of hr, rdCapLo_eq hp]
  rfl

end Commands

/-- Settles O22: each clause is the lemma of its command. -/
theorem timerRegistersTakeEffect : Obligations.TimerRegistersTakeEffect := by
  unfold Obligations.TimerRegistersTakeEffect
  intro s m
  refine ⟨fun t assign hw => ?claim, fun t w hw ho he hb => ?enable, fun t on hw ho => timerRun_sets hw ho on,
    btGo_runs, fun t w low => countLoad_loads w, snapshot_copies, fun t j hr hp => ?capture⟩
  case claim =>
    exact ⟨timerClaim_claims hw assign, timerClaim_refused hw assign, timerClaim_assigns hw assign,
      timerRelease_frees hw⟩
  case enable => exact ⟨timerEnable_starts hw ho he hb, timerEnable_refused hw ho he hb⟩
  case capture => exact ⟨capLoRead_returns j hr hp, rdCapLo_clears hp t j, rdCapLo_latches hp _⟩

end Sys2Proof.Machine
end

section
/-! What the operations of spec/10 leave of a context and of the engine: enabling and leaving (R361, R362), the ready
list and preemption (R376 to R382). -/

namespace Sys2Proof.Machine

/-! Enabling and leaving. -/

/-- OG_CCFG[c] holds the written word, and EN is still 0 (R361). -/
def State.ccfgWritten (s : State) (m : Master) (c w : Nat) : State :=
  (s.writeReg m OG_CCFG.reg c w).put OG_CCFG.EN 0 c

/-- A word that would change the configuration of an enabled context is logged and not stored (R362). -/
def State.ccfgNoted (s : State) (c w : Nat) : State :=
  if bits w 1 8 ≠ s.readReg OG_CCFG.reg c / 2 then s.raise Rc.OG_CTX_ON c else s

/-- All queues of context c are bound: it is IDLE with EN 1 (R361). -/
def State.ogEnabled (s : State) (c : Nat) : State :=
  ((s.put OG_CCFG.EN 1 c).put OG_CSTAT.STATE ogIDLE c).put OG_STRAY 0 c

section Results

variable (s : State) (m : Master) (c : Fin 64) (w : Nat)

theorem State.ccfgWritten_en : (s.ccfgWritten m c w).get OG_CCFG.EN c = 0 := State.get_put_self ..

theorem State.ccfgWritten_state : (s.ccfgWritten m c w).ogState c = s.ogState c := by
  have apart : ∀ f ∈ OG_CCFG.reg.fields, ∀ c : Fin 64, OG_CSTAT.STATE.key c ≠ f.key c := by decide
  rw [State.ogState, State.ccfgWritten, State.get_put_elem _ _ c (by decide),
    State.writeReg_get _ _ _ _ _ (by decide) fun f hf => apart f hf c, State.ogState]

theorem State.ogEnabled_results : (s.ogEnabled c).get OG_CCFG.EN c = 1 ∧ (s.ogEnabled c).ogState c = ogIDLE := by
  refine ⟨?_, ?_⟩
  · rw [State.ogEnabled, State.get_put_elem _ _ c (by decide), State.get_put_elem _ _ c (by decide),
      State.get_put_self]
    rfl
  · rw [State.ogState, State.ogEnabled, State.get_put_elem _ _ c (by decide), State.get_put_self]
    rfl

theorem State.unbindConsumer_en (who q : Nat) :
    (s.unbindConsumer who q).get OG_CCFG.EN c = s.get OG_CCFG.EN c := by
  have apart : OG_CCFG.EN.key c ≠ QCONS.key q := by
    simp only [Field.key, OG_CCFG.EN, QCONS]
    omega
  unfold State.unbindConsumer
  split
  · exact State.get_put_ne _ _ apart
  · rfl

theorem State.unbindProducer_get (who q : Nat) (g : Field) (j : Nat) : (s.unbindProducer who q).get g j = s.get g j :=
  List.foldlRecOn (motive := fun u : State => u.get g j = s.get g j) _ _ rfl fun _ hu _ _ => hu

theorem State.ogRelease_results :
    (s.ogRelease c).get OG_CCFG.EN c = s.get OG_CCFG.EN c ∧ (s.ogRelease c).ogState c = ogOFF := by
  refine ⟨?_, State.get_put_self ..⟩
  rw [State.ogRelease, State.get_put_elem _ _ c (by decide), State.unbindProducer_get, State.unbindConsumer_en,
    State.unbindConsumer_en]

theorem State.refuse_context (r : Rc) (obj off : Nat) {g : Field} (hg : g ∈ [OG_CCFG.EN, OG_CSTAT.STATE]) :
    (s.refuse r obj m off).get g c = s.get g c := by
  have block (b : Nat) : ∀ g ∈ [OG_CCFG.EN, OG_CSTAT.STATE], ∀ c : Fin 64,
      g.key c ≠ (refuseCode b).key 0 ∧ g.key c ≠ (refuseObj b).key 0 := by
    unfold refuseObj refuseCode
    split <;> decide
  have shared : ∀ g ∈ [OG_CCFG.EN, OG_CSTAT.STATE], ∀ c : Fin 64, g.key c ≠ GH_REFUSE.CODE.key 0 ∧
      g.key c ≠ GH_REFUSE.OBJ.key 0 ∧ g.key c ≠ EV_DROP.COUNT.key 0 ∧ g.key c ≠ DROP_EPISODE.key 0 := by decide
  obtain ⟨code, object⟩ := block r.block g hg c
  obtain ⟨ghCode, ghObj, count, episode⟩ := shared g hg c
  exact State.refuseBy_get _ _ _ _ _ code object ghCode ghObj count episode

end Results

section Written

variable {s : State} {m : Master} {c w : Nat}

section Off

variable (he : s.get OG_CCFG.EN c = 0) (ho : (s.ccfgWritten m c w).ogState c = ogOFF) (hb : bit w 0 = true)
include he ho hb

theorem wrOgCcfg_enables {t : State} (hc : (s.ccfgWritten m c w).ogCheck m c = none)
    (ht : (s.ccfgWritten m c w).ogBind c = .inr t) : wrOgCcfg m c w s = t.ogEnabled c := by
  unfold State.ccfgWritten at ho hc ht
  simp [wrOgCcfg, State.flag, he, hb, ho, hc, ht, State.ogEnabled]

theorem wrOgCcfg_refuses {r : Rc × Nat} (hc : (s.ccfgWritten m c w).ogCheck m c = some r) :
    wrOgCcfg m c w s = (s.ccfgWritten m c w).refuse r.1 r.2 m (0x19000 + 0x40 * c) := by
  unfold State.ccfgWritten at ho hc ⊢
  simp [wrOgCcfg, State.flag, he, hb, ho, hc]

end Off

theorem wrOgCcfg_leaves (he : s.get OG_CCFG.EN c = 1) (hj : ((s.ccfgNoted c w).put OG_CCFG.EN 0 c).ogBusy c = false)
    (hb : bit w 0 = false) : wrOgCcfg m c w s = ((s.ccfgNoted c w).put OG_CCFG.EN 0 c).ogRelease c := by
  unfold State.ccfgNoted at hj ⊢
  simp only [wrOgCcfg, State.flag, he, hb, hj, decide_true, if_true, Bool.false_eq_true, if_false]

end Written

/-- The state of a context is apart from what precedes its release (R362). -/
theorem State.ccfgNoted_busy (s : State) (c : Fin 64) (w : Nat) :
    ((s.ccfgNoted c w).put OG_CCFG.EN 0 c).ogBusy c = s.ogBusy c := by
  have noted : (s.ccfgNoted c w).get OG_CSTAT.STATE c = s.get OG_CSTAT.STATE c := by
    unfold State.ccfgNoted
    split
    · exact State.raise_get_elem _ _ _ _ c (by decide)
    · rfl
  rw [State.ogBusy, State.ogState, State.get_put_elem _ _ c (by decide), noted, State.ogBusy, State.ogState]

/-! The ready list and the engine. -/

section Engine

variable {s : State}

/-- While the engine is active a context that becomes ready waits behind the others (R380, R381). -/
theorem State.ogReady_waits (ha : s.get OG_STAT.ACTIVE = 1) (c : Fin 64) : (s.ogReady c).ogState c = ogREADY ∧
    (s.ogReady c).list OG_WAITERS = s.list OG_WAITERS ++ [c.val] := by
  have active : ((s.put OG_CSTAT.STATE ogREADY c).enq OG_WAITERS c).get OG_STAT.ACTIVE = 1 := by
    have apart : ∀ c : Fin 64, OG_STAT.ACTIVE.key 0 ≠ OG_CSTAT.STATE.key c := by decide
    rw [State.enq_get, State.get_put_ne _ _ (apart c), ha]
  have ready : ((s.put OG_CSTAT.STATE ogREADY c).enq OG_WAITERS c).ogState c = ogREADY :=
    (State.enq_get ..).trans (State.get_put_self ..)
  have waits : ((s.put OG_CSTAT.STATE ogREADY c).enq OG_WAITERS c).list OG_WAITERS = s.list OG_WAITERS ++ [c.val] :=
    State.list_enq_self ..
  simp only [State.ogReady, State.flag, active, decide_true, if_true]
  split
  · exact ⟨(State.get_elem_put _ _ c (by decide)).trans ready, waits⟩
  · exact ⟨ready, waits⟩

/-- The state of a context is neither of the cells that tell whether the engine is held. -/
theorem State.ogLeave_state (s : State) (c : Nat) {st : Nat} (h : st < 8) : (s.ogLeave c st).ogState c = st := by
  have active : OG_CSTAT.STATE.key c ≠ OG_STAT.ACTIVE.key 0 := by
    simp only [Field.key, OG_CSTAT.STATE, OG_STAT.ACTIVE]
    omega
  have due : OG_CSTAT.STATE.key c ≠ OG_DUE.key 0 := by
    simp only [Field.key, OG_CSTAT.STATE, OG_DUE]
    omega
  have left : (s.put OG_CSTAT.STATE st c).get OG_CSTAT.STATE c = st :=
    (State.get_put_self ..).trans (Nat.mod_eq_of_lt h)
  unfold State.ogLeave State.ogState
  dsimp only
  split
  · rw [State.get_put_ne _ _ due, State.get_put_ne _ _ active, State.setList_get, left]
  · rw [State.setList_get, left]

/-- A context that held the engine leaves it free (R380). -/
theorem State.ogLeave_frees {c : Nat} (h : s.ogState c = ogRUN) (st : Nat) :
    (s.ogLeave c st).get OG_STAT.ACTIVE = 0 := by
  simp only [State.ogLeave, h, if_true]
  rw [State.get_put_ne _ _ (by decide), State.get_put_self]
  rfl

theorem State.ogPreempt_active (ha : s.get OG_STAT.ACTIVE = 1) :
    s.ogPreempt = (s.ogLeave (s.get OG_STAT.CUR) ogREADY).enq OG_WAITERS (s.get OG_STAT.CUR) := by
  simp [State.ogPreempt, State.flag, ha]

end Engine

end Sys2Proof.Machine
end

section
/-! O24: what the commands of an Orangery context and of the engine answer. -/

namespace Sys2Proof.Machine

/-! Enabling and leaving (R361, R362). -/

section Enable

variable {s : State} {m : Master} {c : Fin 64} {w : Word} (hw : Writes m (0x19000 + 0x40 * c) s)
include hw

section Off

variable (he : s.get OG_CCFG.EN c = 0) (ho : s.ogState c = ogOFF) (hb : bit w.toNat 0 = true)
include he ho hb

theorem contextEnable_binds {t : State} (hc : (s.ccfgWritten m c w.toNat).ogCheck m c = none)
    (ht : (s.ccfgWritten m c w.toNat).ogBind c = .inr t) :
    Answers (.contextEnable m c w) s fun v => v.get OG_CCFG.EN c = 1 ∧ v.ogState c = ogIDLE := by
  refine answers_write_same (exec_contextEnable m c w s) hw fun v same => ?_
  rw [wrOgCcfg_enables he ((s.ccfgWritten_state m c _).trans ho) hb hc ht] at same
  rw [State.ogState, same.get_elem_eq c (by decide), same.get_elem_eq c (by decide)]
  exact t.ogEnabled_results c

theorem contextEnable_refused {r : Rc × Nat} (hc : (s.ccfgWritten m c w.toNat).ogCheck m c = some r) :
    Answers (.contextEnable m c w) s fun v =>
      v.get OG_CCFG.EN c = 0 ∧ v.ogState c = ogOFF ∧ v.get GH_REFUSE.CODE = r.1.num % 2 ^ 16 := by
  have off := (s.ccfgWritten_state m c w.toNat).trans ho
  refine answers_write_same (exec_contextEnable m c w s) hw fun v same => ?_
  rw [wrOgCcfg_refuses he off hb hc] at same
  refine ⟨?_, ?_, ?_⟩
  · rw [same.get_elem_eq c (by decide), State.refuse_context _ _ _ _ _ _ (by simp), State.ccfgWritten_en]
  · rw [State.ogState, same.get_elem_eq c (by decide), State.refuse_context _ _ _ _ _ _ (by simp)]
    exact off
  · rw [same.get_eq (by decide), State.refuse, State.refuseBy_code]

end Off

theorem contextEnable_leaves (he : s.get OG_CCFG.EN c = 1) (hj : s.ogBusy c = false) (hb : bit w.toNat 0 = false) :
    Answers (.contextEnable m c w) s fun v => v.get OG_CCFG.EN c = 0 ∧ v.ogState c = ogOFF := by
  refine answers_write_same (exec_contextEnable m c w s) hw fun v same => ?_
  rw [wrOgCcfg_leaves he ((s.ccfgNoted_busy c _).trans hj) hb] at same
  obtain ⟨kept, off⟩ := ((s.ccfgNoted c w.toNat).put OG_CCFG.EN 0 c).ogRelease_results c
  refine ⟨?_, ?_⟩
  · rw [same.get_elem_eq c (by decide), kept, State.get_put_self]
    rfl
  · rw [State.ogState, same.get_elem_eq c (by decide)]
    exact off

end Enable

/-! Fetching (R358, R365). -/

theorem exec_jobFetch_takes {s t : State} {c : Fin 64} {lw : Nat} (ha : Awake s) (hm : s.mode = mRUN)
    (he : s.get OG_CCFG.EN c = 1) (hi : s.ogState c = ogIDLE)
    (hl : ogStray (s.queueSlots (s.get OG_CQ.JQ c) + 1) c s = (some lw, t)) :
    exec (.jobFetch c) s = run s (t.ogTake c lw) := by
  rw [exec_jobFetch, execJobFetch, live_awake _ ha, if_pos (by simp [hm, State.flag, he, hi]), hl, run]

/-! The running job (R376, R381, R382, R386). -/

section Engine

variable {s : State} (hact : s.get OG_STAT.ACTIVE = 1) (hm : s.mode = mRUN)
include hact hm

theorem engineRuns : (s.flag OG_STAT.ACTIVE && decide (s.mode = mRUN)) = true := by simp [State.flag, hact, hm]

variable (ha : Awake s)
include ha

theorem sliceEnd_rival (hr : s.ogRival = true) : Answers .sliceEnd s fun t => t.get OG_DUE = 1 := by
  refine answers_live_same (exec_sliceEnd s) ha fun t same => ?_
  rw [if_pos (engineRuns hact hm), if_pos hr] at same
  rw [same.get_eq (by decide), State.get_put_self]
  rfl

theorem sliceEnd_alone (hr : s.ogRival = false) : Answers .sliceEnd s fun t => t.get OG_DUE = s.get OG_DUE := by
  refine answers_live_same (exec_sliceEnd s) ha fun t same => ?_
  rw [if_pos (engineRuns hact hm), if_neg (by simp [hr])] at same
  exact same.get_eq (by decide)

theorem exec_jobEnd_runs : exec .jobEnd s = run s (s.ogRun (s.get OG_STAT.CUR)) := by
  rw [exec_jobEnd, execJobEnd, live_awake _ ha, if_pos (engineRuns hact hm), run]

theorem exec_preemptionPoint_aborts (hab : s.get OG_ABORTING (s.get OG_STAT.CUR) = 1) : exec .preemptionPoint s =
    run s ((s.put OG_ABORTING 0 (s.get OG_STAT.CUR)).ogEnd (s.get OG_STAT.CUR) Rc.OG_ABORTED) := by
  rw [exec_preemptionPoint, execPreemptionPoint, live_awake _ ha, if_pos (engineRuns hact hm)]
  dsimp only
  rw [if_pos (by simp [State.flag, hab]), run]

theorem exec_preemptionPoint_preempts (hab : s.get OG_ABORTING (s.get OG_STAT.CUR) = 0) (hd : s.get OG_DUE = 1) :
    exec .preemptionPoint s = run s s.ogPreempt.ogSchedule := by
  rw [exec_preemptionPoint, execPreemptionPoint, live_awake _ ha, if_pos (engineRuns hact hm)]
  dsimp only
  rw [if_neg (by simp [State.flag, hab]), if_pos (by simp [State.flag, hd]), run]

end Engine

/-! Waits (R376, R378). -/

section Waits

variable {s : State} {c : Fin 64} (hact : s.get OG_STAT.ACTIVE = 1)
include hact

/-- A command that makes a context ready leaves it waiting behind the others. -/
theorem answers_of_ogReady {i : Instr} (hi : exec i s = run s (s.ogReady c)) : Answers i s fun t =>
    t.ogState c = ogREADY ∧ t.list OG_WAITERS = s.list OG_WAITERS ++ [c.val] := by
  have apart : ∀ c : Fin 64, OG_CSTAT.STATE.key c ≠ MSI_PEND.key 0 := by decide
  obtain ⟨ready, waits⟩ := State.ogReady_waits hact c
  exact ⟨_, hi, (deliver_get _ _ (apart c)).trans ready, (deliver_list ..).trans waits⟩

variable (ha : Awake s)
include ha

theorem contextInputReady_readies (hs : s.ogState c = ogWAIT_IN) (hq : (s.anyLane (s.get OG_CQ.DQ c)).isSome = true) :
    Answers (.contextInputReady c) s fun t =>
      t.ogState c = ogREADY ∧ t.list OG_WAITERS = s.list OG_WAITERS ++ [c.val] := by
  refine answers_of_ogReady hact ?_
  rw [exec_contextInputReady, execContextInputReady, live_awake _ ha, if_pos (by simp [hs, hq]), run]

theorem contextOutputReady_readies (hs : s.ogState c = ogWAIT_OUT) (hr : s.ogRoom c = true) :
    Answers (.contextOutputReady c) s fun t =>
      t.ogState c = ogREADY ∧ t.list OG_WAITERS = s.list OG_WAITERS ++ [c.val] := by
  refine answers_of_ogReady hact ?_
  rw [exec_contextOutputReady, execContextOutputReady, live_awake _ ha, if_pos (by simp [hs, hr]), run]

end Waits

/-! ABORT and RESUME (R385, R386). -/

section Control

variable {s : State} {m : Master} {c : Fin 64}

theorem wrOgCctl_abort (s : State) (c : Nat) : wrOgCctl c 2 s = s.ogAbort c := by
  simp [wrOgCctl, show bit 2 0 = false from rfl, show bit 2 1 = true from rfl]

theorem wrOgCctl_resume {s : State} {c : Nat} (hs : s.ogState c = ogHALTED) :
    wrOgCctl c 1 s = s.put OG_CSTAT.STATE ogIDLE c := by
  simp [wrOgCctl, show bit 1 0 = true from rfl, show bit 1 1 = false from rfl, hs]

variable (hw : Writes m (0x19014 + 0x40 * c) s)
include hw

theorem jobAbort_marks (hs : s.ogState c = ogRUN) :
    Answers (.jobAbort m c) s fun t => t.get OG_ABORTING c = 1 ∧ t.ogState c = ogRUN := by
  refine answers_write_same (exec_jobAbort m c s) hw fun t same => ?_
  rw [wrOgCctl_abort, State.ogAbort, if_pos hs] at same
  refine ⟨?_, ?_⟩
  · rw [same.get_elem_eq c (by decide), State.get_put_self]
    rfl
  · rw [State.ogState, same.get_elem_eq c (by decide), State.get_put_elem _ _ c (by decide)]
    exact hs

theorem exec_jobAbort_ends (hb : s.ogBusy c = true) (hs : s.ogState c ≠ ogRUN) : exec (.jobAbort m c) s =
    run s ((s.ogEnd c Rc.OG_ABORTED).resend s (0x19014 + 0x40 * c) 2) := by
  rw [exec_jobAbort, execJobAbort, live_awake _ hw.1, State.onWrite_of hw, wrOgCctl_abort, State.ogAbort, if_neg hs,
    if_pos hb, run]

theorem contextResume_idles (hs : s.ogState c = ogHALTED) :
    Answers (.contextResume m c) s fun t => t.ogState c = ogIDLE := by
  refine answers_write_same (exec_contextResume m c s) hw fun t same => ?_
  rw [wrOgCctl_resume hs] at same
  rw [State.ogState, same.get_elem_eq c (by decide), State.get_put_self]
  rfl

end Control

/-- Settles O24: each clause is the lemma of its command. -/
theorem contextsAndJobsMove : Obligations.ContextsAndJobsMove := by
  unfold Obligations.ContextsAndJobsMove
  intro s ha
  refine ⟨fun m c w hw => ⟨fun he ho hb => ?enable, contextEnable_leaves hw⟩,
    fun c lw t hm he hi => exec_jobFetch_takes ha hm he hi, fun hact hm => ?engine, fun c hact => ?waits,
    fun m c hw => ⟨jobAbort_marks hw, exec_jobAbort_ends hw, contextResume_idles hw⟩⟩
  case enable =>
    exact ⟨fun t hc ht => contextEnable_binds hw he ho hb hc ht, fun r hc => contextEnable_refused hw he ho hb hc⟩
  case engine =>
    refine ⟨sliceEnd_rival hact hm ha, sliceEnd_alone hact hm ha, exec_jobEnd_runs hact hm ha,
      exec_preemptionPoint_aborts hact hm ha, fun hab hd => ⟨exec_preemptionPoint_preempts hact hm ha hab hd, ?_⟩⟩
    rw [State.ogPreempt_active hact]
    exact ⟨s.ogLeave_state _ (by decide), fun hrun => State.ogLeave_frees hrun _⟩
  case waits => exact ⟨contextInputReady_readies hact ha, contextOutputReady_readies hact ha⟩

end Sys2Proof.Machine
end

section
/-! O25: the word of the Orangery workspace at WADDR, read and written through OG_WSDATA (R19, R364, R387). -/

namespace Sys2Proof.Machine

/-! Check bits fit the 8 bits that a stored word has for them (R147). -/

theorem eccLow_lt (data : Nat) : eccLow data < 2 ^ 7 := by
  have position : ∀ d ∈ List.range 64, eccPositions.getD d 0 < 2 ^ 7 := by decide
  refine List.foldlRecOn (motive := fun c => c < 2 ^ 7) _ _ (by decide) fun c hc d hd => ?_
  split
  · exact Nat.xor_lt_two_pow hc (position d hd)
  · exact hc

theorem eccOf_lt (data : Nat) : eccOf data < 2 ^ 8 := by
  have low := eccLow_lt data
  have flag : b2n (parity 64 data != parity 7 (eccLow data)) ≤ 1 := by
    unfold b2n
    split <;> decide
  dsimp only [eccOf]
  omega

/-! Words of the workspace. -/

@[simp] theorem State.wsWrite_get (s : State) (a v : Nat) (g : Field) (j : Nat) :
    (s.wsWrite a v).get g j = s.get g j := State.store_get ..

/-- A written word reads with its check bits behind it (R363). -/
theorem State.load_wsWrite (s : State) (a : Nat) {v : Nat} (h : v < 2 ^ 64) :
    (s.wsWrite a v).load .workspace a = v + 2 ^ 64 * eccOf v := by
  have chk := eccOf_lt v
  rw [State.wsWrite, State.load_store_self, Nat.mod_eq_of_lt h]
  omega

/-- Which context owns a word rests on the states and the regions of the 64 contexts (R364). -/
theorem State.wsOwner_congr {s t : State}
    (h : ∀ g ∈ [OG_CSTAT.STATE, OG_CWS.BASE, OG_CWS.SIZE], ∀ c < 64, t.get g c = s.get g c) (a : Nat) :
    t.wsOwner a = s.wsOwner a := by
  refine List.find?_congr fun c hc => ?_
  have hc := List.mem_range.mp hc
  unfold State.ogBusy State.ogBase State.ogState
  rw [h OG_CSTAT.STATE (by simp) c hc, h OG_CWS.BASE (by simp) c hc, h OG_CWS.SIZE (by simp) c hc]

theorem State.wsOwner_dropHold (s : State) (m : Master) (lo a : Nat) :
    (s.dropHold m lo).wsOwner a = s.wsOwner a := by
  have low : ∀ g ∈ [OG_CSTAT.STATE, OG_CWS.BASE, OG_CWS.SIZE], ∀ c < 64, g.key c < WR_HOLD.key 0 := by decide
  exact State.wsOwner_congr (fun g hg c hc => State.get_put_ne _ _ (holdKey_ne (low g hg c hc))) a

/-! The step of WADDR (R364). -/

section Step

variable {s : State}

theorem State.wsStep_waddr (h : s.get OG_WSADDR.INC = 1) :
    s.wsStep.get OG_WSADDR.WADDR = (s.get OG_WSADDR.WADDR + 1) % 2 ^ OG_WSADDR.WADDR.width := by
  rw [State.wsStep, if_pos (by simp [State.flag, h]), State.get_put_self]

theorem State.wsStep_get (s : State) {g : Field} {j : Nat} (h : g.key j ≠ OG_WSADDR.WADDR.key 0) :
    s.wsStep.get g j = s.get g j := by
  unfold State.wsStep
  split
  · exact State.get_put_ne _ _ h
  · rfl

theorem State.wsStep_latched (s : State) (m : Master) (lo current : Nat) :
    s.wsStep.latched m lo current = s.latched m lo current := by
  have apart : RD_LATCH.key (8 * (lo / 4) + m.code) ≠ OG_WSADDR.WADDR.key 0 := by
    simp only [Field.key, RD_LATCH, OG_WSADDR.WADDR]
    omega
  rw [State.latched, State.wsStep_get _ apart, State.latched]

theorem State.Within.wsStep_defined (s : State) : s.Within .defined s.wsStep :=
  .branch (fun _ => .put .refl (Scope.mem_defined_of_lt (by decide))) fun _ => .refl

/-- The write hold of OG_WSDATA tells nothing of which words are undefined. -/
theorem State.Within.dropHold_defined (s : State) (m : Master) : s.Within .defined (s.dropHold m 0x18024) := by
  have code := masterCode_lt m
  refine .put .refl (Scope.mem_defined ⟨?_, ?_, fun n => ?_⟩) <;>
    simp only [Field.key, WR_HOLD, MEM_UNDEF, MEM_EPOCH, BLK_EPOCH] <;> omega

end Step

/-! OG_WSDATA (R19, R364). -/

section Window

variable {s : State} {m : Master}

theorem wrWsDataHi_stores {low : Nat} (hl : s.heldLow m 0x18024 = some low)
    (ho : s.wsOwner (s.get OG_WSADDR.WADDR) = none) (w : Word) : wrWsDataHi m w.toNat s =
      ((s.dropHold m 0x18024).wsWrite (s.get OG_WSADDR.WADDR) (low + 2 ^ 32 * w.toNat)).wsStep := by
  simp only [wrWsDataHi, State.wsOwner_dropHold, hl, ho, Option.getD_some, Nat.mod_eq_of_lt w.isLt]

theorem wrWsDataHi_refuses {c : Nat} (ho : s.wsOwner (s.get OG_WSADDR.WADDR) = some c) (w : Nat) :
    wrWsDataHi m w s = ((s.dropHold m 0x18024).put OG_WSSTAT.REFUSED 1).raise Rc.OG_WS_BUSY c := by
  simp only [wrWsDataHi, State.wsOwner_dropHold, ho]

/-- A clean word is read as it is (R387). -/
theorem State.wsRead_clean {a : Nat} (hk : (s.wsLook a).kind = .clean) (obj : Nat) :
    s.wsRead a obj = (s.wsLook a, s) := by
  unfold State.wsRead
  generalize s.wsLook a = r at hk ⊢
  dsimp only
  rw [hk]

/-- A clean word is shown and latched, with CE and UE of OG_WSSTAT 0. -/
def State.wsShown (s : State) (m : Master) (data : Nat) : State :=
  ((s.put OG_WSSTAT.CE 0).put OG_WSSTAT.UE 0).latchHigh m 0x18024 (data / 2 ^ 32)

theorem State.wsShown_get (s : State) (m : Master) (data : Nat) {g : Field} {j : Nat}
    (h : g.key j < RD_LATCH.key 0) :
    (s.wsShown m data).get g j = ((s.put OG_WSSTAT.CE 0).put OG_WSSTAT.UE 0).get g j := by
  refine State.get_put_ne _ _ ?_
  simp only [Field.key, RD_LATCH] at h ⊢
  omega

variable (hp : s.peeks m = false)
include hp

theorem rdWsDataLo_clean (ho : s.wsOwner (s.get OG_WSADDR.WADDR) = none)
    (hk : (s.wsLook (s.get OG_WSADDR.WADDR)).kind = .clean) : rdWsDataLo m s =
      ((s.wsLook (s.get OG_WSADDR.WADDR)).data % 2 ^ 32,
        (s.wsShown m (s.wsLook (s.get OG_WSADDR.WADDR)).data).wsStep) := by
  simp only [rdWsDataLo, hp, ho, State.wsRead_clean hk, hk, Bool.false_eq_true, if_false]
  rfl

theorem rdWsDataLo_refuses {c : Nat} (ho : s.wsOwner (s.get OG_WSADDR.WADDR) = some c) :
    rdWsDataLo m s = (0, (s.put OG_WSSTAT.REFUSED 1).raise Rc.OG_WS_BUSY c) := by
  simp [rdWsDataLo, hp, ho]

end Window

/-! The commands. -/

section Commands

variable {s : State} {m : Master}

section Write

variable {w : Word} (hw : Writes m 0x18028 s)
include hw

theorem wsIndirectWrite_stores {low : Nat} (hl : s.heldLow m 0x18024 = some low)
    (ho : s.wsOwner (s.get OG_WSADDR.WADDR) = none) : Answers (.wsIndirectWrite m w) s fun t =>
      t.load .workspace (s.get OG_WSADDR.WADDR) = low + 2 ^ 32 * w.toNat + 2 ^ 64 * eccOf (low + 2 ^ 32 * w.toNat) ∧
      (s.get OG_WSADDR.INC = 1 →
        t.get OG_WSADDR.WADDR = (s.get OG_WSADDR.WADDR + 1) % 2 ^ OG_WSADDR.WADDR.width) ∧
      ∀ g b, Region.base g + b ≠ Region.base .workspace + s.get OG_WSADDR.WADDR → t.load g b = s.load g b := by
  have word : low + 2 ^ 32 * w.toNat < 2 ^ 64 := by
    have := State.heldLow_lt hl
    have := w.isLt
    omega
  have after (u : State) : u.Within .defined (deliver s (u.wsStep.resend s 0x18028 w.toNat)) :=
    ((State.Within.wsStep_defined u).resend s _ _).deliver s
  have dropped {g : Field} (hg : g ∈ [OG_WSADDR.WADDR, OG_WSADDR.INC]) :
      (s.dropHold m 0x18024).get g = s.get g := by
    have low : ∀ g ∈ [OG_WSADDR.WADDR, OG_WSADDR.INC], g.key 0 < WR_HOLD.key 0 := by decide
    exact State.get_put_ne _ _ (holdKey_ne (low g hg))
  refine answers_live (exec_wsIndirectWrite m w s) hw.1 ?_
  rw [State.onWrite_of hw, wrWsDataHi_stores hl ho]
  refine ⟨?_, fun hi => ?_, fun g b h => ?_⟩
  · rw [(after _).load, State.load_wsWrite _ _ word]
  · refine (deliver_get _ _ (by decide)).trans ?_
    rw [State.resend_get _ _ _ _ (by decide),
      State.wsStep_waddr ((State.wsWrite_get ..).trans ((dropped (by simp)).trans hi)), State.wsWrite_get,
      dropped (by simp)]
  · rw [(after _).load, State.wsWrite, State.load_store_apart _ _ h, (State.Within.dropHold_defined s m).load]

theorem wsIndirectWrite_refused {c : Nat} (ho : s.wsOwner (s.get OG_WSADDR.WADDR) = some c) :
    Answers (.wsIndirectWrite m w) s fun t => t.get OG_WSSTAT.REFUSED = 1 ∧ t.mem = s.mem := by
  refine answers_live (exec_wsIndirectWrite m w s) hw.1 ?_
  rw [State.onWrite_of hw, wrWsDataHi_refuses ho]
  refine ⟨?_, ?_⟩
  · rw [deliver_get _ _ (by decide), State.resend_get _ _ _ _ (by decide),
      State.raise_get _ _ _ _ (by decide) (by decide), State.get_put_self]
    rfl
  · rw [deliver_mem, State.resend_mem, State.raise_mem]
    rfl

end Write

theorem exec_wsIndirectRead_of (hr : Reads m 0x18024 s) : exec (.wsIndirectRead m) s =
    run s ((rdWsDataLo m s).2.emit .busData [m.code, (rdWsDataLo m s).1]) := by
  rw [exec_wsIndirectRead, execWsIndirectRead, live_awake _ hr.1, State.onRead_of hr, run]

variable (hr : Reads m 0x18024 s) (hp : s.peeks m = false)
include hr hp

theorem wsIndirectRead_returns (ho : s.wsOwner (s.get OG_WSADDR.WADDR) = none)
    (hk : (s.wsLook (s.get OG_WSADDR.WADDR)).kind = .clean) : exec (.wsIndirectRead m) s =
      run s ((rdWsDataLo m s).2.emit .busData [m.code, (s.wsLook (s.get OG_WSADDR.WADDR)).data % 2 ^ 32]) := by
  rw [exec_wsIndirectRead_of hr, rdWsDataLo_clean hp ho hk]

theorem wsIndirectRead_refused {c : Nat} (ho : s.wsOwner (s.get OG_WSADDR.WADDR) = some c) :
    exec (.wsIndirectRead m) s = run s ((rdWsDataLo m s).2.emit .busData [m.code, 0]) := by
  rw [exec_wsIndirectRead_of hr, rdWsDataLo_refuses hp ho]

omit hr

/-- What the read of a clean word leaves. -/
theorem rdWsDataLo_results (ho : s.wsOwner (s.get OG_WSADDR.WADDR) = none)
    (hk : (s.wsLook (s.get OG_WSADDR.WADDR)).kind = .clean) :
    (rdWsDataLo m s).2.get OG_WSSTAT.CE = 0 ∧ (rdWsDataLo m s).2.get OG_WSSTAT.UE = 0 ∧
      (∀ c, (rdWsDataLo m s).2.latched m 0x18024 c =
        (s.wsLook (s.get OG_WSADDR.WADDR)).data / 2 ^ 32 % 2 ^ 32) ∧
      (s.get OG_WSADDR.INC = 1 →
        (rdWsDataLo m s).2.get OG_WSADDR.WADDR = (s.get OG_WSADDR.WADDR + 1) % 2 ^ OG_WSADDR.WADDR.width) := by
  have shown {g : Field} (hg : g ∈ [OG_WSADDR.WADDR, OG_WSADDR.INC]) :
      (s.wsShown m (s.wsLook (s.get OG_WSADDR.WADDR)).data).get g = s.get g := by
    have apart : ∀ g ∈ [OG_WSADDR.WADDR, OG_WSADDR.INC], g.key 0 < RD_LATCH.key 0 ∧
        g.key 0 ≠ OG_WSSTAT.UE.key 0 ∧ g.key 0 ≠ OG_WSSTAT.CE.key 0 := by decide
    obtain ⟨latch, ue, ce⟩ := apart g hg
    rw [State.wsShown_get _ _ _ latch, State.get_put_ne _ _ ue, State.get_put_ne _ _ ce]
  rw [rdWsDataLo_clean hp ho hk]
  dsimp only
  refine ⟨?_, ?_, fun c => ?_, fun hi => ?_⟩
  · rw [State.wsStep_get _ (by decide), State.wsShown_get _ _ _ (by decide), State.get_put_ne _ _ (by decide),
      State.get_put_self]
    rfl
  · rw [State.wsStep_get _ (by decide), State.wsShown_get _ _ _ (by decide), State.get_put_self]
    rfl
  · rw [State.wsStep_latched, State.wsShown, State.latched_latchHigh]
  · rw [State.wsStep_waddr ((shown (by simp)).trans hi), shown (by simp)]

theorem rdWsDataLo_refused {c : Nat} (ho : s.wsOwner (s.get OG_WSADDR.WADDR) = some c) :
    (rdWsDataLo m s).2.get OG_WSSTAT.REFUSED = 1 := by
  rw [rdWsDataLo_refuses hp ho]
  dsimp only
  rw [State.raise_get _ _ _ _ (by decide) (by decide), State.get_put_self]
  rfl

end Commands

/-- Settles O25: each clause is the lemma of its access, by whether a busy context owns the word. -/
theorem workspaceIsReachedThroughItsWindow : Obligations.WorkspaceIsReachedThroughItsWindow := by
  unfold Obligations.WorkspaceIsReachedThroughItsWindow
  intro s m
  refine ⟨fun w low hw hl => ⟨wsIndirectWrite_stores hw hl, fun c => wsIndirectWrite_refused hw⟩,
    fun hr hp => ⟨fun ho hk => ?clean, fun c ho => ?busy⟩⟩
  case clean => exact ⟨wsIndirectRead_returns hr hp ho hk, rdWsDataLo_results hp ho hk⟩
  case busy => exact ⟨wsIndirectRead_refused hr hp ho, rdWsDataLo_refused hp ho⟩

end Sys2Proof.Machine
end

section
/-! What the operations of spec/11 leave: banks and their monitors (R397, R398), pins and their owners (R399 to R402),
claims (R404 to R410), serialiser groups (R415, R417). -/

namespace Sys2Proof.Machine

/-! The cells of the arrays of spec/11: a record, a message and a refusal write none of them. -/

/-- Element i of one register of a stride is another cell than element i of the next. -/
theorem Field.key_ne_of_place {f g : Field} (i : Nat) (hs : g.stride = f.stride)
    (h : 32 * g.off + g.lo ≠ 32 * f.off + f.lo) : g.key i ≠ f.key i := by
  simp only [Field.key, hs]
  omega

/-- The register arrays that bank, pin and group commands read and write. -/
def pinArrays : List Reg := [IO_BCFG.reg, IO_BSTAT.reg, IO_SERCFG.reg, IO_PCFG.reg, IO_PCLM.reg]

/-- Where their cells lie. -/
def PinCell (k : Nat) : Prop := 32 * 0x2100 ≤ k ∧ k < 32 * 0x4000

theorem PinCell.of_array {r : Reg} {f : Field} {i : Nat} (hr : r ∈ pinArrays) (hf : f ∈ r.fields) (hi : i < r.count) :
    PinCell (f.key i) := by
  have placed : ∀ r ∈ pinArrays, ∀ f ∈ r.fields, 0x2100 ≤ f.off ∧ f.off + f.stride * r.count ≤ 0x4000 ∧
      0 < f.stride ∧ f.lo < 32 := by decide
  obtain ⟨low, high, strided, bit⟩ := placed r hr f hf
  have below : f.stride * (i + 1) ≤ f.stride * r.count := Nat.mul_le_mul_left _ hi
  rw [Nat.mul_add_one] at below
  simp only [PinCell, Field.key]
  omega

theorem PinCell.ne {k c : Nat} (h : PinCell k) (hc : c < 32 * 0x2100 ∨ 32 * 0x4000 ≤ c) : k ≠ c := by
  obtain ⟨low, high⟩ := h
  omega

section PinCells

variable {s t : State} {g : Field} {j : Nat} (h : PinCell (g.key j))
include h

theorem State.SameCells.get_pin (same : s.SameCells t []) : t.get g j = s.get g j :=
  same.get_eq (h.ne (.inr (by decide)))

theorem State.raise_pin (c : Rc) (obj d : Nat) : (s.raise c obj d).get g j = s.get g j :=
  State.raise_get _ _ _ _ (h.ne (.inr (by decide))) (h.ne (.inr (by decide)))

/-- Refusals of the pins' block write its REFUSE register, which is no array. -/
theorem State.refuse_pin {c : Rc} (hc : c.block = 3) (obj : Nat) (m : Master) (off : Nat) :
    (s.refuse c obj m off).get g j = s.get g j := by
  rw [State.refuse, hc]
  exact State.refuseBy_get _ _ _ _ _ (h.ne (.inl (by decide))) (h.ne (.inl (by decide))) (h.ne (.inl (by decide)))
    (h.ne (.inl (by decide))) (h.ne (.inr (by decide))) (h.ne (.inr (by decide)))

end PinCells

theorem State.refuse_code (s : State) (c : Rc) (obj : Nat) (m : Master) (off : Nat) :
    (s.refuse c obj m off).get GH_REFUSE.CODE = c.num % 2 ^ 16 := State.refuseBy_code ..

theorem pinCell_bank {f : Field} (hf : f ∈ IO_BCFG.reg.fields) (b : Fin 12) : PinCell (f.key b) :=
  .of_array (by decide) hf b.isLt

theorem pinCell_monitor {f : Field} (hf : f ∈ IO_BSTAT.reg.fields) (b : Fin 12) : PinCell (f.key b) :=
  .of_array (by decide) hf b.isLt

theorem pinCell_pin {f : Field} (hf : f ∈ IO_PCFG.reg.fields) (p : Fin 576) : PinCell (f.key p) :=
  .of_array (by decide) hf p.isLt

theorem pinCell_claim {f : Field} (hf : f ∈ IO_PCLM.reg.fields) {p : Nat} (hp : p < 585) : PinCell (f.key p) :=
  .of_array (by decide) hf hp

theorem pinCell_group {f : Field} (hf : f ∈ IO_SERCFG.reg.fields) (g : Fin 12) : PinCell (f.key g) :=
  .of_array (by decide) hf g.isLt

/-! Banks (R397). -/

section Banks

variable {s : State} {m : Master} {b : Fin 12} {w : Nat}

theorem State.declareVsel_vsel (s : State) (b : Nat) {v : Nat} (hv : v < 8) :
    (s.declareVsel b v).get IO_BCFG.VSEL b = v := by
  unfold State.declareVsel
  split
  · assumption
  · rw [State.get_put_ne _ _ (by simp only [Field.key, IO_BCFG.VSEL, IO_BSTAT.OK]; omega), State.get_put_self]
    exact Nat.mod_eq_of_lt hv

theorem State.declareVsel_get (s : State) (b v : Nat) {g : Field} {j : Nat} (hv : g.key j ≠ IO_BCFG.VSEL.key b)
    (ho : g.key j ≠ IO_BSTAT.OK.key b) : (s.declareVsel b v).get g j = s.get g j := by
  unfold State.declareVsel
  split
  · rfl
  · rw [State.get_put_ne _ _ ho, State.get_put_ne _ _ hv]

theorem State.declareVsel_bankEn (s : State) (b : Fin 12) (v : Nat) :
    (s.declareVsel b v).get IO_BCFG.EN b = s.get IO_BCFG.EN b := by
  have apart : ∀ b : Fin 12, IO_BCFG.EN.key b ≠ IO_BCFG.VSEL.key b ∧ IO_BCFG.EN.key b ≠ IO_BSTAT.OK.key b := by decide
  exact s.declareVsel_get b v (apart b).1 (apart b).2

/-- A declared VSEL leaves every pin's enable. -/
theorem State.declareVsel_pinEn (s : State) (b : Fin 12) (v n : Nat) :
    (s.declareVsel b v).get IO_PCFG.EN n = s.get IO_PCFG.EN n := by
  have hb := b.isLt
  refine s.declareVsel_get b v ?_ ?_ <;> simp only [Field.key, IO_PCFG.EN, IO_BCFG.VSEL, IO_BSTAT.OK] <;> omega

variable (hu : s.unlocked m = true)
include hu

theorem wrBcfg_enables (hn : s.get IO_BCFG.EN b = 0) (hb : bit w 0 = true) (hc : s.bankCheck m b (bits w 1 3) = none) :
    wrBcfg m b w s = (s.declareVsel b (bits w 1 3)).put IO_BCFG.EN 1 b := by
  simp [wrBcfg, State.flag, hu, hn, hb, hc]

/-- A refused enable may have declared VSEL. -/
theorem wrBcfg_refuses (hn : s.get IO_BCFG.EN b = 0) (hb : bit w 0 = true) {c : Rc} {obj : Nat}
    (hc : s.bankCheck m b (bits w 1 3) = some (c, obj)) :
    ∃ u : State, wrBcfg m b w s = u.refuse c obj m (0x2100 + 8 * b) ∧ u.get IO_BCFG.EN b = s.get IO_BCFG.EN b := by
  refine ⟨if s.bankAbsent b || 5 < bits w 1 3 then s else s.declareVsel b (bits w 1 3), ?_, ?_⟩
  · simp [wrBcfg, State.flag, hu, hn, hb, hc]
  · split
    · rfl
    · exact s.declareVsel_bankEn b _

/-- A bank whose pins are all disabled is disabled. -/
theorem wrBcfg_disables (hn : s.get IO_BCFG.EN b = 1) (hb : bit w 0 = false) (ha : s.bankAbsent b = false)
    (hp : ((List.range 48).any fun i => s.flag IO_PCFG.EN (48 * b + i)) = false) :
    ∃ u : State, wrBcfg m b w s = u.put IO_BCFG.EN 0 b := by
  by_cases hv : bits w 1 3 ≤ 5
  · have idle : ((List.range 48).any fun i => (s.declareVsel b (bits w 1 3)).flag IO_PCFG.EN (48 * b + i)) = false := by
      simpa only [State.flag, State.declareVsel_pinEn] using hp
    have enabled : (s.declareVsel b (bits w 1 3)).flag IO_BCFG.EN b = true := by
      simp [State.flag, State.declareVsel_bankEn, hn]
    exact ⟨s.declareVsel b (bits w 1 3), by
      simp only [wrBcfg, hu, hb, ha, hv, enabled, idle, Bool.not_true, Bool.not_false, Bool.false_and, Bool.and_self,
        Bool.false_eq_true, if_false, if_true]⟩
  · have enabled : s.flag IO_BCFG.EN b = true := by simp [State.flag, hn]
    exact ⟨s, by
      simp only [wrBcfg, hu, hb, ha, hv, enabled, hp, Bool.not_true, Bool.not_false, Bool.and_self,
        Bool.false_eq_true, if_false, if_true]⟩

end Banks

/-! The monitor of a bank (R398). -/

/-- What the monitor shows of a lost VIO. -/
def State.vioShown (s : State) (b vdet : Nat) : State := (s.put IO_BSTAT.OK 0 b).put IO_BSTAT.VDET vdet b

theorem State.vioShown_results (s : State) (b : Fin 12) (vdet : BitVec 3) :
    (s.vioShown b vdet.toNat).get IO_BSTAT.OK b = 0 ∧ (s.vioShown b vdet.toNat).get IO_BSTAT.VDET b = vdet.toNat ∧
      (s.vioShown b vdet.toNat).get IO_BCFG.EN b = s.get IO_BCFG.EN b := by
  refine ⟨?_, ?_, ?_⟩
  · rw [State.vioShown, State.get_put_elem _ _ b (by decide), State.get_put_self]
    rfl
  · exact (State.get_put_self ..).trans (Nat.mod_eq_of_lt vdet.isLt)
  · rw [State.vioShown, State.get_put_elem _ _ b (by decide), State.get_put_elem _ _ b (by decide)]

/-! Pins (R399 to R402). -/

theorem State.pinOwned_of_owns {s : State} {m : Master} {p : Nat} (h : s.pinOwns m (s.get IO_PCFG.OWNER p) = true)
    (k : State → State) : s.pinOwned m p k = k s := if_pos h

theorem pinCheck_block {s : State} {m : Master} {p : Nat} {c : Rc} {obj : Nat} (h : s.pinCheck m p = some (c, obj)) :
    c.block = 3 := by
  simp only [State.pinCheck] at h
  split_ifs at h <;> cases h <;> rfl

/-- The stored configuration leaves the enable. -/
theorem State.storePcfg_en (s : State) (m : Master) (p w : Nat) :
    (s.storePcfg m p w).get IO_PCFG.EN p = s.get IO_PCFG.EN p := by
  have apart : ∀ f ∈ IO_PCFG.reg.fields, f ≠ IO_PCFG.EN →
      IO_PCFG.EN.stride = f.stride ∧ 32 * IO_PCFG.EN.off + IO_PCFG.EN.lo ≠ 32 * f.off + f.lo := by decide
  refine List.foldlRecOn (motive := fun u : State => u.get IO_PCFG.EN p = s.get IO_PCFG.EN p) _ _ rfl
    fun u hu f hf => ?_
  simp only [List.mem_filter, ne_eq, Bool.and_eq_true, decide_eq_true_eq] at hf
  obtain ⟨field, other, -⟩ := hf
  obtain ⟨stride, place⟩ := apart f field other
  split
  · rw [State.get_put_ne _ _ (Field.key_ne_of_place p stride place), hu]
  · exact hu

/-- What a write to an enabled pin does beside its enable: changed options are recorded, OWNER is the gatehouse's. -/
def State.pinKept (s : State) (m : Master) (p w : Nat) : State :=
  let s := if bits w 1 17 ≠ s.readReg IO_PCFG.reg p / 2 % 2 ^ 17 then s.raise Rc.IO_PIN_ON p else s
  if m = .gatehouse then s.put IO_PCFG.OWNER (bits w 28 2) p else s

theorem State.pinKept_get (s : State) (m : Master) (p w : Nat) {g : Field} (hg : PinCell (g.key p))
    (ho : g.key p ≠ IO_PCFG.OWNER.key p) : (s.pinKept m p w).get g p = s.get g p := by
  have recorded : (if bits w 1 17 ≠ s.readReg IO_PCFG.reg p / 2 % 2 ^ 17 then s.raise Rc.IO_PIN_ON p else s).get g p =
      s.get g p := by
    split
    · exact State.raise_pin hg ..
    · rfl
  unfold State.pinKept
  dsimp only
  split
  · rw [State.get_put_ne _ _ ho, recorded]
  · exact recorded

theorem State.pinKept_claims (s : State) (m : Master) (p : Fin 576) (w : Nat) :
    (s.pinKept m p w).get IO_PCLM.CLAIMS p = s.get IO_PCLM.CLAIMS p :=
  s.pinKept_get m p w (pinCell_claim (by decide) (p.isLt.trans (by decide))) (Field.key_ne_of_place p rfl (by decide))

theorem State.pinKept_en (s : State) (m : Master) (p : Fin 576) (w : Nat) :
    (s.pinKept m p w).get IO_PCFG.EN p = s.get IO_PCFG.EN p :=
  s.pinKept_get m p w (pinCell_pin (by decide) p) (Field.key_ne_of_place p rfl (by decide))

section Pins

variable {s : State} {m : Master} {p w : Nat} (ho : s.pinOwns m (s.get IO_PCFG.OWNER p) = true)
  (ha : s.pinAbsent p = false)
include ho ha

theorem wrPinCfg_enables (hn : s.get IO_PCFG.EN p = 0) (hb : bit w 0 = true)
    (hc : (s.storePcfg m p w).pinCheck m p = none) : wrPinCfg m p w s = (s.storePcfg m p w).put IO_PCFG.EN 1 p := by
  simp [wrPinCfg, State.pinOwned_of_owns ho, State.flag, ha, hn, hb, hc]

theorem wrPinCfg_refuses (hn : s.get IO_PCFG.EN p = 0) (hb : bit w 0 = true) {c : Rc} {obj : Nat}
    (hc : (s.storePcfg m p w).pinCheck m p = some (c, obj)) :
    wrPinCfg m p w s = (s.storePcfg m p w).refuse c obj m (0x2400 + 4 * p) := by
  simp [wrPinCfg, State.pinOwned_of_owns ho, State.flag, ha, hn, hb, hc]

/-- Clearing EN takes effect on a pin without claims (R400). -/
theorem wrPinCfg_disables (hn : s.get IO_PCFG.EN p = 1) (hb : bit w 0 = false) : wrPinCfg m p w s =
    if (s.pinKept m p w).get IO_PCLM.CLAIMS p ≠ 0 then
      (s.pinKept m p w).refuse Rc.IO_PIN_IN_USE p m (0x2400 + 4 * p)
    else (s.pinKept m p w).put IO_PCFG.EN 0 p := by
  rw [wrPinCfg, State.pinOwned_of_owns ho]
  simp only [State.flag, ha, hn, hb, decide_true, Bool.false_eq_true, if_false, if_true]
  rfl

end Pins

/-! Claims (R404 to R410). -/

/-- The state in which a claim of a level finds the pin: a lower holder has lost it (R406). -/
def State.holderOusted (s : State) (lv p : Nat) : State :=
  let h := s.get IO_PCLM.HOLDER p
  if lv < h then
    ((((s.dropClaim h p).orBit IO_PCLM.LOST (h - 1) p).put IO_IRQ.PIN_LOST 1).raise Rc.IO_PIN_LOST p
      (h + 8 * lv)).periphLost p h
  else s

theorem State.takeClaim_eq (s : State) (lv p : Nat) : s.takeClaim lv p =
    (((s.holderOusted lv p).orBit IO_PCLM.CLAIMS (lv - 1) p).andBit IO_PCLM.LOST (lv - 1) p).showHolder p := rfl

theorem State.claimAll_single {s : State} {lv p : Nat} (h : s.claimCheck lv p = none) :
    s.claimAll lv [p] = .inr (s.takeClaim lv p) := by
  simp [State.claimAll, h]

theorem claims_ne_lost (p : Nat) : IO_PCLM.CLAIMS.key p ≠ IO_PCLM.LOST.key p :=
  Field.key_ne_of_place p rfl (by decide)

theorem State.showHolder_claims (s : State) (p : Nat) :
    (s.showHolder p).get IO_PCLM.CLAIMS p = s.get IO_PCLM.CLAIMS p :=
  State.get_put_ne _ _ (Field.key_ne_of_place p rfl (by decide))

/-- A taken claim is shown beside those that the pin had. -/
theorem State.takeClaim_claims (s : State) (lv p : Nat) : (s.takeClaim lv p).get IO_PCLM.CLAIMS p =
    setBit ((s.holderOusted lv p).get IO_PCLM.CLAIMS p) (lv - 1) % 2 ^ 6 := by
  rw [State.takeClaim_eq, State.showHolder_claims,
    State.get_andBit_ne _ _ (claims_ne_lost p), State.get_orBit_self]
  rfl

theorem State.takeClaim_claimed (s : State) (p : Nat) :
    bit ((s.takeClaim lvARRAY p).get IO_PCLM.CLAIMS p) 5 = true := by
  rw [State.takeClaim_claims, bit_eq_testBit, Nat.testBit_mod_two_pow, ← bit_eq_testBit, show lvARRAY - 1 = 5 from rfl,
    bit_setBit]
  rfl

/-- Above the array there is no claimant: nothing is left of a pin without claims. -/
theorem State.holderOusted_claims {s : State} {p : Nat} (hp : p < 585) (h : s.get IO_PCLM.CLAIMS p = 0) :
    (s.holderOusted lvARRAY p).get IO_PCLM.CLAIMS p = 0 := by
  have cell : PinCell (IO_PCLM.CLAIMS.key p) := pinCell_claim (by decide) hp
  unfold State.holderOusted
  dsimp only
  split
  case isFalse => exact h
  case isTrue above =>
    have noLodge : s.get IO_PCLM.HOLDER p ≠ lvLODGE ∧ s.get IO_PCLM.HOLDER p ≠ lvGPIO := by
      simp only [lvARRAY, lvLODGE, lvGPIO] at above ⊢
      omega
    rw [State.periphLost, if_neg noLodge.1, if_neg noLodge.2, State.raise_pin cell,
      State.get_put_ne _ _ (cell.ne (.inl (by decide))),
      State.get_orBit_ne _ _ (claims_ne_lost p), State.dropClaim, State.showHolder_claims,
      State.get_andBit_self, h, clrBit, bit_eq_testBit, Nat.zero_testBit]
    rfl

/-- The array holds a pin that had no claims. -/
theorem State.takeClaim_holder {s : State} {p : Nat} (hp : p < 585) (h : s.get IO_PCLM.CLAIMS p = 0) :
    (s.takeClaim lvARRAY p).get IO_PCLM.HOLDER p = lvARRAY := by
  rw [State.takeClaim_eq, State.showHolder, State.get_put_self,
    State.get_andBit_ne _ _ (claims_ne_lost p), State.get_orBit_self,
    State.holderOusted_claims hp h]
  decide

/-! RENEW (R410). -/

/-- The state in which RENEW is judged: its word has passed through LOST, and names none of it. -/
def State.renewSeen (s : State) (p : Nat) : State := s.writeField IO_PCLM.LOST p 0x10000 false false

section Renew

variable {s : State} {m : Master} {p : Nat} (hp : p < 585)

theorem State.renewSeen_get (s : State) {g : Field} {j : Nat} (h : g.key j ≠ IO_PCLM.LOST.key p) :
    (s.renewSeen p).get g j = s.get g j := State.writeField_get _ _ _ _ h

/-- The LOST bits lie above every register below the claims. -/
theorem State.renewSeen_below (s : State) (p : Nat) {g : Field} {j : Nat} (h : g.key j < 32 * 0x3000) :
    (s.renewSeen p).get g j = s.get g j :=
  s.renewSeen_get (by simp only [Field.key, IO_PCLM.LOST] at h ⊢; omega)

theorem State.renewSeen_claims (s : State) (p : Nat) :
    (s.renewSeen p).get IO_PCLM.CLAIMS p = s.get IO_PCLM.CLAIMS p :=
  s.renewSeen_get (Field.key_ne_of_place p rfl (by decide))

include hp

theorem State.renewSeen_pin (s : State) {f : Field} {q : Nat} (hf : f ∈ IO_PCFG.reg.fields) (hq : q ≤ p) :
    (s.renewSeen p).get f q = s.get f q := by
  have placed : ∀ f ∈ IO_PCFG.reg.fields, f.off = 0x2400 ∧ f.stride = 4 ∧ f.lo < 32 := by decide
  obtain ⟨off, stride, lo⟩ := placed f hf
  refine s.renewSeen_below p ?_
  simp only [Field.key, off, stride]
  omega

theorem State.renewSeen_claimCheck (s : State) (lv : Nat) : (s.renewSeen p).claimCheck lv p = s.claimCheck lv p := by
  have holder : (s.renewSeen p).get IO_PCLM.HOLDER p = s.get IO_PCLM.HOLDER p :=
    s.renewSeen_get (Field.key_ne_of_place p rfl (by decide))
  have package : (s.renewSeen p).get GH_IDENT.PKG = s.get GH_IDENT.PKG := s.renewSeen_below p (by decide)
  have enabled {q : Nat} (hq : q ≤ p) := s.renewSeen_pin hp (f := IO_PCFG.EN) (by decide) hq
  have standard := s.renewSeen_pin hp (f := IO_PCFG.STD) (by decide) (Nat.sub_le p 1)
  unfold State.claimCheck State.pinAbsent State.small State.oddSide State.flag
  rw [holder, package, enabled le_rfl, enabled (Nat.sub_le p 1), standard]

omit hp in
theorem State.renewSeen_pinOwns (s : State) (m : Master) (o : Nat) :
    (s.renewSeen p).pinOwns m o = s.pinOwns m o := by
  have level : (s.renewSeen p).get GH_DBGSTAT.LEVEL = s.get GH_DBGSTAT.LEVEL := s.renewSeen_below p (by decide)
  cases m <;> simp [State.pinOwns, level]

/-- A pin of the array that no other level holds is claimed anew. -/
theorem wrPclm_renews (hr : s.mode = mRUN) (hn : bit (s.get IO_PCLM.CLAIMS p) 5 = false)
    (hc : s.claimCheck lvARRAY p = none)
    (ho : if p < 576 then s.pinOwns m (s.get IO_PCFG.OWNER p) = true ∧ s.get IO_PCFG.ARR p ≠ 0
      else m = .gatehouse ∧ bit (s.get IO_CTARR.ARR) (p - 576) = true) :
    wrPclm m p 0x10000 s = (s.renewSeen p).takeClaim lvARRAY p := by
  have running : (s.renewSeen p).mode = mRUN := (s.renewSeen_below p (by decide)).trans hr
  have unclaimed : bit ((s.renewSeen p).get IO_PCLM.CLAIMS p) 5 = false := by rw [State.renewSeen_claims, hn]
  have taken : (s.renewSeen p).claimAll lvARRAY [p] = .inr ((s.renewSeen p).takeClaim lvARRAY p) :=
    State.claimAll_single (by rw [State.renewSeen_claimCheck hp, hc])
  rw [wrPclm, ← State.renewSeen]
  split at ho
  case isTrue pin =>
    obtain ⟨owns, routed⟩ := ho
    have owns : (s.renewSeen p).pinOwns m ((s.renewSeen p).get IO_PCFG.OWNER p) = true := by
      rw [State.renewSeen_pinOwns, s.renewSeen_pin hp (by decide) le_rfl, owns]
    have routed : (s.renewSeen p).get IO_PCFG.ARR p ≠ 0 := by rwa [s.renewSeen_pin hp (by decide) le_rfl]
    simp [pin, State.pinOwned_of_owns owns, routed, unclaimed, running, taken, show bit 0x10000 16 = true from rfl]
  case isFalse ct =>
    obtain ⟨rfl, routed⟩ := ho
    have routed : bit ((s.renewSeen p).get IO_CTARR.ARR) (p - 576) = true := by
      rwa [s.renewSeen_below p (by decide)]
    simp [ct, routed, unclaimed, running, taken, show bit 0x10000 16 = true from rfl]

end Renew

/-! Serialiser groups (R415, R417). -/

/-- The state in which an enable of group g is judged: the written fields stored. -/
def State.groupSet (s : State) (m : Master) (g w : Nat) : State :=
  (s.writeReg m IO_SERCFG.reg g w).put IO_SERCFG.EN 0 g

theorem groupCheck_block {s : State} {m : Master} {g : Nat} {c : Rc} {obj : Nat}
    (h : s.groupCheck m g = some (c, obj)) : c.block = 3 := by
  simp only [State.groupCheck] at h
  split_ifs at h <;> cases h <;> rfl

/-- The word that a group reads as shows its enable in bit 0. -/
theorem State.readReg_sercfg_en {s : State} {g : Nat} (h : s.get IO_SERCFG.EN g = 1) :
    bit (s.readReg IO_SERCFG.reg g) 0 = true := by
  have word : s.readReg IO_SERCFG.reg g =
      s.get IO_SERCFG.EN g + s.get IO_SERCFG.DIR g * 2 + s.get IO_SERCFG.FACTOR g * 4 + s.get IO_SERCFG.CLK g * 16 := by
    simp [State.readReg, IO_SERCFG.reg, add_assoc, show IO_SERCFG.EN.lo = 0 from rfl,
      show IO_SERCFG.DIR.lo = 1 from rfl, show IO_SERCFG.FACTOR.lo = 2 from rfl, show IO_SERCFG.CLK.lo = 4 from rfl,
      show IO_SERCFG.EN.acc = .rwo from rfl, show IO_SERCFG.DIR.acc = .rwo from rfl,
      show IO_SERCFG.FACTOR.acc = .rwo from rfl, show IO_SERCFG.CLK.acc = .rwo from rfl,
      show IO_SERCFG.BITSLIP.acc = .wo from rfl]
  simp only [bit, word, h, decide_eq_true_eq]
  omega

section Groups

variable {s : State} {m : Master} {g w : Nat}
  (ho : s.pinOwns m (s.get IO_PCFG.OWNER ((groupPins g).headD 0)) = true)
include ho

section Enable

variable (hn : s.get IO_SERCFG.EN g = 0) (hb : bit w 0 = true) (hs : bit w 6 = false)
include hn hb hs

/-- A group that passes its checks is enabled once its pins, where it takes any, are claimed. -/
theorem wrSercfg_enables {v : State} (hc : (s.groupSet m g w).groupCheck m g = none)
    (hv : (if (s.groupSet m g w).get IO_SERCFG.DIR g = 0 then (s.groupSet m g w).claimAll lvARRAY (groupPins g)
      else .inr (s.groupSet m g w)) = .inr v) :
    wrSercfg m g w s = (v.put IO_SERCFG.EN 1 g).put SER_FIRST 1 g := by
  rw [State.groupSet] at hc hv
  rw [wrSercfg, State.pinOwned_of_owns ho]
  simp [State.flag, hn, hb, hs, hc, hv]

theorem wrSercfg_refuses {c : Rc} {obj : Nat} (hc : (s.groupSet m g w).groupCheck m g = some (c, obj)) :
    wrSercfg m g w s = (s.groupSet m g w).refuse c obj m (0x2300 + 4 * g) := by
  rw [State.groupSet] at hc ⊢
  rw [wrSercfg, State.pinOwned_of_owns ho]
  simp [State.flag, hn, hb, hs, hc]

end Enable

/-- BITSLIP on an enabled group that stays so: at most a record of changed fields beside the next word's mark. -/
theorem wrSercfg_slips (hn : (s.put SER_FIRST 1 g).get IO_SERCFG.EN g = 1) (hb : bit w 0 = true)
    (hs : bit w 6 = true) : wrSercfg m g w s = s.put SER_FIRST 1 g ∨
      wrSercfg m g w s = (s.put SER_FIRST 1 g).raise Rc.IO_PIN_ON (0x500 + g) := by
  rw [wrSercfg, State.pinOwned_of_owns ho]
  simp only [State.flag, hs, hn, hb, decide_true, if_true]
  split
  · exact .inr rfl
  · exact .inl rfl

end Groups

end Sys2Proof.Machine
end

section
/-! O26: what the commands of banks, pins and serialiser groups answer. -/

namespace Sys2Proof.Machine

section Commands

variable {s : State} {m : Master}

/-! Banks (R397). -/

section Banks

variable {b : Fin 12} {w : Word} (hw : Writes m (0x2100 + 8 * b) s) (hu : s.unlocked m = true)
include hw hu

theorem bankEnable_enables (hn : s.get IO_BCFG.EN b = 0) (hb : bit w.toNat 0 = true)
    (hc : s.bankCheck m b (bits w.toNat 1 3) = none) : Answers (.bankEnable m b w) s fun t =>
      t.get IO_BCFG.EN b = 1 ∧ t.get IO_BCFG.VSEL b = bits w.toNat 1 3 := by
  refine answers_write_same (exec_bankEnable m b w s) hw fun t same => ?_
  rw [wrBcfg_enables hu hn hb hc] at same
  refine ⟨?_, ?_⟩ <;> rw [same.get_pin (pinCell_bank (by decide) b)]
  · exact State.get_put_self ..
  · rw [State.get_put_elem _ _ b (by decide)]
    exact s.declareVsel_vsel b (Nat.mod_lt _ (by decide))

theorem bankEnable_refused (hn : s.get IO_BCFG.EN b = 0) (hb : bit w.toNat 0 = true) (r : Rc × Nat)
    (hc : s.bankCheck m b (bits w.toNat 1 3) = some r) : Answers (.bankEnable m b w) s fun t =>
      t.get IO_BCFG.EN b = 0 ∧ t.get GH_REFUSE.CODE = r.1.num % 2 ^ 16 := by
  refine answers_write_same (exec_bankEnable m b w s) hw fun t same => ?_
  obtain ⟨u, refused, enable⟩ := wrBcfg_refuses hu hn hb hc
  have cell : PinCell (IO_BCFG.EN.key b) := pinCell_bank (by decide) b
  rw [refused] at same
  refine ⟨?_, ?_⟩
  · rw [same.get_pin cell, State.refuse_pin cell (bankCheck_block hc), enable, hn]
  · rw [same.get_eq (by decide), State.refuse_code]

theorem bankEnable_disables (hn : s.get IO_BCFG.EN b = 1) (hb : bit w.toNat 0 = false) (ha : s.bankAbsent b = false)
    (hp : ((List.range 48).any fun i => s.flag IO_PCFG.EN (48 * b + i)) = false) :
    Answers (.bankEnable m b w) s fun t => t.get IO_BCFG.EN b = 0 := by
  refine answers_write_same (exec_bankEnable m b w s) hw fun t same => ?_
  obtain ⟨u, disabled⟩ := wrBcfg_disables (m := m) hu hn hb ha hp
  rw [disabled] at same
  rw [same.get_pin (pinCell_bank (by decide) b), State.get_put_self]
  rfl

end Banks

/-! The monitor of a bank (R398). -/

theorem vioLost_shows (ha : Awake s) (b : Fin 12) (vdet : BitVec 3) : Answers (.vioLost b vdet) s fun t =>
    t.get IO_BSTAT.OK b = 0 ∧ t.get IO_BSTAT.VDET b = vdet.toNat ∧
      (s.get IO_BSTAT.OK b = 1 → s.get IO_BCFG.EN b = 1 → t.get IO_IRQ.VIO = 1) := by
  refine answers_live_same (exec_vioLost b vdet s) ha fun t same => ?_
  dsimp only at same
  rw [← State.vioShown] at same
  obtain ⟨ok, shown, enable⟩ := s.vioShown_results b vdet
  have kept {g : Field} (hg : g ∈ IO_BSTAT.reg.fields) : t.get g b = (s.vioShown b vdet.toNat).get g b := by
    have cell := pinCell_monitor hg b
    rw [same.get_pin cell]
    split
    · rw [State.get_put_ne _ _ (cell.ne (.inl (by decide))), State.raise_pin cell]
    · rfl
  refine ⟨(kept (by decide)).trans ok, (kept (by decide)).trans shown, fun was en => ?_⟩
  rw [same.get_eq (by decide), if_pos (by simp [State.flag, was, enable, en]), State.get_put_self]
  rfl

theorem vioRestored_shows (ha : Awake s) (b : Fin 12) (vdet : BitVec 3) : Answers (.vioRestored b vdet) s fun t =>
    t.get IO_BSTAT.VDET b = vdet.toNat ∧ t.get IO_BSTAT.OK b = b2n (vdet.toNat = s.get IO_BCFG.VSEL b) := by
  refine answers_live_same (exec_vioRestored b vdet s) ha fun t same => ?_
  refine ⟨?_, ?_⟩ <;> rw [same.get_pin (pinCell_monitor (by decide) b)]
  · rw [State.get_put_elem _ _ b (by decide), State.get_put_self]
    exact Nat.mod_eq_of_lt vdet.isLt
  · rw [State.get_put_self]
    cases decide (vdet.toNat = s.get IO_BCFG.VSEL b) <;> rfl

/-! Pins (R399, R400). -/

section Pins

variable {p : Fin 576} {w : Word} (hw : Writes m (0x2400 + 4 * p) s)
  (ho : s.pinOwns m (s.get IO_PCFG.OWNER p) = true) (ha : s.pinAbsent p = false)
include hw ho ha

theorem pinEnable_enables (hn : s.get IO_PCFG.EN p = 0) (hb : bit w.toNat 0 = true)
    (hc : (s.storePcfg m p w.toNat).pinCheck m p = none) :
    Answers (.pinEnable m p w) s fun t => t.get IO_PCFG.EN p = 1 := by
  refine answers_write_same (exec_pinEnable m p w s) hw fun t same => ?_
  rw [wrPinCfg_enables ho ha hn hb hc] at same
  rw [same.get_pin (pinCell_pin (by decide) p), State.get_put_self]
  rfl

theorem pinEnable_refused (hn : s.get IO_PCFG.EN p = 0) (hb : bit w.toNat 0 = true) (r : Rc × Nat)
    (hc : (s.storePcfg m p w.toNat).pinCheck m p = some r) : Answers (.pinEnable m p w) s fun t =>
      t.get IO_PCFG.EN p = 0 ∧ t.get GH_REFUSE.CODE = r.1.num % 2 ^ 16 := by
  refine answers_write_same (exec_pinEnable m p w s) hw fun t same => ?_
  have cell : PinCell (IO_PCFG.EN.key p) := pinCell_pin (by decide) p
  rw [wrPinCfg_refuses ho ha hn hb hc] at same
  refine ⟨?_, ?_⟩
  · rw [same.get_pin cell, State.refuse_pin cell (pinCheck_block hc), State.storePcfg_en, hn]
  · rw [same.get_eq (by decide), State.refuse_code]

variable (hn : s.get IO_PCFG.EN p = 1) (hb : bit w.toNat 0 = false)
include hn hb

theorem pinEnable_disables (hc : s.get IO_PCLM.CLAIMS p = 0) :
    Answers (.pinEnable m p w) s fun t => t.get IO_PCFG.EN p = 0 := by
  refine answers_write_same (exec_pinEnable m p w s) hw fun t same => ?_
  rw [wrPinCfg_disables ho ha hn hb, s.pinKept_claims m p, if_neg (not_not_intro hc)] at same
  rw [same.get_pin (pinCell_pin (by decide) p), State.get_put_self]
  rfl

theorem pinEnable_inUse (hc : s.get IO_PCLM.CLAIMS p ≠ 0) : Answers (.pinEnable m p w) s fun t =>
    t.get IO_PCFG.EN p = 1 ∧ t.get GH_REFUSE.CODE = Rc.IO_PIN_IN_USE.num % 2 ^ 16 := by
  refine answers_write_same (exec_pinEnable m p w s) hw fun t same => ?_
  have cell : PinCell (IO_PCFG.EN.key p) := pinCell_pin (by decide) p
  rw [wrPinCfg_disables ho ha hn hb, s.pinKept_claims m p, if_pos hc] at same
  refine ⟨?_, ?_⟩
  · rw [same.get_pin cell, State.refuse_pin cell rfl, s.pinKept_en m p, hn]
  · rw [same.get_eq (by decide), State.refuse_code]

end Pins

/-! RENEW (R410). -/

theorem renew_claims {p : Fin 585} (hw : Writes m (0x3000 + 4 * p) s) (hr : s.mode = mRUN)
    (hn : bit (s.get IO_PCLM.CLAIMS p) 5 = false) (hc : s.claimCheck lvARRAY p = none)
    (ho : if p.val < 576 then s.pinOwns m (s.get IO_PCFG.OWNER p) = true ∧ s.get IO_PCFG.ARR p ≠ 0
      else m = .gatehouse ∧ bit (s.get IO_CTARR.ARR) (p - 576) = true) :
    Answers (.renew m p) s fun t => bit (t.get IO_PCLM.CLAIMS p) 5 = true ∧
      (s.get IO_PCLM.CLAIMS p = 0 → t.get IO_PCLM.HOLDER p = lvARRAY) := by
  refine answers_write_same (exec_renew m p s) hw fun t same => ?_
  rw [wrPclm_renews p.isLt hr hn hc ho] at same
  refine ⟨?_, fun free => ?_⟩ <;> rw [same.get_pin (pinCell_claim (by decide) p.isLt)]
  · exact State.takeClaim_claimed ..
  · exact State.takeClaim_holder p.isLt ((State.renewSeen_claims ..).trans free)

/-! Serialiser groups (R415, R417). -/

section Groups

variable {g : Fin 12} (hw : Writes m (0x2300 + 4 * g) s)
  (ho : s.pinOwns m (s.get IO_PCFG.OWNER ((groupPins g).headD 0)) = true)
include hw ho

section Enable

variable {w : Word} (hn : s.get IO_SERCFG.EN g = 0) (hb : bit w.toNat 0 = true) (hs : bit w.toNat 6 = false)
include hn hb hs

/-- Whatever state the claims of the group's pins end in, the group is enabled in it. -/
theorem serGroupEnable_enables {v : State} (hc : (s.groupSet m g w.toNat).groupCheck m g = none)
    (hv : (if (s.groupSet m g w.toNat).get IO_SERCFG.DIR g = 0 then
      (s.groupSet m g w.toNat).claimAll lvARRAY (groupPins g) else .inr (s.groupSet m g w.toNat)) = .inr v) :
    Answers (.serGroupEnable m g w) s fun t => t.get IO_SERCFG.EN g = 1 ∧ t.get SER_FIRST g = 1 := by
  refine answers_write_same (exec_serGroupEnable m g w s) hw fun t same => ?_
  rw [wrSercfg_enables ho hn hb hs hc hv] at same
  refine ⟨?_, ?_⟩ <;> rw [same.get_elem_eq g (by decide)]
  · rw [State.get_put_elem _ _ g (by decide), State.get_put_self]
    rfl
  · exact State.get_put_self ..

theorem serGroupEnable_refused (r : Rc × Nat) (hc : (s.groupSet m g w.toNat).groupCheck m g = some r) :
    Answers (.serGroupEnable m g w) s fun t =>
      t.get IO_SERCFG.EN g = 0 ∧ t.get GH_REFUSE.CODE = r.1.num % 2 ^ 16 := by
  refine answers_write_same (exec_serGroupEnable m g w s) hw fun t same => ?_
  have cell : PinCell (IO_SERCFG.EN.key g) := pinCell_group (by decide) g
  rw [wrSercfg_refuses ho hn hb hs hc] at same
  refine ⟨?_, ?_⟩
  · rw [same.get_pin cell, State.refuse_pin cell (groupCheck_block hc), State.groupSet, State.get_put_self]
    rfl
  · rw [same.get_eq (by decide), State.refuse_code]

end Enable

theorem bitslip_slips (hn : s.get IO_SERCFG.EN g = 1) : Answers (.bitslip m g) s fun t =>
    t.get IO_SERCFG.EN g = 1 ∧ t.get SER_FIRST g = 1 := by
  refine answers_write_same (exec_bitslip m g s) hw fun t same => ?_
  have enable : (s.put SER_FIRST 1 g).get IO_SERCFG.EN g = 1 := by rw [State.get_put_elem _ _ g (by decide), hn]
  have first : (s.put SER_FIRST 1 g).get SER_FIRST g = 1 := State.get_put_self ..
  have on := bit_setBit_of_bit (i := 6) (State.readReg_sercfg_en hn)
  refine ⟨?_, ?_⟩ <;> rw [same.get_elem_eq g (by decide)] <;>
    rcases wrSercfg_slips ho enable on (bit_setBit _ 6) with slipped | recorded
  · rw [slipped, enable]
  · rw [recorded, State.raise_get_elem _ _ _ _ g (by decide), enable]
  · rw [slipped, first]
  · rw [recorded, State.raise_get_elem _ _ _ _ g (by decide), first]

end Groups

end Commands

/-- Settles O26: each clause is the lemma of its command; only a transmit group claims its pins (R415). -/
theorem banksPinsAndGroupsAreEnabled : Obligations.BanksPinsAndGroupsAreEnabled := by
  unfold Obligations.BanksPinsAndGroupsAreEnabled
  intro s ha
  refine ⟨fun m b w hw hu => ⟨fun hn hb => ⟨bankEnable_enables hw hu hn hb, bankEnable_refused hw hu hn hb⟩,
      bankEnable_disables hw hu⟩,
    fun b vdet => ⟨vioLost_shows ha b vdet, vioRestored_shows ha b vdet⟩,
    fun m p w hw ho hp => ⟨fun hn hb => ⟨pinEnable_enables hw ho hp hn hb, pinEnable_refused hw ho hp hn hb⟩,
      fun hn hb => ⟨pinEnable_disables hw ho hp hn hb, pinEnable_inUse hw ho hp hn hb⟩⟩,
    fun m p hw => renew_claims hw, fun m g hw ho => ⟨fun w hn hb hs => ⟨fun hc hd => ?receive, fun v hc hd hv => ?transmit,
      serGroupEnable_refused hw ho hn hb hs⟩, bitslip_slips hw ho⟩⟩
  case receive => exact serGroupEnable_enables hw ho hn hb hs hc (if_neg (by rw [State.groupSet, hd]; decide))
  case transmit => exact serGroupEnable_enables hw ho hn hb hs hc ((if_pos hd).trans hv)

end Sys2Proof.Machine
end

section
/-! Cells and lists apart by a closed check of where they lie, so that `simp` carries a read over the writes of an effect:
a read of another cell (`State.get_put_ne`) leaves a comparison of two keys, which the lemmas below decide. -/

namespace Sys2Proof.Machine

/-! Where fields and lists lie. -/

/-- Where element 0 of a field lies. -/
def Field.place (f : Field) : Nat := 32 * f.off + f.lo

/-- No element of one field is an element of the other: they lie at different places of one stride. -/
def Field.beside (f g : Field) : Bool :=
  f.stride == g.stride && f.place % (32 * f.stride) != g.place % (32 * f.stride)

/-- The first n elements of one field lie below the other. -/
def Field.below (f : Field) (n : Nat) (g : Field) : Bool := f.place + 32 * f.stride * (n - 1) < g.place

theorem Field.key_eq_place (f : Field) (i : Nat) : f.key i = f.place + 32 * f.stride * i := by
  simp only [Field.key, Field.place, Nat.mul_add, Nat.mul_assoc]
  omega

section Keys

variable {f g : Field} {n : Nat}

@[simp] theorem Field.key_beside {i j : Nat} (h : f.beside g = true) : (f.key i = g.key j) = False := by
  simp only [Field.beside, Bool.and_eq_true, beq_iff_eq, bne_iff_ne] at h
  obtain ⟨stride, place⟩ := h
  refine eq_false fun same => place ?_
  rw [Field.key_eq_place, Field.key_eq_place, ← stride] at same
  simpa using congrArg (· % (32 * f.stride)) same

theorem Field.key_lt {i j : Nat} (hi : i < n) (h : f.below n g = true) : f.key i < g.key j := by
  have low : 32 * f.stride * i ≤ 32 * f.stride * (n - 1) := Nat.mul_le_mul_left _ (by omega)
  simp only [Field.below, decide_eq_true_eq] at h
  rw [Field.key_eq_place, Field.key_eq_place]
  omega

@[simp] theorem Field.key_below_fin (i : Fin n) (j : Nat) (h : f.below n g = true) : (f.key i = g.key j) = False :=
  eq_false (Field.key_lt i.isLt h).ne

@[simp] theorem Field.key_below_nat (i j : Nat) (h : f.below (i + 1) g = true) : (f.key i = g.key j) = False :=
  eq_false (Field.key_lt i.lt_succ_self h).ne

@[simp] theorem Field.key_below_offset (c : Nat) (i : Fin n) (j : Nat) (h : f.below (c + n) g = true) :
    (f.key (c + i) = g.key j) = False := eq_false (Field.key_lt (Nat.add_lt_add_left i.isLt c) h).ne

@[simp] theorem Field.key_above_fin (i : Nat) (j : Fin n) (h : g.below n f = true) : (f.key i = g.key j) = False :=
  eq_false (Field.key_lt j.isLt h).ne'

@[simp] theorem Field.key_above_nat (i j : Nat) (h : g.below (j + 1) f = true) : (f.key i = g.key j) = False :=
  eq_false (Field.key_lt j.lt_succ_self h).ne'

@[simp] theorem Field.key_above_offset (i c : Nat) (j : Fin n) (h : g.below (c + n) f = true) :
    (f.key i = g.key (c + j)) = False := eq_false (Field.key_lt (Nat.add_lt_add_left j.isLt c) h).ne'

@[simp] theorem Field.key_inj {i j : Nat} (h : 0 < f.stride) : (f.key i = f.key j) = (i = j) := by
  rw [Field.key_eq_place, Field.key_eq_place, Nat.add_left_cancel_iff, eq_iff_iff]
  exact Nat.mul_right_inj (by omega)

end Keys

/-- Lists of different families, or of different elements of one, are apart. -/
theorem Fifo.key_eq_iff {q r : Fifo} {i j : Nat} (hi : i < 2 ^ 20) (hj : j < 2 ^ 20) :
    q.key i = r.key j ↔ q.id = r.id ∧ i = j := by
  simp only [Fifo.key]
  omega

@[simp] theorem Fifo.key_inj {q : Fifo} {i j : Nat} : q.key i = q.key j ↔ i = j := by
  simp [Fifo.key]

/-! What records and refusals leave. -/

/-- The REFUSE registers (R792). -/
def refuseFields : List Field :=
  [PW_REFUSE.CODE, IO_REFUSE.CODE, CK_REFUSE.CODE, XP_REFUSE.CODE, BS_REFUSE.CODE, BT_REFUSE.CODE, QM_REFUSE.CODE,
    OG_REFUSE.CODE, PX_REFUSE.CODE, HX_REFUSE.CODE, MI_REFUSE.CODE, LG_REFUSE.CODE, BV_REFUSE.CODE, FB_REFUSE.CODE,
    SL_REFUSE.CODE, GH_REFUSE.CODE]

/-- Whether each of the first n elements of a field is another cell than the one of a register that is no array. -/
def Field.spares (g : Field) (n : Nat) (f : Field) : Bool := g.below n f || f.below 1 g || g.beside f

/-- None of the first n elements of a field is a cell of a refusal: a REFUSE register or a count of dropped records. -/
def Field.unrefused (g : Field) (n : Nat) : Bool :=
  (refuseFields.all fun f => g.spares n f && g.spares n { f with lo := 16 }) && g.spares n EV_DROP.COUNT &&
    g.spares n DROP_EPISODE

theorem Field.key_spares {f g : Field} {j n : Nat} (hj : j < n) (h : g.spares n f = true) : g.key j ≠ f.key 0 := by
  simp only [Field.spares, Bool.or_eq_true] at h
  obtain (below | above) | beside := h
  · exact (Field.key_lt hj below).ne
  · exact (Field.key_lt Nat.one_pos above).ne'
  · exact fun same => (Field.key_beside beside).mp same

theorem refuseCode_mem (b : Nat) : refuseCode b ∈ refuseFields := by
  unfold refuseCode
  split <;> simp [refuseFields]

theorem State.refuse_get {s : State} {c : Rc} {obj : Nat} {m : Master} {off : Nat} {g : Field} {j n : Nat} (hj : j < n)
    (h : g.unrefused n = true) : (s.refuse c obj m off).get g j = s.get g j := by
  simp only [Field.unrefused, Bool.and_eq_true, List.all_eq_true] at h
  obtain ⟨⟨registers, drop⟩, episode⟩ := h
  have apart {f : Field} (hf : g.spares n f = true) : g.key j ≠ f.key 0 := Field.key_spares hj hf
  obtain ⟨code, obj⟩ := registers _ (refuseCode_mem c.block)
  obtain ⟨ghCode, ghObj⟩ := registers GH_REFUSE.CODE (by simp [refuseFields])
  exact State.refuseBy_get _ _ _ _ _ (apart code) (apart obj) (apart ghCode) (apart ghObj) (apart drop) (apart episode)

@[simp] theorem State.refuse_get_fin {s : State} {c : Rc} {obj : Nat} {m : Master} {off : Nat} {g : Field} {n : Nat}
    (j : Fin n) (h : g.unrefused n = true) : (s.refuse c obj m off).get g j = s.get g j := State.refuse_get j.isLt h

@[simp] theorem State.refuse_get_nat {s : State} {c : Rc} {obj : Nat} {m : Master} {off : Nat} {g : Field} {j : Nat}
    (h : g.unrefused (j + 1) = true) : (s.refuse c obj m off).get g j = s.get g j :=
  State.refuse_get j.lt_succ_self h

/-! What a command ends in. -/

/-- t is u with messages sent: everything but the outputs and the pending message bits is as in u. -/
structure State.Delivers (u t : State) : Prop where
  cells : u.SameCells t []
  stores : u.SameStores t
  outputs : u.out <:+ t.out

namespace State.Delivers

variable {u t : State} (h : u.Delivers t)
include h

theorem get {g : Field} {j : Nat} (hm : g.key j ≠ MSI_PEND.key 0) : t.get g j = u.get g j := h.cells.get_eq hm

theorem mem : t.mem = u.mem := h.stores.1

theorem lists : t.lists = u.lists := h.stores.2.1

theorem ring : t.ring = u.ring := h.stores.2.2.1

theorem intake : t.intake = u.intake := h.stores.2.2.2.1

theorem list (q : Fifo) (i : Nat) : t.list q i = u.list q i := by rw [State.list, h.lists, State.list]

theorem mem_out {e : Emit} (he : e ∈ u.out) : e ∈ t.out := h.outputs.subset he

theorem load (r : Region) (a : Nat) : t.load r a = u.load r a := by
  have apart (n : Nat) : BLK_EPOCH.key n ≠ MSI_PEND.key 0 := by
    simp only [Field.key, BLK_EPOCH, MSI_PEND]
    omega
  have blank : t.blank r a = u.blank r a := by
    cases r <;> simp [State.blank, State.filled, h.get (apart _), h.get (g := MEM_UNDEF) (j := 0) (by decide),
      h.get (g := MEM_EPOCH) (j := 0) (by decide)]
  simp [State.load, blank, h.mem, h.get (g := MEM_EPOCH) (j := 0) (by decide)]

theorem frame {s : State} {keys : List Nat} (hs : s.Frame u keys) : s.Frame t keys :=
  ⟨hs.1.trans h.stores, fun f i hf hm => (h.cells f i List.not_mem_nil hm).trans (hs.2 f i hf hm)⟩

end State.Delivers

theorem State.message_outputs (s : State) (v : Nat) : s.out <:+ (s.message v).out := by
  unfold State.message State.emit
  dsimp only
  repeat' split
  all_goals first | exact List.suffix_rfl | exact List.suffix_cons _ _

theorem State.edge_outputs (s : State) (n : Nat) : s.out <:+ (s.edge n).out := by
  have sent := s.message_outputs (s.get PW_IRQMAP.VECTOR n)
  unfold State.edge State.emit
  dsimp only
  repeat' split
  all_goals first
    | exact List.suffix_rfl
    | exact sent
    | exact sent.trans (List.suffix_cons _ _)
    | exact List.suffix_cons _ _

theorem deliver_delivers (s u : State) : u.Delivers (deliver s u) := by
  refine ⟨fun _ _ _ hm => deliver_get _ _ hm, deliver_stores s u, ?_⟩
  refine foldl_keeps (fun v : State => u.out <:+ v.out) _ (fun v n h => ?_) _ u List.suffix_rfl
  split
  · exact h.trans (v.edge_outputs n)
  · exact h

theorem State.resend_delivers (s before : State) (off w : Nat) : s.Delivers (s.resend before off w) := by
  refine ⟨fun _ _ _ hm => State.resend_get _ _ _ _ hm, State.resend_stores s before off w, ?_⟩
  unfold State.resend
  split
  · exact List.suffix_rfl
  · split
    · refine foldl_keeps (fun v : State => s.out <:+ v.out) _ (fun v k h => ?_) _ s List.suffix_rfl
      dsimp only
      split
      · exact h.trans (v.message_outputs _)
      · exact h
    · exact List.suffix_rfl

theorem State.Delivers.trans {s t u : State} (h : s.Delivers t) (h' : t.Delivers u) : s.Delivers u :=
  ⟨fun f i hf hm => (h'.cells f i hf hm).trans (h.cells f i hf hm), h.stores.trans h'.stores,
    h.outputs.trans h'.outputs⟩

section Answers

variable {c : Instr} {s : State} {P : State → Prop}

theorem answers_run {u : State} (hc : exec c s = run s u) (hp : ∀ t, u.Delivers t → P t) : Answers c s P :=
  ⟨_, hc, hp _ (deliver_delivers s u)⟩

theorem exec_live {k : State → State} (hc : exec c s = live s k) (ha : Awake s) : exec c s = run s (k s) :=
  hc.trans (live_awake k ha)

/-- A command out of reset ends in its effect, delivered. -/
theorem answers_live_delivers {k : State → State} (hc : exec c s = live s k) (ha : Awake s)
    (hp : ∀ t, (k s).Delivers t → P t) : Answers c s P := answers_run (exec_live hc ha) hp

/-- A register write taken as it stands ends in the register's own effect, delivered. -/
theorem answers_write_delivers {m : Master} {off w : Nat} {k : State → State}
    (hc : exec c s = live s fun s => s.onWrite m off w k) (hw : Writes m off s)
    (hp : ∀ t, (k s).Delivers t → P t) : Answers c s P := by
  refine answers_live_delivers hc hw.1 fun t ht => hp t ?_
  rw [State.onWrite_of hw] at ht
  exact ((k s).resend_delivers s off w).trans ht

/-- The same where a mirrored pair cannot take it. -/
theorem answers_writeAlways_delivers {m : Master} {off w : Nat} {k : State → State}
    (hc : exec c s = live s fun s => s.onWrite m off w k) (hw : WritesAlways m off s)
    (hp : ∀ t, (k s).Delivers t → P t) : Answers c s P := by
  refine answers_live_delivers hc hw.1 fun t ht => hp t ?_
  rw [State.onWrite_always hw] at ht
  exact ((k s).resend_delivers s off w).trans ht

/-- A register read answered by the register runs what the read leaves, with the value on the bus. -/
theorem exec_read {m : Master} {off : Nat} {k : State → Nat × State}
    (hc : exec c s = live s fun s => (s.onRead m off k).2.emit .busData [m.code, (s.onRead m off k).1])
    (hr : Reads m off s) : exec c s = run s ((k s).2.emit .busData [m.code, (k s).1]) := by
  rw [exec_live hc hr.1, State.onRead_of hr]

theorem answers_read_delivers {m : Master} {off : Nat} {k : State → Nat × State}
    (hc : exec c s = live s fun s => (s.onRead m off k).2.emit .busData [m.code, (s.onRead m off k).1])
    (hr : Reads m off s) (hp : ∀ t, ((k s).2.emit .busData [m.code, (k s).1]).Delivers t → P t) : Answers c s P :=
  answers_run (exec_read hc hr) hp

end Answers

theorem State.frame_refl (s : State) (keys : List Nat) : s.Frame s keys := ⟨.refl s, fun _ _ _ _ => rfl⟩

end Sys2Proof.Machine
end

section
/-! O1: what a step does with the queue. -/

namespace Sys2Proof.Machine

theorem step_front {s : State} {c : Instr} {rest : List Instr} (h : s.pending = c :: rest) :
    step s = exec c { s with pending := rest } := by
  simp only [step, h]

theorem step_idle {s : State} (h : s.pending = []) : step s = .next s := by
  simp only [step, h]

/-- Settles O1: a step looks at the front of the queue alone. -/
theorem stepRunsFrontCommand : Obligations.StepRunsFrontCommand := by
  unfold Obligations.StepRunsFrontCommand
  exact ⟨fun _ _ _ => step_front, fun _ => step_idle, fun s c d rest h =>
    step_front (s := { s with pending := s.pending ++ [d] }) (by simp [h])⟩

end Sys2Proof.Machine
end

section
/-! O40: the mailbox (R612) and the watchdog (R611). -/

namespace Sys2Proof.Machine

/-! The reset of the core (R597). -/

/-- A forgotten field reads its reset value; every other keeps its value. -/
theorem State.forget_get (s : State) (fs : List Field) (g : Field) (j : Nat) : (s.forget fs).get g j =
    if fs.any fun f => 32 * f.off ≤ g.key j && g.key j < 32 * (f.off + 0x100000) then g.reset else s.get g j := by
  split
  case isTrue gone => exact Store.get_filter_dropped _ _ _ _ fun _ => by simp [gone]
  case isFalse stays => exact Store.get_filter _ _ _ _ fun _ => by simp [stays]

theorem State.coreReset_state (s : State) (st : Nat) : (s.coreReset st).get LG_STAT.STATE = st % 2 ^ 3 := by
  unfold State.coreReset
  dsimp only
  split_ifs <;> simp +decide [State.unhalt, State.get_put_ne, State.get_put_self] <;> rfl

/-- The hart's own cells, but for its halt request, are forgotten. -/
theorem State.coreReset_hart (s : State) (st : Nat) {g : Field} {j : Nat}
    (hf : hartFields.any (fun f => 32 * f.off ≤ g.key j && g.key j < 32 * (f.off + 0x100000)) = true)
    (hk : g.key j ∉ cellsAt [RV_WAIT, DM_HAVERESET, LG_STAT.STATE, LG_STAT.RESV, PW_MODE.HALTED, RV_HALTREQ]) :
    (s.coreReset st).get g j = g.reset := by
  simp only [cellsAt, List.map_cons, List.map_nil, List.mem_cons, List.not_mem_nil, or_false, not_or] at hk
  obtain ⟨wait, reset, state, resv, halted, request⟩ := hk
  unfold State.coreReset
  dsimp only
  split_ifs <;> simp only [State.unhalt, State.get_put_ne _ _ wait, State.get_put_ne _ _ reset,
    State.get_put_ne _ _ state, State.get_put_ne _ _ resv, State.get_put_ne _ _ halted, State.get_put_ne _ _ request,
    State.forget_get, hf, if_true]

section Commands

variable {s : State} {m : Master}

/-! The mailbox. -/

section Rings

variable (hw : Writes m 0x31A40 s)
include hw

theorem h2lRing_fills (hm : isLodge m = false) (hf : s.get LG_MBSTAT.H2L_FULL = 0) : Answers (.h2lRing m) s fun t =>
    t.get LG_MBSTAT.H2L_FULL = 1 ∧ t.get LG_IRQ.MBOX_H2L = 1 := by
  refine answers_write_delivers (exec_h2lRing m s) hw fun t ht => ?_
  simp +decide [ht.get, wrMbdb, State.flag, hm, hf, State.get_put_ne, State.get_put_self]

theorem h2lRing_drops (hm : isLodge m = false) (hf : s.get LG_MBSTAT.H2L_FULL = 1) : Answers (.h2lRing m) s fun t =>
    t.get LG_MBSTAT.H2L_FULL = 1 ∧
      t.get LG_MBSTAT.DROPS = min (s.get LG_MBSTAT.DROPS + 1) (2 ^ LG_MBSTAT.DROPS.width - 1) := by
  refine answers_write_delivers (exec_h2lRing m s) hw fun t ht => ?_
  simp +decide [ht.get, wrMbdb, State.flag, State.mboxBusy, hm, hf, State.raise_get, State.get_count_ne,
    State.get_count_self]

theorem h2lRing_lodge (hm : isLodge m = true) : Answers (.h2lRing m) s fun t => s.Frame t [] := by
  refine answers_write_delivers (exec_h2lRing m s) hw fun t ht => ht.frame ?_
  simp +decide [wrMbdb, hm, s.frame_refl]

theorem l2hRing_fills (hm : m = .lodgeM) (hf : s.get LG_MBSTAT.L2H_FULL = 0) : Answers (.l2hRing m) s fun t =>
    t.get LG_MBSTAT.L2H_FULL = 1 ∧ t.get LG_IRQ.MBOX_L2H = 1 := by
  refine answers_write_delivers (exec_l2hRing m s) hw fun t ht => ?_
  simp +decide [ht.get, wrMbdb, State.flag, hm, hf, State.get_put_ne, State.get_put_self]

theorem l2hRing_drops (hm : m = .lodgeM) (hf : s.get LG_MBSTAT.L2H_FULL = 1) : Answers (.l2hRing m) s fun t =>
    t.get LG_MBSTAT.L2H_FULL = 1 ∧
      t.get LG_MBSTAT.DROPS = min (s.get LG_MBSTAT.DROPS + 1) (2 ^ LG_MBSTAT.DROPS.width - 1) := by
  refine answers_write_delivers (exec_l2hRing m s) hw fun t ht => ?_
  simp +decide [ht.get, wrMbdb, State.flag, State.mboxBusy, hm, hf, State.raise_get, State.get_count_ne,
    State.get_count_self]

theorem l2hRing_other (hm : m ≠ .lodgeM) : Answers (.l2hRing m) s fun t => s.Frame t [] := by
  refine answers_write_delivers (exec_l2hRing m s) hw fun t ht => ht.frame ?_
  simp +decide [wrMbdb, hm, s.frame_refl]

end Rings

/-- Each side is cleared by its reader alone: LODGE_M the side towards the Lodge, the others the other one. -/
theorem wrMbstat_get (s : State) (m : Master) (w : Nat) :
    ((wrMbstat m w s).get LG_MBSTAT.H2L_FULL = if bit w 0 ∧ m = .lodgeM then 0 else s.get LG_MBSTAT.H2L_FULL) ∧
    ((wrMbstat m w s).get LG_IRQ.MBOX_H2L = if bit w 0 ∧ m = .lodgeM then 0 else s.get LG_IRQ.MBOX_H2L) ∧
    ((wrMbstat m w s).get LG_MBSTAT.L2H_FULL = if bit w 1 ∧ m ≠ .lodgeM then 0 else s.get LG_MBSTAT.L2H_FULL) ∧
    ((wrMbstat m w s).get LG_IRQ.MBOX_L2H = if bit w 1 ∧ m ≠ .lodgeM then 0 else s.get LG_IRQ.MBOX_L2H) := by
  unfold wrMbstat
  by_cases h0 : bit w 0 = true <;> by_cases h1 : bit w 1 = true <;> by_cases hm : m = .lodgeM <;>
    by_cases hd : bits w 8 8 = 0 <;> simp +decide [h0, h1, hm, hd, State.get_put_ne, State.get_put_self]

theorem mailboxClear_clears {w : Word} (hw : Writes m 0x31A44 s) : Answers (.mailboxClear m w) s fun t =>
    (bit w.toNat 0 = true → m = .lodgeM → t.get LG_MBSTAT.H2L_FULL = 0 ∧ t.get LG_IRQ.MBOX_H2L = 0) ∧
    (bit w.toNat 1 = true → m ≠ .lodgeM → t.get LG_MBSTAT.L2H_FULL = 0 ∧ t.get LG_IRQ.MBOX_L2H = 0) ∧
    (m ≠ .lodgeM → t.get LG_MBSTAT.H2L_FULL = s.get LG_MBSTAT.H2L_FULL) ∧
    (m = .lodgeM → t.get LG_MBSTAT.L2H_FULL = s.get LG_MBSTAT.L2H_FULL) := by
  refine answers_write_delivers (exec_mailboxClear m w s) hw fun t ht => ?_
  obtain ⟨h2l, h2lIrq, l2h, l2hIrq⟩ := wrMbstat_get s m w.toNat
  rw [ht.get (by decide), ht.get (by decide), ht.get (by decide), ht.get (by decide), h2l, h2lIrq, l2h, l2hIrq]
  exact ⟨fun hb hm => ⟨if_pos ⟨hb, hm⟩, if_pos ⟨hb, hm⟩⟩, fun hb hm => ⟨if_pos ⟨hb, hm⟩, if_pos ⟨hb, hm⟩⟩,
    fun hm => if_neg fun h => hm h.2, fun hm => if_neg fun h => h.2 hm⟩

/-! The watchdog. -/

theorem watchdogEnable_starts {w : Word} (hw : Writes m 0x31900 s) (hn : s.get LG_WDCFG.EN = 0)
    (hb : bit w.toNat 0 = true) : Answers (.watchdogEnable m w) s fun t =>
      t.get LG_WDCFG.EN = 1 ∧ t.get LG_WDSTAT.REMAIN = t.get LG_WDCFG.TIMEOUT % 2 ^ 24 := by
  refine answers_write_delivers (exec_watchdogEnable m w s) hw fun t ht => ?_
  have enabled : (s.writeReg m LG_WDCFG.reg 0 w.toNat).get LG_WDCFG.EN = 1 :=
    (s.writeReg_takes m 0 w.toNat (by decide) (by decide) (by decide) rfl (by decide) rfl).trans (bits_one_of_bit hb)
  simp +decide [ht.get, wrWdcfg, State.flag, hn, hb, State.get_put_ne, State.get_put_self, enabled]
  rfl

theorem watchdogEnable_ignored {w : Word} (hw : Writes m 0x31900 s) (hn : s.get LG_WDCFG.EN = 1) :
    Answers (.watchdogEnable m w) s fun t => s.Frame t [] := by
  refine answers_write_delivers (exec_watchdogEnable m w s) hw fun t ht => ht.frame ?_
  simp [wrWdcfg, State.flag, hn, s.frame_refl]

section Kick

variable {w : Word} (hw : Writes m 0x31904 s)
include hw

theorem watchdogKick_restarts (hk : w = 0x5A5A) (hm : m = .lodgeM) (hn : s.get LG_WDCFG.EN = 1) :
    Answers (.watchdogKick m w) s fun t => t.get LG_WDSTAT.REMAIN = s.get LG_WDCFG.TIMEOUT % 2 ^ 24 ∧
      t.get LG_WDSTAT.BADKICK = s.get LG_WDSTAT.BADKICK := by
  refine answers_write_delivers (exec_watchdogKick m w s) hw fun t ht => ?_
  subst hk
  simp +decide [ht.get, wrWdkick, State.flag, hm, hn, State.get_put_ne, State.get_put_self]
  rfl

theorem watchdogKick_counts (hk : w ≠ 0x5A5A ∨ m ≠ .lodgeM) : Answers (.watchdogKick m w) s fun t =>
    t.get LG_WDSTAT.BADKICK = min (s.get LG_WDSTAT.BADKICK + 1) (2 ^ LG_WDSTAT.BADKICK.width - 1) ∧
      t.get LG_WDSTAT.REMAIN = s.get LG_WDSTAT.REMAIN := by
  refine answers_write_delivers (exec_watchdogKick m w s) hw fun t ht => ?_
  have bad : ¬(w.toNat % 2 ^ 32 = 0x5A5A ∧ m = .lodgeM) := by
    rintro ⟨key, lodge⟩
    rw [Nat.mod_eq_of_lt w.isLt] at key
    exact hk.elim (fun h => h (BitVec.eq_of_toNat_eq key)) fun h => h lodge
  rw [wrWdkick, if_neg (by simpa using bad)] at ht
  by_cases first : s.get LG_WDSTAT.BADKICK = 0 <;>
    simp +decide [ht.get, first, State.raise_get, State.get_count_ne, State.get_count_self]

end Kick

section Expiry

variable (ha : Awake s) (hn : s.get LG_WDCFG.EN = 1) (hr : s.get LG_STAT.STATE = lgRUN)
include ha hn hr

theorem watchdogExpiry_warns (hf : s.get LG_WDSTAT.WARNED = 0) : Answers .watchdogExpiry s fun t =>
    t.get LG_WDSTAT.WARNED = 1 ∧ t.get LG_IRQ.WDT = 1 ∧
      t.get LG_WDSTAT.REMAIN = s.get LG_WDCFG.TIMEOUT % 2 ^ 24 := by
  refine answers_live_delivers (exec_watchdogExpiry s) ha fun t ht => ?_
  simp +decide [ht.get, State.flag, hn, hr, hf, State.raise_get, State.get_put_ne, State.get_put_self]
  rfl

variable (hf : s.get LG_WDSTAT.WARNED = 1)
include hf

theorem watchdogExpiry_resetsDevice (hc : s.get LG_WDCFG.ACTION = 1) : Answers .watchdogExpiry s fun t =>
    t.get RESETTING = 1 := by
  refine answers_live_delivers (exec_watchdogExpiry s) ha fun t ht => ?_
  have awake : s.get RESETTING = 0 := ha
  simp +decide [ht.get, State.flag, hn, hr, hf, hc, State.raise_get, State.get_put_ne, State.get_put_self,
    State.warmReset, awake]

theorem watchdogExpiry_resetsCore (hc : s.get LG_WDCFG.ACTION = 0) (hl : s.get LG_CTL.RUN = 1) :
    Answers .watchdogExpiry s fun t => t.get LG_STAT.STATE = lgRUN ∧ t.get RV_PC = 0 ∧ t.get RV_PRIV = 3 := by
  refine answers_live_delivers (exec_watchdogExpiry s) ha fun t ht => ?_
  simp +decide [State.flag, hn, hr, hf, hc, hl, State.raise_get, State.get_put_ne] at ht
  refine ⟨?_, ?_, ?_⟩ <;> rw [ht.get (by decide)]
  · exact State.coreReset_state ..
  · exact State.coreReset_hart _ _ (by decide) (by decide)
  · exact State.coreReset_hart _ _ (by decide) (by decide)

end Expiry

end Commands

/-- Settles O40: each clause is the lemma of its command. -/
theorem mailboxAndWatchdogAct : Obligations.MailboxAndWatchdogAct := by
  unfold Obligations.MailboxAndWatchdogAct
  exact fun s => ⟨fun m hw => ⟨h2lRing_fills hw, h2lRing_drops hw, h2lRing_lodge hw, l2hRing_fills hw,
      l2hRing_drops hw, l2hRing_other hw⟩,
    fun m w hw => mailboxClear_clears hw,
    fun m w hw => ⟨watchdogEnable_starts hw, watchdogEnable_ignored hw⟩,
    fun m w hw => ⟨watchdogKick_restarts hw, watchdogKick_counts hw⟩,
    fun ha hn hr => ⟨watchdogExpiry_warns ha hn hr, watchdogExpiry_resetsCore ha hn hr,
      watchdogExpiry_resetsDevice ha hn hr⟩⟩
end Sys2Proof.Machine
end

section
/-! O27: quad PLLs (R430, R431) and serial lanes (R435 to R442, R451). -/

namespace Sys2Proof.Machine

section Commands

variable {s : State} {m : Master}

/-! Quad PLLs. -/

/-- The lock time is no value that Table SL-2 looks at. -/
theorem State.quadCheck_lockTime (s : State) (m : Master) (q : Fin 10) (v r n f : Nat) :
    (s.put SL_QCTL.LOCK_T v q).quadCheck m q r n f = s.quadCheck m q r n f := by
  simp (disch := simp +decide) only [State.quadCheck, State.quadVco, State.quadHz, State.unitMode, State.mode,
    State.quadAbsent, State.small, State.quadPx, State.flag, State.laneOwner, State.refPresent, State.paceOn,
    State.refHz, State.get_put_ne]
  congr!

/-- The state in which a GO is judged: the lock time stored where it is legal. -/
def State.quadTimed (s : State) (q w : Nat) : State :=
  if SL_QCTL.LOCK_T.accepts (bits w 2 8) && !s.quadAbsent q then s.put SL_QCTL.LOCK_T (bits w 2 8) q else s

theorem State.quadTimed_check (s : State) (m : Master) (q : Fin 10) (w r n f : Nat) :
    (s.quadTimed q w).quadCheck m q r n f = s.quadCheck m q r n f := by
  unfold State.quadTimed
  split
  · exact s.quadCheck_lockTime m q _ r n f
  · rfl

theorem State.quadTimed_get (s : State) (q : Fin 10) (w : Nat) {g : Field} (h : g.beside SL_QCTL.LOCK_T = true) :
    (s.quadTimed q w).get g q = s.get g q := by
  unfold State.quadTimed
  split
  · simp +decide [State.get_put_ne, h]
  · rfl

theorem wrQctl_go {w : Nat} (q : Fin 10) (hg : bit w 1 = true) : wrQctl m q w s =
    match s.quadCheck m q (s.get SL_QCFG.RDIV q) (s.get SL_QCFG.N q) (s.get SL_QFRAC.F q) with
    | some (c, obj) => (s.quadTimed q w).refuse c obj m (0x7108 + 0x20 * q)
    | none =>
      let u := ((s.quadTimed q w).quadSample q).put SL_QCTL.EN (b2n (bit w 0)) q
      if s.flag SL_QCTL.EN q && !bit w 0 then u.quadOff q
      else if bit w 0 then u.quadStart q (u.get STAGE_POL (6 + q)) else u := by
  rw [← s.quadTimed_check m q w, ← s.quadTimed_get q w (g := SL_QCFG.RDIV) (by decide),
    ← s.quadTimed_get q w (g := SL_QCFG.N) (by decide), ← s.quadTimed_get q w (g := SL_QFRAC.F) (by decide)]
  simp only [wrQctl, hg, Bool.not_true, Bool.and_false, Bool.false_eq_true, if_false, if_true]
  rfl

section Go

variable {q : Fin 10} {w : Word} (hw : Writes m (0x7108 + 0x20 * q) s) (hg : bit w.toNat 1 = true)
include hw hg

theorem qpllGo_starts (hc : s.quadCheck m q (s.get SL_QCFG.RDIV q) (s.get SL_QCFG.N q) (s.get SL_QFRAC.F q) = none)
    (hn : bit w.toNat 0 = true) : Answers (.qpllGo m q w) s fun t => t.get SL_QCTL.EN q = 1 ∧
      t.get SL_QSTAT.STATE q = ckACQUIRE ∧ t.get SL_QSTAT.BUSY q = 1 := by
  refine answers_write_delivers (exec_qpllGo m q w s) hw fun t ht => ?_
  have stage (u : State) (pol next : Nat) : (u.stageStart (6 + q) pol next).get SL_QCTL.EN q = u.get SL_QCTL.EN q :=
    u.stageStart_get _ _ _ (by simp +decide [cellsAt])
  rw [wrQctl_go q hg, hc] at ht
  simp +decide [ht.get, hn, State.quadStart, stage, State.get_put_ne, State.get_put_self]

theorem qpllGo_refused (r : Rc × Nat)
    (hc : s.quadCheck m q (s.get SL_QCFG.RDIV q) (s.get SL_QCFG.N q) (s.get SL_QFRAC.F q) = some r) :
    Answers (.qpllGo m q w) s fun t => t.get SL_QCTL.EN q = s.get SL_QCTL.EN q ∧
      t.get SL_QSTAT.STATE q = s.get SL_QSTAT.STATE q ∧
      (s.quadAbsent q = false → t.get GH_REFUSE.CODE = r.1.num % 2 ^ 16) := by
  refine answers_write_delivers (exec_qpllGo m q w s) hw fun t ht => ?_
  rw [wrQctl_go q hg, hc] at ht
  have enable := s.quadTimed_get q w.toNat (g := SL_QCTL.EN) (by decide)
  have shown := s.quadTimed_get q w.toNat (g := SL_QSTAT.STATE) (by decide)
  simp +decide [ht.get, enable, shown, State.refuse_code]

end Go

section Lock

variable {q : Fin 10} (ha : Awake s) (hd : s.mode ≠ mDORMANT)
include ha

section Acquire

variable (hq : s.get SL_QSTAT.STATE q = ckACQUIRE)
include hq

theorem qpllLocked_locks (hd : s.mode ≠ mDORMANT) (hp : s.get STAGE_POL (6 + q) ≠ 0) :
    Answers (.qpllLocked q) s fun t => t.get SL_QSTAT.STATE q = ckLOCKED ∧ t.get SL_QSTAT.BUSY q = 0 := by
  refine answers_live_delivers (exec_qpllLocked q s) ha fun t ht => ?_
  simp +decide [ht.get, hd, hq, hp, State.quadSteady, State.get_put_ne, State.get_put_self]

theorem qpllLocked_slews (hd : s.mode ≠ mDORMANT) (hx : s.quadPx q = false) (hp : s.get STAGE_POL (6 + q) = 0)
    (hf : s.get STAGE_FREQ (6 + q) ≠ s.get STAGE_NEXT (6 + q)) : Answers (.qpllLocked q) s fun t =>
      t.get SL_QSTAT.STATE q = ckLOCKED ∧ t.get CK_OSTAT.PHASE (6 + q) = phSLEWING := by
  refine answers_live_delivers (exec_qpllLocked q s) ha fun t ht => ?_
  simp +decide [ht.get, hd, hq, hp, hx, hf, State.get_put_ne, State.get_put_self]

theorem qpllLockTimeout_faults (hb : s.get SL_QSTAT.BUSY q = 1) : Answers (.slQpllLockTimeout q) s fun t =>
    t.get SL_QSTAT.STATE q = ckFAULT ∧ t.get SL_QSTAT.BUSY q = 0 ∧ t.get SL_IRQ.QPLL = 1 := by
  refine answers_live_delivers (exec_slQpllLockTimeout q s) ha fun t ht => ?_
  simp +decide [ht.get, State.quadTimeout, State.flag, hq, hb, State.raise_get, State.get_put_ne, State.get_put_self]

end Acquire

theorem qpllLost_holds (hd : s.mode ≠ mDORMANT) (hq : s.get SL_QSTAT.STATE q = ckLOCKED) :
    Answers (.slQpllLost q) s fun t =>
      t.get SL_QSTAT.STATE q = ckHOLDOVER ∧ t.get SL_QSTAT.LOL q = 1 ∧ t.get SL_IRQ.QPLL = 1 := by
  refine answers_live_delivers (exec_slQpllLost q s) ha fun t ht => ?_
  simp +decide [ht.get, hd, hq, State.raise_get, State.get_put_ne, State.get_put_self]

end Lock

/-! Lanes: enabling. -/

/-- The attachments of crossing ports are what `lanePorts` looks at. -/
theorem State.lanePorts_congr {s t : State} (l : Nat)
    (h : ∀ f ∈ [XP_CFG.EN, XP_CFG.ATTACH, XP_CFG.AIDX], ∀ x : Fin 256, t.get f x = s.get f x) :
    t.lanePorts l = s.lanePorts l := by
  refine List.filter_congr fun x hx => ?_
  have same {f : Field} (hf : f ∈ [XP_CFG.EN, XP_CFG.ATTACH, XP_CFG.AIDX]) : t.get f x = s.get f x :=
    h f hf ⟨x, List.mem_range.mp hx⟩
  simp only [State.flag, same (f := XP_CFG.EN) (by simp), same (f := XP_CFG.ATTACH) (by simp),
    same (f := XP_CFG.AIDX) (by simp)]

section Enable

variable {l : Fin 40} {w : Word} (hw : Writes m (0x7400 + 0x40 * l) s)
include hw

section Off

variable (ha : s.laneAbsent l = false) (hn : s.get SL_LCFG.EN l = 0) (hb : bit w.toNat 0 = true)
  (hp : s.laneOwner l ≠ owPCIE) (hh : s.laneOwner l ≠ owHOKUOX)
include ha hn hb hp hh

theorem laneEnable_enables (hc : ((s.writeReg m SL_LCFG.reg l w.toNat).put SL_LCFG.EN 0 l).laneCheck m l = none) :
    Answers (.laneEnable m l w) s fun t => t.get SL_LCFG.EN l = 1 ∧ t.get SL_LSTAT.OWNER l = owARRAY := by
  refine answers_write_delivers (exec_laneEnable m l w s) hw fun t ht => ?_
  simp +decide [ht.get, wrLcfg, State.flag, ha, hn, hb, hp, hh, hc, State.pcsReset, State.get_put_ne,
    State.get_put_self]

theorem laneEnable_refused (r : Rc × Nat)
    (hc : ((s.writeReg m SL_LCFG.reg l w.toNat).put SL_LCFG.EN 0 l).laneCheck m l = some r) :
    Answers (.laneEnable m l w) s fun t => t.get SL_LCFG.EN l = 0 ∧ t.get GH_REFUSE.CODE = r.1.num % 2 ^ 16 := by
  refine answers_write_delivers (exec_laneEnable m l w s) hw fun t ht => ?_
  simp +decide [ht.get, wrLcfg, State.flag, ha, hn, hb, hp, hh, hc, State.refuse_code, State.get_put_self]

end Off

section On

variable (hn : s.get SL_LCFG.EN l = 1) (hb : bit w.toNat 0 = false)
include hn hb

/-- The state in which a disable is judged: changed options are recorded. -/
def State.laneNoted (s : State) (l w : Nat) : State :=
  if bits w 1 14 ≠ s.readReg SL_LCFG.reg l / 2 then s.raise Rc.SL_LANE_ON l else s

omit hw hn hb in
theorem State.laneNoted_get (s : State) (l : Fin 40) (w : Nat) {g : Field} {j : Nat}
    (h1 : g.key j ≠ EV_DROP.COUNT.key 0) (h2 : g.key j ≠ DROP_EPISODE.key 0) :
    (s.laneNoted l w).get g j = s.get g j := by
  unfold State.laneNoted
  split
  · exact State.raise_get _ _ _ _ h1 h2
  · rfl

omit hw hn hb in
theorem State.laneNoted_ports (s : State) (l : Fin 40) (w : Nat) :
    (s.laneNoted l w).lanePorts l = s.lanePorts l :=
  State.lanePorts_congr _ fun f hf x => by
    simp only [List.mem_cons, List.not_mem_nil, or_false] at hf
    rcases hf with rfl | rfl | rfl <;> simp +decide [State.laneNoted_get]

omit hw in
theorem wrLcfg_disable : wrLcfg m l w.toNat s =
    if !(s.lanePorts l).isEmpty then (s.laneNoted l w.toNat).refuse Rc.SL_LANE_BUSY l m (0x7400 + 0x40 * l)
    else (s.laneNoted l w.toNat).laneStop l := by
  rw [← s.laneNoted_ports l w.toNat]
  simp only [wrLcfg, State.flag, hn, hb, decide_true, if_true, Bool.false_eq_true, if_false]
  rfl

theorem laneEnable_disables (hp : s.lanePorts l = []) : Answers (.laneEnable m l w) s fun t =>
    t.get SL_LCFG.EN l = 0 ∧ t.get SL_LSTAT.OWNER l = owNONE := by
  refine answers_write_delivers (exec_laneEnable m l w s) hw fun t ht => ?_
  rw [wrLcfg_disable hn hb, hp] at ht
  simp +decide [ht.get, State.laneStop, State.pcsReset, State.laneDark, State.get_put_ne, State.get_put_self]

theorem laneEnable_busy (hp : s.lanePorts l ≠ []) : Answers (.laneEnable m l w) s fun t =>
    t.get SL_LCFG.EN l = 1 ∧ t.get GH_REFUSE.CODE = Rc.SL_LANE_BUSY.num % 2 ^ 16 := by
  refine answers_write_delivers (exec_laneEnable m l w s) hw fun t ht => ?_
  rw [wrLcfg_disable hn hb, if_pos (by simpa using hp)] at ht
  simp +decide [ht.get, State.refuse_code, State.laneNoted_get, hn]

end On

end Enable

/-! Lanes: what the receiver follows. -/

theorem State.laneEvent_get (s : State) (cnt irq : Field) (c : Rc) (l d : Nat) {g : Field} {j : Nat}
    (hg : g.key j ∉ [cnt.key l, irq.key 0, EV_DROP.COUNT.key 0, DROP_EPISODE.key 0]) :
    (s.laneEvent cnt irq c l d).get g j = s.get g j := by
  simp only [List.mem_cons, List.not_mem_nil, or_false, not_or] at hg
  obtain ⟨hc, hi, h1, h2⟩ := hg
  unfold State.laneEvent
  dsimp only
  split <;> simp [State.raise_get, State.get_put_ne, State.get_count_ne, hc, hi, h1, h2]

section Receiver

variable {l : Fin 40} (ha : Awake s) (hd : s.mode ≠ mDORMANT) (hr : s.rxRuns l = true)
include ha hd hr

theorem cdrLockChange_shows (locked sigdet : Bool) : Answers (.cdrLockChange l locked sigdet) s fun t =>
    t.get SL_LSTAT.CDR l = b2n locked ∧ t.get SL_LSTAT.SIGDET l = b2n sigdet ∧
      (locked = false → t.get SL_LSTAT.ALIGNED l = 0) := by
  refine answers_live_delivers (exec_cdrLockChange l locked sigdet s) ha fun t ht => ?_
  have fits : b2n sigdet % 2 ^ SL_LSTAT.SIGDET.width = b2n sigdet := by cases sigdet <;> rfl
  cases locked with
  | true =>
    by_cases raw : s.get SL_LCFG.PCS l < 3 <;>
      simp +decide [ht.get, hd, hr, raw, fits, State.get_put_ne, State.get_put_self]
  | false =>
    by_cases was : s.get SL_LSTAT.CDR l = 1 <;> by_cases on : s.get SL_LCFG.EN l = 1 <;>
      by_cases busy : s.get SL_LEYE.BUSY l = 1 <;>
      simp +decide [ht.get, hd, hr, was, on, busy, fits, State.flag, State.laneEvent_get, State.eyeEnd,
        State.get_put_ne, State.get_put_self]

theorem alignChange_shows (aligned : Bool) (hc : s.get SL_LSTAT.CDR l = 1) (hp : 3 ≤ s.get SL_LCFG.PCS l) :
    Answers (.alignChange l aligned) s fun t => t.get SL_LSTAT.ALIGNED l = b2n aligned := by
  refine answers_live_delivers (exec_alignChange l aligned s) ha fun t ht => ?_
  have fits : b2n aligned % 2 ^ SL_LSTAT.ALIGNED.width = b2n aligned := by cases aligned <;> rfl
  by_cases was : (s.get SL_LSTAT.ALIGNED l = 1 ∧ aligned = false) <;>
    simp +decide [ht.get, hd, hr, hc, hp, fits, was, State.laneAlign, State.flag, State.laneEvent_get, State.get_put_ne,
      State.get_put_self]

end Receiver

/-! Lanes: reset and mark. -/

section Control

variable {l : Fin 40} (hw : Writes m (0x7404 + 0x40 * l) s) (ha : s.laneAbsent l = false)
include hw ha

theorem laneRst_clears (hp : s.lanePorts l = []) : Answers (.laneRst m l) s fun t =>
    t.get LANE_TXW l = 0 ∧ t.get LANE_RXW l = 0 ∧ t.get SL_LCTL.MARK l = 0 := by
  refine answers_write_delivers (exec_laneRst m l s) hw fun t ht => ?_
  have ports : (s.put SL_LCTL.MARK (bits 1 1 1) l).lanePorts l = [] := hp ▸ State.lanePorts_congr _ fun f hf x => by
    simp only [List.mem_cons, List.not_mem_nil, or_false] at hf
    rcases hf with rfl | rfl | rfl <;> simp +decide [State.get_put_ne]
  simp +decide [ht.get, wrLctl, ha, ports, State.pcsReset, State.get_put_ne, State.get_put_self]

theorem laneMark_sets : Answers (.laneMark m l) s fun t =>
    t.get SL_LCTL.MARK l = 1 ∧ t.get LANE_TXW l = s.get LANE_TXW l := by
  refine answers_write_delivers (exec_laneMark m l s) hw fun t ht => ?_
  simp +decide [ht.get, wrLctl, ha, State.get_put_ne, State.get_put_self]

end Control
end Commands

/-- Settles O27: one lemma per command, each reading the fields that its effect writes. -/
theorem quadPllsAndLanesTakeEffect : Obligations.QuadPllsAndLanesTakeEffect := by
  unfold Obligations.QuadPllsAndLanesTakeEffect
  refine fun s ha => ⟨?_, ?_, ?_, ?_, ?_⟩
  · exact fun m q w hw hg => ⟨qpllGo_starts hw hg, qpllGo_refused hw hg⟩
  · exact fun hd q => ⟨fun hq hx => ⟨qpllLocked_locks ha hq hd, qpllLocked_slews ha hq hd hx⟩,
      qpllLockTimeout_faults ha, qpllLost_holds ha hd⟩
  · intro m l w hw hl
    exact ⟨fun hn hb hp hh => ⟨laneEnable_enables hw hl hn hb hp hh, laneEnable_refused hw hl hn hb hp hh⟩,
      fun hn hb => ⟨laneEnable_disables hw hn hb, laneEnable_busy hw hn hb⟩⟩
  · exact fun hd l hr => ⟨cdrLockChange_shows ha hd hr, alignChange_shows ha hd hr⟩
  · exact fun m l hw hl => ⟨laneRst_clears hw hl, laneMark_sets hw hl⟩

end Sys2Proof.Machine
end

section
/-! O28: lane tests, PRBS checks and eye scans (R435, R452, R453, R455). -/

namespace Sys2Proof.Machine

/-- A register of which no field is locked and none belongs to the owner. -/
def Reg.plain (r : Reg) : Bool := r.fields.all fun f => f.acc ≠ .rwl && f.acc ≠ .rwo

theorem Reg.plain_iff {r : Reg} : r.plain = true ↔ ∀ f ∈ r.fields, f.acc ≠ .rwl ∧ f.acc ≠ .rwo := by
  simp [Reg.plain]

/-- A write of a register leaves the fields beside its own. -/
@[simp] theorem State.writeReg_get_beside (s : State) (m : Master) (r : Reg) {g : Field} {i j : Nat} (w : Nat)
    (own : Bool) (hr : r.plain = true) (hg : (r.fields.all fun f => g.beside f) = true) :
    (s.writeReg m r i w own).get g j = s.get g j :=
  s.writeReg_get m r w own (Reg.plain_iff.mp hr) fun f hf same =>
    (Field.key_beside (List.all_eq_true.mp hg f hf)).mp same

/-- A write of one of the first n elements of a register leaves the fields above them. -/
@[simp] theorem State.writeReg_get_above (s : State) (m : Master) (r : Reg) {g : Field} {n : Nat} {i : Fin n} {j : Nat}
    (w : Nat) (own : Bool) (hr : r.plain = true) (hg : (r.fields.all fun f => f.below n g) = true) :
    (s.writeReg m r i w own).get g j = s.get g j :=
  s.writeReg_get m r w own (Reg.plain_iff.mp hr) fun f hf same =>
    (Field.key_above_fin j i (List.all_eq_true.mp hg f hf)).mp same

theorem State.mem_out_emit (s : State) (k : OutKind) (a : List Nat) : ⟨k, a⟩ ∈ (s.emit k a).out := List.mem_cons_self

section Commands

variable {s : State} {m : Master} {l : Fin 40}

/-! Tests. -/

section Test

variable (hw : Writes m (0x7420 + 0x40 * l) s) (ha : s.laneAbsent l = false)
include hw ha

section Free

variable (hx : s.laneOwner l ≠ owPCIE) (hh : s.laneOwner l ≠ owHOKUOX) (hp : s.lanePorts l = [])
include hx hh hp

theorem laneTestWrite_stores (w : Word) : Answers (.laneTestWrite m l w) s fun t =>
    ∀ f ∈ [SL_LTEST.LOOP, SL_LTEST.PRBS_TX, SL_LTEST.PRBS_RX],
      t.get f l = (s.writeReg m SL_LTEST.reg l w.toNat).get f l := by
  refine answers_write_delivers (exec_laneTestWrite m l w s) hw fun t ht => ?_
  simp only [List.forall_mem_cons, List.not_mem_nil, IsEmpty.forall_iff, implies_true, and_true]
  by_cases changed : (s.writeReg m SL_LTEST.reg l w.toNat).get SL_LTEST.PRBS_RX l ≠ s.get SL_LTEST.PRBS_RX l <;>
    by_cases inj : bit w.toNat 9 = true <;>
    simp +decide [ht.get, wrLtest, ha, hx, hh, hp, changed, inj, State.prbsRestart, State.get_put_ne]

theorem inj_inverts : Answers (.inj m l) s fun t => ⟨.serial, [0x100 + l.val, 1]⟩ ∈ t.out := by
  refine answers_write_delivers (exec_inj m l s) hw fun t ht => ht.mem_out ?_
  simp [wrLtest, ha, hx, hh, hp, bit_setBit, State.mem_out_emit]

end Free

theorem laneTestWrite_owned (w : Word) (hh : s.laneOwner l = owHOKUOX)
    (on : (let u := s.writeReg m SL_LTEST.reg l w.toNat
      u.get SL_LTEST.LOOP l + u.get SL_LTEST.PRBS_TX l + u.get SL_LTEST.PRBS_RX l ≠ 0)) :
    Answers (.laneTestWrite m l w) s fun t => t.get GH_REFUSE.CODE = Rc.SL_LANE_OWNED.num % 2 ^ 16 ∧
      t.get SL_LTEST.LOOP l = s.get SL_LTEST.LOOP l ∧ t.get SL_LTEST.PRBS_RX l = s.get SL_LTEST.PRBS_RX l := by
  refine answers_write_delivers (exec_laneTestWrite m l w s) hw fun t ht => ?_
  have effect : wrLtest m l w.toNat s = s.refuse Rc.SL_LANE_OWNED l m (0x7420 + 0x40 * l) := by
    simp only [wrLtest, ha, hh, Bool.or_true, decide_true, if_true, Bool.false_eq_true, if_false]
    exact if_pos on
  rw [effect] at ht
  simp +decide [ht.get, State.refuse_code]

end Test

/-! The checker. -/

theorem prbsCheck_takes (ha : Awake s) (line : BitVec 64) (hx : s.get SL_LTEST.PRBS_RX l ≠ 0)
    (hn : s.get SL_LCFG.EN l = 1) (hr : s.rxRuns l = true) (hd : s.mode ≠ mDORMANT) :
    exec (.prbsCheck l line) s = run s ((List.range 64).foldl (fun u i => u.prbsBit l (bit line.toNat i)) s) := by
  rw [exec_live (exec_prbsCheck l line s) ha]
  simp [hx, hn, hr, hd, State.flag]

/-- What the sequence of the checker has next. -/
def State.prbsWant (s : State) (l : Nat) : Bool :=
  let t := prbsTaps (s.get SL_LTEST.PRBS_RX l)
  bit (s.get PRBS_REG l) (t.1 - 1) != bit (s.get PRBS_REG l) (t.2 - 1)

section Bit

variable {b : Bool}

theorem State.prbsBit_counts (hl : s.get SL_LTEST.PRBS_LOCK l = 1) (hb : b ≠ s.prbsWant l) :
    (s.prbsBit l b).get SL_LPRBSERR.COUNT l =
      min (s.get SL_LPRBSERR.COUNT l + 1) (2 ^ SL_LPRBSERR.COUNT.width - 1) := by
  have wrong : (b != s.prbsWant l) = true := bne_iff_ne.mpr hb
  have count (u : State) : (u.laneEvent SL_LPRBSERR.COUNT SL_IRQ.PRBS Rc.SL_PRBS_ERR l 0).get SL_LPRBSERR.COUNT l =
      min (u.get SL_LPRBSERR.COUNT l + 1) (2 ^ SL_LPRBSERR.COUNT.width - 1) := by
    unfold State.laneEvent
    dsimp only
    split <;> simp +decide [State.raise_get, State.get_put_ne, State.get_count_self]
  unfold State.prbsWant at wrong
  simp only [State.prbsBit, wrong, State.flag, hl, decide_true, if_true]
  split <;> simp +decide [count, State.get_put_ne]

section Seek

variable (hl : s.get SL_LTEST.PRBS_LOCK l = 0)
include hl

theorem State.prbsBit_locks (hg : s.get PRBS_GOOD l = 63) (hb : b = s.prbsWant l) :
    (s.prbsBit l b).get SL_LTEST.PRBS_LOCK l = 1 := by
  have right : (b != s.prbsWant l) = false := bne_eq_false_iff_eq.mpr hb
  unfold State.prbsWant at right
  simp +decide [State.prbsBit, right, State.flag, hl, hg, State.get_put_ne, State.get_put_self]

theorem State.prbsBit_misses (hb : b ≠ s.prbsWant l) :
    (s.prbsBit l b).get PRBS_GOOD l = 0 ∧ (s.prbsBit l b).get SL_LTEST.PRBS_LOCK l = 0 := by
  have wrong : (b != s.prbsWant l) = true := bne_iff_ne.mpr hb
  unfold State.prbsWant at wrong
  simp +decide [State.prbsBit, wrong, State.flag, hl, State.get_put_ne, State.get_put_self]

end Seek
end Bit

/-! Eye scans. -/

section Eye

variable {w : Word} (hw : Writes m (0x7428 + 0x40 * l) s) (ha : s.laneAbsent l = false) (hb : s.get SL_LEYE.BUSY l = 0)
include hw ha hb

theorem eyeScanGo_starts (hc : s.get SL_LSTAT.CDR l = 1) : Answers (.eyeScanGo m l w) s fun t =>
    t.get SL_LEYE.BUSY l = 1 ∧ t.get SL_LEYE.DONE l = 0 := by
  refine answers_write_delivers (exec_eyeScanGo m l w s) hw fun t ht => ?_
  simp +decide [ht.get, wrLeye, ha, hb, hc, bit_setBit, State.flag, State.get_put_ne, State.get_put_self]

theorem eyeScanGo_ends (hc : s.get SL_LSTAT.CDR l = 0) : Answers (.eyeScanGo m l w) s fun t =>
    t.get SL_LEYE.BUSY l = 0 ∧ t.get SL_LEYE.DONE l = 1 ∧ t.get SL_LEYERES.COUNT l = 0xFFFFFFFF := by
  refine answers_write_delivers (exec_eyeScanGo m l w s) hw fun t ht => ?_
  simp +decide [ht.get, wrLeye, ha, hb, hc, bit_setBit, State.flag, State.eyeEnd, State.get_put_ne, State.get_put_self]

end Eye

theorem eyeScanDone_shows (ha : Awake s) (count : BitVec 32) (hb : s.get SL_LEYE.BUSY l = 1) :
    Answers (.eyeScanDone l count) s fun t =>
      t.get SL_LEYERES.COUNT l = count.toNat ∧ t.get SL_LEYE.BUSY l = 0 ∧ t.get SL_LEYE.DONE l = 1 := by
  refine answers_live_delivers (exec_eyeScanDone l count s) ha fun t ht => ?_
  have fits : count.toNat % 2 ^ SL_LEYERES.COUNT.width = count.toNat := Nat.mod_eq_of_lt count.isLt
  simp +decide [ht.get, hb, fits, State.flag, State.eyeEnd, State.get_put_ne, State.get_put_self]

end Commands

/-- Settles O28: one lemma per command; a checker's bit is judged against `State.prbsWant`. -/
theorem laneTestsAndEyeScansAct : Obligations.LaneTestsAndEyeScansAct := by
  unfold Obligations.LaneTestsAndEyeScansAct
  refine fun s ha => ⟨?_, ?_, ?_, ?_, ?_⟩
  · exact fun m l hw hl => ⟨fun hx hh hp => ⟨laneTestWrite_stores hw hl hx hh hp, inj_inverts hw hl hx hh hp⟩,
      laneTestWrite_owned hw hl⟩
  · exact fun l line hx hn hr hd => prbsCheck_takes ha line hx hn hr hd
  · exact fun l b => ⟨State.prbsBit_counts, State.prbsBit_locks, State.prbsBit_misses⟩
  · exact fun m l w hw hl hb => ⟨eyeScanGo_starts hw hl hb, eyeScanGo_ends hw hl hb⟩
  · exact fun l count hb => eyeScanDone_shows ha count hb

end Sys2Proof.Machine
end

section
/-! O53: the log's ring and its cursors (R796 to R808). -/

namespace Sys2Proof.Machine

variable {s : State} {m : Master}

theorem State.orBit_keeps_bit {f : Field} {n i k : Nat} (hk : k < f.width) (h : bit (s.get f i) k = true) :
    bit ((s.orBit f n i).get f i) k = true := by
  simp [State.bit_orBit, hk, h]

theorem State.orBit_sets_bit {f : Field} {n i : Nat} (hn : n < f.width) : bit ((s.orBit f n i).get f i) n = true := by
  simp [State.bit_orBit, hn]

/-! The tick. -/

theorem State.logRoom_idle (h : s.get DROP_EPISODE = 0) : s.logRoom = s := by simp [State.logRoom, h]

theorem State.logRoom_get {g : Field} {j : Nat} (h1 : g.key j ≠ EV_DROP.COUNT.key 0) (h2 : g.key j ≠ DROP_EPISODE.key 0) :
    s.logRoom.get g j = s.get g j := by
  unfold State.logRoom
  dsimp only
  split <;> simp [State.raise_get, State.get_put_ne, h1, h2]

theorem State.logRoom_ring (s : State) : s.logRoom.ring = s.ring := by
  unfold State.logRoom
  dsimp only
  split <;> simp

/-- The state in which a record is written: a full ring has given up its oldest record. -/
def State.logSpill (s : State) : State :=
  if s.logHeld = 4096 then s.overrun ((s.get EV_HEAD.SEQ + 2 ^ 32 - 4096) % 2 ^ 32) else s

/-- What the overrun of cursor c writes (R807). -/
def overrunCells (c : Nat) : List Nat :=
  [EV_CUR.SEQ.key c, EV_LOST.COUNT.key c, EV_IRQ.OVR.key 0, EV_DROP.COUNT.key 0, DROP_EPISODE.key 0]

/-- One cursor's part of an overrun. -/
def State.overrunAt (s : State) (old c : Nat) : State :=
  if s.get EV_CUR.SEQ c = old then
    let v := (s.put EV_CUR.SEQ (old + 1) c).count EV_LOST.COUNT 1 c
    if bit (s.get EV_IRQ.OVR) c then v else (v.orBit EV_IRQ.OVR c).raise Rc.GH_LOG_OVERRUN c
  else s

theorem State.overrun_eq (s : State) (old : Nat) :
    s.overrun old = (List.range 4).foldl (fun u c => u.overrunAt old c) s := rfl

theorem State.overrunAt_get {old c j : Nat} {g : Field} (h : g.key j ∉ overrunCells c) :
    (s.overrunAt old c).get g j = s.get g j := by
  simp only [overrunCells, List.mem_cons, List.not_mem_nil, or_false, not_or] at h
  obtain ⟨hc, hl, ho, h1, h2⟩ := h
  unfold State.overrunAt
  dsimp only
  repeat' split
  all_goals simp [State.raise_get, State.get_orBit_ne, State.get_put_ne, State.get_count_ne, *]

theorem State.overrunAt_ring (s : State) (old c : Nat) : (s.overrunAt old c).ring = s.ring := by
  unfold State.overrunAt
  dsimp only
  repeat' split
  all_goals simp

theorem State.logSpill_ring (s : State) : s.logSpill.ring = s.ring := by
  unfold State.logSpill
  split
  · exact foldl_keeps (fun v : State => v.ring = s.ring) _ (fun v c h => (v.overrunAt_ring _ c).trans h) _ s rfl
  · rfl

theorem State.logSpill_get {g : Field} {j : Nat} (h : ∀ c, g.key j ∉ overrunCells c) :
    s.logSpill.get g j = s.get g j := by
  unfold State.logSpill
  split
  · exact foldl_keeps (fun v : State => v.get g j = s.get g j) _
      (fun v c hv => (State.overrunAt_get (h c)).trans hv) _ s rfl
  · rfl

/-- A cursor moved on over a record, with its loss counted and shown, from s to u (R807). -/
def State.MovedOn (s : State) (c : Nat) (u : State) : Prop :=
  u.get EV_CUR.SEQ c = (s.get EV_CUR.SEQ c + 1) % 2 ^ 32 ∧
    u.get EV_LOST.COUNT c = min (s.get EV_LOST.COUNT c + 1) (2 ^ EV_LOST.COUNT.width - 1) ∧
    bit (u.get EV_IRQ.OVR) c = true

theorem State.logSpill_moves (c : Fin 4) (full : s.logHeld = 4096)
    (at_ : s.get EV_CUR.SEQ c = (s.get EV_HEAD.SEQ + 2 ^ 32 - 4096) % 2 ^ 32) : s.MovedOn c s.logSpill := by
  have apart (x : Nat) (hr : x ∈ List.range 4) (hx : x ≠ c) (f : Field) (hf : f ∈ [EV_CUR.SEQ, EV_LOST.COUNT]) : f.key c ∉ overrunCells x := by
    simp only [List.mem_cons, List.not_mem_nil, or_false, List.mem_range] at hf hr
    rcases hf with rfl | rfl <;>
      simp only [overrunCells, List.mem_cons, List.not_mem_nil, or_false, EV_CUR.SEQ, EV_LOST.COUNT, EV_IRQ.OVR,
        EV_DROP.COUNT, DROP_EPISODE, Field.key] <;> omega
  have fits : c.val < EV_IRQ.OVR.width := c.isLt
  have wide : EV_CUR.SEQ.width = 32 := rfl
  rw [State.logSpill, if_pos full, State.overrun_eq, ← at_]
  refine foldl_visit (a := c.val)
    (before := fun u : State => u.get EV_CUR.SEQ c = s.get EV_CUR.SEQ c ∧ u.get EV_LOST.COUNT c = s.get EV_LOST.COUNT c)
    (after := s.MovedOn c)
    List.nodup_range (List.mem_range.mpr c.isLt) (fun u x hr hx ⟨cur, lost⟩ => ?_) (fun u ⟨cur, lost⟩ => ?_)
    (fun u x hr hx ⟨cur, lost, shown⟩ => ?_) ⟨rfl, rfl⟩
  · exact ⟨(State.overrunAt_get (apart x hr hx _ (by simp))).trans cur,
      (State.overrunAt_get (apart x hr hx _ (by simp))).trans lost⟩
  · by_cases known : bit (u.get EV_IRQ.OVR) c = true <;>
      simp +decide [State.MovedOn, State.overrunAt, cur, lost, known, State.raise_get, State.get_orBit_ne, State.get_put_ne,
        State.get_put_self, State.get_count_ne, State.get_count_self, State.bit_orBit, fits, wide]
  · refine ⟨(State.overrunAt_get (apart x hr hx _ (by simp))).trans cur,
      (State.overrunAt_get (apart x hr hx _ (by simp))).trans lost, ?_⟩
    obtain ⟨x, rfl⟩ : ∃ y : Fin 4, y.val = x := ⟨⟨x, List.mem_range.mp hr⟩, rfl⟩
    unfold State.overrunAt
    dsimp only
    repeat' split
    all_goals simp +decide [State.raise_get, State.get_put_ne, State.get_count_ne, State.bit_orBit, shown, fits]

/-- The NEW bits of a record (R808). -/
def State.logNew (s : State) (r : LogRec) : State :=
  (List.range 4).foldl (fun u c => if u.logThr c ≤ r.sev then u.orBit EV_IRQ.NEW c else u) s

/-- The log with a record of severity n at the head of its ring, which is l then. -/
def State.logHead (s : State) (l : List LogRec) (n : Nat) : State :=
  let s : State := { s with ring := l }
  let s := s.put EV_HEAD.SEQ (s.get EV_HEAD.SEQ + 1)
  let s := s.put EV_TAIL.SEQ s.logTail
  if 3 ≤ n then s.put BV_ALERT.FAULT_LOG 1 else s

/-- The ring with a record at its head. -/
def State.ringOn (s : State) (r : LogRec) : List LogRec := r :: s.ring.take 4095

theorem State.logWrite_eq (s : State) (r : LogRec) :
    s.logWrite r = (s.logSpill.logHead (s.logSpill.ringOn r) r.sev).logNew r := by
  by_cases full : s.logHeld = 4096
  · have spilt : s.logSpill = s.overrun ((s.get EV_HEAD.SEQ + 2 ^ 32 - 4096) % 2 ^ 32) := if_pos full
    unfold State.logWrite
    rw [spilt, if_pos full]
    rfl
  · have spilt : s.logSpill = s := if_neg full
    unfold State.logWrite
    rw [spilt, if_neg full]
    rfl

theorem State.logHead_ring (s : State) (l : List LogRec) (n : Nat) : (s.logHead l n).ring = l := by
  unfold State.logHead
  dsimp only
  split <;> simp only [State.put_ring]

theorem State.logHead_intake (s : State) (l : List LogRec) (n : Nat) : (s.logHead l n).intake = s.intake := by
  unfold State.logHead
  dsimp only
  have shown (u : State) (a b : Nat) : ((u.put EV_HEAD.SEQ a).put EV_TAIL.SEQ b).intake = u.intake :=
    (State.put_intake ..).trans (State.put_intake ..)
  split
  · exact (State.put_intake ..).trans (shown ..)
  · exact shown ..

theorem State.logHead_get (l : List LogRec) (n : Nat) {g : Field} {j : Nat}
    (h : g.key j ∉ [EV_HEAD.SEQ.key 0, EV_TAIL.SEQ.key 0, BV_ALERT.FAULT_LOG.key 0]) :
    (s.logHead l n).get g j = s.get g j := by
  simp only [List.mem_cons, List.not_mem_nil, or_false, not_or] at h
  obtain ⟨head, tail, fault⟩ := h
  unfold State.logHead
  dsimp only
  split <;> simp [State.get_put_ne, head, tail, fault] <;> rfl

theorem State.logNew_ring (s : State) (r : LogRec) : (s.logNew r).ring = s.ring :=
  foldl_keeps (fun v : State => v.ring = s.ring) _ (fun v c h => by split <;> simp [h]) _ s rfl

theorem State.logNew_get (r : LogRec) {g : Field} {j : Nat} (h : g.key j ≠ EV_IRQ.NEW.key 0) :
    (s.logNew r).get g j = s.get g j :=
  foldl_keeps (fun v : State => v.get g j = s.get g j) _
    (fun v c hv => by split <;> simp [State.get_orBit_ne, h, hv]) _ s rfl

/-- No threshold changes on the way to the NEW bits. -/
theorem State.logThr_eq (s : State) (c : Nat) :
    s.logThr c = s.get ([EV_THR.THR0, EV_THR.THR1, EV_THR.THR2].getD c EV_THR.THR3) := by
  match c with
  | 0 | 1 | 2 | _ + 3 => rfl

/-- A cursor whose threshold a record reaches shows it (R808). -/
theorem State.logNew_shows (r : LogRec) {c : Nat} (hc : c < 4) (h : s.logThr c ≤ r.sev) :
    bit ((s.logNew r).get EV_IRQ.NEW) c = true := by
  have keeps (u : State) (x : Nat) (hu : u.logThr c ≤ r.sev) : (u.orBit EV_IRQ.NEW x).logThr c ≤ r.sev := by
    rw [State.logThr_eq] at hu ⊢
    rwa [State.get_orBit_ne]
    match c with
    | 0 | 1 | 2 => decide
    | _ + 3 => exact (by decide : EV_THR.THR3.key 0 ≠ EV_IRQ.NEW.key 0)
  refine foldl_visit (before := fun u : State => u.logThr c ≤ r.sev)
    (after := fun u : State => bit (u.get EV_IRQ.NEW) c = true) List.nodup_range (List.mem_range.mpr hc)
    (fun u x _ _ hu => ?_) (fun u hu => ?_) (fun u x _ _ hu => ?_) h
  · split
    · exact keeps u x hu
    · exact hu
  · rw [if_pos hu]
    exact State.orBit_sets_bit hc
  · split
    · exact State.orBit_keeps_bit hc hu
    · exact hu

/-- What a tick that has a record leads to. -/
def State.logTicked (s : State) (r : LogRec) (rest : List LogRec) : State :=
  (({ s with intake := rest } : State).logWrite r).logRoom

theorem State.logTicked_get (r : LogRec) (rest : List LogRec) {g : Field} {j : Nat}
    (h : g.key j ∉ [EV_DROP.COUNT.key 0, DROP_EPISODE.key 0, EV_IRQ.NEW.key 0, EV_HEAD.SEQ.key 0, EV_TAIL.SEQ.key 0,
      BV_ALERT.FAULT_LOG.key 0]) :
    (s.logTicked r rest).get g j = ({ s with intake := rest } : State).logSpill.get g j := by
  simp only [List.mem_cons, List.not_mem_nil, or_false, not_or] at h
  obtain ⟨drop, episode, new, head⟩ := h
  rw [State.logTicked, State.logWrite_eq, State.logRoom_get drop episode, State.logNew_get r new,
    State.logHead_get _ _ (by simpa using head)]

theorem State.logTicked_ring (s : State) (r : LogRec) (rest : List LogRec) :
    (s.logTicked r rest).ring = r :: s.ring.take 4095 := by
  rw [State.logTicked, State.logRoom_ring, State.logWrite_eq, State.logNew_ring, State.logHead_ring,
    State.ringOn, State.logSpill_ring]

theorem State.logTicked_head (s : State) (r : LogRec) (rest : List LogRec) :
    (s.logTicked r rest).get EV_HEAD.SEQ = (s.get EV_HEAD.SEQ + 1) % 2 ^ 32 := by
  have spilt : ({ s with intake := rest } : State).logSpill.get EV_HEAD.SEQ = s.get EV_HEAD.SEQ :=
    State.logSpill_get fun c => by
      simp only [overrunCells, List.mem_cons, List.not_mem_nil, or_false, EV_CUR.SEQ, EV_LOST.COUNT, EV_IRQ.OVR,
        EV_DROP.COUNT, DROP_EPISODE, EV_HEAD.SEQ, Field.key]
      omega
  rw [State.logTicked, State.logRoom_get (by decide) (by decide), State.logWrite_eq, State.logNew_get _ (by decide),
    ← spilt]
  unfold State.logHead
  dsimp only
  split <;> simp +decide [State.get_put_ne, State.get_put_self] <;> rfl

theorem State.logSpill_logThr (s : State) (c : Nat) : s.logSpill.logThr c = s.logThr c := by
  rw [State.logThr_eq, State.logThr_eq]
  refine State.logSpill_get fun x => ?_
  match c with
  | 0 | 1 | 2 | _ + 3 =>
    simp [overrunCells, EV_CUR.SEQ, EV_LOST.COUNT, EV_IRQ.OVR, EV_DROP.COUNT, DROP_EPISODE, EV_THR.THR0, EV_THR.THR1,
      EV_THR.THR2, EV_THR.THR3, Field.key]; omega

theorem State.logHead_logThr (s : State) (l : List LogRec) (n c : Nat) : (s.logHead l n).logThr c = s.logThr c := by
  rw [State.logThr_eq, State.logThr_eq]
  refine State.logHead_get l n ?_
  match c with
  | 0 | 1 | 2 => decide
  | _ + 3 => exact (by decide : EV_THR.THR3.key 0 ∉ [EV_HEAD.SEQ.key 0, EV_TAIL.SEQ.key 0, BV_ALERT.FAULT_LOG.key 0])

theorem State.logTicked_shows (r : LogRec) (rest : List LogRec) {c : Nat} (hc : c < 4) (h : s.logThr c ≤ r.sev) :
    bit ((s.logTicked r rest).get EV_IRQ.NEW) c = true := by
  rw [State.logTicked, State.logRoom_get (by decide) (by decide), State.logWrite_eq]
  refine State.logNew_shows r hc ?_
  rwa [State.logHead_logThr, State.logSpill_logThr]

theorem State.logNew_intake (s : State) (r : LogRec) : (s.logNew r).intake = s.intake :=
  foldl_keeps (fun v : State => v.intake = s.intake) _ (fun v c h => by split <;> simp [h]) _ s rfl

/-- With room in the ring and no loss to tell, a tick moves the record alone. -/
theorem State.logTicked_intake (r : LogRec) (rest : List LogRec) (room : s.ring.length < 4096)
    (none : s.get DROP_EPISODE = 0) : (s.logTicked r rest).intake = rest := by
  have spare : ({ s with intake := rest } : State).logSpill = { s with intake := rest } := by
    have held : ({ s with intake := rest } : State).logHeld ≠ 4096 := Nat.ne_of_lt room
    rw [State.logSpill, if_neg held]
  have quiet : (({ s with intake := rest } : State).logWrite r).get DROP_EPISODE = 0 := by
    rw [State.logWrite_eq, State.logNew_get r (by decide), State.logHead_get _ _ (by decide), spare]
    exact none
  rw [State.logTicked, State.logRoom_idle quiet, State.logWrite_eq, State.logNew_intake, State.logHead_intake, spare]

theorem State.logTicked_cursor (r : LogRec) (rest : List LogRec) (c : Fin 4) {f : Field}
    (hf : f ∈ [EV_CUR.SEQ, EV_LOST.COUNT]) :
    (s.logTicked r rest).get f c = ({ s with intake := rest } : State).logSpill.get f c := by
  refine State.logTicked_get r rest ?_
  simp only [List.mem_cons, List.not_mem_nil, or_false] at hf
  rcases hf with rfl | rfl <;> simp +decide

section Tick

variable (ha : Awake s)
include ha

theorem logWriteTick_asleep (hd : s.mode = mDORMANT) : Answers .logWriteTick s fun t => s.Frame t [] := by
  refine answers_live_delivers (exec_logWriteTick s) ha fun t ht => ht.frame ?_
  rw [if_pos hd]
  exact s.frame_refl []

variable (hd : s.mode ≠ mDORMANT)
include hd

theorem logWriteTick_idle (hi : s.intake = []) (hn : s.get DROP_EPISODE = 0) :
    Answers .logWriteTick s fun t => s.Frame t [] := by
  refine answers_live_delivers (exec_logWriteTick s) ha fun t ht => ht.frame ?_
  simp only [if_neg hd, hi]
  exact (State.logRoom_idle hn).symm ▸ s.frame_refl []

theorem logWriteTick_writes {r : LogRec} {rest : List LogRec} (hi : s.intake = r :: rest) :
    Answers .logWriteTick s fun t =>
      t.ring = r :: s.ring.take 4095 ∧ t.get EV_HEAD.SEQ = (s.get EV_HEAD.SEQ + 1) % 2 ^ 32 ∧
      (∀ c, c < 4 → s.logThr c ≤ r.sev → bit (t.get EV_IRQ.NEW) c = true) ∧
      (s.ring.length < 4096 → s.get DROP_EPISODE = 0 → t.intake = rest ∧
        ∀ c : Fin 4, t.get EV_CUR.SEQ c = s.get EV_CUR.SEQ c) ∧
      (s.ring.length = 4096 → ∀ c : Fin 4, s.get EV_CUR.SEQ c = (s.get EV_HEAD.SEQ + 2 ^ 32 - 4096) % 2 ^ 32 →
        s.MovedOn c t) := by
  refine answers_live_delivers (exec_logWriteTick s) ha fun t ht => ?_
  rw [if_neg hd, hi] at ht
  change (s.logTicked r rest).Delivers t at ht
  have cursor (c : Fin 4) : t.get EV_CUR.SEQ c = ({ s with intake := rest } : State).logSpill.get EV_CUR.SEQ c :=
    (ht.get (by simp +decide)).trans (State.logTicked_cursor r rest c (by simp))
  have lost (c : Fin 4) : t.get EV_LOST.COUNT c = ({ s with intake := rest } : State).logSpill.get EV_LOST.COUNT c :=
    (ht.get (by simp +decide)).trans (State.logTicked_cursor r rest c (by simp))
  have shown : t.get EV_IRQ.OVR = ({ s with intake := rest } : State).logSpill.get EV_IRQ.OVR :=
    (ht.get (by decide)).trans (State.logTicked_get r rest (by decide))
  refine ⟨ht.ring.trans (s.logTicked_ring r rest), (ht.get (by decide)).trans (s.logTicked_head r rest),
    fun c hc h => ?_, fun room none => ⟨ht.intake.trans (State.logTicked_intake r rest room none), fun c => ?_⟩,
    fun full c at_ => ?_⟩
  · rw [ht.get (by decide)]
    exact State.logTicked_shows r rest hc h
  · rw [cursor, State.logSpill, if_neg (show ({ s with intake := rest } : State).logHeld ≠ 4096 from Nat.ne_of_lt room)]
    rfl
  · rw [State.MovedOn, cursor, lost, shown]
    exact State.logSpill_moves (s := { s with intake := rest }) c full at_

end Tick

/-! Reads through a cursor. -/

theorem cursorOf_lt (m : Master) : cursorOf m < 4 := by
  cases m <;> decide

/-- The state with the seven other words latched. -/
def State.recLatched (s : State) (m : Master) (ws : List Nat) : State :=
  (List.range 7).foldl (fun u k => u.latchHigh m (0x38054 + 4 * k) (ws.getD (k + 1) 0)) s

theorem State.recLatched_latched (s : State) (m : Master) (ws : List Nat) (k : Fin 7) :
    (s.recLatched m ws).latched m (0x38054 + 4 * k) 0 = ws.getD (k + 1) 0 % 2 ^ 32 := by
  refine foldl_visit (before := fun _ => True)
    (after := fun u : State => u.latched m (0x38054 + 4 * k) 0 = ws.getD (k + 1) 0 % 2 ^ 32)
    List.nodup_range (List.mem_range.mpr k.isLt) (fun _ _ _ _ _ => trivial)
    (fun u _ => u.latched_latchHigh m _ _ _) (fun u x _ hx hu => ?_) trivial
  rw [State.latched_latchHigh_ne _ _ _ _ (by omega), hu]

theorem State.recLatched_get (m : Master) (ws : List Nat) {g : Field} {j : Nat} (h : ∀ n, g.key j ≠ RD_LATCH.key n) :
    (s.recLatched m ws).get g j = s.get g j :=
  foldl_keeps (fun v : State => v.get g j = s.get g j) _
    (fun _ _ hv => (State.get_put_ne _ _ (h _)).trans hv) _ s rfl

theorem State.recLatched_ring (s : State) (m : Master) (ws : List Nat) : (s.recLatched m ws).ring = s.ring :=
  foldl_keeps (fun v : State => v.ring = s.ring) _ (fun v _ hv => (v.put_ring _ _ _).trans hv) _ s rfl

theorem State.cursorOn_ring (s : State) (c : Nat) : (s.cursorOn c).ring = s.ring := by
  unfold State.cursorOn
  split <;> rfl

theorem State.cursorOn_get (c : Nat) {g : Field} {j : Nat} (h : g.key j ≠ EV_CUR.SEQ.key c) :
    (s.cursorOn c).get g j = s.get g j := by
  unfold State.cursorOn
  split
  · rfl
  · exact State.get_put_ne _ _ h

theorem State.cursorOn_cursor (s : State) (c : Nat) : (s.cursorOn c).get EV_CUR.SEQ c =
    if s.unread c = 0 then s.get EV_CUR.SEQ c else (s.get EV_CUR.SEQ c + 1) % 2 ^ 32 := by
  unfold State.cursorOn
  split
  · rfl
  · exact State.get_put_self ..

theorem State.latched_congr {s t : State} (m : Master) (lo current : Nat)
    (h : t.get RD_LATCH (8 * (lo / 4) + m.code) = s.get RD_LATCH (8 * (lo / 4) + m.code)) :
    t.latched m lo current = s.latched m lo current := by
  rw [State.latched, h, State.latched]

/-- What a read of EV_REC0 leaves (R801). -/
def State.recRead (s : State) (m : Master) (corrupt : Bool) : State :=
  let u := s.recLatched m (s.recordAt (cursorOf m) corrupt)
  if s.peeks m then u else u.cursorOn (cursorOf m)

theorem State.cursor_key_ne (m : Master) (n : Nat) : EV_CUR.SEQ.key (cursorOf m) ≠ RD_LATCH.key n := by
  have := cursorOf_lt m
  simp only [Field.key, EV_CUR.SEQ, RD_LATCH]
  omega

theorem State.recRead_ring (s : State) (m : Master) (corrupt : Bool) : (s.recRead m corrupt).ring = s.ring := by
  unfold State.recRead
  dsimp only
  split
  · rw [State.recLatched_ring]
  · rw [State.cursorOn_ring, State.recLatched_ring]

theorem State.recRead_latched (s : State) (m : Master) (corrupt : Bool) (k : Fin 7) :
    (s.recRead m corrupt).latched m (0x38054 + 4 * k) 0 =
      (s.recordAt (cursorOf m) corrupt).getD (k + 1) 0 % 2 ^ 32 := by
  unfold State.recRead
  dsimp only
  split
  · rw [State.recLatched_latched]
  · rw [State.latched_congr m _ _ (State.cursorOn_get _ (State.cursor_key_ne m _).symm), State.recLatched_latched]

theorem State.recRead_cursor (s : State) (m : Master) (corrupt : Bool) :
    (s.recRead m corrupt).get EV_CUR.SEQ (cursorOf m) =
      if s.unread (cursorOf m) = 0 ∨ s.peeks m = true then s.get EV_CUR.SEQ (cursorOf m)
      else (s.get EV_CUR.SEQ (cursorOf m) + 1) % 2 ^ 32 := by
  have cursor (ws : List Nat) : (s.recLatched m ws).get EV_CUR.SEQ (cursorOf m) = s.get EV_CUR.SEQ (cursorOf m) :=
    State.recLatched_get m ws (State.cursor_key_ne m)
  have head (ws : List Nat) : (s.recLatched m ws).get EV_HEAD.SEQ = s.get EV_HEAD.SEQ :=
    State.recLatched_get m ws fun n => by
      simp only [Field.key, EV_HEAD.SEQ, RD_LATCH]
      omega
  have unread (ws : List Nat) : (s.recLatched m ws).unread (cursorOf m) = s.unread (cursorOf m) := by
    rw [State.unread, cursor, head, State.unread]
  unfold State.recRead
  by_cases peek : s.peeks m = true
  · simp [peek, cursor]
  · simp [peek, State.cursorOn_cursor, unread, cursor]

theorem evRec0Read_reads (corrupt : Bool) (hr : Reads m 0x38050 s) :
    let c := cursorOf m
    let ws := s.recordAt c corrupt
    Answers (.evRec0Read m corrupt) s fun t =>
      ⟨.busData, [m.code, ws.getD 0 0]⟩ ∈ t.out ∧ t.ring = s.ring ∧
      (∀ k : Fin 7, t.latched m (0x38054 + 4 * k) 0 = ws.getD (k + 1) 0 % 2 ^ 32) ∧
      t.get EV_CUR.SEQ c =
        if s.unread c = 0 ∨ s.peeks m = true then s.get EV_CUR.SEQ c else (s.get EV_CUR.SEQ c + 1) % 2 ^ 32 := by
  refine answers_read_delivers (exec_evRec0Read m corrupt s) hr fun t ht => ?_
  change (State.emit (s.recRead m corrupt) .busData _).Delivers t at ht
  have noMsi {g : Field} {j : Nat} (h : g.key j ≠ MSI_PEND.key 0) : t.get g j = (s.recRead m corrupt).get g j := ht.get h
  refine ⟨ht.mem_out (State.mem_out_emit ..), ht.ring.trans (s.recRead_ring m corrupt), fun k => ?_, ?_⟩
  · have code : m.code < 8 := by cases m <;> decide
    rw [State.latched_congr m _ _ (noMsi ?_), State.recRead_latched]
    simp only [Field.key, RD_LATCH, MSI_PEND]
    omega
  · rw [noMsi ?_, State.recRead_cursor]
    have := cursorOf_lt m
    simp only [Field.key, EV_CUR.SEQ, MSI_PEND]
    omega

/-! Writes of a cursor. -/

section Cursor

variable {c : Fin 4} {w : Word} (hw : Writes m (0x38020 + 4 * c) s)
include hw

theorem evCurWrite_moves (ho : cursorOf m = c ∨ s.asOwner m 8 = true) : Answers (.evCurWrite m c w) s fun t =>
    t.get EV_CUR.SEQ c = (if s.logHeld < (s.get EV_HEAD.SEQ + 2 ^ 32 - w.toNat) % 2 ^ 32 then s.logTail else w.toNat) ∧
      s.Frame t [EV_CUR.SEQ.key c] := by
  refine answers_write_delivers (exec_evCurWrite m c w s) hw fun t ht => ?_
  have mine : (decide (cursorOf m ≠ c) && !s.asOwner m 8) = false := by
    rcases ho with h | h <;> simp [h]
  have word : w.toNat % 2 ^ 32 = w.toNat := Nat.mod_eq_of_lt w.isLt
  unfold wrEvCur at ht
  rw [mine, word] at ht
  refine ⟨?_, ht.frame (State.Within.put .refl (by simp)).frame⟩
  rw [ht.get (by simp +decide)]
  refine (State.get_put_self ..).trans (Nat.mod_eq_of_lt ?_)
  split
  · exact Nat.mod_lt _ (Nat.two_pow_pos 32)
  · exact w.isLt

theorem evCurWrite_denied (hc : cursorOf m ≠ c) (ho : s.asOwner m 8 = false) : Answers (.evCurWrite m c w) s fun t =>
    t.get EV_CUR.SEQ c = s.get EV_CUR.SEQ c ∧ t.get GH_IRQ.DENIED = 1 := by
  refine answers_write_delivers (exec_evCurWrite m c w s) hw fun t ht => ?_
  simp +decide [ht.get, wrEvCur, hc, ho, State.writeDenied, State.raise_get, State.get_put_ne, State.get_put_self]

end Cursor

/-- Settles O53: a tick's record, the read through a cursor and the writes of a cursor, each by its own lemma. -/
theorem logIsWrittenAndReadThroughCursors : Obligations.LogIsWrittenAndReadThroughCursors := by
  unfold Obligations.LogIsWrittenAndReadThroughCursors
  refine fun s ha => ⟨logWriteTick_asleep ha, logWriteTick_idle ha, ?_, ?_, ?_⟩
  · exact fun r rest hd hi => logWriteTick_writes ha hd hi
  · exact fun m corrupt hr => evRec0Read_reads corrupt hr
  · exact fun m c w hw => ⟨evCurWrite_moves hw, evCurWrite_denied hw⟩

end Sys2Proof.Machine
end

section
/-! O39: the Lodge's peripherals (R604 to R610) and the claims of the interrupt controller (R602). -/

namespace Sys2Proof.Machine

variable {s : State} {m : Master}

/-- Lists of two families at one place are apart. -/
@[simp] theorem Fifo.key_same_place {q r : Fifo} {i : Nat} (h : q.id ≠ r.id) : (q.key i = r.key i) = False := by
  simp only [Fifo.key, eq_iff_iff, iff_false]
  omega

/-! What the FIFOs of a peripheral leave. -/

/-- The fields that show how full the FIFOs are. -/
def levelFields : List Field :=
  [LG_USTAT.TXLVL, LG_USTAT.RXLVL, LG_USTAT.RXNE, LG_USTAT.TXLOW, LG_SSTAT.TXLVL, LG_SSTAT.RXLVL, LG_SSTAT.RXNE,
    LG_ISTAT.TXLVL, LG_ISTAT.RXLVL]

theorem State.periphLevels_get (s : State) (i : Nat) {g : Field} {j : Nat}
    (h : ∀ f ∈ levelFields, ∀ n, n = i ∨ n = i - 2 ∨ n = i - 4 → g.key j ≠ f.key n) :
    (s.periphLevels i).get g j = s.get g j := by
  simp only [levelFields, List.forall_mem_cons, List.not_mem_nil, IsEmpty.forall_iff, implies_true, and_true] at h
  obtain ⟨uTx, uRx, uNe, uLow, sTx, sRx, sNe, iTx, iRx⟩ := h
  simp only [State.periphLevels]
  repeat' split
  all_goals simp [State.get_put_ne, *]

/-- The levels of the peripherals lie beside their other registers. -/
@[simp] theorem State.periphLevels_get_beside (s : State) (i : Nat) {g : Field} {j : Nat}
    (h : (levelFields.all fun f => g.beside f) = true) : (s.periphLevels i).get g j = s.get g j :=
  s.periphLevels_get i fun f hf _ _ same => (Field.key_beside (List.all_eq_true.mp h f hf)).mp same

/-- The levels of the six peripherals lie below the internal units. -/
@[simp] theorem State.periphLevels_get_above (s : State) {i : Nat} {g : Field} {j : Nat} (hi : i < 6)
    (h : (levelFields.all fun f => f.below 6 g) = true) : (s.periphLevels i).get g j = s.get g j :=
  s.periphLevels_get i fun f hf n hn same =>
    (Field.key_lt (show n < 6 by omega) (List.all_eq_true.mp h f hf)).ne' same

@[simp] theorem State.periphLevels_list (s : State) (i : Nat) (q : Fifo) (j : Nat) :
    (s.periphLevels i).list q j = s.list q j := by
  unfold State.periphLevels
  dsimp only
  repeat' split
  all_goals simp

theorem State.periphPop_nil {q : Fifo} {i : Nat} (h : s.list q i = []) : s.periphPop q i = none := by
  simp [State.periphPop, h]

theorem State.periphPop_cons {q : Fifo} {i v : Nat} {r : List Nat} (h : s.list q i = v :: r) :
    s.periphPop q i = some (v, (s.setList q r i).periphLevels i) := by
  simp [State.periphPop, h]

theorem State.periphPop_get {q : Fifo} {i v : Nat} {u : State} (hp : s.periphPop q i = some (v, u)) {g : Field} {j : Nat}
    (h : (levelFields.all fun f => g.beside f) = true) : u.get g j = s.get g j := by
  unfold State.periphPop at hp
  split at hp
  · cases hp
  · cases hp
    exact (State.periphLevels_get_beside _ i h).trans (State.setList_get ..)

theorem State.periphPush_list (s : State) (q : Fifo) (i v : Nat) :
    (s.periphPush q i v).list q i = s.list q i ++ [v] := by
  simp [State.periphPush, State.list_enq_self]

theorem State.periphPush_list_ne (s : State) {q r : Fifo} (i v : Nat) (h : r.id ≠ q.id) :
    (s.periphPush q i v).list r i = s.list r i := by
  simp [State.periphPush, State.list_enq_ne, h]

@[simp] theorem State.periphPush_get_beside (s : State) (q : Fifo) (i v : Nat) {g : Field} {j : Nat}
    (h : (levelFields.all fun f => g.beside f) = true) : (s.periphPush q i v).get g j = s.get g j :=
  (State.periphLevels_get_beside _ i h).trans (State.setList_get ..)

@[simp] theorem State.periphPush_get_above (s : State) (q : Fifo) {i : Nat} (v : Nat) {g : Field} {j : Nat} (hi : i < 6)
    (h : (levelFields.all fun f => f.below 6 g) = true) : (s.periphPush q i v).get g j = s.get g j :=
  (State.periphLevels_get_above _ hi h).trans (State.setList_get ..)

/-! Enabling (R604). -/

/-- The state in which an enable is judged: the configuration written, EN still 0. -/
def State.periphSet (s : State) (m : Master) (i w : Nat) : State :=
  (s.writeReg m (periphCfg i).1 (periphCfg i).2.2 w).put (periphCfg i).2.1 0 (periphCfg i).2.2

/-- The claim that an enable makes. -/
def State.periphWants (s : State) (i w : Nat) : (Rc × Nat) ⊕ State :=
  s.periphClaim lvLODGE i (periphReserved i w) (s.periphPins i)

/-- What an enable that has its pins leaves. -/
def State.periphStart (s : State) (i : Nat) : State :=
  let t := s.put (periphCfg i).2.1 1 (periphCfg i).2.2
  if i < 2 then
    match t.periphPop LG_TX i with
    | some (b, u) => u.put U_SHIFT (256 + b) i
    | none => t
  else t

theorem wrPeriphCfg_enable {i w : Nat} (hn : s.get (periphCfg i).2.1 (periphCfg i).2.2 = 0) (hb : bit w 0 = true) :
    wrPeriphCfg m i w s = match (s.periphSet m i w).periphWants i w with
      | .inl (rc, obj) => (s.periphSet m i w).refuseBy 0x0D rc obj (writeDetail m (periphOff i))
      | .inr t => t.periphStart i := by
  have off : s.flag (periphCfg i).2.1 (periphCfg i).2.2 = false := by simp [State.flag, hn]
  simp only [wrPeriphCfg, off, hb, Bool.not_true, Bool.false_eq_true, if_false, State.periphWants, State.periphSet,
    State.periphStart] <;> rfl

section Enable

variable {i : Fin 6} {w : Word} (hw : Writes m (periphOff i) s) (hn : s.get (periphCfg i).2.1 (periphCfg i).2.2 = 0)
  (hb : bit w.toNat 0 = true)

theorem periphStart_get (t : State) (i : Fin 6) : (t.periphStart i).get (periphCfg i).2.1 (periphCfg i).2.2 = 1 := by
  have on : (t.put (periphCfg i).2.1 1 (periphCfg i).2.2).get (periphCfg i).2.1 (periphCfg i).2.2 = 1 := by
    rw [State.get_put_self]
    fin_cases i <;> rfl
  have level : (levelFields.all fun f => (periphCfg i).2.1.beside f) = true := by fin_cases i <;> decide
  unfold State.periphStart
  dsimp only
  split
  · split
    · rw [State.get_put_ne _ _ (by fin_cases i <;> decide), State.periphPop_get ‹_› level, on]
    · exact on
  · exact on

/-- No EN of a peripheral is a cell of a refusal or of a message. -/
theorem periphEn_apart (i : Fin 6) : ∀ k ∈ cellsAt [MSI_PEND, refuseCode 0x0D, refuseObj 0x0D, GH_REFUSE.CODE,
    GH_REFUSE.OBJ, EV_DROP.COUNT, DROP_EPISODE], (periphCfg i).2.1.key (periphCfg i).2.2 ≠ k := by
  fin_cases i <;> decide

include hw hn hb

theorem peripheralEnable_enables {t : State} (hc : (s.periphSet m i w.toNat).periphWants i w.toNat = .inr t) :
    Answers (.peripheralEnable m (.host i) w) s fun v => v.get (periphCfg i).2.1 (periphCfg i).2.2 = 1 := by
  refine answers_write_delivers (exec_peripheralEnable m (.host i) w s) hw fun v hv => ?_
  rw [wrPeriphCfg_enable hn hb, hc] at hv
  rw [hv.get (periphEn_apart i _ (mem_cellsAt (by simp)))]
  exact periphStart_get t i

theorem peripheralEnable_refused {e : Rc × Nat} (hc : (s.periphSet m i w.toNat).periphWants i w.toNat = .inl e) :
    Answers (.peripheralEnable m (.host i) w) s fun v =>
      v.get (periphCfg i).2.1 (periphCfg i).2.2 = 0 ∧ v.get LG_REFUSE.CODE = e.1.num % 2 ^ 16 := by
  refine answers_write_delivers (exec_peripheralEnable m (.host i) w s) hw fun v hv => ?_
  rw [wrPeriphCfg_enable hn hb, hc] at hv
  refine ⟨?_, ?_⟩
  · have apart := periphEn_apart i
    simp only [cellsAt, List.map_cons, List.map_nil, List.forall_mem_cons, List.not_mem_nil, IsEmpty.forall_iff,
      implies_true, and_true] at apart
    obtain ⟨msi, code, obj, ghCode, ghObj, drop, episode⟩ := apart
    rw [hv.get msi, State.refuseBy_get _ _ _ _ _ code obj ghCode ghObj drop episode]
    exact (State.get_put_self ..).trans (Nat.zero_mod _)
  · rw [hv.get (by decide)]
    simp +decide [State.refuseBy, refuseCode, State.raise_get, State.get_put_ne, State.get_put_self, refuseObj]
    rfl

end Enable

/-! Hard GPIO: enabling. -/

/-- Fields above the claims of the pins are left by a claim that ends. -/
theorem State.dropClaim_get (lv : Nat) {p : Nat} (hp : p < 585) {g : Field} {j : Nat}
    (h : (IO_PCLM.CLAIMS.below 585 g && IO_PCLM.HOLDER.below 585 g) = true) :
    (s.dropClaim lv p).get g j = s.get g j := by
  simp only [Bool.and_eq_true] at h
  exact (State.get_put_ne _ _ (Field.key_lt hp h.2).ne').trans (State.get_put_ne _ _ (Field.key_lt hp h.1).ne')

theorem State.dropAll_get (lv : Nat) {pins : List Nat} (hp : ∀ p ∈ pins, p < 585) {g : Field} {j : Nat}
    (h : (IO_PCLM.CLAIMS.below 585 g && IO_PCLM.HOLDER.below 585 g) = true) :
    (s.dropAll lv pins).get g j = s.get g j := by
  refine List.foldlRecOn pins _ (motive := fun u : State => u.get g j = s.get g j) rfl fun u hu p hm => ?_
  rw [State.dropClaim_get lv (hp p hm) h, hu]

theorem State.gpioPin_lt (s : State) (g : Fin 32) : s.gpioPin g < 585 := by
  unfold State.gpioPin
  split <;> omega

theorem State.periphPins_lt (s : State) (i : Nat) : ∀ p ∈ s.periphPins i, p < 585 := by
  unfold State.periphPins
  split <;> simp only [List.mem_append, List.mem_map, List.mem_filter, List.mem_range, List.mem_cons,
    List.not_mem_nil, or_false] <;> omega

/-- Hard GPIO g is disabled. -/
def GpioOff (g : Nat) (u : State) : Prop := bit (u.get LG_GPOE.OE) g = false

theorem GpioOff.of_get {g : Nat} {t u : State} (h : GpioOff g u) (ht : t.get LG_GPOE.OE = u.get LG_GPOE.OE) :
    GpioOff g t := by
  rw [GpioOff, ht]
  exact h

theorem bit_clrBit_above (w : Nat) {i j : Nat} (hj : i < j) : bit (clrBit w i) j = bit w j := by
  by_cases h : bit w i = true
  · have odd : w / 2 ^ i % 2 = 1 := by simpa [bit] using h
    have low : clrBit w i / 2 ^ i = w / 2 ^ i - 1 := by simpa using clrBit_div (le_refl i) h
    obtain ⟨d, rfl⟩ : ∃ d, j = i + 1 + d := ⟨j - i - 1, by omega⟩
    have same (n : Nat) : n / 2 ^ (i + 1 + d) = n / 2 ^ i / 2 / 2 ^ d := by
      rw [Nat.div_div_eq_div_mul, Nat.div_div_eq_div_mul, ← mul_assoc, ← Nat.pow_succ, ← Nat.pow_add]
    have half {x : Nat} (hx : x % 2 = 1) : (x - 1) / 2 = x / 2 := by omega
    rw [bit, bit, same, same, low, half odd]
  · rw [clrBit, if_neg h]

/-- Clearing a bit sets none. -/
theorem bit_clrBit_of_off {w j : Nat} (i : Nat) (h : bit w j = false) : bit (clrBit w i) j = false := by
  rcases Nat.lt_trichotomy i j with hlt | rfl | hgt
  · rw [bit_clrBit_above w hlt, h]
  · exact bit_clrBit w i
  · rw [bit_clrBit_of_lt w hgt, h]

theorem GpioOff.andBit {g : Nat} {u : State} (h : GpioOff g u) (i : Nat) : GpioOff g (u.andBit LG_GPOE.OE i) := by
  have off := bit_clrBit_of_off i h
  rw [bit_eq_testBit] at off
  rw [GpioOff, State.get_andBit_self, bit_eq_testBit, Nat.testBit_mod_two_pow, off, Bool.and_false]

theorem GpioOff.orBit {g i : Nat} {u : State} (h : GpioOff g u) (hi : i ≠ g) : GpioOff g (u.orBit LG_GPOE.OE i) := by
  rw [GpioOff, State.bit_orBit, h]
  simp [hi]

theorem State.periphStop_gpio (s : State) (i : Fin 6) : (s.periphStop i).get LG_GPOE.OE = s.get LG_GPOE.OE := by
  fin_cases i <;> simp +decide [State.periphStop, State.get_put_ne]

/-- A pin that is taken from the Lodge disables hard GPIOs at most. -/
theorem GpioOff.periphLost {g : Nat} {u : State} (h : GpioOff g u) (p lv : Nat) : GpioOff g (u.periphLost p lv) := by
  unfold State.periphLost
  split
  · split
    · exact h
    · next i hi =>
      have hi : i < 6 := List.mem_range.mp (List.mem_of_find?_eq_some hi)
      have kept : (((u.periphPins i).foldl (fun v q => v.dropClaim lvLODGE q) u).periphStop i).get LG_GPOE.OE =
          u.get LG_GPOE.OE :=
        (State.periphStop_gpio _ ⟨i, hi⟩).trans (State.dropAll_get lvLODGE (u.periphPins_lt i) (by decide))
      dsimp only
      refine h.of_get ?_
      have apart (f : Field) (hf : f.lo % 32 ≠ 0) (n : Nat) : LG_GPOE.OE.key 0 ≠ f.key n := by
        simp only [Field.key, LG_GPOE.OE]
        omega
      split_ifs
      all_goals exact (State.get_put_ne _ _ (apart _ (by decide) _)).trans ((State.get_put_ne _ _ (by decide)).trans kept)
  · split
    · split
      · exact h
      · next i _ => exact (h.andBit i).of_get (by simp +decide [State.get_put_ne, State.get_orBit_ne])
    · exact h

theorem GpioOff.takeClaim {g : Nat} {u : State} (h : GpioOff g u) (lv : Nat) {p : Nat} (hp : p < 585) :
    GpioOff g (u.takeClaim lv p) := by
  have above {f : Field} (hf : f ∈ [IO_PCLM.CLAIMS, IO_PCLM.HOLDER, IO_PCLM.LOST]) : LG_GPOE.OE.key 0 ≠ f.key p := by
    simp only [List.mem_cons, List.not_mem_nil, or_false] at hf
    rcases hf with rfl | rfl | rfl <;> exact (Field.key_lt hp (by decide)).ne'
  have claim := above (f := IO_PCLM.CLAIMS) (by simp)
  have holder := above (f := IO_PCLM.HOLDER) (by simp)
  have lost := above (f := IO_PCLM.LOST) (by simp)
  have claimed (v : State) (hv : GpioOff g v) : GpioOff g
      (((v.orBit IO_PCLM.CLAIMS (lv - 1) p).andBit IO_PCLM.LOST (lv - 1) p).showHolder p) :=
    hv.of_get (by simp [State.showHolder, State.get_put_ne, State.get_orBit_ne, State.get_andBit_ne, claim, holder, lost])
  unfold State.takeClaim
  dsimp only
  refine claimed _ ?_
  split
  · refine GpioOff.periphLost (h.of_get ?_) p _
    simp +decide [State.dropClaim, State.showHolder, State.raise_get, State.get_put_ne, State.get_orBit_ne,
      State.get_andBit_ne, claim, holder, lost]
  · exact h

theorem GpioOff.periphClaim {g : Nat} {u t : State} (h : GpioOff g u) {lv obj : Nat} {reserved : Bool} {pins : List Nat}
    (hp : ∀ p ∈ pins, p < 585) (ht : u.periphClaim lv obj reserved pins = .inr t) : GpioOff g t := by
  unfold State.periphClaim State.claimAll at ht
  split at ht
  · cases ht
  · split at ht
    · cases ht
    · split at ht
      · cases ht
      · cases ht
        exact List.foldlRecOn pins _ (motive := GpioOff g) h fun v hv p hm => hv.takeClaim lv (hp p hm)

/-- One bit of a write of LG_GPOE (R610). -/
def State.gpioSet (u : State) (m : Master) (w g : Nat) : State :=
  let was := bit (u.get LG_GPOE.OE) g
  if was && !bit w g then (u.dropAll lvGPIO [u.gpioPin g]).andBit LG_GPOE.OE g
  else if !was && bit w g then
    match u.periphClaim lvGPIO (0x100 + g) false [u.gpioPin g] with
    | .inl (rc, obj) => u.refuseBy 0x0D rc obj (writeDetail m 0x3180C)
    | .inr t => (t.orBit LG_GPOE.OE g).andBit LG_GPLOST.LOST g
  else u

theorem wrGpoe_eq (w : Nat) : wrGpoe m w s = ((List.range 32).foldl (fun u g => u.gpioSet m w g) s).gpioOut := rfl

theorem State.gpioSet_disables (u : State) (w : Nat) (g : Fin 32) (hw : bit w g = false) :
    GpioOff g (u.gpioSet m w g) := by
  unfold State.gpioSet
  by_cases was : bit (u.get LG_GPOE.OE) g = true
  · simp only [was, hw, Bool.not_false, Bool.and_true, if_true]
    exact State.bit_andBit_self ..
  · have off : bit (u.get LG_GPOE.OE) g = false := Bool.eq_false_of_not_eq_true was
    simp only [off, hw, Bool.false_and, Bool.and_false, Bool.false_eq_true, if_false]
    exact off

theorem GpioOff.gpioSet {g : Nat} {u : State} (h : GpioOff g u) (w : Nat) (i : Fin 32) (hi : i.val ≠ g) :
    GpioOff g (u.gpioSet m w i) := by
  have pins : ∀ p ∈ [u.gpioPin i], p < 585 := by simpa using u.gpioPin_lt i
  unfold State.gpioSet
  dsimp only
  split
  · exact (h.of_get (State.dropAll_get _ pins (by decide))).andBit i
  · split
    · split
      · exact h.of_get (State.refuseBy_get _ _ _ _ _ (by decide) (by decide) (by decide) (by decide) (by decide)
          (by decide))
      · next t ht => exact ((h.periphClaim pins ht).orBit hi).of_get (State.get_andBit_ne _ _ (by decide))
    · exact h

theorem peripheralEnable_gpio (w : Word) (hw : Writes m 0x3180C s) : Answers (.peripheralEnable m .gpio w) s fun t =>
    ∀ g : Fin 32, bit (s.get LG_GPOE.OE) g = true → bit w.toNat g = false → bit (t.get LG_GPOE.OE) g = false := by
  refine answers_write_delivers (exec_peripheralEnable m .gpio w s) hw fun t ht g _ hg => ?_
  rw [ht.get (by decide), wrGpoe_eq]
  refine foldl_visit (before := fun _ => True) (after := GpioOff g) List.nodup_range (List.mem_range.mpr g.isLt)
    (fun _ _ _ _ _ => trivial) (fun u _ => u.gpioSet_disables _ g hg)
    (fun u x hx hne hu => hu.gpioSet _ ⟨x, List.mem_range.mp hx⟩ hne) trivial

/-! UART (R607). -/

/-- A byte is its own remainder. -/
theorem byte_mod (b : Nat) : (256 + b % 256) % 2 ^ U_SHIFT.width = 256 + b % 256 :=
  Nat.mod_eq_of_lt (by simp only [U_SHIFT]; omega)

section Uart

variable {k : Fin 2}

section Push

variable {w : Word} (hw : Writes m (0x31004 + 0x100 * k) s)
include hw

theorem uartTxPush_starts (hn : s.get LG_UCFG.EN k = 1) (hs : s.get U_SHIFT k = 0) :
    Answers (.uartTxPush m k w) s fun t =>
      t.get U_SHIFT k = 256 + w.toNat % 256 ∧ t.list LG_TX k = s.list LG_TX k := by
  refine answers_write_delivers (exec_uartTxPush m k w s) hw fun t ht => ?_
  simp +decide [ht.get, ht.list, wrUdata, State.flag, hn, hs, State.get_put_self, byte_mod]

section Busy

variable (hs : s.get U_SHIFT k ≠ 0)
include hs

theorem uartTxPush_queues (hl : (s.list LG_TX k).length < 64) : Answers (.uartTxPush m k w) s fun t =>
    t.list LG_TX k = s.list LG_TX k ++ [w.toNat % 256] := by
  refine answers_write_delivers (exec_uartTxPush m k w s) hw fun t ht => ?_
  simp [ht.list, wrUdata, hs, Nat.not_le.mpr hl, State.periphPush_list]

theorem uartTxPush_drops (hl : 64 ≤ (s.list LG_TX k).length) : Answers (.uartTxPush m k w) s fun t =>
    t.get LG_USTAT.DROP k = min (s.get LG_USTAT.DROP k + 1) (2 ^ LG_USTAT.DROP.width - 1) := by
  refine answers_write_delivers (exec_uartTxPush m k w s) hw fun t ht => ?_
  simp +decide [ht.get, wrUdata, hs, hl, State.get_count_self]

end Busy
end Push

/-- A read of a receive data register pops its oldest entry (R607 to R609). -/
theorem State.periphRead_cons {i valid v : Nat} {r : List Nat} (hp : s.peeks m = false) (hl : s.list LG_RX i = v :: r) :
    (s.periphRead m i valid).1 = v + valid ∧ (s.periphRead m i valid).2.list LG_RX i = r := by
  simp [State.periphRead, State.periphPop_cons hl, hp, State.list_setList_self]

theorem uartRxPop_pops {v : Nat} {r : List Nat} (hr : Reads m (0x31004 + 0x100 * k) s) (hp : s.peeks m = false)
    (hl : s.list LG_RX k = v :: r) :
    exec (.uartRxPop m k) s = run s ((rdUdata m k s).2.emit .busData [m.code, v + 256]) ∧
      (rdUdata m k s).2.list LG_RX k = r := by
  obtain ⟨value, rest⟩ := State.periphRead_cons (valid := 256) hp hl
  exact ⟨(exec_read (exec_uartRxPop m k s) hr).trans (by rw [show (rdUdata m k s).1 = v + 256 from value]), rest⟩

section Line

variable (ha : Awake s) (hn : s.get LG_UCFG.EN k = 1) (hl : s.get LG_UCFG.LOOP k = 0) (hd : s.mode ≠ mDORMANT)
include ha hn hl hd

theorem uartFrameReceived_enters (b : BitVec 8) (perr ferr brk : Bool) (room : (s.list LG_RX k).length < 64)
    (h7 : s.get LG_UCFG.BITS7 k = 0) : Answers (.uartFrameReceived k b perr ferr brk) s fun t =>
      t.list LG_RX k = s.list LG_RX k ++ [b.toNat + 2 ^ 9 * b2n perr + 2 ^ 10 * b2n ferr + 2 ^ 11 * b2n brk] := by
  refine answers_live_delivers (exec_uartFrameReceived k b perr ferr brk s) ha fun t ht => ?_
  rw [ht.list]
  by_cases err : (perr || ferr || brk) = true <;>
    simp +decide [State.flag, hn, hl, hd, State.uartIn, err, h7, State.get_put_ne, Nat.not_le.mpr room,
      State.periphPush_list]

theorem uartFrameReceived_overruns (b : BitVec 8) (perr ferr brk : Bool) (full : 64 ≤ (s.list LG_RX k).length) :
    Answers (.uartFrameReceived k b perr ferr brk) s fun t =>
      t.get LG_USTAT.OVR k = 1 ∧ t.list LG_RX k = s.list LG_RX k := by
  refine answers_live_delivers (exec_uartFrameReceived k b perr ferr brk s) ha fun t ht => ?_
  rw [ht.list]
  by_cases err : (perr || ferr || brk) = true <;> by_cases ovr : s.get LG_USTAT.OVR k = 1 <;>
    simp +decide [ht.get, State.flag, hn, hl, hd, State.uartIn, err, ovr, full, State.get_put_ne, State.get_put_self,
      State.raise_get]

section Sent

variable (hs : 256 ≤ s.get U_SHIFT k) (h7 : s.get LG_UCFG.BITS7 k = 0)
include hs h7

theorem uartFrameSent_ends (none : s.list LG_TX k = []) : exec (.uartFrameSent k) s =
    run s ((s.emit .serial [k, s.get U_SHIFT k % 256]).put U_SHIFT 0 k) := by
  rw [exec_live (exec_uartFrameSent k s) ha]
  have empty : (s.emit .serial [k, s.get U_SHIFT k % 256]).periphPop LG_TX k = Option.none :=
    State.periphPop_nil none
  simp [State.flag, hn, hl, h7, hd, Nat.not_lt.mpr hs, empty]

theorem uartFrameSent_goes_on {n : Nat} {r : List Nat} (hq : s.list LG_TX k = n :: r) :
    Answers (.uartFrameSent k) s fun t => t.get U_SHIFT k = (256 + n) % 2 ^ 9 ∧ t.list LG_TX k = r := by
  refine answers_live_delivers (exec_uartFrameSent k s) ha fun t ht => ?_
  have next := State.periphPop_cons (s := s.emit .serial [k, s.get U_SHIFT k % 256]) (q := LG_TX) (i := k) hq
  have wide : U_SHIFT.width = 9 := rfl
  simp +decide [ht.get, ht.list, State.flag, hn, hl, h7, hd, Nat.not_lt.mpr hs, next, State.get_put_self, wide,
    State.list_setList_self]

end Sent
end Line
end Uart

/-! SPI (R608). -/

section Spi

variable {k : Fin 2}

section Command

variable {w : Word} (hw : Writes m (0x31204 + 0x100 * k) s) (hn : s.get LG_SCFG.EN k = 1)
include hw hn

theorem spiCommand_starts (hc : bit (s.get LG_SCFG.CSEN k) (bits w.toNat 0 2) = true) (hb : s.get LG_SSTAT.BUSY k = 0) :
    Answers (.spiCommand m k w) s fun t =>
      t.get LG_SSTAT.BUSY k = 1 ∧ t.get S_LEFT k = bits w.toNat 3 11 + 1 ∧ t.get S_CS k = bits w.toNat 0 2 := by
  refine answers_write_delivers (exec_spiCommand m k w s) hw fun t ht => ?_
  have count : (bits w.toNat 3 11 + 1) % 2 ^ S_LEFT.width = bits w.toNat 3 11 + 1 :=
    Nat.mod_eq_of_lt (by simp only [bits, S_LEFT]; omega)
  have select : bits w.toNat 0 2 % 2 ^ S_CS.width = bits w.toNat 0 2 :=
    Nat.mod_eq_of_lt (by simp only [bits, S_CS]; omega)
  simp +decide [ht.get, wrScmd, State.flag, hn, hc, hb, State.get_put_ne, State.get_put_self, count, select]

theorem spiCommand_errs (hc : bit (s.get LG_SCFG.CSEN k) (bits w.toNat 0 2) = false ∨ s.get LG_SSTAT.BUSY k = 1) :
    Answers (.spiCommand m k w) s fun t => t.get LG_SSTAT.CMDERR k = 1 ∧
      t.get LG_SSTAT.BUSY k = s.get LG_SSTAT.BUSY k ∧ t.get S_LEFT k = s.get S_LEFT k := by
  refine answers_write_delivers (exec_spiCommand m k w s) hw fun t ht => ?_
  have bad : (!bit (s.get LG_SCFG.CSEN k) (bits w.toNat 0 2) || decide (s.get LG_SSTAT.BUSY k = 1)) = true := by
    simpa using hc
  simp +decide [ht.get, wrScmd, State.flag, hn, bad, State.get_put_ne, State.get_put_self]

end Command

theorem spiDataAccess_queues (w : Word) (hw : Writes m (0x31208 + 0x100 * k) s)
    (room : (s.list LG_TX (2 + k)).length < 32) : Answers (.spiDataAccess m k (some w)) s fun t =>
      t.list LG_TX (2 + k) = s.list LG_TX (2 + k) ++ [w.toNat % 256] := by
  refine answers_write_delivers (exec_spiDataAccess m k (some w) s) hw fun t ht => ?_
  simp [ht.list, wrSdata, Nat.not_le.mpr room, State.periphPush_list]

theorem spiDataAccess_pops {v : Nat} {r : List Nat} (hr : Reads m (0x31208 + 0x100 * k) s) (hp : s.peeks m = false)
    (hl : s.list LG_RX (2 + k) = v :: r) :
    exec (.spiDataAccess m k none) s = run s ((rdSdata m k s).2.emit .busData [m.code, v + 256]) ∧
      (rdSdata m k s).2.list LG_RX (2 + k) = r := by
  obtain ⟨value, rest⟩ := State.periphRead_cons (valid := 256) hp hl
  exact ⟨(exec_read (exec_spiDataAccess m k none s) hr).trans (by rw [show (rdSdata m k s).1 = v + 256 from value]),
    rest⟩

theorem spiByteDone_moves (ha : Awake s) (miso : BitVec 8) {b : Nat} {r : List Nat} (hb : s.get LG_SSTAT.BUSY k = 1)
    (hd : s.mode ≠ mDORMANT) (room : (s.list LG_RX (2 + k)).length < 32) (hq : s.list LG_TX (2 + k) = b :: r) :
    Answers (.spiByteDone k miso) s fun t =>
      t.list LG_RX (2 + k) = s.list LG_RX (2 + k) ++ [miso.toNat] ∧ t.list LG_TX (2 + k) = r ∧
      (s.get S_LEFT k = 1 → t.get LG_SSTAT.BUSY k = 0 ∧ t.get LG_SSTAT.DONE k = 1) ∧
      (2 ≤ s.get S_LEFT k → t.get LG_SSTAT.BUSY k = 1 ∧ t.get S_LEFT k = (s.get S_LEFT k - 1) % 2 ^ S_LEFT.width) := by
  refine answers_live_delivers (exec_spiByteDone k miso s) ha fun t ht => ?_
  have six : 2 + k.val < 6 := by omega
  have shut : ¬32 ≤ (s.list LG_RX (2 + k)).length := Nat.not_le.mpr room
  have first (l : List Nat) : (s.setList LG_TX l (2 + k)).list LG_RX (2 + k) = s.list LG_RX (2 + k) :=
    State.list_setList_ne _ _ (by simp +decide)
  rw [ht.list, ht.list]
  by_cases last : s.get S_LEFT k - 1 = 0 <;> by_cases keep : s.get S_KEEP k = 1 <;>
    simp +decide [ht.get, State.flag, hb, hd, shut, State.periphPop_cons hq, six, last, keep, State.periphPush_list,
      State.periphPush_list_ne, first, State.list_setList_self, State.get_put_ne, State.get_put_self] <;>
    omega

end Spi

/-! I²C (R609). -/

section I2c

variable {k : Fin 2}

theorem icDrain_get {fuel i : Nat} (hi : i < 2) (s : State) {g : Field} {j : Nat}
    (level : (levelFields.all fun f => g.beside f || f.below 6 g) = true) (left : g.key j ≠ I_LEFT.key i)
    (pec : g.key j ≠ I_PEC.key i) : (icDrain fuel i s).get g j = s.get g j := by
  have levels (u : State) : (u.periphLevels (4 + i)).get g j = u.get g j := by
    refine u.periphLevels_get _ fun f hf n hn same => ?_
    have apart := List.all_eq_true.mp level f hf
    rw [Bool.or_eq_true] at apart
    rcases apart with side | low
    · exact (Field.key_beside side).mp same
    · exact (Field.key_lt (show n < 6 by omega) low).ne' same
  induction fuel generalizing s with
  | zero => rfl
  | succ n ih =>
    unfold icDrain
    split
    · rfl
    · cases hq : s.list LG_TX (4 + i) with
      | nil => rw [State.periphPop_nil hq]
      | cons b r =>
        rw [State.periphPop_cons hq]
        dsimp only
        rw [ih, State.get_put_ne _ _ left, State.get_put_ne _ _ pec, State.emit_get, levels, State.setList_get]

/-- A host that does not write drains nothing. -/
theorem icDrain_read {fuel : Nat} {i : Nat} (h : s.icRead i = true) : icDrain fuel i s = s := by
  cases fuel with
  | zero => rfl
  | succ n => simp [icDrain, h]

theorem icDrain_idle {fuel : Nat} {i : Nat} (h : s.get LG_ISTAT.BUSY i = 0) : icDrain fuel i s = s := by
  cases fuel with
  | zero => rfl
  | succ n => simp [icDrain, State.flag, h]

/-- The word that a command stands for: without a hold a START comes first. -/
def State.icWord (s : State) (k w : Nat) : Nat :=
  if s.flag I_HOLD k then w % 2 ^ 18 else setBit (w % 2 ^ 18) 8

theorem State.icWord_lt (s : State) (k w : Nat) : s.icWord k w < 2 ^ 18 := by
  unfold State.icWord
  split
  · exact Nat.mod_lt _ (by decide)
  · exact Nat.or_lt_two_pow (Nat.mod_lt _ (by decide)) (by decide)

theorem State.icWord_count (s : State) (k w : Nat) : bits (s.icWord k w) 10 8 = bits w 10 8 := by
  have high : (w % 2 ^ 18 ||| 2 ^ 8) / 2 ^ 10 = w % 2 ^ 18 / 2 ^ 10 := by
    rw [← Nat.shiftRight_eq_div_pow, Nat.shiftRight_or_distrib, ← Nat.shiftRight_eq_div_pow]
    simp
  unfold State.icWord setBit bits
  split
  · omega
  · rw [high]
    omega

theorem State.icWord_read (s : State) (k : Nat) {w : Nat} (h : bit w 7 = true) : bit (s.icWord k w) 7 = true := by
  have low : bit (w % 2 ^ 18) 7 = true := by
    rw [bit_eq_testBit] at h ⊢
    rw [Nat.testBit_mod_two_pow, h]
    rfl
  unfold State.icWord
  split
  · exact low
  · exact bit_setBit_of_bit low

/-- A command under way, before its bytes go out. -/
def State.icStart (s : State) (k w : Nat) : State :=
  let v := s.icWord k w
  let a := 2 * bits v 0 7 + bits v 7 1
  let t := ((s.put I_CMD v k).put LG_ISTAT.BUSY 1 k).put I_LEFT (bits v 10 8) k
  let t := if bit v 8 then
      (t.put I_PEC (pecByte (if t.flag I_HOLD k then t.get I_PEC k else 0) a) k).emit .serial [4 + k, 0, a]
    else t
  t.put I_HOLD 1 k

theorem State.icStart_get (s : State) (k : Fin 2) (w : Nat) : (s.icStart k w).get LG_ISTAT.BUSY k = 1 ∧
    (s.icStart k w).get I_HOLD k = 1 ∧ (s.icStart k w).get I_CMD k = s.icWord k w ∧
    (s.icStart k w).get I_LEFT k = bits w 10 8 := by
  have command : s.icWord k w % 2 ^ I_CMD.width = s.icWord k w := Nat.mod_eq_of_lt (s.icWord_lt k w)
  have count : bits w 10 8 % 2 ^ I_LEFT.width = bits w 10 8 := Nat.mod_eq_of_lt (by simp only [bits, I_LEFT]; omega)
  by_cases start : bit (s.icWord k w) 8 = true <;>
    simp +decide [State.icStart, start, State.get_put_ne, State.get_put_self, command, State.icWord_count, count]

section Command

variable {w : Word} (hw : Writes m (0x31404 + 0x100 * k) s)
include hw

theorem i2cCommand_starts (hn : s.get LG_ICFG.EN k = 1) (hb : s.get LG_ISTAT.BUSY k = 0) :
    Answers (.i2cCommand m k w) s fun t => t.get LG_ISTAT.BUSY k = 1 ∧ t.get I_HOLD k = 1 ∧
      (bit w.toNat 7 = true → t.get I_LEFT k = bits w.toNat 10 8) := by
  refine answers_write_delivers (exec_i2cCommand m k w s) hw fun t ht => ?_
  have effect : wrIcmd m k w.toNat s = icDrain 32 k (s.icStart k w.toNat) := by
    simp [wrIcmd, State.icStart, State.icWord, State.flag, hn, hb]
  obtain ⟨busy, hold, command, left⟩ := s.icStart_get k w.toNat
  rw [effect] at ht
  refine ⟨?_, ?_, fun read => ?_⟩
  · rw [ht.get (by simp +decide), icDrain_get k.isLt _ (by decide) (by simp +decide) (by simp +decide), busy]
  · rw [ht.get (by simp +decide), icDrain_get k.isLt _ (by decide) (by simp +decide) (by simp +decide), hold]
  · have reads : (s.icStart k w.toNat).icRead k = true := by
      rw [State.icRead, command, s.icWord_read k read]
    rw [ht.get (by simp +decide), icDrain_read reads, left]

theorem i2cCommand_ignored (h : s.get LG_ICFG.EN k = 0 ∨ s.get LG_ISTAT.BUSY k = 1) :
    Answers (.i2cCommand m k w) s fun t => s.Frame t [] := by
  refine answers_write_delivers (exec_i2cCommand m k w s) hw fun t ht => ht.frame ?_
  have idle : (!s.flag LG_ICFG.EN k || s.flag LG_ISTAT.BUSY k) = true := by
    rcases h with h | h <;> simp [State.flag, h]
  rw [wrIcmd, if_pos idle]
  exact s.frame_refl []

end Command

theorem i2cDataAccess_queues (w : Word) (hw : Writes m (0x31408 + 0x100 * k) s) (hb : s.get LG_ISTAT.BUSY k = 0)
    (room : (s.list LG_TX (4 + k)).length < 32) : Answers (.i2cDataAccess m k (some w)) s fun t =>
      t.list LG_TX (4 + k) = s.list LG_TX (4 + k) ++ [w.toNat % 256] := by
  refine answers_write_delivers (exec_i2cDataAccess m k (some w) s) hw fun t ht => ?_
  have idle (v : Nat) : (s.periphPush LG_TX (4 + k) v).get LG_ISTAT.BUSY k = 0 := by simp +decide [hb]
  simp [ht.list, wrIdata, Nat.not_le.mpr room, icDrain_idle (idle _), State.periphPush_list]

theorem i2cDataAccess_pops {v : Nat} {r : List Nat} (hr : Reads m (0x31408 + 0x100 * k) s) (hp : s.peeks m = false)
    (hl : s.list LG_RX (4 + k) = v :: r) :
    exec (.i2cDataAccess m k none) s = run s ((rdIdata m k s).2.emit .busData [m.code, v + 256]) ∧
      (rdIdata m k s).2.list LG_RX (4 + k) = r := by
  obtain ⟨value, rest⟩ := State.periphRead_cons (valid := 256) hp hl
  exact ⟨(exec_read (exec_i2cDataAccess m k none s) hr).trans (by rw [show (rdIdata m k s).1 = v + 256 from value]),
    rest⟩

/-- The end of a command shows it and stores nothing. -/
theorem State.icEnd_shows (s : State) (k : Fin 2) (stop : Bool) :
    (s.icEnd k stop).get LG_ISTAT.BUSY k = 0 ∧ (s.icEnd k stop).get LG_ISTAT.DONE k = 1 ∧
      ∀ q i, (s.icEnd k stop).list q i = s.list q i := by
  cases stop <;> simp +decide [State.icEnd, State.get_put_ne, State.get_put_self]

/-- The bytes read enter the FIFO one by one, each into the packet error code. -/
def State.icTakes (s : State) (k : Nat) (got : List Nat) : State :=
  got.foldl (fun u b => (u.periphPush LG_RX (4 + k) b).put I_PEC (pecByte (u.get I_PEC k) b) k) s

theorem State.icTakes_list (s : State) (k : Nat) (got : List Nat) :
    (s.icTakes k got).list LG_RX (4 + k) = s.list LG_RX (4 + k) ++ got := by
  induction got generalizing s with
  | nil => simp [State.icTakes]
  | cons b r ih =>
    have one := ih ((s.periphPush LG_RX (4 + k) b).put I_PEC (pecByte (s.get I_PEC k) b) k)
    simpa [State.icTakes, State.periphPush_list] using one

theorem State.icTakes_left (s : State) (k : Fin 2) (got : List Nat) : (s.icTakes k got).get I_LEFT k = s.get I_LEFT k := by
  have six : 4 + k.val < 6 := by omega
  refine List.foldlRecOn got _ (motive := fun u : State => u.get I_LEFT k = s.get I_LEFT k) rfl fun u hu b _ => ?_
  simp +decide [State.get_put_ne, six, hu]

section Done

variable (ha : Awake s) (hd : s.mode ≠ mDORMANT)
include ha hd

section Busy

variable (hb : s.get LG_ISTAT.BUSY k = 1)
include hb

theorem i2cCommandDone_nack (n : BitVec 8) : Answers (.i2cCommandDone k (.nack n)) s fun t =>
    t.get LG_ISTAT.BUSY k = 0 ∧ t.get LG_ISTAT.DONE k = 1 ∧ t.get LG_ISTAT.NACK k = 1 ∧ t.get I_HOLD k = 0 := by
  refine answers_live_delivers (exec_i2cCommandDone k (.nack n) s) ha fun t ht => ?_
  simp +decide [ht.get, State.flag, hb, hd, State.icEnd, State.get_put_ne, State.get_put_self]

theorem i2cCommandDone_arbLost : Answers (.i2cCommandDone k .arbLost) s fun t =>
    t.get LG_ISTAT.BUSY k = 0 ∧ t.get LG_ISTAT.DONE k = 1 ∧ t.get LG_ISTAT.ARBLOST k = 1 ∧ t.get I_HOLD k = 0 := by
  refine answers_live_delivers (exec_i2cCommandDone k .arbLost s) ha fun t ht => ?_
  simp +decide [ht.get, State.flag, hb, hd, State.icEnd, State.get_put_ne, State.get_put_self]

theorem i2cCommandDone_written (data : List (BitVec 8)) (pec : BitVec 8) (hr : s.icRead k = false)
    (hl : s.get I_LEFT k = 0) : Answers (.i2cCommandDone k (.served data pec)) s fun t =>
      t.get LG_ISTAT.BUSY k = 0 ∧ t.get LG_ISTAT.DONE k = 1 := by
  refine answers_live_delivers (exec_i2cCommandDone k (.served data pec) s) ha fun t ht => ?_
  have ended (u : State) (stop : Bool) := u.icEnd_shows k stop
  rw [ht.get (by simp +decide), ht.get (by simp +decide)]
  simp only [State.flag, hb, hd, hr, hl, decide_true, decide_false, Bool.not_true, Bool.or_self, Bool.false_eq_true,
    if_false, ne_eq, not_true_eq_false]
  exact ⟨(ended _ _).1, (ended _ _).2.1⟩

theorem i2cCommandDone_read (data : List (BitVec 8)) (pec : BitVec 8) (hr : s.icRead k = true)
    (hl : data.length = s.get I_LEFT k) (room : (s.list LG_RX (4 + k)).length + data.length ≤ 32) :
    Answers (.i2cCommandDone k (.served data pec)) s fun t =>
      t.get LG_ISTAT.BUSY k = 0 ∧ t.get LG_ISTAT.DONE k = 1 ∧
      t.list LG_RX (4 + k) = s.list LG_RX (4 + k) ++ data.map BitVec.toNat := by
  refine answers_live_delivers (exec_i2cCommandDone k (.served data pec) s) ha fun t ht => ?_
  have all : (data.map BitVec.toNat).take (min (32 - (s.list LG_RX (4 + k)).length) (s.get I_LEFT k)) =
      data.map BitVec.toNat := List.take_of_length_le (by rw [List.length_map]; omega)
  have ended (u : State) (stop : Bool) := u.icEnd_shows k stop
  have taken := s.icTakes_list k (data.map BitVec.toNat)
  have left := s.icTakes_left k (data.map BitVec.toNat)
  rw [State.icTakes] at taken left
  rw [ht.get (by simp +decide), ht.get (by simp +decide), ht.list]
  simp only [State.flag, hb, hd, hr, decide_true, decide_false, Bool.not_true, Bool.or_self, Bool.false_eq_true,
    if_false, if_true, all, left, List.length_map, hl, Nat.sub_self, State.get_put_self, Nat.zero_mod, ne_eq,
    not_true_eq_false]
  refine ⟨(ended _ _).1, (ended _ _).2.1, ?_⟩
  rw [(ended _ _).2.2]
  split <;> simp [taken]

end Busy
theorem i2cTimeout_shows (hn : s.get LG_ICFG.EN k = 1) (ht : s.get LG_ICFG.TOUT_EN k = 1) :
    Answers (.i2cTimeout k) s fun t => t.get LG_ISTAT.TIMEOUT k = 1 ∧ t.get I_HOLD k = 0 ∧
      (s.get LG_ISTAT.BUSY k = 1 → t.get LG_ISTAT.BUSY k = 0 ∧ t.get LG_ISTAT.DONE k = 1) := by
  refine answers_live_delivers (exec_i2cTimeout k s) ha fun t hv => ?_
  by_cases busy : s.get LG_ISTAT.BUSY k = 1 <;>
    simp +decide [hv.get, State.flag, hn, ht, hd, busy, State.icEnd, State.get_put_ne, State.get_put_self]

end Done

theorem i2cAlert_falls (ha : Awake s) (hl : s.get LG_ISTAT.ALERT_LVL k = 0) : Answers (.i2cAlert k true) s fun t =>
    t.get LG_ISTAT.ALERT_LVL k = 1 ∧ t.get LG_ISTAT.ALERT k = 1 := by
  refine answers_live_delivers (exec_i2cAlert k true s) ha fun t ht => ?_
  simp +decide [ht.get, State.flag, hl, State.get_put_ne, State.get_put_self]

theorem i2cAlert_rises (ha : Awake s) : Answers (.i2cAlert k false) s fun t =>
    t.get LG_ISTAT.ALERT_LVL k = 0 ∧ t.get LG_ISTAT.ALERT k = s.get LG_ISTAT.ALERT k := by
  refine answers_live_delivers (exec_i2cAlert k false s) ha fun t ht => ?_
  simp +decide [ht.get, State.get_put_ne, State.get_put_self]

end I2c

/-! Hard GPIO and the interrupt controller (R610, R602). -/

section Edge

variable {g : Fin 32} {rising : Bool} (ha : Awake s)
include ha

theorem gpioEdge_flags (on : bit (if rising then s.get LG_GPRISE.RISE else s.get LG_GPFALL.FALL) g = true)
    (hd : s.mode ≠ mDORMANT) (hi : s.inputOn (s.gpioPin g) = true) : Answers (.gpioEdge g rising) s fun t =>
      bit (t.get LG_GPIF.IF) g = true := by
  refine answers_live_delivers (exec_gpioEdge g rising s) ha fun t ht => ?_
  rw [ht.get (by decide)]
  simp only [on, hd, hi, ne_eq, not_false_eq_true, decide_true, Bool.and_true, if_true]
  exact State.orBit_sets_bit g.isLt

theorem gpioEdge_ignored (off : bit (if rising then s.get LG_GPRISE.RISE else s.get LG_GPFALL.FALL) g = false) :
    Answers (.gpioEdge g rising) s fun t => s.Frame t [] := by
  refine answers_live_delivers (exec_gpioEdge g rising s) ha fun t ht => ht.frame ?_
  simp only [off, Bool.false_and, Bool.false_eq_true, if_false]
  exact s.frame_refl []

end Edge

section Words

variable {w : Word}

theorem gpioSetClear_sets (hw : Writes m 0x31804 s) : Answers (.gpioSetClear m false w) s fun t =>
    t.get LG_GPOUT.OUT = (s.get LG_GPOUT.OUT ||| w.toNat) % 2 ^ 32 := by
  refine answers_write_delivers (k := wrGpset w.toNat) (exec_gpioSetClear m false w s) hw fun t ht => ?_
  have word : w.toNat % 2 ^ 32 = w.toNat := Nat.mod_eq_of_lt w.isLt
  rw [ht.get (by decide), wrGpset, wrGpout, State.gpioOut, State.emit_get, State.get_put_self, word]
  rfl

theorem gpioSetClear_clears (hw : Writes m 0x31808 s) : Answers (.gpioSetClear m true w) s fun t =>
    t.get LG_GPOUT.OUT = (s.get LG_GPOUT.OUT &&& (2 ^ 32 - 1 - w.toNat)) % 2 ^ 32 := by
  refine answers_write_delivers (k := wrGpclr w.toNat) (exec_gpioSetClear m true w s) hw fun t ht => ?_
  have word : w.toNat % 2 ^ 32 = w.toNat := Nat.mod_eq_of_lt w.isLt
  rw [ht.get (by decide), wrGpclr, wrGpout, State.gpioOut, State.emit_get, State.get_put_self, word]
  rfl

theorem icclaimWrite_ends (hw : Writes m 0x32504 s) : Answers (.icclaimWrite m w) s fun t =>
    t.get IC_SERV (bits w.toNat 0 8) = 0 ∧ s.Frame t [IC_SERV.key (bits w.toNat 0 8)] := by
  refine answers_write_delivers (exec_icclaimWrite m w s) hw fun t ht => ?_
  have source : bits w.toNat 0 8 < 256 := by simp only [bits]; omega
  have apart : IC_SERV.key (bits w.toNat 0 8) ≠ MSI_PEND.key 0 := by
    simp only [Field.key, IC_SERV, MSI_PEND]
    omega
  refine ⟨?_, ht.frame (State.Within.put .refl (by simp)).frame⟩
  rw [ht.get apart, wrIcclaim, State.get_put_self, Nat.zero_mod]

theorem icclaimRead_none (hr : Reads m 0x32504 s) (hb : s.icBest = none) :
    exec (.icclaimRead m) s = run s (s.emit .busData [m.code, 0]) := by
  rw [exec_read (exec_icclaimRead m s) hr, rdIcclaim, hb]

theorem icclaimRead_best {n : Nat} (hr : Reads m 0x32504 s) (hb : s.icBest = some n) : exec (.icclaimRead m) s =
    run s ((if m = .lodgeM then s.put IC_SERV 1 n else s).emit .busData [m.code, n + 256]) := by
  rw [exec_read (exec_icclaimRead m s) hr, rdIcclaim, hb]
  by_cases lodge : m = .lodgeM
  · have sees : s.peeks m = false := by simp [State.peeks, lodge]
    simp [lodge, lodge ▸ sees]
  · simp [lodge]

end Words

/-- Settles O39: one lemma per command and case, from what pushing and popping a peripheral's FIFO leaves. -/
theorem peripheralsEnableAndMoveBytes : Obligations.PeripheralsEnableAndMoveBytes := by
  unfold Obligations.PeripheralsEnableAndMoveBytes
  refine fun s ha => ⟨?_, ?_, ?_, ?_, ?_, ?_, ?_, ?_, ?_, ?_, ?_, ?_⟩
  · exact fun m i w hw hn hb => ⟨fun t hc => peripheralEnable_enables hw hn hb hc,
      fun e hc => peripheralEnable_refused hw hn hb hc⟩
  · exact fun m w hw => peripheralEnable_gpio w hw
  · exact fun m k => ⟨fun w hw => ⟨uartTxPush_starts hw, uartTxPush_queues hw, uartTxPush_drops hw⟩,
      fun v r hr hp hl => uartRxPop_pops hr hp hl⟩
  · exact fun k b perr ferr brk hn hl hd => ⟨uartFrameReceived_enters ha hn hl hd b perr ferr brk,
      uartFrameReceived_overruns ha hn hl hd b perr ferr brk,
      fun hs h7 => ⟨uartFrameSent_ends ha hn hl hd hs h7, fun n r hq => uartFrameSent_goes_on ha hn hl hd hs h7 hq⟩⟩
  · exact fun m k => ⟨fun w hw hn => ⟨spiCommand_starts hw hn, spiCommand_errs hw hn⟩, spiDataAccess_queues,
      fun v r hr hp hl => spiDataAccess_pops hr hp hl⟩
  · exact fun k miso b r hb hd room hq => spiByteDone_moves ha miso hb hd room hq
  · exact fun m k => ⟨fun w hw => ⟨i2cCommand_starts hw, i2cCommand_ignored hw⟩, i2cDataAccess_queues,
      fun v r hr hp hl => i2cDataAccess_pops hr hp hl⟩
  · exact fun k hd => ⟨fun hb => ⟨i2cCommandDone_nack ha hd hb, i2cCommandDone_arbLost ha hd hb,
      i2cCommandDone_read ha hd hb, i2cCommandDone_written ha hd hb⟩, i2cTimeout_shows ha hd⟩
  · exact fun k => ⟨i2cAlert_falls ha, i2cAlert_rises ha⟩
  · exact fun g rising => ⟨gpioEdge_flags ha, gpioEdge_ignored ha⟩
  · exact fun m w => ⟨gpioSetClear_sets, gpioSetClear_clears, icclaimWrite_ends⟩
  · exact fun m hr => ⟨icclaimRead_none hr, fun n hb => icclaimRead_best hr hb⟩

end Sys2Proof.Machine
end

section
/-! Frames of commands that are not register writes: what their effects stay within. -/

namespace Sys2Proof.Machine

variable {s t : State} {S : Scope}

/-- The scope of a `Kept` command. -/
def Scope.kept (keys : List Nat) : Scope := ⟨{k | k ∈ keys}, Set.univ, True⟩

@[simp] theorem Scope.mem_kept_cells {k : Nat} {keys : List Nat} : k ∈ (Scope.kept keys).cells ↔ k ∈ keys := Iff.rfl
@[simp] theorem Scope.mem_logged_lists {k : Nat} {keys lists : List Nat} :
    k ∈ (Scope.logged keys lists).lists ↔ k ∈ lists := Iff.rfl

namespace State.Within

theorem kept {keys : List Nat} (h : s.Within (.kept keys) t) : s.KeptBy t keys := by
  obtain ⟨hm, hr, hp⟩ := h.fixed
  refine ⟨hm, hr, hp, h.grows.1, h.grows.2, fun f i hf hp => ?_⟩
  simp only [cellsAt, List.map_cons, List.map_nil, List.cons_append, List.nil_append, List.mem_cons, not_or] at hf
  exact h.get hf.2.2 hp fun _ => ⟨hf.1, hf.2.1⟩

/-- A command out of reset stays in the scope of its effect; in reset it changes nothing (R47). -/
theorem of_live {c : Instr} {k : State → State} (hc : exec c s = live s k) (hk : s.Within S (k s))
    (ht : exec c s = .next t) : s.Within S t := by
  rw [hc] at ht
  by_cases awake : Awake s
  · cases (live_awake k awake).symm.trans ht
    exact hk.deliver s
  · cases (live_reset k awake).symm.trans ht
    exact .refl

theorem ite {c : Prop} [Decidable c] {a b : State} (ha : s.Within S a) (hb : s.Within S b) :
    s.Within S (if c then a else b) := branch (fun _ => ha) fun _ => hb

theorem count {f : Field} {n i : Nat} (h : s.Within S t) (hf : f.key i ∈ S.cells) : s.Within S (t.count f n i) := h.put hf

theorem orBit {f : Field} {n i : Nat} (h : s.Within S t) (hf : f.key i ∈ S.cells) : s.Within S (t.orBit f n i) := h.put hf

theorem andBit {f : Field} {n i : Nat} (h : s.Within S t) (hf : f.key i ∈ S.cells) : s.Within S (t.andBit f n i) := h.put hf

theorem enq {q : Fifo} {v i : Nat} (h : s.Within S t) (hq : q.key i ∈ S.lists) : s.Within S (t.enq q v i) := h.setList hq

end State.Within

theorem silent_of_live {c : Instr} {k : State → State} {keys : List Nat} (hc : exec c s = live s k)
    (hk : s.Within (.silent keys) (k s)) : Silent c s keys := fun _ ht => (State.Within.of_live hc hk ht).frame

theorem logged_of_live {c : Instr} {k : State → State} {keys lists : List Nat} (hc : exec c s = live s k)
    (hk : s.Within (.logged keys lists) (k s)) : Logged c s keys lists :=
  fun _ ht => (State.Within.of_live hc hk ht).logged

theorem kept_of_live {c : Instr} {k : State → State} {keys : List Nat} (hc : exec c s = live s k)
    (hk : s.Within (.kept keys) (k s)) : Kept c s keys := fun _ ht => (State.Within.of_live hc hk ht).kept

end Sys2Proof.Machine
end

section
/-! O56: what happenings of the Lodge, the monitors, calibration and the SMBus target leave as it was. -/

namespace Sys2Proof.Machine

open State.Within

variable {s t : State} {S : Scope}

/-! The Lodge. -/

theorem machineTimer_silent : Silent .machineTimer s (cellsAt [LG_MTIME_LO.MTIME, LG_MTIME_HI.MTIME]) := by
  refine silent_of_live (exec_machineTimer s) (.ite (.put (.put .refl ?_) ?_) .refl) <;> simp [cellsAt]

theorem State.Within.periphLevels_spi (h : s.Within S t) {i : Nat} (hi : i < 2)
    (hk : ∀ k ∈ cellsAt [LG_SSTAT.TXLVL, LG_SSTAT.RXLVL, LG_SSTAT.RXNE] i, k ∈ S.cells) :
    s.Within S (t.periphLevels (2 + i)) := by
  simp only [State.periphLevels, show ¬2 + i < 2 by omega, show 2 + i < 4 by omega, if_false, if_true,
    Nat.add_sub_cancel_left]
  exact ((h.put (hk _ (mem_cellsAt (by simp)))).put (hk _ (mem_cellsAt (by simp)))).put (hk _ (mem_cellsAt (by simp)))

/-- The cells that a frame at the receiver of UART k reaches. -/
def uartCells (k : Nat) : List Nat :=
  cellsAt [LG_USTAT.ERR, LG_USTAT.OVR, LG_USTAT.TXLVL, LG_USTAT.RXLVL, LG_USTAT.RXNE, LG_USTAT.TXLOW] k

theorem State.Within.uartIn (h : s.Within S t) {k : Nat} (hk : k < 2) (b : Nat) (perr ferr brk : Bool)
    (hl : S.logs) (hc : ∀ c ∈ uartCells k, c ∈ S.cells) (hq : LG_RX.key k ∈ S.lists) :
    s.Within S (t.uartIn k b perr ferr brk) := by
  have key {f : Field} (hf : f ∈ [LG_USTAT.ERR, LG_USTAT.OVR, LG_USTAT.TXLVL, LG_USTAT.RXLVL, LG_USTAT.RXNE,
      LG_USTAT.TXLOW]) : f.key k ∈ S.cells := hc _ (mem_cellsAt hf)
  have err : s.Within S (if perr || ferr || brk then t.put LG_USTAT.ERR 1 k else t) := .ite (h.put (key (by simp))) h
  unfold State.uartIn State.periphPush
  refine .ite (.ite (err.put (key (by simp))) ((err.put (key (by simp))).raise hl)) ?_
  exact (err.enq hq).periphLevels_uart hk (by simp [cellsAt, key])

theorem uartFrameReceived_logged (k : Fin 2) (b : BitVec 8) (p f r : Bool) :
    Logged (.uartFrameReceived k b p f r) s (cellsAt [LG_USTAT.ERR, LG_USTAT.OVR, LG_USTAT.TXLVL, LG_USTAT.RXLVL,
      LG_USTAT.RXNE, LG_USTAT.TXLOW] k) (listsAt [LG_RX] k) :=
  logged_of_live (exec_uartFrameReceived k b p f r s)
    (.ite (State.Within.refl.uartIn k.isLt _ _ _ _ trivial (fun _ hc => hc) (mem_listsAt (by simp))) .refl)

theorem State.Within.periphPop (h : s.Within S t) {q : Fifo} {i v : Nat} {u : State} (hp : t.periphPop q i = some (v, u))
    (hq : q.key i ∈ S.lists) (hl : ∀ w : State, s.Within S w → s.Within S (w.periphLevels i)) : s.Within S u := by
  unfold State.periphPop at hp
  split at hp
  · cases hp
  · cases hp
    exact hl _ (h.setList hq)

theorem uartFrameSent_logged (k : Fin 2) : Logged (.uartFrameSent k) s (cellsAt [U_SHIFT, LG_USTAT.ERR, LG_USTAT.OVR,
    LG_USTAT.TXLVL, LG_USTAT.RXLVL, LG_USTAT.RXNE, LG_USTAT.TXLOW] k) (listsAt [LG_RX, LG_TX] k) := by
  refine logged_of_live (exec_uartFrameSent k s) (.ite .refl ?_)
  dsimp only
  have inner (b : Nat) : s.Within (.logged (cellsAt [U_SHIFT, LG_USTAT.ERR, LG_USTAT.OVR, LG_USTAT.TXLVL,
      LG_USTAT.RXLVL, LG_USTAT.RXNE, LG_USTAT.TXLOW] k) (listsAt [LG_RX, LG_TX] k))
      (if s.flag LG_UCFG.LOOP k then s.uartIn k b false false false else s.emit .serial [k, b]) :=
    .ite (State.Within.refl.uartIn k.isLt _ _ _ _ trivial (by simp [uartCells, cellsAt]) (mem_listsAt (by simp)))
      (.emit .refl)
  split
  · next n u hu =>
    refine ((inner _).periphPop hu (mem_listsAt (by simp)) fun w hw => ?_).put (mem_cellsAt (by simp))
    exact hw.periphLevels_uart k.isLt (by simp [cellsAt])
  · exact (inner _).put (mem_cellsAt (by simp))

theorem spiByteDone_logged (k : Fin 2) (b : BitVec 8) : Logged (.spiByteDone k b) s (cellsAt [LG_SSTAT.BUSY,
    LG_SSTAT.DONE, S_LEFT, LG_SSTAT.TXLVL, LG_SSTAT.RXLVL, LG_SSTAT.RXNE] k) (listsAt [LG_RX, LG_TX] (2 + k)) := by
  set S := Scope.logged (cellsAt [LG_SSTAT.BUSY, LG_SSTAT.DONE, S_LEFT, LG_SSTAT.TXLVL, LG_SSTAT.RXLVL,
    LG_SSTAT.RXNE] k) (listsAt [LG_RX, LG_TX] (2 + k)) with hS
  have level (w : State) (hw : s.Within S w) : s.Within S (w.periphLevels (2 + k)) :=
    hw.periphLevels_spi k.isLt (by simp [hS, cellsAt])
  have cell {w : State} {f : Field} {v : Nat} (hf : f ∈ [LG_SSTAT.BUSY, LG_SSTAT.DONE, S_LEFT]) (hw : s.Within S w) :
      s.Within S (w.put f v k) := hw.put (mem_cellsAt (List.mem_append_left [LG_SSTAT.TXLVL, LG_SSTAT.RXLVL,
        LG_SSTAT.RXNE] hf))
  refine logged_of_live (exec_spiByteDone k b s) (.ite .refl ?_)
  split
  · exact .refl
  · next byte u hu =>
    have moved := cell (f := S_LEFT) (v := (((u.emit .serial [2 + k.val, 1, byte]).periphPush LG_RX (2 + k)
      b.toNat).get S_LEFT k) - 1) (by simp) (level _ ((((State.Within.refl.periphPop hu (mem_listsAt (by simp))
        level).emit (k := .serial) (args := [2 + k.val, 1, byte]))).enq (q := LG_RX) (v := b.toNat) (i := 2 + k)
        (mem_listsAt (by simp))))
    have ended := cell (f := LG_SSTAT.DONE) (v := 1) (by simp) (cell (f := LG_SSTAT.BUSY) (v := 0) (by simp) moved)
    exact .ite moved (.ite ended ended.emit)

theorem State.Within.icEnd (h : s.Within S t) {k : Nat} (stop : Bool)
    (hk : ∀ c ∈ cellsAt [LG_ISTAT.BUSY, LG_ISTAT.DONE, I_LEFT, I_HOLD] k, c ∈ S.cells) : s.Within S (t.icEnd k stop) := by
  have ended : s.Within S (((t.put LG_ISTAT.BUSY 0 k).put LG_ISTAT.DONE 1 k).put I_LEFT 0 k) :=
    ((h.put (hk _ (mem_cellsAt (by simp)))).put (hk _ (mem_cellsAt (by simp)))).put (hk _ (mem_cellsAt (by simp)))
  unfold State.icEnd
  exact .ite (ended.put (hk _ (mem_cellsAt (by simp)))).emit ended

theorem i2cCommandDone_logged (k : Fin 2) (e : I2cEnd) : Logged (.i2cCommandDone k e) s (cellsAt [I_HOLD, I_LEFT, I_PEC,
    LG_ISTAT.ARBLOST, LG_ISTAT.BUSY, LG_ISTAT.DONE, LG_ISTAT.NACK, LG_ISTAT.PECERR, LG_ISTAT.TXLVL, LG_ISTAT.RXLVL] k)
    (listsAt [LG_RX] (4 + k)) := by
  set S := Scope.logged (cellsAt [I_HOLD, I_LEFT, I_PEC, LG_ISTAT.ARBLOST, LG_ISTAT.BUSY, LG_ISTAT.DONE, LG_ISTAT.NACK,
    LG_ISTAT.PECERR, LG_ISTAT.TXLVL, LG_ISTAT.RXLVL] k) (listsAt [LG_RX] (4 + k)) with hS
  have cell {w : State} {f : Field} {v : Nat} (hf : f ∈ [I_HOLD, I_LEFT, I_PEC, LG_ISTAT.ARBLOST, LG_ISTAT.BUSY,
      LG_ISTAT.DONE, LG_ISTAT.NACK, LG_ISTAT.PECERR, LG_ISTAT.TXLVL, LG_ISTAT.RXLVL]) (hw : s.Within S w) :
      s.Within S (w.put f v k) := hw.put (mem_cellsAt hf)
  have ended {w : State} (stop : Bool) (hw : s.Within S w) : s.Within S (w.icEnd k stop) :=
    hw.icEnd stop (by simp [hS, cellsAt])
  refine logged_of_live (exec_i2cCommandDone k e s) (.ite .refl ?_)
  split
  · exact cell (by simp) (cell (by simp) (ended false .refl))
  · exact cell (by simp) (ended true .refl)
  · refine .ite ?_ (.ite .refl (ended _ (.ite (.emit .refl) .refl)))
    have got (l : List Nat) : s.Within S (s.icTakes k l) := State.Within.refl.foldl fun u b _ =>
      ((State.Within.refl.enq (mem_listsAt (by simp))).periphLevels_i2c (by simp [hS, cellsAt])).put
        (mem_cellsAt (by simp))
    have left (l : List Nat) (v : Nat) := cell (f := I_LEFT) (v := v) (by simp) (got l)
    exact .ite (left _ _) (ended _ (.ite (cell (by simp) (left _ _)) (left _ _)))

theorem i2cTimeout_silent (k : Fin 2) : Silent (.i2cTimeout k) s (cellsAt [I_HOLD, I_LEFT, LG_ISTAT.BUSY, LG_ISTAT.DONE,
    LG_ISTAT.TIMEOUT] k) := by
  have shown : s.Within (.silent (cellsAt [I_HOLD, I_LEFT, LG_ISTAT.BUSY, LG_ISTAT.DONE, LG_ISTAT.TIMEOUT] k))
      ((s.put LG_ISTAT.TIMEOUT 1 k).put I_HOLD 0 k) := .put (.put .refl (by simp [cellsAt])) (by simp [cellsAt])
  refine silent_of_live (exec_i2cTimeout k s) (.ite (.ite (.put (shown.icEnd false ?_) ?_) shown) .refl) <;>
    simp [cellsAt]

theorem i2cAlert_silent (k : Fin 2) (b : Bool) :
    Silent (.i2cAlert k b) s (cellsAt [LG_ISTAT.ALERT, LG_ISTAT.ALERT_LVL] k) := by
  refine silent_of_live (exec_i2cAlert k b s) (.ite (.put (.put .refl ?_) ?_) (.put .refl ?_)) <;> simp [cellsAt]

theorem gpioEdge_silent (g : Fin 32) (b : Bool) : Silent (.gpioEdge g b) s (cellsAt [LG_GPIF.IF]) :=
  silent_of_live (exec_gpioEdge g b s) (.ite (.orBit .refl (by simp [cellsAt])) .refl)

theorem tapReset_silent : Silent .tapReset s (cellsAt [TAP_IR]) :=
  silent_of_live (exec_tapReset s) (.ite .refl (.put .refl (by simp [cellsAt])))

theorem xtInEdge_silent : Silent .xtInEdge s (cellsAt [RV_HALTREQ]) :=
  silent_of_live (exec_xtInEdge s) (.ite (.put .refl (by simp [cellsAt])) .refl)

theorem State.Within.xtDrive (h : s.Within S t) : s.Within S t.xtDrive := .ite h.emit h

theorem State.Within.seqAbort (h : s.Within S t)
    (hk : ∀ c ∈ cellsAt [GH_STATUS.UNLOCK_ABORT] ++ cellsAt [UNL_LEFT, UNL_ABORT] 1 ++ cellsAt [UNL_LEFT, UNL_ABORT] 2,
      c ∈ S.cells) : s.Within S t.seqAbort := by
  refine h.foldl fun u c hc => .ite .refl (.put (.put (.put .refl (hk _ ?_)) (hk _ ?_)) (hk _ ?_)) <;>
    simp only [List.mem_cons, List.not_mem_nil, or_false] at hc <;> rcases hc with rfl | rfl <;> simp [cellsAt]

theorem halt_logged : Logged .halt s (cellsAt [LG_IRQ.HALT, LG_STAT.RESV, LG_STAT.STATE, PW_MODE.HALTED, RV_DCSR,
    RV_HALTREQ, GH_STATUS.UNLOCK_ABORT] ++ cellsAt [RV_CSR] 0x7B1 ++ cellsAt [UNL_LEFT, UNL_ABORT] 1 ++
    cellsAt [UNL_LEFT, UNL_ABORT] 2) [] := by
  refine logged_of_live (exec_halt s) (.ite (.ite ?_ .refl) .refl)
  refine State.Within.xtDrive (State.Within.seqAbort (.put (.ite ?_ (.raise ?_ trivial)) ?_) ?_)
  on_goal 3 => simp [cellsAt]
  on_goal 3 => simp +contextual [cellsAt]
  all_goals
    refine .put (.put (.put (.put (.put (.put .refl ?_) ?_) ?_) ?_) ?_) ?_ <;> simp [cellsAt]

theorem resume_logged : Logged .resume s (cellsAt [DM_RESUMEACK, LG_STAT.STATE, PW_MODE.HALTED, RV_PC, RV_PRIV,
    RV_RESUMEREQ]) [] := by
  refine logged_of_live (exec_resume s) (.ite (State.Within.xtDrive (.raise ?_ trivial)) .refl)
  refine .put (.put (.put (.put (.put (.put .refl ?_) ?_) ?_) ?_) ?_) ?_ <;> simp [cellsAt]

/-! The monitors and calibration. -/

theorem State.Within.tempThr (h : s.Within S t) {k : Nat} (hk : k < 2) (thr : Nat) (c : Rc) (hl : S.logs)
    (hc : ∀ c ∈ cellsAt [BV_IRQ.TEMP, BV_ALERT.TEMP_HIGH, BV_ALERT.TEMP_CRIT] ++ cellsUpTo [TMP_ON] 2, c ∈ S.cells) :
    s.Within S (t.tempThr k thr c) := by
  have on : TMP_ON.key k ∈ S.cells := hc _ (List.mem_append_right _ (mem_cellsUpTo (by simp) hk))
  have cell {f : Field} (hf : f ∈ [BV_IRQ.TEMP, BV_ALERT.TEMP_HIGH, BV_ALERT.TEMP_CRIT]) : f.key 0 ∈ S.cells :=
    hc _ (List.mem_append_left _ (mem_cellsAt hf))
  have told (obj : Nat) : s.Within S ((t.put TMP_ON 1 k).raise c obj) := (h.put on).raise hl
  unfold State.tempThr
  exact .ite (.ite (((told _).put (cell (by simp))).put (cell (by simp))) ((told _).put (cell (by simp)))) (.ite (h.put on) h)

theorem tempSample_logged (l : List (BitVec 12)) : Logged (.tempSample l) s (cellsAt [BV_ALERT.TEMP_CRIT,
    BV_ALERT.TEMP_HIGH, BV_IRQ.TEMP, BV_TEMPMAX.SENSOR, BV_TEMPMAX.VALUE] ++ cellsUpTo [BV_TEMP.VALUE, BV_TEMP.VALID] 16
    ++ cellsUpTo [TMP_ON] 2) [] := by
  intro u hu
  by_cases whole : l.length = 16
  · refine logged_of_live ((exec_tempSample l s).trans (if_neg (not_not.mpr whole))) ?_ u hu
    refine (State.Within.tempThr (.put (.put (.foldl .refl fun u k hk => .put (.put .refl ?_) ?_) ?_) ?_) ?_ _ _ trivial
      ?_).tempThr ?_ _ _ trivial ?_
    · simp [mem_cellsUpTo, List.mem_range.mp hk]
    · simp [mem_cellsUpTo, List.mem_range.mp hk]
    all_goals simp +contextual [cellsAt, or_imp]
  · rw [exec_tempSample, execTempSample, if_pos whole] at hu
    cases hu

/-- The cells that a sample of rail r reaches. -/
theorem State.Within.railSide (h : s.Within S t) {r : Nat} (hr : r < 7) (high out : Bool) (hl : S.logs)
    (hc : ∀ c ∈ cellsAt [BV_ALERT.RAIL, BV_IRQ.RAIL] ++ cellsUpTo [BV_RAIL.MV, BV_RAIL.LOW, BV_RAIL.HIGH] 7 ++
      cellsUpTo [RAIL_CNT] 15, c ∈ S.cells) : s.Within S (t.railSide r high out) := by
  have count : RAIL_CNT.key (if high then r + 8 else r) ∈ S.cells :=
    hc _ (List.mem_append_right _ (mem_cellsUpTo (by simp) (by split <;> omega)))
  have side : (if high then BV_RAIL.HIGH else BV_RAIL.LOW).key r ∈ S.cells :=
    hc _ (List.mem_append_left _ (List.mem_append_right _ (mem_cellsUpTo (by cases high <;> simp) hr)))
  have one {f : Field} (hf : f ∈ [BV_ALERT.RAIL, BV_IRQ.RAIL]) : f.key 0 ∈ S.cells :=
    hc _ (List.mem_append_left _ (List.mem_append_left _ (mem_cellsAt hf)))
  unfold State.railSide
  refine .ite (h.put count) (.ite h (.ite (h.put count) (.raise ?_ hl)))
  exact (((h.put count).put side).put (one (by simp))).put (one (by simp))

theorem railSample_logged (l : List (BitVec 12)) (b : Bool) : Logged (.railSample l b) s (cellsAt [BV_ALERT.RAIL,
    BV_IRQ.RAIL] ++ cellsUpTo [BV_RAIL.MV, BV_RAIL.LOW, BV_RAIL.HIGH] 7 ++ cellsUpTo [RAIL_CNT] 15) [] := by
  intro u hu
  by_cases whole : l.length = 7
  · refine logged_of_live ((exec_railSample l b s).trans (if_neg (not_not.mpr whole))) ?_ u hu
    refine .foldl .refl fun u r hr => ?_
    have hr := List.mem_range.mp hr
    have shown (v : Nat) := State.Within.put (s := u) (S := .logged (cellsAt [BV_ALERT.RAIL, BV_IRQ.RAIL] ++
      cellsUpTo [BV_RAIL.MV, BV_RAIL.LOW, BV_RAIL.HIGH] 7 ++ cellsUpTo [RAIL_CNT] 15) []) .refl (f := BV_RAIL.MV)
      (v := v) (i := r) (by simp [mem_cellsUpTo, hr])
    exact .ite (shown _) (((shown _).railSide hr _ _ trivial fun _ hc => hc).railSide hr _ _ trivial fun _ hc => hc)
  · rw [exec_railSample, execRailSample, if_pos whole] at hu
    cases hu

theorem scrubStarved_logged : Logged .scrubStarved s (cellsAt [BV_IRQ.STARVED, BV_ALERT.STARVED]) [] := by
  refine logged_of_live (exec_scrubStarved s) (.ite (.raise (.put (.put .refl ?_) ?_) trivial) .refl) <;> simp [cellsAt]

theorem dlCalibrationStart_silent : Silent .dlCalibrationStart s (cellsAt [BV_DLSTAT.BUSY]) :=
  silent_of_live (exec_dlCalibrationStart s) (.ite (.put .refl (by simp [cellsAt])) .refl)

theorem State.Within.avsRead (h : s.Within S t) (hc : ∀ c ∈ cellsAt [AVS_PHASE, AVS_TRIES], c ∈ S.cells) :
    s.Within S t.avsRead :=
  .ite (h.put (hc _ (mem_cellsAt (by simp)))) ((h.put (hc _ (mem_cellsAt (by simp)))).avsSend 3
    (hc _ (mem_cellsAt (by simp))))

theorem State.Within.dlDone (h : s.Within S t) (last : Bool)
    (hc : ∀ c ∈ cellsAt [AVS_PHASE, AVS_TRIES, BV_DLSTAT.BUSY], c ∈ S.cells) : s.Within S (t.dlDone last) := by
  have idle : s.Within S (t.put BV_DLSTAT.BUSY 0) := h.put (hc _ (mem_cellsAt (by simp)))
  refine .ite (.ite (idle.avsRead fun c hm => hc c ?_) idle) h
  rcases List.mem_map.mp hm with ⟨f, hf, rfl⟩
  exact mem_cellsAt (List.mem_append_left [BV_DLSTAT.BUSY] hf)

theorem dlSwap_silent (b : Bool) : Silent (.dlSwap b) s (cellsAt [AVS_PHASE, AVS_TRIES, BV_DLSTAT.BUSY]) :=
  silent_of_live (exec_dlSwap b s) (State.Within.refl.dlDone b fun _ hc => hc)

theorem dlForcedSwap_logged (p : Fin 64) (b : Bool) : Logged (.dlForcedSwap p b) s (cellsAt [AVS_PHASE, AVS_TRIES,
    BV_DLSTAT.BUSY, BV_DLSTAT.FORCED, BV_IRQ.CAL]) [] := by
  have forced : s.Within (.logged (cellsAt [AVS_PHASE, AVS_TRIES, BV_DLSTAT.BUSY, BV_DLSTAT.FORCED, BV_IRQ.CAL]) [])
      ((s.count BV_DLSTAT.FORCED 1).put BV_IRQ.CAL 1) := .put (.count .refl (by simp [cellsAt])) (by simp [cellsAt])
  exact logged_of_live (exec_dlForcedSwap p b s) (.ite .refl (State.Within.dlDone (.ite (forced.raise trivial) forced) b
    (by simp [cellsAt])))

/-! The SMBus target (R758 to R761). -/

theorem State.Within.smbViolation (h : s.Within S t) {kind : Nat} (hk : kind < 7) (hl : S.logs)
    (hc : ∀ c ∈ smbCells, c ∈ S.cells) : s.Within S (t.smbViolation kind) := by
  have seen {u : State} {v k : Nat} (hk : k < 7) (hu : s.Within S u) : s.Within S (u.put SMB_SEEN v k) :=
    hu.put (hc _ (List.mem_append_right _ (mem_cellsUpTo (by simp) hk)))
  have cell {f : Field} (hf : f ∈ [BV_IRQ.SMB, BV_SMBSTAT.PECERR, BV_SMBSTAT.PROTO]) : f.key 0 ∈ S.cells :=
    hc _ (List.mem_append_left _ (mem_cellsAt hf))
  have first : s.Within S (if t.get BV_SMBSTAT.PECERR = 0 then t.put SMB_SEEN 0 1 else t) := .ite (seen (by decide) h) h
  have again (u : State) (hu : s.Within S u) :
      s.Within S ([2, 3, 4, 5, 6].foldl (fun u k => u.put SMB_SEEN 0 k) u) := by
    simp only [List.foldl_cons, List.foldl_nil]
    exact seen (by decide) (seen (by decide) (seen (by decide) (seen (by decide) (seen (by decide) hu))))
  unfold State.smbViolation
  dsimp only
  have counted {u : State} (hu : s.Within S u) := (seen (v := 1) hk (hu.count (n := 1) (i := 0)
    (f := if kind = 1 then BV_SMBSTAT.PECERR else BV_SMBSTAT.PROTO) (cell (by split <;> simp)))).put (v := 1)
    (cell (f := BV_IRQ.SMB) (by simp))
  refine .ite (.raise (counted ?_) hl) (counted ?_) <;> exact .ite (again _ first) first

theorem State.Within.smbAt (h : s.Within S t) (cmd : Nat) {k : State → State} (hk : s.Within S (k t)) :
    s.Within S (t.smbAt cmd k) := .ite h (.ite h.emit hk)

theorem State.Within.smbRead (h : s.Within S t) (cmd : Nat) (r : SmbRead) (data : List Nat) {after : State → State}
    (hl : S.logs) (hc : ∀ c ∈ smbCells, c ∈ S.cells) (ha : s.Within S (after t)) :
    s.Within S (t.smbRead cmd r data after) := by
  refine h.smbAt cmd ?_
  cases r with
  | cut => exact .ite (h.smbViolation (by decide) hl hc) h
  | whole pec => exact ha.emit
  | past n => exact ha.emit

theorem State.Within.smbWrite (h : s.Within S t) (cmd n v : Nat) (pec : Option (BitVec 8)) (ok : Bool)
    {k : State → State} (hl : S.logs) (hc : ∀ c ∈ smbCells, c ∈ S.cells) (hk : s.Within S (k t)) :
    s.Within S (t.smbWrite cmd n v pec ok k) :=
  h.smbAt cmd (.ite (h.smbViolation (by decide) hl hc) (.ite hk (h.smbViolation (by decide) hl hc)))

/-- A read of whatever command writes what a violation writes at most. -/
theorem logged_of_smbValue {c : Instr} {cmd : Nat} {r : SmbRead} {data : State → List Nat}
    (hc : exec c s = live s fun s => s.smbValue cmd r (data s)) : Logged c s smbCells [] :=
  logged_of_live hc (State.Within.refl.smbRead cmd r _ trivial (fun _ hm => hm) .refl)

theorem mem_smbCells_right {keys : List Nat} : ∀ c ∈ smbCells, c ∈ keys ++ smbCells :=
  fun _ hc => List.mem_append_right _ hc

theorem logStat_logged (r : SmbRead) : Logged (.logStat r) s (cellsAt [EV_IRQ.OVR] ++ smbCells) [] :=
  logged_of_live (exec_logStat r s) (State.Within.refl.smbRead _ r _ trivial mem_smbCells_right
    (.andBit .refl (by simp [cellsAt])))

theorem logNext_logged (r : SmbRead) (b : Bool) : Logged (.logNext r b) s (cellsAt [EV_CUR.SEQ] 2 ++ smbCells) [] :=
  logged_of_live (exec_logNext r b s) (State.Within.refl.smbRead _ r _ trivial mem_smbCells_right
    (.ite .refl (.put .refl (by simp [cellsAt]))))

theorem tempSel_logged (a : SmbAccess 8) : Logged (.tempSel a) s (cellsAt [SMB_SEL] ++ smbCells) [] := by
  refine logged_of_live (exec_tempSel a s) ?_
  cases a with
  | read r => exact State.Within.refl.smbRead _ r _ trivial mem_smbCells_right .refl
  | write d pec => exact State.Within.refl.smbWrite _ _ _ _ _ trivial mem_smbCells_right (.put .refl (by simp [cellsAt]))

theorem railSel_logged (a : SmbAccess 8) : Logged (.railSel a) s (cellsAt [SMB_RSEL] ++ smbCells) [] := by
  refine logged_of_live (exec_railSel a s) ?_
  cases a with
  | read r => exact State.Within.refl.smbRead _ r _ trivial mem_smbCells_right .refl
  | write d pec => exact State.Within.refl.smbWrite _ _ _ _ _ trivial mem_smbCells_right (.put .refl (by simp [cellsAt]))

theorem alertMask_logged (a : SmbAccess 16) : Logged (.alertMask a) s (cellsAt [BV_ALERTMASK.MASK] ++ smbCells) [] := by
  refine logged_of_live (exec_alertMask a s) ?_
  cases a with
  | read r => exact State.Within.refl.smbRead _ r _ trivial mem_smbCells_right .refl
  | write d pec => exact State.Within.refl.smbWrite _ _ _ _ _ trivial mem_smbCells_right (.put .refl (by simp [cellsAt]))

theorem State.Within.alertSettle (h : s.Within S t) (hc : SMB_REL.key 0 ∈ S.cells) : s.Within S t.alertSettle :=
  .ite (h.put hc) h

theorem alertClr_logged (w : BitVec 16) (p : Option (BitVec 8)) : Logged (.alertClr w p) s
    (cellsAt (BV_ALERT.reg.fields ++ [SMB_OLD, SMB_REL]) ++ smbCells) [] := by
  have cell {f : Field} (hf : f ∈ BV_ALERT.reg.fields ++ [SMB_OLD, SMB_REL]) :
      f.key 0 ∈ cellsAt (BV_ALERT.reg.fields ++ [SMB_OLD, SMB_REL]) ++ smbCells :=
    List.mem_append_left _ (mem_cellsAt hf)
  have cleared (v : Nat) : s.Within (.logged (cellsAt (BV_ALERT.reg.fields ++ [SMB_OLD, SMB_REL]) ++ smbCells) [])
      (BV_ALERT.reg.fields.foldl (fun u f => if bit v f.lo then u.put f 0 else u) s.alertSettle) :=
    .foldl (State.Within.refl.alertSettle (cell (by simp))) fun u f hf =>
      .ite (.put .refl (cell (List.mem_append_left _ hf))) .refl
  have old (v n : Nat) := (cleared v).put (f := SMB_OLD) (v := n) (i := 0) (cell (by simp))
  exact logged_of_live (exec_alertClr w p s) (State.Within.refl.smbWrite _ _ _ _ _ trivial mem_smbCells_right
    (.ite (old _ _) ((old _ _).put (cell (by simp)))))

theorem alertResponseAddress_silent (b : Bool) : Silent (.alertResponseAddress b) s (cellsAt [SMB_OLD, SMB_REL]) := by
  refine silent_of_live (exec_alertResponseAddress b s) (.ite (.emit (.put (.put (State.Within.refl.alertSettle ?_) ?_)
    ?_)) .refl) <;> simp [cellsAt]

theorem smbSclTimeout_logged : Logged .smbSclTimeout s smbCells [] :=
  logged_of_live (exec_smbSclTimeout s) (.ite (State.Within.refl.smbViolation (by decide) trivial fun _ hc => hc) .refl)

/-- Settles O56: each clause by the scope of its command's effect. -/
theorem lodgeAndUpkeepHappeningsKeepTheRest : Obligations.LodgeAndUpkeepHappeningsKeepTheRest := by
  unfold Obligations.LodgeAndUpkeepHappeningsKeepTheRest
  intro s
  exact ⟨machineTimer_silent, uartFrameReceived_logged, uartFrameSent_logged, spiByteDone_logged, i2cCommandDone_logged,
    i2cTimeout_silent, i2cAlert_silent, gpioEdge_silent, tapReset_silent, xtInEdge_silent, halt_logged, resume_logged,
    tempSample_logged, railSample_logged, scrubStarved_logged, dlCalibrationStart_silent, dlSwap_silent,
    dlForcedSwap_logged, fun r => logged_of_smbValue (exec_ident r s), fun r => logged_of_smbValue (exec_smbStatus r s),
    fun r => logged_of_smbValue (exec_smbAddr r s), fun r => logged_of_smbValue (exec_tempMax r s),
    fun r => logged_of_smbValue (exec_smbTemp r s), fun r => logged_of_smbValue (exec_smbRail r s),
    fun r => logged_of_smbValue (exec_vcoreCmd r s), fun r => logged_of_smbValue (exec_icore r s),
    fun r => logged_of_smbValue (exec_paceMin r s), fun r => logged_of_smbValue (exec_paceReq r s),
    fun r => logged_of_smbValue (exec_errsum r s), fun r => logged_of_smbValue (exec_alertStat r s),
    fun r b => logged_of_smbValue (exec_logPeek r b s), logStat_logged, logNext_logged, tempSel_logged, railSel_logged,
    alertMask_logged, alertClr_logged, alertResponseAddress_silent, smbSclTimeout_logged⟩

end Sys2Proof.Machine
end

section
/-! O54: what the happenings of meters, gates, clocks, crossings, time, timers, pins and lanes leave as it was. -/

namespace Sys2Proof.Machine

section Clauses

variable {s t : State} {S : Scope}

/-! Domains, pace and voltage. -/

theorem State.Within.releaseNext (h : s.Within S t) (hl : REL_LEFT.key 0 ∈ S.cells)
    (hd : ∀ c ∈ cellsUpTo [DOM_RESET] 16, c ∈ S.cells) : s.Within S t.releaseNext := by
  have skipped : s.Within S ((List.range 16).foldl
      (fun u d => if bit (u.get REL_LEFT) d && u.domainWanted d then u.andBit REL_LEFT d else u) t) :=
    h.foldl fun u d _ => .ite (.andBit .refl hl) .refl
  unfold State.releaseNext
  dsimp only
  split
  next d found =>
    exact (skipped.put (hd _ (mem_cellsUpTo (by simp) (List.mem_range.mp (List.mem_of_find?_eq_some found))))).andBit hl
  · exact skipped

theorem domainReleaseSlot_silent : Silent .domainReleaseSlot s (cellsAt [REL_LEFT] ++ cellsUpTo [DOM_RESET] 16) :=
  silent_of_live (exec_domainReleaseSlot s) (.ite (.releaseNext .refl (by simp [cellsAt]) fun _ hc =>
    List.mem_append_right _ hc) .refl)

theorem avsSettleEnd_silent : Silent .avsSettleEnd s (cellsAt [AVS_PHASE, AVS_TRIES, GOV_FRESH]) := by
  refine silent_of_live (exec_avsSettleEnd s) (.ite (.avsRead (.put .refl ?_) ?_) (.ite (.avsSend (.put .refl ?_) _ ?_)
    .refl)) <;> simp [cellsAt]

theorem avsStatusPoll_silent : Silent .avsStatusPoll s (cellsAt [AVS_PHASE, AVS_TRIES]) := by
  refine silent_of_live (exec_avsStatusPoll s) (.ite .refl (.avsSend (.put .refl ?_) _ ?_)) <;> simp [cellsAt]

/-- The choices of a governor period, by the cells that a committed voltage writes and the period's count. -/
theorem State.Within.periodStep (h : s.Within S t) (hd : GOV_DOWN.key 0 ∈ S.cells)
    (hc : ∀ c ∈ State.Within.commitCells, c ∈ S.cells) : s.Within S t.periodStep :=
  .ite ((h.put hd).commit _ hc) (.ite (.ite ((h.put hd).commit _ hc) (h.put hd)) (h.put hd))

theorem State.Within.paceRestored (h : s.Within S t) (hl : S.logs) (hs : PW_GOVSTAT.SHORT.key 0 ∈ S.cells)
    (hst : PW_GOVSTAT.STATE.key 0 ∈ S.cells) : s.Within S t.paceRestored := by
  have shown : s.Within S ((t.put PW_GOVSTAT.SHORT 0).put PW_GOVSTAT.STATE 1) := (h.put hs).put hst
  unfold State.paceRestored
  split
  · exact .ite (shown.raise hl) h
  · exact .ite shown h

theorem mem_keys_of_subset {fs gs : List Field} {i : Nat} (h : fs ⊆ gs) : ∀ c ∈ cellsAt fs i, c ∈ cellsAt gs i :=
  fun _ hc => List.map_subset _ h hc

theorem governorPeriod_logged : Logged .governorPeriod s (cellsAt [AVS_MISMATCHED, AVS_NEXT, AVS_PHASE, AVS_REPEATED,
    AVS_TARGET, AVS_TRIES, GOV_DOWN, PW_GOVSTAT.FLOOR, PW_GOVSTAT.SHORT, PW_GOVSTAT.STATE]) [] := by
  refine logged_of_live (exec_governorPeriod s) (.ite .refl ?_)
  have shown (v : Nat) := ((State.Within.refl (s := s)).paceRestored (S := .logged (cellsAt [AVS_MISMATCHED, AVS_NEXT,
    AVS_PHASE, AVS_REPEATED, AVS_TARGET, AVS_TRIES, GOV_DOWN, PW_GOVSTAT.FLOOR, PW_GOVSTAT.SHORT, PW_GOVSTAT.STATE]) [])
    trivial (by simp [cellsAt]) (by simp [cellsAt])).put (f := PW_GOVSTAT.FLOOR) (v := v) (i := 0) (by simp [cellsAt])
  have written {u : State} {v : Nat} (hu : s.Within (.logged (cellsAt [AVS_MISMATCHED, AVS_NEXT, AVS_PHASE, AVS_REPEATED,
      AVS_TARGET, AVS_TRIES, GOV_DOWN, PW_GOVSTAT.FLOOR, PW_GOVSTAT.SHORT, PW_GOVSTAT.STATE]) []) u) :=
    hu.commit v (mem_keys_of_subset (by simp))
  exact .ite (shown _) (.ite (written (shown _)) (.ite (written (shown _)) (.ite ((shown _).periodStep
    (by simp [cellsAt]) (mem_keys_of_subset (by simp))) (shown _))))

theorem paceShort_logged : Logged .paceShort s (cellsAt [PW_GOVSTAT.SHORT, PW_GOVSTAT.STATE, PW_GOVIRQ.SHORT_SEEN,
    BV_ALERT.PACE_SHORT]) [] := by
  refine logged_of_live (exec_paceShort s) ?_
  cases s.slowest with
  | none => exact .refl
  | some p => refine .ite (.raise (.put (.put (.put (.put .refl ?_) ?_) ?_) ?_) trivial) .refl <;> simp [cellsAt]

theorem State.Within.meterWindow (h : s.Within S t) {p : Nat} (n : Nat) (hl : S.logs)
    (hf : PW_GOVIRQ.METER_FAULT.key 0 ∈ S.cells)
    (hc : ∀ c ∈ cellsAt [METER_OOR, PW_METER.FAULT, PW_METER.INDEX, PW_METER.SEQ, PW_METER.VALID] p, c ∈ S.cells) :
    s.Within S (t.meterWindow p n) := by
  have cell {f : Field} (hm : f ∈ [METER_OOR, PW_METER.FAULT, PW_METER.INDEX, PW_METER.SEQ, PW_METER.VALID]) :
      f.key p ∈ S.cells := hc _ (mem_cellsAt hm)
  have counted := ((h.put (f := PW_METER.INDEX) (v := paceIndex n (t.get METER_GAIN p)) (i := p) (cell (by simp))).put
    (f := PW_METER.VALID) (v := 1) (i := p) (cell (by simp))).put (f := PW_METER.SEQ) (v := t.get PW_METER.SEQ p + 1)
    (i := p) (cell (by simp))
  unfold State.meterWindow
  exact .ite (.ite ((((counted.put (cell (by simp))).put (cell (by simp))).raise hl).put hf)
    (counted.put (cell (by simp)))) (counted.put (cell (by simp)))

theorem State.Within.fastRaise (h : s.Within S t) (hq : AVS_FASTQ.key 0 ∈ S.cells)
    (hc : ∀ c ∈ State.Within.commitCells, c ∈ S.cells) : s.Within S t.fastRaise :=
  .ite (.ite (h.put hq) (h.commit _ hc)) h

theorem paceWindowEnd_logged (l : List Nat) : Logged (.paceWindowEnd l) s (cellsAt [AVS_FASTQ, AVS_MISMATCHED,
    AVS_NEXT, AVS_PHASE, AVS_REPEATED, AVS_TARGET, AVS_TRIES, GOV_FRESH, PW_GOVIRQ.METER_FAULT, PW_GOVSTAT.MINIDX] ++
    cellsUpTo [METER_OOR, PW_METER.FAULT, PW_METER.INDEX, PW_METER.SEQ, PW_METER.VALID] 64) [] := by
  intro u hu
  by_cases whole : l.length = 64
  · refine logged_of_live ((exec_paceWindowEnd l s).trans (if_neg (not_not.mpr whole))) (.ite .refl (.fastRaise
      (.put (.put (.foldl .refl fun u p hp => .meterWindow .refl _ trivial ?_ fun c hc => ?_) ?_) ?_) ?_ fun c hc => ?_))
      u hu
    case refine_2 =>
      obtain ⟨f, hf, rfl⟩ := List.mem_map.mp hc
      exact List.mem_append_right _ (mem_cellsUpTo hf (List.mem_range.mp hp))
    case refine_6 =>
      obtain ⟨f, hf, rfl⟩ := List.mem_map.mp hc
      refine List.mem_append_left _ (mem_cellsAt ?_)
      exact (by simp : ([AVS_TARGET, AVS_TRIES, AVS_REPEATED, AVS_MISMATCHED, AVS_PHASE, AVS_NEXT] : List Field) ⊆
        [AVS_FASTQ, AVS_MISMATCHED, AVS_NEXT, AVS_PHASE, AVS_REPEATED, AVS_TARGET, AVS_TRIES, GOV_FRESH,
          PW_GOVIRQ.METER_FAULT, PW_GOVSTAT.MINIDX]) hf
    all_goals simp [cellsAt]
  · cases ((exec_paceWindowEnd l s).trans (if_pos whole)).symm.trans hu

/-! Gates and event lines. -/

theorem gateInboundRequest_silent (p : Fin 64) (b : Bool) : Silent (.gateInboundRequest p b) s (cellsAt
    [FB_PCNT.SINKED, FB_PSTAT.HOLDING, GATE_HELD, GATE_SINK, STALLED] p) := by
  refine silent_of_live (exec_gateInboundRequest p b s) (.ite .refl (.ite (.emit (.put .refl ?_)) (.ite (.put (.put .refl
    ?_) ?_) (.ite (.put (.put .refl ?_) ?_) (.count .refl ?_))))) <;> simp [cellsAt]

theorem State.Within.gateError (h : s.Within S t) (c : Rc) {f : Field} {p : Nat} (wire : Nat) (avenue inbound : Bool)
    (side : Nat) (hl : S.logs) (hf : f.key p ∈ S.cells) (he : FB_PSTAT.ERR.key p ∈ S.cells)
    (hi : FB_IRQ.HEDGE_ERR.key 0 ∈ S.cells) : s.Within S (t.gateError c f p wire avenue inbound side) :=
  ((((h.count hf).put he).raise hl).put hi)

theorem hedgeProtocolViolation_logged (p : Fin 64) (w : BitVec 6) (a b : Bool) (d : BitVec 2) :
    Logged (.hedgeProtocolViolation p w a b d) s (cellsAt [FB_IRQ.HEDGE_ERR] ++ cellsAt [FB_PERR.PROTO, FB_PSTAT.ERR] p)
      [] := by
  refine logged_of_live (exec_hedgeProtocolViolation p w a b d s) (.ite (.gateError .refl _ _ _ _ _ trivial ?_ ?_ ?_)
    .refl) <;> simp [cellsAt]

theorem drIllegalCode_logged (p : Fin 64) (w : BitVec 6) (a b : Bool) (d : BitVec 2) :
    Logged (.drIllegalCode p w a b d) s (cellsAt [FB_IRQ.HEDGE_ERR] ++ cellsAt [FB_PERR.ILLEGAL, FB_PSTAT.ERR] p)
      [] := by
  refine logged_of_live (exec_drIllegalCode p w a b d s) (.ite (.gateError .refl _ _ _ _ _ trivial ?_ ?_ ?_) .refl) <;>
    simp [cellsAt]

theorem stallDetected_logged (p : Fin 64) :
    Logged (.stallDetected p) s (cellsAt [FB_IRQ.STALL] ++ cellsAt [FB_PSTAT.QUIET, STALLED] p) [] := by
  refine logged_of_live (exec_stallDetected p s) (.ite (.put (.raise (.put (.put .refl ?_) ?_) trivial) ?_) .refl) <;>
    simp [cellsAt]

theorem eventLineDeliver_silent (l : Fin 64) : Silent (.eventLineDeliver l) s (cellsAt [EL_PEND] l) :=
  silent_of_live (exec_eventLineDeliver l s) (.ite .refl (.emit (.put .refl (by simp [cellsAt]))))

theorem eventLineToken_logged (l : Fin 64) : Logged (.eventLineToken l) s (cellsAt [FB_ELOVR_LO.OVR, FB_ELOVR_HI.OVR,
    FB_IRQ.EL_OVR] ++ cellsAt [EL_PEND] l) [] := by
  have noted : s.Within (.logged (cellsAt [FB_ELOVR_LO.OVR, FB_ELOVR_HI.OVR, FB_IRQ.EL_OVR] ++ cellsAt [EL_PEND] l) [])
      ((s.orBit (if l.val < 32 then FB_ELOVR_LO.OVR else FB_ELOVR_HI.OVR) (l.val % 32)).put FB_IRQ.EL_OVR 1) := by
    refine .put (.orBit .refl ?_) ?_
    · split <;> simp [cellsAt]
    · simp [cellsAt]
  exact logged_of_live (exec_eventLineToken l s) (.ite (.ite (.ite (noted.raise trivial) noted) (.put .refl
    (by simp [cellsAt]))) .refl)

theorem uiLineChange_silent (k : Fin 16) (p : Fin 64) (b : Bool) :
    Silent (.uiLineChange k p b) s (cellsAt [UI_LINE, UI_WANT] k) := by
  refine silent_of_live (exec_uiLineChange k p b s) (.ite (.ite (.put (.put .refl ?_) ?_) (.put .refl ?_)) .refl) <;>
    simp [cellsAt]

/-! Clocks. -/

theorem freqMeterDone_silent (n : BitVec 40) :
    Silent (.freqMeterDone n) s (cellsAt [CK_FMRES.COUNT, CK_FMCTL.BUSY, CK_FMCTL.DONE]) := by
  refine silent_of_live (exec_freqMeterDone n s) (.ite (.put (.put (.put .refl ?_) ?_) ?_) .refl) <;> simp [cellsAt]

theorem refLoss_logged (c : Fin 13) : Logged (.refLoss c) s (cellsAt [CK_IRQ.REF_LOS, CK_REFLOS.LOST,
    CK_REFSTAT.PRESENT, REF_WAS_LOST]) [] := by
  refine logged_of_live (exec_refLoss c s) (.ite (.raise (.put (.orBit (.orBit (.andBit .refl ?_) ?_) ?_) ?_) trivial)
    .refl) <;> simp [cellsAt]

theorem refRestored_logged (c : Fin 13) : Logged (.refRestored c) s (cellsAt [CK_REFSTAT.PRESENT, REF_WAS_LOST]) [] := by
  refine logged_of_live (exec_refRestored c s) (.ite (.ite (.raise (.andBit (.orBit .refl ?_) ?_) trivial)
    (.orBit .refl ?_)) .refl) <;> simp [cellsAt]

theorem State.Within.synTimeout (h : s.Within S t) {k : Nat} (hl : S.logs) (hi : CK_IRQ.LOCK_TO.key 0 ∈ S.cells)
    (hc : ∀ c ∈ cellsAt [CK_SYNSTAT.STATE, CK_SYNSTAT.BUSY] k, c ∈ S.cells) : s.Within S (t.synTimeout k) :=
  .ite ((((h.put (hc _ (mem_cellsAt (by simp)))).put (hc _ (mem_cellsAt (by simp)))).put hi).raise hl) h

theorem State.Within.tbFollow (h : s.Within S t)
    (hc : ∀ c ∈ cellsAt [SYN0_HOLD, BS_TBSTAT.STATE, BS_IRQ.TB], c ∈ S.cells) : s.Within S t.tbFollow := by
  have shown (v w : Nat) : s.Within S ((t.put SYN0_HOLD v).put BS_TBSTAT.STATE w) :=
    (h.put (hc _ (mem_cellsAt (by simp)))).put (hc _ (mem_cellsAt (by simp)))
  exact .ite (shown _ _) ((shown _ _).put (hc _ (mem_cellsAt (by simp))))

theorem State.Within.synSteady (h : s.Within S t) {k : Nat} (hl : S.logs) (hi : CK_IRQ.DONE.key 0 ∈ S.cells)
    (hc : ∀ c ∈ cellsAt [CK_OSTAT.PHASE, CK_SYNSTAT.BUSY, CK_SYNSTAT.STATE, STAGE_FREQ] k, c ∈ S.cells) :
    s.Within S (t.synSteady k) := by
  have cell {f : Field} (hf : f ∈ [CK_OSTAT.PHASE, CK_SYNSTAT.BUSY, CK_SYNSTAT.STATE, STAGE_FREQ]) :
      f.key k ∈ S.cells := hc _ (mem_cellsAt hf)
  have steady := ((h.put (f := STAGE_FREQ) (v := t.get STAGE_NEXT k) (cell (by simp))).put (f := CK_OSTAT.PHASE)
    (v := phSTEADY) (cell (by simp))).put (f := CK_SYNSTAT.STATE) (v := ckLOCKED) (cell (by simp))
  exact .raise (.ite ((steady.put (cell (by simp))).put hi) steady) hl

theorem State.Within.synLock (h : s.Within S t) {k : Nat} (hl : S.logs) (hi : CK_IRQ.DONE.key 0 ∈ S.cells)
    (hc : ∀ c ∈ cellsAt [CK_OSTAT.PHASE, CK_SYNSTAT.BUSY, CK_SYNSTAT.STATE, STAGE_FREQ] k, c ∈ S.cells) :
    s.Within S (t.synLock k) := by
  have cell {f : Field} (hf : f ∈ [CK_OSTAT.PHASE, CK_SYNSTAT.BUSY, CK_SYNSTAT.STATE, STAGE_FREQ]) :
      f.key k ∈ S.cells := hc _ (mem_cellsAt hf)
  exact .ite (.ite (h.synSteady hl hi hc) ((h.put (cell (by simp))).put (cell (by simp)))) (.ite (.ite (h.synSteady hl
    hi hc) (h.put (cell (by simp)))) h)

/-- What the lock of SYN0 writes (R282, R283). -/
theorem State.Within.syn0Lock (h : s.Within S t) (hl : S.logs) (hi : CK_IRQ.DONE.key 0 ∈ S.cells)
    (hc : ∀ c ∈ cellsAt [CK_OSTAT.PHASE, CK_SYNSTAT.BUSY, CK_SYNSTAT.STATE, STAGE_FREQ], c ∈ S.cells)
    (ht : ∀ c ∈ cellsAt [TCOUNT, BS_TBSTAT.RUNNING, BS_TBSTAT.EPOCH, BS_TBSTAT.EPOCH_GEN], c ∈ S.cells)
    (hf : ∀ c ∈ cellsAt [SYN0_HOLD, BS_TBSTAT.STATE, BS_IRQ.TB], c ∈ S.cells) : s.Within S t.syn0Lock := by
  have locked := h.synLock hl hi hc
  have cell {f : Field} (hf : f ∈ [TCOUNT, BS_TBSTAT.RUNNING, BS_TBSTAT.EPOCH, BS_TBSTAT.EPOCH_GEN]) :
      f.key 0 ∈ S.cells := ht _ (mem_cellsAt hf)
  exact .tbFollow (.ite (((((locked.put (cell (by simp))).put (cell (by simp))).put (cell (by simp))).put
    (cell (by simp))).raise hl) locked) hf

theorem synLockTimeout_logged (k : Fin 6) : Logged (.synLockTimeout k) s (cellsAt [BS_IRQ.TB, BS_TBSTAT.STATE,
    CK_IRQ.LOCK_TO, SYN0_HOLD] ++ cellsAt [CK_SYNSTAT.STATE, CK_SYNSTAT.BUSY] k) [] := by
  have timed : s.Within (.logged (cellsAt [BS_IRQ.TB, BS_TBSTAT.STATE, CK_IRQ.LOCK_TO, SYN0_HOLD] ++
      cellsAt [CK_SYNSTAT.STATE, CK_SYNSTAT.BUSY] k) []) (s.synTimeout k) :=
    .synTimeout .refl trivial (by simp [cellsAt]) fun _ hc => List.mem_append_right _ hc
  refine logged_of_live (exec_synLockTimeout k s) (.ite .refl ?_)
  by_cases first : k = 0
  · subst first
    exact timed.tbFollow (by simp [cellsAt])
  · rwa [if_neg first]

theorem synLocked_logged (k : Fin 6) : Logged (.synLocked k) s (cellsAt [BS_IRQ.TB, BS_TBSTAT.EPOCH,
    BS_TBSTAT.EPOCH_GEN, BS_TBSTAT.RUNNING, BS_TBSTAT.STATE, CK_IRQ.DONE, SYN0_HOLD, TCOUNT] ++ cellsAt [CK_OSTAT.PHASE,
    CK_SYNSTAT.BUSY, CK_SYNSTAT.STATE, STAGE_FREQ] k) [] := by
  refine logged_of_live (exec_synLocked k s) (.ite .refl ?_)
  by_cases first : k = 0
  · subst first
    refine State.Within.syn0Lock .refl trivial ?_ ?_ ?_ ?_ <;> simp [cellsAt]
  · rw [if_neg first]
    exact .synLock .refl trivial (by simp [cellsAt]) fun _ hc => List.mem_append_right _ hc

/-! Pins and lanes. -/

theorem vioRestored_silent (b : Fin 12) (v : BitVec 3) :
    Silent (.vioRestored b v) s (cellsAt [IO_BSTAT.OK, IO_BSTAT.VDET] b) := by
  refine silent_of_live (exec_vioRestored b v s) (.put (.put .refl ?_) ?_) <;> simp [cellsAt]

theorem vioLost_logged (b : Fin 12) (v : BitVec 3) :
    Logged (.vioLost b v) s (cellsAt [IO_IRQ.VIO] ++ cellsAt [IO_BSTAT.OK, IO_BSTAT.VDET] b) [] := by
  refine logged_of_live (exec_vioLost b v s) (.ite (.put (.raise (.put (.put .refl ?_) ?_) trivial) ?_)
    (.put (.put .refl ?_) ?_)) <;> simp [cellsAt]

theorem State.Within.quadSteady (h : s.Within S t) {q : Nat}
    (hc : ∀ c ∈ cellsAt [SL_QSTAT.STATE, SL_QSTAT.BUSY] q, c ∈ S.cells)
    (ho : ∀ c ∈ cellsAt [STAGE_FREQ, CK_OSTAT.PHASE] (6 + q), c ∈ S.cells) : s.Within S (t.quadSteady q) :=
  (((h.put (ho _ (mem_cellsAt (by simp)))).put (ho _ (mem_cellsAt (by simp)))).put (hc _ (mem_cellsAt (by simp)))).put
    (hc _ (mem_cellsAt (by simp)))

theorem qpllLocked_silent (q : Fin 10) : Silent (.qpllLocked q) s (cellsAt [SL_QSTAT.STATE, SL_QSTAT.BUSY] q ++
    cellsAt [STAGE_FREQ, CK_OSTAT.PHASE] (6 + q)) := by
  have steady : s.Within (.silent (cellsAt [SL_QSTAT.STATE, SL_QSTAT.BUSY] q ++
      cellsAt [STAGE_FREQ, CK_OSTAT.PHASE] (6 + q))) (s.quadSteady q) :=
    .quadSteady .refl (fun _ hc => List.mem_append_left _ hc) fun _ hc => List.mem_append_right _ hc
  refine silent_of_live (exec_qpllLocked q s) (.ite .refl (.ite (.ite steady (.put (.put .refl ?_) ?_)) (.ite (.ite
    steady (.put .refl ?_)) .refl))) <;> simp [cellsAt]

theorem slQpllLockTimeout_logged (q : Fin 10) : Logged (.slQpllLockTimeout q) s (cellsAt [SL_IRQ.QPLL] ++ cellsAt
    [SL_QSTAT.BUSY, SL_QSTAT.STATE] q) [] := by
  refine logged_of_live (exec_slQpllLockTimeout q s) (.ite (.raise (.put (.put (.put .refl ?_) ?_) ?_) trivial) .refl) <;>
    simp [cellsAt]

theorem slQpllLost_logged (q : Fin 10) : Logged (.slQpllLost q) s (cellsAt [SL_IRQ.QPLL] ++ cellsAt [SL_QSTAT.LOL,
    SL_QSTAT.STATE] q ++ cellsAt [CK_OSTAT.PHASE] (6 + q)) [] := by
  refine logged_of_live (exec_slQpllLost q s) (.ite (.raise (.put (.put (.put (.put .refl ?_) ?_) ?_) ?_) trivial)
    .refl) <;> simp [cellsAt]

theorem State.Within.stageStart (h : s.Within S t) {j : Nat} (pol next : Nat)
    (hc : ∀ c ∈ cellsAt [STAGE_FREQ, STAGE_NEXT, STAGE_POL, CK_OSTAT.PHASE] j, c ∈ S.cells) :
    s.Within S (t.stageStart j pol next) := by
  have cell {f : Field} (hf : f ∈ [STAGE_FREQ, STAGE_NEXT, STAGE_POL, CK_OSTAT.PHASE]) : f.key j ∈ S.cells :=
    hc _ (mem_cellsAt hf)
  have kept := (h.put (f := STAGE_POL) (v := pol) (cell (by simp))).put (f := STAGE_NEXT) (v := next) (cell (by simp))
  exact .ite ((kept.put (cell (by simp))).put (cell (by simp))) (kept.put (cell (by simp)))

theorem State.Within.quadStart (h : s.Within S t) {q : Nat} (pol : Nat)
    (hc : ∀ c ∈ cellsAt [SL_QSTAT.STATE, SL_QSTAT.BUSY] q, c ∈ S.cells)
    (ho : ∀ c ∈ cellsAt [STAGE_FREQ, STAGE_NEXT, STAGE_POL, CK_OSTAT.PHASE] (6 + q), c ∈ S.cells) :
    s.Within S (t.quadStart q pol) :=
  ((h.stageStart _ _ ho).put (hc _ (mem_cellsAt (by simp)))).put (hc _ (mem_cellsAt (by simp)))

/-- The quad PLLs of the endpoint are the first two (R432). -/
theorem State.Within.pxTrain (h : s.Within S t)
    (hc : ∀ c ∈ cellsUpTo [SL_QSTAT.STATE, SL_QSTAT.BUSY] 2, c ∈ S.cells)
    (ho : ∀ q < 2, ∀ c ∈ cellsAt [STAGE_FREQ, STAGE_NEXT, STAGE_POL, CK_OSTAT.PHASE] (6 + q), c ∈ S.cells) :
    s.Within S t.pxTrain := by
  refine .ite (h.foldl fun u q hq => .ite (.quadStart .refl _ (fun c hm => ?_) (ho q (List.mem_range.mp hq))) .refl) h
  obtain ⟨f, hf, rfl⟩ := List.mem_map.mp hm
  exact hc _ (mem_cellsUpTo hf (List.mem_range.mp hq))

theorem perstNRelease_silent : Silent .perstNRelease s (cellsAt [PX_PERST] ++ cellsUpTo [SL_QSTAT.STATE,
    SL_QSTAT.BUSY] 2 ++ (cellsAt [STAGE_FREQ, STAGE_NEXT, STAGE_POL, CK_OSTAT.PHASE] 6 ++ cellsAt [STAGE_FREQ,
    STAGE_NEXT, STAGE_POL, CK_OSTAT.PHASE] 7)) := by
  intro u hu
  have high : s.Within (.silent (cellsAt [PX_PERST] ++ cellsUpTo [SL_QSTAT.STATE, SL_QSTAT.BUSY] 2 ++ (cellsAt
      [STAGE_FREQ, STAGE_NEXT, STAGE_POL, CK_OSTAT.PHASE] 6 ++ cellsAt [STAGE_FREQ, STAGE_NEXT, STAGE_POL,
      CK_OSTAT.PHASE] 7))) (s.put PX_PERST 0) := .put .refl (by simp [cellsAt])
  have trained := high.pxTrain (fun c hc => List.mem_append_left _ (List.mem_append_right _ hc)) fun q hq c hc => by
    rcases (by omega : q = 0 ∨ q = 1) with rfl | rfl
    · exact List.mem_append_right _ (List.mem_append_left _ hc)
    · exact List.mem_append_right _ (List.mem_append_right _ hc)
  rw [exec_perstNRelease] at hu
  unfold execPerstNRelease at hu
  dsimp only at hu
  split at hu
  · cases hu
    exact high.frame
  · cases hu
    exact (trained.deliver s).frame

theorem eyeScanDone_silent (l : Fin 40) (n : BitVec 32) : Silent (.eyeScanDone l n) s (cellsAt [SL_IRQ.EYE] ++
    cellsAt [SL_LEYE.BUSY, SL_LEYE.DONE, SL_LEYERES.COUNT] l) := by
  refine silent_of_live (exec_eyeScanDone l n s) (.ite (.eyeEnd .refl _ ?_ ?_) .refl) <;> simp [cellsAt]

theorem State.Within.laneEvent (h : s.Within S t) {cnt irq : Field} (c : Rc) {l : Nat} (d : Nat) (hl : S.logs)
    (hc : cnt.key l ∈ S.cells) (hi : irq.key 0 ∈ S.cells) : s.Within S (t.laneEvent cnt irq c l d) :=
  .ite (((h.count hc).put hi).raise hl) ((h.count hc).put hi)

theorem cdrLockChange_logged (l : Fin 40) (a b : Bool) : Logged (.cdrLockChange l a b) s (cellsAt [SL_IRQ.CDR,
    SL_IRQ.EYE] ++ cellsAt [SL_LERR.CDR, SL_LEYE.BUSY, SL_LEYE.DONE, SL_LEYERES.COUNT, SL_LSTAT.ALIGNED, SL_LSTAT.CDR,
    SL_LSTAT.SIGDET] l) [] := by
  refine logged_of_live (exec_cdrLockChange l a b s) (.ite .refl ?_)
  have shown {v : Nat} {u : State} {f : Field} (hf : f ∈ [SL_LERR.CDR, SL_LEYE.BUSY, SL_LEYE.DONE, SL_LEYERES.COUNT,
      SL_LSTAT.ALIGNED, SL_LSTAT.CDR, SL_LSTAT.SIGDET]) (hu : s.Within (.logged (cellsAt [SL_IRQ.CDR, SL_IRQ.EYE] ++
      cellsAt [SL_LERR.CDR, SL_LEYE.BUSY, SL_LEYE.DONE, SL_LEYERES.COUNT, SL_LSTAT.ALIGNED, SL_LSTAT.CDR,
      SL_LSTAT.SIGDET] l) []) u) := hu.put (v := v) (List.mem_append_right _ (mem_cellsAt (i := l) hf))
  have level := shown (v := b2n a) (f := SL_LSTAT.CDR) (by simp) (shown (v := b2n b) (f := SL_LSTAT.SIGDET) (by simp)
    .refl)
  have aligned (v : Nat) := shown (v := v) (f := SL_LSTAT.ALIGNED) (by simp) level
  have follows := State.Within.ite (c := (!a) = true) (aligned 0) (.ite (c := ((s.put SL_LSTAT.SIGDET (b2n b) l).put
    SL_LSTAT.CDR (b2n a) l).get SL_LCFG.PCS l < 3) (aligned 1) level)
  have lost := follows.laneEvent (cnt := SL_LERR.CDR) (irq := SL_IRQ.CDR) Rc.SL_CDR_LOST (l := l) 0 trivial
    (by simp [cellsAt]) (by simp [cellsAt])
  refine .ite (.ite (.eyeEnd (.ite lost follows) _ ?_ ?_) (.ite lost follows)) follows <;> simp [cellsAt]

theorem alignChange_logged (l : Fin 40) (a : Bool) : Logged (.alignChange l a) s (cellsAt [SL_IRQ.ALIGN] ++ cellsAt
    [SL_LERR.ALIGN, SL_LSTAT.ALIGNED] l) [] := by
  refine logged_of_live (exec_alignChange l a s) (.ite (.ite (.laneEvent (.put .refl ?_) _ _ trivial ?_ ?_)
    (.put .refl ?_)) .refl) <;> simp [cellsAt]

theorem State.Within.prbsBit (h : s.Within S t) {l : Nat} (b : Bool) (hl : S.logs) (hi : SL_IRQ.PRBS.key 0 ∈ S.cells)
    (hc : ∀ c ∈ cellsAt [PRBS_GOOD, PRBS_REG, SL_LPRBSERR.COUNT, SL_LTEST.PRBS_LOCK] l, c ∈ S.cells)
    (hq : PRBS_ERRS.key l ∈ S.lists) : s.Within S (t.prbsBit l b) := by
  have shown {f : Field} {v : Nat} {u : State} (hf : f ∈ [PRBS_GOOD, PRBS_REG, SL_LPRBSERR.COUNT, SL_LTEST.PRBS_LOCK])
      (hu : s.Within S u) : s.Within S (u.put f v l) := hu.put (hc _ (mem_cellsAt hf))
  have counted {u : State} (hu : s.Within S u) :
      s.Within S (u.laneEvent SL_LPRBSERR.COUNT SL_IRQ.PRBS Rc.SL_PRBS_ERR l 0) :=
    hu.laneEvent _ 0 hl (hc _ (mem_cellsAt (by simp))) hi
  have shifted (v : Nat) : s.Within S (t.put PRBS_REG v l) := shown (by simp) h
  have kept (v : Nat) (es : List Nat) := (shifted v).setList (l := es) hq
  refine .ite ?_ ?_
  · exact .ite (.setList (shown (by simp) (shown (by simp) (.ite (counted (kept _ _)) (kept _ _)))) hq)
      (.ite (counted (kept _ _)) (kept _ _))
  · exact .ite (shown (by simp) (shifted _)) (.ite (shown (by simp) (shown (by simp) (shifted _))) (shown (by simp)
      (shifted _)))

theorem prbsCheck_logged (l : Fin 40) (v : BitVec 64) : Logged (.prbsCheck l v) s (cellsAt [SL_IRQ.PRBS] ++ cellsAt
    [PRBS_GOOD, PRBS_REG, SL_LPRBSERR.COUNT, SL_LTEST.PRBS_LOCK] l) (listsAt [PRBS_ERRS] l) :=
  logged_of_live (exec_prbsCheck l v s) (.ite (.foldl .refl fun _ _ _ => .prbsBit .refl _ trivial (by simp [cellsAt])
    (fun _ hc => List.mem_append_right _ hc) (by simp [listsAt])) .refl)

/-! Time, transfers and captures of words. -/

theorem State.Within.slewBy (h : s.Within S t) (n : Nat)
    (hc : ∀ c ∈ cellsAt [BS_ADJCTL.BUSY, SLEW_LEFT, TCOUNT], c ∈ S.cells) : s.Within S (t.slewBy n) := by
  have left (v w : Nat) : s.Within S ((t.put TCOUNT v).put SLEW_LEFT w) :=
    (h.put (hc _ (mem_cellsAt (by simp)))).put (hc _ (mem_cellsAt (by simp)))
  exact .ite ((left _ _).put (hc _ (mem_cellsAt (by simp)))) (left _ _)

theorem slewDone_silent : Silent .slewDone s (cellsAt [BS_ADJCTL.BUSY, SLEW_LEFT, TCOUNT]) :=
  silent_of_live (exec_slewDone s) (.ite (.slewBy .refl _ fun _ hc => hc) .refl)

theorem State.Within.timeChanged (h : s.Within S t)
    (ht : ∀ c ∈ cellsAt [BS_TBSTAT.EPOCH_GEN, BS_TBSTAT.COARSE, BS_IRQ.EPOCH], c ∈ S.cells)
    (hc : ∀ c ∈ cellsUpTo [BS_CUSTAT.PEND, CUE_LATEP] 64, c ∈ S.cells) : s.Within S t.timeChanged :=
  (((h.put (ht _ (mem_cellsAt (by simp)))).put (ht _ (mem_cellsAt (by simp)))).put (ht _ (mem_cellsAt
    (by simp)))).cuesRejudge hc

theorem epochLoad_logged (d : BitVec 32) : Logged (.epochLoad d) s (cellsAt [BS_EPCTL.ARM, BS_IRQ.EPOCH,
    BS_TBSTAT.COARSE, BS_TBSTAT.EPOCH, BS_TBSTAT.EPOCH_GEN, TCOUNT] ++ cellsUpTo [BS_CUSTAT.PEND, CUE_LATEP] 64) [] := by
  refine logged_of_live (exec_epochLoad d s) (.ite (.raise (.timeChanged (.put (.put (.put .refl ?_) ?_) ?_) ?_
    fun _ hc => List.mem_append_right _ hc) trivial) .refl) <;> simp [cellsAt]

theorem ttCalibrationStart_silent (n : Fin 96) : Silent (.ttCalibrationStart n) s (cellsAt [BS_TTSTAT.CAL] n) :=
  silent_of_live (exec_ttCalibrationStart n s) (.ite (.put .refl (by simp [cellsAt])) .refl)

theorem ttCalibrationEnd_silent (n : Fin 96) :
    Silent (.ttCalibrationEnd n) s (cellsAt [BS_TTSTAT.CAL, BS_TTSTAT.STALE] n) := by
  refine silent_of_live (exec_ttCalibrationEnd n s) (.ite (.put (.put .refl ?_) ?_) .refl) <;> simp [cellsAt]

theorem ttStale_logged (n : Fin 96) :
    Logged (.ttStale n) s (cellsAt [BS_IRQ.STALE] ++ cellsAt [BS_TTSTAT.STALE] n) [] := by
  refine logged_of_live (exec_ttStale n s) (.ite (.raise (.put (.put .refl ?_) ?_) trivial) .refl) <;> simp [cellsAt]

theorem lbtCapture_silent (l : Fin 40) (ago : BitVec 24) (w : BitVec 32) : Silent (.lbtCapture l ago w) s (cellsAt
    [BS_IRQ.LBT] ++ cellsAt [BS_LBTT0.T, BS_LBTT1.T, BS_LBTT2.T, BS_LBTWC.WORDS, BS_LBTCTL.DONE, BS_LBTCTL.ARM,
    LANE_RXW, LANE_TXW] l) := by
  have shown {f : Field} {v : Nat} {u : State} (hf : f ∈ [BS_LBTT0.T, BS_LBTT1.T, BS_LBTT2.T, BS_LBTWC.WORDS,
      BS_LBTCTL.DONE, BS_LBTCTL.ARM, LANE_RXW, LANE_TXW]) (hu : s.Within (.silent (cellsAt [BS_IRQ.LBT] ++ cellsAt
      [BS_LBTT0.T, BS_LBTT1.T, BS_LBTT2.T, BS_LBTWC.WORDS, BS_LBTCTL.DONE, BS_LBTCTL.ARM, LANE_RXW, LANE_TXW] l)) u) :=
    hu.put (v := v) (List.mem_append_right _ (mem_cellsAt (i := l) hf))
  have stored {a b c : Nat} := shown (f := BS_LBTCTL.ARM) (v := 0) (by simp) (shown (f := BS_LBTCTL.DONE) (v := 1)
    (by simp) (shown (f := BS_LBTWC.WORDS) (v := w.toNat) (by simp) (shown (f := BS_LBTT2.T) (v := c) (by simp)
    (shown (f := BS_LBTT1.T) (v := b) (by simp) (shown (f := BS_LBTT0.T) (v := a) (by simp) .refl)))))
  have done {a b c : Nat} := (stored (a := a) (b := b) (c := c)).put (f := BS_IRQ.LBT) (v := 1) (i := 0)
    (by simp [cellsAt])
  exact silent_of_live (exec_lbtCapture l ago w s) (.ite (.ite (shown (by simp) done) (shown (by simp) done)) .refl)

theorem sliceEnd_silent : Silent .sliceEnd s (cellsAt [OG_DUE]) :=
  silent_of_live (exec_sliceEnd s) (.ite (.ite (.put (.drawn .refl) (by simp [cellsAt])) (.drawn .refl)) .refl)

/-! The router and the cues. -/

theorem stretchEnd_logged (d : Fin 176) : Logged (.stretchEnd d) s (cellsAt [RT_LEFT, RT_VAL] d) [] := by
  have left : s.Within (.logged (cellsAt [RT_LEFT, RT_VAL] d) []) (s.put RT_LEFT 0 d) := .put .refl (by simp [cellsAt])
  have low : s.Within (.logged (cellsAt [RT_LEFT, RT_VAL] d) []) ((s.put RT_LEFT 0 d).put RT_VAL (b2n false) d) :=
    left.put (by simp [cellsAt])
  refine logged_of_live (exec_stretchEnd d s) (.ite .refl ?_)
  unfold State.setDest
  simp only [Bool.and_false, Bool.false_eq_true, if_false]
  exact .ite left (.ite (.ite low.emit low) low)

theorem routerSourceEdge_logged (c : BitVec 8) (b : Bool) : Logged (.routerSourceEdge c b) s (cellsAt [SRC_VAL]
    c.toNat ++ routeCells) (listsAt [PULSES]) := by
  have reach : ∀ k ∈ routeCells, k ∈ cellsAt [SRC_VAL] c.toNat ++ routeCells := fun _ hk => List.mem_append_right _ hk
  exact logged_of_live (exec_routerSourceEdge c b s) (.ite .refl (.ite (.pulseSource .refl trivial (by simp [cellsAt])
    reach (by simp [listsAt])) (.setSource .refl b trivial (by simp [cellsAt]) reach)))

theorem State.Within.cueLevel (h : s.Within S t) {c : Nat} (v : Bool) (hl : S.logs)
    (hc : BS_CUSTAT.LEVEL.key c ∈ S.cells) (hs : SRC_VAL.key (16 + c) ∈ S.cells) (hk : ∀ k ∈ routeCells, k ∈ S.cells) :
    s.Within S (t.cueLevel c v) := by
  have shown : s.Within S (t.put BS_CUSTAT.LEVEL (b2n v) c) := h.put hc
  exact .setSource (.ite shown.emit shown) v hl hs hk

theorem State.Within.cueNext (h : s.Within S t) {c : Nat} (hp : BS_CUSTAT.PEND.key c ∈ S.cells)
    (hq : CUE_LATEP.key c ∈ S.cells) (hl : CUE_Q.key c ∈ S.lists) : s.Within S (t.cueNext c) :=
  (h.setList hl).cueJudge hp hq

theorem State.Within.cueExecute (h : s.Within S t) {c : Nat} (hl : S.logs)
    (hc : ∀ k ∈ cellsAt [BS_CUSTAT.LEVEL, BS_CUSTAT.PEND, CUE_LATEP, CUE_PULSE] c, k ∈ S.cells)
    (hs : SRC_VAL.key (16 + c) ∈ S.cells) (hk : ∀ k ∈ routeCells, k ∈ S.cells) (hq : CUE_Q.key c ∈ S.lists) :
    s.Within S (t.cueExecute c) := by
  have level {u : State} (v : Bool) (hu : s.Within S u) : s.Within S (u.cueLevel c v) :=
    hu.cueLevel v hl (hc _ (mem_cellsAt (by simp))) hs hk
  unfold State.cueExecute
  cases t.list CUE_Q c with
  | nil => exact h
  | cons v r =>
    refine .cueNext ?_ (hc _ (mem_cellsAt (by simp))) (hc _ (mem_cellsAt (by simp))) hq
    split
    · exact level _ h
    · exact level _ h
    · exact level _ h
    · exact level _ (h.put (hc _ (mem_cellsAt (by simp))))

theorem pulseEnd_logged (c : Fin 64) : Logged (.pulseEnd c) s (cellsAt [BS_CUSTAT.LEVEL, CUE_PULSE] c ++ cellsAt
    [SRC_VAL] (16 + c) ++ routeCells) [] := by
  refine logged_of_live (exec_pulseEnd c s) (.ite (.cueLevel (.put .refl ?_) _ trivial ?_ ?_ fun _ hk =>
    List.mem_append_right _ hk) .refl) <;> simp [cellsAt]

theorem cueFire_logged (c : Fin 64) : Logged (.cueFire c) s (cellsAt [BS_CUSTAT.LEVEL, BS_CUSTAT.PEND, CUE_LATEP,
    CUE_PULSE] c ++ cellsAt [SRC_VAL] (16 + c) ++ routeCells) (listsAt [CUE_Q] c) :=
  logged_of_live (exec_cueFire c s) (.ite (.cueExecute .refl trivial (fun _ hk => List.mem_append_left _
    (List.mem_append_left _ hk)) (by simp [cellsAt]) (fun _ hk => List.mem_append_right _ hk) (by simp [listsAt])) .refl)

theorem cueLate_logged (c : Fin 64) : Logged (.cueLate c) s (cellsAt [BS_IRQ.CUE_LATE] ++ cellsAt [BS_CUCNT.LATE,
    BS_CUSTAT.LEVEL, BS_CUSTAT.PEND, CUE_LATEP, CUE_PULSE] c ++ cellsAt [SRC_VAL] (16 + c) ++ routeCells)
    (listsAt [CUE_Q] c) := by
  have counted := (State.Within.refl (s := s) (S := .logged (cellsAt [BS_IRQ.CUE_LATE] ++ cellsAt [BS_CUCNT.LATE,
    BS_CUSTAT.LEVEL, BS_CUSTAT.PEND, CUE_LATEP, CUE_PULSE] c ++ cellsAt [SRC_VAL] (16 + c) ++ routeCells)
    (listsAt [CUE_Q] c))).count (f := BS_CUCNT.LATE) (n := 1) (i := c) (by simp [cellsAt])
  have noted := State.Within.ite (c := ((s.count BS_CUCNT.LATE 1 c).flag BS_IRQ.CUE_LATE) = true) counted ((counted.put
    (f := BS_IRQ.CUE_LATE) (v := 1) (i := 0) (by simp [cellsAt])).raise (c := Rc.BS_CUE_LATE) (obj := 0x200 + c)
    (detail := 0) trivial)
  refine logged_of_live (exec_cueLate c s) (.ite (.ite (noted.cueNext ?_ ?_ ?_) (noted.cueExecute trivial ?_ ?_
    (fun _ hk => List.mem_append_right _ hk) ?_)) .refl) <;> simp [cellsAt, listsAt]

/-! Timers: a count and its matches write less than a whole tick does (R329 to R331). -/

/-- What a change of the count of timer t writes. -/
def clockCells (t : Nat) : List Nat := timerCells t ++ cellsAt [LF_MATCHED]

variable {n : Nat}

theorem mem_clockCells {f : Field} (hf : f ∈ [BT_CNT_LO.COUNT, BT_CNT_HI.COUNT, BT_STAT.CMF, BT_STAT.OCLVL, BT_STAT.WOKE,
    TOP_ACT]) : f.key n ∈ clockCells n :=
  List.mem_append_left _ (List.mem_append_left _ (mem_cellsAt hf))

theorem preloadCells_clock {c : Nat} (hc : c ∈ preloadCells n) : c ∈ clockCells n := by
  rcases List.mem_append.mp hc with ht | hm
  · obtain ⟨f, hf, rfl⟩ := List.mem_map.mp ht
    rw [List.mem_singleton.mp hf]
    exact mem_clockCells (by simp)
  · exact List.mem_append_left _ (List.mem_append_right _ hm)

theorem matchCells_clock {c : Nat} (hc : c ∈ matchCells n) : c ∈ clockCells n := by
  simp only [matchCells, matchedCells, List.mem_append] at hc
  rcases hc with hm | hm | hm
  · obtain ⟨f, hf, rfl⟩ := List.mem_map.mp hm
    rw [List.mem_singleton.mp hf]
    exact mem_clockCells (by simp)
  · obtain ⟨f, hf, rfl⟩ := List.mem_map.mp hm
    exact mem_clockCells ((by simp : ([BT_STAT.OCLVL, BT_STAT.WOKE] : List Field) ⊆ _) hf)
  · exact List.mem_append_right _ hm

theorem State.Within.clockTo (h : s.Within S t) (v : Nat) (hl : S.logs) (hk : ∀ c ∈ clockCells n, c ∈ S.cells) :
    s.Within S (t.btCountTo n v) :=
  .ite h (((h.put (hk _ (mem_clockCells (by simp)))).put (hk _ (mem_clockCells (by simp)))).btMatches v hl
    fun _ hc => hk _ (matchCells_clock hc))

theorem State.Within.clockZero (h : s.Within S t) (hl : S.logs) (hk : ∀ c ∈ clockCells n, c ∈ S.cells)
    (hp : BT_PSCNT.key n ∈ S.cells) : s.Within S (t.btZero n) :=
  ((h.put hp).preloadTransfer fun _ hc => hk _ (preloadCells_clock hc)).clockTo 0 hl hk

theorem State.Within.clockInput (h : s.Within S t) (hl : S.logs) (hk : ∀ c ∈ clockCells n, c ∈ S.cells)
    (ho : BT_STAT.OVF.key n ∈ S.cells) (hr : BT_CTL.RUN.key n ∈ S.cells) : s.Within S (t.btInput n).1 := by
  by_cases top : t.btCount n = t.get TOP_ACT n
  · have reloaded := (h.put (f := BT_STAT.OVF) (v := 1) ho).preloadTransfer fun c hc => hk c (preloadCells_clock hc)
    have wrapped : s.Within S (t.btWrap n) := by
      unfold State.btWrap
      exact .ite (reloaded.put hr) reloaded
    rw [State.btInput_top top]
    dsimp only
    exact wrapped.clockTo 0 hl hk
  · rw [State.btInput_below top]
    exact h.clockTo _ hl hk

/-- A count input, the levels and the timer's output. -/
theorem State.Within.clockDrive (h : s.Within S t) (ovf rst : Bool) (hl : S.logs) (hk : ∀ c ∈ clockCells n, c ∈ S.cells)
    (hc : ∀ c ∈ cellsAt [BT_CTL.RUN, BT_STAT.OUT, BT_STAT.OVF] n, c ∈ S.cells) (hs : SRC_VAL.key (80 + n) ∈ S.cells)
    (hr : ∀ c ∈ routeCells, c ∈ S.cells) : s.Within S (((t.btInput n).1.btLevels n).btDrive n ovf rst) :=
  ((h.clockInput hl hk (hc _ (mem_cellsAt (by simp))) (hc _ (mem_cellsAt (by simp)))).btLevels
    (hk _ (mem_clockCells (by simp)))).btDrive ovf rst hl (hc _ (mem_cellsAt (by simp))) hs hr

theorem timerOverflow_logged (t : Fin 16) : Logged (.timerOverflow t) s (timerCells t ++ cellsAt [LF_MATCHED] ++ cellsAt
    [BT_CTL.RUN, BT_STAT.OUT, BT_STAT.OVF] t ++ cellsAt [SRC_VAL] (80 + t) ++ routeCells) [] :=
  logged_of_live (exec_timerOverflow t s) (.ite (.clockDrive .refl _ _ trivial
    (fun _ hc => List.mem_append_left _ (List.mem_append_left _ (List.mem_append_left _ hc)))
    (fun _ hc => List.mem_append_left _ (List.mem_append_left _ (List.mem_append_right _ hc)))
    (by simp [cellsAt]) fun _ hc => List.mem_append_right _ hc) .refl)

theorem compareMatch_logged (t : Fin 16) (k : Fin 4) : Logged (.compareMatch t k) s (timerCells t ++ cellsAt
    [LF_MATCHED] ++ cellsAt [BT_CTL.RUN, BT_STAT.OUT, BT_STAT.OVF] t ++ cellsAt [SRC_VAL] (80 + t) ++ routeCells) [] :=
  logged_of_live (exec_compareMatch t k s) (.ite (.clockDrive .refl _ _ trivial
    (fun _ hc => List.mem_append_left _ (List.mem_append_left _ (List.mem_append_left _ hc)))
    (fun _ hc => List.mem_append_left _ (List.mem_append_left _ (List.mem_append_right _ hc)))
    (by simp [cellsAt]) fun _ hc => List.mem_append_right _ hc) .refl)

theorem tickCells_clock {c : Nat} (hc : c ∈ tickCells n) :
    c ∈ clockCells n ++ cellsAt [BT_CTL.RUN, BT_STAT.OUT, BT_STAT.OVF, BT_STAT.TRG, BT_PSCNT, TRIG_LAST] n := by
  simp only [tickCells, List.mem_append] at hc
  rcases hc with (hf | hp) | hm
  · simp only [cellsAt, List.map_cons, List.map_nil, List.mem_cons, List.not_mem_nil, or_false] at hf
    rcases hf with rfl | rfl | rfl | rfl | rfl | rfl
    · exact List.mem_append_left _ (mem_clockCells (by simp))
    · exact List.mem_append_left _ (mem_clockCells (by simp))
    all_goals exact List.mem_append_right _ (mem_cellsAt (by simp))
  · exact List.mem_append_left _ (preloadCells_clock hp)
  · exact List.mem_append_left _ (matchCells_clock hm)

theorem triggerEdge_logged (t : Fin 16) : Logged (.triggerEdge t) s (timerCells t ++ cellsAt [LF_MATCHED] ++ cellsAt
    [BT_CTL.RUN, BT_STAT.OUT, BT_STAT.OVF, BT_STAT.TRG, BT_PSCNT, TRIG_LAST] t ++ cellsAt [SRC_VAL] (80 + t) ++
    routeCells) [] := by
  refine logged_of_live (exec_triggerEdge t s) (.ite (.put (.btDrive (.btTick .refl true false false trivial
    fun _ hc => List.mem_append_left _ (List.mem_append_left _ (tickCells_clock hc))) _ _ trivial ?_ ?_
    fun _ hc => List.mem_append_right _ hc) ?_) .refl) <;> simp [cellsAt]

/-- What a capture on channel c stores, beside the count's reset. -/
theorem State.Within.clockCapture (h : s.Within S t) {c : Nat} (v : Nat) (hl : S.logs)
    (hk : ∀ k ∈ noteCells c ++ cellsAt [BT_CAP_LO.COUNT, BT_CAP_HI.COUNT, BT_CAP_HI.VALID] c ++
      cellsAt [BT_STAT.CAPF] (c / 2), k ∈ S.cells)
    (hc : ∀ k ∈ clockCells (c / 2), k ∈ S.cells) (hp : BT_PSCNT.key (c / 2) ∈ S.cells) :
    s.Within S (t.btCapture c v) := by
  have note : ∀ k ∈ noteCells c, k ∈ S.cells := fun _ hn => hk _ (List.mem_append_left _ (List.mem_append_left _ hn))
  have count {f : Field} (hf : f ∈ [BT_CAP_LO.COUNT, BT_CAP_HI.COUNT, BT_CAP_HI.VALID]) : f.key c ∈ S.cells :=
    hk _ (List.mem_append_left _ (List.mem_append_right _ (mem_cellsAt hf)))
  have stored : s.Within S (t.btStore c v) := (((h.put (count (by simp))).put (count (by simp))).put
    (count (by simp))).orBit (hk _ (List.mem_append_right _ (mem_cellsAt (by simp))))
  have noted := State.Within.ite (c := bit (t.get BT_STAT.CAPF (c / 2)) (c % 2) = true) (stored.btOver hl note) stored
  rw [State.btCapture_eq]
  dsimp only
  generalize (if bit (t.get BT_STAT.CAPF (c / 2)) (c % 2) then (t.btStore c v).btOver c else t.btStore c v) = a
    at noted ⊢
  exact .ite (.clockZero (.ite (noted.btFine note) noted) hl hc hp) (.ite (noted.btFine note) noted)

theorem State.Within.clockAccept (h : s.Within S t) {c : Nat} (v : Nat) (hl : S.logs) (he : KEDGES.key c ∈ S.cells)
    (hk : ∀ k ∈ noteCells c ++ cellsAt [BT_CAP_LO.COUNT, BT_CAP_HI.COUNT, BT_CAP_HI.VALID] c ++
      cellsAt [BT_STAT.CAPF] (c / 2), k ∈ S.cells)
    (hc : ∀ k ∈ clockCells (c / 2), k ∈ S.cells) (hp : BT_PSCNT.key (c / 2) ∈ S.cells) :
    s.Within S (t.btAccept c v) :=
  .ite ((h.put he).clockCapture v hl hk hc hp) (h.put he)

theorem capture_logged (t : Fin 16) (j : Fin 2) : Logged (.capture t j) s (cellsAt [LF_MATCHED] ++ timerCells t ++
    cellsAt [BT_STAT.CAPF, BT_STAT.OVC, BT_PSCNT] t ++ cellsAt (BT_FINE2.reg.fields ++ [BT_CAP_LO.COUNT,
    BT_CAP_HI.COUNT, BT_CAP_HI.VALID, BT_KCNT.OVER, KEDGES, BT_FINE0.TIME, BT_FINE1.TIME]) (2 * t + j)) [] := by
  have timer : (2 * t.val + j.val) / 2 = t.val := by omega
  refine logged_of_live (exec_capture t j s) (.ite (.clockAccept .refl _ trivial ?_ (fun c hc => ?_) (fun c hc => ?_) ?_)
    .refl)
  case refine_2 =>
    simp only [noteCells, List.mem_append, timer] at hc
    rcases hc with ((note | overrun) | count) | flag
    · exact List.mem_append_right _ (mem_keys_of_subset (by simp [noteFields, BT_FINE2.reg]) _ note)
    · exact List.mem_append_left _ (List.mem_append_right _ (mem_keys_of_subset (by simp) _ overrun))
    · exact List.mem_append_right _ (mem_keys_of_subset (by simp) _ count)
    · exact List.mem_append_left _ (List.mem_append_right _ (mem_keys_of_subset (by simp) _ flag))
  case refine_3 =>
    rw [timer] at hc
    rcases List.mem_append.mp hc with hm | hm
    · exact List.mem_append_left _ (List.mem_append_left _ (List.mem_append_right _ hm))
    · exact List.mem_append_left _ (List.mem_append_left _ (List.mem_append_left _ hm))
  all_goals simp [cellsAt, timer]

/-! Crossing ports. -/

theorem State.Within.showLevel (h : s.Within S t) {x : Nat} (hc : XP_STAT.LEVEL.key x ∈ S.cells) :
    s.Within S (t.showLevel x) := h.put hc

theorem State.Within.xpEmpty (h : s.Within S t) {x : Nat} (hc : XP_STAT.LEVEL.key x ∈ S.cells)
    (hq : XP_Q.key x ∈ S.lists) : s.Within S (t.xpEmpty x) := (h.setList hq).showLevel hc

theorem State.Within.xpPump (h : s.Within S t) {x : Nat} (hc : XP_STAT.LEVEL.key x ∈ S.cells)
    (hq : ∀ q ∈ listsAt [XP_Q, XP_WAIT] x, q ∈ S.lists) : s.Within S (t.xpPump x) := by
  unfold State.xpPump
  split
  next v waiting =>
    have taken := ((h.setList (l := []) (hq _ (mem_listsAt (q := XP_WAIT) (by simp)))).enq (v := v)
      (hq _ (mem_listsAt (q := XP_Q) (by simp)))).showLevel hc
    exact .ite (.ite taken.emit taken.emit) h
  · exact h

theorem State.Within.xpOverrun (h : s.Within S t) {x : Nat} (hl : S.logs) (hc : XP_CNT.OVERRUN.key x ∈ S.cells)
    (hm : XP_OVRMAP.OVR.key (x / 32) ∈ S.cells) : s.Within S (t.xpOverrun x) :=
  .ite (h.count hc) (((h.count hc).orBit hm).raise hl)

theorem xpArrayOffer_logged (x : Fin 256) (v : BitVec 64) (e : BitVec 8) : Logged (.xpArrayOffer x v e) s (cellsAt
    [XP_CNT.OVERRUN, XP_STAT.LEVEL] x ++ cellsAt [XP_OVRMAP.OVR] (x / 32)) (listsAt [XP_Q, XP_WAIT] x) := by
  refine logged_of_live (exec_xpArrayOffer x v e s) (.ite (.ite (.ite (.enq .refl ?_) (.xpOverrun .refl trivial ?_ ?_))
    .refl) (.ite (.xpPump (.setList .refl ?_) ?_ fun _ hq => hq) .refl)) <;> simp [cellsAt, listsAt]

theorem State.Within.xpAnswer (h : s.Within S t) {x : Nat} (data stat : Nat) (hc : XP_STAT.LEVEL.key x ∈ S.cells)
    (hq : ∀ q ∈ listsAt [XP_Q, XP_WAIT] x, q ∈ S.lists) : s.Within S (t.xpAnswer x data stat) := by
  refine .ite ?_ h
  unfold State.xpPop
  cases t.list XP_Q x with
  | nil => exact h
  | cons v r => exact (State.Within.emit ((h.setList (hq _ (mem_listsAt (by simp)))).showLevel hc)).xpPump hc hq

theorem xpIslandAnswer_logged (x : Fin 256) (v : BitVec 64) (e : BitVec 4) :
    Logged (.xpIslandAnswer x v e) s (cellsAt [XP_STAT.LEVEL] x) (listsAt [XP_Q, XP_WAIT] x) := by
  have answered (a b : Nat) : s.Within (.logged (cellsAt [XP_STAT.LEVEL] x) (listsAt [XP_Q, XP_WAIT] x))
      (s.xpAnswer x a b) := .xpAnswer .refl _ _ (by simp [cellsAt]) fun _ hq => hq
  exact logged_of_live (exec_xpIslandAnswer x v e s) (.ite .refl (.ite (answered _ _) (answered _ _)))

theorem xpTimeout_logged (x : Fin 256) : Logged (.xpTimeout x) s (cellsAt [XP_DISC, XP_STAT.LEVEL, XP_STAT.STATE] x ++
    cellsAt [XP_FAULT.FAULT] (x / 32)) (listsAt [XP_Q] x) := by
  refine logged_of_live (exec_xpTimeout x s) (.ite (.raise (.orBit (.put (.put (.xpEmpty .refl ?_ ?_) ?_) ?_) ?_)
    trivial) .refl) <;> simp [cellsAt, listsAt]

theorem xpResync_logged (x : Fin 256) : Logged (.xpResync x) s (cellsAt [XP_DISC, XP_SIDE, XP_STAT.LEVEL,
    XP_STAT.STATE] x ++ cellsAt [LTX_ARM] (s.get XP_CFG.AIDX x)) (listsAt [XP_Q, XP_WAIT] x) := by
  have noted (d : Nat) := (State.Within.refl (s := s) (S := .logged (cellsAt [XP_DISC, XP_SIDE, XP_STAT.LEVEL,
    XP_STAT.STATE] x ++ cellsAt [LTX_ARM] (s.get XP_CFG.AIDX x)) (listsAt [XP_Q, XP_WAIT] x))).raise
    (c := Rc.XP_RESYNC) (obj := x) (detail := d) trivial
  refine logged_of_live (exec_xpResync x s) (.ite (.xpPump (.put (.put (.put (.ite (.put (noted _) ?_) (noted _)) ?_) ?_)
    ?_) ?_ fun _ hq => hq) .refl) <;> simp [cellsAt]

end Clauses

/-- Settles O54: each clause by the scope of its command's effect. -/
theorem deviceHappeningsKeepTheRest : Obligations.DeviceHappeningsKeepTheRest := by
  unfold Obligations.DeviceHappeningsKeepTheRest
  intro s
  exact ⟨domainReleaseSlot_silent, avsSettleEnd_silent, avsStatusPoll_silent, gateInboundRequest_silent,
    eventLineDeliver_silent, uiLineChange_silent, freqMeterDone_silent, slewDone_silent, ttCalibrationStart_silent,
    ttCalibrationEnd_silent, lbtCapture_silent, vioRestored_silent, qpllLocked_silent, eyeScanDone_silent,
    sliceEnd_silent, perstNRelease_silent, governorPeriod_logged, paceShort_logged, paceWindowEnd_logged,
    hedgeProtocolViolation_logged, drIllegalCode_logged, stallDetected_logged, eventLineToken_logged, refLoss_logged,
    refRestored_logged, synLockTimeout_logged, synLocked_logged, epochLoad_logged, ttStale_logged, stretchEnd_logged,
    slQpllLockTimeout_logged, slQpllLost_logged, cdrLockChange_logged, alignChange_logged, vioLost_logged,
    prbsCheck_logged, capture_logged, timerOverflow_logged, compareMatch_logged, triggerEdge_logged, pulseEnd_logged,
    cueFire_logged, cueLate_logged, routerSourceEdge_logged, xpArrayOffer_logged, xpIslandAnswer_logged,
    xpTimeout_logged, xpResync_logged⟩

end Sys2Proof.Machine
end

section
/-! The packets of spec/14: what a built packet reads back as (Table HX-3). -/

namespace Sys2Proof.Machine

section Built

variable {dest src cls id len seq hops : Nat} {ws : List Nat}

/-- The fields of a header are apart while LEN and the class fit. -/
theorem pkClass_mkPacket (hl : len < 2 ^ 16) (hc : cls < 16) :
    pkClass (mkPacket (mkHeader dest src cls id len seq) hops ws) = cls := by
  simp only [pkClass, bits, mkPacket, mkHeader, Nat.reducePow] at *
  omega

theorem pkLen_mkPacket (hl : len < 2 ^ 16) : pkLen (mkPacket (mkHeader dest src cls id len seq) hops ws) = len := by
  simp only [pkLen, bits, mkPacket, mkHeader, Nat.reducePow] at *
  omega

theorem pkId_mkPacket (hl : len < 2 ^ 16) :
    pkId (mkPacket (mkHeader dest src cls id len seq) hops ws) = id % 2 ^ 12 := by
  simp only [pkId, bits, mkPacket, mkHeader, Nat.reducePow] at *
  omega

theorem pkSeq_mkPacket : pkSeq (mkPacket (mkHeader dest src cls id len seq) hops ws) = seq % 2 ^ 16 := by
  simp only [pkSeq, bits, mkPacket, mkHeader, Nat.reducePow]
  omega

theorem pkSrc_mkPacket (hl : len < 2 ^ 16) (hc : cls < 16) :
    pkSrc (mkPacket (mkHeader dest src cls id len seq) hops ws) = src % 256 := by
  simp only [pkSrc, bits, mkPacket, mkHeader, Nat.reducePow] at *
  omega

theorem pkDest_mkPacket (hl : len < 2 ^ 16) (hc : cls < 16) :
    pkDest (mkPacket (mkHeader dest src cls id len seq) hops ws) = dest % 256 := by
  simp only [pkDest, bits, mkPacket, mkHeader, Nat.reducePow] at *
  omega

variable {s : State}

theorem State.pkClass_ownPacket (hl : ws.length < 2 ^ 16) (hc : cls < 16) :
    pkClass (s.ownPacket dest cls id seq ws) = cls := pkClass_mkPacket hl hc

end Built

section Queues

variable {s : State} {n p : Nat}

@[simp] theorem State.hxTx_get (f : Field) (i : Nat) : (s.hxTx n p).get f i = s.get f i := rfl

theorem State.hxTx_list : (s.hxTx n p).list HX_TX (16 * n + pkClass p) = s.list HX_TX (16 * n + pkClass p) ++ [p] :=
  State.list_setList_self ..

end Queues

end Sys2Proof.Machine
end

section
/-! O55: what the happenings of the host link, the Hokuox ports and the fabric leave as it was. -/

namespace Sys2Proof.Machine

section Clauses

variable {s t : State} {S : Scope}

/-! The host's windows (R470 to R472). -/

theorem State.Within.pxEnter (h : s.Within S t) {k : Nat} (hx : PX_XQ.key k ∈ S.lists) (hw : PX_WQ.key k ∈ S.lists)
    (fuel : Nat) : s.Within S (pxEnter fuel k t) := by
  induction fuel generalizing t with
  | zero => exact h
  | succ f ih =>
    unfold Machine.pxEnter
    cases t.list PX_WQ k with
    | nil => exact h
    | cons e r => exact .ite (ih ((h.setList hx).setList hw)) h

theorem State.Within.pxOffer (h : s.Within S t) {k : Nat} (hx : PX_XQ.key k ∈ S.lists) (hq : XP_Q.key k ∈ S.lists) :
    s.Within S (t.pxOffer k) := by
  have live (l : List Nat) : s.Within S (t.setList PX_XQ l k) := h.setList hx
  refine .ite h ?_
  dsimp only
  split
  · exact live _
  · exact .ite ((live _).setList hq).emit (live _)

theorem State.Within.pxPump (h : s.Within S t) (hl : ∀ q ∈ listsUpTo [PX_WQ, PX_XQ, XP_Q] 16, q ∈ S.lists) :
    s.Within S t.pxPump := by
  refine h.foldl fun u k hk => ?_
  have place {q : Fifo} (hq : q ∈ [PX_WQ, PX_XQ, XP_Q]) : q.key k ∈ S.lists :=
    hl _ (mem_listsUpTo hq (List.mem_range.mp hk))
  exact .pxOffer (.pxEnter .refl (place (by simp)) (place (by simp)) _) (place (by simp)) (place (by simp))

theorem State.Within.noDesign (h : s.Within S t) (k : Nat) (hl : S.logs)
    (hc : ∀ c ∈ cellsAt [PX_IRQ.WDROP, PX_NDLOG], c ∈ S.cells) : s.Within S (t.noDesign k) := by
  have shown : s.Within S (t.put PX_IRQ.WDROP 1) := h.put (hc _ (mem_cellsAt (by simp)))
  exact .ite shown ((shown.put (hc _ (mem_cellsAt (by simp)))).raise hl)

theorem bar2Write_logged (k : Fin 16) (o : BitVec 32) (f l : BitVec 8) (w : BitVec 64) (r : List (BitVec 64)) :
    Logged (.bar2Write k o f l w r) s (cellsAt [PX_IRQ.WDROP, PX_NDLOG, PX_SEQ, PX_WDROP.NODESIGN])
      (listsUpTo [PX_WQ, PX_XQ, XP_Q] 16) := by
  refine logged_of_live (exec_bar2Write k o f l w r s) (.ite .refl (.ite (.noDesign (.count .refl ?_) _ trivial ?_)
    (.pxPump (.setList (.put .refl ?_) (mem_listsUpTo (by simp) k.isLt)) fun _ hq => hq))) <;> simp [cellsAt]

theorem bar2Read_logged (k : Fin 16) (o : BitVec 32) (f l : BitVec 8) (n : Fin 513) (g : BitVec 10) :
    Logged (.bar2Read k o f l n g) s (cellsAt [PX_IRQ.WDROP, PX_NDLOG, PX_SEQ]) (listsUpTo [PX_WQ, PX_XQ, XP_Q] 16 ++
      listsAt [PX_RD] k) := by
  refine logged_of_live (exec_bar2Read k o f l n g s) (.ite .refl (.ite (.emit .refl) (.ite (.noDesign (.emit .refl) _
    trivial ?_) (.pxPump (.setList (.enq (.put .refl ?_) ?_) ?_) fun _ hq => List.mem_append_left _ hq))))
  case refine_4 => exact List.mem_append_left _ (mem_listsUpTo (by simp) k.isLt)
  all_goals simp [cellsAt, listsAt]

theorem writeGuardExpiry_logged (k : Fin 16) : Logged (.writeGuardExpiry k) s (cellsAt [PX_IRQ.WDROP, PX_WDROP.GUARD])
    (listsUpTo [PX_WQ, PX_XQ, XP_Q] 16) := by
  have place {q : Fifo} (hq : q ∈ [PX_WQ, PX_XQ, XP_Q]) : q.key k ∈ listsUpTo [PX_WQ, PX_XQ, XP_Q] 16 :=
    mem_listsUpTo hq k.isLt
  refine logged_of_live (exec_writeGuardExpiry k s) ?_
  cases (s.list PX_WQ k).find? exWrite with
  | none => exact .refl
  | some e =>
    refine .pxPump (.raise (.put (.count (.setList (.setList .refl (place ?_)) (place ?_)) ?_) ?_) trivial)
      fun _ hq => hq <;> simp [cellsAt]

/-! Channels, the link and violations. -/

theorem State.Within.chNone (h : s.Within S t) {c : Nat}
    (hc : ∀ k ∈ cellsAt [CH_PHASE, CH_MOVED, CH_ASKED, CH_OUT, CH_STAT, CH_TAG] c, k ∈ S.cells)
    (hq : PX_STAGE.key c ∈ S.lists) : s.Within S (t.chNone c) := by
  have cell {f : Field} (hf : f ∈ [CH_PHASE, CH_MOVED, CH_ASKED, CH_OUT, CH_STAT, CH_TAG]) : f.key c ∈ S.cells :=
    hc _ (mem_cellsAt hf)
  exact ((((((h.put (cell (by simp))).put (cell (by simp))).put (cell (by simp))).put (cell (by simp))).put
    (cell (by simp))).put (cell (by simp))).setList hq

theorem State.Within.chRest (h : s.Within S t) {c : Nat} (hc : PX_CHSTAT.STATE.key c ∈ S.cells) :
    s.Within S (t.chRest c) := h.put hc

theorem descriptorComplete_logged (c : Fin 64) : Logged (.descriptorComplete c) s (cellsAt [CH_ASKED, CH_MOVED, CH_OUT,
    CH_PHASE, CH_STAT, CH_TAG, PX_CHSTAT.STATE, PX_HEAD.HEAD] c) (listsAt [PX_STAGE] c) := by
  refine logged_of_live (exec_descriptorComplete c s) (.ite .refl (.chRest (.chNone (.put (.ite (.message (.emit .refl))
    (.emit .refl)) ?_) (mem_keys_of_subset ?_) ?_) ?_)) <;> simp [cellsAt, listsAt]

theorem linkUp_logged (v : Fin 4) (w : BitVec 4) :
    Logged (.linkUp v w) s (cellsAt [PX_IRQ.LINK, PX_LINK.SPEED, PX_LINK.WIDTH]) [] := by
  refine logged_of_live (exec_linkUp v w s) (.ite (.raise (.put (.put (.put .refl ?_) ?_) ?_) trivial) .refl) <;>
    simp [cellsAt]

theorem State.Within.violation (h : s.Within S t) (kind : Nat) (hl : S.logs)
    (hc : ∀ c ∈ cellsAt [PX_AERLOG, PX_IRQ.AER, PX_ERRCNT.MALF, PX_ERRCNT.POISON, PX_ERRCNT.UNSUP, PX_ERRCNT.UNEXP],
      c ∈ S.cells) : s.Within S (t.violation kind) := by
  have counted {f : Field} (hf : f ∈ [PX_AERLOG, PX_IRQ.AER, PX_ERRCNT.MALF, PX_ERRCNT.POISON, PX_ERRCNT.UNSUP,
      PX_ERRCNT.UNEXP]) : s.Within S (((t.count f 1).put PX_IRQ.AER 1).orBit PX_AERLOG kind) :=
    ((h.count (hc _ (mem_cellsAt hf))).put (hc _ (mem_cellsAt (by simp)))).orBit (hc _ (mem_cellsAt (by simp)))
  unfold State.violation
  dsimp only
  refine .ite (counted ?_) ((counted ?_).raise hl) <;> split <;> simp

theorem hostViolationTlp_logged (v : HostViolation) : Logged (.hostViolationTlp v) s (cellsAt [PX_AERLOG, PX_IRQ.AER,
    PX_ERRCNT.MALF, PX_ERRCNT.POISON, PX_ERRCNT.UNSUP, PX_ERRCNT.UNEXP]) [] := by
  refine logged_of_live (exec_hostViolationTlp v s) (.ite .refl ?_)
  have counted (kind : Nat) : s.Within (.logged (cellsAt [PX_AERLOG, PX_IRQ.AER, PX_ERRCNT.MALF, PX_ERRCNT.POISON,
      PX_ERRCNT.UNSUP, PX_ERRCNT.UNEXP]) []) (s.violation kind) := .violation .refl kind trivial fun _ hc => hc
  cases v with
  | unknownMessage => exact .refl
  | _ => exact counted _

/-! Hokuox ports. -/

theorem State.Within.portDrop (h : s.Within S t) {n : Nat} (st : Nat)
    (hc : ∀ c ∈ cellsAt [HX_INITC, HX_INITS, HX_PSTAT.STATE] n, c ∈ S.cells) : s.Within S (t.portDrop n st) :=
  ((h.put (hc _ (mem_cellsAt (by simp)))).put (hc _ (mem_cellsAt (by simp)))).put (hc _ (mem_cellsAt (by simp)))

theorem State.Within.hxViolation (h : s.Within S t) {n : Nat} (kind : Nat) (hl : S.logs)
    (hc : HX_PERR.VIOL.key n ∈ S.cells) (hi : HX_IRQ.VIOL.key 0 ∈ S.cells) : s.Within S (t.hxViolation n kind) :=
  .ite h (.ite (((h.count hc).put hi).raise hl) ((h.count hc).put hi))

theorem blockLock_silent (n : Fin 8) : Silent (.blockLock n) s (cellsAt [HX_INITC, HX_INITS, HX_PSTAT.STATE] n) :=
  silent_of_live (exec_blockLock n s) (.ite (.portDrop .refl _ fun _ hc => hc) .refl)

theorem blockLockLost_silent (n : Fin 8) :
    Silent (.blockLockLost n) s (cellsAt [HX_INITC, HX_INITS, HX_PSTAT.STATE] n) :=
  silent_of_live (exec_blockLockLost n s) (.ite (.portDrop .refl _ fun _ hc => hc) .refl)

theorem hxAlign_logged (n : Fin 8) (r : AlignResult) : Logged (.hxAlign n r) s (cellsAt [HX_IRQ.VIOL] ++ cellsAt
    [HX_INITC, HX_INITS, HX_PERR.VIOL, HX_PSTAT.STATE] n) [] := by
  have ported : ∀ c ∈ cellsAt [HX_INITC, HX_INITS, HX_PSTAT.STATE] n, c ∈ cellsAt [HX_IRQ.VIOL] ++ cellsAt [HX_INITC,
      HX_INITS, HX_PERR.VIOL, HX_PSTAT.STATE] n :=
    fun c hc => List.mem_append_right _ (mem_keys_of_subset (by simp) c hc)
  refine logged_of_live (exec_hxAlign n r s) (.ite .refl ?_)
  cases r with
  | deskewed => exact .ite (.portDrop .refl _ ported) .refl
  | outOfPlace => exact .portDrop .refl _ ported
  | wrongField => exact .portDrop (.hxViolation .refl _ trivial (by simp [cellsAt]) (by simp [cellsAt])) _ ported

theorem ackTimer_silent (n : Fin 8) : Silent (.ackTimer n) s (cellsAt [HX_UNACK] n) :=
  silent_of_live (exec_ackTimer n s) (.ite (.emit (.put .refl (by simp [cellsAt]))) .refl)

theorem sleep_silent (n : Fin 8) : Silent (.sleep n) s (cellsAt [HX_PSTAT.STATE] n) :=
  silent_of_live (exec_sleep n s) (.ite (.put .refl (by simp [cellsAt])) .refl)

theorem credit_logged (n : Fin 8) (k : BitVec 4) (w : BitVec 16) : Logged (.credit n k w) s (cellsAt [HX_IRQ.VIOL] ++
    cellsAt [HX_PERR.VIOL] n ++ cellsAt [HX_CRED] (16 * n + k.toNat)) [] := by
  refine logged_of_live (exec_credit n k w s) (.ite .refl (.ite (.hxViolation (.put .refl ?_) _ trivial ?_ ?_)
    (.put .refl ?_))) <;> simp [cellsAt]

/-! Packets of this device. -/

theorem State.Within.hxTx (h : s.Within S t) {n p : Nat} (hq : HX_TX.key (16 * n + pkClass p) ∈ S.lists) :
    s.Within S (t.hxTx n p) := h.enq hq

/-- The packets of one class to every port lie in the first 128 queues. -/
theorem mem_tx {n p k : Nat} (hp : pkClass p = k) (hn : n < 8) (hk : k < 16) :
    HX_TX.key (16 * n + pkClass p) ∈ listsUpTo [HX_TX] 128 := mem_listsUpTo (by simp) (by omega)

theorem State.Within.advertise (h : s.Within S t) (hq : ∀ q ∈ listsUpTo [HX_TX] 128, q ∈ S.lists) :
    s.Within S t.advertise :=
  h.foldl fun _ _ hn => .ite (.hxTx .refl (hq _ (mem_tx (State.pkClass_ownPacket (by simp) (by decide))
    (List.mem_range.mp hn) (by decide)))) .refl

theorem advertTimer_logged : Logged .advertTimer s [] (listsUpTo [HX_TX] 128) :=
  logged_of_live (exec_advertTimer s) (.ite .refl (.advertise .refl fun _ hq => hq))

theorem State.Within.routeGroup (h : s.Within S t) (g : Nat) (hq : ∀ q ∈ listsUpTo [HX_TX] 128, q ∈ S.lists) :
    s.Within S (t.routeGroup g) :=
  h.foldl fun _ _ hn => .ite (.hxTx .refl (hq _ (mem_tx (State.pkClass_ownPacket (by simp) (by decide))
    (List.mem_range.mp hn) (by decide)))) .refl

theorem routeTimer_logged : Logged .routeTimer s [] (listsUpTo [HX_TX] 128) :=
  logged_of_live (exec_routeTimer s) (.ite .refl (.foldl .refl fun _ g _ => .routeGroup .refl g fun _ hq => hq))

theorem State.Within.sendJoin (h : s.Within S t) (hq : ∀ q, q ∈ S.lists) : s.Within S t.sendJoin :=
  .ite (h.hxTx (hq _)) h

theorem joinTimer_kept : Kept .joinTimer s [] :=
  kept_of_live (exec_joinTimer s) (.ite .refl (.sendJoin .refl fun _ => trivial))

theorem State.Within.hxFree (h : s.Within S t) {n k : Nat} (w : Nat) (hc : HX_USED.key (16 * n + k) ∈ S.cells) :
    s.Within S (t.hxFree n k w) := .ite (.emit (h.put hc)) h

/-- What the head of a receive buffer leaves when it is taken. -/
theorem State.Within.of_hxHead {n k p : Nat} (hh : s.hxHead n k = some (p, t)) (hq : HX_RX.key (16 * n + k) ∈ S.lists)
    (hc : HX_USED.key (16 * n + k) ∈ S.cells) : s.Within S t := by
  unfold State.hxHead at hh
  split at hh
  · cases hh
  · cases hh
    exact .hxFree (.setList .refl hq) _ hc

theorem State.Within.grant (h : s.Within S t) (die want : Nat) (hl : S.logs) (hc : HX_DEVCNT.COUNT.key 0 ∈ S.cells)
    (hq : HX_HELD.key 0 ∈ S.lists) : s.Within S (t.grant die want).2 := by
  have given {u : State} (v n : Nat) (hu : s.Within S u) : s.Within S ((u.enq HX_HELD v).put HX_DEVCNT.COUNT n) :=
    (hu.enq hq).put hc
  unfold State.grant
  dsimp only
  split
  · exact h
  · split
    · exact given _ _ h
    · split
      · exact given _ _ (.ite h (h.raise hl))
      · exact h.raise hl

theorem join_kept (n : Fin 9) : Kept (.join n) s (cellsAt [HX_DEVCNT.COUNT] ++ cellsAt [HX_USED] (16 * n + clDISC)) := by
  refine kept_of_live (exec_join n s) ?_
  cases hh : s.hxHead n clDISC with
  | none => exact .refl
  | some r =>
    obtain ⟨p, t⟩ := r
    have taken := State.Within.of_hxHead (S := .kept (cellsAt [HX_DEVCNT.COUNT] ++ cellsAt [HX_USED] (16 * n + clDISC)))
      hh trivial (by simp [cellsAt])
    exact .ite .refl (.ite taken (.ite (.hxTx (.grant taken _ _ trivial (by simp [cellsAt]) trivial) trivial)
      (.ite (.hxTx taken trivial) taken)))

/-! Elastic channels: packets may enter any queue. -/

theorem State.Within.noRoute (h : s.Within S t) (d : Nat) (hl : S.logs) (hc : HX_NOROUTE.COUNT.key 0 ∈ S.cells) :
    s.Within S (t.noRoute d) := .ite ((h.count hc).raise hl) (h.count hc)

theorem State.Within.hxSend (h : s.Within S t) (p : Nat) (hl : S.logs) (hc : HX_NOROUTE.COUNT.key 0 ∈ S.cells)
    (hq : ∀ q, q ∈ S.lists) : s.Within S (t.hxSend p) := by
  refine .ite (h.enq (hq _)) ?_
  cases t.outPort (pkDest p) 8 with
  | none => exact h.noRoute _ hl hc
  | some n => exact h.hxTx (hq _)

theorem State.Within.epFlow (h : s.Within S t) (e : Nat) (hq : ∀ q, q ∈ S.lists) : s.Within S (t.epFlow e) := by
  refine .ite h (.ite ((h.setList (hq _)).enq (hq _)) ?_)
  cases t.outPort (t.get EPS_ADDR e) 8 with
  | none => exact h
  | some n => exact .ite h (h.hxTx (hq _))

theorem State.Within.epTake (h : s.Within S t) {e : Nat} (data : Nat)
    (hc : ∀ c ∈ cellsAt [EPS_CNT, EPS_CREDIT, EPS_SEQ] e, c ∈ S.cells) (hq : ∀ q, q ∈ S.lists) :
    s.Within S (t.epTake e data) := by
  have cell {f : Field} (hf : f ∈ [EPS_CNT, EPS_CREDIT, EPS_SEQ]) : f.key e ∈ S.cells := hc _ (mem_cellsAt hf)
  exact .epFlow ((((h.put (cell (by simp))).put (cell (by simp))).put (cell (by simp))).enq (hq _)) e hq

theorem outboundToken_kept (j : Fin 32) (e : Fin 4096) (b : Bool) (v : BitVec 64) :
    Kept (.outboundToken j e b v) s (cellsAt [EPS_CNT, EPS_CREDIT, EPS_DRY, EPS_SEQ] e) := by
  have dry : s.Within (.kept (cellsAt [EPS_CNT, EPS_CREDIT, EPS_DRY, EPS_SEQ] e)) (s.put EPS_DRY 1 e) :=
    .put .refl (by simp [cellsAt])
  exact kept_of_live (exec_outboundToken j e b v s) (.ite .refl (.ite (.emit .refl) (.ite (.emit .refl) (.ite
    (.emit .refl) (.ite (.emit (.epTake .refl _ (mem_keys_of_subset (by simp)) fun _ => trivial)) (.ite
    (dry.setList trivial) dry.emit))))))

theorem State.Within.epReturn (h : s.Within S t) {e : Nat} (hl : S.logs) (hc : EPS_DUE.key e ∈ S.cells)
    (hn : HX_NOROUTE.COUNT.key 0 ∈ S.cells) (hq : ∀ q, q ∈ S.lists) : s.Within S (t.epReturn e) :=
  .ite h ((h.put hc).hxSend _ hl hn hq)

theorem inboundTokenAck_kept (j : Fin 32) : Kept (.inboundTokenAck j) s (cellsAt [HX_NOROUTE.COUNT] ++ cellsUpTo
    [EPS_CREDIT, EPS_DUE] 4096) := by
  refine kept_of_live (exec_inboundTokenAck j s) (.ite .refl ?_)
  cases s.list HX_INQ j with
  | nil => exact .refl
  | cons t r =>
    have ep : t % 2 ^ 12 < 4096 := Nat.mod_lt _ (by decide)
    have counted {u : State} {f : Field} {v : Nat} (hf : f ∈ [EPS_CREDIT, EPS_DUE]) (hu : s.Within (.kept (cellsAt
        [HX_NOROUTE.COUNT] ++ cellsUpTo [EPS_CREDIT, EPS_DUE] 4096)) u) : s.Within (.kept (cellsAt [HX_NOROUTE.COUNT] ++
        cellsUpTo [EPS_CREDIT, EPS_DUE] 4096)) (u.put f v (t % 2 ^ 12)) :=
      hu.put (List.mem_append_right _ (mem_cellsUpTo hf ep))
    have taken (v w : Nat) := counted (f := EPS_DUE) (v := w) (by simp) (counted (f := EPS_CREDIT) (v := v) (by simp)
      (.emit (k := .toArray) (args := [8, j, t % 2 ^ 12, t / 2 ^ 12]) (.setList (q := HX_INQ) (l := r) (i := j) .refl
        trivial)))
    exact .ite ((taken _ _).epReturn trivial (List.mem_append_right _ (mem_cellsUpTo (by simp) ep)) (by simp [cellsAt])
      fun _ => trivial) (taken _ _)

theorem openTimer_kept (e : Fin 4096) : Kept (.openTimer e) s (cellsAt [HX_NOROUTE.COUNT]) :=
  kept_of_live (exec_openTimer e s) (.ite (.hxSend .refl _ trivial (by simp [cellsAt]) fun _ => trivial) .refl)

theorem creditReturnTimer_kept (e : Fin 4096) :
    Kept (.creditReturnTimer e) s (cellsAt [HX_NOROUTE.COUNT] ++ cellsAt [EPS_DUE] e) :=
  kept_of_live (exec_creditReturnTimer e s) (.ite (.epReturn .refl trivial (by simp [cellsAt]) (by simp [cellsAt])
    fun _ => trivial) .refl)

theorem probe_kept (n : Fin 9) : Kept (.probe n) s (cellsAt [HX_NOROUTE.COUNT, HX_IRQ.VIOL] ++ cellsAt [HX_PERR.VIOL] n
    ++ cellsAt [HX_USED] (16 * n + clCH)) := by
  refine kept_of_live (exec_probe n s) ?_
  unfold State.chPacketOf
  cases hh : s.hxHead n clCH with
  | none => exact .refl
  | some r =>
    obtain ⟨p, t⟩ := r
    have taken := State.Within.of_hxHead (S := .kept (cellsAt [HX_NOROUTE.COUNT, HX_IRQ.VIOL] ++ cellsAt [HX_PERR.VIOL] n
      ++ cellsAt [HX_USED] (16 * n + clCH))) hh trivial (by simp [cellsAt])
    exact .ite .refl (.ite taken (.ite (taken.hxViolation _ trivial (by simp [cellsAt]) (by simp [cellsAt])) (.ite taken
      (taken.hxSend _ trivial (by simp [cellsAt]) fun _ => trivial))))

/-! Remote accesses. -/

theorem State.Within.csrSend (h : s.Within S t) (r : CsrReq) (hl : S.logs)
    (hc : ∀ c ∈ cellsAt [HX_CTAG, HX_NOROUTE.COUNT], c ∈ S.cells) (hq : ∀ q, q ∈ S.lists) :
    s.Within S (t.csrSend r) := by
  have sent : s.Within S ((t.put HX_CTAG (t.get HX_CTAG + 1)).emit .csrSent [r.dest, b2n r.write, r.off, r.data]) :=
    (h.put (hc _ (mem_cellsAt (by simp)))).emit
  exact .hxSend (.ite (sent.enq (hq _)) (sent.enq (hq _))) _ hl (hc _ (mem_cellsAt (by simp))) hq

theorem State.Within.csrPump (h : s.Within S t) (fuel : Nat) (hl : S.logs)
    (hc : ∀ c ∈ cellsAt [HX_CTAG, HX_NOROUTE.COUNT], c ∈ S.cells) (hq : ∀ q, q ∈ S.lists) :
    s.Within S (csrPump fuel t) := by
  induction fuel generalizing t with
  | zero => exact h
  | succ f ih =>
    unfold Machine.csrPump
    refine .ite h ?_
    split
    · exact h
    · exact ih ((h.setList (hq _)).csrSend _ hl hc hq)

theorem writeAck_kept (n : Fin 9) :
    Kept (.writeAck n) s (cellsAt [HX_CTAG, HX_NOROUTE.COUNT] ++ cellsAt [HX_USED] (16 * n + clCSR)) := by
  refine kept_of_live (exec_writeAck n s) ?_
  cases hh : s.hxHead n clCSR with
  | none => exact .refl
  | some r =>
    obtain ⟨p, t⟩ := r
    have taken := State.Within.of_hxHead (S := .kept (cellsAt [HX_CTAG, HX_NOROUTE.COUNT] ++ cellsAt [HX_USED]
      (16 * n + clCSR))) hh trivial (by simp [cellsAt])
    exact .ite .refl (.csrPump (taken.setList trivial) _ trivial (fun _ hc => List.mem_append_left _ hc)
      fun _ => trivial)

theorem csrWriteLost_kept (n : Fin 255) :
    Kept (.csrWriteLost n) s (cellsAt [HX_CTAG, HX_NOROUTE.COUNT, HX_IRQ.CSR, HX_CSRCNT.LOST]) := by
  refine kept_of_live (exec_csrWriteLost n s) ?_
  cases s.list HX_CSRW n with
  | nil => exact .refl
  | cons x r =>
    have lost := State.Within.put (State.Within.count (State.Within.setList (s := s) (S := .kept (cellsAt [HX_CTAG,
      HX_NOROUTE.COUNT, HX_IRQ.CSR, HX_CSRCNT.LOST])) (q := HX_CSRW) (l := r) (i := n) .refl trivial) (f :=
      HX_CSRCNT.LOST) (n := 1) (i := 0) (by simp [cellsAt])) (f := HX_IRQ.CSR) (v := 1) (i := 0) (by simp [cellsAt])
    exact .csrPump (.ite (lost.raise trivial) lost) _ trivial (mem_keys_of_subset (by simp)) fun _ => trivial

theorem State.Within.csrAsk (h : s.Within S t) (r : CsrReq) (hl : S.logs)
    (hc : ∀ c ∈ cellsAt [HX_CTAG, HX_NOROUTE.COUNT], c ∈ S.cells) (hq : ∀ q, q ∈ S.lists) :
    s.Within S (t.csrAsk r) := (h.enq (hq _)).csrPump _ hl hc hq

/-! Time transfer. -/

theorem timeExchangePeriod_logged (n : Fin 8) :
    Logged (.timeExchangePeriod n) s (cellsAt [HX_TNUM] n) (listsAt [HX_TX] (16 * n + clTIME)) :=
  logged_of_live (exec_timeExchangePeriod n s) (.ite (.hxTx (.put .refl (by simp [cellsAt]))
    (by rw [State.pkClass_ownPacket (by simp) (by decide)]; simp [listsAt])) .refl)

theorem State.Within.timeDrop (h : s.Within S t) (hl : S.logs)
    (hc : ∀ c ∈ cellsAt [HX_TSTEP, HX_TDROP, HX_IRQ.TIME], c ∈ S.cells) : s.Within S t.timeDrop := by
  have counted (v : Nat) : s.Within S ((t.put HX_TSTEP 0).put HX_TDROP v) :=
    (h.put (hc _ (mem_cellsAt (by simp)))).put (hc _ (mem_cellsAt (by simp)))
  exact .ite ((((counted _).put (hc _ (mem_cellsAt (by simp)))).put (hc _ (mem_cellsAt (by simp)))).raise hl) (counted _)

theorem sync_logged (n : Fin 9) : Logged (.sync n) s (cellsAt [HX_IRQ.TIME, HX_T2, HX_TDROP, HX_TSTEP, HX_XNUM] ++
    cellsAt [HX_USED] (16 * n + clTIME)) (listsAt [HX_RX] (16 * n + clTIME)) := by
  refine logged_of_live (exec_sync n s) ?_
  cases hh : s.hxHead n clTIME with
  | none => exact .refl
  | some r =>
    obtain ⟨p, t⟩ := r
    have taken := State.Within.of_hxHead (S := .logged (cellsAt [HX_IRQ.TIME, HX_T2, HX_TDROP, HX_TSTEP, HX_XNUM] ++
      cellsAt [HX_USED] (16 * n + clTIME)) (listsAt [HX_RX] (16 * n + clTIME))) hh (by simp [listsAt]) (by simp [cellsAt])
    have drop : ∀ c ∈ cellsAt [HX_TSTEP, HX_TDROP, HX_IRQ.TIME], c ∈ (Scope.logged (cellsAt [HX_IRQ.TIME, HX_T2, HX_TDROP,
        HX_TSTEP, HX_XNUM] ++ cellsAt [HX_USED] (16 * n + clTIME)) (listsAt [HX_RX] (16 * n + clTIME))).cells :=
      fun c hc => List.mem_append_left _ (mem_keys_of_subset (by simp) c hc)
    have open_ := State.Within.ite (c := t.get HX_TSTEP ≠ 0) (taken.timeDrop trivial drop) taken
    refine .ite .refl (.ite taken (.ite (open_.timeDrop trivial drop) (.put (.put (.put open_ ?_) ?_) ?_))) <;>
      simp [cellsAt]

theorem follow_logged (n : Fin 9) : Logged (.follow n) s (cellsAt [HX_PEPOCH, HX_T1, HX_TSTEP] ++ cellsAt [HX_USED]
    (16 * n + clTIME)) (listsAt [HX_RX, HX_TX] (16 * n + clTIME)) := by
  refine logged_of_live (exec_follow n s) ?_
  cases hh : s.hxHead n clTIME with
  | none => exact .refl
  | some r =>
    obtain ⟨p, t⟩ := r
    have taken := State.Within.of_hxHead (S := .logged (cellsAt [HX_PEPOCH, HX_T1, HX_TSTEP] ++ cellsAt [HX_USED]
      (16 * n + clTIME)) (listsAt [HX_RX, HX_TX] (16 * n + clTIME))) hh (by simp [listsAt]) (by simp [cellsAt])
    have noted := (taken.put (f := HX_T1) (v := pkWord p 0 + 2 ^ 64 * bits (pkWord p 1) 0 16) (i := 0)
      (by simp [cellsAt])).put (f := HX_TSTEP) (v := 2) (i := 0) (by simp [cellsAt])
    refine .ite .refl (.ite taken (.hxTx (.ite (noted.put (by simp [cellsAt])) noted) ?_))
    rw [State.pkClass_ownPacket (by simp) (by decide)]
    simp [listsAt]

theorem dreq_logged (n : Fin 9) : Logged (.dreq n) s (cellsAt [HX_USED] (16 * n + clTIME)) (listsAt [HX_RX, HX_TX]
    (16 * n + clTIME)) := by
  refine logged_of_live (exec_dreq n s) ?_
  cases hh : s.hxHead n clTIME with
  | none => exact .refl
  | some r =>
    obtain ⟨p, t⟩ := r
    refine .ite .refl (.hxTx (.of_hxHead hh (by simp [listsAt]) (by simp [cellsAt])) ?_)
    rw [State.pkClass_ownPacket (by simp [State.timeWords]) (by decide)]
    simp [listsAt]

/-! The pair's heartbeat, containers and update sessions. -/

theorem State.Within.mirSend (h : s.Within S t) (kind : Nat) (ws : List Nat) (hc : MI_SEQ.key 0 ∈ S.cells)
    (hq : ∀ q, q ∈ S.lists) : s.Within S (t.mirSend kind ws) := by
  unfold State.mirSend
  cases t.mirrorPort with
  | none => exact h
  | some n => exact .ite h ((h.hxTx (hq _)).put hc)

theorem heartbeatTimer_kept : Kept .heartbeatTimer s (cellsAt [HX_CTAG, HX_NOROUTE.COUNT, MI_SEQ]) := by
  have sent (ws : List Nat) : s.Within (.kept (cellsAt [HX_CTAG, HX_NOROUTE.COUNT, MI_SEQ])) (s.mirSend 1 ws) :=
    .mirSend .refl 1 ws (by simp [cellsAt]) fun _ => trivial
  have asked {u : State} (r : CsrReq) (hu : s.Within (.kept (cellsAt [HX_CTAG, HX_NOROUTE.COUNT, MI_SEQ])) u) :
      s.Within (.kept (cellsAt [HX_CTAG, HX_NOROUTE.COUNT, MI_SEQ])) (u.csrAsk r) :=
    hu.csrAsk r trivial (mem_keys_of_subset (by simp)) fun _ => trivial
  exact kept_of_live (exec_heartbeatTimer s) (.ite .refl (.ite (sent _) (.ite (asked _ (asked _ (sent _)))
    (.ite (.ite (asked _ (sent _)) (asked _ (asked _ (sent _)))) (sent _)))))

theorem State.Within.updDrop (h : s.Within S t) {n : Nat} (fuel : Nat) (hq : HX_RX.key (16 * n + clUPD) ∈ S.lists)
    (hc : HX_USED.key (16 * n + clUPD) ∈ S.cells) : s.Within S (updDrop n fuel t) := by
  induction fuel generalizing t with
  | zero => exact h
  | succ f ih =>
    unfold Machine.updDrop
    cases hh : t.hxHead n clUPD with
    | none => exact h
    | some r => exact .ite h (ih (h.trans (.of_hxHead hh hq hc)))

theorem State.Within.of_updHead {n id p : Nat} (hh : s.updHead n id = some (p, t))
    (hq : HX_RX.key (16 * n + clUPD) ∈ S.lists) (hc : HX_USED.key (16 * n + clUPD) ∈ S.cells) : s.Within S t := by
  unfold State.updHead at hh
  split at hh
  next q u head =>
    split at hh
    · cases hh
      exact (State.Within.updDrop .refl _ hq hc).trans (.of_hxHead head hq hc)
    · cases hh
  · cases hh

theorem cfgReq_logged (n : Fin 8) (d : List (BitVec 8)) : Logged (.cfgReq n d) s (cellsAt [HX_USED] (16 * n + clUPD))
    (listsAt [HX_RX, HX_TX] (16 * n + clUPD)) := by
  refine logged_of_live (exec_cfgReq n d s) ?_
  cases hh : s.updHead n 0 with
  | none => exact .refl
  | some r =>
    obtain ⟨p, t⟩ := r
    have sent {u v : State} {id seq : Nat} {ws : List Nat} (hw : ws.length < 2 ^ 16)
        (hu : s.Within (.logged (cellsAt [HX_USED] (16 * n + clUPD)) (listsAt [HX_RX, HX_TX] (16 * n + clUPD))) u) :
        s.Within (.logged (cellsAt [HX_USED] (16 * n + clUPD)) (listsAt [HX_RX, HX_TX] (16 * n + clUPD)))
          (u.hxTx n (v.ownPacket 0 clUPD id seq ws)) :=
      hu.hxTx (by rw [State.pkClass_ownPacket hw (by decide)]; simp [listsAt])
    have kept (l : List Nat) := State.Within.setList (q := HX_TX) (i := 16 * n + clUPD) (l := l) (State.Within.of_updHead
      (S := .logged (cellsAt [HX_USED] (16 * n + clUPD)) (listsAt [HX_RX, HX_TX] (16 * n + clUPD))) hh
      (by simp [listsAt]) (by simp [cellsAt])) (by simp [listsAt])
    refine .ite (sent (by simp) (kept _)) (sent (by simp) (State.Within.foldl (kept _) fun u i _ => ?_))
    refine .hxTx .refl ?_
    rw [State.pkClass_ownPacket (by simp only [List.length_take]; omega) (by decide)]
    simp [listsAt]

theorem cfgData_logged : Logged .cfgData s (cellsAt [CT_RX] ++ cellsAt [HX_USED] clUPD) (listsAt [CT_BYTES] ++ listsAt
    [HX_RX] clUPD) := by
  refine logged_of_live (exec_cfgData s) ?_
  cases hh : s.updHead 0 1 with
  | none => exact .refl
  | some r =>
    obtain ⟨p, t⟩ := r
    have taken := State.Within.of_updHead (S := .logged (cellsAt [CT_RX] ++ cellsAt [HX_USED] clUPD) (listsAt [CT_BYTES] ++
      listsAt [HX_RX] clUPD)) hh (by simp [listsAt]) (by simp [cellsAt])
    refine .ite (.put (.setList taken ?_) ?_) taken <;> simp [cellsAt, listsAt]

theorem State.Within.cfgRequest (h : s.Within S t)
    (hc : ∀ c ∈ cellsAt [CT_AFTER, CT_CRC, CT_PLEFT, CT_POS, CT_RX, CT_SPAN], c ∈ S.cells)
    (hq : ∀ q ∈ listsAt [CT_BYTES, CT_PAYLOAD] ++ listsAt [HX_TX] clUPD, q ∈ S.lists) : s.Within S t.cfgRequest := by
  have cell {f : Field} (hf : f ∈ [CT_AFTER, CT_CRC, CT_PLEFT, CT_POS, CT_RX, CT_SPAN]) : f.key 0 ∈ S.cells :=
    hc _ (mem_cellsAt hf)
  have back (a b c d e : Nat) (l m : List Nat) : s.Within S ((((((((t.setList CT_BYTES l).setList CT_PAYLOAD m).put
      CT_POS a).put CT_SPAN b).put CT_CRC c).put CT_AFTER d).put CT_PLEFT e).put CT_RX 0) :=
    ((((((((h.setList (hq _ (by simp [listsAt]))).setList (hq _ (by simp [listsAt]))).put (cell (by simp))).put
      (cell (by simp))).put (cell (by simp))).put (cell (by simp))).put (cell (by simp))).put (cell (by simp)))
  refine .ite (.hxTx (back ..) (hq _ ?_)) (back ..)
  rw [State.pkClass_ownPacket (by simp) (by decide)]
  simp [listsAt]

theorem cfgReqTimer_logged : Logged .cfgReqTimer s (cellsAt [CT_AFTER, CT_CRC, CT_PLEFT, CT_POS, CT_RX, CT_SPAN])
    (listsAt [CT_BYTES, CT_PAYLOAD] ++ listsAt [HX_TX] clUPD) :=
  logged_of_live (exec_cfgReqTimer s) (.ite (.cfgRequest .refl (fun _ hc => hc) fun _ hq => hq) .refl)

theorem State.Within.broadcast (h : s.Within S t) {cls id : Nat} {ws : List Nat} (hw : ws.length < 2 ^ 16)
    (hk : cls < 16) (hq : ∀ q ∈ (List.range 8).flatMap fun o => listsAt [HX_TX] (16 * o + cls), q ∈ S.lists) :
    s.Within S (t.broadcast cls id ws) := by
  refine h.foldl fun u o ho => .ite (.hxTx .refl (hq _ ?_)) .refl
  rw [State.pkClass_ownPacket hw hk]
  exact List.mem_flatMap.mpr ⟨o, ho, mem_listsAt (by simp)⟩

theorem query_logged (n : Fin 9) : Logged (.query n) s (cellsAt [HX_USED] (16 * n + clUPD)) (listsAt [HX_RX]
    (16 * n + clUPD) ++ (List.range 8).flatMap fun o => listsAt [HX_TX] (16 * o + clUPD)) := by
  refine logged_of_live (exec_query n s) ?_
  cases hh : s.updHead n 0x1C with
  | none => exact .refl
  | some r =>
    obtain ⟨p, t⟩ := r
    have taken := State.Within.of_updHead (S := .logged (cellsAt [HX_USED] (16 * n + clUPD)) (listsAt [HX_RX]
      (16 * n + clUPD) ++ (List.range 8).flatMap fun o => listsAt [HX_TX] (16 * o + clUPD))) hh (by simp [listsAt])
      (by simp [cellsAt])
    have answered (v : Nat) := taken.broadcast (cls := clUPD) (id := 0x1D) (ws := [pkWord p 0, v]) (by simp) (by decide)
      fun _ hq => List.mem_append_right _ hq
    exact .ite (answered _) (.ite (answered _) taken)

theorem queryTimer_logged : Logged .queryTimer s [] ((List.range 8).flatMap fun o => listsAt [HX_TX] (16 * o + clUPD)) :=
  logged_of_live (exec_queryTimer s) (.ite (.broadcast .refl (by simp) (by decide) fun _ hq => hq) .refl)

end Clauses

/-- Settles O55: each clause by the scope of its command's effect. -/
theorem linkHappeningsKeepTheRest : Obligations.LinkHappeningsKeepTheRest := by
  unfold Obligations.LinkHappeningsKeepTheRest
  intro s
  exact ⟨bar2Write_logged, bar2Read_logged, writeGuardExpiry_logged, descriptorComplete_logged, linkUp_logged,
    hostViolationTlp_logged, blockLock_silent, blockLockLost_silent, hxAlign_logged, ackTimer_silent, sleep_silent,
    credit_logged, advertTimer_logged, routeTimer_logged, joinTimer_kept, join_kept, outboundToken_kept,
    inboundTokenAck_kept, openTimer_kept, creditReturnTimer_kept, probe_kept, writeAck_kept, csrWriteLost_kept,
    timeExchangePeriod_logged, sync_logged, follow_logged, dreq_logged, heartbeatTimer_kept, cfgReq_logged,
    cfgData_logged, cfgReqTimer_logged, query_logged, queryTimer_logged⟩

end Sys2Proof.Machine
end

section
/-! O36: remote accesses and the exchanges of time with a neighbour (R536 to R541). -/

namespace Sys2Proof.Machine

/-- Arrays that lie apart from some registers are in the scope that spares those. -/
theorem Scope.outside_upTo {fs gs : List Field} {n : Nat} (h : (fs.all fun f => gs.all fun g => f.spares n g) = true) :
    ∀ k ∈ cellsUpTo fs n, k ∈ (Scope.outside (cellsAt gs)).cells := by
  intro k hk hg
  obtain ⟨j, hj, hm⟩ := List.mem_flatMap.mp hk
  obtain ⟨f, hf, rfl⟩ := List.mem_map.mp hm
  obtain ⟨g, hg, same⟩ := List.mem_map.mp hg
  have apart := List.all_eq_true.mp (List.all_eq_true.mp h f hf) g hg
  exact Field.key_spares (List.mem_range.mp hj) apart same.symm

section Clauses

variable {s t : State} {n : Fin 9} {p : Nat}

/-! Remote accesses. -/

theorem csrRequest_read (ha : Awake s) (hh : s.hxHead n clCSR = some (p, t)) (hm : s.mode ≠ mDORMANT)
    (hop : pkId p / 2 ^ 8 = 0) :
    let r := busRead .hokuoxRemote (pkWord p 0 % 2 ^ 20 / 4 * 4) t
    exec (.csrRequest n) s =
      run s (r.2.hxSend (r.2.ownPacket (pkSrc p) clCSR (pkId p % 2 ^ 8 + 2 ^ 8 * 2) (pkSeq p) [r.1 % 2 ^ 32])) := by
  refine (exec_live (exec_csrRequest n s) ha).trans ?_
  simp only [hm, if_false, hh, hop, if_true]

theorem csrRequest_write (ha : Awake s) (hh : s.hxHead n clCSR = some (p, t)) (hm : s.mode ≠ mDORMANT)
    (hop : pkId p / 2 ^ 8 = 1) :
    let u := busWrite .hokuoxRemote (pkWord p 0 % 2 ^ 20 / 4 * 4) (bits (pkWord p 0) 32 32) t
    exec (.csrRequest n) s =
      run s (u.hxSend (u.ownPacket (pkSrc p) clCSR (pkId p % 2 ^ 8 + 2 ^ 8 * 3) (pkSeq p) [])) := by
  refine (exec_live (exec_csrRequest n s) ha).trans ?_
  simp only [hm, if_false, hh, hop, Nat.one_ne_zero, if_true]

theorem readResp_late (ha : Awake s) (hh : s.hxHead n clCSR = some (p, t)) (hop : pkId p / 2 ^ 8 = 2)
    (hr : t.readOf (pkSeq p) = none) : Answers (.readResp n) s fun v =>
      v.get PX_GCNT.LATE = min (t.get PX_GCNT.LATE + 1) (2 ^ PX_GCNT.LATE.width - 1) := by
  refine answers_live_delivers (exec_readResp n s) ha fun v hv => ?_
  rw [hv.get (by decide), hh]
  simp only [hop, ne_eq, not_true, if_false, hr, State.lateAnswer]
  split
  · rw [State.raise_get _ _ _ _ (by decide) (by decide), State.get_count_self]
  · exact State.get_count_self ..

theorem readResp_ends {d r : Nat} (ha : Awake s) (hh : s.hxHead n clCSR = some (p, t)) (hop : pkId p / 2 ^ 8 = 2)
    (hr : t.readOf (pkSeq p) = some (d, r)) (hs : bits (pkWord p 0) 32 2 ≠ 1) :
    let u := (t.setList PX_RREAD ((t.list PX_RREAD d).erase r) d).readEnds r (some (pkWord p 0 % 2 ^ 32))
    exec (.readResp n) s = run s (csrPump (u.list HX_CSRQ).length u) := by
  refine (exec_live (exec_readResp n s) ha).trans ?_
  simp only [hh, hop, ne_eq, not_true, if_false, hr, hs]

theorem csrPump_idle (h : s.list HX_CSRQ = []) : csrPump (s.list HX_CSRQ).length s = s := by rw [h]; rfl

theorem pkSrc_lt (p : Nat) : pkSrc p < 256 := Nat.mod_lt _ (by decide)

theorem writeAck_answers (ha : Awake s) (hh : s.hxHead n clCSR = some (p, t)) (hop : pkId p / 2 ^ 8 = 3)
    (hq : t.list HX_CSRQ = []) : Answers (.writeAck n) s fun v =>
      v.list HX_CSRW (pkSrc p) = (t.list HX_CSRW (pkSrc p)).filter fun x => x ≠ pkSeq p := by
  refine answers_live_delivers (exec_writeAck n s) ha fun v hv => ?_
  have idle : (t.setList HX_CSRW ((t.list HX_CSRW (pkSrc p)).filter fun x => x ≠ pkSeq p) (pkSrc p)).list HX_CSRQ = [] := by
    rw [State.list_setList_ne _ _ (by have := pkSrc_lt p; simp only [Fifo.key, HX_CSRQ, HX_CSRW]; omega), hq]
  rw [hv.list, hh]
  simp only [hop, ne_eq, not_true, if_false]
  rw [csrPump_idle idle, State.list_setList_self]

theorem csrWriteLost_answers {n : Fin 255} {x : Nat} {r : List Nat} (ha : Awake s) (hw : s.list HX_CSRW n = x :: r)
    (hq : s.list HX_CSRQ = []) : Answers (.csrWriteLost n) s fun t => t.list HX_CSRW n = r ∧ t.get HX_IRQ.CSR = 1 ∧
      t.get HX_CSRCNT.LOST = min (s.get HX_CSRCNT.LOST + 1) (2 ^ HX_CSRCNT.LOST.width - 1) := by
  refine answers_live_delivers (exec_csrWriteLost n s) ha fun t ht => ?_
  have lists (b : Bool) (d : Nat) : let u := ((s.setList HX_CSRW r n).count HX_CSRCNT.LOST 1).put HX_IRQ.CSR 1
      let v := if b then u.raise Rc.HX_CSR_LOST n d else u
      v.list HX_CSRQ = [] ∧ v.list HX_CSRW n = r ∧ v.get HX_IRQ.CSR = 1 ∧
        v.get HX_CSRCNT.LOST = min (s.get HX_CSRCNT.LOST + 1) (2 ^ HX_CSRCNT.LOST.width - 1) := by
    have idle : (s.setList HX_CSRW r n).list HX_CSRQ = [] := by
      rw [State.list_setList_ne _ _ (by have := n.isLt; simp only [Fifo.key, HX_CSRQ, HX_CSRW]; omega), hq]
    cases b <;> simp +decide [State.raise_get, State.raise_list, State.get_put_ne, State.get_put_self, idle,
      State.get_count_self, State.list_setList_self]
  obtain ⟨idle, left, irq, lost⟩ := lists (decide (s.get HX_CSRCNT.LOST = 0)) 0
  simp only [ht.list, ht.get (show HX_IRQ.CSR.key 0 ≠ MSI_PEND.key 0 by decide),
    ht.get (show HX_CSRCNT.LOST.key 0 ≠ MSI_PEND.key 0 by decide), hw]
  simp only [decide_eq_true_eq] at idle left irq lost
  rw [csrPump_idle idle]
  exact ⟨left, irq, lost⟩

/-! Time transfer. -/

theorem timeExchangePeriod_answers {n : Fin 8} (ha : Awake s) (hup : s.get HX_PSTAT.STATE n = hpUP)
    (hc : s.get HX_PSTAT.CHILD n = 1) : Answers (.timeExchangePeriod n) s fun t =>
      let p := s.ownPacket 0 clTIME 0 (s.get HX_TNUM n) [0, 0]
      t.get HX_TNUM n = (s.get HX_TNUM n + 1) % 2 ^ 16 ∧
        t.list HX_TX (16 * n + pkClass p) = s.list HX_TX (16 * n + pkClass p) ++ [p] := by
  refine answers_live_delivers (exec_timeExchangePeriod n s) ha fun t ht => ?_
  simp only [hup, State.flag, hc, decide_true, Bool.and_self, if_true] at ht
  exact ⟨(ht.get (by simp +decide)).trans (State.get_put_self ..), (ht.list ..).trans State.hxTx_list⟩

theorem sync_answers (ha : Awake s) (hh : s.hxHead n clTIME = some (p, t)) (hid : pkId p = 0)
    (hs : t.servoPort n = true) (hstep : t.get HX_TSTEP = 0) (hat : 2 ^ 80 ≤ t.get HX_TAT n) :
    Answers (.sync n) s fun v =>
      v.get HX_TSTEP = 1 ∧ v.get HX_XNUM = pkSeq p ∧ v.get HX_T2 = t.get HX_TAT n % 2 ^ 80 := by
  refine answers_live_delivers (exec_sync n s) ha fun v hv => ?_
  simp only [hh, hid, ne_eq, not_true, if_false, hs, Bool.not_true, Bool.false_eq_true, hstep, not_lt.mpr hat] at hv
  have seq : pkSeq p % 2 ^ HX_XNUM.width = pkSeq p := Nat.mod_eq_of_lt (Nat.mod_lt _ (by decide))
  simp +decide [hv.get, State.get_put_ne, State.get_put_self, seq]
  rfl

theorem follow_answers (ha : Awake s) (hh : s.hxHead n clTIME = some (p, t)) (hid : pkId p = 1)
    (hs : t.servoPort n = true) (hstep : t.get HX_TSTEP = 1) (hx : t.get HX_XNUM = pkSeq p) :
    Answers (.follow n) s fun v =>
      v.get HX_TSTEP = 2 ∧ v.get HX_T1 = pkWord p 0 + 2 ^ 64 * bits (pkWord p 1) 0 16 := by
  refine answers_live_delivers (exec_follow n s) ha fun v hv => ?_
  have fits : (pkWord p 0 + 2 ^ 64 * bits (pkWord p 1) 0 16) % 2 ^ HX_T1.width =
      pkWord p 0 + 2 ^ 64 * bits (pkWord p 1) 0 16 := by
    have low : pkWord p 0 < 2 ^ 64 := Nat.mod_lt _ (by decide)
    have high : bits (pkWord p 1) 0 16 < 2 ^ 16 := Nat.mod_lt _ (by decide)
    simp only [HX_T1, Nat.reducePow] at *
    omega
  simp only [hh, hid, ne_eq, not_true, if_false, hs, Bool.not_true, hstep, hx, decide_false,
    Bool.or_self, Bool.false_eq_true] at hv
  rw [hv.get (by decide), hv.get (by decide)]
  by_cases epoch : bit (pkWord p 1) 16 = true <;>
    (simp +decide [epoch, State.get_put_ne, State.get_put_self]; exact fits)

theorem dreq_run (ha : Awake s) (hh : s.hxHead n clTIME = some (p, t)) (hid : pkId p = 2) :
    exec (.dreq n) s = run s (t.hxTx n (t.ownPacket 0 clTIME 3 (pkSeq p) (t.timeWords (t.get HX_TAT n % 2 ^ 80)))) := by
  refine (exec_live (exec_dreq n s) ha).trans ?_
  simp only [hh, hid, ne_eq, not_true, if_false]

/-- The step or slew of the servo and the flags that follow it. -/
def State.servoMoves (s : State) (offset : Int) : State :=
  let t := if 65536000 < offset.natAbs then s.timeStep (ofSigned 64 (-offset)) else s.slewStart (ofSigned 64 (-offset))
  let t := if t.flag HX_PEPOCH then t.put BS_TBSTAT.EPOCH 1 else t
  if offset.natAbs < 65536000 then t.put BS_TBSTAT.COARSE 0 else t

theorem State.Within.servoMoves (t : State) (offset : Int) :
    t.Within (.outside (cellsAt [HX_TSTEP, HX_TSTAT.OFFSET])) (t.servoMoves offset) := by
  have moved : t.Within (.outside (cellsAt [HX_TSTEP, HX_TSTAT.OFFSET])) (if 65536000 < offset.natAbs then
      t.timeStep (ofSigned 64 (-offset)) else t.slewStart (ofSigned 64 (-offset))) :=
    .ite (.timeStep .refl _ trivial (Scope.all_outside (by decide)) (Scope.outside_upTo (by decide)))
      (.slewStart .refl _ (Scope.all_outside (by decide)))
  have followed := State.Within.ite (c := ((if 65536000 < offset.natAbs then t.timeStep (ofSigned 64 (-offset))
    else t.slewStart (ofSigned 64 (-offset))).flag HX_PEPOCH) = true) (moved.put (f := BS_TBSTAT.EPOCH) (v := 1) (i := 0)
    (Scope.mem_outside (by decide))) moved
  exact .ite (followed.put (Scope.mem_outside (by decide))) followed

theorem dresp_answers (ha : Awake s) (hh : s.hxHead n clTIME = some (p, t)) (hid : pkId p = 3)
    (hs : t.servoPort n = true) (hstep : t.get HX_TSTEP = 3) (hx : t.get HX_XNUM = pkSeq p) :
    let t4 := toSigned 80 (pkWord p 0 + 2 ^ 64 * bits (pkWord p 1) 0 16)
    let offset := ((toSigned 80 (t.get HX_T2) - toSigned 80 (t.get HX_T1)) - (t4 - toSigned 80 (t.get HX_T3))) / 2 -
      toSigned 32 (t.get HX_PASYM.ASYM n)
    Answers (.dresp n) s fun v => v.get HX_TSTEP = 0 ∧ v.get HX_TSTAT.OFFSET = sat32 offset % 2 ^ 32 := by
  intro t4 offset
  refine answers_live_delivers (exec_dresp n s) ha fun v hv => ?_
  simp only [hh, hid, ne_eq, not_true, if_false, hs, Bool.not_true, hstep, hx, decide_false, Bool.or_self,
    Bool.false_eq_true] at hv
  rw [hv.get (by decide), hv.get (by decide)]
  have kept {f : Field} (w : State) (hf : f.key 0 ∈ cellsAt [HX_TSTEP, HX_TSTAT.OFFSET]) (hn : f.key 0 ∉ noiseCells) :
      (w.servoMoves offset).get f = w.get f := (State.Within.servoMoves w offset).get_outside hf hn
  refine ⟨(kept _ (by decide) (by decide)).trans ?_, (kept _ (by decide) (by decide)).trans ?_⟩
  · simp +decide [State.get_put_ne, State.get_put_self]
  · simp +decide only [State.get_put_ne, State.get_put_self]
    rfl

end Clauses

/-- Settles O36: each clause by what its command's effect leaves. -/
theorem remoteAccessesAndTimeTransferAct : Obligations.RemoteAccessesAndTimeTransferAct := by
  unfold Obligations.RemoteAccessesAndTimeTransferAct
  intro s ha
  exact ⟨fun n p t hh => ⟨fun hm hop => csrRequest_read ha hh hm hop, fun hm hop => csrRequest_write ha hh hm hop,
      fun hop hr => readResp_late ha hh hop hr, fun d r hop hr hs => readResp_ends ha hh hop hr hs,
      fun hop hq => writeAck_answers ha hh hop hq⟩,
    fun n x r hw hq => csrWriteLost_answers ha hw hq, fun n hup hc => timeExchangePeriod_answers ha hup hc,
    fun n p t hh => ⟨fun hid hs hstep hat => sync_answers ha hh hid hs hstep hat,
      fun hid hs hstep hx => follow_answers ha hh hid hs hstep hx, fun hid => dreq_run ha hh hid,
      fun hid hs hstep hx => dresp_answers ha hh hid hs hstep hx⟩⟩

end Sys2Proof.Machine
end

section
/-! O35: channel ports, endpoints and what passes between them (R527 to R535). -/

namespace Sys2Proof.Machine

/-! What sending a packet leaves. -/

section Sending

variable {s t : State} {f : Field} {i e j n p : Nat}

/-- A record waits in one of two queues or is dropped; nothing is output. -/
@[simp] theorem State.raise_out (s : State) (c : Rc) (obj d : Nat) : (s.raise c obj d).out = s.out := by
  unfold State.raise State.dropRecord
  repeat' split
  all_goals rfl

@[simp] theorem State.noRoute_get (d : Nat) (hc : f.key i ≠ HX_NOROUTE.COUNT.key 0) (hd : f.key i ≠ EV_DROP.COUNT.key 0)
    (he : f.key i ≠ DROP_EPISODE.key 0) : (s.noRoute d).get f i = s.get f i := by
  unfold State.noRoute
  dsimp only
  split
  · rw [State.raise_get _ _ _ _ hd he, State.get_count_ne _ _ hc]
  · exact State.get_count_ne _ _ hc

@[simp] theorem State.hxSend_get (hc : f.key i ≠ HX_NOROUTE.COUNT.key 0) (hd : f.key i ≠ EV_DROP.COUNT.key 0)
    (he : f.key i ≠ DROP_EPISODE.key 0) : (s.hxSend p).get f i = s.get f i := by
  unfold State.hxSend
  split
  · rfl
  · split
    · rfl
    · exact State.noRoute_get _ hc hd he

@[simp] theorem State.hxSend_out : (s.hxSend p).out = s.out := by
  unfold State.hxSend State.noRoute
  dsimp only
  split
  · rfl
  · split
    · rfl
    · split
      · exact State.raise_out ..
      · rfl

@[simp] theorem State.cpDone_get (st : Nat) : (s.cpDone j st).get f i = s.get f i := rfl
@[simp] theorem State.cpDone_list (q : Fifo) (st : Nat) : (s.cpDone j st).list q i = s.list q i := rfl

@[simp] theorem State.cpRefuse_get (st : Nat) : (s.cpRefuse e st).get f i = s.get f i := by
  unfold State.cpRefuse
  dsimp only
  split
  · split <;> rfl
  · rfl

@[simp] theorem State.epFlow_get : (s.epFlow e).get f i = s.get f i := by
  unfold State.epFlow
  dsimp only
  split
  · rfl
  · split
    · rfl
    · split
      · rfl
      · split <;> rfl

end Sending

section Clauses

variable {s t : State} {m : Master} {w : Word}

/-! Endpoints are enabled and disabled. -/

section Endpoint

variable {e : Fin 4096} (hw : Writes m 0x24904 s) (he : s.get HX_EPSEL.EP = e)
include hw he

theorem endpointEnable_takes (hn : s.get EPS_EN e = 0) (hb : bit w.toNat 0 = true)
    (hc : (((s.put EPS_DIR (bits w.toNat 1 1) e).put EPS_PORT (bits w.toNat 2 5) e).put EPS_CREDITS
      (bits w.toNat 7 6) e).epCheck e = none) : Answers (.endpointEnable m w) s fun t =>
        t.get EPS_EN e = 1 ∧ t.get EPS_STATE e = epOPENING ∧ t.get EPS_SEQ e = 0 := by
  refine answers_write_delivers (exec_endpointEnable m w s) hw fun t ht => ?_
  simp only [wrEpCfg, he, State.flag, hn, Nat.zero_ne_one, decide_false, Bool.false_eq_true, if_false, hb, Bool.not_true,
    hc] at ht
  rw [ht.get (by simp +decide), ht.get (by simp +decide), ht.get (by simp +decide)]
  split <;> simp +decide [State.sendOpen, State.enq, State.epEmpty, State.get_put_ne, State.get_put_self, epOPENING]

theorem endpointEnable_refused {r : Rc × Nat} (hn : s.get EPS_EN e = 0) (hb : bit w.toNat 0 = true)
    (hc : (((s.put EPS_DIR (bits w.toNat 1 1) e).put EPS_PORT (bits w.toNat 2 5) e).put EPS_CREDITS
      (bits w.toNat 7 6) e).epCheck e = some r) : Answers (.endpointEnable m w) s fun t =>
        t.get EPS_EN e = 0 ∧ t.get GH_REFUSE.CODE = r.1.num % 2 ^ 16 := by
  refine answers_write_delivers (exec_endpointEnable m w s) hw fun t ht => ?_
  simp only [wrEpCfg, he, State.flag, hn, Nat.zero_ne_one, decide_false, Bool.false_eq_true, if_false, hb, Bool.not_true,
    hc] at ht
  rw [ht.get (by simp +decide), ht.get (by decide), State.refuse_code]
  simp +decide [State.get_put_ne, hn]

theorem endpointEnable_off (hn : s.get EPS_EN e = 1) (hb : bit w.toNat 0 = false)
    (hk : bits w.toNat 1 12 = s.epCfgWord e / 2) : Answers (.endpointEnable m w) s fun t =>
      t.get EPS_EN e = 0 ∧ t.get EPS_STATE e = epOFF := by
  refine answers_write_delivers (exec_endpointEnable m w s) hw fun t ht => ?_
  simp only [wrEpCfg, he, State.flag, hn, decide_true, if_true, hk, ne_eq, not_true, if_false, hb, Bool.false_eq_true] at ht
  rw [ht.get (by simp +decide), ht.get (by simp +decide)]
  simp +decide [State.epOff, State.get_put_ne, State.get_put_self, epOFF]

end Endpoint

/-! Channel ports. -/

section Port

variable {j : Fin 32} (hw : Writes m (0x24800 + 4 * j) s)
include hw

theorem channelPortEnable_takes (hn : s.get HX_CPCFG.EN j = 0) : Answers (.channelPortEnable m j w) s fun t =>
    t.get HX_CPCFG.EN j = bits w.toNat 0 1 ∧ t.get HX_CPCFG.DIR j = bits w.toNat 1 1 := by
  refine answers_write_delivers (exec_channelPortEnable m j w s) hw fun t ht => ?_
  simp only [wrCpCfg, State.flag, hn, Nat.zero_ne_one, decide_false, Bool.false_eq_true, if_false] at ht
  have takes {f : Field} (hf : f ∈ HX_CPCFG.reg.fields) (ha : f.acc = .rw)
      (hk : ∀ g ∈ HX_CPCFG.reg.fields, g ≠ f → f.beside g = true) (hl : f.legal = []) :
      (s.writeReg m HX_CPCFG.reg j w.toNat).get f j = bits w.toNat f.lo f.width :=
    s.writeReg_takes m j w.toNat (by decide) (by decide) hf ha (fun g hg hne same => (Field.key_beside (hk g hg hne)).mp
      same) (by simp [Field.accepts, hl])
  rw [ht.get (by simp +decide), ht.get (by simp +decide)]
  exact ⟨takes (by decide) rfl (by decide) rfl, takes (by decide) rfl (by decide) rfl⟩

theorem channelPortEnable_named (hn : s.get HX_CPCFG.EN j = 1) (hb : bit w.toNat 0 = false)
    (hu : ((s.list HX_EPON).any fun e => s.get EPS_PORT e = j) = true) : Answers (.channelPortEnable m j w) s fun t =>
      t.get HX_CPCFG.EN j = 1 ∧ t.get GH_REFUSE.CODE = Rc.HX_EP_PORT.num % 2 ^ 16 := by
  refine answers_write_delivers (exec_channelPortEnable m j w s) hw fun t ht => ?_
  simp only [wrCpCfg, State.flag, hn, decide_true, if_true, hb, Bool.false_eq_true, if_false, hu] at ht
  rw [ht.get (by simp +decide), ht.get (by decide), State.refuse_code]
  simp +decide [hn]

end Port

/-! Tokens. -/

theorem outboundToken_answers {j : Fin 32} {e : Fin 4096} {block : Bool} {data : BitVec 64} (ha : Awake s)
    (hlive : s.hcpLive j = true) (hon : s.get HX_CPCFG.EN j = 1) (hdir : s.get HX_CPCFG.DIR j = 0)
    (hfree : s.list HX_CPW j = []) (hen : s.get EPS_EN e = 1) (hout : s.get EPS_DIR e = 0)
    (hport : s.get EPS_PORT e = j) (hopen : s.get EPS_STATE e = epOPEN) :
    (s.get EPS_CREDIT e ≠ 0 → Answers (.outboundToken j e block data) s fun t =>
      t.get EPS_CREDIT e = (s.get EPS_CREDIT e - 1) % 2 ^ EPS_CREDIT.width ∧
        t.get EPS_SEQ e = (s.get EPS_SEQ e + 1) % 2 ^ 16 ∧ ⟨.toArray, [7, j.val, 0]⟩ ∈ t.out) ∧
    (s.get EPS_CREDIT e = 0 → Answers (.outboundToken j e block data) s fun t => t.get EPS_DRY e = 1 ∧
      (block = true → t.list HX_CPW j = [e.val + 2 ^ 12 * data.toNat]) ∧
      (block = false → ⟨.toArray, [7, j.val, 1]⟩ ∈ t.out)) := by
  refine ⟨fun hc => ?_, fun hc => ?_⟩ <;> refine answers_live_delivers (exec_outboundToken j e block data s) ha fun t ht => ?_
  · simp +decide only [hlive, State.flag, hon, hdir, hfree, hen, hout, hport, hopen, hc, decide_true, decide_false,
      Bool.not_true, Bool.or_self, if_true, if_false, List.isEmpty_nil, ne_eq, not_true, not_false_eq_true,
      Bool.false_eq_true] at ht
    refine ⟨?_, ?_, ht.mem_out (State.mem_out_emit ..)⟩
    · rw [ht.get (by simp +decide)]
      simp +decide [State.epTake, State.enq, State.get_put_ne, State.get_put_self]
    · rw [ht.get (by simp +decide)]
      simp +decide [State.epTake, State.enq, State.get_put_ne, State.get_put_self]
      rfl
  · simp +decide only [hlive, State.flag, hon, hdir, hfree, hen, hout, hport, hopen, hc, decide_true, decide_false,
      Bool.not_true, Bool.or_self, if_false, List.isEmpty_nil, ne_eq, not_true, Bool.false_eq_true] at ht
    refine ⟨?_, ?_, ?_⟩
    · rw [ht.get (by simp +decide)]
      split <;> simp +decide [State.get_put_self]
    · rintro rfl
      exact (ht.list ..).trans (State.list_setList_self ..)
    · rintro rfl
      exact ht.mem_out (State.mem_out_emit ..)

theorem inboundTokenAck_answers {j : Fin 32} {x : Nat} {r : List Nat} (ha : Awake s) (hlive : s.hcpLive j = true)
    (hon : s.get HX_CPCFG.EN j = 1) (hdir : s.get HX_CPCFG.DIR j = 1) (hx : s.list HX_INQ j = x :: r) :
    Answers (.inboundTokenAck j) s fun u => ⟨.toArray, [8, j.val, x % 2 ^ 12, x / 2 ^ 12]⟩ ∈ u.out ∧
      (s.get EPS_DUE (x % 2 ^ 12) + 1 < max 1 ((s.get EPS_CREDITS (x % 2 ^ 12) + 1) / 4) → u.list HX_INQ j = r) := by
  refine answers_live_delivers (exec_inboundTokenAck j s) ha fun t ht => ?_
  obtain ⟨e, he⟩ : ∃ e : Fin 4096, x % 2 ^ 12 = e := ⟨⟨_, Nat.mod_lt _ (by decide)⟩, rfl⟩
  simp only [hlive, State.flag, hon, hdir, decide_true, Bool.not_true, Bool.or_self, Bool.false_eq_true, if_false, hx,
    he] at ht
  rw [he]
  refine ⟨ht.mem_out ?_, fun low => (ht.list ..).trans ?_⟩
  · have sent : ⟨.toArray, [8, j.val, e.val, x / 2 ^ 12]⟩ ∈ ((((s.setList HX_INQ r j).emit .toArray
        [8, j, e, x / 2 ^ 12]).put EPS_CREDIT (s.get EPS_CREDIT e - 1) e).put EPS_DUE (s.get EPS_DUE e + 1) e).out :=
      State.mem_out_emit ..
    split
    · unfold State.epReturn
      split
      · exact sent
      · rwa [State.hxSend_out]
    · exact sent
  · have due (u : State) (a b : Nat) : ((u.put EPS_CREDIT a e).put EPS_DUE b e).get EPS_DUE e ≤ b :=
      (State.get_put_self ..).trans_le (Nat.mod_le _ _)
    have credits (u : State) (a b : Nat) : ((u.put EPS_CREDIT a e).put EPS_DUE b e).get EPS_CREDITS e =
        u.get EPS_CREDITS e := by simp +decide [State.get_put_ne]
    rw [if_neg (by rw [credits]; exact not_le.mpr ((due ..).trans_lt low))]
    exact State.list_setList_self ..

/-! Packets of the peer. -/

/-- A packet breaks an endpoint that is neither BROKEN nor OFF (R533). -/
theorem State.epBreak_shows {e : Fin 4096} (cause : Nat) (h : s.get EPS_STATE e = epOPEN) :
    (s.epBreak e cause).get EPS_STATE e = epBROKEN ∧ (s.epBreak e cause).get EPS_CAUSE e = cause % 2 ^ 7 := by
  simp +decide only [State.epBreak, h, decide_false, Bool.or_self, Bool.false_eq_true, if_false]
  split <;> constructor <;>
    simp +decide [State.epEmpty, State.raise_get, State.get_put_ne, State.get_put_self, epBROKEN] <;> rfl

/-- Credits, and the token that they let in, leave the state of the endpoint. -/
theorem State.epCredit_state (u : State) (e : Fin 4096) (k : Nat) :
    (u.epCredit e k).get EPS_STATE e = u.get EPS_STATE e := by
  have credited (a b c : Nat) : (((u.put EPS_CREDIT a e).put EPS_DRY b e).put EPS_PROBES c e).get EPS_STATE e =
      u.get EPS_STATE e := by simp +decide [State.get_put_ne]
  unfold State.epCredit
  dsimp only
  split
  · simp +decide [State.get_put_ne]
  · split
    · split
      · simp +decide [State.epTake, State.enq, State.get_put_ne]
      · exact credited ..
    · exact credited ..

section Peer

variable {n : Fin 9} {p : Nat} {e : Fin 4096} (hh : s.hxHead n clCH = some (p, t)) (he : pkId p = e)
  (hen : t.get EPS_EN e = 1) (haddr : t.get EPS_ADDR e = pkSrc p) (hpeer : t.get EPS_PEER e = bits (pkWord p 0) 4 12)
include hh he hen haddr hpeer

theorem State.chPacketOf_peer {kind : Nat} {recv : Bool} (k : State → Nat → Nat → State)
    (hk : bits (pkWord p 0) 0 4 = kind) (hd : t.flag EPS_DIR e = recv) (hs : t.get EPS_STATE e = epOPEN) :
    s.chPacketOf n kind recv k = k t e p := by
  simp +decide [State.chPacketOf, hh, he, hk, State.flag, hen, haddr, hpeer, hs, ← hd]

variable (ha : Awake s)
include ha

theorem tokens_take (hk : bits (pkWord p 0) 0 4 = chkTOKENS) (hd : t.get EPS_DIR e = 1) (hs : t.get EPS_STATE e = epOPEN)
    (hseq : pkSeq p = t.get EPS_SEQ e) (hfit : t.get EPS_CREDIT e + t.get EPS_DUE e + bits (pkWord p 0) 16 7 ≤
      t.get EPS_CREDITS e + 1) : Answers (.tokens n) s fun v =>
        v.get EPS_SEQ e = (t.get EPS_SEQ e + bits (pkWord p 0) 16 7) % 2 ^ 16 ∧
        v.get EPS_CREDIT e = (t.get EPS_CREDIT e + bits (pkWord p 0) 16 7) % 2 ^ EPS_CREDIT.width ∧
        v.list HX_INQ (t.get EPS_PORT e) = t.list HX_INQ (t.get EPS_PORT e) ++
          (((pkWords p).drop 1).take (bits (pkWord p 0) 16 7)).map fun d => e.val + 2 ^ 12 * d := by
  refine answers_live_delivers (exec_tokens n s) ha fun v hv => ?_
  rw [State.chPacketOf_peer hh he hen haddr hpeer _ hk (by simp [State.flag, hd]) hs] at hv
  simp only [hs, hseq, ne_eq, not_true, if_false, not_lt.mpr hfit] at hv
  refine ⟨?_, ?_, (hv.list ..).trans (State.list_setList_self ..)⟩
  · rw [hv.get (by simp +decide)]
    simp +decide [State.get_put_ne, State.get_put_self]
    rfl
  · rw [hv.get (by simp +decide)]
    simp +decide [State.get_put_ne, State.get_put_self]

theorem tokens_break (hk : bits (pkWord p 0) 0 4 = chkTOKENS) (hd : t.get EPS_DIR e = 1)
    (hs : t.get EPS_STATE e = epOPEN) (hseq : pkSeq p ≠ t.get EPS_SEQ e) : Answers (.tokens n) s fun v =>
      v.get EPS_STATE e = epBROKEN ∧ v.get EPS_CAUSE e = 1 := by
  refine answers_live_delivers (exec_tokens n s) ha fun v hv => ?_
  rw [State.chPacketOf_peer hh he hen haddr hpeer _ hk (by simp [State.flag, hd]) hs] at hv
  simp only [hs, hseq, ne_eq, not_true, not_false_eq_true, if_false, if_true] at hv
  rw [hv.get (by simp +decide), hv.get (by simp +decide)]
  exact State.epBreak_shows 1 hs

theorem channelCredit_adds (hk : bits (pkWord p 0) 0 4 = chkCREDIT) (hd : t.get EPS_DIR e = 0)
    (hs : t.get EPS_STATE e = epOPEN) (hw : t.list HX_CPW (t.get EPS_PORT e) = []) : Answers (.channelCredit n) s fun v =>
      v.get EPS_CREDIT e = (t.get EPS_CREDIT e + bits (pkWord p 0) 16 7) % 2 ^ EPS_CREDIT.width := by
  refine answers_live_delivers (exec_channelCredit n s) ha fun v hv => ?_
  rw [State.chPacketOf_peer hh he hen haddr hpeer _ hk (by simp [State.flag, hd]) hs] at hv
  rw [hv.get (by simp +decide), if_pos hs]
  have port (a b c : Nat) : (((t.put EPS_CREDIT a e).put EPS_DRY b e).put EPS_PROBES c e).get EPS_PORT e =
      t.get EPS_PORT e := by simp +decide [State.get_put_ne]
  have waits (a b c : Nat) : (((t.put EPS_CREDIT a e).put EPS_DRY b e).put EPS_PROBES c e).list HX_CPW
      (t.get EPS_PORT e) = [] := hw
  unfold State.epCredit
  simp only [port, waits]
  split <;> simp +decide [State.get_put_ne, State.get_put_self]

theorem probe_run (hk : bits (pkWord p 0) 0 4 = chkPROBE) (hd : t.get EPS_DIR e = 1) (hs : t.get EPS_STATE e = epOPEN) :
    exec (.probe n) s = run s (t.hxSend (t.chPacket e chkREPLY 0 (t.get EPS_CNT e))) := by
  refine (exec_live (exec_probe n s) ha).trans ?_
  rw [State.chPacketOf_peer hh he hen haddr hpeer _ hk (by simp [State.flag, hd]) hs]

theorem probeReply_clears (hk : bits (pkWord p 0) 0 4 = chkREPLY) (hd : t.get EPS_DIR e = 0)
    (hs : t.get EPS_STATE e = epOPEN) (hc : t.get EPS_CNT e % 2 ^ 32 ≤ bits (pkWord p 0) 24 32) :
    Answers (.probeReply n) s fun v => v.get EPS_PROBES e = 0 ∧ v.get EPS_STATE e = epOPEN := by
  refine answers_live_delivers (exec_probeReply n s) ha fun v hv => ?_
  rw [State.chPacketOf_peer hh he hen haddr hpeer _ hk (by simp [State.flag, hd]) hs, if_neg (not_lt.mpr hc)] at hv
  rw [hv.get (by simp +decide), hv.get (by simp +decide)]
  simp +decide [State.get_put_ne, State.get_put_self, hs]

theorem probeReply_breaks (hk : bits (pkWord p 0) 0 4 = chkREPLY) (hd : t.get EPS_DIR e = 0)
    (hs : t.get EPS_STATE e = epOPEN) (hc : bits (pkWord p 0) 24 32 < t.get EPS_CNT e % 2 ^ 32) :
    Answers (.probeReply n) s fun v => v.get EPS_STATE e = epBROKEN ∧ v.get EPS_CAUSE e = 3 := by
  refine answers_live_delivers (exec_probeReply n s) ha fun v hv => ?_
  rw [State.chPacketOf_peer hh he hen haddr hpeer _ hk (by simp [State.flag, hd]) hs, if_pos hc] at hv
  rw [hv.get (by simp +decide), hv.get (by simp +decide)]
  exact State.epBreak_shows 3 hs

theorem break_breaks (hk : bits (pkWord p 0) 0 4 = chkBREAK) (hs : t.get EPS_STATE e = epOPEN) :
    Answers (.break n) s fun v => v.get EPS_STATE e = epBROKEN ∧ v.get EPS_CAUSE e = 4 := by
  refine answers_live_delivers (exec_break n s) ha fun v hv => ?_
  simp +decide only [hh, hk, he, State.flag, hen, haddr, hpeer, decide_true, decide_false, Bool.not_true, ne_eq, not_true,
    Bool.or_self, Bool.false_eq_true, if_false] at hv
  rw [hv.get (by simp +decide), hv.get (by simp +decide)]
  exact State.epBreak_shows 4 hs

theorem channelOpen_opens (hk : bits (pkWord p 0) 0 4 = chkOPEN) (hs : t.get EPS_STATE e = epOPENING) :
    Answers (.channelOpen n) s fun v => v.get EPS_STATE e = epOPEN := by
  refine answers_live_delivers (exec_channelOpen n s) ha fun v hv => ?_
  simp +decide only [hh, hk, he, State.flag, hen, haddr, hpeer, hs, decide_true, decide_false, Bool.not_true, ne_eq,
    not_true, Bool.or_self, Bool.false_eq_true, if_false] at hv
  rw [hv.get (by simp +decide)]
  split
  · simp +decide [State.get_put_self, epOPEN]
  · rw [State.epCredit_state]
    simp +decide [State.get_put_self, epOPEN]

end Peer

/-! Timers of an endpoint. -/

section Timers

variable {e : Fin 4096} (ha : Awake s)
include ha

theorem openTimer_run (hd : s.get EPS_DIR e = 1) (hs : s.get EPS_STATE e = epOPENING) :
    exec (.openTimer e) s = run s (s.sendOpen e) := by
  refine (exec_live (exec_openTimer e s) ha).trans ?_
  simp only [State.flag, hd, hs, decide_true, Bool.and_self, if_true]

theorem creditReturnTimer_returns (hd : s.get EPS_DIR e = 1) (hs : s.get EPS_STATE e = epOPEN)
    (hdue : s.get EPS_DUE e ≠ 0) : Answers (.creditReturnTimer e) s fun t => t.get EPS_DUE e = 0 := by
  refine answers_live_delivers (exec_creditReturnTimer e s) ha fun t ht => ?_
  rw [ht.get (by simp +decide)]
  simp +decide [State.flag, hd, State.epReturn, hs, hdue, State.get_put_self]

theorem probeTimer_asks (hd : s.get EPS_DIR e = 0) (hs : s.get EPS_STATE e = epOPEN) (hdry : s.get EPS_DRY e = 1)
    (hc : s.get EPS_CREDIT e = 0) (hp : s.get EPS_PROBES e < 8) : Answers (.probeTimer e) s fun t =>
      t.get EPS_PROBES e = s.get EPS_PROBES e + 1 := by
  refine answers_live_delivers (exec_probeTimer e s) ha fun t ht => ?_
  have fits : (s.get EPS_PROBES e + 1) % 2 ^ EPS_PROBES.width = s.get EPS_PROBES e + 1 :=
    Nat.mod_eq_of_lt (by simp only [EPS_PROBES] at *; omega)
  rw [ht.get (by simp +decide)]
  simp +decide [State.flag, hd, hs, hdry, hc, hp.ne, State.get_put_self, fits]

theorem probeTimer_breaks (hd : s.get EPS_DIR e = 0) (hs : s.get EPS_STATE e = epOPEN) (hdry : s.get EPS_DRY e = 1)
    (hc : s.get EPS_CREDIT e = 0) (hp : s.get EPS_PROBES e = 8) : Answers (.probeTimer e) s fun t =>
      t.get EPS_STATE e = epBROKEN ∧ t.get EPS_CAUSE e = 5 := by
  refine answers_live_delivers (exec_probeTimer e s) ha fun t ht => ?_
  simp +decide only [State.flag, hd, hs, hdry, hc, hp, decide_true, decide_false, Bool.not_false, Bool.and_self,
    if_true] at ht
  rw [ht.get (by simp +decide), ht.get (by simp +decide)]
  exact State.epBreak_shows 5 hs

end Timers

end Clauses

/-- An endpoint number of a packet has 12 bits. -/
theorem pkId_fin (p : Nat) : ∃ e : Fin 4096, pkId p = e := ⟨⟨pkId p, Nat.mod_lt _ (by decide)⟩, rfl⟩

/-- Settles O35: each clause by what its command's effect leaves. -/
theorem elasticChannelsMoveTokens : Obligations.ElasticChannelsMoveTokens := by
  unfold Obligations.ElasticChannelsMoveTokens
  intro s ha
  refine ⟨fun m w hw => ?_, fun m j w hw => ⟨channelPortEnable_takes hw, channelPortEnable_named hw⟩,
    fun j e block data hlive hon hdir hfree hen hout hport hopen =>
      outboundToken_answers ha hlive hon hdir hfree hen hout hport hopen,
    fun j t r hlive hon hdir hx => inboundTokenAck_answers ha hlive hon hdir hx, fun n p t hh => ?_,
    fun e => ⟨openTimer_run ha, creditReturnTimer_returns ha, fun hd hs hdry hc =>
      ⟨probeTimer_asks ha hd hs hdry hc, probeTimer_breaks ha hd hs hdry hc⟩⟩⟩
  · intro e u he
    obtain ⟨e', same⟩ : ∃ e' : Fin 4096, s.get HX_EPSEL.EP = e' := ⟨⟨_, he⟩, rfl⟩
    simp only [e, u, same]
    exact ⟨fun hn hb => ⟨endpointEnable_takes hw same hn hb, fun r => endpointEnable_refused hw same hn hb⟩,
      endpointEnable_off hw same⟩
  · obtain ⟨e, he⟩ := pkId_fin p
    simp only [he]
    intro hen haddr hpeer
    exact ⟨fun hk hd hs => ⟨tokens_take hh he hen haddr hpeer ha hk hd hs, tokens_break hh he hen haddr hpeer ha hk hd hs⟩,
      channelCredit_adds hh he hen haddr hpeer ha, channelOpen_opens hh he hen haddr hpeer ha,
      probe_run hh he hen haddr hpeer ha, fun hk hd hs => ⟨probeReply_clears hh he hen haddr hpeer ha hk hd hs,
        probeReply_breaks hh he hen haddr hpeer ha hk hd hs⟩, break_breaks hh he hen haddr hpeer ha⟩

end Sys2Proof.Machine
end

section
/-! What the bookkeeping of the fabric writes: routes, the election, endpoints and sessions, wherever a link life ends or
a packet is sent (spec/14, spec/19). -/

namespace Sys2Proof.Machine

/-! Fields apart from elements of another, whatever the index. -/

/-- No element of f is one of the first n elements of g. -/
def Field.clear (f g : Field) (n : Nat) : Bool := g.below n f || (f.stride == 0 && f.below 1 g) || g.beside f

theorem Field.key_clear {f g : Field} {i j n : Nat} (hj : j < n) (h : f.clear g n = true) : f.key i ≠ g.key j := by
  simp only [Field.clear, Bool.or_eq_true, Bool.and_eq_true, beq_iff_eq] at h
  obtain (below | ⟨single, above⟩) | beside := h
  · exact (Field.key_lt hj below).ne'
  · have only : f.key i = f.key 0 := by rw [Field.key_eq_place, Field.key_eq_place, single]; simp
    rw [only]
    exact (Field.key_lt Nat.one_pos above).ne
  · exact fun same => (Field.key_beside beside).mp same.symm

/-- All elements of some fields. -/
def allCells (fs : List Field) : Set Nat := {k | ∃ f ∈ fs, ∃ i, k = f.key i}

theorem mem_allCells {fs : List Field} {f : Field} {i : Nat} (hf : f ∈ fs) : f.key i ∈ allCells fs := ⟨f, hf, i, rfl⟩

theorem allCells_mono {fs gs : List Field} {A : Set Nat} (h : fs ⊆ gs) (hg : allCells gs ⊆ A) : allCells fs ⊆ A := by
  rintro k ⟨f, hf, i, rfl⟩
  exact hg ⟨f, h hf, i, rfl⟩

theorem allCells_outside {fs gs : List Field} {i n : Nat} (hi : i < n)
    (h : (fs.all fun f => gs.all fun g => f.clear g n) = true) : allCells fs ⊆ (Scope.outside (cellsAt gs i)).cells := by
  rintro k ⟨f, hf, j, rfl⟩ hk
  obtain ⟨g, hg, same⟩ := List.mem_map.mp hk
  exact Field.key_clear hi (List.all_eq_true.mp (List.all_eq_true.mp h f hf) g hg) same.symm

/-- Within the cells of some fields, all lists and the log, the cells apart from those fields stay. -/
theorem State.Within.get_clear {s t : State} {fs : List Field} (h : s.Within ⟨allCells fs, Set.univ, True⟩ t) {g : Field}
    {j n : Nat} (hj : j < n) (hg : (fs.all fun f => f.clear g n) = true)
    (hn : ([MSI_PEND, EV_DROP.COUNT, DROP_EPISODE].all fun f => f.clear g n) = true) : t.get g j = s.get g j := by
  simp only [List.all_cons, List.all_nil, Bool.and_true, Bool.and_eq_true] at hn
  obtain ⟨pend, drop, episode⟩ := hn
  refine h.get ?_ (Field.key_clear hj pend).symm fun _ => ⟨(Field.key_clear hj drop).symm, (Field.key_clear hj episode).symm⟩
  rintro ⟨f, hf, i, same⟩
  exact Field.key_clear hj (List.all_eq_true.mp hg f hf) same.symm

/-- The scope of some fields, all lists and the log. -/
def Scope.fields (fs : List Field) : Scope := ⟨allCells fs, Set.univ, True⟩

namespace State.Within

variable {s t : State} {fs : List Field}

theorem putAll (h : s.Within (.fields fs) t) {f : Field} {v i : Nat} (hf : f ∈ fs) :
    s.Within (.fields fs) (t.put f v i) := h.put (mem_allCells hf)

end State.Within

/-- What routes, the election, endpoints and update sessions write. -/
def fabricFields : List Field :=
  [HX_NOROUTE.COUNT, HX_IRQ.BROKEN, HX_IRQ.ROUTE, HX_IRQ.LFAULT, EPS_CREDIT, EPS_DUE, EPS_DRY, EPS_PROBES, EPS_STATE,
    EPS_CAUSE, HX_RT.PRIMARY, HX_RT.PVALID, HX_RT.ALT, HX_RT.AVALID, HX_RT.DIST, HX_RDIST, HX_DEEP, HX_ROOTID_LO.ID,
    HX_ROOTID_HI.ID, HX_ASGN, HX_DSTAT.ROOT, HX_DSTAT.FINAL, HX_DSTAT.PVALID, HX_DSTAT.PARENT, HX_DSTAT.DIST,
    HX_DEVCNT.COUNT, HX_PSTAT.PARENT, HX_PSTAT.CHILD, HX_AVALID, HX_AFINAL, BS_ADJCTL.OWNED, UP_DOWN, UP_ASKED, UP_UP,
    UP_REP, GH_UPSTAT.STATE, GH_UPSTAT.LAST, GH_IRQ.UPD, GH_UPTGT.TOTAL, GH_UPTGT.STAGED, GH_UPTGT.STARTED,
    GH_UPTGT.FAILED]

/-- The alternative route to d takes a value (R525). -/
def State.setAlternative (s : State) (d : Nat) (a : Option Nat) : State :=
  match a with
  | some a => (s.put HX_RT.ALT a d).put HX_RT.AVALID 1 d
  | none => s.put HX_RT.AVALID 0 d

/-- The ports that advertise a distance to d (R525). -/
def State.routeCands (s : State) (d : Nat) : List Nat :=
  (List.range 8).filter fun n => s.alive n && s.get HX_RDIST (256 * n + d) < 16

/-- The port that a new choice of the route to d takes (R525). -/
def State.routePrim (s : State) (d : Nat) (lost : Option Nat) : Option Nat :=
  let cur := if s.flag HX_RT.PVALID d then some (s.get HX_RT.PRIMARY d) else none
  let keep := match cur with | some p => some p ≠ lost && !(s.routeCands d).isEmpty | none => false
  if keep then cur else s.leastPort d (s.routeCands d)

/-- A route is kept, or its two ports and its distance are stored, and told to the neighbours where it changed. -/
theorem State.reroute_cases (s : State) (d : Nat) (lost : Option Nat) : s.reroute d lost = s ∨ ∃ p a v,
    s.reroute d lost = ((s.setPrimary d p).setAlternative d a).put HX_RT.DIST v d ∨
      s.reroute d lost = (((s.setPrimary d p).setAlternative d a).put HX_RT.DIST v d).routeGroup (d / 16) := by
  by_cases locked : (s.flag HX_RT.LOCK d || d = 0 || d = 255) = true
  · exact .inl (if_pos locked)
  · let p := s.routePrim d lost
    let u := s.setPrimary d p
    let v := u.setAlternative d (u.leastPort d ((s.routeCands d).filter fun n => some n ≠ p))
    let far := match v.leastPort d (s.routeCands d) with
      | some n => v.get HX_RDIST (256 * n + d) + 1
      | none => 255
    have chosen : s.reroute d lost = if (v.put HX_RT.DIST far d).readReg HX_RT.reg d = s.readReg HX_RT.reg d then
        v.put HX_RT.DIST far d else (v.put HX_RT.DIST far d).routeGroup (d / 16) := if_neg locked
    refine .inr ⟨p, u.leastPort d ((s.routeCands d).filter fun n => some n ≠ p), far, ?_⟩
    rw [chosen]
    split
    · exact .inl rfl
    · exact .inr rfl

namespace State.Within

variable {s t : State} {fs : List Field} (h : s.Within (.fields fs) t) (hf : fabricFields ⊆ fs)
include h hf

theorem fabricPut {f : Field} {v i : Nat} (hm : f ∈ fabricFields) : s.Within (.fields fs) (t.put f v i) :=
  h.putAll (hf hm)

theorem fabricSend (p : Nat) : s.Within (.fields fs) (t.hxSend p) :=
  h.hxSend p trivial (mem_allCells (hf (by simp [fabricFields]))) fun _ => trivial

theorem fabricBreak (e cause : Nat) : s.Within (.fields fs) (t.epBreak e cause) := by
  have put {u : State} {f : Field} {v i : Nat} (hm : f ∈ fabricFields) (hu : s.Within (.fields fs) u) :
      s.Within (.fields fs) (u.put f v i) := hu.fabricPut hf hm
  have told : s.Within (.fields fs) (if cause = 4 then t else t.hxSend (t.chPacket e chkBREAK 0 cause)) :=
    .ite h (h.fabricSend hf _)
  have emptied {u : State} (hu : s.Within (.fields fs) u) : s.Within (.fields fs) (u.epEmpty e) := by
    have dropped := State.Within.ite (c := ((u.setList HX_EPQ [] e).flag EPS_DIR e) = true) (hu.setList (q := HX_EPQ)
      (l := []) (i := e) trivial |>.setList (q := HX_INQ) (l := ((u.setList HX_EPQ [] e).list HX_INQ
        (u.get EPS_PORT e)).filter fun t => t % 2 ^ 12 ≠ e) (i := u.get EPS_PORT e) trivial) (hu.setList (q := HX_EPQ)
      (l := []) (i := e) trivial)
    exact put (by simp [fabricFields]) (put (by simp [fabricFields]) (put (by simp [fabricFields])
      (put (by simp [fabricFields]) dropped)))
  have refused {u : State} (hu : s.Within (.fields fs) u) : s.Within (.fields fs) (u.cpRefuse e 3) := by
    unfold State.cpRefuse
    dsimp only
    split
    · exact .ite (hu.setList trivial).emit hu
    · exact hu
  exact .ite h (put (by simp [fabricFields]) (.raise (refused (put (by simp [fabricFields]) (put (by simp [fabricFields])
    (emptied told)))) trivial))

theorem fabricBreakAll (cause : Nat) (p : State → Nat → Bool) : s.Within (.fields fs) (t.epBreakAll cause p) :=
  h.foldl fun _ e _ => .ite (State.Within.refl.fabricBreak hf e cause) .refl

omit hf in
theorem fabricRoutes (g : Nat) : s.Within (.fields fs) (t.routeGroup g) :=
  h.foldl fun _ _ _ => .ite (.hxTx .refl trivial) .refl

omit hf in
theorem fabricAdvertise : s.Within (.fields fs) t.advertise :=
  h.foldl fun _ _ _ => .ite (.hxTx .refl trivial) .refl

theorem fabricPrimary (d : Nat) (p : Option Nat) : s.Within (.fields fs) (t.setPrimary d p) := by
  have put {u : State} {f : Field} {v i : Nat} (hm : f ∈ fabricFields) (hu : s.Within (.fields fs) u) :
      s.Within (.fields fs) (u.put f v i) := hu.fabricPut hf hm
  have stored : s.Within (.fields fs) (match p with
      | some n => (t.put HX_RT.PRIMARY n d).put HX_RT.PVALID 1 d
      | none => t.put HX_RT.PVALID 0 d) := by
    cases p with
    | none => exact put (by simp [fabricFields]) h
    | some n => exact put (by simp [fabricFields]) (put (by simp [fabricFields]) h)
  unfold State.setPrimary
  dsimp only
  refine .ite h (.fabricBreakAll (put (by simp [fabricFields]) (.raise ?_ trivial)) hf _ _)
  cases p with
  | none => exact stored
  | some n => exact stored

theorem fabricAlternative (d : Nat) (a : Option Nat) : s.Within (.fields fs) (t.setAlternative d a) := by
  cases a with
  | none => exact h.fabricPut hf (by simp [fabricFields])
  | some a => exact (h.fabricPut hf (by simp [fabricFields])).fabricPut hf (by simp [fabricFields])

theorem fabricReroute (d : Nat) (lost : Option Nat) : s.Within (.fields fs) (t.reroute d lost) := by
  have written (p a : Option Nat) (v : Nat) :=
    ((h.fabricPrimary hf d p).fabricAlternative hf d a).fabricPut hf (f := HX_RT.DIST) (v := v) (i := d)
      (by simp [fabricFields])
  obtain kept | ⟨p, a, v, stored | told⟩ := t.reroute_cases d lost
  · rwa [kept]
  · rw [stored]
    exact written p a v
  · rw [told]
    exact (written p a v).fabricRoutes _

/-- What the end of a session's path does (R688, R716). -/
theorem fabricReport : s.Within (.fields fs) t.upReport := by
  have put {u : State} {f : Field} {v i : Nat} (hm : f ∈ fabricFields) (hu : s.Within (.fields fs) u) :
      s.Within (.fields fs) (u.put f v i) := hu.fabricPut hf hm
  have sent {u : State} (ws : List Nat) (hw : ws.length < 2 ^ 16) (hu : s.Within (.fields fs) u) :
      s.Within (.fields fs) (u.broadcast clUPD 0x14 ws) := hu.broadcast hw (by decide) fun _ _ => trivial
  have tallied {u : State} (hu : s.Within (.fields fs) u) : s.Within (.fields fs) u.upTally :=
    put (by simp [fabricFields]) (put (by simp [fabricFields]) (put (by simp [fabricFields]) (put (by simp [fabricFields])
      hu)))
  unfold State.upReport State.upNote
  dsimp only
  split
  · exact sent _ (by simp) h
  · refine .ite (tallied (.foldl (sent _ (by simp) h) fun u x _ => .ite ?_ .refl)) (sent _ (by simp) h)
    exact State.Within.orBit .refl (mem_allCells (hf (by simp [fabricFields])))

theorem fabricUpSet (st : Nat) : s.Within (.fields fs) (t.upSet st) := by
  have shown := (h.fabricPut hf (f := GH_UPSTAT.STATE) (v := st) (i := 0) (by simp [fabricFields])).fabricPut hf
    (f := GH_IRQ.UPD) (v := 1) (i := 0) (by simp [fabricFields])
  exact .ite h (.ite shown (shown.fabricReport hf))

theorem fabricStop (c : Rc) : s.Within (.fields fs) (t.upStop c) :=
  (State.Within.fabricPut (h.raise trivial) hf (by simp [fabricFields])).fabricUpSet hf _

theorem fabricCut (n : Nat) : s.Within (.fields fs) (t.sessionCut n) := by
  have cut : s.Within (.fields fs) (t.andBit UP_DOWN n) := h.andBit (mem_allCells (hf (by simp [fabricFields])))
  exact .ite cut (.ite ((cut.fabricPut hf (by simp [fabricFields])).fabricPut hf (by simp [fabricFields]))
    (.ite (cut.fabricStop hf _) cut))

omit hf in
theorem fabricJoin : s.Within (.fields fs) t.sendJoin := h.sendJoin fun _ => trivial

theorem fabricElect : s.Within (.fields fs) t.elect := by
  have put {u : State} {f : Field} {v i : Nat} (hm : f ∈ fabricFields) (hu : s.Within (.fields fs) u) :
      s.Within (.fields fs) (u.put f v i) := hu.fabricPut hf hm
  unfold State.elect
  lift_lets
  extract_lets before heard best key near nearest deep parent judged same named assigned deposed final fresh
    shown placed marked owned joined
  have h₁ : s.Within (.fields fs) judged := .ite (.ite h (.raise (put (by simp [fabricFields]) h) trivial))
    (put (by simp [fabricFields]) h)
  have h₂ : s.Within (.fields fs) assigned := by
    have root : s.Within (.fields fs) named := put (by simp [fabricFields]) (put (by simp [fabricFields]) h₁)
    exact .ite root (put (by simp [fabricFields]) root)
  have h₃ : s.Within (.fields fs) deposed :=
    .ite (.setList (put (by simp [fabricFields]) (put (by simp [fabricFields]) h₂)) trivial) h₂
  have h₄ : s.Within (.fields fs) shown := put (by simp [fabricFields]) (put (by simp [fabricFields]) h₃)
  have h₅ : s.Within (.fields fs) placed := by
    unfold placed
    cases parent <;> exact put (by simp [fabricFields]) (put (by simp [fabricFields]) h₄)
  have h₆ : s.Within (.fields fs) owned :=
    put (by simp [fabricFields]) (h₅.foldl fun _ _ _ => .put .refl (mem_allCells (hf (by simp [fabricFields]))))
  have h₇ : s.Within (.fields fs) joined := .ite h₆.fabricJoin h₆
  exact .ite h₇ h₇.fabricAdvertise

end State.Within

/-! The end of a link life (R508). -/

/-- A port that leaves UP, before its life ends. -/
def State.portIdle (s : State) (n : Nat) : State :=
  ((s.put HX_PSTAT.STATE (if s.flag HX_PCFG.EN n then hpTRAINING else hpOFF) n).put HX_INITC 0 n).put HX_INITS 0 n

/-- The port's own share of the end of its life. -/
def State.portEnds (s : State) (n cause : Nat) : State :=
  ((((s.portClear n).put HX_PSTAT.LIVE 0 n).count HX_PERR.DOWN 1 n).raise Rc.HX_LINK_DOWN n cause).put HX_IRQ.LINK 1

/-- What the fabric loses with the life of port n. -/
def State.fabricLoses (s : State) (n cause : Nat) : State :=
  let s := if cause = 3 then s.put HX_IRQ.LFAULT 1 else s
  let s := s.epBreakAll 6 fun u e =>
    u.get EPS_ADDR e ≠ u.hxAddr && u.flag HX_RT.PVALID (u.get EPS_ADDR e) &&
      u.get HX_RT.PRIMARY (u.get EPS_ADDR e) = n
  let s := ((s.put HX_AVALID 0 n).put HX_PSTAT.CHILD 0 n).put HX_AFINAL 0 n
  let s := (List.range 256).foldl (fun u d =>
    if u.get HX_RDIST (256 * n + d) = 255 && !(u.flag HX_RT.PVALID d && u.get HX_RT.PRIMARY d = n) then u
    else (u.put HX_RDIST 255 (256 * n + d)).reroute d (some n)) s
  s.elect.sessionCut n

theorem State.lifeEnd_eq (s : State) (n cause : Nat) : s.lifeEnd n cause =
    if (s.portIdle n).alive n then ((s.portIdle n).portEnds n cause).fabricLoses n cause else s.portIdle n := by
  have shape : s.lifeEnd n cause = if !(s.portIdle n).alive n then s.portIdle n else
      ((s.portIdle n).portEnds n cause).fabricLoses n cause := rfl
  rw [shape]
  cases (s.portIdle n).alive n <;> rfl

theorem State.Within.fabricLoses {s t : State} {fs : List Field} (h : s.Within (.fields fs) t) (hf : fabricFields ⊆ fs)
    (n cause : Nat) : s.Within (.fields fs) (t.fabricLoses n cause) := by
  have put {u : State} {f : Field} {v i : Nat} (hm : f ∈ fabricFields) (hu : s.Within (.fields fs) u) :
      s.Within (.fields fs) (u.put f v i) := hu.fabricPut hf hm
  have broken := State.Within.fabricBreakAll (.ite (c := cause = 3) (put (f := HX_IRQ.LFAULT) (v := 1) (i := 0)
    (by simp [fabricFields]) h) h) hf 6 fun u e => u.get EPS_ADDR e ≠ u.hxAddr && u.flag HX_RT.PVALID
      (u.get EPS_ADDR e) && u.get HX_RT.PRIMARY (u.get EPS_ADDR e) = n
  have forgot := put (f := HX_AFINAL) (v := 0) (i := n) (by simp [fabricFields]) (put (f := HX_PSTAT.CHILD) (v := 0)
    (i := n) (by simp [fabricFields]) (put (f := HX_AVALID) (v := 0) (i := n) (by simp [fabricFields]) broken))
  refine State.Within.fabricCut (State.Within.fabricElect (forgot.foldl fun u d _ => .ite .refl ?_) hf) hf n
  exact State.Within.fabricReroute (.put .refl (mem_allCells (hf (by simp [fabricFields])))) hf d (some n)

/-- The bookkeeping of a port that a life begins and ends with (R508). -/
def portFields : List Field :=
  [HX_RPOS, HX_TXSEQ, HX_NEXT, HX_UNACK, HX_NAKED, HX_RCNT, HX_USED, HX_CRED]

theorem State.Within.portClear {s t : State} {fs : List Field} (h : s.Within (.fields fs) t) (hf : portFields ⊆ fs)
    (n : Nat) : s.Within (.fields fs) (t.portClear n) := by
  have put {u : State} {f : Field} {v i : Nat} (hm : f ∈ portFields) (hu : s.Within (.fields fs) u) :
      s.Within (.fields fs) (u.put f v i) := hu.putAll (hf hm)
  have cleared := put (f := HX_RCNT) (v := 0) (i := n) (by simp [portFields]) (put (f := HX_NAKED) (v := 0) (i := n)
    (by simp [portFields]) (put (f := HX_UNACK) (v := 0) (i := n) (by simp [portFields]) (put (f := HX_NEXT) (v := 0)
    (i := n) (by simp [portFields]) (put (f := HX_TXSEQ) (v := 0) (i := n) (by simp [portFields]) (put (f := HX_RPOS)
    (v := 0) (i := n) (by simp [portFields]) (h.setList (q := HX_HOLD) (l := []) (i := n) trivial))))))
  exact cleared.foldl fun _ _ _ => .put (.put (.setList .refl trivial) (mem_allCells (hf (by simp [portFields]))))
    (mem_allCells (hf (by simp [portFields])))

/-- What the end of a life may write. -/
def lifeFields : List Field :=
  [HX_PSTAT.STATE, HX_INITC, HX_INITS, HX_PSTAT.LIVE, HX_PERR.DOWN, HX_IRQ.LINK] ++ portFields ++ fabricFields

theorem portFields_life : portFields ⊆ lifeFields := fun _ h => List.mem_append_left _ (List.mem_append_right _ h)

theorem fabricFields_life : fabricFields ⊆ lifeFields := fun _ h => List.mem_append_right _ h

theorem State.Within.lifeEnd {s t : State} {fs : List Field} (h : s.Within (.fields fs) t) (hf : lifeFields ⊆ fs)
    (n cause : Nat) : s.Within (.fields fs) (t.lifeEnd n cause) := by
  have put {u : State} {f : Field} {v i : Nat} (hm : f ∈ lifeFields) (hu : s.Within (.fields fs) u) :
      s.Within (.fields fs) (u.put f v i) := hu.putAll (hf hm)
  have idle : s.Within (.fields fs) (t.portIdle n) :=
    put (by simp [lifeFields]) (put (by simp [lifeFields]) (put (by simp [lifeFields]) h))
  have ends : s.Within (.fields fs) ((t.portIdle n).portEnds n cause) :=
    put (by simp [lifeFields]) (.raise (put (by simp [lifeFields]) (put (by simp [lifeFields]) (idle.portClear
      (List.Subset.trans portFields_life hf) n))) trivial)
  rw [State.lifeEnd_eq]
  exact .ite (ends.fabricLoses (List.Subset.trans fabricFields_life hf) n cause) idle

section Life

variable {s : State} {n : Fin 8} {cause : Nat}

/-- Cells apart from all that the end of a life writes. -/
theorem State.lifeEnd_get {g : Field} (hg : (lifeFields.all fun f => f.clear g 8) = true)
    (hn : ([MSI_PEND, EV_DROP.COUNT, DROP_EPISODE].all fun f => f.clear g 8) = true) :
    (s.lifeEnd n cause).get g n = s.get g n :=
  (State.Within.lifeEnd .refl (List.Subset.refl lifeFields) n cause).get_clear n.isLt hg hn

theorem State.fabricLoses_get {g : Field} {j k : Nat} (hj : j < k) (hg : (fabricFields.all fun f => f.clear g k) = true)
    (hn : ([MSI_PEND, EV_DROP.COUNT, DROP_EPISODE].all fun f => f.clear g k) = true) :
    (s.fabricLoses n cause).get g j = s.get g j :=
  (State.Within.fabricLoses .refl (List.Subset.refl fabricFields) n cause).get_clear hj hg hn

theorem State.portClear_get {g : Field} {j k : Nat} (i : Nat) (hj : j < k)
    (hg : (portFields.all fun f => f.clear g k) = true)
    (hn : ([MSI_PEND, EV_DROP.COUNT, DROP_EPISODE].all fun f => f.clear g k) = true) :
    (s.portClear i).get g j = s.get g j :=
  (State.Within.portClear .refl (List.Subset.refl portFields) i).get_clear hj hg hn

theorem State.portIdle_state : (s.portIdle n).get HX_PSTAT.STATE n =
    if s.flag HX_PCFG.EN n then hpTRAINING else hpOFF := by
  unfold State.portIdle
  split <;> simp +decide [State.get_put_ne, State.get_put_self, hpTRAINING, hpOFF]

theorem State.lifeEnd_state : (s.lifeEnd n cause).get HX_PSTAT.STATE n =
    if s.flag HX_PCFG.EN n then hpTRAINING else hpOFF := by
  rw [State.lifeEnd_eq]
  split
  · rw [State.fabricLoses_get n.isLt (by decide) (by decide), ← State.portIdle_state]
    simp +decide [State.portEnds, State.get_put_ne, State.get_count_ne, State.raise_get]
    exact State.portClear_get n n.isLt (by decide) (by decide)
  · exact State.portIdle_state

theorem State.lifeEnd_dead : (s.lifeEnd n cause).alive n = false := by
  rw [State.lifeEnd_eq]
  split
  · have live : ((s.portIdle n).portEnds n cause).get HX_PSTAT.LIVE n = 0 := by
      simp +decide [State.portEnds, State.get_put_ne, State.get_put_self, State.get_count_ne, State.raise_get]
    rw [State.alive, State.flag, State.fabricLoses_get n.isLt (by decide) (by decide), live]
    rfl
  · simpa using ‹¬(s.portIdle n).alive n = true›

/-- A life that ends is counted and shown (R508). -/
theorem State.lifeEnd_counts (h : s.alive n = true) : (s.lifeEnd n cause).get HX_IRQ.LINK = 1 ∧
    (s.lifeEnd n cause).get HX_PERR.DOWN n = min (s.get HX_PERR.DOWN n + 1) (2 ^ HX_PERR.DOWN.width - 1) := by
  have live : (s.portIdle n).alive n = true := by
    simpa +decide [State.portIdle, State.alive, State.flag, State.get_put_ne] using h
  rw [State.lifeEnd_eq, if_pos live, State.fabricLoses_get (Nat.one_pos) (by decide) (by decide),
    State.fabricLoses_get n.isLt (by decide) (by decide)]
  refine ⟨State.get_put_self .., ?_⟩
  have before : (s.portIdle n).get HX_PERR.DOWN n = s.get HX_PERR.DOWN n := by
    simp +decide [State.portIdle, State.get_put_ne]
  have cleared := ((s.portIdle n).portClear_get (g := HX_PERR.DOWN) n n.isLt (by decide) (by decide)).trans before
  simp +decide [State.portEnds, State.get_put_ne, State.get_count_self, State.raise_get, cleared]

end Life

end Sys2Proof.Machine
end

section
/-! O32: the ports of Hokuox are enabled, train, live and end (R501 to R508, R547, R548). -/

namespace Sys2Proof.Machine

section Clauses

variable {s u : State} {m : Master} {n : Fin 8} {w : Word}

/-! Enabling. -/

/-- The lanes of a port that passes Table HX-1 exist. -/
theorem State.portLanes_lt {i : Nat} (h : u.hxCheck m i = none) : ∀ l ∈ u.portLanes i, l < 40 := by
  unfold State.hxCheck at h
  dsimp only at h
  split at h
  · cases h
  · split at h
    · cases h
    next absent =>
      intro l hl
      have present := List.find?_eq_none.mp absent l hl
      simp only [Bool.or_eq_true, decide_eq_true_eq, not_or] at present
      omega

/-- The fields of a lane that Hokuox sets. -/
def portLaneFields : List Field :=
  [SL_LSTAT.OWNER, BS_LBTCTL.OWNED, SL_LCTL.MARK, SL_LCFG.PCS, SL_LCFG.SCR, SL_LCFG.DIV]

theorem State.portLanesOn_get {i : Nat} (hl : ∀ l ∈ u.portLanes i, l < 40) {g : Field} {j : Nat}
    (hg : (portLaneFields.all fun f => f.below 40 g) = true)
    (hc : ([LANE_TXW, LANE_RXW, LTX_ARM].all fun f => f.clear g 8) = true) (hj : j < 8) :
    (u.portLanesOn i).get g j = u.get g j := by
  refine List.foldlRecOn (motive := fun v : State => v.get g j = u.get g j) _ _ rfl fun v hv l hm => ?_
  have lane {v : State} {f : Field} {x : Nat} (hf : f ∈ portLaneFields) : (v.put f x l).get g j = v.get g j :=
    State.get_put_ne _ _ (Field.key_lt (hl l hm) (List.all_eq_true.mp hg f hf)).ne'
  have words {v : State} {f : Field} {x : Nat} (hf : f ∈ [LANE_TXW, LANE_RXW, LTX_ARM]) :
      (v.put f x l).get g j = v.get g j :=
    State.get_put_ne _ _ (Field.key_clear hj (List.all_eq_true.mp hc f hf)).symm
  rw [lane (by simp [portLaneFields]), lane (by simp [portLaneFields]), lane (by simp [portLaneFields]), State.pcsReset,
    words (by simp), lane (by simp [portLaneFields]), words (by simp), words (by simp), lane (by simp [portLaneFields]),
    lane (by simp [portLaneFields]), hv]

/-- Clearing a field of reset value 0 leaves a cell or brings it to its own reset value. -/
theorem State.get_put_cleared {f g : Field} {i j : Nat} (hf : f.reset = 0) :
    (u.put f 0 i).get g j = u.get g j ∨ (u.put f 0 i).get g j = g.reset := by
  by_cases same : g.key j = f.key i
  · exact .inr (u.get_put_unlisted same (by rw [Nat.zero_mod, hf]))
  · exact .inl (State.get_put_ne _ _ same)

/-- The lanes of a port that is disabled are cleared. -/
theorem State.portLanesOff_get (u : State) (i : Nat) (g : Field) (j : Nat) :
    (u.portLanesOff i).get g j = u.get g j ∨ (u.portLanesOff i).get g j = g.reset := by
  refine foldl_keeps (fun v : State => v.get g j = u.get g j ∨ v.get g j = g.reset) _ (fun v l hv => ?_) _ u (.inl rfl)
  have cleared {v : State} {f : Field} (hf : f.reset = 0) (hv : v.get g j = u.get g j ∨ v.get g j = g.reset) :
      (v.put f 0 l).get g j = u.get g j ∨ (v.put f 0 l).get g j = g.reset := by
    obtain kept | reset := State.get_put_cleared (u := v) (i := l) (g := g) (j := j) hf
    · rwa [kept]
    · exact .inr reset
  exact cleared rfl (cleared rfl (cleared rfl (cleared rfl (cleared rfl (cleared rfl (cleared rfl (cleared rfl
    (cleared rfl hv))))))))

section Enable

variable (hw : Writes m (0x24100 + 0x40 * n) s)
  (hu : u = ((s.put HX_PCFG.WIDTH (bits w.toNat 7 2) n).writeReg m HX_PCFG.reg n w.toNat).put HX_PCFG.EN 0 n)
  (hn : s.get HX_PCFG.EN n = 0) (hb : bit w.toNat 0 = true)
include hw hu hn hb

theorem hxPortEnable_starts (hc : u.hxCheck m n = none) : Answers (.hxPortEnable m n w) s fun t =>
    t.get HX_PCFG.EN n = 1 ∧ t.get HX_PSTAT.STATE n = hpTRAINING := by
  refine answers_write_delivers (exec_hxPortEnable m n w s) hw fun t ht => ?_
  simp only [wrHxPcfg, State.flag, hn, Nat.zero_ne_one, decide_false, Bool.false_eq_true, if_false, hb, Bool.not_true,
    ← hu, hc] at ht
  have lanes : ∀ l ∈ ((u.put HX_PCFG.EN 1 n).put HX_PSTAT.STATE hpTRAINING n).portLanes n, l < 40 := by
    have same : ((u.put HX_PCFG.EN 1 n).put HX_PSTAT.STATE hpTRAINING n).portLanes n = u.portLanes n := by
      simp +decide [State.portLanes, State.get_put_ne]
    exact same ▸ State.portLanes_lt hc
  rw [ht.get (by simp +decide), ht.get (by simp +decide)]
  unfold State.portStart
  rw [State.portLanesOn_get lanes (by decide) (by decide) n.isLt, State.portLanesOn_get lanes (by decide) (by decide)
    n.isLt]
  simp +decide [State.get_put_ne, State.get_put_self, hpTRAINING]

theorem hxPortEnable_refused {r : Rc × Nat} (hc : u.hxCheck m n = some r) : Answers (.hxPortEnable m n w) s fun t =>
    t.get HX_PCFG.EN n = 0 ∧ t.get GH_REFUSE.CODE = r.1.num % 2 ^ 16 := by
  refine answers_write_delivers (exec_hxPortEnable m n w s) hw fun t ht => ?_
  simp only [wrHxPcfg, State.flag, hn, Nat.zero_ne_one, decide_false, Bool.false_eq_true, if_false, hb, Bool.not_true,
    ← hu, hc] at ht
  rw [ht.get (by simp +decide), ht.get (by decide), State.refuse_code, State.refuse_get_fin n (by decide), hu]
  exact ⟨State.get_put_self .., rfl⟩

end Enable

theorem hxPortEnable_stops (hw : Writes m (0x24100 + 0x40 * n) s) (hn : s.get HX_PCFG.EN n = 1)
    (hb : bit w.toNat 0 = false)
    (hk : (s.writeReg m HX_PCFG.reg n w.toNat).readReg HX_PCFG.reg n / 2 = s.readReg HX_PCFG.reg n / 2) :
    Answers (.hxPortEnable m n w) s fun t =>
      t.get HX_PCFG.EN n = 0 ∧ t.get HX_PSTAT.STATE n = hpOFF ∧ t.alive n = false := by
  refine answers_write_delivers (exec_hxPortEnable m n w s) hw fun t ht => ?_
  simp only [wrHxPcfg, State.flag, hn, decide_true, if_true, hk, ne_eq, not_true, if_false, hb, Bool.false_eq_true] at ht
  have off : (s.put HX_PCFG.EN 0 n).get HX_PCFG.EN n = 0 := State.get_put_self ..
  have zero (v : State) {g : Field} (hg : g.reset = 0) (h : v.get g n = 0) : (v.portLanesOff n).get g n = 0 :=
    (v.portLanesOff_get n g n).elim (·.trans h) (·.trans hg)
  have ended := State.lifeEnd_state (s := s.put HX_PCFG.EN 0 n) (n := n) (cause := 5)
  rw [State.flag, off] at ended
  refine ⟨(ht.get (by simp +decide)).trans (zero _ rfl ((State.lifeEnd_get (by decide) (by decide)).trans off)),
    (ht.get (by simp +decide)).trans (zero _ rfl ended), ?_⟩
  have dead := State.lifeEnd_dead (s := s.put HX_PCFG.EN 0 n) (n := n) (cause := 5)
  simp only [State.alive, State.flag, decide_eq_false_iff_not] at dead ⊢
  rw [ht.get (by simp +decide)]
  obtain kept | reset := ((s.put HX_PCFG.EN 0 n).lifeEnd n 5).portLanesOff_get n HX_PSTAT.LIVE n
  · exact fun live => dead (kept.symm.trans live)
  · exact fun live => absurd (reset.symm.trans live) (by decide)

/-! Training. -/

theorem State.portDrop_state (st : Nat) : (s.portDrop n st).get HX_PSTAT.STATE n = st % 2 ^ 3 := by
  simp +decide [State.portDrop, State.get_put_ne, State.get_put_self]
  rfl

/-- A neighbour's violation is counted and shown (R547). -/
theorem State.hxViolation_counts (kind : Nat) : (s.hxViolation n kind).get HX_PERR.VIOL n =
    min (s.get HX_PERR.VIOL n + 1) (2 ^ HX_PERR.VIOL.width - 1) ∧ (s.hxViolation n kind).get HX_IRQ.VIOL = 1 := by
  unfold State.hxViolation
  rw [if_neg (by omega)]
  dsimp only
  split <;> constructor <;>
    simp +decide [State.raise_get, State.get_put_ne, State.get_put_self, State.get_count_self]

/-! INIT. -/

/-- What a pass over the journal that begins anew writes (R563). -/
theorem State.journalAgain_get {g : Field} {j k : Nat} (hj : j < k)
    (hg : ([MI_SENT, MI_SEQ].all fun f => f.clear g k) = true)
    (hn : ([MSI_PEND, EV_DROP.COUNT, DROP_EPISODE].all fun f => f.clear g k) = true) :
    u.journalAgain.get g j = u.get g j := by
  have sent (f : Nat) (v : State) : v.Within (.fields [MI_SENT, MI_SEQ]) (journalSend f v) := by
    induction f generalizing v with
    | zero => exact .refl
    | succ f ih =>
      exact .ite .refl (.trans (.putAll (.mirSend .refl 0 _ (mem_allCells (by simp)) fun _ => trivial) (by simp)) (ih _))
  exact (State.Within.ite (.trans (.putAll .refl (by simp)) (sent _ _)) .refl).get_clear hj hg hn

/-- What the start of a life writes, its own LIVE apart (R501, R508, R680). -/
def lifeStartFields : List Field := [HX_IRQ.LINK, CT_AFTER, CT_CRC, CT_PLEFT, CT_POS, CT_RX, CT_SPAN]

/-- A life that starts shows LIVE, and the port's other fields as they were. -/
theorem State.lifeStart_get {g : Field} (hg : (lifeStartFields.all fun f => f.clear g 8) = true)
    (hn : ([MSI_PEND, EV_DROP.COUNT, DROP_EPISODE].all fun f => f.clear g 8) = true) :
    (u.lifeStart n).get g n = ((u.portClear n).put HX_PSTAT.LIVE 1 n).get g n := by
  refine State.Within.get_clear (s := (u.portClear n).put HX_PSTAT.LIVE 1 n) (fs := lifeStartFields) ?_ n.isLt hg hn
  have shown (code : Rc) (a b : Nat) : State.Within ((u.portClear n).put HX_PSTAT.LIVE 1 n) (.fields lifeStartFields)
      (((((u.portClear n).put HX_PSTAT.LIVE 1 n).raise code a b).put HX_IRQ.LINK 1).advertise) :=
    .fabricAdvertise (.putAll (.raise .refl trivial) (by simp [lifeStartFields]))
  refine .ite (.cfgRequest (shown _ _ _) (fun c hc => ?_) fun _ _ => trivial) (shown _ _ _)
  obtain ⟨f, hf, rfl⟩ := List.mem_map.mp hc
  exact mem_allCells (List.mem_cons_of_mem _ hf)

theorem State.Delivers.alive {t : State} (h : u.Delivers t) : t.alive n = u.alive n := by
  rw [State.alive, State.alive, State.flag, State.flag, h.get (by simp +decide)]

theorem State.lifeStart_alive : (u.lifeStart n).alive n = true := by
  rw [State.alive, State.flag, State.lifeStart_get (by decide) (by decide), State.get_put_self]
  rfl

/-- A port that INIT blocks bring up (R506). -/
def State.portComesUp (u : State) (n : Nat) (again : Bool) : State :=
  if again then u.put HX_PSTAT.STATE hpUP n else ((u.lifeEnd n 2).put HX_PSTAT.STATE hpUP n).lifeStart n

theorem State.portComesUp_shows (again : Bool) (h : again = true → u.alive n = true) :
    (u.portComesUp n again).get HX_PSTAT.STATE n = hpUP ∧ (u.portComesUp n again).alive n = true ∧
      (u.portComesUp n again).get HX_PSTAT.NADDR n = u.get HX_PSTAT.NADDR n := by
  cases again with
  | true =>
    refine ⟨State.get_put_self .., ?_, State.get_put_ne _ _ (by simp +decide)⟩
    simpa +decide [State.portComesUp, State.alive, State.flag, State.get_put_ne] using h rfl
  | false =>
    have kept {g : Field} (hg : (portFields.all fun f => f.clear g 8) = true)
        (hc : (lifeStartFields.all fun f => f.clear g 8) = true) (hl : g.beside HX_PSTAT.LIVE = true)
        (hn : ([MSI_PEND, EV_DROP.COUNT, DROP_EPISODE].all fun f => f.clear g 8) = true) :
        (u.portComesUp n false).get g n = ((u.lifeEnd n 2).put HX_PSTAT.STATE hpUP n).get g n := by
      refine (State.lifeStart_get hc hn).trans ((State.get_put_ne _ _ ?_).trans (State.portClear_get n n.isLt hg hn))
      simp [Field.key_beside hl]
    refine ⟨(kept (by decide) (by decide) (by decide) (by decide)).trans (State.get_put_self ..), State.lifeStart_alive,
      (kept (by decide) (by decide) (by decide) (by decide)).trans ?_⟩
    exact (State.get_put_ne _ _ (by simp +decide)).trans (State.lifeEnd_get (by decide) (by decide))

section Training

variable (ha : Awake s)
include ha

theorem blockLock_aligns (hr : s.hxRuns = true)
    (hs : s.get HX_PSTAT.STATE n = hpTRAINING ∨ s.get HX_PSTAT.STATE n = hpSLEEPING) :
    Answers (.blockLock n) s fun t => t.get HX_PSTAT.STATE n = hpALIGNING := by
  refine answers_live_delivers (exec_blockLock n s) ha fun t ht => ?_
  simp only [hr, Bool.true_and, Bool.or_eq_true, decide_eq_true_eq, hs, if_true] at ht
  exact (ht.get (by simp +decide)).trans (State.portDrop_state _)

theorem blockLockLost_trains (hs : s.get HX_PSTAT.STATE n = hpALIGNING ∨ s.get HX_PSTAT.STATE n = hpINIT ∨
    s.get HX_PSTAT.STATE n = hpUP) : Answers (.blockLockLost n) s fun t => t.get HX_PSTAT.STATE n = hpTRAINING := by
  refine answers_live_delivers (exec_blockLockLost n s) ha fun t ht => ?_
  rw [if_pos (by rcases hs with hs | hs | hs <;> simp +decide [hs])] at ht
  exact (ht.get (by simp +decide)).trans (State.portDrop_state _)

theorem hxAlign_deskews (hs : s.get HX_PSTAT.STATE n = hpALIGNING) : Answers (.hxAlign n .deskewed) s fun t =>
    t.get HX_PSTAT.STATE n = hpINIT := by
  refine answers_live_delivers (exec_hxAlign n .deskewed s) ha fun t ht => ?_
  simp only [hs, ne_eq, not_true, decide_false, Bool.false_and, Bool.false_eq_true, if_false, if_true] at ht
  exact (ht.get (by simp +decide)).trans (State.portDrop_state _)

theorem hxAlign_misplaced (hs : s.get HX_PSTAT.STATE n = hpINIT ∨ s.get HX_PSTAT.STATE n = hpUP) :
    Answers (.hxAlign n .outOfPlace) s fun t => t.get HX_PSTAT.STATE n = hpALIGNING := by
  refine answers_live_delivers (exec_hxAlign n .outOfPlace s) ha fun t ht => ?_
  rw [if_neg (by rcases hs with hs | hs <;> simp +decide [hs])] at ht
  exact (ht.get (by simp +decide)).trans (State.portDrop_state _)

theorem hxAlign_wrong (hs : s.get HX_PSTAT.STATE n = hpINIT ∨ s.get HX_PSTAT.STATE n = hpUP) :
    Answers (.hxAlign n .wrongField) s fun t => t.get HX_PSTAT.STATE n = hpALIGNING ∧
      t.get HX_PERR.VIOL n = min (s.get HX_PERR.VIOL n + 1) (2 ^ HX_PERR.VIOL.width - 1) ∧ t.get HX_IRQ.VIOL = 1 := by
  refine answers_live_delivers (exec_hxAlign n .wrongField s) ha fun t ht => ?_
  rw [if_neg (by rcases hs with hs | hs <;> simp +decide [hs])] at ht
  obtain ⟨counted, shown⟩ := s.hxViolation_counts (n := n) 9
  refine ⟨(ht.get (by simp +decide)).trans (State.portDrop_state _), ?_, ?_⟩
  · rw [ht.get (by simp +decide)]
    simpa +decide [State.portDrop, State.get_put_ne] using counted
  · rw [ht.get (by decide)]
    simpa +decide [State.portDrop, State.get_put_ne] using shown

/-! INIT and WAKE_T. -/

theorem hxInit_disagrees {w : BitVec 64} (hs : s.get HX_PSTAT.STATE n = hpINIT) (hd : s.initDiff n w.toNat ≠ 0) :
    Answers (.hxInit n w) s fun t => t.get HX_PSTAT.STATE n = hpINIT ∧
      t.get HX_PERR.VIOL n = min (s.get HX_PERR.VIOL n + 1) (2 ^ HX_PERR.VIOL.width - 1) := by
  refine answers_live_delivers (exec_hxInit n w s) ha fun t ht => ?_
  have shown : (s.initBlock n w.toNat).get HX_PSTAT.STATE n = hpINIT := by
    simp +decide [State.initBlock, hs, hd, State.raise_get, State.get_put_ne]
    simpa +decide [State.hxViolation, State.get_count_ne, State.get_put_ne, State.raise_get,
      apply_ite (State.get · HX_PSTAT.STATE n)] using hs
  simp only [State.portUp, shown, show hpINIT ≠ hpUP by decide, decide_false, Bool.and_false, Bool.false_and,
    Bool.false_eq_true, if_false] at ht
  refine ⟨(ht.get (by simp +decide)).trans shown, (ht.get (by simp +decide)).trans ?_⟩
  simp +decide [State.initBlock, hs, hd, State.raise_get, State.get_put_ne]
  exact (s.hxViolation_counts 8).1

/-- The port after its eighth agreeing INIT block, not yet UP (R506). -/
def State.initAgreed (s : State) (n v : Nat) : State :=
  (((s.put HX_INITC (min 8 (s.get HX_INITC n + 1)) n).put HX_INITS 8 n).put HX_PSTAT.NADDR (bits v 16 8) n).put HX_INITS
    0 n

omit ha in
theorem State.initBlock_agrees {v : Nat} (hs : s.get HX_PSTAT.STATE n = hpINIT) (hd : s.initDiff n v = 0)
    (hb : bit v 28 = true) (hi : s.get HX_INITS n = 7) : s.initBlock n v =
      (s.initAgreed n v).portComesUp n (bit v 29 && (s.initAgreed n v).alive n) := by
  unfold State.initBlock
  rw [if_neg (not_not.mpr hs), if_neg (not_not.mpr hd)]
  simp only [hb, if_true, hi]
  rw [if_neg (by simp +decide [State.get_put_self])]
  rfl

theorem hxInit_agrees {w : BitVec 64} (hs : s.get HX_PSTAT.STATE n = hpINIT) (hd : s.initDiff n w.toNat = 0)
    (hb : bit w.toNat 28 = true) (hi : s.get HX_INITS n = 7) : Answers (.hxInit n w) s fun t =>
      t.get HX_PSTAT.STATE n = hpUP ∧ t.alive n = true ∧ t.get HX_PSTAT.NADDR n = bits w.toNat 16 8 := by
  refine answers_live_delivers (exec_hxInit n w s) ha fun t ht => ?_
  obtain ⟨up, live, named⟩ := (s.initAgreed n w.toNat).portComesUp_shows (n := n)
    (bit w.toNat 29 && (s.initAgreed n w.toNat).alive n) fun h => (Bool.and_eq_true_iff.mp h).2
  rw [← State.initBlock_agrees hs hd hb hi] at up live named
  rw [show (s.initAgreed n w.toNat).get HX_PSTAT.NADDR n = bits w.toNat 16 8 by
    simp +decide [State.initAgreed, State.get_put_ne, State.get_put_self, bits]
    rfl] at named
  dsimp only at ht
  split at ht
  · have kept {g : Field} (hg : ([MI_SENT, MI_SEQ].all fun f => f.clear g 8) = true)
        (hn : ([MSI_PEND, EV_DROP.COUNT, DROP_EPISODE].all fun f => f.clear g 8) = true) :
        t.get g n = (s.initBlock n w.toNat).get g n :=
      (ht.get (Field.key_clear n.isLt (List.all_eq_true.mp hn _ (by simp))).symm).trans
        (State.journalAgain_get n.isLt hg hn)
    refine ⟨(kept (by decide) (by decide)).trans up, ?_, (kept (by decide) (by decide)).trans named⟩
    rwa [State.alive, State.flag, kept (by decide) (by decide)]
  · exact ⟨(ht.get (by simp +decide)).trans up, ht.alive.trans live, (ht.get (by simp +decide)).trans named⟩

theorem wakeTExpiry_ends (hl : s.alive n = true) (hr : s.hxRuns = true) (hs : s.get HX_PSTAT.STATE n = hpTRAINING) :
    Answers (.wakeTExpiry n) s fun t => t.alive n = false ∧ t.get HX_IRQ.LINK = 1 ∧
      t.get HX_PERR.DOWN n = min (s.get HX_PERR.DOWN n + 1) (2 ^ HX_PERR.DOWN.width - 1) := by
  refine answers_live_delivers (exec_wakeTExpiry n s) ha fun t ht => ?_
  simp only [hs, hl, hr, decide_true, Bool.true_or, Bool.and_self, if_true] at ht
  obtain ⟨shown, counted⟩ := State.lifeEnd_counts (cause := 1) hl
  exact ⟨ht.alive.trans State.lifeEnd_dead, (ht.get (by decide)).trans shown,
    (ht.get (by simp +decide)).trans counted⟩

end Training

/-! RETRAIN and ECHO (R508). -/

theorem retrain_trains (hw : Writes m (0x24104 + 0x40 * n) s) (he : s.get HX_PCFG.EN n = 1) :
    Answers (.retrain m n) s fun t => t.get HX_PSTAT.STATE n = hpTRAINING ∧ t.alive n = false := by
  refine answers_write_delivers (exec_retrain m n s) hw fun t ht => ?_
  simp only [wrHxPctl, State.flag, he, decide_true, Bool.and_true, show bit 1 0 = true by decide,
    show bit 1 1 = false by decide, Bool.false_and, Bool.false_eq_true, if_true, if_false] at ht
  have state := State.lifeEnd_state (s := s) (n := n) (cause := 4)
  rw [State.flag, he] at state
  exact ⟨(ht.get (by simp +decide)).trans state, ht.alive.trans State.lifeEnd_dead⟩

theorem echo_sends (hw : Writes m (0x24104 + 0x40 * n) s) (hl : s.alive n = true) : Answers (.echo m n) s fun t =>
    let p := s.ownPacket 0 clLINK 0 0 [0]
    t.list HX_TX (16 * n + pkClass p) = s.list HX_TX (16 * n + pkClass p) ++ [p] := by
  refine answers_write_delivers (exec_echo m n s) hw fun t ht => ?_
  simp only [wrHxPctl, hl, Bool.and_true, show bit 2 0 = false by decide, show bit 2 1 = true by decide,
    Bool.false_and, Bool.false_eq_true, if_true, if_false] at ht
  exact (ht.list _ _).trans State.hxTx_list


end Clauses

/-- Settles O32: from the checks of Table HX-1 to the end of a port's life. -/
theorem hokuoxPortsTrainAndLive : Obligations.HokuoxPortsTrainAndLive := by
  intro s ha
  refine ⟨fun m n w hw => ⟨fun hn hb => ⟨fun hc => hxPortEnable_starts hw rfl hn hb hc,
    fun r hc => hxPortEnable_refused hw rfl hn hb hc⟩, fun hn hb hk => hxPortEnable_stops hw hn hb hk⟩, fun n => ?_⟩
  exact ⟨fun hr hs => blockLock_aligns ha hr hs, fun hs => blockLockLost_trains ha hs, fun hs => hxAlign_deskews ha hs,
    fun hs => ⟨hxAlign_misplaced ha hs, hxAlign_wrong ha hs⟩,
    fun w hs => ⟨fun hd => hxInit_disagrees ha hs hd, fun hd hb hi => hxInit_agrees ha hs hd hb hi⟩,
    fun hl hr hs => wakeTExpiry_ends ha hl hr hs,
    fun m hw => ⟨fun he => retrain_trains hw he, fun hl => echo_sends hw hl⟩⟩

end Sys2Proof.Machine
end

section
/-! O33: packets are sent under credit, received, acknowledged and replayed (R504 to R513, R544). -/

namespace Sys2Proof.Machine

section Clauses

variable {s u : State} {n : Fin 8}

/-! Receipt. -/

/-- The header of a packet on the line gives its class (R504). -/
theorem pkClass_line {h : BitVec 64} {hops : Nat} {ws : List Nat} :
    pkClass (mkPacket h.toNat hops ws) = bits h.toNat 44 4 := by
  simp only [pkClass, bits, mkPacket, Nat.reducePow]
  omega

/-- A port's acknowledgement writes what is owed alone. -/
theorem State.sendAck_get (nak : Bool) {g : Field} {j : Nat} (hg : g.key j ≠ HX_UNACK.key n) :
    (s.sendAck n nak).get g j = s.get g j :=
  s.get_put_ne (i := n) (v := 0) hg

/-- What an accepted packet's check reads (Table HX-5). -/
theorem State.pkWrong_congr {p : Nat} (hm : u.get HX_PCFG.MIRROR n = s.get HX_PCFG.MIRROR n)
    (ha : u.get HX_DSTAT.ADDR = s.get HX_DSTAT.ADDR) : u.pkWrong n p = s.pkWrong n p := by
  have mirror : u.flag HX_PCFG.MIRROR n = s.flag HX_PCFG.MIRROR n := by rw [State.flag, State.flag, hm]
  have addr : u.hxAddr = s.hxAddr := ha
  rw [State.pkWrong, State.pkWrong, mirror, addr]

/-- Port n goes on to the number after q and owes an acknowledgement (R510). -/
def State.numberTaken (s : State) (n q : Nat) : State :=
  let t := ((s.put HX_NEXT (q + 1) n).put HX_NAKED 0 n).put HX_UNACK (s.get HX_UNACK n + 1) n
  if 64 ≤ t.get HX_UNACK n then t.sendAck n false else t

theorem State.numberTaken_get {q j : Nat} {g : Field} (hu : g.key j ≠ HX_UNACK.key n) :
    (s.numberTaken n q).get g j = ((s.put HX_NEXT (q + 1) n).put HX_NAKED 0 n).get g j := by
  unfold State.numberTaken
  dsimp only
  split
  · rw [State.sendAck_get false hu, State.get_put_ne _ _ hu]
  · exact State.get_put_ne _ _ hu

theorem State.numberTaken_list {q : Nat} (f : Fifo) (i : Nat) : (s.numberTaken n q).list f i = s.list f i := by
  unfold State.numberTaken
  dsimp only
  split <;> rfl

/-- A packet of class DISC that an accepted check finds right is delivered (R514). -/
theorem State.hxAccept_disc {p : Nat} (hp : pkClass p = clDISC) (hw : u.pkWrong n p = 0) :
    u.hxAccept n p = u.hxDeliver n p := by
  simp +decide [State.hxAccept, hp, hw]

section Packet

variable (ha : Awake s) (hup : s.portUp n = true) {lseq : BitVec 12} {h : BitVec 64} {payload : List (BitVec 64)}
  {tr : BitVec 64} {ws : List Nat} {p : Nat} (hws : payload.map BitVec.toNat = ws)
  (hp : mkPacket h.toNat (bits tr.toNat 32 5) ws = p) (hk : bits h.toNat 44 4 = clDISC)
  (hlen : bits h.toNat 16 16 = ws.length) (hmax : ws.length ≤ clMax clDISC) (hres : bits tr.toNat 37 27 = 0)
include ha hup hws hp hk hlen hmax hres

theorem packetReceive_delivers (hcrc : bits tr.toNat 0 32 = crcWords (h.toNat :: ws))
    (hnext : (s.get HX_NEXT n + 4096 - lseq.toNat) % 4096 = 0)
    (hroom : s.get HX_USED (16 * n + clDISC) + pkCost p ≤ clBuf clDISC) (hok : s.pkWrong n p = 0) :
    Answers (.packetReceive n (.packet lseq h payload tr)) s fun t =>
      t.get HX_NEXT n = (lseq.toNat + 1) % 2 ^ 12 ∧ t.get HX_NAKED n = 0 ∧
      t.list HX_RX (16 * n + pkClass p) = s.list HX_RX (16 * n + pkClass p) ++ [p] := by
  refine answers_live_delivers (exec_packetReceive n _ s) ha fun t ht => ?_
  have plain : ¬ bits tr.toNat 0 32 = 0xFFFFFFFF - bits tr.toNat 0 32 := by omega
  simp only [hup, Bool.not_true, Bool.false_eq_true, if_false, hws, hp, hk, hlen, hres, hnext, ← hcrc] at ht
  rw [if_neg (by simpa +decide using hmax), if_neg (by decide), if_neg (by simp), if_neg (by decide), if_neg (by decide),
    if_neg (by omega), if_neg plain] at ht
  change (State.hxAccept ((s.numberTaken n lseq.toNat).put HX_USED _ (16 * n + clDISC)) n p).Delivers t at ht
  have apart {g : Field} (hg : HX_USED.clear g 8 = true) (x : Nat) : ((s.numberTaken n lseq.toNat).put HX_USED x
      (16 * n + clDISC)).get g n = (s.numberTaken n lseq.toNat).get g n :=
    State.get_put_ne _ _ (Field.key_clear n.isLt hg).symm
  rw [State.hxAccept_disc (by rw [← hp, pkClass_line, hk]) (by
    rw [State.pkWrong_congr (s := s) ?_ ?_, hok]
    · rw [apart (by decide), State.numberTaken_get (by simp +decide)]
      simp +decide [State.get_put_ne]
    · rw [State.get_put_ne _ _ (Field.key_clear Nat.one_pos (by decide)).symm, State.numberTaken_get (by simp +decide)]
      simp +decide [State.get_put_ne])] at ht
  refine ⟨?_, ?_, ?_⟩
  · rw [ht.get (by simp +decide), State.hxDeliver, State.enq_get, apart (by decide), State.numberTaken_get (by simp +decide)]
    simp +decide [State.get_put_ne, State.get_put_self]
    rfl
  · rw [ht.get (by simp +decide), State.hxDeliver, State.enq_get, apart (by decide), State.numberTaken_get (by simp +decide)]
    simp +decide [State.get_put_self]
  · rw [ht.list, State.hxDeliver, State.enq, State.list_setList_self, State.put_list, State.numberTaken_list]

theorem packetReceive_fails (hcrc : bits tr.toNat 0 32 ≠ crcWords (h.toNat :: ws))
    (hst : bits tr.toNat 0 32 ≠ 0xFFFFFFFF - crcWords (h.toNat :: ws)) (hn : s.get HX_NAKED n = 0) :
    Answers (.packetReceive n (.packet lseq h payload tr)) s fun t =>
      t.get HX_NAKED n = 1 ∧ t.get HX_NEXT n = s.get HX_NEXT n ∧
      t.get HX_PERR.NAK n = min (s.get HX_PERR.NAK n + 1) (2 ^ HX_PERR.NAK.width - 1) := by
  refine answers_live_delivers (exec_packetReceive n _ s) ha fun t ht => ?_
  simp only [hup, Bool.not_true, Bool.false_eq_true, if_false, hws, hp, hk, hlen, hres] at ht
  rw [if_neg (by simpa +decide using hmax), if_neg (by decide), if_pos (by simp [hcrc, hst])] at ht
  simp only [State.hxFail, State.flag, hn, Nat.zero_ne_one, decide_false, Bool.false_eq_true, if_false] at ht
  rw [ht.get (by simp +decide), ht.get (by simp +decide), ht.get (by simp +decide)]
  simp +decide [State.get_count_ne, State.get_count_self, State.sendAck_get, State.get_put_ne, State.get_put_self]

end Packet

theorem packetReceive_reserved (ha : Awake s) (hup : s.portUp n = true) :
    Answers (.packetReceive n .reservedBlock) s fun t => t.get HX_IRQ.VIOL = 1 ∧
      t.get HX_PERR.VIOL n = min (s.get HX_PERR.VIOL n + 1) (2 ^ HX_PERR.VIOL.width - 1) := by
  refine answers_live_delivers (exec_packetReceive n _ s) ha fun t ht => ?_
  simp only [hup, Bool.not_true, Bool.false_eq_true, if_false] at ht
  obtain ⟨counted, shown⟩ := s.hxViolation_counts (n := n) 1
  exact ⟨(ht.get (by decide)).trans shown, (ht.get (by simp +decide)).trans counted⟩

/-! Sending. -/

/-- A packet of another class than CH leaves as it is (R530). -/
theorem State.hxFill_plain {p : Nat} (hp : pkClass p ≠ clCH) : u.hxFill p = some (p, u) := by
  simp [State.hxFill, hp]

/-- A class with nothing queued sends nothing. -/
theorem State.sendHead_empty {k : Nat} (h : s.list HX_TX (16 * n + k) = []) : s.sendHead n k = none := by
  rw [State.sendHead, h]

/-- The state after port n has sent the packet p of class DISC, with r behind it (R509, R512). -/
def State.discSent (s : State) (n p : Nat) (r : List Nat) : State :=
  (((((s.setList HX_TX r (16 * n + clDISC)).put HX_CRED (s.get HX_CRED (16 * n + clDISC) - pkCost p)
    (16 * n + clDISC)).put HX_TXSEQ (s.get HX_TXSEQ n + 1) n).enq HX_HOLD (s.get HX_TXSEQ n + 2 ^ 12 * p) n).hxLine n
    (s.get HX_TXSEQ n) p)

theorem Fifo.key_ne {q r : Fifo} (i j : Nat) (h : q.id ≠ r.id) (hi : i < 2 ^ 20) (hj : j < 2 ^ 20) : q.key i ≠ r.key j :=
  fun same => h ((Fifo.key_eq_iff hi hj).mp same).1

theorem State.discSent_shows (s : State) (n : Fin 8) (p : Nat) (r : List Nat) :
    (s.discSent n p r).list HX_TX (16 * n + clDISC) = r ∧
    (s.discSent n p r).list HX_HOLD n = s.list HX_HOLD n ++ [s.get HX_TXSEQ n + 2 ^ 12 * p] ∧
    (s.discSent n p r).get HX_TXSEQ n = (s.get HX_TXSEQ n + 1) % 2 ^ 12 ∧
    (s.discSent n p r).get HX_CRED (16 * n + clDISC) =
      (s.get HX_CRED (16 * n + clDISC) - pkCost p) % 2 ^ HX_CRED.width := by
  have apart : HX_HOLD.key n ≠ HX_TX.key (16 * n + clDISC) :=
    Fifo.key_ne _ _ (by decide) (by omega) (by simp only [clDISC]; omega)
  have cell : HX_CRED.key (16 * n + clDISC) ≠ HX_TXSEQ.key n := Field.key_clear n.isLt (by decide)
  refine ⟨?_, ?_, ?_, ?_⟩
  · unfold State.discSent State.hxLine State.enq
    rw [State.emit_list, State.list_setList_ne _ _ apart.symm]
    simp [State.list_setList_self]
  · unfold State.discSent State.hxLine State.enq
    rw [State.emit_list, State.list_setList_self]
    simp only [State.put_list]
    rw [State.list_setList_ne _ _ apart]
  · exact (State.get_put_self ..)
  · exact (State.get_put_ne _ _ cell).trans (State.get_put_self ..)

theorem State.sendHead_disc {p : Nat} {r : List Nat} (hq : s.list HX_TX (16 * n + clDISC) = p :: r)
    (hp : pkClass p = clDISC) (hc : pkCost p ≤ s.get HX_CRED (16 * n + clDISC))
    (hw : s.replayWords n + pkCost p ≤ 4096) (hl : (s.list HX_HOLD n).length < 2047) :
    s.sendHead n clDISC = some (s.discSent n p r) := by
  have held : ¬ (s.setList HX_TX r (16 * n + clDISC)).get HX_CRED (16 * n + clDISC) < pkCost p := Nat.not_lt.mpr hc
  have other : (s.setList HX_TX r (16 * n + clDISC)).list HX_HOLD n = s.list HX_HOLD n :=
    State.list_setList_ne _ _ (Fifo.key_ne n.val _ (by decide) (by omega) (by simp only [clDISC]; omega))
  have words : (s.setList HX_TX r (16 * n + clDISC)).replayWords n = s.replayWords n := by
    rw [State.replayWords, other, State.replayWords]
  rw [State.sendHead, hq]
  dsimp only
  rw [State.hxFill_plain (by rw [hp]; decide)]
  dsimp only
  rw [if_neg (by rw [words, other]; simp only [Bool.or_eq_true, decide_eq_true_eq]; omega)]
  rfl

theorem List.findSome?_only {α β : Type} {l : List α} {f : α → Option β} {a : α} {y : β} (ha : a ∈ l) (hy : f a = some y)
    (hn : ∀ x ∈ l, x ≠ a → f x = none) : l.findSome? f = some y := by
  induction l with
  | nil => cases ha
  | cons x l ih =>
    by_cases same : x = a
    · rw [List.findSome?_cons, same, hy]
    · rw [List.findSome?_cons, hn x List.mem_cons_self same]
      exact ih ((List.mem_cons.mp ha).resolve_left (Ne.symm same)) fun z hz => hn z (List.mem_cons_of_mem _ hz)

theorem packetSend_sends (ha : Awake s) (hup : s.portUp n = true) {spent : Bool} {aged : BitVec 7} {p : Nat}
    {r : List Nat} (hr : s.hxRuns = true) (hpos : s.get HX_RPOS n = 0)
    (hq : s.list HX_TX (16 * n + clDISC) = p :: r) (hp : pkClass p = clDISC)
    (he : ∀ k < 7, k ≠ clDISC → s.list HX_TX (16 * n + k) = []) (hc : pkCost p ≤ s.get HX_CRED (16 * n + clDISC))
    (hw : s.replayWords n + pkCost p ≤ 4096) (hl : (s.list HX_HOLD n).length < 2047) :
    Answers (.packetSend n spent aged) s fun t => t.list HX_TX (16 * n + clDISC) = r ∧
      t.list HX_HOLD n = s.list HX_HOLD n ++ [s.get HX_TXSEQ n + 2 ^ 12 * p] ∧
      t.get HX_TXSEQ n = (s.get HX_TXSEQ n + 1) % 2 ^ 12 ∧
      t.get HX_CRED (16 * n + clDISC) = (s.get HX_CRED (16 * n + clDISC) - pkCost p) % 2 ^ HX_CRED.width := by
  refine answers_live_delivers (exec_packetSend n spent aged s) ha fun t ht => ?_
  have awake : s.get HX_PSTAT.STATE n ≠ hpSLEEPING := by
    have up : s.get HX_PSTAT.STATE n = hpUP := of_decide_eq_true hup
    rw [up]
    decide
  simp only [hr, hup, awake, hpos, Bool.not_true, Bool.false_eq_true, if_false, ne_eq, not_true] at ht
  rw [List.findSome?_only (a := clDISC) ?_ (State.sendHead_disc hq hp hc hw hl) ?_] at ht
  · rw [ht.list, ht.list, ht.get (by simp +decide), ht.get (Field.key_clear Nat.one_pos (by decide))]
    exact State.discSent_shows ..
  · cases spent <;> cases waited : bit aged.toNat clDISC <;> simp +decide [waited]
  · refine fun k hk other => State.sendHead_empty (he k ?_ other)
    revert hk
    cases spent <;> simp [clTIME, clLINK, clDISC, clMIR, clCSR, clCH, clUPD] <;> omega

/-! Acknowledgement, replay, credit and sleep. -/

theorem clBuf_lt (k : Nat) : clBuf k < 2 ^ HX_CRED.width := by
  unfold clBuf
  split <;> decide

/-- A violation writes its count and its bit alone. -/
theorem State.hxViolation_get {kind j : Nat} {g : Field} (hv : g.key j ≠ HX_PERR.VIOL.key n)
    (hi : g.key j ≠ HX_IRQ.VIOL.key 0) (hn : g.key j ∉ noiseCells) : (s.hxViolation n kind).get g j = s.get g j := by
  simp only [noiseCells, cellsAt, List.map_cons, List.map_nil, List.mem_cons, List.not_mem_nil, or_false, not_or] at hn
  exact (State.Within.hxViolation (S := .logged [HX_PERR.VIOL.key n, HX_IRQ.VIOL.key 0] []) .refl kind trivial (by simp)
    (by simp)).get (by simpa using ⟨hv, hi⟩) hn.1 fun _ => hn.2

/-- The credit of a class is no cell of a violation. -/
theorem credit_apart {k : Nat} : HX_CRED.key k ≠ HX_PERR.VIOL.key n ∧ HX_CRED.key k ≠ HX_IRQ.VIOL.key 0 ∧
    HX_CRED.key k ∉ noiseCells := by
  refine ⟨(Field.key_lt n.isLt (by decide)).ne', Field.key_clear Nat.one_pos (by decide), fun h => ?_⟩
  obtain ⟨f, hf, same⟩ := List.mem_map.mp h
  simp only [List.mem_cons, List.not_mem_nil, or_false] at hf
  rcases hf with rfl | rfl | rfl <;> exact Field.key_clear Nat.one_pos (by decide) same.symm

section Lived

variable (ha : Awake s) (hup : s.portUp n = true)
include ha hup

theorem ack_releases {q : BitVec 12} {k : Nat}
    (hk : ((s.list HX_HOLD n).findIdx? fun h => h % 2 ^ 12 = q.toNat) = some k) : Answers (.ack n q false) s fun t =>
      t.list HX_HOLD n = (s.list HX_HOLD n).drop (k + 1) ∧ t.get HX_RCNT n = 0 := by
  refine answers_live_delivers (exec_ack n q false s) ha fun t ht => ?_
  simp only [hup, hk, Bool.not_true, Bool.false_and, Bool.false_eq_true, if_false] at ht
  rw [ht.list, ht.get (by simp +decide)]
  simp +decide [State.get_put_ne, State.get_put_self, State.list_setList_self]

theorem ackTimer_acknowledges (h : s.get HX_UNACK n ≠ 0) : Answers (.ackTimer n) s fun t => t.get HX_UNACK n = 0 := by
  refine answers_live_delivers (exec_ackTimer n s) ha fun t ht => ?_
  rw [if_pos (by simp [hup, h])] at ht
  exact (ht.get (by simp +decide)).trans (s.get_put_self HX_UNACK 0 n)

theorem replayTimeout_replays (h : s.list HX_HOLD n ≠ []) (hr : s.get HX_RCNT n < s.get HX_PTIME.MAX_REPLAY n) :
    Answers (.replayTimeout n) s fun t =>
      t.get HX_RPOS n = 1 ∧ t.get HX_RCNT n = (s.get HX_RCNT n + 1) % 2 ^ HX_RCNT.width := by
  refine answers_live_delivers (exec_replayTimeout n s) ha fun t ht => ?_
  rw [if_pos (by simp [hup, h]), State.replay, if_neg (by omega)] at ht
  rw [ht.get (by simp +decide), ht.get (by simp +decide)]
  simp +decide [State.get_count_ne, State.get_put_ne, State.get_put_self]

theorem replayTimeout_ends (h : s.list HX_HOLD n ≠ []) (hr : s.get HX_PTIME.MAX_REPLAY n ≤ s.get HX_RCNT n) :
    Answers (.replayTimeout n) s fun t => t.alive n = false := by
  refine answers_live_delivers (exec_replayTimeout n s) ha fun t ht => ?_
  rw [if_pos (by simp [hup, h]), State.replay, if_pos hr] at ht
  exact ht.alive.trans State.lifeEnd_dead

theorem credit_returns {k : BitVec 4} {words : BitVec 16} (hk : k.toNat < 7)
    (hv : s.get HX_CRED (16 * n + k.toNat) + words.toNat ≤ clBuf k.toNat) : Answers (.credit n k words) s fun t =>
      t.get HX_CRED (16 * n + k.toNat) = s.get HX_CRED (16 * n + k.toNat) + words.toNat := by
  refine answers_live_delivers (exec_credit n k words s) ha fun t ht => ?_
  simp only [hup, Bool.not_true, Bool.false_or, decide_eq_true_eq, show ¬ 7 ≤ k.toNat by omega, if_false,
    show ¬ clBuf k.toNat < s.get HX_CRED (16 * n + k.toNat) + words.toNat by omega] at ht
  rw [ht.get (Field.key_clear Nat.one_pos (by decide)), State.get_put_self]
  exact Nat.mod_eq_of_lt (hv.trans_lt (clBuf_lt _))

theorem credit_exceeds {k : BitVec 4} {words : BitVec 16} (hk : k.toNat < 7)
    (hv : clBuf k.toNat < s.get HX_CRED (16 * n + k.toNat) + words.toNat) : Answers (.credit n k words) s fun t =>
      t.get HX_CRED (16 * n + k.toNat) = clBuf k.toNat ∧ t.get HX_IRQ.VIOL = 1 := by
  refine answers_live_delivers (exec_credit n k words s) ha fun t ht => ?_
  simp only [hup, Bool.not_true, Bool.false_or, decide_eq_true_eq, show ¬ 7 ≤ k.toNat by omega, if_false, hv, if_true] at ht
  obtain ⟨viol, irq, noise⟩ := credit_apart (n := n) (k := 16 * n + k.toNat)
  refine ⟨?_, (ht.get (by decide)).trans (State.hxViolation_counts 7).2⟩
  rw [ht.get (Field.key_clear Nat.one_pos (by decide)), State.hxViolation_get viol irq noise,
    State.get_put_self]
  exact Nat.mod_eq_of_lt (clBuf_lt _)

theorem sleep_sleeps : Answers (.sleep n) s fun t => t.get HX_PSTAT.STATE n = hpSLEEPING := by
  refine answers_live_delivers (exec_sleep n s) ha fun t ht => ?_
  rw [if_pos hup] at ht
  exact (ht.get (by simp +decide)).trans (s.get_put_self ..)

end Lived

end Clauses

/-- Settles O33: from a packet of class DISC received and sent to the port's sleep. -/
theorem packetsAreSentReceivedAndReplayed : Obligations.PacketsAreSentReceivedAndReplayed := by
  intro s n ha hup
  refine ⟨fun lseq h payload tr => ?_, packetReceive_reserved ha hup,
    fun spent aged p r hr hpos hq hp he hc hw hl => packetSend_sends ha hup hr hpos hq hp he hc hw hl,
    fun q k hk => ack_releases ha hup hk, fun h => ackTimer_acknowledges ha hup h,
    fun h => ⟨fun hr => replayTimeout_replays ha hup h hr, fun hr => replayTimeout_ends ha hup h hr⟩,
    fun k words hk => ⟨fun hv => credit_returns ha hup hk hv, fun hv => credit_exceeds ha hup hk hv⟩,
    sleep_sleeps ha hup⟩
  exact fun hk hlen hmax hres => ⟨fun hcrc hnext hroom hok => packetReceive_delivers ha hup rfl rfl hk hlen hmax hres hcrc
    hnext hroom hok, fun hcrc hst hn => packetReceive_fails ha hup rfl rfl hk hlen hmax hres hcrc hst hn⟩

end Sys2Proof.Machine
end

section
/-! What the bookkeeping of a mirrored pair writes: its domains, its role and synchronisation, its journal (spec/15). -/

namespace Sys2Proof.Machine

/-! Fields with a bound on the elements that are written. -/

/-- The elements of some fields, of each those below a bound. -/
def elementsOf (fs : List (Field × Nat)) : Set Nat := {k | ∃ p ∈ fs, ∃ i < p.2, k = p.1.key i}

/-- The scope of some elements of fields, all lists and the log. -/
def Scope.elements (fs : List (Field × Nat)) : Scope := ⟨elementsOf fs, Set.univ, True⟩

/-- None of the first n elements of g is one of the fields' elements, nor a cell of a dropped record or message. -/
def Field.clearOf (g : Field) (n : Nat) (fs : List (Field × Nat)) : Bool :=
  (fs ++ [(MSI_PEND, 1), (EV_DROP.COUNT, 1), (DROP_EPISODE, 1)]).all fun p =>
    p.1.below p.2 g || g.below n p.1 || p.1.beside g

theorem Field.key_clearOf {g : Field} {n j : Nat} {fs : List (Field × Nat)} (hg : g.clearOf n fs = true) (hj : j < n)
    {p : Field × Nat} (hp : p ∈ fs ++ [(MSI_PEND, 1), (EV_DROP.COUNT, 1), (DROP_EPISODE, 1)]) {i : Nat} (hi : i < p.2) :
    g.key j ≠ p.1.key i := by
  have apart := List.all_eq_true.mp hg p hp
  simp only [Bool.or_eq_true] at apart
  obtain (below | above) | beside := apart
  · exact (Field.key_lt hi below).ne'
  · exact (Field.key_lt hj above).ne
  · exact fun same => (Field.key_beside beside).mp same.symm

namespace State.Within

variable {s t : State} {fs : List (Field × Nat)}

theorem get_elements (h : s.Within (.elements fs) t) {g : Field} {n j : Nat} (hg : g.clearOf n fs = true) (hj : j < n) :
    t.get g j = s.get g j := by
  have noise {f : Field} (hf : (f, 1) ∈ [(MSI_PEND, 1), (EV_DROP.COUNT, 1), (DROP_EPISODE, 1)]) : g.key j ≠ f.key 0 :=
    Field.key_clearOf hg hj (List.mem_append_right _ hf) Nat.one_pos
  refine h.get ?_ (noise (by simp)) fun _ => ⟨noise (by simp), noise (by simp)⟩
  rintro ⟨p, hp, i, hi, same⟩
  exact Field.key_clearOf hg hj (List.mem_append_left _ hp) hi same

theorem putIn (h : s.Within (.elements fs) t) {f : Field} {v i b : Nat} (hf : (f, b) ∈ fs) (hi : i < b) :
    s.Within (.elements fs) (t.put f v i) := h.put ⟨_, hf, i, hi, rfl⟩

theorem listed (h : s.Within (.elements fs) t) (q : Fifo) (l : List Nat) (i : Nat) : s.Within (.elements fs) (t.setList q l i) :=
  h.setList trivial

end State.Within

/-! Domains of the design (R55, R569). -/

/-- What domains that are held and released write. -/
def followFields : List (Field × Nat) :=
  [(DOM_RESET, 16), (REL_LEFT, 1), (XP_STAT.LEVEL, 256), (XP_STAT.STATE, 256), (XP_DISC, 256), (XP_SIDE, 256),
    (FB_MACP_LO.P, 3072), (FB_MACP_HI.P, 3072), (MAC_PCOUT, 3072), (FB_MACSTAT.PCOUT_FULL, 3072)]

section Domains

variable {s t : State} {fs : List (Field × Nat)} (h : s.Within (.elements fs) t) (hf : followFields ⊆ fs)
include h hf

theorem State.Within.assertDomain {d : Nat} (hd : d < 16) : s.Within (.elements fs) (t.assertDomain d) := by
  have put {u : State} {f : Field} {v i b : Nat} (hm : (f, b) ∈ followFields) (hi : i < b)
      (hu : s.Within (.elements fs) u) : s.Within (.elements fs) (u.put f v i) := hu.putIn (hf hm) hi
  have inner {u v : State} {f : Field} {w i b : Nat} (hm : (f, b) ∈ followFields) (hi : i < b)
      (hu : v.Within (.elements fs) u) : v.Within (.elements fs) (u.put f w i) := hu.putIn (hf hm) hi
  have held : s.Within (.elements fs) ((t.put DOM_RESET 1 d).andBit REL_LEFT d) :=
    put (by simp [followFields]) Nat.one_pos (put (by simp [followFields]) hd h)
  refine State.Within.foldl (held.foldl fun u x hx => ?_) fun u n hn => ?_
  · have bound := List.mem_range.mp hx
    refine .ite (State.Within.listed ?_ _ _ _) .refl
    exact inner (by simp [followFields]) bound (inner (by simp [followFields]) bound (inner (by simp [followFields]) bound
      (inner (by simp [followFields]) bound (State.Within.refl.listed _ _ _))))
  · have bound := List.mem_range.mp hn
    exact .ite (inner (by simp [followFields]) bound (inner (by simp [followFields]) bound (inner (by simp [followFields])
      bound (inner (by simp [followFields]) bound .refl)))) .refl

theorem State.Within.domainsFollow : s.Within (.elements fs) t.domainsFollow := by
  have left : REL_LEFT.key 0 ∈ elementsOf fs := ⟨_, hf (by simp [followFields] : (REL_LEFT, 1) ∈ followFields), 0, Nat.one_pos,
    rfl⟩
  have held : s.Within (.elements fs) ((List.range 16).foldl (fun u d =>
      if u.domainWanted d && (!u.flag DOM_RESET d || bit (u.get REL_LEFT) d) then u.assertDomain d else u) t) :=
    h.foldl fun u d hd => .ite (State.Within.refl.assertDomain hf (List.mem_range.mp hd)) .refl
  have freed {u : State} (hu : s.Within (.elements fs) u) : s.Within (.elements fs) ((List.range 16).foldl (fun u d =>
      if !u.domainWanted d && u.flag DOM_RESET d then u.orBit REL_LEFT d else u) u) :=
    hu.foldl fun u d _ => .ite (.orBit .refl left) .refl
  refine .ite h (.ite (State.Within.releaseNext (freed held) left fun c hc => ?_) (freed held))
  obtain ⟨d, hd, hc⟩ := List.mem_flatMap.mp hc
  obtain ⟨f, hf', rfl⟩ := List.mem_map.mp hc
  cases List.mem_singleton.mp hf'
  exact ⟨_, hf (by simp [followFields] : (DOM_RESET, 16) ∈ followFields), d, List.mem_range.mp hd, rfl⟩

end Domains

/-! Roles, synchronisation and the journal (R551, R562 to R568). -/

/-- What a change of role writes. -/
def roleFields : List (Field × Nat) := [(MI_STAT.ROLE, 1), (MI_IRQ.ROLE, 1)] ++ followFields

/-- What the journal of a pair writes. -/
def journalFields : List (Field × Nat) :=
  [(MI_JLEVEL.WORDS, 1), (JOPEN, 1), (MI_STAT.SYNC, 1), (MI_IRQ.SYNC, 1), (MI_IRQ.JFULL, 1), (MI_CPOS, 1), (MI_CSUB, 1),
    (MI_COPYING, 1), (MI_CEND, 1), (MI_EPOCH.EPOCH, 1), (MI_NEXTEP, 1), (MI_SENT, 1), (MI_SEQ, 1)]

namespace State.Within

variable {s t : State} {fs : List (Field × Nat)} (h : s.Within (.elements fs) t)
include h

theorem putAt {f : Field} {v : Nat} {gs : List (Field × Nat)} (hg : gs ⊆ fs) (hf : (f, 1) ∈ gs) :
    s.Within (.elements fs) (t.put f v) := h.putIn (hg hf) Nat.one_pos

theorem setSync (hf : journalFields ⊆ fs) (v : Nat) : s.Within (.elements fs) (t.setSync v) :=
  .ite h (.putAt (.raise (h.putAt hf (by simp [journalFields])) trivial) hf (by simp [journalFields]))

theorem setRole (hf : roleFields ⊆ fs) (r : Nat) : s.Within (.elements fs) (t.setRole r) :=
  .ite h (.domainsFollow (.putAt (.raise (h.putAt hf (by simp [roleFields])) trivial) hf (by simp [roleFields]))
    (List.Subset.trans (List.subset_append_right _ _) hf))

theorem dropJournal (hf : journalFields ⊆ fs) : s.Within (.elements fs) t.dropJournal :=
  .putAt (.putAt (h.listed _ _ _) hf (by simp [journalFields])) hf (by simp [journalFields])

theorem pairForget (hf : journalFields ⊆ fs) : s.Within (.elements fs) t.pairForget :=
  .putAt (.listed (.listed (h.dropJournal hf) _ _ _) _ _ _) hf (by simp [journalFields])

theorem journalWords (hf : journalFields ⊆ fs) (ws : List Nat) : s.Within (.elements fs) (t.journalWords ws) :=
  .ite (.putAt (.raise (.setSync (h.dropJournal hf) hf 3) trivial) hf (by simp [journalFields]))
    (.putAt (.putAt (h.listed _ _ _) hf (by simp [journalFields])) hf (by simp [journalFields]))

theorem mirrored (hq : (MI_SEQ, 1) ∈ fs) (kind : Nat) (ws : List Nat) : s.Within (.elements fs) (t.mirSend kind ws) :=
  h.mirSend kind ws ⟨_, hq, 0, Nat.one_pos, rfl⟩ fun _ => trivial

theorem journalOut (hs : (MI_SENT, 1) ∈ fs) (hq : (MI_SEQ, 1) ∈ fs) : s.Within (.elements fs) t.journalOut := by
  have sent (f : Nat) (u : State) (hu : s.Within (.elements fs) u) : s.Within (.elements fs) (journalSend f u) := by
    induction f generalizing u with
    | zero => exact hu
    | succ f ih => exact .ite hu (ih _ (.putIn (hu.mirrored hq 0 _) hs Nat.one_pos))
  exact sent _ _ h

/-- Records of a copy pass (R567). -/
theorem copyRecord (hf : journalFields ⊆ fs) {peek : State → Nat → Nat} {ws : List Nat} {u : State}
    (record : t.copyRecord peek = some (ws, u)) : s.Within (.elements fs) u := by
  have next (v : Nat) : s.Within (.elements fs) (t.put MI_CPOS v) := h.putAt hf (by simp [journalFields])
  unfold State.copyRecord at record
  dsimp only at record
  split at record
  · cases record
  · split at record
    · cases record
      exact next _
    · cases record
      exact next _
    · split at record
      · cases record
        exact h.putAt hf (by simp [journalFields])
      · cases record
        exact (next _).putAt hf (by simp [journalFields])

theorem copyLoop (hf : journalFields ⊆ fs) (peek : State → Nat → Nat) (f : Nat) :
    s.Within (.elements fs) (copyLoop peek f t) := by
  induction f generalizing t with
  | zero => exact h
  | succ f ih =>
    unfold Machine.copyLoop
    refine .ite h ?_
    split
    · exact (h.putAt hf (by simp [journalFields])).putAt hf (by simp [journalFields])
    next ws u record =>
      exact .ite h (ih (.journalWords (h.copyRecord hf record) hf ws))

theorem epochClose (hf : journalFields ⊆ fs) (peek : State → Nat → Nat) : s.Within (.elements fs) (t.epochClose peek) := by
  unfold State.epochClose
  lift_lets
  extract_lets copied listed cleared e n head body crc ended queued
  have h₁ : s.Within (.elements fs) copied := h.copyLoop hf peek _
  have h₂ : s.Within (.elements fs) cleared := .listed (h₁.foldl fun _ _ _ => .journalWords .refl hf _) _ _ _
  have h₃ : s.Within (.elements fs) ended := h₂.journalWords hf _
  refine .ite h (.ite h₂ (.ite h₃ (.journalOut ?_ (hf (by simp [journalFields]))
    (hf (by simp [journalFields])))))
  exact .putAt (.putAt (.putAt (h₃.listed _ _ _) hf (by simp [journalFields])) hf (by simp [journalFields])) hf
    (by simp [journalFields])

end State.Within

/-! What one register reads as afterwards. -/

section Single

variable {s : State} {g : Field} {r v : Nat}

theorem State.domainsFollow_get (hg : g.clearOf 1 followFields = true) : s.domainsFollow.get g = s.get g :=
  (State.Within.domainsFollow .refl (List.Subset.refl _)).get_elements hg Nat.one_pos

theorem State.setSync_get (hg : g.clearOf 1 [(MI_STAT.SYNC, 1), (MI_IRQ.SYNC, 1)] = true) :
    (s.setSync v).get g = s.get g := by
  refine State.Within.get_elements (.ite .refl (.putIn (.raise (.putIn .refl (b := 1) ?_ ?_) trivial) (b := 1) ?_ ?_)) hg
    Nat.one_pos <;> simp

theorem State.setSync_sync (hv : v < 8) : (s.setSync v).get MI_STAT.SYNC = v := by
  unfold State.setSync
  split
  · assumption
  · simp +decide [State.get_put_ne, State.raise_get, State.get_put_self]
    exact Nat.mod_eq_of_lt hv

theorem State.setRole_get (hg : g.clearOf 1 roleFields = true) : (s.setRole r).get g = s.get g :=
  (State.Within.setRole .refl (List.Subset.refl _) r).get_elements hg Nat.one_pos

theorem State.setRole_role (hr : r < 4) : (s.setRole r).get MI_STAT.ROLE = r := by
  unfold State.setRole
  split
  · assumption
  · dsimp only
    rw [State.domainsFollow_get (by decide)]
    simp +decide [State.get_put_ne, State.raise_get, State.get_put_self]
    exact Nat.mod_eq_of_lt hr

theorem State.pairForget_get (hg : g.clearOf 1 [(MI_JLEVEL.WORDS, 1), (JOPEN, 1), (MI_SENT, 1)] = true) :
    s.pairForget.get g = s.get g := by
  refine State.Within.get_elements (.putIn (.listed (.listed (.putIn (.putIn (.listed .refl _ _ _) (b := 1) ?_ ?_) (b := 1)
    ?_ ?_) _ _ _) _ _ _) (b := 1) ?_ ?_) hg Nat.one_pos <;> simp

theorem State.epochClose_get {peek : State → Nat → Nat} (hg : g.clearOf 1 journalFields = true) :
    (s.epochClose peek).get g = s.get g :=
  (State.Within.epochClose .refl (List.Subset.refl _) peek).get_elements hg Nat.one_pos

theorem State.journalOut_get (hg : g.clearOf 1 [(MI_SENT, 1), (MI_SEQ, 1)] = true) : s.journalOut.get g = s.get g :=
  (State.Within.refl.journalOut (by simp) (by simp)).get_elements hg Nat.one_pos

theorem State.mirSend_get {kind : Nat} {ws : List Nat} (hg : g.clearOf 1 [(MI_SEQ, 1)] = true) :
    (s.mirSend kind ws).get g = s.get g := (State.Within.refl.mirrored (by simp) kind ws).get_elements hg Nat.one_pos

end Single

/-- What the end of a PRIMARY's role writes (R582). -/
theorem State.demote_shows (s : State) : s.demote.get MI_STAT.ROLE = rSECONDARY ∧ s.demote.get MI_STAT.SYNC = 3 := by
  unfold State.demote
  simp +decide only [State.raise_get]
  rw [State.setSync_get (by decide), State.setRole_role (by decide), State.setSync_sync (by decide)]
  exact ⟨rfl, rfl⟩

section Close

variable {s : State} (hr : s.get MI_STAT.ROLE ≠ 1)
include hr

/-- Outside PRIMARY nothing is journaled (R557). -/
theorem State.journaling_off : s.journaling = false := by simp [State.journaling, hr]

theorem State.putSlot_get {x v word : Nat} {header : Bool} (g : Field) (j : Nat) :
    (s.putSlot x v word header).get g j = s.get g j := by
  unfold State.putSlot State.journalSlot
  dsimp only
  rw [State.journaling_off (by rwa [State.store_get])]
  exact State.store_get ..

theorem State.closePacket_get {x word n j : Nat} {g : Field} (hx : x < 2048)
    (hg : g.clearOf n [(LANE_OPEN, 2048), (LANE_N, 2048)] = true) (hj : j < n) :
    (s.closePacket x word).get g j = s.get g j := by
  have slot (f : Field) (i : Nat) := s.putSlot_get hr (x := x) (v := s.get LANE_HDR x) (word := word) (header := true) f i
  have away : ((((s.putSlot x (s.get LANE_HDR x) word true).put LANE_OPEN 0 x).put LANE_N 0 x)).journaling = false :=
    State.journaling_off (by
      rw [State.get_put_ne _ _ (Field.key_lt Nat.one_pos (by decide)).ne, State.get_put_ne _ _
        (Field.key_lt Nat.one_pos (by decide)).ne, slot]
      exact hr)
  unfold State.closePacket State.touchLane
  simp only [away, Bool.false_and, Bool.false_eq_true, if_false]
  rw [State.get_put_ne _ _ (Field.key_clearOf hg hj (p := (LANE_N, 2048)) (by simp) hx),
    State.get_put_ne _ _ (Field.key_clearOf hg hj (p := (LANE_OPEN, 2048)) (by simp) hx), slot]

/-- A device that journals nothing closes its lanes without a record (R557, R577). -/
theorem State.closeLanes_get {n j : Nat} {g : Field} (hg : g.clearOf n [(LANE_OPEN, 2048), (LANE_N, 2048)] = true)
    (hj : j < n) : s.closeLanes.get g j = s.get g j := by
  refine (List.foldlRecOn (motive := fun u : State => u.get MI_STAT.ROLE = s.get MI_STAT.ROLE ∧ u.get g j = s.get g j) _ _
    ⟨rfl, rfl⟩ fun u hu x hx => ?_).2
  obtain ⟨role, same⟩ := hu
  have bound := List.mem_range.mp hx
  have away : u.get MI_STAT.ROLE ≠ 1 := by rwa [role]
  split
  · rw [State.closePacket_get away bound (by decide) Nat.one_pos, State.closePacket_get away bound hg hj]
    exact ⟨role, same⟩
  · exact ⟨role, same⟩

end Close

/-- A SECONDARY that has taken over, before its SYNC is judged (R577). -/
def State.promoted (s : State) : State :=
  let s := ((s.pairForget.put MI_WANT 0).put MI_STAT.TERM (s.get MI_STAT.TERM + 1)).closeLanes
  (s.setRole rPRIMARY).raise Rc.MI_PROMOTED (s.get MI_STAT.PEER_ADDR) (s.get MI_STAT.TERM)

theorem State.promote_eq (s : State) (planned : Bool) :
    s.promote planned = if planned then s.promoted else s.promoted.setSync 4 := rfl

section Promote

variable {s : State} (hr : s.get MI_STAT.ROLE = rSECONDARY)
include hr

theorem State.promoted_get {g : Field} (hr' : g.clearOf 1 roleFields = true)
    (hl : g.clearOf 1 [(LANE_OPEN, 2048), (LANE_N, 2048)] = true) :
    s.promoted.get g = ((s.pairForget.put MI_WANT 0).put MI_STAT.TERM (s.get MI_STAT.TERM + 1)).get g := by
  have role : ((s.pairForget.put MI_WANT 0).put MI_STAT.TERM (s.get MI_STAT.TERM + 1)).get MI_STAT.ROLE ≠ 1 := by
    rw [State.get_put_ne _ _ (by decide), State.get_put_ne _ _ (by decide), State.pairForget_get (by decide), hr]
    decide
  have logged {f : Field} (hf : (f, 1) ∈ [(MSI_PEND, 1), (EV_DROP.COUNT, 1), (DROP_EPISODE, 1)]) : g.key 0 ≠ f.key 0 :=
    Field.key_clearOf hr' Nat.one_pos (List.mem_append_right _ hf) Nat.one_pos
  unfold State.promoted
  rw [State.raise_get _ _ _ _ (logged (by simp)) (logged (by simp)), State.setRole_get hr',
    State.closeLanes_get role hl Nat.one_pos]

/-- A SECONDARY that takes over is PRIMARY, in the next term (R577). -/
theorem State.promote_shows (planned : Bool) : (s.promote planned).get MI_STAT.ROLE = rPRIMARY ∧
    (s.promote planned).get MI_STAT.TERM = (s.get MI_STAT.TERM + 1) % 2 ^ 16 ∧
    (s.promote planned).get MI_STAT.SYNC = if planned then s.get MI_STAT.SYNC else 4 := by
  have role : s.promoted.get MI_STAT.ROLE = rPRIMARY := by
    unfold State.promoted
    rw [State.raise_get _ _ _ _ (by decide) (by decide), State.setRole_role (by decide)]
  have term : s.promoted.get MI_STAT.TERM = (s.get MI_STAT.TERM + 1) % 2 ^ 16 :=
    (State.promoted_get hr (by decide) (by decide)).trans (State.get_put_self ..)
  have sync : s.promoted.get MI_STAT.SYNC = s.get MI_STAT.SYNC := by
    rw [State.promoted_get hr (by decide) (by decide), State.get_put_ne _ _ (by decide), State.get_put_ne _ _ (by decide),
      State.pairForget_get (by decide)]
  rw [State.promote_eq]
  cases planned with
  | true =>
    rw [if_pos rfl, if_pos rfl]
    exact ⟨role, term, sync⟩
  | false =>
    rw [if_neg (by decide), if_neg (by decide)]
    exact ⟨(State.setSync_get (by decide)).trans role, (State.setSync_get (by decide)).trans term,
      State.setSync_sync (by decide)⟩

end Promote

end Sys2Proof.Machine
end

section
/-! O37: a mirrored pair is enabled, keeps its heartbeats and epochs, moves and ends (R552 to R581). -/

namespace Sys2Proof.Machine

section Clauses

variable {s t u : State} {m : Master} {w : Word}

/-! Enabling (Table MI-1). -/

/-- What a refusal of the pair's checks can be. -/
theorem State.pairCheck_block {r : Rc × Nat} (h : u.pairCheck = some r) : r.1.block = 0x0C := by
  unfold State.pairCheck at h
  dsimp only at h
  repeat' split at h
  all_goals cases h
  all_goals dsimp only
  all_goals rfl

/-- A refusal of the mirrored pair leaves its code in MI_REFUSE (R792). -/
theorem State.refuse_mirror {c : Rc} {obj off : Nat} (hc : c.block = 0x0C) :
    (u.refuse c obj m off).get MI_REFUSE.CODE = c.num % 2 ^ 16 := by
  rw [State.refuse, State.refuseBy, hc]
  simp +decide [State.raise_get, State.get_put_ne, State.get_put_self, refuseCode, refuseObj]
  rfl

section Enable

variable (hw : WritesAlways m 0x28000 s) (hn : s.get MI_CFG.EN = 0) (hb : bit w.toNat 0 = true)
  (hu : u = (s.writeReg m MI_CFG.reg 0 w.toNat).put MI_CFG.EN 0)
include hw hn hb hu

theorem miEnable_takes (hc : u.pairCheck = none) : Answers (.miEnable m w) s fun t =>
    t.get MI_CFG.EN = 1 ∧ t.get MI_STAT.TERM = 0 ∧ t.get MI_HASH.HASH = u.declHash % 2 ^ 32 := by
  refine answers_writeAlways_delivers (exec_miEnable m w s) hw fun t ht => ?_
  simp only [wrMiCfg, State.flag, hn, Nat.zero_ne_one, decide_false, Bool.false_eq_true, if_false, hb, Bool.not_true,
    ← hu, hc] at ht
  rw [ht.get (by decide), ht.get (by decide), ht.get (by decide), State.domainsFollow_get (by decide),
    State.domainsFollow_get (by decide), State.domainsFollow_get (by decide)]
  simp +decide [State.get_put_ne, State.get_put_self]
  rfl

theorem miEnable_refused {r : Rc × Nat} (hc : u.pairCheck = some r) : Answers (.miEnable m w) s fun t =>
    t.get MI_CFG.EN = 0 ∧ t.get MI_REFUSE.CODE = r.1.num % 2 ^ 16 ∧ t.get GH_REFUSE.CODE = r.1.num % 2 ^ 16 := by
  refine answers_writeAlways_delivers (exec_miEnable m w s) hw fun t ht => ?_
  simp only [wrMiCfg, State.flag, hn, Nat.zero_ne_one, decide_false, Bool.false_eq_true, if_false, hb, Bool.not_true,
    ← hu, hc] at ht
  rw [ht.get (by decide), ht.get (by decide), ht.get (by decide), State.refuse_get_nat (by decide), State.refuse_code,
    State.refuse_mirror (State.pairCheck_block hc), hu, State.get_put_self]
  exact ⟨rfl, rfl, rfl⟩

end Enable

/-! Heartbeats (R553, R566, R572). -/

theorem heartbeatTimer_sends (ha : Awake s) (he : s.get MI_CFG.EN = 1) (hm : s.mode = mHOLD ∨ s.mode = mRUN)
    (hw : s.get MI_CFG.WIT_MODE = 0) : exec .heartbeatTimer s = run s (s.mirSend 1
      [s.get MI_STAT.ROLE + 4 * s.get MI_CFG.ROLE_REQ + 16 * s.get MI_STAT.SYNC + 2 ^ 16 * s.get MI_STAT.TERM +
          2 ^ 32 * s.get MI_EPOCH.EPOCH,
        s.get MI_HASH.HASH + 2 ^ 32 * s.get MI_WIT.PAIR_ID]) := by
  rw [exec_live (exec_heartbeatTimer s) ha]
  dsimp only
  rw [if_neg (by rcases hm with hm | hm <;> simp [State.flag, he, hm]), if_pos]
  rw [State.mirSend_get (by decide), hw]
  decide

/-- What a heartbeat shows of the peer (R553, R566). -/
def State.heard (t : State) (p : Nat) : State :=
  let n := t.mirrorPort.getD 0
  let t := ((t.put MI_SEEN 1).put MI_MISS 0).put MI_PHASH.PHASH (bits (pkWord p 1) 0 32)
  let t := ((t.put MI_PEERID_LO.ID (t.get HX_PNBR_LO.ID n)).put MI_PEERID_HI.ID (t.get HX_PNBR_HI.ID n)).put
    MI_STAT.PEER_ADDR (pkSrc p)
  t.put MI_STAT.PEER 1

/-- What a heartbeat may write beyond that. -/
def heartFields : List (Field × Nat) :=
  roleFields ++ journalFields ++ [(MI_MISM, 1), (MI_IRQ.MISMATCH, 1), (MI_WANT, 1), (MI_HANDING, 1), (MI_STAT.TERM, 1),
    (MI_IRQ.SPLIT, 1), (MI_CHEARD, 1), (MI_EPACK.ACKED, 1)]

theorem roleFields_heart : roleFields ⊆ heartFields := fun _ h => List.mem_append_left _ (List.mem_append_left _ h)

theorem journalFields_heart : journalFields ⊆ heartFields := fun _ h => List.mem_append_left _ (List.mem_append_right _ h)

theorem State.Within.pairPut (h : s.Within (.elements heartFields) t) {f : Field} {v : Nat}
    (hf : (f, 1) ∈ [(MI_MISM, 1), (MI_IRQ.MISMATCH, 1), (MI_WANT, 1), (MI_HANDING, 1), (MI_STAT.TERM, 1),
      (MI_IRQ.SPLIT, 1), (MI_CHEARD, 1), (MI_EPACK.ACKED, 1)]) : s.Within (.elements heartFields) (t.put f v) :=
  h.putIn (List.mem_append_right _ hf) Nat.one_pos

/-- What a copy pass that starts writes (R567). -/
theorem State.Within.copyStart (h : s.Within (.elements heartFields) t) : s.Within (.elements heartFields) t.copyStart := by
  have put {u : State} {f : Field} {v : Nat} (hm : (f, 1) ∈ journalFields) (hu : s.Within (.elements heartFields) u) :
      s.Within (.elements heartFields) (u.put f v) := hu.putAt journalFields_heart hm
  exact .setSync (.pairPut (put (by simp [journalFields]) (put (by simp [journalFields]) (put (by simp [journalFields])
    (.pairPut (put (by simp [journalFields]) (put (by simp [journalFields]) (h.pairForget journalFields_heart))) (by simp)))))
    (by simp)) journalFields_heart 1

theorem State.Within.demote (h : s.Within (.elements heartFields) t) : s.Within (.elements heartFields) t.demote :=
  .raise (.setSync (.setRole (.pairPut (.putAt (.pairPut (h.pairForget journalFields_heart) (by simp)) journalFields_heart
    (by simp [journalFields])) (by simp)) roleFields_heart _) journalFields_heart _) trivial

section Heartbeat

variable (ha : Awake s) {p : Nat} (hh : s.mirHead 1 = some (p, t)) (he : t.get MI_CFG.EN = 1)
include ha hh he

theorem heartbeat_shows : Answers .heartbeat s fun v =>
    v.get MI_STAT.PEER = 1 ∧ v.get MI_MISS = 0 ∧ v.get MI_PHASH.PHASH = bits (pkWord p 1) 0 32 := by
  refine answers_live_delivers (exec_heartbeat s) ha fun v hv => ?_
  simp -zeta only [hh, State.flag, he, decide_true, Bool.not_true, Bool.false_eq_true, if_false] at hv
  obtain ⟨x, hx, hv⟩ : ∃ x, (t.heard p).Within (.elements heartFields) x ∧ x.Delivers v := by
    refine ⟨_, ?_, hv⟩
    lift_lets
    extract_lets w0 w1 n role sync term seen named shown badId badHash mism fresh wanted mine handed split own keep st
      copied degraded followed st' theirs req conflict first
    have same : t.heard p = shown := rfl
    rw [same]
    clear_value shown w0 role sync term own keep st' theirs
    have h₁ : shown.Within (.elements heartFields) mism := .pairPut (.pairPut .refl (by simp)) (by simp)
    have h₂ : shown.Within (.elements heartFields) fresh := .pairPut .refl (by simp)
    have h₃ : shown.Within (.elements heartFields) wanted := .ite (h₂.pairPut (by simp)) h₂
    have h₄ : shown.Within (.elements heartFields) handed :=
      ((h₃.pairForget journalFields_heart).pairPut (by simp)).pairPut (by simp)
    have h₅ : shown.Within (.elements heartFields) split := .pairPut (h₃.raise trivial) (by simp)
    have h₆ : shown.Within (.elements heartFields) degraded :=
      have h : shown.Within (.elements heartFields) copied := .ite (h₃.pairPut (by simp)) h₃
      .ite (.setSync (h.pairForget journalFields_heart) journalFields_heart _) h
    have h₇ : shown.Within (.elements heartFields) followed := .pairPut (h₃.setRole roleFields_heart _) (by simp)
    have h₈ : shown.Within (.elements heartFields) conflict := .ite (h₃.raise trivial) h₃
    have restarted : shown.Within (.elements heartFields) degraded.autoResync := .ite h₆.copyStart h₆
    have taken : shown.Within (.elements heartFields) (conflict.takePrimary 1) :=
      .ite (h₈.pairPut (by simp)) (.setRole (h₈.pairPut (by simp)) roleFields_heart _)
    have forgot : shown.Within (.elements heartFields) (followed.pairForget.setSync 3) :=
      .setSync (h₇.pairForget journalFields_heart) journalFields_heart 3
    have begun : shown.Within (.elements heartFields) ((followed.pairForget.put MI_NEXTEP 0).setSync 1) :=
      .setSync (.putAt (h₇.pairForget journalFields_heart) journalFields_heart (by simp [journalFields]))
        journalFields_heart 1
    refine .ite (.ite h₁ (h₁.raise trivial)) (.ite (.ite ?_ (.ite h₅ h₅.demote)) (.ite (.ite h₃ (.ite h₃.copyStart
      restarted)) (.ite (.ite begun (.ite (h₇.setSync journalFields_heart 2) (.ite forgot h₇))) (.ite (.ite taken h₈)
      (h₈.setRole roleFields_heart _)))))
    exact .setSync (.setRole (h₄.putAt journalFields_heart (by simp [journalFields])) roleFields_heart _)
      journalFields_heart 2
  rw [hv.get (by decide), hv.get (by decide), hv.get (by decide), hx.get_elements (by decide) Nat.one_pos,
    hx.get_elements (by decide) Nat.one_pos, hx.get_elements (by decide) Nat.one_pos]
  simp +decide [State.heard, State.get_put_ne, State.get_put_self, bits]
  rfl

/-- A declaration that disagrees is shown, and the pair stays as it is (R553). -/
theorem heartbeat_mismatch (hd : bits (pkWord p 1) 0 32 ≠ t.get MI_HASH.HASH) : Answers .heartbeat s fun v =>
    v.get MI_IRQ.MISMATCH = 1 ∧ v.get MI_STAT.ROLE = t.get MI_STAT.ROLE ∧ v.get MI_STAT.SYNC = t.get MI_STAT.SYNC := by
  refine answers_live_delivers (exec_heartbeat s) ha fun v hv => ?_
  simp -zeta only [hh, State.flag, he, decide_true, Bool.not_true, Bool.false_eq_true, if_false] at hv
  extract_lets w0 w1 n role sync term seen named shown badId badHash mism at hv
  have kept {g : Field} (hg : (g.clearOf 1 [(MI_SEEN, 1), (MI_MISS, 1), (MI_PHASH.PHASH, 1), (MI_PEERID_LO.ID, 1),
      (MI_PEERID_HI.ID, 1), (MI_STAT.PEER_ADDR, 1), (MI_STAT.PEER, 1)]) = true) : shown.get g = t.get g := by
    refine State.Within.get_elements (.putIn (.putIn (.putIn (.putIn (.putIn (.putIn (.putIn .refl (b := 1) ?_ ?_) (b := 1)
      ?_ ?_) (b := 1) ?_ ?_) (b := 1) ?_ ?_) (b := 1) ?_ ?_) (b := 1) ?_ ?_) (b := 1) ?_ ?_) hg Nat.one_pos <;> simp
  have differs : badHash := by
    change bits w1 0 32 ≠ shown.get MI_HASH.HASH
    rwa [kept (by decide)]
  rw [if_pos (by simp [differs])] at hv
  obtain ⟨x, hx, hv⟩ : ∃ x, mism.Within (.elements []) x ∧ x.Delivers v := ⟨_, .ite .refl (.raise .refl trivial), hv⟩
  rw [hv.get (by decide), hv.get (by decide), hv.get (by decide), hx.get_elements (by decide) Nat.one_pos,
    hx.get_elements (by decide) Nat.one_pos, hx.get_elements (by decide) Nat.one_pos]
  simp +decide [mism, State.get_put_ne, State.get_put_self]
  exact ⟨kept (by decide), kept (by decide)⟩

end Heartbeat

/-! The peer's loss and the first PRIMARY (R554, R572 to R574). -/

/-- A device that needs no lease, or has it, takes over at once (R573). -/
theorem State.takePrimary_over (h : ¬(decide (s.get MI_CFG.WIT_MODE = 1) && !s.flag MI_STAT.LEASE) = true) :
    s.takePrimary 2 = (s.put MI_WANT 0).promote false := by
  rw [State.takePrimary, if_neg h]
  split
  · rfl
  · contradiction
  · contradiction

theorem pairTExpiry_promotes (ha : Awake s) (he : s.get MI_CFG.EN = 1) (hs : s.get MI_SEEN = 0)
    (hr : s.get MI_STAT.ROLE = rSTANDALONE) (hq : s.get MI_CFG.ROLE_REQ ≠ 2) (hw : s.get MI_WANT = 0)
    (hl : s.get MI_CFG.WIT_MODE = 0 ∨ s.get MI_STAT.LEASE = 1) : Answers .pairTExpiry s fun t =>
      t.get MI_STAT.ROLE = rPRIMARY ∧ t.get MI_STAT.SYNC = 4 := by
  refine answers_live_delivers (exec_pairTExpiry s) ha fun t ht => ?_
  rw [if_pos (by simp +decide [State.flag, he, hs, hr, hq, hw]), State.takePrimary,
    if_neg (by rcases hl with hl | hl <;> simp [State.flag, hl])] at ht
  change (((s.put MI_WANT 0).setRole rPRIMARY).setSync 4).Delivers t at ht
  rw [ht.get (by decide), ht.get (by decide), State.setSync_get (by decide), State.setRole_role (by decide),
    State.setSync_sync (by decide)]
  exact ⟨rfl, rfl⟩

section Miss

variable (ha : Awake s) (he : s.get MI_CFG.EN = 1) (hp : s.get MI_STAT.PEER = 1)
include ha he hp

theorem heartbeatMiss_counts (hk : s.get MI_MISS + 1 < s.get MI_TIME.HB_MISS) : Answers .heartbeatMiss s fun t =>
    t.get MI_MISS = (s.get MI_MISS + 1) % 2 ^ MI_MISS.width ∧ t.get MI_STAT.PEER = 1 := by
  refine answers_live_delivers (exec_heartbeatMiss s) ha fun t ht => ?_
  rw [if_neg (by simp [State.flag, he, hp]), if_pos (by simpa +decide [State.get_put_ne] using hk)] at ht
  rw [ht.get (by decide), ht.get (by decide)]
  simp +decide [State.get_put_ne, State.get_put_self, hp]

/-- The peer is lost (R572). -/
def State.peerLost (s : State) : State :=
  let s := s.put MI_MISS (s.get MI_MISS + 1)
  ((s.put MI_STAT.PEER 0).raise Rc.MI_PEER_LOST (s.get MI_STAT.PEER_ADDR)).put MI_IRQ.PEER 1

omit ha he hp in
theorem State.peerLost_get {g : Field} (hg : g.clearOf 1 [(MI_MISS, 1), (MI_STAT.PEER, 1), (MI_IRQ.PEER, 1)] = true) :
    s.peerLost.get g = s.get g := by
  refine State.Within.get_elements (.putIn (.raise (.putIn (.putIn .refl (b := 1) ?_ ?_) (b := 1) ?_ ?_) trivial)
    (b := 1) ?_ ?_) hg Nat.one_pos <;> simp

variable (hk : s.get MI_TIME.HB_MISS ≤ s.get MI_MISS + 1)
include hk

theorem exec_heartbeatMiss_lost : exec .heartbeatMiss s = run s (
    if s.get MI_STAT.ROLE = rSECONDARY then
      if s.get MI_STAT.SYNC = 2 then s.peerLost.takePrimary 2 else s.peerLost.setSync 4
    else if s.get MI_STAT.ROLE = rPRIMARY then
      (((s.peerLost.pairForget.put MI_HANDING 0).put MI_COPYING 0).setSync 4).domainsFollow
    else s.peerLost) := by
  rw [exec_live (exec_heartbeatMiss s) ha, ← s.peerLost_get (g := MI_STAT.ROLE) (by decide),
    ← s.peerLost_get (g := MI_STAT.SYNC) (by decide), if_neg (by simp [State.flag, he, hp])]
  dsimp only
  rw [if_neg (by simpa +decide [State.get_put_ne] using hk)]
  rfl

theorem heartbeatMiss_primary (hr : s.get MI_STAT.ROLE = rPRIMARY) : Answers .heartbeatMiss s fun t =>
    t.get MI_STAT.PEER = 0 ∧ t.get MI_IRQ.PEER = 1 ∧ t.get MI_STAT.ROLE = rPRIMARY ∧ t.get MI_STAT.SYNC = 4 := by
  refine answers_run (exec_heartbeatMiss_lost ha he hp hk) fun t ht => ?_
  rw [if_neg (by rw [hr]; decide), if_pos hr] at ht
  have kept {g : Field} (hg : g.clearOf 1 (journalFields ++ followFields ++ [(MI_HANDING, 1)]) = true) :
      t.get g = s.peerLost.get g := by
    have ended : s.peerLost.Within (.elements (journalFields ++ followFields ++ [(MI_HANDING, 1)]))
        (((s.peerLost.pairForget.put MI_HANDING 0).put MI_COPYING 0).setSync 4).domainsFollow := by
      have journal : journalFields ⊆ journalFields ++ followFields ++ [(MI_HANDING, 1)] :=
        fun _ h => List.mem_append_left _ (List.mem_append_left _ h)
      exact .domainsFollow (.setSync (.putAt (.putIn (.pairForget .refl journal) (b := 1) (by simp) Nat.one_pos) journal
        (by simp [journalFields])) journal 4) fun _ h => List.mem_append_left _ (List.mem_append_right _ h)
    exact (ht.get (Field.key_clearOf hg Nat.one_pos (p := (MSI_PEND, 1)) (by simp) Nat.one_pos)).trans
      (ended.get_elements hg Nat.one_pos)
  have sync : t.get MI_STAT.SYNC = 4 := by
    rw [ht.get (by decide), State.domainsFollow_get (by decide), State.setSync_sync (by decide)]
  refine ⟨(kept (by decide)).trans ?_, (kept (by decide)).trans (State.get_put_self ..),
    (kept (by decide)).trans ((State.peerLost_get (by decide)).trans hr), sync⟩
  simp +decide [State.peerLost, State.get_put_ne, State.raise_get, State.get_put_self]

theorem heartbeatMiss_secondary (hr : s.get MI_STAT.ROLE = rSECONDARY) (hs : s.get MI_STAT.SYNC ≠ 2) :
    Answers .heartbeatMiss s fun t => t.get MI_STAT.PEER = 0 ∧ t.get MI_IRQ.PEER = 1 ∧
      t.get MI_STAT.ROLE = rSECONDARY ∧ t.get MI_STAT.SYNC = 4 := by
  refine answers_run (exec_heartbeatMiss_lost ha he hp hk) fun t ht => ?_
  rw [if_pos hr, if_neg hs] at ht
  rw [ht.get (by decide), ht.get (by decide), ht.get (by decide), ht.get (by decide), State.setSync_get (by decide),
    State.setSync_get (by decide), State.setSync_get (by decide), State.setSync_sync (by decide),
    State.peerLost_get (g := MI_STAT.ROLE) (by decide)]
  simp +decide [State.peerLost, State.get_put_ne, State.raise_get, State.get_put_self, hr]

theorem heartbeatMiss_promotes (hr : s.get MI_STAT.ROLE = rSECONDARY) (hs : s.get MI_STAT.SYNC = 2)
    (hw : s.get MI_CFG.WIT_MODE = 0) : Answers .heartbeatMiss s fun t =>
      t.get MI_STAT.ROLE = rPRIMARY ∧ t.get MI_STAT.SYNC = 4 := by
  refine answers_run (exec_heartbeatMiss_lost ha he hp hk) fun t ht => ?_
  rw [if_pos hr, if_pos hs, State.takePrimary_over (by
    simp [State.peerLost_get (g := MI_CFG.WIT_MODE) (by decide), hw])] at ht
  have role : (s.peerLost.put MI_WANT 0).get MI_STAT.ROLE = rSECONDARY :=
    (State.get_put_ne _ _ (by decide)).trans ((State.peerLost_get (by decide)).trans hr)
  obtain ⟨primary, -, sync⟩ := State.promote_shows role false
  rw [if_neg (by decide)] at sync
  exact ⟨(ht.get (by decide)).trans primary, (ht.get (by decide)).trans sync⟩

end Miss

/-! Epochs (R560 to R562). -/

theorem copyLoop_idle {peek : State → Nat → Nat} {f : Nat} (hc : s.get MI_COPYING ≠ 1) : copyLoop peek f s = s := by
  cases f with
  | zero => rfl
  | succ f => rw [copyLoop, if_pos hc]

theorem State.mirSend_list {kind : Nat} {ws : List Nat} {q : Fifo} (hq : q.id ≠ HX_TX.id) :
    (s.mirSend kind ws).list q = s.list q := by
  unfold State.mirSend
  split
  · rfl
  next n found =>
    have bound : n < 8 := List.mem_range.mp (List.mem_of_find?_eq_some found)
    have sent (p : Nat) : (s.hxTx n p).list q = s.list q := by
      have cls : pkClass p < 2 ^ 4 := Nat.mod_lt _ (by decide)
      exact State.list_setList_ne _ _ (Fifo.key_ne _ _ hq (by decide) (by omega))
    extract_lets dest u
    split
    · rfl
    · exact sent _

theorem State.journalOut_list {q : Fifo} (hq : q.id ≠ HX_TX.id) : s.journalOut.list q = s.list q := by
  have sent (f : Nat) (u : State) : (journalSend f u).list q = u.list q := by
    induction f generalizing u with
    | zero => rfl
    | succ f ih =>
      unfold journalSend
      extract_lets ws
      split
      · rfl
      · rw [ih, State.put_list, State.mirSend_list hq]
  exact sent _ _

/-- Words that the journal area has room for (R562). -/
def State.journaled (s : State) (ws : List Nat) : State :=
  ((s.setList JOURNAL_WORDS (s.list JOURNAL_WORDS ++ ws)).put MI_JLEVEL.WORDS
    (s.get MI_JLEVEL.WORDS + ws.length)).put JOPEN (s.get JOPEN + ws.length)

theorem State.journalWords_fit {ws : List Nat} (h : s.get MI_JLEVEL.WORDS + ws.length ≤ 131072) :
    s.journalWords ws = s.journaled ws := if_neg (by omega)

theorem State.journaled_get {ws : List Nat} {g : Field} (hg : g.clearOf 1 [(MI_JLEVEL.WORDS, 1), (JOPEN, 1)] = true) :
    (s.journaled ws).get g = s.get g := by
  refine State.Within.get_elements (.putIn (.putIn (.listed .refl _ _ _) (b := 1) ?_ ?_) (b := 1) ?_ ?_) hg Nat.one_pos <;>
    simp

theorem State.journaled_journaling {ws : List Nat} : (s.journaled ws).journaling = s.journaling := by
  unfold State.journaling State.flag
  rw [State.journaled_get (by decide), State.journaled_get (by decide), State.journaled_get (by decide)]

theorem epochClose_closes (ha : Awake s) (hj : s.journaling = true) (hc : s.get MI_COPYING = 0)
    (hd : s.list DIRTY_LANES = []) (hr : s.get MI_JLEVEL.WORDS + 2 ≤ 131072) : Answers .epochClose s fun t =>
      t.get MI_EPOCH.EPOCH = s.get MI_NEXTEP % 2 ^ 32 ∧ t.get JOPEN = 0 ∧
      t.get MI_NEXTEP = (s.get MI_NEXTEP + 1) % 2 ^ MI_NEXTEP.width ∧
      t.list MI_EPOCHS = s.list MI_EPOCHS ++ [s.get MI_NEXTEP + 2 ^ 32 * (s.get JOPEN + 2)] := by
  refine answers_live_delivers (exec_epochClose s) ha fun t ht => ?_
  unfold State.epochClose at ht
  rw [copyLoop_idle (by rw [hc]; decide)] at ht
  dsimp only at ht
  simp only [hj, hd, List.foldl_nil, Bool.not_true, Bool.false_eq_true, if_false] at ht
  rw [if_neg (by rw [show (s.setList DIRTY_LANES []).journaling = true from hj]; decide),
    State.journalWords_fit (by exact hr), if_neg (by
      rw [State.journaled_journaling, show (s.setList DIRTY_LANES []).journaling = true from hj]; decide)] at ht
  rw [ht.get (by decide), ht.get (by decide), ht.get (by decide), ht.list, State.journalOut_get (by decide),
    State.journalOut_get (by decide), State.journalOut_get (by decide), State.journalOut_list (by decide)]
  refine ⟨?_, ?_, ?_, ?_⟩
  · rw [State.get_put_ne _ _ (by decide), State.get_put_self]
    rfl
  · simp +decide [State.get_put_ne, State.get_put_self]
  · rw [State.get_put_self]
    rfl
  · rw [State.put_list, State.put_list, State.put_list, State.enq, State.list_setList_self]
    unfold State.journaled
    rw [State.put_list, State.put_list, State.list_setList_ne _ _ (by decide), State.list_setList_ne _ _ (by decide)]
    rfl

/-! The end of an epoch (R562, R567). -/

theorem State.setSync_list {v i : Nat} {q : Fifo} : (s.setSync v).list q i = s.list q i := by
  unfold State.setSync
  split
  · rfl
  · rw [State.put_list, State.raise_list, State.put_list]

theorem epochAck_releases (ha : Awake s) {p : Nat} (hh : s.mirHead 2 = some (p, t)) (hj : t.journaling = true) :
    Answers .epochAck s fun v => v.get MI_EPACK.ACKED = bits (pkWord p 0) 0 32 ∧
      v.list MI_EPOCHS = (t.list MI_EPOCHS).filter (fun x => !(x % 2 ^ 32 ≤ bits (pkWord p 0) 0 32)) ∧
      (t.get MI_COPYING = 2 → t.get MI_CEND ≤ bits (pkWord p 0) 0 32 →
        v.get MI_STAT.SYNC = 2 ∧ v.get MI_COPYING = 0) := by
  refine answers_live_delivers (exec_epochAck s) ha fun v hv => ?_
  simp -zeta only [hh, hj, Bool.not_true, Bool.false_eq_true, if_false] at hv
  extract_lets e done words forgot kept acked at hv
  have epochs : acked.list MI_EPOCHS = (t.list MI_EPOCHS).filter fun x => !(x % 2 ^ 32 ≤ e) := by
    rw [State.put_list, State.put_list, State.put_list, State.list_setList_ne _ _ (by decide), State.list_setList_self]
  have named : acked.get MI_EPACK.ACKED = e := by
    rw [State.get_put_self]
    exact Nat.mod_eq_of_lt (Nat.mod_lt _ (by decide))
  have same {g : Field} (hg : g.clearOf 1 [(MI_JLEVEL.WORDS, 1), (MI_SENT, 1), (MI_EPACK.ACKED, 1)] = true) :
      acked.get g = t.get g := by
    refine State.Within.get_elements (.putIn (.putIn (.putIn (.listed (.listed .refl _ _ _) _ _ _) (b := 1) ?_ ?_) (b := 1)
      ?_ ?_) (b := 1) ?_ ?_) hg Nat.one_pos <;> simp
  split at hv
  · rw [hv.get (by decide), hv.get (by decide), hv.get (by decide), hv.list, State.setSync_sync (by decide),
      State.setSync_get (by decide), State.setSync_get (by decide), State.setSync_list, State.get_put_ne _ _ (by decide),
      State.put_list]
    exact ⟨named, epochs, fun _ _ => ⟨rfl, State.get_put_self ..⟩⟩
  next idle =>
    rw [hv.get (by decide), hv.list]
    refine ⟨named, epochs, fun copying ended => absurd ?_ idle⟩
    rw [same (by decide), same (by decide)]
    simp [copying, e, ended]

/-! HANDOVER, RESYNC and DISBAND (R578, R579). -/

section Command

variable (hw : WritesAlways m 0x28010 s)
include hw

theorem handover_begins (he : s.get MI_CFG.EN = 1) (hr : s.get MI_STAT.ROLE = rPRIMARY) (hs : s.get MI_STAT.SYNC = 2) :
    Answers (.handover m) s fun t => t.get MI_HANDING = 1 := by
  refine answers_writeAlways_delivers (exec_handover m s) hw fun t ht => ?_
  simp +decide only [wrMiCmd, State.flag, he, hr, hs, if_true, if_false] at ht
  rw [ht.get (by decide), State.mirSend_get (by decide), State.epochClose_get (by decide),
    State.domainsFollow_get (by decide), State.get_put_self]
  rfl

theorem resync_copies (he : s.get MI_CFG.EN = 1) (hr : s.get MI_STAT.ROLE = rPRIMARY) : Answers (.resync m) s fun t =>
    t.get MI_STAT.SYNC = 1 ∧ t.get MI_COPYING = 1 ∧ t.get MI_EPOCH.EPOCH = 0 := by
  refine answers_writeAlways_delivers (exec_resync m s) hw fun t ht => ?_
  simp +decide only [wrMiCmd, State.flag, he, hr, if_true, if_false] at ht
  unfold State.copyStart at ht
  dsimp only at ht
  rw [ht.get (by decide), ht.get (by decide), ht.get (by decide), State.setSync_sync (by decide),
    State.setSync_get (by decide), State.setSync_get (by decide)]
  simp +decide [State.get_put_ne, State.get_put_self]

theorem disband_ends (he : s.get MI_CFG.EN = 1) (hr : s.get MI_STAT.ROLE = rPRIMARY) : Answers (.disband m) s fun t =>
    t.get MI_CFG.EN = 0 ∧ t.get MI_STAT.ROLE = rSTANDALONE ∧ t.get MI_STAT.SYNC = 0 ∧ t.get MI_STAT.PEER = 0 := by
  refine answers_writeAlways_delivers (exec_disband m s) hw fun t ht => ?_
  simp +decide only [wrMiCmd, State.flag, he, hr, if_true, if_false] at ht
  unfold State.disband at ht
  dsimp only at ht
  rw [ht.get (by decide), ht.get (by decide), ht.get (by decide), ht.get (by decide), State.setSync_sync (by decide),
    State.setSync_get (by decide), State.setSync_get (by decide), State.setSync_get (by decide),
    State.setRole_role (by decide), State.setRole_get (by decide), State.setRole_get (by decide)]
  simp +decide [State.get_put_ne, State.get_put_self, State.pairForget_get]

/-- A device of no role refuses each of them. -/
theorem pairCommand_refused (hr : s.get MI_STAT.ROLE = rSTANDALONE) {c : Instr}
    (hc : c = .handover m ∨ c = .resync m ∨ c = .disband m) : Answers c s fun t =>
      t.get MI_REFUSE.CODE = Rc.MI_WRONG_STATE.num % 2 ^ 16 ∧ t.get MI_STAT.ROLE = rSTANDALONE ∧
      t.get MI_CFG.EN = s.get MI_CFG.EN := by
  have refused {t : State} (ht : (s.refuse Rc.MI_WRONG_STATE (s.get MI_STAT.ROLE) m 0x28010).Delivers t) :
      t.get MI_REFUSE.CODE = Rc.MI_WRONG_STATE.num % 2 ^ 16 ∧ t.get MI_STAT.ROLE = rSTANDALONE ∧
      t.get MI_CFG.EN = s.get MI_CFG.EN := by
    rw [ht.get (by decide), ht.get (by decide), ht.get (by decide), State.refuse_mirror (by decide),
      State.refuse_get_nat (by decide), State.refuse_get_nat (by decide)]
    exact ⟨rfl, hr, rfl⟩
  rcases hc with rfl | rfl | rfl
  · refine answers_writeAlways_delivers (exec_handover m s) hw fun t ht => refused ?_
    simpa +decide only [wrMiCmd, hr, if_true, if_false, decide_false, Bool.and_false, Bool.false_and] using ht
  · refine answers_writeAlways_delivers (exec_resync m s) hw fun t ht => refused ?_
    simpa +decide only [wrMiCmd, hr, if_true, if_false, decide_false, Bool.and_false, Bool.false_and] using ht
  · refine answers_writeAlways_delivers (exec_disband m s) hw fun t ht => refused ?_
    simpa +decide only [wrMiCmd, hr, if_true, if_false, decide_false, Bool.and_false, Bool.false_and] using ht

end Command

theorem handoverPacket_promotes (ha : Awake s) {p : Nat} (hh : s.mirHead 3 = some (p, t)) (hs : t.secondary = true)
    (hi : t.get MI_STAT.SYNC = 2) (hn : t.get MI_NEXTEP = bits (pkWord p 0) 0 32 + 1) :
    Answers .handoverPacket s fun v => v.get MI_STAT.ROLE = rPRIMARY ∧ v.get MI_STAT.SYNC = 2 ∧
      v.get MI_STAT.TERM = (t.get MI_STAT.TERM + 1) % 2 ^ 16 := by
  refine answers_live_delivers (exec_handoverPacket s) ha fun v hv => ?_
  simp only [hh, hs, hi, hn, decide_true, Bool.and_self, if_true] at hv
  have role : t.get MI_STAT.ROLE = rSECONDARY := by
    simp only [State.secondary, Bool.and_eq_true, decide_eq_true_eq] at hs
    exact hs.2
  obtain ⟨primary, term, sync⟩ := State.promote_shows role true
  rw [if_pos rfl, hi] at sync
  exact ⟨(hv.get (by decide)).trans primary, (hv.get (by decide)).trans sync, (hv.get (by decide)).trans term⟩

/-! The witness and the lease (R575, R576, R581). -/

theorem witnessClaim_grants (hw : Writes m 0x28044 s) (he : s.get MI_WCFG.WIT_EN = 1)
    (hb : s.get MI_WBOUND = 0 ∨ s.get MI_WHOLD.PAIR_ID = bits w.toNat 16 16)
    (hh : s.get MI_WHOLD.HOLDER = 0 ∨ s.get MI_WHOLD.HOLDER = bits w.toNat 0 8) : Answers (.witnessClaim m w) s fun t =>
      t.get MI_WHOLD.HOLDER = bits w.toNat 0 8 ∧ t.get MI_WHOLD.PAIR_ID = bits w.toNat 16 16 := by
  refine answers_write_delivers (exec_witnessClaim m w s) hw fun t ht => ?_
  unfold wrWclaim at ht
  dsimp only at ht
  rw [if_neg (by rcases hb with hb | hb <;> simp [State.flag, he, hb]), if_pos (by simpa using hh)] at ht
  rw [ht.get (by decide), ht.get (by decide)]
  simp +decide [State.get_put_ne, State.get_put_self, bits]
  exact ⟨rfl, rfl⟩

theorem leaseLost_demotes (ha : Awake s) (he : s.get MI_CFG.EN = 1) (hm : s.get MI_CFG.WIT_MODE = 1)
    (hl : s.get MI_STAT.LEASE = 1) : Answers .leaseLost s fun t => t.get MI_STAT.LEASE = 0 ∧
      (s.get MI_STAT.ROLE = rPRIMARY → s.get MI_STAT.PEER = 0 →
        t.get MI_STAT.ROLE = rSECONDARY ∧ t.get MI_STAT.SYNC = 3) := by
  refine answers_live_delivers (exec_leaseLost s) ha fun t ht => ?_
  rw [if_neg (by simp [State.flag, he, hm, hl])] at ht
  extract_lets lost at ht
  have cleared : lost.get MI_STAT.LEASE = 0 := by simp +decide [lost, State.raise_get, State.get_put_self]
  have role : lost.get MI_STAT.ROLE = s.get MI_STAT.ROLE := by
    simp +decide [lost, State.raise_get, State.get_put_ne]
  have peer : lost.get MI_STAT.PEER = s.get MI_STAT.PEER := by
    simp +decide [lost, State.raise_get, State.get_put_ne]
  split at ht
  · obtain ⟨second, sync⟩ := lost.demote_shows
    refine ⟨?_, fun _ _ => ⟨(ht.get (by decide)).trans second, (ht.get (by decide)).trans sync⟩⟩
    have kept : lost.demote.get MI_STAT.LEASE = lost.get MI_STAT.LEASE :=
      State.Within.get_elements (.demote .refl) (by decide) Nat.one_pos
    rw [ht.get (by decide), kept, cleared]
  next alone =>
    refine ⟨(ht.get (by decide)).trans cleared, fun hr hp => absurd ?_ alone⟩
    simp [State.flag, role, peer, hr, hp]

end Clauses

/-- Settles O37: from the checks of Table MI-1 to the lease that is lost. -/
theorem mirroredPairsFormMoveAndEnd : Obligations.MirroredPairsFormMoveAndEnd := by
  intro s ha
  refine ⟨?_, heartbeatTimer_sends ha, ?_, pairTExpiry_promotes ha, ?_, epochClose_closes ha, ?_, ?_, ?_, ?_, ?_,
    leaseLost_demotes ha⟩
  · exact fun m w hw hn hb => ⟨miEnable_takes hw hn hb rfl, fun r hc => miEnable_refused hw hn hb rfl hc⟩
  · intro p t hh he
    obtain ⟨v, hv, peer, missed, hash⟩ := heartbeat_shows ha hh he
    refine ⟨v, hv, peer, missed, hash, fun hd => ?_⟩
    obtain ⟨v', hv', shown⟩ := heartbeat_mismatch ha hh he hd
    cases hv.symm.trans hv'
    exact shown
  · exact fun he hp => ⟨heartbeatMiss_counts ha he hp, fun hk => ⟨heartbeatMiss_primary ha he hp hk,
      heartbeatMiss_secondary ha he hp hk, heartbeatMiss_promotes ha he hp hk⟩⟩
  · rw [exec_journal, execJournal, live_awake _ ha]
    rfl
  · exact fun p t hh hj => epochAck_releases ha hh hj
  · exact fun m hw => ⟨fun he hr => ⟨handover_begins hw he hr, resync_copies hw he hr, disband_ends hw he hr⟩,
      fun hr c hc => pairCommand_refused hw hr hc⟩
  · exact fun p t hh hs hi hn => handoverPacket_promotes ha hh hs hi hn
  · refine fun m w => ⟨fun hw he hb hh => witnessClaim_grants hw he hb hh, fun hw => ?_⟩
    exact answers_write_delivers (exec_witnessRenew m w s) hw fun t ht => ht.frame (s.frame_refl [])

end Sys2Proof.Machine
end

section
/-! Which cells the queue operations of spec/04 may change, whatever they do to the queue store. -/

namespace Sys2Proof.Machine

/-- From s to t no cell changes but those of a set. Memories and lists are free. -/
def State.Alters (s : State) (K : Set Nat) (t : State) : Prop := ∀ g j, Field.key g j ∉ K → t.get g j = s.get g j

namespace State.Alters

variable {s t u : State} {K : Set Nat}

theorem refl : s.Alters K s := fun _ _ _ => rfl

theorem trans (h : s.Alters K t) (h' : t.Alters K u) : s.Alters K u := fun g j hk => (h' g j hk).trans (h g j hk)

theorem put (h : s.Alters K t) {f : Field} {v i : Nat} (hf : f.key i ∈ K) : s.Alters K (t.put f v i) :=
  fun g j hk => (t.get_put_ne (f := f) (i := i) v fun same => hk (by rwa [same])).trans (h g j hk)

theorem count (h : s.Alters K t) {f : Field} {n i : Nat} (hf : f.key i ∈ K) : s.Alters K (t.count f n i) := h.put hf

theorem setList (h : s.Alters K t) (q : Fifo) (l : List Nat) (i : Nat) : s.Alters K (t.setList q l i) := h

theorem enq (h : s.Alters K t) (q : Fifo) (v i : Nat) : s.Alters K (t.enq q v i) := h

theorem emit (h : s.Alters K t) (k : OutKind) (l : List Nat) : s.Alters K (t.emit k l) := h

theorem store (h : s.Alters K t) (r : Region) (a v : Nat) : s.Alters K (t.store r a v) := h

theorem raise (h : s.Alters K t) (hn : ∀ k ∈ noiseCells, k ∈ K) {c : Rc} {obj d : Nat} : s.Alters K (t.raise c obj d) :=
  fun g j hk => (State.raise_get _ _ _ _ (fun same => hk (same ▸ hn _ (by simp [noiseCells, cellsAt])))
    fun same => hk (same ▸ hn _ (by simp [noiseCells, cellsAt]))).trans (h g j hk)

theorem ite {c : Prop} [Decidable c] {a b : State} (ha : s.Alters K a) (hb : s.Alters K b) :
    s.Alters K (if c then a else b) := by
  split
  · exact ha
  · exact hb

theorem foldl {α : Type} {l : List α} {f : State → α → State} (h : s.Alters K t)
    (hf : ∀ (u : State) (a : α), a ∈ l → u.Alters K (f u a)) : s.Alters K (l.foldl f t) :=
  List.foldlRecOn l f h fun u hu a ha => hu.trans (hf u a ha)

theorem of_within {S : Scope} (h : s.Within S t) (hc : S.cells ⊆ K) (hn : ∀ k ∈ noiseCells, k ∈ K) : s.Alters K t :=
  fun g j hk => h.get (fun hg => hk (hc hg)) (fun same => hk (same ▸ hn _ (by simp [noiseCells, cellsAt])))
    fun _ => ⟨fun same => hk (same ▸ hn _ (by simp [noiseCells, cellsAt])),
      fun same => hk (same ▸ hn _ (by simp [noiseCells, cellsAt]))⟩

end State.Alters

/-- What queue operations write, by queue, lane and port. -/
def queueFields : List Field :=
  [LANE_W, LANE_RD, LANE_REL, LANE_HDR, LANE_OPEN, LANE_OWNER, LANE_N, LANE_OVF, LANE_MARK, LANE_MVALID, WHEEL_POS, QHOLD,
    QHOLD_LEFT, QP_STATE, QM_SECC.CE, QM_SECC.UE, QM_IRQ.CE, QM_IRQ.UE, QM_IRQ.OVF, QM_IRQ.TRUNC, QM_IRQ.BADLEN,
    BV_ALERT.MEM_UE, MI_JLEVEL.WORDS, JOPEN, MI_STAT.SYNC, MI_IRQ.SYNC, MI_IRQ.JFULL]

/-- The cells of the queue operations. -/
def queueCells : Set Nat := allCells queueFields ∪ elementsOf [(BV_ERRSUM.COUNT, 4)] ∪ {k | k ∈ noiseCells}

theorem mem_queueCells {f : Field} {i : Nat} (hf : f ∈ queueFields) : f.key i ∈ queueCells :=
  .inl (.inl (mem_allCells hf))

theorem noise_queueCells : ∀ k ∈ noiseCells, k ∈ queueCells := fun _ hk => .inr hk

/-- Whether the first n elements of a field are cells of no queue operation. -/
def Field.unqueued (g : Field) (n : Nat) : Bool :=
  (queueFields.all fun f => f.clear g n) && g.clearOf n [(BV_ERRSUM.COUNT, 4)]

theorem State.Alters.get_unqueued {s t : State} (h : s.Alters queueCells t) {g : Field} {n j : Nat}
    (hg : g.unqueued n = true) (hj : j < n) : t.get g j = s.get g j := by
  simp only [Field.unqueued, Bool.and_eq_true] at hg
  obtain ⟨apart, counted⟩ := hg
  refine h g j ?_
  rintro ((⟨f, hf, i, same⟩ | ⟨p, hp, i, hi, same⟩) | noise)
  · exact Field.key_clear hj (List.all_eq_true.mp apart f hf) same.symm
  · exact Field.key_clearOf counted hj (List.mem_append_left _ hp) hi same
  · obtain ⟨f, hf, same⟩ := List.mem_map.mp noise
    exact Field.key_clearOf counted hj (p := (f, 1)) (List.mem_append_right _ (by simpa using hf)) Nat.one_pos same.symm

namespace State.Alters

variable {s t : State}

theorem queuePut (h : s.Alters queueCells t) {f : Field} {v i : Nat} (hf : f ∈ queueFields) :
    s.Alters queueCells (t.put f v i) := h.put (mem_queueCells hf)

theorem queueRaise (h : s.Alters queueCells t) {c : Rc} {obj d : Nat} : s.Alters queueCells (t.raise c obj d) :=
  h.raise noise_queueCells

theorem setSync (h : s.Alters queueCells t) (v : Nat) : s.Alters queueCells (t.setSync v) :=
  .ite h (.queuePut (.queueRaise (h.queuePut (by simp [queueFields]))) (by simp [queueFields]))

theorem journalWords (h : s.Alters queueCells t) (ws : List Nat) : s.Alters queueCells (t.journalWords ws) :=
  .ite (.queuePut (.queueRaise (.setSync (.queuePut (.queuePut (h.setList _ _ _) (by simp [queueFields]))
    (by simp [queueFields])) 3)) (by simp [queueFields]))
    (.queuePut (.queuePut (h.setList _ _ _) (by simp [queueFields])) (by simp [queueFields]))

theorem touchLane (h : s.Alters queueCells t) (x : Nat) : s.Alters queueCells (t.touchLane x) := .ite (h.enq _ _ _) h

theorem putSlot (h : s.Alters queueCells t) (x v w : Nat) (header : Bool) : s.Alters queueCells (t.putSlot x v w header) :=
  .ite (.journalWords (h.store _ _ _) _) (h.store _ _ _)

theorem closePacket (h : s.Alters queueCells t) (x w : Nat) : s.Alters queueCells (t.closePacket x w) :=
  .touchLane (.queuePut (.queuePut (h.putSlot _ _ _ _) (by simp [queueFields])) (by simp [queueFields])) x

theorem errsum (h : s.Alters queueCells t) {i : Nat} (hi : i < 4) : s.Alters queueCells (t.count BV_ERRSUM.COUNT 1 i) :=
  h.count (.inl (.inr ⟨_, List.mem_singleton_self _, i, hi, rfl⟩))

theorem readSlot (h : s.Alters queueCells t) (x v : Nat) : s.Alters queueCells (t.readSlot x v).2.2 := by
  unfold State.readSlot
  dsimp only
  split
  · exact h
  · have fixed {u : State} (hu : s.Alters queueCells u) :
        s.Alters queueCells ((u.count QM_SECC.CE 1).count BV_ERRSUM.COUNT 1 2) :=
      .errsum (hu.count (mem_queueCells (by simp [queueFields]))) (by decide)
    exact .ite (fixed (h.store _ _ _)) (.queueRaise (.queuePut (fixed (h.store _ _ _)) (by simp [queueFields])))
  · exact .queueRaise (.queuePut (.queuePut (.errsum (h.count (mem_queueCells (by simp [queueFields]))) (by decide))
      (by simp [queueFields])) (by simp [queueFields]))

theorem overflow (h : s.Alters queueCells t) (x who : Nat) : s.Alters queueCells (t.overflow x who) :=
  have counted : s.Alters queueCells (t.count LANE_OVF 1 x) := h.count (mem_queueCells (by simp [queueFields]))
  .ite counted (.queueRaise (counted.queuePut (by simp [queueFields])))

/-- A result of an operation leads to a state that only queue cells tell apart. -/
def Reached (s : State) (r : Option (QRes × State)) : Prop := ∀ x ∈ r, s.Alters queueCells x.2

theorem reached_none : Reached s none := nofun

theorem reached_some {r : QRes} (h : s.Alters queueCells t) : Reached s (some (r, t)) := by
  rintro _ ⟨⟩
  exact h

theorem reached_ite {c : Prop} [Decidable c] {a b : Option (QRes × State)} (ha : Reached s a) (hb : Reached s b) :
    Reached s (if c then a else b) := by
  split
  · exact ha
  · exact hb

theorem qPush (o : QOp) (x : Nat) : Reached s (s.qPush o x) := by
  unfold State.qPush
  extract_lets isOpen mine res closed w slot opened
  have h₁ : s.Alters queueCells slot := .putSlot .refl _ _ _ _
  have h₂ : s.Alters queueCells opened := by
    refine .ite ?_ (.ite (h₁.queuePut (by simp [queueFields])) h₁)
    exact .queuePut (.queuePut (.queuePut (h₁.queuePut (by simp [queueFields])) (by simp [queueFields]))
      (by simp [queueFields])) (by simp [queueFields])
  refine reached_ite (reached_some .refl) (reached_ite (reached_ite reached_none (reached_some .refl)) (reached_ite
    (reached_ite (reached_some ?_) (reached_ite reached_none (reached_some (.overflow .refl _ _)))) (reached_some ?_)))
  · exact .queueRaise (.queuePut (.closePacket .refl _ _) (by simp [queueFields]))
  · exact .touchLane (h₂.queuePut (by simp [queueFields])) x

theorem qClose (o : QOp) (x : Nat) : s.Alters queueCells (s.qClose o x).2 := by
  unfold State.qClose
  extract_lets n lw c good lw' t
  have closed (w : Nat) : s.Alters queueCells (s.closePacket x w) := .closePacket .refl x w
  split
  · exact .refl
  · split
    · exact closed _
    · split
      · exact closed _
      · exact .queueRaise ((closed _).queuePut (by simp [queueFields]))

theorem holdAfter (h : s.Alters queueCells t) (o : QOp) (q l : Nat) (header : Bool) (word : Nat) :
    s.Alters queueCells (t.holdAfter o q l header word) := by
  have held {v w : Nat} : s.Alters queueCells ((t.put QHOLD v q).put QHOLD_LEFT w q) :=
    .queuePut (h.queuePut (by simp [queueFields])) (by simp [queueFields])
  exact .ite held (.ite (.ite held (h.queuePut (by simp [queueFields]))) (.ite held h))

theorem qRead (o : QOp) (q : Nat) : Reached s (s.qRead o q) := by
  unfold State.qRead
  extract_lets pick
  clear_value pick
  split
  · exact reached_ite reached_none (reached_some .refl)
  next l pos =>
    extract_lets x rd r st t read released wheeled
    have taken : s.Alters queueCells (s.readSlot x rd).2.2 := .readSlot .refl x rd
    have h₁ : s.Alters queueCells t := by simpa only [t, r] using taken
    clear_value t
    have h₂ : s.Alters queueCells read := h₁.queuePut (by simp [queueFields])
    have h₃ : s.Alters queueCells released := .ite h₂ (h₂.queuePut (by simp [queueFields]))
    have h₄ : s.Alters queueCells wheeled := .ite (h₃.queuePut (by simp [queueFields])) h₃
    exact reached_ite (reached_some .refl) (reached_ite (reached_some h₁) (reached_some (.touchLane (h₄.holdAfter _ _ _ _ _)
      x)))

theorem qManual (o : QOp) (q l : Nat) : s.Alters queueCells (s.qManual o q l).2 := by
  unfold State.qManual
  extract_lets x rd avail n k t
  have h₁ : s.Alters queueCells t := .ite (.queuePut .refl (by simp [queueFields])) .refl
  split
  · exact .touchLane (.queuePut (.queuePut .refl (by simp [queueFields])) (by simp [queueFields])) x
  · split
    · split
      · exact .touchLane (.queuePut (.queuePut (.queuePut .refl (by simp [queueFields])) (by simp [queueFields]))
          (by simp [queueFields])) x
      · exact .refl
    · exact .touchLane (h₁.queuePut (by simp [queueFields])) x

/-- Whatever operation a queue carries out, cells of other parties stay. -/
theorem qExec (o : QOp) : Reached s (s.qExec o) := by
  unfold State.qExec
  extract_lets q x shut l l'
  refine reached_ite (reached_some .refl) (reached_ite (reached_some .refl) (reached_ite (reached_ite (reached_some .refl)
    (reached_ite (reached_some .refl) ?_)) (reached_ite (reached_ite (reached_some .refl) (qRead o q)) (reached_ite
    (reached_ite (reached_some .refl) (reached_some .refl)) (reached_ite (reached_some .refl) (reached_ite (qPush o x)
    ?_))))))
  · exact reached_some (qManual o q l)
  · exact reached_some (qClose o x)

theorem regrantAll (h : s.Alters queueCells t) (q : Nat) : s.Alters queueCells (t.regrantAll q) := by
  have granted (f : Nat) (u : State) (hu : s.Alters queueCells u) : s.Alters queueCells (regrant f q u) := by
    induction f generalizing u with
    | zero => exact hu
    | succ f ih =>
      rw [regrant]
      split
      · exact hu
      next c r v ready =>
        obtain ⟨c', -, found⟩ := List.exists_of_findSome?_eq_some ready
        obtain ⟨x, done, same⟩ := Option.map_eq_some_iff.mp found
        have carried : u.Alters queueCells v := by
          have := qExec (s := u) (QOp.ofCode c') x done
          cases same
          exact this
        exact ih _ (.emit (.queuePut ((hu.trans carried).setList _ _ _) (by simp [queueFields])) _ _)
  exact granted _ _ h

end State.Alters

end Sys2Proof.Machine
end

section
/-! O30: the DMA channels are enabled, take doorbells and turns, receive completions and halt (R478 to R489). -/

namespace Sys2Proof.Machine

section Clauses

variable {s t u : State} {m : Master} {c : Fin 64} {w : Word}

/-! Enabling (R487, R489). -/

/-- The queue that a written channel names is one of the 256. -/
theorem writtenQueue_lt : ((s.writeReg m PX_CHCFG.reg c w.toNat).put PX_CHCFG.EN 0 c).get PX_CHCFG.QUEUE c < 256 := by
  rw [State.get_put_ne _ _ (by simp +decide), State.writeReg_takes _ _ _ _ (by decide) (by decide) (by decide) rfl
    (fun g hg other same => (Field.key_beside ((by decide : ∀ g ∈ PX_CHCFG.reg.fields, g ≠ PX_CHCFG.QUEUE →
      PX_CHCFG.QUEUE.beside g = true) g hg other)).mp same) rfl]
  exact Nat.mod_lt _ (by decide)

/-- The channel is bound to its queue (R487). -/
def State.chBound (u : State) (c : Nat) : State :=
  if chH2D c then u.bindProducer (dmaCode c) (u.get PX_CHCFG.QUEUE c) (2 ^ u.get PX_CHCFG.LANE c)
  else u.bindConsumer (dmaCode c) (u.get PX_CHCFG.QUEUE c)

theorem State.chBound_get (hq : u.get PX_CHCFG.QUEUE c < 256) {g : Field} {n j : Nat}
    (hg : g.clearOf n [(QCONS, 256)] = true) (hj : j < n) : (u.chBound c).get g j = u.get g j := by
  unfold State.chBound
  split
  · exact List.foldlRecOn (motive := fun v : State => v.get g j = u.get g j) _ _ rfl fun v hv l _ => by
      split
      · exact hv
      · exact hv
  · exact State.get_put_ne _ _ (Field.key_clearOf hg hj (p := (QCONS, 256)) (by simp) hq)

/-- A channel that is bound starts with an empty ring (R487). -/
def State.chStart (s : State) (c : Nat) : State :=
  let s := (((s.put PX_CHCFG.EN 1 c).put PX_HEAD.HEAD 0 c).put PX_TAIL.TAIL 0 c).chNone c
  let s := (((s.put CH_OPEN 0 c).put CH_TRUNC 0 c).put CH_PKT 0 c).put CH_FLAGS 0 c
  ((s.put PX_CHBYTES_LO.BYTES 0 c).put PX_CHBYTES_HI.BYTES 0 c).chRest c

theorem State.chStart_shows (u : State) (c : Fin 64) : (u.chStart c).get PX_CHCFG.EN c = 1 ∧
    (u.chStart c).get PX_HEAD.HEAD c = 0 ∧ (u.chStart c).get PX_TAIL.TAIL c = 0 ∧
    (u.chStart c).get PX_CHBYTES_LO.BYTES c = 0 ∧
    (u.chStart c).get PX_CHSTAT.STATE c = if u.chHold then chPAUSED else chIDLE := by
  have rest : (u.chStart c).get PX_CHSTAT.STATE c = if u.chHold then chPAUSED else chIDLE := by
    unfold State.chStart State.chNone State.chRest State.posted State.chHold State.flag
    split <;> simp_all +decide [State.get_put_ne, State.get_put_self]
  refine ⟨?_, ?_, ?_, ?_, rest⟩ <;>
    simp +decide [State.chStart, State.chNone, State.chRest, State.get_put_ne, State.get_put_self]

section Enable

variable (hw : Writes m (0x21000 + 0x40 * c) s)
  (hu : u = (s.writeReg m PX_CHCFG.reg c w.toNat).put PX_CHCFG.EN 0 c) (hn : s.get PX_CHCFG.EN c = 0)
  (hb : bit w.toNat 0 = true)
include hw hu hn hb

theorem channelEnable_starts (hc : u.chCheck c = none) : Answers (.channelEnable m c w) s fun t =>
    t.get PX_CHCFG.EN c = 1 ∧ t.get PX_HEAD.HEAD c = 0 ∧ t.get PX_TAIL.TAIL c = 0 ∧ t.get PX_CHBYTES_LO.BYTES c = 0 ∧
      t.get PX_CHSTAT.STATE c = if s.chHold then chPAUSED else chIDLE := by
  refine answers_write_delivers (exec_channelEnable m c w s) hw fun t ht => ?_
  simp only [wrPxChcfg, State.flag, hn, Nat.zero_ne_one, decide_false, Bool.false_eq_true, if_false, hb, Bool.not_true,
    ← hu, hc] at ht
  change ((u.chBound c).chStart c).Delivers t at ht
  have hold : (u.chBound c).chHold = s.chHold := by
    have queue : u.get PX_CHCFG.QUEUE c < 256 := hu ▸ writtenQueue_lt
    unfold State.chHold State.flag
    rw [State.chBound_get queue (by decide) Nat.one_pos, State.chBound_get queue (by decide) Nat.one_pos, hu,
      State.get_put_ne _ _ (by simp +decide), State.get_put_ne _ _ (by simp +decide),
      State.writeReg_get _ _ _ _ _ (by decide) fun f hf => (Field.key_lt Nat.one_pos ((by decide : ∀ f ∈
        PX_CHCFG.reg.fields, PX_LINK.DSTATE.below 1 f = true) f hf)).ne,
      State.writeReg_get _ _ _ _ _ (by decide) fun f hf => (Field.key_lt c.isLt ((by decide : ∀ f ∈
        PX_CHCFG.reg.fields, f.below 64 PX_PAUSE = true) f hf)).ne']
  rw [ht.get (by simp +decide), ht.get (by simp +decide), ht.get (by simp +decide), ht.get (by simp +decide),
    ht.get (by simp +decide), ← hold]
  exact State.chStart_shows ..

theorem channelEnable_refused {r : Rc × Nat} (hc : u.chCheck c = some (r, false)) : Answers (.channelEnable m c w) s fun t =>
    t.get PX_CHCFG.EN c = 0 ∧ t.get GH_REFUSE.CODE = r.1.num % 2 ^ 16 := by
  refine answers_write_delivers (exec_channelEnable m c w s) hw fun t ht => ?_
  simp only [wrPxChcfg, State.flag, hn, Nat.zero_ne_one, decide_false, Bool.false_eq_true, if_false, hb, Bool.not_true,
    ← hu, hc] at ht
  rw [ht.get (by simp +decide), ht.get (by decide), State.refuse_code, State.refuse_get_fin c (by decide), hu]
  exact ⟨State.get_put_self .., rfl⟩

end Enable

theorem channelEnable_stops (hw : Writes m (0x21000 + 0x40 * c) s) (hn : s.get PX_CHCFG.EN c = 1)
    (hb : bit w.toNat 0 = false)
    (hk : (s.writeReg m PX_CHCFG.reg c w.toNat).readReg PX_CHCFG.reg c / 2 = s.readReg PX_CHCFG.reg c / 2) :
    Answers (.channelEnable m c w) s fun t => t.get PX_CHCFG.EN c = 0 ∧ t.get PX_CHSTAT.STATE c = chOFF := by
  refine answers_write_delivers (exec_channelEnable m c w s) hw fun t ht => ?_
  simp only [wrPxChcfg, State.flag, hn, decide_true, if_true, hk, ne_eq, not_true, if_false, hb, Bool.false_eq_true] at ht
  unfold State.chStop at ht
  rw [ht.get (by simp +decide), ht.get (by simp +decide),
    (State.Alters.regrantAll .refl _).get_unqueued (n := 64) (by decide) c.isLt,
    (State.Alters.regrantAll .refl _).get_unqueued (n := 64) (by decide) c.isLt]
  simp +decide [State.get_put_ne, State.get_put_self, chOFF]

/-! Halting (R488). -/

/-- What shows that a channel has halted for a reason. -/
def State.Halted (t : State) (c : Nat) (rc : Rc) : Prop := t.get PX_CHSTAT.STATE c = chHALTED ∧
  t.get PX_CHSTAT.LAST c = rc.num % 2 ^ PX_CHSTAT.LAST.width ∧ t.get PX_IRQ.DMA_ERR = 1

theorem State.chHalt_halted {rc : Rc} (ho : u.get CH_OPEN c = 0) : (u.chHalt c rc).Halted c rc := by
  unfold State.chHalt
  extract_lets n written counted
  have open₁ : counted.get CH_OPEN c = 0 := by
    have same : written.get CH_OPEN c = u.get CH_OPEN c := by
      unfold written
      split <;> rfl
    simp +decide [counted, State.get_put_ne, State.get_count_ne, same, ho]
  have closed : ((counted.put PX_IRQ.DMA_ERR 1).raise rc c n).flag CH_OPEN c = false := by
    simp +decide [State.flag, State.raise_get, State.get_put_ne, open₁]
  unfold State.chBreak State.Halted
  simp only [closed, Bool.not_false, if_true]
  simp +decide [counted, State.chNone, State.get_put_ne, State.get_put_self, State.raise_get, chHALTED]

theorem State.Delivers.halted {rc : Rc} (h : u.Delivers t) (hu : u.Halted c rc) : t.Halted c rc := by
  obtain ⟨state, last, irq⟩ := hu
  exact ⟨(h.get (by simp +decide)).trans state, (h.get (by simp +decide)).trans last, (h.get (by decide)).trans irq⟩

/-! Doorbells (R478, R479). -/

section Doorbell

variable (ha : Awake s) {v : Word} (hl : s.linkUp = true) (hd : s.get PX_LINK.DSTATE = 0)
  (he : s.get PX_CHCFG.EN c = 1) (hp : s.get PX_CHCFG.PUSH c = 0) (hs : s.get PX_CHSTAT.STATE c ≠ chHALTED)
include ha hl hd he hp hs

theorem tailDoorbell_posts (hr : (s.put PX_TAIL.TAIL v.toNat c).posted c ≤ 2 ^ s.get PX_RSIZE.RSIZE c) :
    Answers (.tailDoorbell c v) s fun t => t.get PX_TAIL.TAIL c = v.toNat := by
  refine answers_live_delivers (exec_tailDoorbell c v s) ha fun t ht => ?_
  have tail : (s.put PX_TAIL.TAIL v.toNat c).get PX_TAIL.TAIL c = v.toNat :=
    (State.get_put_self ..).trans (Nat.mod_eq_of_lt v.isLt)
  rw [if_neg (by simp [State.flag, hl, hd, he])] at ht
  dsimp only at ht
  rw [if_neg (by simp [State.flag, hp, hs]), if_neg (by omega)] at ht
  split at ht
  · exact (ht.get (by simp +decide)).trans ((State.get_put_ne _ _ (by simp +decide)).trans tail)
  · exact (ht.get (by simp +decide)).trans tail

theorem tailDoorbell_overruns (hr : 2 ^ s.get PX_RSIZE.RSIZE c < (s.put PX_TAIL.TAIL v.toNat c).posted c)
    (ho : s.get CH_OPEN c = 0) : Answers (.tailDoorbell c v) s fun t => t.get PX_CHSTAT.STATE c = chHALTED ∧
      t.get PX_CHSTAT.LAST c = Rc.PX_RING_OVER.num % 2 ^ PX_CHSTAT.LAST.width := by
  refine answers_live_delivers (exec_tailDoorbell c v s) ha fun t ht => ?_
  rw [if_neg (by simp [State.flag, hl, hd, he])] at ht
  dsimp only at ht
  rw [if_neg (by simp [State.flag, hp, hs]), if_pos hr] at ht
  obtain ⟨state, last, -⟩ := ht.halted (State.chHalt_halted (by rwa [State.get_put_ne _ _ (by simp +decide)]))
  exact ⟨state, last⟩

end Doorbell

/-! Turns (R480, R485). -/

theorem dmaTurn_fetches (ha : Awake s) {i : Nat} (hm : s.mode ≠ mDORMANT) (hl : s.linkUp = true)
    (hi : ((List.range 64).find? fun i => s.chReady ((s.get PX_SERVED + 1 + i) % 64)) = some i)
    (hc : c.val = (s.get PX_SERVED + 1 + i) % 64) (hp : s.get CH_PHASE c = 0) : Answers .dmaTurn s fun t =>
      t.get PX_SERVED = c ∧ t.get CH_PHASE c = 1 ∧ t.get CH_OUT c = 32 ∧ t.get PX_CHSTAT.STATE c = chWAIT := by
  refine answers_live_delivers (exec_dmaTurn s) ha fun t ht => ?_
  rw [if_neg (by simp [hm, hl]), hi] at ht
  dsimp only at ht
  rw [← hc, State.get_put_ne _ _ (by simp +decide), hp] at ht
  have served : c.val % 2 ^ PX_SERVED.width = c := Nat.mod_eq_of_lt c.isLt
  split at ht
  · rw [ht.get (by decide), ht.get (by simp +decide), ht.get (by simp +decide), ht.get (by simp +decide)]
    split <;> simp +decide [State.hostRead, State.chNone, State.get_put_ne, State.get_put_self, chWAIT, served]
  · contradiction
  · contradiction

/-! Completions (R480, R482, R488). -/

section Completion

variable (ha : Awake s) {data : List (BitVec 8)} (ho : s.get CH_OUT c ≠ 0)
include ha ho

theorem dmaCompletion_stages (hp : s.get CH_PHASE c = 2) : Answers (.dmaCompletion c true data) s fun t =>
    t.list PX_STAGE c = s.list PX_STAGE c ++ (data.map BitVec.toNat).take (s.get CH_OUT c) ∧
      t.get CH_OUT c = (s.get CH_OUT c - ((data.map BitVec.toNat).take (s.get CH_OUT c)).length) % 2 ^ CH_OUT.width := by
  refine answers_live_delivers (exec_dmaCompletion c true data s) ha fun t ht => ?_
  rw [if_neg ho, if_neg (by decide)] at ht
  dsimp only at ht
  rw [if_neg (by simp +decide [State.get_put_ne, hp])] at ht
  exact ⟨(ht.list _ _).trans (State.list_setList_self ..), (ht.get (by simp +decide)).trans (State.get_put_self ..)⟩

theorem dmaCompletion_halts (hn : s.get CH_OPEN c = 0) :
    Answers (.dmaCompletion c false data) s fun t => t.Halted c Rc.PX_CPL_ERR := by
  refine answers_live_delivers (exec_dmaCompletion c false data s) ha fun t ht => ?_
  rw [if_neg ho, if_pos (by decide)] at ht
  exact ht.halted (State.chHalt_halted hn)

theorem pxCplTimeout_halts (hn : s.get CH_OPEN c = 0) :
    Answers (.pxCplTimeout c) s fun t => t.Halted c Rc.PX_CPL_TIMEOUT := by
  refine answers_live_delivers (exec_pxCplTimeout c s) ha fun t ht => ?_
  rw [if_neg ho] at ht
  exact ht.halted (State.chHalt_halted hn)

end Completion

/-! The end of a descriptor (R483, R484). -/

theorem descriptorComplete_advances (ha : Awake s) (hp : s.get CH_PHASE c = 3) :
    Answers (.descriptorComplete c) s fun t =>
      t.get PX_HEAD.HEAD c = (s.get PX_HEAD.HEAD c + 1) % 2 ^ 32 ∧ t.get CH_PHASE c = 0 := by
  refine answers_live_delivers (exec_descriptorComplete c s) ha fun t ht => ?_
  rw [if_neg (by simp [hp])] at ht
  rw [ht.get (by simp +decide), ht.get (by simp +decide)]
  simp +decide [State.chRest, State.chNone, State.get_put_ne, State.get_put_self]
  rfl

theorem flushTimeout_ends (ha : Awake s) (hh : chH2D c = false) (hk : s.get PX_CHCFG.PKT c = 0)
    (hp : s.get CH_PHASE c = 2) (hm : s.get CH_MOVED c ≠ 0) (hf : s.get PX_CHFLUSH.FLUSH_T c ≠ 0)
    (hq : (s.chOp c opPEEK 0).isNone = true) : Answers (.flushTimeout c) s fun t =>
      t.get CH_PHASE c = 3 ∧ t.get PX_HEAD.HEAD c = s.get PX_HEAD.HEAD c := by
  refine answers_live_delivers (exec_flushTimeout c s) ha fun t ht => ?_
  rw [if_pos (by simp [State.flag, hh, hk, hp, hm, hf, hq])] at ht
  rw [ht.get (by simp +decide), ht.get (by simp +decide)]
  simp +decide [State.chDue, State.get_put_ne, State.get_put_self]

end Clauses

/-- Settles O30: from the checks of Table PX-7 to the descriptor that completes. -/
theorem dmaChannelsMove : Obligations.DmaChannelsMove := by
  intro s ha
  refine ⟨fun m c w hw => ⟨fun hn hb => ⟨channelEnable_starts hw rfl hn hb, fun r hc => channelEnable_refused hw rfl hn hb
    hc⟩, fun hn hb _ hk => channelEnable_stops hw hn hb hk⟩, fun c v hl hd he hp hs => ⟨tailDoorbell_posts ha hl hd he hp hs,
    tailDoorbell_overruns ha hl hd he hp hs⟩, fun i hm hl hi hp => ?_, fun c data ho => ⟨dmaCompletion_stages ha ho,
    fun hn => ⟨dmaCompletion_halts ha ho hn, pxCplTimeout_halts ha ho hn⟩⟩, fun c => descriptorComplete_advances ha,
    fun c => flushTimeout_ends ha⟩
  exact dmaTurn_fetches (c := ⟨_, Nat.mod_lt _ (by decide)⟩) ha hm hl hi rfl hp

end Sys2Proof.Machine
end

section
/-! O29: requests of the host reach the configuration space, the windows and the doorbells (R465 to R491). -/

namespace Sys2Proof.Machine

section Clauses

variable {s t u : State}

/-! Configuration requests (R465). -/

theorem State.load_cfgSpace {a v : Nat} (h : t.mem = (s.store .cfgSpace a v).mem) : t.load .cfgSpace a = v % 2 ^ 80 := by
  have stored := s.load_store_self .cfgSpace a v
  have bounded : v % 2 ^ 80 < 2 ^ 80 := Nat.mod_lt _ (by decide)
  have word : t.mem.get (Region.base .cfgSpace + a) 0 = v % 2 ^ 80 := by
    rw [h]
    exact Store.get_set_same ..
  have marked : (2 ^ 80 : Nat) < undefinedWord := by decide
  simp only [State.load, State.blank, word]
  rw [if_neg (by omega)]

@[simp] theorem State.dstate_stored (d3 : Bool) : (s.dstate d3).stored = s.stored := by simp [State.dstate]

/-- Messages that leave the pending-bit array touch no memory and no cell (R490). -/
theorem State.pbaFlush_same : s.pbaFlush.mem = s.mem ∧ s.pbaFlush.cells = s.cells ∧ s.pbaFlush.ring = s.ring := by
  unfold State.pbaFlush
  split
  · refine List.foldlRecOn (motive := fun u : State => u.mem = s.mem ∧ u.cells = s.cells ∧ u.ring = s.ring) _ _
      ⟨rfl, rfl, rfl⟩ fun u hu v _ => ?_
    split
    · exact hu
    · exact hu
  · exact ⟨rfl, rfl, rfl⟩

@[simp] theorem State.pbaFlush_stored : s.pbaFlush.stored = s.stored := by
  obtain ⟨mem, -, ring⟩ := s.pbaFlush_same
  exact State.stored_eq mem ring

@[simp] theorem State.msiFlush_stored : s.msiFlush.stored = s.stored := by simp [State.msiFlush]

theorem State.cfgEffect_stored (d : Nat) : (s.cfgEffect d).stored = s.stored := by
  unfold State.cfgEffect
  split <;> simp

theorem configRequest_writes (ha : Awake s) (hl : s.linkUp = true) {d tag : BitVec 10} {be : BitVec 4} {w : Word}
    (hm : s.mode ≠ mTEST) :
    let mask := ((List.range 4).map fun i => if bit be.toNat i then 0xFF * 256 ^ i else 0).sum &&& s.cfgMask d.toNat
    Answers (.configRequest true d be w tag) s fun t => t.load .cfgSpace d.toNat =
      ((s.load .cfgSpace d.toNat &&& (0xFFFFFFFF - mask)) ||| (w.toNat &&& mask)) % 2 ^ 80 := by
  refine answers_live_delivers (exec_configRequest true d be w tag s) ha fun t ht => ?_
  simp only [hl, hm, Bool.not_true, decide_false, Bool.or_self, Bool.false_eq_true, if_false, if_true] at ht
  exact State.load_cfgSpace (ht.mem.trans (mem_ring_of_stored (State.cfgEffect_stored _)).1)

/-! BAR0 (R467). -/

/-- The number that a one-word request is kept as gives back its parts. -/
theorem bar0Code_parts (write : Bool) (addr : BitVec 26) {tag : Nat} (tagged : tag < 2 ^ 10) :
    let code := bar0Code write (4 * addr.toNat) 15 15 1 tag
    bit code 0 = write ∧ bits code 1 28 = 4 * addr.toNat ∧ bits code 32 4 = 15 ∧ bits code 36 4 = 15 ∧
      bits code 40 24 = 1 ∧ bits code 64 10 = tag := by
  have place := addr.isLt
  cases write <;> simp only [bar0Code, b2n, bits, bit, if_true, Bool.false_eq_true, if_false, decide_eq_true_eq, decide_eq_false_iff_not] <;> omega

section Bar0

variable (ha : Awake s) (hl : s.linkUp = true) (hd : s.get PX_LINK.DSTATE = 0) (hm : s.mode ≠ mDORMANT)
include hl hd hm

theorem State.bar0Request_serves {code : Nat} {ws : List Nat} : s.bar0Request code ws = s.bar0Serve code ws := by
  simp [State.bar0Request, hl, hd, hm]

include ha

theorem bar0Request_writes (addr : BitVec 26) (w : Word) : exec (.bar0Request (.write w []) addr 15 15) s =
    run s (s.windowWrite .host (4 * addr.toNat) w.toNat) := by
  obtain ⟨kind, place, first, last, count, -⟩ := bar0Code_parts true addr (tag := 0) (by decide)
  rw [exec_live (exec_bar0Request _ addr 15 15 s) ha]
  dsimp only
  rw [State.bar0Request_serves hl hd hm]
  simp only [State.bar0Serve, BitVec.reduceToNat, List.length_nil, Nat.zero_add, List.map_cons, List.map_nil, kind, place,
    first, last, count, if_true, bar0Write]
  rw [if_pos (by decide)]

theorem bar0Request_reads (addr : BitVec 26) {tag : BitVec 10} {v : Nat}
    (hr : s.windowRead .host (4 * addr.toNat) tag.toNat = (.data v, t)) :
    exec (.bar0Request (.read 0 tag) addr 15 15) s = run s (t.hostData tag.toNat (v &&& 0xFFFFFFFF)) := by
  obtain ⟨kind, place, first, last, count, tagged⟩ := bar0Code_parts false addr tag.isLt
  have mask : enabledMask (byteEnables 15 15 0 1) = 0xFFFFFFFF := by decide
  rw [exec_live (exec_bar0Request _ addr 15 15 s) ha]
  dsimp only
  rw [State.bar0Request_serves hl hd hm]
  simp only [State.bar0Serve, BitVec.reduceToNat, Fin.val_zero, Nat.zero_add, kind, place, first, last, count, tagged,
    Bool.false_eq_true, if_false, bar0Read, hr, mask]

end Bar0

/-! Windows of BAR2 (R470 to R475). -/

section Window

variable (ha : Awake s) (hl : s.linkUp = true) {k : Fin 16} {off : BitVec 32} {fbe lbe : BitVec 8}

theorem State.noDesign_shows (u : State) : (u.noDesign k).get PX_IRQ.WDROP = 1 ∧
    (u.noDesign k).get PX_WDROP.NODESIGN = u.get PX_WDROP.NODESIGN ∧ (u.noDesign k).list PX_WQ k = u.list PX_WQ k := by
  unfold State.noDesign
  dsimp only
  split <;> simp +decide [State.raise_get, State.raise_list, State.get_put_ne, State.get_put_self]

include ha hl

theorem bar2Write_dropped (hd : s.get PX_LINK.DSTATE = 0) (hi : s.windowIdle k = true) {w : BitVec 64}
    {more : List (BitVec 64)} : Answers (.bar2Write k off fbe lbe w more) s fun t =>
      t.get PX_WDROP.NODESIGN = min (s.get PX_WDROP.NODESIGN + 1) (2 ^ PX_WDROP.NODESIGN.width - 1) ∧
        t.get PX_IRQ.WDROP = 1 ∧ t.list PX_WQ k = s.list PX_WQ k := by
  refine answers_live_delivers (exec_bar2Write k off fbe lbe w more s) ha fun t ht => ?_
  simp only [hl, hd, hi, Bool.not_true, ne_eq, not_true, decide_false, Bool.or_self, Bool.false_eq_true, if_false,
    if_true] at ht
  obtain ⟨dropped, counted, queued⟩ := (s.count PX_WDROP.NODESIGN 1).noDesign_shows (k := k)
  rw [ht.get (by decide), ht.get (by decide), ht.list, counted, dropped, queued, State.get_count_self]
  exact ⟨rfl, rfl, rfl⟩

theorem bar2Write_queues (hd : s.get PX_LINK.DSTATE = 0) (hi : s.windowIdle k = false) {w : BitVec 64}
    {more : List (BitVec 64)} :
    let ps := pxParts (more.length + 1) false true (off.toNat / 8 * 8) (more.length + 1) fbe.toNat lbe.toNat
    let es := writeExchanges (s.get PX_SEQ) ps (w.toNat :: more.map BitVec.toNat)
    exec (.bar2Write k off fbe lbe w more) s =
      run s (((s.put PX_SEQ (s.get PX_SEQ + 1)).setList PX_WQ (s.list PX_WQ k ++ es) k).pxPump) := by
  rw [exec_live (exec_bar2Write k off fbe lbe w more s) ha]
  simp only [hl, hd, hi, Bool.not_true, ne_eq, not_true, decide_false, Bool.or_self, Bool.false_eq_true, if_false]

theorem bar2Read_unsupported {more : Fin 513} {tag : BitVec 10} (hd : s.get PX_LINK.DSTATE ≠ 0) :
    exec (.bar2Read k off fbe lbe more tag) s = run s (s.hostUnsup tag.toNat) := by
  rw [exec_live (exec_bar2Read k off fbe lbe more tag s) ha]
  simp only [hl, hd, Bool.not_true, Bool.false_eq_true, if_false, ne_eq, not_false_iff, if_true]

theorem bar2Read_queues {more : Fin 513} {tag : BitVec 10} (hd : s.get PX_LINK.DSTATE = 0)
    (hi : s.windowIdle k = false) :
    let ps := pxParts (more + 1) true true (off.toNat / 8 * 8) (more + 1) fbe.toNat lbe.toNat
    let u := (s.put PX_SEQ (s.get PX_SEQ + 1)).enq PX_RD
      (rdEntry (s.get PX_SEQ) tag.toNat (s.get PX_GUARD.POLICY) (more + 1)) k
    exec (.bar2Read k off fbe lbe more tag) s =
      run s ((u.setList PX_WQ (s.list PX_WQ k ++ readExchanges (s.get PX_SEQ) ps) k).pxPump) := by
  rw [exec_live (exec_bar2Read k off fbe lbe more tag s) ha]
  have other : (Fifo.key PX_RD k) ≠ Fifo.key PX_WQ k := Fifo.key_ne k k (by decide) (by omega) (by omega)
  simp only [hl, hd, hi, Bool.not_true, Bool.false_eq_true, if_false, ne_eq, not_true, State.enq,
    State.list_setList_ne _ _ other.symm, State.put_list]

end Window

/-! The MSI-X table (R468, R490). -/

/-- The offset of DWORD i of the table (Table PX-4). -/
theorem msixOffset (i : Fin 8192) : (BitVec.ofNat 20 (0x80000 + 4 * i)).toNat = 0x80000 + 4 * i := by
  rw [BitVec.toNat_ofNat]
  omega

theorem State.bar4Write_table (i : Fin 8192) (w : Nat) :
    s.bar4Write (0x80000 + 4 * i) w = s.store .msix i (msixStored i w) := by
  have entry : (0x80000 + 4 * i.val - 0x80000) / 4 = i := by omega
  rw [State.bar4Write, if_pos (by simp; omega), entry]

theorem State.bar4Read_table (i : Fin 8192) :
    s.bar4Read (0x80000 + 4 * i) = msixShown i (s.load .msix i) := by
  have entry : (0x80000 + 4 * i.val - 0x80000) / 4 = i := by omega
  rw [State.bar4Read, if_pos (by simp; omega), entry]

theorem msixStored_lt {i w : Nat} (h : w < 2 ^ 32) : msixStored i w < 2 ^ 80 := by
  unfold msixStored
  split <;> omega

section Msix

variable (ha : Awake s) (hl : s.linkUp = true) (hd : s.get PX_LINK.DSTATE = 0) {i : Fin 8192} {w : BitVec 64}
  {tag : BitVec 10}
include ha hl hd

theorem msixTable_stores : Answers (.msixTableAccess true (BitVec.ofNat 20 (0x80000 + 4 * i)) 4 w tag) s fun t =>
    t.load .msix i = msixStored i (w.toNat % 2 ^ 32) ∧
    ∀ g b, Region.base g + b ≠ Region.base .msix + i.val → t.load g b = s.load g b := by
  refine answers_live_delivers (exec_msixTableAccess true _ 4 w tag s) ha fun t ht => ?_
  have off := msixOffset i
  simp +decide only [hl, hd, off, Bool.not_true, if_true, if_false] at ht
  rw [if_pos (by simp), State.bar4Write_table] at ht
  have load (g b) : t.load g b = (s.store .msix i (msixStored i (w.toNat % 2 ^ 32))).load g b := by
    obtain ⟨mem, cells, -⟩ := (s.store .msix i (msixStored i (w.toNat % 2 ^ 32))).pbaFlush_same
    rw [ht.load, State.load_of_eq mem cells]
  refine ⟨?_, fun g b apart => (load g b).trans (State.load_store_apart s _ apart)⟩
  rw [load, State.load_store_self]
  exact Nat.mod_eq_of_lt (msixStored_lt (Nat.mod_lt _ (by decide)))

theorem msixTable_shows : exec (.msixTableAccess false (BitVec.ofNat 20 (0x80000 + 4 * i)) 4 w tag) s =
    run s (s.hostData tag.toNat (msixShown i (s.load .msix i))) := by
  rw [exec_live (exec_msixTableAccess false _ 4 w tag s) ha]
  have off := msixOffset i
  simp +decide only [hl, hd, off, Bool.not_true, if_false]
  rw [if_pos (by simp), State.bar4Read_table]
  rfl

end Msix

/-! Push doorbells (R486). -/

theorem pushDoorbell_pushes (ha : Awake s) (hl : s.linkUp = true) (hd : s.get PX_LINK.DSTATE = 0) {c : Fin 32}
    {v : BitVec 64} (he : s.get PX_CHCFG.EN c = 1) (hp : s.get PX_CHCFG.PUSH c = 1) :
    let r := s.qNow { who := dmaCode c, queue := s.get PX_CHCFG.QUEUE c, op := opPUSH,
                      lane := s.get PX_CHCFG.LANE c, any := false, block := false, data := v.toNat }
    exec (.pushDoorbell c true v) s = run s (if r.1.status = stOK then r.2.chBytes c 8 else r.2) := by
  rw [exec_live (exec_pushDoorbell c true v s) ha]
  simp only [State.flag, hl, hd, he, hp, Bool.not_true, ne_eq, not_true, decide_false, Bool.or_self, Bool.false_eq_true,
    if_false, decide_true, Bool.and_self, if_true]

theorem pushDoorbell_errs (ha : Awake s) (hl : s.linkUp = true) (hd : s.get PX_LINK.DSTATE = 0) {c : Fin 32}
    {v : BitVec 64} (he : s.get PX_CHCFG.EN c = 0) : Answers (.pushDoorbell c true v) s fun t =>
      t.get PX_IRQ.DMA_ERR = 1 := by
  refine answers_live_delivers (exec_pushDoorbell c true v s) ha fun t ht => ?_
  rw [if_neg (by simp [hl, hd]), if_neg (by simp [State.flag, he])] at ht
  rw [ht.get (by decide)]
  simp +decide [State.raise_get, State.get_put_self]

/-! Guard times (R472 to R474). -/

/-- The windows go on within their own queues. -/
theorem State.pxPump_within : s.Within ⟨∅, {q | q ∈ listsUpTo [PX_WQ, PX_XQ, XP_Q] 16}, False⟩ s.pxPump :=
  .pxPump .refl fun _ hq => hq

theorem State.pxPump_get {g : Field} {j : Nat} (hm : g.key j ≠ MSI_PEND.key 0) : s.pxPump.get g j = s.get g j :=
  State.pxPump_within.get (Set.notMem_empty _) hm False.elim

theorem State.pxPump_reads (k : Fin 16) : s.pxPump.list PX_RD k = s.list PX_RD k := by
  refine State.pxPump_within.list fun listed => ?_
  obtain ⟨j, hj, listed⟩ := List.mem_flatMap.mp listed
  obtain ⟨q, hq, same⟩ := List.mem_map.mp listed
  have bound := List.mem_range.mp hj
  have other : q.id ≠ PX_RD.id := (by decide : ∀ q ∈ [PX_WQ, PX_XQ, XP_Q], q.id ≠ PX_RD.id) q hq
  exact Fifo.key_ne _ _ other (by omega) (by omega) same

theorem readGuard_answers (ha : Awake s) {k : Fin 16} {r : Nat} {rest : List Nat} (hr : s.list PX_RD k = r :: rest) :
    Answers (.readGuardExpiry (.window k)) s fun t => t.get PX_IRQ.GUARD = 1 ∧ t.list PX_RD k = rest ∧
      t.get PX_GCNT.GUARDED = min (s.get PX_GCNT.GUARDED + 1) (2 ^ PX_GCNT.GUARDED.width - 1) := by
  refine answers_live_delivers (exec_readGuardExpiry _ s) ha fun t ht => ?_
  simp only [State.windowGuard, hr] at ht
  rw [ht.get (by decide), ht.get (by decide), ht.list, State.pxPump_get (by decide), State.pxPump_get (by decide), State.pxPump_reads]
  unfold State.guardCount State.policyAnswer
  dsimp only
  split <;> simp +decide [State.raise_get, State.raise_list, State.get_put_ne, State.get_put_self, State.get_count_self,
    State.list_setList_self]

theorem writeGuard_drops (ha : Awake s) {k : Fin 16} {e : Nat} (he : (s.list PX_WQ k).find? exWrite = some e) :
    Answers (.writeGuardExpiry k) s fun t => t.get PX_IRQ.WDROP = 1 ∧
      t.get PX_WDROP.GUARD = min (s.get PX_WDROP.GUARD + 1) (2 ^ PX_WDROP.GUARD.width - 1) := by
  refine answers_live_delivers (exec_writeGuardExpiry k s) ha fun t ht => ?_
  simp only [he] at ht
  rw [ht.get (by decide), ht.get (by decide), State.pxPump_get (by decide), State.pxPump_get (by decide)]
  simp +decide [State.pxForget, State.raise_get, State.get_put_ne, State.get_put_self, State.get_count_self]

end Clauses

/-- Settles O29: the requests of the host, by the queue, table or counter that each reaches. -/
theorem hostRequestsReachTheirWindows : Obligations.HostRequestsReachTheirWindows := by
  intro s ha hl
  refine ⟨fun d be w tag hm => ⟨?_, configRequest_writes ha hl hm⟩,
    fun hd hm addr => ⟨fun w => bar0Request_writes ha hl hd hm addr w, fun tag v t hr =>
      bar0Request_reads ha hl hd hm addr hr⟩,
    fun k off fbe lbe w more hd => ⟨fun hi => bar2Write_dropped ha hl hd hi, fun hi => bar2Write_queues ha hl hd hi⟩,
    fun k off fbe lbe more tag => ⟨fun hd => bar2Read_unsupported ha hl hd, fun hd hi => bar2Read_queues ha hl hd hi⟩,
    fun i w tag hd => ⟨msixTable_stores ha hl hd, msixTable_shows ha hl hd⟩,
    fun c v hd => ⟨fun he hp => pushDoorbell_pushes ha hl hd he hp, fun he => pushDoorbell_errs ha hl hd he⟩,
    fun k r rest hr => readGuard_answers ha hr, fun k e he => writeGuard_drops ha he⟩
  rw [exec_live (exec_configRequest false d be w tag s) ha]
  simp only [hl, hm, Bool.not_true, decide_false, Bool.or_self, Bool.false_eq_true, if_false]

end Sys2Proof.Machine
end

section
/-! What a teardown of the blocks leaves alone: the mode and the states of the key slots (spec/01, spec/17, spec/21). -/

namespace Sys2Proof.Machine

/-- The cells that no teardown of a block reaches, with the number of their elements. -/
def sparedFields : List (Field × Nat) := [(PW_MODE.MODE, 1), (GH_KSTAT.STATE, 8)]

/-- All cells but those. -/
def unspared : Set Nat := (elementsOf sparedFields)ᶜ

/-- No element of a field is spared. -/
def Field.unspared (f : Field) : Bool := sparedFields.all fun p => f.clear p.1 p.2

/-- No spared cell lies in a range of offsets. -/
def sparedOutside (lo hi : Nat) : Bool :=
  sparedFields.all fun p => p.1.place + 32 * p.1.stride * (p.2 - 1) < 32 * lo || 32 * hi ≤ p.1.place

theorem mem_unspared {f : Field} {i : Nat} (hf : f.unspared = true) : f.key i ∈ unspared := by
  rintro ⟨p, hp, j, hj, same⟩
  exact Field.key_clear hj (List.all_eq_true.mp hf p hp) same

theorem allCells_unspared {fs : List Field} (h : (fs.all Field.unspared) = true) : allCells fs ⊆ unspared := by
  rintro k ⟨f, hf, i, rfl⟩
  exact mem_unspared (List.all_eq_true.mp h f hf)

theorem noise_unspared : ∀ k ∈ noiseCells, k ∈ unspared := by
  intro k hk
  obtain ⟨f, hf, rfl⟩ := List.mem_map.mp hk
  exact mem_unspared ((by decide : ∀ f ∈ [MSI_PEND, EV_DROP.COUNT, DROP_EPISODE], f.unspared = true) f (by simpa using hf))

theorem queueCells_unspared : queueCells ⊆ unspared := by
  rintro k ((inQueues | ⟨p, hp, i, -, rfl⟩) | noise)
  · exact allCells_unspared (by decide) inQueues
  · rw [List.mem_singleton.mp hp]
    exact mem_unspared (by decide)
  · exact noise_unspared k noise

theorem spared_outside {lo hi : Nat} (h : sparedOutside lo hi = true) {k : Nat} (hk : k ∉ unspared) :
    k < 32 * lo ∨ 32 * hi ≤ k := by
  obtain ⟨p, hp, i, hi, rfl⟩ := Classical.not_not.mp hk
  have apart := List.all_eq_true.mp h p hp
  have low : 32 * p.1.stride * i ≤ 32 * p.1.stride * (p.2 - 1) := Nat.mul_le_mul_left _ (by omega)
  simp only [Bool.or_eq_true, decide_eq_true_eq] at apart
  rw [Field.key_eq_place]
  omega

/-- A spared cell reads the same afterwards. -/
theorem State.Alters.get_spared {s t : State} (h : s.Alters unspared t) {f : Field} {n i : Nat}
    (hf : (f, n) ∈ sparedFields) (hi : i < n) : t.get f i = s.get f i := h f i fun hk => hk ⟨_, hf, i, hi, rfl⟩

namespace State.Alters

variable {s t : State}

theorem putUn (h : s.Alters unspared t) {f : Field} {v i : Nat} (hf : f.unspared = true) : s.Alters unspared (t.put f v i) :=
  h.put (mem_unspared hf)

theorem raiseUn (h : s.Alters unspared t) {c : Rc} {obj d : Nat} : s.Alters unspared (t.raise c obj d) :=
  h.raise noise_unspared

theorem of_queue (h : s.Alters queueCells t) : s.Alters unspared t := fun g j hk => h g j fun hq => hk (queueCells_unspared hq)

theorem of_fields {fs : List Field} (h : s.Within (.fields fs) t) (hf : (fs.all Field.unspared) = true) :
    s.Alters unspared t := .of_within h (allCells_unspared hf) noise_unspared

/-- Stores that drop no spared cell. -/
theorem filtered (h : s.Alters unspared t) {p : Nat × Nat → Bool} (hp : ∀ k v, k ∉ unspared → p (k, v) = true) :
    s.Alters unspared { t with cells := t.cells.filter p } := fun g j hk =>
  (Store.get_filter _ _ _ _ fun v => hp _ v hk).trans (h g j hk)

theorem clearRange (h : s.Alters unspared t) {lo hi : Nat} (hr : sparedOutside lo hi = true) :
    s.Alters unspared (t.clearRange lo hi) := h.filtered fun k _ hk => by simpa using spared_outside hr hk

theorem forget (h : s.Alters unspared t) {fs : List Field}
    (hf : (fs.all fun f => sparedOutside f.off (f.off + 0x100000)) = true) : s.Alters unspared (t.forget fs) :=
  h.filtered fun k _ hk => by
    have apart (f : Field) (hm : f ∈ fs) := spared_outside (List.all_eq_true.mp hf f hm) hk
    simp only [Bool.not_eq_true', List.any_eq_false, Bool.and_eq_true, decide_eq_true_eq, not_and, not_lt]
    intro f hm low
    exact (apart f hm).resolve_left (by omega)

/-! The parts of a teardown. -/

theorem govModeEntry (h : s.Alters unspared t) : s.Alters unspared t.govModeEntry := by
  have sent {u : State} (hu : s.Alters unspared u) (p : Nat) : s.Alters unspared (u.avsSend p) :=
    .emit (hu.putUn (by decide)) _ _
  have committed {u : State} (hu : s.Alters unspared u) (v : Nat) : s.Alters unspared (u.commit v) :=
    .ite hu (.ite (sent (.putUn (.putUn (.putUn (hu.putUn (by decide)) (by decide)) (by decide)) (by decide)) 1)
      (hu.putUn (by decide)))
  have stopped {u : State} (hu : s.Alters unspared u) : s.Alters unspared u.govStopped :=
    .putUn (.putUn (hu.putUn (by decide)) (by decide)) (by decide)
  have off : s.Alters unspared (t.put PW_GOVCTL.GOV_EN 0) := h.putUn (by decide)
  exact committed (.ite (.ite (off.putUn (by decide)) (.ite off (stopped off))) h) 800

theorem qOp (h : s.Alters unspared t) {o : QOp} {r : QRes × State} (hr : t.qExec o = some r) : s.Alters unspared r.2 :=
  h.trans (.of_queue (by have reached := State.Alters.qExec (s := t) o; rw [hr] at reached; exact reached r rfl))

theorem chOp (h : s.Alters unspared t) {c op data : Nat} {r : QRes × State} (hr : t.chOp c op data = some r) :
    s.Alters unspared r.2 := by
  obtain ⟨x, hx, rfl⟩ := Option.map_eq_some_iff.mp hr
  exact (h.qOp hx).trans (.of_queue (.regrantAll .refl _))

theorem chDrain (n c : Nat) (h : s.Alters unspared t) : s.Alters unspared (chDrain n c t) := by
  induction n generalizing t with
  | zero => exact h
  | succ n ih =>
    rw [Machine.chDrain]
    split
    next r hr => exact ih (h.chOp hr)
    next => exact h

theorem chBreak (h : s.Alters unspared t) (c : Nat) : s.Alters unspared (t.chBreak c) := by
  have rest {u : State} (hu : s.Alters unspared u) :
      s.Alters unspared ((((u.put CH_OPEN 0 c).put CH_PKT 0 c).put CH_TRUNC 0 c).put CH_FLAGS 0 c) :=
    .putUn (.putUn (.putUn (hu.putUn (by decide)) (by decide)) (by decide)) (by decide)
  refine rest (.ite h (.ite (.ite h ?_) (h.chDrain _ _)))
  split
  next r hr => exact h.chOp hr
  next => exact h

theorem chStop (h : s.Alters unspared t) (c : Nat) : s.Alters unspared (t.chStop c) := by
  have broken := h.chBreak c
  have idle : s.Alters unspared ((t.chBreak c).chNone c) :=
    .setList (.putUn (.putUn (.putUn (.putUn (.putUn (broken.putUn (by decide)) (by decide)) (by decide)) (by decide))
      (by decide)) (by decide)) _ _ _
  have unbound : s.Alters unspared (if chH2D c then ((t.chBreak c).chNone c).unbindProducer (dmaCode c) (t.get PX_CHCFG.QUEUE c)
      else ((t.chBreak c).chNone c).unbindConsumer (dmaCode c) (t.get PX_CHCFG.QUEUE c)) :=
    .ite (.foldl idle fun u _ _ => .setList .refl _ _ _) (.ite (idle.putUn (by decide)) idle)
  exact .trans (.putUn (unbound.putUn (by decide)) (by decide)) (.of_queue (.regrantAll .refl _))

theorem channelsOff (h : s.Alters unspared t) : s.Alters unspared t.channelsOff :=
  .foldl h fun _ _ _ => .ite (.chStop .refl _) .refl

theorem linkLost (h : s.Alters unspared t) : s.Alters unspared t.linkLost :=
  .ite (.raiseUn (.putUn (.putUn (.putUn (h.putUn (by decide)) (by decide)) (by decide)) (by decide))) h

theorem idTake (h : s.Alters unspared t) : s.Alters unspared t.idTake :=
  .putUn (.putUn (h.putUn (by decide)) (by decide)) (by decide)

theorem xpSync (h : s.Alters unspared t) (x side : Nat) : s.Alters unspared (t.xpSync x side) :=
  .putUn (.putUn (.putUn (.putUn (h.setList _ _ _) (by decide)) (by decide)) (by decide)) (by decide)

theorem wipe (h : s.Alters unspared t) (r : Region) : s.Alters unspared (t.wipe r) := h

theorem unarmed (h : s.Alters unspared t) : s.Alters unspared { t with pba := [] } := h

theorem hostDropped (h : s.Alters unspared t) : s.Alters unspared t.channelsOff.hostDropped := by
  have reads (u : State) (n : Nat) : u.Alters unspared (u.setList PX_RREAD
      ((u.list PX_RREAD n).map fun r => if bits r 0 12 = 11 then r + 4 else r) n) := .setList .refl _ _ _
  exact .setList (.setList (.foldl h.channelsOff fun u n _ => reads u n) _ _ _) _ _ _

theorem windowReset (u : State) (k : Nat) : u.Alters unspared
    (let v := ((u.setList PX_XQ [] k).setList PX_WQ [] k).setList PX_RD [] k
     let st := v.get XP_STAT.STATE k
     if st = xpSYNC || st = xpRUN then v.xpSync k 1 else v) := by
  have emptied : u.Alters unspared (((u.setList PX_XQ [] k).setList PX_WQ [] k).setList PX_RD [] k) :=
    .setList (.setList (.setList .refl _ _ _) _ _ _) _ _ _
  exact .ite (emptied.xpSync _ _) emptied

theorem endpointReset (h : s.Alters unspared t) : s.Alters unspared t.endpointReset := by
  unfold State.endpointReset
  extract_lets n first second third fourth fifth
  have dropped : s.Alters unspared first := h.hostDropped
  have windows : s.Alters unspared second := .foldl dropped fun u k _ => windowReset u k
  have wiped : s.Alters unspared ((second.wipe .cfgSpace).wipe .msix) := .wipe (.wipe windows _) _
  have taken : s.Alters unspared third := .putUn (f := SL_PXCFG.ACTIVE) wiped.idTake (by decide)
  have masked : s.Alters unspared fourth :=
    taken.unarmed.putUn (f := MSIX_FMASK) (by decide) |>.putUn (f := MSI_PEND) (by decide)
  exact .raiseUn (.putUn (.putUn (.putUn (.putUn (masked.putUn (by decide)) (by decide)) (by decide)) (by decide)) (by decide))

theorem epOff (h : s.Alters unspared t) (e : Nat) : s.Alters unspared (t.epOff e) := by
  have refused {u : State} (hu : s.Alters unspared u) (status : Nat) : s.Alters unspared (u.cpRefuse e status) := by
    unfold State.cpRefuse
    dsimp only
    split
    · exact .ite (.emit (hu.setList _ _ _) _ _) hu
    · exact hu
  have emptied {u : State} (hu : s.Alters unspared u) : s.Alters unspared (u.epEmpty e) :=
    .putUn (.putUn (.putUn (.putUn (.ite (.setList (hu.setList _ _ _) _ _ _) (hu.setList _ _ _)) (by decide)) (by decide))
      (by decide)) (by decide)
  exact .setList (.putUn (.putUn (emptied (refused h 4)) (by decide)) (by decide)) _ _ _

theorem lanesDark (h : s.Alters unspared t) (l : Nat) : s.Alters unspared ((t.pcsReset l).laneDark l) :=
  .putUn (.putUn (.putUn (.putUn (.putUn (.putUn (.putUn h (by decide)) (by decide)) (by decide)) (by decide)) (by decide))
    (by decide)) (by decide)

theorem lifeEnd (h : s.Alters unspared t) (n cause : Nat) : s.Alters unspared (t.lifeEnd n cause) :=
  h.trans (.of_fields (.lifeEnd .refl (List.Subset.refl lifeFields) n cause) (by decide))

theorem portStop (h : s.Alters unspared t) (n : Nat) : s.Alters unspared (t.portStop n) :=
  .foldl (.lifeEnd (h.putUn (by decide)) _ _) fun _ _ _ =>
    .lanesDark (.putUn (.putUn .refl (by decide)) (by decide)) _

theorem hxAllDown (h : s.Alters unspared t) : s.Alters unspared t.hxAllDown := by
  have closed : s.Alters unspared ((t.list HX_EPON).foldl (fun u e => u.epOff e) t) :=
    .foldl h fun _ _ _ => .epOff .refl _
  have ports := State.Alters.foldl (l := List.range 32) (f := fun u j =>
    if u.flag HX_CPCFG.EN j then u.put HX_CPCFG.EN 0 j else u) closed fun _ _ _ => .ite (.putUn .refl (by decide)) .refl
  have links := State.Alters.foldl (l := List.range 8) (f := fun u n =>
    if u.flag HX_PCFG.EN n then u.portStop n else u) ports fun _ _ _ => .ite (.portStop .refl _) .refl
  exact .putUn (.putUn (links.putUn (by decide)) (by decide)) (by decide)

theorem synOff (h : s.Alters unspared t) (k : Nat) : s.Alters unspared (t.synOff k) :=
  .putUn (.putUn (.putUn (h.putUn (by decide)) (by decide)) (by decide)) (by decide)

theorem ckStop (h : s.Alters unspared t) : s.Alters unspared t.ckStop :=
  .foldl (.putUn (h.putUn (by decide)) (by decide)) fun _ _ _ => .synOff .refl _

theorem slStop (h : s.Alters unspared t) : s.Alters unspared t.slStop := by
  have lanes := State.Alters.foldl (l := List.range 40) (f := fun u l => if u.flag SL_LCFG.EN l then u.laneStop l else u) h
    fun _ _ _ => .ite (.lanesDark (.putUn (.putUn .refl (by decide)) (by decide)) _) .refl
  exact .foldl lanes fun _ _ _ => .ite .refl
    (.putUn (.putUn (.putUn (.putUn (.putUn .refl (by decide)) (by decide)) (by decide)) (by decide)) (by decide))

theorem coreReset (h : s.Alters unspared t) (st : Nat) : s.Alters unspared (t.coreReset st) := by
  unfold State.coreReset
  extract_lets w rst open_ first second
  have gone := h.forget (fs := hartFields) (by decide)
  have waiting : s.Alters unspared first := .putUn (gone.putUn (f := RV_WAIT) (by decide)) (by decide)
  have held : s.Alters unspared second := .putUn (.putUn (waiting.putUn (by decide)) (by decide)) (by decide)
  exact .ite held (.ite (held.putUn (by decide)) (.ite (held.putUn (by decide)) held))

theorem mirrorReset (h : s.Alters unspared t) : s.Alters unspared t.mirrorReset := by
  have cleared : s.Alters unspared { t with cells := t.cells.filter fun c => c.1 < 32 * 0x28000 || 32 * 0x29000 ≤ c.1 } :=
    h.clearRange (lo := 0x28000) (hi := 0x29000) (by decide)
  have forgotten := (((((cleared.setList JOURNAL_WORDS [] 0).putUn (f := MI_JLEVEL.WORDS) (v := 0) (i := 0)
    (by decide)).putUn (f := JOPEN) (v := 0) (i := 0) (by decide)).setList MI_EPOCHS [] 0).setList DIRTY_LANES [] 0).putUn
    (f := MI_SENT) (v := 0) (i := 0) (by decide)
  exact .putUn (.putUn (.putUn (.putUn (.putUn (.putUn (.putUn (.putUn forgotten (by decide)) (by decide)) (by decide))
    (by decide)) (by decide)) (by decide)) (by decide)) (by decide)

theorem dropLists (h : s.Alters unspared t) (qs : List Fifo) : s.Alters unspared (t.dropLists qs) := h

theorem designGone (h : s.Alters unspared t) : s.Alters unspared t.designGone := by
  have stopped := ((h.channelsOff.coreReset lgRESET).mirrorReset).synOff 0
  have registers := ((stopped.clearRange (lo := 0x5000) (hi := 0x7000) (by decide)).clearRange (lo := 0x8000) (hi := 0xB000)
    (by decide)).clearRange (lo := 0x10000) (hi := 0x1C000) (by decide)
  have blocks := (registers.clearRange (lo := 0x30000) (hi := 0x34000) (by decide)).clearRange (lo := 0x40000) (hi := 0x80000)
    (by decide)
  have state := ((blocks.forget (fs := designFields) (by decide)).forget (fs := lodgeFields) (by decide)).dropLists
    (designLists ++ [LG_TX, LG_RX])
  exact .putUn (state.putUn (by decide)) (by decide)

theorem claimsEnd (h : s.Alters unspared t) : s.Alters unspared t.claimsEnd :=
  .foldl h fun _ _ _ => .ite .refl (.putUn (.putUn .refl (by decide)) (by decide))

theorem pinsReset (h : s.Alters unspared t) : s.Alters unspared t.pinsReset :=
  .foldl (.forget (h.clearRange (by decide)) (by decide)) fun _ _ _ => .putUn (.putUn .refl (by decide)) (by decide)

end State.Alters

end Sys2Proof.Machine
end

section
/-! How a Gatehouse command begins and ends (R628, R629). -/

namespace Sys2Proof.Machine

/-- What the interface shows of a command that it has accepted, with its arguments kept. -/
def State.issued (s : State) (m : Master) (op : Nat) : State :=
  (List.range 4).foldl (fun u i => u.put CMD_ARG (u.get GH_ARG.ARG i) i)
    ((((s.put GH_STATUS.OP op).cmdStatus 1 0).put CMD_OP op).put CMD_BY m.code)

/-- The cells of the interface's status. -/
def statusFields : List (Field × Nat) := [(GH_STATUS.STATE, 1), (GH_STATUS.RESULT, 1), (GH_IRQ.CMD, 1)]

/-- The cells of the running command. -/
def overFields : List (Field × Nat) := [(CMD_OP, 1), (CMD_RES, 1), (CMD_KEY, 1)]

/-- The cells that an accepted command writes. -/
def commandFields : List (Field × Nat) := statusFields ++ [(GH_STATUS.OP, 1), (CMD_OP, 1), (CMD_BY, 1), (CMD_ARG, 4)]

/-- The cells of a command's end. -/
def endFields : List (Field × Nat) := statusFields ++ (overFields ++ [(GH_REFUSE.CODE, 1), (GH_REFUSE.OBJ, 1)])

theorem statusFields_ends : statusFields ⊆ endFields := List.subset_append_left _ _

theorem overFields_ends : overFields ⊆ endFields := 
  List.Subset.trans (List.subset_append_left _ _) (List.subset_append_right _ _)

section Shape

variable {s : State} {m : Master} {op : Nat}

theorem State.ghCheck_named : (s.put GH_STATUS.OP op).ghCheck m op = s.ghCheck m op := by
  have running : (s.put GH_STATUS.OP op).get CMD_OP = s.get CMD_OP := by simp +decide [State.get_put_ne]
  have mode : (s.put GH_STATUS.OP op).get PW_MODE.MODE = s.get PW_MODE.MODE := by simp +decide [State.get_put_ne]
  have pins : (s.put GH_STATUS.OP op).get MODE_PINS = s.get MODE_PINS := by simp +decide [State.get_put_ne]
  have policy : (s.put GH_STATUS.OP op).get GH_POLICY.REMOTE_CMD = s.get GH_POLICY.REMOTE_CMD := by
    simp +decide [State.get_put_ne]
  have argument (i : Nat) : (s.put GH_STATUS.OP op).get GH_ARG.ARG i = s.get GH_ARG.ARG i := by
    simp +decide [State.get_put_ne]
  simp only [State.ghCheck, State.permitted, State.mode, State.argsBad, State.loadMode, State.flag, running, mode, pins,
    policy, argument]
  rfl

theorem State.ghCommand_issued {body : State → State} (ho : s.get GH_CMDOWN.OWNER = m.code) (hc : s.ghCheck m op = none) :
    s.ghCommand m op body = body (s.issued m op) := by
  rw [State.ghCommand, if_neg (by simp [ho])]
  dsimp only
  rw [State.ghCheck_named, hc]
  rfl

/-- An accepted command ends in its body, delivered. -/
theorem answers_issue_delivers {c : Instr} {body : State → State} {P : State → Prop}
    (hc : exec c s = live s fun s => s.onWrite m 0x24 op fun s => s.ghCommand m op body) (hi : Issues m op s)
    (hp : ∀ t, (body (s.issued m op)).Delivers t → P t) : Answers c s P := by
  obtain ⟨writes, owner, checked⟩ := hi
  refine answers_write_delivers hc writes fun t ht => hp t ?_
  rwa [State.ghCommand_issued owner checked] at ht

end Shape

section Within

variable {s t : State} {fs : List (Field × Nat)}

theorem State.Within.cmdStatus (h : s.Within (.elements fs) t) (hf : statusFields ⊆ fs) (state result : Nat) :
    s.Within (.elements fs) (t.cmdStatus state result) := by
  have put {u : State} {f : Field} {v : Nat} (hm : (f, 1) ∈ statusFields) (hu : s.Within (.elements fs) u) :
      s.Within (.elements fs) (u.put f v) := hu.putIn (hf hm) Nat.one_pos
  exact put (by simp [statusFields]) (put (by simp [statusFields]) (.ite (put (by simp [statusFields]) h) h))

theorem State.Within.cmdOver (h : s.Within (.elements fs) t) (hf : overFields ⊆ fs) : s.Within (.elements fs) t.cmdOver := by
  have put {u : State} {f : Field} {v : Nat} (hm : (f, 1) ∈ overFields) (hu : s.Within (.elements fs) u) :
      s.Within (.elements fs) (u.put f v) := hu.putIn (hf hm) Nat.one_pos
  exact put (by simp [overFields]) (put (by simp [overFields]) (put (by simp [overFields]) h))

theorem State.Within.cmdDone (h : s.Within (.elements fs) t) (hf : endFields ⊆ fs) : s.Within (.elements fs) t.cmdDone :=
  (h.cmdOver (List.Subset.trans overFields_ends hf)).cmdStatus (List.Subset.trans statusFields_ends hf) _ _

theorem State.Within.cmdFailAs (h : s.Within (.elements fs) t) (hf : endFields ⊆ fs) (rc : Rc) (obj detail : Nat) :
    s.Within (.elements fs) (t.cmdFailAs rc obj detail) := by
  have put {u : State} {f : Field} {v : Nat} (hm : (f, 1) ∈ endFields) (hu : s.Within (.elements fs) u) :
      s.Within (.elements fs) (u.put f v) := hu.putIn (hf hm) Nat.one_pos
  have code : (GH_REFUSE.CODE, 1) ∈ endFields := by simp [endFields]
  have obj : (GH_REFUSE.OBJ, 1) ∈ endFields := by simp [endFields]
  exact .raise (put obj (put code (put (f := refuseObj 1) obj (put (f := refuseCode 1) code
    (h.cmdStatus (List.Subset.trans statusFields_ends hf) _ _))))) trivial

theorem State.Within.cmdFail (h : s.Within (.elements fs) t) (hf : endFields ⊆ fs) (rc : Rc) (obj : Nat) :
    s.Within (.elements fs) (t.cmdFail rc obj) := (h.cmdOver (List.Subset.trans overFields_ends hf)).cmdFailAs hf _ _ _

theorem State.Within.issued (h : s.Within (.elements fs) t) (hf : commandFields ⊆ fs) (m : Master) (op : Nat) :
    s.Within (.elements fs) (t.issued m op) := by
  have put {u : State} {f : Field} {v i b : Nat} (hm : (f, b) ∈ commandFields) (hi : i < b)
      (hu : s.Within (.elements fs) u) : s.Within (.elements fs) (u.put f v i) := hu.putIn (hf hm) hi
  have status := (put (v := op) (by simp [commandFields] : (GH_STATUS.OP, 1) ∈ _) Nat.one_pos h).cmdStatus
    (List.Subset.trans (List.subset_append_left _ _) hf) 1 0
  refine .foldl (put (by simp [commandFields] : (CMD_BY, 1) ∈ _) Nat.one_pos (put (by simp [commandFields] : (CMD_OP, 1) ∈ _)
    Nat.one_pos status)) fun u i hi => ?_
  exact .putIn .refl (hf (by simp [commandFields] : (CMD_ARG, 4) ∈ _)) (List.mem_range.mp hi)

end Within

section Reads

variable {s : State} {m : Master} {op : Nat} {g : Field} {n j : Nat}

theorem State.issued_get (hg : g.clearOf n commandFields = true) (hj : j < n) : (s.issued m op).get g j = s.get g j :=
  (State.Within.issued .refl (List.Subset.refl _) m op).get_elements hg hj

theorem State.issued_arg (i : Fin 4) : (s.issued m op).get CMD_ARG i = s.get GH_ARG.ARG i % 2 ^ 32 := by
  have named : ((((s.put GH_STATUS.OP op).cmdStatus 1 0).put CMD_OP op).put CMD_BY m.code).get GH_ARG.ARG i = s.get GH_ARG.ARG i := by
    simp +decide [State.cmdStatus, State.get_put_ne]
  simp only [State.issued, List.range_succ, List.range_zero, List.nil_append, List.foldl_append, List.foldl_cons, List.foldl_nil]
  rw [← named]
  fin_cases i <;> simp +decide [State.get_put_ne, State.get_put_self] <;> rfl

theorem State.issued_status : (s.issued m op).get GH_STATUS.STATE = 1 ∧ (s.issued m op).get CMD_OP = op % 2 ^ CMD_OP.width ∧
    (s.issued m op).get CMD_BY = m.code % 2 ^ CMD_BY.width := by
  refine ⟨?_, ?_, ?_⟩ <;>
  · simp only [State.issued, List.range_succ, List.range_zero, List.nil_append, List.foldl_append, List.foldl_cons,
      List.foldl_nil]
    simp +decide [State.cmdStatus, State.get_put_ne, State.get_put_self]

theorem State.cmdStatus_get {state result : Nat} (hg : g.clearOf n statusFields = true) (hj : j < n) :
    (s.cmdStatus state result).get g j = s.get g j :=
  (State.Within.refl.cmdStatus (List.Subset.refl _) _ _).get_elements hg hj

theorem State.cmdOver_over : s.cmdOver.get CMD_OP = 0 := by
  simp +decide [State.cmdOver, State.get_put_ne, State.get_put_self]

theorem State.cmdDone_get (hg : g.clearOf n endFields = true) (hj : j < n) : s.cmdDone.get g j = s.get g j :=
  (State.Within.refl.cmdDone (List.Subset.refl _)).get_elements hg hj

theorem State.cmdFailAs_get {rc : Rc} {obj detail : Nat} (hg : g.clearOf n endFields = true) (hj : j < n) :
    (s.cmdFailAs rc obj detail).get g j = s.get g j :=
  (State.Within.refl.cmdFailAs (List.Subset.refl _) _ _ _).get_elements hg hj

theorem State.cmdFail_get {rc : Rc} {obj : Nat} (hg : g.clearOf n endFields = true) (hj : j < n) :
    (s.cmdFail rc obj).get g j = s.get g j :=
  (State.Within.refl.cmdFail (List.Subset.refl _) _ _).get_elements hg hj

theorem State.cmdStatus_state {state result : Nat} : (s.cmdStatus state result).get GH_STATUS.STATE = state % 2 ^ 3 ∧
    (s.cmdStatus state result).get GH_STATUS.RESULT = result % 2 ^ 16 := by
  simp +decide [State.cmdStatus, State.get_put_ne, State.get_put_self]
  constructor <;> rfl

theorem State.cmdDone_shows : s.cmdDone.get GH_STATUS.STATE = 2 ∧ s.cmdDone.get GH_STATUS.RESULT = 0x0100 ∧
    s.cmdDone.get CMD_OP = 0 := by
  obtain ⟨state, result⟩ := State.cmdStatus_state (s := s.cmdOver) (state := 2) (result := 0x0100)
  refine ⟨state, result, ?_⟩
  rw [State.cmdDone, State.cmdStatus_get (n := 1) (by decide) Nat.one_pos, State.cmdOver_over]

theorem State.cmdFailAs_shows {rc : Rc} {obj detail : Nat} : (s.cmdFailAs rc obj detail).get GH_STATUS.STATE = 3 ∧
    (s.cmdFailAs rc obj detail).get GH_STATUS.RESULT = rc.num % 2 ^ 16 := by
  obtain ⟨state, result⟩ := s.cmdStatus_state (state := 3) (result := rc.num)
  simp +decide [State.cmdFailAs, State.refuseBy, refuseCode, refuseObj, State.raise_get, State.get_put_ne, state, result]

theorem State.cmdFail_shows {rc : Rc} {obj : Nat} : (s.cmdFail rc obj).get GH_STATUS.STATE = 3 ∧
    (s.cmdFail rc obj).get GH_STATUS.RESULT = rc.num % 2 ^ 16 ∧ (s.cmdFail rc obj).get CMD_OP = 0 := by
  obtain ⟨state, result⟩ := s.cmdOver.cmdFailAs_shows (rc := rc) (obj := obj) (detail := s.get CMD_ARG 0)
  refine ⟨state, result, ?_⟩
  have status : (s.cmdOver.cmdStatus 3 rc.num).get CMD_OP = 0 := by
    rw [State.cmdStatus_get (n := 1) (by decide) Nat.one_pos, State.cmdOver_over]
  simp +decide [State.cmdFail, State.cmdFailAs, State.refuseBy, refuseCode, refuseObj, State.raise_get, State.get_put_ne, status]

end Reads

end Sys2Proof.Machine
end

section
/-! O52: the self-test starts, its tests end, and the end of the last begins a warm reset (R780 to R787). -/

namespace Sys2Proof.Machine

namespace State.Alters

variable {s t : State}

theorem cmdDone (h : s.Alters unspared t) : s.Alters unspared t.cmdDone := by
  have done : s.Alters unspared t.cmdOver := .putUn (.putUn (h.putUn (by decide)) (by decide)) (by decide)
  exact .putUn (.putUn (.ite (done.putUn (by decide)) done) (by decide)) (by decide)

theorem cmdFail (h : s.Alters unspared t) (rc : Rc) (obj : Nat) : s.Alters unspared (t.cmdFail rc obj) := by
  have done : s.Alters unspared t.cmdOver := .putUn (.putUn (h.putUn (by decide)) (by decide)) (by decide)
  have status : s.Alters unspared (t.cmdOver.cmdStatus 3 rc.num) :=
    .putUn (.putUn (.ite (done.putUn (by decide)) done) (by decide)) (by decide)
  exact .raiseUn (.putUn (.putUn (.putUn (f := refuseObj 1) (.putUn (f := refuseCode 1) status (by decide)) (by decide))
    (by decide)) (by decide))

theorem testBlocks (h : s.Alters unspared t) : s.Alters unspared t.testBlocks :=
  .forget (.clearRange (.clearRange (((h.linkLost.endpointReset.hxAllDown.ckStop.slStop.designGone).claimsEnd).pinsReset)
    (by decide)) (by decide)) (by decide)

end State.Alters

theorem State.Alters.mode {s t : State} (h : s.Alters unspared t) : t.mode = s.mode :=
  h.get_spared (by simp [sparedFields] : (PW_MODE.MODE, 1) ∈ _) Nat.one_pos

/-- The mode that is entered. -/
theorem State.setMode_mode (s : State) (new by_ : Nat) : (s.setMode new by_).mode = new % 2 ^ 3 := by
  unfold State.setMode
  dsimp only
  split <;> simp +decide [State.mode, State.raise_get, State.get_put_self] <;> rfl

section Start

variable {s t : State} {m : Master} {freq : BitVec 20} {vcore : BitVec 12} (hi : Issues m 0x09 s)

theorem State.issued_mode {op : Nat} : (s.issued m op).mode = s.mode :=
  State.issued_get (g := PW_MODE.MODE) (n := 1) (by decide) Nat.one_pos

/-- The cells of the governor that the entry of a mode writes. -/
def entryFields : List (Field × Nat) :=
  [(PW_GOVCTL.GOV_EN, 1), (GOV_STOPPING, 1), (PW_GOVSTAT.STATE, 1), (PW_VSET.VSET, 1), (AVS_TARGET, 1), (AVS_TRIES, 1),
    (AVS_REPEATED, 1), (AVS_MISMATCHED, 1), (AVS_PHASE, 1), (AVS_NEXT, 1)]

theorem State.govModeEntry_within (s : State) : s.Within (.elements entryFields) s.govModeEntry := by
  have put {u : State} {f : Field} {v : Nat} (hm : (f, 1) ∈ entryFields) (hu : s.Within (.elements entryFields) u) :
      s.Within (.elements entryFields) (u.put f v) := hu.putIn hm Nat.one_pos
  have committed {u : State} (hu : s.Within (.elements entryFields) u) (v : Nat) :
      s.Within (.elements entryFields) (u.commit v) :=
    .ite hu (.ite (.emit (put (by simp [entryFields]) (put (by simp [entryFields]) (put (by simp [entryFields])
      (put (by simp [entryFields]) (put (by simp [entryFields]) hu)))))) (put (by simp [entryFields]) hu))
  have off := put (f := PW_GOVCTL.GOV_EN) (v := 0) (by simp [entryFields]) (State.Within.refl (s := s))
  have stopped : s.Within (.elements entryFields) (s.put PW_GOVCTL.GOV_EN 0).govStopped :=
    put (by simp [entryFields]) (put (by simp [entryFields]) (put (by simp [entryFields]) off))
  exact committed (.ite (.ite (put (by simp [entryFields]) off) (.ite off stopped)) .refl) 800

/-- What the conditions of the test look at is left by the entry. -/
theorem State.tsCheck_entry (s : State) (m : Master) (freq vcore : Nat) :
    (s.issued m 9).govModeEntry.tsCheck freq vcore = s.tsCheck freq vcore := by
  have entry {g : Field} {n j : Nat} (hj : j < n) (hc : g.clearOf n commandFields = true) (he : g.clearOf n entryFields = true) :
      (s.issued m 9).govModeEntry.get g j = s.get g j :=
    ((s.issued m 9).govModeEntry_within.get_elements he hj).trans (State.issued_get hc hj)
  have temperatures : ∀ k ∈ List.range 16, (s.issued m 9).govModeEntry.get BV_TEMP.VALUE k = s.get BV_TEMP.VALUE k :=
    fun k hk => entry (List.mem_range.mp hk) (by decide) (by decide)
  have first : ((List.range 16).find? fun k => let v := offset12 ((s.issued m 9).govModeEntry.get BV_TEMP.VALUE k)
      v < 1728 || 2848 < v) = (List.range 16).find? fun k => let v := offset12 (s.get BV_TEMP.VALUE k)
      v < 1728 || 2848 < v := List.find?_congr fun k hk => by rw [temperatures k hk]
  simp only [State.tsCheck, entry Nat.one_pos (g := PW_TSCFG.REF) (by decide) (by decide),
    entry Nat.one_pos (g := CK_REFSTAT.PRESENT) (by decide) (by decide), first]

include hi

theorem testStart_none (hz : s.get PW_TSCFG.TESTS = 0) : Answers (.testStart m freq vcore) s fun t =>
    t.get GH_STATUS.STATE = 3 ∧ t.get GH_STATUS.RESULT = Rc.TS_NONE.num % 2 ^ 16 ∧ t.mode = s.mode := by
  refine answers_issue_delivers (exec_testStart m freq vcore s) hi fun t ht => ?_
  have tests : (s.issued m 9).get PW_TSCFG.TESTS = 0 := (State.issued_get (n := 1) (by decide) Nat.one_pos).trans hz
  rw [runTestStart, if_pos tests] at ht
  obtain ⟨state, result, -⟩ := (s.issued m 9).cmdFail_shows (rc := Rc.TS_NONE) (obj := 0)
  have mode := (State.Alters.cmdFail (.refl (s := s.issued m 9)) Rc.TS_NONE 0).mode
  rw [State.mode, ht.get (by decide), ht.get (by decide), ht.get (by decide), state, result]
  exact ⟨rfl, rfl, mode.trans State.issued_mode⟩

theorem testStart_unfit {c : Rc} {obj : Nat} (hn : s.get PW_TSCFG.TESTS ≠ 0)
    (hc : s.tsCheck freq.toNat vcore.toNat = some (c, obj)) : Answers (.testStart m freq vcore) s fun t =>
      t.get GH_STATUS.STATE = 3 ∧ t.get GH_STATUS.RESULT = c.num % 2 ^ 16 ∧ t.mode = s.mode := by
  refine answers_issue_delivers (exec_testStart m freq vcore s) hi fun t ht => ?_
  have tests : (s.issued m 9).get PW_TSCFG.TESTS ≠ 0 := by rwa [State.issued_get (n := 1) (by decide) Nat.one_pos]
  rw [runTestStart, if_neg tests] at ht
  dsimp only at ht
  rw [State.tsCheck_entry, hc] at ht
  obtain ⟨state, result, -⟩ := (s.issued m 9).govModeEntry.cmdFail_shows (rc := c) (obj := obj)
  have mode := (State.Alters.cmdFail (.govModeEntry (.refl (s := s.issued m 9))) c obj).mode
  rw [State.mode, ht.get (by decide), ht.get (by decide), ht.get (by decide), state, result]
  exact ⟨rfl, rfl, mode.trans State.issued_mode⟩

theorem testStart_enters (hn : s.get PW_TSCFG.TESTS ≠ 0) (hc : s.tsCheck freq.toNat vcore.toNat = none) :
    Answers (.testStart m freq vcore) s fun t => t.mode = mTEST := by
  refine answers_issue_delivers (exec_testStart m freq vcore s) hi fun t ht => ?_
  have tests : (s.issued m 9).get PW_TSCFG.TESTS ≠ 0 := by rwa [State.issued_get (n := 1) (by decide) Nat.one_pos]
  rw [runTestStart, if_neg tests] at ht
  dsimp only at ht
  rw [State.tsCheck_entry, hc] at ht
  rw [State.mode, ht.get (by decide)]
  refine (State.Alters.testBlocks (.raiseUn .refl)).mode.trans ?_
  rw [State.setMode_mode]
  rfl

end Start

/-! The tests themselves (R784, R785, R787). -/

/-- A warm reset begins where none runs. -/
theorem State.warmReset_begins {u : State} (hr : u.get RESETTING = 0) (b : Nat) : (u.warmReset b).get RESETTING = 1 := by
  simp +decide [State.warmReset, hr, State.get_put_self]

theorem State.testEnd_begins {u : State} (hr : u.get RESETTING = 0) (aborted : Bool) : (u.testEnd aborted).get RESETTING = 1 := by
  unfold State.testEnd
  extract_lets sel passed all first second third
  refine State.warmReset_begins ?_ 6
  have ended : second.get RESETTING = 0 := by
    simp +decide [second, first, State.get_put_ne, State.raise_get, State.memoriesZero]
    exact hr
  simp only [third]
  split
  · exact ended
  · simpa +decide [State.get_put_ne] using ended

section Run

variable {s t : State} {i : Fin 6}

/-- The result of the test that has run, with its record. -/
def State.testNoted (s : State) (i n obj addr : Nat) : State :=
  let u := ((s.put PW_TSRES.RESULT (if n = 0 then 1 else 2) i).put PW_TSRES.COUNT n i).put PW_TSRES.OBJ
    (if n = 0 then 0 else obj) i
  if n = 0 then u.raise Rc.TS_PASS i else u.raise Rc.TS_FAIL i (obj + 2 ^ 16 * addr)

/-- The cells of a test's result. -/
def resultFields : List (Field × Nat) := [(PW_TSRES.RESULT, 6), (PW_TSRES.COUNT, 6), (PW_TSRES.OBJ, 6)]

theorem State.testNoted_get {n obj addr : Nat} {g : Field} (hg : g.clearOf 1 resultFields = true) :
    (s.testNoted i n obj addr).get g = s.get g := by
  have put {u : State} {f : Field} {v : Nat} (hm : (f, 6) ∈ resultFields) (hu : s.Within (.elements resultFields) u) :
      s.Within (.elements resultFields) (u.put f v i) := hu.putIn hm i.isLt
  have noted := put (f := PW_TSRES.OBJ) (v := if n = 0 then 0 else obj) (by simp [resultFields]) (put (f := PW_TSRES.COUNT)
    (v := n) (by simp [resultFields]) (put (f := PW_TSRES.RESULT) (v := if n = 0 then 1 else 2) (by simp [resultFields]) .refl))
  exact State.Within.get_elements (.ite (noted.raise trivial) (noted.raise trivial)) hg Nat.one_pos

theorem State.testNoted_shows (n : BitVec 12) (obj : BitVec 16) (addr : Nat) :
    let u := s.testNoted i n.toNat obj.toNat addr
    u.get PW_TSRES.RESULT i = (if n = 0 then 1 else 2) ∧ u.get PW_TSRES.COUNT i = n.toNat ∧
      u.get PW_TSRES.OBJ i = if n = 0 then 0 else obj.toNat := by
  have zero : n.toNat = 0 ↔ n = 0 := by simp [BitVec.toNat_eq]
  have count : n.toNat % 2 ^ PW_TSRES.COUNT.width = n.toNat := Nat.mod_eq_of_lt n.isLt
  have object : obj.toNat % 2 ^ PW_TSRES.OBJ.width = obj.toNat := Nat.mod_eq_of_lt obj.isLt
  by_cases h : n = 0
  · simp +decide [State.testNoted, h, State.raise_get, State.get_put_ne, State.get_put_self]
  · have some : ¬n.toNat = 0 := by rwa [zero]
    have nonzero : ¬n = 0#12 := h
    simp +decide [State.testNoted, some, nonzero, State.raise_get, State.get_put_ne, State.get_put_self, count, object]

section Complete

variable (ha : Awake s) (hr : s.mode = mTEST ∧ s.get PW_TSSTAT.STATE = 2) (hi : s.get PW_TSSTAT.CURRENT = i)
  {fails : BitVec 12} {obj : BitVec 16} {addr : BitVec 32}
include ha hr hi

/-- A test that runs ends in its noted result, then the next test or the end. -/
theorem exec_testComplete_noted : exec (.testComplete fails obj addr) s = run s
    (let u := s.testNoted i fails.toNat obj.toNat addr.toNat
     if fails.toNat ≠ 0 && s.flag PW_TSCFG.STOP_ON_FAIL then u.testEnd false
     else match s.tsFrom (s.get TS_NEXT + 1) with
      | some k => (u.put TS_NEXT k).put PW_TSSTAT.CURRENT (tsOrder.getD k 0)
      | none => u.testEnd false) := by
  obtain ⟨mode, state⟩ := hr
  have stop : (s.testNoted i fails.toNat obj.toNat addr.toNat).get PW_TSCFG.STOP_ON_FAIL = s.get PW_TSCFG.STOP_ON_FAIL :=
    State.testNoted_get (by decide)
  have next : (s.testNoted i fails.toNat obj.toNat addr.toNat).tsFrom
      ((s.testNoted i fails.toNat obj.toNat addr.toNat).get TS_NEXT + 1) = s.tsFrom (s.get TS_NEXT + 1) := by
    simp only [State.tsFrom, State.testNoted_get (g := TS_SEL) (by decide), State.testNoted_get (g := TS_NEXT) (by decide)]
  rw [exec_live (exec_testComplete fails obj addr s) ha]
  dsimp only
  rw [if_neg (by simp [mode, state]), hi]
  simp only [← next, State.flag, ← stop]
  rfl

theorem testComplete_next {k : Nat} (hk : s.tsFrom (s.get TS_NEXT + 1) = some k)
    (hf : fails = 0 ∨ s.get PW_TSCFG.STOP_ON_FAIL ≠ 1) : Answers (.testComplete fails obj addr) s fun t =>
      t.get PW_TSRES.RESULT i = (if fails = 0 then 1 else 2) ∧ t.get PW_TSRES.COUNT i = fails.toNat ∧
      t.get PW_TSRES.OBJ i = (if fails = 0 then 0 else obj.toNat) ∧ t.get TS_NEXT = k ∧
      t.get PW_TSSTAT.CURRENT = tsOrder.getD k 0 ∧ t.mode = mTEST := by
  refine answers_run (exec_testComplete_noted ha hr hi) fun t ht => ?_
  rw [if_neg (by rcases hf with rfl | hf <;> simp [State.flag, *]), hk] at ht
  obtain ⟨result, count, object⟩ := s.testNoted_shows (i := i) fails obj addr.toNat
  have place : k < 6 := List.mem_range.mp (List.mem_of_find?_eq_some hk)
  have index : k % 2 ^ TS_NEXT.width = k := Nat.mod_eq_of_lt (place.trans (by decide))
  have test : tsOrder.getD k 0 % 2 ^ PW_TSSTAT.CURRENT.width = tsOrder.getD k 0 :=
    (by decide : ∀ k < 6, tsOrder.getD k 0 % 2 ^ PW_TSSTAT.CURRENT.width = tsOrder.getD k 0) k place
  have mode : (s.testNoted i fails.toNat obj.toNat addr.toNat).get PW_MODE.MODE = mTEST :=
    (State.testNoted_get (by decide)).trans hr.1
  simp +decide [State.mode, ht.get, State.get_put_ne, State.get_put_self, result, count, object, index, mode]
  exact test

theorem testComplete_ends (hf : s.tsFrom (s.get TS_NEXT + 1) = none ∨ fails ≠ 0 ∧ s.get PW_TSCFG.STOP_ON_FAIL = 1) :
    Answers (.testComplete fails obj addr) s fun t => t.get RESETTING = 1 := by
  refine answers_run (exec_testComplete_noted ha hr hi) fun t ht => ?_
  rw [ht.get (by decide)]
  have ended : ((s.testNoted i fails.toNat obj.toNat addr.toNat).testEnd false).get RESETTING = 1 :=
    State.testEnd_begins ((State.testNoted_get (by decide)).trans ha) false
  rcases hf with hf | ⟨fails, stops⟩
  · rw [hf]
    split <;> exact ended
  · rw [if_pos (by simpa [State.flag, stops, BitVec.toNat_eq] using fails)]
    exact ended

theorem tsCondLost_ends (c : Fin 3) : Answers (.tsCondLost c) s fun t => t.get RESETTING = 1 := by
  refine answers_live_delivers (exec_tsCondLost c s) ha fun t ht => ?_
  obtain ⟨mode, state⟩ := hr
  rw [if_neg (by simp [mode, state]), hi] at ht
  rw [ht.get (by decide)]
  refine State.testEnd_begins ?_ true
  simp +decide [State.raise_get, State.get_put_ne]
  exact ha

end Complete

end Run

/-- Settles O52: the entry to the test by its checks, then each test by its result and what follows it. -/
theorem selfTestRunsAndEnds : Obligations.SelfTestRunsAndEnds := by
  intro s m
  refine ⟨fun freq vcore hi => ⟨testStart_none hi, fun c obj hn hc => testStart_unfit hi hn hc, testStart_enters hi⟩,
    fun ha => ⟨fun fails obj addr hr hi => ⟨fun k hk hf => testComplete_next ha hr (i := ⟨_, hi⟩) rfl hk hf,
      fun hf => testComplete_ends ha hr (i := ⟨_, hi⟩) rfl hf⟩, fun hr hi c => tsCondLost_ends ha hr (i := ⟨_, hi⟩) rfl c,
      fun idle => ⟨fun fails obj addr => ?_, fun c => ?_⟩⟩⟩
  all_goals have out : (decide (s.mode ≠ mTEST) || decide (s.get PW_TSSTAT.STATE ≠ 2)) = true := by simpa [or_iff_not_imp_left] using idle
  · refine answers_live_delivers (exec_testComplete fails obj addr s) ha fun t ht => ?_
    rw [if_pos out] at ht
    exact ht.frame (s.frame_refl [])
  · refine answers_live_delivers (exec_tsCondLost c s) ha fun t ht => ?_
    rw [if_pos out] at ht
    exact ht.frame (s.frame_refl [])

end Sys2Proof.Machine
end

section
/-! O38: the Lodge hart runs, halts, resumes and is reset; its timer and its memories (R588 to R617). -/

namespace Sys2Proof.Machine

/-- The cells of the counters that time moves. -/
def timeFields : List (Field × Nat) := [(LG_MTIME_LO.MTIME, 1), (LG_MTIME_HI.MTIME, 1), (MT_FRAC, 1), (RV_MCYCLE, 1)]

/-- The cells of an unlock sequence that a halt aborts. -/
def abortFields : List (Field × Nat) := [(UNL_LEFT, 3), (UNL_ABORT, 3), (GH_STATUS.UNLOCK_ABORT, 1)]

section Facts

variable {s : State} {g : Field} {n j : Nat}

theorem State.coreTime_within (k : Nat) : s.Within (.elements timeFields) (s.coreTime k) := by
  have put {u : State} {f : Field} {v : Nat} (hm : (f, 1) ∈ timeFields) (hu : s.Within (.elements timeFields) u) :
      s.Within (.elements timeFields) (u.put f v) := hu.putIn hm Nat.one_pos
  have moved (v w : Nat) : s.Within (.elements timeFields) ((s.setMtime v).put MT_FRAC w) :=
    put (by simp [timeFields]) (put (by simp [timeFields]) (put (by simp [timeFields]) .refl))
  have timed : s.Within (.elements timeFields) (if s.mtimeRuns then (s.setMtime (s.mtime + (s.get MT_FRAC + k) / 25)).put
      MT_FRAC ((s.get MT_FRAC + k) % 25) else s) := .ite (moved _ _) .refl
  exact .ite timed (put (by simp [timeFields]) timed)

theorem State.coreTime_get {k : Nat} (hg : g.clearOf n timeFields = true) (hj : j < n) : (s.coreTime k).get g j = s.get g j :=
  (State.coreTime_within k).get_elements hg hj

theorem State.coreTime_mem (k : Nat) : (s.coreTime k).mem = s.mem := (State.coreTime_within k).fixed.1

theorem State.seqAbort_within : s.Within (.elements abortFields) s.seqAbort := by
  refine .foldl .refl fun u c hc => .ite .refl (.putIn (b := 1) (.putIn (b := 3) (.putIn (b := 3) .refl ?_ ?_) ?_ ?_) ?_ ?_)
  all_goals first | simp [abortFields] | (simp at hc; omega)

theorem State.xtDrive_get : s.xtDrive.get g j = s.get g j := by
  unfold State.xtDrive
  split <;> rfl

theorem State.halted_get (hg : g.clearOf n abortFields = true) (hj : j < n) : s.seqAbort.xtDrive.get g j = s.get g j :=
  State.xtDrive_get.trans (State.seqAbort_within.get_elements hg hj)

/-- What a halt shows (R617). -/
theorem State.coreHalt_shows (s : State) (cause : Nat) : let t := s.coreHalt cause
    t.get LG_STAT.STATE = lgHALTED ∧ t.get PW_MODE.HALTED = 1 ∧ t.get LG_IRQ.HALT = 1 ∧ t.get RV_HALTREQ = 0 ∧
      t.get RV_CSR 0x7B1 = s.get RV_PC % 2 ^ 32 := by
  unfold State.coreHalt
  extract_lets d first second third
  have shown {f : Field} {i : Nat} (hf : f.clearOf (i + 1) abortFields = true) (hr : f.key i ≠ LG_STAT.RESV.key 0)
      (drop : f.key i ≠ EV_DROP.COUNT.key 0) (episode : f.key i ≠ DROP_EPISODE.key 0) :
      (third.put LG_STAT.RESV 0).seqAbort.xtDrive.get f i = second.get f i := by
    rw [State.halted_get hf i.lt_succ_self, State.get_put_ne _ _ hr]
    simp only [third]
    split
    · rfl
    · exact State.raise_get _ _ _ _ drop episode
  refine ⟨?_, ?_, ?_, ?_, ?_⟩ <;> rw [shown (by decide) (by decide) (by decide) (by decide)] <;>
    simp +decide [second, first, State.get_put_ne, State.get_put_self]
  rfl

/-- What a resume shows (R617). -/
theorem State.coreResume_shows (s : State) : let t := s.coreResume
    t.get LG_STAT.STATE = lgRUN ∧ t.get PW_MODE.HALTED = 0 ∧ t.get RV_PC = s.get RV_CSR 0x7B1 % 2 ^ 32 ∧
      t.get RV_PRIV = bits (s.get RV_DCSR) 0 2 ∧ t.get DM_RESUMEACK = 1 := by
  have level : bits (s.get RV_DCSR) 0 2 % 2 ^ RV_PRIV.width = bits (s.get RV_DCSR) 0 2 := Nat.mod_mod _ _
  unfold State.coreResume
  refine ⟨?_, ?_, ?_, ?_, ?_⟩ <;> rw [State.xtDrive_get] <;>
    simp +decide [State.unhalt, State.raise_get, State.get_put_ne, State.get_put_self, level]
  rfl

end Facts

/-! Traps and steps of the hart (R588, R589). -/

section Trap

variable {s : State} {num tval : Nat} {irq : Bool}

/-- The cells of the hart that a trap writes. -/
def trapFields : List (Field × Nat) := [(RV_CSR, 0x344), (RV_MSTATUS, 1), (RV_PRIV, 1), (RV_PC, 1)]

theorem State.rvTrap_within : s.Within (.elements trapFields) (s.rvTrap num irq tval) := by
  have put {u : State} {f : Field} {v i b : Nat} (hm : (f, b) ∈ trapFields) (hi : i < b)
      (hu : s.Within (.elements trapFields) u) : s.Within (.elements trapFields) (u.put f v i) := hu.putIn hm hi
  have csr : (RV_CSR, 0x344) ∈ trapFields := by simp [trapFields]
  exact put (by simp [trapFields] : (RV_PC, 1) ∈ _) Nat.one_pos (put (by simp [trapFields] : (RV_PRIV, 1) ∈ _) Nat.one_pos
    (put (by simp [trapFields] : (RV_MSTATUS, 1) ∈ _) Nat.one_pos (put csr (by decide) (put csr (by decide)
      (put csr (by decide) .refl)))))

theorem State.rvTrap_get {g : Field} {n j : Nat} (hg : g.clearOf n trapFields = true) (hj : j < n) :
    (s.rvTrap num irq tval).get g j = s.get g j := State.rvTrap_within.get_elements hg hj

/-- What a trap leaves in the hart: the pc and the cause, machine mode, the handler's address. -/
theorem State.rvTrap_shows : let t := s.rvTrap num irq tval
    t.get RV_CSR 0x341 = s.get RV_PC % 2 ^ 32 ∧ t.get RV_CSR 0x342 = (num + 2 ^ 31 * b2n irq) % 2 ^ 32 ∧
      t.get RV_PRIV = 3 ∧ (irq = false ∨ bits (s.get RV_CSR 0x305) 0 2 ≠ 1 →
        t.get RV_PC = s.get RV_CSR 0x305 / 4 * 4 % 2 ^ 32) := by
  unfold State.rvTrap
  refine ⟨?_, ?_, ?_, fun direct => ?_⟩
  · simp +decide [State.get_put_ne, State.get_put_self]
    rfl
  · simp +decide [State.get_put_ne, State.get_put_self]
    rfl
  · simp +decide [State.get_put_ne, State.get_put_self]
  · have plain : (irq && decide (bits (s.get RV_CSR 0x305) 0 2 = 1)) = false := by
      rcases direct with rfl | vector
      · rfl
      · simp [vector]
    simp +decide only [State.get_put_ne, State.get_put_self, plain]
    rfl

theorem State.rvStepped_off (h : bit (s.get RV_DCSR) 2 = false) : s.rvStepped = s := by
  simp [State.rvStepped, h]

end Trap

section Step

variable {s : State} {fetch data : CheckSeen}

/-- A pending interrupt is taken. -/
theorem State.rvStep_interrupt {n : Nat} (hi : s.rvIrq = some n) (hs : bit (s.get RV_DCSR) 2 = false) :
    s.rvStep fetch data = s.rvTrap n true 0 := by
  have single : bit ((s.rvTrap n true 0).get RV_DCSR) 2 = false := by
    rw [State.rvTrap_get (n := 1) (by decide) Nat.one_pos, hs]
  rw [State.rvStep, hi]
  exact State.rvStepped_off single

/-- A fetched word without faults is executed. -/
theorem State.rvStep_executes {w len : Nat} (hi : s.rvIrq = none) (ht : s.rvTrigger 4 (s.get RV_PC) = false)
    (hw : s.rvFetch = .inl (w, len)) : s.rvStep .clean data = (s.rvExec w len data).finish w len := by
  rw [State.rvStep, hi]
  dsimp only
  rw [if_neg (by simp [ht]), hw]
  rfl

theorem State.rvExec_addi {w len : Nat} (ho : w % 128 = 0x13) (hf : rvF3 w = 0) : s.rvExec w len data =
    .retire (s.setX (rvRd w) (rvAdd (s.xr (rvRs1 w)) (rvImmI w))) (rvAdd (s.get RV_PC) len) := by
  unfold State.rvExec
  dsimp only
  rw [ho, hf]
  rfl

theorem State.rvExec_ecall {len : Nat} (hd : s.get LG_STAT.STATE ≠ lgHALTED) : s.rvExec 0x73 len data =
    .trap s (if s.get RV_PRIV = 3 then 11 else 8) 0 := by
  have running : s.rvDebug = false := by simp [State.rvDebug, hd]
  have ecall : s.doSystem 0x73 (rvAdd (s.get RV_PC) len) = .trap s (if s.get RV_PRIV = 3 then 11 else 8) 0 := by
    unfold State.doSystem
    simp [running]
  rw [← ecall]
  rfl

theorem rvAdd_mod (a b : Nat) : rvAdd a b % 2 ^ 32 = rvAdd a b := Nat.mod_mod _ _

theorem rvRd_lt (w : Nat) : rvRd w < 32 := Nat.mod_lt _ (by decide)

theorem State.setX_get {rd : Fin 32} {v : Nat} {g : Field} {j : Nat} (hg : g.key j ≠ RV_X.key rd) :
    (s.setX rd v).get g j = s.get g j := by
  unfold State.setX
  split
  · rfl
  · exact State.get_put_ne _ _ hg

theorem State.setX_reads {rd r : Fin 32} {v : Nat} (hv : v % 2 ^ 32 = v) :
    (s.setX rd v).xr r = if r = rd ∧ r ≠ 0 then v else s.xr r := by
  unfold State.xr State.setX
  rcases eq_or_ne r 0 with rfl | nonzero
  · simp
  · have index : r.val ≠ 0 := Fin.val_ne_zero_iff.mpr nonzero
    rcases eq_or_ne r rd with rfl | other
    · rw [if_neg index, if_neg index, if_pos ⟨rfl, nonzero⟩, State.get_put_self]
      exact hv
    · have apart : RV_X.key r ≠ RV_X.key rd := by
        rwa [Ne, Field.key_inj (by decide), ← Fin.ext_iff]
      rw [if_neg index, if_neg index, if_neg (c := r = rd ∧ r ≠ 0) fun same => other same.1]
      split
      · rfl
      · exact State.get_put_ne _ _ apart

theorem State.rvRetired_get {w j : Nat} {g : Field} (hg : g.key j ≠ RV_MINSTRET.key 0) :
    (s.rvRetired w).get g j = s.get g j := by
  unfold State.rvRetired
  split
  · rfl
  · exact State.get_put_ne _ _ hg

theorem State.finish_retire {w len pc : Nat} (hs : bit (s.get RV_DCSR) 2 = false) :
    (RvEnd.retire s pc).finish w len = (s.put RV_PC pc).rvRetired w := by
  refine State.rvStepped_off (s := (s.put RV_PC pc).rvRetired w) ?_
  rw [State.rvRetired_get (by decide), State.get_put_ne _ _ (by decide), hs]

/-- What an instruction leaves that retires with a value for one register. -/
theorem State.retired_shows {w len v pc : Nat} {rd : Fin 32} (hs : bit (s.get RV_DCSR) 2 = false) :
    let t := (RvEnd.retire (s.setX rd v) pc).finish w len
    t.get RV_PC = pc % 2 ^ 32 ∧ (∀ r : Fin 32, t.xr r = (s.setX rd v).xr r) ∧ t.mem = s.mem := by
  rw [State.finish_retire (by rwa [State.setX_get (by simp +decide)])]
  refine ⟨by rw [State.rvRetired_get (by decide), State.get_put_self]; rfl, fun r => ?_, ?_⟩
  · rw [State.xr, State.xr, State.rvRetired_get (by simp +decide), State.get_put_ne _ _ (by simp +decide)]
  · unfold State.rvRetired State.setX
    split_ifs <;> rfl

theorem State.finish_trap {w len num tval : Nat} (hs : bit (s.get RV_DCSR) 2 = false) :
    (RvEnd.trap s num tval).finish w len = s.rvTrap num false tval := by
  refine State.rvStepped_off (s := s.rvTrap num false tval) ?_
  rw [State.rvTrap_get (n := 1) (by decide) Nat.one_pos, hs]

end Step

section Instruction

variable {s : State} (ha : Awake s) {cycles : BitVec 32} {fetch data : CheckSeen} (hr : s.get LG_STAT.STATE = lgRUN)
  (hb : s.coreBusy = false) (hm : s.mode = mHOLD ∨ s.mode = mRUN)

/-- The running hart as time has passed for it. -/
def State.timed (s : State) (cycles : BitVec 32) : State := (s.coreTime cycles.toNat).put LG_STAT.STATE lgRUN

theorem State.timed_get {g : Field} {n j : Nat} (hg : g.clearOf n timeFields = true)
    (hs : g.clearOf n [(LG_STAT.STATE, 1)] = true) (hj : j < n) : (s.timed cycles).get g j = s.get g j := by
  rw [State.timed, State.get_put_ne, State.coreTime_get hg hj]
  exact Field.key_clearOf hs hj (by simp : (LG_STAT.STATE, 1) ∈ _) Nat.one_pos

theorem State.timed_mem : (s.timed cycles).mem = s.mem := State.coreTime_mem _

include hr hb hm

theorem State.timed_ready : (s.coreTime cycles.toNat).coreRuns = true ∧ (s.coreTime cycles.toNat).coreBusy = false ∧
    ((s.coreTime cycles.toNat).mode = mHOLD ∨ (s.coreTime cycles.toNat).mode = mRUN) := by
  have state : (s.coreTime cycles.toNat).get LG_STAT.STATE = lgRUN := (State.coreTime_get (n := 1) (by decide) Nat.one_pos).trans hr
  have wait : (s.coreTime cycles.toNat).get RV_WAIT = s.get RV_WAIT := State.coreTime_get (n := 1) (by decide) Nat.one_pos
  have mode : (s.coreTime cycles.toNat).mode = s.mode := State.coreTime_get (n := 1) (by decide) Nat.one_pos
  exact ⟨by simp [State.coreRuns, state], by rw [← hb, State.coreBusy, wait]; rfl, by rwa [mode]⟩

include ha

theorem instruction_halts (hq : s.get RV_HALTREQ ≠ 0) : Answers (.instruction cycles fetch data) s fun t =>
    t.get LG_STAT.STATE = lgHALTED ∧ t.get PW_MODE.HALTED = 1 ∧
      t.get RV_CSR 0x7B1 = (s.coreTime cycles.toNat).get RV_PC % 2 ^ 32 := by
  refine answers_live_delivers (exec_instruction cycles fetch data s) ha fun t ht => ?_
  obtain ⟨runs, idle, mode⟩ := State.timed_ready hr hb hm (cycles := cycles)
  have asked : (s.coreTime cycles.toNat).get RV_HALTREQ ≠ 0 := by
    rwa [State.coreTime_get (n := 1) (by decide) Nat.one_pos]
  rw [if_neg (by simpa [runs, idle, or_iff_not_imp_left] using mode), if_pos asked, State.haltDue,
    if_pos (by simp [asked, runs, idle])] at ht
  obtain ⟨state, halted, -, -, pc⟩ := (s.coreTime cycles.toNat).coreHalt_shows ((s.coreTime cycles.toNat).get RV_HALTREQ)
  rw [ht.get (by decide), ht.get (by decide), ht.get (by decide)]
  exact ⟨state, halted, pc⟩

theorem exec_instruction_steps (hq : s.get RV_HALTREQ = 0) :
    exec (.instruction cycles fetch data) s = run s ((s.timed cycles).rvStep fetch data) := by
  obtain ⟨runs, idle, mode⟩ := State.timed_ready hr hb hm (cycles := cycles)
  have asked : (s.coreTime cycles.toNat).get RV_HALTREQ = 0 := by
    rwa [State.coreTime_get (n := 1) (by decide) Nat.one_pos]
  have state : (s.coreTime cycles.toNat).get LG_STAT.STATE = lgRUN := (State.coreTime_get (n := 1) (by decide) Nat.one_pos).trans hr
  rw [exec_live (exec_instruction cycles fetch data s) ha]
  dsimp only
  rw [if_neg (by simpa [runs, idle, or_iff_not_imp_left] using mode), if_neg (by simp [asked]),
    if_neg (by simp [state, lgRUN, lgWFI])]
  rfl

variable (hq : s.get RV_HALTREQ = 0) (hs : bit ((s.coreTime cycles.toNat).get RV_DCSR) 2 = false)
include hq

section

include hs

theorem instruction_interrupts {n : Nat} (hi : (s.timed cycles).rvIrq = some n) :
    Answers (.instruction cycles fetch data) s fun t =>
      t.get RV_CSR 0x341 = (s.coreTime cycles.toNat).get RV_PC % 2 ^ 32 ∧ t.get RV_CSR 0x342 = (n + 2 ^ 31) % 2 ^ 32 ∧
      t.get RV_PRIV = 3 ∧ (bits ((s.coreTime cycles.toNat).get RV_CSR 0x305) 0 2 ≠ 1 →
        t.get RV_PC = (s.coreTime cycles.toNat).get RV_CSR 0x305 / 4 * 4 % 2 ^ 32) := by
  refine answers_run (exec_instruction_steps ha hr hb hm hq) fun t ht => ?_
  have single : bit ((s.timed cycles).get RV_DCSR) 2 = false := by rwa [State.timed, State.get_put_ne _ _ (by decide)]
  rw [State.rvStep_interrupt hi single] at ht
  obtain ⟨pc, cause, level, handler⟩ := (s.timed cycles).rvTrap_shows (num := n) (irq := true) (tval := 0)
  have kept {g : Field} {j : Nat} (hk : g.key j ≠ LG_STAT.STATE.key 0) :
      (s.timed cycles).get g j = (s.coreTime cycles.toNat).get g j := State.get_put_ne _ _ hk
  rw [kept (by decide)] at pc
  rw [kept (by decide)] at handler
  rw [ht.get (by decide), ht.get (by decide), ht.get (by decide), ht.get (by decide)]
  exact ⟨pc, cause.trans (by rw [b2n, if_pos rfl, Nat.mul_one]), level, fun vector => handler (.inr vector)⟩

end

section Fetched

variable {w : Nat} (hn : (s.timed cycles).rvIrq = none)
  (ht : (s.timed cycles).rvTrigger 4 ((s.coreTime cycles.toNat).get RV_PC) = false)
  (hw : (s.timed cycles).rvFetch = .inl (w, 4))
include hn ht hw

theorem exec_instruction_executes : exec (.instruction cycles .clean data) s =
    run s (((s.timed cycles).rvExec w 4 data).finish w 4) := by
  have pc : (s.timed cycles).get RV_PC = (s.coreTime cycles.toNat).get RV_PC := State.get_put_ne _ _ (by decide)
  rw [exec_instruction_steps ha hr hb hm hq, State.rvStep_executes hn (by rwa [pc]) hw]

include hs

theorem instruction_adds (ho : w % 128 = 0x13) (hf : rvF3 w = 0) : Answers (.instruction cycles .clean data) s fun t =>
    let c := s.coreTime cycles.toNat
    t.get RV_PC = rvAdd (c.get RV_PC) 4 ∧ (rvRd w ≠ 0 → t.xr (rvRd w) = rvAdd (c.xr (rvRs1 w)) (rvImmI w)) ∧
      (∀ r : Fin 32, r.val ≠ rvRd w → t.xr r = c.xr r) ∧ t.mem = s.mem := by
  refine answers_run (exec_instruction_executes ha hr hb hm hq hn ht hw) fun t ht => ?_
  rw [State.rvExec_addi ho hf] at ht
  have kept {g : Field} {j : Nat} (hk : g.key j ≠ LG_STAT.STATE.key 0) :
      (s.timed cycles).get g j = (s.coreTime cycles.toNat).get g j := State.get_put_ne _ _ hk
  have registers (r : Fin 32) : (s.timed cycles).xr r = (s.coreTime cycles.toNat).xr r := by
    rw [State.xr, State.xr, kept (by simp +decide)]
  have target : ((⟨rvRd w, rvRd_lt w⟩ : Fin 32) : Nat) = rvRd w := rfl
  have source : (s.timed cycles).xr (rvRs1 w) = (s.coreTime cycles.toNat).xr (rvRs1 w) :=
    registers ⟨rvRs1 w, Nat.mod_lt _ (by decide)⟩
  rw [source, kept (by decide), ← target] at ht
  obtain ⟨pc, read, mem⟩ := (s.timed cycles).retired_shows (w := w) (len := 4) (rd := ⟨rvRd w, rvRd_lt w⟩)
    (v := rvAdd ((s.coreTime cycles.toNat).xr (rvRs1 w)) (rvImmI w)) (pc := rvAdd ((s.coreTime cycles.toNat).get RV_PC) 4)
    (by rwa [kept (by decide)])
  have delivered (r : Fin 32) : t.xr r = if r = ⟨rvRd w, rvRd_lt w⟩ ∧ r ≠ 0 then
      rvAdd ((s.coreTime cycles.toNat).xr (rvRs1 w)) (rvImmI w) else (s.coreTime cycles.toNat).xr r := by
    rw [← registers, ← State.setX_reads (rvAdd_mod _ _), ← read, State.xr, State.xr, ht.get (by simp +decide)]
  refine ⟨?_, fun nonzero => ?_, fun r other => ?_, ?_⟩
  · rw [ht.get (by decide), pc, rvAdd_mod]
  · rw [← target, delivered, if_pos ⟨rfl, fun zero => nonzero (by rw [← target, zero]; rfl)⟩]
  · rw [delivered, if_neg fun same => other (congrArg Fin.val same.1)]
  · rw [ht.mem, mem, State.timed_mem]

theorem instruction_traps (he : w = 0x73) : Answers (.instruction cycles .clean data) s fun t =>
    let c := s.coreTime cycles.toNat
    t.get RV_CSR 0x341 = c.get RV_PC % 2 ^ 32 ∧ t.get RV_CSR 0x342 = (if c.get RV_PRIV = 3 then 11 else 8) ∧
      t.get RV_PRIV = 3 ∧ t.get RV_PC = c.get RV_CSR 0x305 / 4 * 4 % 2 ^ 32 ∧ ∀ r : Fin 32, t.xr r = c.xr r := by
  refine answers_run (exec_instruction_executes ha hr hb hm hq hn ht hw) fun t ht => ?_
  have kept {g : Field} {j : Nat} (hk : g.key j ≠ LG_STAT.STATE.key 0) :
      (s.timed cycles).get g j = (s.coreTime cycles.toNat).get g j := State.get_put_ne _ _ hk
  have running : (s.timed cycles).get LG_STAT.STATE ≠ lgHALTED := by
    rw [State.timed, State.get_put_self]
    decide
  rw [he, State.rvExec_ecall running, State.finish_trap (by rwa [kept (by decide)]), kept (by decide)] at ht
  obtain ⟨pc, cause, level, handler⟩ := (s.timed cycles).rvTrap_shows (irq := false) (tval := 0)
    (num := if (s.coreTime cycles.toNat).get RV_PRIV = 3 then 11 else 8)
  rw [kept (by decide)] at pc
  rw [kept (by decide)] at handler
  rw [ht.get (by decide), ht.get (by decide), ht.get (by decide), ht.get (by decide)]
  refine ⟨pc, cause.trans ?_, level, handler (.inl rfl), fun r => ?_⟩
  · split <;> rfl
  · rw [State.xr, State.xr, ht.get (by simp +decide), State.rvTrap_get (n := 32) (by decide) r.isLt, kept (by simp +decide)]

end Fetched

end Instruction

/-! Timer, halts and resets (R589, R597, R616, R617). -/

section Core

variable {s t : State} (ha : Awake s)
include ha

theorem machineTimer_reaches (hm : s.mode = mHOLD ∨ s.mode = mRUN) (hr : s.mtimeRuns = true) (hl : s.mtime < s.mtimecmp)
    (hc : s.mtimecmp < 2 ^ 64) : Answers .machineTimer s fun t => t.mtime = s.mtimecmp := by
  refine answers_live_delivers (exec_machineTimer s) ha fun t ht => ?_
  rw [if_pos (by simpa [hr, hl] using hm)] at ht
  have low : t.get LG_MTIME_LO.MTIME = s.mtimecmp % 2 ^ 32 % 2 ^ 32 := by
    rw [ht.get (by decide), State.setMtime, State.get_put_ne _ _ (by decide), State.get_put_self]
    rfl
  have high : t.get LG_MTIME_HI.MTIME = s.mtimecmp / 2 ^ 32 % 2 ^ 32 := by
    rw [ht.get (by decide), State.setMtime, State.get_put_self]
    rfl
  rw [State.mtime, low, high]
  omega

theorem halt_halts (hm : s.mode = mHOLD ∨ s.mode = mRUN) (hq : s.get RV_HALTREQ ≠ 0) (hr : s.coreRuns = true)
    (hb : s.coreBusy = false) : Answers .halt s fun t =>
      t.get LG_STAT.STATE = lgHALTED ∧ t.get PW_MODE.HALTED = 1 ∧ t.get LG_IRQ.HALT = 1 ∧ t.get RV_HALTREQ = 0 ∧
        t.get RV_CSR 0x7B1 = s.get RV_PC % 2 ^ 32 := by
  refine answers_live_delivers (exec_halt s) ha fun t ht => ?_
  rw [if_pos (by simpa using hm), State.haltDue, if_pos (by simp [hq, hr, hb])] at ht
  have shown := s.coreHalt_shows (s.get RV_HALTREQ)
  rw [ht.get (by decide), ht.get (by decide), ht.get (by decide), ht.get (by decide), ht.get (by decide)]
  exact shown

theorem xtInEdge_asks (hm : s.mode = mHOLD ∨ s.mode = mRUN) (hx : s.get XT_IN = 1) (hr : s.coreRuns = true)
    (hi : s.inputOn 46 = true) : Answers .xtInEdge s fun t => t.get RV_HALTREQ = 3 := by
  refine answers_live_delivers (exec_xtInEdge s) ha fun t ht => ?_
  rw [if_pos (by simpa [State.flag, hx, hr, hi] using hm)] at ht
  rw [ht.get (by decide), State.get_put_self]
  rfl

theorem resume_resumes (hq : s.get RV_RESUMEREQ = 1) (hh : s.get LG_STAT.STATE = lgHALTED) : Answers .resume s fun t =>
    t.get LG_STAT.STATE = lgRUN ∧ t.get PW_MODE.HALTED = 0 ∧ t.get RV_PC = s.get RV_CSR 0x7B1 % 2 ^ 32 ∧
      t.get RV_PRIV = bits (s.get RV_DCSR) 0 2 ∧ t.get DM_RESUMEACK = 1 := by
  refine answers_live_delivers (exec_resume s) ha fun t ht => ?_
  rw [if_pos (by simp [State.flag, hq, hh])] at ht
  have shown := s.coreResume_shows
  rw [ht.get (by decide), ht.get (by decide), ht.get (by decide), ht.get (by decide), ht.get (by decide)]
  exact shown

end Core

section Run

variable {s : State} {m : Master} {w : Word} (hw : Writes m 0x30000 s)

/-- A core reset forgets the pc. -/
theorem State.coreReset_pc (s : State) (st : Nat) : (s.coreReset st).get RV_PC = 0 :=
  s.coreReset_hart st (by decide) (by decide)

theorem State.coreReset_keeps (s : State) (st : Nat) : (s.coreReset st).get LG_CTL.RUN = s.get LG_CTL.RUN := by
  unfold State.coreReset
  extract_lets w rst open_ first second
  have kept : second.get LG_CTL.RUN = s.get LG_CTL.RUN := by
    simp +decide [second, first, State.unhalt, State.get_put_ne, State.forget_get]
  split_ifs <;> simp +decide [State.get_put_ne, kept]

theorem lgCtl_takes (s : State) (m : Master) (w : Nat) : (s.writeReg m LG_CTL.reg 0 w).get LG_CTL.RUN = bits w 0 1 :=
  s.writeReg_single_get m 0 w rfl rfl rfl

theorem lgCtl_keeps (s : State) (m : Master) (w : Nat) {g : Field} (hg : g.key 0 ≠ LG_CTL.RUN.key 0) :
    (s.writeReg m LG_CTL.reg 0 w).get g = s.get g :=
  s.writeReg_get m _ _ _ (by decide) fun f hf => by rw [List.mem_singleton.mp hf]; exact hg

include hw

theorem coreRun_stops (hb : bit w.toNat 0 = false) (hi : s.coreBusy = false) : Answers (.coreRun m w) s fun t =>
    t.get LG_CTL.RUN = 0 ∧ t.get LG_STAT.STATE = lgRESET ∧ (s.get LG_STAT.STATE ≠ lgRESET → t.get RV_PC = 0) := by
  refine answers_write_delivers (exec_coreRun m w s) hw fun t ht => ?_
  have stop : (s.writeReg m LG_CTL.reg 0 w.toNat).get LG_CTL.RUN = 0 := by
    rw [lgCtl_takes, bits_one, hb]
    rfl
  have state := lgCtl_keeps s m w.toNat (g := LG_STAT.STATE) (by decide)
  have idle : (s.writeReg m LG_CTL.reg 0 w.toNat).coreBusy = false := by
    rw [← hi, State.coreBusy, State.coreBusy, lgCtl_keeps s m w.toNat (by decide)]
  rw [wrLgCtl] at ht
  rw [if_pos (by simp [hb]), State.coreOff, state] at ht
  rw [ht.get (by decide), ht.get (by decide), ht.get (by decide)]
  by_cases rest : s.get LG_STAT.STATE = lgRESET
  · rw [if_neg (by simp [rest]), stop, state]
    exact ⟨rfl, rest, fun h => absurd rest h⟩
  · rw [if_pos (by simp [stop, rest, idle]), State.coreReset_keeps, State.coreReset_state, State.coreReset_pc, stop]
    exact ⟨rfl, rfl, fun _ => rfl⟩

theorem coreRun_starts (hb : bit w.toNat 0 = true) (hr : s.get LG_STAT.STATE = lgRESET)
    (hm : s.mode = mHOLD ∨ s.mode = mRUN) (hd : s.dmHolds = false) : Answers (.coreRun m w) s fun t =>
      t.get LG_CTL.RUN = 1 ∧ t.get LG_STAT.STATE = lgRUN ∧ t.get RV_PC = 0 := by
  refine answers_write_delivers (exec_coreRun m w s) hw fun t ht => ?_
  have start : (s.writeReg m LG_CTL.reg 0 w.toNat).get LG_CTL.RUN = 1 := by
    rw [lgCtl_takes, bits_one, hb]
    rfl
  have state := lgCtl_keeps s m w.toNat (g := LG_STAT.STATE) (by decide)
  have mode : (s.writeReg m LG_CTL.reg 0 w.toNat).mode = s.mode := lgCtl_keeps s m w.toNat (g := PW_MODE.MODE) (by decide)
  have free : (s.writeReg m LG_CTL.reg 0 w.toNat).dmHolds = false := by
    rw [← hd, State.dmHolds, State.dmHolds, State.flag, State.flag, lgCtl_keeps s m w.toNat (by decide),
      lgCtl_keeps s m w.toNat (by decide)]
    rfl
  rw [wrLgCtl] at ht
  rw [if_neg (by simp [hb]), if_pos (by simpa [state, hr, free, mode] using hm)] at ht
  rw [ht.get (by decide), ht.get (by decide), ht.get (by decide), State.coreReset_keeps, State.coreReset_state,
    State.coreReset_pc, start]
  exact ⟨rfl, rfl, rfl⟩

end Run

/-! The memories (R598). -/

section Memories

variable {s : State} {m : Master}

theorem State.lgMemNext_mem : s.lgMemNext.mem = s.mem := by
  unfold State.lgMemNext
  split <;> rfl

/-- Whether the first n elements of a field say nothing of what a memory word holds, but for the block memories. -/
def Field.unloaded (f : Field) (n : Nat) : Bool := f.clearOf n [(MEM_UNDEF, 1), (MEM_EPOCH, 1), (BLK_EPOCH, 2050)]

theorem State.load_put {f : Field} {n i v : Nat} (hf : f.unloaded n = true) (hi : i < n) {r : Region}
    (hr : r = .block → BLK_EPOCH.clear f n = true) (a : Nat) : (s.put f v i).load r a = s.load r a := by
  have single {g : Field} {b k : Nat} (hg : (g, b) ∈ [(MEM_UNDEF, 1), (MEM_EPOCH, 1), (BLK_EPOCH, 2050)]) (hk : k < b) :
      (s.put f v i).get g k = s.get g k :=
    State.get_put_ne _ _ (Field.key_clearOf hf hi (List.mem_append_left _ hg) hk).symm
  have undefined : (s.put f v i).get MEM_UNDEF = s.get MEM_UNDEF := single (by simp) Nat.one_pos
  have current : (s.put f v i).get MEM_EPOCH = s.get MEM_EPOCH := single (by simp) Nat.one_pos
  have instructions : (s.put f v i).get BLK_EPOCH 2048 = s.get BLK_EPOCH 2048 := single (b := 2050) (by simp) (by decide)
  have data : (s.put f v i).get BLK_EPOCH 2049 = s.get BLK_EPOCH 2049 := single (b := 2050) (by simp) (by decide)
  have blocks (h : r = .block) (k : Nat) : (s.put f v i).get BLK_EPOCH k = s.get BLK_EPOCH k :=
    State.get_put_ne _ _ (Field.key_clear hi (hr h))
  have blank : (s.put f v i).blank r a = s.blank r a := by
    cases r <;> simp [State.blank, State.filled, undefined, current, instructions, data, blocks]
  have mem : (s.put f v i).mem = s.mem := rfl
  simp only [State.load, blank, current, mem]

theorem State.lgMemNext_load (r : Region) (a : Nat) : s.lgMemNext.load r a = s.load r a := by
  unfold State.lgMemNext
  split
  · exact State.load_put (n := 1) (by decide) Nat.one_pos (fun _ => by decide) a
  · rfl

theorem State.lgStore_load (sel a v : Nat) : (s.lgStore sel a v).lgLoad sel a = v % 2 ^ 32 := by
  rw [State.lgLoad, State.lgStore, State.load_store_self]
  omega

theorem State.lgMemRefuse_shows : s.lgMemRefuse.get LG_STAT.MEMREF = 1 ∧ s.lgMemRefuse.mem = s.mem := by
  refine ⟨?_, (mem_ring_of_stored (State.raise_stored ..)).1⟩
  simp +decide [State.lgMemRefuse, State.raise_get, State.get_put_self]

section Written

variable {w : Word} (hw : Writes m 0x3001C s)
include hw

theorem lgMemdata_writes (ho : s.lgMemOpen = true) : Answers (.lgMemdataAccess m (some w)) s fun t =>
    let sel := s.get LG_MEMADDR.SEL
    let a := s.get LG_MEMADDR.WADDR
    t.lgLoad sel a = w.toNat ∧
      (∀ g b, Region.base g + b ≠ Region.base (if sel = 0 then .lodgeI else .lodgeD) + a → t.load g b = s.load g b) ∧
      (s.get LG_MEMADDR.INC = 1 → t.get LG_MEMADDR.WADDR = (a + 1) % 2 ^ LG_MEMADDR.WADDR.width) := by
  refine answers_write_delivers (exec_lgMemdataAccess m (some w) s) hw fun t ht => ?_
  rw [wrLgMemdata, if_pos ho] at ht
  refine ⟨?_, fun g b apart => ?_, fun inc => ?_⟩
  · rw [State.lgLoad, ht.load, State.lgMemNext_load]
    exact (State.lgStore_load _ _ _).trans (Nat.mod_eq_of_lt w.isLt)
  · rw [ht.load, State.lgMemNext_load]
    exact State.load_store_apart s _ apart
  · have step : (s.lgStore (s.get LG_MEMADDR.SEL) (s.get LG_MEMADDR.WADDR) w.toNat).flag LG_MEMADDR.INC = true := by
      simp only [State.flag, decide_eq_true_eq]
      exact inc
    rw [ht.get (by decide), State.lgMemNext, if_pos step, State.get_put_self]
    rfl

theorem lgMemdata_refuses (ho : s.lgMemOpen = false) : Answers (.lgMemdataAccess m (some w)) s fun t =>
    t.get LG_STAT.MEMREF = 1 ∧ t.mem = s.mem := by
  refine answers_write_delivers (exec_lgMemdataAccess m (some w) s) hw fun t ht => ?_
  rw [wrLgMemdata, if_neg (by simp [ho])] at ht
  rw [ht.get (by decide), ht.mem]
  exact State.lgMemRefuse_shows

end Written

section Read

variable (hr : Reads m 0x3001C s)
include hr

theorem lgMemdata_reads (ho : s.lgMemOpen = true) : exec (.lgMemdataAccess m none) s =
    run s ((if s.peeks m then s else s.lgMemNext).emit .busData
      [m.code, s.lgLoad (s.get LG_MEMADDR.SEL) (s.get LG_MEMADDR.WADDR)]) := by
  rw [exec_read (k := rdLgMemdata m) (exec_lgMemdataAccess m none s) hr, rdLgMemdata, if_pos ho]

theorem lgMemdata_withheld (ho : s.lgMemOpen = false) : Answers (.lgMemdataAccess m none) s fun t =>
    t.get LG_STAT.MEMREF = 1 ∧ t.mem = s.mem := by
  refine answers_read_delivers (k := rdLgMemdata m) (exec_lgMemdataAccess m none s) hr fun t ht => ?_
  rw [rdLgMemdata, if_neg (by simp [ho])] at ht
  rw [ht.get (by decide), ht.mem]
  exact State.lgMemRefuse_shows

end Read

end Memories

/-- Settles O38: the hart by its state, its requests and its accesses. -/
theorem lodgeHartRunsHaltsAndRests : Obligations.LodgeHartRunsHaltsAndRests := by
  intro s ha
  refine ⟨fun cycles fetch data hr hb hm => ⟨fun hq => instruction_halts ha hr hb hm hq, fun hq =>
      ⟨exec_instruction_steps ha hr hb hm hq, fun hs => ⟨fun n hi => instruction_interrupts ha hr hb hm hq hs hi,
        fun w hn ht hw hf => ?_⟩⟩⟩,
    fun hm => ⟨machineTimer_reaches ha hm, halt_halts ha hm, xtInEdge_asks ha hm⟩, resume_resumes ha,
    fun m w hw => ⟨coreRun_stops hw, coreRun_starts hw⟩,
    fun m => ⟨fun w hw => ⟨lgMemdata_writes hw, lgMemdata_refuses hw⟩, fun hr => ⟨lgMemdata_reads hr, lgMemdata_withheld hr⟩⟩⟩
  subst hf
  exact ⟨instruction_adds ha hr hb hm hq hs hn ht hw, instruction_traps ha hr hb hm hq hs hn ht hw⟩

end Sys2Proof.Machine
end

section
/-! O41: the debug module under a grant, the TAP, and the ends of exchanges at the array window (R594, R595, R613 to
R616, R622, R656). -/

namespace Sys2Proof.Machine

/-- The cells that a claim of a pin may write: the claims of pins, and what a peripheral that loses one stops. -/
def claimFields : List (Field × Nat) :=
  [(IO_PCLM.CLAIMS, 585), (IO_PCLM.HOLDER, 585), (IO_PCLM.LOST, 585), (IO_IRQ.PIN_LOST, 1), (LG_UCFG.EN, 2), (U_SHIFT, 2),
    (LG_SCFG.EN, 2), (LG_SSTAT.BUSY, 2), (S_LEFT, 2), (S_KEEP, 2), (LG_ICFG.EN, 2), (LG_ISTAT.BUSY, 2), (I_LEFT, 2),
    (I_HOLD, 2), (LG_IRQ.PIN_LOST, 1), (LG_USTAT.LOST, 2), (LG_SSTAT.LOST, 2), (LG_ISTAT.LOST, 2), (LG_GPOE.OE, 1),
    (LG_GPLOST.LOST, 1)]

namespace State.Within

variable {s t : State} {fs : List (Field × Nat)}

theorem andIn (h : s.Within (.elements fs) t) {f : Field} {n i b : Nat} (hf : (f, b) ∈ fs) (hi : i < b) :
    s.Within (.elements fs) (t.andBit f n i) := h.putIn hf hi

theorem orIn (h : s.Within (.elements fs) t) {f : Field} {n i b : Nat} (hf : (f, b) ∈ fs) (hi : i < b) :
    s.Within (.elements fs) (t.orBit f n i) := h.putIn hf hi

theorem dropClaim (h : s.Within (.elements fs) t) (hf : claimFields ⊆ fs) (lv : Nat) {p : Nat} (hp : p < 585) :
    s.Within (.elements fs) (t.dropClaim lv p) :=
  .putIn (.andIn h (hf (by simp [claimFields] : (IO_PCLM.CLAIMS, 585) ∈ _)) hp)
    (hf (by simp [claimFields] : (IO_PCLM.HOLDER, 585) ∈ _)) hp

theorem dropAll (h : s.Within (.elements fs) t) (hf : claimFields ⊆ fs) (lv : Nat) {pins : List Nat}
    (hp : ∀ p ∈ pins, p < 585) : s.Within (.elements fs) (t.dropAll lv pins) :=
  .foldl h fun _ p hm => .dropClaim .refl hf lv (hp p hm)

theorem periphStop (h : s.Within (.elements fs) t) (hf : claimFields ⊆ fs) {i : Nat} (hi : i < 6) :
    s.Within (.elements fs) (t.periphStop i) := by
  have put {u : State} {f : Field} {v k : Nat} (hm : (f, 2) ∈ claimFields) (hk : k < 2) (hu : s.Within (.elements fs) u) :
      s.Within (.elements fs) (u.put f v k) := hu.putIn (hf hm) hk
  unfold State.periphStop
  split
  · exact put (by simp [claimFields]) ‹_› (put (by simp [claimFields]) ‹_› h)
  · split
    · have unit : i - 2 < 2 := by omega
      exact put (by simp [claimFields]) unit (put (by simp [claimFields]) unit (put (by simp [claimFields]) unit
        (put (by simp [claimFields]) unit h)))
    · have unit : i - 4 < 2 := by omega
      exact put (by simp [claimFields]) unit (put (by simp [claimFields]) unit (put (by simp [claimFields]) unit
        (put (by simp [claimFields]) unit h)))

theorem periphLost (h : s.Within (.elements fs) t) (hf : claimFields ⊆ fs) (p lv : Nat) :
    s.Within (.elements fs) (t.periphLost p lv) := by
  have lost : (LG_IRQ.PIN_LOST, 1) ∈ fs := hf (by simp [claimFields])
  unfold State.periphLost
  split
  · split
    · exact h
    next i found =>
      have unit : i < 6 := List.mem_range.mp (List.mem_of_find?_eq_some found)
      have stopped := (State.Within.periphStop (h.dropAll hf lvLODGE (t.periphPins_lt i)) hf unit).putIn (v := 1) lost Nat.one_pos
      have shown {f : Field} {k : Nat} (hm : (f, 2) ∈ claimFields) (hk : k < 2) := stopped.putIn (v := 1) (hf hm) hk
      dsimp only
      split
      · exact shown (f := LG_USTAT.LOST) (by simp [claimFields]) ‹_›
      · split
        · exact shown (f := LG_SSTAT.LOST) (by simp [claimFields]) (by omega)
        · exact shown (f := LG_ISTAT.LOST) (by simp [claimFields]) (by omega)
  · split
    · split
      · exact h
      · exact ((h.andIn (hf (by simp [claimFields] : (LG_GPOE.OE, 1) ∈ _)) Nat.one_pos).orIn
          (hf (by simp [claimFields] : (LG_GPLOST.LOST, 1) ∈ _)) Nat.one_pos).putIn lost Nat.one_pos
    · exact h

theorem takeClaim (h : s.Within (.elements fs) t) (hf : claimFields ⊆ fs) (lv : Nat) {p : Nat} (hp : p < 585) :
    s.Within (.elements fs) (t.takeClaim lv p) := by
  have claims : (IO_PCLM.CLAIMS, 585) ∈ fs := hf (by simp [claimFields])
  have holder : (IO_PCLM.HOLDER, 585) ∈ fs := hf (by simp [claimFields])
  have lost : (IO_PCLM.LOST, 585) ∈ fs := hf (by simp [claimFields])
  have ousted : s.Within (.elements fs) (t.holderOusted lv p) :=
    .ite (.periphLost (.raise (.putIn (.orIn (h.dropClaim hf _ hp) lost hp)
      (hf (by simp [claimFields] : (IO_IRQ.PIN_LOST, 1) ∈ _)) Nat.one_pos) trivial) hf _ _) h
  rw [State.takeClaim_eq]
  exact .putIn (.andIn (.orIn ousted claims hp) lost hp) holder hp

theorem claimAll (h : s.Within (.elements fs) t) (hf : claimFields ⊆ fs) {lv : Nat} {pins : List Nat} (hp : ∀ p ∈ pins, p < 585)
    {u : State} (hc : t.claimAll lv pins = .inr u) : s.Within (.elements fs) u := by
  unfold State.claimAll at hc
  split at hc
  · cases hc
  · cases hc
    exact .foldl h fun _ p hm => .takeClaim .refl hf lv (hp p hm)

end State.Within

/-- The cells that a claim of the debug pin may write. -/
def customFields : List (Field × Nat) :=
  claimFields ++ [(LG_REFUSE.CODE, 1), (LG_REFUSE.OBJ, 1), (GH_REFUSE.CODE, 1), (GH_REFUSE.OBJ, 1), (XT_OUT, 1)]

theorem State.dmCustomWrite_within (v : State) (w : Nat) :
    ((v.put DBG_CONSUME (bits w 0 1)).put XT_IN (bits w 2 1)).Within (.elements customFields) (v.dmCustomWrite w) := by
  have claims : claimFields ⊆ customFields := List.subset_append_left _ _
  have pin : ∀ p ∈ [47], p < 585 := by simp
  have put {x y : State} {f : Field} {n : Nat} (hm : (f, 1) ∈ customFields) (hx : x.Within (.elements customFields) y) :
      x.Within (.elements customFields) (y.put f n) := hx.putIn hm Nat.one_pos
  unfold State.dmCustomWrite
  dsimp only
  split
  · refine .ite .refl ?_
    split
    · exact .raise (put (by simp [customFields]) (put (by simp [customFields]) (put (f := refuseObj 0x0D)
        (by simp [customFields, refuseObj, refuseCode]; decide) (put (f := refuseCode 0x0D) (by simp [customFields, refuseCode]) .refl)))) trivial
    next claimed => exact .xtDrive (put (by simp [customFields]) (State.Within.claimAll .refl claims pin claimed))
  · exact .ite (.dropAll (put (by simp [customFields]) .refl) claims _ pin) .refl

section Clauses

variable {s t u : State} (ha : Awake s) (hm : s.mode ≠ mDORMANT)
include ha hm

/-! Accesses of the debug module (R614 to R616). -/

theorem dmiAccess_ungranted (hg : s.get GH_DBGSTAT.LEVEL = 0) (a : BitVec 7) (w : Word) :
    Answers (.dmiAccess a (some w)) s fun t => s.Frame t [] := by
  refine answers_live_delivers (exec_dmiAccess a (some w) s) ha fun t ht => ht.frame ?_
  simp [hm, State.debugGranted, hg, s.frame_refl]

theorem dmiAccess_reads_none (hg : s.get GH_DBGSTAT.LEVEL = 0) (a : BitVec 7) :
    exec (.dmiAccess a none) s = run s (s.emit .jtag [2, 0]) := by
  rw [exec_live (exec_dmiAccess a none s) ha]
  simp [hm, State.debugGranted, hg]

section Granted

variable (hg : 1 ≤ s.get GH_DBGSTAT.LEVEL)
include hg

theorem dmiAccess_writes (a : BitVec 7) (w : Word) :
    exec (.dmiAccess a (some w)) s = run s (s.dmiWrite a.toNat w.toNat) := by
  rw [exec_live (exec_dmiAccess a (some w) s) ha]
  simp [hm, State.debugGranted, hg]

variable (hd : s.get DM_ACTIVE = 1)
include hd

theorem dmiAccess_data {w : Word} (hp : s.get DM_POST = 0) (hb : bit (s.get DM_AUTO) 0 = false) :
    Answers (.dmiAccess 0x04 (some w)) s fun t => t.get DM_DATA0 = w.toNat ∧ s.Frame t [DM_DATA0.key 0] := by
  refine answers_run (dmiAccess_writes ha hm hg 0x04 w) fun t ht => ?_
  have idle : s.dmBusy = false := by simp [State.dmBusy, hp]
  have put : s.dmiWrite 0x04 w.toNat = s.put DM_DATA0 w.toNat := by
    have still : (s.put DM_DATA0 w.toNat).dmBusy = false := by simp +decide [State.dmBusy, State.get_put_ne, hp]
    have auto : bit ((s.put DM_DATA0 w.toNat).get DM_AUTO) 0 = false := by rwa [State.get_put_ne _ _ (by decide)]
    simp [State.dmiWrite, State.flag, hd, State.dmPut, State.dmTouch, idle, still, auto]
  replace ht : (s.dmiWrite 0x04 w.toNat).Delivers t := ht
  rw [put] at ht
  have silent : s.Within (.silent [DM_DATA0.key 0]) (s.put DM_DATA0 w.toNat) := .put .refl (by simp)
  refine ⟨?_, ht.frame silent.frame⟩
  rw [ht.get (by decide), State.get_put_self]
  exact Nat.mod_eq_of_lt w.isLt

section Command

variable {w : Word} {r : Fin 32} (hw : w.toNat = 0x231000 + r) (hp : s.get DM_POST = 0) (he : s.get DM_CMDERR = 0)
include hw hp he

omit ha hm hg in
/-- The fields of the command word that writes a register of the hart from data0. -/
theorem State.dmiWrite_command : s.dmiWrite 0x17 w.toNat =
    if (s.put DM_CMD w.toNat).rvDebug then (s.put DM_CMD w.toNat).setX r (s.get DM_DATA0) else (s.put DM_CMD w.toNat).dmErr 4 := by
  have index := r.isLt
  have kind : bits w.toNat 24 8 = 0 := by rw [hw]; simp only [bits]; omega
  have transfer : bit w.toNat 17 = true := by rw [hw]; simp only [bit, decide_eq_true_eq]; omega
  have size : bits w.toNat 20 3 = 2 := by rw [hw]; simp only [bits]; omega
  have store : bit w.toNat 16 = true := by rw [hw]; simp only [bit, decide_eq_true_eq]; omega
  have once : bit w.toNat 18 = false := by rw [hw]; simp only [bit, decide_eq_false_iff_not]; omega
  have same : bit w.toNat 19 = false := by rw [hw]; simp only [bit, decide_eq_false_iff_not]; omega
  have register : bits w.toNat 0 16 = 0x1000 + r := by rw [hw]; simp only [bits]; omega
  have idle : s.dmBusy = false := by simp [State.dmBusy, hp]
  have command : s.dmiWrite 0x17 w.toNat = s.dmCommand w.toNat := by simp [State.dmiWrite, State.flag, hd, idle, he]
  have data : (s.put DM_CMD w.toNat).get DM_DATA0 = s.get DM_DATA0 := State.get_put_ne _ _ (by decide)
  have moved : (s.put DM_CMD w.toNat).dmTransfer w.toNat = some ((s.put DM_CMD w.toNat).setX r (s.get DM_DATA0)) := by
    rw [State.dmTransfer, if_neg (by simp [transfer]), if_pos store, register, data, State.dmSetReg, if_neg (by omega),
      if_pos (by omega), Nat.add_sub_cancel_left]
  rw [command, State.dmCommand]
  simp only [kind, transfer, size, moved, same, once]
  cases (s.put DM_CMD w.toNat).rvDebug <;> rfl

theorem dmiAccess_commands (hh : s.get LG_STAT.STATE = lgHALTED) (hr : r.val ≠ 0) : Answers (.dmiAccess 0x17 (some w)) s fun t =>
    t.get RV_X r = s.get DM_DATA0 % 2 ^ 32 ∧ t.get DM_CMDERR = 0 ∧ s.Frame t [RV_X.key r, DM_CMD.key 0] := by
  refine answers_run (dmiAccess_writes ha hm hg 0x17 w) fun t ht => ?_
  replace ht : (s.dmiWrite 0x17 w.toNat).Delivers t := ht
  have halted : (s.put DM_CMD w.toNat).rvDebug = true := by simp +decide [State.rvDebug, State.get_put_ne, hh]
  rw [State.dmiWrite_command hd hw hp he, if_pos halted, State.setX, if_neg hr] at ht
  have silent : s.Within (.silent [RV_X.key r, DM_CMD.key 0]) ((s.put DM_CMD w.toNat).put RV_X (s.get DM_DATA0) r) :=
    .put (.put .refl (by simp)) (by simp)
  refine ⟨?_, ?_, ht.frame silent.frame⟩
  · rw [ht.get (by simp +decide), State.get_put_self]
    rfl
  · rw [ht.get (by decide), State.get_put_ne _ _ (by simp +decide), State.get_put_ne _ _ (by decide), he]

theorem dmiAccess_fails (hh : s.get LG_STAT.STATE ≠ lgHALTED) : Answers (.dmiAccess 0x17 (some w)) s fun t =>
    t.get DM_CMDERR = 4 ∧ t.get RV_X r = s.get RV_X r := by
  refine answers_run (dmiAccess_writes ha hm hg 0x17 w) fun t ht => ?_
  replace ht : (s.dmiWrite 0x17 w.toNat).Delivers t := ht
  have running : (s.put DM_CMD w.toNat).rvDebug = false := by simp +decide [State.rvDebug, State.get_put_ne, hh]
  have free : ((s.put DM_CMD w.toNat).put DM_POST 0).get DM_CMDERR = 0 := by simp +decide [State.get_put_ne, he]
  rw [State.dmiWrite_command hd hw hp he, if_neg (by simp [running]), State.dmErr, if_pos free] at ht
  rw [ht.get (by decide), ht.get (by simp +decide)]
  simp +decide [State.get_put_ne, State.get_put_self]

end Command

theorem dmcustom0Write_sets (w : Word) : Answers (.dmcustom0Write w) s fun t =>
    t.get DBG_CONSUME = bits w.toNat 0 1 ∧ t.get XT_IN = bits w.toNat 2 1 := by
  refine answers_live_delivers (exec_dmcustom0Write w s) ha fun t ht => ?_
  rw [if_pos (by simp [hm, State.debugGranted, hg, State.flag, hd])] at ht
  have custom := s.dmCustomWrite_within w.toNat
  rw [ht.get (by decide), ht.get (by decide), custom.get_elements (n := 1) (by decide) Nat.one_pos,
    custom.get_elements (n := 1) (by decide) Nat.one_pos, State.get_put_self, State.get_put_ne _ _ (by decide),
    State.get_put_self]
  exact ⟨Nat.mod_mod _ _, Nat.mod_mod _ _⟩

end Granted

/-! The TAP (R613, R622, R656). -/

theorem tapInstruction_plain {c : BitVec 5} (hc : [0, 3, 4, 5, 6].contains c.toNat = false) :
    Answers (.tapInstruction c) s fun t => t.get TAP_IR = tapCode c.toNat ∧ s.Frame t [TAP_IR.key 0] := by
  refine answers_live_delivers (exec_tapInstruction c s) ha fun t ht => ?_
  have plain : ∀ c : BitVec 5, [0, 3, 4, 5, 6].contains c.toNat = false →
    [0, 3, 4, 5, 6].contains (tapCode c.toNat) = false ∧ tapCode c.toNat % 2 ^ 5 = tapCode c.toNat := by decide
  obtain ⟨code, width⟩ := plain c hc
  rw [if_neg hm] at ht
  dsimp only at ht
  rw [if_neg (by simpa using code)] at ht
  have silent : s.Within (.silent [TAP_IR.key 0]) (s.put TAP_IR (tapCode c.toNat)) := .put .refl (by simp)
  exact ⟨by rw [ht.get (by decide), State.get_put_self]; exact width, ht.frame silent.frame⟩

section Scan

variable {c : BitVec 5} (hc : [0, 3, 4, 5, 6].contains c.toNat = true)
include hc

omit ha hm in
theorem tapCode_scan : tapCode c.toNat = c.toNat :=
  (by decide : ∀ c : BitVec 5, [0, 3, 4, 5, 6].contains c.toNat = true → tapCode c.toNat = c.toNat) c hc

theorem tapInstruction_bypassed (hg : s.get GH_DBGSTAT.LEVEL ≠ 2 ∨ (s.mode ≠ mHOLD ∧ s.mode ≠ mRESCUE)) :
    Answers (.tapInstruction c) s fun t => t.get TAP_IR = 0x1F := by
  refine answers_live_delivers (exec_tapInstruction c s) ha fun t ht => ?_
  rw [if_neg hm] at ht
  dsimp only at ht
  rw [tapCode_scan hc, if_pos hc, if_neg (by simp; tauto)] at ht
  rw [ht.get (by decide), State.raise_get _ _ _ _ (by decide) (by decide), State.get_put_self]
  rfl

theorem exec_tapInstruction_scans (hg : s.get GH_DBGSTAT.LEVEL = 2) (hs : s.mode = mHOLD ∨ s.mode = mRESCUE) :
    exec (.tapInstruction c) s = run s ((s.put TAP_IR c.toNat).scanBegins) := by
  rw [exec_live (exec_tapInstruction c s) ha]
  dsimp only
  rw [if_neg hm, tapCode_scan hc, if_pos hc, if_pos (by simpa [hg] using hs)]

end Scan

theorem tapReset_selects : Answers .tapReset s fun t => t.get TAP_IR = 1 ∧ s.Frame t [TAP_IR.key 0] := by
  refine answers_live_delivers (exec_tapReset s) ha fun t ht => ?_
  rw [if_neg hm] at ht
  have silent : s.Within (.silent [TAP_IR.key 0]) (s.put TAP_IR 1) := .put .refl (by simp)
  exact ⟨by rw [ht.get (by decide), State.get_put_self]; rfl, ht.frame silent.frame⟩

theorem exec_ghdbg_selected (hi : s.get TAP_IR = 0x12) (b : Bool) (off : BitVec 10) (w : Word) :
    exec (.ghdbg b off w) s = run s (if b then busWrite .debug (4 * off.toNat) w.toNat s
      else ((busRead .debug (4 * off.toNat) s).2.put GHDBG_DATA (busRead .debug (4 * off.toNat) s).1).emit .jtag
        [3, (busRead .debug (4 * off.toNat) s).1]) := by
  rw [exec_live (exec_ghdbg b off w s) ha]
  dsimp only
  rw [if_neg (by simp [hm, hi])]

omit hm in
theorem ghdbg_unselected (hi : s.get TAP_IR ≠ 0x12) (b : Bool) (off : BitVec 10) (w : Word) :
    Answers (.ghdbg b off w) s fun t => s.Frame t [] := by
  refine answers_live_delivers (exec_ghdbg b off w s) ha fun t ht => ht.frame ?_
  rw [if_pos (by simp [hi])]
  exact s.frame_refl _

end Clauses

/-! System bus accesses of data memory (R614). -/

section SystemBus

variable {s t : State} (ha : Awake s)

/-- What the end of an access on the system bus leaves. -/
theorem State.sbDone_shows (s : State) (v : Option Nat) : (s.sbDone v).get DM_SBOP = 0 ∧ (s.sbDone v).mem = s.mem ∧
    (∀ x, v = some x → (s.sbDone v).get DM_SBDATA = x % 2 ^ 32) ∧ ∀ a, (s.sbDone v).load .lodgeD a = s.load .lodgeD a := by
  have kept {u : State} {f : Field} {x a : Nat} (hf : f.unloaded 1 = true) : (u.put f x).load .lodgeD a = u.load .lodgeD a :=
    State.load_put (r := .lodgeD) hf Nat.one_pos (fun h => nomatch h) a
  unfold State.sbDone
  dsimp only
  refine ⟨by rw [State.get_put_self]; rfl, ?_, ?_, fun a => ?_⟩
  · cases v <;> dsimp only <;> split <;> rfl
  · rintro x rfl
    rw [State.get_put_ne _ _ (by decide)]
    dsimp only
    split
    · rw [State.get_put_ne _ _ (by decide), State.get_put_self]
      rfl
    · rw [State.get_put_self]
      rfl
  · rw [kept (by decide)]
    cases v <;> dsimp only <;> split <;> simp only [kept (f := DM_SBADDR) (by decide), kept (f := DM_SBDATA) (by decide)]

/-- A whole aligned word is taken as it is. -/
theorem partOf_whole {w a : Nat} (hw : w < 2 ^ 32) (ha : a % 4 = 0) : partOf w a 4 = w := by
  rw [partOf, ha, pow_zero, Nat.div_one]
  exact Nat.mod_eq_of_lt hw

variable (hz : s.get DM_SBADDR % 4 = 0) (hl : 0x10000000 ≤ s.get DM_SBADDR) (hh : s.get DM_SBADDR < 0x10040000)
include hl hh

/-- An access of data memory is made as the hart's own is. -/
theorem State.sbMake_memory : s.sbMake =
    match if s.get DM_SBOP = 2 then s.rvStore (s.get DM_SBADDR) 4 (s.get DM_SBDATA) .clean
      else s.rvLoad (s.get DM_SBADDR) 4 .clean with
    | .val x t => t.sbDone (if s.get DM_SBOP = 2 then none else some x)
    | .fault t => t.sbFail (if 0x30000000 ≤ s.get DM_SBADDR && s.get DM_SBADDR < 0x30800000 then 7 else 2)
    | .waits t => t := by
  unfold State.sbMake
  dsimp only
  rw [if_neg (by simp; omega), if_neg (by simp; omega)] <;>
    cases h : decide (s.get DM_SBOP = 2) <;> simp [of_decide_eq_true, of_decide_eq_false, h] <;> rfl

include ha

include hz in
theorem systemBusAccess_reads (ho : s.get DM_SBOP = 1) : Answers .systemBusAccess s fun t =>
    t.get DM_SBDATA = s.lgLoad 1 ((s.get DM_SBADDR - 0x10000000) / 4) ∧ t.get DM_SBOP = 0 ∧ t.mem = s.mem := by
  refine answers_live_delivers (exec_systemBusAccess s) ha fun t ht => ?_
  have word : s.lgLoad 1 ((s.get DM_SBADDR - 0x10000000) / 4) < 2 ^ 32 := Nat.mod_lt _ (by decide)
  have read : s.rvLoad (s.get DM_SBADDR) 4 .clean = .val (s.lgLoad 1 ((s.get DM_SBADDR - 0x10000000) / 4)) s := by
    unfold State.rvLoad
    dsimp only
    rw [if_neg (by omega), if_pos (by simp; omega), if_neg (by simp), partOf_whole word hz]
    rfl
  rw [if_pos (by simp [ho]), State.sbMake_memory hl hh, if_neg (by simp [ho]), read] at ht
  obtain ⟨done, mem, data, -⟩ := s.sbDone_shows (some (s.lgLoad 1 ((s.get DM_SBADDR - 0x10000000) / 4)))
  dsimp only at ht
  rw [if_neg (by simp [ho])] at ht
  rw [ht.get (by decide), ht.get (by decide), ht.mem, data _ rfl, Nat.mod_eq_of_lt word]
  exact ⟨rfl, done, mem⟩

theorem systemBusAccess_writes (ho : s.get DM_SBOP = 2) : Answers .systemBusAccess s fun t =>
    t.lgLoad 1 ((s.get DM_SBADDR - 0x10000000) / 4) = s.get DM_SBDATA % 2 ^ 32 ∧ t.get DM_SBOP = 0 := by
  refine answers_live_delivers (exec_systemBusAccess s) ha fun t ht => ?_
  have written : s.rvStore (s.get DM_SBADDR) 4 (s.get DM_SBDATA) .clean =
      .val 0 (s.lgStore 1 ((s.get DM_SBADDR - 0x10000000) / 4) (s.get DM_SBDATA)) := by
    unfold State.rvStore
    dsimp only
    rw [if_neg (by omega), if_pos (by simp; omega), if_pos rfl]
  rw [if_pos (by simp [ho]), State.sbMake_memory hl hh, if_pos ho, written] at ht
  dsimp only at ht
  rw [if_pos ho] at ht
  obtain ⟨done, -, -, load⟩ := (s.lgStore 1 ((s.get DM_SBADDR - 0x10000000) / 4) (s.get DM_SBDATA)).sbDone_shows none
  rw [ht.get (by decide), done]
  refine ⟨?_, rfl⟩
  rw [State.lgLoad, ht.load]
  exact (congrArg (· % 2 ^ 32) (load _)).trans (State.lgStore_load 1 _ _)

end SystemBus

/-! The ends of an exchange at the array window (R594, R595). -/

section Window

variable {s : State} (ha : Awake s) (hr : s.get LG_CTL.RUN = 1) (hw : s.get RV_WAIT = 1) (hb : s.get AW_SB = 0)
  (hp : s.get DM_POST = 0) (hs : bit (s.get RV_DCSR) 2 = false) (hi : s.get RV_WINS % 128 = 0x03)

section Ends

variable {u : State} (idle : u.get DM_POST = 0) (load : u.get RV_WINS % 128 = 0x03)
include idle load

/-- The waiting load of the running hart ends as the instruction that it is. -/
theorem State.rvAccessEnd_load (v : Option Nat) : u.rvAccessEnd v = (match v with
    | none => RvEnd.trap u 5 (rvAdd (u.xr (rvRs1 (u.get RV_WINS))) (rvImmI (u.get RV_WINS)))
    | some x => RvEnd.retire (u.setX (rvRd (u.get RV_WINS)) (rvLoadExt (rvF3 (u.get RV_WINS)) x)) (rvAdd (u.get RV_PC) 4)).finish
      (u.get RV_WINS) 4 := by
  have long : u.get RV_WINS % 4 = 3 := by omega
  have quiet : u.dmBusy = false := by simp [State.dmBusy, idle]
  have ends : u.rvEnds v = match v with
    | none => RvEnd.trap u 5 (rvAdd (u.xr (rvRs1 (u.get RV_WINS))) (rvImmI (u.get RV_WINS)))
    | some x => RvEnd.retire (u.setX (rvRd (u.get RV_WINS)) (rvLoadExt (rvF3 (u.get RV_WINS)) x)) (rvAdd (u.get RV_PC) 4) := by
    unfold State.rvEnds
    simp only [long, if_true, load] <;> cases v <;> rfl
  rw [State.rvAccessEnd]
  simp only [quiet, Bool.false_eq_true, if_false, long, if_true, ends]

end Ends

/-- The core stays while RUN is set. -/
theorem State.coreOff_runs {u : State} (h : u.get LG_CTL.RUN = 1) : u.coreOff = u := by
  simp [State.coreOff, h]

include ha hr hw hb hp hs hi

theorem arrayWindowAnswer_loads (data : Word) : Answers (.arrayWindowAnswer data false) s fun t =>
    t.get RV_WAIT = 0 ∧ t.get RV_PC = rvAdd (s.get RV_PC) 4 ∧
      (rvRd (s.get RV_WINS) ≠ 0 → rvF3 (s.get RV_WINS) = 2 → t.xr (rvRd (s.get RV_WINS)) = data.toNat) := by
  refine answers_live_delivers (exec_arrayWindowAnswer data false s) ha fun t ht => ?_
  have kept {g : Field} {j : Nat} (hk : g.key j ≠ RV_WAIT.key 0) : (s.put RV_WAIT 0).get g j = s.get g j :=
    State.get_put_ne _ _ hk
  have unasked : (s.put RV_WAIT 0).sbOffer = s.put RV_WAIT 0 := by
    rw [State.sbOffer, if_neg]
    rw [kept (by decide), hb]
    decide
  have single : bit ((s.put RV_WAIT 0).get RV_DCSR) 2 = false := by rwa [kept (by decide)]
  obtain ⟨rd, target⟩ : ∃ rd : Fin 32, rvRd (s.get RV_WINS) = rd := ⟨⟨_, rvRd_lt _⟩, rfl⟩
  have ended : (s.put RV_WAIT 0).rvAccessEnd (some data.toNat) = (RvEnd.retire ((s.put RV_WAIT 0).setX rd
      (rvLoadExt (rvF3 (s.get RV_WINS)) data.toNat)) (rvAdd (s.get RV_PC) 4)).finish (s.get RV_WINS) 4 := by
    rw [State.rvAccessEnd_load (by rwa [kept (by decide)]) (by rwa [kept (by decide)]), kept (by decide), kept (by decide),
      target]
  have other {g : Field} {j : Nat} (hx : g.key j ≠ RV_X.key rd) (hc : g.key j ≠ RV_PC.key 0) (hr : g.key j ≠ RV_MINSTRET.key 0) :
      ((s.put RV_WAIT 0).rvAccessEnd (some data.toNat)).get g j = (s.put RV_WAIT 0).get g j := by
    rw [ended, State.finish_retire (by rwa [State.setX_get (by simp +decide)]), State.rvRetired_get hr,
      State.get_put_ne _ _ hc, State.setX_get hx]
  obtain ⟨pc, read, -⟩ := (s.put RV_WAIT 0).retired_shows (w := s.get RV_WINS) (len := 4) (rd := rd)
    (v := rvLoadExt (rvF3 (s.get RV_WINS)) data.toNat) (pc := rvAdd (s.get RV_PC) 4) single
  dsimp only at ht
  rw [if_neg (by rw [hb]; decide), hw] at ht
  replace ht : (((s.put RV_WAIT 0).sbOffer).rvAccessEnds (some data.toNat)).Delivers t := ht
  rw [unasked, State.rvAccessEnds, State.coreOff_runs
    (by rw [other (by simp +decide) (by decide) (by decide), kept (by decide), hr])] at ht
  refine ⟨?_, ?_, fun nonzero whole => ?_⟩
  · rw [ht.get (by decide), other (by simp +decide) (by decide) (by decide), State.get_put_self]
    rfl
  · rw [ht.get (by decide), ended, pc, rvAdd_mod]
  · have value : rvLoadExt (rvF3 (s.get RV_WINS)) data.toNat = data.toNat := by
      rw [whole]
      exact Nat.mod_eq_of_lt data.isLt
    rw [target] at nonzero ⊢
    have delivered : t.xr rd = ((s.put RV_WAIT 0).setX rd (rvLoadExt (rvF3 (s.get RV_WINS)) data.toNat)).xr rd := by
      rw [← read, ← ended, State.xr, State.xr, ht.get (by simp +decide)]
    rw [delivered, value, State.setX_reads (Nat.mod_eq_of_lt data.isLt), if_pos ⟨rfl, Fin.val_ne_zero_iff.mp nonzero⟩]

omit hb in
theorem arrayWindowGuard_faults : Answers (.arrayWindowGuard false) s fun t =>
    t.get RV_WAIT = 2 ∧ t.get LG_IRQ.AWIN = 1 ∧ t.get RV_CSR 0x342 = 5 ∧ t.get RV_CSR 0x341 = s.get RV_PC % 2 ^ 32 ∧
      t.get RV_PC = s.get RV_CSR 0x305 / 4 * 4 % 2 ^ 32 := by
  refine answers_live_delivers (exec_arrayWindowGuard false s) ha fun t ht => ?_
  have kept {g : Field} {j : Nat} (hk : g.key j ∉ cellsAt [RV_WAIT, LG_AWCNT.GUARDED, LG_IRQ.AWIN, EV_DROP.COUNT,
      DROP_EPISODE]) : ((s.put RV_WAIT 2).winGuarded).get g j = s.get g j := by
    simp only [cellsAt, List.map_cons, List.map_nil, List.mem_cons, List.not_mem_nil, or_false, not_or] at hk
    obtain ⟨wait, guarded, awin, drop, episode⟩ := hk
    unfold State.winGuarded
    dsimp only
    split
    · rw [State.raise_get _ _ _ _ drop episode, State.get_put_ne _ _ awin, State.get_count_ne _ _ guarded,
        State.get_put_ne _ _ wait]
    · rw [State.get_put_ne _ _ awin, State.get_count_ne _ _ guarded, State.get_put_ne _ _ wait]
  have shown : (s.put RV_WAIT 2).winGuarded.get RV_WAIT = 2 ∧ (s.put RV_WAIT 2).winGuarded.get LG_IRQ.AWIN = 1 := by
    unfold State.winGuarded
    dsimp only
    split <;> simp +decide [State.raise_get, State.get_put_ne, State.get_count_ne, State.get_put_self]
  obtain ⟨waits, flagged⟩ := shown
  have ended := State.rvAccessEnd_load (u := (s.put RV_WAIT 2).winGuarded) (by rwa [kept (by decide)])
    (by rwa [kept (by decide)]) none
  rw [State.finish_trap (by rwa [kept (by decide)])] at ended
  rw [if_neg (by simp), if_pos hw, State.rvAccessEnds, ended, State.coreOff_runs
    (by rw [State.rvTrap_get (n := 1) (by decide) Nat.one_pos, kept (by decide), hr])] at ht
  obtain ⟨pc, cause, -, handler⟩ := ((s.put RV_WAIT 2).winGuarded).rvTrap_shows (num := 5) (irq := false)
    (tval := rvAdd ((s.put RV_WAIT 2).winGuarded.xr (rvRs1 ((s.put RV_WAIT 2).winGuarded.get RV_WINS)))
      (rvImmI ((s.put RV_WAIT 2).winGuarded.get RV_WINS)))
  rw [kept (g := RV_PC) (by decide)] at pc
  rw [kept (g := RV_CSR) (j := 0x305) (by decide)] at handler
  rw [ht.get (by decide), ht.get (by decide), ht.get (by decide), ht.get (by decide), ht.get (by decide),
    State.rvTrap_get (n := 1) (by decide) Nat.one_pos, State.rvTrap_get (n := 1) (by decide) Nat.one_pos]
  exact ⟨waits, flagged, cause, pc, handler (.inl rfl)⟩

end Window

/-- Settles O41: the debug module by its grant and its commands, the TAP by its codes, the array window by the ends of its
exchanges. -/
theorem debugModuleTapAndWindowAct : Obligations.DebugModuleTapAndWindowAct := by
  intro s ha hm
  refine ⟨fun hg => ⟨fun a w => dmiAccess_ungranted ha hm hg a w, fun a => dmiAccess_reads_none ha hm hg a⟩,
    fun hg hd => ⟨fun w hp hb => dmiAccess_data ha hm hg hd hp hb,
      fun w r hw hp he => ⟨fun hh hr => dmiAccess_commands ha hm hg hd hw hp he hh hr,
        fun hh => dmiAccess_fails ha hm hg hd hw hp he hh⟩, fun w => dmcustom0Write_sets ha hm hg hd w⟩,
    fun hz hl hh => ⟨fun ho => systemBusAccess_reads ha hz hl hh ho, fun ho => systemBusAccess_writes ha hl hh ho⟩,
    fun c => ⟨fun hc => tapInstruction_plain ha hm hc, fun hc hg => tapInstruction_bypassed ha hm hc hg,
      fun hc hg hs => exec_tapInstruction_scans ha hm hc hg hs⟩, tapReset_selects ha hm,
    fun off w => ⟨fun hi => ⟨exec_ghdbg_selected ha hm hi true off w, exec_ghdbg_selected ha hm hi false off w⟩,
      fun hi b => ghdbg_unselected ha hi b off w⟩,
    fun hr hw hb hp hs hi => ⟨arrayWindowAnswer_loads ha hr hw hb hp hs hi, arrayWindowGuard_faults ha hr hw hp hs hi⟩⟩

end Sys2Proof.Machine
end

section
/-! O50: the SMBus target answers its reads, takes its writes and ends its alert (R740, R758 to R761, R806). -/

namespace Sys2Proof.Machine

/-! Host violations (R761). -/

section Violation

variable {s : State} {kind : Nat}

/-- The cells of a host violation. -/
def smbFields : List (Field × Nat) :=
  [(SMB_SEEN, 7), (BV_SMBSTAT.PECERR, 1), (BV_SMBSTAT.PROTO, 1), (BV_IRQ.SMB, 1)]

/-- What a violation counts in. -/
def smbCounter (kind : Nat) : Field := if kind = 1 then BV_SMBSTAT.PECERR else BV_SMBSTAT.PROTO

theorem State.smbViolation_within (hk : kind < 7) : s.Within (.elements smbFields) (s.smbViolation kind) := by
  have put {u : State} {f : Field} {v i b : Nat} (hm : (f, b) ∈ smbFields) (hi : i < b) (hu : s.Within (.elements smbFields) u) :
      s.Within (.elements smbFields) (u.put f v i) := hu.putIn hm hi
  have seen : (SMB_SEEN, 7) ∈ smbFields := by simp [smbFields]
  have counter : (smbCounter kind, 1) ∈ smbFields := by
    unfold smbCounter
    split <;> simp [smbFields]
  unfold State.smbViolation
  extract_lets first second fresh third
  have begun : s.Within (.elements smbFields) first := .ite (put seen (by decide) .refl) .refl
  have known : s.Within (.elements smbFields) second :=
    .ite (begun.foldl fun u k hk => .putIn .refl seen (by simp at hk; omega)) begun
  have counted : s.Within (.elements smbFields) third :=
    put (by simp [smbFields]) Nat.one_pos (put seen hk (put counter Nat.one_pos known))
  exact .ite (counted.raise trivial) counted

theorem State.smbViolation_get (hk : kind < 7) {g : Field} {n j : Nat} (hg : g.clearOf n smbFields = true) (hj : j < n) :
    (s.smbViolation kind).get g j = s.get g j := (State.smbViolation_within hk).get_elements hg hj

/-- A violation before its record: the kinds seen since the counters were cleared, the count, the interrupt. -/
theorem State.smbViolation_known (s : State) (kind : Nat) : ∃ u : State, (∀ f, f = BV_SMBSTAT.PECERR ∨ f = BV_SMBSTAT.PROTO →
    u.get f = s.get f) ∧ u.out = s.out ∧ ∃ obj rc, s.smbViolation kind =
      (let v := ((u.count (smbCounter kind) 1).put SMB_SEEN 1 kind).put BV_IRQ.SMB 1
       if u.flag SMB_SEEN kind then v else v.raise rc obj) := by
  unfold State.smbViolation
  extract_lets first second fresh third
  have begun {f : Field} (hf : f = BV_SMBSTAT.PECERR ∨ f = BV_SMBSTAT.PROTO) : first.get f = s.get f := by
    unfold first
    split
    · rcases hf with rfl | rfl <;> exact State.get_put_ne _ _ (by decide)
    · rfl
  refine ⟨second, fun f hf => ?_, ?_, kind, if kind = 1 then Rc.BV_SMB_PEC else Rc.BV_SMB_PROTOCOL, ?_⟩
  · unfold second
    split
    · refine foldl_keeps (fun u : State => u.get f = s.get f) _ (fun u k hu => (State.get_put_ne _ _ ?_).trans hu) _ _ (begun hf)
      rcases hf with rfl | rfl <;> simp +decide
    · exact begun hf
  · have out : first.out = s.out := by
      unfold first
      split <;> rfl
    unfold second
    split
    · exact out
    · exact out
  · unfold fresh third smbCounter
    cases second.flag SMB_SEEN kind <;> rfl

theorem State.smbViolation_counts :
    (s.smbViolation kind).get (smbCounter kind) = min (s.get (smbCounter kind) + 1) (2 ^ 8 - 1) ∧
      (s.smbViolation kind).get BV_IRQ.SMB = 1 := by
  have cases : smbCounter kind = BV_SMBSTAT.PECERR ∨ smbCounter kind = BV_SMBSTAT.PROTO := by
    unfold smbCounter
    split <;> simp
  have width : 2 ^ (smbCounter kind).width - 1 = 2 ^ 8 - 1 := by rcases cases with h | h <;> rw [h] <;> rfl
  have seen : (smbCounter kind).key 0 ≠ SMB_SEEN.key kind := by rcases cases with h | h <;> rw [h] <;> simp +decide
  have irq : (smbCounter kind).key 0 ≠ BV_IRQ.SMB.key 0 := by rcases cases with h | h <;> rw [h] <;> decide
  have quiet : (smbCounter kind).key 0 ≠ EV_DROP.COUNT.key 0 ∧ (smbCounter kind).key 0 ≠ DROP_EPISODE.key 0 := by
    rcases cases with h | h <;> rw [h] <;> decide
  obtain ⟨u, kept, -, obj, rc, shape⟩ := s.smbViolation_known kind
  rw [shape]
  dsimp only
  split
  · rw [State.get_put_ne _ _ irq, State.get_put_ne _ _ seen, State.get_count_self, kept _ cases, width, State.get_put_self]
    exact ⟨rfl, rfl⟩
  · rw [State.raise_get _ _ _ _ quiet.1 quiet.2, State.raise_get _ _ _ _ (by decide) (by decide), State.get_put_ne _ _ irq,
      State.get_put_ne _ _ seen, State.get_count_self, kept _ cases, width, State.get_put_self]
    exact ⟨rfl, rfl⟩

theorem State.smbViolation_out : (s.smbViolation kind).out = s.out := by
  obtain ⟨u, -, out, obj, rc, shape⟩ := s.smbViolation_known kind
  rw [shape]
  dsimp only
  split
  · exact out
  · exact (State.raise_out ..).trans out

end Violation

section Clauses

variable {s : State} (ha : Awake s)

/-- The target answers a command: it is enabled, and DORMANT answers the command if the device is in it (R759). -/
def State.smbOn (s : State) (cmd : Nat) : Prop := s.get BV_SMBCFG.EN = 1 ∧ (s.mode = mDORMANT → cmd ∈ smbDormant)

section At

variable {cmd : Nat} {k : State → State}

theorem State.smbAt_on (h : s.smbOn cmd) : s.smbAt cmd k = k s := by
  obtain ⟨enabled, dormant⟩ := h
  rw [State.smbAt, if_neg (by simp [State.flag, enabled]), if_neg (by simpa using dormant)]

theorem State.smbAt_asleep (he : s.get BV_SMBCFG.EN = 1) (h : ¬s.smbOn cmd) : s.smbAt cmd k = s.smbNack cmd := by
  have asleep : s.mode = mDORMANT ∧ cmd ∉ smbDormant := by
    refine ⟨Classical.not_not.mp fun awake => h ⟨he, fun dormant => absurd dormant awake⟩, fun listed => h ⟨he, fun _ => listed⟩⟩
  rw [State.smbAt, if_neg (by simp [State.flag, he]), if_pos (by simpa using asleep)]

theorem State.smbAt_off (he : s.get BV_SMBCFG.EN ≠ 1) : s.smbAt cmd k = s := by
  rw [State.smbAt, if_pos (by simp [State.flag, he])]

end At

/-! Reads (R758, R759). -/

section Reads

/-- A read of the command answers the data and leaves `after`. -/
def Reading (s : State) (c : SmbRead → Instr) (cmd : Nat) (data : List Nat) (after : State) : Prop :=
  ∀ r, ∃ k : State → State, exec (c r) s = run s (s.smbRead cmd r data k) ∧ k s = after

variable {c : SmbRead → Instr} {cmd : Nat} {data : List Nat} {after : State} (h : Reading s c cmd data after)
include h

theorem Reading.answers (on : s.smbOn cmd) :
    let l := if cmd ∈ smbBlocks then data.length :: data else data
    exec (c (.whole false)) s = run s (after.emit .smbus ([cmd, 1] ++ l)) ∧
      exec (c (.whole true)) s = run s (after.emit .smbus ([cmd, 1] ++ l ++ [s.smbPec cmd l])) ∧
      (∀ n, exec (c (.past n)) s = run s (after.emit .smbus ([cmd, 1] ++ l ++ List.replicate n.toNat 0xFF))) ∧
      (cmd ∈ smbBlocks → Answers (c .cut) s fun t =>
        t.get BV_SMBSTAT.PROTO = min (s.get BV_SMBSTAT.PROTO + 1) (2 ^ 8 - 1) ∧ t.get BV_IRQ.SMB = 1) := by
  refine ⟨?_, ?_, fun n => ?_, fun block => ?_⟩
  · obtain ⟨k, run, left⟩ := h (.whole false)
    rw [run, State.smbRead, State.smbAt_on on, ← left]
    simp
  · obtain ⟨k, run, left⟩ := h (.whole true)
    rw [run, State.smbRead, State.smbAt_on on, ← left]
    simp
  · obtain ⟨k, run, left⟩ := h (.past n)
    rw [run, State.smbRead, State.smbAt_on on, ← left]
    simp
  · obtain ⟨k, run, -⟩ := h .cut
    refine answers_run run fun t ht => ?_
    rw [State.smbRead, State.smbAt_on on] at ht
    dsimp only at ht
    rw [if_pos (by simpa using block)] at ht
    rw [ht.get (by decide), ht.get (by decide)]
    exact State.smbViolation_counts

theorem Reading.nacked (he : s.get BV_SMBCFG.EN = 1) (off : ¬s.smbOn cmd) (r : SmbRead) :
    exec (c r) s = run s (s.emit .smbus [cmd, 0]) := by
  obtain ⟨k, run, -⟩ := h r
  rw [run, State.smbRead, State.smbAt_asleep he off]
  rfl

theorem Reading.ignored (he : s.get BV_SMBCFG.EN ≠ 1) (r : SmbRead) : Answers (c r) s fun t => s.Frame t [] := by
  obtain ⟨k, run, -⟩ := h r
  refine answers_run run fun t ht => ht.frame ?_
  rw [State.smbRead, State.smbAt_off he]
  exact s.frame_refl _

end Reads

/-! The commands that are read, what each answers and what it leaves (Table BV-6). -/

section Table

/-- A command whose body is a read of the data that leaves what `k` does. -/
theorem Reading.of_exec (ha : Awake s) {c : SmbRead → Instr} {cmd : Nat} {data : List Nat} {e : SmbRead → State → Out} {d : State → List Nat}
    {k : State → State} (hc : ∀ r, exec (c r) s = e r s) (he : ∀ r, e r s = live s fun u => u.smbRead cmd r (d u) k)
    (hd : d s = data) : Reading s c cmd data (k s) :=
  fun r => by
    have body := exec_live ((hc r).trans (he r)) ha
    exact ⟨k, by rw [body, hd], rfl⟩

/-- The commands that are read, what each answers and what it leaves (Table BV-6). -/
noncomputable def State.smbTable (s : State) : List ((SmbRead → Instr) × Nat × List Nat × State) :=
  let low := s.mode + 16 * s.roleShown + 64 * s.get PW_GOVSTAT.SHORT + 128 * b2n (s.get PW_GOVSTAT.STATE = 3)
  let unread := s.unread 2
  let bad := (s.ring.take unread).any fun x => 3 ≤ x.sev
  let record (x : Bool) := (s.recordAt 2 x).flatMap (bytesLE 4)
  [(Instr.ident, 0x01, [0x36, 0x15, 0xA1, s.mode + 16 * s.roleShown] ++ bytesLE 8 s.dieId, s),
    (.smbStatus, 0x02, [low, s.alertBits % 256], s),
    (.smbAddr, 0x03, [s.hxAddr], s),
    (.tempMax, 0x10, signed16 (s.get BV_TEMPMAX.VALUE), s),
    ((fun r => .tempSel (.read r)), 0x11, [s.get SMB_SEL], s),
    (.smbTemp, 0x12, signed16 (s.get BV_TEMP.VALUE (s.get SMB_SEL)), s),
    ((fun r => .railSel (.read r)), 0x18, [s.get SMB_RSEL], s),
    (.smbRail, 0x19, bytesLE 2 (s.get BV_RAIL.MV (s.get SMB_RSEL)), s),
    (.vcoreCmd, 0x1A, bytesLE 2 (s.get PW_GOVSTAT.VNOW), s),
    (.icore, 0x1B, bytesLE 2 (if s.get PW_AVSSTAT.NOCUR = 1 then 0xFFFF else s.get PW_AVSDATA.CURRENT), s),
    (.paceMin, 0x20, bytesLE 2 (s.get PW_GOVSTAT.MINIDX), s),
    (.paceReq, 0x21, bytesLE 2 (s.get PW_GOVREQ.PACE_REQ), s),
    (.errsum, 0x28, (List.range 4).flatMap fun i => bytesLE 4 (s.get BV_ERRSUM.COUNT i), s),
    (.logStat, 0x30, bytesLE 2 (unread % 2 ^ 13 + 2 ^ 13 * b2n (bit (s.get EV_IRQ.OVR) 2) + 2 ^ 14 * b2n bad),
      s.andBit EV_IRQ.OVR 2),
    ((fun r => .logNext r false), 0x31, record false, s.cursorOn 2),
    ((fun r => .logNext r true), 0x31, record true, s.cursorOn 2),
    ((fun r => .logPeek r false), 0x32, record false, s),
    ((fun r => .logPeek r true), 0x32, record true, s),
    (.alertStat, 0x38, bytesLE 2 s.alertBits, s),
    ((fun r => .alertMask (.read r)), 0x3A, bytesLE 2 (s.get BV_ALERTMASK.MASK), s)]

theorem smbTable_reads (ha : Awake s) : ∀ e ∈ s.smbTable, Reading s e.1 e.2.1 e.2.2.1 e.2.2.2 := by
  simp only [State.smbTable, List.forall_mem_cons, List.not_mem_nil, IsEmpty.forall_iff, implies_true, and_true]
  refine ⟨.of_exec ha (exec_ident · s) (fun _ => rfl) rfl,
    .of_exec ha (exec_smbStatus · s) (fun _ => rfl) rfl,
    .of_exec ha (exec_smbAddr · s) (fun _ => rfl) rfl,
    .of_exec ha (exec_tempMax · s) (fun _ => rfl) rfl,
    .of_exec ha (fun r => exec_tempSel (.read r) s) (fun _ => rfl) rfl,
    .of_exec ha (exec_smbTemp · s) (fun _ => rfl) rfl,
    .of_exec ha (fun r => exec_railSel (.read r) s) (fun _ => rfl) rfl,
    .of_exec ha (exec_smbRail · s) (fun _ => rfl) rfl,
    .of_exec ha (exec_vcoreCmd · s) (fun _ => rfl) rfl,
    .of_exec ha (exec_icore · s) (fun _ => rfl) (by simp [State.flag]),
    .of_exec ha (exec_paceMin · s) (fun _ => rfl) rfl,
    .of_exec ha (exec_paceReq · s) (fun _ => rfl) rfl,
    .of_exec ha (exec_errsum · s) (fun _ => rfl) rfl,
    .of_exec ha (exec_logStat · s) (fun _ => rfl) rfl,
    .of_exec ha (exec_logNext · false s) (fun _ => rfl) rfl,
    .of_exec ha (exec_logNext · true s) (fun _ => rfl) rfl,
    .of_exec ha (exec_logPeek · false s) (fun _ => rfl) rfl,
    .of_exec ha (exec_logPeek · true s) (fun _ => rfl) rfl,
    .of_exec ha (exec_alertStat · s) (fun _ => rfl) rfl,
    .of_exec ha (fun r => exec_alertMask (.read r) s) (fun _ => rfl) rfl⟩

end Table

/-! Writes (R758, R761). -/

section Writes

/-- The packet error code of a write is right, or none is sent and none is required (R761). -/
def State.smbPecRight (s : State) (cmd n v : Nat) : Option (BitVec 8) → Prop
  | none => s.get BV_SMBCFG.PEC_REQ ≠ 1
  | some p => ([2 * s.get BV_SMBCFG.ADDR, cmd] ++ bytesLE n v).foldl pecByte 0 = p.toNat

variable {cmd n v : Nat} {pec : Option (BitVec 8)} {ok : Bool} {k : State → State} (on : s.smbOn cmd)
include on

theorem State.smbWrite_range (h : ok = false) : s.smbWrite cmd n v pec ok k = s.smbViolation 4 := by
  rw [State.smbWrite, State.smbAt_on on]
  simp [h]

theorem State.smbWrite_right (h : ok = true) (hp : s.smbPecRight cmd n v pec) : s.smbWrite cmd n v pec ok k = k s := by
  rw [State.smbWrite, State.smbAt_on on]
  cases pec <;> simp_all [State.smbPecRight, State.flag]

theorem State.smbWrite_wrong (h : ok = true) (hp : ¬s.smbPecRight cmd n v pec) :
    s.smbWrite cmd n v pec ok k = s.smbViolation 1 := by
  rw [State.smbWrite, State.smbAt_on on]
  cases pec <;> simp_all [State.smbPecRight, State.flag]

end Writes

theorem bytesLE_byte (d : BitVec 8) : bytesLE 1 d.toNat = [d.toNat] := by
  simp [bytesLE, Nat.mod_eq_of_lt d.isLt]

/-- A byte is written to a selection: its effects by range and packet error code. -/
theorem smb_select {c : Instr} {cmd : Nat} {f : Field} {top : Nat} {d : BitVec 8} {pec : Option (BitVec 8)}
    (hc : exec c s = run s (s.smbWrite cmd 1 d.toNat pec (d.toNat < top) fun s => s.put f d.toNat)) (on : s.smbOn cmd)
    (hf : f.clearOf 1 smbFields = true) (hq : f.key 0 ≠ MSI_PEND.key 0)
    (hw : top ≤ 2 ^ f.width) {good : Prop} (hg : s.smbPecRight cmd 1 d.toNat pec ↔ good) :
    (good → d.toNat < top → Answers c s fun t => t.get f = d.toNat ∧ s.Frame t [f.key 0]) ∧
      (top ≤ d.toNat → Answers c s fun t => t.get f = s.get f ∧
        t.get BV_SMBSTAT.PROTO = min (s.get BV_SMBSTAT.PROTO + 1) (2 ^ 8 - 1) ∧ t.get BV_IRQ.SMB = 1) ∧
      (¬good → d.toNat < top → Answers c s fun t => t.get f = s.get f ∧
        t.get BV_SMBSTAT.PECERR = min (s.get BV_SMBSTAT.PECERR + 1) (2 ^ 8 - 1) ∧ t.get BV_IRQ.SMB = 1) := by
  refine ⟨fun right range => answers_run hc fun t ht => ?_, fun range => answers_run hc fun t ht => ?_,
    fun wrong range => answers_run hc fun t ht => ?_⟩
  · rw [State.smbWrite_right on (by simpa using range) (hg.mpr right)] at ht
    rw [ht.get hq, State.get_put_self, Nat.mod_eq_of_lt (by omega)]
    exact ⟨rfl, ht.frame (State.Within.put .refl (by simp) : s.Within (.silent [f.key 0]) _).frame⟩
  · rw [State.smbWrite_range on (by simpa using range)] at ht
    rw [ht.get hq, State.smbViolation_get (by decide) hf Nat.one_pos, ht.get (by decide), ht.get (by decide)]
    exact ⟨rfl, State.smbViolation_counts⟩
  · rw [State.smbWrite_wrong on (by simpa using range) (mt hg.mp wrong)] at ht
    rw [ht.get hq, State.smbViolation_get (by decide) hf Nat.one_pos, ht.get (by decide), ht.get (by decide)]
    exact ⟨rfl, State.smbViolation_counts⟩

/-! The alert (R760). -/

section Alert

theorem State.alertBits_of_get {t : State} (h : ∀ f ∈ BV_ALERT.reg.fields, t.get f = s.get f) : t.alertBits = s.alertBits := by
  unfold State.alertBits State.readReg
  exact congrArg List.sum (List.map_congr_left fun f hf => by rw [h f hf])

theorem State.alertSettle_get {f : Field} (hf : f.key 0 ≠ SMB_REL.key 0) : s.alertSettle.get f = s.get f := by
  unfold State.alertSettle
  split
  · exact State.get_put_ne _ _ hf
  · rfl

theorem alert_apart : ∀ f ∈ BV_ALERT.reg.fields, f.key 0 ≠ SMB_REL.key 0 ∧ f.key 0 ≠ SMB_OLD.key 0 ∧
    (∀ g ∈ BV_ALERT.reg.fields, g ≠ f → f.key 0 ≠ g.key 0) ∧ f.lo < 10 ∧ f.key 0 ≠ MSI_PEND.key 0 := by
  decide

theorem bit_mod {w n i : Nat} (h : i < n) : bit (w % 2 ^ n) i = bit w i := by
  simp [bit_eq_testBit, Nat.testBit_mod_two_pow, h]

theorem State.alertClear_get (w : Nat) {f : Field} (hf : f ∈ BV_ALERT.reg.fields) :
    (s.alertClear w).get f = if bit w f.lo then 0 else s.get f := by
  obtain ⟨rel, old, others, -, -⟩ := alert_apart f hf
  unfold State.alertClear
  extract_lets settled cleared kept
  have cleared_get : cleared.get f = if bit w f.lo then 0 else s.get f := by
    refine foldl_visit (by decide) hf (before := fun u : State => u.get f = s.get f)
      (after := fun u : State => u.get f = if bit w f.lo then 0 else s.get f) (fun u g hg ne hu => ?_) (fun u hu => ?_)
      (fun u g hg ne hu => ?_) (State.alertSettle_get rel)
    · split
      · exact (State.get_put_ne _ _ (others g hg ne)).trans hu
      · exact hu
    · split
      · exact (State.get_put_self ..).trans (Nat.zero_mod _)
      · exact hu
    · rw [← hu]
      split
      · exact State.get_put_ne _ _ (others g hg ne)
      · rfl
  have kept_get : kept.get f = cleared.get f := State.get_put_ne _ _ old
  split
  · exact kept_get.trans cleared_get
  · exact (State.get_put_ne _ _ rel).trans (kept_get.trans cleared_get)

/-- Released with the bits that are set, the alert is not driven. -/
theorem State.alertDriven_released (hr : s.get SMB_REL = 1) (ho : s.get SMB_OLD = s.alertBits) : s.alertDriven = false := by
  have still : s.alertSettle = s := by rw [State.alertSettle, if_neg (by simp [ho])]
  rw [State.alertDriven, still]
  simp [State.flag, hr]

end Alert

include ha

theorem smb_alert_writes (w : BitVec 16) (hp : s.get BV_SMBCFG.PEC_REQ ≠ 1) :
    (s.smbOn 0x39 → Answers (.alertClr w none) s fun t => ∀ f ∈ BV_ALERT.reg.fields,
      t.get f = if bit w.toNat f.lo then 0 else s.get f) ∧
    (s.smbOn 0x3A → Answers (.alertMask (.write w none)) s fun t => t.get BV_ALERTMASK.MASK = w.toNat % 2 ^ 10) := by
  refine ⟨fun on => answers_live_delivers (exec_alertClr w none s) ha fun t ht f hf => ?_,
    fun on => answers_live_delivers (exec_alertMask _ s) ha fun t ht => ?_⟩
  · rw [State.smbWrite_right (pec := none) on rfl hp] at ht
    obtain ⟨-, -, -, low, quiet⟩ := alert_apart f hf
    rw [ht.get quiet, State.alertClear_get _ hf, bit_mod low]
  · replace ht : (s.smbWrite 0x3A 2 w.toNat none true fun s => s.put BV_ALERTMASK.MASK (w.toNat % 2 ^ 10)).Delivers t := ht
    rw [State.smbWrite_right (pec := none) on rfl hp] at ht
    rw [ht.get (by decide), State.get_put_self]
    exact Nat.mod_mod _ _

theorem smb_alert_released (he : s.get BV_SMBCFG.EN = 1) (hd : s.alertDriven = true) :
    Answers (.alertResponseAddress true) s fun t => t.get SMB_REL = 1 ∧ (s.alertBits < 2 ^ 10 → t.alertDriven = false) ∧
      ⟨.smbus, [0x0C, 1, 2 * s.get BV_SMBCFG.ADDR]⟩ ∈ t.out := by
  refine answers_live_delivers (exec_alertResponseAddress true s) ha fun t ht => ?_
  rw [if_pos (by simp [State.flag, he, hd])] at ht
  have rel : t.get SMB_REL = 1 := by
    rw [ht.get (by decide), State.emit_get, State.get_put_ne _ _ (by decide), State.get_put_self]
    rfl
  have old : t.get SMB_OLD = s.alertBits % 2 ^ 10 := by
    rw [ht.get (by decide), State.emit_get, State.get_put_self]
    rfl
  have same : t.alertBits = s.alertBits := State.alertBits_of_get fun f hf => by
    obtain ⟨hr, ho, -, -, quiet⟩ := alert_apart f hf
    rw [ht.get quiet, State.emit_get, State.get_put_ne _ _ ho, State.get_put_ne _ _ hr, State.alertSettle_get hr]
  exact ⟨rel, fun small => State.alertDriven_released rel (by rw [old, same, Nat.mod_eq_of_lt small]), ht.mem_out (by simp [State.emit])⟩

theorem smb_alert_kept (won : Bool) (h : s.alertDriven = false ∨ won = false) :
    Answers (.alertResponseAddress won) s fun t => s.Frame t [] := by
  refine answers_live_delivers (exec_alertResponseAddress won s) ha fun t ht => ht.frame ?_
  rw [if_neg (by rcases h with h | h <;> simp [h])]
  exact s.frame_refl _

/-! Violations (R761). -/

theorem smb_clock :
    (s.get BV_SMBCFG.EN = 1 → Answers .smbSclTimeout s fun t =>
      t.get BV_SMBSTAT.PROTO = min (s.get BV_SMBSTAT.PROTO + 1) (2 ^ 8 - 1) ∧ t.get BV_IRQ.SMB = 1) ∧
    (s.get BV_SMBCFG.EN ≠ 1 → Answers .smbSclTimeout s fun t => s.Frame t []) := by
  refine ⟨fun he => answers_live_delivers (exec_smbSclTimeout s) ha fun t ht => ?_,
    fun he => answers_live_delivers (exec_smbSclTimeout s) ha fun t ht => ht.frame ?_⟩
  · rw [if_pos (by simp [State.flag, he])] at ht
    rw [ht.get (by decide), ht.get (by decide)]
    exact State.smbViolation_counts
  · rw [if_neg (by simp [State.flag, he])]
    exact s.frame_refl _

theorem smb_reserved (code : BitVec 8) (write : Bool) (on : s.smbOn code.toNat) :
    (code.toNat ∉ (if write then smbWrites else smbReads) → Answers (.smbReservedCommand code write) s fun t =>
      t.get BV_SMBSTAT.PROTO = min (s.get BV_SMBSTAT.PROTO + 1) (2 ^ 8 - 1) ∧ t.get BV_IRQ.SMB = 1 ∧
        ⟨.smbus, [code.toNat, 0]⟩ ∈ t.out) ∧
    (code.toNat ∈ (if write then smbWrites else smbReads) → Answers (.smbReservedCommand code write) s fun t =>
      s.Frame t []) := by
  have violates {t : State} {kind : Nat} (hk : smbCounter kind = BV_SMBSTAT.PROTO)
      (ht : ((s.smbNack code.toNat).smbViolation kind).Delivers t) :
      t.get BV_SMBSTAT.PROTO = min (s.get BV_SMBSTAT.PROTO + 1) (2 ^ 8 - 1) ∧ t.get BV_IRQ.SMB = 1 ∧
        ⟨.smbus, [code.toNat, 0]⟩ ∈ t.out := by
    obtain ⟨count, irq⟩ := State.smbViolation_counts (s := s.smbNack code.toNat) (kind := kind)
    rw [hk] at count
    rw [ht.get (by decide), ht.get (by decide)]
    exact ⟨count, irq, ht.mem_out (by rw [State.smbViolation_out]; simp [State.smbNack, State.emit])⟩
  refine ⟨fun unlisted => answers_live_delivers (exec_smbReservedCommand code write s) ha fun t ht => ?_,
    fun listed => answers_live_delivers (exec_smbReservedCommand code write s) ha fun t ht => ht.frame ?_⟩
  · dsimp only at ht
    rw [State.smbAt_on on] at ht
    by_cases reserved : (!(smbReads.contains code.toNat || smbWrites.contains code.toNat)) = true
    · rw [if_pos reserved] at ht
      exact violates rfl ht
    · rw [if_neg reserved, if_pos (by simpa using unlisted)] at ht
      exact violates rfl ht
  · dsimp only
    rw [State.smbAt_on on, if_neg ?_, if_neg (by simpa using listed)]
    · exact s.frame_refl _
    · cases write <;> simp_all

end Clauses

/-- Settles O50: what the target answers, takes and counts is said once for a read of any command (`Reading`), for a
write (`smbWrite_*`) and for a violation, and each command is a case of them. -/
theorem smbusTargetAnswersItsCommands : Obligations.SmbusTargetAnswersItsCommands := by
  unfold Obligations.SmbusTargetAnswersItsCommands
  intro s ha on framed low unread bad record
  refine ⟨fun c cmd data after listed => ?_, fun d pec c cmd top f listed on => ?_, fun w hp => smb_alert_writes ha w hp,
    smb_alert_released ha, fun quiet won => smb_alert_kept ha won (.inl quiet), smb_alert_kept ha false (.inr rfl),
    (smb_clock ha).1, (smb_clock ha).2, fun code write on => smb_reserved ha code write on⟩
  · have reading : Reading s c cmd data after := smbTable_reads ha (c, cmd, data, after) listed
    exact ⟨reading.answers, reading.nacked, reading.ignored⟩
  · rcases List.mem_pair.mp listed with h | h
    · obtain ⟨rfl, rfl, rfl, rfl⟩ := by simpa only [Prod.mk.injEq] using h
      have body : exec (.tempSel (.write d pec)) s =
          run s (s.smbWrite 0x11 1 d.toNat pec (d.toNat < 16) fun s => s.put SMB_SEL d.toNat) := by
        rw [exec_tempSel, execTempSel, live_awake _ ha]
        rfl
      exact smb_select body on (by decide) (by decide) (by decide) (by cases pec <;> simp [State.smbPecRight, bytesLE_byte])
    · obtain ⟨rfl, rfl, rfl, rfl⟩ := by simpa only [Prod.mk.injEq] using h
      have body : exec (.railSel (.write d pec)) s =
          run s (s.smbWrite 0x18 1 d.toNat pec (d.toNat < 7) fun s => s.put SMB_RSEL d.toNat) := by
        rw [exec_railSel, execRailSel, live_awake _ ha]
        rfl
      exact smb_select body on (by decide) (by decide) (by decide) (by cases pec <;> simp [State.smbPecRight, bytesLE_byte])

end Sys2Proof.Machine
end

section
/-! O49: the monitors, the configuration scrubber, its repairs and calibration (R737 to R748, R753, R754). -/

namespace Sys2Proof.Machine

/-! Temperature (R737, R738). -/

section Temperature

/-- The scan for the hottest sensor ends at one that no sensor exceeds. -/
theorem foldl_argmax (f : Nat → Nat) (n : Nat) :
    let h := (List.range (n + 1)).foldl (fun b k => if f b < f k then k else b) 0
    h < n + 1 ∧ ∀ k < n + 1, f k ≤ f h := by
  induction n with
  | zero => simp
  | succ n ih =>
    obtain ⟨small, best⟩ := ih
    rw [List.range_succ, List.foldl_append, List.foldl_cons, List.foldl_nil]
    split
    · next above =>
      refine ⟨by omega, fun k hk => ?_⟩
      rcases Nat.lt_succ_iff_lt_or_eq.mp hk with below | rfl
      · exact (best k below).trans above.le
      · exact le_rfl
    · next above =>
      refine ⟨by omega, fun k hk => ?_⟩
      rcases Nat.lt_succ_iff_lt_or_eq.mp hk with below | rfl
      · exact best k below
      · omega

variable {s : State} {k thr : Nat} {c : Rc}

/-- What the onset at a threshold sets. -/
def onsetFields (k : Nat) : List Field := if k = 0 then [BV_IRQ.TEMP, BV_ALERT.TEMP_HIGH] else [BV_ALERT.TEMP_CRIT]

theorem State.tempThr_get {g : Field} {j : Nat} (hk : g.key j ≠ TMP_ON.key k) (ho : ∀ f ∈ onsetFields k, g.key j ≠ f.key 0)
    (hd : g.key j ≠ EV_DROP.COUNT.key 0) (he : g.key j ≠ DROP_EPISODE.key 0) : (s.tempThr k thr c).get g j = s.get g j := by
  unfold State.tempThr
  extract_lets v bound told
  have told_get : told.get g j = s.get g j := (State.raise_get _ _ _ _ hd he).trans (State.get_put_ne _ _ hk)
  split
  · split
    · next warn =>
      simp only [onsetFields, warn, if_true, List.forall_mem_cons] at ho
      obtain ⟨irq, high, -⟩ := ho
      rw [State.get_put_ne _ _ high, State.get_put_ne _ _ irq, told_get]
    · next crit =>
      simp only [onsetFields, crit, if_false, List.forall_mem_cons] at ho
      rw [State.get_put_ne _ _ ho.1, told_get]
  · split
    · exact State.get_put_ne _ _ hk
    · rfl

theorem State.tempThr_onset (off : s.get TMP_ON k = 0) (hot : offset12 thr ≤ offset12 (s.get BV_TEMPMAX.VALUE)) :
    ∀ f ∈ onsetFields k, (s.tempThr k thr c).get f = 1 := by
  unfold State.tempThr
  rw [if_pos (by simp [State.flag, off, hot])]
  by_cases warn : k = 0
  · simp only [onsetFields, warn, if_true, List.forall_mem_cons, List.not_mem_nil, false_implies, implies_true, and_true]
    constructor
    · rw [State.get_put_ne _ _ (by decide), State.get_put_self]
      rfl
    · rw [State.get_put_self]
      rfl
  · simp only [onsetFields, warn, if_false, List.forall_mem_cons, List.not_mem_nil, false_implies, implies_true, and_true]
    rw [State.get_put_self]
    rfl

/-- What the thresholds write. -/
def tempFields : List (Field × Nat) := [(TMP_ON, 2), (BV_IRQ.TEMP, 1), (BV_ALERT.TEMP_HIGH, 1), (BV_ALERT.TEMP_CRIT, 1)]

/-- What a sample shows. -/
def heatFields : List (Field × Nat) := [(BV_TEMP.VALUE, 16), (BV_TEMP.VALID, 16), (BV_TEMPMAX.VALUE, 1), (BV_TEMPMAX.SENSOR, 1)]

theorem tempCells : ∀ c ∈ cellsAt [BV_IRQ.TEMP, BV_ALERT.TEMP_HIGH, BV_ALERT.TEMP_CRIT] ++ cellsUpTo [TMP_ON] 2,
    c ∈ (Scope.elements tempFields).cells := by
  have cell {f : Field} {i b : Nat} (hf : (f, b) ∈ tempFields) (hi : i < b) :
      f.key i ∈ (Scope.elements tempFields).cells := ⟨_, hf, i, hi, rfl⟩
  simp only [cellsAt, cellsUpTo, List.forall_mem_append, List.forall_mem_map, List.forall_mem_flatMap, List.mem_range]
  refine ⟨?_, fun i hi => ?_⟩
  · simp only [List.forall_mem_cons]
    exact ⟨cell (b := 1) (by simp [tempFields]) Nat.one_pos, cell (b := 1) (by simp [tempFields]) Nat.one_pos, cell (b := 1) (by simp [tempFields]) Nat.one_pos, by simp⟩
  · simpa using cell (b := 2) (by simp [tempFields]) hi

theorem tempSample_shows (ha : Awake s) {ts : List (BitVec 12)} (hl : ts.length = 16) : Answers (.tempSample ts) s fun t =>
    (∀ k : Fin 16, t.get BV_TEMP.VALUE k = (ts.getD k 0).toNat ∧ t.get BV_TEMP.VALID k = 1) ∧
    (∃ h : Fin 16, t.get BV_TEMPMAX.SENSOR = h ∧ t.get BV_TEMPMAX.VALUE = (ts.getD h 0).toNat ∧
      ∀ k : Fin 16, offset12 (ts.getD k 0).toNat ≤ offset12 (ts.getD h 0).toNat) ∧
    (s.get TMP_ON 0 = 0 → offset12 (s.get BV_TEMPTHR.WARN) ≤ offset12 (t.get BV_TEMPMAX.VALUE) →
      t.get BV_IRQ.TEMP = 1 ∧ t.get BV_ALERT.TEMP_HIGH = 1) ∧
    (s.get TMP_ON 1 = 0 → offset12 (s.get BV_TEMPTHR.CRIT) ≤ offset12 (t.get BV_TEMPMAX.VALUE) →
      t.get BV_ALERT.TEMP_CRIT = 1) := by
  refine answers_live_delivers ((exec_tempSample ts s).trans (if_neg (not_not.mpr hl))) ha fun t ht => ?_
  extract_lets v sampled hot shown at ht
  have value (k : Fin 16) : v k = (ts.getD k 0).toNat := by simp [v, List.getD_eq_getElem?_getD]
  obtain ⟨small, best⟩ : hot < 16 ∧ ∀ k < 16, offset12 (v k) ≤ offset12 (v hot) := foldl_argmax (fun k => offset12 (v k)) 15
  clear_value hot
  have sampled_get (k : Fin 16) : sampled.get BV_TEMP.VALUE k = v k ∧ sampled.get BV_TEMP.VALID k = 1 := by
    refine foldl_visit (List.nodup_range) (List.mem_range.mpr k.isLt) (before := fun _ => True)
      (after := fun u : State => u.get BV_TEMP.VALUE k = v k ∧ u.get BV_TEMP.VALID k = 1) (fun u x hx ne hu => trivial) (fun u hu => ?_)
      (fun u x hx ne hu => ?_) trivial
    · rw [State.get_put_ne _ _ (by simp +decide), State.get_put_self, State.get_put_self]
      exact ⟨Nat.mod_eq_of_lt (by rw [value]; exact (ts.getD k 0).isLt), rfl⟩
    · obtain ⟨hv, hp⟩ := hu
      have ne' : k.val ≠ x := fun same => ne same.symm
      rw [State.get_put_ne _ _ (by simp +decide), State.get_put_ne _ _ (by simp +decide [ne']), State.get_put_ne _ _ (by simp +decide [ne']),
        State.get_put_ne _ _ (by simp +decide), hv, hp]
      exact ⟨rfl, rfl⟩
  have ended {g : Field} {n j : Nat} (hg : g.clearOf n tempFields = true) (hj : j < n) : t.get g j = shown.get g j := by
    obtain ⟨quiet, -⟩ : g.key j ≠ MSI_PEND.key 0 ∧ True := ⟨Field.key_clearOf hg hj (p := (MSI_PEND, 1)) (by simp) Nat.one_pos, trivial⟩
    rw [ht.get quiet]
    exact ((State.Within.refl.tempThr (by decide) _ _ trivial tempCells).tempThr (by decide) _ _ trivial tempCells).get_elements hg hj
  have before {g : Field} {n j : Nat} (hg : g.clearOf n heatFields = true) (hj : j < n) : shown.get g j = s.get g j := by
    have put {u w : State} {f : Field} {x i b : Nat} (hu : u.Within (.elements heatFields) w) (hf : (f, b) ∈ heatFields) (hi : i < b) :
        u.Within (.elements heatFields) (w.put f x i) := hu.putIn hf hi
    have all : s.Within (.elements heatFields) sampled := .foldl .refl fun u k hk =>
      put (put .refl (by simp [heatFields]) (List.mem_range.mp hk)) (by simp [heatFields]) (List.mem_range.mp hk)
    exact (put (put all (by simp [heatFields]) Nat.one_pos) (by simp [heatFields]) Nat.one_pos).get_elements hg hj
  have hottest : shown.get BV_TEMPMAX.VALUE = v hot := by
    rw [State.get_put_ne _ _ (by decide), State.get_put_self]
    exact Nat.mod_eq_of_lt (by rw [value ⟨hot, small⟩]; exact (ts.getD hot 0).isLt)
  have max : t.get BV_TEMPMAX.VALUE = v hot := (ended (n := 1) (by decide) Nat.one_pos).trans hottest
  refine ⟨fun k => ?_, ⟨⟨hot, small⟩, ?_, ?_, fun k => ?_⟩, fun off warm => ?_, fun off warm => ?_⟩
  · obtain ⟨hv, hp⟩ := sampled_get k
    rw [ended (n := 16) (by decide) k.isLt, ended (n := 16) (by decide) k.isLt, ← value, ← hv, ← hp]
    exact ⟨(State.get_put_ne _ _ (by simp +decide)).trans (State.get_put_ne _ _ (by simp +decide)),
      (State.get_put_ne _ _ (by simp +decide)).trans (State.get_put_ne _ _ (by simp +decide))⟩
  · rw [ended (n := 1) (by decide) Nat.one_pos, State.get_put_self]
    exact Nat.mod_eq_of_lt small
  · rw [max]
    exact value ⟨hot, small⟩
  · rw [← value, ← value ⟨hot, small⟩]
    exact best k k.isLt
  · have begun : shown.get TMP_ON = 0 := (before (by decide) Nat.one_pos).trans off
    have set := State.tempThr_onset (k := 0) (c := Rc.BV_TEMP_HIGH) begun (thr := shown.get BV_TEMPTHR.WARN)
      (by rwa [hottest, before (g := BV_TEMPTHR.WARN) (by decide) Nat.one_pos, ← max])
    rw [ht.get (by decide), ht.get (by decide), 
      State.tempThr_get (k := 1) (g := BV_IRQ.TEMP) (by decide) (by decide) (by decide) (by decide),
      State.tempThr_get (k := 1) (g := BV_ALERT.TEMP_HIGH) (by decide) (by decide) (by decide) (by decide)]
    exact ⟨set BV_IRQ.TEMP (by decide), set BV_ALERT.TEMP_HIGH (by decide)⟩
  · have begun : (shown.tempThr 0 (shown.get BV_TEMPTHR.WARN) Rc.BV_TEMP_HIGH).get TMP_ON 1 = 0 := by
      rw [State.tempThr_get (by decide) (by decide) (by decide) (by decide)]
      exact (before (n := 2) (by decide) (by decide)).trans off
    rw [ht.get (by decide)]
    refine State.tempThr_onset (k := 1) begun ?_ BV_ALERT.TEMP_CRIT (by decide)
    rwa [State.tempThr_get (by decide) (by decide) (by decide) (by decide), hottest,
      before (g := BV_TEMPTHR.CRIT) (by decide) Nat.one_pos, ← max]

end Temperature

/-! Rails (R739). -/

section Rails

variable {s : State} {r x : Nat} {high outside : Bool}

/-- Where a side of a rail's window counts its samples. -/
def railCounter (r : Nat) (high : Bool) : Nat := if high then r + 8 else r

theorem State.railSide_inside : s.railSide r high false = s.put RAIL_CNT 0 (railCounter r high) := rfl

theorem State.railSide_counts (h : s.get RAIL_CNT (railCounter r high) < 2) :
    s.railSide r high true = s.put RAIL_CNT (s.get RAIL_CNT (railCounter r high) + 1) (railCounter r high) := by
  have running : s.get RAIL_CNT (railCounter r high) ≠ 3 := by omega
  unfold railCounter at *
  simp [State.railSide, h, running]

/-- Where a side of a rail's window is shown. -/
def railFlag (high : Bool) : Field := if high then BV_RAIL.HIGH else BV_RAIL.LOW

/-- A third sample in a row outside. -/
theorem State.railSide_third (h : s.get RAIL_CNT (railCounter r high) = 2) : s.railSide r high true =
    ((((s.put RAIL_CNT 3 (railCounter r high)).put (railFlag high) 1 r).put BV_IRQ.RAIL 1).put BV_ALERT.RAIL 1).raise
      Rc.BV_RAIL_RANGE r (((s.put RAIL_CNT 3 (railCounter r high)).put (railFlag high) 1 r).get BV_RAIL.MV r) := by
  unfold railCounter at *
  unfold State.railSide
  simp only [Bool.not_true, Bool.false_eq_true, if_false, h]
  rfl

theorem State.railSide_get {g : Field} {j : Nat} (hc : g.key j ≠ RAIL_CNT.key (railCounter r high))
    (hs : g.key j ≠ (railFlag high).key r) (hi : g.key j ≠ BV_IRQ.RAIL.key 0) (ha : g.key j ≠ BV_ALERT.RAIL.key 0)
    (hd : g.key j ≠ EV_DROP.COUNT.key 0) (he : g.key j ≠ DROP_EPISODE.key 0) : (s.railSide r high outside).get g j = s.get g j := by
  unfold State.railSide
  extract_lets i n shown
  have kept : shown.get g j = s.get g j := (State.get_put_ne _ _ hs).trans (State.get_put_ne _ _ hc)
  split_ifs
  · exact State.get_put_ne _ _ hc
  · rfl
  · exact State.get_put_ne _ _ hc
  · rw [State.raise_get _ _ _ _ hd he, State.get_put_ne _ _ ha, State.get_put_ne _ _ hi, kept]

theorem State.railSide_set (hr : r < 7) {f : Field} (hf : f ∈ [BV_IRQ.RAIL, BV_ALERT.RAIL]) (h : s.get f = 1) :
    (s.railSide r high outside).get f = 1 := by
  obtain ⟨count, side, quiet⟩ : (∀ i, f.key 0 ≠ RAIL_CNT.key i) ∧ f.key 0 ≠ (railFlag high).key r ∧
      f.key 0 ≠ EV_DROP.COUNT.key 0 ∧ f.key 0 ≠ DROP_EPISODE.key 0 := by
    simp only [List.mem_cons, List.not_mem_nil, or_false] at hf
    refine ⟨fun i => ?_, ?_, ?_, ?_⟩ <;> rcases hf with rfl | rfl <;> cases high <;>
      simp only [railFlag, Field.key, RAIL_CNT, BV_RAIL.LOW, BV_RAIL.HIGH, BV_IRQ.RAIL, BV_ALERT.RAIL, EV_DROP.COUNT, DROP_EPISODE] <;>
      simp <;> omega
  unfold State.railSide
  extract_lets i n shown
  split_ifs
  · exact (State.get_put_ne _ _ (count _)).trans h
  · exact h
  · exact (State.get_put_ne _ _ (count _)).trans h
  · rw [State.raise_get _ _ _ _ quiet.1 quiet.2]
    simp only [List.mem_cons, List.not_mem_nil, or_false] at hf
    rcases hf with rfl | rfl
    · rw [State.get_put_ne _ _ (by decide), State.get_put_self]
      rfl
    · rw [State.get_put_self]
      rfl

/-- What a sample of rail r leaves of the rest: nothing of another rail moves, and a set flag of the device stays set. -/
structure RailKept (r : Nat) (s t : State) : Prop where
  shown : ∀ f ∈ [BV_RAIL.MV, BV_RAIL.LOW, BV_RAIL.HIGH], t.get f r = s.get f r
  counted : ∀ high, t.get RAIL_CNT (railCounter r high) = s.get RAIL_CNT (railCounter r high)
  flags : ∀ f ∈ [BV_IRQ.RAIL, BV_ALERT.RAIL], s.get f = 1 → t.get f = 1

theorem RailKept.trans {t u : State} (h : RailKept r s t) (h' : RailKept r t u) : RailKept r s u :=
  ⟨fun f hf => (h'.shown f hf).trans (h.shown f hf), fun high => (h'.counted high).trans (h.counted high),
    fun f hf hs => h'.flags f hf (h.flags f hf hs)⟩

theorem State.railSide_kept (hr : r < 7) (hx : x < 7) (ne : r ≠ x) : RailKept r s (s.railSide x high outside) where
  shown f hf := by
    simp only [List.mem_cons, List.not_mem_nil, or_false] at hf
    refine State.railSide_get ?_ ?_ ?_ ?_ ?_ ?_ <;> rcases hf with rfl | rfl | rfl <;> cases high <;>
      simp only [railCounter, railFlag, Field.key, RAIL_CNT, BV_RAIL.MV, BV_RAIL.LOW, BV_RAIL.HIGH, BV_IRQ.RAIL, BV_ALERT.RAIL,
        EV_DROP.COUNT, DROP_EPISODE] <;> simp <;> omega
  counted side := by
    refine State.railSide_get ?_ ?_ ?_ ?_ ?_ ?_ <;> cases side <;> cases high <;>
      simp only [railCounter, railFlag, Field.key, RAIL_CNT, BV_RAIL.LOW, BV_RAIL.HIGH, BV_IRQ.RAIL, BV_ALERT.RAIL, EV_DROP.COUNT,
        DROP_EPISODE] <;> simp <;> omega
  flags f hf := State.railSide_set hx hf

/-- The sample of one rail (R739). -/
def State.railStep (mv : List (BitVec 12)) (settled : Bool) (u : State) (r : Nat) : State :=
  let v := ((mv[r]?).getD 0).toNat
  let u := u.put BV_RAIL.MV v r
  if r = 0 && (!settled || u.get PW_DMSTAT.PHASE = dmENTERING || u.get PW_DMSTAT.PHASE = dmWAKING) then u
  else
    let w := u.railWindow r
    (u.railSide r false (v < w.1)).railSide r true (w.2 < v)

variable {mv : List (BitVec 12)} {settled : Bool}

theorem State.railStep_kept (hr : r < 7) (hx : x < 7) (ne : r ≠ x) : RailKept r s (s.railStep mv settled x) := by
  unfold State.railStep
  extract_lets v u w
  have shown : RailKept r s u := by
    refine ⟨fun f hf => State.get_put_ne _ _ ?_, fun side => State.get_put_ne _ _ ?_, fun f hf hs => (State.get_put_ne _ _ ?_).trans hs⟩
    · simp only [List.mem_cons, List.not_mem_nil, or_false] at hf
      rcases hf with rfl | rfl | rfl <;> simp only [Field.key, BV_RAIL.MV, BV_RAIL.LOW, BV_RAIL.HIGH] <;> omega
    · simp only [Field.key, BV_RAIL.MV, RAIL_CNT]
      omega
    · simp only [List.mem_cons, List.not_mem_nil, or_false] at hf
      rcases hf with rfl | rfl <;> simp only [Field.key, BV_RAIL.MV, BV_IRQ.RAIL, BV_ALERT.RAIL] <;> omega
  split
  · exact shown
  · exact (shown.trans (State.railSide_kept hr hx ne)).trans (State.railSide_kept hr hx ne)

/-- What a sample v of a rail with window w, whose counters stood as in s, leaves. -/
def RailJudged (s : State) (r v : Nat) (w : Nat × Nat) (t : State) : Prop :=
  t.get BV_RAIL.MV r = v ∧
    (r ≠ 0 →
      (s.get RAIL_CNT r = 2 → v < w.1 → t.get BV_RAIL.LOW r = 1 ∧ t.get BV_IRQ.RAIL = 1 ∧ t.get BV_ALERT.RAIL = 1) ∧
      (s.get RAIL_CNT (r + 8) = 2 → w.2 < v → t.get BV_RAIL.HIGH r = 1 ∧ t.get BV_IRQ.RAIL = 1 ∧ t.get BV_ALERT.RAIL = 1) ∧
      (s.get RAIL_CNT r < 2 → v < w.1 → t.get RAIL_CNT r = s.get RAIL_CNT r + 1) ∧
      (w.1 ≤ v → v ≤ w.2 → t.get RAIL_CNT r = 0 ∧ t.get RAIL_CNT (r + 8) = 0))

theorem RailJudged.kept {v : Nat} {w : Nat × Nat} {t u : State} (h : RailJudged s r v w t) (hk : RailKept r t u) :
    RailJudged s r v w u := by
  obtain ⟨shown, counted, flags⟩ := hk
  simp only [List.forall_mem_cons, List.not_mem_nil, false_implies, implies_true, and_true] at shown flags
  obtain ⟨value, low, high⟩ := shown
  have lows := counted false
  have highs := counted true
  simp only [railCounter, Bool.false_eq_true, if_false, if_true] at lows highs
  unfold RailJudged at *
  rw [value, low, high, lows, highs]
  refine ⟨h.1, fun ne => ?_⟩
  obtain ⟨third, thirdHigh, running, inside⟩ := h.2 ne
  refine ⟨fun two out => ?_, fun two out => ?_, running, inside⟩
  · obtain ⟨hl, hi, ha⟩ := third two out
    exact ⟨hl, flags.1 hi, flags.2 ha⟩
  · obtain ⟨hl, hi, ha⟩ := thirdHigh two out
    exact ⟨hl, flags.1 hi, flags.2 ha⟩

/-- The window of a rail other than VCORE is the part's. -/
theorem State.railWindow_of_ne (t : State) (h : r ≠ 0) : t.railWindow r = s.railWindow r := by
  unfold State.railWindow
  split <;> first | exact absurd rfl h | rfl

theorem State.railSide_third_shows (hr : r < 7) (h : s.get RAIL_CNT (railCounter r high) = 2) :
    (s.railSide r high true).get (railFlag high) r = 1 ∧ (s.railSide r high true).get BV_IRQ.RAIL = 1 ∧
      (s.railSide r high true).get BV_ALERT.RAIL = 1 := by
  have apart : ∀ f ∈ [BV_IRQ.RAIL, BV_ALERT.RAIL, EV_DROP.COUNT, DROP_EPISODE], (railFlag high).key r ≠ f.key 0 := by
    intro f hf
    simp only [List.mem_cons, List.not_mem_nil, or_false] at hf
    rcases hf with rfl | rfl | rfl | rfl <;> cases high <;>
      simp only [railFlag, Field.key, BV_RAIL.LOW, BV_RAIL.HIGH, BV_IRQ.RAIL, BV_ALERT.RAIL, EV_DROP.COUNT, DROP_EPISODE] <;>
      simp <;> omega
  have one : 1 % 2 ^ (railFlag high).width = 1 := by cases high <;> rfl
  rw [State.railSide_third h, State.raise_get _ _ _ _ (apart _ (by simp)) (apart _ (by simp)),
    State.raise_get _ _ _ _ (by decide) (by decide), State.raise_get _ _ _ _ (by decide) (by decide),
    State.get_put_ne _ _ (apart _ (by simp)), State.get_put_ne _ _ (apart _ (by simp)), State.get_put_self, one,
    State.get_put_ne _ _ (by decide), State.get_put_self, State.get_put_self]
  exact ⟨rfl, rfl, rfl⟩

/-- A side leaves the sample and what the other side shows and counts. -/
theorem State.railSide_other (hr : r < 7) : (s.railSide r high outside).get BV_RAIL.MV r = s.get BV_RAIL.MV r ∧
    (s.railSide r high outside).get (railFlag !high) r = s.get (railFlag !high) r ∧
    (s.railSide r high outside).get RAIL_CNT (railCounter r !high) = s.get RAIL_CNT (railCounter r !high) := by
  refine ⟨State.railSide_get ?_ ?_ ?_ ?_ ?_ ?_, State.railSide_get ?_ ?_ ?_ ?_ ?_ ?_, State.railSide_get ?_ ?_ ?_ ?_ ?_ ?_⟩ <;>
    cases high <;>
    simp only [railCounter, railFlag, Field.key, RAIL_CNT, BV_RAIL.MV, BV_RAIL.LOW, BV_RAIL.HIGH, BV_IRQ.RAIL, BV_ALERT.RAIL,
      EV_DROP.COUNT, DROP_EPISODE] <;> simp <;> omega

theorem State.railStep_judges (hr : r < 7) {u : State}
    (hc : ∀ side, u.get RAIL_CNT (railCounter r side) = s.get RAIL_CNT (railCounter r side)) :
    RailJudged s r (mv.getD r 0).toNat (s.railWindow r) (u.railStep mv settled r) := by
  unfold State.railStep
  extract_lets v shown w
  have value : v = (mv.getD r 0).toNat := by simp [v, List.getD_eq_getElem?_getD]
  have sample : shown.get BV_RAIL.MV r = v := by
    rw [State.get_put_self]
    exact Nat.mod_eq_of_lt (by rw [value]; exact (mv.getD r 0).isLt)
  have counts (side : Bool) : shown.get RAIL_CNT (railCounter r side) = s.get RAIL_CNT (railCounter r side) := by
    refine (State.get_put_ne _ _ ?_).trans (hc side)
    simp only [Field.key, BV_RAIL.MV, RAIL_CNT]
    omega
  rw [← value]
  split
  · next first =>
    have zero : r = 0 := by
      simp only [Bool.and_eq_true, decide_eq_true_eq] at first
      exact first.1
    exact ⟨sample, fun ne => absurd zero ne⟩
  · obtain ⟨lowValue, -, lowCount⟩ := shown.railSide_other (r := r) (high := false) (outside := v < w.1) hr
    obtain ⟨highValue, highFlag, highCount⟩ :=
      (shown.railSide r false (v < w.1)).railSide_other (r := r) (high := true) (outside := w.2 < v) hr
    refine ⟨highValue.trans (lowValue.trans sample), fun ne => ?_⟩
    have window : s.railWindow r = w := State.railWindow_of_ne _ ne
    rw [window]
    refine ⟨fun two out => ?_, fun two out => ?_, fun few out => ?_, fun above below => ?_⟩
    · obtain ⟨flag, irq, alert⟩ := shown.railSide_third_shows (high := false) hr ((counts false).trans two)
      simp only [out, decide_true] at highFlag ⊢
      exact ⟨highFlag.trans flag, State.railSide_set hr (by simp) irq, State.railSide_set hr (by simp) alert⟩
    · simp only [out, decide_true]
      exact State.railSide_third_shows (high := true) hr (lowCount.trans ((counts true).trans two))
    · refine highCount.trans ?_
      simp only [out, decide_true, Bool.not_true]
      have few' : shown.get RAIL_CNT (railCounter r false) < 2 := (counts false).trans_lt few
      rw [State.railSide_counts few', State.get_put_self, show RAIL_CNT.width = 2 from rfl,
        Nat.mod_eq_of_lt (show _ < 2 ^ 2 by omega), counts]
      rfl
    · have inside : decide (v < w.1) = false ∧ decide (w.2 < v) = false := by simp; omega
      constructor
      · refine highCount.trans ?_
        rw [inside.1, State.railSide_inside]
        exact (State.get_put_self ..).trans (Nat.zero_mod _)
      · rw [inside.2, State.railSide_inside]
        exact (State.get_put_self ..).trans (Nat.zero_mod _)

theorem railSample_shows (ha : Awake s) (hl : mv.length = 7) : Answers (.railSample mv settled) s fun t =>
    ∀ r : Fin 7, RailJudged s r (mv.getD r 0).toNat (s.railWindow r) t := by
  refine answers_live_delivers ((exec_railSample mv settled s).trans (if_neg (not_not.mpr hl))) ha fun t ht r => ?_
  replace ht : ((List.range 7).foldl (State.railStep mv settled) s).Delivers t := ht
  have sampled : RailJudged s r (mv.getD r 0).toNat (s.railWindow r) ((List.range 7).foldl (State.railStep mv settled) s) := by
    refine foldl_visit List.nodup_range (List.mem_range.mpr r.isLt) (before := fun u => RailKept r s u)
      (after := RailJudged s r (mv.getD r 0).toNat (s.railWindow r)) (fun u x hx ne hu => ?_) (fun u hu => State.railStep_judges r.isLt hu.counted)
      (fun u x hx ne hu => ?_) ⟨fun _ _ => rfl, fun _ => rfl, fun _ _ h => h⟩
    · exact hu.trans (State.railStep_kept r.isLt (List.mem_range.mp hx) (Ne.symm ne))
    · exact hu.kept (State.railStep_kept r.isLt (List.mem_range.mp hx) (Ne.symm ne))
  refine sampled.kept ⟨fun f hf => ht.get ?_, fun side => ht.get ?_, fun f hf hs => (ht.get ?_).trans hs⟩
  · simp only [List.mem_cons, List.not_mem_nil, or_false] at hf
    rcases hf with rfl | rfl | rfl <;> simp only [Field.key, BV_RAIL.MV, BV_RAIL.LOW, BV_RAIL.HIGH, MSI_PEND] <;> omega
  · simp only [Field.key, RAIL_CNT, MSI_PEND]
    omega
  · simp only [List.mem_cons, List.not_mem_nil, or_false] at hf
    rcases hf with rfl | rfl <;> decide

end Rails

/-! The configuration scrubber (R742 to R744). -/

section Scrubber

variable {s t : State} {p a : Nat}

/-- What a fence writes besides the plot's state and holder (R118). -/
def cutFields : List (Field × Nat) :=
  [(PW_MODE.FENCED_ANY, 1), (FENCE_FORCE, 64), (FENCE_BY, 64), (QP_CUT, 64), (QP_STATE, 64), (QM_IRQ.CUT, 1)]

/-- What a fence writes (R118). -/
def fenceFields : List (Field × Nat) := [(FB_PSTAT.STATE, 64), (FB_PSTAT.HOLDER, 64)] ++ cutFields

theorem plotPorts_lt {i : Nat} (hi : i ∈ plotPorts p) : i < 64 := List.mem_range.mp (List.mem_filter.mp hi).1

section Fence

variable {fs : List (Field × Nat)} (h : s.Within (.elements fs) t) (hf : cutFields ⊆ fs) (hp : p < 64)
include h hf

theorem State.Within.plotPut {f : Field} {v : Nat} (hp : p < 64) (hm : (f, 64) ∈ cutFields) :
    s.Within (.elements fs) (t.put f v p) := h.putIn (hf hm) hp

theorem State.Within.cutPut {f : Field} {v : Nat} (hm : (f, 1) ∈ cutFields) : s.Within (.elements fs) (t.put f v) :=
  h.putIn (hf hm) Nat.one_pos

include hp

theorem State.Within.portCut (lane : Nat) : s.Within (.elements fs) (t.portCut p lane) := by
  have cut : s.Within (.elements fs) ((t.portDone p ⟨stCUT, 0, lane⟩).put QM_IRQ.CUT 1) :=
    .cutPut (.emit (h.plotPut hf hp (by simp [cutFields]))) hf (by simp [cutFields])
  exact .ite cut (.raise (cut.plotPut hf hp (by simp [cutFields])) trivial)

theorem State.Within.cutParked : s.Within (.elements fs) (t.cutParked p) := by
  unfold State.cutParked
  dsimp only
  split
  · exact h
  · exact (h.listed _ _ _).portCut hf hp _

omit h in
/-- A fence, once the plot's state and holder are written. -/
theorem State.Within.fence {holder byWhom : Nat} {force : Bool} {u : State}
    (hu : u.Within (.elements fs) ((s.put FB_PSTAT.STATE pFENCING p).put FB_PSTAT.HOLDER holder p)) :
    u.Within (.elements fs) (s.fence p holder force byWhom) := by
  have begun : u.Within (.elements fs) (((s.setPlot p pFENCING holder).put FENCE_FORCE (b2n force) p).put FENCE_BY byWhom p) :=
    ((hu.cutPut hf (by simp [cutFields])).plotPut hf hp (by simp [cutFields])).plotPut hf hp (by simp [cutFields])
  exact .foldl (.foldl begun fun u i hi => .plotPut .refl hf (plotPorts_lt hi) (by simp [cutFields]))
    fun u i hi => .cutParked .refl hf (plotPorts_lt hi)

end Fence

theorem State.fence_shows (hp : p < 64) {holder byWhom : Nat} {force : Bool} (hh : holder < 8) :
    (s.fence p holder force byWhom).get FB_PSTAT.STATE p = pFENCING ∧ (s.fence p holder force byWhom).get FB_PSTAT.HOLDER p = holder := by
  have rest := State.Within.fence (s := s) (holder := holder) (byWhom := byWhom) (force := force) (fun _ h => h) hp
    (State.Within.refl (s := (s.put FB_PSTAT.STATE pFENCING p).put FB_PSTAT.HOLDER holder p))
  rw [rest.get_elements (n := 64) (by decide) hp, rest.get_elements (n := 64) (by decide) hp,
    State.get_put_ne _ _ (by simp +decide), State.get_put_self, State.get_put_self]
  exact ⟨rfl, Nat.mod_eq_of_lt hh⟩

/-- What an uncorrectable word writes of its plot. -/
def handleFields : List (Field × Nat) := (CS_DONE, 64) :: fenceFields

theorem State.csHandle_within (hp : p < 64) (hu : s.get BV_CSCFG.UE_ACT < 2) : s.Within (.elements handleFields) (s.csHandle p) := by
  have done : s.Within (.elements handleFields) (s.put CS_DONE 1 p) := .putIn .refl (b := 64) (by simp [handleFields]) hp
  have cuts : cutFields ⊆ handleFields := fun _ h => List.mem_cons_of_mem _ (List.mem_append_right _ h)
  unfold State.csHandle
  extract_lets act st user marked
  rw [if_neg (show ¬(decide (act = 2) && decide (marked.get BV_REPSRC.SRC p = 1)) = true by
    have : act < 2 := hu
    simp
    omega)]
  exact .ite .refl (.ite (.fence cuts hp
    (.putIn (.putIn done (b := 64) (by simp [handleFields, fenceFields]) hp) (b := 64) (by simp [handleFields, fenceFields]) hp)) done)

theorem State.csHandle_none (h : s.get BV_CSCFG.UE_ACT = 0) : s.csHandle p = s := if_pos (by simp [h])

theorem State.csHandle_fences (hu : s.get BV_CSCFG.UE_ACT = 1) (hl : s.get FB_PSTAT.STATE p = pLIVE) (hd : s.get CS_DONE p ≠ 1) :
    ∃ force, s.csHandle p = (s.put CS_DONE 1 p).fence p hBELVEDERE force 7 := by
  unfold State.csHandle
  extract_lets act st user marked
  have one : act = 1 := hu
  have live : st = pLIVE := hl
  rw [if_neg (by simp [one, live, State.flag, hd]), if_neg (by simp [one]), if_pos live]
  exact ⟨_, rfl⟩

/-! The word at hand. -/

theorem State.csGo_next (h : a < csWords) : s.csGo a = s.put CS_AT a := if_pos h

theorem State.csGo_get {g : Field} {j : Nat} (ha : g.key j ≠ CS_AT.key 0) (hp : g.key j ≠ BV_CSSTAT.PASSES.key 0)
    (hd : g.key j < 32 * CS_DONE.off) : (s.csGo a).get g j = s.get g j := by
  unfold State.csGo
  split
  · exact State.get_put_ne _ _ ha
  · rw [State.forget_get, if_neg (by simp; omega), State.get_put_ne _ _ hp, State.get_put_ne _ _ ha]

theorem State.csGo_mem : (s.csGo a).mem = s.mem := by
  unfold State.csGo
  split <;> rfl

theorem State.csGo_at (h : a < csWords) : (s.csGo a).get CS_AT = a := by
  rw [State.csGo_next h, State.get_put_self]
  exact Nat.mod_eq_of_lt (h.trans (by decide))

theorem State.csGo_pass (h : a = csWords) : (s.csGo a).get CS_AT = 0 ∧
    (s.csGo a).get BV_CSSTAT.PASSES = (s.get BV_CSSTAT.PASSES + 1) % 2 ^ 16 := by
  rw [State.csGo, if_neg (by omega), State.forget_get, State.forget_get, if_neg (by decide), if_neg (by decide),
    State.get_put_ne _ _ (by decide), State.get_put_self, State.get_put_self]
  exact ⟨rfl, rfl⟩

/-- A configuration word reads as the memory holds it. -/
theorem State.load_config (hm : t.mem = s.mem) (he : t.get MEM_EPOCH = s.get MEM_EPOCH) (a : Nat) :
    t.load .config a = s.load .config a := by
  unfold State.load State.blank
  rw [hm, he]

theorem csPlot_lt (h : a < csWords) : csPlot a < 64 := by
  unfold csWords at h
  unfold csPlot
  omega

/-- A position in a plot that takes no configuration is the one that is read. -/
theorem csSkip_here (hw : s.get FB_PSTAT.STATE (csPlot (s.get CS_AT)) ≠ pWRITING)
    (hg : s.get FB_PSTAT.STATE (csPlot (s.get CS_AT)) ≠ pSTAGING) : csSkip 64 s = s := by
  unfold csSkip
  rw [if_neg (by simp [hw, hg])]

/-- What an uncorrectable word is counted and shown in. -/
def ueFields : List (Field × Nat) := [(BV_CSCNT.UE, 1), (BV_ERRSUM.COUNT, 2), (BV_IRQ.CFG, 1), (BV_ALERT.CFG_UE, 1)]

section Running

variable {flips : BitVec 39} (ha : Awake s) (hr : s.csRuns = true) (hs : s.csSuspended = false)
  (hw : s.get FB_PSTAT.STATE (csPlot (s.get CS_AT)) ≠ pWRITING) (hg : s.get FB_PSTAT.STATE (csPlot (s.get CS_AT)) ≠ pSTAGING)
include ha hr hs hw hg

theorem configScrub_corrects {u : Nat} (hb : s.get CS_AT < csWords)
    (hv : cfgSyndrome (s.load .config (128 * csTile (s.get CS_AT) + s.get CS_AT % 128) ^^^ flips.toNat) ≠ 0)
    (hu : cfgCorrect (s.load .config (128 * csTile (s.get CS_AT) + s.get CS_AT % 128) ^^^ flips.toNat) = some u) :
    Answers (.configScrubRead flips) s fun t =>
      t.load .config (128 * csTile (s.get CS_AT) + s.get CS_AT % 128) = u % 2 ^ 80 ∧
      t.get BV_CSCNT.CE = min (s.get BV_CSCNT.CE + 1) (2 ^ 16 - 1) ∧
      t.get BV_ERRSUM.COUNT 0 = min (s.get BV_ERRSUM.COUNT 0 + 1) (2 ^ 32 - 1) ∧
      (s.get CS_AT + 1 < csWords → t.get CS_AT = s.get CS_AT + 1) ∧
      (s.get CS_AT + 1 = csWords → t.get CS_AT = 0 ∧ t.get BV_CSSTAT.PASSES = (s.get BV_CSSTAT.PASSES + 1) % 2 ^ 16) := by
  refine answers_live_delivers (exec_configScrubRead flips s) ha fun t ht => ?_
  rw [if_neg (by simp [hr, hs]), csSkip_here hw hg] at ht
  extract_lets u0 a p tile w v stored sy type detail judged handled at ht
  let corrected := ((stored.store .config (128 * tile + w) u).count BV_CSCNT.CE 1).count BV_ERRSUM.COUNT 1 0
  have taken : handled = if corrected.flag CE_SEEN then corrected else (corrected.put CE_SEEN 1).raise Rc.BV_CFG_CE p detail := by
    unfold handled
    rw [if_neg hv]
    simp only [show cfgCorrect v = some u from hu] <;> rfl
  have kept {g : Field} {j : Nat} (hc : g.key j ≠ CE_SEEN.key 0) (hd : g.key j ≠ EV_DROP.COUNT.key 0)
      (he : g.key j ≠ DROP_EPISODE.key 0) : handled.get g j = corrected.get g j := by
    rw [taken]
    split
    · rfl
    · exact (State.raise_get _ _ _ _ hd he).trans (State.get_put_ne _ _ hc)
  have mem : handled.mem = corrected.mem := by
    rw [taken]
    split
    · rfl
    · exact State.raise_mem ..
  clear_value handled
  have first {g : Field} {j : Nat} (hc : g.key j ≠ BV_CSCNT.CE.key 0) (he : g.key j ≠ BV_ERRSUM.COUNT.key 0) :
      corrected.get g j = s.get g j := (State.get_count_ne _ _ he).trans (State.get_count_ne _ _ hc)
  have plot : p < 64 := csPlot_lt hb
  have state : handled.get FB_PSTAT.STATE p = s.get FB_PSTAT.STATE p := by
    have apart : ∀ f ∈ [CE_SEEN, EV_DROP.COUNT, DROP_EPISODE, BV_CSCNT.CE, BV_ERRSUM.COUNT], FB_PSTAT.STATE.key p ≠ f.key 0 :=
      fun f hf => Field.key_spares (n := 64) plot (by revert f; decide)
    rw [kept (apart _ (by simp)) (apart _ (by simp)) (apart _ (by simp)), first (apart _ (by simp)) (apart _ (by simp))]
  rw [if_neg (by rw [state]; exact hw)] at ht
  refine ⟨?_, ?_, ?_, fun more => ?_, fun last => ?_⟩
  · rw [ht.load, State.load_config State.csGo_mem (State.csGo_get (by decide) (by decide) (by decide)),
      State.load_config mem (kept (by decide) (by decide) (by decide))]
    exact (State.load_config (t := corrected) (s := stored.store .config (128 * tile + w) u) rfl (first (by decide) (by decide)) _).trans
      (State.load_store_self stored .config (128 * tile + w) u)
  · rw [ht.get (by decide), State.csGo_get (by decide) (by decide) (by decide), kept (by decide) (by decide) (by decide),
      State.get_count_ne _ _ (by decide), State.get_count_self]
    rfl
  · rw [ht.get (by decide), State.csGo_get (by decide) (by decide) (by decide), kept (by decide) (by decide) (by decide),
      State.get_count_self, State.get_count_ne _ _ (by decide)]
    rfl
  · rw [ht.get (by decide), State.csGo_at more]
  · obtain ⟨zero, passes⟩ := State.csGo_pass (s := handled) last
    rw [ht.get (by decide), ht.get (by decide), zero, passes, kept (by decide) (by decide) (by decide),
      first (by decide) (by decide)]
    exact ⟨rfl, rfl⟩

theorem configScrub_handles (hb : s.get CS_AT < csWords)
    (hv : cfgSyndrome (s.load .config (128 * csTile (s.get CS_AT) + s.get CS_AT % 128) ^^^ flips.toNat) ≠ 0)
    (hu : cfgCorrect (s.load .config (128 * csTile (s.get CS_AT) + s.get CS_AT % 128) ^^^ flips.toNat) = none)
    (act : s.get BV_CSCFG.UE_ACT < 2) :
    Answers (.configScrubRead flips) s fun t =>
      let p := csPlot (s.get CS_AT)
      t.get BV_CSCNT.UE = min (s.get BV_CSCNT.UE + 1) (2 ^ 16 - 1) ∧
      t.get BV_ERRSUM.COUNT 1 = min (s.get BV_ERRSUM.COUNT 1 + 1) (2 ^ 32 - 1) ∧
      t.get BV_IRQ.CFG = 1 ∧ t.get BV_ALERT.CFG_UE = 1 ∧
      (s.get BV_CSCFG.UE_ACT = 0 → t.get FB_PSTAT.STATE p = s.get FB_PSTAT.STATE p) ∧
      (s.get BV_CSCFG.UE_ACT = 1 → s.get FB_PSTAT.STATE p = pLIVE → s.get CS_DONE p ≠ 1 →
        t.get FB_PSTAT.STATE p = pFENCING ∧ t.get FB_PSTAT.HOLDER p = hBELVEDERE) := by
  refine answers_live_delivers (exec_configScrubRead flips s) ha fun t ht => ?_
  rw [if_neg (by simp [hr, hs]), csSkip_here hw hg] at ht
  extract_lets u0 a p tile w v stored sy type detail judged handled at ht
  let shown := (judged.put BV_ALERT.CFG_UE 1).raise Rc.BV_CFG_UE p detail
  have taken : handled = shown.csHandle p := by
    unfold handled
    rw [if_neg hv]
    simp only [show cfgCorrect v = none from hu] <;> rfl
  clear_value handled
  subst taken
  have plot : p < 64 := csPlot_lt hb
  have first {g : Field} {n j : Nat} (hg : g.clearOf n ueFields = true) (hj : j < n) : shown.get g j = s.get g j := by
    have counted : stored.Within (.elements ueFields) ((stored.count BV_CSCNT.UE 1).count BV_ERRSUM.COUNT 1 1) :=
      .putIn (.putIn .refl (b := 1) (by simp [ueFields]) Nat.one_pos) (b := 2) (by simp [ueFields]) Nat.one_lt_two
    have told : stored.Within (.elements ueFields) shown :=
      .raise (.putIn (.putIn counted (b := 1) (by simp [ueFields]) Nat.one_pos) (b := 1) (by simp [ueFields]) Nat.one_pos) trivial
    exact told.get_elements hg hj
  have acts : shown.get BV_CSCFG.UE_ACT = s.get BV_CSCFG.UE_ACT := first (n := 1) (by decide) Nat.one_pos
  have ended {g : Field} {j : Nat} (hq : g.key j ≠ MSI_PEND.key 0) (ha : g.key j ≠ CS_AT.key 0)
      (hp : g.key j ≠ BV_CSSTAT.PASSES.key 0) (hd : g.key j < 32 * CS_DONE.off) : t.get g j = (shown.csHandle p).get g j := by
    rw [ht.get hq]
    split <;> exact State.csGo_get ha hp hd
  have kept {g : Field} {n j : Nat} (hg : g.clearOf n handleFields = true) (hj : j < n) :
      (shown.csHandle p).get g j = shown.get g j :=
    (State.csHandle_within plot (acts.trans_lt act)).get_elements hg hj
  have places : ∀ f ∈ [FB_PSTAT.STATE, FB_PSTAT.HOLDER], f.key p ≠ MSI_PEND.key 0 ∧ f.key p ≠ CS_AT.key 0 ∧
      f.key p ≠ BV_CSSTAT.PASSES.key 0 ∧ f.key p < 32 * CS_DONE.off := by
    intro f hf
    simp only [List.mem_cons, List.not_mem_nil, or_false] at hf
    rcases hf with rfl | rfl <;>
      simp only [Field.key, FB_PSTAT.STATE, FB_PSTAT.HOLDER, MSI_PEND, CS_AT, CS_DONE, BV_CSSTAT.PASSES] <;> omega
  obtain ⟨⟨s1, s2, s3, s4⟩, h1, h2, h3, h4⟩ : _ ∧ _ := ⟨places FB_PSTAT.STATE (by simp), places FB_PSTAT.HOLDER (by simp)⟩
  refine ⟨?_, ?_, ?_, ?_, fun off => ?_, fun one live fresh => ?_⟩
  · rw [ended (by decide) (by decide) (by decide) (by decide), kept (n := 1) (by decide) Nat.one_pos,
      State.raise_get _ _ _ _ (by decide) (by decide), State.get_put_ne _ _ (by decide), State.get_put_ne _ _ (by decide),
      State.get_count_ne _ _ (by decide), State.get_count_self]
    rfl
  · rw [ended (by decide) (by decide) (by decide) (by decide), kept (n := 2) (by decide) Nat.one_lt_two,
      State.raise_get _ _ _ _ (by decide) (by decide), State.get_put_ne _ _ (by decide), State.get_put_ne _ _ (by decide),
      State.get_count_self, State.get_count_ne _ _ (by decide)]
    rfl
  · rw [ended (by decide) (by decide) (by decide) (by decide), kept (n := 1) (by decide) Nat.one_pos,
      State.raise_get _ _ _ _ (by decide) (by decide), State.get_put_ne _ _ (by decide), State.get_put_self]
    rfl
  · rw [ended (by decide) (by decide) (by decide) (by decide), kept (n := 1) (by decide) Nat.one_pos,
      State.raise_get _ _ _ _ (by decide) (by decide), State.get_put_self]
    rfl
  · rw [ended s1 s2 s3 s4, State.csHandle_none (acts.trans off)]
    exact first (n := 64) (by decide) plot
  · obtain ⟨force, fences⟩ := State.csHandle_fences (acts.trans one) ((first (n := 64) (by decide) plot).trans live)
      ((first (n := 64) (by decide) plot).trans_ne fresh)
    rw [ended s1 s2 s3 s4, ended h1 h2 h3 h4, fences]
    exact State.fence_shows plot (by decide)

end Running

end Scrubber

/-! Repairs (R744 to R747). -/

section Keys

variable {s t : State} {k : Nat}

/-- What the release of a key slot below a bound writes (R634). -/
def keyFieldsTo (b : Nat) : List (Field × Nat) :=
  [(GH_KSTAT.USE, b), (KEY_VAL, b), (GH_KSTAT.STATE, b), (GH_KSTAT.USAGE, b), (GH_KSTAT.KCV, b), (KS1_WRITTEN, 1),
    (GH_KSTAT.KILLED, b), (KEY_NEW, b), (GH_IRQ.KEY, 1), (CMD_PSLOT, 1), (GH_IRQ.CMD, 1), (GH_STATUS.STATE, 1),
    (GH_STATUS.RESULT, 1)]

/-- What the release of one of the device's eight key slots writes. -/
abbrev keyFields : List (Field × Nat) := keyFieldsTo 8

section Within

variable {fs : List (Field × Nat)} {b : Nat} (h : s.Within (.elements fs) t) (hf : keyFieldsTo b ⊆ fs) (hk : k < b)
include h hf

theorem State.Within.slotPut (hk : k < b) {f : Field} {v : Nat} (hm : (f, b) ∈ keyFieldsTo b) : s.Within (.elements fs) (t.put f v k) :=
  h.putIn (hf hm) hk

theorem State.Within.keyPut {f : Field} {v : Nat} (hm : (f, 1) ∈ keyFieldsTo b) : s.Within (.elements fs) (t.put f v) :=
  h.putIn (hf hm) Nat.one_pos

include hk

theorem State.Within.keySet (key usage : Nat) : s.Within (.elements fs) (t.keySet k key usage) := by
  have set : s.Within (.elements fs) (((t.put KEY_VAL key k).put GH_KSTAT.STATE ksVALID k).put GH_KSTAT.USAGE usage k) :=
    ((h.slotPut hf hk (by simp [keyFieldsTo])).slotPut hf hk (by simp [keyFieldsTo])).slotPut hf hk (by simp [keyFieldsTo])
  exact .slotPut (.ite (set.keyPut hf (by simp [keyFieldsTo])) set) hf hk (by simp [keyFieldsTo])

theorem State.Within.keyErase : s.Within (.elements fs) (t.keyErase k) := by
  have cleared : s.Within (.elements fs) (t.keyClear k) :=
    (((h.slotPut hf hk (by simp [keyFieldsTo])).slotPut hf hk (by simp [keyFieldsTo])).slotPut hf hk
      (by simp [keyFieldsTo])).slotPut hf hk (by simp [keyFieldsTo])
  exact .ite (cleared.slotPut hf hk (by simp [keyFieldsTo])) cleared

theorem State.Within.keyApply : s.Within (.elements fs) (t.keyApply k) := by
  unfold State.keyApply
  extract_lets applied shown cleared
  have done : s.Within (.elements fs) applied := .ite (h.keySet hf hk _ _) (h.keyErase hf hk)
  have told : s.Within (.elements fs) shown :=
    .keyPut (.raise (done.slotPut hf hk (by simp [keyFieldsTo])) trivial) hf (by simp [keyFieldsTo])
  have freed : s.Within (.elements fs) cleared := told.keyPut hf (by simp [keyFieldsTo])
  exact .ite (.ite (freed.cmdStatus (fun _ hm => hf (by revert hm; simp +contextual [statusFields, keyFieldsTo, or_imp])) _ _) freed) told

theorem State.Within.keyDone : s.Within (.elements fs) (t.keyDone k) :=
  .ite (.keyApply (h.slotPut hf hk (by simp [keyFieldsTo])) hf hk) (h.slotPut hf hk (by simp [keyFieldsTo]))

end Within

theorem State.keyDone_lists : (s.keyDone k).lists = s.lists := by
  have applied (u : State) : (u.keyApply k).lists = u.lists := by
    unfold State.keyApply State.keySet State.keyErase State.keyClear State.cmdStatus
    dsimp only
    repeat' split
    all_goals simp [State.put]
  unfold State.keyDone
  dsimp only
  split
  · exact applied _
  · rfl

end Keys

/-! The source is read. -/

section Source

variable {s t u : State}

/-- Nothing moved but memory and the list of the tiles that were written. -/
def State.FramesOnly (s t : State) : Prop := t.cells = s.cells ∧ ∀ q i, Fifo.key q i ≠ CT_TILES.key 0 → t.list q i = s.list q i

theorem State.FramesOnly.refl : s.FramesOnly s := ⟨rfl, fun _ _ _ => rfl⟩

theorem State.FramesOnly.trans (h : s.FramesOnly t) (h' : t.FramesOnly u) : s.FramesOnly u :=
  ⟨h'.1.trans h.1, fun q i hq => (h'.2 q i hq).trans (h.2 q i hq)⟩

theorem State.FramesOnly.get (h : s.FramesOnly t) (f : Field) (i : Nat) : t.get f i = s.get f i := by
  rw [State.get, h.1, State.get]

theorem State.framesOnly_tiles (l : List Nat) : s.FramesOnly (s.setList CT_TILES l) :=
  ⟨rfl, fun _ _ hq => State.list_setList_ne _ _ hq⟩

theorem State.FramesOnly.foldl {α : Type} {l : List α} {f : State → α → State} (hf : ∀ (u : State) a, u.FramesOnly (f u a)) :
    s.FramesOnly (l.foldl f s) := List.foldlRecOn l f .refl fun u hu a _ => hu.trans (hf u a)

theorem State.putFrames_framesOnly (l : List Nat) : s.FramesOnly (s.putFrames l) := by
  refine .foldl fun u k => ?_
  have framed (v : State) (t type : Nat) (ws : List Nat) : v.FramesOnly (v.framePut t type ws) := .foldl fun u i => ⟨rfl, fun _ _ _ => rfl⟩
  dsimp only
  split
  · exact framed _ _ _ _
  · exact (framed _ _ _ _).trans (State.framesOnly_tiles _)

theorem repLoop_framesOnly (p base : Nat) (h : List Nat) (f : Nat) (v : CtView) : s.FramesOnly (repLoop p base h f v s).2 := by
  induction f generalizing v s with
  | zero => exact .refl
  | succ f ih =>
    unfold repLoop
    split
    · exact .refl
    · exact .refl
    · next ws _ =>
      extract_lets w stepped next crc staging
      have step : s.FramesOnly stepped := by
        unfold stepped
        split
        · exact State.putFrames_framesOnly ws
        · exact .refl
      split
      · exact step
      · split
        · exact step.trans (ih _)
        · exact step.trans (ih _)

theorem State.repRun_framesOnly (p : Nat) : s.FramesOnly (s.repRun p).2 := by
  unfold State.repRun
  extract_lets base h le plen plot view looped
  have read : s.FramesOnly looped.2 := (State.framesOnly_tiles []).trans (repLoop_framesOnly _ _ _ _ _)
  clear_value looped
  have done : s.FramesOnly (looped.2.setList CT_TILES []) := read.trans (State.framesOnly_tiles [])
  split
  · exact done
  · split
    · exact done
    · split
      · exact done
      · exact done

end Source

/-! A repair ends. -/

section Ends

variable {s : State} {p : Nat}

theorem State.repairNext_nil (h : s.list REP_Q = []) : s.repairNext = s := by
  unfold State.repairNext
  rw [h]

/-- The repair is over, but for its key slot. -/
def State.repairIdle (s : State) : State :=
  let s := ((s.put REP_STEP 0).put REP_SLOT 0).put BV_CSSTAT.REPAIRING 0
  s.put FB_PSTAT.REPAIR 0 (s.get BV_CSSTAT.REPAIR_PLOT)

theorem State.repairOver_eq (s : State) : s.repairOver =
    if s.get REP_SLOT = 0 then s.repairIdle else s.repairIdle.keyDone (s.get REP_SLOT) := rfl

theorem State.repairOver_list (q : Fifo) (i : Nat) : s.repairOver.list q i = s.list q i := by
  rw [State.repairOver_eq]
  split
  · rfl
  · rw [State.list, State.keyDone_lists]
    rfl

theorem State.repairOver_get (hk : s.get REP_SLOT < 8) {g : Field} {n j : Nat} (hg : g.clearOf n keyFields = true) (hj : j < n) :
    s.repairOver.get g j = s.repairIdle.get g j := by
  rw [State.repairOver_eq]
  split
  · rfl
  · exact (State.Within.refl.keyDone (fun _ hm => hm) hk).get_elements hg hj

theorem State.setPlot_shows (hp : p < 64) {st holder : Nat} (hs : st < 8) (hh : holder < 8) :
    (s.setPlot p st holder).get FB_PSTAT.STATE p = st ∧ (s.setPlot p st holder).get FB_PSTAT.HOLDER p = holder := by
  unfold State.setPlot
  have apart : ∀ f ∈ [FB_PSTAT.STATE, FB_PSTAT.HOLDER], f.key p ≠ PW_MODE.FENCED_ANY.key 0 := by
    intro f hf
    exact Field.key_spares (n := 64) hp (by revert f; decide)
  rw [State.get_put_ne _ _ (apart _ (by simp)), State.get_put_ne _ _ (apart _ (by simp)), State.get_put_ne _ _ (by simp +decide),
    State.get_put_self, State.get_put_self]
  exact ⟨Nat.mod_eq_of_lt hs, Nat.mod_eq_of_lt hh⟩

/-- A failed repair is over, and the plot that it held is the Belvedere's. -/
theorem State.repairFail_shows (hp : s.get BV_CSSTAT.REPAIR_PLOT = p) (small : p < 64) (hk : s.get REP_SLOT < 8) (c : Rc) :
    (s.repairFail c).get BV_CSSTAT.REPAIRING = 0 ∧ (s.repairFail c).get REP_STEP = 0 ∧
      (s.get FB_PSTAT.REPAIR p ≠ 1 → (s.repairFail c).get FB_PSTAT.STATE p = pFENCED ∧
        (s.repairFail c).get FB_PSTAT.HOLDER p = hBELVEDERE) ∧ (s.repairFail c).list REP_Q = s.list REP_Q := by
  unfold State.repairFail
  extract_lets p' held
  have same : p' = p := hp
  have kept {g : Field} (h : g.clearOf 1 fenceFields = true) : held.get g = s.get g := by
    unfold held
    rw [same]
    split
    · rfl
    · have set : (s.plotWipe p).Within (.elements fenceFields) ((s.plotWipe p).setPlot p pFENCED hBELVEDERE) :=
        .putIn (.putIn (.putIn .refl (b := 64) (by simp [fenceFields]) small) (b := 64) (by simp [fenceFields]) small) (b := 1)
          (by simp [fenceFields, cutFields]) Nat.one_pos
      exact set.get_elements h Nat.one_pos
  have slot : held.get REP_SLOT < 8 := (kept (by decide)).trans_lt hk
  have plot : held.get BV_CSSTAT.REPAIR_PLOT = p := (kept (by decide)).trans hp
  have ended {g : Field} {n j : Nat} (hg : g.clearOf n keyFields = true) (hj : j < n) :
      (held.repairOver.raise Rc.BV_REPAIR_FAIL p' c.num).get g j = held.repairIdle.get g j := by
    rw [State.raise_get _ _ _ _ (Field.key_clearOf hg hj (p := (EV_DROP.COUNT, 1)) (by simp) Nat.one_pos)
      (Field.key_clearOf hg hj (p := (DROP_EPISODE, 1)) (by simp) Nat.one_pos), State.repairOver_get slot hg hj]
  have idle : held.repairIdle = (((held.put REP_STEP 0).put REP_SLOT 0).put BV_CSSTAT.REPAIRING 0).put FB_PSTAT.REPAIR 0 p := by
    unfold State.repairIdle
    dsimp only
    rw [State.get_put_ne _ _ (by decide), State.get_put_ne _ _ (by decide), State.get_put_ne _ _ (by decide), plot]
  have apart : ∀ f ∈ [REP_STEP, REP_SLOT, BV_CSSTAT.REPAIRING], f.key 0 ≠ FB_PSTAT.REPAIR.key p := by
    intro f hf
    simp only [List.mem_cons, List.not_mem_nil, or_false] at hf
    rcases hf with rfl | rfl | rfl <;> simp only [Field.key, REP_STEP, REP_SLOT, BV_CSSTAT.REPAIRING, FB_PSTAT.REPAIR] <;> omega
  have places : ∀ g ∈ [FB_PSTAT.STATE, FB_PSTAT.HOLDER], held.repairIdle.get g p = held.get g p := by
    intro g hg
    rw [idle, State.get_put_ne _ _ (by revert g; simp +decide), State.get_put_ne _ _ ?_, State.get_put_ne _ _ ?_, State.get_put_ne _ _ ?_]
    all_goals
      simp only [List.mem_cons, List.not_mem_nil, or_false] at hg
      rcases hg with rfl | rfl <;>
        simp only [Field.key, REP_STEP, REP_SLOT, BV_CSSTAT.REPAIRING, FB_PSTAT.STATE, FB_PSTAT.HOLDER] <;> omega
  refine ⟨?_, ?_, fun ne => ?_, ?_⟩
  · rw [ended (n := 1) (by decide) Nat.one_pos, idle, State.get_put_ne _ _ (apart _ (by simp)), State.get_put_self]
    rfl
  · rw [ended (n := 1) (by decide) Nat.one_pos, idle, State.get_put_ne _ _ (apart _ (by simp)), State.get_put_ne _ _ (by decide),
      State.get_put_ne _ _ (by decide), State.get_put_self]
    rfl
  · rw [ended (n := 64) (by decide) small, ended (n := 64) (by decide) small, places _ (by simp), places _ (by simp)]
    have unheld : held = (s.plotWipe p).setPlot p pFENCED hBELVEDERE := by
      unfold held
      rw [same, if_neg (by simpa [State.flag] using ne)]
    rw [unheld]
    exact State.setPlot_shows small (by decide) (by decide)
  · rw [State.raise_list, State.repairOver_list]
    unfold held
    split <;> rfl

variable (ha : Awake s) (step : s.get REP_STEP = 2) (queue : s.list REP_Q = [])
include ha step queue

theorem repair_fails {c : Rc} (hc : (s.repRun (s.get BV_CSSTAT.REPAIR_PLOT)).1 = some c) (hp : s.get BV_CSSTAT.REPAIR_PLOT < 64)
    (hk : s.get REP_SLOT < 8) : Answers .repairComplete s fun t =>
      t.get BV_CSSTAT.REPAIRING = 0 ∧ t.get REP_STEP = 0 ∧
      (s.get FB_PSTAT.REPAIR (s.get BV_CSSTAT.REPAIR_PLOT) ≠ 1 → t.get FB_PSTAT.STATE (s.get BV_CSSTAT.REPAIR_PLOT) = pFENCED ∧
        t.get FB_PSTAT.HOLDER (s.get BV_CSSTAT.REPAIR_PLOT) = hBELVEDERE) := by
  refine answers_live_delivers (exec_repairComplete s) ha fun t ht => ?_
  have read : s.FramesOnly (s.repRun (s.get BV_CSSTAT.REPAIR_PLOT)).2 := State.repRun_framesOnly _
  obtain ⟨ended, idle, held, list⟩ := (s.repRun (s.get BV_CSSTAT.REPAIR_PLOT)).2.repairFail_shows (read.get _ _) hp
    ((read.get _ _).trans_lt hk) c
  rw [if_neg (by simp [step])] at ht
  dsimp only at ht
  split at ht
  · next d hd =>
    obtain rfl : d = c := Option.some.inj (hd.symm.trans hc)
    rw [State.repairNext_nil (list.trans ((read.2 _ _ (by decide)).trans queue))] at ht
    have quiet : ∀ f ∈ [FB_PSTAT.STATE, FB_PSTAT.HOLDER], f.key (s.get BV_CSSTAT.REPAIR_PLOT) ≠ MSI_PEND.key 0 := by
      intro f hf
      exact Field.key_spares (n := 64) hp (by revert f; decide)
    rw [ht.get (by decide), ht.get (by decide), ht.get (quiet _ (by simp)), ht.get (quiet _ (by simp))]
    exact ⟨ended, idle, fun ne => held ((read.get _ _).trans_ne ne)⟩
  · next hn => exact absurd (hn.symm.trans hc) nofun

theorem repair_passes (hr : (s.repRun (s.get BV_CSSTAT.REPAIR_PLOT)).1 = none) :
    let p := s.get BV_CSSTAT.REPAIR_PLOT
    let u := (s.repRun p).2
    (s.get FB_PSTAT.REPAIR p = 1 → exec .repairComplete s = run s ((u.repairOver.raise Rc.BV_REPAIR_DONE p).put BV_IRQ.REPAIR 1)) ∧
      (s.get FB_PSTAT.REPAIR p ≠ 1 → exec .repairComplete s =
        run s (((u.unfence p).repairOver.raise Rc.BV_REPAIR_DONE p).put BV_IRQ.REPAIR 1).repairNext) := by
  intro p u
  have body := exec_live (exec_repairComplete s) ha
  rw [if_neg (by simp [step])] at body
  dsimp only at body
  split at body
  · next d hd => exact absurd (hd.symm.trans hr) nofun
  · refine ⟨fun user => ?_, fun user => ?_⟩
    · rw [body, if_pos (by simp [State.flag, user, p])]
      refine congrArg (run s) (State.repairNext_nil ?_)
      refine (State.put_list ..).trans ((State.raise_list ..).trans ((State.repairOver_list _ _).trans ?_))
      exact ((State.repRun_framesOnly p).2 _ _ (by decide)).trans queue
    · rw [body, if_neg (by simpa [State.flag] using user)]

end Ends

/-! The scrubber's and the delay lines' events (R742, R747, R748, R753, R754). -/

section Events

variable {s : State} {m : Master} (p : Fin 64)

theorem csctl_bits : bits (64 + p) 0 6 = p ∧ bit (64 + p) 6 = true ∧ bit (64 + p) 7 = false := by
  have := p.isLt
  simp only [bits, bit]
  refine ⟨by omega, ?_, ?_⟩ <;> simp <;> omega

section Held

theorem wrCsctl_scan (hm : s.mode = mHOLD ∨ s.mode = mRUN) : wrCsctl m 128 s = (s.put CS_AT 0).forget [CS_DONE] := by
  unfold wrCsctl
  dsimp only
  rw [if_neg (by decide), if_neg (by rcases hm with h | h <;> simp [h])]
  rfl

theorem wrCsctl_handback (hm : s.mode = mHOLD ∨ s.mode = mRUN) : wrCsctl m (64 + p) s =
    if s.get FB_PSTAT.STATE p = pFENCED ∧ s.get FB_PSTAT.HOLDER p = hBELVEDERE then
      (s.put FB_PSTAT.HOLDER hUSER p).raise Rc.BV_HANDBACK p
    else s.refuse Rc.BV_NOT_HELD p m 0x34014 := by
  obtain ⟨plot, back, scan⟩ := csctl_bits p
  unfold wrCsctl
  simp only [plot, back, scan]
  rw [if_neg (by decide), if_neg (by rcases hm with h | h <;> simp [h])]
  simp

variable (hw : Writes m 0x34014 s)
include hw

section Running

variable (hm : s.mode = mHOLD ∨ s.mode = mRUN)
include hm

theorem scan_restarts : Answers (.scan m) s fun t => t.get CS_AT = 0 ∧ t.get BV_CSSTAT.PASSES = s.get BV_CSSTAT.PASSES := by
  refine answers_write_delivers (exec_scan m s) hw fun t ht => ?_
  rw [wrCsctl_scan hm] at ht
  rw [ht.get (by decide), ht.get (by decide), State.forget_get, State.forget_get, if_neg (by decide), if_neg (by decide),
    State.get_put_self, State.get_put_ne _ _ (by decide)]
  exact ⟨rfl, rfl⟩

theorem handback_returns (hs : s.get FB_PSTAT.STATE p = pFENCED) (hh : s.get FB_PSTAT.HOLDER p = hBELVEDERE) :
    Answers (.handback m p) s fun t => t.get FB_PSTAT.HOLDER p = hUSER ∧ t.get FB_PSTAT.STATE p = pFENCED := by
  refine answers_write_delivers (exec_handback m p s) hw fun t ht => ?_
  rw [wrCsctl_handback p hm, if_pos ⟨hs, hh⟩] at ht
  rw [ht.get (by simp +decide), ht.get (by simp +decide), State.raise_get _ _ _ _ (by simp +decide) (by simp +decide),
    State.raise_get _ _ _ _ (by simp +decide) (by simp +decide), State.get_put_self, State.get_put_ne _ _ (by simp +decide), hs]
  exact ⟨rfl, rfl⟩

theorem handback_refused (hh : s.get FB_PSTAT.HOLDER p ≠ hBELVEDERE) : Answers (.handback m p) s fun t =>
    t.get FB_PSTAT.HOLDER p = s.get FB_PSTAT.HOLDER p ∧ t.get GH_REFUSE.CODE = Rc.BV_NOT_HELD.num % 2 ^ 16 := by
  refine answers_write_delivers (exec_handback m p s) hw fun t ht => ?_
  rw [wrCsctl_handback p hm, if_neg fun h => hh h.2] at ht
  rw [ht.get (by simp +decide), ht.get (by simp +decide), State.refuse_get_fin p (by decide), State.refuse_code]
  exact ⟨rfl, rfl⟩

end Running

theorem scan_refused (hh : s.mode ≠ mHOLD) (hr : s.mode ≠ mRUN) : Answers (.scan m) s fun t =>
    t.get CS_AT = s.get CS_AT ∧ t.get GH_REFUSE.CODE = Rc.BV_WRONG_MODE.num % 2 ^ 16 := by
  refine answers_write_delivers (exec_scan m s) hw fun t ht => ?_
  have refused : wrCsctl m 128 s = s.refuse Rc.BV_WRONG_MODE s.mode m 0x34014 := by
    unfold wrCsctl
    dsimp only
    rw [if_neg (by decide), if_pos (by simp [hh, hr])]
  rw [refused] at ht
  rw [ht.get (by decide), ht.get (by decide), State.refuse_get_nat (by decide), State.refuse_code]
  exact ⟨rfl, rfl⟩

end Held

theorem State.dlDone_get (last : Bool) {g : Field} (hg : g.clearOf 1 [(AVS_PHASE, 1), (AVS_TRIES, 1), (BV_DLSTAT.BUSY, 1)] = true) :
    (s.dlDone last).get g = s.get g := by
  refine (State.Within.refl.dlDone last ?_ : s.Within (.elements _) _).get_elements hg Nat.one_pos
  intro c hc
  obtain ⟨f, hf, rfl⟩ := List.mem_map.mp hc
  exact ⟨(f, 1), by revert f; simp +contextual, 0, Nat.one_pos, rfl⟩

theorem State.dlDone_last (hb : s.get BV_DLSTAT.BUSY = 1) : (s.dlDone true).get BV_DLSTAT.BUSY = 0 := by
  unfold State.dlDone
  rw [if_pos (by simp [State.flag, hb])]
  extract_lets idle
  have zero : idle.get BV_DLSTAT.BUSY = 0 := State.get_put_self ..
  split
  · have read : idle.Within (.elements [(AVS_PHASE, 1), (AVS_TRIES, 1)]) idle.avsRead := State.Within.refl.avsRead fun c hc => by
      obtain ⟨f, hf, rfl⟩ := List.mem_map.mp hc
      exact ⟨(f, 1), by revert f; simp +contextual, 0, Nat.one_pos, rfl⟩
    exact (read.get_elements (by decide) Nat.one_pos).trans zero
  · exact zero

variable (ha : Awake s)
include ha

theorem scrubStarved_shows (h : s.csSuspended = true) :
    Answers .scrubStarved s fun t => t.get BV_IRQ.STARVED = 1 ∧ t.get BV_ALERT.STARVED = 1 := by
  refine answers_live_delivers (exec_scrubStarved s) ha fun t ht => ?_
  rw [if_pos h] at ht
  rw [ht.get (by decide), ht.get (by decide), State.raise_get _ _ _ _ (by decide) (by decide),
    State.raise_get _ _ _ _ (by decide) (by decide), State.get_put_self, State.get_put_ne _ _ (by decide), State.get_put_self]
  exact ⟨rfl, rfl⟩

theorem calibration_starts (hm : s.mode = mHOLD ∨ s.mode = mRUN) : Answers .dlCalibrationStart s fun t =>
    t.get BV_DLSTAT.BUSY = 1 ∧ s.Frame t [BV_DLSTAT.BUSY.key 0] := by
  refine answers_live_delivers (exec_dlCalibrationStart s) ha fun t ht => ?_
  rw [if_pos (by rcases hm with h | h <;> simp [h])] at ht
  rw [ht.get (by decide), State.get_put_self]
  exact ⟨rfl, ht.frame (State.Within.put .refl (by simp) : s.Within (.silent [BV_DLSTAT.BUSY.key 0]) _).frame⟩

theorem calibration_ends (hb : s.get BV_DLSTAT.BUSY = 1) (hv : s.get AVS_PHASE ≠ 11) : Answers (.dlSwap true) s fun t =>
    t.get BV_DLSTAT.BUSY = 0 ∧ s.Frame t [BV_DLSTAT.BUSY.key 0] := by
  refine answers_live_delivers (exec_dlSwap true s) ha fun t ht => ?_
  have ended : s.dlDone true = s.put BV_DLSTAT.BUSY 0 := by
    unfold State.dlDone
    rw [if_pos (by simp [State.flag, hb])]
    dsimp only
    rw [if_neg (by rwa [State.get_put_ne _ _ (by decide)])]
  rw [ended] at ht
  rw [ht.get (by decide), State.get_put_self]
  exact ⟨rfl, ht.frame (State.Within.put .refl (by simp) : s.Within (.silent [BV_DLSTAT.BUSY.key 0]) _).frame⟩

theorem forcedSwap_counts (last : Bool) (hb : s.get BV_DLSTAT.BUSY = 1) : Answers (.dlForcedSwap p last) s fun t =>
    t.get BV_DLSTAT.FORCED = min (s.get BV_DLSTAT.FORCED + 1) (2 ^ 16 - 1) ∧ t.get BV_IRQ.CAL = 1 ∧
      (last = true → t.get BV_DLSTAT.BUSY = 0) := by
  refine answers_live_delivers (exec_dlForcedSwap p last s) ha fun t ht => ?_
  rw [if_neg (by simp [State.flag, hb])] at ht
  extract_lets first counted at ht
  have told {g : Field} (hd : g.key 0 ≠ EV_DROP.COUNT.key 0) (he : g.key 0 ≠ DROP_EPISODE.key 0) :
      (if first then counted.raise Rc.BV_CAL_FORCED p else counted).get g = counted.get g := by
    split
    · exact State.raise_get _ _ _ _ hd he
    · rfl
  refine ⟨?_, ?_, fun done => ?_⟩
  · rw [ht.get (by decide), State.dlDone_get last (by decide), told (by decide) (by decide), State.get_put_ne _ _ (by decide),
      State.get_count_self]
    rfl
  · rw [ht.get (by decide), State.dlDone_get last (by decide), told (by decide) (by decide), State.get_put_self]
    rfl
  · subst done
    rw [ht.get (by decide)]
    refine State.dlDone_last ((told (by decide) (by decide)).trans ?_)
    rw [State.get_put_ne _ _ (by decide), State.get_count_ne _ _ (by decide), hb]

end Events

/-- Settles O49: the samples rail by rail and threshold by threshold, the scrubbed word by whether it can be corrected,
a repair by whether its source passes. -/
theorem scrubberRepairsAndCalibrationAct : Obligations.ScrubberRepairsAndCalibrationAct := by
  unfold Obligations.ScrubberRepairsAndCalibrationAct
  intro s ha
  have idle {c : Instr} {k : State → State} (hc : exec c s = live s k) (hk : k s = s) : Answers c s fun t => s.Frame t [] :=
    answers_live_delivers hc ha fun t ht => ht.frame (by rw [hk]; exact s.frame_refl _)
  refine ⟨fun ts hl => tempSample_shows ha hl, fun mv settled hl => railSample_shows ha hl, fun flips => ?_, fun step => ?_, fun step queue => ?_,
    fun m hw => ⟨fun hm => ⟨scan_restarts hw hm, fun p => ⟨handback_returns p hw hm, handback_refused p hw hm⟩⟩, scan_refused hw⟩,
    scrubStarved_shows ha, fun h => idle (exec_scrubStarved s) (by simp [h]), calibration_starts ha,
    fun hh hr => idle (exec_dlCalibrationStart s) (by simp [hh, hr]), calibration_ends ha,
    idle (exec_dlSwap false s) (by simp [State.dlDone]), fun p last => ⟨forcedSwap_counts p ha last, fun hb =>
      idle (exec_dlForcedSwap p last s) (by simp [State.flag, hb])⟩⟩
  · extract_lets a p st ad v
    refine ⟨fun off => idle (exec_configScrubRead flips s) (if_pos (by rcases off with h | h <;> simp [h])), fun hr hs hb hw hg hv =>
      ⟨fun u hu => configScrub_corrects ha hr hs hw hg hb hv hu, fun hu act => configScrub_handles ha hr hs hw hg hb hv hu act⟩⟩
  · exact idle (exec_repairComplete s) (if_pos step)
  · exact ⟨fun c hc hp hk => repair_fails ha step queue hc hp hk, fun hr => repair_passes ha step queue hr⟩

end Sys2Proof.Machine
end

section
/-! O43: signers, sealing, debug access, the unlock of protected registers and tamper events (R642 to R661, R757). -/

namespace Sys2Proof.Machine

/-! What a command reads of its arguments and its authorisation. -/

section Arguments

variable {s t : State} {m : Master} {op : Nat}

theorem bits_arg (a : Nat) {lo n : Nat} (h : lo + n ≤ 32) : bits (a % 2 ^ 32) lo n = bits a lo n := by
  unfold bits
  rw [show 32 = lo + (32 - lo) by omega, pow_add, Nat.mod_mul_right_div_self, Nat.mod_mod_of_dvd _ (Nat.pow_dvd_pow 2 (by omega))]

theorem bit_arg (a : Nat) {i : Nat} (h : i < 32) : bit (a % 2 ^ 32) i = bit a i := bit_mod h

theorem bits_lt (a lo n : Nat) : bits a lo n < 2 ^ n := Nat.mod_lt _ (Nat.two_pow_pos n)

theorem State.issued_arg0 : (s.issued m op).get CMD_ARG 0 = s.get GH_ARG.ARG 0 % 2 ^ 32 := State.issued_arg (0 : Fin 4)

/-- The buffer, the keys of the signers and the die read alike. -/
structure SignersSame (s t : State) : Prop where
  buffer : ∀ i < 768, t.get GH_DBUF.DATA i = s.get GH_DBUF.DATA i
  slots : ∀ f ∈ [GH_PKSTAT.STATE, GH_PKSTAT.KIND, GH_PKSTAT.DEBUG, GH_PKSTAT.UPDATE, PK_HASH], ∀ n < 4, t.get f n = s.get f n
  die : t.get GH_DIEID_LO.ID = s.get GH_DIEID_LO.ID ∧ t.get GH_DIEID_HI.ID = s.get GH_DIEID_HI.ID

theorem State.issued_signers : SignersSame s (s.issued m op) where
  buffer _ hi := State.issued_get (n := 768) (by decide) hi
  slots f hf _ hn := State.issued_get (n := 4) (by revert f; decide) hn
  die := ⟨State.issued_get (n := 1) (by decide) Nat.one_pos, State.issued_get (n := 1) (by decide) Nat.one_pos⟩

namespace SignersSame

variable (h : SignersSame s t)
include h

theorem trans {u : State} (h' : SignersSame t u) : SignersSame s u where
  buffer i hi := (h'.buffer i hi).trans (h.buffer i hi)
  slots f hf n hn := (h'.slots f hf n hn).trans (h.slots f hf n hn)
  die := ⟨h'.die.1.trans h.die.1, h'.die.2.trans h.die.2⟩

theorem byte {i : Nat} (hi : i < 3072) : t.bufByte i = s.bufByte i := by
  rw [State.bufByte, State.bufByte, h.buffer _ (by omega)]

theorem bytes {a n : Nat} (hn : a + n ≤ 3072) : t.bufBytes a n = s.bufBytes a n :=
  List.map_congr_left fun i hi => h.byte (by have := List.mem_range.mp hi; omega)

theorem dieBytes : t.dieBytes = s.dieBytes := by
  rw [State.dieBytes, State.dieBytes, State.dieId, State.dieId, h.die.1, h.die.2]

theorem signer {n usage : Nat} (hn : n < 4) (key sig msg : List Nat) :
    t.signerBad n usage key sig msg = s.signerBad n usage key sig msg := by
  have slot {f : Field} (hf : f ∈ [GH_PKSTAT.STATE, GH_PKSTAT.KIND, GH_PKSTAT.DEBUG, GH_PKSTAT.UPDATE, PK_HASH]) := h.slots f hf n hn
  unfold State.signerBad State.flag
  rw [slot (f := GH_PKSTAT.STATE) (by simp), slot (f := GH_PKSTAT.KIND) (by simp),
    slot (f := GH_PKSTAT.DEBUG) (by simp), slot (f := GH_PKSTAT.UPDATE) (by simp), slot (f := PK_HASH) (by simp)]

end SignersSame

/-- A block is cut out of the bytes below the limit alone. -/
theorem authSplit_congr {f g : Nat → Nat} {a limit : Nat} (ha : a + 8 ≤ limit) (h : ∀ i < limit, f i = g i) :
    authSplit f a limit = authSplit g a limit := by
  have word (x : Nat) (hx : x + 4 ≤ limit) : (List.range 4).map (fun i => f (x + i)) = (List.range 4).map fun i => g (x + i) :=
    List.map_congr_left fun i hi => h _ (by have := List.mem_range.mp hi; omega)
  unfold authSplit
  simp only [word a (by omega), word (a + 4) (by omega)]
  split
  · rfl
  · next inside =>
    congr 2
    · exact List.map_congr_left fun i hi => h _ (by have := List.mem_range.mp hi; omega)
    · exact List.map_congr_left fun i hi => h _ (by have := List.mem_range.mp hi; omega)

theorem SignersSame.auth (h : SignersSame s t) {a n usage : Nat} (ha : a + 8 ≤ 3072) (hn : n < 4) (msg : List Nat) :
    t.authCheck a n usage msg = s.authCheck a n usage msg := by
  unfold State.authCheck
  rw [authSplit_congr (g := s.bufByte) ha fun i hi => h.byte hi, h.slots GH_PKSTAT.KIND (by simp) n hn]
  cases authSplit s.bufByte a 3072 with
  | none => rfl
  | some block =>
    dsimp only
    rw [h.signer hn]

end Arguments

/-! Signers (R644, R645). -/

section Signers

variable {s u : State} {m : Master}

theorem runPkProgram_first {n : Nat} (hn : bits (u.get CMD_ARG 0) 0 2 = n) (he : u.get GH_PKSTAT.STATE n = pkEMPTY)
    (hv : ∀ i < 4, u.get GH_PKSTAT.STATE i ≠ pkVALID) : runPkProgram u = u.put CMD_KEY (ofBytesBE (u.bufBytes 0 48)) := by
  have kept (i : Nat) (hi : i < 4) : (u.put CMD_KEY (ofBytesBE (u.bufBytes 0 48))).get GH_PKSTAT.STATE i = u.get GH_PKSTAT.STATE i :=
    State.get_put_ne _ _ (by simp only [Field.key, GH_PKSTAT.STATE, CMD_KEY]; omega)
  have slot : n < 4 := hn ▸ bits_lt _ 0 2
  unfold runPkProgram
  dsimp only
  rw [hn, if_neg (by rw [kept n slot, he]; simp), if_neg]
  simp only [Bool.not_eq_true, List.any_eq_false, List.mem_range, decide_eq_true_eq]
  intro i hi
  rw [kept i hi]
  exact hv i hi

theorem runPkProgram_taken {n : Nat} (hn : bits (u.get CMD_ARG 0) 0 2 = n) (he : u.get GH_PKSTAT.STATE n ≠ pkEMPTY) :
    runPkProgram u = (u.put CMD_KEY (ofBytesBE (u.bufBytes 0 48))).cmdFail Rc.GH_PK_SLOT n := by
  have slot : n < 4 := hn ▸ bits_lt _ 0 2
  unfold runPkProgram
  dsimp only
  rw [hn, if_pos]
  rwa [State.get_put_ne _ _ (by simp only [Field.key, GH_PKSTAT.STATE, CMD_KEY]; omega)]

theorem pkProgram_begins (hi : Issues m 0x0D s) (he : s.get GH_PKSTAT.STATE (bits (s.get GH_ARG.ARG 0) 0 2) = pkEMPTY)
    (hv : ∀ i : Fin 4, s.get GH_PKSTAT.STATE i ≠ pkVALID) : Answers (.pkProgram m) s fun t =>
      t.get GH_STATUS.STATE = 1 ∧ t.get CMD_OP = 0x0D ∧ t.get CMD_KEY = ofBytesBE (s.bufBytes 0 48) % 2 ^ CMD_KEY.width ∧
        t.get CMD_RES = s.get CMD_RES := by
  have arg : bits ((s.issued m 0x0D).get CMD_ARG 0) 0 2 = bits (s.get GH_ARG.ARG 0) 0 2 := by
    rw [State.issued_arg0, bits_arg _ (by decide)]
  have same : SignersSame s (s.issued m 0x0D) := State.issued_signers
  have slots := same.slots GH_PKSTAT.STATE (by simp)
  obtain ⟨state, running, -⟩ := s.issued_status (m := m) (op := 0x0D)
  refine answers_issue_delivers (exec_pkProgram m s) hi fun t ht => ?_
  rw [runPkProgram_first arg ((slots _ (bits_lt _ 0 2)).trans he) fun i hi => (slots i hi).trans_ne (hv ⟨i, hi⟩)] at ht
  rw [ht.get (by decide), ht.get (by decide), ht.get (by decide), ht.get (by decide), State.get_put_ne _ _ (by decide),
    State.get_put_ne _ _ (by decide), State.get_put_self, State.get_put_ne _ _ (by decide), state, running,
    same.bytes (by decide), State.issued_get (n := 1) (by decide) Nat.one_pos]
  exact ⟨rfl, rfl, rfl, rfl⟩

theorem pkProgram_fails (hi : Issues m 0x0D s) (he : s.get GH_PKSTAT.STATE (bits (s.get GH_ARG.ARG 0) 0 2) ≠ pkEMPTY) :
    Answers (.pkProgram m) s fun t => t.get GH_STATUS.STATE = 3 ∧ t.get GH_STATUS.RESULT = Rc.GH_PK_SLOT.num % 2 ^ 16 := by
  have arg : bits ((s.issued m 0x0D).get CMD_ARG 0) 0 2 = bits (s.get GH_ARG.ARG 0) 0 2 := by
    rw [State.issued_arg0, bits_arg _ (by decide)]
  refine answers_issue_delivers (exec_pkProgram m s) hi fun t ht => ?_
  rw [runPkProgram_taken arg ((State.issued_signers.slots GH_PKSTAT.STATE (by simp) _ (bits_lt _ 0 2)).trans_ne he)] at ht
  obtain ⟨state, result, -⟩ := State.cmdFail_shows (s := (s.issued m 0x0D).put CMD_KEY (ofBytesBE ((s.issued m 0x0D).bufBytes 0 48)))
    (rc := Rc.GH_PK_SLOT) (obj := bits (s.get GH_ARG.ARG 0) 0 2)
  rw [ht.get (by decide), ht.get (by decide), state, result]
  exact ⟨rfl, rfl⟩

theorem SignersSame.updateSigner {t : State} (h : SignersSame s t) (n : Nat) : t.updateSigner n = s.updateSigner n := by
  unfold State.updateSigner State.flag
  rw [Bool.eq_iff_iff]
  simp only [List.any_eq_true, List.mem_range]
  refine exists_congr fun i => and_congr_right fun hi => ?_
  rw [h.slots GH_PKSTAT.STATE (by simp) i hi, h.slots GH_PKSTAT.UPDATE (by simp) i hi]

theorem pkRevoke_begins {n slot : Nat} (hi : Issues m 0x0E s) (hn : bits (s.get GH_ARG.ARG 0) 0 2 = n) (hs : bits (s.get GH_ARG.ARG 0) 8 2 = slot)
    (hv : s.get GH_PKSTAT.STATE n = pkVALID) (hu : s.updateSigner n = true) (ne : slot ≠ n)
    (ha : s.authCheck 0 slot 1 ([0x4C, 0x48, 0x50, 0x52, n] ++ s.dieBytes) = some none) : Answers (.pkRevoke m) s fun t =>
      t.get GH_STATUS.STATE = 1 ∧ t.get CMD_OP = 0x0E ∧ t.get GH_PKSTAT.STATE n = pkVALID := by
  have same : SignersSame s (s.issued m 0x0E) := State.issued_signers
  have small : n < 4 := hn ▸ bits_lt _ 0 2
  have arg : bits ((s.issued m 0x0E).get CMD_ARG 0) 0 2 = n := by
    rw [State.issued_arg0, bits_arg _ (by decide), hn]
  have auth : bits ((s.issued m 0x0E).get CMD_ARG 0) 8 2 = slot := by
    rw [State.issued_arg0, bits_arg _ (by decide), hs]
  have valid : (s.issued m 0x0E).get GH_PKSTAT.STATE n = pkVALID := (same.slots _ (by simp) _ small).trans hv
  obtain ⟨state, running, -⟩ := s.issued_status (m := m) (op := 0x0E)
  refine answers_issue_delivers (exec_pkRevoke m s) hi fun t ht => ?_
  have run : runPkRevoke (s.issued m 0x0E) = s.issued m 0x0E := by
    unfold runPkRevoke
    dsimp only
    rw [arg, auth, if_neg (by simp [valid, same.updateSigner, hu]), if_neg ne, same.auth (by decide) (hs ▸ bits_lt _ 8 2), same.dieBytes, ha]
    rfl
  rw [run] at ht
  rw [ht.get (by decide), ht.get (by decide), ht.get ?_, state, running, valid]
  · exact ⟨rfl, rfl, rfl⟩
  · exact Field.key_spares (n := 4) small (by decide)

end Signers

/-! The ends of the commands that verify (R643 to R645, R658). -/

section Verified

variable {s : State} (ha : Awake s) (hr : s.get CMD_RES = 0)
include ha hr

theorem pkProgram_ends (ho : s.get CMD_OP = 0x0D) {n : Nat} (hn : bits (s.get CMD_ARG 0) 0 2 = n) : Answers .ghCommandEnd s fun t =>
    t.get GH_PKSTAT.STATE n = pkVALID ∧ t.get PK_HASH n = s.get CMD_KEY % 2 ^ 384 ∧
      t.get GH_PKSTAT.DEBUG n = bits (s.get CMD_ARG 0) 5 1 ∧ t.get GH_PKSTAT.UPDATE n = bits (s.get CMD_ARG 0) 6 1 ∧
      t.get GH_STATUS.STATE = 2 := by
  have small : n < 4 := hn ▸ bits_lt _ 0 2
  refine answers_live_delivers (exec_ghCommandEnd s) ha fun t ht => ?_
  rw [ho] at ht
  replace ht : (endPkProgram s).Delivers t := ht
  unfold endPkProgram at ht
  rw [if_neg (by simp [hr]), hn] at ht
  extract_lets fused at ht
  have ends {g : Field} (hg : g.clearOf 4 endFields = true) (hq : g.spares 4 MSI_PEND = true) :
      t.get g n = ((((fused.put GH_PKSTAT.KIND (bits (s.get CMD_ARG 0) 4 1) n).put GH_PKSTAT.DEBUG (bits (s.get CMD_ARG 0) 5 1) n).put
        GH_PKSTAT.UPDATE (bits (s.get CMD_ARG 0) 6 1) n)).get g n := by
    rw [ht.get (Field.key_spares small hq), State.cmdDone_get hg small]
  rw [ends (by decide) (by decide), ends (by decide) (by decide), ends (by decide) (by decide), ends (by decide) (by decide)]
  refine ⟨?_, ?_, ?_, ?_, ?_⟩
  · rw [State.get_put_ne _ _ (by simp +decide), State.get_put_ne _ _ (by simp +decide), State.get_put_ne _ _ (by simp +decide), State.get_put_self]
    rfl
  · have apart : ∀ f ∈ [GH_PKSTAT.KIND, GH_PKSTAT.DEBUG, GH_PKSTAT.UPDATE, GH_PKSTAT.STATE, GH_PKSTAT.HASH],
        PK_HASH.key n ≠ f.key n := by
      intro f hf
      simp only [List.mem_cons, List.not_mem_nil, or_false] at hf
      rcases hf with rfl | rfl | rfl | rfl | rfl <;>
        simp only [Field.key, PK_HASH, GH_PKSTAT.KIND, GH_PKSTAT.DEBUG, GH_PKSTAT.UPDATE, GH_PKSTAT.STATE, GH_PKSTAT.HASH] <;> omega
    rw [State.get_put_ne _ _ (apart _ (by simp)), State.get_put_ne _ _ (apart _ (by simp)), State.get_put_ne _ _ (apart _ (by simp)),
      State.get_put_ne _ _ (apart _ (by simp)), State.get_put_ne _ _ (apart _ (by simp)), State.get_put_self]
    exact congrArg (s.get CMD_KEY % 2 ^ ·) (show PK_HASH.width = 384 from rfl)
  · rw [State.get_put_ne _ _ (by simp +decide), State.get_put_self]
    exact Nat.mod_eq_of_lt (bits_lt _ 5 1)
  · rw [State.get_put_self]
    exact Nat.mod_eq_of_lt (bits_lt _ 6 1)
  · rw [ht.get (by decide)]
    exact State.cmdDone_shows.1

theorem pkRevoke_ends (ho : s.get CMD_OP = 0x0E) (hb : s.get DBG_BYPK = 0) {n : Nat} (hn : bits (s.get CMD_ARG 0) 0 2 = n) :
    Answers .ghCommandEnd s fun t => t.get GH_PKSTAT.STATE n = pkREVOKED ∧ t.get GH_STATUS.STATE = 2 := by
  have small : n < 4 := hn ▸ bits_lt _ 0 2
  refine answers_live_delivers (exec_ghCommandEnd s) ha fun t ht => ?_
  rw [ho] at ht
  replace ht : (endPkRevoke s).Delivers t := ht
  unfold endPkRevoke at ht
  rw [if_neg (by simp [hr]), hn] at ht
  have unlocked : (s.put GH_PKSTAT.STATE pkREVOKED n).get DBG_BYPK = 0 :=
    (State.get_put_ne _ _ (Field.key_spares (n := 4) small (by decide)).symm).trans hb
  dsimp only at ht
  rw [if_neg (by simp [State.flag, unlocked])] at ht
  rw [ht.get (Field.key_spares small (by decide)), ht.get (by decide), State.cmdDone_get (n := 4) (by decide) small, State.get_put_self,
    State.cmdDone_shows.1]
  exact ⟨rfl, rfl⟩

theorem debugUnlock_ends (ho : s.get CMD_OP = 0x0A) : Answers .ghCommandEnd s fun t =>
    t.get GH_DBGSTAT.LEVEL = s.get CH_LEVEL % 2 ^ 2 ∧ t.get GH_DBGSTAT.SLOT = bits (s.get CMD_ARG 0) 8 2 ∧ t.get GH_IRQ.DEBUG = 1 ∧
      t.get DBG_FAILS = 0 ∧ t.get GH_STATUS.STATE = 2 := by
  refine answers_live_delivers (exec_ghCommandEnd s) ha fun t ht => ?_
  rw [ho] at ht
  replace ht : (endDebugUnlock s).Delivers t := ht
  unfold endDebugUnlock at ht
  rw [if_neg (by simp [hr])] at ht
  rw [ht.get (by decide), ht.get (by decide), ht.get (by decide), ht.get (by decide), ht.get (by decide),
    State.cmdDone_get (n := 1) (by decide) Nat.one_pos, State.cmdDone_get (n := 1) (by decide) Nat.one_pos,
    State.cmdDone_get (n := 1) (by decide) Nat.one_pos, State.cmdDone_get (n := 1) (by decide) Nat.one_pos, State.cmdDone_shows.1]
  simp +decide only [State.debugGrant, State.get_put_ne, State.get_put_self, State.raise_get, ne_eq]
  exact ⟨rfl, Nat.mod_eq_of_lt (bits_lt _ 8 2), trivial⟩

end Verified

/-! Sealing (R647). -/

section Seal

variable {s : State} {m : Master} (hi : Issues m 0x0F s)
include hi

theorem seal_sealed (h : s.get GH_IDENT.SEALED = 1) : Answers (.seal m) s fun t =>
    t.get GH_STATUS.STATE = 3 ∧ t.get GH_STATUS.RESULT = Rc.GH_SEALED.num % 2 ^ 16 := by
  refine answers_issue_delivers (exec_seal m s) hi fun t ht => ?_
  have fails : runSeal (s.issued m 0x0F) = (s.issued m 0x0F).cmdFail Rc.GH_SEALED 0xF :=
    if_pos (by simp [State.flag, State.issued_get (n := 1) (g := GH_IDENT.SEALED) (by decide) Nat.one_pos, h])
  obtain ⟨state, result, -⟩ := State.cmdFail_shows (s := s.issued m 0x0F) (rc := Rc.GH_SEALED) (obj := 0xF)
  rw [fails] at ht
  rw [ht.get (by decide), ht.get (by decide), state, result]
  exact ⟨rfl, rfl⟩

theorem seal_seals (h : s.get GH_IDENT.SEALED = 0) (hu : s.updateSigner 4 = true) (hv : s.get GH_KSTAT.STATE 1 = ksVALID)
    (hk : bit (s.get GH_KSTAT.USAGE 1) 1 = true) : Answers (.seal m) s fun t =>
      t.get GH_IDENT.SEALED = 1 ∧ t.get GH_POLICY.DBG_OPEN = 0 ∧ t.get GH_STATUS.STATE = 2 := by
  refine answers_issue_delivers (exec_seal m s) hi fun t ht => ?_
  have kept {g : Field} {j : Nat} (hj : j < 2) (hg : g.clearOf 2 commandFields = true) : (s.issued m 0x0F).get g j = s.get g j :=
    State.issued_get hg hj
  have decrypts : ((List.range 6).any fun k => 1 ≤ k && (s.issued m 0x0F).get GH_KSTAT.STATE k = ksVALID &&
      bit ((s.issued m 0x0F).get GH_KSTAT.USAGE k) 1) = true := by
    rw [List.any_eq_true]
    refine ⟨1, by decide, ?_⟩
    rw [kept (by decide) (by decide), kept (by decide) (by decide), hv, hk]
    rfl
  have seals : runSeal (s.issued m 0x0F) =
      ((((s.issued m 0x0F).put GH_IDENT.SEALED 1).put GH_POLICY.DBG_OPEN 0).raise Rc.GH_SEALED_NOW 0).cmdDone := by
    unfold runSeal
    rw [if_neg (by simp [State.flag, kept (g := GH_IDENT.SEALED) (j := 0) (by decide) (by decide), h]),
      if_neg (by rw [State.issued_signers.updateSigner, hu]; decide), if_neg (by rw [decrypts]; decide)]
  rw [seals] at ht
  rw [ht.get (by decide), ht.get (by decide), ht.get (by decide), State.cmdDone_shows.1,
    State.cmdDone_get (n := 1) (by decide) Nat.one_pos, State.cmdDone_get (n := 1) (by decide) Nat.one_pos]
  simp +decide only [State.get_put_ne, State.get_put_self, State.raise_get, ne_eq]

theorem seal_unsigned (h : s.get GH_IDENT.SEALED = 0) (hu : s.updateSigner 4 = false) : Answers (.seal m) s fun t =>
    t.get GH_IDENT.SEALED = 0 ∧ t.get GH_STATUS.STATE = 3 ∧ t.get GH_STATUS.RESULT = Rc.GH_PK_SLOT.num % 2 ^ 16 := by
  refine answers_issue_delivers (exec_seal m s) hi fun t ht => ?_
  have open_ : (s.issued m 0x0F).get GH_IDENT.SEALED = 0 := (State.issued_get (n := 1) (by decide) Nat.one_pos).trans h
  have fails : runSeal (s.issued m 0x0F) = (s.issued m 0x0F).cmdFail Rc.GH_PK_SLOT 0 := by
    unfold runSeal
    rw [if_neg (by simp [State.flag, open_]), if_pos (by rw [State.issued_signers.updateSigner, hu]; decide)]
  obtain ⟨state, result, -⟩ := State.cmdFail_shows (s := s.issued m 0x0F) (rc := Rc.GH_PK_SLOT) (obj := 0)
  rw [fails] at ht
  rw [ht.get (by decide), ht.get (by decide), ht.get (by decide), state, result, State.cmdFail_get (n := 1) (by decide) Nat.one_pos, open_]
  exact ⟨rfl, rfl, rfl⟩

end Seal

/-! Debug access (R655 to R658). -/

section Debug

variable {s u : State} {m : Master}

/-! With fewer than four failures no lockout runs (R659). -/

section Free

variable (few : u.get DBG_FAILS < 4)
include few

theorem runDebugUnlock_open (hp : bit (u.get CMD_ARG 0) 0 = false) (hs : u.get GH_IDENT.SEALED ≠ 1)
    (ho : u.get GH_POLICY.DBG_OPEN = 1) : runDebugUnlock u =
      (((u.put GH_DBGSTAT.CHALLENGED 0).debugGrant (bits (u.get CMD_ARG 0) 4 2) 0 0x100).put DBG_BYPK 0).cmdDone := by
  have unlocked : ¬4 ≤ u.get DBG_FAILS := by omega
  have shut : (u.put GH_DBGSTAT.CHALLENGED 0).get GH_IDENT.SEALED ≠ 1 := by rwa [State.get_put_ne _ _ (by decide)]
  have opened : (u.put GH_DBGSTAT.CHALLENGED 0).get GH_POLICY.DBG_OPEN = 1 := by rwa [State.get_put_ne _ _ (by decide)]
  unfold runDebugUnlock
  simp [unlocked, hp, State.flag, shut, opened]

/-- A challenge is issued: a nonce is drawn, and it stands in the buffer before the die ID. -/
theorem runDebugUnlock_challenges (hp : bit (u.get CMD_ARG 0) 0 = false) (hs : u.get GH_IDENT.SEALED = 1) :
    ∃ n l, l.length = 40 ∧ runDebugUnlock u = ((((((u.put GH_DBGSTAT.CHALLENGED 0).drawn.put NONCE n).put CH_LEVEL
      (bits (u.get CMD_ARG 0) 4 2)).put GH_DBGSTAT.CHALLENGED 1).bufPut l).cmdDone) := by
  have unlocked : ¬4 ≤ u.get DBG_FAILS := by omega
  have shut : (u.put GH_DBGSTAT.CHALLENGED 0).get GH_IDENT.SEALED = 1 := by rwa [State.get_put_ne _ _ (by decide)]
  unfold runDebugUnlock
  simp only [unlocked, hp, State.flag, shut, decide_false, decide_true, Bool.false_and, Bool.not_true, Bool.false_eq_true, if_false]
  exact ⟨_, _, by simp [bytesLE, State.dieBytes], rfl⟩

theorem runDebugUnlock_unasked (hp : bit (u.get CMD_ARG 0) 0 = true) (hc : u.get GH_DBGSTAT.CHALLENGED ≠ 1) :
    runDebugUnlock u = (u.put GH_DBGSTAT.CHALLENGED 0).debugFailed.cmdFail Rc.GH_NO_CHALLENGE 0 := by
  have unlocked : ¬4 ≤ u.get DBG_FAILS := by omega
  unfold runDebugUnlock
  simp [unlocked, hp, State.flag, hc]

theorem runDebugUnlock_answered (hp : bit (u.get CMD_ARG 0) 0 = true) (hc : u.get GH_DBGSTAT.CHALLENGED = 1)
    (ha : (u.put GH_DBGSTAT.CHALLENGED 0).authCheck 0 (bits (u.get CMD_ARG 0) 8 2) 0 ([0x4C, 0x48, 0x44, 0x42] ++
      (u.put GH_DBGSTAT.CHALLENGED 0).dieBytes ++ bytesLE 32 ((u.put GH_DBGSTAT.CHALLENGED 0).get NONCE) ++
        [(u.put GH_DBGSTAT.CHALLENGED 0).get CH_LEVEL]) = some none) : runDebugUnlock u = u.put GH_DBGSTAT.CHALLENGED 0 := by
  have unlocked : ¬4 ≤ u.get DBG_FAILS := by omega
  unfold runDebugUnlock
  simp only [unlocked, hp, State.flag, hc, ha, decide_false, decide_true, Bool.false_and, Bool.not_true, Bool.false_eq_true,
    if_false, if_true]
  rfl

end Free

section Unlock

variable (hi : Issues m 0x0A s) (hf : s.get DBG_FAILS < 4)
include hi hf

omit hi in
theorem issued_few : (s.issued m 0x0A).get DBG_FAILS < 4 := (State.issued_get (n := 1) (by decide) Nat.one_pos).trans_lt hf

omit hi hf in
theorem issued_phase {b : Bool} (hp : bit (s.get GH_ARG.ARG 0) 0 = b) : bit ((s.issued m 0x0A).get CMD_ARG 0) 0 = b := by
  rw [State.issued_arg0, bit_arg _ (by decide), hp]

omit hi hf in
theorem issued_bits {lo n : Nat} (h : lo + n ≤ 32) :
    bits ((s.issued m 0x0A).get CMD_ARG 0) lo n = bits (s.get GH_ARG.ARG 0) lo n := by
  rw [State.issued_arg0, bits_arg _ h]

theorem debugUnlock_grants (hp : bit (s.get GH_ARG.ARG 0) 0 = false) (hs : s.get GH_IDENT.SEALED = 0)
    (ho : s.get GH_POLICY.DBG_OPEN = 1) : Answers (.debugUnlock m) s fun t =>
      t.get GH_DBGSTAT.LEVEL = bits (s.get GH_ARG.ARG 0) 4 2 ∧ t.get GH_DBGSTAT.CHALLENGED = 0 ∧ t.get GH_STATUS.STATE = 2 := by
  have kept {g : Field} (hg : g.clearOf 1 commandFields = true) : (s.issued m 0x0A).get g = s.get g := State.issued_get hg Nat.one_pos
  refine answers_issue_delivers (exec_debugUnlock m s) hi fun t ht => ?_
  rw [runDebugUnlock_open (issued_few hf) (issued_phase hp) (by rw [kept (by decide), hs]; decide) ((kept (by decide)).trans ho),
    issued_bits (by decide)] at ht
  rw [ht.get (by decide), ht.get (by decide), ht.get (by decide), State.cmdDone_shows.1,
    State.cmdDone_get (n := 1) (by decide) Nat.one_pos, State.cmdDone_get (n := 1) (by decide) Nat.one_pos]
  simp +decide only [State.debugGrant, State.get_put_ne, State.get_put_self, State.raise_get, ne_eq]
  exact ⟨Nat.mod_eq_of_lt (bits_lt _ 4 2), trivial⟩

omit hi hf in
theorem State.bufPut_get {l : List Nat} (hl : l.length ≤ 3072) {g : Field} (hg : g.clearOf 1 [(GH_DBUF.DATA, 768)] = true) :
    (u.bufPut l).get g = u.get g :=
  (State.Within.foldl .refl fun v i hm => .putIn .refl (b := 768) (by simp)
    (by have := List.mem_range.mp hm; omega) : u.Within (.elements [(GH_DBUF.DATA, 768)]) (u.bufPut l)).get_elements hg Nat.one_pos

theorem debugUnlock_challenges (hp : bit (s.get GH_ARG.ARG 0) 0 = false) (hs : s.get GH_IDENT.SEALED = 1) :
    Answers (.debugUnlock m) s fun t =>
      t.get GH_DBGSTAT.CHALLENGED = 1 ∧ t.get CH_LEVEL = bits (s.get GH_ARG.ARG 0) 4 2 ∧ t.get GH_STATUS.STATE = 2 ∧
        t.get GH_DBGSTAT.LEVEL = s.get GH_DBGSTAT.LEVEL := by
  have kept {g : Field} (hg : g.clearOf 1 commandFields = true) : (s.issued m 0x0A).get g = s.get g := State.issued_get hg Nat.one_pos
  refine answers_issue_delivers (exec_debugUnlock m s) hi fun t ht => ?_
  obtain ⟨n, l, hl, run⟩ := runDebugUnlock_challenges (issued_few hf) (issued_phase (m := m) hp) ((kept (by decide)).trans hs)
  rw [run, issued_bits (by decide)] at ht
  have drawn (v : State) (g : Field) : v.drawn.get g = v.get g := rfl
  have ends {g : Field} (hg : g.clearOf 1 endFields = true) (hb : g.clearOf 1 [(GH_DBUF.DATA, 768)] = true)
      (hq : g.key 0 ≠ MSI_PEND.key 0) : t.get g = ((((s.issued m 0x0A).put GH_DBGSTAT.CHALLENGED 0).drawn.put NONCE n).put CH_LEVEL
        (bits (s.get GH_ARG.ARG 0) 4 2) |>.put GH_DBGSTAT.CHALLENGED 1).get g := by
    rw [ht.get hq, State.cmdDone_get hg Nat.one_pos, State.bufPut_get (by omega) hb]
  rw [ends (g := GH_DBGSTAT.CHALLENGED) (by decide) (by decide) (by decide), ends (g := CH_LEVEL) (by decide) (by decide) (by decide),
    ends (g := GH_DBGSTAT.LEVEL) (by decide) (by decide) (by decide), ht.get (by decide), State.cmdDone_shows.1]
  simp +decide only [State.get_put_ne, State.get_put_self, drawn, ne_eq, kept (g := GH_DBGSTAT.LEVEL) (by decide)]
  exact ⟨trivial, Nat.mod_eq_of_lt (bits_lt _ 4 2), trivial⟩

theorem debugResponse_unasked (hp : bit (s.get GH_ARG.ARG 0) 0 = true) (hc : s.get GH_DBGSTAT.CHALLENGED = 0) :
    Answers (.debugUnlockResponse m) s fun t => t.get DBG_FAILS = s.get DBG_FAILS + 1 ∧ t.get GH_STATUS.STATE = 3 ∧
      t.get GH_STATUS.RESULT = Rc.GH_NO_CHALLENGE.num % 2 ^ 16 := by
  have kept {g : Field} (hg : g.clearOf 1 commandFields = true) : (s.issued m 0x0A).get g = s.get g := State.issued_get hg Nat.one_pos
  refine answers_issue_delivers (exec_debugUnlockResponse m s) hi fun t ht => ?_
  rw [runDebugUnlock_unasked (issued_few hf) (issued_phase hp) (by rw [kept (by decide), hc]; decide)] at ht
  obtain ⟨state, result, -⟩ := State.cmdFail_shows (s := ((s.issued m 0x0A).put GH_DBGSTAT.CHALLENGED 0).debugFailed)
    (rc := Rc.GH_NO_CHALLENGE) (obj := 0)
  rw [ht.get (by decide), ht.get (by decide), ht.get (by decide), state, result, State.cmdFail_get (n := 1) (by decide) Nat.one_pos,
    State.debugFailed, State.get_count_self, State.get_put_ne _ _ (by decide), kept (by decide)]
  have width : DBG_FAILS.width = 8 := rfl
  refine ⟨?_, rfl, rfl⟩
  rw [width]
  omega

theorem debugResponse_verifies (hp : bit (s.get GH_ARG.ARG 0) 0 = true) (hc : s.get GH_DBGSTAT.CHALLENGED = 1)
    (ha : s.authCheck 0 (bits (s.get GH_ARG.ARG 0) 8 2) 0 ([0x4C, 0x48, 0x44, 0x42] ++ s.dieBytes ++ bytesLE 32 (s.get NONCE) ++
      [s.get CH_LEVEL]) = some none) : Answers (.debugUnlockResponse m) s fun t =>
        t.get GH_STATUS.STATE = 1 ∧ t.get CMD_OP = 0x0A ∧ t.get GH_DBGSTAT.CHALLENGED = 0 := by
  have kept {g : Field} (hg : g.clearOf 1 commandFields = true) : (s.issued m 0x0A).get g = s.get g := State.issued_get hg Nat.one_pos
  have closed {v : State} : SignersSame v (v.put GH_DBGSTAT.CHALLENGED 0) := by
    have within : v.Within (.elements [(GH_DBGSTAT.CHALLENGED, 1)]) (v.put GH_DBGSTAT.CHALLENGED 0) := .putIn .refl (by simp) Nat.one_pos
    exact ⟨fun _ hi => within.get_elements (n := 768) (by decide) hi,
      fun f hf _ hn => within.get_elements (n := 4) (by revert f; decide) hn,
      within.get_elements (n := 1) (by decide) Nat.one_pos, within.get_elements (n := 1) (by decide) Nat.one_pos⟩
  have same : SignersSame s ((s.issued m 0x0A).put GH_DBGSTAT.CHALLENGED 0) := State.issued_signers.trans closed
  obtain ⟨state, running, -⟩ := s.issued_status (m := m) (op := 0x0A)
  refine answers_issue_delivers (exec_debugUnlockResponse m s) hi fun t ht => ?_
  rw [runDebugUnlock_answered (issued_few hf) (issued_phase hp) ((kept (by decide)).trans hc)
    (by rw [same.auth (by decide) (bits_lt _ 8 2), same.dieBytes, issued_bits (by decide), State.get_put_ne _ _ (by decide),
      State.get_put_ne _ _ (by decide), kept (by decide), kept (by decide), ha])] at ht
  rw [ht.get (by decide), ht.get (by decide), ht.get (by decide), State.get_put_ne _ _ (by decide), State.get_put_ne _ _ (by decide),
    State.get_put_self, state, running]
  exact ⟨rfl, rfl, rfl⟩

end Unlock

/-- What the end of debug access writes after the level. -/
def lockFields : List (Field × Nat) :=
  claimFields ++ [(RV_PC, 1), (RV_PRIV, 1), (RV_RESUMEREQ, 1), (LG_STAT.STATE, 1), (PW_MODE.HALTED, 1), (DM_RESUMEACK, 1),
    (DBG_CONSUME, 1), (XT_OUT, 1), (XT_IN, 1), (TAP_IR, 1), (GH_IRQ.DEBUG, 1)]

theorem State.debugLock_level : s.debugLock.get GH_DBGSTAT.LEVEL = 0 := by
  unfold State.debugLock
  split
  · assumption
  · extract_lets off resumed dropped cleared tapped
    have put {v w : State} {f : Field} {x : Nat} (hm : (f, 1) ∈ lockFields) (hv : v.Within (.elements lockFields) w) :
        v.Within (.elements lockFields) (w.put f x) := hv.putIn hm Nat.one_pos
    have resume : off.Within (.elements lockFields) resumed := by
      refine .ite (.xtDrive (.raise (put (by simp [lockFields]) ?_) trivial)) .refl
      exact put (by simp [lockFields]) (put (by simp [lockFields]) (put (by simp [lockFields]) (put (by simp [lockFields])
        (put (by simp [lockFields]) .refl))))
    have drop : off.Within (.elements lockFields) dropped :=
      .ite (resume.dropAll (List.subset_append_left _ _) lvDEBUG (by decide)) resume
    have clear : off.Within (.elements lockFields) cleared :=
      put (by simp [lockFields]) (put (by simp [lockFields]) (put (by simp [lockFields]) drop))
    have tap : off.Within (.elements lockFields) tapped := .ite (put (by simp [lockFields]) clear) clear
    have locked : off.Within (.elements lockFields) ((tapped.raise Rc.GH_DEBUG_LOCKED 0).put GH_IRQ.DEBUG 1) :=
      put (by simp [lockFields]) (tap.raise trivial)
    rw [locked.get_elements (n := 1) (by decide) Nat.one_pos]
    exact State.get_put_self ..

theorem debugLock_ends (hi : Issues m 0x0B s) : Answers (.debugLock m) s fun t =>
    t.get GH_DBGSTAT.LEVEL = 0 ∧ t.get GH_STATUS.STATE = 2 := by
  refine answers_issue_delivers (exec_debugLock m s) hi fun t ht => ?_
  replace ht : ((s.issued m 0x0B).debugLock.put DBG_BYPK 0).cmdDone.Delivers t := ht
  rw [ht.get (by decide), ht.get (by decide), State.cmdDone_shows.1, State.cmdDone_get (n := 1) (by decide) Nat.one_pos,
    State.get_put_ne _ _ (by decide), State.debugLock_level]
  exact ⟨rfl, rfl⟩

theorem challenge_lapses (ha : Awake s) : Answers .challengeLapse s fun t =>
    t.get GH_DBGSTAT.CHALLENGED = 0 ∧ t.get NONCE = 0 ∧ s.Frame t [GH_DBGSTAT.CHALLENGED.key 0, NONCE.key 0] := by
  refine answers_live_delivers (exec_challengeLapse s) ha fun t ht => ?_
  have frame := (State.Within.put (.put .refl (by simp)) (by simp) :
    s.Within (.silent [GH_DBGSTAT.CHALLENGED.key 0, NONCE.key 0]) ((s.put GH_DBGSTAT.CHALLENGED 0).put NONCE 0)).frame
  rw [ht.get (by decide), ht.get (by decide), State.get_put_ne _ _ (by decide), State.get_put_self, State.get_put_self]
  exact ⟨rfl, Nat.zero_mod _, ht.frame frame⟩

end Debug

/-! The protected-register unlock (R649 to R651). -/

section Protected

variable {s : State} {m : Master}

/-- No other master holds the unlock. -/
def State.unlockMine (s : State) (m : Master) : Prop := s.get GH_STATUS.UNLOCK_OPEN = 0 ∨ s.get GH_STATUS.UNLOCK_ID = m.code

theorem State.unlockMine_others (h : s.unlockMine m) :
    (s.flag GH_STATUS.UNLOCK_OPEN && decide (s.get GH_STATUS.UNLOCK_ID ≠ m.code)) = false := by
  rcases h with h | h <;> simp [State.flag, h]

theorem unl_left_apart (m : Master) : ∀ f ∈ [UNL_ABORT, GH_STATUS.UNLOCK_OPEN, GH_STATUS.UNLOCK_ID, GH_IRQ.UNLOCK, EV_DROP.COUNT,
    DROP_EPISODE, MSI_PEND], ∀ i < 8, UNL_LEFT.key m.code ≠ f.key i := by
  cases m <;> decide

section Writes

variable (hw : Writes m 0x1C s)
include hw

theorem unlock_first (hm : s.mayUnlock m = true) (mine : s.unlockMine m) : Answers (.unlockKeyWrite m 0xA5C3) s fun t =>
    t.get UNL_LEFT m.code = 33 := by
  refine answers_write_delivers (exec_unlockKeyWrite m 0xA5C3 s) hw fun t ht => ?_
  have takes : wrUnlock m 0xA5C3 s = (s.put UNL_LEFT 33 m.code).put UNL_ABORT 0 m.code := by
    unfold wrUnlock
    dsimp only
    rw [if_neg (by simp), if_pos rfl, State.unlockMine_others mine, if_pos (by simp [hm])]
  replace ht : (wrUnlock m 0xA5C3 s).Delivers t := ht
  rw [takes] at ht
  rw [ht.get (unl_left_apart m _ (by simp) 0 (by decide)),
    State.get_put_ne _ _ (unl_left_apart m _ (by simp) m.code (by cases m <;> decide)), State.get_put_self]
  rfl

theorem unlock_wrong {w : Word} (h0 : w ≠ 0) (h1 : w ≠ 0xA5C3) (h2 : w ≠ 0x3C5A) : Answers (.unlockKeyWrite m w) s fun t =>
    t.get GH_STATUS.UNLOCK_OPEN = s.get GH_STATUS.UNLOCK_OPEN ∧ t.get UNL_LEFT m.code = 0 := by
  refine answers_write_delivers (exec_unlockKeyWrite m w s) hw fun t ht => ?_
  have other {k : Nat} (hk : k < 2 ^ 32) (h : w ≠ BitVec.ofNat 32 k) : w.toNat ≠ k := fun same =>
    h (BitVec.eq_of_toNat_eq (by rw [same, BitVec.toNat_ofNat, Nat.mod_eq_of_lt hk]))
  have refuses : wrUnlock m w.toNat s = s.raise Rc.GH_UNLOCK_SEQ m.code 0 := by
    unfold wrUnlock
    dsimp only
    rw [if_neg (by simp [other (by decide) h0]), if_neg (other (by decide) h1), if_neg (other (by decide) h2)]
  rw [refuses] at ht
  obtain ⟨-, -, -, -, -, none⟩ := hw
  rw [ht.get (by decide), ht.get (unl_left_apart m _ (by simp) 0 (by decide)), State.raise_get _ _ _ _ (by decide) (by decide),
    State.raise_get _ _ _ _ (unl_left_apart m _ (by simp) 0 (by decide)) (unl_left_apart m _ (by simp) 0 (by decide)), none]
  exact ⟨rfl, rfl⟩

theorem unlock_closes (ho : s.get GH_STATUS.UNLOCK_OPEN = 1) (hid : s.get GH_STATUS.UNLOCK_ID = m.code) :
    Answers (.unlockKeyWrite m 0) s fun t => t.get GH_STATUS.UNLOCK_OPEN = 0 := by
  refine answers_write_delivers (exec_unlockKeyWrite m 0 s) hw fun t ht => ?_
  have closes : wrUnlock m 0 s = s.unlockClose := by
    unfold wrUnlock
    rw [if_pos (by simp [State.flag, ho, hid])]
  replace ht : (wrUnlock m 0 s).Delivers t := ht
  rw [closes] at ht
  rw [ht.get (by decide), State.unlockClose, State.get_put_ne _ _ (by decide), State.get_put_self]
  rfl

end Writes

/-- A transaction that counts towards the unlock sequence moves nothing that a write asks for. -/
theorem State.counted_same {f : Field} {n : Nat} (hf : ∀ i < 8, f.key 0 ≠ UNL_LEFT.key i) :
    (s.put UNL_LEFT n m.code).get f = s.get f := State.get_put_ne _ _ (hf _ (by cases m <;> decide))

theorem unlock_second (ha : Awake s) (hans : s.answers m 0x1C = true) (hd : s.denied m 1 = false) (hs : s.secondary = false)
    (hj : s.journaling = false) (hl : 2 ≤ s.get UNL_LEFT m.code) (hu : s.get UNL_LEFT m.code ≤ 33) (hab : s.get UNL_ABORT m.code = 0)
    (hm : s.mayUnlock m = true) (mine : s.unlockMine m) : Answers (.unlockKeyWrite m 0x3C5A) s fun t =>
      t.get GH_STATUS.UNLOCK_OPEN = 1 ∧ t.get GH_STATUS.UNLOCK_ID = m.code ∧ t.get GH_IRQ.UNLOCK = 1 ∧ t.get UNL_LEFT m.code = 0 := by
  let u := s.put UNL_LEFT (s.get UNL_LEFT m.code - 1) m.code
  have same {f : Field} (hf : ∀ i < 8, f.key 0 ≠ UNL_LEFT.key i) : u.get f = s.get f := State.counted_same hf
  have counted : s.transact m = u := by
    unfold State.transact
    dsimp only
    rw [if_neg (by omega)]
  have answers : u.answers m 0x1C = true := by
    rw [← hans]
    simp only [State.answers, State.mode, same (f := PW_MODE.MODE) (by decide)]
    rfl
  have allowed : u.denied m 1 = false := by
    rw [← hd]
    cases m <;> simp only [State.denied] <;> rw [same (by decide)]
  have plain : u.secondary = false ∧ u.journaling = false := by
    rw [State.secondary] at hs
    rw [State.journaling] at hj
    simp only [State.secondary, State.journaling, State.flag, same (f := MI_CFG.EN) (by decide), same (f := MI_STAT.ROLE) (by decide),
      same (f := MI_STAT.SYNC) (by decide)]
    exact ⟨hs, hj⟩
  have written (k : State → State) : s.onWrite m 0x1C 0x3C5A k = (k u).resend u 0x1C 0x3C5A := by
    simp [State.onWrite, counted, answers, allowed, plain.1, State.journalReg, plain.2]
  have left : u.get UNL_LEFT m.code ≠ 0 := by
    rw [State.get_put_self, show UNL_LEFT.width = 6 from rfl, Nat.mod_eq_of_lt (by omega)]
    omega
  have may : u.mayUnlock m = true := by
    rw [← hm]
    cases m <;> simp only [State.mayUnlock, State.flag, same (f := GH_POLICY.UNLOCK_HOST) (by decide),
      same (f := GH_DBGSTAT.LEVEL) (by decide)]
  have abort : u.get UNL_ABORT m.code = 0 := by
    refine (State.get_put_ne _ _ ?_).trans hab
    exact (unl_left_apart m _ (by simp) m.code (by cases m <;> decide)).symm
  have mine' : u.unlockMine m := by
    rw [State.unlockMine, same (by decide), same (by decide)]
    exact mine
  let opened := ((u.put UNL_LEFT 0 m.code).put GH_STATUS.UNLOCK_OPEN 1).put GH_STATUS.UNLOCK_ID m.code
  have opens : wrUnlock m 0x3C5A u = (opened.raise Rc.GH_UNLOCK_OPEN m.code).put GH_IRQ.UNLOCK 1 := by
    unfold wrUnlock
    dsimp only
    rw [if_neg (by simp), if_neg (by decide), if_pos rfl, if_neg (by simp [State.flag, abort]), State.unlockMine_others mine',
      if_pos (by simp [may, left])]
  refine answers_live_delivers (exec_unlockKeyWrite m 0x3C5A s) ha fun t ht => ?_
  replace ht : (s.onWrite m 0x1C 0x3C5A (wrUnlock m 0x3C5A)).Delivers t := ht
  rw [written, opens] at ht
  replace ht := (State.resend_delivers _ _ _ _).trans ht
  have code {f : Field} (hf : f ∈ [UNL_ABORT, GH_STATUS.UNLOCK_OPEN, GH_STATUS.UNLOCK_ID, GH_IRQ.UNLOCK, EV_DROP.COUNT, DROP_EPISODE,
      MSI_PEND]) : UNL_LEFT.key m.code ≠ f.key 0 := unl_left_apart m f hf 0 (by decide)
  refine ⟨?_, ?_, ?_, ?_⟩
  · rw [ht.get (by decide), State.get_put_ne _ _ (by decide), State.raise_get _ _ _ _ (by decide) (by decide),
      State.get_put_ne _ _ (by decide), State.get_put_self]
    rfl
  · rw [ht.get (by decide), State.get_put_ne _ _ (by decide), State.raise_get _ _ _ _ (by decide) (by decide), State.get_put_self]
    exact Nat.mod_eq_of_lt (by cases m <;> decide)
  · rw [ht.get (by decide), State.get_put_self]
    rfl
  · rw [ht.get (code (by simp)), State.get_put_ne _ _ (code (by simp)), State.raise_get _ _ _ _ (code (by simp)) (code (by simp)),
      State.get_put_ne _ _ (code (by simp)), State.get_put_ne _ _ (code (by simp)), State.get_put_self]
    exact Nat.zero_mod _

theorem unlock_expires (ha : Awake s) : Answers .unlockExpiry s fun t => t.get GH_STATUS.UNLOCK_OPEN = 0 ∧ t.get GH_STATUS.UNLOCK_ID = 7 ∧
    s.Frame t [GH_STATUS.UNLOCK_OPEN.key 0, GH_STATUS.UNLOCK_ID.key 0] := by
  refine answers_live_delivers (exec_unlockExpiry s) ha fun t ht => ?_
  replace ht : ((s.put GH_STATUS.UNLOCK_OPEN 0).put GH_STATUS.UNLOCK_ID 7).Delivers t := ht
  have frame := (State.Within.put (.put .refl (by simp)) (by simp) :
    s.Within (.silent [GH_STATUS.UNLOCK_OPEN.key 0, GH_STATUS.UNLOCK_ID.key 0]) ((s.put GH_STATUS.UNLOCK_OPEN 0).put GH_STATUS.UNLOCK_ID 7)).frame
  rw [ht.get (by decide), ht.get (by decide), State.get_put_ne _ _ (by decide), State.get_put_self, State.get_put_self]
  exact ⟨rfl, rfl, ht.frame frame⟩

end Protected

/-! Tamper events (R661, R757). -/

section Tamper

variable {s : State} {source : Nat} {evt : Field}

theorem State.tamperEvent_off : s.tamperEvent source 0 evt = s := if_pos rfl

theorem State.tamperEvent_logs (h : s.drowsy = false) (he : PW_DMSTAT.PHASE.key 0 ≠ evt.key 0) : s.tamperEvent source 1 evt =
    ((s.put evt 1).raise Rc.GH_TAMPER 0 source).put GH_IRQ.TAMPER 1 := by
  have still : (((s.put evt 1).raise Rc.GH_TAMPER 0 source).put GH_IRQ.TAMPER 1).get PW_DMSTAT.PHASE = s.get PW_DMSTAT.PHASE := by
    rw [State.get_put_ne _ _ (by decide), State.raise_get _ _ _ _ (by decide) (by decide), State.get_put_ne _ _ he]
  unfold State.tamperEvent
  dsimp only
  rw [if_neg (by decide), if_neg (by decide), if_neg (by rw [State.drowsy, still]; rw [State.drowsy] at h; simp [h])]

theorem State.Alters.bootPort : s.Alters unspared s.bootPort := by
  have put {u v : State} {f : Field} {x i : Nat} (hf : f.unspared = true) (hv : u.Alters unspared v) : u.Alters unspared (v.put f x i) :=
    hv.putUn hf
  have sampled (u : State) : u.Alters unspared (u.quadSample 2) :=
    put (by decide) (put (by decide) (put (by decide) (put (by decide) (put (by decide) .refl))))
  have started (u : State) : u.Alters unspared (u.quadStart 2 1) :=
    put (by decide) (put (by decide) (.ite (put (by decide) (put (by decide) (put (by decide) (put (by decide) .refl))))
      (put (by decide) (put (by decide) (put (by decide) .refl)))))
  have trained (u : State) : u.Alters unspared (u.portStart 0) :=
    .foldl (put (by decide) (put (by decide) .refl)) fun v l _ =>
      put (by decide) (put (by decide) (put (by decide) (put (by decide) (put (by decide) (put (by decide) (put (by decide)
        (put (by decide) (put (by decide) .refl))))))))
  unfold State.bootPort
  extract_lets stopped set running chosen
  have stop : s.Alters unspared stopped := .ite (.portStop .refl 0) .refl
  have ready : s.Alters unspared set := put (by decide) (put (by decide) (put (by decide) stop))
  have quad : s.Alters unspared running := .trans (put (by decide) (ready.trans (sampled _))) (started _)
  have port : s.Alters unspared chosen := put (by decide) (put (by decide) (put (by decide) (put (by decide) quad)))
  exact .trans (put (by decide) (put (by decide) port)) (trained _)

theorem State.enterRescue_mode (by_ : Nat) : (s.enterRescue by_).mode = mRESCUE := by
  unfold State.enterRescue
  extract_lets off idle woken
  rw [State.mode, State.Alters.bootPort.get_spared (f := PW_MODE.MODE) (n := 1) (by decide) Nat.one_pos]
  exact State.setMode_mode _ _ _

theorem State.zeroise_mode (cause by_ : Nat) : (s.zeroise cause by_).mode = mRESCUE := State.enterRescue_mode _

section Events

variable (ha : Awake s)
include ha

theorem mesh_reports (he : s.get GH_TAMPCFG.MESH_EN = 1) :
    (s.get GH_TAMPCFG.MESH = 0 → Answers .meshMismatch s fun t => s.Frame t []) ∧
      (s.get GH_TAMPCFG.MESH = 1 → s.drowsy = false → Answers .meshMismatch s fun t =>
        t.get GH_TAMPSTAT.MESH_EVT = 1 ∧ t.get GH_IRQ.TAMPER = 1) ∧
      (s.get GH_TAMPCFG.MESH = 2 → Answers .meshMismatch s fun t => t.mode = mRESCUE) := by
  refine ⟨fun policy => ?_, fun policy awake => ?_, fun policy => ?_⟩ <;>
    refine answers_live_delivers (exec_meshMismatch s) ha fun t ht => ?_ <;>
    rw [if_pos (by simp [State.flag, he]), policy] at ht
  · rw [State.tamperEvent_off] at ht
    exact ht.frame (s.frame_refl _)
  · rw [State.tamperEvent_logs awake (by decide)] at ht
    rw [ht.get (by decide), ht.get (by decide), State.get_put_ne _ _ (by decide), State.raise_get _ _ _ _ (by decide) (by decide),
      State.get_put_self, State.get_put_self]
    exact ⟨rfl, rfl⟩
  · replace ht : (((s.put GH_TAMPSTAT.MESH_EVT 1).raise Rc.GH_TAMPER 0 3).zeroise 3 7).Delivers t := ht
    rw [State.mode, ht.get (by decide)]
    exact State.zeroise_mode 3 7

theorem sensor_off {c : Fin 4} (h : bit (s.get BV_TAMPEN.EN) c = false) : Answers (.sensorTamper c) s fun t => s.Frame t [] := by
  refine answers_live_delivers (exec_sensorTamper c s) ha fun t ht => ht.frame ?_
  rw [if_pos (by simp [h])]
  exact s.frame_refl _

theorem sensor_reports {c : Fin 4} (h : bit (s.get BV_TAMPEN.EN) c = true) (awake : s.drowsy = false)
    (hp : s.get GH_TAMPCFG.SENSOR < 2) : Answers (.sensorTamper c) s fun t =>
      bit (t.get BV_TAMPSTAT.EVT) c = true ∧ t.get GH_TAMPSTAT.SENSOR_EVT = 1 ∧ t.get BV_IRQ.TAMPER = 1 ∧
        t.get BV_ALERT.TAMPER = 1 ∧ (s.get GH_TAMPCFG.SENSOR = 1 → t.get GH_IRQ.TAMPER = 1) := by
  refine answers_live_delivers (exec_sensorTamper c s) ha fun t ht => ?_
  rw [if_neg (by simp [h])] at ht
  extract_lets seen told at ht
  have event : told.get BV_TAMPSTAT.EVT = setBit (s.get BV_TAMPSTAT.EVT) c % 2 ^ 4 ∧ told.get GH_TAMPSTAT.SENSOR_EVT = 1 ∧
      told.get BV_IRQ.TAMPER = 1 ∧ told.get BV_ALERT.TAMPER = 1 := by
    unfold told seen
    simp +decide only [State.raise_get, State.get_put_ne, State.get_put_self, State.orBit, ne_eq]
    exact ⟨rfl, trivial⟩
  have policy : told.get GH_TAMPCFG.SENSOR = s.get GH_TAMPCFG.SENSOR ∧ told.get PW_DMSTAT.PHASE = s.get PW_DMSTAT.PHASE := by
    unfold told seen
    simp +decide only [State.raise_get, State.get_put_ne, State.orBit, ne_eq]
  have still : told.drowsy = false := by
    rwa [State.drowsy, policy.2]
  obtain ⟨evt, sensor, irq, alert⟩ := event
  have shown : bit (setBit (s.get BV_TAMPSTAT.EVT) c % 2 ^ 4) c = true := by rw [bit_mod c.isLt, bit_setBit]
  rw [policy.1] at ht
  clear_value told
  obtain off | logs : s.get GH_TAMPCFG.SENSOR = 0 ∨ s.get GH_TAMPCFG.SENSOR = 1 := by omega
  · rw [off, State.tamperEvent_off] at ht
    rw [ht.get (by decide), ht.get (by decide), ht.get (by decide), ht.get (by decide), evt, sensor, irq, alert, off]
    exact ⟨shown, rfl, rfl, rfl, nofun⟩
  · rw [logs, State.tamperEvent_logs still (by decide)] at ht
    rw [ht.get (by decide), ht.get (by decide), ht.get (by decide), ht.get (by decide), ht.get (by decide)]
    simp +decide only [State.raise_get, State.get_put_ne, State.get_put_self, ne_eq, evt, irq, alert, shown]
    exact ⟨trivial, trivial, trivial, trivial, fun _ => trivial⟩

end Events

end Tamper

/-- Settles O43: each command by what its body does to the accepted command, each end by what the kept argument names,
and the zeroise of a tamper event by the mode that entry to RESCUE sets last. -/
theorem signersDebugUnlockAndTamperAct : Obligations.SignersDebugUnlockAndTamperAct := by
  unfold Obligations.SignersDebugUnlockAndTamperAct
  intro s m a n slot
  refine ⟨fun hi => ⟨pkProgram_begins hi, pkProgram_fails hi⟩, fun hi hv hu ne ha => pkRevoke_begins hi rfl rfl hv hu ne ha,
    fun ha hr => ⟨fun ho => pkProgram_ends ha hr ho rfl, fun ho hb => pkRevoke_ends ha hr ho hb rfl, debugUnlock_ends ha hr⟩,
    fun hi => ⟨seal_sealed hi, seal_seals hi, seal_unsigned hi⟩,
    fun hi hf => ⟨debugUnlock_grants hi hf, debugUnlock_challenges hi hf, debugResponse_unasked hi hf, debugResponse_verifies hi hf⟩,
    debugLock_ends, challenge_lapses, ⟨fun hw => ⟨unlock_first hw, fun w => unlock_wrong hw, unlock_closes hw⟩, unlock_second⟩,
    fun ha => ⟨unlock_expires ha, fun he => ?_, fun c => ⟨sensor_off ha, sensor_reports ha⟩⟩⟩
  obtain ⟨off, logs, zeroises⟩ := mesh_reports ha he
  exact ⟨off, logs, fun policy _ => zeroises policy⟩

end Sys2Proof.Machine
end

section
/-! O42 fails: a ZEROIZE whose teardown writes behind the cleared key slots (R663). The statement holds of every `State`,
whatever its cells contain, and a queue number that no PX_CHCFG.QUEUE can hold leads a read pointer into a key slot. -/

namespace Sys2Proof.Machine

/-- The host may issue ZEROIZE in RUN, while D2H channel 32 has an open packet of one word from a queue whose lane 2
has its read pointer, LANE_RD, at the key of KEY_VAL 2. -/
def strayQueue : State :=
  { State.reset with
    cells := [(PW_MODE.MODE.key 0, mRUN), (GH_CMDOWN.OWNER.key 0, Master.host.code), (GH_ARG.ARG.key 0, 0x5A45524F),
      (PX_CHCFG.EN.key 32, 1), (CH_OPEN.key 32, 1), (CH_PKT.key 32, 1), (PX_CHCFG.QUEUE.key 32, 0x1DE0000),
      (PX_CHCFG.LANE.key 32, 2), (QM_QCFG.EN.key 0x1DE0000, 1), (QM_QCFG.NL.key 0x1DE0000, 7),
      (LANE_W.key 0xEF00002, 1)] }

theorem strayQueue_meets_key : LANE_RD.key (8 * strayQueue.get PX_CHCFG.QUEUE 32 + strayQueue.get PX_CHCFG.LANE 32) =
    KEY_VAL.key 2 := by decide

theorem strayQueue_issues : Issues .host 0x04 strayQueue ∧ strayQueue.get UP_SLOT < 8 := by
  simp only [Issues, Writes, Awake]; decide

set_option maxRecDepth 100000 in
/-- The key is cleared first; the channel is stopped after that, and its drain advances the read pointer. -/
theorem strayQueue_keeps_key : (runZeroize (strayQueue.issued .host 0x04)).get KEY_VAL 2 = 1 := by decide +kernel

theorem strayQueue_zeroize : Answers (.zeroize .host) strayQueue fun t => t.get KEY_VAL 2 = 1 := by
  refine answers_issue_delivers (exec_zeroize .host strayQueue) strayQueue_issues.1 fun t ht => ?_
  rw [ht.get (g := KEY_VAL) (j := 2) (by decide)]
  exact strayQueue_keeps_key

/-- Refutes O42: zeroise clears KS2 to KS7 before it stops the channels, and the drain of a channel whose QUEUE cell
lies beyond its width steps a read pointer that is kept where KEY_VAL 2 is. -/
theorem not_gatehouseInterfaceAndKeyCommandsAct : ¬ Obligations.GatehouseInterfaceAndKeyCommandsAct := by
  unfold Obligations.GatehouseInterfaceAndKeyCommandsAct
  intro h
  obtain ⟨-, -, -, -, -, -, zeroize, -⟩ := h strayQueue .host
  obtain ⟨issues, slot⟩ := strayQueue_issues
  obtain ⟨t, ran, -, -, keys⟩ := zeroize issues slot
  obtain ⟨u, ran', kept⟩ := strayQueue_zeroize
  obtain rfl : t = u := by simpa using ran.symm.trans ran'
  have cleared : t.get KEY_VAL 2 = 0 := (keys 2 (by decide)).1
  exact absurd (kept.symm.trans cleared) (by decide)

end Sys2Proof.Machine
end

section
/-! O46 fails: an UPDATE_BEGIN from the staging buffer that finds a half handed over although halves 0 and 1 are free
(R711). The statement holds of every `State`, whatever its cells contain: UP_HALF, one bit wide, may name a third half. -/

namespace Sys2Proof.Machine

/-- In HOLD the host may issue UPDATE_BEGIN from the staging buffer; the half named next is 2, and one byte of it waits. -/
def thirdHalf : State :=
  { State.reset with
    cells := [(PW_MODE.MODE.key 0, mHOLD), (GH_CMDOWN.OWNER.key 0, Master.host.code), (GH_ARG.ARG.key 0, 1),
      (UP_HALF.key 0, 2), (UP_STG.key 2, 1)] }

theorem thirdHalf_issues : Issues .host 0x06 thirdHalf := by
  simp only [Issues, Writes, Awake]; decide

theorem thirdHalf_waits : thirdHalf.upActive = false ∧ thirdHalf.get UP_SLOT = 0 ∧
    ¬bits (thirdHalf.get GH_ARG.ARG 0) 0 2 = 0 ∧ thirdHalf.get UP_STG 0 = 0 ∧ thirdHalf.get UP_STG 1 = 0 := by decide

/-- The byte of half 2 is the package's first. -/
theorem thirdHalf_taken : (runUpdateBegin [] (thirdHalf.issued .host 0x06)).list UP_PKG = [0] := by decide +kernel

theorem thirdHalf_updateBegin : Answers (.updateBegin .host []) thirdHalf fun t => t.list UP_PKG = [0] :=
  answers_issue_delivers (exec_updateBegin .host [] thirdHalf) thirdHalf_issues fun t ht => by
    rw [ht.list UP_PKG]
    exact thirdHalf_taken

/-- Refutes O46: with halves 0 and 1 not handed over, an UP_HALF of 2 has UPDATE_BEGIN take the bytes of half 2, and
UP_PKG is not empty. -/
theorem not_updateSessionsBeginPassAndStage : ¬ Obligations.UpdateSessionsBeginPassAndStage := by
  unfold Obligations.UpdateSessionsBeginPassAndStage
  intro h
  obtain ⟨begins, -, -, -⟩ := h thirdHalf .host
  obtain ⟨inactive, slot, staging, half0, half1⟩ := thirdHalf_waits
  obtain ⟨-, -, waits⟩ := (begins [] thirdHalf_issues).2 inactive slot
  obtain ⟨t, ran, -, -, empty, -, -⟩ := waits staging half0 half1
  obtain ⟨u, ran', taken⟩ := thirdHalf_updateBegin
  obtain rfl : t = u := by simpa using ran.symm.trans ran'
  exact absurd (taken.symm.trans empty) (by decide)

end Sys2Proof.Machine
end

section
/-! What an update session writes: its broadcasts, its state and its reports, and what it leaves when it ends
(R699, R709, R714, R717). -/

namespace Sys2Proof.Machine

/-! Broadcasts. -/

section Broadcast

variable {s : State} {cls id : Nat} {ws : List Nat}

@[simp] theorem State.broadcast_get (f : Field) (i : Nat) : (s.broadcast cls id ws).get f i = s.get f i := by
  unfold State.broadcast
  refine foldl_keeps (fun u : State => u.get f i = s.get f i) _ (fun u o h => ?_) _ s rfl
  split
  · exact h
  · exact h

theorem State.broadcast_list {q : Fifo} (hq : q.id ≠ HX_TX.id) {i : Nat} (hi : i < 2 ^ 20) (hw : ws.length < 2 ^ 16)
    (hk : cls < 16) : (s.broadcast cls id ws).list q i = s.list q i := by
  have apart {o : Nat} (ho : o ∈ List.range 8) : q.key i ≠ HX_TX.key (16 * o + cls) := by
    have := List.mem_range.mp ho
    simp only [Fifo.key]
    omega
  have kept : s.Within (.logged [] ((List.range 8).flatMap fun o => listsAt [HX_TX] (16 * o + cls))) (s.broadcast cls id ws) :=
    State.Within.broadcast .refl hw hk fun _ hq => hq
  refine kept.list fun hm => ?_
  obtain ⟨o, ho, hm⟩ := List.mem_flatMap.mp hm
  simp only [listsAt, List.map_cons, List.map_nil, List.mem_singleton] at hm
  exact apart ho hm

/-- A child whose link lives is sent the packet. -/
theorem State.broadcast_last (hw : ws.length < 2 ^ 16) (hk : cls < 16) {o : Fin 8} (ha : s.alive o = true)
    (hc : s.get HX_PSTAT.CHILD o = 1) : ((s.broadcast cls id ws).list HX_TX (16 * o + cls)).getLast? =
      some (s.ownPacket 255 cls id 0 ws) := by
  have tx {u : State} {n : Nat} : u.hxTx n (s.ownPacket 255 cls id 0 ws) = u.enq HX_TX (s.ownPacket 255 cls id 0 ws) (16 * n + cls) := by
    rw [State.hxTx, State.pkClass_ownPacket hw hk]
  unfold State.broadcast
  refine foldl_visit (a := o.val) List.nodup_range (List.mem_range.mpr o.isLt)
    (before := fun u : State => u.get HX_PSTAT.LIVE o = s.get HX_PSTAT.LIVE o ∧ u.get HX_PSTAT.CHILD o = s.get HX_PSTAT.CHILD o)
    (after := fun u : State => (u.list HX_TX (16 * o + cls)).getLast? = some (s.ownPacket 255 cls id 0 ws)) ?_ ?_ ?_ ⟨rfl, rfl⟩
  · intro u x _ _ h
    split
    · exact h
    · exact h
  · rintro u ⟨live, child⟩
    have alive : u.alive o = true := by rwa [State.alive, State.flag, live]
    rw [if_pos (by simp [alive, State.flag, child, hc]), tx, State.list_enq_self, List.getLast?_concat]
  · intro u x hx hne h
    split
    · rw [tx, State.enq, State.list_setList_ne _ _ ?_]
      · exact h
      · simp only [Fifo.key]
        omega
    · exact h

end Broadcast

theorem State.ownPacket_congr {s t : State} (h : t.hxAddr = s.hxAddr) (dest cls id seq : Nat) (ws : List Nat) :
    t.ownPacket dest cls id seq ws = s.ownPacket dest cls id seq ws := by
  rw [State.ownPacket, h, State.ownPacket]

/-! Reports (R717). -/

/-- What a report writes: the counts of the coordinator. -/
def tallyFields : List Field := [GH_UPTGT.TOTAL, GH_UPTGT.STAGED, GH_UPTGT.STARTED, GH_UPTGT.FAILED, UP_REP]

/-- What a change of the session's state writes besides. -/
def stateFields : List (Field × Nat) := [(GH_UPSTAT.STATE, 1), (GH_IRQ.UPD, 1)]

/-- No element of the counts, nor a cell of a dropped record or message, is one of the first n elements of a field. -/
def Field.untallied (g : Field) (n : Nat) : Bool := (tallyFields.all fun f => f.clear g n) && g.clearOf n []

section Reports

variable {s : State} {die addr st : Nat} {g : Field} {n j : Nat}

theorem State.upNote_away (h : s.get GH_UPSTAT.COORD ≠ 1) (k : Option Nat) : s.upNote die addr k = s := by
  cases k with
  | none => rfl
  | some k => exact if_neg (by simpa [State.flag] using h)

theorem State.upNote_within (s : State) (die addr : Nat) (k : Option Nat) :
    s.Within (.fields tallyFields) (s.upNote die addr k) := by
  have tallied {u : State} (hu : s.Within (.fields tallyFields) u) : s.Within (.fields tallyFields) u.upTally :=
    .putAll (.putAll (.putAll (hu.putAll (by simp [tallyFields])) (by simp [tallyFields])) (by simp [tallyFields]))
      (by simp [tallyFields])
  cases k with
  | none => exact .refl
  | some k =>
    refine .ite (tallied (.foldl .refl fun u x _ => .ite ?_ .refl)) .refl
    exact State.Within.orBit .refl (mem_allCells (by simp [tallyFields]))

theorem State.upNote_list (k : Option Nat) (q : Fifo) (i : Nat) : (s.upNote die addr k).list q i = s.list q i := by
  cases k with
  | none => rfl
  | some k =>
    unfold State.upNote
    dsimp only
    split
    · have tallied (u : State) : u.upTally.list q i = u.list q i := by
        simp only [State.upTally, State.put_list]
      rw [tallied]
      refine foldl_keeps (fun u : State => u.list q i = s.list q i) _ (fun u x h => ?_) _ s rfl
      split
      · rw [State.orBit_list, h]
      · exact h
    · rfl

theorem State.Within.get_untallied {t : State} (h : s.Within (.fields tallyFields) t) (hg : g.untallied n = true) (hj : j < n) :
    t.get g j = s.get g j := by
  simp only [Field.untallied, Bool.and_eq_true] at hg
  obtain ⟨counts, noise⟩ := hg
  have quiet {f : Field} (hf : (f, 1) ∈ [(MSI_PEND, 1), (EV_DROP.COUNT, 1), (DROP_EPISODE, 1)]) : g.key j ≠ f.key 0 :=
    Field.key_clearOf noise hj (List.mem_append_right _ hf) Nat.one_pos
  refine h.get ?_ (quiet (by simp)) fun _ => ⟨quiet (by simp), quiet (by simp)⟩
  rintro ⟨f, hf, i, same⟩
  exact Field.key_clear hj (List.all_eq_true.mp counts f hf) same.symm

theorem State.upNote_get (k : Option Nat) (hg : g.untallied n = true) (hj : j < n) :
    (s.upNote die addr k).get g j = s.get g j := (s.upNote_within die addr k).get_untallied hg hj

theorem State.upReport_get (hg : g.untallied n = true) (hj : j < n) : s.upReport.get g j = s.get g j := by
  rw [State.upReport, State.upNote_get _ hg hj, State.broadcast_get]

theorem State.upReport_list {q : Fifo} (hq : q.id ≠ HX_TX.id) {i : Nat} (hi : i < 2 ^ 20) : s.upReport.list q i = s.list q i := by
  rw [State.upReport, State.upNote_list, State.broadcast_list hq hi (by simp) (by decide)]

/-- A report that nobody counts here is a broadcast. -/
theorem State.upReport_silent (h : repBit (s.get GH_UPSTAT.STATE) = none ∨ s.get GH_UPSTAT.COORD ≠ 1) (f : Field) (i : Nat) :
    s.upReport.get f i = s.get f i := by
  unfold State.upReport
  extract_lets st reason
  obtain uncounted | away := h
  · rw [show repBit st = none from uncounted, State.upNote, State.broadcast_get]
  · rw [State.upNote_away (by rwa [State.broadcast_get]), State.broadcast_get]

/-! The session's state. -/

theorem State.upSet_state (hs : st < 16) : (s.upSet st).get GH_UPSTAT.STATE = st := by
  have stored : ((s.put GH_UPSTAT.STATE st).put GH_IRQ.UPD 1).get GH_UPSTAT.STATE = st := by
    rw [State.get_put_ne _ _ (by decide), State.get_put_self]
    exact Nat.mod_eq_of_lt hs
  unfold State.upSet
  split
  case isTrue same => exact same
  case isFalse =>
    dsimp only
    split
    · exact stored
    · rw [State.upReport_get (n := 1) (by decide) Nat.one_pos, stored]

theorem State.upSet_get (hs : g.clearOf n stateFields = true) (hg : g.untallied n = true) (hj : j < n) :
    (s.upSet st).get g j = s.get g j := by
  have stored : ((s.put GH_UPSTAT.STATE st).put GH_IRQ.UPD 1).get g j = s.get g j :=
    State.Within.get_elements (.putIn (.putIn .refl (by simp [stateFields] : (GH_UPSTAT.STATE, 1) ∈ stateFields) Nat.one_pos)
      (by simp [stateFields] : (GH_IRQ.UPD, 1) ∈ stateFields) Nat.one_pos) hs hj
  unfold State.upSet
  split
  · rfl
  · dsimp only
    split
    · exact stored
    · rw [State.upReport_get hg hj, stored]

/-- Where no report is counted, only the state and its interrupt are written. -/
theorem State.upSet_silent (hs : st < 16) (h : st = usIDLE ∨ repBit st = none ∨ s.get GH_UPSTAT.COORD ≠ 1)
    (hg : g.clearOf n stateFields = true) (hj : j < n) : (s.upSet st).get g j = s.get g j := by
  have stored : ((s.put GH_UPSTAT.STATE st).put GH_IRQ.UPD 1).get g j = s.get g j :=
    State.Within.get_elements (.putIn (.putIn .refl (by simp [stateFields] : (GH_UPSTAT.STATE, 1) ∈ stateFields) Nat.one_pos)
      (by simp [stateFields] : (GH_IRQ.UPD, 1) ∈ stateFields) Nat.one_pos) hg hj
  unfold State.upSet
  split
  · rfl
  · dsimp only
    split
    case isTrue => exact stored
    case isFalse busy =>
      rw [State.upReport_silent ?_, stored]
      rw [State.get_put_ne _ _ (by decide), State.get_put_self, State.get_put_ne _ _ (by decide),
        State.get_put_ne _ _ (by decide), show st % 2 ^ GH_UPSTAT.STATE.width = st from Nat.mod_eq_of_lt hs]
      exact h.resolve_left busy

theorem State.upSet_list {q : Fifo} (hq : q.id ≠ HX_TX.id) {i : Nat} (hi : i < 2 ^ 20) : (s.upSet st).list q i = s.list q i := by
  unfold State.upSet
  split
  · rfl
  · dsimp only
    split
    · rfl
    · rw [State.upReport_list hq hi]
      rfl

end Reports

/-! The end of a session. -/

/-- Whether the first element of a field lies in the window of a field that is forgotten. -/
def Field.forgotten (g : Field) (fs : List Field) : Bool :=
  fs.any fun f => 32 * f.off ≤ g.key 0 && g.key 0 < 32 * (f.off + 0x100000)

/-- What a session keeps of itself. -/
def sessionCells : List Field :=
  [UP_UP, UP_ASKED, UP_NEWID, UP_PLEN, UP_PSEQ, UP_CID, UP_STEP, UP_SRC, UP_FED, UP_NEXT, UP_PART, UP_BAD, UP_DOWN,
    UP_DNEXT, UP_DLIM, UP_DASK, UP_DACK, UP_REP, UP_ACT, UP_ACTV, UP_WAITS, UP_GO, UP_RANK]

/-- What the staging halves keep. -/
def stagingCells : List Field := [UP_HALF, UP_STG, UP_LAST]

/-- What the release of the package's key slot, below a bound, writes. -/
abbrev releaseFields (b : Nat) : List (Field × Nat) := (UP_SLOT, 1) :: keyFieldsTo b

/-- What the end of a session writes, besides the cells that it forgets. -/
def idleFields : List (Field × Nat) :=
  stateFields ++ (releaseFields 8 ++ [(GH_UPSTAT.COORD, 1), (GH_STAGESTAT.FREE0, 1), (GH_STAGESTAT.FREE1, 1)])

/-- The end of a session leaves a field's first element. -/
def Field.outlives (g : Field) : Bool :=
  g.clearOf 1 idleFields && !g.forgotten sessionCells && !g.forgotten stagingCells

theorem Field.clearOf_mono {g : Field} {n : Nat} {fs gs : List (Field × Nat)} (hs : gs ⊆ fs) (h : g.clearOf n fs = true) :
    g.clearOf n gs = true := by
  refine List.all_eq_true.mpr fun p hp => List.all_eq_true.mp h p ?_
  obtain hp | hp := List.mem_append.mp hp
  · exact List.mem_append_left _ (hs hp)
  · exact List.mem_append_right _ hp

section Ends

variable {s : State} {g : Field}

theorem State.upRelease_get {b : Nat} (hs : s.get UP_SLOT < b) {n j : Nat} (hg : g.clearOf n (releaseFields b) = true)
    (hj : j < n) : s.upRelease.get g j = s.get g j := by
  have released : s.Within (.elements (releaseFields b)) s.upRelease := .ite .refl
    (.keyDone (.putIn .refl (List.mem_cons_self ..) Nat.one_pos) (List.subset_cons_self ..) hs)
  exact released.get_elements hg hj

theorem State.upRelease_list (q : Fifo) (i : Nat) : s.upRelease.list q i = s.list q i := by
  unfold State.upRelease
  dsimp only
  split
  · rfl
  · rw [State.list, State.keyDone_lists]
    rfl

theorem State.forget_kept (fs : List Field) (h : g.forgotten fs = false) : (s.forget fs).get g = s.get g := by
  rw [State.forget_get, show (fs.any fun f => 32 * f.off ≤ g.key 0 && g.key 0 < 32 * (f.off + 0x100000)) = false from h]
  exact if_neg (by decide)

theorem State.dropLists_list {qs : List Fifo} {q : Fifo} (hq : q ∈ qs) {i : Nat} (hi : i < 2 ^ 20) :
    (s.dropLists qs).list q i = [] := by
  refine Store.get_filter_dropped _ _ _ _ fun _ => ?_
  have window : q.id * 2 ^ 20 ≤ q.key i ∧ q.key i < (q.id + 1) * 2 ^ 20 := by
    simp only [Fifo.key]
    omega
  have named : (qs.any fun q' => q'.id * 2 ^ 20 ≤ q.key i && q.key i < (q'.id + 1) * 2 ^ 20) = true :=
    List.any_eq_true.mpr ⟨q, hq, by rw [decide_eq_true window.1, decide_eq_true window.2]; rfl⟩
  rw [named, Bool.not_true]

theorem State.upClear_list {q : Fifo} (hq : q ∈ [UP_PRO, UP_PKG, UP_BLK, UP_IN]) : s.upClear.list q = [] := by
  have dropped := State.dropLists_list (s := s.upRelease) hq (i := 0) (by decide)
  exact dropped

theorem State.upClear_coord : s.upClear.get GH_UPSTAT.COORD = 0 := by
  unfold State.upClear State.upForget
  rw [State.get_put_ne _ _ (by decide), State.get_put_ne _ _ (by decide), State.forget_kept _ (by decide), State.get_put_self]
  rfl

theorem State.upClear_asked : s.upClear.get UP_ASKED = 0 := by
  unfold State.upClear State.upForget
  rw [State.get_put_ne _ _ (by decide), State.get_put_ne _ _ (by decide), State.forget_kept _ (by decide),
    State.get_put_ne _ _ (by decide), State.forget_get]
  exact if_pos (by decide)

/-- Past the release of the key slot, the end forgets cells and frees the staging halves. -/
theorem State.upClear_released
    (hg : g.clearOf 1 [(GH_UPSTAT.COORD, 1), (GH_STAGESTAT.FREE0, 1), (GH_STAGESTAT.FREE1, 1)] = true)
    (hc : g.forgotten sessionCells = false) (hh : g.forgotten stagingCells = false) : s.upClear.get g = s.upRelease.get g := by
  have apart {f : Field} (hf : (f, 1) ∈ [(GH_UPSTAT.COORD, 1), (GH_STAGESTAT.FREE0, 1), (GH_STAGESTAT.FREE1, 1)]) :
      g.key 0 ≠ f.key 0 := Field.key_clearOf hg Nat.one_pos (List.mem_append_left _ hf) Nat.one_pos
  change ((((((s.upRelease.dropLists _).forget sessionCells).put GH_UPSTAT.COORD 0).forget stagingCells).put
    GH_STAGESTAT.FREE0 1).put GH_STAGESTAT.FREE1 1).get g = s.upRelease.get g
  rw [State.get_put_ne _ _ (apart (by simp)), State.get_put_ne _ _ (apart (by simp)), State.forget_kept _ hh,
    State.get_put_ne _ _ (apart (by simp)), State.forget_kept _ hc]
  rfl

theorem State.upClear_get (hs : s.get UP_SLOT < 8)
    (hg : g.clearOf 1 (releaseFields 8 ++ [(GH_UPSTAT.COORD, 1), (GH_STAGESTAT.FREE0, 1), (GH_STAGESTAT.FREE1, 1)]) = true)
    (hc : g.forgotten sessionCells = false) (hh : g.forgotten stagingCells = false) : s.upClear.get g = s.get g := by
  rw [State.upClear_released (Field.clearOf_mono (List.subset_append_right _ _) hg) hc hh]
  exact State.upRelease_get hs (Field.clearOf_mono (List.subset_append_left _ _) hg) Nat.one_pos

theorem State.upIdle_slot (hs : s.get UP_SLOT < 8) : (s.upSet usIDLE).get UP_SLOT < 8 := by
  rwa [State.upSet_silent (n := 1) (by decide) (.inl rfl) (by decide) Nat.one_pos]

theorem State.upIdle_state (hs : s.get UP_SLOT < 8) : s.upIdle.get GH_UPSTAT.STATE = usIDLE := by
  rw [State.upIdle, State.upClear_get (State.upIdle_slot hs) (by decide) (by decide) (by decide), State.upSet_state (by decide)]

theorem State.upIdle_get (hs : s.get UP_SLOT < 8) (hg : g.outlives = true) : s.upIdle.get g = s.get g := by
  simp only [Field.outlives, Bool.and_eq_true, Bool.not_eq_true'] at hg
  obtain ⟨⟨clear, cells⟩, halves⟩ := hg
  rw [State.upIdle, State.upClear_get (State.upIdle_slot hs)
      (Field.clearOf_mono (List.subset_append_right _ _) clear) cells halves,
    State.upSet_silent (n := 1) (by decide) (.inl rfl) (Field.clearOf_mono (List.subset_append_left _ _) clear) Nat.one_pos]

/-- A key change that takes effect completes a command only where one is pending. -/
theorem State.keyDone_status {k : Nat} (hk : k < 8) (hp : s.get GH_STATUS.STATE ≠ 4) :
    (s.keyDone k).get GH_STATUS.STATE = s.get GH_STATUS.STATE := by
  have slot : ∀ f ∈ [GH_KSTAT.USE, KEY_VAL, GH_KSTAT.STATE, GH_KSTAT.USAGE, GH_KSTAT.KCV, GH_KSTAT.KILLED, KEY_NEW],
      GH_STATUS.STATE.key 0 ≠ f.key k := fun f hf => (Field.key_spares (n := 8) hk (by revert f; decide)).symm
  have put (u : State) {f : Field} (v : Nat) (hf : f ∈ [GH_KSTAT.USE, KEY_VAL, GH_KSTAT.STATE, GH_KSTAT.USAGE, GH_KSTAT.KCV,
      GH_KSTAT.KILLED, KEY_NEW]) : (u.put f v k).get GH_STATUS.STATE = u.get GH_STATUS.STATE :=
    State.get_put_ne _ _ (slot f hf)
  have stored (u : State) (key usage : Nat) : (u.keySet k key usage).get GH_STATUS.STATE = u.get GH_STATUS.STATE := by
    unfold State.keySet
    dsimp only
    rw [put _ _ (by simp)]
    split
    · rw [State.get_put_ne _ _ (by decide), put _ _ (by simp), put _ _ (by simp), put _ _ (by simp)]
    · rw [put _ _ (by simp), put _ _ (by simp), put _ _ (by simp)]
  have erased (u : State) : (u.keyErase k).get GH_STATUS.STATE = u.get GH_STATUS.STATE := by
    have cleared : (u.keyClear k).get GH_STATUS.STATE = u.get GH_STATUS.STATE := by
      rw [State.keyClear, put _ _ (by simp), put _ _ (by simp), put _ _ (by simp), put _ _ (by simp)]
    unfold State.keyErase
    dsimp only
    split
    · rw [put _ _ (by simp), cleared]
    · exact cleared
  have counted := put s (f := GH_KSTAT.USE) (s.get GH_KSTAT.USE k - 1) (by simp)
  unfold State.keyDone
  dsimp only
  split
  · unfold State.keyApply
    extract_lets applied shown cleared
    have told : shown.get GH_STATUS.STATE = s.get GH_STATUS.STATE := by
      rw [State.get_put_ne _ _ (by decide), State.raise_get _ _ _ _ (by decide) (by decide), put _ _ (by simp), ← counted]
      unfold applied
      split
      · exact stored _ _ _
      · exact erased _
    have freed : cleared.get GH_STATUS.STATE = s.get GH_STATUS.STATE := by
      rw [State.get_put_ne _ _ (by decide), told]
    split
    · rw [if_neg (by rwa [freed])]
      exact freed
    · exact told
  · exact counted

theorem State.upIdle_status (hs : s.get UP_SLOT < 8) (hp : s.get GH_STATUS.STATE ≠ 4) :
    s.upIdle.get GH_STATUS.STATE = s.get GH_STATUS.STATE := by
  have idle : (s.upSet usIDLE).get GH_STATUS.STATE = s.get GH_STATUS.STATE :=
    State.upSet_silent (n := 1) (by decide) (.inl rfl) (by decide) Nat.one_pos
  rw [State.upIdle, State.upClear_released (by decide) (by decide) (by decide), ← idle]
  unfold State.upRelease
  dsimp only
  split
  · rfl
  · have free : ((s.upSet usIDLE).put UP_SLOT 0).get GH_STATUS.STATE = (s.upSet usIDLE).get GH_STATUS.STATE :=
      State.get_put_ne _ _ (by decide)
    rw [State.keyDone_status (State.upIdle_slot hs) (by rwa [free, idle]), free]

theorem State.upIdle_coord : s.upIdle.get GH_UPSTAT.COORD = 0 := State.upClear_coord

end Ends

/-! The prologue. -/

section Prologue

variable {s t : State}

section Same

variable (h : t.list UP_PRO = s.list UP_PRO)
include h

theorem State.proByte_congr : t.proByte = s.proByte := by
  funext a
  rw [State.proByte, h, State.proByte]

theorem State.proLE_congr : t.proLE = s.proLE := by
  funext a n
  rw [State.proLE, State.proByte_congr h, State.proLE]

theorem State.upEntries_congr : t.upEntries = s.upEntries := by
  funext type
  rw [State.upEntries, State.upManifest, State.proLE_congr h, State.proByte_congr h, State.upEntries, State.upManifest]

theorem State.upSelects_congr : t.upSelects = s.upSelects := by
  funext a die addr
  rw [State.upSelects, State.proLE_congr h, State.proByte_congr h, State.upSelects]

theorem State.upMine_congr (hd : t.dieId = s.dieId) (ha : t.hxAddr = s.hxAddr) : t.upMine = s.upMine := by
  rw [State.upMine, State.upEntries_congr h, State.upSelects_congr h, hd, ha, State.upMine]

theorem State.upRank_congr (hd : t.dieId = s.dieId) (ha : t.hxAddr = s.hxAddr) : t.upRank = s.upRank := by
  rw [State.upRank, State.proByte_congr h, State.upMine_congr h hd ha, State.upRank]

end Same

theorem State.issued_list {m : Master} {op : Nat} (q : Fifo) (i : Nat) : (s.issued m op).list q i = s.list q i := by
  have named : (((((s.put GH_STATUS.OP op).cmdStatus 1 0).put CMD_OP op).put CMD_BY m.code)).list q i = s.list q i := by
    simp only [State.cmdStatus, State.put_list]
    split <;> simp only [State.put_list]
  exact foldl_keeps (fun u : State => u.list q i = s.list q i) (fun u j => u.put CMD_ARG (u.get GH_ARG.ARG j) j)
    (fun _ _ h => h) _ _ named

end Prologue

/-! The flash. -/

section Flash

variable {s t : State}

@[simp] theorem State.flashPut_get (a : Nat) (l : List Nat) (g : Field) (j : Nat) : (s.flashPut a l).get g j = s.get g j :=
  foldl_keeps (fun u : State => u.get g j = s.get g j) (fun u (x : Nat × Nat) => u.store .flash (a + x.2) (x.1 % 256))
    (fun _ _ h => h) _ s rfl

@[simp] theorem State.flashPut_lists (a : Nat) (l : List Nat) : (s.flashPut a l).lists = s.lists :=
  foldl_keeps (fun u : State => u.lists = s.lists) (fun u (x : Nat × Nat) => u.store .flash (a + x.2) (x.1 % 256))
    (fun _ _ h => h) _ s rfl

/-- Programmed bytes in the store of the memories. -/
def flashBytesPut (a : Nat) (l : List Nat) (m : Store Nat) : Store Nat :=
  l.zipIdx.foldl (fun m x => m.set (Region.flash.base + (a + x.2)) (x.1 % 256 % 2 ^ 80) 0xFF) m

theorem State.flashPut_mem (a : Nat) (l : List Nat) : (s.flashPut a l).mem = flashBytesPut a l s.mem := by
  unfold State.flashPut flashBytesPut
  generalize l.zipIdx = bytes
  induction bytes generalizing s with
  | nil => rfl
  | cons b bytes ih => exact ih

@[simp] theorem State.recPrepared_get (x : Nat) (v : Bool) (g : Field) (j : Nat) :
    (s.recPrepared x v).get g j = s.get g j := State.flashPut_get ..

/-- The flash reads alike in two states. -/
def State.SameFlash (s t : State) : Prop :=
  t.mem = s.mem ∧ t.get MEM_EPOCH = s.get MEM_EPOCH ∧ t.get FLASH_SIZE = s.get FLASH_SIZE

section Same

variable (h : s.SameFlash t)
include h

theorem State.SameFlash.load : t.load .flash = s.load .flash := by
  obtain ⟨hm, he, -⟩ := h
  funext a
  unfold State.load State.blank
  rw [hm, he]

theorem State.SameFlash.brUsed : t.brUsed = s.brUsed := by
  unfold State.brUsed State.brValid State.brArea State.brSize State.brSeq State.flashLE State.flashBytes
  rw [h.load, h.2.2]

theorem State.SameFlash.flashLE : t.flashLE = s.flashLE := by
  funext a n
  rw [State.flashLE, h.load, State.flashLE]

theorem State.SameFlash.brActive : t.brActive = s.brActive := by
  unfold State.brActive State.brFlags
  rw [h.brUsed, h.flashLE]

theorem State.SameFlash.brTrial : t.brTrial = s.brTrial := by
  unfold State.brTrial State.brFlags
  rw [h.brUsed, h.flashLE]

theorem State.SameFlash.areaBase : t.areaBase = s.areaBase := by
  funext x
  unfold State.areaBase State.brArea State.layoutSize
  rw [h.brUsed, h.flashLE, h.2.2]

theorem State.SameFlash.areaSize : t.areaSize = s.areaSize := by
  unfold State.areaSize State.brSize State.layoutSize
  rw [h.brUsed, h.flashLE, h.2.2]

theorem State.SameFlash.writeBoot (active : Nat) (trial fallback : Bool) :
    (t.writeBoot active trial fallback).mem = (s.writeBoot active trial fallback).mem := by
  have put (u : State) (v : Nat) : (u.put BR_COPY v).mem = u.mem := rfl
  unfold State.writeBoot State.brSeq
  dsimp only
  rw [put, put, State.flashPut_mem, State.flashPut_mem, h.brUsed, h.flashLE, h.areaBase, h.areaSize, h.1]

end Same

theorem State.writeBoot_get (active : Nat) (trial fallback : Bool) {g : Field} {j : Nat} (hg : g.key j ≠ BR_COPY.key 0) :
    (s.writeBoot active trial fallback).get g j = s.get g j := by
  unfold State.writeBoot
  dsimp only
  rw [State.get_put_ne _ _ hg, State.flashPut_get]

theorem State.writeBoot_list (active : Nat) (trial fallback : Bool) (q : Fifo) (i : Nat) :
    (s.writeBoot active trial fallback).list q i = s.list q i := by
  unfold State.writeBoot State.list
  dsimp only
  rw [show ∀ (u : State) (v : Nat), (u.put BR_COPY v).lists = u.lists from fun _ _ => rfl, State.flashPut_lists]

end Flash

end Sys2Proof.Machine
end

section
/-! O47: an update commits in two phases (R720 to R724). -/

namespace Sys2Proof.Machine

/-- Every element of a field above the cells of a scope keeps its value. -/
theorem State.Within.get_above {s t : State} {fs : List (Field × Nat)} (h : s.Within (.elements fs) t) {g : Field}
    (hg : ((fs ++ [(MSI_PEND, 1), (EV_DROP.COUNT, 1), (DROP_EPISODE, 1)]).all fun p => p.1.below p.2 g) = true) (j : Nat) :
    t.get g j = s.get g j :=
  h.get_elements (n := j + 1) (List.all_eq_true.mpr fun p hp => by simp [List.all_eq_true.mp hg p hp]) j.lt_succ_self

/-! The decisions. -/

section Decisions

variable {s : State} {g : Field}

theorem State.upLog_get {c : Rc} (hg : g.clearOf 1 [] = true) : (s.upLog c).get g = s.get g :=
  State.raise_get _ _ _ _ (Field.key_clearOf hg Nat.one_pos (p := (EV_DROP.COUNT, 1)) (by simp) Nat.one_pos)
    (Field.key_clearOf hg Nat.one_pos (p := (DROP_EPISODE, 1)) (by simp) Nat.one_pos)

/-- The record of the session's area says that it is not prepared, and the abort is logged (R722). -/
def State.abortLogged (s : State) : State :=
  let x := s.get GH_UPSTAT.AREA
  (if s.get FLASH_OK = 1 && s.recGood x && bits (s.load .flash (s.recBase x + 7)) 1 1 = 1 &&
      s.flashLE (s.recBase x + 8) 8 = s.upId then s.recPrepared x false else s).upLog Rc.UP_ABORTED

theorem State.upAborted_eq (s : State) : s.upAborted = s.abortLogged.upIdle := rfl

theorem State.abortLogged_get (hg : g.clearOf 1 [] = true) : s.abortLogged.get g = s.get g := by
  unfold State.abortLogged
  dsimp only
  rw [State.upLog_get hg]
  split
  · exact State.recPrepared_get ..
  · rfl

theorem State.abortLogged_slot (hs : s.get UP_SLOT < 8) : s.abortLogged.get UP_SLOT < 8 := by
  rwa [State.abortLogged_get (by decide)]

theorem State.upAborted_state (hs : s.get UP_SLOT < 8) : s.upAborted.get GH_UPSTAT.STATE = usIDLE :=
  State.upIdle_state (State.abortLogged_slot hs)

theorem State.upAborted_coord : s.upAborted.get GH_UPSTAT.COORD = 0 := State.upIdle_coord

theorem State.upAborted_status (hs : s.get UP_SLOT < 8) (hp : s.get GH_STATUS.STATE ≠ 4) :
    s.upAborted.get GH_STATUS.STATE = s.get GH_STATUS.STATE := by
  have logged : s.abortLogged.get GH_STATUS.STATE = s.get GH_STATUS.STATE := State.abortLogged_get (by decide)
  rw [State.upAborted_eq, State.upIdle_status (State.abortLogged_slot hs) (by rwa [logged]), logged]

theorem State.upAborted_get (hs : s.get UP_SLOT < 8) (hg : g.outlives = true) : s.upAborted.get g = s.get g := by
  have clear : g.clearOf 1 idleFields = true := by
    simp only [Field.outlives, Bool.and_eq_true] at hg
    exact hg.1.1
  rw [State.upAborted_eq, State.upIdle_get (State.abortLogged_slot hs) hg,
    State.abortLogged_get (Field.clearOf_mono (List.nil_subset _) clear)]

/-- An abort leaves the coordinator idle, and an UPDATE_COMMIT that waits for the votes has failed (R722). -/
theorem State.upDecideAbort_shows (hs : s.get UP_SLOT < 8) (c : Nat) : (s.upDecideAbort c).get GH_UPSTAT.STATE = usIDLE ∧
    (s.upDecideAbort c).get GH_UPSTAT.COORD = 0 ∧
    (s.get CMD_OP = 7 → (s.upDecideAbort c).get GH_STATUS.STATE = 3 ∧ (s.upDecideAbort c).get CMD_OP = 0) := by
  unfold State.upDecideAbort
  extract_lets told reason judged
  have op : told.get CMD_OP = s.get CMD_OP := State.broadcast_get ..
  have slot : told.get UP_SLOT < 8 := by rwa [show told.get UP_SLOT = s.get UP_SLOT from State.broadcast_get ..]
  clear_value reason
  by_cases waits : s.get CMD_OP = 7
  case pos =>
    rw [show judged = told.cmdFail reason told.hxAddr from if_pos (op.trans waits)]
    have slot' : (told.cmdFail reason told.hxAddr).get UP_SLOT < 8 := by
      rwa [State.cmdFail_get (n := 1) (by decide) Nat.one_pos]
    obtain ⟨state, -, ended⟩ := State.cmdFail_shows (s := told) (rc := reason) (obj := told.hxAddr)
    refine ⟨State.upAborted_state slot', State.upAborted_coord, fun _ => ⟨?_, ?_⟩⟩
    · rw [State.upAborted_status slot' (by simp [state]), state]
    · rw [State.upAborted_get slot' (by decide), ended]
  case neg =>
    rw [show judged = told from if_neg (op.trans_ne waits)]
    exact ⟨State.upAborted_state slot, State.upAborted_coord, fun h => absurd h waits⟩

end Decisions

/-! UPDATE_COMMIT and UPDATE_ABORT. -/

section Commit

variable {s : State} {m : Master} (hi : Issues m 0x07 s)
include hi

theorem updateCommit_elsewhere (h : s.get GH_UPSTAT.COORD ≠ 1 ∨ s.get UP_STEP = 0) : Answers (.updateCommit m) s fun t =>
    t.get GH_STATUS.STATE = 3 ∧ t.get GH_STATUS.RESULT = Rc.UP_NOT_COORD.num % 2 ^ 16 := by
  refine answers_issue_delivers (exec_updateCommit m s) hi fun t ht => ?_
  have coord : (s.issued m 7).get GH_UPSTAT.COORD = s.get GH_UPSTAT.COORD := State.issued_get (n := 1) (by decide) Nat.one_pos
  have step : (s.issued m 7).get UP_STEP = s.get UP_STEP := State.issued_get (n := 1) (by decide) Nat.one_pos
  have refused : runUpdateCommit (s.issued m 7) = (s.issued m 7).cmdFail Rc.UP_NOT_COORD (s.issued m 7).hxAddr :=
    if_pos (by simpa [State.flag, coord, step] using h)
  rw [refused] at ht
  obtain ⟨state, result, -⟩ := State.cmdFail_shows (s := s.issued m 7) (rc := Rc.UP_NOT_COORD) (obj := (s.issued m 7).hxAddr)
  exact ⟨(ht.get (by decide)).trans state, (ht.get (by decide)).trans result⟩

theorem updateCommit_unstaged (hc : s.get GH_UPSTAT.COORD = 1) (hs : s.get UP_STEP ≠ 0) (h : s.get GH_UPSTAT.STATE ≠ usSTAGED) :
    Answers (.updateCommit m) s fun t =>
      t.get GH_STATUS.STATE = 3 ∧ t.get GH_STATUS.RESULT = Rc.UP_NOT_STAGED.num % 2 ^ 16 := by
  refine answers_issue_delivers (exec_updateCommit m s) hi fun t ht => ?_
  have coord : (s.issued m 7).get GH_UPSTAT.COORD = s.get GH_UPSTAT.COORD := State.issued_get (n := 1) (by decide) Nat.one_pos
  have step : (s.issued m 7).get UP_STEP = s.get UP_STEP := State.issued_get (n := 1) (by decide) Nat.one_pos
  have state : (s.issued m 7).get GH_UPSTAT.STATE = s.get GH_UPSTAT.STATE := State.issued_get (n := 1) (by decide) Nat.one_pos
  have refused : runUpdateCommit (s.issued m 7) = (s.issued m 7).cmdFail Rc.UP_NOT_STAGED (s.issued m 7).hxAddr :=
    (if_neg (by simp [State.flag, coord, step, hc, hs])).trans (if_pos (by simp [state, h]))
  clear state
  rw [refused] at ht
  obtain ⟨state, result, -⟩ := State.cmdFail_shows (s := s.issued m 7) (rc := Rc.UP_NOT_STAGED) (obj := (s.issued m 7).hxAddr)
  exact ⟨(ht.get (by decide)).trans state, (ht.get (by decide)).trans result⟩

end Commit

/-! PREPARE. -/

section Prepared

variable {t : State}

/-- A device becomes PREPARED and nothing else of its cells changes but the interrupt. -/
theorem State.upPrepare_state : t.upPrepare.1.get GH_UPSTAT.STATE = usPREPARED := by
  have prepared (u : State) : (u.upSet usPREPARED).get GH_UPSTAT.STATE = usPREPARED := State.upSet_state (by decide)
  unfold State.upPrepare
  dsimp only
  split
  · rw [prepared]
  · rw [prepared]

theorem State.upPrepare_get {g : Field} {n j : Nat} (hg : g.clearOf n stateFields = true) (hj : j < n) :
    t.upPrepare.1.get g j = t.get g j := by
  have prepared (u : State) : (u.upSet usPREPARED).get g j = u.get g j :=
    State.upSet_silent (by decide) (.inr (.inl rfl)) hg hj
  unfold State.upPrepare
  dsimp only
  split
  · rw [prepared, State.recPrepared_get]
  · exact prepared t

theorem State.upPrepare_vote : t.upPrepare.2 = [t.upId, t.dieId,
    if t.recHolds (t.get GH_UPSTAT.AREA) then 1 else 2 ^ 16 * Rc.UP_FLASH_WRITE.num] := by
  unfold State.upPrepare
  dsimp only
  split <;> rfl

end Prepared

theorem updateCommit_prepares {s : State} {m : Master} (hi : Issues m 0x07 s) (hc : s.get GH_UPSTAT.COORD = 1)
    (hs : s.get UP_STEP = 2) (hst : s.get GH_UPSTAT.STATE = usSTAGED)
    (hr : ∀ i, i < (s.upEntries 1).length → bit (s.get UP_REP i) 0 = true ∧ bit (s.get UP_REP i) 2 = false) :
    Answers (.updateCommit m) s fun t =>
      t.get UP_STEP = 3 ∧ t.get GH_UPSTAT.STATE = usPREPARED ∧ t.get GH_STATUS.STATE = 1 ∧ t.get CMD_OP = 7 := by
  refine answers_issue_delivers (exec_updateCommit m s) hi fun t ht => ?_
  obtain ⟨busy, op, -⟩ := State.issued_status (s := s) (m := m) (op := 7)
  have coord : (s.issued m 7).get GH_UPSTAT.COORD = s.get GH_UPSTAT.COORD := State.issued_get (n := 1) (by decide) Nat.one_pos
  have step : (s.issued m 7).get UP_STEP = s.get UP_STEP := State.issued_get (n := 1) (by decide) Nat.one_pos
  have state : (s.issued m 7).get GH_UPSTAT.STATE = s.get GH_UPSTAT.STATE := State.issued_get (n := 1) (by decide) Nat.one_pos
  have reports (i : Nat) : (s.issued m 7).get UP_REP i = s.get UP_REP i := (State.Within.issued .refl (List.Subset.refl _) m 7).get_above (by decide) i
  have entries : (s.issued m 7).upEntries = s.upEntries := State.upEntries_congr (State.issued_list ..)
  have prepares : runUpdateCommit (s.issued m 7) =
      let u := ((s.issued m 7).broadcast clUPD 0x15 [(s.issued m 7).upId]).put UP_STEP 3
      u.upPrepare.1.hxDeliver 8 (u.upPrepare.1.ownPacket 255 clUPD 0x16 0 u.upPrepare.2) := by
    refine (if_neg (by simp [State.flag, coord, step, hc, hs])).trans (if_neg ?_)
    simp only [entries, reports, state, step, hst, hs]
    simpa using hr
  rw [prepares] at ht
  dsimp only at ht
  have kept {g : Field} (hg : g.clearOf 1 stateFields = true) (hu : g.key 0 ≠ UP_STEP.key 0) (hm : g.key 0 ≠ MSI_PEND.key 0) :
      t.get g = (s.issued m 7).get g := by
    rw [ht.get hm]
    refine (State.enq_get ..).trans ?_
    rw [State.upPrepare_get hg Nat.one_pos, State.get_put_ne _ _ hu, State.broadcast_get]
  refine ⟨?_, ?_, (kept (by decide) (by decide) (by decide)).trans busy, (kept (by decide) (by decide) (by decide)).trans op⟩
  · rw [ht.get (by decide)]
    refine (State.enq_get ..).trans ?_
    rw [State.upPrepare_get (n := 1) (by decide) Nat.one_pos, State.get_put_self]
    rfl
  · rw [ht.get (by decide)]
    exact (State.enq_get ..).trans State.upPrepare_state

section Abort

variable {s : State} {m : Master} (hi : Issues m 0x08 s)
include hi

omit hi in
/-- The session's state as UPDATE_ABORT finds it. -/
theorem updateAbort_found : (s.issued m 8).get GH_UPSTAT.STATE = s.get GH_UPSTAT.STATE ∧
    (s.issued m 8).get GH_UPSTAT.COORD = s.get GH_UPSTAT.COORD ∧ (s.issued m 8).get UP_SLOT = s.get UP_SLOT ∧
    bit ((s.issued m 8).get CMD_ARG 0) 0 = bit (s.get GH_ARG.ARG 0) 0 := by
  have kept {g : Field} (hg : g.clearOf 1 commandFields = true) : (s.issued m 8).get g = s.get g :=
    State.issued_get hg Nat.one_pos
  refine ⟨kept (by decide), kept (by decide), kept (by decide), ?_⟩
  rw [State.issued_arg0, bit_arg _ (by decide)]

/-- UPDATE_ABORT ends DONE on what it has done to the session. -/
theorem updateAbort_done {u : State} (hr : runUpdateAbort (s.issued m 8) = u.cmdDone) : Answers (.updateAbort m) s fun t =>
    t.get GH_UPSTAT.STATE = u.get GH_UPSTAT.STATE ∧ t.get GH_UPSTAT.COORD = u.get GH_UPSTAT.COORD ∧ t.get GH_STATUS.STATE = 2 := by
  refine answers_issue_delivers (exec_updateAbort m s) hi fun t ht => ?_
  rw [hr] at ht
  rw [ht.get (by decide), ht.get (by decide), ht.get (by decide), State.cmdDone_get (n := 1) (by decide) Nat.one_pos,
    State.cmdDone_get (n := 1) (by decide) Nat.one_pos]
  exact ⟨rfl, rfl, State.cmdDone_shows.1⟩

theorem updateAbort_decides (hs : s.get UP_SLOT < 8) (hc : s.get GH_UPSTAT.COORD = 1) (hl : s.get GH_UPSTAT.STATE ∉ usLATE)
    (hn : s.get GH_UPSTAT.STATE ≠ usIDLE) (hd : s.get GH_UPSTAT.STATE ≠ usINDOUBT) : Answers (.updateAbort m) s fun t =>
      t.get GH_UPSTAT.STATE = usIDLE ∧ t.get GH_UPSTAT.COORD = 0 ∧ t.get GH_STATUS.STATE = 2 := by
  obtain ⟨state, coord, slot, -⟩ := updateAbort_found (s := s) (m := m)
  obtain ⟨idle, free, -⟩ := State.upDecideAbort_shows (s := s.issued m 8) (slot.trans_lt hs) 0
  have decided : runUpdateAbort (s.issued m 8) = ((s.issued m 8).upDecideAbort 0).cmdDone :=
    (if_neg (by rwa [state])).trans (if_pos (by simp [State.flag, state, coord, hc, hl, hn]))
  obtain ⟨t, ran, shown, role, done⟩ := updateAbort_done hi decided
  exact ⟨t, ran, shown.trans idle, role.trans free, done⟩

theorem updateAbort_forced (hs : s.get UP_SLOT < 8) (hd : s.get GH_UPSTAT.STATE = usINDOUBT)
    (hf : bit (s.get GH_ARG.ARG 0) 0 = true) : Answers (.updateAbort m) s fun t =>
      t.get GH_UPSTAT.STATE = usIDLE ∧ t.get GH_STATUS.STATE = 2 := by
  obtain ⟨state, -, slot, forced⟩ := updateAbort_found (s := s) (m := m)
  have decided : runUpdateAbort (s.issued m 8) = ((s.issued m 8).upLog Rc.UP_FORCED_ABORT).upAborted.cmdDone :=
    (if_pos (state.trans hd)).trans (if_pos (forced.trans hf))
  obtain ⟨t, ran, shown, -, done⟩ := updateAbort_done hi decided
  refine ⟨t, ran, shown.trans (State.upAborted_state ?_), done⟩
  rwa [State.upLog_get (by decide), slot]

theorem updateAbort_leaves (h : s.get GH_UPSTAT.STATE = usINDOUBT ∧ bit (s.get GH_ARG.ARG 0) 0 = false ∨
    s.get GH_UPSTAT.COORD ≠ 1 ∧ s.get GH_UPSTAT.STATE ≠ usINDOUBT) : Answers (.updateAbort m) s fun t =>
      t.get GH_UPSTAT.STATE = s.get GH_UPSTAT.STATE ∧ t.get GH_STATUS.STATE = 2 := by
  obtain ⟨state, coord, -, forced⟩ := updateAbort_found (s := s) (m := m)
  have left : runUpdateAbort (s.issued m 8) = (s.issued m 8).cmdDone := by
    obtain ⟨hd, hf⟩ | ⟨hc, hd⟩ := h
    · exact (if_pos (state.trans hd)).trans (if_neg (by rw [forced, hf]; decide))
    · exact (if_neg (by rwa [state])).trans (if_neg (by simp [State.flag, coord, hc]))
  obtain ⟨t, ran, shown, -, done⟩ := updateAbort_done hi left
  exact ⟨t, ran, shown.trans state, done⟩

end Abort

/-! COMMIT. -/

section Committed

variable {s : State} {g : Field}

theorem State.upCommitted_state : s.upCommitted.get GH_UPSTAT.STATE = usCOMMITTED := State.upSet_state (by decide)

theorem State.upCommitted_get {b : Nat} (hs : s.get UP_SLOT < b)
    (hg : g.clearOf 1 (stateFields ++ (GH_UPTRIAL.REMAIN, 1) :: releaseFields b) = true) (ht : g.untallied 1 = true) :
    s.upCommitted.get g = s.get g := by
  have trial : g.key 0 ≠ GH_UPTRIAL.REMAIN.key 0 :=
    Field.key_clearOf hg Nat.one_pos (List.mem_append_left _ (List.mem_append_right _ (List.mem_cons_self ..))) Nat.one_pos
  rw [State.upCommitted, State.upSet_get (Field.clearOf_mono (List.subset_append_left _ _) hg) ht Nat.one_pos,
    State.get_put_ne _ _ trial, State.upRelease_get hs (Field.clearOf_mono
      (List.Subset.trans (List.subset_cons_self ..) (List.subset_append_right _ _)) hg) Nat.one_pos]

theorem State.upCommitted_silent (hs : s.get UP_SLOT < 8) (hc : s.get GH_UPSTAT.COORD ≠ 1)
    (hg : g.clearOf 1 (stateFields ++ (GH_UPTRIAL.REMAIN, 1) :: releaseFields 8) = true) : s.upCommitted.get g = s.get g := by
  have trial {f : Field} (hf : f.clearOf 1 (stateFields ++ (GH_UPTRIAL.REMAIN, 1) :: releaseFields 8) = true) :
      (s.upRelease.put GH_UPTRIAL.REMAIN 0).get f = s.get f := by
    rw [State.get_put_ne _ _ (Field.key_clearOf hf Nat.one_pos
        (List.mem_append_left _ (List.mem_append_right _ (List.mem_cons_self ..))) Nat.one_pos),
      State.upRelease_get hs (Field.clearOf_mono (List.Subset.trans (List.subset_cons_self ..) (List.subset_append_right _ _)) hf)
        Nat.one_pos]
  rw [State.upCommitted, State.upSet_silent (n := 1) (by decide) (.inr (.inr (by rwa [trial (by decide)])))
    (Field.clearOf_mono (List.subset_append_left _ _) hg) Nat.one_pos, trial hg]

theorem State.upCommitted_list {q : Fifo} (hq : q.id ≠ HX_TX.id) {i : Nat} (hi : i < 2 ^ 20) :
    s.upCommitted.list q i = s.list q i := by
  rw [State.upCommitted, State.upSet_list hq hi, State.put_list, State.upRelease_list]

theorem State.upCommitted_stored : s.upCommitted.stored = s.stored := by
  rw [State.upCommitted, State.upSet_stored, State.put_stored, State.upRelease_stored]

/-- The commit point of the coordinator (R721). -/
theorem State.upCommit_commits (hs : s.get UP_SLOT < 256) : (s.upCommit true).get UP_STEP = 4 ∧
    (s.upCommit true).get GH_UPSTAT.STATE = usCOMMITTED ∧ (s.upCommit true).mem = s.upBootRecord.mem := by
  unfold State.upCommit
  rw [if_neg (by decide)]
  extract_lets logged valid act placed told
  have slot : placed.get UP_SLOT < 256 := by
    unfold placed logged
    rwa [State.get_put_ne _ _ (by decide), State.get_put_ne _ _ (by decide), State.get_put_ne _ _ (by decide),
      State.upLog_get (by decide), State.cmdDone_get (n := 1) (by decide) Nat.one_pos, State.upBootRecord,
      State.writeBoot_get _ _ _ (by decide)]
  have step : told.get UP_STEP = 4 := by
    unfold told
    rw [State.broadcast_get, State.upCommitted_get slot (by decide) (by decide)]
    exact State.get_put_self ..
  have state : told.get GH_UPSTAT.STATE = usCOMMITTED := (State.broadcast_get ..).trans State.upCommitted_state
  have stored : told.stored = s.upBootRecord.stored := by
    unfold told placed logged
    rw [State.broadcast_stored, State.upCommitted_stored, State.put_stored, State.put_stored, State.put_stored,
      State.upLog_stored, State.cmdDone_stored]
  have mem := (mem_ring_of_stored stored).1
  clear_value told
  split
  · exact ⟨(State.get_put_ne _ _ (by decide)).trans step, (State.get_put_ne _ _ (by decide)).trans state, mem⟩
  · exact ⟨step, state, mem⟩

/-- A target that has been told to commit, its boot record written (R721). -/
def State.committedAt (s : State) (act valid : Nat) : State :=
  ((s.upBootRecord.put UP_ACT act).put UP_ACTV valid).upCommitted

section Target

variable {act valid : Nat} (hs : s.get UP_SLOT < 8) (hc : s.get GH_UPSTAT.COORD ≠ 1)

theorem State.upBootRecord_get (hb : g.key 0 ≠ BR_COPY.key 0) : s.upBootRecord.get g = s.get g :=
  State.writeBoot_get _ _ _ hb

theorem State.committedAt_state : (s.committedAt act valid).get GH_UPSTAT.STATE = usCOMMITTED := State.upCommitted_state

theorem State.committedAt_mem : (s.committedAt act valid).mem = s.upBootRecord.mem := by
  refine (mem_ring_of_stored ?_).1
  rw [State.committedAt, State.upCommitted_stored, State.put_stored, State.put_stored]

include hs hc

theorem State.committedAt_put (hg : g.clearOf 1 (stateFields ++ (GH_UPTRIAL.REMAIN, 1) :: releaseFields 8) = true) :
    (s.committedAt act valid).get g = ((s.upBootRecord.put UP_ACT act).put UP_ACTV valid).get g := by
  have placed {f : Field} (hb : f.key 0 ≠ BR_COPY.key 0) (ha : f.key 0 ≠ UP_ACT.key 0) (hv : f.key 0 ≠ UP_ACTV.key 0) :
      ((s.upBootRecord.put UP_ACT act).put UP_ACTV valid).get f = s.get f := by
    rw [State.get_put_ne _ _ hv, State.get_put_ne _ _ ha, State.upBootRecord_get hb]
  exact State.upCommitted_silent (by rwa [placed (by decide) (by decide) (by decide)])
    (by rwa [placed (by decide) (by decide) (by decide)]) hg

theorem State.committedAt_get (hg : g.clearOf 1 (stateFields ++ (GH_UPTRIAL.REMAIN, 1) :: releaseFields 8) = true)
    (hb : g.key 0 ≠ BR_COPY.key 0) (ha : g.key 0 ≠ UP_ACT.key 0) (hv : g.key 0 ≠ UP_ACTV.key 0) :
    (s.committedAt act valid).get g = s.get g := by
  rw [State.committedAt_put hs hc hg, State.get_put_ne _ _ hv, State.get_put_ne _ _ ha, State.upBootRecord_get hb]

theorem State.committedAt_rank : (s.committedAt act valid).upRank = s.upRank := by
  have kept {f : Field} (hg : f.clearOf 1 (stateFields ++ (GH_UPTRIAL.REMAIN, 1) :: releaseFields 8) = true)
      (hb : f.key 0 ≠ BR_COPY.key 0) (ha : f.key 0 ≠ UP_ACT.key 0) (hv : f.key 0 ≠ UP_ACTV.key 0) :
      (s.committedAt act valid).get f = s.get f := State.committedAt_get hs hc hg hb ha hv
  refine State.upRank_congr ?_ ?_ (kept (by decide) (by decide) (by decide) (by decide))
  · rw [State.committedAt, State.upCommitted_list (by decide) (by decide), State.put_list, State.put_list]
    exact State.writeBoot_list ..
  · rw [State.dieId, kept (by decide) (by decide) (by decide) (by decide), kept (by decide) (by decide) (by decide) (by decide),
      State.dieId]

/-- Whether the target waits for ACT_TIME. -/
theorem State.committedAt_waits {w : Nat} (hv : valid = bits w 0 1) (ha : act < 2 ^ 64) :
    ((s.committedAt act valid).flag UP_ACTV && (s.committedAt act valid).timeQualifies &&
      (s.committedAt act valid).now / 2 ^ 16 < (s.committedAt act valid).get UP_ACT : Bool) = true ↔
        bit w 0 = true ∧ s.timeQualifies = true ∧ s.now / 2 ^ 16 < act := by
  have kept {f : Field} (hg : f.clearOf 1 (stateFields ++ (GH_UPTRIAL.REMAIN, 1) :: releaseFields 8) = true)
      (hb : f.key 0 ≠ BR_COPY.key 0) (ha : f.key 0 ≠ UP_ACT.key 0) (hv : f.key 0 ≠ UP_ACTV.key 0) :
      (s.committedAt act valid).get f = s.get f := State.committedAt_get hs hc hg hb ha hv
  have marked : (s.committedAt act valid).get UP_ACTV = bits w 0 1 := by
    rw [State.committedAt_put hs hc (by decide), State.get_put_self, hv]
    exact Nat.mod_eq_of_lt (bits_lt w 0 1)
  have due : (s.committedAt act valid).get UP_ACT = act := by
    rw [State.committedAt_put hs hc (by decide), State.get_put_ne _ _ (by decide), State.get_put_self]
    exact Nat.mod_eq_of_lt ha
  have qualifies : (s.committedAt act valid).timeQualifies = s.timeQualifies := by
    rw [State.timeQualifies, State.flag, State.flag, kept (by decide) (by decide) (by decide) (by decide),
      kept (by decide) (by decide) (by decide) (by decide), State.timeQualifies, State.flag, State.flag]
  have now : (s.committedAt act valid).now = s.now := by
    rw [State.now, kept (by decide) (by decide) (by decide) (by decide), State.now]
  rw [State.flag, marked, due, qualifies, now]
  simp [bits, bit, and_assoc]

end Target

/-- A report may be counted in a cell of another field, but no cell that it meets grows beyond its byte. -/
theorem State.upNote_slot {die addr k : Nat} (hs : s.get UP_SLOT < 8) : (s.upNote die addr (some k)).get UP_SLOT < 256 := by
  have noted (u : State) (i : Nat) (hu : u.get UP_SLOT < 256) : (u.orBit UP_REP k i).get UP_SLOT < 256 := by
    by_cases same : UP_SLOT.key 0 = UP_REP.key i
    · have met : (u.orBit UP_REP k i).get UP_SLOT = (u.orBit UP_REP k i).get UP_REP i := by
        rw [State.get, State.get, same]
        rfl
      rw [met, State.orBit, State.get_put_self]
      exact Nat.mod_lt _ (Nat.two_pow_pos _)
    · rwa [State.get_orBit_ne _ _ same]
  have tallied (u : State) : u.upTally.get UP_SLOT = u.get UP_SLOT := by
    rw [State.upTally, State.get_put_ne _ _ (by decide), State.get_put_ne _ _ (by decide), State.get_put_ne _ _ (by decide),
      State.get_put_ne _ _ (by decide)]
  unfold State.upNote
  dsimp only
  split
  · rw [tallied]
    refine foldl_keeps (fun u : State => u.get UP_SLOT < 256) _ (fun u x hu => ?_) _ s (hs.trans (by decide))
    split
    · exact noted u x.2 hu
    · exact hu
  · exact hs.trans (by decide)

end Committed

section Packets

variable {s t : State} {n : Fin 9} {p : Nat} {ok : Bool} (ha : Awake s)
include ha

theorem exec_prepare_head (hh : s.updHead n 0x15 = some (p, t)) : exec (.prepare n) s = run s
    (if pkWord p 0 = t.upId && t.get GH_UPSTAT.STATE = usSTAGED then t.upPrepare.1.broadcast clUPD 0x16 t.upPrepare.2 else t) := by
  have body := exec_live (exec_prepare n s) ha
  rw [body]
  dsimp only
  rw [hh]

theorem prepare_other (hh : s.updHead n 0x15 = some (p, t)) (h : pkWord p 0 ≠ t.upId ∨ t.get GH_UPSTAT.STATE ≠ usSTAGED) :
    exec (.prepare n) s = run s t := by
  rw [exec_prepare_head ha hh, if_neg (by simpa [-not_and, not_and_or] using h)]

theorem prepare_votes (hh : s.updHead n 0x15 = some (p, t)) (hp : pkWord p 0 = t.upId) (hs : t.get GH_UPSTAT.STATE = usSTAGED) :
    Answers (.prepare n) s fun v => v.get GH_UPSTAT.STATE = usPREPARED ∧
      ∀ o : Fin 8, t.alive o = true → t.get HX_PSTAT.CHILD o = 1 →
        (v.list HX_TX (16 * o + clUPD)).getLast? = some (t.ownPacket 255 clUPD 0x16 0 [t.upId, t.dieId,
          if t.recHolds (t.get GH_UPSTAT.AREA) then 1 else 2 ^ 16 * Rc.UP_FLASH_WRITE.num]) := by
  refine answers_run ((exec_prepare_head ha hh).trans (by rw [if_pos (by simp [hp, hs])])) fun v hv => ⟨?_, fun o live child => ?_⟩
  · rw [hv.get (by decide), State.broadcast_get, State.upPrepare_state]
  · have kept {g : Field} (hg : g.clearOf 8 stateFields = true) : t.upPrepare.1.get g o = t.get g o :=
      State.upPrepare_get hg o.isLt
    have addr : t.upPrepare.1.hxAddr = t.hxAddr := State.upPrepare_get (n := 1) (by decide) Nat.one_pos
    have alive : t.upPrepare.1.alive o = true := by
      rwa [State.alive, State.flag, kept (by decide)]
    rw [hv.list, State.broadcast_last (by simp [State.upPrepare_vote]) (by decide) alive ((kept (by decide)).trans child),
      State.ownPacket_congr addr, State.upPrepare_vote]

theorem exec_vote_head (hh : s.updHead n 0x16 = some (p, t)) : exec (.vote n ok) s = run s
    (if pkWord p 0 ≠ t.upId || t.get UP_STEP ≠ 3 || t.get GH_UPSTAT.STATE ≠ usPREPARED then t
      else if bit (pkWord p 2) 0 then
        let u := t.upNote (pkWord p 1) (pkSrc p) (some 3)
        if (List.range (u.upEntries 1).length).all fun i => bit (u.get UP_REP i) 3 then u.upCommit ok else u
      else t.upDecideAbort (bits (pkWord p 2) 16 16)) := by
  have body := exec_live (exec_vote n ok s) ha
  rw [body]
  dsimp only
  rw [hh]

theorem vote_closed (hh : s.updHead n 0x16 = some (p, t))
    (h : ¬(pkWord p 0 = t.upId ∧ t.get UP_STEP = 3 ∧ t.get GH_UPSTAT.STATE = usPREPARED)) : exec (.vote n ok) s = run s t := by
  rw [exec_vote_head ha hh, if_pos]
  simpa [-not_and, not_and_or, or_assoc] using h

section Open

variable (hh : s.updHead n 0x16 = some (p, t)) (hi : pkWord p 0 = t.upId) (hs : t.get UP_STEP = 3)
  (hst : t.get GH_UPSTAT.STATE = usPREPARED)
include hh hi hs hst

theorem vote_against (hl : t.get UP_SLOT < 8) (hv : bit (pkWord p 2) 0 = false) : Answers (.vote n ok) s fun v =>
    v.get GH_UPSTAT.STATE = usIDLE ∧ v.get GH_UPSTAT.COORD = 0 ∧
      (t.get CMD_OP = 7 → v.get GH_STATUS.STATE = 3 ∧ v.get CMD_OP = 0) := by
  have body := exec_vote_head (ok := ok) ha hh
  rw [if_neg (by simp [hi, hs, hst]), if_neg (by simp [hv])] at body
  refine answers_run body fun v hd => ?_
  rw [hd.get (by decide), hd.get (by decide), hd.get (by decide), hd.get (by decide)]
  exact State.upDecideAbort_shows hl _

theorem vote_awaits (hv : bit (pkWord p 2) 0 = true)
    (hr : ∃ i, i < ((t.upNote (pkWord p 1) (pkSrc p) (some 3)).upEntries 1).length ∧
      bit ((t.upNote (pkWord p 1) (pkSrc p) (some 3)).get UP_REP i) 3 = false) :
    exec (.vote n ok) s = run s (t.upNote (pkWord p 1) (pkSrc p) (some 3)) := by
  rw [exec_vote_head ha hh, if_neg (by simp [hi, hs, hst]), if_pos hv]
  dsimp only
  rw [if_neg]
  obtain ⟨i, bound, missing⟩ := hr
  intro all
  exact absurd (List.all_eq_true.mp all i (List.mem_range.mpr bound)) (by simp [missing])

theorem vote_commits (hl : t.get UP_SLOT < 8) (hv : bit (pkWord p 2) 0 = true)
    (hr : ∀ i, i < ((t.upNote (pkWord p 1) (pkSrc p) (some 3)).upEntries 1).length →
      bit ((t.upNote (pkWord p 1) (pkSrc p) (some 3)).get UP_REP i) 3 = true) (hok : ok = true) :
    Answers (.vote n ok) s fun v => v.get UP_STEP = 4 ∧ v.get GH_UPSTAT.STATE = usCOMMITTED ∧ v.mem = t.upBootRecord.mem := by
  have body := exec_vote_head (ok := ok) ha hh
  rw [if_neg (by simp [hi, hs, hst]), if_pos hv, hok] at body
  dsimp only at body
  rw [if_pos (List.all_eq_true.mpr fun i hm => hr i (List.mem_range.mp hm)), ← hok] at body
  refine answers_run body fun v hd => ?_
  rw [hok] at hd
  rw [hd.get (by decide), hd.get (by decide), hd.mem]
  obtain ⟨step, state, mem⟩ := State.upCommit_commits (State.upNote_slot (die := pkWord p 1) (addr := pkSrc p) (k := 3) hl)
  refine ⟨step, state, mem.trans ?_⟩
  have same : t.SameFlash (t.upNote (pkWord p 1) (pkSrc p) (some 3)) :=
    ⟨(mem_ring_of_stored (State.upNote_stored _)).1, State.upNote_get _ (n := 1) (by decide) Nat.one_pos,
      State.upNote_get _ (n := 1) (by decide) Nat.one_pos⟩
  rw [State.upBootRecord, same.writeBoot, same.brUsed, State.upNote_get _ (n := 1) (by decide) Nat.one_pos, State.upBootRecord]

end Open

theorem exec_upCommit_head (hh : s.updHead n 0x17 = some (p, t)) : exec (.upCommit n ok) s = run s
    (if pkWord p 0 ≠ t.upId || t.flag GH_UPSTAT.COORD then t
      else if t.get GH_UPSTAT.STATE ≠ usPREPARED then t
      else if !ok then t.upBootRecord.upStop Rc.UP_FLASH_WRITE
      else
        let u := ((t.upBootRecord.put UP_ACT (pkWord p 1)).put UP_ACTV (bits (pkWord p 2) 0 1)).upCommitted
        if u.upRank ≠ 0 then u
        else if u.flag UP_ACTV && u.timeQualifies && u.now / 2 ^ 16 < u.get UP_ACT then u.put UP_WAITS 1
        else u.warmReset 3) := by
  have body := exec_live (exec_upCommit n ok s) ha
  rw [body]
  dsimp only
  rw [hh]

theorem upCommit_other (hh : s.updHead n 0x17 = some (p, t))
    (h : ¬(pkWord p 0 = t.upId ∧ t.get GH_UPSTAT.COORD ≠ 1 ∧ t.get GH_UPSTAT.STATE = usPREPARED)) :
    exec (.upCommit n ok) s = run s t := by
  rw [exec_upCommit_head ha hh]
  by_cases other : (pkWord p 0 ≠ t.upId || t.flag GH_UPSTAT.COORD) = true
  · rw [if_pos other]
  · rw [if_neg other, if_pos]
    simp only [State.flag, Bool.or_eq_true, decide_eq_true_eq, not_or, ne_eq, not_not] at other
    exact fun prepared => h ⟨other.1, other.2, prepared⟩

section Told

variable (hh : s.updHead n 0x17 = some (p, t)) (hi : pkWord p 0 = t.upId) (hc : t.get GH_UPSTAT.COORD ≠ 1)
  (hst : t.get GH_UPSTAT.STATE = usPREPARED)
include hh hi hc hst

theorem upCommit_fails (hok : ok = false) : Answers (.upCommit n ok) s fun v =>
    v.get GH_UPSTAT.STATE = usFAILED ∧ v.get GH_UPSTAT.LAST = Rc.UP_FLASH_WRITE.num % 2 ^ 16 := by
  have body := exec_upCommit_head (ok := ok) ha hh
  rw [if_neg (by simp [hi, State.flag, hc]), if_neg (by simp [hst]), if_pos (by simp [hok])] at body
  refine answers_run body fun v hd => ⟨(hd.get (by decide)).trans (State.upSet_state (by decide)), ?_⟩
  rw [hd.get (by decide), State.upStop, State.upSet_get (n := 1) (by decide) (by decide) Nat.one_pos, State.get_put_self]
  rfl

/-- The target's boot record is written; what follows goes by its rank and its time. -/
theorem upCommit_done (hok : ok = true) : exec (.upCommit n ok) s = run s
    (let u := t.committedAt (pkWord p 1) (bits (pkWord p 2) 0 1)
     if u.upRank ≠ 0 then u
     else if u.flag UP_ACTV && u.timeQualifies && u.now / 2 ^ 16 < u.get UP_ACT then u.put UP_WAITS 1
     else u.warmReset 3) := by
  rw [exec_upCommit_head ha hh, if_neg (by simp [hi, State.flag, hc]), if_neg (by simp [hst]), if_neg (by simp [hok])]
  rfl

variable (hl : t.get UP_SLOT < 8)
include hl

theorem upCommit_ranked (hok : ok = true) (hr : t.upRank ≠ 0) : Answers (.upCommit n ok) s fun v =>
    v.get GH_UPSTAT.STATE = usCOMMITTED ∧ v.get RESETTING = t.get RESETTING ∧ v.mem = t.upBootRecord.mem := by
  have body := upCommit_done ha hh hi hc hst hok
  dsimp only at body
  rw [State.committedAt_rank hl hc, if_pos hr] at body
  refine answers_run body fun v hd => ⟨(hd.get (by decide)).trans State.committedAt_state, ?_, hd.mem.trans State.committedAt_mem⟩
  rw [hd.get (by decide), State.committedAt_get hl hc (by decide) (by decide) (by decide) (by decide)]

theorem upCommit_waits (hok : ok = true) (hr : t.upRank = 0)
    (hw : bit (pkWord p 2) 0 = true ∧ t.timeQualifies = true ∧ t.now / 2 ^ 16 < pkWord p 1) :
    Answers (.upCommit n ok) s fun v => v.get GH_UPSTAT.STATE = usCOMMITTED ∧ v.get UP_WAITS = 1 ∧
      v.get UP_ACT = pkWord p 1 ∧ v.mem = t.upBootRecord.mem := by
  have body := upCommit_done ha hh hi hc hst hok
  have act : pkWord p 1 < 2 ^ 64 := bits_lt _ _ 64
  dsimp only at body
  rw [State.committedAt_rank hl hc, if_neg (by simp [hr]), if_pos ((State.committedAt_waits hl hc rfl act).mpr hw)] at body
  refine answers_run body fun v hd => ⟨?_, ?_, ?_, hd.mem.trans ?_⟩
  · rw [hd.get (by decide), State.get_put_ne _ _ (by decide), State.committedAt_state]
  · rw [hd.get (by decide), State.get_put_self]
    rfl
  · rw [hd.get (by decide), State.get_put_ne _ _ (by decide), State.committedAt_put hl hc (by decide),
      State.get_put_ne _ _ (by decide), State.get_put_self]
    exact Nat.mod_eq_of_lt act
  · exact State.committedAt_mem

theorem upCommit_resets (hok : ok = true) (hr : t.upRank = 0)
    (hw : ¬(bit (pkWord p 2) 0 = true ∧ t.timeQualifies = true ∧ t.now / 2 ^ 16 < pkWord p 1)) (hz : t.get RESETTING = 0) :
    Answers (.upCommit n ok) s fun v => v.get RESETTING = 1 := by
  have body := upCommit_done ha hh hi hc hst hok
  have act : pkWord p 1 < 2 ^ 64 := bits_lt _ _ 64
  dsimp only at body
  rw [State.committedAt_rank hl hc, if_neg (by simp [hr]),
    if_neg fun h => hw ((State.committedAt_waits hl hc rfl act).mp h)] at body
  refine answers_run body fun v hd => (hd.get (by decide)).trans (State.warmReset_begins ?_ 3)
  rwa [State.committedAt_get hl hc (by decide) (by decide) (by decide) (by decide)]

end Told

/-! The ABORT packet. -/

theorem exec_abortPacket_head (hh : s.updHead n 0x18 = some (p, t)) : exec (.abortPacket n) s = run s
    (if t.flag UP_ASKED && pkWord p 0 = t.get UP_NEWID then t.upClear
      else if pkWord p 0 ≠ t.upId || t.get GH_UPSTAT.STATE = usIDLE || usLATE.contains (t.get GH_UPSTAT.STATE) ||
        t.flag GH_UPSTAT.COORD then t
      else t.upAborted) := by
  have body := exec_live (exec_abortPacket n s) ha
  rw [body]
  dsimp only
  rw [hh]

theorem abortPacket_asked (hh : s.updHead n 0x18 = some (p, t)) (hk : t.get UP_ASKED = 1) (hi : pkWord p 0 = t.get UP_NEWID) :
    Answers (.abortPacket n) s fun v => v.get UP_ASKED = 0 ∧ v.list UP_PRO = [] := by
  have body := exec_abortPacket_head ha hh
  rw [if_pos (by simp [State.flag, hk, hi])] at body
  refine answers_run body fun v hd => ⟨(hd.get (by decide)).trans State.upClear_asked, ?_⟩
  rw [hd.list, State.upClear_list (by simp)]

theorem abortPacket_aborts (hh : s.updHead n 0x18 = some (p, t)) (hs : t.get UP_SLOT < 8) (hk : t.get UP_ASKED ≠ 1)
    (hi : pkWord p 0 = t.upId) (hl : t.get GH_UPSTAT.STATE ∉ usLATE) (hc : t.get GH_UPSTAT.COORD ≠ 1) :
    Answers (.abortPacket n) s fun v => v.get GH_UPSTAT.STATE = usIDLE := by
  have body := exec_abortPacket_head ha hh
  rw [if_neg (by simp [State.flag, hk])] at body
  by_cases idle : t.get GH_UPSTAT.STATE = usIDLE
  · rw [if_pos (by simp [idle])] at body
    exact answers_run body fun v hd => (hd.get (by decide)).trans idle
  · rw [if_neg (by simp [State.flag, hi, idle, hl, hc])] at body
    exact answers_run body fun v hd => (hd.get (by decide)).trans (State.upAborted_state hs)

theorem abortPacket_other (hh : s.updHead n 0x18 = some (p, t)) (hk : t.get UP_ASKED ≠ 1)
    (h : pkWord p 0 ≠ t.upId ∨ t.get GH_UPSTAT.STATE ∈ usLATE) : exec (.abortPacket n) s = run s t := by
  rw [exec_abortPacket_head ha hh, if_neg (by simp [State.flag, hk]), if_pos]
  obtain other | late := h
  · simp [other]
  · simp [late]

end Packets

/-! The timers. -/

section Timers

variable {s : State} (ha : Awake s)
include ha

theorem voteTExpiry_aborts (hs : s.get UP_STEP = 3) (hl : s.get UP_SLOT < 8) : Answers .voteTExpiry s fun t =>
    t.get GH_UPSTAT.STATE = usIDLE ∧ t.get GH_UPSTAT.COORD = 0 ∧ (s.get CMD_OP = 7 → t.get GH_STATUS.STATE = 3) := by
  refine answers_live_delivers (exec_voteTExpiry s) ha fun t ht => ?_
  replace ht : (s.upDecideAbort 0).Delivers t := by rwa [if_pos hs] at ht
  obtain ⟨state, coord, failed⟩ := State.upDecideAbort_shows hl 0
  rw [ht.get (by decide), ht.get (by decide), ht.get (by decide)]
  exact ⟨state, coord, fun waits => (failed waits).1⟩

theorem voteTExpiry_idle (hs : s.get UP_STEP ≠ 3) : Answers .voteTExpiry s fun t => s.Frame t [] := by
  refine answers_live_delivers (exec_voteTExpiry s) ha fun t ht => ?_
  rw [if_neg hs] at ht
  exact ht.frame (s.frame_refl [])

theorem actTime_resets (hs : s.get GH_UPSTAT.STATE = usCOMMITTED) (h : s.get UP_WAITS = 1 ∨ s.get UP_GO = 1) :
    Answers .actTime s fun t => t.get RESETTING = 1 := by
  refine answers_live_delivers (exec_actTime s) ha fun t ht => ?_
  rw [if_pos (by simpa [State.flag, hs] using h)] at ht
  exact (ht.get (by decide)).trans (State.warmReset_begins ha 3)

theorem actTime_idle (hs : s.get GH_UPSTAT.STATE ≠ usCOMMITTED) : Answers .actTime s fun t => s.Frame t [] := by
  refine answers_live_delivers (exec_actTime s) ha fun t ht => ?_
  rw [if_neg (by simp [hs])] at ht
  exact ht.frame (s.frame_refl [])

end Timers

/-- Settles O47: each clause by the decision that its command leads to. -/
theorem updateCommitsInTwoPhases : Obligations.UpdateCommitsInTwoPhases := by
  unfold Obligations.UpdateCommitsInTwoPhases
  intro s m
  refine ⟨fun hi => ⟨updateCommit_elsewhere hi, updateCommit_unstaged hi, updateCommit_prepares hi⟩, fun hi hs => ?_,
    fun ha n p t => ?_, fun ha => ⟨voteTExpiry_aborts ha, voteTExpiry_idle ha, actTime_resets ha, actTime_idle ha⟩⟩
  · refine ⟨updateAbort_decides hi hs, updateAbort_forced hi hs, fun hd hf => ?_, fun hc hd => ?_⟩
    · obtain ⟨t, ran, state, done⟩ := updateAbort_leaves hi (.inl ⟨hd, hf⟩)
      exact ⟨t, ran, state.trans hd, done⟩
    · exact updateAbort_leaves hi (.inr ⟨hc, hd⟩)
  · refine ⟨fun hh => ⟨prepare_other ha hh, prepare_votes ha hh⟩, fun ok hh => ⟨vote_closed ha hh, ?_⟩,
      fun ok hh => ⟨upCommit_other ha hh, ?_, ?_⟩, fun hh hs => ⟨abortPacket_asked ha hh, abortPacket_aborts ha hh hs,
        abortPacket_other ha hh⟩⟩
    · rintro ⟨hi, step, state⟩ hl
      exact ⟨vote_against ha hh hi step state hl, fun hv => ⟨vote_commits ha hh hi step state hl hv,
        vote_awaits ha hh hi step state hv⟩⟩
    · rintro ⟨hi, hc, state⟩
      exact upCommit_fails ha hh hi hc state
    · rintro ⟨hi, hc, state⟩ hok hl
      exact ⟨upCommit_ranked ha hh hi hc state hl hok, upCommit_waits ha hh hi hc state hl hok,
        upCommit_resets ha hh hi hc state hl hok⟩

end Sys2Proof.Machine
end

section
/-! O48: updates are activated, confirmed or reverted, in-doubt devices ask, and the settings are written and saved
(R724 to R734). -/

namespace Sys2Proof.Machine

/-! A device that confirms or reverts. -/

section Trial

variable {s : State} {g : Field}

theorem State.upIdle_stored : s.upIdle.stored = s.stored := by
  rw [State.upIdle, State.upClear_stored, State.upSet_stored]

theorem State.settingsSave_get {l : List (Nat × List Nat)} {j : Nat} (hc : g.key j ≠ SET_COPY.key 0)
    (hd : g.key j ≠ GH_SETCTL.DIRTY.key 0) : (s.settingsSave l).get g j = s.get g j := by
  unfold State.settingsSave
  dsimp only
  rw [State.get_put_ne _ _ hd, State.get_put_ne _ _ hc, State.flashPut_get]

/-- The boot record and the anti-rollback count of a confirmed update (R727). -/
def State.confirmWritten (s : State) : State :=
  let w := s.writeBoot s.brActive false true
  w.put GH_ARB.COUNT (max (w.get GH_ARB.COUNT) (w.proLE 16 4 % 2 ^ 7))

/-- The migrated settings are saved with it. -/
def State.confirmSaved (s : State) : State :=
  if s.flag SET_MIGRATED then (match s.setRecords with | some l => s.settingsSave l | none => s) else s

theorem State.upConfirm_started (h : s.get GH_UPSTAT.STATE = usSTARTED) : s.upConfirm =
    (((s.confirmWritten.confirmSaved.put SET_MIGRATED 0).put GH_UPTRIAL.REMAIN 0).upLog Rc.UP_CONFIRMED).upIdle := by
  unfold State.upConfirm
  dsimp only
  rw [if_neg (by rw [h]; decide), if_pos h]
  refine congrArg (fun u : State => (((u.put SET_MIGRATED 0).put GH_UPTRIAL.REMAIN 0).upLog Rc.UP_CONFIRMED).upIdle) ?_
  unfold State.confirmWritten
  dsimp only
  generalize (s.writeBoot s.brActive false true).put GH_ARB.COUNT _ = w
  unfold State.confirmSaved
  cases w.setRecords <;> rfl

theorem State.confirmSaved_get {j : Nat} (hc : g.key j ≠ SET_COPY.key 0) (hd : g.key j ≠ GH_SETCTL.DIRTY.key 0) :
    s.confirmSaved.get g j = s.get g j := by
  unfold State.confirmSaved
  split
  · split
    · exact State.settingsSave_get hc hd
    · rfl
  · rfl

theorem State.confirmWritten_get {j : Nat} (hb : g.key j ≠ BR_COPY.key 0) (hc : g.key j ≠ GH_ARB.COUNT.key 0) :
    s.confirmWritten.get g j = s.get g j := by
  rw [State.confirmWritten, State.get_put_ne _ _ hc, State.writeBoot_get _ _ _ hb]

theorem State.confirmWritten_count :
    s.confirmWritten.get GH_ARB.COUNT = max (s.get GH_ARB.COUNT) (s.proLE 16 4 % 2 ^ 7) % 2 ^ 7 := by
  have bytes : (s.writeBoot s.brActive false true).proLE = s.proLE := State.proLE_congr (State.writeBoot_list ..)
  rw [State.confirmWritten, State.get_put_self, State.writeBoot_get _ _ _ (by decide), bytes]
  rfl

theorem State.upConfirm_shows (h : s.get GH_UPSTAT.STATE = usSTARTED) (hs : s.get UP_SLOT < 8) :
    s.upConfirm.get GH_UPSTAT.STATE = usIDLE ∧ s.upConfirm.get GH_UPTRIAL.REMAIN = 0 ∧
    s.upConfirm.get GH_ARB.COUNT = max (s.get GH_ARB.COUNT) (s.proLE 16 4 % 2 ^ 7) % 2 ^ 7 ∧
    (s.get SET_MIGRATED ≠ 1 → s.upConfirm.mem = (s.writeBoot s.brActive false true).mem) := by
  rw [State.upConfirm_started h]
  have slot : (((s.confirmWritten.confirmSaved.put SET_MIGRATED 0).put GH_UPTRIAL.REMAIN 0).upLog Rc.UP_CONFIRMED).get
      UP_SLOT < 8 := by
    rwa [State.upLog_get (by decide), State.get_put_ne _ _ (by decide), State.get_put_ne _ _ (by decide),
      State.confirmSaved_get (by decide) (by decide), State.confirmWritten_get (by decide) (by decide)]
  refine ⟨State.upIdle_state slot, ?_, ?_, fun hm => (mem_ring_of_stored ?_).1⟩
  · rw [State.upIdle_get slot (by decide), State.upLog_get (by decide), State.get_put_self]
    rfl
  · rw [State.upIdle_get slot (by decide), State.upLog_get (by decide), State.get_put_ne _ _ (by decide),
      State.get_put_ne _ _ (by decide), State.confirmSaved_get (by decide) (by decide), State.confirmWritten_count]
  · have unsaved : s.confirmWritten.confirmSaved = s.confirmWritten := by
      refine if_neg ?_
      rwa [State.flag, State.confirmWritten_get (by decide) (by decide), decide_eq_true_eq]
    rw [State.upIdle_stored, State.upLog_stored, State.put_stored, State.put_stored, unsaved, State.confirmWritten,
      State.put_stored]

/-- Whether the last boot record that is written allows the fallback. -/
def State.fallbackAllowed (s : State) : Bool := match s.brUsed with | some c => bit (s.brFlags c) 1 | none => true

/-- A reverting device out of its session (R728). -/
def State.reverted (s : State) : State :=
  (((s.writeBoot (1 - s.brActive) false s.fallbackAllowed).put GH_UPTRIAL.REMAIN 0).upLog Rc.UP_REVERTED).upIdle

section Revert

variable (hs : s.get UP_SLOT < 8)

theorem State.upRevert_trial (hp : s.get GH_UPSTAT.STATE ≠ usPASS) (ht : s.brTrial = true) (hf : s.get FLASH_OK = 1) :
    s.upRevert = if s.reverted.get UP_BOOT = s.brActive + 1 then s.reverted.warmReset 3 else s.reverted :=
  (if_neg hp).trans (if_pos (by simp [ht, hf]))

include hs

theorem State.reverted_slot :
    (((s.writeBoot (1 - s.brActive) false s.fallbackAllowed).put GH_UPTRIAL.REMAIN 0).upLog Rc.UP_REVERTED).get UP_SLOT < 8 := by
  rwa [State.upLog_get (by decide), State.get_put_ne _ _ (by decide), State.writeBoot_get _ _ _ (by decide)]

theorem State.reverted_get (hg : g.outlives = true) (hc : g.clearOf 1 [(BR_COPY, 1), (GH_UPTRIAL.REMAIN, 1)] = true) :
    s.reverted.get g = s.get g := by
  have apart {f : Field} (hf : (f, 1) ∈ [(BR_COPY, 1), (GH_UPTRIAL.REMAIN, 1)]) : g.key 0 ≠ f.key 0 :=
    Field.key_clearOf hc Nat.one_pos (List.mem_append_left _ hf) Nat.one_pos
  rw [State.reverted, State.upIdle_get (State.reverted_slot hs) hg,
    State.upLog_get (Field.clearOf_mono (List.nil_subset _) hc), State.get_put_ne _ _ (apart (by simp)),
    State.writeBoot_get _ _ _ (apart (by simp))]

theorem State.reverted_shows : s.reverted.get GH_UPSTAT.STATE = usIDLE ∧ s.reverted.get GH_UPTRIAL.REMAIN = 0 := by
  refine ⟨State.upIdle_state (State.reverted_slot hs), ?_⟩
  rw [State.reverted, State.upIdle_get (State.reverted_slot hs) (by decide), State.upLog_get (by decide), State.get_put_self]
  rfl

theorem State.upRevert_resets (hp : s.get GH_UPSTAT.STATE ≠ usPASS) (ht : s.brTrial = true) (hf : s.get FLASH_OK = 1)
    (hb : s.get UP_BOOT = s.brActive + 1) (hz : s.get RESETTING = 0) : s.upRevert.get RESETTING = 1 := by
  rw [State.upRevert_trial hp ht hf, if_pos (by rw [State.reverted_get hs (by decide) (by decide), hb])]
  exact State.warmReset_begins (by rw [State.reverted_get hs (by decide) (by decide), hz]) 3

theorem State.upRevert_stays (hp : s.get GH_UPSTAT.STATE ≠ usPASS) (ht : s.brTrial = true) (hf : s.get FLASH_OK = 1)
    (hb : s.get UP_BOOT ≠ s.brActive + 1) : s.upRevert = s.reverted := by
  rw [State.upRevert_trial hp ht hf, if_neg (by rwa [State.reverted_get hs (by decide) (by decide)])]

end Revert

end Trial

/-! The update packets. -/

section Packets

variable {s t : State} {n : Fin 9} {p : Nat} (ha : Awake s)
include ha

theorem exec_activate_head (hh : s.updHead n 0x19 = some (p, t)) : exec (.activate n) s = run s
    (if pkWord p 0 ≠ t.upId || t.flag GH_UPSTAT.COORD then t else t.upActivate busPeek (bits (pkWord p 1) 0 8)) := by
  have body := exec_live (exec_activate n s) ha
  rw [body]
  rw [hh]

theorem activate_other (hh : s.updHead n 0x19 = some (p, t)) (h : pkWord p 0 ≠ t.upId ∨ t.get GH_UPSTAT.COORD = 1 ∨
    t.upRank ≠ bits (pkWord p 1) 0 8 ∨ t.get GH_UPSTAT.STATE ≠ usCOMMITTED) : exec (.activate n) s = run s t := by
  rw [exec_activate_head ha hh]
  obtain other | coord | unnamed := h
  · rw [if_pos (by simp [other])]
  · rw [if_pos (by simp [State.flag, coord])]
  · have unmoved : t.upActivate busPeek (bits (pkWord p 1) 0 8) = t := by
      refine if_pos ?_
      obtain rank | state := unnamed
      · simp [rank]
      · simp [state]
    rw [unmoved, ite_self]

theorem activate_resets (hh : s.updHead n 0x19 = some (p, t)) (hi : pkWord p 0 = t.upId) (hc : t.get GH_UPSTAT.COORD ≠ 1)
    (hr : t.upRank = bits (pkWord p 1) 0 8) (hn : bits (pkWord p 1) 0 8 ≠ 0) (hs : t.get GH_UPSTAT.STATE = usCOMMITTED)
    (hm : t.get MI_CFG.EN = 0) (hz : t.get RESETTING = 0) : Answers (.activate n) s fun v => v.get RESETTING = 1 := by
  have body := exec_activate_head ha hh
  have moved : t.upActivate busPeek (bits (pkWord p 1) 0 8) = t.warmReset 3 :=
    (if_neg (by simp [hs, hr, hn])).trans ((if_neg (by simp [State.flag, hm])).trans (if_neg (by simp [State.flag, hc])))
  rw [if_neg (by simp [State.flag, hi, hc]), moved] at body
  exact answers_run body fun v hd => (hd.get (by decide)).trans (State.warmReset_begins hz 3)

theorem exec_confirm_head (hh : s.updHead n 0x1A = some (p, t)) : exec (.confirm n) s = run s
    (if pkWord p 0 = t.upId && !t.flag GH_UPSTAT.COORD then t.upConfirm else t) := by
  have body := exec_live (exec_confirm n s) ha
  rw [body]
  rw [hh]

theorem confirm_other (hh : s.updHead n 0x1A = some (p, t)) (h : pkWord p 0 ≠ t.upId ∨ t.get GH_UPSTAT.COORD = 1) :
    exec (.confirm n) s = run s t := by
  rw [exec_confirm_head ha hh, if_neg]
  obtain other | coord := h
  · simp [other]
  · simp [State.flag, coord]

theorem exec_revert_head (hh : s.updHead n 0x1B = some (p, t)) : exec (.revert n) s = run s
    (if pkWord p 0 = t.upId && !t.flag GH_UPSTAT.COORD then t.upRevert else t) := by
  have body := exec_live (exec_revert n s) ha
  rw [body]
  rw [hh]

theorem revert_other (hh : s.updHead n 0x1B = some (p, t)) (h : pkWord p 0 ≠ t.upId ∨ t.get GH_UPSTAT.COORD = 1) :
    exec (.revert n) s = run s t := by
  rw [exec_revert_head ha hh, if_neg]
  obtain other | coord := h
  · simp [other]
  · simp [State.flag, coord]

section Named

variable (hi : pkWord p 0 = t.upId) (hc : t.get GH_UPSTAT.COORD ≠ 1) (hs : t.get UP_SLOT < 8)
include hi hc hs

theorem confirm_leaves (hh : s.updHead n 0x1A = some (p, t)) (hp : t.get GH_UPSTAT.STATE = usPASS) :
    Answers (.confirm n) s fun v => v.get GH_UPSTAT.STATE = usIDLE := by
  have body := exec_confirm_head ha hh
  rw [if_pos (by simp [State.flag, hi, hc]), show t.upConfirm = t.upIdle from if_pos hp] at body
  exact answers_run body fun v hd => (hd.get (by decide)).trans (State.upIdle_state hs)

theorem confirm_ends (hh : s.updHead n 0x1A = some (p, t)) (hst : t.get GH_UPSTAT.STATE = usSTARTED) :
    Answers (.confirm n) s fun v => v.get GH_UPSTAT.STATE = usIDLE ∧ v.get GH_UPTRIAL.REMAIN = 0 ∧
      v.get GH_ARB.COUNT = max (t.get GH_ARB.COUNT) (t.proLE 16 4 % 2 ^ 7) % 2 ^ 7 ∧
      (t.get SET_MIGRATED ≠ 1 → v.mem = (t.writeBoot t.brActive false true).mem) := by
  have body := exec_confirm_head ha hh
  rw [if_pos (by simp [State.flag, hi, hc])] at body
  refine answers_run body fun v hd => ?_
  rw [hd.get (by decide), hd.get (by decide), hd.get (by decide), hd.mem]
  exact State.upConfirm_shows hst hs

section Trial

variable (hh : s.updHead n 0x1B = some (p, t)) (hp : t.get GH_UPSTAT.STATE ≠ usPASS) (ht : t.brTrial = true)
  (hf : t.get FLASH_OK = 1)
include hh hp ht hf

theorem revert_resets (hz : t.get RESETTING = 0) (hb : t.get UP_BOOT = t.brActive + 1) :
    Answers (.revert n) s fun v => v.get RESETTING = 1 := by
  have body := exec_revert_head ha hh
  rw [if_pos (by simp [State.flag, hi, hc])] at body
  exact answers_run body fun v hd => (hd.get (by decide)).trans (State.upRevert_resets hs hp ht hf hb hz)

theorem revert_stays (hb : t.get UP_BOOT ≠ t.brActive + 1) :
    Answers (.revert n) s fun v => v.get GH_UPSTAT.STATE = usIDLE ∧ v.get GH_UPTRIAL.REMAIN = 0 := by
  have body := exec_revert_head ha hh
  rw [if_pos (by simp [State.flag, hi, hc]), State.upRevert_stays hs hp ht hf hb] at body
  refine answers_run body fun v hd => ?_
  rw [hd.get (by decide), hd.get (by decide)]
  exact State.reverted_shows hs

end Trial

end Named

/-! In doubt. -/

theorem exec_query_head (hh : s.updHead n 0x1C = some (p, t)) : exec (.query n) s = run s
    (let holds (x : Nat) : Bool := t.get FLASH_OK = 1 && t.recGood x && t.flashLE (t.recBase x + 8) 8 = pkWord p 0
     if t.brUsed.isSome && holds t.brActive then t.broadcast clUPD 0x1D [pkWord p 0, 1]
     else if t.get UP_STEP ≠ 3 && t.brUsed.isSome && holds (1 - t.brActive) &&
         bit (t.load .flash (t.recBase (1 - t.brActive) + 7)) 0 then t.broadcast clUPD 0x1D [pkWord p 0, 0]
     else t) := by
  have body := exec_live (exec_query n s) ha
  rw [body]
  dsimp only
  rw [hh]

theorem query_answers (hh : s.updHead n 0x1C = some (p, t)) (hu : t.brUsed.isSome = true) (hd : t.get FLASH_OK = 1 ∧
    t.recGood t.brActive = true ∧ t.flashLE (t.recBase t.brActive + 8) 8 = pkWord p 0) :
    exec (.query n) s = run s (t.broadcast clUPD 0x1D [pkWord p 0, 1]) := by
  rw [exec_query_head ha hh]
  dsimp only
  rw [if_pos (by simp [hu, hd])]

theorem query_other (hh : s.updHead n 0x1C = some (p, t)) (hd : ¬(t.get FLASH_OK = 1 ∧ t.recGood t.brActive = true ∧
      t.flashLE (t.recBase t.brActive + 8) 8 = pkWord p 0))
    (ho : ¬(t.get FLASH_OK = 1 ∧ t.recGood (1 - t.brActive) = true ∧
      t.flashLE (t.recBase (1 - t.brActive) + 8) 8 = pkWord p 0)) : exec (.query n) s = run s t := by
  rw [exec_query_head ha hh]
  dsimp only
  rw [if_neg, if_neg]
  · simp only [Bool.and_eq_true, decide_eq_true_eq]
    rintro ⟨⟨-, ⟨flash, good⟩, id⟩, -⟩
    exact ho ⟨flash, good, id⟩
  · simp only [Bool.and_eq_true, decide_eq_true_eq]
    rintro ⟨-, ⟨flash, good⟩, id⟩
    exact hd ⟨flash, good, id⟩

theorem exec_answer_head (hh : s.updHead n 0x1D = some (p, t)) : exec (.answer n) s = run s
    (if pkWord p 0 ≠ t.upId || t.get GH_UPSTAT.STATE ≠ usINDOUBT then t
      else if bit (pkWord p 1) 0 then t.upBootRecord.upCommitted.warmReset 3 else t.upAborted) := by
  have body := exec_live (exec_answer n s) ha
  rw [body]
  rw [hh]

theorem answer_other (hh : s.updHead n 0x1D = some (p, t)) (h : pkWord p 0 ≠ t.upId ∨ t.get GH_UPSTAT.STATE ≠ usINDOUBT) :
    exec (.answer n) s = run s t := by
  rw [exec_answer_head ha hh, if_pos (by simpa using h)]

theorem answer_decides (hh : s.updHead n 0x1D = some (p, t)) (hi : pkWord p 0 = t.upId)
    (hd : t.get GH_UPSTAT.STATE = usINDOUBT) (hs : t.get UP_SLOT < 8) (hz : t.get RESETTING = 0) :
    (bit (pkWord p 1) 0 = true → Answers (.answer n) s fun v => v.get RESETTING = 1) ∧
    (bit (pkWord p 1) 0 = false → Answers (.answer n) s fun v => v.get GH_UPSTAT.STATE = usIDLE) := by
  have body := exec_answer_head ha hh
  rw [if_neg (by simp [hi, hd])] at body
  refine ⟨fun committed => ?_, fun aborted => ?_⟩
  · rw [if_pos committed] at body
    refine answers_run body fun v hd => (hd.get (by decide)).trans (State.warmReset_begins ?_ 3)
    have slot : t.upBootRecord.get UP_SLOT < 8 := by rwa [State.upBootRecord_get (by decide)]
    rw [State.upCommitted_get slot (by decide) (by decide), State.upBootRecord_get (by decide), hz]
  · rw [if_neg (by simp [aborted])] at body
    exact answers_run body fun v hd => (hd.get (by decide)).trans (State.upAborted_state hs)

end Packets

/-! The timers. -/

/-- The coordinator reverts the fabric: REVERT is broadcast, and it reverts itself. -/
theorem State.upDecide_revert (s : State) : s.upDecide false = (s.broadcast clUPD 0x1B [s.upId]).upRevert := by
  unfold State.upDecide
  simp only [Bool.false_eq_true, if_false]

section Timers

variable {s : State} (ha : Awake s)
include ha

theorem confirmTExpiry_idle (h : ¬(s.get GH_UPSTAT.COORD = 1 ∧ (s.get UP_STEP = 5 ∨ s.get UP_STEP = 4 ∧ s.get UP_RANK ≠ 0))) :
    Answers .confirmTExpiry s fun t => s.Frame t [] := by
  refine answers_live_delivers (exec_confirmTExpiry s) ha fun t ht => ?_
  dsimp only at ht
  rw [if_neg (by simpa [State.flag] using h)] at ht
  exact ht.frame (s.frame_refl [])

theorem confirmTExpiry_reverts (h : s.get GH_UPSTAT.COORD = 1 ∧ (s.get UP_STEP = 5 ∨ s.get UP_STEP = 4 ∧ s.get UP_RANK ≠ 0))
    (ht : s.get GH_UPSTAT.STATE ≠ usPASS ∧ s.brTrial = true ∧ s.get FLASH_OK = 1 ∧ s.get UP_SLOT < 8)
    (hb : s.get UP_BOOT = s.brActive + 1) : Answers .confirmTExpiry s fun t => t.get RESETTING = 1 := by
  obtain ⟨state, trial, flash, slot⟩ := ht
  refine answers_live_delivers (exec_confirmTExpiry s) ha fun t ht => ?_
  dsimp only at ht
  rw [if_pos (by simpa [State.flag] using h)] at ht
  have same : s.SameFlash (s.broadcast clUPD 0x1B [s.upId]) :=
    ⟨(mem_ring_of_stored (State.broadcast_stored _)).1, State.broadcast_get .., State.broadcast_get ..⟩
  rw [State.upDecide_revert] at ht
  refine (ht.get (by decide)).trans (State.upRevert_resets ?_ ?_ (same.brTrial.trans trial) ?_ ?_ ?_)
  · rwa [State.broadcast_get]
  · rwa [State.broadcast_get]
  · rwa [State.broadcast_get]
  · rw [State.broadcast_get, same.brActive, hb]
  · rw [State.broadcast_get]
    exact ha

theorem trialExpiry_idle (h : s.get GH_UPTRIAL.REMAIN = 0) : Answers .trialExpiry s fun t => s.Frame t [] := by
  refine answers_live_delivers (exec_trialExpiry s) ha fun t ht => ?_
  rw [if_pos h] at ht
  exact ht.frame (s.frame_refl [])

theorem trialExpiry_reverts (h : s.get GH_UPTRIAL.REMAIN ≠ 0)
    (ht : s.get GH_UPSTAT.STATE ≠ usPASS ∧ s.brTrial = true ∧ s.get FLASH_OK = 1 ∧ s.get UP_SLOT < 8)
    (hb : s.get UP_BOOT = s.brActive + 1) : Answers .trialExpiry s fun t => t.get RESETTING = 1 := by
  obtain ⟨state, trial, flash, slot⟩ := ht
  refine answers_live_delivers (exec_trialExpiry s) ha fun t ht => ?_
  rw [if_neg h] at ht
  have kept {g : Field} (hg : g.key 0 ≠ GH_UPTRIAL.REMAIN.key 0) : (s.put GH_UPTRIAL.REMAIN 0).get g = s.get g :=
    State.get_put_ne _ _ hg
  have same : s.SameFlash (s.put GH_UPTRIAL.REMAIN 0) := ⟨rfl, kept (by decide), kept (by decide)⟩
  refine (ht.get (by decide)).trans (State.upRevert_resets ?_ ?_ (same.brTrial.trans trial) ?_ ?_ ?_)
  · rwa [kept (by decide)]
  · rwa [kept (by decide)]
  · rwa [kept (by decide)]
  · rw [kept (by decide), same.brActive, hb]
  · rw [kept (by decide)]
    exact ha

theorem queryTimer_idle (h : s.get GH_UPSTAT.STATE ≠ usINDOUBT) : Answers .queryTimer s fun t => s.Frame t [] := by
  refine answers_live_delivers (exec_queryTimer s) ha fun t ht => ?_
  rw [if_neg h] at ht
  exact ht.frame (s.frame_refl [])

theorem queryTimer_asks (h : s.get GH_UPSTAT.STATE = usINDOUBT) : Answers .queryTimer s fun t => ∀ o : Fin 8,
    s.alive o = true → s.get HX_PSTAT.CHILD o = 1 →
      (t.list HX_TX (16 * o + clUPD)).getLast? = some (s.ownPacket 255 clUPD 0x1C 0 [s.upId, s.dieId]) := by
  refine answers_live_delivers (exec_queryTimer s) ha fun t ht o live child => ?_
  rw [if_pos h] at ht
  rw [ht.list]
  exact State.broadcast_last (by simp) (by decide) live child

end Timers

/-! The settings (R731, R734). -/

section Settings

variable {s : State} {m : Master}

/-- GH_SETADDR after an access to GH_SETDATA. -/
theorem State.setNext_address : s.setNext.get GH_SETADDR.ADDR =
    if s.get GH_SETADDR.INC = 1 then (s.get GH_SETADDR.ADDR + 4) % 2 ^ 16 else s.get GH_SETADDR.ADDR := by
  unfold State.setNext State.flag
  by_cases inc : s.get GH_SETADDR.INC = 1
  · rw [if_pos (by simp [inc]), if_pos inc, State.get_put_self]
    exact Nat.mod_mod _ _
  · rw [if_neg (by simp [inc]), if_neg inc]

theorem State.setNext_mem : s.setNext.mem = s.mem := by
  unfold State.setNext
  split <;> rfl

theorem State.setNext_get {g : Field} (hg : g.key 0 ≠ GH_SETADDR.ADDR.key 0) : s.setNext.get g = s.get g := by
  unfold State.setNext
  split
  · exact State.get_put_ne _ _ hg
  · rfl

theorem State.setNext_load (r : Region) (a : Nat) : s.setNext.load r a = s.load r a := by
  unfold State.setNext
  split
  · exact State.load_put (n := 1) (by decide) Nat.one_pos (fun _ => by decide) a
  · rfl

/-- The four bytes of a word in the settings image. -/
def State.setWord (s : State) (a w : Nat) : State :=
  (List.range 4).foldl (fun u i => u.store .settings (a + i) (w / 256 ^ i % 256)) s

theorem State.setWord_get (a w : Nat) (g : Field) (j : Nat) : (s.setWord a w).get g j = s.get g j :=
  foldl_keeps (fun u : State => u.get g j = s.get g j) (fun u i => u.store .settings (a + i) (w / 256 ^ i % 256))
    (fun _ _ h => h) _ s rfl

theorem State.setWord_self (a w : Nat) (i : Fin 4) : (s.setWord a w).load .settings (a + i) = w / 256 ^ i.val % 256 := by
  refine foldl_visit (a := i.val) List.nodup_range (List.mem_range.mpr i.isLt) (before := fun _ => True)
    (after := fun u : State => u.load .settings (a + i) = w / 256 ^ i.val % 256) (fun _ _ _ _ _ => trivial) ?_ ?_ trivial
  · intro u _
    rw [State.load_store_self]
    exact Nat.mod_eq_of_lt ((Nat.mod_lt _ (by decide)).trans (by decide))
  · intro u x _ other h
    rw [State.load_store_apart _ _ (by omega), h]

theorem State.setWord_apart {a w b : Nat} {r : Region}
    (h : ∀ i : Fin 4, Region.base r + b ≠ Region.base .settings + a + i) : (s.setWord a w).load r b = s.load r b := by
  have apart (u : State) {i : Nat} (hi : i < 4) (v : Nat) : (u.store .settings (a + i) v).load r b = u.load r b :=
    State.load_store_apart _ _ fun same => h ⟨i, hi⟩ (by simp only; omega)
  unfold State.setWord
  simp only [List.range_succ, List.range_zero, List.nil_append, List.foldl_append, List.foldl_cons, List.foldl_nil]
  rw [apart _ (by decide), apart _ (by decide), apart _ (by decide), apart _ (by decide)]

/-- What a write of GH_SETDATA leaves of an unlocked master's word. -/
theorem wrSetdata_stores (hu : s.unlocked m = true) (w : Nat) : wrSetdata m w s =
    (((s.setWord (s.get GH_SETADDR.ADDR) w).put GH_SETCTL.DIRTY 1).put GH_SETCTL.SCHEMA
      ((s.setWord (s.get GH_SETADDR.ADDR) w).load .settings 4 +
        256 * (s.setWord (s.get GH_SETADDR.ADDR) w).load .settings 5)).setNext := if_pos hu

theorem setdataAccess_writes {v : Word} (hw : Writes m 0xD8 s) (hu : s.unlocked m = true) :
    Answers (.setdataAccess m (some v)) s fun t =>
      (∀ i : Fin 4, t.load .settings (s.get GH_SETADDR.ADDR + i) = v.toNat / 256 ^ i.val % 256) ∧
      (∀ g b, (∀ i : Fin 4, Region.base g + b ≠ Region.base .settings + s.get GH_SETADDR.ADDR + i) →
        t.load g b = s.load g b) ∧ t.get GH_SETCTL.DIRTY = 1 ∧
      t.get GH_SETADDR.ADDR = (if s.get GH_SETADDR.INC = 1 then (s.get GH_SETADDR.ADDR + 4) % 2 ^ 16
        else s.get GH_SETADDR.ADDR) := by
  refine answers_write_delivers (exec_setdataAccess m (some v) s) hw fun t ht => ?_
  rw [wrSetdata_stores hu] at ht
  have loads (r : Region) (a : Nat) : t.load r a = (s.setWord (s.get GH_SETADDR.ADDR) v.toNat).load r a := by
    rw [ht.load, State.setNext_load, State.load_put (n := 1) (by decide) Nat.one_pos (fun _ => by decide),
      State.load_put (n := 1) (by decide) Nat.one_pos (fun _ => by decide)]
  refine ⟨fun i => (loads _ _).trans (State.setWord_self _ _ i), fun g b apart => (loads g b).trans (State.setWord_apart apart),
    ?_, ?_⟩
  · rw [ht.get (by decide), State.setNext_get (by decide), State.get_put_ne _ _ (by decide), State.get_put_self]
    rfl
  · rw [ht.get (by decide), State.setNext_address, State.get_put_ne _ _ (by decide), State.get_put_ne _ _ (by decide),
      State.get_put_ne _ _ (by decide), State.get_put_ne _ _ (by decide), State.setWord_get, State.setWord_get]

theorem setdataAccess_locked {v : Word} (hw : Writes m 0xD8 s) (hu : s.unlocked m = false) :
    Answers (.setdataAccess m (some v)) s fun t => t.mem = s.mem ∧ t.get GH_SETADDR.ADDR = s.get GH_SETADDR.ADDR := by
  refine answers_write_delivers (exec_setdataAccess m (some v) s) hw fun t ht => ?_
  have denied : wrSetdata m v.toNat s = s.writeDenied m 0xD8 0 := if_neg (by simp [hu])
  rw [denied] at ht
  refine ⟨ht.mem.trans (mem_ring_of_stored State.writeDenied_stored).1, ?_⟩
  rw [ht.get (by decide), State.writeDenied, State.get_put_ne _ _ (by decide), State.raise_get _ _ _ _ (by decide) (by decide)]

theorem setdataAccess_read (hr : Reads m 0xD8 s) : exec (.setdataAccess m none) s =
    run s ((rdSetdata m s).2.emit .busData [m.code, (rdSetdata m s).1]) :=
  exec_read (exec_setdataAccess m none s) hr

theorem setdataAccess_advances (hr : Reads m 0xD8 s) (hp : s.peeks m = false) (hi : s.get GH_SETADDR.INC = 1) :
    Answers (.setdataAccess m none) s fun t =>
      t.get GH_SETADDR.ADDR = (s.get GH_SETADDR.ADDR + 4) % 2 ^ 16 ∧ t.mem = s.mem := by
  refine answers_run (setdataAccess_read hr) fun t ht => ?_
  have read : (rdSetdata m s).2 = s.setNext := if_neg (by simp [hp])
  rw [read] at ht
  have address : t.get GH_SETADDR.ADDR = s.setNext.get GH_SETADDR.ADDR := ht.get (by decide)
  exact ⟨address.trans (State.setNext_address.trans (if_pos hi)), ht.mem.trans State.setNext_mem⟩

section Save

variable (hw : Writes m 0xDC s)
include hw

theorem save_refused (h : ¬(s.get GH_UPSTAT.STATE ≠ usTRIAL ∧ s.get GH_UPSTAT.STATE ≠ usSTARTED)) : Answers (.save m) s fun t =>
    t.get GH_REFUSE.CODE = Rc.UP_BUSY.num % 2 ^ 16 ∧ t.mem = s.mem := by
  refine answers_write_delivers (exec_save m s) hw fun t ht => ?_
  have refused : wrSetctl 1 s = s.refuseBy 0x11 Rc.UP_BUSY s.hxAddr s.upId := by
    unfold wrSetctl
    dsimp only
    rw [if_neg (by decide), if_pos (by simpa [-not_and, not_and_or] using h)]
  rw [refused] at ht
  exact ⟨(ht.get (by decide)).trans (State.refuseBy_code ..), ht.mem.trans (mem_ring_of_stored (State.refuseBy_stored _)).1⟩

omit hw in
theorem wrSetctl_save (h : s.get GH_UPSTAT.STATE ≠ usTRIAL ∧ s.get GH_UPSTAT.STATE ≠ usSTARTED) : wrSetctl 1 s = s.saveNow := by
  unfold wrSetctl
  dsimp only
  rw [if_neg (by decide), if_neg (by simp [h])]

variable (hs : s.get GH_UPSTAT.STATE ≠ usTRIAL ∧ s.get GH_UPSTAT.STATE ≠ usSTARTED)
include hs

theorem save_waits (hf : s.get FLASH_OK = 0) : Answers (.save m) s fun t => t.get UP_SAVE = 1 ∧ t.mem = s.mem := by
  refine answers_write_delivers (exec_save m s) hw fun t ht => ?_
  have waits : s.saveNow = s.put UP_SAVE 1 := by
    unfold State.saveNow
    rw [hf] <;> rfl
  rw [wrSetctl_save hs, waits] at ht
  exact ⟨(ht.get (by decide)).trans (State.get_put_self ..), ht.mem⟩

theorem save_absent (hf : s.get FLASH_OK = 2) : Answers (.save m) s fun t =>
    t.get GH_REFUSE.CODE = Rc.UP_NO_FLASH.num % 2 ^ 16 ∧ t.mem = s.mem := by
  refine answers_write_delivers (exec_save m s) hw fun t ht => ?_
  have refused : s.saveNow = (s.put UP_SAVE 0).refuseBy 0x11 Rc.UP_NO_FLASH s.hxAddr s.upId := by
    unfold State.saveNow
    rw [hf] <;> rfl
  rw [wrSetctl_save hs, refused] at ht
  refine ⟨(ht.get (by decide)).trans (State.refuseBy_code ..), ht.mem.trans (mem_ring_of_stored ?_).1⟩
  rw [State.refuseBy_stored, State.put_stored]

theorem save_unreadable (hf : s.get FLASH_OK = 1) (hr : s.setRecords = none) : Answers (.save m) s fun t =>
    t.get GH_REFUSE.CODE = Rc.UP_SETTINGS.num % 2 ^ 16 ∧ t.mem = s.mem := by
  refine answers_write_delivers (exec_save m s) hw fun t ht => ?_
  have refused : s.saveNow = (s.put UP_SAVE 0).refuseBy 0x11 Rc.UP_SETTINGS s.hxAddr s.upId := by
    unfold State.saveNow
    rw [hf, hr] <;> rfl
  rw [wrSetctl_save hs, refused] at ht
  refine ⟨(ht.get (by decide)).trans (State.refuseBy_code ..), ht.mem.trans (mem_ring_of_stored ?_).1⟩
  rw [State.refuseBy_stored, State.put_stored]

omit hw hs in
/-- The image that is saved does not depend on UP_SAVE. -/
theorem State.settingsSave_put (l : List (Nat × List Nat)) :
    ((s.put UP_SAVE 0).settingsSave l).mem = (s.settingsSave l).mem := by
  have same : s.SameFlash (s.put UP_SAVE 0) := ⟨rfl, State.get_put_ne _ _ (by decide), State.get_put_ne _ _ (by decide)⟩
  have bytes : (s.put UP_SAVE 0).setBytes = s.setBytes := by
    funext a n
    have loads : (s.put UP_SAVE 0).load .settings = s.load .settings :=
      funext fun a => State.load_put (f := UP_SAVE) (n := 1) (by decide) Nat.one_pos (fun hr => absurd hr (by decide)) a
    rw [State.setBytes, loads, State.setBytes]
  have used : (s.put UP_SAVE 0).setUsed = s.setUsed := by
    unfold State.setUsed State.setValid State.flashBytes
    rw [same.flashLE, same.load]
  have shown (u : State) (c : Nat) : ((u.put SET_COPY c).put GH_SETCTL.DIRTY 0).mem = u.mem := rfl
  unfold State.settingsSave
  dsimp only
  rw [shown, shown, State.flashPut_mem, State.flashPut_mem, bytes, used, same.flashLE]
  rfl

theorem save_writes (hf : s.get FLASH_OK = 1) {l : List (Nat × List Nat)} (hr : s.setRecords = some l) :
    Answers (.save m) s fun t => t.mem = (s.settingsSave l).mem ∧ t.get GH_SETCTL.DIRTY = 0 ∧ t.get UP_SAVE = 0 := by
  refine answers_write_delivers (exec_save m s) hw fun t ht => ?_
  have saved : s.saveNow = (s.put UP_SAVE 0).settingsSave l := by
    unfold State.saveNow
    rw [hf, hr] <;> rfl
  rw [wrSetctl_save hs, saved] at ht
  refine ⟨ht.mem.trans (State.settingsSave_put l), ?_, ?_⟩
  · rw [ht.get (by decide), State.settingsSave, State.get_put_self]
    rfl
  · rw [ht.get (by decide), State.settingsSave_get (by decide) (by decide), State.get_put_self]
    rfl

end Save

end Settings

/-- Settles O48: each clause by what its packet, timer or register does to the session or the settings. -/
theorem updatesAreConfirmedOrReverted : Obligations.UpdatesAreConfirmedOrReverted := by
  unfold Obligations.UpdatesAreConfirmedOrReverted
  intro s m
  refine ⟨fun ha n p t => ⟨fun hh => ⟨activate_other ha hh, activate_resets ha hh⟩, fun hh => ⟨confirm_other ha hh, ?_⟩,
      fun hh => ⟨revert_other ha hh, ?_⟩, fun hh => ⟨query_answers ha hh, query_other ha hh⟩,
      fun hh => ⟨answer_other ha hh, answer_decides ha hh⟩⟩,
    fun ha => ⟨confirmTExpiry_idle ha, confirmTExpiry_reverts ha, trialExpiry_idle ha, trialExpiry_reverts ha,
      queryTimer_idle ha, queryTimer_asks ha⟩,
    fun v hw => ⟨setdataAccess_writes hw, setdataAccess_locked hw⟩,
    fun hr => ⟨setdataAccess_read hr, setdataAccess_advances hr⟩,
    fun hw => ⟨save_refused hw, save_waits hw, save_absent hw, fun l ok hf hr => save_writes hw ok hf hr,
      save_unreadable hw⟩⟩
  · exact fun hi hc hs => ⟨confirm_leaves ha hi hc hs hh, confirm_ends ha hi hc hs hh⟩
  · exact fun hi hc hs hz hp ht hf => ⟨revert_resets ha hi hc hs hh hp ht hf hz, revert_stays ha hi hc hs hh hp ht hf⟩

end Sys2Proof.Machine
end
